-- ==== Sys2Proof/Word.lean ====
section
/-! DEFINITION. The words of the EM9: bytes, register words and the names of its units (R8, R15, R16). -/

namespace Sys2Proof

/-- One byte of memory or of a frame (R9). -/
abbrev Byte := BitVec 8

/-- A 32-bit code: an FP32 element, a flag word, a 32-bit register. -/
abbrev Word32 := BitVec 32

/-- The value of a register, object or parameter register; a narrower object sits in the low bytes (R359). -/
abbrev Word := BitVec 64

/-- A partition, which is cluster `p` with its channels (R16). -/
abbrev Part := Fin 16

/-- A core of the device, 16 × cluster + local core (R15). -/
abbrev Core := Fin 256

/-- A core's position within its cluster. -/
abbrev LocalCore := Fin 16

/-- One of a core's four engines (R15). -/
abbrev Eng := Fin 4

/-- A Dzigus port (R15). -/
abbrev Port := Fin 32

/-- A router of one die: 0 west, 1 east. -/
abbrev Die := Fin 2

/-- A job slot; slots 0 to 63 use the west router (R234). -/
abbrev JobSlot := Fin 128

/-- An HBM stack (R15). -/
abbrev Stack := Fin 12

/-- A PCIe function: 0 is the PF, v from 1 to 16 the VF of partition v - 1 (R354). -/
abbrev Func := Fin 17

/-- A parameter register of a core (R121). -/
abbrev Param := Fin 64

/-- A version-table index of a partition (R101). -/
abbrev Region := Fin 256

/-- A fabric address, tray in [23:8] and slot in [7:0] (R13). -/
abbrev FabAddr := BitVec 24

/-- An epoch of a fabric address (R220). -/
abbrev Epoch := BitVec 16

/-- A step tag or step number modulo 2^16 (R101, R219). -/
abbrev Tag := BitVec 16

end Sys2Proof
end

