-- ==== Sys2Proof/Operand.lean ====
section
/-! DEFINITION. The operand types of the commands: operand descriptors, packets, frames, images and the
observations that a command carries from outside the block (what a sensor read, whether a flit decoded). -/

namespace Sys2Proof

/-- The path by which a role reaches an object or a BAR2 table (R358, R361, R383). -/
inductive Via where
  /-- the physical function -/
  | pf
  /-- the virtual function that serves partition `p` -/
  | vf (p : Part)
  /-- Barzar on CAN FD, with the authority of the physical function -/
  | barzar
  deriving DecidableEq, Repr

/-- The configuration registers of a PCIe function that decide what the device sends (R355, R357, R366 to R369). -/
inductive CfgReg where
  /-- MSI-X Enable and Function Mask -/
  | msixEnable | msixMask
  /-- Bus Master Enable: clearing it is BUS_MASTER_DISABLE (R355) -/
  | busMaster
  | atsEnable
  | relaxedOrdering
  /-- 1 is the return from D3hot to D0, 0 the entry of D3hot (R357) -/
  | powerD0
  deriving DecidableEq, Repr

/-- What a register write addresses: an object, a dword of a command block (R361), a dword of a function's MSI-X
table, FUNC_REFUSE, the domain window's selectors or a configuration register. -/
inductive RegAddr where
  | obj (index : BitVec 16) (sub : Byte)
  | bar2 (p : Part) (off : Fin 65536)
  | msix (vector : Fin 144) (word : Fin 4)
  | funcRefuse
  | domainSelect
  | domainOffset
  | cfg (r : CfgReg)
  /-- byte `off` of BAR0 (0), BAR2 (1) or BAR4 (2), by a write that arrives poisoned (R363) -/
  | poisoned (bar : Fin 3) (off : Fin (2 ^ 40))
  deriving DecidableEq, Repr

/-- The element formats (R30). -/
inductive Format where
  | e4m3 | e5m2 | e2m1 | e8m0 | bf16 | fp16 | fp32 | fp64 | hazel8 | hazel16 | int8 | int32
  | mxfp8e4m3 | mxfp8e5m2 | mxfp4
  deriving DecidableEq, Repr

/-- The operand pairs of an engine product (R45). -/
inductive Pair where
  | fp8 | int8 | mxfp8 | mxfp4 | hazel8 | bf16 | fp16 | hazel16 | fp32 | fp64
  deriving DecidableEq, Repr

/-- The rounding modes (R37). -/
inductive Rounding where
  | rne | rtz | rup | rdn | sr
  deriving DecidableEq, Repr

/-- The overflow mode of a narrowing conversion (R41). -/
inductive Overflow where
  | sat | nonsat
  deriving DecidableEq, Repr

/-- The block axis an MX operand's descriptor names (R58). -/
inductive Axis where
  | k | n | row
  deriving DecidableEq, Repr

/-- The orientation of a block pass (R55). -/
inductive Orient where
  | row | col
  deriving DecidableEq, Repr

/-- An operand descriptor (R112): format, base, dimensions and the conversion fields. -/
structure Desc where
  fmt : Format
  imm : Word
  param : Option Param
  /-- `step_j` for loop level `j` -/
  steps : List (Fin 4 × Word)
  /-- size of dimension 0 in elements -/
  n0 : Nat
  /-- dimensions 1 to 3: size and signed byte stride -/
  dims : List (Nat × Int)
  scaleAddr : Nat
  axis : Axis
  /-- class G names an amax slot; `none` is class W (R43) -/
  amax : Option (Fin 32)
  /-- class tag (R98) -/
  tag : Fin 8
  round : Rounding
  ovf : Overflow
  /-- the operand is a stream channel of the launch: its data move in order through the ring (R117, R126) -/
  chan : Option Nat
  deriving DecidableEq, Repr

/-- A walnut region descriptor (R81), in entries. -/
structure WRegion where
  base : Nat
  len : Nat
  deriving DecidableEq, Repr

/-- The preload mode of a pass (R60). -/
inductive Preload where
  | zero
  | bias (d : Desc)
  | residual (d : Desc)
  | keep
  deriving DecidableEq, Repr

/-- A block pass (R55, R59, R60). -/
structure BlockPass where
  pair : Pair
  /-- FP8 and MXFP8: the streamed operand is E5M2 rather than E4M3 -/
  e5 : Bool
  orient : Orient
  /-- the shadow block becomes the active one before the pass (R68) -/
  swap : Bool
  bank : Fin 2
  startRow : Nat
  preload : Preload
  x : Desc
  deriving DecidableEq, Repr

/-- A stationary load (R56, R57): block rows and columns as the descriptor gives them. -/
structure BlockLoad where
  pair : Pair
  /-- FP8 and MXFP8: the block is E5M2 rather than E4M3 -/
  e5 : Bool
  w : Desc
  deriving DecidableEq, Repr

/-- A gradient pass (R75 to R77, R80). -/
structure GradPass where
  pair : Pair
  /-- FP8: the operand is E5M2 rather than E4M3 -/
  xe5 : Bool
  dye5 : Bool
  x : Desc
  dy : Desc
  region : WRegion
  /-- first entry of the walnut block, a multiple of 1,024 -/
  block : Nat
  deriving DecidableEq, Repr

/-- A bucket that a walnut drain delivers to (R84, R248). -/
structure BucketDest where
  slot : JobSlot
  step : Tag
  bucket : BitVec 16
  /-- byte offset of the drained region's first entry within the contribution -/
  offset : Nat
  deriving DecidableEq, Repr

/-- Where a bank drain sends its rows (R65). -/
inductive DrainDest where
  /-- scratchpad, or a stream channel when the descriptor names one -/
  | spad (d : Desc)
  | walnut (r : WRegion) (offset : Nat) (tag : Fin 8)
  | vector (vreg : Fin 32)
  deriving DecidableEq, Repr

/-- A bank drain: bank, rows, scale exponent and destination (R65, R79). -/
structure Drain where
  bank : Fin 2
  row : Nat
  rows : Nat
  scale : Int
  dest : DrainDest
  deriving DecidableEq, Repr

/-- Where a walnut drain sends a region (R84). -/
inductive WDrainDest where
  | bucket (b : BucketDest)
  | spad (d : Desc)
  | vector (vreg : Fin 32)
  deriving DecidableEq, Repr

/-- A walnut drain (R84, R85): `mask` is the scratchpad operand address of the keep mask. -/
structure WDrain where
  region : WRegion
  scale : Int
  mask : Option Nat
  tag : Fin 8
  dest : WDrainDest
  deriving DecidableEq, Repr

/-- The operations of the vector unit (R72). -/
inductive VecFn where
  | add | sub | mul | fma | min | max | select | cmpLt | cmpLe | cmpEq | cvt
  | div | sqrt | recip | rsqrt
  | exp | exp2 | log | log2
  | tanh | sigmoid | erf | gelu
  | draw16 | draw32 | draw64
  | add64 | mul64 | fma64
  deriving DecidableEq, Repr

/-- A source of a vector operation: a vector register, scratchpad through the load converter, or an
immediate that stands for every element (R72). -/
inductive VSrc where
  | reg (r : Fin 32)
  | mem (d : Desc)
  | imm (v : Word32)
  deriving DecidableEq, Repr

/-- A destination of a vector operation (R72). -/
inductive VDst where
  | reg (r : Fin 32)
  | mem (d : Desc)
  deriving DecidableEq, Repr

/-- One vector-unit instruction over `n` elements (R72, R37). -/
structure VecOp where
  fn : VecFn
  a : VSrc
  b : VSrc
  c : VSrc
  dst : VDst
  n : Nat
  round : Rounding
  deriving DecidableEq, Repr

/-- The reductions of a row (R73). -/
inductive RedOp where
  | sum | max | min
  deriving DecidableEq, Repr

/-- A row reduction of `n` elements (R73). -/
structure RowRed where
  op : RedOp
  src : VSrc
  dst : VDst
  n : Nat
  round : Rounding
  deriving DecidableEq, Repr

/-- The row operations with statistics (R88). -/
inductive NormKind where
  | softmax | layer | rms
  deriving DecidableEq, Repr

/-- A forward softmax, layer norm or RMS norm over one row (R73, R88). -/
structure NormFwd where
  kind : NormKind
  x : VSrc
  y : VDst
  n : Nat
  eps : Word32
  gain : VSrc
  /-- operand address of the 8-byte row statistics, when the compiler requests them -/
  stats : Option Nat
  deriving DecidableEq, Repr

/-- A softmax or norm backward over one row (R89, R90). -/
structure NormBwd where
  kind : NormKind
  x : VSrc
  dy : VSrc
  gain : VSrc
  dx : VDst
  n : Nat
  eps : Word32
  /-- where the forward's statistics lie; `none` selects the recompute mode (R90) -/
  stats : Option Nat
  deriving DecidableEq, Repr

/-- What a parameter register is written from (R121). -/
inductive ParamSrc where
  | imm (v : Word)
  | vreg (r : Fin 32)
  deriving DecidableEq, Repr

/-- What a program's register write goes to: a parameter register, or the count register of a loop level (R121, R124; log
entry 97). -/
inductive ParamDst where
  | param (k : Param)
  | cnt (level : Fin 4)
  deriving DecidableEq, Repr

/-- The source of a loop count (R124). -/
inductive LoopSrc where
  | imm (n : Nat)
  | param (k : Param)
  | cnt
  deriving DecidableEq, Repr

/-- A binding of a micro-batch's weight reads (R102). -/
inductive Binding where
  | step (n : Nat)
  | current
  deriving DecidableEq, Repr

/-- A channel of a partition's DMA engine (R157). -/
structure ChanId where
  part : Part
  eng : Fin 2
  ch : Fin 16
  deriving DecidableEq, Repr

/-- The counters of a DMA channel that a gate may name (R168). -/
inductive DmaCounter where
  | half | full | arrive
  deriving DecidableEq, Repr

/-- A value given by the image or by a parameter register. -/
inductive ImgVal where
  | imm (n : Nat)
  | param (k : Param)
  deriving DecidableEq, Repr

/-- A gate of a tile (R116). -/
inductive Gate where
  /-- the launch's start beat + an offset -/
  | beatOffset (n : Nat)
  /-- the beat held in a parameter register -/
  | beatParam (k : Param)
  | version (region : Region) (b : Binding)
  | dma (eng : Fin 2) (ch : Fin 16) (c : DmaCounter) (v : ImgVal)
  /-- operation form -/
  | collective (slot : JobSlot) (step : Tag) (bucket : BitVec 16) (horaStep : Option Nat)
  /-- bucket form, with the byte count of the gated drain (R468) -/
  | bucket (slot : JobSlot) (step : Tag) (bucket : BitVec 16) (q : Nat)
  | streamIn (channel : Nat) (q : Nat)
  | streamOut (channel : Nat) (q : Nat)
  deriving DecidableEq, Repr

/-- A loop whose body lies within one tile (R125). -/
structure InnerLoop where
  level : Fin 4
  limit : Nat
  deriving DecidableEq, Repr

/-- A tile of a core's stream as the image describes it (R116, R118, R322). -/
structure Tile where
  gates : List Gate
  atomic : Bool
  checkable : Bool
  inner : List InnerLoop
  deriving DecidableEq, Repr

/-- One item of a core's stream: a tile, or the entry or end of a loop of whole tiles (R124, R125). -/
inductive StreamItem where
  | tile (t : Tile)
  | loopEnter (level : Fin 4) (src : LoopSrc)
  | loopEnd (level : Fin 4)
  deriving DecidableEq, Repr

/-- A stream channel of an image: group-local producer and consumer cores, depth in bytes and the
group-local scratchpad address of the buffer (R108 check 5, R126). -/
structure ChannelDesc where
  prod : Nat
  cons : Nat
  depth : Nat
  base : Nat
  deriving DecidableEq, Repr

/-- What a program image says (R106, R108); its binary encoding is not published (R4). `streams` pairs a
group-local core number with that core's stream. -/
structure Image where
  headerOk : Bool
  streams : List (Nat × List StreamItem)
  channels : List ChannelDesc
  deriving DecidableEq, Repr

/-- A packet header and payload (R219). -/
structure Packet where
  dest : FabAddr
  src : FabAddr
  srcEpoch : Epoch
  jobId : BitVec 12
  type : BitVec 4
  ctxId : BitVec 8
  bucket : BitVec 16
  step : Tag
  length : Nat
  vc : Fin 4
  hops : Fin 16
  age : Word32
  target : Nat
  seq : BitVec 16
  payload : List Byte
  /-- the dateline class in which it travels (R213); no header field -/
  cls : Fin 2
  deriving DecidableEq, Repr

/-- A LINK word (R208), without the body. -/
structure LinkWord where
  flitType : BitVec 3
  bodyVc : Fin 4
  bodyClass : Fin 2
  creditVc : Fin 4
  creditClass : Fin 2
  creditCount : Nat
  ack : Nat
  deriving DecidableEq, Repr

/-- A wire flit as the port's receiver sees it (R208, R211). `seq` is its place in the sender's implicit numbering. -/
structure FlitRx where
  seq : Nat
  /-- byte errors on the lanes in the codeword of the even and of the odd bytes -/
  evenErrors : Nat
  oddErrors : Nat
  /-- the fields of the flit as FEC leaves them; a NAK names the next flit its sender expects as its ACK -/
  body : List Byte
  link : LinkWord
  crc : Nat
  /-- for CONTROL flits: the partner asks this port to drain (R206) -/
  drain : Bool
  deriving DecidableEq, Repr

/-- A master announcement carried by a TEMPO flit (R226). -/
structure MasterAnn where
  prio : BitVec 8
  addr : FabAddr
  serial : Word
  hops : Nat
  deriving DecidableEq, Repr

/-- A TEMPO exchange as the port sees it (R226): the partner's send time, the partner's receive time of
our last TEMPO flit, and our local send and receive times. -/
structure TempoRx where
  sendTime : Nat
  partnerRx : Nat
  localTx : Nat
  localRx : Nat
  ann : Option MasterAnn
  deriving DecidableEq, Repr

/-- What the partner sends in CHECK (R205, R222). -/
structure CheckInfo where
  addr : FabAddr
  port : Port
  role : Fin 3
  epochs : List (FabAddr × Epoch)
  delayNs : Nat
  deriving DecidableEq, Repr

/-- The causes of a FAILED port (R233). -/
inductive LinkFail where
  | lockLoss | replay | errorRate
  deriving DecidableEq, Repr

/-- Who starts a collective (R242): a program on a core, or the driver through SLOT_START. -/
inductive CollBy where
  | program (c : Core)
  | driver (v : Via)
  deriving DecidableEq, Repr

/-- The outcome of the Shell decodes of the granules that a command reads (R146 to R148). `granule` counts 16 B granules
from the start of what the command reads: an operation's, from the start of its core's scratchpad or walnut buffer. -/
inductive ShellOutcome where
  | clean
  /-- a stored granule is corrected; `rewritten`: a write has reached it since, so its write-back is dropped -/
  | corrected (symbol : Fin 36) (granule : Nat) (rewritten : Bool)
  | uncorrectable (granule : Nat)
  /-- a granule in flight on an on-die datapath: a converter, drain, vector unit, AES engine, stream channel or bridge -/
  | pathCorrected (symbol : Fin 36) (granule : Nat)
  /-- the same, uncorrectable, or a mismatch of a block's duplicate check of its own output -/
  | pathUncorrectable (granule : Nat)
  deriving DecidableEq, Repr

/-- Whether an outcome ends the read. -/
def ShellOutcome.bad : ShellOutcome → Bool
  | .uncorrectable _ | .pathUncorrectable _ => true
  | .clean | .corrected _ _ _ | .pathCorrected _ _ => false

/-- Whether an outcome concerns a granule in flight. -/
def ShellOutcome.inFlight : ShellOutcome → Bool
  | .pathCorrected _ _ | .pathUncorrectable _ => true
  | .clean | .corrected _ _ _ | .uncorrectable _ => false

/-- A granule in flight as a port's check finds it (R147, R209). -/
def ShellOutcome.onPath : ShellOutcome → ShellOutcome
  | .clean => .clean
  | .corrected sym g _ => .pathCorrected sym g
  | .uncorrectable g => .pathUncorrectable g
  | .pathCorrected sym g => .pathCorrected sym g
  | .pathUncorrectable g => .pathUncorrectable g

/-- The outcome of a read of one granule (R149). -/
def ShellOutcome.first : ShellOutcome → ShellOutcome
  | .clean => .clean
  | .corrected sym _ w => .corrected sym 0 w
  | .uncorrectable _ => .uncorrectable 0
  | .pathCorrected sym _ => .pathCorrected sym 0
  | .pathUncorrectable _ => .pathUncorrectable 0

/-- The reader of a granule, as the memory error log codes it (R153). -/
inductive EccSource where
  | spadRead | walnutRead | hbmRead | hbmPatrol | spadPatrol | datapath
  deriving DecidableEq, Repr

/-- What ended a HOST request of a DMA burst (R368, R369). -/
inductive HostEnd where
  | ok | poisoned | errorStatus | atsRefused
  deriving DecidableEq, Repr

/-- What a grant of a DMA engine issues (R165, R169): a read ahead of the channel's writes, the oldest write that is staged,
or both. -/
inductive BurstMode where
  | both | read | write
  deriving DecidableEq, Repr

/-- What a DMA burst meets outside the engine: the bytes host memory returns and how its requests end,
the Shell outcome of its source granules and that of the granules its writes merge with (R136, R148, R368). -/
structure BurstEnv where
  mode : BurstMode
  hostData : List Byte
  host : HostEnd
  shell : ShellOutcome
  merge : ShellOutcome
  deriving DecidableEq, Repr

/-- A peer's answer to peer writes (R166, R167): performed, or refused. -/
inductive PeerAnswer where
  | performed | refused
  deriving DecidableEq, Repr

/-- The speeds a PCIe link may train to (R352). -/
inductive PcieSpeed where
  | gt2 | gt5 | gt8 | gt16 | gt32 | gt64
  deriving DecidableEq, Repr

/-- The widths a PCIe link may train to (R352). -/
inductive PcieWidth where
  | x1 | x2 | x4 | x8 | x16
  deriving DecidableEq, Repr

/-- A PCIe link as it has trained (R353). -/
structure PcieLink where
  speed : PcieSpeed
  width : PcieWidth
  deriving DecidableEq, Repr

/-- What a bring-up observes of the pins, the flash, the stacks and the partitions (R445). -/
structure BringupObs where
  /-- CFG_STRAP[11:0] as the pins read at reset release (R397) -/
  straps : BitVec 12
  /-- the active and the other flash bank's image pass R430 -/
  activePasses : Bool
  otherPasses : Bool
  /-- stacks that trained (R445 step 4a) -/
  stacksOk : BitVec 12
  /-- partitions whose CHECK passed (R445 step 5) -/
  checkOk : BitVec 16
  /-- a step of R445 that failed under R447: 0 none -/
  failedStep : Fin 6
  /-- what the PCIe link trains to -/
  link : PcieLink
  deriving DecidableEq, Repr

/-- A Barzar request frame (R375). -/
structure CanRequest where
  node : BitVec 7
  cmd : Byte
  tag : Byte
  index : BitVec 16
  sub : Byte
  size : Byte
  /-- bytes 8 to 15 -/
  value : Word
  /-- bytes 16 to 63 -/
  data : List Byte
  deriving DecidableEq, Repr

/-- Why the EM9 ignores a received frame (R371, R373, R374). -/
inductive IgnoredFrame where
  | extended | remote | function | classical
  deriving DecidableEq, Repr

/-- A CAN bus error that the node sees (R371). -/
inductive CanError where
  /-- a transmit error, or a receive error, with the amounts the standard adds -/
  | tx (n : Nat)
  | rx (n : Nat)
  /-- a frame sent or received well -/
  | txOk
  | rxOk
  deriving DecidableEq, Repr

/-- What the RSA checks of R430 find of an image: the hash of its key modulus, and its signature. -/
structure ImageCheck where
  keyOk : Bool
  sigOk : Bool
  deriving DecidableEq, Repr

/-- Sensor readings of the power loop (R410), in milliwatts, milliamperes and millivolts. -/
structure PowerSample where
  powerMw : Nat
  currentMa : Nat
  voltMv : Nat
  /-- input power averaged over 1 ms -/
  avgMw : Nat
  /-- both limits have held with a margin of 3 % for 100 µs -/
  marginHeld : Bool
  /-- the input has stayed above 38 V for 1 ms -/
  above38 : Bool
  deriving DecidableEq, Repr

/-- What a domain waits for when it is woken (R416). -/
inductive WakeTarget where
  | cluster (p : Part)
  | channel (n : Fin 384)
  | group (p : Part)
  deriving DecidableEq, Repr

/-- What a thermal throttle tick reads (R411, R421). -/
inductive ThermalSensor where
  | cluster (p : Part) (milliC : Int)
  | stack (s : Stack) (milliC : Int)
  | regulator (milliC : Int)
  | die (milliC : Int)
  /-- the hottest sensor of the retention domain (R419) -/
  | retention (milliC : Int)
  deriving DecidableEq, Repr

/-- The element of a hang that an arbiter watchdog names (R334). -/
inductive ArbiterOwner where
  | part (p : Part) (lc : Option LocalCore)
  | shared
  deriving DecidableEq, Repr

/-- What a scan watchdog finds stuck (R333). -/
inductive ScanStuck where
  | slot (n : Fin 256)
  | swap (ctx : Fin 16)
  deriving DecidableEq, Repr

/-- The observation at the end of a self-test (R348, R350). -/
structure BistObs where
  failCores : BitVec 16
  hbmFail : Bool
  memFail : Bool
  engFail : Bool
  deriving DecidableEq, Repr

/-- What remains of a partition reset when it ends (R339, R341). -/
structure ResetObs where
  checkOk : Bool
  /-- granules that did not answer: local core and access bank (R341) -/
  deadBanks : List (LocalCore × Fin 64)
  deriving DecidableEq, Repr

end Sys2Proof
end

