-- ==== Sys2Proof/Syntax.lean ====
section
/-! DEFINITION. The commands of the EM9, one constructor per row of the table of operations and events
(opcode_table.json), in the table's order. A command carries the operands its rule names and, for an event that
something outside the block brings about, what the block observes of it. -/

namespace Sys2Proof

/-- The commands of the block: accesses by a role, operations of a program, packets and flits that arrive, and
events of time, power and the environment. -/
inductive Instr where
  /-- A write to an object or register that has no behaviour of its own sets its value, or is refused under
  R11/R12 (R381). -/
  | registerWrite (via : Via) (reg : RegAddr) (size : Nat) (value : Word)
  /-- An engine loads a stationary block into its shadow registers through the 128 B/cycle load port (R56). -/
  | stationaryLoad (c : Core) (e : Eng) (op : BlockLoad) (shell : ShellOutcome)
  /-- An engine streams rows through its stationary block in ROW or COL orientation into an accumulator bank, with
  the preload mode the pass names (R55). -/
  | blockPass (c : Core) (e : Eng) (op : BlockPass) (shell : ShellOutcome)
  /-- An engine takes pairs of x and dy rows and accumulates their outer products into a walnut block in chunks of
  64 rows (R75). -/
  | gradientPass (c : Core) (e : Eng) (op : GradPass) (inWalnut : Bool) (shell : ShellOutcome)
  /-- A drain reads an accumulator bank row by row, scales and converts it, and sends it to scratchpad, walnut
  buffer, stream channel or vector unit, leaving the bank empty (R65). -/
  | bankDrain (c : Core) (e : Eng) (op : Drain) (shell : ShellOutcome)
  /-- A walnut drain reads a region with scale and keep mask, sends it to a bucket, scratchpad or the vector unit,
  zeroes it and makes it EMPTY (R84). -/
  | walnutDrain (c : Core) (op : WDrain) (shell : ShellOutcome)
  /-- A discard returns an OPEN walnut region to EMPTY without output (R81). -/
  | walnutDiscard (c : Core) (r : WRegion)
  /-- The vector unit performs one elementwise, conversion or Poppy-draw instruction across its lanes with the
  selected rounding (R72). -/
  | vectorOperation (c : Core) (op : VecOp) (shell : ShellOutcome)
  /-- The vector unit reduces a row by sum, max or min through the fixed binary tree (R73). -/
  | rowReduction (c : Core) (op : RowRed) (shell : ShellOutcome)
  /-- A forward softmax, layer norm or RMS norm runs over a row and may write its row statistics (R88). -/
  | rowNormalisation (c : Core) (op : NormFwd) (shell : ShellOutcome)
  /-- The native or recompute backward of softmax or a norm runs the fixed FP32 sequence over a row (R89). -/
  | normBackward (c : Core) (op : NormBwd) (shell : ShellOutcome)
  /-- The vector unit adds lane values by RNE into walnut entries, opening the region if EMPTY (R82). -/
  | walnutVectorAdd (c : Core) (r : WRegion) (offset : Nat) (vreg : Fin 32) (n : Nat) (shell : ShellOutcome)
  /-- A program writes a parameter register from an immediate or element 0 of a vector register (R121). -/
  | paramWrite (c : Core) (dst : ParamDst) (src : ParamSrc)
  /-- A program clears an amax slot by writing +0 to it (R43). -/
  | amaxSlotClear (c : Core) (slot : Fin 32)
  /-- A program reads an amax slot after the class G transfers it depends on (R44). -/
  | amaxSlotRead (c : Core) (slot : Fin 32) (dst : Fin 32)
  /-- A program clears flags in its core's flag word (R50). -/
  | flagClear (c : Core) (mask : Word32)
  /-- A core enters a hardware loop level, latching its count, skipping a zero count or failing with loop limit
  (R124). -/
  | loopEnter (c : Core) (level : Fin 4) (src : LoopSrc)
  /-- The end of a loop body increments ITER and either repeats the body or leaves the loop (R124). -/
  | loopEnd (c : Core) (level : Fin 4)
  /-- A core issues its next tile once all its gates are satisfied at once, reserving the stream data and credits
  they name (R116). -/
  | tileIssue (c : Core)
  /-- A tile completes when all its writes and drains are performed, returning unused reservations and counting
  overlong tiles (R115). -/
  | tileComplete (c : Core) (cycles : Nat)
  /-- The Abatas step-begin operation names step, micro-batch count and fence beat, arms the fence, may write the
  reduction deadline and may reseed Poppy generators (R103). -/
  | stepBegin (c : Core) (step : Nat) (mbs : Nat) (fenceBeat : Nat) (deadline : Option (JobSlot × Nat)) (reseed : Bool)
  /-- A micro-batch is admitted and binds its regions by BIND_STEP or BIND_CURRENT, raising bind counts, or waits
  (R102). -/
  | microBatchAdmit (p : Part) (mb : Nat) (regions : List Region) (b : Binding) (trains : Nat) (acorns : List (Fin 32))
  /-- A micro-batch retires its backward pass, lowering bind counts and freeing RETIRING slots that reach zero
  (R102). -/
  | microBatchRetire (p : Part) (mb : Nat)
  /-- An optimizer write of a step's update makes the non-COMMITTED slot PENDING, waits on a RETIRING slot, or
  fails on a held slot (R102). -/
  | optimizerWrite (c : Core) (r : Region)
  /-- The optimizer program marks a region's PENDING slot written for the armed step (R103). -/
  | regionMarkWritten (c : Core) (r : Region)
  /-- Once all micro-batches retired, all regions marked written and the fence beat reached, the version table
  commits atomically (R103). -/
  | stepFenceCommit (p : Part)
  /-- A fence abort frees step-PENDING slots, discards OPEN walnut regions and keeps COMMITTED slots (R104). -/
  | fenceAbort (via : Via) (p : Part) (value : Word)
  /-- A loss value submitted by a program or via the object updates the loss monitor or raises a spike or non-
  finite event (R99). -/
  | lossSubmit (via : Option Via) (p : Part) (loss : Word32)
  /-- Bits written as 1 clear the matching flags in every core of the partition (R52). -/
  | arithFlagsClear (via : Via) (p : Part) (value : Word)
  /-- Sets the partition's engine counters to zero (R74). -/
  | engCounterClear (via : Via) (p : Part) (value : Word)
  /-- Sets WALNUT_WAIT_CYCLES to zero (R87). -/
  | walnutCounterClear (via : Via) (p : Part) (value : Word)
  /-- Sets the NaN and infinity counters of the selected classes to zero (R100). -/
  | nonfiniteClear (via : Via) (p : Part) (value : Word)
  /-- Captures a snapshot of one core's idle counters, or of their partition sum (R132). -/
  | idleCoreSelect (via : Via) (p : Part) (value : Word)
  /-- Sets the live idle counters of every core of the partition to zero (R132). -/
  | idleCounterClear (via : Via) (p : Part) (value : Word)
  /-- Writing VALIDATING to a FREE program-table entry with address and length starts image validation (R107). -/
  | programRegister (via : Via) (p : Part) (n : Fin 1024) (address : Nat) (lengthKiB : Nat)
  /-- Image checks finish and the entry becomes READY, or REFUSED with the first failed check code (R108). -/
  | imageValidationDone (p : Part) (n : Fin 1024) (img : Image)
  /-- Writing FREE releases a program entry at once, or marks it releasing until its running launches complete
  (R107). -/
  | programRelease (via : Via) (p : Part) (n : Fin 1024)
  /-- ARM moves an EMPTY or DONE launch slot to ARMED, fixing its core set, or is refused (R187). -/
  | slotArm (via : Via) (p : Part) (n : Fin 256)
  /-- ABORT empties an ARMED slot without record, or ends a RUNNING launch with status aborted (R187). -/
  | slotAbort (via : Via) (p : Part) (n : Fin 256)
  /-- A due slot whose context is RESIDENT and cores are free starts, or completes at once with program invalid
  (R189). -/
  | launchSlotStart (p : Part) (n : Fin 256)
  /-- When every core finishes or the launch ends, the completion record is written with SEQ, deadline misses
  counted and MSI-X raised (R128). -/
  | launchComplete (p : Part) (n : Fin 256)
  /-- CREATE moves a FREE context entry to SWAPPED after checking mask, save area and ranges (R178). -/
  | contextCreate (via : Via) (p : Part) (i : Fin 16)
  /-- EVICT requests eviction of a RESIDENT context at its cores' next tile boundaries, ending its slice (R183).
  -/
  | contextEvict (via : Via) (p : Part) (i : Fin 16)
  /-- TEARDOWN retires the identifier, ends launches and DMA, stops delivery, aborts buckets and sends quiet
  requests (R196). -/
  | contextTeardown (via : Via) (p : Part) (i : Fin 16)
  /-- The swapper picks the best runnable context and evicts blocked, expired or lower-priority contexts in its
  way (R183). -/
  | swapperEvaluate (p : Part)
  /-- An eviction finishes saving cores' state, walnut regions and scratchpad range, and the context becomes
  SWAPPED (R181). -/
  | contextEvictDone (p : Part) (i : Fin 16) (lost : List Nat)
  /-- A restore finishes and the context becomes RESIDENT, starting its slice (R182). -/
  | contextRestoreDone (p : Part) (i : Fin 16)
  /-- Scratchpad deliveries held for a non-resident holder context are written in offset order once it is RESIDENT
  (R238). -/
  | heldDeliveryFlush (slot : JobSlot)
  /-- A time slice expires; the context is pre-empted if a runnable context needs its cores, else a new slice
  begins, charging atomic overrun (R185). -/
  | sliceExpiry (p : Part) (i : Fin 16)
  /-- A peer receiving a quiet request stops injecting for the job and context and acknowledges once its packets
  are acknowledged (R196). -/
  | quietReq (pkt : Packet)
  /-- A quiet acknowledgement with a current epoch decrements QUIET_PENDING (R196). -/
  | quietAck (pkt : Packet)
  /-- Teardown completes on quiet, resetting in-core state, zeroing the range and making the context RETIRED
  (R197). -/
  | teardownComplete (p : Part) (i : Fin 16)
  /-- TEARDOWN_DL beats after the write, teardown completes with TIMED_OUT set (R197). -/
  | teardownDeadline (p : Part) (i : Fin 16)
  /-- After RETIRE_HOLD beats a RETIRED context entry becomes FREE (R198). -/
  | retireHoldExpiry (p : Part) (i : Fin 16)
  /-- Writing GROUP_LEAD joins a partition to a group or makes it leave, or is refused (R174). -/
  | groupLeadWrite (via : Via) (p : Part) (value : Word)
  /-- Sets the partition's scheduling counters to zero (R199). -/
  | schedCounterClear (via : Via) (p : Part) (value : Word)
  /-- A program's DMA start loads and arms a program-owned channel's shadow, or ends its tile with operand layout
  (R160). -/
  | dmaStart (c : Core) (eng : Fin 2) (ch : Fin 16) (desc : BitVec 512) (srcP dstP lenP rowsP : Option Param)
  /-- CONTROL.ARM arms a driver-owned channel's shadow descriptor, or is refused (R160). -/
  | dmaArm (via : Via) (ch : ChanId)
  /-- An armed shadow is promoted to the active set when the channel is free, taking its age, and its extents are
  checked (R161). -/
  | dmaPromotion (ch : ChanId)
  /-- The engine grants one channel and issues a burst of up to 4 KiB, reaching half and full points (R169). -/
  | dmaBurst (part : Part) (eng : Fin 2) (env : BurstEnv)
  /-- CONTROL.FENCE or a program fence operation issues an arrival fence on the channel (R166). -/
  | dmaFence (via : Option Via) (ch : ChanId)
  /-- Every covered write is performed; ARRIVE_COUNT rises in issue order (R166). -/
  | arrivalFenceComplete (ch : ChanId) (host : HostEnd)
  /-- A fence not completed after DMA_ARRIVE_TIMEOUT beats completes with ARRIVAL_TIMEOUT and halts the channel
  (R167). -/
  | arrivalTimeout (ch : ChanId)
  /-- STOP issues no further read, writes staged bytes and ends the transfer with STOPPED (R171). -/
  | dmaStop (via : Via) (ch : ChanId)
  /-- RESUME in HALTED starts the held shadow or returns the channel to IDLE (R158). -/
  | dmaResume (via : Via) (ch : ChanId)
  /-- CLEAR in HALTED discards the shadow and goes to IDLE (R159). -/
  | dmaClear (via : Via) (ch : ChanId)
  /-- Sets the partition's DMA counters to zero (R173). -/
  | dmaCounterClear (via : Via) (p : Part) (value : Word)
  /-- An incoming PEER_WRITE is performed in a partition holding the job, or dropped and refused (R167). -/
  | peerWrite (pkt : Packet) (shell : ShellOutcome)
  /-- An acknowledgement or refusal of peer writes advances or fails the covering arrival fence (R166). -/
  | peerAck (ch : ChanId) (pkt : Packet) (answer : PeerAnswer)
  /-- Writing a core's retention mask selects banks, refused if the device total would exceed 1,024 (R138). -/
  | retainMaskWrite (via : Via) (p : Part) (value : Word)
  /-- Writing TANGO_RESERVE resizes the partition's reserve when allowed, emptying every bank and re-pairing
  (R141). -/
  | tangoReserveWrite (via : Via) (p : Part) (value : Word)
  /-- Patrol scrub reads a granule at lowest priority and handles its Shell outcome (R149). -/
  | patrolScrubRead (hbm : Bool) (o : ShellOutcome)
  /-- Empties the memory error log and sets ECC_LOG_LOST to zero (R153). -/
  | eccLogClear (via : Via) (value : Word)
  /-- Sets the partition's memory error counters to zero (R156). -/
  | memCounterClear (via : Via) (p : Part) (value : Word)
  /-- RETRAIN moves a FAILED or DISABLED port to DETECT, refused while its role is DISABLED (R204). -/
  | portRetrain (via : Via) (n : Port)
  /-- DISABLE powers the port down to DISABLED (R204). -/
  | portDisable (via : Via) (n : Port)
  /-- A recalibration request removes the port from routing and drains it, or is refused (R206). -/
  | portRecal (via : Via) (n : Port) (force : Bool)
  /-- The adaptation monitor requests recalibration on high BER or pinned taps, repeating once a second while
  refused (R206). -/
  | adaptationMonitorRequest (n : Port) (ber : Word32) (pinned : Bool)
  /-- Writing PORT_ROLE changes a port's role only while DISABLED, FAILED or drained (R204). -/
  | portRoleWrite (via : Via) (n : Port) (value : Word)
  /-- A signal on all four lanes moves a DETECT port to TRAIN (R204). -/
  | signalDetect (n : Port)
  /-- Equaliser training succeeds into CHECK, or fails after three attempts (R203). -/
  | trainDone (n : Port) (ok : Bool)
  /-- The port exchanges address, role, delay and epoch table, entering ACTIVE or FAILED on role mismatch (R205).
  -/
  | checkExchange (n : Port) (info : CheckInfo)
  /-- A DRAINING port with no queued flit and all credits back, or after 100 µs, enters RECAL (R204). -/
  | drainDone (n : Port) (after100us : Bool)
  /-- Recalibration succeeds into CHECK, or fails after three attempts (R204). -/
  | recalDone (n : Port) (ok : Bool)
  /-- Lock loss, eight failed replays or excess error rate makes the port FAILED and unusable at once (R207). -/
  | fatalLinkFailure (n : Port) (cause : LinkFail)
  /-- A wire flit is decoded, CRC-checked and accepted in sequence, returning credits and ACK, or a NAK is sent
  (R211). -/
  | flitReceive (n : Port) (f : FlitRx)
  /-- A NAK makes the sender replay from the named flit (R211). -/
  | nak (n : Port) (next : Nat)
  /-- A router checks a packet's epoch and hops, chooses a usable candidate or the internal port, or drops it
  (R216). -/
  | packetRoute (die : Die) (inPort : Option Port) (pkt : Packet) (shells : List ShellOutcome)
  /-- A received epoch announcement raises or creates the entry and is forwarded under the hop limit (R223). -/
  | epochAnnounce (inPort : Port) (addr : FabAddr) (epoch : Epoch) (hops : Fin 16) (src : FabAddr) (srcEpoch : Epoch)
  /-- Writing FABRIC_EPOCH with a newer epoch raises the table entry and sends an announcement, or is refused
  (R232). -/
  | fabricEpochWrite (via : Via) (value : Word)
  /-- EPOCH_WRITE raises or creates an entry for an address and announces it (R232). -/
  | epochWrite (via : Via) (value : Word)
  /-- Writing a beat arms a routing bank exchange, takes effect at once if past, or disarms with 0 (R218). -/
  | routeCommitBeatWrite (via : Via) (value : Word)
  /-- At the commit beat the ACTIVE and SHADOW banks exchange atomically in both routers and the copy starts
  (R218). -/
  | routeBankExchange
  /-- The ACTIVE bank copy into SHADOW finishes and COPYING clears (R218). -/
  | routeCopyDone
  /-- Sets the fabric drop, epoch and Beat counters to zero (R232). -/
  | fabricCounterClear (via : Via) (value : Word)
  /-- Sets a port's error and traffic counters to zero (R233). -/
  | portCounterClear (via : Via) (n : Port) (value : Word)
  /-- Every 16 beats each ACTIVE port sends a TEMPO flit with timestamps and master announcement (R226). -/
  | tempoSend (n : Port)
  /-- A TEMPO flit updates link delay, master choice and Beat offset, stepping, holding, slewing or counting a
  conflict (R226). -/
  | tempoReceive (n : Port) (t : TempoRx)
  /-- A master announcement not refreshed for 128 beats is forgotten and the best remaining candidate becomes
  master (R228). -/
  | masterAnnouncementTimeout (addr : FabAddr) (serial : Word)
  /-- With no TEMPO flit from the source for 64 beats and no other path, the device enters HOLDOVER (R230). -/
  | holdoverEntry
  /-- A TIME_PPS rising edge at the master disciplines its Beat by slewing, or is ignored (R462). -/
  | timePpsEdge
  /-- Writing a job identifier to a job slot moves it from UNASSIGNED to IDLE, refused if already held (R234). -/
  | jobSlotAssign (via : Via) (s : JobSlot) (value : Word)
  /-- ENABLE moves a job slot to ACTIVE after checking rank, deadlines, store and staging, reserving store (R236).
  -/
  | slotEnable (via : Via) (s : JobSlot)
  /-- RELEASE aborts the slot's open contexts locally and moves it to RELEASING (R269). -/
  | slotRelease (via : Via) (s : JobSlot)
  /-- Within 10 µs the releasing slot becomes UNASSIGNED and its store is freed (R269). -/
  | slotReleaseDone (s : JobSlot)
  /-- A collective descriptor with OP ALL_REDUCE starts this device's contribution to a bucket's tree reduction
  (R248). -/
  | allReduce (by_ : CollBy) (addr : Nat)
  /-- A collective descriptor with OP BROADCAST sends the root's data down the rotated tree (R257). -/
  | broadcast (by_ : CollBy) (addr : Nat)
  /-- A collective descriptor with OP ALL_GATHER sends this rank's extent around the ring (R258). -/
  | allGather (by_ : CollBy) (addr : Nat)
  /-- A collective descriptor with OP REEL writes the journal, makes free slots PENDING and sends the move list
  (R262). -/
  | reel (by_ : CollBy) (addr : Nat)
  /-- A collective descriptor with OP HORA starts the ring passing of blocks for sequence-sharded attention
  (R265). -/
  | hora (by_ : CollBy) (addr : Nat)
  /-- A staged contribution is complete and scanned, and its OPEN is sent, sent empty, or carried (R248). -/
  | stagingComplete (s : JobSlot) (step : Tag) (bucket : BitVec 16)
  /-- A collective data segment is taken by its slot and consumed by a node, delivered, forwarded or dropped as
  late (R245). -/
  | collDataSegment (pkt : Packet)
  /-- An OPEN control packet marks a child present and gives its count and length (R241). -/
  | openPacket (pkt : Packet)
  /-- A WINDOW control packet returns consumed-segment credit to a sender (R247). -/
  | windowPacket (pkt : Packet)
  /-- An EXCLUDED notice is forwarded down the span and makes a contributor drop or carry its contribution (R255).
  -/
  | excludedPacket (pkt : Packet)
  /-- An ABORT is forwarded on, ends the bucket context ABORTED and ends the holder's step (R252). -/
  | abortPacket (pkt : Packet)
  /-- A RESULT control packet begins the result stream, delivered and forwarded down the tree (R246). -/
  | resultPacket (pkt : Packet)
  /-- A HORA_FREE lets the rank send the next block into its successor's freed buffer (R266). -/
  | horaFree (pkt : Packet)
  /-- The program releases a Hora buffer at the end of a step, sending HORA_FREE or forwarding a backward block
  (R266). -/
  | horaBufferRelease (c : Core) (s : JobSlot) (step : Tag) (bucket : BitVec 16)
  /-- At a level's soft deadline a bounded-loss node excludes children not present (R254). -/
  | softDeadline (s : JobSlot) (step : Tag) (bucket : BitVec 16) (level : Nat)
  /-- At H a root still OPEN sends ABORT down the tree (R251). -/
  | hardDeadline (s : JobSlot) (step : Tag) (bucket : BitVec 16)
  /-- At H + HARD_AFTER a context still OPEN or UP_DONE with no ABORT heard ends ORPHANED (R251). -/
  | orphanDeadline (s : JobSlot) (step : Tag) (bucket : BitVec 16)
  /-- The last result byte is performed; the context becomes DONE and its status record is written (R250). -/
  | bucketDone (s : JobSlot) (step : Tag) (bucket : BitVec 16)
  /-- A broadcast, all-gather or Hora missing bytes at DEADLINE ends TIMED_OUT (R259). -/
  | collectiveDeadline (s : JobSlot) (step : Tag) (bucket : BitVec 16)
  /-- Every RECEIVE byte of a Reel is performed and the device sets READY (R262). -/
  | reelReady (s : JobSlot)
  /-- At the commit beat every READY device contributes 1.0 to the exact-mode vote (R263). -/
  | reelVote (s : JobSlot)
  /-- Sets COLL_DROPS to zero (R270). -/
  | collCounterClear (via : Via) (value : Word)
  /-- Sets a job slot's bucket and drop counters to zero (R271). -/
  | slotCounterClear (via : Via) (s : JobSlot) (value : Word)
  /-- DEFINE makes a version-table entry VALID with both slots FREE (R285). -/
  | define (via : Via) (p : Part)
  /-- DEFINE_SINGLE makes an entry VALID with slot 0 COMMITTED under TAG (R285). -/
  | defineSingle (via : Via) (p : Part) (tag : Tag)
  /-- INSTALL makes a slot COMMITTED under TAG without a digest check (R285). -/
  | install (via : Via) (p : Part) (slot : Fin 2) (tag : Tag)
  /-- CLEAR makes a version-table entry not VALID (R285). -/
  | clear (via : Via) (p : Part)
  /-- START reads and checks the manifest, makes free slots PENDING or waits in WAIT_SLOT, then loads (R289). -/
  | loadStart (via : Via) (p : Part) (shell : ShellOutcome)
  /-- COMMIT makes every PENDING slot COMMITTED with the manifest tag and retires the superseded ones (R295). -/
  | loadCommit (via : Via) (p : Part)
  /-- CANCEL drops requests, frees PENDING slots and makes the loader CANCELLED (R296). -/
  | loadCancel (via : Via) (p : Part)
  /-- RETRY re-reads holders of FAILED shards, resets their counts and resumes fetching (R293). -/
  | loadRetry (via : Via) (p : Part) (shell : ShellOutcome)
  /-- At EXPECT_BEAT the EXPECT shards go to VERIFYING (R289). -/
  | expectBeat (p : Part)
  /-- A digest unit finishes a shard, marking it VERIFIED or failing the attempt (R291). -/
  | digestDone (p : Part) (shard : Nat) (o : ShellOutcome)
  /-- No OK notice within the shard deadline fails the attempt (R292). -/
  | fetchDeadline (p : Part) (shard : Nat)
  /-- A notice for the current attempt sends the shard to VERIFYING on OK or fails the attempt (R292). -/
  | fetchNotice (p : Part) (pkt : Packet)
  /-- Setting SERVE_CONTROL.ENABLE makes the partition a server owning DMA engine 1 channel 15 (R294). -/
  | serveEnable (via : Via) (p : Part) (value : Word)
  /-- A fetch request at SERVE_ADDR enters the server queue, or is refused when full (R294). -/
  | serveRequestReceive (p : Part) (pkt : Packet)
  /-- The server takes the next request and answers NOT_HELD or RANGE, or copies the range and sends OK (R294). -/
  | serveRequestProcess (p : Part) (shell : ShellOutcome)
  /-- Writing an acorn entry names base and delta regions, rank and scale, or is refused (R298). -/
  | acornEntryWrite (via : Via) (p : Part) (value : Word)
  /-- Sets the partition's weight counters to zero (R300). -/
  | weightCounterClear (via : Via) (p : Part) (value : Word)
  /-- A PAIR control word pairs the Tango partners or enters CONFLICT, emptying banks on a new address (R301). -/
  | pair (n : Port) (pkt : Packet)
  /-- When a TANGO port reaches ACTIVE with addresses assigned, the device sends PAIR (R301). -/
  | tangoPairingStart (n : Port)
  /-- Writing a mirror-list entry lists a VALID two-slot region, refused while mirroring (R304). -/
  | tangoListEntryWrite (via : Via) (value : Word)
  /-- A mirror chooses its bank, binds the slots and sends BEGIN once it is free to (R308). -/
  | mirrorBegin (shell : ShellOutcome)
  /-- A BEGIN sets the partner's bank to FILLING with the tag (R308). -/
  | tangoBegin (pkt : Packet)
  /-- A Tango data packet is written into the bank, or dropped and counted (R307). -/
  | tangoData (pkt : Packet)
  /-- A chunk ACK advances the source and drops binds of fully acknowledged regions (R308). -/
  | tangoAck (pkt : Packet)
  /-- A COMPLETE sets the partner's bank COMPLETE and the source's ACK tag (R308). -/
  | tangoComplete (pkt : Packet)
  /-- A RESUME asks the partner for the FILLING bank's tag and acknowledged count (R311). -/
  | tangoResume (pkt : Packet)
  /-- The reply resumes the mirror at the next chunk or restarts from chunk 0 (R311). -/
  | tangoResumeReply (pkt : Packet)
  /-- A mirror not COMPLETE TANGO_WINDOW beats after its fence counts late and raises the health event (R309). -/
  | mirrorLate
  /-- Loss of every TANGO port or a partition reset suspends the mirror (R311). -/
  | tangoInterrupt
  /-- Writing the release tag moves Tango's binds to the newly released slots, or is refused (R310). -/
  | tangoReleaseTagWrite (via : Via) (value : Word)
  /-- TANGO_CONTROL START resumes a HALTED or SUSPENDED mirror (R311). -/
  | tangoStart (via : Via)
  /-- TANGO_CONTROL STOP halts Tango and drops its binds (R325). -/
  | tangoStop (via : Via)
  /-- PAUSE suspends a running mirror (R311). -/
  | tangoPause (via : Via)
  /-- UNPAIR ends the pairing until a TANGO port next reaches ACTIVE (R325). -/
  | tangoUnpair (via : Via)
  /-- FREEZE makes the reserve refuse incoming Tango data and keep every bank (R312). -/
  | tangoFreeze (via : Via)
  /-- UNFREEZE lifts the freeze (R312). -/
  | tangoUnfreeze (via : Via)
  /-- ROLLBACK returns every listed region to the release tag, or is refused (R313). -/
  | tangoRollback (via : Via)
  /-- RESTORE sends a frozen COMPLETE bank as peer writes to the target address (R319). -/
  | tangoRestore (via : Via) (shell : ShellOutcome)
  /-- RESTORE_ABORT stops a running restore with code STOPPED (R325). -/
  | tangoRestoreAbort (via : Via)
  /-- The restore's final fence completes and RESTORE_STATE reads DONE or FAILED (R319). -/
  | tangoRestoreDone (code : Fin 10)
  /-- No flit on any TANGO port for SUSPECT_SILENCE beats records a suspect event (R316). -/
  | partnerSilent
  /-- Every PROBE_INTERVAL beats a probe goes to the tree parent and children (R316). -/
  | probeSend (s : JobSlot)
  /-- A received probe is answered by the command processor (R316). -/
  | probe (pkt : Packet)
  /-- A probe unanswered for 64 beats records a suspect event, possibly raising suspicion (R316). -/
  | probeTimeout (addr : FabAddr)
  /-- DETECTOR_OVERRIDE TRUST clears an address's entry and ignores its events (R317). -/
  | trust (via : Via) (addr : FabAddr)
  /-- DETECTOR_OVERRIDE DEAD marks the entry DECLARED_DEAD and stops probes (R317). -/
  | dead (via : Via) (addr : FabAddr)
  /-- At each sub-window end scores are recomputed and at most one recommendation per part is made (R323). -/
  | healthSubwindowEnd
  /-- Writing PROBATION or IN_SERVICE changes a part's spot, BER or scrub regime (R324). -/
  | healthPartStateWrite (via : Via) (value : Word)
  /-- A sampled tile's duplicate run finishes and fingerprints are compared, counting mismatches (R322). -/
  | spotCheckCompare (c : Core) (first second : Word)
  /-- A tile running TILE_WATCHDOG beats takes rung 1 with cause TILE (R331). -/
  | tileWatchdogExpiry (c : Core)
  /-- A core waiting GATE_WATCHDOG beats at a non-BEAT gate takes rung 1 with cause GATE (R332). -/
  | gateWatchdogExpiry (c : Core)
  /-- A startable slot not started or a stalled swap for 10 ms takes rung 3 with cause SCAN (R333). -/
  | scanWatchdogExpiry (p : Part) (w : ScanStuck)
  /-- A requester with credits ungranted for 10 ms takes rung 3, or rung 4 for shared arbiters (R334). -/
  | arbiterWatchdogExpiry (o : ArbiterOwner)
  /-- An unserviced management watchdog restarts the controller, or takes rung 5 on a second expiry within 60 s
  (R335). -/
  | mcWatchdogExpiry
  /-- A rung not completed within its bound climbs to the next rung, or reports it under REPORT policy (R327). -/
  | rungTimeout (p : Part)
  /-- A partition reset runs HALT, SAMPLE, DRAIN, WAKE, CLEAR and CHECK on the group (R339). -/
  | partReset (via : Via) (p : Part) (value : Word)
  /-- The partition reset reaches READY, opening tables and raising reset-done (R339). -/
  | partitionResetReady (p : Part) (obs : ResetObs)
  /-- A Function Level Reset of a VF is a partition reset of its partition without sample (R356). -/
  | vfFlr (p : Part)
  /-- A keyed CHIP_RESET, PF FLR or rung 4 ends all work, replaces keys and reruns bring-up (R343). -/
  | chipReset (via : Option Via) (value : Word)
  /-- Assertion of PERST# starts a chip reset (R343). -/
  | perstAssert
  /-- POWER_CYCLE or rung 5 asserts PWR_CYCLE_REQ to the tray controller (R344). -/
  | powerCycle (via : Via) (value : Word)
  /-- POWER_CYCLE_CANCEL releases PWR_CYCLE_REQ (R344). -/
  | powerCycleCancel (via : Via) (value : Word)
  /-- REQUEST starts the self-test on a drained partition or defers it (R347). -/
  | bistRequest (via : Via) (p : Part) (value : Word)
  /-- A deferred self-test starts in the first beat its partition is drained (R347). -/
  | bistDeferredStart (p : Part)
  /-- CANCEL ends a deferred or running self-test with status CANCELLED (R347). -/
  | bistCancel (via : Via) (p : Part) (value : Word)
  /-- The self-test ends, reporting its result and raising reset-done (R348). -/
  | bistDone (p : Part) (obs : BistObs)
  /-- Clearing Bus Master Enable stops host requests, ending HOST transfers and holding MSI-X (R355). -/
  | busMasterDisable (f : Func)
  /-- A function in D3hot decodes no BAR and holds its MSI-X messages (R357). -/
  | d3hotEntry (f : Func)
  /-- Setting or clearing VF Enable or lowering NumVFs creates or removes VFs, moving pending events to the PF
  (R366). -/
  | vfEnableChange (enable : Bool) (numVfs : Nat)
  /-- A pending vector that is unmasked and released sends one merged message (R367). -/
  | msixVectorRelease (f : Func) (vector : Nat)
  /-- A host access to BAR4 reaches HBM through the partition key, or is refused (R362). -/
  | bar4Access (f : Func) (offset : Nat) (wr : Option (List Byte)) (len : Nat) (shell : ShellOutcome)
  /-- An access to the domain data window reaches bytes of the selected BSTR, VSTR or DOMAIN object (R360). -/
  | domainWindowAccess (offset : Nat) (wr : Option (List Byte)) (len : Nat)
  /-- An ATS invalidation request completes after requests using the translation complete (R369). -/
  | atsInvalidation (f : Func) (page : Nat) (size : Nat)
  /-- A Barzar READ returns an object's value or length with a status (R375). -/
  | canRead (r : CanRequest)
  /-- A Barzar WRITE sets an object, or as a broadcast applies on every device without response (R375). -/
  | canWrite (r : CanRequest)
  /-- A READ_SEG returns up to 48 bytes of a string or domain object (R378). -/
  | canReadSeg (r : CanRequest)
  /-- A WRITE_SEG writes up to 48 bytes of a string or domain object whole or not at all (R378). -/
  | canWriteSeg (r : CanRequest)
  /-- Every HEARTBEAT_MS the device sends its classical heartbeat frame (R387). -/
  | heartbeatSend
  /-- A tray-controller heartbeat clears CTRL_HB_LOST (R390). -/
  | controllerHeartbeat
  /-- No controller heartbeat for the timeout sets CTRL_HB_LOST and raises management event 2 (R390). -/
  | ctrlHbTimeout
  /-- An event is logged and queued for an EVENT frame (R391). -/
  | barzarEvent (cls : Fin 5) (part : Option Part) (code : Nat)
  /-- At most once per EVENT_INHIBIT_MS the next queued event frame is sent (R391). -/
  | eventFrameSend
  /-- A LISTENING device takes base + p as node ID, confirms and asserts CONGA_OUT, or enters FAULT_RANGE (R393).
  -/
  | assign (position : Nat)
  /-- RESTART deasserts CONGA_OUT, drops queued requests and unfixed node IDs (R395). -/
  | restart
  /-- CONGA_IN held for 100 µs moves WAITING to LISTENING, or back when deasserted before assignment (R461). -/
  | congaInChange (level : Bool) (heldUs : Nat)
  /-- A frame from another sender with the device's own node ID sets CONFLICT and silences the device (R396). -/
  | nodeIdConflict
  /-- The node recovers from bus-off after 128 occurrences of 11 recessive bits (R371). -/
  | busOffRecovery
  /-- A saved value reaches flash, or the save fails raising management event 1 (R382). -/
  | rwsSaveDone (ok : Bool)
  /-- CAL_CONTROL UNLOCK with the key opens the staging copy of the calibration set (R402). -/
  | unlock (via : Via) (value : Word)
  /-- CAL_CONTROL COMMIT checks the staging copy and starts writing it, or refuses (R402). -/
  | commit (via : Via) (value : Word) (signatureOk : Bool)
  /-- CAL_CONTROL LOCK drops the staging copy (R404). -/
  | lock (via : Via) (value : Word)
  /-- The calibration write ends, locking the set, setting PENDING and raising event 4 (R402). -/
  | calibrationCommitDone (ok : Bool)
  /-- 60 s without a write drops the staging copy and locks the set (R402). -/
  | calibrationStagingTimeout
  /-- The input rising above 40 V starts the management side, RWS load and Conga (R443). -/
  | powerUp
  /-- Main rails in regulation and PERST# deasserted sample straps and run keys, boot, calibration, HBM, ports and
  partitions (R445). -/
  | resetRelease (obs : BringupObs)
  /-- Partitions checked and signalled ports trained, READINESS becomes JOB_READY or PARTIAL_READY and background
  tests start (R446). -/
  | jobReady (microseconds : Nat)
  /-- FW_LOAD checks the host-staged image and starts it, or reports HOST_REFUSED (R431). -/
  | fwLoad (via : Via) (value : Word) (chk : ImageCheck)
  /-- START checks an image in HBM and writes it to the inactive flash bank (R432). -/
  | fwUpdateStart (via : Via) (value : Word)
  /-- The update ends with DONE or FAILED and its first failed check (R432). -/
  | fwUpdateDone (chk : ImageCheck) (flashOk : Bool)
  /-- A keyed ADVANCE raises the fused minimum SVN to the running image's (R434). -/
  | svnAdvance (via : Via) (value : Word)
  /-- REQUEST has the security engine write a signed attestation report, or refuses it (R436). -/
  | attestRequest (via : Via) (p : Part) (value : Word)
  /-- A keyed RECLAIM replaces the group's keys, zeroes on-chip memory and resets tables within 10 ms (R439). -/
  | reclaim (via : Via) (p : Part) (value : Word)
  /-- DEVICE_POWER_REQ RETENTION puts partitions off, drains ports, stops the Beat and moves to the retention rail
  (R417). -/
  | retentionEntry (via : Via) (value : Word) (milliC : Int)
  /-- DEVICE_POWER_REQ RUN restores rails, HBM, ports and the Beat, or runs a chip reset after a brown-out (R418).
  -/
  | retentionExit (via : Via) (value : Word)
  /-- The retention rail below 0.54 V for 5 µs loses retained banks and keys (R420). -/
  | brownOut
  /-- PART_POWER_REQ OFF puts a drained group into partition-off, or is refused (R414). -/
  | partPowerOff (via : Via) (p : Part) (value : Word)
  /-- PART_POWER_REQ ON wakes the group (R416). -/
  | partPowerOn (via : Via) (p : Part) (value : Word)
  /-- An access to a sleeping cluster, channel or group stalls and wakes it (R416). -/
  | wakeDemand (t : WakeTarget)
  /-- A woken domain becomes ready and the stalled access proceeds (R416). -/
  | wakeDone (t : WakeTarget)
  /-- A cluster whose cores were idle for CLUSTER_SLEEP beats power-gates its datapaths (R413). -/
  | clusterSleepExpiry (p : Part)
  /-- A group drained for PART_AUTO_OFF beats enters partition-off (R415). -/
  | autoOffExpiry (p : Part)
  /-- At START_BEAT minus PART_PREWAKE a group in partition-off begins to wake (R415). -/
  | prewake (p : Part) (n : Fin 256)
  /-- Every 1 µs the loop samples input and moves the cap frequency or issue gating (R410). -/
  | powerCapSample (m : PowerSample)
  /-- Input above 1.25 × POWER_LIMIT for 20 µs sets every cluster to 8 issue slots in 16 (R410). -/
  | fastCut
  /-- Every 10 µs critical-path monitors trim each cluster's voltage and AVFS request (R409). -/
  | avfsTrim (p : Part) (mv : Nat) (requestMhz : Nat)
  /-- A cluster or stack at its threshold lowers its thermal request or halves refresh and bandwidth (R411). -/
  | thermalThrottleTick (t : ThermalSensor)
  /-- A cluster moves one 25 MHz step toward the minimum of the three requests, ordering voltage and frequency
  (R407). -/
  | clusterClockChange (p : Part)
  /-- A reading at or above a trip limit for 100 µs switches off all but the always-on rail (R422). -/
  | thermalTrip
  /-- Input below 40 V limits current and gates issue, or below 36 V for 100 µs turns the device off (R405). -/
  | inputUndervoltage (milliV : Nat) (us : Nat)
  /-- Input above 60 V sets OV, or above 64 V for 10 µs turns the device off (R405). -/
  | inputOvervoltage (milliV : Nat) (us : Nat)
  /-- Loss of the SerDes reference for 10 µs moves domains to the internal oscillator and fails every port (R408).
  -/
  | serdesReferenceLoss (us : Nat)
  /-- The returned reference takes the domains back at a cycle boundary (R408). -/
  | serdesReferenceReturn
  /-- Sets CAP_EVENTS to zero (R423). -/
  | powerCounterClear (via : Via) (value : Word)
  /-- In each 2.56 ns flit slot an output port sends one body against held credits, VC3 first at most one in
  eight, else the oldest age stamp, or an IDLE, TEMPO or TEST flit (R214). -/
  | wireFlitSend (n : Port) (checks : List (Nat × ShellOutcome))
  /-- A HOST DMA read completion not returned within the PCIe completion timeout ends the transfer with HOST_ERROR
  and halts the channel (R368). -/
  | completionTimeout (ch : ChanId) (fence : Bool)
  /-- Every core reset at rung 2 reports idle, completing the rung and stopping its escalation timer (R328). -/
  | engineResetDone (p : Part)
  /-- The restarted management controller restores node ID, dictionary and hang log, BAR0 and CAN FD answer again
  and management event 7 is raised (R335). -/
  | mcRestartDone
  /-- An HBM channel woken by demand returns to self-refresh after 1 ms without access (R416). -/
  | channelSelfRefreshReturn (n : Fin 384)
  /-- Partition-off entry finishes within 50 µs and PART_POWER_STATE moves from ENTERING_OFF to OFF (R414). -/
  | partitionOffEntryDone (p : Part)
  /-- Retention entry finishes within 10 ms and DEVICE_POWER_STATE moves from ENTERING to RETENTION on the
  retention regulator (R417). -/
  | retentionEntryDone
  /-- While the measured retention-rail current stands at 36 A or more in Retention, the health event is raised
  once per minute (R419). -/
  | retCurrentWarning (milliA : Nat)
  /-- When every sensor reads 85 °C or less after a thermal trip, the held chip reset proceeds and bring-up
  restarts from reset release (R422). -/
  | thermalHoldExit
  /-- No TIME_PPS rising edge for 3 s makes the signal absent, and the master runs from the reference until an
  edge returns (R462). -/
  | timePpsLoss
  /-- Loss or return of REFCLK_PCIE updates REF_CLK_STATUS and takes the PCIe link down or back (R408). -/
  | pcieReferenceChange (present : Bool) (link : PcieLink)
  /-- A CAN bus error updates TEC and REC, moving the node between error active, error passive and bus-off and
  counting CAN_BUS_OFF (R371). -/
  | canBusError (e : CanError)
  /-- A received frame with an unused function code, extended identifier, remote form or classical form other than
  heartbeat is ignored and counted in CAN_IGNORED (R373). -/
  | canFrameIgnored (why : IgnoredFrame)
  /-- The security engine finishes writing the signed report and ATTEST_STATUS moves from BUSY to DONE (R436). -/
  | attestReportDone (p : Part) (signature : List Byte)
  /-- The reclaim finishes on every member, RECLAIM_STATE reads DONE, RECLAIM_NS is recorded, reset-done is raised
  and any waiting partition reset starts (R439). -/
  | reclaimDone (p : Part)
  deriving DecidableEq, Repr

end Sys2Proof
end

