-- ==== Sys2Proof/Decode.lean ====
section
/-! DEFINITION. The commands that words spell. No row of the table of operations and events gives bits: the EM9 is
commanded through objects, packets, frames and events, and the binary encoding of its programs is not published (R4).
So no word spells a command. -/

namespace Sys2Proof

/-- The command that a word spells by the bits of the table: none. -/
def decodeTableWord (_nbits _w : Nat) : Option Instr := none

end Sys2Proof
end

