-- ==== Sys2Proof/Config.lean ====
section
/-! DEFINITION. The values that the manual leaves open. Each is a constant without a body, so that nothing can
be proved of its value: a statement that mentions one holds whatever the part does. -/

namespace Sys2Proof.Config

/-- The byte at address `a` of a range whose contents the manual leaves undefined, in the `n`-th such event (R137,
R151, R163, R181, R341): log entry 10. -/
opaque freeByte (n a : Nat) : Byte

/-- A free word: the `k`-th value left open in the `n`-th such event: log entry 10. -/
opaque freeWord (n k : Nat) : Word

/-- Which of the FP32 grid values within the bound of R48 a divide, root, exp, log, tanh, sigmoid, erf or GELU gives: log
entry 11. -/
opaque ulpChoice (fn : VecFn) (a b : Word32) : Nat

/-- Which of the values with a 40-bit significand within that bound is the internal result that stochastic rounding of such
an operation starts from (R38): log entry 12. -/
opaque internalChoice (fn : VecFn) (a b : Word32) : Nat

/-- Whether a minimum or maximum of zeros of unlike signs gives its first operand: log entry 13. -/
opaque zeroPick (isMax : Bool) (a b : Word32) : Bool

/-- The element that a compare writes for true and for false: log entry 14. -/
opaque cmpCode (holds : Bool) : Word32

/-- Byte `k` of the parity of a Reed-Solomon codeword of a wire flit: the manual gives neither the field's polynomial nor the
code's roots (R208): log entry 95. -/
opaque fecParity (codeword : List Byte) (k : Nat) : Byte

/-- Byte `i` of the PRBS31 pattern that TEST flits carry (R233): log entry 95. -/
opaque prbs31 (i : Nat) : Byte

/-- SERVE_ADDR at the partition of another device that a context identifier names: the manifest does not carry it (R292): log
entry 107. -/
opaque serveAddr (addr : FabAddr) (ctx : Nat) : Nat

/-- The hash that chooses among equally loaded deterministic routes (R217): log entry 15. -/
opaque routeHash (origin dest : Nat) (job : Nat) (flow : Nat) : Nat

/-- The device's identity certificate, of which the manual gives no byte (R435): log entry 16. -/
opaque identityCert : List Byte

/-- The attestation certificate that the `boot`-th boot signs over a firmware's version, SVN and digest (R435): log
entry 16. -/
opaque attestCert (boot : Nat) (version : Word32) (svn : Nat) (digest : List Byte) : List Byte

end Sys2Proof.Config
end

