-- ==== Sys2Proof/Machine/SMap.lean ====
section
/-! DEFINITION. Sparse tables: a list of (key, value) pairs with strictly rising keys, in which a key that is not
listed reads as the table's default for it and no listed value equals that default. Equal tables are equal lists. -/

namespace Sys2Proof.Machine

/-- A sparse table from natural numbers. -/
abbrev SMap (α : Type) := List (Nat × α)

/-- The value at `k`, `d` where the table lists none. -/
def mget {α : Type} (d : α) : SMap α → Nat → α
  | [], _ => d
  | (k', v) :: m, k => if k' = k then v else mget d m k

/-- The value listed at `k`. -/
def mfind {α : Type} : SMap α → Nat → Option α
  | [], _ => none
  | (k', v) :: m, k => if k' = k then some v else mfind m k

/-- The table without key `k`. -/
def mdel {α : Type} : SMap α → Nat → SMap α
  | [], _ => []
  | (k', v) :: m, k => if k' = k then mdel m k else (k', v) :: mdel m k

/-- The table with `v` listed at `k`, in key order. -/
def mins {α : Type} (v : α) : SMap α → Nat → SMap α
  | [], k => [(k, v)]
  | (k', v') :: m, k =>
    if k < k' then (k, v) :: (k', v') :: m
    else if k' = k then (k, v) :: m
    else (k', v') :: mins v m k

/-- Setting `k` to `v`: the default is not listed. -/
def mset {α : Type} [DecidableEq α] (d : α) (m : SMap α) (k : Nat) (v : α) : SMap α :=
  if v = d then mdel m k else mins v m k

/-- Changing the value at `k`. -/
def mmod {α : Type} [DecidableEq α] (d : α) (m : SMap α) (k : Nat) (f : α → α) : SMap α :=
  mset d m k (f (mget d m k))

/-- The table with every key from `lo` below `hi` back at its default. -/
def mclear {α : Type} (m : SMap α) (lo hi : Nat) : SMap α :=
  m.filter fun kv => !(decide (lo ≤ kv.1) && decide (kv.1 < hi))

/-- The part of the table with keys from `lo` below `hi`, moved to start at key 0. -/
def mslice {α : Type} (m : SMap α) (lo hi : Nat) : SMap α :=
  (m.filter fun kv => decide (lo ≤ kv.1) && decide (kv.1 < hi)).map fun kv => (kv.1 - lo, kv.2)

/-- Listing a run of entries, each moved by `lo`. -/
def minsAll {α : Type} (m : SMap α) (lo : Nat) : SMap α → SMap α
  | [] => m
  | (k, v) :: rest => minsAll (mins v m (lo + k)) lo rest

/-- Keys strictly rising. -/
def mrising {α : Type} : SMap α → Bool
  | [] => true
  | [_] => true
  | (k, _) :: (k', v') :: m => decide (k < k') && mrising ((k', v') :: m)

end Sys2Proof.Machine
end

