-- ==== Sys2Proof/Machine/CoreState.lean ====
section
/-! DEFINITION. The state of one core: its engines, vector unit, amax slots, flag word, parameter registers, loops,
walnut regions, position in its stream and idle counters (R50, R55 to R132). -/

namespace Sys2Proof.Machine

/-- A walnut region or other byte range kept aside: a byte list of a list of cells is too long to write out, so
memory contents are cells over fills. A fill says what unlisted bytes of a range read as: zero, or a free value. -/
structure Fill where
  base : Nat
  len : Nat
  /-- `none` reads as zero; `some n` as the free bytes of the `n`-th such event -/
  serial : Option Nat
  deriving DecidableEq, Repr

/-- Memory contents: listed bytes over fills, newest fill first. -/
structure Mem where
  cells : SMap Byte
  fills : List Fill
  deriving DecidableEq, Repr

/-- The codes held in an engine's stationary registers (R55). Missing cells are +0 (R57). -/
structure Block where
  pair : Pair
  fmt : Format
  axis : Axis
  rows : List (List Word)
  /-- block scales of an MX operand, in the order of R33 -/
  scales : List Byte
  /-- rows and columns as loaded, before padding -/
  kt : Nat
  nt : Nat
  deriving DecidableEq, Repr

/-- Stationary registers that hold +0 in every cell (R71). -/
def Block.empty : Block := ⟨.fp8, .e4m3, .k, [], [], 0, 0⟩

/-- The formats of an accumulator total (R59). -/
inductive TotFmt where
  | fp32 | int32 | fp64
  deriving DecidableEq, Repr

/-- An accumulator bank (R59, R60, R64): `use` is its total format and row width while it holds totals. -/
structure Bank where
  use : Option (TotFmt × Nat)
  /-- totals, by row × width + column -/
  vals : SMap Word
  /-- saturation bits of INT32 totals -/
  sats : SMap Bool
  /-- after a drain, the event whose free values the totals of rows not yet preloaded take; `none`: +0 -/
  stale : Option Nat
  deriving DecidableEq, Repr

/-- A bank as partition reset leaves it (R71). -/
def Bank.empty : Bank := ⟨none, [], [], none⟩

/-- One engine (R55, R59, R68). -/
structure Engine where
  active : Block
  shadow : Block
  bank0 : Bank
  bank1 : Bank
  /-- rows of the last block pass, against which the next stationary load is measured (R68) -/
  lastRows : Option Nat
  deriving DecidableEq, Repr

/-- An engine as partition reset leaves it. -/
def Engine.empty : Engine := ⟨.empty, .empty, .empty, .empty, none⟩

/-- A lane's Poppy generator: its state, the word of its output buffer and the position in it, 64 when the buffer
is empty (R92, R93). -/
structure Lane where
  state : Word
  word : Word
  pos : Nat
  deriving DecidableEq, Repr

/-- A hardware loop level (R124). -/
structure Loop where
  cnt : Word
  latched : Nat
  iter : Nat
  active : Bool
  deriving DecidableEq, Repr

/-- A loop level as partition reset leaves it. -/
def Loop.empty : Loop := ⟨0#64, 0, 0, false⟩

/-- A walnut region that is not EMPTY (R81). -/
structure WOpen where
  base : Nat
  len : Nat
  /-- `none` while OPEN; in DRAINING, how many kept entries the drain has sent -/
  draining : Option Nat
  deriving DecidableEq, Repr

/-- The classes of a core's cycles (R131). -/
inductive CycleClass where
  | busy | preempted | powerWake | beat | dma | collective | streamIn | streamOut | done
  deriving DecidableEq, Repr

/-- The snapshot subindex offset and record order of a class: 0x3p00:80 + n (R132). -/
def CycleClass.num : CycleClass → Nat
  | .busy => 0
  | .preempted => 1
  | .powerWake => 2
  | .beat => 3
  | .dma => 4
  | .collective => 5
  | .streamIn => 6
  | .streamOut => 7
  | .done => 8

/-- Where a core stands in the stream of the launch on it (R109, R116, R124, R130). -/
structure CoreRun where
  /-- the launch, 256 × lead + slot -/
  launch : Option Nat
  /-- index of the next item of the stream -/
  item : Nat
  /-- the index of the running tile, and the beat counter at its issue -/
  tile : Option (Nat × Nat)
  /-- beats counted by the tile watchdog and by the gate watchdog (R331, R332) -/
  tileBeats : Nat
  gateBeats : Nat
  /-- the core has completed its stream, or has stopped -/
  finished : Bool
  /-- reserved bytes of inbound channels and credits of outbound channels (R116) -/
  resIn : SMap Nat
  resOut : SMap Nat
  /-- bytes of inbound channels that instructions of the running tile have read -/
  readIn : SMap Nat
  /-- bucket room reserved by the running tile's gates: slot, step, bucket and segments (R468) -/
  resBucket : List (Nat × Nat × Nat × Nat)
  /-- the running tile was chosen for a spot check (R322) -/
  checked : Bool
  /-- an operation of the running tile has failed -/
  failed : Bool
  deriving DecidableEq, Repr

/-- A core with no launch. -/
def CoreRun.idle : CoreRun := ⟨none, 0, none, 0, 0, false, [], [], [], [], false, false⟩

/-- One core: the resident state of the context on it, and its idle counters (R71, R96, R121, R125, R131). -/
structure CoreSt where
  engines : SMap Engine
  /-- vector registers, by 512 × register + element (R72) -/
  vregs : SMap Word32
  /-- amax slots, FP32 (R43) -/
  amax : SMap Word32
  /-- the flag word (R50) -/
  flags : Word32
  /-- PARAM0 to PARAM63 (R121) -/
  params : SMap Word
  loops : SMap Loop
  /-- Poppy generators that have left their reset values (R94) -/
  lanes : SMap Lane
  /-- walnut regions that are not EMPTY (R81) -/
  regions : List WOpen
  run : CoreRun
  /-- live counters by class number, over every cycle (R131) -/
  idle : SMap Word
  /-- stream bytes and credits are kept with the launch; the outstanding spot-check digest stays here (R322) -/
  spot : Option Word
  deriving DecidableEq, Repr

/-- A core as partition reset leaves it. -/
def CoreSt.reset : CoreSt := ⟨[], [], [], 0#32, [], [], [], [], .idle, [], none⟩

/-- What an eviction keeps of one core (R181): the context state, the OPEN walnut regions' entries and the
scratchpad range. -/
structure SavedCore where
  core : CoreSt
  walnut : Mem
  spad : Mem
  deriving DecidableEq, Repr

end Sys2Proof.Machine
end

