-- ==== Sys2Proof/Machine/Mem.lean ====
section
/-! DEFINITION. The device's memory as one space of device physical addresses (R133), held as listed bytes over fills, and
the operations on it. Little-endian throughout (R9). -/

namespace Sys2Proof.Machine

/-- Memory with nothing listed: every byte reads as zero (R137, R143). -/
def Mem.empty : Mem := ⟨[], []⟩

/-- The fill that covers an address: the newest first. -/
def fillOf : List Fill → Nat → Option Nat
  | [], _ => none
  | f :: fs, a => if f.base ≤ a ∧ a < f.base + f.len then f.serial else fillOf fs a

/-- What an address that lists no byte reads as. -/
def Mem.background (m : Mem) (a : Nat) : Byte :=
  match fillOf m.fills a with
  | none => 0#8
  | some n => Config.freeByte n a

/-- One byte. -/
def Mem.read (m : Mem) (a : Nat) : Byte := mget (m.background a) m.cells a

/-- Writing one byte: a zero over a zero background is not listed. -/
def Mem.write (m : Mem) (a : Nat) (v : Byte) : Mem :=
  match fillOf m.fills a with
  | none => { m with cells := mset 0#8 m.cells a v }
  | some _ => { m with cells := mins v m.cells a }

/-- `n` bytes from `a`. -/
def Mem.readBytes (m : Mem) (a : Nat) : Nat → List Byte
  | 0 => []
  | n + 1 => m.read a :: m.readBytes (a + 1) n

/-- Writing bytes in ascending order from `a`. -/
def Mem.writeBytes (m : Mem) (a : Nat) : List Byte → Mem
  | [] => m
  | v :: vs => (m.write a v).writeBytes (a + 1) vs

/-- The number that bytes spell, least significant first. -/
def leNat : List Byte → Nat
  | [] => 0
  | b :: bs => b.toNat + 256 * leNat bs

/-- `n` bytes of a number, least significant first. -/
def leBytes : Nat → Nat → List Byte
  | 0, _ => []
  | n + 1, v => BitVec.ofNat 8 v :: leBytes n (v / 256)

/-- An `n`-byte number at `a`. -/
def Mem.readLE (m : Mem) (a n : Nat) : Nat := leNat (m.readBytes a n)

/-- Writing an `n`-byte number at `a`. -/
def Mem.writeLE (m : Mem) (a n v : Nat) : Mem := m.writeBytes a (leBytes n v)

/-- Whether a fill reaches into a range. -/
def Fill.meets (f : Fill) (base len : Nat) : Bool :=
  decide (f.base < base + len) && decide (base < f.base + f.len)

/-- Whether a fill lies inside a range. -/
def Fill.within (f : Fill) (base len : Nat) : Bool :=
  decide (base ≤ f.base) && decide (f.base + f.len ≤ base + len)

/-- Filling a range with zero (`none`) or with free bytes. Fills that the range covers are dropped, and a zero fill is
kept only where something else lay below it. -/
def Mem.fill (m : Mem) (base len : Nat) (serial : Option Nat) : Mem :=
  let rest := m.fills.filter fun f => !f.within base len
  let cells := mclear m.cells base (base + len)
  if serial.isSome || rest.any (fun f => f.meets base len) then
    { cells := cells, fills := ⟨base, len, serial⟩ :: rest }
  else { cells := cells, fills := rest }

/-- Zeroing a range. -/
def Mem.zero (m : Mem) (base len : Nat) : Mem := m.fill base len none

/-- A fill cut to a range. -/
def Fill.clip (f : Fill) (base len : Nat) : Fill :=
  let lo := max f.base base
  let hi := min (f.base + f.len) (base + len)
  ⟨lo, hi - lo, f.serial⟩

/-- The contents of a range, kept under their own addresses. -/
def Mem.take (m : Mem) (base len : Nat) : Mem :=
  { cells := m.cells.filter fun kv => decide (base ≤ kv.1) && decide (kv.1 < base + len),
    fills := (m.fills.filter fun f => f.meets base len).map fun f => f.clip base len }

/-- Putting kept contents of a range back. -/
def Mem.put (m : Mem) (base len : Nat) (kept : Mem) : Mem :=
  let z := m.zero base len
  let k := kept.take base len
  let back : Mem := { z with fills := k.fills ++ z.fills }
  k.cells.foldl (fun acc kv => acc.write kv.1 kv.2) back

/-- The canonical form: keys rising, and no listed byte equal to a zero background. -/
def Mem.ok (m : Mem) : Bool :=
  mrising m.cells && m.cells.all fun kv => (fillOf m.fills kv.1).isSome || decide (kv.2 ≠ 0#8)

/-- The invariant as a proposition. -/
abbrev Mem.wf (m : Mem) : Prop := m.ok = true

/-! ## The address map (R133, R140) -/

/-- Bytes of one partition's HBM: 54 GiB. -/
def hbmSize : Nat := 0xD80000000

/-- Base of partition `p`'s HBM. -/
def hbmBase (p : Nat) : Nat := p * hbmSize

/-- End of the HBM range. -/
def hbmEnd : Nat := 0xD800000000

/-- Bytes of a core's scratchpad. -/
def spadSize : Nat := 0x2000000

/-- Base of core `n`'s scratchpad. -/
def spadBase (n : Nat) : Nat := 0x100000000000 + n * spadSize

/-- End of the scratchpad range. -/
def spadEnd : Nat := 0x100200000000

/-- Bytes of a core's walnut buffer. -/
def walnutSize : Nat := 0x200000

/-- Base of core `n`'s walnut buffer. -/
def walnutBase (n : Nat) : Nat := 0x180000000000 + n * walnutSize

/-- End of the walnut range. -/
def walnutEnd : Nat := 0x180020000000

/-- The kinds of address (R133). -/
inductive Space where
  | hbm (p : Nat)
  | spad (core : Nat)
  | walnut (core : Nat)
  | control
  | unmapped
  deriving DecidableEq, Repr

/-- What lies at a device physical address (R133). -/
def spaceOf (a : Nat) : Space :=
  if a < hbmEnd then .hbm (a / hbmSize)
  else if a < 0x100000000000 then .unmapped
  else if a < spadEnd then .spad ((a - 0x100000000000) / spadSize)
  else if a < 0x180000000000 then .unmapped
  else if a < walnutEnd then .walnut ((a - 0x180000000000) / walnutSize)
  else if a < 0x200000000000 then .unmapped
  else if a < 0x1000000000000 then .control
  else .unmapped

/-- The partition that owns a space (R15, R16). -/
def Space.part : Space → Option Nat
  | .hbm p => some p
  | .spad c => some (c / 16)
  | .walnut c => some (c / 16)
  | .control => none
  | .unmapped => none

/-- The HBM channel of a device physical address in HBM (R140). -/
def hbmChannel (a : Nat) : Nat := 24 * (a / hbmSize) + (a % hbmSize) / 256 % 24

/-- The stack of an HBM address (R140). -/
def hbmStack (a : Nat) : Nat := hbmChannel a / 32

/-- The offset of an HBM address within its channel (R140). -/
def hbmChannelOffset (a : Nat) : Nat := (a % hbmSize) / 256 / 24 * 256 + a % hbmSize % 256

/-- The access bank of a scratchpad offset (R135). -/
def accessBank (o : Nat) : Nat := o / 64 % 64

/-- The retention bank of a scratchpad offset (R135). -/
def retentionBank (o : Nat) : Nat := o / 2 ^ 19

end Sys2Proof.Machine
end

