-- ==== Sys2Proof/Machine/Sha.lean ====
section
/-! DEFINITION. SHA-512 of FIPS 180-4, which guards shards (R287) and the calibration set (R400). -/

namespace Sys2Proof.Machine

/-- Round constants 0 to 19. -/
def shaK0 : List Word := [
  0x428A2F98D728AE22, 0x7137449123EF65CD, 0xB5C0FBCFEC4D3B2F, 0xE9B5DBA58189DBBC,
  0x3956C25BF348B538, 0x59F111F1B605D019, 0x923F82A4AF194F9B, 0xAB1C5ED5DA6D8118,
  0xD807AA98A3030242, 0x12835B0145706FBE, 0x243185BE4EE4B28C, 0x550C7DC3D5FFB4E2,
  0x72BE5D74F27B896F, 0x80DEB1FE3B1696B1, 0x9BDC06A725C71235, 0xC19BF174CF692694,
  0xE49B69C19EF14AD2, 0xEFBE4786384F25E3, 0x0FC19DC68B8CD5B5, 0x240CA1CC77AC9C65]

/-- Round constants 20 to 39. -/
def shaK1 : List Word := [
  0x2DE92C6F592B0275, 0x4A7484AA6EA6E483, 0x5CB0A9DCBD41FBD4, 0x76F988DA831153B5,
  0x983E5152EE66DFAB, 0xA831C66D2DB43210, 0xB00327C898FB213F, 0xBF597FC7BEEF0EE4,
  0xC6E00BF33DA88FC2, 0xD5A79147930AA725, 0x06CA6351E003826F, 0x142929670A0E6E70,
  0x27B70A8546D22FFC, 0x2E1B21385C26C926, 0x4D2C6DFC5AC42AED, 0x53380D139D95B3DF,
  0x650A73548BAF63DE, 0x766A0ABB3C77B2A8, 0x81C2C92E47EDAEE6, 0x92722C851482353B]

/-- Round constants 40 to 59. -/
def shaK2 : List Word := [
  0xA2BFE8A14CF10364, 0xA81A664BBC423001, 0xC24B8B70D0F89791, 0xC76C51A30654BE30,
  0xD192E819D6EF5218, 0xD69906245565A910, 0xF40E35855771202A, 0x106AA07032BBD1B8,
  0x19A4C116B8D2D0C8, 0x1E376C085141AB53, 0x2748774CDF8EEB99, 0x34B0BCB5E19B48A8,
  0x391C0CB3C5C95A63, 0x4ED8AA4AE3418ACB, 0x5B9CCA4F7763E373, 0x682E6FF3D6B2B8A3,
  0x748F82EE5DEFB2FC, 0x78A5636F43172F60, 0x84C87814A1F0AB72, 0x8CC702081A6439EC]

/-- Round constants 60 to 79. -/
def shaK3 : List Word := [
  0x90BEFFFA23631E28, 0xA4506CEBDE82BDE9, 0xBEF9A3F7B2C67915, 0xC67178F2E372532B,
  0xCA273ECEEA26619C, 0xD186B8C721C0C207, 0xEADA7DD6CDE0EB1E, 0xF57D4F7FEE6ED178,
  0x06F067AA72176FBA, 0x0A637DC5A2C898A6, 0x113F9804BEF90DAE, 0x1B710B35131C471B,
  0x28DB77F523047D84, 0x32CAAB7B40C72493, 0x3C9EBE0A15C9BEBC, 0x431D67C49C100D4C,
  0x4CC5D4BECB3E42B6, 0x597F299CFC657E2A, 0x5FCB6FAB3AD6FAEC, 0x6C44198C4A475817]

/-- The round constants. -/
def shaK : List Word := shaK0 ++ shaK1 ++ shaK2 ++ shaK3

/-- The initial hash value. -/
def shaInit : List Word := [
  0x6A09E667F3BCC908, 0xBB67AE8584CAA73B, 0x3C6EF372FE94F82B, 0xA54FF53A5F1D36F1,
  0x510E527FADE682D1, 0x9B05688C2B3E6C1F, 0x1F83D9ABFB41BD6B, 0x5BE0CD19137E2179]

/-- Rotation to the right. -/
def rotr (x : Word) (n : Nat) : Word := (x >>> n) ||| (x <<< (64 - n))

/-- A big-endian word of eight bytes. -/
def beWord (bs : List Byte) : Word := bs.foldl (fun a b => (a <<< 8) ||| BitVec.zeroExtend 64 b) 0

/-- The eight bytes of a word, most significant first. -/
def wordBE (w : Word) : List Byte := (List.range 8).map fun i => BitVec.truncate 8 (w >>> (56 - 8 * i))

/-- The words of a block. -/
def shaWords : Nat → List Byte → List Word
  | 0, _ => []
  | n + 1, bs => beWord (bs.take 8) :: shaWords n (bs.drop 8)

/-- The message schedule, newest word first: `n` words more. -/
def shaSched : Nat → List Word → List Word
  | 0, ws => ws
  | n + 1, ws =>
    let g (i : Nat) : Word := ws.getD i 0
    let s0 := rotr (g 14) 1 ^^^ rotr (g 14) 8 ^^^ (g 14 >>> 7)
    let s1 := rotr (g 1) 19 ^^^ rotr (g 1) 61 ^^^ (g 1 >>> 6)
    shaSched n ((s1 + g 6 + s0 + g 15) :: ws)

/-- The eight working variables. -/
structure ShaReg where
  a : Word
  b : Word
  c : Word
  d : Word
  e : Word
  f : Word
  g : Word
  h : Word

/-- One round. -/
def shaRound (r : ShaReg) (k w : Word) : ShaReg :=
  let t1 := r.h + (rotr r.e 14 ^^^ rotr r.e 18 ^^^ rotr r.e 41) + ((r.e &&& r.f) ^^^ (~~~r.e &&& r.g)) + k + w
  let t2 := (rotr r.a 28 ^^^ rotr r.a 34 ^^^ rotr r.a 39) + ((r.a &&& r.b) ^^^ (r.a &&& r.c) ^^^ (r.b &&& r.c))
  ⟨t1 + t2, r.a, r.b, r.c, r.d + t1, r.e, r.f, r.g⟩

/-- One block of 128 bytes. -/
def shaBlock (hs : List Word) (block : List Byte) : List Word :=
  let ws := (shaSched 64 (shaWords 16 block).reverse).reverse
  let r0 : ShaReg := ⟨hs.getD 0 0, hs.getD 1 0, hs.getD 2 0, hs.getD 3 0, hs.getD 4 0, hs.getD 5 0, hs.getD 6 0, hs.getD 7 0⟩
  let r := (shaK.zip ws).foldl (fun r kw => shaRound r kw.1 kw.2) r0
  List.zipWith (· + ·) hs [r.a, r.b, r.c, r.d, r.e, r.f, r.g, r.h]

/-- The blocks of a padded message; `n` bounds their number. -/
def shaBlocks : Nat → List Byte → List Word → List Word
  | 0, _, hs => hs
  | n + 1, bs, hs => if bs.isEmpty then hs else shaBlocks n (bs.drop 128) (shaBlock hs (bs.take 128))

/-- The padding of a message of `n` bytes. -/
def shaPad (n : Nat) : List Byte :=
  0x80#8 :: List.replicate ((239 - n % 128) % 128) 0#8 ++ (leBytes 16 (8 * n)).reverse

/-- SHA-512. -/
def sha512 (msg : List Byte) : List Byte :=
  let bs := msg ++ shaPad msg.length
  (shaBlocks (bs.length / 128 + 1) bs shaInit).flatMap wordBE

end Sys2Proof.Machine
end

