-- ==== Sys2Proof/Machine/Num.lean ====
section
/-! DEFINITION. Exact values and their rounding: every arithmetic rule of the manual forms an exact value and
rounds it once (R37 to R41, R46). -/

namespace Sys2Proof.Machine

/-- An exact value: NaN, an infinity, or (-1)^neg × m × 2^e. -/
inductive Num where
  | nan
  | inf (neg : Bool)
  | fin (neg : Bool) (m : Nat) (e : Int)
  deriving DecidableEq, Repr

/-- The sticky flags of one event: NV in bit 3, OF in bit 2, UF in bit 1, NX in bit 0 (R50). -/
abbrev Flg := BitVec 4

/-- Invalid. -/
def flNV : Flg := 8#4
/-- Overflow. -/
def flOF : Flg := 4#4
/-- Underflow. -/
def flUF : Flg := 2#4
/-- Inexact. -/
def flNX : Flg := 1#4

/-- A flag that is raised when `b` holds. -/
def flIf (b : Bool) (f : Flg) : Flg := if b then f else 0#4

/-- A rounding as it is applied to one value; SR carries its 16 random bits (R37, R38). -/
inductive Rnd where
  | rne | rtz | rup | rdn
  | sr (r : Nat)
  deriving DecidableEq, Repr

/-- +0. -/
def Num.zero : Num := .fin false 0 0

/-- An integer as an exact value. -/
def Num.ofInt (i : Int) : Num := .fin (decide (i < 0)) i.natAbs 0

/-- Whether the value is a NaN. -/
def Num.isNan : Num → Bool
  | .nan => true
  | _ => false

/-- Whether the value is an infinity. -/
def Num.isInf : Num → Bool
  | .inf _ => true
  | _ => false

/-- Whether the value is a zero. -/
def Num.isZero : Num → Bool
  | .fin _ m _ => m == 0
  | _ => false

/-- The sign. -/
def Num.sign : Num → Bool
  | .nan => false
  | .inf s => s
  | .fin s _ _ => s

/-- The value with its sign changed. -/
def Num.neg : Num → Num
  | .nan => .nan
  | .inf s => .inf !s
  | .fin s m e => .fin (!s) m e

/-- The magnitude. -/
def Num.abs : Num → Num
  | .nan => .nan
  | .inf _ => .inf false
  | .fin _ m e => .fin false m e

/-- The value times 2^k, exactly. -/
def Num.scale (v : Num) (k : Int) : Num :=
  match v with
  | .fin s m e => .fin s m (e + k)
  | v => v

/-- `m × 2^(e - q)` as an integer where `q ≤ e`. -/
def shiftUp (m : Nat) (e q : Int) : Nat := m * 2 ^ (e - q).toNat

/-- A finite value as a multiple of 2^q, for `q` at most its exponent. -/
def signedAt (s : Bool) (m : Nat) (e q : Int) : Int :=
  if s then -(shiftUp m e q : Int) else (shiftUp m e q : Int)

/-- The exact sum, with NV for ∞ - ∞ (R49). `down` is set under RDN, where an exact zero sum of unlike signs
is -0. -/
def Num.add (down : Bool) : Num → Num → Num × Flg
  | .nan, _ => (.nan, 0#4)
  | _, .nan => (.nan, 0#4)
  | .inf s, .inf t => if s = t then (.inf s, 0#4) else (.nan, flNV)
  | .inf s, .fin _ _ _ => (.inf s, 0#4)
  | .fin _ _ _, .inf t => (.inf t, 0#4)
  | .fin s m e, .fin t n f =>
    let q := min e f
    let r := signedAt s m e q + signedAt t n f q
    if r = 0 then (.fin (if s = t then s else down) 0 0, 0#4)
    else (.fin (decide (r < 0)) r.natAbs q, 0#4)

/-- The exact product, with NV for 0 × ∞ (R49). -/
def Num.mul : Num → Num → Num × Flg
  | .nan, _ => (.nan, 0#4)
  | _, .nan => (.nan, 0#4)
  | .inf s, .inf t => (.inf (s != t), 0#4)
  | .inf s, .fin t n _ => if n = 0 then (.nan, flNV) else (.inf (s != t), 0#4)
  | .fin s m _, .inf t => if m = 0 then (.nan, flNV) else (.inf (s != t), 0#4)
  | .fin s m e, .fin t n f => (.fin (s != t) (m * n) (e + f), 0#4)

/-- The exact fused multiply-add `a × b + c`. -/
def Num.fma (down : Bool) (a b c : Num) : Num × Flg :=
  let (p, f) := a.mul b
  let (r, g) := p.add down c
  (r, f ||| g)

/-- `a < b` for values that are no NaN. -/
def Num.lt : Num → Num → Bool
  | .nan, _ => false
  | _, .nan => false
  | .inf s, .inf t => s && !t
  | .inf s, .fin _ _ _ => s
  | .fin _ _ _, .inf t => !t
  | .fin s m e, .fin t n f =>
    let q := min e f
    decide (signedAt s m e q < signedAt t n f q)

/-- `a = b` for values that are no NaN; zeros of either sign are equal. -/
def Num.eqv (a b : Num) : Bool := !a.isNan && !b.isNan && !a.lt b && !b.lt a

/-- Rounding `m / 2^sh` to an integer: the integer and whether it differs (R37, R38). -/
def roundShift (rnd : Rnd) (neg : Bool) (m sh : Nat) : Nat × Bool :=
  let t := m / 2 ^ sh
  let d := m % 2 ^ sh
  let up : Bool :=
    match rnd with
    | .rne => decide (2 ^ sh < 2 * d) || (decide (2 * d = 2 ^ sh) && t % 2 == 1)
    | .rtz => false
    | .rup => decide (d ≠ 0) && !neg
    | .rdn => decide (d ≠ 0) && neg
    | .sr r => decide (r < d * 65536 / 2 ^ sh)
  (if up then t + 1 else t, decide (d ≠ 0))

/-- Rounding the magnitude `m × 2^e` to a multiple of 2^q. -/
def roundAt (rnd : Rnd) (neg : Bool) (m : Nat) (e q : Int) : Nat × Bool :=
  if q ≤ e then (shiftUp m e q, false) else roundShift rnd neg m (q - e).toNat

/-- Rounding to a significand of `p` bits with no limit of exponent. -/
def roundSig (p : Nat) (rnd : Rnd) : Num → Num × Bool
  | .fin s m e =>
    if m = 0 then (.fin s 0 0, false)
    else
      let q := (Nat.log2 m : Int) + e - ((p : Int) - 1)
      let (n, ix) := roundAt rnd s m e q
      (.fin s n q, ix)
  | v => (v, false)

/-- The chunk format of R46: a 20-bit significand, RNE. Its exponent range 2^±300 holds every sum of the 8-bit
and 16-bit formats (R64), so no limit of exponent acts. -/
def chunkRound (v : Num) : Num × Flg :=
  let (r, ix) := roundSig 20 .rne v
  (r, flIf ix flNX)

/-- One addition in the chunk format. -/
def chunkAdd (a b : Num) : Num × Flg :=
  let (s, f) := a.add false b
  let (r, g) := chunkRound s
  (r, f ||| g)

/-- A floating-point format: significand bits, exponent of the smallest subnormal, the largest finite value
`maxM × 2^maxQ`, the width of a code (R30). -/
structure FPar where
  p : Nat
  qmin : Int
  maxM : Nat
  maxQ : Int
  width : Nat
  deriving DecidableEq, Repr

/-- A magnitude rounded to a format: `n × 2^q`, with what happened. -/
structure Rounded where
  n : Nat
  q : Int
  inexact : Bool
  tiny : Bool
  beyond : Bool
  deriving DecidableEq, Repr

/-- Rounding a nonzero magnitude `m × 2^e` to a format; tininess is detected after rounding (R40). -/
def FPar.round (f : FPar) (rnd : Rnd) (neg : Bool) (m : Nat) (e : Int) : Rounded :=
  let qn := (Nat.log2 m : Int) + e - ((f.p : Int) - 1)
  let q := max qn f.qmin
  let (n, ix) := roundAt rnd neg m e q
  let (n', _) := roundAt rnd neg m e qn
  let tiny := (Num.fin false n' qn).lt (.fin false 1 (f.qmin + (f.p : Int) - 1))
  { n := n, q := q, inexact := ix, tiny := tiny,
    beyond := (Num.fin false f.maxM f.maxQ).lt (.fin false n q) }

/-- The code of the magnitude `n × 2^q` on the format's grid. -/
def FPar.magCode (f : FPar) (n : Nat) (q : Int) : Nat :=
  if n < 2 ^ (f.p - 1) then n else (q - f.qmin + 1).toNat * 2 ^ (f.p - 1) + (n - 2 ^ (f.p - 1))

/-- The largest integer whose `2^F`-th power is at most `target`, below `acc + 2^b`. -/
def rootBits (F target : Nat) : Nat → Nat → Nat
  | 0, acc => acc
  | b + 1, acc => rootBits F target b (if (acc + 2 ^ b) ^ (2 ^ F) ≤ target then acc + 2 ^ b else acc)

/-- floor(2^(k / 2^F) × 2^s), for k below 2^F. -/
def root2 (F k s : Nat) : Nat := rootBits F (2 ^ (k + 2 ^ F * s)) (s + 1) 0

end Sys2Proof.Machine
end

