-- ==== Sys2Proof/Machine/Formats.lean ====
section
/-! DEFINITION. The element formats, their codes and the conversions between them (R30 to R42, R467). -/

namespace Sys2Proof.Machine

/-- The floating-point formats of R30: E4M3, E5M2, E2M1, BF16, FP16, FP32 and FP64. -/
def fpar : Format → Option FPar
  | .e4m3 | .mxfp8e4m3 => some ⟨4, -9, 14, 5, 8⟩
  | .e5m2 | .mxfp8e5m2 => some ⟨3, -16, 7, 13, 8⟩
  | .e2m1 | .mxfp4 => some ⟨2, -1, 3, 1, 4⟩
  | .bf16 => some ⟨8, -133, 255, 120, 16⟩
  | .fp16 => some ⟨11, -24, 2047, 5, 16⟩
  | .fp32 => some ⟨24, -149, 2 ^ 24 - 1, 104, 32⟩
  | .fp64 => some ⟨53, -1074, 2 ^ 53 - 1, 971, 64⟩
  | .e8m0 | .hazel8 | .hazel16 | .int8 | .int32 => none

/-- The parameters of FP32. -/
def fp32Par : FPar := ⟨24, -149, 2 ^ 24 - 1, 104, 32⟩

/-- The parameters of FP64. -/
def fp64Par : FPar := ⟨53, -1074, 2 ^ 53 - 1, 971, 64⟩

/-- Whether a floating-point format has infinities (R30). -/
def fmtHasInf : Format → Bool
  | .e5m2 | .mxfp8e5m2 | .bf16 | .fp16 | .fp32 | .fp64 | .hazel16 => true
  | .e4m3 | .e2m1 | .e8m0 | .hazel8 | .int8 | .int32 | .mxfp8e4m3 | .mxfp4 => false

/-- Bits of one element code. -/
def fmtBits : Format → Nat
  | .e4m3 | .e5m2 | .e8m0 | .hazel8 | .int8 | .mxfp8e4m3 | .mxfp8e5m2 => 8
  | .e2m1 | .mxfp4 => 4
  | .bf16 | .fp16 | .hazel16 => 16
  | .fp32 | .int32 => 32
  | .fp64 => 64

/-- Whether the format is block-scaled (R33). -/
def fmtIsMx : Format → Bool
  | .mxfp8e4m3 | .mxfp8e5m2 | .mxfp4 => true
  | _ => false

/-- The element format of a block-scaled format. -/
def fmtElem : Format → Format
  | .mxfp8e4m3 => .e4m3
  | .mxfp8e5m2 => .e5m2
  | .mxfp4 => .e2m1
  | f => f

/-- The canonical NaN of a format (R31); the formats without a NaN have no use of it. -/
def nanCode : Format → Nat
  | .e4m3 | .mxfp8e4m3 => 0x7F
  | .e5m2 | .mxfp8e5m2 => 0x7E
  | .e8m0 => 0xFF
  | .bf16 => 0x7FC0
  | .fp16 => 0x7E00
  | .fp32 => 0x7FC00000
  | .fp64 => 0x7FF8000000000000
  | .hazel8 => 0x80
  | .hazel16 => 0x8000
  | .e2m1 | .mxfp4 | .int8 | .int32 => 0

/-- A magnitude code with its sign bit. -/
def withSign (width : Nat) (neg : Bool) (mag : Nat) : Word :=
  BitVec.ofNat 64 (if neg then 2 ^ (width - 1) + mag else mag)

/-- The magnitude code of infinity in a floating-point format: all exponent bits ones, no significand bit. -/
def infMag (f : FPar) : Nat := 2 ^ (f.width - 1) - 2 ^ (f.p - 1)

/-- The value of a floating-point code (R30). -/
def decodeFp (fmt : Format) (f : FPar) (c : Nat) : Num :=
  let mag := c % 2 ^ (f.width - 1)
  let neg := c / 2 ^ (f.width - 1) % 2 == 1
  let special : Bool := decide (infMag f ≤ mag)
  if fmtHasInf fmt && special then
    (if mag = infMag f then .inf neg else .nan)
  else if fmtElem fmt = .e4m3 ∧ mag = 0x7F then .nan
  else
    let ef := mag / 2 ^ (f.p - 1)
    let mf := mag % 2 ^ (f.p - 1)
    if ef = 0 then .fin neg mf f.qmin else .fin neg (mf + 2 ^ (f.p - 1)) (f.qmin + ef - 1)

/-- The fraction bits F, the bias B and the largest finite log field of a Hazel format (R34). -/
def hazelPar : Format → Option (Nat × Int × Nat)
  | .hazel8 => some (2, 64, 0x7F)
  | .hazel16 => some (7, 16384, 0x7FFE)
  | _ => none

/-- ±2^(L / 2^F) as an exact value with a sticky last bit: for k ≠ 0 the value is irrational, and 64 fraction
bits with a set sticky bit round to every destination as the value itself does (R39). -/
def hazelLinear (F : Nat) (neg : Bool) (L : Int) : Num :=
  let k := (L.fmod (2 ^ F)).toNat
  let j := L.fdiv (2 ^ F)
  if k = 0 then .fin neg 1 j else .fin neg (2 * root2 F k 64 + 1) (j - 65)

/-- The sign and log field of a Hazel code; `none` for a NaN (R34). -/
inductive HazelVal where
  | nan
  | zero
  | inf (neg : Bool)
  | log (neg : Bool) (L : Int)
  deriving DecidableEq, Repr

/-- Reading a Hazel code (R34). -/
def hazelOf (fmt : Format) (c : Nat) : HazelVal :=
  let w := fmtBits fmt
  let neg := c / 2 ^ (w - 1) % 2 == 1
  let f := c % 2 ^ (w - 1)
  match hazelPar fmt with
  | none => .nan
  | some (_, B, cmax) =>
    if f = 0 then (if neg then .nan else .zero)
    else if f > cmax then .inf neg
    else .log neg ((f : Int) - B)

/-- The signed value of a two's complement code of `w` bits. -/
def signedOf (w c : Nat) : Int :=
  let c := c % 2 ^ w
  if c < 2 ^ (w - 1) then (c : Int) else (c : Int) - (2 ^ w : Nat)

/-- The flush of a subnormal operand or result to a zero of its sign in the EM7 mode (R32). -/
def ftzApplies : Format → Bool
  | .bf16 | .fp16 | .fp32 => true
  | _ => false

/-- The value of an element code (R30, R34, R36); in the flush-to-zero mode a subnormal BF16, FP16 or FP32 code reads
as zero (R32). The scale of a block format is applied by `applyScale`. -/
def decode (fmt : Format) (ftz : Bool) (code : Word) : Num :=
  let c := code.toNat
  match fmt with
  | .e8m0 => if c % 256 = 0xFF then .nan else .fin false 1 ((c % 256 : Nat) - (127 : Int))
  | .int8 => Num.ofInt (signedOf 8 c)
  | .int32 => Num.ofInt (signedOf 32 c)
  | .hazel8 | .hazel16 =>
    (match hazelOf fmt c with
     | .nan => .nan
     | .zero => .zero
     | .inf s => .inf s
     | .log s L => hazelLinear (if fmt = .hazel8 then 2 else 7) s L)
  | fmt =>
    match fpar fmt with
    | none => .nan
    | some f =>
      (match decodeFp fmt f c with
       | .fin s m e => if ftz && ftzApplies fmt && decide (m < 2 ^ (f.p - 1)) then .fin s 0 0 else .fin s m e
       | v => v)

/-- The scale of an MX block applied as an exact change of exponent; a scale of 0xFF makes the element NaN (R33). -/
def applyScale (scale : Byte) (v : Num) : Num :=
  if scale = 0xFF#8 then .nan else v.scale ((scale.toNat : Int) - 127)

/-- What an overflowing conversion does: the code of the largest finite magnitude, of an infinity, or of a NaN (R41). -/
def overflowToMax (ovf : Overflow) (rnd : Rnd) (neg : Bool) : Bool :=
  match ovf with
  | .sat => true
  | .nonsat =>
    match rnd with
    | .rne => false
    | .sr _ => false
    | .rtz => true
    | .rup => neg
    | .rdn => !neg

/-- Narrowing a value to a floating-point format (R40, R41): the code and the flags. A plain E2M1 destination, for which the
manual's table of non-finite sources has no row, takes a NaN to code 0 without a flag and an infinity to the largest
magnitude with OF: DESIGN CHOICE (log entry 82). -/
def encodeFp (fmt : Format) (f : FPar) (rnd : Rnd) (ovf : Overflow) (ftz : Bool) (v : Num) : Word × Flg :=
  let maxCode (neg : Bool) : Word := withSign f.width neg (f.magCode f.maxM f.maxQ)
  let infCode (neg : Bool) : Word := withSign f.width neg (infMag f)
  let nanW : Word := BitVec.ofNat 64 (nanCode fmt)
  match v with
  | .nan => (nanW, 0#4)
  | .inf neg =>
    if fmtHasInf fmt then (infCode neg, 0#4)
    else (match ovf with
      | .sat => (maxCode neg, flOF)
      | .nonsat => (nanW, flNV))
  | .fin neg m e =>
    if m = 0 then (withSign f.width neg 0, 0#4)
    else
      let r := f.round rnd neg m e
      if r.beyond then
        (if overflowToMax ovf rnd neg then (maxCode neg, flOF ||| flNX)
         else if fmtHasInf fmt then (infCode neg, flOF ||| flNX)
         else (nanW, flOF ||| flNX ||| flNV))
      else if ftz && ftzApplies fmt && decide (r.n ≠ 0) && decide (r.n < 2 ^ (f.p - 1)) then
        (withSign f.width neg 0, flUF ||| flNX)
      else
        (withSign f.width neg (f.magCode r.n r.q), flIf (r.tiny && r.inexact) flUF ||| flIf r.inexact flNX)

/-- floor(2^F × log2 x) for x = m × 2^e. -/
def logFloor (F : Nat) (m : Nat) (e : Int) : Int :=
  (Nat.log2 (m ^ (2 ^ F)) : Int) + 2 ^ F * e

/-- Narrowing a value to a Hazel format, rounded in the log domain (R37, R40, R41). A dyadic value is never a tie
between two log fields, and it is exact only if it is a power of two. -/
def encodeHazel (fmt : Format) (rnd : Rnd) (ovf : Overflow) (v : Num) : Word × Flg :=
  match hazelPar fmt with
  | none => (0#64, 0#4)
  | some (F, B, cmax) =>
    let w := fmtBits fmt
    let nanW : Word := BitVec.ofNat 64 (nanCode fmt)
    let maxCode (neg : Bool) : Word := withSign w neg cmax
    match v with
    | .nan => (nanW, 0#4)
    | .inf neg =>
      if fmt = .hazel16 then (withSign w neg 0x7FFF, 0#4)
      else (match ovf with
        | .sat => (maxCode neg, flOF)
        | .nonsat => (nanW, flNV))
    | .fin neg m e =>
      if m = 0 then (0#64, 0#4)
      else
        let fl := logFloor F m e + B
        let c := if rnd = .rtz then fl else (logFloor (F + 1) m e + 1).fdiv 2 + B
        let ix : Bool := !decide (m = 2 ^ Nat.log2 m)
        if fl < 1 then
          (if fl ≥ 1 - 2 ^ F then (withSign w neg 1, flUF ||| flNX) else (0#64, flUF ||| flNX))
        else if c > (cmax : Int) then
          (if overflowToMax ovf rnd neg then (maxCode neg, flOF ||| flNX)
           else if fmt = .hazel16 then (withSign w neg 0x7FFF, flOF ||| flNX)
           else (nanW, flOF ||| flNX ||| flNV))
        else (withSign w neg c.toNat, flIf ix flNX)

/-- Converting a Hazel code to a Hazel format, formed on the log fields themselves (R37, R40, R41): Hazel8 to Hazel16 is
exact, and Hazel16 to Hazel8 rounds the field, ties to the even code under RNE. -/
def recodeHazel (src dst : Format) (rnd : Rnd) (ovf : Overflow) (code : Word) : Word × Flg :=
  match hazelPar src, hazelPar dst with
  | some (F, _, _), some (G, B, cmax) =>
    let w := fmtBits dst
    let maxCode (neg : Bool) : Word := withSign w neg cmax
    (match hazelOf src code.toNat with
     | .nan => (BitVec.ofNat 64 (nanCode dst), 0#4)
     | .zero => (0#64, 0#4)
     | .inf neg =>
       if dst = .hazel16 then (withSign w neg 0x7FFF, 0#4)
       else (match ovf with
         | .sat => (maxCode neg, flOF)
         | .nonsat => (BitVec.ofNat 64 (nanCode dst), flNV))
     | .log neg L =>
       if F ≤ G then (withSign w neg (L * 2 ^ (G - F) + B).toNat, 0#4)
       else
         let q : Nat := 2 ^ (F - G)
         let x : Int := L + B * q
         let fl := x.fdiv q
         let rest := (x.fmod q).toNat
         let up : Bool := decide (rnd ≠ .rtz) && (decide (q < 2 * rest) || (decide (2 * rest = q) && fl % 2 == 1))
         let c := if up then fl + 1 else fl
         if fl < 1 then
           (if x ≥ (1 - 2 ^ G) * q then (withSign w neg 1, flUF ||| flNX) else (0#64, flUF ||| flNX))
         else if c > (cmax : Int) then
           (if overflowToMax ovf rnd neg then (maxCode neg, flOF ||| flNX)
            else (BitVec.ofNat 64 (nanCode dst), flOF ||| flNX ||| flNV))
         else (withSign w neg c.toNat, flIf (rest ≠ 0) flNX))
  | _, _ => (code, 0#4)

/-- Narrowing a value to INT8 (R40, R41): the mode is always SAT, and UF is never set. -/
def encodeInt8 (rnd : Rnd) (v : Num) : Word × Flg :=
  match v with
  | .nan => (0#64, flNV)
  | .inf neg => (if neg then 0x80#64 else 0x7F#64, flNV)
  | .fin neg m e =>
    let (n, ix) := roundAt rnd neg m e 0
    let lim := if neg then 128 else 127
    if n > lim then (if neg then 0x80#64 else 0x7F#64, flOF ||| flNX)
    else (BitVec.ofNat 64 (if neg then (256 - n) % 256 else n), flIf ix flNX)

/-- The overflow mode in force: always SAT for INT8, E2M1 and MX elements (R41). -/
def ovfOf (fmt : Format) (ovf : Overflow) : Overflow :=
  match fmt with
  | .int8 | .e2m1 | .mxfp4 | .mxfp8e4m3 | .mxfp8e5m2 => .sat
  | _ => ovf

/-- Converting a value to the code of a format: code and flags. E8M0 and INT32 are no conversion's destination
(R467); the callers refuse them. -/
def encode (fmt : Format) (rnd : Rnd) (ovf : Overflow) (ftz : Bool) (v : Num) : Word × Flg :=
  match fmt with
  | .int8 => encodeInt8 rnd v
  | .hazel8 | .hazel16 => encodeHazel fmt rnd ovf v
  | .e8m0 | .int32 => (0#64, 0#4)
  | fmt =>
    match fpar fmt with
    | none => (0#64, 0#4)
    | some f => encodeFp fmt f rnd (ovfOf fmt ovf) ftz v

/-- Converting an element of a loaded operand, its code and its value, to the format a load asks for (R39, R40): a Hazel
source widens by RNE whatever the descriptor names, and between the Hazel formats the log fields are converted. -/
def convCode (src dst : Format) (rnd : Rnd) (ovf : Overflow) (ftz : Bool) (code : Word) (v : Num) : Word × Flg :=
  match hazelPar src, hazelPar dst with
  | some _, some _ => recodeHazel src dst rnd ovf code
  | some _, none =>
    (match dst with
     | .bf16 | .fp16 | .fp32 | .fp64 => encode dst .rne ovf ftz v
     | _ => encode dst rnd ovf ftz v)
  | none, _ => encode dst rnd ovf ftz v

/-- A value rounded to FP32: the code and the flags. -/
def toF32 (rnd : Rnd) (ftz : Bool) (v : Num) : Word32 × Flg :=
  let (c, f) := encodeFp .fp32 fp32Par rnd .nonsat ftz v
  (c.truncate 32, f)

/-- The value of an FP32 code. -/
def ofF32 (ftz : Bool) (c : Word32) : Num := decode .fp32 ftz (c.zeroExtend 64)

/-- Whether a code is a NaN of its format (R98). -/
def codeIsNan (fmt : Format) (c : Word) : Bool := (decode fmt false c).isNan

/-- Whether a code is an infinity of its format (R98). -/
def codeIsInf (fmt : Format) (c : Word) : Bool := (decode fmt false c).isInf

/-- Whether the compiler may name a rounding mode for a conversion to `fmt` (R37): the converters have RNE, RTZ and,
for FP8, MX elements, BF16 and FP16, SR. -/
def convModeOk (fmt : Format) (r : Rounding) : Bool :=
  match r with
  | .rne | .rtz => true
  | .rup | .rdn => false
  | .sr =>
    match fmt with
    | .e4m3 | .e5m2 | .e2m1 | .bf16 | .fp16 | .mxfp8e4m3 | .mxfp8e5m2 | .mxfp4 => true
    | _ => false

/-- emax of an MX element format (R42). -/
def mxEmax : Format → Int
  | .mxfp8e4m3 => 8
  | .mxfp8e5m2 => 15
  | _ => 2

/-- The largest finite magnitude of a block as floor(log2 a); `none` when no element is finite and nonzero (R42). -/
def blockLog : List Num → Option Int
  | [] => none
  | .fin _ m e :: vs =>
    let rest := blockLog vs
    if m = 0 then rest
    else
      let l := (Nat.log2 m : Int) + e
      some (match rest with
        | none => l
        | some r => max l r)
  | _ :: vs => blockLog vs

/-- The largest magnitude of a block-scaled element format: `maxM × 2^maxQ`. -/
def mxMax (fmt : Format) : Num :=
  match fpar fmt with
  | some f => .fin false f.maxM f.maxQ
  | none => .zero

/-- One element of an MX block (R42): divided by the scale and rounded in SAT mode. An element rounded down to the
largest magnitude sets NX only, and OF as well when the scale was clamped at 127. -/
def mxElem (fmt : Format) (rnd : Rnd) (sexp : Int) (clamped : Bool) (v : Num) : Word × Flg :=
  let q := v.scale (-sexp)
  match q with
  | .fin _ _ _ =>
    let (c, f) := encode fmt rnd .sat false q
    if f &&& flOF ≠ 0#4 then (c, flNX ||| flIf clamped flOF) else (c, f)
  | q => encode fmt rnd .sat false q

/-- Quantising one MX block (R42): the scale code, the element codes and the flags. Each element comes with its own
rounding, since SR draws for each. -/
def mxBlock (fmt : Format) (vs : List (Num × Rnd)) : Byte × List Word × Flg :=
  let vals := vs.map Prod.fst
  let special := vals.any fun v => v.isNan || v.isInf
  if fmt = .mxfp4 && special then
    (0xFF#8, vs.map fun _ => 0#64, flIf (vals.any Num.isInf) flNV)
  else
    match blockLog vals with
    | none =>
      let es := vs.map fun v => mxElem fmt v.2 (-127) false v.1
      (0#8, es.map Prod.fst, es.foldl (fun a e => a ||| e.2) 0#4)
    | some l =>
      let se := l - mxEmax fmt
      let s := max (-127) (min 127 se)
      let es := vs.map fun v => mxElem fmt v.2 s (decide (se > 127)) v.1
      (BitVec.ofInt 8 (s + 127), es.map Prod.fst, es.foldl (fun a e => a ||| e.2) 0#4)

end Sys2Proof.Machine
end

