-- ==== Sys2Proof/Machine/CollState.lean ====
section
/-! DEFINITION. The collective engine: job slots, streams, bucket contexts, Reel and Hora (R234 to R271). -/

namespace Sys2Proof.Machine

/-- A collective descriptor (R242). -/
structure CollDesc where
  deadline : Nat
  status : Nat
  result : Nat
  source : Nat
  areaA : Nat
  areaB : Nat
  areaC : Nat
  areaD : Nat
  length : Nat
  bucket : Nat
  step : Nat
  root : Nat
  slot : Nat
  op : Nat
  redOp : Nat
  scope : Bool
  kind : Bool
  deriving DecidableEq, Repr

/-- A child of a node (R244, R254): its OPEN (COUNT and ELEMENTS), the segments it has sent that the node has not
consumed, and whether it is excluded. -/
structure Child where
  opened : Option (Nat × Nat)
  segs : SMap (List Byte)
  excluded : Bool
  deriving DecidableEq, Repr

/-- A child of which nothing has arrived. -/
def Child.none_ : Child := ⟨none, [], false⟩

/-- A node of the reduction tree that this device hosts (R244, R245). -/
structure CNode where
  left : Child
  right : Child
  /-- its output's OPEN has gone -/
  opened : Bool
  /-- segments consumed -/
  next : Nat
  deriving DecidableEq, Repr

/-- A node before anything has arrived. -/
def CNode.fresh : CNode := ⟨.none_, .none_, false, 0⟩

/-- This device's contribution (R248, R254 to R256). -/
structure Own where
  /-- its OPEN may go: it is issued, and staged where staging applies -/
  ready : Bool
  /-- it is sent empty, with COUNT 0 (R256) -/
  empty : Bool
  /-- it is excluded or its holder is gone: nothing of it is sent -/
  gone : Bool
  opened : Bool
  /-- segments sent -/
  next : Nat
  /-- segments captured from walnut drains or from staging -/
  data : SMap (List Byte)
  /-- byte ranges that drains have delivered: first and end -/
  got : List (Nat × Nat)
  /-- a byte was delivered twice: the contribution takes free bytes (R248) -/
  free : Option Nat
  /-- the beat at which it was staged (R255) -/
  stagedAt : Option Nat
  /-- the carry buffer added as it is sent (R255) -/
  carry : Option Nat
  deriving DecidableEq, Repr

/-- A contribution not yet issued. -/
def Own.fresh : Own := ⟨false, false, false, false, 0, [], [], none, none, none⟩

/-- A bucket context, or another operation of a slot, by its key (R250). -/
structure CollCtx where
  step : Tag
  bucket : BitVec 16
  /-- what this device was told to do; `none` while only packets have opened the context -/
  desc : Option CollDesc
  /-- the partition group whose program or driver started it is gone (R267) -/
  detached : Bool
  /-- it is the vote of a Reel (R263), and its outcome has been applied -/
  vote : Bool
  decided : Bool
  /-- packets of the upward tree have shown it to be an ALL_REDUCE -/
  upSeen : Bool
  upDone : Bool
  own : Own
  nodes : SMap CNode
  /-- producers up to this level send nothing: their span is excluded (R254) -/
  cut : Option Nat
  /-- the root's output -/
  collect : SMap (List Byte)
  /-- COUNT of the top node's output, and of the result with NAN -/
  topCount : Nat
  result : Option (Nat × Bool)
  /-- offsets of segments received of the result, or of gathered pieces -/
  got : List Nat
  /-- deliveries held for a holder context that is not RESIDENT, by offset: the address, the bytes and the stream from
  which they came (R238) -/
  held : SMap (Nat × List Byte × Nat)
  /-- packets kept until the operation is issued, and whether they have been forwarded -/
  raw : List (Packet × Bool)
  perfSegs : Nat
  perfBytes : Nat
  selfExcluded : Bool
  carriedIn : Bool
  carriedOut : Bool
  /-- Hora: bytes performed by transfer, HORA_FREEs received, steps released, the transfer now sent and its offset,
  and HORA_FREEs sent (R265, R266) -/
  horaGot : SMap Nat
  /-- Hora, forward: segments that have arrived and have not been passed on, by offset (R266) -/
  horaIn : SMap (List Byte)
  horaFrees : Nat
  horaReleased : Nat
  horaSend : Nat
  horaOff : Nat
  horaFreed : Nat
  deriving DecidableEq, Repr

/-- A context as it opens. -/
def CollCtx.fresh (step : Tag) (bucket : BitVec 16) : CollCtx :=
  { step := step, bucket := bucket, desc := none, detached := false, vote := false, decided := false, upSeen := false,
    upDone := false, own := .fresh, nodes := [], cut := none, collect := [], topCount := 0, result := none, got := [],
    held := [], raw := [], perfSegs := 0, perfBytes := 0, selfExcluded := false, carriedIn := false,
    carriedOut := false, horaGot := [], horaIn := [], horaFrees := 0, horaReleased := 0, horaSend := 0, horaOff := 0, horaFreed := 0 }

/-- A stream that this device sends: packets that wait, data segments sent, and the count the receiver has consumed
(R241, R247). -/
structure OutStream where
  queue : List Packet
  sent : Nat
  acked : Nat
  deriving DecidableEq, Repr

/-- A stream that this device receives: data segments consumed, the count last returned, and the key of the last
context that ended on it (R247, R249). -/
structure InStream where
  consumed : Nat
  told : Nat
  ended : Option (Tag × BitVec 16)
  deriving DecidableEq, Repr

/-- A move of a Reel: PEER, DIR, REGION, SRC, OFFSET and BYTES (R261). -/
structure ReelMove where
  peer : Nat
  dir : Nat
  region : Nat
  src : Nat
  offset : Nat
  bytes : Nat
  deriving DecidableEq, Repr

/-- A slot that a Reel has made PENDING (R262): the member partition, the version-table index, NEW_BASE, the slot, and
whether the Reel created the entry. -/
structure ReelRegion where
  part : Nat
  region : Nat
  base : Nat
  slot : Nat
  created : Bool
  deriving DecidableEq, Repr

/-- The holder's part of a Reel: it takes part, its context is torn down, or its partition has been reset (R264, R267). -/
inductive ReelPart where
  | live | torn | reset
  deriving DecidableEq, Repr

/-- A Reel (R261 to R264). -/
structure ReelSt where
  desc : CollDesc
  regions : List ReelRegion
  /-- the RECEIVE moves, and the segments of them performed: region, offset and length -/
  receives : List ReelMove
  got : List (Nat × Nat × Nat)
  /-- member-table entries of the voters -/
  voters : List Nat
  /-- its state, coded as REEL_STATE -/
  state : Nat
  /-- the beat at which it became READY (R263) -/
  readyAt : Option Nat
  /-- the vote has been decided -/
  decided : Bool
  part : ReelPart
  /-- deliveries held for a holder context that is not RESIDENT, by address: region, offset, bytes and stream (R238) -/
  held : SMap (Nat × Nat × List Byte × Nat)
  deriving DecidableEq, Repr

/-- A status record on its way to STATUS_ADDR (R243): its operation and code, the holder's context, the CTX_STATUS fields
below STATE that stand until it is written (R271), and its bytes. -/
structure CollRecord where
  key : Nat
  op : Nat
  code : Nat
  ctx : Nat
  addr : Nat
  word : Nat
  bytes : List Byte
  deriving DecidableEq, Repr

/-- A contribution that waits for one of 256 contexts (R249): the core that issued it, none for the driver. -/
structure CollWait where
  core : Option Nat
  desc : CollDesc
  deriving DecidableEq, Repr

/-- A job slot beside its objects (R234 to R271). -/
structure CollSlot where
  /-- member-table entries read at ENABLE (R235) -/
  members : List Nat
  /-- deadlines of the two most recently named steps, newest first: step and beat -/
  deadlines : List (Nat × Nat)
  ctxs : SMap CollCtx
  outs : SMap OutStream
  ins : SMap InStream
  /-- carried data: bucket identifier and CARRY_ADDR (R255) -/
  carries : SMap Nat
  /-- ended operations by key: OP and CODE, for COLLECTIVE gates -/
  finished : SMap (Nat × Nat)
  /-- operations REFUSED to a group that does not hold the slot: its lead and the key -/
  refusals : List (Nat × Nat)
  /-- status records held for a holder context that is not RESIDENT -/
  records : List CollRecord
  /-- Reels by sequence number -/
  reels : SMap ReelSt
  /-- contributions that wait for a context, oldest first -/
  waiting : List CollWait
  /-- contexts that ended while their excluded contribution was still being staged (R255) -/
  late : SMap CollCtx
  deriving DecidableEq, Repr

/-- A slot as chip reset leaves it. -/
def CollSlot.reset : CollSlot := ⟨[], [], [], [], [], [], [], [], [], [], [], []⟩

end Sys2Proof.Machine
end

