-- ==== Sys2Proof/Machine/DevState.lean ====
section
/-! DEFINITION. The device-wide units: power and clocks, security engine, hang ladder and self-test, Tango engine, failure
detector and health scores (R301 to R351, R405 to R453). -/

namespace Sys2Proof.Machine

/-! ## Power, clocks and thermal -/

/-- The rails of the device: all on, all but the always-on rail off after a thermal trip (R422), or all off. -/
inductive PowerMode where
  | on | tripped | off
  deriving DecidableEq, Repr

/-- The requests for a cluster's clock beside the power cap (R409, R411), and its sleep (R413). -/
structure ClusterClk where
  avfsMhz : Nat
  thMhz : Nat
  thAllowed : Nat
  asleep : Bool
  /-- it is asleep and a demand is waking it (R416) -/
  waking : Bool
  /-- readings in a row, 10 µs apart, below the throttle threshold less 3 °C since the thermal request last moved (R411) -/
  coolTicks : Nat
  deriving DecidableEq, Repr

/-- A cluster's requests after chip reset: log entry 55. -/
def ClusterClk.reset : ClusterClk := ⟨1100, 1350, 16, false, false, 0⟩

/-- Power, clocks and thermal beside their objects. -/
structure PowSt where
  mode : PowerMode
  clusters : SMap ClusterClk
  /-- the regulators read at or above their throttle limit (R421) -/
  regHot : Bool
  /-- stacks at or above 85 °C and at or above 95 °C (R411) -/
  stackWarm : SMap Bool
  stackHot : SMap Bool
  /-- the input is or was between 36 V and 38 V: at most 8 issue slots (R405) -/
  uvGate : Bool
  /-- issue slots allowed before the fast cut in force (R410) -/
  preCut : Nat
  /-- a brown-out has destroyed the keys since retention entry (R420) -/
  brownedOut : Bool
  /-- channels of groups in partition-off that an access has woken (R416) -/
  awake : List Nat
  /-- channels that an access is waking -/
  wakingCh : List Nat
  /-- samples of the power loop before its next step (R410), and input energy below 1 mJ in nanojoules (R423) -/
  capWait : Nat
  energyFrac : Nat
  /-- consecutive beats of NO_WORK by cluster, and of being drained by group lead (R413, R415) -/
  noWork : SMap Nat
  drained : SMap Nat
  /-- PWR_CYCLE_REQ is asserted (R344) -/
  cycleReq : Bool
  /-- retention masks written during retention entry, in force after exit (R138) -/
  retainLate : SMap (Option Word)
  /-- the retention masks in force when an entry to partition-off or Retention began, by device core (R138) -/
  offMasks : SMap Word
  /-- the last reading of the hottest retention-domain sensor, in thousandths of a degree (R419) -/
  retTemp : Option Int
  /-- management clock at the last health event for the retention current (R419) -/
  retWarnAt : Option Nat
  deriving DecidableEq, Repr

/-- After chip reset. -/
def PowSt.reset : PowSt :=
  { mode := .on, clusters := [], regHot := false, stackWarm := [], stackHot := [], uvGate := false, preCut := 16,
    brownedOut := false, awake := [], wakingCh := [], capWait := 0, energyFrac := 0, noWork := [], drained := [],
    cycleReq := false, retainLate := [], offMasks := [], retTemp := none, retWarnAt := none }

/-! ## Security -/

/-- What the flash, or the running firmware, says of an image (R430). -/
structure ImgInfo where
  valid : Bool
  version : Word32
  svn : Nat
  digest : List Byte
  deriving DecidableEq, Repr

/-- A bank whose image passes; its version, SVN and digest at manufacture are the model's (log entry 56). -/
def ImgInfo.factory : ImgInfo := ⟨true, 0#32, 0, []⟩

/-- An image as the security engine has read it: whether its header and its body pass the checks of R430 that need no
key. -/
structure ImgRead where
  headOk : Bool
  bodyOk : Bool
  info : ImgInfo
  deriving DecidableEq, Repr

/-- An attestation request in progress, with the fields taken at the request (R436). -/
structure AttReq where
  part : Nat
  addr : Nat
  lead : Nat
  beat : Nat
  nonce : List Word
  tag : Word
  deriving DecidableEq, Repr

/-- A partition reset that waits for a reclaim (R440). -/
structure WaitReset where
  part : Nat
  sample : Bool
  cause : Nat
  deriving DecidableEq, Repr

/-- The security engine. -/
structure SecSt where
  bank0 : ImgInfo
  bank1 : ImgInfo
  /-- the bank that is not active holds a passing update, and becomes active at the next boot (R432) -/
  nextBank : Bool
  /-- the update that is running (R432) -/
  update : Option ImgRead
  running : Option ImgInfo
  attest : List AttReq
  waitReset : List WaitReset
  /-- what the bring-up under way observes, until its step 5 has ended (R445) -/
  obs : Option BringupObs
  deriving DecidableEq, Repr

/-- As manufactured. -/
def SecSt.reset : SecSt := ⟨.factory, .factory, false, none, none, [], [], none⟩

/-! ## Hang detection, resets, self-test -/

/-- An entry of the hang log (R349, R351). -/
structure HangEntry where
  rung : Nat
  cause : Nat
  escalated : Bool
  reported : Bool
  part : Nat
  core : Nat
  ctx : Nat
  tile : Nat
  beat : Nat
  deriving DecidableEq, Repr

/-- A rung 1 or 2 under way on a partition group (R327): the launch, and since when; rung 2 names its cores. -/
structure RungSt where
  rung : Nat
  launch : Nat
  ctx : Nat
  core : Nat
  tile : Nat
  since : Nat
  cores : List Nat
  deriving DecidableEq, Repr

/-- A partition reset under way: whether a sample is due, the cause, and the beats in which it and its phase began (R338,
R339). -/
structure ResetRun where
  sample : Bool
  cause : Nat
  since : Nat
  phaseAt : Nat
  deriving DecidableEq, Repr

/-- A self-test deferred or running: with its HBM part, and started by BOOT_BIST (R347, R452). -/
structure BistRun where
  hbm : Bool
  boot : Bool
  deriving DecidableEq, Repr

/-- The hang ladder. -/
structure HangSt where
  /-- newest first, at most 32 -/
  log : List HangEntry
  /-- rungs 1 and 2 under way, by launch; partition resets, by group lead; self-tests, by partition -/
  rungs : SMap (Option RungSt)
  resets : SMap (Option ResetRun)
  bist : SMap (Option BistRun)
  /-- management clock at the watchdog's first expiry (R335) -/
  mcFirst : Option Nat
  /-- management clock at a chip reset that rung 4 started and that is not complete (R327) -/
  chip : Option Nat
  deriving DecidableEq, Repr

/-- After power-up. -/
def HangSt.reset : HangSt := ⟨[], [], [], [], none, none⟩

/-! ## Tango -/

/-- States of a bank (R303). -/
inductive TBankSt where
  | empty | filling | complete
  deriving DecidableEq, Repr

/-- The header's record of a bank (R303). -/
structure TBank where
  st : TBankSt
  tag : Tag
  bytes : Nat
  chunks : Nat
  addr : FabAddr
  epoch : Epoch
  deriving DecidableEq, Repr

/-- An EMPTY bank. -/
def TBank.empty : TBank := ⟨.empty, 0, 0, 0, 0, 0⟩

/-- A slot that a mirror copies (R305): partition, region, slot, base, bytes, and whether the mirror's bind on it
stands. -/
structure MSlot where
  part : Nat
  region : Nat
  slot : Nat
  base : Nat
  size : Nat
  bound : Bool
  deriving DecidableEq, Repr

/-- A mirror under way (R308): its control record is the one of its fence. -/
structure Mirror where
  tag : Tag
  fence : Nat
  bank : Nat
  slots : List MSlot
  /-- the control record, by offset -/
  record : Mem
  bytes : Nat
  chunks : Nat
  /-- chunks sent and acknowledged; `begun` once BEGIN has gone -/
  sent : Nat
  acked : Nat
  begun : Bool
  late : Bool
  deriving DecidableEq, Repr

/-- A restore under way (R319): pieces still to send, as offset in the bank, target address and bytes; the number of the
next PEER write; those not yet acknowledged with their bytes, and whether one was refused. -/
structure TRestore where
  addr : FabAddr
  todo : List (Nat × Nat × Nat)
  seq : Nat
  outstanding : List (Nat × Nat)
  refused : Bool
  deriving DecidableEq, Repr

/-- The Tango engine beside its objects. -/
structure TangoSt where
  bank0 : TBank
  bank1 : TBank
  /-- PAIR_ADDR and PAIR_EPOCH of the reserve header -/
  pair : Option (FabAddr × Epoch)
  frozen : Bool
  /-- this device's PAIR has been sent on this pairing -/
  pairSent : Bool
  /-- PAIR received: partner's address, epoch, role, reserve bytes and banks -/
  heard : Option (FabAddr × Epoch × Nat × Nat × Nat)
  /-- UNPAIR stands until a TANGO port next reaches ACTIVE -/
  unpaired : Bool
  list : SMap Word
  /-- the list changes at the next mirror fence: the list in force -/
  inForce : List (Nat × Nat)
  mirror : Option Mirror
  /-- what this device knows of the partner's banks: the tag of the COMPLETE image in each -/
  peer0 : Option Tag
  peer1 : Option Tag
  /-- a fence that waits: its tag, its beat, and whether it has been counted late -/
  waiting : Option (Tag × Nat × Bool)
  /-- tag of the newest fence seen -/
  lastFence : Option Tag
  /-- binds of the released tag: partition, region, slot (R310) -/
  relBinds : List (Nat × Nat × Nat)
  /-- receiver: the bank named by the current BEGIN, and the bytes performed by chunk -/
  rxBank : Option Nat
  rxBytes : SMap Nat
  restore : Option TRestore
  /-- RESUME has been sent and not answered -/
  resumeSent : Bool
  /-- the mirror was suspended by PAUSE -/
  paused : Bool
  deriving DecidableEq, Repr

/-- After chip reset: unpaired, every bank EMPTY. -/
def TangoSt.reset : TangoSt :=
  { bank0 := .empty, bank1 := .empty, pair := none, frozen := false, pairSent := false, heard := none, unpaired := false,
    list := [], inForce := [], mirror := none, peer0 := none, peer1 := none, waiting := none, lastFence := none,
    relBinds := [], rxBank := none, rxBytes := [], restore := none, resumeSent := false, paused := false }

/-! ## Failure detector and health -/

/-- An entry of the suspect table (R316): the beats of its events within the window, newest first. -/
structure Suspect where
  addr : FabAddr
  epoch : Epoch
  cause : Nat
  events : List Nat
  firstNs : Nat
  suspect : Bool
  dead : Bool
  deriving DecidableEq, Repr

/-- A patrol scrub: the address its next read is due at or after, from the start of its memory, whether a pass is under way,
and the management clock at which that pass began, or before which the next may not begin (R149). -/
structure Scrub where
  at_ : Nat
  running : Bool
  since : Nat
  deriving DecidableEq, Repr

/-- No pass has begun. -/
def Scrub.reset : Scrub := ⟨0, false, 0⟩

/-- The detector and the health scores beside their objects. -/
structure HealthSt where
  /-- the suspect table, by entry 0 to 15 -/
  suspects : SMap Suspect
  /-- addresses under TRUST, with the beat until which their events are ignored (R317) -/
  trusted : List (FabAddr × Nat)
  /-- probes not yet answered: address and beat -/
  probes : List (FabAddr × Nat)
  /-- the beat at which a job slot's probes last went out (R316) -/
  probedAt : SMap (Option Nat)
  /-- beat of the last flit on a TANGO port, or of the last event for its absence -/
  lastTango : Nat
  /-- parts in probation, by part code (R324) -/
  probation : SMap Bool
  /-- w_i and T_i, by input, where they differ from the factory's (R321) -/
  inputs : SMap (Option Word)
  /-- shadow counters by object key, and their values at the last 60 sub-window ends, newest first (R321) -/
  shadow : SMap Nat
  snaps : List (SMap Nat)
  scores : SMap Nat
  /-- parts under a recommendation: 1 PROBATION, 2 EXPEL -/
  recs : SMap Nat
  /-- management clock at the last EXPEL (R323) -/
  lastExpel : Option Nat
  /-- checkable tiles of the current ten thousand, and samples among them (R322) -/
  spotSeen : SMap Nat
  spotTaken : SMap Nat
  /-- spot-check cycles of a cluster in the sub-window, and the management clock at the sub-window's start (R21) -/
  spotCycles : SMap Nat
  subStart : Nat
  /-- the patrol scrubs of HBM and of the scratchpad (R149) -/
  scrubHbm : Scrub
  scrubSpad : Scrub
  deriving DecidableEq, Repr

/-- After chip reset. -/
def HealthSt.reset : HealthSt :=
  { suspects := [], trusted := [], probes := [], probedAt := [], lastTango := 0, probation := [], inputs := [], shadow := [], snaps := [],
    scores := [], recs := [], lastExpel := none, spotSeen := [], spotTaken := [], spotCycles := [], subStart := 0,
    scrubHbm := .reset, scrubSpad := .reset }

/-- A quiet request that this device has taken as a peer (R196 step 6): it injects nothing for the job and context toward
the address until the hold of R198 has passed; `owed` until its acknowledgement has gone. -/
structure Quiet where
  addr : FabAddr
  job : Nat
  ctx : Nat
  pkt : Packet
  owed : Bool
  beat : Nat
  deriving DecidableEq, Repr

end Sys2Proof.Machine
end

