-- ==== Sys2Proof/Machine/DmaState.lean ====
section
/-! DEFINITION. The DMA channels and engines (R157 to R173). -/

namespace Sys2Proof.Machine

/-- States of a DMA channel (R158). -/
inductive DmaState where
  | idle | ready | running | halted
  deriving DecidableEq, Repr

/-- An arrival fence that has not completed (R166, R167). -/
structure DmaFence where
  /-- the beat counter at issue -/
  issued : Nat
  /-- sequence numbers of the PEER writes it covers that are not yet acknowledged -/
  covers : List Nat
  /-- it covers a PEER write that the receiver refused -/
  refused : Bool
  /-- the functions whose HOST writes it covers: a zero-length read to each is on its way -/
  host : List Nat
  irq : Bool
  /-- the transfer whose ARRIVE field asked for it; none for one that CONTROL or a program issued -/
  xfer : Option Nat
  deriving DecidableEq, Repr

/-- A DMA channel: window fields of R159, position of the active transfer and its fences. -/
structure DmaCh where
  shadow : BitVec 512
  armed : Bool
  /-- the function through which the shadow was armed (R368) -/
  shadowFn : Nat
  active : BitVec 512
  activeFn : Nat
  owner : Bool
  state : DmaState
  lastCode : Nat
  fault : Bool
  evError : Bool
  evArrive : Bool
  evFull : Bool
  evHalf : Bool
  half : Word32
  full : Word32
  arrive : Word32
  /-- row and byte within the row of the next byte to read, of the current pass -/
  row : Nat
  col : Nat
  /-- the bursts read and not yet written, oldest first, and the row and byte of the next byte to write (R165) -/
  staged : List (List Byte)
  wrow : Nat
  wcol : Nat
  /-- a STOP has come: no further read, and the transfer ends once nothing is staged (R171) -/
  stopping : Bool
  /-- the channel was displaced: what was staged then is written before anything else is read (R169) -/
  flushing : Bool
  /-- the transfers promoted so far -/
  xfer : Nat
  /-- the half point of the pass has been reached -/
  halfDone : Bool
  /-- age stamp of the transfer (R193), and the Beat at promotion -/
  age : Nat
  /-- the sequence number of the next PEER write, those not yet acknowledged with the address, job and context they name,
  and whether one was refused that no fence covers yet -/
  seq : Nat
  outstanding : List (Nat × FabAddr × Nat × Nat)
  peerRefused : Bool
  /-- the functions of HOST writes that no fence covers yet -/
  hostFns : List Nat
  fences : List DmaFence
  deriving DecidableEq, Repr

/-- A channel as partition reset leaves it (R159). -/
def DmaCh.reset : DmaCh :=
  { shadow := 0, armed := false, shadowFn := 0, active := 0, activeFn := 0, owner := false, state := .idle,
    lastCode := 0, fault := false, evError := false, evArrive := false, evFull := false, evHalf := false,
    half := 0, full := 0, arrive := 0, row := 0, col := 0, staged := [], wrow := 0, wcol := 0,
    stopping := false, flushing := false, xfer := 0, halfDone := false, age := 0, seq := 0, outstanding := [],
    peerRefused := false, hostFns := [], fences := [] }

/-- An engine's memory of its grants: the channel granted last, and the consecutive bursts granted above each waiting
channel (R169), and the bursts that the last channel may still take in a tie. -/
structure DmaEng where
  last : Option (Fin 16)
  waits : SMap Nat
  turns : Nat
  deriving DecidableEq, Repr

/-- An engine at reset. -/
def DmaEng.reset : DmaEng := ⟨none, [], 0⟩

end Sys2Proof.Machine
end

