-- ==== Sys2Proof/Machine/FabricState.lean ====
section
/-! DEFINITION. The Dzigus ports, the routing and epoch tables and the following of a tempo master (R201 to R233). -/

namespace Sys2Proof.Machine

/-- States of a port (R204). -/
inductive PState where
  | disabled | detect | train | check | active | draining | recal | failed
  deriving DecidableEq, Repr

/-- The code of a port state (R204). -/
def PState.code : PState → Nat
  | .disabled => 0
  | .detect => 1
  | .train => 2
  | .check => 3
  | .active => 4
  | .draining => 5
  | .recal => 6
  | .failed => 7

/-- A packet waiting at an output, with the units of 32 B still to send (R210). -/
structure OutPkt where
  pkt : Packet
  /-- the input it came from: an external port, or 32 for the internal port and the bridge; and the class it came in -/
  inp : Nat
  inCls : Fin 2
  left : Nat
  /-- bodies of other packets granted while this one held the credits it needs (R214) -/
  waited : Nat
  deriving DecidableEq, Repr

/-- A flit kept for replay (R211). -/
structure SentFlit where
  seq : Nat
  link : LinkWord
  body : List Byte
  deriving DecidableEq, Repr

/-- A port (R204, R206, R208 to R214). -/
structure PortSt where
  st : PState
  /-- last FAILED cause: 0 none, 1 training, 2 ROLE_MISMATCH, 3 lock loss, 4 replay, 5 error rate (R233) -/
  cause : Nat
  /-- failed attempts of the training or recalibration under way -/
  attempts : Nat
  /-- the port has trained before: later entries to TRAIN or RECAL count as retrains -/
  trained : Bool
  /-- sender: number of the next flit, flits kept for replay, and bodies outstanding by 2 × VC + class -/
  txNext : Nat
  replay : List SentFlit
  used : SMap Nat
  outQ : List OutPkt
  /-- bodies of other channels since the last VC3 body (R214) -/
  sinceVc3 : Nat
  /-- the flit named by the last NAK, and how often in a row -/
  nakSeq : Option Nat
  nakCount : Nat
  /-- receiver: number of the next flit, whether flits are being discarded, and credits to return -/
  rxNext : Nat
  discarding : Bool
  owed : SMap Nat
  /-- the input buffer, by 2 × VC + class: units of 32 B held, and units still to come of the packet under way (R212) -/
  held : SMap Nat
  coming : SMap Nat
  /-- thousandths of a flit slot due to TEST flits, and bytes of the pattern sent (R233) -/
  testDue : Nat
  testSent : Nat
  /-- receive time of the partner's last TEMPO flit (R226) -/
  tempoRx : Nat
  deriving DecidableEq, Repr

/-- A port as chip reset leaves it, before link training starts. -/
def PortSt.reset : PortSt :=
  { st := .disabled, cause := 0, attempts := 0, trained := false, txNext := 0, replay := [], used := [], outQ := [],
    sinceVc3 := 7, nakSeq := none, nakCount := 0, rxNext := 0, discarding := false, owed := [], held := [], coming := [],
    testDue := 0, testSent := 0, tempoRx := 0 }

/-- A master announcement as heard on a port, and the beat of its last refresh (R228). -/
structure Heard where
  ann : MasterAnn
  at_ : Nat
  deriving DecidableEq, Repr

/-- The fabric side of the device. -/
structure FabricSt where
  ports : SMap PortSt
  /-- routing entries by 65,536 × table + index (R215) -/
  routeA : SMap Word
  routeS : SMap Word
  copying : Bool
  /-- the epoch table (R220) -/
  epochs : SMap (Option Epoch)
  /-- FABRIC_EPOCH has been written since chip reset (R232) -/
  epochSet : Bool
  heard : SMap (Option Heard)
  source : Option Nat
  /-- the master followed, by fabric address and SERIAL -/
  master : Option (FabAddr × Word)
  /-- the device has been LOCKED since chip reset (R229) -/
  everLocked : Bool
  /-- the present source has been measured once -/
  acquired : Bool
  /-- consecutive exchanges with an offset below 10 ns -/
  close : Nat
  /-- nanoseconds still to be corrected by slewing, and for which the counter is held still -/
  slew : Int
  hold : Nat
  /-- beat of the last TEMPO flit from the source, and the Beat at entry to HOLDOVER with the bound then -/
  lastSrc : Nat
  holdSince : Nat
  holdBound : Nat
  /-- masters not followed under R229 while their conflict stands -/
  rejected : List (FabAddr × Word)
  pps : Bool
  deriving DecidableEq, Repr

/-- The fabric side as chip reset leaves it. -/
def FabricSt.reset : FabricSt :=
  { ports := [], routeA := [], routeS := [], copying := false, epochs := [], epochSet := false, heard := [],
    source := none, master := none, everLocked := false, acquired := false, close := 0, slew := 0, hold := 0, lastSrc := 0,
    holdSince := 0, holdBound := 0, rejected := [], pps := false }

end Sys2Proof.Machine
end

