-- ==== Sys2Proof/Machine/HostState.lean ====
section
/-! DEFINITION. The PCI Express functions, their MSI-X vectors and what the device sends out of itself (R352 to R370). -/

namespace Sys2Proof.Machine

/-- An MSI-X table entry and its pending bit (R365, R367). -/
structure MsixVec where
  addr : Word
  data : Word32
  masked : Bool
  pending : Bool
  deriving DecidableEq, Repr

/-- A vector after reset: masked, as the MSI-X standard has it (log entry 20). -/
def MsixVec.reset : MsixVec := ⟨0#64, 0#32, true, false⟩

/-- A function's state (R355, R357, R363, R365, R369). -/
structure FuncSt where
  busMaster : Bool
  d3hot : Bool
  msixEnable : Bool
  msixMask : Bool
  ats : Bool
  relaxed : Bool
  vecs : SMap MsixVec
  /-- FUNC_REFUSE: VALID, BAR, POISONED, COUNT and OFFSET (R363) -/
  refValid : Bool
  refBar : Fin 4
  refPoisoned : Bool
  refCount : Nat
  refOffset : Nat
  deriving DecidableEq, Repr

/-- A function after reset. -/
def FuncSt.reset : FuncSt := ⟨false, false, false, false, false, false, [], false, 0, false, 0, 0⟩

/-- A cached translation: requester, page address and size (R369). -/
structure AtsEntry where
  func : Nat
  page : Nat
  size : Nat
  deriving DecidableEq, Repr

/-- What leaves the device, in order: what an observer outside can see of a step. -/
inductive Out where
  /-- an MSI-X message of a function's vector (R367) -/
  | msix (func vector : Nat)
  /-- an event that no function could signal (R366) -/
  | unsignalled (part k : Nat)
  /-- a DMA write into host memory through a function, with its RO and Translated attributes (R368, R369) -/
  | hostWrite (func addr : Nat) (ro translated : Bool) (data : List Byte)
  /-- the zero-length read of an arrival fence (R166) -/
  | hostFence (func : Nat)
  /-- a packet injected by this device or forwarded out of a port; `none`: the internal port (R216) -/
  | packet (port : Option Nat) (p : Packet)
  /-- a wire flit out of a port: its LINK fields, its place in the sender's numbering and its 272 bytes (R208, R211) -/
  | flit (port : Nat) (link : LinkWord) (seq : Nat) (bytes : List Byte)
  /-- this end's address, port number and role, sent in CHECK (R205) -/
  | identity (port : Nat) (addr : FabAddr) (role : Nat)
  /-- the partner of a port is asked to drain it (R206) -/
  | askDrain (port : Nat)
  /-- a TEMPO flit out of a port: send time, receive time of the partner's last, and announcement (R226) -/
  | tempo (port : Nat) (time rx : Nat) (ann : Option MasterAnn)
  /-- an epoch announcement out of a port, with the SRC and SRC_EPOCH of its header (R219, R223) -/
  | announce (port : Nat) (addr : FabAddr) (epoch : Epoch) (hops : Nat) (src : FabAddr) (srcEpoch : Epoch)
  /-- a CAN FD frame (R373) -/
  | can (id : Nat) (data : List Byte)
  /-- completion of a host read: a status of 0 success, 1 Unsupported Request, 2 Completer Abort, and its RO attribute
  (R362, R363, R368) -/
  | completion (func : Nat) (status : Nat) (ro : Bool) (data : List Byte)
  /-- a Poisoned TLP Received error that a function reports through AER (R363) -/
  | aerPoisoned (func : Nat)
  /-- an ATS invalidation has completed (R369) -/
  | atsDone (func page : Nat)
  deriving DecidableEq, Repr

/-- The host side of the device. -/
structure HostSt where
  funcs : SMap FuncSt
  vfEnable : Bool
  numVfs : Nat
  /-- DOMAIN_SELECT and DOMAIN_OFFSET (R360) -/
  domSelect : Word32
  domOffset : Word32
  atsCache : List AtsEntry
  /-- the PCIe link as it trained last; none while it is down (R353) -/
  link : Option PcieLink
  deriving DecidableEq, Repr

/-- The host side after reset. -/
def HostSt.reset : HostSt := ⟨[], false, 0, 0#32, 0#32, [], none⟩

end Sys2Proof.Machine
end

