-- ==== Sys2Proof/Machine/MgmtState.lean ====
section
/-! DEFINITION. The management controller: its CAN FD node, event log, saved values and calibration set (R371 to R404). -/

namespace Sys2Proof.Machine

/-- A Barzar event (R384, R391). -/
structure EventEntry where
  /-- 1 health, 2 fabric, 3 partition, 4 management -/
  cls : Nat
  part : Nat
  code : Nat
  seq : Word32
  beat : Nat
  deriving DecidableEq, Repr

/-- The states of the calibration set (R404). -/
inductive CalState where
  | locked | unlocked | committing
  deriving DecidableEq, Repr

/-- The management controller. -/
structure MgmtSt where
  /-- the management controller's own clock, in nanoseconds since power-up (R21) -/
  ns : Nat
  /-- requests not yet answered, oldest first (R376) -/
  queue : List CanRequest
  txErr : Nat
  rxErr : Nat
  busOff : Bool
  ctrlLost : Bool
  conflict : Bool
  /-- clock at the last tray-controller heartbeat (R390) -/
  ctrlHbAt : Nat
  /-- the counter of the next heartbeat, and the clock at the last (R387) -/
  hbCount : Byte
  hbAt : Nat
  /-- the event log, newest first, at most 64 (R391) -/
  log : List EventEntry
  /-- events waiting for their frame, oldest first, at most 32 -/
  evQueue : List EventEntry
  evLost : Bool
  evSeq : Word32
  evAt : Option Nat
  congaIn : Bool
  congaOut : Bool
  /-- arbitration rate in use (R372) -/
  arbSlow : Bool
  /-- a strap fault waits for the node to have an ID (R399) -/
  strapEv : Bool
  /-- saved RWS values by object key; an unlisted object's saved value is its factory value (R382) -/
  flash : SMap Word
  /-- values in force whose save has failed: they hold until the next power-up (R382) -/
  unsaved : SMap Word
  /-- saves not yet complete, oldest first -/
  saves : List (Nat × Word)
  /-- the stored calibration set, 64 KiB (R400), as of a completed commit -/
  cal : SMap Byte
  /-- an erase was interrupted: the stored set is invalid (R403) -/
  calBroken : Bool
  calState : CalState
  staging : SMap Byte
  /-- clock at the last write to a block or to CAL_CONTROL (R402) -/
  calAt : Nat
  calRefuse : Nat
  calPending : Bool
  calLoaded : Bool
  /-- the management controller is restarting (R335) -/
  restarting : Bool
  /-- clock at the last start of the controller or expiry of its watchdog, before which no service can lie (R335) -/
  wdAt : Nat
  deriving DecidableEq, Repr

/-- The management controller after a power-up of a device that has never been written. -/
def MgmtSt.reset : MgmtSt :=
  { ns := 0, queue := [], txErr := 0, rxErr := 0, busOff := false, ctrlLost := false, conflict := false, ctrlHbAt := 0,
    hbCount := 0, hbAt := 0, log := [], evQueue := [], evLost := false, evSeq := 0, evAt := none, congaIn := false,
    congaOut := false, arbSlow := false, strapEv := false, flash := [], unsaved := [], saves := [], cal := [],
    calBroken := false, calState := .locked, staging := [], calAt := 0, calRefuse := 0, calPending := false,
    calLoaded := false, restarting := false, wdAt := 0 }

end Sys2Proof.Machine
end

