-- ==== Sys2Proof/Machine/Objects.lean ====
section
/-! DEFINITION. The object dictionary as the manual's tables give it (R380, R381, R384): every object's subindex, size,
type, access, writable bits, range of accepted values and reset or factory value. A value that a rule computes, and a
refusal that depends on the state, stand with the rule's own definition. -/

namespace Sys2Proof.Machine

/-- Access codes (R381). -/
inductive Acc where
  | const | ro | rw | wo | rws | rw1c
  deriving DecidableEq, Repr

/-- Object types (R380). -/
inductive ObjKind where
  | num | bstr | vstr | domain
  deriving DecidableEq, Repr

/-- One row of an object table: `count` consecutive subindices from `sub`; `size` in bytes, 0 for a byte string;
`mask` the bits that are not reserved; `lo` and `hi` the accepted values (R12); `reset` the reset or factory value. -/
structure ObjSpec where
  name : String
  sub : Nat
  count : Nat
  size : Nat
  kind : ObjKind
  acc : Acc
  mask : Nat
  lo : Nat
  hi : Nat
  reset : Nat
  deriving DecidableEq, Repr

/-- Index 0x1000: the identity and communication objects (R386, R448). -/
def identObjs : List ObjSpec := [
  ⟨"VENDOR_ID", 0x01, 1, 2, .num, .const, 0xFFFF, 0, 65535, 0x0⟩,
  ⟨"DEVICE_ID", 0x02, 1, 2, .num, .const, 0xFFFF, 0, 0, 0xE90⟩,
  ⟨"PRODUCT_NAME", 0x03, 1, 0, .vstr, .const, 0x0, 0, 0, 0x8⟩,
  ⟨"PRODUCT_REVISION", 0x04, 1, 2, .num, .ro, 0xFFFF, 0, 0, 0x100⟩,
  ⟨"SERIAL", 0x05, 1, 8, .num, .ro, 0xFFFFFFFFFFFFFFFF, 0, 18446744073709551615, 0x0⟩,
  ⟨"FW_VERSION", 0x06, 1, 4, .num, .ro, 0xFFFFFFFF, 0, 4294967295, 0x0⟩,
  ⟨"NODE_ID", 0x10, 1, 1, .num, .ro, 0xFF, 0, 255, 0x0⟩,
  ⟨"NODE_ID_FIXED", 0x11, 1, 1, .num, .rws, 0xFF, 0, 127, 0x0⟩,
  ⟨"CAN_ARB_RATE", 0x12, 1, 1, .num, .rws, 0xFF, 0, 1, 0x0⟩,
  ⟨"CAN_DATA_RATE", 0x13, 1, 1, .num, .ro, 0xFF, 0, 255, 0x0⟩,
  ⟨"CAN_STATUS", 0x14, 1, 4, .num, .ro, 0xFFFFFFFF, 0, 4294967295, 0x0⟩,
  ⟨"CAN_RX_FRAMES", 0x15, 1, 8, .num, .ro, 0xFFFFFFFFFFFFFFFF, 0, 18446744073709551615, 0x0⟩,
  ⟨"CAN_TX_FRAMES", 0x16, 1, 8, .num, .ro, 0xFFFFFFFFFFFFFFFF, 0, 18446744073709551615, 0x0⟩,
  ⟨"CAN_IGNORED", 0x17, 1, 8, .num, .ro, 0xFFFFFFFFFFFFFFFF, 0, 18446744073709551615, 0x0⟩,
  ⟨"CAN_BUS_OFF", 0x18, 1, 4, .num, .ro, 0xFFFFFFFF, 0, 4294967295, 0x0⟩,
  ⟨"HEARTBEAT_MS", 0x19, 1, 2, .num, .rws, 0xFFFF, 0, 10000, 0x3E8⟩,
  ⟨"CTRL_HB_TIMEOUT_MS", 0x1A, 1, 2, .num, .rws, 0xFFFF, 0, 60000, 0x1388⟩,
  ⟨"EVENT_INHIBIT_MS", 0x1B, 1, 1, .num, .rw, 0xFF, 1, 255, 0xA⟩,
  ⟨"BROADCAST_REFUSE", 0x1C, 1, 4, .num, .rw1c, 0x80000000, 0, 2147483648, 0x0⟩,
  ⟨"SAVE_PENDING", 0x20, 1, 1, .num, .ro, 0xFF, 0, 255, 0x0⟩,
  ⟨"SAVE_FAILURES", 0x21, 1, 4, .num, .ro, 0xFFFFFFFF, 0, 4294967295, 0x0⟩,
  ⟨"EVENT_LOG_SELECT", 0x28, 1, 1, .num, .rw, 0xFF, 0, 63, 0x0⟩,
  ⟨"EVENT_LOG_ENTRY", 0x29, 1, 8, .num, .ro, 0xFFFFFFFFFFFFFFFF, 0, 18446744073709551615, 0x0⟩,
  ⟨"EVENT_LOG_BEAT", 0x2A, 1, 8, .num, .ro, 0xFFFFFFFFFFFFFFFF, 0, 18446744073709551615, 0x0⟩,
  ⟨"READINESS", 0x30, 1, 1, .num, .ro, 0xFF, 0, 255, 0x0⟩,
  ⟨"PART_READY", 0x31, 1, 2, .num, .ro, 0xFFFF, 0, 65535, 0x0⟩,
  ⟨"BRINGUP_STATUS", 0x32, 1, 4, .num, .ro, 0xFFFFFFFF, 0, 4294967295, 0x0⟩,
  ⟨"BRINGUP_US", 0x33, 1, 4, .num, .ro, 0xFFFFFFFF, 0, 4294967295, 0x0⟩,
  ⟨"PORTS_AT_READY", 0x34, 1, 4, .num, .ro, 0xFFFFFFFF, 0, 4294967295, 0x0⟩,
  ⟨"BOOT_BIST", 0x35, 1, 1, .num, .rws, 0xFF, 0, 2, 0x0⟩]

/-- Index 0x1100: the Conga and strap objects (R396). -/
def congaObjs : List ObjSpec := [
  ⟨"CONGA_STATE", 0x01, 1, 1, .num, .ro, 0xFF, 0, 255, 0x0⟩,
  ⟨"CHAIN_POSITION", 0x02, 1, 1, .num, .ro, 0xFF, 0, 255, 0x0⟩,
  ⟨"NODE_ID_BASE", 0x03, 1, 1, .num, .ro, 0xFF, 0, 255, 0x0⟩,
  ⟨"STRAP_SAMPLED", 0x10, 1, 2, .num, .ro, 0xFFFF, 0, 65535, 0x0⟩,
  ⟨"STRAP_OVERRIDE_MASK", 0x11, 1, 2, .num, .rws, 0xFFFF, 0, 65535, 0x0⟩,
  ⟨"STRAP_OVERRIDE_VALUE", 0x12, 1, 2, .num, .rws, 0xFFFF, 0, 65535, 0x0⟩,
  ⟨"STRAP_EFFECTIVE", 0x13, 1, 2, .num, .ro, 0xFFFF, 0, 65535, 0x0⟩,
  ⟨"STRAP_FAULT", 0x14, 1, 1, .num, .ro, 0xFF, 0, 255, 0x0⟩]

/-- Index 0x2000: the power objects (R423). -/
def powerObjs : List ObjSpec := [
  ⟨"POWER_LIMIT", 0x01, 1, 2, .num, .rw, 0xFFFF, 600, 2400, 0x960⟩,
  ⟨"INPUT_VOLTAGE", 0x02, 1, 4, .num, .ro, 0xFFFFFFFF, 0, 4294967295, 0x0⟩,
  ⟨"INPUT_CURRENT", 0x03, 1, 4, .num, .ro, 0xFFFFFFFF, 0, 4294967295, 0x0⟩,
  ⟨"INPUT_POWER", 0x04, 1, 4, .num, .ro, 0xFFFFFFFF, 0, 4294967295, 0x0⟩,
  ⟨"ENERGY", 0x05, 1, 8, .num, .ro, 0xFFFFFFFFFFFFFFFF, 0, 18446744073709551615, 0x0⟩,
  ⟨"DEVICE_POWER_REQ", 0x06, 1, 1, .num, .wo, 0xFF, 0, 1, 0x0⟩,
  ⟨"DEVICE_POWER_STATE", 0x07, 1, 1, .num, .ro, 0xFF, 0, 255, 0x0⟩,
  ⟨"CAP_STATE", 0x08, 1, 4, .num, .ro, 0xFFFFFFFF, 0, 4294967295, 0x105460⟩,
  ⟨"CAP_EVENTS", 0x09, 1, 8, .num, .ro, 0xFFFFFFFFFFFFFFFF, 0, 18446744073709551615, 0x0⟩,
  ⟨"RET_CURRENT", 0x0A, 1, 4, .num, .ro, 0xFFFFFFFF, 0, 4294967295, 0x0⟩,
  ⟨"RET_PEAK", 0x0B, 1, 4, .num, .ro, 0xFFFFFFFF, 0, 4294967295, 0x0⟩,
  ⟨"BROWNOUTS", 0x0C, 1, 4, .num, .ro, 0xFFFFFFFF, 0, 4294967295, 0x0⟩,
  ⟨"INPUT_FAULT", 0x0D, 1, 4, .num, .rw1c, 0x3, 0, 3, 0x0⟩,
  ⟨"POWER_COUNTER_CLEAR", 0x0E, 1, 4, .num, .wo, 0x1, 0, 1, 0x0⟩]

/-- Index 0x2100: the thermal objects (R424). -/
def thermalObjs : List ObjSpec := [
  ⟨"DIE_TEMP_MAX", 0x01, 1, 4, .num, .ro, 0xFFFFFFFF, 0, 4294967295, 0x0⟩,
  ⟨"THROTTLE_C", 0x02, 1, 1, .num, .rws, 0xFF, 70, 100, 0x5F⟩,
  ⟨"REG_TEMP_MAX", 0x03, 1, 4, .num, .ro, 0xFFFFFFFF, 0, 4294967295, 0x0⟩,
  ⟨"THERMAL_STATUS", 0x05, 1, 4, .num, .ro, 0xFFFFFFFF, 0, 4294967295, 0x0⟩,
  ⟨"THROTTLE_EVENTS", 0x06, 1, 8, .num, .ro, 0xFFFFFFFFFFFFFFFF, 0, 18446744073709551615, 0x0⟩,
  ⟨"TRIPS", 0x07, 1, 4, .num, .ro, 0xFFFFFFFF, 0, 4294967295, 0x0⟩,
  ⟨"CLUSTER_TEMP", 0x10, 16, 4, .num, .ro, 0xFFFFFFFF, 0, 4294967295, 0x0⟩]

/-- Index 0x2200: the clock and AVFS objects (R424). -/
def clockObjs : List ObjSpec := [
  ⟨"AVFS_MODE", 0x01, 1, 1, .num, .ro, 0xFF, 0, 255, 0x0⟩,
  ⟨"NOMINAL_MHZ", 0x02, 1, 2, .num, .const, 0xFFFF, 0, 0, 0x44C⟩,
  ⟨"REF_CLK_STATUS", 0x03, 1, 1, .num, .ro, 0xFF, 0, 255, 0x3⟩,
  ⟨"CLUSTER_MHZ", 0x10, 16, 2, .num, .ro, 0xFFFF, 0, 65535, 0x320⟩,
  ⟨"CLUSTER_MV", 0x20, 16, 2, .num, .ro, 0xFFFF, 0, 65535, 0x0⟩,
  ⟨"CLUSTER_LIMIT", 0x30, 16, 1, .num, .ro, 0xFF, 0, 255, 0x0⟩]

/-- Index 0x2300: the global partition object (R200). -/
def partsObjs : List ObjSpec := [
  ⟨"RETIRE_HOLD", 0x10, 1, 4, .num, .rws, 0xFFFFFFFF, 1, 1000000, 0x2626⟩]

/-- Index 0x2400: the health and detector objects (R326). -/
def healthObjs : List ObjSpec := [
  ⟨"HEALTH_SCORE", 0x01, 1, 2, .num, .ro, 0xFFFF, 0, 0, 0x3E8⟩,
  ⟨"HEALTH_WORST_PART", 0x02, 1, 2, .num, .ro, 0xFFFF, 0, 65535, 0x0⟩,
  ⟨"HEALTH_PART_SELECT", 0x03, 1, 2, .num, .rw, 0xFFFF, 0, 65535, 0x0⟩,
  ⟨"HEALTH_PART_SCORE", 0x04, 1, 2, .num, .ro, 0xFFFF, 0, 65535, 0x0⟩,
  ⟨"HEALTH_PART_STATE", 0x05, 1, 1, .num, .rw, 0xFF, 0, 1, 0x0⟩,
  ⟨"HEALTH_RECOMMEND", 0x06, 1, 4, .num, .ro, 0xFFFFFFFF, 0, 4294967295, 0x0⟩,
  ⟨"HEALTH_WINDOW", 0x07, 1, 4, .num, .rws, 0xFFFFFFFF, 60, 86400, 0xE10⟩,
  ⟨"PROBATION_THRESHOLD", 0x08, 1, 2, .num, .rws, 0xFFFF, 0, 1000, 0x2BC⟩,
  ⟨"EXPEL_THRESHOLD", 0x09, 1, 2, .num, .rws, 0xFFFF, 0, 1000, 0x190⟩,
  ⟨"EXPEL_INTERVAL", 0x0A, 1, 4, .num, .rws, 0xFFFFFFFF, 60, 86400, 0x258⟩,
  ⟨"EXPEL_SUPPRESSED", 0x0B, 1, 4, .num, .ro, 0xFFFFFFFF, 0, 4294967295, 0x0⟩,
  ⟨"HEALTH_INPUT_SELECT", 0x0C, 1, 1, .num, .rw, 0xFF, 0, 13, 0x0⟩,
  ⟨"HEALTH_INPUT", 0x0D, 1, 8, .num, .rws, 0xFFFFFFFFFFFFFFFF, 0, 18446744073709551615, 0x0⟩,
  ⟨"SPOT_RATE", 0x0E, 1, 2, .num, .rw, 0xFFFF, 0, 10000, 0xA⟩,
  ⟨"PROBATION_SPOT_RATE", 0x0F, 1, 2, .num, .rw, 0xFFFF, 0, 10000, 0xC8⟩,
  ⟨"SPOT_CHECKS", 0x10, 1, 8, .num, .ro, 0xFFFFFFFFFFFFFFFF, 0, 18446744073709551615, 0x0⟩,
  ⟨"SPOT_MISMATCH", 0x11, 1, 8, .num, .ro, 0xFFFFFFFFFFFFFFFF, 0, 18446744073709551615, 0x0⟩,
  ⟨"SPOT_SKIPPED", 0x12, 1, 8, .num, .ro, 0xFFFFFFFFFFFFFFFF, 0, 18446744073709551615, 0x0⟩,
  ⟨"SUSPECT_SELECT", 0x13, 1, 1, .num, .rw, 0xFF, 0, 15, 0x0⟩,
  ⟨"SUSPECT_ENTRY", 0x14, 1, 8, .num, .ro, 0xFFFFFFFFFFFFFFFF, 0, 18446744073709551615, 0x0⟩,
  ⟨"SUSPECT_FIRST_NS", 0x15, 1, 8, .num, .ro, 0xFFFFFFFFFFFFFFFF, 0, 18446744073709551615, 0x0⟩,
  ⟨"DETECTOR_OVERRIDE", 0x16, 1, 8, .num, .wo, 0xFFFFFF0003, 0, 1099511562243, 0x0⟩,
  ⟨"SUSPECT_SILENCE", 0x17, 1, 4, .num, .rw, 0xFFFFFFFF, 16, 1000000, 0x80⟩,
  ⟨"PROBE_INTERVAL", 0x18, 1, 4, .num, .rw, 0xFFFFFFFF, 0, 1000000, 0x3D1⟩,
  ⟨"SUSPECT_COUNT", 0x19, 1, 1, .num, .rw, 0xFF, 1, 255, 0x3⟩,
  ⟨"SUSPECT_WINDOW", 0x1A, 1, 4, .num, .rw, 0xFFFFFFFF, 1, 100000000, 0x2626⟩]

/-- Index 0x2500: the fabric objects (R232). -/
def fabricObjs : List ObjSpec := [
  ⟨"FABRIC_ADDR", 0x01, 1, 4, .num, .rw, 0xFFFFFF, 0, 16777215, 0xFFFFFF⟩,
  ⟨"FABRIC_EPOCH", 0x02, 1, 2, .num, .rw, 0xFFFF, 0, 65535, 0x0⟩,
  ⟨"FABRIC_STATE", 0x03, 1, 1, .num, .ro, 0xFF, 0, 255, 0x0⟩,
  ⟨"ROUTE_SELECT", 0x04, 1, 4, .num, .rw, 0x8001FFFF, 0, 2147614719, 0x0⟩,
  ⟨"ROUTE_ENTRY", 0x05, 1, 8, .num, .rw, 0xFFFFFFFFFFFFFFFF, 0, 18446744073709551615, 0x0⟩,
  ⟨"ROUTE_COMMIT_BEAT", 0x06, 1, 8, .num, .rw, 0xFFFFFFFFFFFFFFFF, 0, 18446744073709551615, 0x0⟩,
  ⟨"ROUTE_STATUS", 0x07, 1, 4, .num, .ro, 0xFFFFFFFF, 0, 4294967295, 0x0⟩,
  ⟨"EPOCH_WRITE", 0x08, 1, 8, .num, .wo, 0xFFFFFFFFFF, 0, 1099511627775, 0x0⟩,
  ⟨"EPOCH_QUERY_ADDR", 0x09, 1, 4, .num, .rw, 0xFFFFFF, 0, 16777215, 0x0⟩,
  ⟨"EPOCH_QUERY", 0x0A, 1, 4, .num, .ro, 0xFFFFFFFF, 0, 4294967295, 0x0⟩,
  ⟨"EPOCH_ENTRIES", 0x0B, 1, 4, .num, .ro, 0xFFFFFFFF, 0, 4294967295, 0x0⟩,
  ⟨"STALE_DROPS", 0x0C, 1, 8, .num, .ro, 0xFFFFFFFFFFFFFFFF, 0, 18446744073709551615, 0x0⟩,
  ⟨"UNREACHABLE_DROPS", 0x0D, 1, 8, .num, .ro, 0xFFFFFFFFFFFFFFFF, 0, 18446744073709551615, 0x0⟩,
  ⟨"EPOCH_TABLE_FULL", 0x0E, 1, 4, .num, .ro, 0xFFFFFFFF, 0, 4294967295, 0x0⟩,
  ⟨"BEAT_STATE", 0x10, 1, 1, .num, .ro, 0xFF, 0, 255, 0x0⟩,
  ⟨"BEAT_NS", 0x11, 1, 8, .num, .ro, 0xFFFFFFFFFFFFFFFF, 0, 18446744073709551615, 0x0⟩,
  ⟨"BEAT_OFFSET", 0x12, 1, 4, .num, .ro, 0xFFFFFFFF, 0, 4294967295, 0x0⟩,
  ⟨"BEAT_HOPS", 0x13, 1, 1, .num, .ro, 0xFF, 0, 255, 0x0⟩,
  ⟨"BEAT_SOURCE_PORT", 0x14, 1, 1, .num, .ro, 0xFF, 0, 0, 0xFF⟩,
  ⟨"TEMPO_CANDIDATE", 0x15, 1, 1, .num, .rw, 0xFF, 0, 1, 0x0⟩,
  ⟨"TEMPO_PRIORITY", 0x16, 1, 1, .num, .rws, 0xFF, 0, 255, 0x80⟩,
  ⟨"TEMPO_MASTER_ADDR", 0x17, 1, 4, .num, .ro, 0xFFFFFFFF, 0, 4294967295, 0x0⟩,
  ⟨"BEAT_ERROR_BOUND", 0x18, 1, 4, .num, .ro, 0xFFFFFFFF, 0, 4294967295, 0x0⟩,
  ⟨"TIME_PPS_EN", 0x19, 1, 1, .num, .rw, 0xFF, 0, 1, 0x0⟩,
  ⟨"BEAT_STEPS", 0x1A, 1, 4, .num, .ro, 0xFFFFFFFF, 0, 4294967295, 0x0⟩,
  ⟨"BEAT_CONFLICTS", 0x1B, 1, 4, .num, .ro, 0xFFFFFFFF, 0, 4294967295, 0x0⟩,
  ⟨"FABRIC_COUNTER_CLEAR", 0x1C, 1, 4, .num, .wo, 0x1, 0, 1, 0x0⟩]

/-- Index 0x25xx: the objects of a port (R233). -/
def portObjs : List ObjSpec := [
  ⟨"PORT_ROLE", 0x01, 1, 1, .num, .rws, 0xFF, 0, 2, 0x0⟩,
  ⟨"PORT_STATE", 0x02, 1, 1, .num, .ro, 0xFF, 0, 255, 0x0⟩,
  ⟨"PORT_CONTROL", 0x03, 1, 4, .num, .wo, 0xF, 0, 15, 0x0⟩,
  ⟨"LINK_PARTNER", 0x04, 1, 4, .num, .ro, 0xFFFFFFFF, 0, 4294967295, 0x0⟩,
  ⟨"LINK_DELAY_NS", 0x05, 1, 4, .num, .ro, 0xFFFFFFFF, 0, 4294967295, 0x0⟩,
  ⟨"FEC_CORRECTED", 0x06, 1, 8, .num, .ro, 0xFFFFFFFFFFFFFFFF, 0, 18446744073709551615, 0x0⟩,
  ⟨"FEC_UNCORRECTABLE", 0x07, 1, 8, .num, .ro, 0xFFFFFFFFFFFFFFFF, 0, 18446744073709551615, 0x0⟩,
  ⟨"REPLAYS", 0x08, 1, 8, .num, .ro, 0xFFFFFFFFFFFFFFFF, 0, 18446744073709551615, 0x0⟩,
  ⟨"RETRAINS", 0x09, 1, 4, .num, .ro, 0xFFFFFFFF, 0, 4294967295, 0x0⟩,
  ⟨"TX_FLITS", 0x0A, 1, 8, .num, .ro, 0xFFFFFFFFFFFFFFFF, 0, 18446744073709551615, 0x0⟩,
  ⟨"RX_FLITS", 0x0B, 1, 8, .num, .ro, 0xFFFFFFFFFFFFFFFF, 0, 18446744073709551615, 0x0⟩,
  ⟨"PRE_FEC_BER", 0x0C, 1, 4, .num, .ro, 0xFFFFFFFF, 0, 4294967295, 0x0⟩,
  ⟨"BER_TEST_RATE", 0x0D, 1, 1, .num, .rw, 0xFF, 0, 20, 0x0⟩,
  ⟨"SHELL_CE", 0x0E, 1, 8, .num, .ro, 0xFFFFFFFFFFFFFFFF, 0, 18446744073709551615, 0x0⟩,
  ⟨"SHELL_UE", 0x0F, 1, 8, .num, .ro, 0xFFFFFFFFFFFFFFFF, 0, 18446744073709551615, 0x0⟩,
  ⟨"CREDIT_STALL_CYCLES", 0x10, 1, 8, .num, .ro, 0xFFFFFFFFFFFFFFFF, 0, 18446744073709551615, 0x0⟩,
  ⟨"PORT_COUNTER_CLEAR", 0x11, 1, 4, .num, .wo, 0x1, 0, 1, 0x0⟩]

/-- Index 0x2600: the collective objects (R270). -/
def collObjs : List ObjSpec := [
  ⟨"STORE_FREE_WEST", 0x01, 1, 4, .num, .ro, 0xFFFFFFFF, 0, 0, 0x4000⟩,
  ⟨"STORE_FREE_EAST", 0x02, 1, 4, .num, .ro, 0xFFFFFFFF, 0, 0, 0x4000⟩,
  ⟨"COLL_DROPS", 0x03, 1, 8, .num, .ro, 0xFFFFFFFFFFFFFFFF, 0, 18446744073709551615, 0x0⟩,
  ⟨"COLL_COUNTER_CLEAR", 0x04, 1, 4, .num, .wo, 0x1, 0, 1, 0x0⟩]

/-- Index 0x26xx: the objects of a job slot (R271). -/
def slotObjs : List ObjSpec := [
  ⟨"SLOT_COUNTER_CLEAR", 0x00, 1, 4, .num, .wo, 0x1, 0, 1, 0x0⟩,
  ⟨"JOB_ID", 0x01, 1, 2, .num, .rw, 0xFFF, 0, 4095, 0xFFF⟩,
  ⟨"HOLDER", 0x02, 1, 1, .num, .rw, 0xFF, 0, 15, 0x0⟩,
  ⟨"SLOT_CONTROL", 0x03, 1, 4, .num, .wo, 0x3, 0, 3, 0x0⟩,
  ⟨"SLOT_STATE", 0x04, 1, 1, .num, .ro, 0xFF, 0, 255, 0x0⟩,
  ⟨"MODE", 0x05, 1, 1, .num, .rw, 0xFF, 0, 1, 0x0⟩,
  ⟨"NAN_POLICY", 0x06, 1, 1, .num, .rw, 0xFF, 0, 2, 0x0⟩,
  ⟨"RANK", 0x07, 1, 4, .num, .rw, 0xFFFFFFFF, 0, 65535, 0x0⟩,
  ⟨"RANKS", 0x08, 1, 4, .num, .rw, 0xFFFFFFFF, 1, 65536, 0x1⟩,
  ⟨"MEMBER_ADDR", 0x09, 1, 8, .num, .rw, 0xFFFFFFFFFFFFFFFF, 0, 18446744073709551615, 0x0⟩,
  ⟨"STAGE_ADDR", 0x0A, 1, 8, .num, .rw, 0xFFFFFFFFFFFFFFFF, 0, 18446744073709551615, 0x0⟩,
  ⟨"STAGE_MIB", 0x0B, 1, 2, .num, .rw, 0xFFFF, 0, 65535, 0x0⟩,
  ⟨"WINDOW", 0x0C, 1, 1, .num, .rw, 0xFF, 2, 64, 0x10⟩,
  ⟨"STAGGER", 0x0D, 1, 2, .num, .rw, 0xFFFF, 1, 1024, 0x4⟩,
  ⟨"HARD_AFTER", 0x0E, 1, 2, .num, .rw, 0xFFFF, 0, 65535, 0x3D1⟩,
  ⟨"GRACE", 0x0F, 1, 2, .num, .rw, 0xFFFF, 0, 65535, 0x0⟩,
  ⟨"DL_STEP", 0x10, 1, 2, .num, .rw, 0xFFFF, 0, 65535, 0x0⟩,
  ⟨"DL_BEAT", 0x11, 1, 8, .num, .rw, 0xFFFFFFFFFFFFFFFF, 0, 18446744073709551615, 0x0⟩,
  ⟨"STORE_KIB", 0x12, 1, 4, .num, .ro, 0xFFFFFFFF, 0, 4294967295, 0x0⟩,
  ⟨"CTX_SELECT", 0x13, 1, 4, .num, .rw, 0xFFFFFFFF, 0, 4294967295, 0x0⟩,
  ⟨"CTX_STATUS", 0x14, 1, 8, .num, .ro, 0xFFFFFFFFFFFFFFFF, 0, 18446744073709551615, 0x0⟩,
  ⟨"BUCKETS_DONE", 0x15, 1, 8, .num, .ro, 0xFFFFFFFFFFFFFFFF, 0, 18446744073709551615, 0x0⟩,
  ⟨"BUCKETS_ABORTED", 0x16, 1, 8, .num, .ro, 0xFFFFFFFFFFFFFFFF, 0, 18446744073709551615, 0x0⟩,
  ⟨"EXCLUDED", 0x17, 1, 8, .num, .ro, 0xFFFFFFFFFFFFFFFF, 0, 18446744073709551615, 0x0⟩,
  ⟨"LATE_DROPS", 0x18, 1, 8, .num, .ro, 0xFFFFFFFFFFFFFFFF, 0, 18446744073709551615, 0x0⟩,
  ⟨"NAN_EXCLUDED", 0x19, 1, 8, .num, .ro, 0xFFFFFFFFFFFFFFFF, 0, 18446744073709551615, 0x0⟩,
  ⟨"NAN_ZEROED", 0x1A, 1, 8, .num, .ro, 0xFFFFFFFFFFFFFFFF, 0, 18446744073709551615, 0x0⟩,
  ⟨"CARRIED", 0x1B, 1, 8, .num, .ro, 0xFFFFFFFFFFFFFFFF, 0, 18446744073709551615, 0x0⟩,
  ⟨"ROUTER_FLAGS", 0x1C, 1, 4, .num, .rw1c, 0xF, 0, 15, 0x0⟩,
  ⟨"REEL_STATE", 0x1D, 1, 1, .num, .ro, 0xFF, 0, 255, 0x0⟩,
  ⟨"REEL_JOURNAL_ADDR", 0x1E, 1, 8, .num, .rw, 0xFFFFFFFFFFFFFFFF, 0, 18446744073709551615, 0x0⟩,
  ⟨"SLOT_START", 0x1F, 1, 8, .num, .wo, 0xFFFFFFFFFFFFFFFF, 0, 18446744073709551615, 0x0⟩]

/-- Index 0x2700: the Tango objects (R325). -/
def tangoObjs : List ObjSpec := [
  ⟨"TANGO_ROLE", 0x01, 1, 1, .num, .rw, 0xFF, 0, 1, 0x0⟩,
  ⟨"TANGO_STATE", 0x02, 1, 1, .num, .ro, 0xFF, 0, 255, 0x0⟩,
  ⟨"TANGO_STATUS", 0x03, 1, 4, .num, .ro, 0xFFFFFFFF, 0, 4294967295, 0x0⟩,
  ⟨"TANGO_CONTROL", 0x04, 1, 4, .num, .wo, 0xFFFFFFFF, 0, 4294967295, 0x0⟩,
  ⟨"TANGO_BANKS", 0x05, 1, 1, .num, .rw, 0xFF, 1, 2, 0x2⟩,
  ⟨"TANGO_LIST_SELECT", 0x06, 1, 1, .num, .rw, 0xFF, 0, 255, 0x0⟩,
  ⟨"TANGO_LIST_ENTRY", 0x07, 1, 4, .num, .rw, 0xFFFFFFFF, 0, 4294967295, 0x0⟩,
  ⟨"TANGO_IMAGE_BYTES", 0x08, 1, 8, .num, .ro, 0xFFFFFFFFFFFFFFFF, 0, 18446744073709551615, 0x0⟩,
  ⟨"TANGO_BANK_BYTES", 0x09, 1, 8, .num, .ro, 0xFFFFFFFFFFFFFFFF, 0, 18446744073709551615, 0x0⟩,
  ⟨"TANGO_SENT_TAG", 0x0A, 1, 2, .num, .ro, 0xFFFF, 0, 65535, 0x0⟩,
  ⟨"TANGO_ACK_TAG", 0x0B, 1, 4, .num, .ro, 0xFFFFFFFF, 0, 4294967295, 0x0⟩,
  ⟨"TANGO_RELEASE_TAG", 0x0C, 1, 4, .num, .rw, 0x1FFFF, 0, 131071, 0x0⟩,
  ⟨"TANGO_CHUNKS_ACKED", 0x0D, 1, 4, .num, .ro, 0xFFFFFFFF, 0, 4294967295, 0x0⟩,
  ⟨"TANGO_WINDOW", 0x0E, 1, 4, .num, .rw, 0xFFFFFFFF, 1, 10000000, 0xEE868⟩,
  ⟨"TANGO_LATE", 0x0F, 1, 4, .num, .ro, 0xFFFFFFFF, 0, 4294967295, 0x0⟩,
  ⟨"TANGO_SKIPPED", 0x10, 1, 8, .num, .ro, 0xFFFFFFFFFFFFFFFF, 0, 18446744073709551615, 0x0⟩,
  ⟨"TANGO_BYTES_SENT", 0x11, 1, 8, .num, .ro, 0xFFFFFFFFFFFFFFFF, 0, 18446744073709551615, 0x0⟩,
  ⟨"HELD_BANK_SELECT", 0x12, 1, 1, .num, .rw, 0xFF, 0, 1, 0x0⟩,
  ⟨"HELD_BANK_INFO", 0x13, 1, 8, .num, .ro, 0xFFFFFFFFFFFFFFFF, 0, 18446744073709551615, 0x0⟩,
  ⟨"HELD_BANK_CHUNKS", 0x14, 1, 4, .num, .ro, 0xFFFFFFFF, 0, 4294967295, 0x0⟩,
  ⟨"TANGO_REJECTS", 0x15, 1, 8, .num, .ro, 0xFFFFFFFFFFFFFFFF, 0, 18446744073709551615, 0x0⟩,
  ⟨"TANGO_PORTS_BAD", 0x16, 1, 4, .num, .ro, 0xFFFFFFFF, 0, 4294967295, 0x0⟩,
  ⟨"TANGO_RESUMES", 0x17, 1, 4, .num, .ro, 0xFFFFFFFF, 0, 4294967295, 0x0⟩,
  ⟨"RESTORE_DEST", 0x18, 1, 4, .num, .rw, 0xFFFFFFFF, 0, 4294967295, 0x0⟩,
  ⟨"RESTORE_JOB", 0x19, 1, 2, .num, .rw, 0xFFF, 0, 4095, 0xFFF⟩,
  ⟨"RESTORE_BANK", 0x1A, 1, 1, .num, .rw, 0xFF, 0, 1, 0x0⟩,
  ⟨"RESTORE_RECORD_ADDR", 0x1B, 1, 8, .num, .rw, 0xFFFFFFFFFFFFFFFF, 0, 18446744073709551615, 0x0⟩,
  ⟨"RESTORE_STATE", 0x1C, 1, 1, .num, .ro, 0xFF, 0, 255, 0x0⟩,
  ⟨"RESTORE_STATUS", 0x1D, 1, 4, .num, .ro, 0xFFFFFFFF, 0, 4294967295, 0x0⟩,
  ⟨"RESTORE_BYTES", 0x1E, 1, 8, .num, .ro, 0xFFFFFFFFFFFFFFFF, 0, 18446744073709551615, 0x0⟩]

/-- Index 0x2800: the device memory objects (R153). -/
def memObjs : List ObjSpec := [
  ⟨"HBM_CAPACITY", 0x01, 1, 4, .num, .const, 0xFFFFFFFF, 0, 0, 0x360⟩,
  ⟨"HBM_STACK_OK", 0x02, 1, 2, .num, .ro, 0xFFFF, 0, 65535, 0x0⟩,
  ⟨"SCRUB_HBM_PERIOD", 0x03, 1, 4, .num, .rws, 0xFFFFFFFF, 60, 86400, 0xE10⟩,
  ⟨"SCRUB_SPAD_PERIOD", 0x04, 1, 4, .num, .rws, 0xFFFFFFFF, 1, 3600, 0xA⟩,
  ⟨"SCRUB_HBM_PASSES", 0x05, 1, 4, .num, .ro, 0xFFFFFFFF, 0, 4294967295, 0x0⟩,
  ⟨"SCRUB_SPAD_PASSES", 0x06, 1, 4, .num, .ro, 0xFFFFFFFF, 0, 4294967295, 0x0⟩,
  ⟨"RETAIN_TOTAL", 0x07, 1, 2, .num, .ro, 0xFFFF, 0, 65535, 0x0⟩,
  ⟨"RETAIN_LIMIT", 0x08, 1, 2, .num, .const, 0xFFFF, 0, 0, 0x400⟩,
  ⟨"ECC_LOG_SELECT", 0x09, 1, 1, .num, .rw, 0xFF, 0, 255, 0x0⟩,
  ⟨"ECC_LOG_INFO", 0x0A, 1, 4, .num, .ro, 0xFFFFFFFF, 0, 4294967295, 0x0⟩,
  ⟨"ECC_LOG_ADDR", 0x0B, 1, 8, .num, .ro, 0xFFFFFFFFFFFFFFFF, 0, 18446744073709551615, 0x0⟩,
  ⟨"ECC_LOG_BEAT", 0x0C, 1, 8, .num, .ro, 0xFFFFFFFFFFFFFFFF, 0, 18446744073709551615, 0x0⟩,
  ⟨"ECC_LOG_COUNT", 0x0D, 1, 4, .num, .ro, 0xFFFFFFFF, 0, 4294967295, 0x0⟩,
  ⟨"ECC_LOG_LOST", 0x0E, 1, 4, .num, .ro, 0xFFFFFFFF, 0, 4294967295, 0x0⟩,
  ⟨"ECC_LOG_CLEAR", 0x0F, 1, 4, .num, .wo, 0x1, 0, 1, 0x0⟩,
  ⟨"DATAPATH_CE", 0x10, 1, 8, .num, .ro, 0xFFFFFFFFFFFFFFFF, 0, 18446744073709551615, 0x0⟩,
  ⟨"DATAPATH_UE", 0x11, 1, 8, .num, .ro, 0xFFFFFFFFFFFFFFFF, 0, 18446744073709551615, 0x0⟩]

/-- Index 0x281s: the objects of a stack (R154). -/
def stackObjs : List ObjSpec := [
  ⟨"STACK_TEMP", 0x01, 1, 4, .num, .ro, 0xFFFFFFFF, 0, 4294967295, 0x0⟩,
  ⟨"STACK_CE", 0x02, 1, 8, .num, .ro, 0xFFFFFFFFFFFFFFFF, 0, 18446744073709551615, 0x0⟩,
  ⟨"STACK_UE", 0x03, 1, 8, .num, .ro, 0xFFFFFFFFFFFFFFFF, 0, 18446744073709551615, 0x0⟩,
  ⟨"STACK_REFRESH", 0x04, 1, 1, .num, .ro, 0xFF, 0, 255, 0x0⟩,
  ⟨"STACK_ECS_COUNT", 0x05, 1, 4, .num, .ro, 0xFFFFFFFF, 0, 4294967295, 0x0⟩,
  ⟨"STACK_RFM_COUNT", 0x06, 1, 8, .num, .ro, 0xFFFFFFFFFFFFFFFF, 0, 18446744073709551615, 0x0⟩]

/-- Index 0x2900: the security objects (R442). -/
def secObjs : List ObjSpec := [
  ⟨"SECURE_BOOT_STATE", 0x01, 1, 1, .num, .ro, 0xFF, 0, 255, 0x0⟩,
  ⟨"BOOT_BANK", 0x02, 1, 1, .num, .ro, 0xFF, 0, 255, 0x0⟩,
  ⟨"FW_SVN_MIN", 0x03, 1, 1, .num, .ro, 0xFF, 0, 255, 0x0⟩,
  ⟨"FW_DIGEST", 0x04, 1, 0, .bstr, .ro, 0x0, 0, 0, 0x0⟩,
  ⟨"IDENTITY_CERT", 0x05, 1, 0, .domain, .ro, 0x0, 0, 0, 0x0⟩,
  ⟨"ATTEST_CERT", 0x06, 1, 0, .domain, .ro, 0x0, 0, 0, 0x0⟩,
  ⟨"FW_UPDATE_ADDR", 0x07, 1, 8, .num, .rw, 0xFFFFFFFFFFFFFFFF, 0, 18446744073709551615, 0x0⟩,
  ⟨"FW_UPDATE_CONTROL", 0x08, 1, 4, .num, .wo, 0x1, 0, 1, 0x0⟩,
  ⟨"FW_UPDATE_STATUS", 0x09, 1, 4, .num, .ro, 0xFFFFFFFF, 0, 4294967295, 0x0⟩,
  ⟨"FW_LOAD", 0x0A, 1, 4, .num, .wo, 0x1, 0, 1, 0x0⟩,
  ⟨"SVN_ADVANCE", 0x0B, 1, 4, .num, .wo, 0xFFFF0001, 0, 4294901761, 0x0⟩,
  ⟨"TANGO_KEY_GEN", 0x0C, 1, 4, .num, .ro, 0xFFFFFFFF, 0, 4294967295, 0x0⟩]

/-- Index 0x2A00: the reset and hang objects (R351). -/
def resetObjs : List ObjSpec := [
  ⟨"RESET_CONTROL", 0x01, 1, 4, .num, .wo, 0xFFFFFFFF, 0, 4294967295, 0x0⟩,
  ⟨"RESET_CAUSE", 0x02, 1, 1, .num, .ro, 0xFF, 0, 255, 0x0⟩,
  ⟨"CHIP_RESETS", 0x03, 1, 4, .num, .ro, 0xFFFFFFFF, 0, 4294967295, 0x0⟩,
  ⟨"HANG_POLICY", 0x04, 1, 4, .num, .rws, 0x1F, 0, 31, 0x7⟩,
  ⟨"MC_WATCHDOG", 0x05, 1, 4, .num, .rws, 0xFFFFFFFF, 100, 10000, 0x7D0⟩,
  ⟨"HANG_LOG_SELECT", 0x06, 1, 1, .num, .rw, 0xFF, 0, 31, 0x0⟩,
  ⟨"HANG_LOG_ENTRY", 0x07, 1, 8, .num, .ro, 0xFFFFFFFFFFFFFFFF, 0, 18446744073709551615, 0x0⟩,
  ⟨"HANG_LOG_BEAT", 0x08, 1, 8, .num, .ro, 0xFFFFFFFFFFFFFFFF, 0, 18446744073709551615, 0x0⟩,
  ⟨"HANG_LOG_COUNT", 0x09, 1, 4, .num, .ro, 0xFFFFFFFF, 0, 4294967295, 0x0⟩]

/-- Index 0x2F40: the calibration control objects (R404). -/
def calObjs : List ObjSpec := [
  ⟨"CAL_CONTROL", 0x01, 1, 4, .num, .wo, 0xFFFF0007, 0, 4294901767, 0x0⟩,
  ⟨"CAL_STATUS", 0x02, 1, 4, .num, .ro, 0xFFFFFFFF, 0, 4294967295, 0x0⟩,
  ⟨"CAL_SERIAL", 0x03, 1, 8, .num, .ro, 0xFFFFFFFFFFFFFFFF, 0, 18446744073709551615, 0x0⟩,
  ⟨"CAL_COMMITS", 0x04, 1, 4, .num, .ro, 0xFFFFFFFF, 0, 4294967295, 0x0⟩]

/-- Index 0x2Fnn: a calibration block (R400). -/
def calBlockObjs : List ObjSpec := [
  ⟨"CAL_BLOCK", 0x01, 1, 0, .domain, .rw, 0x0, 0, 0, 0x0⟩]

/-- Part 1 of index 0x3p00. -/
def partObjs1 : List ObjSpec := [
  ⟨"PART_POWER_REQ", 0x00, 1, 1, .num, .wo, 0xFF, 1, 2, 0x0⟩,
  ⟨"PART_POWER_STATE", 0x01, 1, 1, .num, .ro, 0xFF, 0, 255, 0x0⟩,
  ⟨"PART_AUTO_OFF", 0x02, 1, 4, .num, .rw, 0xFFFFFFFF, 0, 100000000, 0x0⟩,
  ⟨"PART_PREWAKE", 0x03, 1, 2, .num, .rw, 0xFFFF, 0, 1000, 0xC8⟩,
  ⟨"CLUSTER_SLEEP", 0x04, 1, 2, .num, .rw, 0xFFFF, 0, 10000, 0x62⟩,
  ⟨"PART_POWER", 0x05, 1, 4, .num, .ro, 0xFFFFFFFF, 0, 4294967295, 0x0⟩,
  ⟨"PART_ENERGY", 0x06, 1, 8, .num, .ro, 0xFFFFFFFFFFFFFFFF, 0, 18446744073709551615, 0x0⟩,
  ⟨"PART_WAKES", 0x07, 1, 8, .num, .ro, 0xFFFFFFFFFFFFFFFF, 0, 18446744073709551615, 0x0⟩,
  ⟨"ATTEST_NONCE0–7", 0x20, 8, 8, .num, .rw, 0xFFFFFFFFFFFFFFFF, 0, 18446744073709551615, 0x0⟩,
  ⟨"ATTEST_ADDR", 0x28, 1, 8, .num, .rw, 0xFFFFFFFFFFFFFFFF, 0, 18446744073709551615, 0x0⟩,
  ⟨"ATTEST_CONTROL", 0x29, 1, 4, .num, .wo, 0x1, 0, 1, 0x0⟩,
  ⟨"ATTEST_STATUS", 0x2A, 1, 4, .num, .ro, 0xFFFFFFFF, 0, 4294967295, 0x0⟩,
  ⟨"KEY_GEN", 0x2B, 1, 4, .num, .ro, 0xFFFFFFFF, 0, 4294967295, 0x0⟩,
  ⟨"TENANT_TAG", 0x2C, 1, 8, .num, .rw, 0xFFFFFFFFFFFFFFFF, 0, 18446744073709551615, 0x0⟩,
  ⟨"RECLAIM_CONTROL", 0x2D, 1, 4, .num, .wo, 0xFFFF0001, 0, 4294901761, 0x0⟩,
  ⟨"RECLAIM_STATE", 0x2E, 1, 1, .num, .ro, 0xFF, 0, 255, 0x0⟩,
  ⟨"RECLAIMS", 0x2F, 1, 4, .num, .ro, 0xFFFFFFFF, 0, 4294967295, 0x0⟩,
  ⟨"RECLAIM_NS", 0x30, 1, 8, .num, .ro, 0xFFFFFFFFFFFFFFFF, 0, 18446744073709551615, 0x0⟩,
  ⟨"ARITH_FLAGS", 0x40, 1, 4, .num, .ro, 0xFFFFFFFF, 0, 4294967295, 0x0⟩,
  ⟨"ARITH_FLAGS_CLEAR", 0x41, 1, 4, .num, .wo, 0xFFF, 0, 4095, 0x0⟩,
  ⟨"ARITH_MODE", 0x42, 1, 4, .num, .rw, 0x1, 0, 1, 0x0⟩,
  ⟨"ENG_ACTIVE_CYCLES", 0x44, 1, 8, .num, .ro, 0xFFFFFFFFFFFFFFFF, 0, 18446744073709551615, 0x0⟩,
  ⟨"ENG_MAC_COUNT", 0x45, 1, 8, .num, .ro, 0xFFFFFFFFFFFFFFFF, 0, 18446744073709551615, 0x0⟩,
  ⟨"LOAD_WAIT_CYCLES", 0x46, 1, 8, .num, .ro, 0xFFFFFFFFFFFFFFFF, 0, 18446744073709551615, 0x0⟩,
  ⟨"BANK_STALL_CYCLES", 0x47, 1, 8, .num, .ro, 0xFFFFFFFFFFFFFFFF, 0, 18446744073709551615, 0x0⟩,
  ⟨"ENG_COUNTER_CLEAR", 0x48, 1, 4, .num, .wo, 0x1, 0, 1, 0x0⟩,
  ⟨"WALNUT_WAIT_CYCLES", 0x49, 1, 8, .num, .ro, 0xFFFFFFFFFFFFFFFF, 0, 18446744073709551615, 0x0⟩,
  ⟨"WALNUT_COUNTER_CLEAR", 0x4A, 1, 4, .num, .wo, 0x1, 0, 1, 0x0⟩,
  ⟨"JOB_SEED", 0x50, 1, 8, .num, .rw, 0xFFFFFFFFFFFFFFFF, 0, 18446744073709551615, 0x0⟩,
  ⟨"STEP_NUMBER", 0x51, 1, 8, .num, .ro, 0xFFFFFFFFFFFFFFFF, 0, 18446744073709551615, 0x0⟩,
  ⟨"JOB_RANK", 0x52, 1, 4, .num, .rw, 0xFFFFFFFF, 0, 65535, 0x0⟩,
  ⟨"PARTITION_SLOT", 0x53, 1, 1, .num, .rw, 0xFF, 0, 15, 0x0⟩,
  ⟨"LOSS_K", 0x54, 1, 4, .num, .rw, 0xFFFFFFFF, 0, 4294967295, 0x40C00000⟩,
  ⟨"LOSS_ALPHA_SHIFT", 0x55, 1, 1, .num, .rw, 0xFF, 1, 16, 0x6⟩,
  ⟨"LOSS_SUBMIT", 0x56, 1, 4, .num, .wo, 0xFFFFFFFF, 0, 4294967295, 0x0⟩,
  ⟨"LOSS_MEAN", 0x57, 1, 4, .num, .rw, 0xFFFFFFFF, 0, 4294967295, 0x0⟩,
  ⟨"LOSS_VAR", 0x58, 1, 4, .num, .rw, 0xFFFFFFFF, 0, 4294967295, 0x0⟩,
  ⟨"LOSS_STATUS", 0x59, 1, 4, .num, .rw1c, 0x3, 0, 3, 0x0⟩,
  ⟨"LOSS_WARMUP", 0x5A, 1, 2, .num, .rw, 0xFFFF, 0, 65535, 0x20⟩,
  ⟨"LOSS_COUNT", 0x5B, 1, 4, .num, .rw, 0xFFFFFFFF, 0, 4294967295, 0x0⟩]

/-- Part 2 of index 0x3p00. -/
def partObjs2 : List ObjSpec := [
  ⟨"VERSION_SELECT", 0x5C, 1, 1, .num, .rw, 0xFF, 0, 255, 0x0⟩,
  ⟨"VERSION_ENTRY", 0x5D, 1, 8, .num, .ro, 0xFFFFFFFFFFFFFFFF, 0, 18446744073709551615, 0x0⟩,
  ⟨"FENCE_STATUS", 0x5E, 1, 4, .num, .ro, 0xFFFFFFFF, 0, 4294967295, 0x0⟩,
  ⟨"FENCE_ABORT", 0x5F, 1, 4, .num, .wo, 0x1, 0, 1, 0x0⟩,
  ⟨"NAN_COUNT_0–7", 0x60, 8, 8, .num, .ro, 0xFFFFFFFFFFFFFFFF, 0, 18446744073709551615, 0x0⟩,
  ⟨"INF_COUNT_0–7", 0x68, 8, 8, .num, .ro, 0xFFFFFFFFFFFFFFFF, 0, 18446744073709551615, 0x0⟩,
  ⟨"NONFINITE_CLEAR", 0x70, 1, 4, .num, .wo, 0xFF, 0, 255, 0x0⟩,
  ⟨"BUSY_CYCLES", 0x80, 1, 8, .num, .ro, 0xFFFFFFFFFFFFFFFF, 0, 18446744073709551615, 0x0⟩,
  ⟨"IDLE_PREEMPTED", 0x81, 1, 8, .num, .ro, 0xFFFFFFFFFFFFFFFF, 0, 18446744073709551615, 0x0⟩,
  ⟨"IDLE_POWER_WAKE", 0x82, 1, 8, .num, .ro, 0xFFFFFFFFFFFFFFFF, 0, 18446744073709551615, 0x0⟩,
  ⟨"IDLE_BEAT", 0x83, 1, 8, .num, .ro, 0xFFFFFFFFFFFFFFFF, 0, 18446744073709551615, 0x0⟩,
  ⟨"IDLE_DMA", 0x84, 1, 8, .num, .ro, 0xFFFFFFFFFFFFFFFF, 0, 18446744073709551615, 0x0⟩,
  ⟨"IDLE_COLLECTIVE", 0x85, 1, 8, .num, .ro, 0xFFFFFFFFFFFFFFFF, 0, 18446744073709551615, 0x0⟩,
  ⟨"IDLE_STREAM_IN", 0x86, 1, 8, .num, .ro, 0xFFFFFFFFFFFFFFFF, 0, 18446744073709551615, 0x0⟩,
  ⟨"IDLE_STREAM_OUT", 0x87, 1, 8, .num, .ro, 0xFFFFFFFFFFFFFFFF, 0, 18446744073709551615, 0x0⟩,
  ⟨"IDLE_NO_WORK", 0x88, 1, 8, .num, .ro, 0xFFFFFFFFFFFFFFFF, 0, 18446744073709551615, 0x0⟩,
  ⟨"IDLE_COUNTER_CLEAR", 0x89, 1, 4, .num, .wo, 0x1, 0, 1, 0x0⟩,
  ⟨"IDLE_CORE_SELECT", 0x8A, 1, 1, .num, .rw, 0xFF, 0, 255, 0xFF⟩,
  ⟨"LAUNCH_SEQ", 0x8B, 1, 8, .num, .ro, 0xFFFFFFFFFFFFFFFF, 0, 18446744073709551615, 0x0⟩,
  ⟨"TILE_OVERLONG", 0x8C, 1, 8, .num, .ro, 0xFFFFFFFFFFFFFFFF, 0, 18446744073709551615, 0x0⟩,
  ⟨"RETAIN_CORE", 0x90, 1, 1, .num, .rw, 0xFF, 0, 15, 0x0⟩,
  ⟨"RETAIN_MASK", 0x91, 1, 8, .num, .rw, 0xFFFFFFFFFFFFFFFF, 0, 18446744073709551615, 0x0⟩,
  ⟨"RETAIN_BANKS", 0x92, 1, 2, .num, .ro, 0xFFFF, 0, 65535, 0x0⟩,
  ⟨"TANGO_RESERVE", 0x93, 1, 1, .num, .rw, 0xFF, 0, 27, 0x0⟩,
  ⟨"SPAD_CE", 0x94, 1, 8, .num, .ro, 0xFFFFFFFFFFFFFFFF, 0, 18446744073709551615, 0x0⟩,
  ⟨"SPAD_UE", 0x95, 1, 8, .num, .ro, 0xFFFFFFFFFFFFFFFF, 0, 18446744073709551615, 0x0⟩,
  ⟨"WALNUT_CE", 0x96, 1, 8, .num, .ro, 0xFFFFFFFFFFFFFFFF, 0, 18446744073709551615, 0x0⟩,
  ⟨"WALNUT_UE", 0x97, 1, 8, .num, .ro, 0xFFFFFFFFFFFFFFFF, 0, 18446744073709551615, 0x0⟩,
  ⟨"HBM_CE", 0x98, 1, 8, .num, .ro, 0xFFFFFFFFFFFFFFFF, 0, 18446744073709551615, 0x0⟩,
  ⟨"HBM_UE", 0x99, 1, 8, .num, .ro, 0xFFFFFFFFFFFFFFFF, 0, 18446744073709551615, 0x0⟩,
  ⟨"MEM_COUNTER_CLEAR", 0x9A, 1, 4, .num, .wo, 0x1, 0, 1, 0x0⟩,
  ⟨"HBM_USABLE", 0x9B, 1, 4, .num, .ro, 0xFFFFFFFF, 0, 4294967295, 0x0⟩,
  ⟨"DMA_ARRIVE_TIMEOUT", 0xA0, 1, 4, .num, .rw, 0xFFFFFFFF, 1, 1000000, 0x3D1⟩,
  ⟨"DMA_BYTES_READ", 0xA1, 1, 8, .num, .ro, 0xFFFFFFFFFFFFFFFF, 0, 18446744073709551615, 0x0⟩,
  ⟨"DMA_BYTES_WRITTEN", 0xA2, 1, 8, .num, .ro, 0xFFFFFFFFFFFFFFFF, 0, 18446744073709551615, 0x0⟩,
  ⟨"DMA_PREEMPTIONS", 0xA3, 1, 8, .num, .ro, 0xFFFFFFFFFFFFFFFF, 0, 18446744073709551615, 0x0⟩,
  ⟨"DMA_ERRORS", 0xA4, 1, 4, .num, .ro, 0xFFFFFFFF, 0, 4294967295, 0x0⟩,
  ⟨"DMA_PEER_DROPPED", 0xA5, 1, 8, .num, .ro, 0xFFFFFFFFFFFFFFFF, 0, 18446744073709551615, 0x0⟩,
  ⟨"DMA_COUNTER_CLEAR", 0xA6, 1, 4, .num, .wo, 0x1, 0, 1, 0x0⟩,
  ⟨"GROUP_LEAD", 0xB0, 1, 1, .num, .rw, 0xFF, 0, 15, 0x0⟩]

/-- Part 3 of index 0x3p00. -/
def partObjs3 : List ObjSpec := [
  ⟨"GROUP_MEMBERS", 0xB1, 1, 2, .num, .ro, 0xFFFF, 0, 65535, 0x0⟩,
  ⟨"RESIDENT_MASK", 0xB2, 1, 2, .num, .ro, 0xFFFF, 0, 65535, 0x0⟩,
  ⟨"SWAPS", 0xB3, 1, 8, .num, .ro, 0xFFFFFFFFFFFFFFFF, 0, 18446744073709551615, 0x0⟩,
  ⟨"SWAP_BYTES", 0xB4, 1, 8, .num, .ro, 0xFFFFFFFFFFFFFFFF, 0, 18446744073709551615, 0x0⟩,
  ⟨"PREEMPTIONS", 0xB5, 1, 8, .num, .ro, 0xFFFFFFFFFFFFFFFF, 0, 18446744073709551615, 0x0⟩,
  ⟨"OVERRUN_BEATS", 0xB6, 1, 8, .num, .ro, 0xFFFFFFFFFFFFFFFF, 0, 18446744073709551615, 0x0⟩,
  ⟨"LATE_STARTS", 0xB7, 1, 8, .num, .ro, 0xFFFFFFFFFFFFFFFF, 0, 18446744073709551615, 0x0⟩,
  ⟨"FALLBACKS", 0xB8, 1, 8, .num, .ro, 0xFFFFFFFFFFFFFFFF, 0, 18446744073709551615, 0x0⟩,
  ⟨"DEADLINE_MISSES", 0xB9, 1, 8, .num, .ro, 0xFFFFFFFFFFFFFFFF, 0, 18446744073709551615, 0x0⟩,
  ⟨"TEARDOWN_LATE_DROPS", 0xBA, 1, 8, .num, .ro, 0xFFFFFFFFFFFFFFFF, 0, 18446744073709551615, 0x0⟩,
  ⟨"TEARDOWN_TIMEOUTS", 0xBB, 1, 4, .num, .ro, 0xFFFFFFFF, 0, 4294967295, 0x0⟩,
  ⟨"SCHED_COUNTER_CLEAR", 0xBC, 1, 4, .num, .wo, 0x1, 0, 1, 0x0⟩,
  ⟨"VERSION_BASE0", 0xC0, 1, 8, .num, .rw, 0xFFFFFFFFFFFFFFFF, 0, 18446744073709551615, 0x0⟩,
  ⟨"VERSION_BASE1", 0xC1, 1, 8, .num, .rw, 0xFFFFFFFFFFFFFFFF, 0, 18446744073709551615, 0x0⟩,
  ⟨"VERSION_SIZE", 0xC2, 1, 8, .num, .rw, 0xFFFFFFFFFFFFFFFF, 0, 18446744073709551615, 0x0⟩,
  ⟨"VERSION_CONTROL", 0xC3, 1, 4, .num, .wo, 0xFFFFFFFF, 0, 4294967295, 0x0⟩,
  ⟨"LOAD_MANIFEST_ADDR", 0xC4, 1, 8, .num, .rw, 0xFFFFFFFFFFFFFFFF, 0, 18446744073709551615, 0x0⟩,
  ⟨"LOAD_CONTROL", 0xC5, 1, 4, .num, .wo, 0xF, 0, 15, 0x0⟩,
  ⟨"LOAD_STATUS", 0xC6, 1, 4, .num, .ro, 0xFFFFFFFF, 0, 4294967295, 0x0⟩,
  ⟨"LOAD_FAIL_SHARD", 0xC7, 1, 4, .num, .ro, 0xFFFFFFFF, 0, 4294967295, 0x0⟩,
  ⟨"LOAD_SHARD_DEADLINE", 0xC8, 1, 4, .num, .rw, 0xFFFFFFFF, 1, 1000000, 0x3D1⟩,
  ⟨"SERVE_ADDR", 0xC9, 1, 8, .num, .rw, 0xFFFFFFFFFFFFFFFF, 0, 18446744073709551615, 0x0⟩,
  ⟨"SERVE_CONTROL", 0xCA, 1, 4, .num, .rw, 0x1, 0, 1, 0x0⟩,
  ⟨"SHARDS_VERIFIED", 0xCB, 1, 8, .num, .ro, 0xFFFFFFFFFFFFFFFF, 0, 18446744073709551615, 0x0⟩,
  ⟨"DIGEST_MISMATCHES", 0xCC, 1, 8, .num, .ro, 0xFFFFFFFFFFFFFFFF, 0, 18446744073709551615, 0x0⟩,
  ⟨"FETCH_FAILURES", 0xCD, 1, 8, .num, .ro, 0xFFFFFFFFFFFFFFFF, 0, 18446744073709551615, 0x0⟩,
  ⟨"LOAD_STRAY_DROPS", 0xCE, 1, 8, .num, .ro, 0xFFFFFFFFFFFFFFFF, 0, 18446744073709551615, 0x0⟩,
  ⟨"SERVES", 0xCF, 1, 8, .num, .ro, 0xFFFFFFFFFFFFFFFF, 0, 18446744073709551615, 0x0⟩,
  ⟨"ACORN_SELECT", 0xD0, 1, 1, .num, .rw, 0xFF, 0, 31, 0x0⟩,
  ⟨"ACORN_ENTRY", 0xD1, 1, 8, .num, .rw, 0xFFFFFFFFFFFFFFFF, 0, 18446744073709551615, 0x0⟩,
  ⟨"WEIGHT_COUNTER_CLEAR", 0xD2, 1, 4, .num, .wo, 0x1, 0, 1, 0x0⟩,
  ⟨"PART_RESET", 0xE0, 1, 4, .num, .wo, 0x3, 0, 3, 0x0⟩,
  ⟨"PART_RESET_STATE", 0xE1, 1, 1, .num, .ro, 0xFF, 0, 255, 0x0⟩,
  ⟨"PART_RESET_CAUSE", 0xE2, 1, 1, .num, .ro, 0xFF, 0, 255, 0x0⟩,
  ⟨"PART_RESETS", 0xE3, 1, 4, .num, .ro, 0xFFFFFFFF, 0, 4294967295, 0x0⟩,
  ⟨"TILE_WATCHDOG", 0xE4, 1, 4, .num, .rw, 0xFFFFFFFF, 64, 1000000, 0x1E9⟩,
  ⟨"GATE_WATCHDOG", 0xE5, 1, 4, .num, .rw, 0xFFFFFFFF, 0, 100000000, 0x9502F9⟩,
  ⟨"HANG_STOPS", 0xE6, 1, 4, .num, .ro, 0xFFFFFFFF, 0, 4294967295, 0x0⟩,
  ⟨"SAMPLE_ADDR", 0xE7, 1, 8, .num, .rw, 0xFFFFFFFFFFFFFFFF, 0, 18446744073709551615, 0x0⟩,
  ⟨"SAMPLE_WINDOW", 0xE8, 1, 4, .num, .rw, 0xFFFFFFFF, 0, 4294967295, 0x0⟩]

/-- Part 4 of index 0x3p00. -/
def partObjs4 : List ObjSpec := [
  ⟨"SAMPLE_STATUS", 0xE9, 1, 4, .num, .ro, 0xFFFFFFFF, 0, 4294967295, 0x0⟩,
  ⟨"BIST_CONTROL", 0xEA, 1, 4, .num, .wo, 0x7, 0, 7, 0x0⟩,
  ⟨"BIST_STATUS", 0xEB, 1, 1, .num, .ro, 0xFF, 0, 255, 0x0⟩,
  ⟨"BIST_RESULT", 0xEC, 1, 4, .num, .ro, 0xFFFFFFFF, 0, 4294967295, 0x0⟩]

/-- Index 0x3p00: the objects of a partition (R52 to R440). -/
def partObjs : List ObjSpec := partObjs1 ++ partObjs2 ++ partObjs3 ++ partObjs4

/-- The objects that an index carries (R384); none for an index that no chapter defines (R385). -/
def objTable (index : Nat) : List ObjSpec :=
  if index = 0x1000 then identObjs
  else if index = 0x1100 then congaObjs
  else if index = 0x2000 then powerObjs
  else if index = 0x2100 then thermalObjs
  else if index = 0x2200 then clockObjs
  else if index = 0x2300 then partsObjs
  else if index = 0x2400 then healthObjs
  else if index = 0x2500 then fabricObjs
  else if 0x2510 ≤ index ∧ index < 0x2530 then portObjs
  else if index = 0x2600 then collObjs
  else if 0x2610 ≤ index ∧ index < 0x2690 then slotObjs
  else if index = 0x2700 then tangoObjs
  else if index = 0x2800 then memObjs
  else if 0x2810 ≤ index ∧ index < 0x281C then stackObjs
  else if index = 0x2900 then secObjs
  else if index = 0x2A00 then resetObjs
  else if 0x2F00 ≤ index ∧ index < 0x2F40 then calBlockObjs
  else if index = 0x2F40 then calObjs
  else if 0x3000 ≤ index ∧ index < 0x4000 ∧ index % 0x100 = 0 then partObjs
  else []

/-- The row of a subindex. -/
def objFind : List ObjSpec → Nat → Option ObjSpec
  | [], _ => none
  | o :: os, sub => if o.sub ≤ sub ∧ sub < o.sub + o.count then some o else objFind os sub

/-- The specification of an object; `none` for an undefined object (R385). -/
def objSpec (index sub : Nat) : Option ObjSpec := objFind (objTable index) sub

/-- An object's key in the state's dictionary. -/
def objKey (index sub : Nat) : Nat := index * 256 + sub

/-- The reset or factory value of an object, by key. GROUP_LEAD resets to its own partition (R199), ports 14, 15, 30
and 31 are TANGO from the factory (R204). -/
def objDefault (key : Nat) : Word :=
  let index := key / 256
  let sub := key % 256
  if sub = 0xB0 ∧ 0x3000 ≤ index ∧ index < 0x4000 ∧ index % 256 = 0 then BitVec.ofNat 64 (index / 256 % 16)
  else if sub = 0x01 ∧ (index = 0x251E ∨ index = 0x251F ∨ index = 0x252E ∨ index = 0x252F) then 1#64
  else
    match objSpec index sub with
    | some o => BitVec.ofNat 64 o.reset
    | none => 0#64

/-- The index of partition `p`'s objects. -/
def partIndex (p : Nat) : Nat := 0x3000 + 0x100 * p

/-- The key of object `sub` of partition `p`. -/
def pKey (p sub : Nat) : Nat := objKey (partIndex p) sub

end Sys2Proof.Machine
end

