-- ==== Sys2Proof/Machine/SchedState.lean ====
section
/-! DEFINITION. The tables of the command processor: programs, contexts, launch slots, launches, stream channels,
the version table and the step fence (R101 to R130, R174 to R200, R285, R289). -/

namespace Sys2Proof.Machine

/-- States of a program table entry (R107). -/
inductive ProgState where
  | free | validating | ready | refused
  deriving DecidableEq, Repr

/-- A program table entry (R107); `img` is what the registered image says once it is READY (R4). -/
structure Prog where
  length : Nat
  releasing : Bool
  gen : Fin 64
  state : ProgState
  refuse : Nat
  address : Nat
  img : Option Image
  deriving DecidableEq, Repr

/-- A program table entry at reset. -/
def Prog.reset : Prog := ⟨0, false, 0, .free, 0, 0, none⟩

/-- States of a context (R178). -/
inductive CtxState where
  | free | swapped | loading | resident | evicting | teardown | retired
  deriving DecidableEq, Repr

/-- A context table entry (R177) with what the swapper and teardown keep of it. -/
structure Ctx where
  coreMask : BitVec 128
  saveAddr : Nat
  spadBase : Nat
  spadSize : Nat
  slice : Nat
  teardownDl : Nat
  jobId : Nat
  priority : Nat
  weight : Nat
  state : CtxState
  quietPending : Nat
  saveError : Bool
  timedOut : Bool
  blockedSince : Nat
  saveBytes : Nat
  /-- the context has been saved before (R181) -/
  saved : Bool
  /-- the beat counter at which the current slice began, and its length in beats (R185) -/
  sliceStart : Option Nat
  sliceLen : Nat
  /-- beats charged against slices to come (R186) -/
  charge : Nat
  /-- expiries of slices during which tiles that still run were running: the beat counter, and the beats already charged
  (R186) -/
  overs : List (Nat × Nat)
  /-- its state is or was on its cores when it was torn down -/
  onCores : Bool
  /-- the beat counter when the slice expired while a runnable context needed the cores (R183) -/
  expired : Option Nat
  /-- the beat counter when the context became runnable, and when its last restore completed (R183) -/
  runnableSince : Nat
  restored : Nat
  /-- an eviction is requested for the next tile boundaries (R118) -/
  evictReq : Bool
  /-- the beat of the TEARDOWN write, of the retirement, or of the start of a swap (R197, R198, R333) -/
  since : Nat
  deriving DecidableEq, Repr

/-- A context table entry at reset (R177). -/
def Ctx.reset : Ctx :=
  { coreMask := 0, saveAddr := 0, spadBase := 0, spadSize := 0, slice := 0, teardownDl := 1954, jobId := 0xFFF,
    priority := 0, weight := 1, state := .free, quietPending := 0, saveError := false, timedOut := false,
    blockedSince := 0, saveBytes := 0, saved := false, sliceStart := none, sliceLen := 0, charge := 0, overs := [],
    onCores := false, expired := none, runnableSince := 0, restored := 0, evictReq := false, since := 0 }

/-- States of a launch slot (R187). -/
inductive SlotState where
  | empty | armed | running | done
  deriving DecidableEq, Repr

/-- A launch slot (R187). -/
structure LSlot where
  startBeat : Nat
  patchAddr : Nat
  recordAddr : Nat
  handle : Nat
  fallback : Nat
  deadline : Nat
  expect : Nat
  ctxId : Nat
  patchCount : Nat
  fallbackEn : Bool
  irq : Bool
  ranFallback : Bool
  state : SlotState
  /-- the core set fixed when the slot was armed (R188), as group-local cores -/
  coreSet : List Nat
  /-- the beat counter of the arming: the slot starts no sooner than the cycle after it (R189) -/
  armedAt : Nat
  /-- prewake has been asked for this slot (R415) -/
  prewoken : Bool
  /-- beats for which the scan watchdog has seen the slot startable (R333) -/
  readyBeats : Nat
  deriving DecidableEq, Repr

/-- A launch slot at reset. -/
def LSlot.reset : LSlot :=
  { startBeat := 0, patchAddr := 0, recordAddr := 0, handle := 0, fallback := 0, deadline := 0, expect := 0,
    ctxId := 0, patchCount := 0, fallbackEn := false, irq := false, ranFallback := false, state := .empty,
    coreSet := [], armedAt := 0, prewoken := false, readyBeats := 0 }

/-- A stream channel of a running launch (R126): the counts are of unreserved bytes and credits. -/
structure StreamSt where
  /-- bytes that wait and are not reserved -/
  data : Nat
  /-- free bytes that are not reserved -/
  credits : Nat
  readPos : Nat
  writePos : Nat
  deriving DecidableEq, Repr

/-- How a launch ended: status code, failing group-local core and failing tile (R129, R130). -/
structure LaunchEnd where
  code : Nat
  core : Nat
  tile : Nat
  deriving DecidableEq, Repr

/-- A launch that is running or ending (R109, R110, R128, R130). -/
structure Launch where
  ctx : Nat
  handle : Nat
  img : Image
  startBeat : Nat
  recordAddr : Nat
  deadline : Nat
  irq : Bool
  /-- the partitions whose arithmetic mode was EM7-compatible when the launch began (R52) -/
  ftz : List Nat
  /-- flags of the launch's cores that have been cleared since it began, as ARITH_FLAGS has them (R51) -/
  flags : Nat
  /-- beat counter at the first tile issue -/
  startNs : Option Nat
  /-- set once the launch has failed or has been told to end -/
  ending : Option LaunchEnd
  /-- cycles by class, summed over the launch's cores (R131) -/
  cycles : SMap Nat
  overrun : Nat
  /-- the launch's stream channels, by index in the image -/
  streams : SMap StreamSt
  deriving DecidableEq, Repr

/-- States of a version slot (R101). -/
inductive VState where
  | free | pending | committed | retiring
  deriving DecidableEq, Repr

/-- What holds a slot PENDING (R101, R289, R262). -/
inductive VHolder where
  | step | load | reel
  deriving DecidableEq, Repr

/-- A slot of a weight region (R101). -/
structure VSlot where
  state : VState
  tag : Tag
  bind : Nat
  addr : Nat
  holder : VHolder
  /-- marked written by the optimizer program (R103) -/
  written : Bool
  deriving DecidableEq, Repr

/-- A slot at reset. -/
def VSlot.reset : VSlot := ⟨.free, 0#16, 0, 0, .step, false⟩

/-- A weight region of the version table (R101, R285). -/
structure VEntry where
  valid : Bool
  single : Bool
  slot0 : VSlot
  slot1 : VSlot
  /-- bytes of the region -/
  size : Nat
  deriving DecidableEq, Repr

/-- A version table entry at reset (R105). -/
def VEntry.reset : VEntry := ⟨false, false, .reset, .reset, 0⟩

/-- An admitted micro-batch and the slots it keeps (R102): region and slot number. -/
structure MicroBatch where
  mb : Nat
  /-- the training step whose micro-batch it is (R103) -/
  trains : Nat
  /-- the acorn entries that the request names (R298) -/
  acorns : List Nat
  step : Option Nat
  binds : List (Nat × Nat)
  /-- regions whose slot of the step is not there yet -/
  wants : List Nat
  deriving DecidableEq, Repr

/-- States of the step fence (R105). -/
inductive FenceState where
  | idle | armed | committed | aborted
  deriving DecidableEq, Repr

/-- The step fence of a partition (R103). -/
structure StepFence where
  state : FenceState
  step : Nat
  mbs : Nat
  retired : Nat
  beat : Nat
  /-- the context of the program that began the step -/
  ctx : Option Nat
  /-- the aborted step's next tag, whose VERSION gates are void until the next step begin (R104, R129) -/
  voided : Option Tag
  deriving DecidableEq, Repr

/-- The fence at reset. -/
def StepFence.reset : StepFence := ⟨.idle, 0, 0, 0, 0, none, none⟩

end Sys2Proof.Machine
end

