-- ==== Sys2Proof/Machine/WeightState.lean ====
section
/-! DEFINITION. The loader, the server and the acorn table of a partition (R285 to R300). -/

namespace Sys2Proof.Machine

/-- States of a shard (R289); `idle` before LOADING and after commit or cancel. -/
inductive ShardSt where
  | idle | waiting | fetching | verifying | verified | failed
  deriving DecidableEq, Repr

/-- A shard of the manifest (R287) and its progress. -/
structure Shard where
  region : Nat
  expect : Bool
  /-- context identifier and fabric address of each holder -/
  holders : List (Nat × FabAddr)
  offset : Nat
  bytes : Nat
  digest : List Byte
  st : ShardSt
  fails : Nat
  /-- the ATTEMPT value of the current or next attempt -/
  attempt : Nat
  /-- the beat of the current attempt's request, and its acknowledgement sequence while it is not acknowledged -/
  sentAt : Nat
  seq : Option Nat
  /-- it holds a digest unit (R291) -/
  unit : Bool
  deriving DecidableEq, Repr

/-- States of the loader (LOAD_STATUS). -/
inductive LoadSt where
  | idle | waitSlot | loading | verified | failed | committed | cancelled
  deriving DecidableEq, Repr

/-- The code of a loader state. -/
def LoadSt.code : LoadSt → Nat
  | .idle => 0
  | .waitSlot => 1
  | .loading => 2
  | .verified => 3
  | .failed => 4
  | .committed => 5
  | .cancelled => 6

/-- A fetch request as a server takes it (R292). -/
structure FetchReq where
  /-- the context of this device under which it came -/
  ctx : Nat
  attempt : Nat
  region : Nat
  tag : Tag
  reqCtx : Nat
  reqAddr : FabAddr
  job : Nat
  offset : Nat
  bytes : Nat
  dest : Nat
  shard : Nat
  deriving DecidableEq, Repr

/-- A serve in progress: the request, the slot bound, peer writes not yet acknowledged, and whether one was refused. -/
structure Serve where
  req : FetchReq
  slot : Nat
  left : Nat
  refused : Bool
  since : Nat
  /-- SEQ of its first peer write, and how many it has -/
  seq : Nat
  chunks : Nat
  deriving DecidableEq, Repr

/-- The loader and server of a partition. -/
structure LoaderSt where
  st : LoadSt
  shards : List Shard
  regions : List Nat
  tag : Tag
  job : Nat
  ctx : Nat
  expectBeat : Nat
  manifest : Nat
  /-- LOAD_FAIL_SHARD -/
  failWord : Nat
  /-- slots held PENDING: region and slot -/
  held : List (Nat × Nat)
  nextSeq : Nat
  queue : List FetchReq
  serve : Option Serve
  deriving DecidableEq, Repr

/-- A loader as partition reset leaves it (R296). -/
def LoaderSt.reset : LoaderSt :=
  { st := .idle, shards := [], regions := [], tag := 0, job := 0, ctx := 0, expectBeat := 0, manifest := 0,
    failWord := 0, held := [], nextSeq := 0, queue := [], serve := none }

end Sys2Proof.Machine
end

