-- ==== Sys2Proof/Machine/State.lean ====
section
/-! DEFINITION. The state of the EM9, its reset state, and the reasons a step may stop. -/

namespace Sys2Proof.Machine

/-- An entry of the memory error log (R153, R155). -/
structure EccEntry where
  /-- 1 corrected, 2 uncorrectable -/
  outcome : Nat
  source : Nat
  writeback : Bool
  symbol : Nat
  part : Nat
  unit : Nat
  addr : Nat
  beat : Nat
  deriving DecidableEq, Repr

structure State where
  pending : List Instr
  /-- the object dictionary's registers and counters, by object key; an unlisted object holds its reset value -/
  obj : SMap Word
  mem : Mem
  /-- the next serial number of a free value: the model's own (log entry 10) -/
  freeCtr : Nat
  out : List Out
  /-- the Beat counter in nanoseconds (R14) -/
  beat : Nat
  cores : SMap CoreSt
  /-- retention masks by device core (R138) -/
  retain : SMap Word
  progs : SMap Prog
  ctxs : SMap Ctx
  slots : SMap LSlot
  launches : SMap Launch
  saved : SMap (List (Nat × SavedCore))
  versions : SMap VEntry
  fences : SMap StepFence
  mbs : SMap (List MicroBatch)
  dma : SMap DmaCh
  dmaEng : SMap DmaEng
  host : HostSt
  mgmt : MgmtSt
  eccLog : List EccEntry
  fab : FabricSt
  loaders : SMap LoaderSt
  /-- job slots beside their objects (R234) -/
  coll : SMap CollSlot
  /-- acorn entries by 32 × partition + entry (R298) -/
  acorns : SMap Word
  /-- quiet requests taken as a peer (R196) -/
  quiet : List Quiet
  pow : PowSt
  sec : SecSt
  hang : HangSt
  tango : TangoSt
  health : HealthSt
  deriving DecidableEq, Repr

/-- Reasons to stop with a fault. There is none: an access that the EM9 refuses raises an event and leaves a next state
(R18, R134, R363), so no step of the model faults. Safe. -/
inductive Fault where
  deriving DecidableEq, Repr

/-- Reasons to refuse a command. -/
inductive Refusal where
  /-- raised by an arm of `exec` for a command without a meaning; safe, since nothing is claimed of such a step -/
  | notModelled (mnemonic : String)
  deriving DecidableEq, Repr

/-- The EM9 right after a chip reset and before its reset release (R343, R444): powered, every object at its reset value,
READINESS reading RESET_HELD, memory with nothing listed. Fields the manual gives no reset value: log entries 10, 20, 55,
56. -/
def State.reset : State :=
  { pending := [], obj := [], mem := ⟨[], []⟩, freeCtr := 0, out := [], beat := 0, cores := [], retain := [], progs := [], ctxs := [],
    slots := [], launches := [], saved := [], versions := [], fences := [], mbs := [], dma := [], dmaEng := [],
    host := .reset, mgmt := .reset, eccLog := [], fab := .reset, loaders := [], coll := [], acorns := [], quiet := [],
    pow := .reset, sec := .reset, hang := .reset, tango := .reset, health := .reset }

end Sys2Proof.Machine
end

