-- ==== Sys2Proof/Machine/Ops.lean ====
section
/-! DEFINITION. The named operations over the state: objects and counters, cores, memory, partition groups, free values
and events. -/

namespace Sys2Proof.Machine

/-! ## Objects and counters -/

/-- The stored value of an object. -/
def State.rd (s : State) (key : Nat) : Word := mget (objDefault key) s.obj key

/-- Storing an object's value. -/
def State.wr (s : State) (key : Nat) (v : Word) : State :=
  { s with obj := mset (objDefault key) s.obj key v }

/-- Storing a free value: it is listed whatever it is, so that no table's shape depends on it. -/
def State.wrFree (s : State) (key : Nat) (v : Word) : State := { s with obj := mins v s.obj key }

/-- The stored value as a number. -/
def State.rdN (s : State) (key : Nat) : Nat := (s.rd key).toNat

/-- Storing a number. -/
def State.wrN (s : State) (key : Nat) (v : Nat) : State := s.wr key (BitVec.ofNat 64 v)

/-- An object of partition `p`. -/
def State.pRd (s : State) (p sub : Nat) : Word := s.rd (pKey p sub)

/-- Storing an object of partition `p`. -/
def State.pWr (s : State) (p sub : Nat) (v : Word) : State := s.wr (pKey p sub) v

/-- An object of partition `p` as a number. -/
def State.pN (s : State) (p sub : Nat) : Nat := s.rdN (pKey p sub)

/-- The counters that the health scores follow (R321): of ports, stacks, partitions and the device. -/
def tracked (key : Nat) : Bool :=
  let index := key / 256
  let sub := key % 256
  if 0x2510 ≤ index ∧ index < 0x2530 then sub == 6 || sub == 8 || sub == 9 || sub == 0x0F
  else if 0x2810 ≤ index ∧ index < 0x281C then sub == 2 || sub == 3 || sub == 5
  else if 0x3000 ≤ index ∧ index < 0x4000 then
    index % 256 == 0 && ((decide (0x94 ≤ sub) && decide (sub ≤ 0x97)) || sub == 0xE6)
  else if index = 0x2800 then sub == 0x10 || sub == 0x11
  else index == 0x2500 && sub == 0x1B

/-- A shadow counter, which no counter clear reaches (R321). -/
def State.shadowAdd (s : State) (key n : Nat) : State :=
  { s with health := { s.health with shadow := mmod 0 s.health.shadow key fun x => x + n } }

/-- The shadow counter of a followed counter. -/
def State.shadowOf (s : State) (key n : Nat) : State := if tracked key then s.shadowAdd key n else s

/-- A 64-bit counter that wraps. -/
def State.count (s : State) (key n : Nat) : State := (s.shadowOf key n).wr key (s.rd key + BitVec.ofNat 64 n)

/-- A 32-bit counter that wraps. -/
def State.count32 (s : State) (key n : Nat) : State := (s.shadowOf key n).wrN key ((s.rdN key + n) % 2 ^ 32)

/-- A counter that saturates at `top`. -/
def State.countSat (s : State) (key n top : Nat) : State := (s.shadowOf key n).wrN key (min (s.rdN key + n) top)

/-- A 32-bit counter that saturates. -/
def State.count32Sat (s : State) (key n : Nat) : State := s.countSat key n (2 ^ 32 - 1)

/-- A 64-bit partition counter that wraps. -/
def State.pCount (s : State) (p sub n : Nat) : State := s.count (pKey p sub) n

/-- Objects `sub` to `sub + n - 1` of an index set back to their reset values. -/
def State.clearObjs (s : State) (index sub : Nat) : Nat → State
  | 0 => s
  | n + 1 => (s.wr (objKey index sub) (objDefault (objKey index sub))).clearObjs index (sub + 1) n

/-- A bit of a word. -/
def bit (v : Word) (i : Nat) : Bool := v.getLsbD i

/-- Field [hi:lo] of a word as a number. -/
def field (v : Word) (hi lo : Nat) : Nat := v.toNat / 2 ^ lo % 2 ^ (hi + 1 - lo)

/-- Field [hi:lo] of a number. -/
def nfield (v hi lo : Nat) : Nat := v / 2 ^ lo % 2 ^ (hi + 1 - lo)

/-- A number with field [hi:lo] replaced. -/
def setField (v hi lo x : Nat) : Nat :=
  v - nfield v hi lo * 2 ^ lo + (x % 2 ^ (hi + 1 - lo)) * 2 ^ lo

/-- A Boolean as a bit. -/
def b2n (b : Bool) : Nat := if b then 1 else 0

/-! ## Free values, output, time -/

/-- The next free-value serial, and the state that has moved past it. -/
def State.fresh (s : State) : Nat × State := (s.freeCtr, { s with freeCtr := s.freeCtr + 1 })

/-- A wait, or a number of events, whose amount the manual does not give is counted: a free amount is added to a 64-bit
counter (log entry 67). -/
def State.waitsAt (s : State) (key : Nat) : State :=
  let (n, s) := s.fresh
  (s.shadowOf key (Config.freeWord n 0).toNat).wrFree key (s.rd key + Config.freeWord n 0)

/-- Something leaves the device. -/
def State.emit (s : State) (o : Out) : State := { s with out := s.out ++ [o] }

/-- The beat index: Beat[63:10] (R14). -/
def State.beatIx (s : State) : Nat := s.beat / 1024

/-- The age stamp of a request that issues now: bits [35:4] of the Beat counter (R193). -/
def State.ageStamp (s : State) : Nat := s.beat / 16 % 2 ^ 32

/-- `a` is older than `b` (R193). -/
def olderStamp (a b : Nat) : Bool := decide ((b + 2 ^ 32 - a) % 2 ^ 32 < 2 ^ 31) && decide (a ≠ b)

/-! ## Cores -/

/-- A core. -/
def State.core (s : State) (c : Nat) : CoreSt := mget CoreSt.reset s.cores c

/-- Setting a core. -/
def State.setCore (s : State) (c : Nat) (x : CoreSt) : State :=
  { s with cores := mset CoreSt.reset s.cores c x }

/-- Changing a core. -/
def State.modCore (s : State) (c : Nat) (f : CoreSt → CoreSt) : State := s.setCore c (f (s.core c))

/-- A parameter register (R121). -/
def CoreSt.param (x : CoreSt) (k : Nat) : Word := mget 0#64 x.params k

/-- Setting a parameter register. -/
def CoreSt.setParam (x : CoreSt) (k : Nat) (v : Word) : CoreSt := { x with params := mset 0#64 x.params k v }

/-- A loop level. -/
def CoreSt.loop (x : CoreSt) (j : Nat) : Loop := mget Loop.empty x.loops j

/-- Setting a loop level. -/
def CoreSt.setLoop (x : CoreSt) (j : Nat) (l : Loop) : CoreSt := { x with loops := mset Loop.empty x.loops j l }

/-- An engine. -/
def CoreSt.engine (x : CoreSt) (e : Nat) : Engine := mget Engine.empty x.engines e

/-- Setting an engine. -/
def CoreSt.setEngine (x : CoreSt) (e : Nat) (v : Engine) : CoreSt :=
  { x with engines := mset Engine.empty x.engines e v }

/-- An amax slot (R43). -/
def CoreSt.amaxSlot (x : CoreSt) (i : Nat) : Word32 := mget 0#32 x.amax i

/-- Setting an amax slot. -/
def CoreSt.setAmax (x : CoreSt) (i : Nat) (v : Word32) : CoreSt := { x with amax := mset 0#32 x.amax i v }

/-- Element `i` of vector register `r`; elements past 511 run on into the next register (log entry 30). -/
def vregKey (r i : Nat) : Nat := (r * 512 + i) % 16384

/-- A vector register element (R72). -/
def CoreSt.vreg (x : CoreSt) (r i : Nat) : Word32 := mget 0#32 x.vregs (vregKey r i)

/-- Setting a vector register element. -/
def CoreSt.setVreg (x : CoreSt) (r i : Nat) (v : Word32) : CoreSt :=
  { x with vregs := mset 0#32 x.vregs (vregKey r i) v }

/-- The flag groups of a core's flag word (R50). -/
inductive FlagGroup where
  | eng (e : Nat)
  | vec
  | conv
  deriving DecidableEq, Repr

/-- The lowest bit of a flag group. -/
def FlagGroup.lo : FlagGroup → Nat
  | .eng e => 4 * (e % 4)
  | .vec => 20
  | .conv => 24

/-- Raising flags in a group of a core's flag word (R50). -/
def CoreSt.raise (x : CoreSt) (g : FlagGroup) (f : Flg) : CoreSt :=
  { x with flags := x.flags ||| (BitVec.zeroExtend 32 f <<< g.lo) }

/-! ## Partition groups (R106, R174) -/

/-- The lead of a partition's group. -/
def State.lead (s : State) (p : Nat) : Nat := s.pN p 0xB0

/-- The members of a partition's group, in ascending order. -/
def State.members (s : State) (p : Nat) : List Nat :=
  (List.range 16).filter fun q => s.lead q == s.lead p

/-- Whether two partitions are in one group. -/
def State.sameGroup (s : State) (p q : Nat) : Bool := s.lead p == s.lead q

/-- The device core of a group-local core number (R106). -/
def State.groupCore (s : State) (p g : Nat) : Option Nat :=
  match (s.members p)[g / 16]? with
  | some q => some (16 * q + g % 16)
  | none => none

/-- The group-local number of a device core (R106). -/
def State.groupLocal (s : State) (c : Nat) : Nat :=
  16 * ((s.members (c / 16)).findIdx fun q => q == c / 16) + c % 16

/-! ## Memory by address -/

/-- The lowest address of a partition's Tango reserve (R141). -/
def State.reserveBase (s : State) (p : Nat) : Nat := hbmBase (p + 1) - s.pN p 0x93 * 2 ^ 30

/-- Whether an address lies in a Tango reserve. -/
def State.inReserve (s : State) (a : Nat) : Bool :=
  decide (a < hbmEnd) && decide (s.reserveBase (a / hbmSize) ≤ a)

/-- Whether the range [a, a + n) lies in the HBM of partition `p`'s group outside every Tango reserve. A range
lies within one partition's area or runs over several that are neighbours without reserve between them. -/
def State.inGroupHbm (s : State) (p a n : Nat) : Bool :=
  decide (a + n ≤ hbmEnd) &&
  (List.range 16).all fun q =>
    let lo := max a (hbmBase q)
    let hi := min (a + n) (hbmBase (q + 1))
    decide (hi ≤ lo) || (s.sameGroup p q && decide (hi ≤ s.reserveBase q))

/-- Whether the range [a, a + n) lies in the HBM of partition `p`'s group, its Tango reserves among it (R108 check 1). -/
def State.inGroupArea (s : State) (p a n : Nat) : Bool :=
  decide (a + n ≤ hbmEnd) &&
  (List.range 16).all fun q =>
    decide (min (a + n) (hbmBase (q + 1)) ≤ max a (hbmBase q)) || s.sameGroup p q

/-- Reading bytes of device memory. -/
def State.readBytes (s : State) (a n : Nat) : List Byte := s.mem.readBytes a n

/-- Writing bytes of device memory. -/
def State.writeBytes (s : State) (a : Nat) (bs : List Byte) : State := { s with mem := s.mem.writeBytes a bs }

/-- Writing a little-endian number. -/
def State.writeLE (s : State) (a n v : Nat) : State := { s with mem := s.mem.writeLE a n v }

/-- Zeroing a range. -/
def State.zeroMem (s : State) (a n : Nat) : State := { s with mem := s.mem.zero a n }

/-- Leaving a range undefined: it takes free bytes (log entry 10). -/
def State.freeMem (s : State) (a n : Nat) : State :=
  { s with mem := s.mem.fill a n (some s.freeCtr), freeCtr := s.freeCtr + 1 }

/-! ## Events (R365 to R367, R391) -/

/-- A function. -/
def State.func (s : State) (f : Nat) : FuncSt := mget FuncSt.reset s.host.funcs f

/-- Setting a function. -/
def State.setFunc (s : State) (f : Nat) (x : FuncSt) : State :=
  { s with host := { s.host with funcs := mset FuncSt.reset s.host.funcs f x } }

/-- An MSI-X vector. -/
def FuncSt.vec (x : FuncSt) (v : Nat) : MsixVec := mget MsixVec.reset x.vecs v

/-- Setting an MSI-X vector. -/
def FuncSt.setVec (x : FuncSt) (v : Nat) (m : MsixVec) : FuncSt := { x with vecs := mset MsixVec.reset x.vecs v m }

/-- Whether a vector may not send its message now: masked, or held because bus mastering is off or the function is in
D3hot (R355, R357, R367). -/
def FuncSt.held (x : FuncSt) (v : Nat) : Bool :=
  x.msixMask || (x.vec v).masked || !x.busMaster || x.d3hot

/-- Whether VF v exists (R354). -/
def State.vfExists (s : State) (v : Nat) : Bool := s.host.vfEnable && decide (1 ≤ v) && decide (v ≤ s.host.numVfs)

/-- A vector's message is sent, with what was pending merged into it, or its pending bit is set while it is held
(R367). -/
def State.sendMsix (s : State) (f v : Nat) : State :=
  let x := s.func f
  if x.held v then s.setFunc f (x.setVec v { x.vec v with pending := true })
  else (s.setFunc f (x.setVec v { x.vec v with pending := false })).emit (.msix f v)

/-- An event goes to the partition's VF, else to the PF, else nowhere (R366). -/
def State.signalPart (s : State) (p k : Nat) : State :=
  if s.vfExists (p + 1) && (s.func (p + 1)).msixEnable then s.sendMsix (p + 1) k
  else if (s.func 0).msixEnable then s.sendMsix 0 (16 + 8 * p + k)
  else s.emit (.unsignalled p k)

/-- A device event goes to a vector of the PF (R365). -/
def State.signalPf (s : State) (v : Nat) : State :=
  if (s.func 0).msixEnable then s.sendMsix 0 v else s.emit (.unsignalled 0xFF v)

/-- A Barzar event is logged and queued for its frame (R391). -/
def State.logEvent (s : State) (cls part code : Nat) : State :=
  let m := s.mgmt
  let e : EventEntry := ⟨cls, part, code, m.evSeq, s.beat⟩
  let full := decide (32 ≤ m.evQueue.length)
  { s with mgmt := { m with
      log := (e :: m.log).take 64,
      evSeq := m.evSeq + 1,
      evQueue := if full then m.evQueue else m.evQueue ++ [e],
      evLost := m.evLost || full } }

/-- Event k of partition p (R365). -/
def State.event (s : State) (p k : Nat) : State := (s.logEvent 3 p k).signalPart p k

/-- A partition fault of partition p (R365, event 7). -/
def State.partFault (s : State) (p : Nat) : State := s.event p 7

/-- The health event (R365). -/
def State.healthEvent (s : State) : State := (s.logEvent 1 0xFF 0).signalPf 0

/-- The fabric event (R365). -/
def State.fabricEvent (s : State) : State := (s.logEvent 2 0xFF 0).signalPf 1

/-- A management event, which also raises PF vector 2 (R391). -/
def State.mgmtEvent (s : State) (code : Nat) : State := (s.logEvent 4 0xFF code).signalPf 2

end Sys2Proof.Machine
end

