-- ==== Sys2Proof/Machine/Access.lean ====
section
/-! DEFINITION. The paths to objects and BAR2 tables: who reaches what, and how a refused write is recorded (R12, R358 to
R363, R377). -/

namespace Sys2Proof.Machine

/-- The outcome of a write, with the Barzar status codes of R377. -/
inductive WStatus where
  | ok | noObject | access | range | state | length | busy
  deriving DecidableEq, Repr

/-- The code of a status (R377). -/
def WStatus.code : WStatus → Nat
  | .ok => 0
  | .noObject => 1
  | .access => 2
  | .range => 3
  | .state => 4
  | .length => 5
  | .busy => 6

/-- What a write does: a new state, or a refusal that changes nothing. -/
abbrev WR := Except WStatus State

/-- A write that is refused unless a condition holds. -/
def guardW (b : Bool) (e : WStatus) (r : WR) : WR := if b then r else .error e

/-- A refused write recorded in a function's FUNC_REFUSE (R363). -/
def State.recordRefuse (s : State) (f : Nat) (bar : Fin 4) (off : Nat) (poisoned : Bool) : State :=
  let x := s.func f
  let x := if x.refValid then x
    else { x with refValid := true, refBar := bar, refPoisoned := poisoned, refCount := 0, refOffset := off }
  s.setFunc f { x with refCount := min (x.refCount + 1) 0xFFFF }

/-- READINESS (R449). -/
def State.readiness (s : State) : Nat := s.rdN (objKey 0x1000 0x30)

/-- Whether the device is job-ready: JOB_READY or PARTIAL_READY (R446). -/
def State.jobReady (s : State) : Bool := s.readiness == 5 || s.readiness == 6

/-- Whether the PCIe link is up: the rails and the reference are there, and reset release has passed (R408, R422, R444). -/
def State.pcieUp (s : State) : Bool :=
  s.pow.mode == .on && s.readiness != 0 && s.readiness != 8 && bit (s.rd (objKey 0x2200 3)) 1

/-- Whether a path is open: a function that exists and is not in D3hot, a VF only once the device is job-ready (R354,
R357, R448); Barzar while the management controller runs (R335, R383). -/
def State.viaLive (s : State) : Via → Bool
  | .pf => s.pcieUp && !(s.func 0).d3hot
  | .vf p => s.pcieUp && s.jobReady && s.vfExists (p.val + 1) && !(s.func (p.val + 1)).d3hot
  | .barzar => s.pow.mode != .off && !s.mgmt.restarting

/-- The boot set of objects (R448). -/
def bootSet (index : Nat) : Bool := index == 0x1000 || index == 0x1100 || index == 0x2900 || index == 0x2F40

/-- Whether an object answers, at the present readiness, a write or a read (R422, R448, R450; log entry 57). While the
management controller restarts, no object answers (R335). -/
def State.objOpen (s : State) (index sub : Nat) (write : Bool) : Bool :=
  let r := s.readiness
  let boot := bootSet index && !(write && index == 0x2900 && sub == 8)
  let rws := match objSpec index sub with
    | some o => o.acc == .rws
    | none => false
  let cal := decide (0x2F00 ≤ index) && decide (index ≤ 0x2F40)
  !s.mgmt.restarting &&
  (if r = 5 ∨ r = 6 ∨ r = 7 then true
   else if r = 4 ∨ r = 9 then !write || boot || rws || cal || (index == 0x2A00 && sub == 1)
   else if r = 8 then
     boot || (!write && (index == 0x2100 || (index == 0x2000 && decide (2 ≤ sub) && decide (sub ≤ 4))))
   else boot)

/-- Whether partition `p`'s command block is open: job-ready, and no partition reset of it under way (R339, R448). -/
def State.blockOpen (s : State) (p : Nat) : Bool :=
  s.jobReady && s.rdN (pKey p 0xE1) == 0 && !s.mgmt.restarting

/-- Whether a path carries the authority of the physical function (R383). -/
def viaPriv : Via → Bool
  | .pf => true
  | .vf _ => false
  | .barzar => true

/-- Whether a path reaches partition `p`'s own registers (R358, R361). -/
def viaPart : Via → Nat → Bool
  | .pf, _ => true
  | .vf q, p => q.val == p
  | .barzar, _ => true

/-- Index of a partition's objects. -/
def partIx (p : Nat) : Nat := 0x3000 + 0x100 * p

/-- Index of a job slot's objects. -/
def jsIx (j : Nat) : Nat := 0x2610 + j

/-- Whether job slot `j` is held by partition `p`, a group lead (R359). -/
def State.holds (s : State) (j p : Nat) : Bool :=
  s.rdN (objKey (jsIx j) 2) == p && s.rdN (objKey (jsIx j) 1) != 0xFFF && s.lead p == p

/-- The BAR0 offset by which a path names an object; none where the path has no offset for it (R358, R386). -/
def viaOffset : Via → Nat → Nat → Option Nat
  | .vf p, index, sub =>
    if index = partIx p then some (sub * 8)
    else if index = 0x1000 then some (0x800 + sub * 8)
    else if 0x2610 ≤ index ∧ index ≤ 0x268F ∧ sub < 32 then some (0x8000 + (index - 0x2610) * 0x100 + sub * 8)
    else none
  | _, index, sub => some (index * 0x100 + sub * 8)

/-- Whether an object that has an offset on the path is reached by it (R359). -/
def State.viaReaches (s : State) : Via → Nat → Nat → Bool
  | .vf p, index, _ => index == partIx p || index == 0x1000 || s.holds (index - 0x2610) p.val
  | _, _, _ => true

/-- A write through a path: refused, it is recorded in the function's FUNC_REFUSE; Barzar answers it with its status
(R363, R377). -/
def State.applyW (s : State) (via : Via) (bar : Fin 4) (off : Nat) (r : WR) : State :=
  match r with
  | .ok s' => s'
  | .error _ =>
    match via with
    | .pf => s.recordRefuse 0 bar off false
    | .vf p => s.recordRefuse (p.val + 1) bar off false
    | .barzar => s

/-- A write to an object through a path. -/
def State.objWrite (s : State) (via : Via) (index sub : Nat) (r : WR) : State :=
  if s.viaLive via = false then s
  else
    match viaOffset via index sub with
    | none => s
    | some off => s.applyW via 0 off (if s.viaReaches via index sub = false then .error .noObject
        else if s.objOpen index sub true = false then .error .state else r)

/-- A write to an object of partition `p`. -/
def State.partWrite (s : State) (via : Via) (p sub : Nat) (r : WR) : State := s.objWrite via (partIx p) sub r

/-- A write to partition `p`'s command block at an offset (R361); the dictionary, and so Barzar, holds no command block
(R384). -/
def State.blockWrite (s : State) (via : Via) (p off : Nat) (r : WR) : State :=
  if s.viaLive via = false ∨ viaPart via p = false then s
  else
    let r := if s.blockOpen p then r else .error .state
    match via with
    | .vf _ => s.applyW via 1 off r
    | .pf => s.applyW via 1 (p * 0x10000 + off) r
    | .barzar => s

/-- A value set and handed to flash (R382). -/
def State.saveObj (s : State) (key : Nat) (v : Word) : State :=
  let s := s.wr key v
  { s with mgmt := { s.mgmt with saves := s.mgmt.saves ++ [(key, v)] } }

/-- A counter clear: bit 0 acts, the others are reserved (R11). -/
def clearW (s : State) (v : Word) (t : State) : WR := .ok (if bit v 0 then t else s)

/-- One action bit of a control word. -/
def ctlAct (v : Word) (i : Nat) (f : State → WR) (s : State) : WR := if bit v i then f s else .ok s

/-- The action bits of a control word from bit `i` on: every bit that is set acts, in ascending order, and one that is refused
refuses the write (log entry 43). -/
def ctlActs (v : Word) (i : Nat) : List (State → WR) → State → WR
  | [], s => .ok s
  | f :: rest, s => do
    let s ← ctlAct v i f s
    ctlActs v (i + 1) rest s

end Sys2Proof.Machine
end

