-- ==== Sys2Proof/Machine/Poppy.lean ====
section
/-! DEFINITION. The Poppy generators of the vector lanes (R92 to R94). All arithmetic is modulo 2^64. -/

namespace Sys2Proof.Machine

/-- The increment of a lane's state (R92). -/
def poppyStep : Word := 0x9E3779B97F4A7C15#64

/-- mix (R92). -/
def poppyMix (z : Word) : Word :=
  let z := (z ^^^ (z >>> 30)) * 0xBF58476D1CE4E5B9#64
  let z := (z ^^^ (z >>> 27)) * 0x94D049BB133111EB#64
  z ^^^ (z >>> 31)

/-- Lane `l` of core `c` after chip reset or partition reset (R94). -/
def laneReset (c l : Nat) : Lane := ⟨poppyMix (BitVec.ofNat 64 (512 * c + l)), 0#64, 64⟩

/-- A lane of core `c`. -/
def CoreSt.lane (x : CoreSt) (c l : Nat) : Lane := mget (laneReset c l) x.lanes l

/-- Setting a lane of core `c`. -/
def CoreSt.setLane (x : CoreSt) (c l : Nat) (v : Lane) : CoreSt :=
  { x with lanes := mset (laneReset c l) x.lanes l v }

/-- Refilling the buffer: the state advances and its mix becomes the word (R92, R93). -/
def Lane.refill (l : Lane) : Lane :=
  let st := l.state + poppyStep
  ⟨st, poppyMix st, 0⟩

/-- A draw of 16 bits (R93). -/
def Lane.draw16 (l : Lane) : Nat × Lane :=
  let l := if l.pos = 64 then l.refill else l
  ((l.word >>> l.pos).toNat % 2 ^ 16, { l with pos := l.pos + 16 })

/-- A draw of 32 bits (R93). -/
def Lane.draw32 (l : Lane) : Nat × Lane :=
  let l := if l.pos = 16 ∨ l.pos = 48 then { l with pos := l.pos + 16 } else l
  let l := if l.pos = 64 then l.refill else l
  ((l.word >>> l.pos).toNat % 2 ^ 32, { l with pos := l.pos + 32 })

/-- A draw of 64 bits (R93). -/
def Lane.draw64 (l : Lane) : Word × Lane :=
  let l := l.refill
  (l.word, { l with pos := 64 })

/-- 16 bits for element `i`, from lane `i mod 512` (R38). -/
def CoreSt.draw16 (x : CoreSt) (c i : Nat) : Nat × CoreSt :=
  let (r, l) := (x.lane c (i % 512)).draw16
  (r, x.setLane c (i % 512) l)

/-- 32 bits for element `i`. -/
def CoreSt.draw32 (x : CoreSt) (c i : Nat) : Nat × CoreSt :=
  let (r, l) := (x.lane c (i % 512)).draw32
  (r, x.setLane c (i % 512) l)

/-- 64 bits for element `i`. -/
def CoreSt.draw64 (x : CoreSt) (c i : Nat) : Word × CoreSt :=
  let (r, l) := (x.lane c (i % 512)).draw64
  (r, x.setLane c (i % 512) l)

/-- The rounding of element `i`: SR draws its bits once (R38). -/
def CoreSt.roundFor (x : CoreSt) (c i : Nat) (r : Rounding) : Rnd × CoreSt :=
  match r with
  | .rne => (.rne, x)
  | .rtz => (.rtz, x)
  | .rup => (.rup, x)
  | .rdn => (.rdn, x)
  | .sr =>
    let (b, x) := x.draw16 c i
    (.sr b, x)

/-- seed (R94). -/
def poppySeed (jobSeed n g : Word) : Word := poppyMix (jobSeed ^^^ poppyMix (n ^^^ poppyMix g))

/-- Every lane of core `c` reseeded for step `n`, with rank and slot of the partition (R94). -/
def reseedLanes (jobSeed n : Word) (rank slot c : Nat) (x : CoreSt) : CoreSt :=
  (List.range 512).foldl
    (fun x l =>
      let g := ((rank * 16 + slot) * 16 + c % 16) * 512 + l
      x.setLane c l ⟨poppySeed jobSeed n (BitVec.ofNat 64 g), 0#64, 64⟩) x

end Sys2Proof.Machine
end

