-- ==== Sys2Proof/Machine/Flags.lean ====
section
/-! DEFINITION. Flag words, the arithmetic mode and the ends of operations (R50 to R52, R129, R130). -/

namespace Sys2Proof.Machine

/-- Status codes of a completion record (R129). -/
def stOperandLayout : Nat := 1
/-- Data error. -/
def stDataError : Nat := 2
/-- Access refused. -/
def stAccessRefused : Nat := 3
/-- Loop limit. -/
def stLoopLimit : Nat := 4
/-- Stream overrun. -/
def stStreamOverrun : Nat := 5
/-- Patch invalid. -/
def stPatchInvalid : Nat := 6
/-- Program invalid. -/
def stProgramInvalid : Nat := 7
/-- Aborted. -/
def stAborted : Nat := 8
/-- Torn down. -/
def stTornDown : Nat := 9
/-- Fence aborted. -/
def stFenceAborted : Nat := 10
/-- Hang. -/
def stHang : Nat := 11

/-- A launch, if it is running. -/
def State.launch (s : State) (k : Nat) : Option Launch :=
  match s.launches.find? fun kv => kv.1 == k with
  | some kv => some kv.2
  | none => none

/-- Setting a launch's record. -/
def State.setLaunch (s : State) (k : Nat) (l : Launch) : State := { s with launches := mins l s.launches k }

/-- Telling a launch to end; the first end is kept (R130). -/
def State.endLaunch (s : State) (k : Nat) (e : LaunchEnd) : State :=
  match s.launch k with
  | none => s
  | some l => if l.ending.isSome then s else s.setLaunch k { l with ending := some e }

/-- The arithmetic mode in force on a core: its partition's at its launch's start (R52). -/
def State.ftz (s : State) (c : Nat) : Bool :=
  match (s.core c).run.launch with
  | some k =>
    match s.launch k with
    | some l => l.ftz.contains (c / 16)
    | none => bit (s.pRd (c / 16) 0x42) 0
  | none => bit (s.pRd (c / 16) 0x42) 0

/-! ## Contexts and their cores (R177 to R183) -/

/-- A context, by identifier (R177). -/
def State.ctx (s : State) (k : Nat) : Ctx := mget Ctx.reset s.ctxs k

/-- Setting a context. -/
def State.setCtxE (s : State) (k : Nat) (x : Ctx) : State := { s with ctxs := mset Ctx.reset s.ctxs k x }

/-- Changing a context. -/
def State.modCtxE (s : State) (k : Nat) (f : Ctx → Ctx) : State := s.setCtxE k (f (s.ctx k))

/-- The cores of a context, as device cores (R178). -/
def State.ctxCores (s : State) (k : Nat) : List Nat :=
  (List.range 128).filterMap fun g => if (s.ctx k).coreMask.getLsbD g then s.groupCore (k / 16) g else none

/-- Once every core of a context whose eviction is requested is at a tile boundary, its state is saved (R118, R183). -/
def State.tryEvict (s : State) (k : Nat) : State :=
  let x := s.ctx k
  if x.state = .resident ∧ x.evictReq = true ∧ (s.ctxCores k).all (fun c => (s.core c).run.tile.isNone) = true then
    s.setCtxE k { x with state := .evicting, blockedSince := 0, since := s.beatIx }
  else s

/-- The context of the launch on a core, whose requested eviction may begin now that a tile has ended. -/
def State.coreEvicts (s : State) (c : Nat) : State :=
  match (s.core c).run.launch with
  | some k =>
    match s.launch k with
    | some l => s.tryEvict l.ctx
    | none => s
  | none => s

/-! ## Failures -/

/-- An operation on core `c` fails: the core stops at once, the launch keeps the first failure, and codes 2 and 3 raise
a partition fault (R129, R130). `tile` is the index the failure names. -/
def State.opFailAt (s : State) (c code tile : Nat) : State :=
  let x := s.core c
  let s := s.setCore c { x with run := { x.run with failed := true, finished := true, tile := none } }
  let s :=
    match x.run.launch with
    | none => s
    | some k => (s.endLaunch k ⟨code, s.groupLocal c, tile⟩).coreEvicts c
  if code = stDataError ∨ code = stAccessRefused then s.partFault (c / 16) else s

/-- A failure inside the running tile of core `c`. -/
def State.opFail (s : State) (c code : Nat) : State :=
  s.opFailAt c code (match (s.core c).run.tile with
    | some t => t.1
    | none => 0xFFFFFFFF)

/-- Whether core `c` still executes operations: it stops at its first failure (R130). -/
def State.coreRuns (s : State) (c : Nat) : Bool := !(s.core c).run.failed

/-- A wait whose length the manual does not give is counted: a free number of cycles is added to a partition counter (log
entry 67). -/
def State.waits (s : State) (p sub : Nat) : State := s.waitsAt (pKey p sub)

/-- Raising flags of a group of core `c` (R50). -/
def State.raiseFlags (s : State) (c : Nat) (g : FlagGroup) (f : Flg) : State := s.modCore c fun x => x.raise g f

/-- The groups of ARITH_FLAGS (R52) from a core flag word. -/
def arithOf (w : Word32) : Nat :=
  let n := w.toNat
  let eng := nfield n 3 0 ||| nfield n 7 4 ||| nfield n 11 8 ||| nfield n 15 12
  eng + 16 * nfield n 23 20 + 256 * nfield n 27 24

/-- ARITH_FLAGS of partition `p` (R52). -/
def State.arithFlags (s : State) (p : Nat) : Nat :=
  (List.range 16).foldl (fun a q => a ||| arithOf (s.core (16 * p + q)).flags) 0

/-- The core flag bits that a write to ARITH_FLAGS_CLEAR clears (R52). -/
def clearMask (v : Nat) : Word32 :=
  let e := nfield v 3 0
  BitVec.ofNat 32 (e * 0x1111 + nfield v 7 4 * 2 ^ 20 + nfield v 11 8 * 2 ^ 24)

/-- Clearing flags of one core. -/
def CoreSt.clearFlags (x : CoreSt) (m : Word32) : CoreSt := { x with flags := x.flags &&& ~~~m }

/-- Clearing flags of core `c`: its launch keeps them for its record (R50, R51). -/
def State.clearFlags (s : State) (c : Nat) (m : Word32) : State :=
  let x := s.core c
  let s := match x.run.launch with
    | some k =>
      match s.launch k with
      | some l => s.setLaunch k { l with flags := l.flags ||| arithOf x.flags }
      | none => s
    | none => s
  s.setCore c (x.clearFlags m)

end Sys2Proof.Machine
end

