-- ==== Sys2Proof/Machine/Ecc.lean ====
section
/-! DEFINITION. Outcomes of Shell decodes: counters, the memory error log and partition faults (R146 to R155). -/

namespace Sys2Proof.Machine

/-- The code of a source in the log (R153). -/
def eccSourceCode : EccSource → Nat
  | .spadRead => 0
  | .walnutRead => 1
  | .hbmRead => 2
  | .hbmPatrol => 3
  | .spadPatrol => 4
  | .datapath => 5

/-- Dropping the last entry that satisfies `p`: the oldest, since the newest stand first. -/
def dropOldest (p : EccEntry → Bool) (l : List EccEntry) : List EccEntry :=
  match l.reverse.findIdx? p with
  | none => l
  | some i => (l.reverse.eraseIdx i).reverse

/-- Logging an outcome (R155). -/
def State.eccLogAdd (s : State) (e : EccEntry) : State :=
  let corrected (x : EccEntry) : Bool := x.outcome == 1
  let logged (l : List EccEntry) : State :=
    { s with eccLog := e :: l }.count32 (objKey 0x2800 0x0D) 1
  if s.eccLog.length < 256 then logged s.eccLog
  else if s.eccLog.any corrected then logged (dropOldest corrected s.eccLog)
  else if e.outcome = 1 then s.count32Sat (objKey 0x2800 0x0E) 1
  else logged (s.eccLog.take 255)

/-- The counter of an outcome: partition counters for scratchpad, walnut and HBM, stack counters for HBM, device counters
for datapaths (R147). -/
def State.eccCount (s : State) (src : EccSource) (part addr : Nat) (ue : Bool) : State :=
  let k := if ue then 1 else 0
  match src with
  | .spadRead | .spadPatrol => s.pCount part (0x94 + k) 1
  | .walnutRead => s.pCount part (0x96 + k) 1
  | .hbmRead | .hbmPatrol =>
    (s.pCount part (0x98 + k) 1).count (objKey (0x2810 + hbmStack addr) (2 + k)) 1
  | .datapath => s.count (objKey 0x2800 (0x10 + k)) 1

/-- Whether a source is an HBM channel rather than a core. -/
def eccOnChannel (src : EccSource) : Bool := src == .hbmRead || src == .hbmPatrol

/-- A read's Shell outcome is counted and logged (R147, R148, R153): the granule is the named one from device address `addr`
on. `unit` is the HBM channel or the device core; a granule in flight is logged under the partition's first core when the
read was of a channel. Only a stored granule is written back. -/
def State.eccNote (s : State) (src : EccSource) (part unit addr : Nat) (o : ShellOutcome) : State :=
  let note (src : EccSource) (unit outcome symbol g : Nat) (wb : Bool) : State :=
    let a := addr / 16 * 16 + 16 * g
    (s.eccCount src part a (outcome == 2)).eccLogAdd ⟨outcome, eccSourceCode src, wb, symbol, part, unit, a, s.beat⟩
  let core : Nat := if eccOnChannel src then 16 * part else unit
  match o with
  | .clean => s
  | .corrected sym g rewritten => note src unit 1 sym g (!rewritten && src != .datapath)
  | .uncorrectable g => note src unit 2 63 g false
  | .pathCorrected sym g => note .datapath core 1 sym g false
  | .pathUncorrectable g => note .datapath core 2 63 g false

/-- An operation of core `c` meets the Shell outcome of its reads from `addr` on (R148): an uncorrectable one ends the
operation with data error, which raises the partition fault. The flag says whether the operation goes on. An operation that
reads no memory meets only what happens in flight. -/
def State.opMeets (s : State) (src : EccSource) (c addr : Nat) (reads : Bool) (o : ShellOutcome) : State × Bool :=
  if reads || o.inFlight then
    let s := s.eccNote src (c / 16) c addr o
    if o.bad then (s.opFail c stDataError, false) else (s, true)
  else (s, true)

/-- A read of its core's scratchpad, the merge of a partly written granule among it (R136, R148). -/
def State.opRead (s : State) (c : Nat) (reads : Bool) (o : ShellOutcome) : State × Bool :=
  s.opMeets .spadRead c (spadBase c) reads o

/-- A read of its core's walnut buffer (R86, R148). -/
def State.opReadWalnut (s : State) (c : Nat) (o : ShellOutcome) : State × Bool :=
  s.opMeets .walnutRead c (walnutBase c) true o

/-- The Shell outcome of a read of device memory from `a` on by an agent that is no core: counted and logged where the
memory lies (R147, R148). -/
def State.memNote (s : State) (a : Nat) (o : ShellOutcome) : State :=
  match spaceOf a with
  | .hbm p => s.eccNote .hbmRead p (hbmChannel a) a o
  | .spad c => s.eccNote .spadRead (c / 16) c a o
  | .walnut c => s.eccNote .walnutRead (c / 16) c a o
  | _ => s

/-- The same for the read of an operation: an uncorrectable outcome faults the partition that owns the memory (R148). -/
def State.memMeets (s : State) (a : Nat) (o : ShellOutcome) : State :=
  let s := s.memNote a o
  match o.bad, (spaceOf a).part with
  | true, some p => s.partFault p
  | _, _ => s

end Sys2Proof.Machine
end

