-- ==== Sys2Proof/Machine/Wire.lean ====
section
/-! DEFINITION. What stands on the lanes: packet headers, LINK words, bodies, the CRC and the FEC of a wire flit (R208,
R210, R219). -/

namespace Sys2Proof.Machine

/-- The `n` bytes of a number, the most significant first: bit 255 of a header goes first on the link (R9, R219). -/
def bytesBE : Nat → Nat → List Byte
  | 0, _ => []
  | n + 1, v => BitVec.ofNat 8 (v / 2 ^ (8 * n)) :: bytesBE n v

/-- The number that bytes spell, the most significant first. -/
def numBE (bs : List Byte) : Nat := bs.foldl (fun a b => a * 256 + b.toNat) 0

/-- The 256 bits of a packet's header (R219). -/
def headerNum (p : Packet) : Nat :=
  p.dest.toNat * 2 ^ 232 + p.src.toNat * 2 ^ 208 + p.srcEpoch.toNat * 2 ^ 192 + p.jobId.toNat * 2 ^ 180 +
  p.type.toNat * 2 ^ 176 + p.ctxId.toNat * 2 ^ 168 + p.bucket.toNat * 2 ^ 152 + p.step.toNat * 2 ^ 136 +
  p.length % 2 ^ 13 * 2 ^ 123 + p.vc.val * 2 ^ 121 + p.hops.val * 2 ^ 117 + p.age.toNat * 2 ^ 80 +
  p.target % 2 ^ 48 * 2 ^ 32 + p.seq.toNat * 2 ^ 16

/-- Bits [hi:lo] of a header. -/
def hbits (v hi lo : Nat) : Nat := v / 2 ^ lo % 2 ^ (hi + 1 - lo)

/-- The packet that a header spells, with its payload and its dateline class (R219). -/
def packetOf (v : Nat) (payload : List Byte) (cls : Fin 2) : Packet :=
  { dest := BitVec.ofNat 24 (hbits v 255 232), src := BitVec.ofNat 24 (hbits v 231 208),
    srcEpoch := BitVec.ofNat 16 (hbits v 207 192), jobId := BitVec.ofNat 12 (hbits v 191 180),
    type := BitVec.ofNat 4 (hbits v 179 176), ctxId := BitVec.ofNat 8 (hbits v 175 168),
    bucket := BitVec.ofNat 16 (hbits v 167 152), step := BitVec.ofNat 16 (hbits v 151 136),
    length := hbits v 135 123, vc := Fin.ofNat 4 (hbits v 122 121), hops := Fin.ofNat 16 (hbits v 120 117),
    age := BitVec.ofNat 32 (hbits v 111 80), target := hbits v 79 32, seq := BitVec.ofNat 16 (hbits v 31 16),
    payload := payload, cls := cls }

/-- Bytes cut or filled with zeros to a length. -/
def fitTo (n : Nat) (bs : List Byte) : List Byte := bs.take n ++ List.replicate (n - bs.length) 0

/-- Units of 32 B of a packet on the link (R210). -/
def pktUnits (p : Packet) : Nat := 1 + (p.length + 31) / 32

/-- A packet as it goes: its header, and its payload padded to a multiple of 32 B (R210). -/
def packetBytes (p : Packet) : List Byte :=
  bytesBE 32 (headerNum p) ++ fitTo (32 * (pktUnits p - 1)) (p.payload.take p.length)

/-- The header of a PAD packet that fills `n` units of a body, and the zeros after it; only TYPE, LENGTH and VC of it are
given (R210, R219; log entry 94). -/
def padBytes (vc : Fin 4) : Nat → List Byte
  | 0 => []
  | n + 1 =>
    bytesBE 32 (15 * 2 ^ 176 + 32 * n % 2 ^ 13 * 2 ^ 123 + vc.val * 2 ^ 121) ++ List.replicate (32 * n) 0

/-- The 32 bits of a LINK word (R208). -/
def linkNum (l : LinkWord) : Nat :=
  l.flitType.toNat * 2 ^ 29 + l.bodyVc.val * 2 ^ 27 + l.bodyClass.val * 2 ^ 26 + l.creditVc.val * 2 ^ 24 +
  l.creditClass.val * 2 ^ 23 + l.creditCount % 2 ^ 11 * 2 ^ 12 + l.ack % 2 ^ 12

/-- The LINK word that 32 bits spell (R208). -/
def linkOf (v : Nat) : LinkWord :=
  { flitType := BitVec.ofNat 3 (hbits v 31 29), bodyVc := Fin.ofNat 4 (hbits v 28 27),
    bodyClass := Fin.ofNat 2 (hbits v 26 26), creditVc := Fin.ofNat 4 (hbits v 25 24),
    creditClass := Fin.ofNat 2 (hbits v 23 23), creditCount := hbits v 22 12, ack := hbits v 11 0 }

/-- One bit of the CRC of R208, in the reflected form of the polynomial 0x04C1_1DB7 (PRESUMED, log entry 94). -/
def crcBit (r : Nat) : Nat := if r % 2 = 1 then Nat.xor (r / 2) 0xEDB88320 else r / 2

/-- One byte of the CRC. -/
def crcByte (r : Nat) (b : Byte) : Nat :=
  let r := Nat.xor r b.toNat
  crcBit (crcBit (crcBit (crcBit (crcBit (crcBit (crcBit (crcBit r)))))))

/-- CRC-32 with the polynomial 0x04C1_1DB7 (R208); its start, bit order and final complement are those of the CRC-32 of
IEEE 802.3 (PRESUMED, log entry 94). -/
def crc32 (bs : List Byte) : Nat := Nat.xor (bs.foldl crcByte 0xFFFFFFFF) 0xFFFFFFFF

/-- Bytes 0 to 259 of a wire flit (R208). -/
def flitHead (body : List Byte) (l : LinkWord) : List Byte := fitTo 256 body ++ bytesBE 4 (linkNum l)

/-- The bytes of a list at even, or odd, places. -/
def everyOther : Bool → List Byte → List Byte
  | _, [] => []
  | true, b :: bs => b :: everyOther false bs
  | false, _ :: bs => everyOther true bs

/-- A wire flit (R208): body, LINK word, CRC, and the parity of the codewords of its even and of its odd bytes, which
interleave in bytes 264 to 271. -/
def wireFlit (body : List Byte) (l : LinkWord) : List Byte :=
  let head := flitHead body l
  let bs := head ++ bytesBE 4 (crc32 head)
  let even := everyOther true bs
  let odd := everyOther false bs
  bs ++ (List.range 8).map fun k => Config.fecParity (if k % 2 = 0 then even else odd) (k / 2)

/-- FEC decodes a flit: each codeword corrects any two byte errors (R208). -/
def fecDecodes (f : FlitRx) : Bool := decide (f.evenErrors ≤ 2) && decide (f.oddErrors ≤ 2)

/-- The CRC of a decoded flit matches (R208). -/
def flitCrcOk (f : FlitRx) : Bool := crc32 (flitHead f.body f.link) == f.crc

/-- What is left of the packet of a body's channel when the body has been read unit by unit, `left` units of an earlier
packet first, and the units of the body that hold packets: the rest is PAD (R210). -/
def readUnits : Nat → List Byte → Nat → Nat × Nat
  | 0, _, left => (left, 0)
  | n + 1, bs, left =>
    if 0 < left then
      let (l, u) := readUnits n (bs.drop 32) (left - 1)
      (l, u + 1)
    else
      let h := numBE (bs.take 32)
      if hbits h 179 176 = 15 then (0, 0)
      else
        let (l, u) := readUnits n (bs.drop 32) ((hbits h 135 123 + 31) / 32)
        (l, u + 1)

end Sys2Proof.Machine
end

