-- ==== Sys2Proof/Machine/Fabric.lean ====
section
/-! DEFINITION. Shared operations of the Dzigus fabric: ports, epochs, routing, injection and the following of a tempo
master (R201 to R233). -/

namespace Sys2Proof.Machine

/-- A device fabric object (R232). -/
def fabKey (sub : Nat) : Nat := objKey 0x2500 sub

/-- An object of port `n` (R233). -/
def portKey (n sub : Nat) : Nat := objKey (0x2510 + n) sub

/-- A port. -/
def State.port (s : State) (n : Nat) : PortSt := mget PortSt.reset s.fab.ports n

/-- Setting a port. -/
def State.setPort (s : State) (n : Nat) (x : PortSt) : State :=
  { s with fab := { s.fab with ports := mset PortSt.reset s.fab.ports n x } }

/-- The role of a port: 0 FABRIC, 1 TANGO, 2 DISABLED. -/
def State.role (s : State) (n : Nat) : Nat := s.rdN (portKey n 1)

/-- Whether a port is ACTIVE with the FABRIC role. -/
def State.fabricUp (s : State) (n : Nat) : Bool := s.role n == 0 && (s.port n).st == .active

/-- The ACTIVE FABRIC ports. -/
def State.fabricPorts (s : State) : List Nat := (List.range 32).filter s.fabricUp

/-- The ACTIVE TANGO ports. -/
def State.tangoPorts (s : State) : List Nat :=
  (List.range 32).filter fun n => s.role n == 1 && (s.port n).st == .active

/-- The device's own fabric address and epoch. -/
def State.ownAddr (s : State) : FabAddr := BitVec.ofNat 24 (s.rdN (fabKey 1))

/-- FABRIC_EPOCH. -/
def State.ownEpoch (s : State) : Epoch := BitVec.ofNat 16 (s.rdN (fabKey 2))

/-- Whether the device is superseded (R224). -/
def State.superseded (s : State) : Bool := s.rdN (fabKey 3) == 2

/-! ## The Beat (R226 to R231) -/

/-- The codes of BEAT_STATE. -/
def bsFree : Nat := 0
/-- ACQUIRING. -/
def bsAcquiring : Nat := 1
/-- LOCKED. -/
def bsLocked : Nat := 2
/-- HOLDOVER. -/
def bsHoldover : Nat := 3
/-- MASTER. -/
def bsMaster : Nat := 4

/-- BEAT_STATE. -/
def State.beatState (s : State) : Nat := s.rdN (fabKey 0x10)

/-- Setting state, hops, source and master address together. -/
def State.setBeat (s : State) (st hops src : Nat) (master : FabAddr) : State :=
  (((s.wrN (fabKey 0x10) st).wrN (fabKey 0x13) hops).wrN (fabKey 0x14) src).wrN (fabKey 0x17) master.toNat

/-- Changing the fabric record. -/
def State.modFab (s : State) (f : FabricSt → FabricSt) : State := { s with fab := f s.fab }

/-- This device's own announcement (R228). -/
def State.ownAnn (s : State) : MasterAnn :=
  ⟨BitVec.ofNat 8 (s.rdN (fabKey 0x16)), s.ownAddr, s.rd (objKey 0x1000 5), 0⟩

/-- Whether `a` ranks above `b` (R228). -/
def annBetter (a b : MasterAnn) : Bool :=
  decide (b.prio.toNat < a.prio.toNat) ||
  (a.prio == b.prio && (decide (a.addr.toNat < b.addr.toNat) ||
    (a.addr == b.addr && decide (a.serial.toNat < b.serial.toNat))))

/-- Whether two announcements name one master. -/
def annSame (a b : MasterAnn) : Bool := a.addr == b.addr && a.serial == b.serial

/-- Announcements not yet forgotten, on whatever port they were heard, this device's own and those under conflict left
out (R228). -/
def State.heardAnns (s : State) : List (Nat × Heard) :=
  s.fab.heard.filterMap fun kv =>
    match kv.2 with
    | some h =>
      if annSame h.ann s.ownAnn || s.fab.rejected.contains (h.ann.addr, h.ann.serial) then none else some (kv.1, h)
    | none => none

/-- The ports with a path to a master: ACTIVE FABRIC ports on which its announcement has come in the last 64 beats, the
time without TEMPO flits after which R230 takes a source for lost (DEDUCED, log entry 100). -/
def State.heardPorts (s : State) : List (Nat × MasterAnn) :=
  (s.heardAnns.filter fun h => s.fabricUp h.1 && decide (s.beatIx < h.2.at_ + 64)).map fun h => (h.1, h.2.ann)

/-- The best announcement of a list. -/
def bestAnn : List (Nat × MasterAnn) → Option MasterAnn
  | [] => none
  | (_, a) :: rest =>
    match bestAnn rest with
    | none => some a
    | some b => if annBetter b a then some b else some a

/-- The port with the fewest hops to a master, lower port number first. -/
def bestPort (m : MasterAnn) : List (Nat × MasterAnn) → Option (Nat × Nat)
  | [] => none
  | (n, a) :: rest =>
    match bestPort m rest with
    | none => if annSame a m then some (n, a.hops) else none
    | some (n', h) => if annSame a m && decide (a.hops ≤ h) then some (n, a.hops) else some (n', h)

/-- The bound on the offset at `h` hops, 3.125 ns per hop (R227). -/
def errorBound (h : Nat) : Nat := (25 * h + 7) / 8

/-- Whether the device is LOCKED, or ACQUIRING after an earlier lock. -/
def State.wasLocked (s : State) : Bool :=
  s.beatState == bsLocked || (s.beatState == bsAcquiring && s.fab.everLocked)

/-- Entry to HOLDOVER (R230); subindex 0xFE is the shadow counter of such entries (R321). -/
def State.enterHoldover (s : State) : State :=
  ((s.shadowAdd (fabKey 0xFE) 1).wrN (fabKey 0x10) bsHoldover).modFab fun f =>
    { f with source := none, slew := 0, hold := 0, close := 0, holdSince := s.beat, holdBound := s.rdN (fabKey 0x18) }

/-- The device counts its own Beat, as master of a fabric with others or alone (R22, R228). A device that goes on as MASTER
keeps the correction it is making (R231). -/
def State.ownBeat (s : State) (st : Nat) : State :=
  let on := s.beatState == bsMaster && st == bsMaster
  ((s.setBeat st 0 0xFF s.ownAddr).wrN (fabKey 0x18) 0).modFab fun f =>
    { f with source := none, master := none, slew := if on then f.slew else 0, hold := 0, close := 0 }

/-- Whether the device is a candidate (R228). -/
def State.candidate (s : State) : Bool := s.rdN (fabKey 0x15) == 1

/-- Following the master `m` through port `n` at `h` hops: a source already followed is kept, a new one is acquired. -/
def State.followPort (s : State) (m : MasterAnn) (n h : Nat) : State :=
  if s.fab.source = some n ∧ s.fab.master = some (m.addr, m.serial) then s.wrN (fabKey 0x13) h
  else
    (s.setBeat bsAcquiring h n m.addr).modFab fun f =>
      { f with source := some n, master := some (m.addr, m.serial), acquired := false, close := 0, slew := 0, hold := 0,
               lastSrc := s.beatIx }

/-- The choice of a master from what is heard (R22, R228): `forgotten` tells that the master followed was forgotten. A
device that has lost its path to the best master keeps its state until HOLDOVER_ENTRY or MASTER_ANNOUNCEMENT_TIMEOUT. -/
def State.reselect (s : State) (forgotten : Bool) : State :=
  if s.fabricPorts.isEmpty then
    if s.wasLocked ∨ s.beatState = bsHoldover then (if forgotten ∧ s.wasLocked then s.enterHoldover else s)
    else s.ownBeat bsFree
  else
    let hp := s.heardPorts
    match bestAnn (s.heardAnns.map fun h => (h.1, h.2.ann)) with
    | none =>
      if s.candidate then s.ownBeat bsMaster
      else if s.wasLocked then (if forgotten then s.enterHoldover else s)
      else if s.beatState = bsHoldover then s
      else s.ownBeat bsFree
    | some m =>
      if s.candidate && annBetter s.ownAnn m then s.ownBeat bsMaster
      else
        match bestPort m hp with
        | some (n, h) => s.followPort m n h
        | none => s

/-! ## Ports -/

/-- PORT_STATE of a port (R233). -/
def PortSt.word (x : PortSt) : Nat := x.st.code + 16 * x.cause

/-- Credits that hold `units` units of 32 B (R212). -/
def unitCredits (units : Nat) : Nat := (units + 7) / 8

/-- Units of a channel and class leave the input buffer of port `n`, and the credits they held are owed to the partner
(R212). -/
def PortSt.leave (x : PortSt) (ck units : Nat) : PortSt :=
  let h := mget 0 x.held ck
  { x with held := mset 0 x.held ck (h - units),
           owed := mset 0 x.owed ck (mget 0 x.owed ck + (unitCredits h - unitCredits (h - units))) }

/-- Units leave the input buffer they came in by; input 32 has none (R212). -/
def State.leaveInput (s : State) (inp : Nat) (vc : Fin 4) (cls : Fin 2) (units : Nat) : State :=
  if inp < 32 then s.setPort inp ((s.port inp).leave (2 * vc.val + cls.val) units) else s

/-- Packets that leave a queue unsent leave their input buffers. -/
def State.leaveAll (s : State) (qs : List OutPkt) : State :=
  qs.foldl (fun s q => s.leaveInput q.inp q.pkt.vc q.inCls q.left) s

/-- Changing a port's state. Leaving the link discards its queue, replay buffer and numbering (log entry 41); a port in CHECK
sends its identity (R205). What was heard on a port is forgotten later, by R228. -/
def State.toPState (s : State) (n : Nat) (st : PState) : State :=
  let x := s.port n
  let fresh := { PortSt.reset with st := st, cause := x.cause, attempts := x.attempts, trained := x.trained }
  let s := if st = .active ∨ st = .draining then s else s.leaveAll x.outQ
  match st with
  | .active => s.setPort n { x with st := .active }
  | .draining => (s.setPort n { x with st := .draining }).reselect false
  | .check => (s.setPort n fresh).emit (.identity n s.ownAddr (s.role n))
  | .detect => s.setPort n { fresh with attempts := 0 }
  | .train | .recal =>
    let s := s.setPort n { fresh with attempts := 0, trained := true }
    if x.trained then s.count32Sat (portKey n 9) 1 else s
  | .disabled | .failed => (s.setPort n fresh).reselect false

/-- A port fails with a cause (R204, R207). -/
def State.failPort (s : State) (n cause : Nat) : State :=
  (s.setPort n { s.port n with cause := cause }).toPState n .failed

/-- A fatal link failure (R207). -/
def State.fatalPort (s : State) (n cause : Nat) : State :=
  ((s.failPort n cause).count32Sat (portKey n 9) 1).fabricEvent

/-! ## Epochs (R220 to R224) -/

/-- Epoch `a` is newer than `b` (R220). -/
def epochNewer (a b : Epoch) : Bool :=
  let d := (a - b).toNat
  decide (1 ≤ d) && decide (d ≤ 32767)

/-- The entry of an address. -/
def State.epochOf (s : State) (a : FabAddr) : Option Epoch := mget none s.fab.epochs a.toNat

/-- Setting an entry. -/
def State.setEpoch (s : State) (a : FabAddr) (e : Epoch) : State :=
  s.modFab fun f => { f with epochs := mset none f.epochs a.toNat (some e) }

/-- Raising or creating an entry: the state, whether it changed, and whether a new address found the table full. -/
def State.raiseEntry (s : State) (a : FabAddr) (e : Epoch) : State × Bool × Bool :=
  match s.epochOf a with
  | some old => if epochNewer e old then (s.setEpoch a e, true, false) else (s, false, false)
  | none =>
    if s.fab.epochs.length < 65536 then (s.setEpoch a e, true, false) else (s, false, true)

/-- The device becomes superseded (R224): FABRIC_STATE tells every agent to stop. -/
def State.supersede (s : State) : State := (s.wrN (fabKey 3) 2).fabricEvent

/-- An entry raised or created under R221 to R223: a newer epoch for this device's own address supersedes it. -/
def State.learnEpoch (s : State) (a : FabAddr) (e : Epoch) : State × Bool × Bool :=
  let (t, changed, full) := s.raiseEntry a e
  if changed && a == s.ownAddr && epochNewer e s.ownEpoch && !s.superseded then (t.supersede, changed, full)
  else (t, changed, full)

/-- The ingress check of R221 of a packet's SRC and SRC_EPOCH: whether the packet goes on, and the state with the table
raised or the drop counted. -/
def State.ingress (s : State) (src : FabAddr) (srcEpoch : Epoch) : State × Bool :=
  match s.epochOf src with
  | none => (s, true)
  | some e =>
    if epochNewer e srcEpoch then (s.count (fabKey 0x0C) 1, false)
    else if epochNewer srcEpoch e then ((s.learnEpoch src srcEpoch).1, true)
    else (s, true)

/-- An announcement sent on ACTIVE FABRIC ports other than one (R223). -/
def State.announce (s : State) (a : FabAddr) (e : Epoch) (hops : Nat) (notOn : Option Nat) : State :=
  s.fabricPorts.foldl (fun s n => if notOn = some n then s else s.emit (.announce n a e hops s.ownAddr s.ownEpoch)) s

/-! ## Routing (R215 to R219) -/

/-- The key of a destination's entry (R215): 65,536 × table + index. -/
def routeKey (own dest : FabAddr) : Nat :=
  if dest.toNat / 256 = own.toNat / 256 then dest.toNat % 256 else 65536 + dest.toNat / 256

/-- The candidates present in an entry: index and port. -/
def candidates (e : Word) : List (Nat × Nat) :=
  (List.range 4).filterMap fun i => if bit e (48 + i) then some (i, field e (8 * i + 7) (8 * i)) else none

/-- The usable candidates of an entry (R216). -/
def State.usable (s : State) (e : Word) : List (Nat × Nat) := (candidates e).filter fun c => s.fabricUp c.2

/-- Credits of a port's virtual channels and classes (R212, R213): `total` of a channel's buffer. -/
def vcBuffer (role vc : Nat) : Nat :=
  if vc = 3 then 256 else if role = 1 then (if vc = 2 then 1280 else 0) else if vc = 2 then 0 else 640

/-- Free credits of a virtual channel and class: 32 reserved for each class, the rest shared (R213); a channel without a
buffer has none (R212). -/
def State.freeCredits (s : State) (n vc cls : Nat) : Nat :=
  let x := s.port n
  let total := vcBuffer (s.role n) vc
  let u := mget 0 x.used (2 * vc + cls)
  let o := mget 0 x.used (2 * vc + (1 - cls))
  if total = 0 then 0 else (32 - min u 32) + ((total - 64) - (u - min u 32) - (o - min o 32))

/-- The candidate with the most free credits, lower index first (R217). -/
def State.mostCredits (s : State) (vc cls : Nat) : List (Nat × Nat) → Option (Nat × Nat)
  | [] => none
  | c :: cs =>
    match s.mostCredits vc cls cs with
    | none => some c
    | some d => if s.freeCredits c.2 vc cls < s.freeCredits d.2 vc cls then some d else some c

/-- The choice of R217. -/
def State.chooseCandidate (s : State) (e : Word) (p : Packet) : Option (Nat × Nat) :=
  let us := s.usable e
  let t := p.type.toNat
  if (2 ≤ t ∧ t ≤ 4) ∧ bit e 62 then s.mostCredits p.vc.val p.cls.val us
  else
    us[Config.routeHash p.src.toNat p.dest.toNat p.ctxId.toNat (p.target / 4096) % max 1 us.length]?

/-- Queueing a packet, which came in in class `inCls`, at an output port. -/
def State.enqueue (s : State) (n inp : Nat) (inCls : Fin 2) (p : Packet) : State :=
  let x := s.port n
  s.setPort n { x with outQ := x.outQ ++ [⟨p, inp, inCls, pktUnits p, 0⟩] }

/-- A packet dropped as unreachable (R216, R219). -/
def State.dropUnreachable (s : State) : State := s.count (fabKey 0x0D) 1

/-- A port's check of the granules of a packet (R209): each corrected granule counts in SHELL_CE, an uncorrectable one drops
the packet, which counts once in SHELL_UE; false drops it. The internal port, number 32, has no such counters. -/
def State.portShell (s : State) (n : Nat) (os : List ShellOutcome) : State × Bool :=
  let port := decide (n < 32)
  let s := os.foldl
    (fun s o =>
      let s := s.eccNote .datapath 0xFF n 0 o.onPath
      if port && !o.bad && o != .clean then s.count (portKey n 0x0E) 1 else s) s
  if os.any ShellOutcome.bad then ((if port then s.count (portKey n 0x0F) 1 else s).fabricEvent, false) else (s, true)

/-- Routing a packet that has passed the ingress check, at the router of die `die`; `inp` is the input, 32 for the
internal port, and `os` what the checks on the way find of its granules (R209, R215 to R217). A packet that goes no further
leaves its input buffer (R212). -/
def State.routeFrom (s : State) (die inp : Nat) (p : Packet) (os : List ShellOutcome) : State :=
  let left (s : State) : State := s.leaveInput inp p.vc p.cls (pktUnits p)
  if p.type.toNat = 15 then s
  else if (10 ≤ p.type.toNat ∧ p.type.toNat ≤ 14) ∨ p.hops.val = 15 then left s.dropUnreachable
  else if p.dest = s.ownAddr then
    let (s, goes) := s.portShell inp os
    left (if goes && !s.superseded then s.emit (.packet none p) else s)
  else
    let e := mget 0#64 s.fab.routeA (routeKey s.ownAddr p.dest)
    if bit e 63 = false then left s.dropUnreachable
    else
      match s.chooseCandidate e p with
      | none => left s.dropUnreachable
      | some (i, n) =>
        let cls : Fin 2 := if bit e (52 + i) then 1 else p.cls
        let hops := p.hops.val + (if n / 16 = die then 1 else 2)
        if 16 ≤ hops then left s.dropUnreachable
        else
          let (s, goes) := s.portShell n os
          if goes then s.enqueue n inp p.cls { p with cls := cls, hops := Fin.ofNat 16 hops } else left s

/-- Whether packets for a job and context toward an address are stopped by a quiet request (R196 step 6). The stop lasts as
long as the requester's identifier is held back (R198; log entry 50). -/
def State.quieted (s : State) (dest : FabAddr) (job ctx : Nat) : Bool :=
  s.quiet.any fun q => q.addr == dest && q.job == job && q.ctx == ctx &&
    decide (s.beatIx < q.beat + s.rdN (objKey 0x2300 0x10))

/-- Injecting a packet at the internal port of die `die` (R193, R216, R219): source, epoch and age are set here. A
superseded device injects nothing (R224), and nothing goes where a quiet request has stopped it. -/
def State.injectWith (s : State) (die : Nat) (p : Packet) (os : List ShellOutcome) : State :=
  if s.superseded then s
  else if (p.type = 0 ∨ p.type = 2 ∨ p.type = 3 ∨ p.type = 4) ∧ s.quieted p.dest p.jobId.toNat p.ctxId.toNat = true then s
  else
    s.routeFrom die 32
      { p with src := s.ownAddr, srcEpoch := s.ownEpoch, hops := 0, cls := 0, age := BitVec.ofNat 32 s.ageStamp } os

/-- Injecting a packet whose granules the sending port has yet to check, as WIRE_FLIT_SEND does (R209). -/
def State.inject (s : State) (die : Nat) (p : Packet) : State := s.injectWith die p []

/-- A packet with the header fields a sender gives; the rest is set at injection. -/
def mkPacket (type vc : Nat) (dest : FabAddr) (job ctx : Nat) : Packet :=
  { dest := dest, src := 0, srcEpoch := 0, jobId := BitVec.ofNat 12 job, type := BitVec.ofNat 4 type,
    ctxId := BitVec.ofNat 8 ctx, bucket := 0, step := 0, length := 0, vc := Fin.ofNat 4 vc, hops := 0, age := 0,
    target := 0, seq := 0, payload := [], cls := 0 }

end Sys2Proof.Machine
end

