-- ==== Sys2Proof/Machine/Version.lean ====
section
/-! DEFINITION. The version table: regions, slots and their binding (R101, R102, R285, R286). -/

namespace Sys2Proof.Machine

/-- A version-table entry of partition `p`. -/
def State.region (s : State) (p r : Nat) : VEntry := mget VEntry.reset s.versions (256 * p + r)

/-- Setting an entry. -/
def State.setRegion (s : State) (p r : Nat) (e : VEntry) : State :=
  { s with versions := mset VEntry.reset s.versions (256 * p + r) e }

/-- A slot of an entry. -/
def VEntry.slot (e : VEntry) (i : Nat) : VSlot := if i = 0 then e.slot0 else e.slot1

/-- Setting a slot of an entry. -/
def VEntry.setSlot (e : VEntry) (i : Nat) (v : VSlot) : VEntry :=
  if i = 0 then { e with slot0 := v } else { e with slot1 := v }

/-- Changing a slot. -/
def State.modSlot (s : State) (p r i : Nat) (f : VSlot → VSlot) : State :=
  s.setRegion p r ((s.region p r).setSlot i (f ((s.region p r).slot i)))

/-- A slot given up: FREE, with no holder. -/
def VSlot.freed (v : VSlot) : VSlot := { v with state := .free, bind := 0, written := false, holder := .step }

/-- A COMMITTED slot superseded: RETIRING, or FREE when nothing is bound to it (R103). -/
def VSlot.superseded (v : VSlot) : VSlot :=
  if v.state = .committed then (if v.bind = 0 then v.freed else { v with state := .retiring }) else v

/-- A slot that becomes COMMITTED under a tag. -/
def VSlot.committedAs (v : VSlot) (t : Tag) : VSlot := { v with state := .committed, tag := t, written := false }

/-- The slot of an entry with a state, slot 0 first. -/
def VEntry.find (e : VEntry) (q : VSlot → Bool) : Option Nat :=
  if q e.slot0 then some 0 else if !e.single && q e.slot1 then some 1 else none

/-- The COMMITTED slot. -/
def VEntry.current (e : VEntry) : Option Nat := e.find fun v => v.state == .committed

/-- A FREE slot. -/
def VEntry.freeSlot (e : VEntry) : Option Nat := e.find fun v => v.state == .free

/-- The slot that holds the version of a step tag, COMMITTED or RETIRING (R102). -/
def VEntry.stepSlot (e : VEntry) (t : Tag) : Option Nat :=
  e.find fun v => v.tag == t && (v.state == .committed || v.state == .retiring)

/-- One more binding of a slot. -/
def State.bindSlot (s : State) (p r i : Nat) : State := s.modSlot p r i fun v => { v with bind := v.bind + 1 }

/-- One binding less: a RETIRING slot with none left becomes FREE (R101). -/
def State.unbindSlot (s : State) (p r i : Nat) : State :=
  s.modSlot p r i fun v =>
    let v := { v with bind := v.bind - 1 }
    if v.state = .retiring ∧ v.bind = 0 then v.freed else v

/-- The admitted micro-batches of a partition. -/
def State.microBatches (s : State) (p : Nat) : List MicroBatch := mget [] s.mbs p

/-- Setting them. -/
def State.setMicroBatches (s : State) (p : Nat) (l : List MicroBatch) : State := { s with mbs := mset [] s.mbs p l }

/-- Binding what one micro-batch still waits for. -/
def bindWants (p : Nat) (t : Tag) : List Nat → State → List (Nat × Nat) → List Nat → State × List (Nat × Nat) × List Nat
  | [], s, binds, wants => (s, binds, wants)
  | r :: rs, s, binds, wants =>
    match (s.region p r).stepSlot t with
    | some i =>
      if ((s.region p r).slot i).bind < 255 then bindWants p t rs (s.bindSlot p r i) (binds ++ [(r, i)]) wants
      else bindWants p t rs s binds (wants ++ [r])
    | none => bindWants p t rs s binds (wants ++ [r])

/-- Micro-batches that wait for a step's version bind once it is there (R102). -/
def bindAllWaiting (p : Nat) : List MicroBatch → State → List MicroBatch × State
  | [], s => ([], s)
  | m :: ms, s =>
    let (m, s) :=
      match m.step with
      | none => (m, s)
      | some n =>
        let (s, b, w) := bindWants p (BitVec.ofNat 16 n) m.wants s m.binds []
        ({ m with binds := b, wants := w }, s)
    let (rest, s) := bindAllWaiting p ms s
    (m :: rest, s)

/-- The waiting bindings of a partition, after a commit. -/
def State.bindWaiting (s : State) (p : Nat) : State :=
  let (l, s) := bindAllWaiting p (s.microBatches p) s
  s.setMicroBatches p l

/-- TANGO_RELEASE_TAG, where it is valid (R310). -/
def State.releaseTag (s : State) : Option Tag :=
  let v := s.rd (objKey 0x2700 0x0C)
  if bit v 16 then some (BitVec.ofNat 16 (field v 15 0)) else none

/-- Binding the slot of the released tag of each region in the mirror list, as far as it is in the version table and not
bound yet (R310). -/
def bindRelease (t : Tag) : List (Nat × Nat) → State → State
  | [], s => s
  | (p, r) :: rest, s =>
    let e := s.region p r
    let s := match e.stepSlot t with
      | some i =>
        if (e.slot i).bind < 255 ∧ s.tango.relBinds.contains (p, r, i) = false then
          let s := s.bindSlot p r i
          { s with tango := { s.tango with relBinds := s.tango.relBinds ++ [(p, r, i)] } }
        else s
      | none => s
    bindRelease t rest s

/-- The binds that hold the released tag, brought up to date after slots have come into the version table (R310). -/
def State.relSync (s : State) : State :=
  match s.releaseTag with
  | some t => bindRelease t s.tango.inForce s
  | none => s

/-- The fence of a partition. -/
def State.fence (s : State) (p : Nat) : StepFence := mget StepFence.reset s.fences p

/-- Setting a fence. -/
def State.setFence (s : State) (p : Nat) (f : StepFence) : State :=
  { s with fences := mset StepFence.reset s.fences p f }

/-- Whether a range lies in the scratchpads of partition `p`'s group. -/
def State.inGroupSpad (s : State) (p a n : Nat) : Bool :=
  decide (0x100000000000 ≤ a) && decide (a + n ≤ spadEnd) &&
  (List.range 16).all fun q =>
    let lo := max a (spadBase (16 * q))
    let hi := min (a + max n 1) (spadBase (16 * q + 16))
    decide (hi ≤ lo) || s.sameGroup p q

/-- Whether a range lies in the scratchpad or the HBM of partition `p`'s group, outside every Tango reserve. -/
def State.inGroupMem (s : State) (p a n : Nat) : Bool := s.inGroupHbm p a (max n 1) || s.inGroupSpad p a n

/-! ## VERSION_CONTROL (R285) -/

/-- The entry that VERSION_SELECT selects. -/
def State.selected (s : State) (p : Nat) : Nat := s.pN p 0x5C

/-- Whether both slots are FREE. -/
def VEntry.allFree (e : VEntry) : Bool := e.slot0.state == .free && e.slot1.state == .free

/-- DEFINE. -/
def defineW (s : State) (p : Nat) : WR :=
  let r := s.selected p
  let e := s.region p r
  if e.valid then .error .state
  else if !(s.inGroupMem p e.slot0.addr e.size && s.inGroupMem p e.slot1.addr e.size) then .error .state
  else .ok (s.setRegion p r { e with valid := true, single := false, slot0 := e.slot0.freed, slot1 := e.slot1.freed })

/-- DEFINE_SINGLE. -/
def defineSingleW (s : State) (p : Nat) (t : Tag) : WR :=
  let r := s.selected p
  let e := s.region p r
  if e.valid then .error .state
  else if !s.inGroupMem p e.slot0.addr e.size then .error .state
  else .ok ((s.setRegion p r
    { e with valid := true, single := true, slot0 := e.slot0.freed.committedAs t, slot1 := e.slot1.freed }).bindWaiting p)

/-- INSTALL. -/
def installW (s : State) (p slot : Nat) (t : Tag) : WR :=
  let r := s.selected p
  let e := s.region p r
  if !(e.valid && !e.single && e.allFree) then .error .state
  else .ok ((s.modSlot p r slot fun v => v.committedAs t).bindWaiting p).relSync

/-- An acorn entry. -/
def State.acorn (s : State) (p i : Nat) : Word := mget 0#64 s.acorns (32 * p + i)

/-- Whether a VALID acorn entry of the partition names a region. -/
def State.acornNames (s : State) (p r : Nat) : Bool :=
  (List.range 32).any fun i =>
    let a := s.acorn p i
    bit a 63 && (field a 55 48 == r || field a 47 40 == r)

/-- CLEAR. -/
def clearRegionW (s : State) (p : Nat) : WR :=
  let r := s.selected p
  let e := s.region p r
  if !e.allFree || s.acornNames p r then .error .state
  else .ok (s.setRegion p r { e with valid := false, single := false })

/-- A write to VERSION_CONTROL. -/
def versionControlW (s : State) (p : Nat) (v : Word) : WR :=
  let t : Tag := BitVec.ofNat 16 (field v 31 16)
  match field v 2 0 with
  | 1 => defineW s p
  | 2 => defineSingleW s p t
  | 3 => installW s p (field v 3 3) t
  | 4 => clearRegionW s p
  | _ => .error .range

/-- DEFINE (R285). -/
def defineEff (via : Via) (p : Part) (s : State) : State := s.partWrite via p 0xC3 (defineW s p)

/-- DEFINE_SINGLE (R285). -/
def defineSingleEff (via : Via) (p : Part) (tag : Tag) (s : State) : State :=
  s.partWrite via p 0xC3 (defineSingleW s p tag)

/-- INSTALL (R285). -/
def installEff (via : Via) (p : Part) (slot : Fin 2) (tag : Tag) (s : State) : State :=
  s.partWrite via p 0xC3 (installW s p slot tag)

/-- CLEAR (R285). -/
def clearEff (via : Via) (p : Part) (s : State) : State := s.partWrite via p 0xC3 (clearRegionW s p)

/-- A write to VERSION_BASE0 or VERSION_BASE1. -/
def versionBaseW (s : State) (p slot : Nat) (v : Word) : WR :=
  let r := s.selected p
  let e := s.region p r
  if (e.slot slot).state ≠ .free then .error .state
  else if s.inGroupMem p v.toNat e.size = false then .error .range
  else .ok (s.modSlot p r slot fun x => { x with addr := v.toNat })

/-- A write to VERSION_SIZE. -/
def versionSizeW (s : State) (p : Nat) (v : Word) : WR :=
  let r := s.selected p
  let e := s.region p r
  if v.toNat % 256 ≠ 0 then .error .range
  else if e.valid && !e.allFree then .error .state
  else if e.valid && !(s.inGroupMem p e.slot0.addr v.toNat && s.inGroupMem p e.slot1.addr v.toNat) then .error .range
  else .ok (s.setRegion p r { e with size := v.toNat })

/-- Codes of a slot state (R101). -/
def VState.code : VState → Nat
  | .free => 0
  | .pending => 1
  | .committed => 2
  | .retiring => 3

/-- Whether a slot is PENDING for a load or a Reel. -/
def VSlot.heldElse (v : VSlot) : Bool := v.state == .pending && v.holder != .step

/-- VERSION_ENTRY of an entry (R105). -/
def VEntry.word (e : VEntry) : Nat :=
  b2n e.valid * 2 ^ 63 + b2n e.slot1.heldElse * 2 ^ 61 + b2n e.slot0.heldElse * 2 ^ 60 +
  e.slot1.state.code * 2 ^ 58 + e.slot0.state.code * 2 ^ 56 + e.slot1.bind * 2 ^ 48 + e.slot0.bind * 2 ^ 40 +
  e.slot1.tag.toNat * 2 ^ 16 + e.slot0.tag.toNat

/-- Whether an FP32 code is finite. -/
def f32Finite (v : Nat) : Bool := decide (nfield v 30 23 ≠ 255)

/-- Whether a request bound through acorn entry `i` has not yet retired (R298). -/
def State.acornBound (s : State) (p i : Nat) : Bool := (s.microBatches p).any fun m => m.acorns.contains i

/-- The regions that acorn entries bind together (R298). -/
def State.acornRegions (s : State) (p : Nat) (is : List (Fin 32)) : List Region :=
  is.flatMap fun i => [Fin.ofNat 256 (field (s.acorn p i) 55 48), Fin.ofNat 256 (field (s.acorn p i) 47 40)]

/-- A write to ACORN_ENTRY (R298): the conditions hold of every value written, VALID or not. -/
def acornW (s : State) (p : Nat) (v : Word) : WR :=
  let i := s.pN p 0xD0
  let old := s.acorn p i
  let base := s.region p (field v 55 48)
  let delta := s.region p (field v 47 40)
  if bit old 63 && s.acornBound p i then .error .state
  else if !(base.valid && delta.valid) || decide (64 * 2 ^ 20 < delta.size) then .error .state
  else if f32Finite (field v 31 0) = false then .error .range
  else .ok { s with acorns := mset 0#64 s.acorns (32 * p + i) (v &&& 0x80FFFFFFFFFFFFFF#64) }

/-- ACORN_ENTRY_WRITE (R298). -/
def acornEntryWriteEff (via : Via) (p : Part) (value : Word) (s : State) : State :=
  s.partWrite via p 0xD1 (acornW s p value)

/-- WEIGHT_COUNTER_CLEAR (R300). -/
def weightCounterClearEff (via : Via) (p : Part) (value : Word) (s : State) : State :=
  s.partWrite via p 0xD2 (clearW s value (s.clearObjs (partIx p) 0xCB 5))

end Sys2Proof.Machine
end

