-- ==== Sys2Proof/Machine/Loader.lean ====
section
/-! DEFINITION. The loader and the server of a partition: manifests, fetches, digests and serves (R287 to R296). -/

namespace Sys2Proof.Machine

/-- A partition's loader. -/
def State.loader (s : State) (p : Nat) : LoaderSt := mget LoaderSt.reset s.loaders p

/-- Setting a loader. -/
def State.setLoader (s : State) (p : Nat) (x : LoaderSt) : State :=
  { s with loaders := mset LoaderSt.reset s.loaders p x }

/-- Changing a loader. -/
def State.modLoader (s : State) (p : Nat) (f : LoaderSt → LoaderSt) : State := s.setLoader p (f (s.loader p))

/-- Changing a shard. -/
def State.modShard (s : State) (p i : Nat) (f : Shard → Shard) : State :=
  s.modLoader p fun l => { l with shards := l.shards.modify i f }

/-- The die that carries a partition. -/
def partDie (p : Nat) : Nat := p / 8

/-- A peer write of at most 4,096 bytes (R219). -/
def peerPacket (dest : FabAddr) (job ctx target seq : Nat) (payload : List Byte) : Packet :=
  { mkPacket 0 0 dest job ctx with
    target := target, seq := BitVec.ofNat 16 seq, length := payload.length, payload := payload }

/-- The answer to a peer write or a quiet request: TARGET carries 1 for a refusal (log entry 48). -/
def ackPacket (type : Nat) (p : Packet) (refused : Bool) : Packet :=
  { mkPacket type 3 p.src p.jobId.toNat p.ctxId.toNat with seq := p.seq, target := b2n refused }

/-! ## Manifests (R287, R288) -/

/-- Where shard entries begin. -/
def shardTable (manifest regions : Nat) : Nat := manifest + (64 + 8 * regions + 63) / 64 * 64

/-- The holders of a shard entry at `a`. -/
def readHolders (m : Mem) (a : Nat) : List (Nat × FabAddr) :=
  (List.range (min 4 (m.readLE (a + 2) 1))).map fun h =>
    let w := m.readLE (a + 24 + 4 * h) 4
    (w / 2 ^ 24, BitVec.ofNat 24 w)

/-- A shard entry at `a`. -/
def readShard (m : Mem) (a : Nat) : Shard :=
  { region := m.readLE a 1, expect := m.readLE (a + 1) 1 == 1, holders := readHolders m a,
    offset := m.readLE (a + 8) 8, bytes := m.readLE (a + 16) 8, digest := m.readBytes (a + 64) 64,
    st := .idle, fails := 0, attempt := 0, sentAt := 0, seq := none, unit := false }

/-- Whether shard entry `a` breaks its field ranges or the region's (R287, R289). -/
def shardBad (s : State) (p : Nat) (regions : List Nat) (a : Nat) : Bool :=
  let m := s.mem
  let sh := readShard m a
  let e := s.region p sh.region
  decide (1 < m.readLE (a + 1) 1) || decide (4 < m.readLE (a + 2) 1) || !regions.contains sh.region ||
  decide (sh.offset % 256 ≠ 0) || decide (sh.bytes % 256 ≠ 0) || decide (sh.bytes < 256) ||
  decide (2 ^ 32 < sh.bytes) || !(e.valid && !e.single) || decide (e.size < sh.offset + sh.bytes) ||
  (!sh.expect && sh.holders.isEmpty)

/-- Whether two shards overlap. -/
def Shard.overlaps (a b : Shard) : Bool :=
  a.region == b.region && decide (a.offset < b.offset + b.bytes) && decide (b.offset < a.offset + a.bytes)

/-- The index of the first shard that overlaps an earlier one. -/
def firstOverlap : Nat → List Shard → List Shard → Option Nat
  | _, _, [] => none
  | i, before, x :: xs => if before.any x.overlaps then some i else firstOverlap (i + 1) (before ++ [x]) xs

/-- The first shard at fault of a manifest at `a`, and the manifest read: none at fault means it passes (R289). -/
def checkManifest (s : State) (p a : Nat) : Option Nat × LoaderSt :=
  let m := s.mem
  let n := m.readLE a 4
  let nr := m.readLE (a + 4) 2
  let regions := (List.range nr).map fun r => m.readLE (a + 64 + 8 * r) 1
  let at_ (i : Nat) : Nat := shardTable a nr + 128 * i
  let shards := (List.range n).map fun i => readShard m (at_ i)
  let l : LoaderSt :=
    { LoaderSt.reset with
      shards := shards, regions := regions, tag := BitVec.ofNat 16 (m.readLE (a + 6) 2),
      job := m.readLE (a + 8) 2 % 4096, ctx := m.readLE (a + 10) 1, expectBeat := m.readLE (a + 16) 8, manifest := a }
  let covered (r : Nat) : Bool :=
    decide (((shards.filter fun x => x.region == r).map Shard.bytes).sum = (s.region p r).size)
  if n < 1 ∨ 65536 < n ∨ nr < 1 ∨ 256 < nr then (some 0, { l with shards := [] })
  else if regions.any fun r => !((s.region p r).valid && !(s.region p r).single) then (some 0, l)
  else
    match (List.range n).find? fun i => shardBad s p regions (at_ i) with
    | some i => (some i, l)
    | none =>
      match firstOverlap 0 [] shards with
      | some i => (some i, l)
      | none => if regions.all covered then (none, l) else (some 0, l)

/-! ## Shards -/

/-- The bytes of a fetch request (R292). -/
def requestBytes (s : State) (l : LoaderSt) (sh : Shard) (i dest : Nat) : List Byte :=
  leBytes 2 (sh.attempt % 65536) ++ leBytes 2 sh.region ++ leBytes 4 l.tag.toNat ++
  leBytes 4 (l.ctx * 2 ^ 24 + s.ownAddr.toNat) ++ leBytes 4 l.job ++ leBytes 8 sh.offset ++ leBytes 8 sh.bytes ++
  leBytes 8 dest ++ leBytes 4 i ++ leBytes 20 0

/-- The slot of a region that the load holds. -/
def LoaderSt.slotOf (l : LoaderSt) (r : Nat) : Nat :=
  match l.held.find? fun h => h.1 == r with
  | some h => h.2
  | none => 0

/-- The device address of a shard in its PENDING slot. -/
def State.shardAddr (s : State) (p : Nat) (l : LoaderSt) (sh : Shard) : Nat :=
  ((s.region p sh.region).slot (l.slotOf sh.region)).addr + sh.offset

/-- SERVE_ADDR of the partition of a context on a device (R292): of another device it is an open value (log entry 107). -/
def State.serveAddrOf (s : State) (addr : FabAddr) (ctx : Nat) : Nat :=
  if addr = s.ownAddr then s.pN (ctx / 16) 0xC9 else Config.serveAddr addr ctx

/-- The next attempt of a shard (R292): attempt `a` goes to holder `a` modulo their number. -/
def State.sendFetch (s : State) (p i : Nat) : State :=
  let l := s.loader p
  match l.shards[i]? with
  | none => s
  | some sh =>
    match sh.holders[sh.attempt % max 1 sh.holders.length]? with
    | none => s
    | some (ctx, addr) =>
      let pkt := peerPacket addr l.job ctx (s.serveAddrOf addr ctx) (l.nextSeq % 65536)
        (requestBytes s l sh i (s.shardAddr p l sh))
      let s := s.modLoader p fun l => { l with nextSeq := l.nextSeq + 1 }
      let s := s.modShard p i fun x =>
        { x with st := .fetching, attempt := sh.attempt + 1, sentAt := s.beatIx, seq := some (l.nextSeq % 65536) }
      s.inject (partDie p) pkt

/-- VERIFYING shards take free digest units in ascending index (R291). -/
def takeUnits : Nat → List Shard → List Shard
  | _, [] => []
  | free, x :: xs =>
    if x.st = .verifying ∧ x.unit = false ∧ 0 < free then { x with unit := true } :: takeUnits (free - 1) xs
    else x :: takeUnits free xs

/-- The digest units handed out. -/
def State.assignUnits (s : State) (p : Nat) : State :=
  s.modLoader p fun l => { l with shards := takeUnits (16 - l.shards.countP (·.unit)) l.shards }

/-- A failure of shard `i` (R293) with its cause code of LOAD_FAIL_SHARD. -/
def State.failShard (s : State) (p i cause : Nat) : State :=
  let l := s.loader p
  match l.shards[i]? with
  | none => s
  | some sh =>
    let s := s.pCount p (if cause = 1 then 0xCC else 0xCD) 1
    let s := s.modShard p i fun x => { x with fails := x.fails + 1, unit := false, seq := none }
    let s :=
      if sh.holders.isEmpty || decide (3 ≤ sh.fails + 1) || l.st == .failed then
        let s := s.modShard p i fun x => { x with st := .failed }
        if l.st = .failed then s
        else
          let c := if sh.holders.isEmpty then 7 else cause
          (s.modLoader p fun l => { l with st := .failed, failWord := c * 2 ^ 28 + i }).event (s.lead p) 4
      else s.sendFetch p i
    s.assignUnits p

/-- The loader enters LOADING: FETCH shards are fetched, EXPECT shards wait (R289). -/
def State.enterLoading (s : State) (p : Nat) : State :=
  let s := s.modLoader p fun l =>
    { l with st := .loading, shards := l.shards.map fun x => { x with st := if x.expect then .waiting else x.st } }
  (List.range (s.loader p).shards.length).foldl
    (fun s i => match (s.loader p).shards[i]? with
      | some sh => if sh.expect then s else s.sendFetch p i
      | none => s) s

/-- Freeing the PENDING slots of a load. -/
def freeHeld (p : Nat) : List (Nat × Nat) → State → State
  | [], s => s
  | (r, i) :: rest, s => freeHeld p rest (s.modSlot p r i VSlot.freed)

/-- Making FREE slots of a load's regions PENDING (R289). -/
def holdFree (p : Nat) : List Nat → State → State
  | [], s => s
  | r :: rs, s =>
    let s :=
      if (s.loader p).held.any fun h => h.1 == r then s
      else
        match (s.region p r).freeSlot with
        | none => s
        | some i =>
          (s.modSlot p r i fun v => { v with state := .pending, holder := .load, bind := 0 }).modLoader p fun l =>
            { l with held := l.held ++ [(r, i)] }
    holdFree p rs s

/-- A waiting loader goes on when slots have become FREE (R289). -/
def State.pollLoader (s : State) (p : Nat) : State :=
  if (s.loader p).st ≠ .waitSlot then s
  else
    let s := holdFree p (s.loader p).regions s
    let l := s.loader p
    if l.regions.all fun r => l.held.any fun h => h.1 == r then s.enterLoading p else s

/-- A partition group's member-wise operation. -/
def State.forMembers (s : State) (p : Nat) (f : Nat → State → State) : State :=
  (s.members p).foldl (fun s q => f q s) s

/-! ## LOAD_CONTROL -/

/-- The bytes that a manifest at `a` takes. -/
def manifestSize (m : Mem) (a : Nat) : Nat := shardTable 0 (m.readLE (a + 4) 2) + 128 * m.readLE a 4

/-- Reading the manifest (R289): it lies in the group's HBM, and its read meets a Shell outcome. The flag says whether the
reader has it; one outside the group, or one that cannot be read, faults as R18 and R148 say (log entry 99). -/
def State.manifestRead (s : State) (p : Nat) (o : ShellOutcome) : State × Bool :=
  let a := s.pN p 0xC4
  if s.inGroupHbm p a (manifestSize s.mem a) then (s.memMeets a o, !o.bad) else (s.partFault p, false)

/-- A load that ends FAILED with cause MANIFEST, and the shard at fault (R289). -/
def State.manifestFailed (s : State) (p : Nat) (l : LoaderSt) (shard : Nat) : State :=
  (s.setLoader p { l with st := .failed, failWord := 8 * 2 ^ 28 + shard % 65536 }).event (s.lead p) 4

/-- START (R289). The slots that an earlier load holds PENDING serve the new one; those of regions it does not list become
FREE. -/
def loadStartW (s : State) (p : Nat) (o : ShellOutcome) : WR :=
  let old := s.loader p
  if old.st = .loading ∨ old.st = .waitSlot then .error .state
  else
    let (s, read) := s.manifestRead p o
    let (fault, l) := checkManifest s p (s.pN p 0xC4)
    let kept := if old.st = .verified ∨ old.st = .failed then old.held else []
    let l := { l with queue := old.queue, serve := old.serve, nextSeq := old.nextSeq, held := kept }
    if read = false then .ok (s.manifestFailed p { l with shards := [] } 0)
    else
      match fault with
      | some i => .ok (s.manifestFailed p l i)
      | none =>
        let s := freeHeld p (kept.filter fun h => !l.regions.contains h.1) s
        let l := { l with held := kept.filter fun h => l.regions.contains h.1 }
        .ok ((s.setLoader p { l with st := .waitSlot, failWord := 0 }).pollLoader p)

/-- LOAD_START (R289). -/
def loadStartEff (via : Via) (p : Part) (shell : ShellOutcome) (s : State) : State :=
  s.partWrite via p 0xC5 (loadStartW s p shell)

/-- The slots of a load become COMMITTED under its tag; those they supersede retire (R295). -/
def commitHeld (p : Nat) (t : Tag) : List (Nat × Nat) → State → State
  | [], s => s
  | (r, i) :: rest, s =>
    let s := s.modSlot p r (1 - i) VSlot.superseded
    commitHeld p t rest (s.modSlot p r i fun v => v.committedAs t)

/-- COMMIT (R295). -/
def loadCommitW (s : State) (p : Nat) : WR :=
  let l := s.loader p
  if l.st ≠ .verified ∨ (s.fence p).state = .armed then .error .state
  else
    let s := commitHeld p l.tag l.held s
    .ok ((s.setLoader p { l with
      st := .committed, held := [], shards := [] }).bindWaiting p)

/-- LOAD_COMMIT (R295). -/
def loadCommitEff (via : Via) (p : Part) (s : State) : State := s.partWrite via p 0xC5 (loadCommitW s p)

/-- The cancelling of a load (R296): its requests end, and what they still bring is ignored. The requests of others that the
server has taken stay (log entry 108). -/
def State.cancelLoad (s : State) (p : Nat) : State :=
  let l := s.loader p
  if l.st = .idle ∨ l.st = .committed then s
  else
    (freeHeld p l.held s).setLoader p { l with
      st := .cancelled, held := [], shards := [] }

/-- CANCEL (R296). -/
def loadCancelW (s : State) (p : Nat) : WR :=
  if (s.loader p).st = .idle ∨ (s.loader p).st = .committed then .error .state else .ok (s.cancelLoad p)

/-- LOAD_CANCEL (R296). -/
def loadCancelEff (via : Via) (p : Part) (s : State) : State := s.partWrite via p 0xC5 (loadCancelW s p)

/-- The FAILED shards fetched again with the holders that the manifest now names (R293). -/
def retryShards (p manifest nr : Nat) : List Nat → State → State
  | [], s => s
  | i :: is, s =>
    let s := s.modShard p i fun x =>
      { x with holders := readHolders s.mem (shardTable manifest nr + 128 * i), fails := 0, st := .fetching }
    let none_ : Bool := match (s.loader p).shards[i]? with
      | some sh => sh.holders.isEmpty
      | none => false
    retryShards p manifest nr is (if none_ then s.failShard p i 7 else s.sendFetch p i)

/-- RETRY (R293). A manifest that can no longer be read leaves the loader FAILED (log entry 99). -/
def loadRetryW (s : State) (p : Nat) (o : ShellOutcome) : WR :=
  let l := s.loader p
  if l.st ≠ .failed then .error .state
  else
    let failed := (List.range l.shards.length).filter fun i => match l.shards[i]? with
      | some sh => sh.st == .failed
      | none => false
    if failed.isEmpty then .error .state
    else if o.bad then .ok ((s.memMeets l.manifest o).manifestFailed p l (failed.headD 0))
    else .ok (retryShards p l.manifest l.regions.length failed
      ((s.memNote l.manifest o).setLoader p { l with st := .loading, failWord := 0 }))

/-- LOAD_RETRY (R293). -/
def loadRetryEff (via : Via) (p : Part) (shell : ShellOutcome) (s : State) : State :=
  s.partWrite via p 0xC5 (loadRetryW s p shell)

/-- A write to LOAD_CONTROL: its action bits act in ascending order (log entry 43), and its reads are clean. -/
def loadControlW (s : State) (p : Nat) (v : Word) : WR :=
  ctlActs v 0 [(loadStartW · p .clean), (loadCommitW · p), (loadCancelW · p), (loadRetryW · p .clean)] s

/-- EXPECT_BEAT (R289): the EXPECT shards go to VERIFYING. -/
def expectBeatEff (p : Part) (s : State) : State :=
  let l := s.loader p
  if l.st = .loading ∧ l.expectBeat ≤ s.beatIx then
    (s.modLoader p fun l =>
      { l with shards := l.shards.map fun x => if x.st = .waiting then { x with st := .verifying } else x }).assignUnits p
  else s

/-- DIGEST_DONE (R291): a shard whose SHA-512 matches is VERIFIED, else its attempt has failed. -/
def digestDoneEff (p : Part) (shard : Nat) (o : ShellOutcome) (s : State) : State :=
  let l := s.loader p
  match l.shards[shard]? with
  | none => s
  | some sh =>
    if sh.st ≠ .verifying ∨ sh.unit = false then s
    else
      let a := s.shardAddr p l sh
      let s := s.memNote a o
      if o.bad = false ∧ sha512 (s.readBytes a sh.bytes) = sh.digest then
        let s := s.modShard p shard fun x => { x with st := .verified, unit := false }
        let s := (s.pCount p 0xCB 1).assignUnits p
        if (s.loader p).st = .loading ∧ (s.loader p).shards.all (·.st == .verified) then
          s.modLoader p fun l => { l with st := .verified }
        else s
      else s.failShard p shard 1

/-- FETCH_DEADLINE (R292). -/
def fetchDeadlineEff (p : Part) (shard : Nat) (s : State) : State :=
  match (s.loader p).shards[shard]? with
  | none => s
  | some sh =>
    if sh.st = .fetching ∧ sh.sentAt + s.pN p 0xC8 + (sh.bytes + 65535) / 65536 ≤ s.beatIx then s.failShard p shard 2
    else s

/-- A notice's shard, ATTEMPT and CODE (R292). -/
def noticeFields (bs : List Byte) : Nat × Nat × Nat :=
  (leNat ((bs.drop 40).take 4), leNat (bs.take 2), leNat ((bs.drop 2).take 1))

/-- Whether a partition holds a job identifier, through a slot of its group's lead (R167). -/
def State.holdsJob (s : State) (p job : Nat) : Bool :=
  (List.range 128).any fun j =>
    s.rdN (objKey (jsIx j) 1) == job && s.rdN (objKey (jsIx j) 2) == s.lead p && job != 0xFFF

/-- Whether the peer-write rules let a request in: the partition holds the job, and the context is in LOADING, RESIDENT or
EVICTING (R167, R195). The table of contexts is the lead's. -/
def State.ctxTakes (s : State) (p job ctx : Nat) : Bool :=
  let c := mget Ctx.reset s.ctxs ctx
  ctx / 16 == s.lead p && c.jobId == job && (c.state == .loading || c.state == .resident || c.state == .evicting)

/-- A drop of a packet under R195, counted when the named context is in TEARDOWN or RETIRED. -/
def State.ctxDrop (s : State) (pkt : Packet) : State :=
  let c := mget Ctx.reset s.ctxs pkt.ctxId.toNat
  if (c.state == .teardown || c.state == .retired) && c.jobId == pkt.jobId.toNat then
    s.pCount (pkt.ctxId.toNat / 16) 0xBA 1
  else s

/-- A peer write that partition `p` refuses (R167): counted, and answered with a refusal. -/
def State.peerRefuse (s : State) (p : Nat) (pkt : Packet) : State :=
  (s.pCount p 0xA5 1).inject (partDie p) (ackPacket 1 pkt true)

/-- The acknowledgement of a peer write that partition `p` has performed or taken (R166). -/
def State.peerAccept (s : State) (p : Nat) (pkt : Packet) : State := s.inject (partDie p) (ackPacket 1 pkt false)

/-- A notice of the current attempt of its shard (R292). -/
def State.takeNotice (s : State) (p i attempt code : Nat) : State :=
  match (s.loader p).shards[i]? with
  | none => s
  | some sh =>
    if sh.st ≠ .fetching ∨ (attempt + 1) % 65536 ≠ sh.attempt % 65536 then s
    else if code = 0 then
      (s.modShard p i fun x => { x with st := .verifying, seq := none }).assignUnits p
    else s.failShard p i (if code = 1 then 4 else if code = 2 then 5 else if code = 3 then 6 else 3)

/-- FETCH_NOTICE (R292, R294): a notice is taken only under R167 and R195, and not by a superseded device (R224). -/
def fetchNoticeEff (p : Part) (pkt : Packet) (s : State) : State :=
  let (i, attempt, code) := noticeFields pkt.payload
  if s.superseded then s
  else if s.ctxTakes p pkt.jobId.toNat pkt.ctxId.toNat = false then s.ctxDrop pkt
  else if s.holdsJob p pkt.jobId.toNat = false then s.peerRefuse p pkt
  else (s.peerAccept p pkt).takeNotice p i attempt code

/-- Whether a fabric delivery into [a, a + n) is allowed by the loads of partition `p` (R289, R290): `src` is the sender of
a peer write, none for a collective delivery. -/
def State.loadAllows (s : State) (p a n : Nat) (src : Option FabAddr) : Bool :=
  let l := s.loader p
  l.shards.all fun sh =>
    let b := s.shardAddr p l sh
    let hit := decide (a < b + sh.bytes) && decide (b < a + n)
    !hit ||
    match sh.st with
    | .idle => true
    | .waiting => true
    | .fetching =>
      match src, sh.holders[(sh.attempt - 1) % max 1 sh.holders.length]? with
      | some q, some h => q == h.2
      | _, _ => false
    | .verifying | .verified | .failed => false

/-- A delivery that partition `p`'s load does not allow is dropped and counted (R290). -/
def State.loadStray (s : State) (p : Nat) : State := s.pCount p 0xCE 1

/-! ## The server (R294) -/

/-- The parts of a fetch request that came under context `ctx`. -/
def parseRequest (ctx : Nat) (bs : List Byte) : FetchReq :=
  let f (o n : Nat) : Nat := leNat ((bs.drop o).take n)
  { ctx := ctx, attempt := f 0 2, region := f 2 1, tag := BitVec.ofNat 16 (f 4 2), reqCtx := f 11 1, reqAddr := BitVec.ofNat 24 (f 8 3),
    job := f 12 2 % 4096, offset := f 16 8, bytes := f 24 8, dest := f 32 8, shard := f 40 4 }

/-- Whether a partition is a server. -/
def State.serves (s : State) (p : Nat) : Bool := bit (s.pRd p 0xCA) 0

/-- SERVE_REQUEST_RECEIVE (R294): a superseded device takes none (R224), and R195 drops it as any peer write. -/
def serveRequestReceiveEff (p : Part) (pkt : Packet) (s : State) : State :=
  if s.serves p = false ∨ s.superseded = true then s
  else if s.ctxTakes p pkt.jobId.toNat pkt.ctxId.toNat = false then s.ctxDrop pkt
  else if s.holdsJob p pkt.jobId.toNat = false ∨ 64 ≤ (s.loader p).queue.length then s.peerRefuse p pkt
  else (s.modLoader p fun l => { l with queue := l.queue ++ [parseRequest pkt.ctxId.toNat pkt.payload] }).peerAccept p pkt

/-- A notice to a requester (R292). -/
def State.sendNotice (s : State) (p : Nat) (r : FetchReq) (code : Nat) : State :=
  let bytes := leBytes 2 r.attempt ++ leBytes 1 code ++ leBytes 37 0 ++ leBytes 4 r.shard ++ leBytes 20 0
  let seq := (s.loader p).nextSeq % 65536
  (s.modLoader p fun l => { l with nextSeq := l.nextSeq + 1 }).inject (partDie p)
    (peerPacket r.reqAddr r.job r.reqCtx (s.serveAddrOf r.reqAddr r.reqCtx + 64) seq bytes)

/-- The slot that answers a request (R294): COMMITTED or RETIRING with the tag, or a PENDING slot of the own load all of
whose shards in the range are VERIFIED. -/
def State.serveSlot (s : State) (p : Nat) (r : FetchReq) : Option Nat :=
  let e := s.region p r.region
  let l := s.loader p
  match e.stepSlot r.tag with
  | some i => some i
  | none =>
    let i := l.slotOf r.region
    let ok := l.tag == r.tag && l.held.any (fun h => h.1 == r.region) && (e.slot i).heldElse &&
      l.shards.all fun sh =>
        !(sh.region == r.region && decide (sh.offset < r.offset + r.bytes) &&
          decide (r.offset < sh.offset + sh.bytes)) || sh.st == .verified
    if ok then some i else none

/-- Peer writes of at most 4,096 bytes that copy a request's bytes from `a`, numbered from `seq`. -/
def serveCopy (p : Nat) (r : FetchReq) (a seq : Nat) : Nat → Nat → State → State
  | 0, _, s => s
  | k + 1, off, s =>
    let n := min 4096 (r.bytes - off)
    let s := s.inject (partDie p) (peerPacket r.reqAddr r.job r.reqCtx (r.dest + off) ((seq + off / 4096) % 65536)
      (s.readBytes (a + off) n))
    serveCopy p r a seq k (off + 4096) s

/-- Whether an acknowledgement belongs to a peer write of a serve. -/
def Serve.owns (sv : Serve) (pkt : Packet) : Bool :=
  sv.req.reqAddr == pkt.src && decide ((pkt.seq.toNat + 65536 - sv.seq % 65536) % 65536 < sv.chunks)

/-- SERVE_REQUEST_PROCESS (R294): the server answers its next request, or waits while the slot's bind count is full. A
range that cannot be read faults its owner and ends the serve with TRANSFER_FAILED (R148). -/
def serveRequestProcessEff (p : Part) (shell : ShellOutcome) (s : State) : State :=
  let l := s.loader p
  match l.queue, l.serve with
  | r :: rest, none =>
    if s.serves p = false then s
    else
      let s1 := s.setLoader p { l with queue := rest }
      match s.serveSlot p r with
      | none => s1.sendNotice p r 1
      | some i =>
        let e := s.region p r.region
        if e.size < r.offset + r.bytes then s1.sendNotice p r 2
        else if 255 ≤ (e.slot i).bind then s
        else if shell.bad then (s1.memMeets ((e.slot i).addr + r.offset) shell).sendNotice p r 3
        else
          let chunks := (r.bytes + 4095) / 4096
          let s1 := s1.memNote ((e.slot i).addr + r.offset) shell
          let s1 := s1.bindSlot p r.region i
          let s1 := s1.modLoader p fun l => { l with
            serve := some ⟨r, i, chunks, false, s.beatIx, l.nextSeq, chunks⟩, nextSeq := l.nextSeq + chunks }
          serveCopy p r ((e.slot i).addr + r.offset) l.nextSeq chunks 0 s1
  | _, _ => s

/-- The end of a serve: the bind falls, and the notice goes out (R294). -/
def State.endServe (s : State) (p : Nat) (sv : Serve) (ok : Bool) : State :=
  let s := (s.unbindSlot p sv.req.region sv.slot).modLoader p fun l => { l with serve := none }
  let s := if ok then s.pCount p 0xCF 1 else s
  (s.sendNotice p sv.req (if ok then 0 else 3)).pollLoader p

/-- The teardown of context `k` (R296): the load on its behalf is cancelled, and a serve under it ends without a notice. -/
def State.loaderTeardown (s : State) (p k : Nat) : State :=
  let s := if (s.loader p).ctx = k then s.cancelLoad p else s
  let s := s.modLoader p fun l => { l with queue := l.queue.filter fun r => r.ctx != k }
  match (s.loader p).serve with
  | some sv =>
    if sv.req.ctx = k then
      ((s.unbindSlot p sv.req.region sv.slot).modLoader p fun l => { l with serve := none }).pollLoader p
    else s
  | none => s

/-- An acknowledgement on the loader's and server's channel (R292, R294). -/
def State.loaderAck (s : State) (p : Nat) (pkt : Packet) (refused : Bool) : State :=
  let l := s.loader p
  match (List.range l.shards.length).find? fun i => match l.shards[i]? with
    | some sh => sh.seq == some pkt.seq.toNat && sh.holders.any fun h => h.2 == pkt.src
    | none => false with
  | some i =>
    if refused then s.failShard p i 3 else s.modShard p i fun x => { x with seq := none }
  | none =>
    match l.serve with
    | none => s
    | some sv =>
      if sv.owns pkt = false then s
      else s.modLoader p fun l => { l with serve := some { sv with left := sv.left - 1, refused := sv.refused || refused } }

/-- The arrival fence of the loader's and server's channel completes once every peer write is acknowledged. -/
def State.serveFence (s : State) (p : Nat) : State :=
  match (s.loader p).serve with
  | some sv => if sv.left = 0 then s.endServe p sv (!sv.refused) else s
  | none => s

/-- Fences of the channel that time out (R167): those of requests fail their attempt, that of a serve ends it. -/
def State.serveTimeout (s : State) (p : Nat) : State :=
  let late (b : Nat) : Bool := decide (b + s.pN p 0xA0 ≤ s.beatIx)
  let l := s.loader p
  let s := (List.range l.shards.length).foldl
    (fun s i => match (s.loader p).shards[i]? with
      | some sh => if sh.seq.isSome && late sh.sentAt then s.failShard p i 2 else s
      | none => s) s
  match (s.loader p).serve with
  | some sv => if late sv.since then s.endServe p sv false else s
  | none => s

/-- A write to SERVE_CONTROL (R294). -/
def serveEnableW (s : State) (p : Nat) (v : Word) : WR :=
  let ch := mget DmaCh.reset s.dma (p * 32 + 31)
  if bit v 0 && !(s.serves p) && !(ch.state == .idle && !ch.armed) then .error .state
  else .ok (s.pWr p 0xCA (v &&& 1#64))

/-- SERVE_ENABLE (R294). -/
def serveEnableEff (via : Via) (p : Part) (value : Word) (s : State) : State :=
  s.partWrite via p 0xCA (serveEnableW s p value)

/-- LOAD_STATUS of a loader (R300). -/
def LoaderSt.status (l : LoaderSt) : Nat :=
  let left := l.shards.countP fun x => x.st != .verified
  let failed := l.shards.countP fun x => x.st == .failed
  min left 0xFFFF * 2 ^ 16 + min failed 255 * 2 ^ 8 + l.st.code

end Sys2Proof.Machine
end

