-- ==== Sys2Proof/Machine/Coll.lean ====
section
/-! DEFINITION. Shared operations of the collective engine: the tree, streams and windows, node additions, deliveries and the
progress of a bucket context (R234 to R256). -/

namespace Sys2Proof.Machine

/-! ## Slots -/

/-- An object of job slot `j` (R271). -/
def jsKey (j sub : Nat) : Nat := objKey (jsIx j) sub

/-- A job slot's record. -/
def State.cs (s : State) (j : Nat) : CollSlot := mget CollSlot.reset s.coll j

/-- Setting a job slot's record. -/
def State.setCs (s : State) (j : Nat) (x : CollSlot) : State := { s with coll := mset CollSlot.reset s.coll j x }

/-- Changing a job slot's record. -/
def State.modCs (s : State) (j : Nat) (f : CollSlot → CollSlot) : State := s.setCs j (f (s.cs j))

/-- SLOT_STATE: 0 UNASSIGNED, 1 IDLE, 2 ACTIVE, 3 RELEASING. -/
def State.jsState (s : State) (j : Nat) : Nat := s.rdN (jsKey j 4)

/-- The holder group's lead. -/
def State.holder (s : State) (j : Nat) : Nat := s.rdN (jsKey j 2) % 16

/-- Whether the slot is in bounded-loss mode. -/
def State.bounded (s : State) (j : Nat) : Bool := s.rdN (jsKey j 5) == 1

/-- Whether contributions of the slot are staged (R248). -/
def State.staged (s : State) (j : Nat) : Bool := s.rdN (jsKey j 6) == 1 || s.rdN (jsKey j 0x0F) != 0

/-- WINDOW. -/
def State.window (s : State) (j : Nat) : Nat := s.rdN (jsKey j 0x0C)

/-- The key of a context. -/
def collKey (step : Tag) (bucket : BitVec 16) : Nat := step.toNat * 65536 + bucket.toNat

/-- The key of a context. -/
def CollCtx.key (c : CollCtx) : Nat := collKey c.step c.bucket

/-- A context of a slot. -/
def State.collCtx (s : State) (j k : Nat) : Option CollCtx := mfind (s.cs j).ctxs k

/-- Setting a context of a slot. -/
def State.setCtx (s : State) (j : Nat) (c : CollCtx) : State :=
  s.modCs j fun x => { x with ctxs := mins c x.ctxs c.key }

/-- Changing a context of a slot. -/
def State.modCtx (s : State) (j k : Nat) (f : CollCtx → CollCtx) : State :=
  match s.collCtx j k with
  | none => s
  | some c => s.setCtx j (f c)

/-- Key `a` is key `b` or comes before it; steps compare as in R220 (R241, R249). -/
def keyLe (a b : Tag × BitVec 16) : Bool :=
  if a.1 = b.1 then decide (a.2.toNat ≤ b.2.toNat) else epochNewer b.1 a.1

/-! ## The tree (R244) -/

/-- ⌈log2 R⌉. -/
def treeLevels (R : Nat) : Nat := if R ≤ 1 then 0 else Nat.log2 (R - 1) + 1

/-- Trailing zero bits of a number below 2^fuel. -/
def trailingZeros : Nat → Nat → Nat
  | 0, _ => 0
  | f + 1, r => if r % 2 = 1 then 0 else trailingZeros f (r / 2) + 1

/-- The top level that rank `r` hosts; 0 when it hosts none. -/
def topLevel (r R : Nat) : Nat := if r = 0 then treeLevels R else trailingZeros 17 r

/-- The right rank of the node of level `l` at rank `r`. -/
def rightRank (r l R : Nat) : Option Nat := if r + 2 ^ (l - 1) < R then some (r + 2 ^ (l - 1)) else none

/-- The levels that a rank hosts, highest first. -/
def hostedLevels (r R : Nat) : List Nat := (List.range (topLevel r R)).reverse.map fun l => l + 1

/-- The rank to which the output of rank `r` goes. -/
def parentRank (r : Nat) : Nat := r - 2 ^ trailingZeros 17 r

/-- The ranks to which results go, highest level first (R246). -/
def downRanks (r R : Nat) : List Nat := (hostedLevels r R).filterMap fun l => rightRank r l R

/-- The last rank, beyond which a span ends, of the right child of level `l`. -/
def spanEnd (q l R : Nat) : Nat := min (q + 2 ^ (l - 1)) R

/-- Nodes that a rank hosts with two children. -/
def addingNodes (r R : Nat) : Nat := (downRanks r R).length

/-- The Reel of a slot by its sequence number. -/
def State.reelOf (s : State) (j : Nat) (step : Tag) : Option ReelSt := mfind (s.cs j).reels step.toNat

/-- Setting a Reel of a slot. -/
def State.setReel (s : State) (j : Nat) (r : ReelSt) : State :=
  s.modCs j fun x => { x with reels := mins r x.reels r.desc.step }

/-- RANK, or the voter index in a vote. -/
def State.cRank (s : State) (j : Nat) (c : CollCtx) : Nat :=
  match c.vote, s.reelOf j c.step with
  | true, some r => r.desc.areaC
  | _, _ => s.rdN (jsKey j 7)

/-- Member-table entries, or voters in a vote. -/
def State.cMembers (s : State) (j : Nat) (c : CollCtx) : List Nat :=
  match c.vote, s.reelOf j c.step with
  | true, some r => r.voters
  | _, _ => (s.cs j).members

/-- RANKS, or the number of voters in a vote. -/
def State.cRanks (s : State) (j : Nat) (c : CollCtx) : Nat :=
  match c.vote, s.reelOf j c.step with
  | true, some r => r.desc.areaD + 1
  | _, _ => s.rdN (jsKey j 8)

/-- The top level of this device in a context's tree. -/
def State.cTop (s : State) (j : Nat) (c : CollCtx) : Nat := topLevel (s.cRank j c) (s.cRanks j c)

/-- The fabric address of a member-table entry. -/
def entryAddrOf (e : Nat) : Nat := e % 2 ^ 24

/-- The member-table entry of a rank. -/
def State.cEntry (s : State) (j : Nat) (c : CollCtx) (r : Nat) : Nat := (s.cMembers j c).getD r 0

/-! ## Streams (R241, R247) -/

/-- The key of a stream: the peer's address and the packet type. -/
def streamKey (addr type : Nat) : Nat := addr % 2 ^ 24 * 16 + type

/-- A stream that goes out. -/
def CollSlot.out (x : CollSlot) (k : Nat) : OutStream := mget ⟨[], 0, 0⟩ x.outs k

/-- Setting a stream that goes out. -/
def CollSlot.setOut (x : CollSlot) (k : Nat) (o : OutStream) : CollSlot := { x with outs := mset ⟨[], 0, 0⟩ x.outs k o }

/-- A stream that comes in. -/
def CollSlot.inn (x : CollSlot) (k : Nat) : InStream := mget ⟨0, 0, none⟩ x.ins k

/-- Setting a stream that comes in. -/
def CollSlot.setIn (x : CollSlot) (k : Nat) (i : InStream) : CollSlot := { x with ins := mset ⟨0, 0, none⟩ x.ins k i }

/-- The TARGET of a control packet (R240). -/
def ctlTarget : Nat := 0xFFFFFFFFFFFF

/-- Whether a packet is a control packet. -/
def isCtl (p : Packet) : Bool := p.target == ctlTarget

/-- A control word (R240). -/
def ctlWord (kind flags level count elements consumed : Nat) : List Byte :=
  leBytes 1 kind ++ leBytes 1 flags ++ leBytes 2 level ++ leBytes 4 count ++ leBytes 4 elements ++ leBytes 4 consumed ++
  leBytes 16 0

/-- The fields of a control word. -/
structure Ctl where
  kind : Nat
  flags : Nat
  level : Nat
  count : Nat
  elements : Nat
  consumed : Nat
  deriving DecidableEq, Repr

/-- Reading a control word. -/
def readCtl (p : Packet) : Ctl :=
  let f (o n : Nat) : Nat := leNat ((p.payload.drop o).take n)
  ⟨f 0 1, f 1 1, f 2 2, f 4 4, f 8 4, f 12 4⟩

/-- A packet of a slot to the member with a given table entry. -/
def State.collPkt (s : State) (j entry type : Nat) (step : Tag) (bucket : BitVec 16) (target : Nat) (body : List Byte) :
    Packet :=
  { mkPacket type 1 (BitVec.ofNat 24 entry) (s.rdN (jsKey j 1)) (entry / 2 ^ 24 % 256) with
    step := step, bucket := bucket, target := target, length := body.length, payload := body }

/-- A control packet. -/
def State.collCtl (s : State) (j entry type : Nat) (step : Tag) (bucket : BitVec 16) (w : List Byte) : Packet :=
  s.collPkt j entry type step bucket ctlTarget w

/-- Injecting a packet of a slot at its router. -/
def State.collInject (s : State) (j : Nat) (p : Packet) : State := s.inject (j / 64) p

/-- Sending what a stream's window allows: control packets need no window (R247). -/
def sendQueue (j k w : Nat) : List Packet → State → State
  | [], s => s.modCs j fun x => x.setOut k { x.out k with queue := [] }
  | p :: ps, s =>
    let o := (s.cs j).out k
    if isCtl p then sendQueue j k w ps (s.collInject j p)
    else if o.sent - o.acked < w then
      sendQueue j k w ps ((s.modCs j fun x => x.setOut k { o with sent := o.sent + 1 }).collInject j p)
    else s.modCs j fun x => x.setOut k { o with queue := p :: ps }

/-- A packet put on a stream in order. -/
def State.pushOut (s : State) (j : Nat) (p : Packet) : State :=
  let k := streamKey p.dest.toNat p.type.toNat
  sendQueue j k (s.window j) (((s.cs j).out k).queue ++ [p]) s

/-- Segments of bucket `b` consumed from a stream: a WINDOW packet that names it at least every WINDOW / 2 and at the end of
a bucket (R240, R247). -/
def State.consume (s : State) (j k entry n : Nat) (b : Tag × BitVec 16) (last : Bool) : State :=
  let i := (s.cs j).inn k
  let c := i.consumed + n
  if s.window j / 2 ≤ c - i.told ∨ (last = true ∧ c ≠ i.told) then
    (s.modCs j fun x => x.setIn k { i with consumed := c, told := c }).collInject j
      (s.collCtl j entry (k % 16) b.1 b.2 (ctlWord 2 0 0 0 0 (c % 2 ^ 32)))
  else s.modCs j fun x => x.setIn k { i with consumed := c }

/-- The entry of the member table with an address, for answers to a stream. -/
def State.entryOf (s : State) (j addr : Nat) : Nat :=
  match (s.cs j).members.find? fun e => entryAddrOf e == addr with
  | some e => e
  | none => addr

/-- Consuming from the stream with a key. -/
def State.consumeOn (s : State) (j stream n : Nat) (b : Tag × BitVec 16) (last : Bool) : State :=
  s.consume j stream (s.entryOf j (stream / 16)) n b last

/-- Consuming a packet, a control packet as no segment. -/
def State.consumePkt (s : State) (j : Nat) (p : Packet) : State :=
  s.consumeOn j (streamKey p.src.toNat p.type.toNat) (b2n (!isCtl p)) (p.step, p.bucket) true

/-- A slot's late drop (R249, R259, R263), which still counts as consumed. What is late may be the last of its bucket, so its
consumption is told at once (R247). -/
def State.lateDrop (s : State) (j : Nat) (p : Packet) : State := (s.count (jsKey j 0x18) 1).consumePkt j p

/-- A packet dropped under R237 or R267. -/
def State.collDrop (s : State) : State := s.count (objKey 0x2600 3) 1

/-! ## Segments -/

/-- The FP32 codes of a segment. -/
def segWords : List Byte → List Word32
  | a :: b :: c :: d :: rest => BitVec.ofNat 32 (leNat [a, b, c, d]) :: segWords rest
  | _ => []

/-- A segment's bytes. -/
def wordsSeg (ws : List Word32) : List Byte := ws.flatMap fun w => leBytes 4 w.toNat

/-- A node's addition of two elements by RNE; ZERO-ELEMENT replaces a NaN that the addition itself creates, not one that an
operand brings (R245, R256). -/
def nodeAdd (zeroNan : Bool) (a b : Word32) : Word32 × Flg × Nat :=
  let (v, f) := (ofF32 false a).add false (ofF32 false b)
  let (r, g) := toF32 .rne false v
  if zeroNan && v.isNan && !(ofF32 false a).isNan && !(ofF32 false b).isNan then (0#32, f ||| g, 1) else (r, f ||| g, 0)

/-- Element-wise sums of two segments: codes, flags and replacements. -/
def addWords (zeroNan : Bool) : List Word32 → List Word32 → List Word32 × Flg × Nat
  | a :: as, b :: bs =>
    let (r, f, n) := nodeAdd zeroNan a b
    let (rs, g, m) := addWords zeroNan as bs
    (r :: rs, f ||| g, n + m)
  | _, _ => ([], 0#4, 0)

/-- An exact quotient by a positive count, with a sticky bit below 2^-64 of the significand. -/
def numDiv (v : Num) (n : Nat) : Num :=
  match v with
  | .fin s m e =>
    let k := 64 + Nat.log2 (n + 1)
    let q := m * 2 ^ k / n
    .fin s (2 * q + (if m * 2 ^ k % n = 0 then 0 else 1)) (e - k - 1)
  | v => v

/-- An element of the result: sum / COUNT for MEAN, +0 for COUNT 0 (R245). -/
def meanWord (mean : Bool) (count : Nat) (w : Word32) : Word32 × Flg :=
  if count = 0 then (0#32, 0#4)
  else if mean then toF32 .rne false (numDiv (ofF32 false w) count)
  else (w, 0#4)

/-- A segment of the result. -/
def meanWords (mean : Bool) (count : Nat) : List Word32 → List Word32 × Flg
  | [] => ([], 0#4)
  | w :: ws =>
    let (r, f) := meanWord mean count w
    let (rs, g) := meanWords mean count ws
    (r :: rs, f ||| g)

/-- Whether a code is a NaN. -/
def wordNan (w : Word32) : Bool := (ofF32 false w).isNan

/-- Flags of node additions and divisions (R245). -/
def State.routerFlags (s : State) (j : Nat) (f : Flg) : State :=
  s.wrN (jsKey j 0x1C) (s.rdN (jsKey j 0x1C) ||| f.toNat)

/-- Segments of `n` bytes. -/
def segCount (n : Nat) : Nat := (n + 4095) / 4096

/-- Bytes of segment `k` of `n` bytes. -/
def segSize (n k : Nat) : Nat := min 4096 (n - 4096 * k)

/-- Bytes of a bucket, from the descriptor or an OPEN. -/
def CollCtx.bytes (c : CollCtx) : Nat :=
  match c.desc with
  | some d => 4 * d.length
  | none =>
    match (c.nodes.map Prod.snd).findSome? fun n => n.right.opened with
    | some o => 4 * o.2
    | none => 0

/-! ## Extents (R260) -/

/-- The counts of an extent table. -/
def extentCounts (m : Mem) (addr R : Nat) : List Nat := (List.range R).map fun r => m.readLE (addr + 4 * r) 4

/-- The byte range of rank `r`'s extent: first and end. -/
def extentOf (counts : List Nat) (r : Nat) : Nat × Nat :=
  let a := (counts.take r).sum
  (4 * a, 4 * (a + counts.getD r 0))

/-- The bytes of [a, a + bs.length) that lie in [lo, hi): their first offset and the bytes. -/
def clipBytes (a : Nat) (bs : List Byte) (lo hi : Nat) : Nat × List Byte :=
  let f := max a lo
  (f, (bs.drop (f - a)).take (min (a + bs.length) hi - f))

/-! ## Deliveries (R237, R238) -/

/-- The context that a slot's packets name on this device (R235). -/
def State.holderId (s : State) (j : Nat) : Nat := (s.cs j).members.getD (s.rdN (jsKey j 7)) 0 / 2 ^ 24 % 256

/-- The holder's context entry. -/
def State.holderCtx (s : State) (j : Nat) : Ctx := mget Ctx.reset s.ctxs (s.holderId j)

/-- Whether deliveries to a holder's context are refused (R195). -/
def CtxState.refusesDelivery : CtxState → Bool
  | .free | .teardown | .retired => true
  | .swapped | .loading | .resident | .evicting => false

/-- Whether bytes for an address must be held: scratchpad, with the context not RESIDENT. -/
def State.mustHold (s : State) (j a : Nat) : Bool := decide (hbmEnd ≤ a) && (s.holderCtx j).state != .resident

/-- Whether bytes for the holder of a slot may land: a context takes them, and they lie in its group's memory. -/
def State.collLands (s : State) (j a n : Nat) (x : Ctx) : Bool :=
  !x.state.refusesDelivery && s.inGroupMem (s.holder j) a n

/-- The member partition whose load does not allow a collective delivery (R290). -/
def State.strayAt (s : State) (j a n : Nat) : Option Nat :=
  (s.members (s.holder j)).find? fun p => !s.loadAllows p a n none

/-- Bytes delivered for context `x` of the holder group, and whether they have been performed: dropped and counted where no
context takes them or where they may not land (R237), or where a load does not allow them (R290). -/
def State.collPut (s : State) (j a : Nat) (bs : List Byte) (x : Ctx) : State × Bool :=
  if bs.isEmpty then (s, true)
  else if s.collLands j a bs.length x = false then (s.collDrop, false)
  else
    match s.strayAt j a bs.length with
    | some p => (s.loadStray p, false)
    | none => (s.writeBytes a bs, true)

/-- Bytes delivered to the holder group. -/
def State.collWrite (s : State) (j a : Nat) (bs : List Byte) : State := (s.collPut j a bs (s.holderCtx j)).1

/-! ## Deadlines (R251) -/

/-- The deadline beat D of a step. -/
def State.collDeadline (s : State) (j : Nat) (step : Tag) : Option Nat :=
  match (s.cs j).deadlines.find? fun d => d.1 == step.toNat with
  | some d => if d.2 = 0 then none else some d.2
  | none => none

/-- Naming a step's deadline: the slot holds the two most recently named. -/
def State.nameDeadline (s : State) (j step beat : Nat) : State :=
  s.modCs j fun x => { x with deadlines := ((step % 65536, beat) :: x.deadlines.filter (·.1 != step % 65536)).take 2 }

/-- H of a context. -/
def State.hardBeat (s : State) (j : Nat) (c : CollCtx) : Option Nat :=
  match c.vote, s.reelOf j c.step with
  | true, some r => some (r.desc.deadline + s.rdN (jsKey j 0x0E))
  | _, _ => (s.collDeadline j c.step).map fun d => d + s.rdN (jsKey j 0x0E)

/-! ## Status records (R243) -/

/-- A status record's bytes. -/
def statusBytes (ns count code : Nat) (nan selfEx carriedOut carriedIn : Bool) : List Byte :=
  leBytes 4 (2 ^ 31 + b2n carriedIn * 2 ^ 11 + b2n carriedOut * 2 ^ 10 + b2n selfEx * 2 ^ 9 + b2n nan * 2 ^ 8 + code) ++
  leBytes 4 count ++ leBytes 8 ns

/-- An operation counts as complete for COLLECTIVE gates (R243). -/
def State.collEnded (s : State) (j : Nat) (r : CollRecord) : State :=
  s.modCs j fun x => { x with finished := mins (r.op, r.code) x.finished r.key }

/-- The end of an operation on this device: its status record is written, or held for a context that is not RESIDENT (R238,
R243). -/
def State.collStatus (s : State) (j : Nat) (r : CollRecord) : State :=
  let x := mget Ctx.reset s.ctxs r.ctx
  if decide (hbmEnd ≤ r.addr) && x.state != .resident && !x.state.refusesDelivery then
    s.modCs j fun y => { y with records := y.records ++ [r] }
  else (s.collPut j r.addr r.bytes x).1.collEnded j r

/-- The TORN_DOWN record of an operation whose context is being torn down (R267): it lands in HBM, or in scratchpad while
the context still has its cores. -/
def State.collTorn (s : State) (j : Nat) (r : CollRecord) : State :=
  let on := decide (r.addr < hbmEnd) || (mget Ctx.reset s.ctxs r.ctx).onCores
  (if on && s.inGroupMem (s.holder j) r.addr r.bytes.length then s.writeBytes r.addr r.bytes else s).collEnded j r

/-- NAN and COUNT of a context's result, or of its top node's output so far. -/
def CollCtx.outcome (c : CollCtx) : Bool × Nat :=
  match c.result with
  | some r => (r.2, r.1)
  | none => (false, c.topCount)

/-- CTX_STATUS of a context below STATE (R271). -/
def CollCtx.word (c : CollCtx) : Nat :=
  b2n c.outcome.1 * 2 ^ 60 + b2n c.selfExcluded * 2 ^ 59 + b2n c.carriedIn * 2 ^ 58 + c.outcome.2 % 2 ^ 17 * 2 ^ 32 +
    c.perfSegs % 2 ^ 32

/-- The status record of a context that ends with a code. -/
def State.ctxRecord (s : State) (j : Nat) (c : CollCtx) (d : CollDesc) (code : Nat) : CollRecord :=
  { key := c.key, op := d.op, code := code, ctx := s.holderId j, addr := d.status, word := c.word,
    bytes := statusBytes s.beat c.outcome.2 code c.outcome.1 c.selfExcluded c.carriedOut c.carriedIn }

/-- The streams of a context: keys of those on which its packets come in (R249). -/
def State.ctxStreams (s : State) (j : Nat) (c : CollCtx) : List Nat :=
  let r := s.cRank j c
  let R := s.cRanks j c
  let adr (q : Nat) : Nat := entryAddrOf (s.cEntry j c q)
  let op := match c.desc with
    | some d => d.op
    | none => 0
  if op = 2 ∨ op = 4 then [streamKey (adr ((r + R - 1) % max 1 R)) 4]
  else if op = 1 then
    let root := match c.desc with
      | some d => d.root
      | none => 0
    let v := (r + R - root) % max 1 R
    if v = 0 then [] else [streamKey (adr ((parentRank v + root) % max 1 R)) 3]
  else
    (downRanks r R).map (fun q => streamKey (adr q) 2) ++ (if r = 0 then [] else [streamKey (adr (parentRank r)) 3])

/-- What a context holds of incoming segments counts as consumed when it ends. -/
def consumeHeld (j : Nat) (c : CollCtx) (s : State) : State :=
  let s := (hostedLevels (s.cRank j c) (s.cRanks j c)).foldl (fun s l =>
    match rightRank (s.cRank j c) l (s.cRanks j c) with
    | none => s
    | some q =>
      let e := s.cEntry j c q
      s.consume j (streamKey e 2) e (mget CNode.fresh c.nodes l).right.segs.length (c.step, c.bucket) true) s
  let s := c.held.foldl (fun s h => s.consumeOn j h.2.2.2 1 (c.step, c.bucket) true) s
  c.raw.foldl (fun s p => s.consumePkt j p.1) s

/-- Packets of a context that wait to be sent and satisfy `f` are dropped. -/
def CollSlot.purge (x : CollSlot) (c : CollCtx) (f : Packet → Bool) : CollSlot :=
  { x with outs := x.outs.map fun o =>
      (o.1, { o.2 with queue := o.2.queue.filter fun p => !(p.step == c.step && p.bucket == c.bucket && f p) }) }

/-- A context ends: its key is remembered on its streams, and what it still held is dropped. `purge` drops its packets that
wait to be sent. -/
def State.endCtx (s : State) (j : Nat) (c : CollCtx) (purge : Bool) : State :=
  let s := consumeHeld j c s
  let ks := s.ctxStreams j c
  s.modCs j fun x =>
    let x := ks.foldl (fun x k => x.setIn k { x.inn k with ended := some (c.step, c.bucket) }) x
    let x := { x with ctxs := mdel x.ctxs c.key }
    if purge then x.purge c fun _ => true else x

/-- Whether a context that ends leaves an excluded contribution that is still being staged (R255). -/
def State.stagesOn (s : State) (j : Nat) (c : CollCtx) : Bool :=
  s.staged j && c.selfExcluded && !c.detached && !c.vote && c.desc.isSome && c.own.stagedAt.isNone

/-- The end of a context with a code: status record, counters and removal. A detached context has its record already (R267);
of one that this device has not issued, the code is kept for the operation that will name its key (OP 255). -/
def State.finishCtx (s : State) (j : Nat) (c : CollCtx) (code : Nat) : State :=
  let s := s.count (jsKey j (if code = 0 then 0x15 else 0x16)) (if code ≤ 2 ∧ c.detached = false then 1 else 0)
  let s := s.endCtx j c (code != 0)
  let s := if s.stagesOn j c then s.modCs j fun x => { x with late := mins c x.late c.key } else s
  match c.desc with
  | none =>
    if c.vote || c.detached || code == 0 then s
    else s.modCs j fun x => { x with finished := mins (255, code) x.finished c.key }
  | some d => if c.detached || c.vote then s else s.collStatus j (s.ctxRecord j c d code)

/-! ## Down: results, broadcasts (R246, R257) -/

/-- The rank in the tree of a context's down path: rotated for a broadcast (R257). -/
def State.downSelf (s : State) (j : Nat) (c : CollCtx) : Nat × Nat :=
  let r := s.cRank j c
  let R := s.cRanks j c
  match c.desc with
  | some d => if d.op = 1 then ((r + R - d.root) % max 1 R, d.root) else (r, 0)
  | none => (r, 0)

/-- Whether a right span has an extent that overlaps a segment (R246, SCOPE = 1). -/
def State.spanWants (s : State) (j : Nat) (c : CollCtx) (q l off n : Nat) : Bool :=
  match c.desc with
  | some d =>
    if d.op = 0 ∧ d.scope = true then
      let counts := extentCounts s.mem d.areaA (s.cRanks j c)
      (List.range (spanEnd q l (s.cRanks j c) - q)).any fun i =>
        let e := extentOf counts (q + i)
        decide (e.1 < off + n) && decide (off < e.2)
    else true
  | none => true

/-- A packet of the down path sent to the right rank of each level, highest level first. -/
def State.sendDown (s : State) (j : Nat) (c : CollCtx) (target : Nat) (body : List Byte) (now : Bool) : State :=
  let (r, rot) := s.downSelf j c
  let R := s.cRanks j c
  (hostedLevels r R).foldl (fun s l =>
    match rightRank r l R with
    | none => s
    | some q =>
      if target != ctlTarget && !s.spanWants j c q l target body.length then s
      else
        let p := s.collPkt j (s.cEntry j c ((q + rot) % max 1 R)) 3 c.step c.bucket target body
        if now then s.collInject j p else s.pushOut j p) s

/-- Where the bytes of a result segment go on this device: address, offset and the bytes of its own extent. -/
def State.localPart (s : State) (j : Nat) (c : CollCtx) (d : CollDesc) (off : Nat) (body : List Byte) : Nat × List Byte :=
  if d.op = 0 ∧ d.scope = true then
    let e := extentOf (extentCounts s.mem d.areaA (s.cRanks j c)) (s.cRank j c)
    clipBytes off body e.1 e.2
  else (off, body)

/-- Where a byte of a result, or of a Hora transfer, goes: the block of transfer t is that of step t + 1 (R265). -/
def collDest (d : CollDesc) (off : Nat) : Nat :=
  if d.op = 4 then
    (if (off / max 1 d.length + 1) % 2 = 0 then d.areaA else d.areaB) + off % max 1 d.length
  else d.result + off

/-- Whether the segment at `off` of `n` bytes is the last of its bucket, of a rank's share or of a Hora transfer, so that its
consumption is told at once (R247); of a partial result any may be the last that comes. -/
def State.endsBucket (s : State) (j : Nat) (c : CollCtx) (d : CollDesc) (off n : Nat) : Bool :=
  match d.op with
  | 2 =>
    let counts := extentCounts s.mem d.areaA (s.cRanks j c)
    (List.range counts.length).any fun r => (extentOf counts r).2 == off + n
  | 4 => (off + n) % max 1 d.length == 0
  | _ => d.scope || decide (4 * d.length ≤ off + n)

/-- Where a segment of a context has been performed. -/
def CollCtx.performed (c : CollCtx) (off n : Nat) (hora : Bool) : CollCtx :=
  { c with
    perfSegs := c.perfSegs + 1, perfBytes := c.perfBytes + n, horaGot := if hora then mins n c.horaGot off else c.horaGot }

/-- A segment performed, or held (R238): `src` is the stream it came from, 0 for this device itself. One that is dropped is
not performed. -/
def State.performSeg (s : State) (j k off : Nat) (body : List Byte) (src : Nat) : State :=
  match s.collCtx j k with
  | none => s
  | some c =>
    match c.desc with
    | none => s
    | some d =>
      let (o, bs) := s.localPart j c d off body
      let last := s.endsBucket j c d off body.length
      let eat (s : State) : State := if src = 0 then s else s.consumeOn j src 1 (c.step, c.bucket) last
      if c.detached then eat s.collDrop
      else if bs.isEmpty then eat s
      else
        let a := collDest d o
        if s.mustHold j a || (!c.held.isEmpty && decide (hbmEnd ≤ a)) then
          s.setCtx j { c with held := mins (a, bs, src) c.held off }
        else
          let (s, done) := s.collPut j a bs (s.holderCtx j)
          eat (if done then s.setCtx j (c.performed off bs.length (d.op == 4)) else s)

/-- The segments that this device expects of a result. -/
def State.expectSegs (s : State) (j : Nat) (c : CollCtx) (d : CollDesc) : Nat :=
  let n := 4 * d.length
  if d.op = 0 ∧ d.scope = true then
    let e := extentOf (extentCounts s.mem d.areaA (s.cRanks j c)) (s.cRank j c)
    if e.1 < e.2 then (e.2 - 1) / 4096 + 1 - e.1 / 4096 else 0
  else segCount n

/-! ## Up: contributions and nodes (R245) -/

/-- Whether the context takes part in the ordered upward stream of its slot (R241). -/
def CollCtx.goesUp (c : CollCtx) : Bool :=
  !c.vote && (c.upSeen || match c.desc with
    | some d => d.op == 0
    | none => false)

/-- Whether a context's turn on the upward stream has come: no earlier one is unfinished. -/
def State.turn (s : State) (j : Nat) (c : CollCtx) : Bool :=
  c.vote || (s.cs j).ctxs.all fun o =>
    !(o.2.goesUp && !o.2.upDone && o.1 != c.key && keyLe (o.2.step, o.2.bucket) (c.step, c.bucket))

/-- Bytes of [lo, hi) that ranges cover. -/
def covered : List (Nat × Nat) → Nat → Nat → Nat
  | [], _, _ => 0
  | g :: gs, lo, hi => (min g.2 hi - max g.1 lo) + covered gs lo hi

/-- The codes of segment `k` of the contribution, when all its bytes are there. -/
def State.ownSeg (s : State) (c : CollCtx) (d : CollDesc) (k : Nat) : Option (List Word32) :=
  let n := segSize (4 * d.length) k
  let o := c.own
  if o.stagedAt.isSome || d.kind then
    if o.stagedAt.isNone && decide (covered o.got (4096 * k) (4096 * k + n) < n) then none
    else
      match o.free with
      | some f => some (segWords ((List.range n).map fun i => Config.freeByte f (4096 * k + i)))
      | none => some (segWords ((mget [] o.data k ++ List.replicate n 0#8).take n))
  else some (segWords (s.readBytes (d.source + 4096 * k) n))

/-- A contribution's codes as they are sent: the carry added as the left operand, NaNs replaced under ZERO-ELEMENT. -/
def State.sentSeg (s : State) (j : Nat) (c : CollCtx) (k : Nat) (ws : List Word32) : List Word32 × Nat :=
  let ws := match c.own.carry with
    | none => ws
    | some a => (addWords false (segWords (s.readBytes (a + 4096 * k) (4 * ws.length))) ws).1
  if s.rdN (jsKey j 6) = 2 ∧ c.vote = false then
    (ws.map fun w => if wordNan w then 0#32 else w, ws.countP wordNan)
  else (ws, 0)

/-- A producer of the upward path has something to give: an OPEN, or a segment with what making it did. -/
inductive Made where
  | open_ (count elements : Nat)
  | seg (k : Nat) (words : List Word32) (flags : Flg) (zeroed : Nat)
  deriving DecidableEq, Repr

/-- Whether a child has data to give: it is neither excluded nor empty. -/
def Child.hasData (c : Child) : Bool :=
  !c.excluded && match c.opened with
    | some o => decide (0 < o.1)
    | none => false

/-- Whether it is settled what a child gives. -/
def Child.settled (c : Child) : Bool := c.excluded || c.opened.isSome

/-- COUNT of a child. -/
def Child.count (c : Child) : Nat :=
  if c.excluded then 0 else match c.opened with
    | some o => o.1
    | none => 0

/-- What the contribution can give next. -/
def State.ownMakes (s : State) (j : Nat) (c : CollCtx) : Option Made :=
  match c.desc with
  | none => none
  | some d =>
    let o := c.own
    if o.gone || !o.ready then none
    else if !o.opened then
      some (.open_ (if o.empty then 0 else if o.carry.isSome then 2 else 1) d.length)
    else if o.empty || decide (segCount (4 * d.length) ≤ o.next) then none
    else (s.ownSeg c d o.next).map fun ws =>
      let (ws, z) := s.sentSeg j c o.next ws
      .seg o.next ws 0#4 z

/-- What the node of level `l` can give next (R245). -/
def State.nodeMakes (s : State) (j : Nat) (c : CollCtx) (l : Nat) : Option Made :=
  let n := mget CNode.fresh c.nodes l
  let pair := (rightRank (s.cRank j c) l (s.cRanks j c)).isSome
  let right : Child := if pair then n.right else { Child.none_ with excluded := true }
  if !(n.left.settled && right.settled) then none
  else if !n.opened then some (.open_ (n.left.count + right.count) (c.bytes / 4))
  else
    let zn := decide (s.rdN (jsKey j 6) = 2) && !c.vote
    match n.left.hasData, right.hasData with
    | false, false => none
    | true, false => (mfind n.left.segs n.next).map fun b => .seg n.next (segWords b) 0#4 0
    | false, true => (mfind right.segs n.next).map fun b => .seg n.next (segWords b) 0#4 0
    | true, true =>
      match mfind n.left.segs n.next, mfind right.segs n.next with
      | some a, some b =>
        let (ws, f, z) := addWords zn (segWords a) (segWords b)
        some (.seg n.next ws f z)
      | _, _ => none

/-- Whether a producer has given all it will give. -/
def State.producerDone (s : State) (j : Nat) (c : CollCtx) (i : Nat) : Bool :=
  let cutOff := match c.cut with
    | some v => decide (i ≤ v)
    | none => false
  if cutOff then true
  else if i = 0 then
    c.own.opened && (c.own.empty || decide (segCount c.bytes ≤ c.own.next))
  else
    let n := mget CNode.fresh c.nodes i
    let pair := (rightRank (s.cRank j c) i (s.cRanks j c)).isSome
    n.opened && ((!n.left.hasData && !(pair && n.right.hasData)) || decide (segCount c.bytes ≤ n.next))

/-- Whether the sink of producer `i` takes what it makes. -/
def State.sinkTakes (s : State) (j : Nat) (c : CollCtx) (i : Nat) : Made → Bool
  | .open_ _ _ => decide (i < s.cTop j c) || s.cRank j c == 0 || s.turn j c
  | .seg _ _ _ _ =>
    if i < s.cTop j c then decide ((mget CNode.fresh c.nodes (i + 1)).left.segs.length < s.window j)
    else if s.cRank j c = 0 then true
    else
      let o := (s.cs j).out (streamKey (s.cEntry j c (parentRank (s.cRank j c))) 2)
      s.turn j c && o.queue.isEmpty && decide (o.sent - o.acked < s.window j)

/-- What producer `i` makes reaches its sink: the node above, the root's output, or the stream to the parent. -/
def State.sinkPut (s : State) (j : Nat) (c : CollCtx) (i : Nat) (m : Made) : State × CollCtx :=
  let up (f : Child → Child) : CollCtx :=
    let n := mget CNode.fresh c.nodes (i + 1)
    { c with nodes := mins { n with left := f n.left } c.nodes (i + 1) }
  let e := s.cEntry j c (parentRank (s.cRank j c))
  let inner := decide (i < s.cTop j c)
  let root := s.cRank j c == 0
  match m with
  | .open_ n el =>
    if inner then (s, up fun h => { h with opened := some (n, el) })
    else
      let c := { c with topCount := n }
      if root then (s, c) else (s.pushOut j (s.collCtl j e 2 c.step c.bucket (ctlWord 1 0 0 n el 0)), c)
  | .seg k ws _ _ =>
    if inner then (s, up fun h => { h with segs := mins (wordsSeg ws) h.segs k })
    else if root then (s, { c with collect := mins (wordsSeg ws) c.collect k })
    else (s.pushOut j (s.collPkt j e 2 c.step c.bucket (4096 * k) (wordsSeg ws)), c)

/-- Producer `i` moves on past what it has made; a node consumes its children's segments (R247). -/
def State.producerNext (s : State) (j : Nat) (c : CollCtx) (i : Nat) (m : Made) : State × CollCtx :=
  if i = 0 then
    match m with
    | .open_ _ _ =>
      (s, { c with own := { c.own with opened := true }, carriedIn := c.own.carry.isSome && !c.own.empty })
    | .seg _ _ _ z =>
      (s.count (jsKey j 0x1A) z, { c with own := { c.own with next := c.own.next + 1 } })
  else
    let n := mget CNode.fresh c.nodes i
    match m with
    | .open_ _ _ => (s, { c with nodes := mins { n with opened := true } c.nodes i })
    | .seg k _ f z =>
      let s := (s.routerFlags j f).count (jsKey j 0x1A) z
      let last := decide (segCount c.bytes ≤ k + 1)
      let s := match rightRank (s.cRank j c) i (s.cRanks j c) with
        | some q =>
          if n.right.hasData then s.consume j (streamKey (s.cEntry j c q) 2) (s.cEntry j c q) 1 (c.step, c.bucket) last else s
        | none => s
      let n := { n with
        next := n.next + 1, left := { n.left with segs := mdel n.left.segs k },
        right := { n.right with segs := mdel n.right.segs k } }
      (s, { c with nodes := mins n c.nodes i })

/-- One production of producer `i`, if it can be made and taken. -/
def State.produce (s : State) (j : Nat) (c : CollCtx) (i : Nat) : Option State :=
  let cutOff := match c.cut with
    | some v => decide (i ≤ v)
    | none => false
  if cutOff then none
  else
    match (if i = 0 then s.ownMakes j c else s.nodeMakes j c i) with
    | none => none
    | some m =>
      if s.sinkTakes j c i m then
        let (s, c) := s.producerNext j c i m
        let (s, c) := s.sinkPut j c i m
        some (s.setCtx j c)
      else none

/-- The first producer, from the top down, that can move. -/
def State.produceAny (s : State) (j : Nat) (c : CollCtx) : List Nat → Option State
  | [] => none
  | i :: is =>
    match s.produce j c i with
    | some s' => some s'
    | none => s.produceAny j c is

/-- Productions of a context until none is possible. -/
def settleUp (j k : Nat) : Nat → State → State
  | 0, s => s
  | f + 1, s =>
    match s.collCtx j k with
    | none => s
    | some c =>
      match s.produceAny j c (List.range (s.cTop j c + 1)).reverse with
      | some s' => settleUp j k f s'
      | none => s

/-- Result segments of the root: divided for MEAN, sent down and delivered. -/
def rootSegs (j k count : Nat) (mean : Bool) : List (Nat × List Word32) → State → State
  | [], s => s
  | (i, ws) :: rest, s =>
    match s.collCtx j k with
    | none => s
    | some c =>
      let body := wordsSeg ws
      let s := s.sendDown j c (4096 * i) body false
      let s := if c.vote then s else s.performSeg j k (4096 * i) body 0
      rootSegs j k count mean rest s

/-- The root's result (R245, R246): RESULT, then the segments. -/
def State.rootResult (s : State) (j k : Nat) : State :=
  match s.collCtx j k with
  | none => s
  | some c =>
    match c.desc with
    | none => s
    | some d =>
      if c.goesUp || c.vote then
        if s.cRank j c ≠ 0 ∨ c.result.isSome ∨ s.producerDone j c (s.cTop j c) = false then s
        else
          let n := 4 * d.length
          let count := c.topCount
          let segs := (List.range (segCount n)).map fun i =>
            (i, meanWords (d.redOp == 1) count
              (if count = 0 then List.replicate (segSize n i / 4) 0#32 else segWords (mget [] c.collect i)))
          let s := s.routerFlags j (segs.foldl (fun f x => f ||| x.2.2) 0#4)
          let nan := segs.any fun x => x.2.1.any wordNan
          let c := { c with result := some (count, nan), collect := [] }
          let s := (s.setCtx j c).sendDown j c ctlTarget (ctlWord 5 (b2n nan) 0 count d.length 0) false
          rootSegs j k count (d.redOp == 1) (segs.map fun x => (x.1, x.2.1)) s
      else s

/-- Whether packets of a context wait on a stream. -/
def CollSlot.waits (x : CollSlot) (c : CollCtx) : Bool :=
  x.outs.any fun o => o.2.queue.any fun p => p.step == c.step && p.bucket == c.bucket

/-- A context whose whole output, or whose result at the root, has been sent becomes UP_DONE (R250). -/
def State.noteUpDone (s : State) (j k : Nat) : State :=
  match s.collCtx j k with
  | none => s
  | some c =>
    let all := if s.cRank j c = 0 then c.result.isSome else s.producerDone j c (s.cTop j c)
    if all && !c.upDone && !(s.cs j).waits c then s.setCtx j { c with upDone := true } else s

/-- Progress of a slot's contexts, earliest listed key first. -/
def pollCtxs (j : Nat) : List Nat → State → State
  | [], s => s
  | k :: ks, s =>
    let fuel := match s.collCtx j k with
      | some c => (segCount c.bytes + 2) * (s.cTop j c + 2)
      | none => 0
    pollCtxs j ks (((settleUp j k fuel s).rootResult j k).noteUpDone j k)

/-- Progress of a slot. Contexts that became free to send let later ones send: two rounds per context suffice. -/
def pollRounds (j : Nat) : Nat → State → State
  | 0, s => s
  | n + 1, s => pollRounds j n (pollCtxs j ((s.cs j).ctxs.map Prod.fst) s)

/-- Progress of a slot after an event. -/
def State.collPoll (s : State) (j : Nat) : State := pollRounds j ((s.cs j).ctxs.length + 1) s

end Sys2Proof.Machine
end

