-- ==== Sys2Proof/Machine/Operands.lean ====
section
/-! DEFINITION. Operand descriptors: effective addresses, checks, loads through the load converter and stores through the
store converter (R33, R39 to R43, R98, R111 to R113). -/

namespace Sys2Proof.Machine

/-- The effective base: immediate + PARAM[k] + Σ ITER[j] × step_j on 64 bits; none outside 0 to 2^32 - 1 (R112). -/
def effBase (x : CoreSt) (d : Desc) : Option Nat :=
  let p : Word :=
    match d.param with
    | some k => x.param k.val
    | none => 0#64
  let v := d.steps.foldl (fun a js => a + BitVec.ofNat 64 (x.loop js.1.val).iter * js.2) (d.imm + p)
  if v.toNat < 2 ^ 32 then some v.toNat else none

/-- Rows of an operand: the product of the sizes of its dimensions 1 to 3. -/
def descRows (d : Desc) : Nat := d.dims.foldl (fun a n => a * n.1) 1

/-- Byte offset of row `r`, dimension 1 fastest (R33). -/
def rowOffset : List (Nat × Int) → Nat → Int
  | [], _ => 0
  | (n, st) :: ds, r => ((r % n : Nat) : Int) * st + rowOffset ds (r / n)

/-- The lowest and the highest offset of a row's start. -/
def rowSpan : List (Nat × Int) → Int × Int
  | [] => (0, 0)
  | (n, st) :: ds =>
    let (lo, hi) := rowSpan ds
    let e := ((n - 1 : Nat) : Int) * st
    (lo + min 0 e, hi + max 0 e)

/-- Bytes of one run of dimension 0. -/
def runBytes (d : Desc) : Nat := (d.n0 * fmtBits d.fmt + 7) / 8

/-- Bytes to which an element of dimension 0 is aligned. -/
def elemAlign (f : Format) : Nat := max 1 (fmtBits f / 8)

/-- Whether every stride keeps the alignment of the elements (R113). -/
def stridesAligned (d : Desc) : Bool :=
  d.dims.all fun n => decide (n.1 ≤ 1) || decide (n.2 % (elemAlign d.fmt : Int) = 0)

/-- Whether an operand's block scales are well placed: whole blocks along dimension 0, and the scale array in the core's own
scratchpad (R33). -/
def scalesOk (s : State) (c : Nat) (d : Desc) : Bool :=
  !fmtIsMx d.fmt || (decide (d.n0 % 32 = 0) && s.groupCore (c / 16) (d.scaleAddr / 2 ^ 25) == some c &&
    decide (d.scaleAddr % 2 ^ 25 + d.n0 / 32 * descRows d ≤ 2 ^ 25))

/-- The checks of one operand of core `c` in the order of R113, with the block-scale rules of R33: the failing status
code, or the operand's byte offset in the core's scratchpad. -/
def checkDesc (s : State) (c : Nat) (d : Desc) : Except Nat Nat :=
  match effBase (s.core c) d with
  | none => .error stOperandLayout
  | some b =>
    match s.groupCore (c / 16) (b / 2 ^ 25) with
    | none => .error stAccessRefused
    | some c' =>
      let o : Nat := b % 2 ^ 25
      let (lo, hi) := rowSpan d.dims
      if c' ≠ c then .error stOperandLayout
      else if (o : Int) + lo < 0 ∨ (o : Int) + hi + (runBytes d : Int) > (2 ^ 25 : Nat) then .error stOperandLayout
      else if o % elemAlign d.fmt ≠ 0 ∨ stridesAligned d = false then .error stOperandLayout
      else if scalesOk s c d = false then .error stOperandLayout
      else .ok o

/-- The byte address of element `i` of row `r` of an operand at offset `o` of core `c`. -/
def elemAddr (c o : Nat) (d : Desc) (r i : Nat) : Nat :=
  ((spadBase c + o : Nat) + rowOffset d.dims r).toNat + i * fmtBits d.fmt / 8

/-- The address of the scale of the block that holds element `i` of row `r` (R33). -/
def scaleAddrOf (c : Nat) (d : Desc) (r i : Nat) : Nat :=
  spadBase c + d.scaleAddr % 2 ^ 25 + i / 32 + d.n0 / 32 * r

/-- Reading an element's code: bits [3:0] of a byte hold the even element of a 4-bit format (R33). -/
def Mem.readCode (m : Mem) (f : Format) (a i : Nat) : Word :=
  if fmtBits f = 4 then BitVec.ofNat 64 ((m.read a).toNat / (if i % 2 = 0 then 1 else 16) % 16)
  else BitVec.ofNat 64 (m.readLE a (fmtBits f / 8))

/-- Writing an element's code. -/
def Mem.writeCode (m : Mem) (f : Format) (a i : Nat) (v : Word) : Mem :=
  if fmtBits f = 4 then
    let b := (m.read a).toNat
    m.write a (BitVec.ofNat 8 (if i % 2 = 0 then b / 16 * 16 + v.toNat % 16 else b % 16 + 16 * (v.toNat % 16)))
  else m.writeLE a (fmtBits f / 8) v.toNat

/-- The code of an element. -/
def loadCode (s : State) (c o : Nat) (d : Desc) (r i : Nat) : Word := s.mem.readCode d.fmt (elemAddr c o d r i) i

/-- The scale byte of an element's block. -/
def loadScale (s : State) (c : Nat) (d : Desc) (r i : Nat) : Byte := s.mem.read (scaleAddrOf c d r i)

/-- The value of an element, with its block scale applied (R33). -/
def loadVal (s : State) (c o : Nat) (d : Desc) (r i : Nat) : Num :=
  let v := decode d.fmt (s.ftz c) (loadCode s c o d r i)
  if fmtIsMx d.fmt then applyScale (loadScale s c d r i) v else v

/-- The codes of a row. -/
def loadRowCodes (s : State) (c o : Nat) (d : Desc) (r : Nat) : List Word :=
  (List.range d.n0).map fun i => loadCode s c o d r i

/-- The scales of a row's blocks. -/
def loadRowScales (s : State) (c : Nat) (d : Desc) (r : Nat) : List Byte :=
  (List.range (d.n0 / 32)).map fun b => loadScale s c d r (32 * b)

/-- The values of a row. -/
def loadRow (s : State) (c o : Nat) (d : Desc) (r : Nat) : List Num :=
  (List.range d.n0).map fun i => loadVal s c o d r i

/-- |v| rounded toward +∞ to FP32, as it enters the comparison of an amax slot (R43). -/
def amaxCode (v : Num) : Word32 := (toF32 .rup false v.abs).1

/-- A class G transfer of the value `v` into amax slot `i`: a NaN leaves it (R43). -/
def CoreSt.amaxUpdate (x : CoreSt) (i : Nat) (v : Num) : CoreSt :=
  if v.isNan then x
  else x.setAmax i (BitVec.ofNat 32 (max (x.amaxSlot i).toNat (amaxCode v).toNat))

/-- The amax updates of a transfer; class W makes none (R43). -/
def CoreSt.amaxAll (x : CoreSt) (slot : Option (Fin 32)) (vs : List Num) : CoreSt :=
  match slot with
  | none => x
  | some i => vs.foldl (fun x v => x.amaxUpdate i.val v) x

/-- The elements of a load converted one after another from element `k` on; SR draws for each from the generator of lane
(k mod 512), as a store's element would (R38; DEDUCED, log entry 83). -/
def convElems (c : Nat) (d : Desc) (fmt : Format) (ftz : Bool) :
    Nat → List (Word × Num) → CoreSt → List (Word × Flg) × CoreSt
  | _, [], x => ([], x)
  | k, cv :: rest, x =>
    let (rnd, x) := x.roundFor c k d.round
    let (es, x') := convElems c d fmt ftz (k + 1) rest x
    (convCode d.fmt fmt rnd d.ovf ftz cv.1 cv.2 :: es, x')

/-- Elements from `k` on, codes with their values, through the load converter into codes of `fmt`, with the converter's flags
and amax updates (R39, R43). An element already in that format is copied. -/
def loadConvert (s : State) (c : Nat) (d : Desc) (fmt : Format) (k : Nat) (cvs : List (Word × Num)) : List Word × State :=
  if d.fmt = fmt then
    (cvs.map Prod.fst, s.modCore c fun x => x.amaxAll d.amax (cvs.map Prod.snd))
  else
    let (es, x) := convElems c d fmt (s.ftz c) k cvs (s.core c)
    let codes := es.map Prod.fst
    (codes, s.setCore c
      ((x.raise .conv (es.foldl (fun a e => a ||| e.2) 0#4)).amaxAll d.amax (codes.map fun w => decode fmt false w)))

/-- Whether a load names a conversion that the converter performs: a copy, or a mode of R37 for the format asked for. -/
def loadOk (d : Desc) (fmt : Format) : Bool :=
  d.fmt == fmt || (convModeOk fmt d.round && !(fmt == .int32) && !(fmt == .e8m0))

/-! ## Stores -/

/-- Whether a store descriptor names a conversion that the converter performs (R37, R467); a copy of codes in their own
format is not asked. -/
def storeOk (d : Desc) : Bool :=
  convModeOk d.fmt d.round && !(d.fmt == .int32) && !(d.fmt == .e8m0)

/-- What a store has done so far: memory, the issuing core, converter flags and the codes written. -/
structure StoreAcc where
  mem : Mem
  core : CoreSt
  flags : Flg
  nans : Nat
  infs : Nat
  deriving DecidableEq, Repr

/-- One element code written, counted when it is a NaN or an infinity of the destination format (R98). -/
def StoreAcc.put (a : StoreAcc) (fmt : Format) (addr i : Nat) (code : Word) (f : Flg) (nan : Bool) : StoreAcc :=
  { a with
    mem := a.mem.writeCode fmt addr i code, flags := a.flags ||| f,
    nans := a.nans + b2n (nan || codeIsNan fmt code), infs := a.infs + b2n (!nan && codeIsInf fmt code) }

/-- The values of a row from element `i` on, narrowed and written; `k` numbers the elements of the store for SR (R38). -/
def storeRowPlain (c o : Nat) (d : Desc) (ftz : Bool) (r : Nat) : Nat → List Num → StoreAcc → StoreAcc
  | _, [], a => a
  | i, v :: vs, a =>
    let (rnd, x) := a.core.roundFor c (r * d.n0 + i) d.round
    let (code, f) := encode d.fmt rnd d.ovf ftz v
    storeRowPlain c o d ftz r (i + 1) vs
      (StoreAcc.put { a with core := x } d.fmt (elemAddr c o d r i) i code f false)

/-- The roundings of the elements of a block, drawn in ascending element order. -/
def blockRoundings (c : Nat) (d : Desc) (k : Nat) : List Num → CoreSt → List (Num × Rnd) × CoreSt
  | [], x => ([], x)
  | v :: vs, x =>
    let (rnd, x) := x.roundFor c k d.round
    let (rest, x) := blockRoundings c d (k + 1) vs x
    ((v, rnd) :: rest, x)

/-- The codes of a block written from element `i` on. -/
def storeCodes (c o : Nat) (d : Desc) (r : Nat) (nan : Bool) : Nat → List Word → StoreAcc → StoreAcc
  | _, [], a => a
  | i, w :: ws, a => storeCodes c o d r nan (i + 1) ws (a.put d.fmt (elemAddr c o d r i) i w 0#4 nan)

/-- The blocks of a row of an MX destination (R42): `n` blocks from block `b` on. -/
def storeRowMx (c o : Nat) (d : Desc) (r : Nat) : Nat → Nat → List Num → StoreAcc → StoreAcc
  | 0, _, _, a => a
  | n + 1, b, vs, a =>
    let (prs, x) := blockRoundings c d (r * d.n0 + 32 * b) (vs.take 32) a.core
    let (scale, codes, f) := mxBlock d.fmt prs
    let a := { a with core := x, flags := a.flags ||| f, mem := a.mem.write (scaleAddrOf c d r (32 * b)) scale }
    storeRowMx c o d r n (b + 1) (vs.drop 32) (storeCodes c o d r (scale == 0xFF#8) (32 * b) codes a)

/-- Rows of values written through the store converter from row `r` on. -/
def storeRows (c o : Nat) (d : Desc) (ftz : Bool) : Nat → List (List Num) → StoreAcc → StoreAcc
  | _, [], a => a
  | r, vs :: rows, a =>
    let a := { a with core := a.core.amaxAll d.amax vs }
    let a := if fmtIsMx d.fmt then storeRowMx c o d r (d.n0 / 32) 0 vs a else storeRowPlain c o d ftz r 0 vs a
    storeRows c o d ftz (r + 1) rows a

/-- Values stored to a checked operand at offset `o` of core `c`: converted, written, captured in the amax slot, counted by
class tag, flagged in the CONV group (R39 to R43, R50, R98). -/
def storeTensor (s : State) (c o : Nat) (d : Desc) (rows : List (List Num)) : State :=
  let a := storeRows c o d (s.ftz c) 0 rows ⟨s.mem, s.core c, 0#4, 0, 0⟩
  let s := ({ s with mem := a.mem }.setCore c (a.core.raise .conv a.flags))
  (s.pCount (c / 16) (0x60 + d.tag.val) a.nans).pCount (c / 16) (0x68 + d.tag.val) a.infs

/-- Raw codes copied to a checked operand in their own format: no conversion, no flag (R467). -/
def copyCodes (s : State) (c o : Nat) (d : Desc) (r : Nat) : Nat → List Word → State
  | _, [] => s
  | i, w :: ws =>
    copyCodes { s with mem := s.mem.writeCode d.fmt (elemAddr c o d r i) i w } c o d r (i + 1) ws

/-- The amax updates of a copy: a class G transfer updates its slot whether or not it converts (R43). -/
def State.copyAmax (s : State) (c : Nat) (d : Desc) (rows : List (List Word)) : State :=
  s.modCore c fun x => x.amaxAll d.amax (rows.flatten.map fun w => decode d.fmt false w)

end Sys2Proof.Machine
end

