-- ==== Sys2Proof/Machine/Stream.lean ====
section
/-! DEFINITION. Stream channels: the ring in the consumer's scratchpad, reservations and credits (R116, R117, R126), and
operands opened on scratchpad or on a channel. -/

namespace Sys2Proof.Machine

/-- A channel of a launch as it starts: empty, credits equal to its depth (R126). -/
def streamStart (d : ChannelDesc) : StreamSt := ⟨0, d.depth, 0, 0⟩

/-- A channel's state. -/
def Launch.stream (l : Launch) (i : Nat) : StreamSt :=
  match l.img.channels[i]? with
  | some d => mget (streamStart d) l.streams i
  | none => ⟨0, 0, 0, 0⟩

/-- Setting a channel's state. -/
def Launch.setStream (l : Launch) (i : Nat) (v : StreamSt) : Launch :=
  match l.img.channels[i]? with
  | some d => { l with streams := mset (streamStart d) l.streams i v }
  | none => l

/-- The launch on a core with its key and its channel `i`. -/
def State.channelOf (s : State) (c i : Nat) : Option (Nat × Launch × ChannelDesc) :=
  match (s.core c).run.launch with
  | none => none
  | some k =>
    match s.launch k with
    | none => none
    | some l => (l.img.channels[i]?).map fun d => (k, l, d)

/-- The addresses of `n` bytes of the ring from position `pos`. -/
def ringAddrs (base depth pos n : Nat) : List Nat :=
  (List.range n).map fun j => base + (pos + j) % depth

/-- The device address of a channel's ring: the buffer base names the consumer core and an offset (R108). -/
def State.ringBase (s : State) (part : Nat) (d : ChannelDesc) : Nat :=
  match s.groupCore part (d.base / 2 ^ 25) with
  | some c => spadBase c + d.base % 2 ^ 25
  | none => 0

/-- Taking `n` bytes of inbound channel `i` on core `c`: within the tile's reservation, or stream overrun (R117). The
credits return to the producer (R126). -/
def State.streamTake (s : State) (c i n : Nat) : Except Nat (List Byte × State) :=
  match s.channelOf c i with
  | none => .error stStreamOverrun
  | some (k, l, d) =>
    let x := s.core c
    let st := l.stream i
    let held := mget 0 x.run.resIn i
    if d.cons ≠ s.groupLocal c ∨ held < n then .error stStreamOverrun
    else
      let bytes := (ringAddrs (s.ringBase (c / 16) d) d.depth st.readPos n).map s.mem.read
      let l := l.setStream i { st with readPos := (st.readPos + n) % d.depth, credits := st.credits + n }
      let s := s.setLaunch k l
      .ok (bytes, s.setCore c { x with run := { x.run with resIn := mset 0 x.run.resIn i (held - n) } })

/-- Writing bytes of a list at addresses. -/
def Mem.writeAt (m : Mem) : List (Nat × Byte) → Mem
  | [] => m
  | (a, v) :: rest => (m.write a v).writeAt rest

/-- Whether core `c` may put `n` bytes into outbound channel `i` (R117). -/
def State.streamRoom (s : State) (c i n : Nat) : Bool :=
  match s.channelOf c i with
  | none => false
  | some (_, _, d) => d.prod == s.groupLocal c && decide (n ≤ mget 0 (s.core c).run.resOut i)

/-- Putting bytes into outbound channel `i` of core `c`, whose room has been checked. -/
def State.streamPut (s : State) (c i : Nat) (bytes : List Byte) : State :=
  match s.channelOf c i with
  | none => s
  | some (k, l, d) =>
    let x := s.core c
    let st := l.stream i
    let n := bytes.length
    let s := { s with
      mem := s.mem.writeAt ((ringAddrs (s.ringBase (c / 16) d) d.depth st.writePos n).zip bytes) }
    let s := s.setLaunch k (l.setStream i
      { st with writePos := (st.writePos + n) % d.depth, data := st.data + n })
    s.setCore c { x with run := { x.run with resOut := mset 0 x.run.resOut i (mget 0 x.run.resOut i - n) } }

/-- A descriptor whose rows follow one another without gaps, as they travel in a channel. -/
def denseDesc (d : Desc) : Desc :=
  let rows := descRows d
  { d with dims := [(rows, (runBytes d : Int))], scaleAddr := d.scaleAddr, chan := none }

/-- Bytes of a channel operand: a channel moves data in 256 B units (R126), and a last unit that an operand does not fill is
padded with zeros (DESIGN CHOICE, log entry 84). -/
def chanBytes (d : Desc) : Nat := (descRows d * runBytes d + 255) / 256 * 256

/-- Bytes padded with zeros to whole 256 B units. -/
def padUnits (bs : List Byte) : List Byte := bs ++ List.replicate ((bs.length + 255) / 256 * 256 - bs.length) 0#8

/-- A source operand that has passed its checks: where its codes lie. -/
structure Src where
  mem : Mem
  off : Nat
  desc : Desc
  deriving DecidableEq, Repr

/-- Opening a source operand of core `c` that is to be presented as `fmt`: the mode that its conversion names (R37), the
checks of R113, or the taking of a channel's bytes. -/
def openSrc (s : State) (c : Nat) (d : Desc) (fmt : Format) : Except Nat (State × Src) :=
  if loadOk d fmt = false then .error stOperandLayout
  else
    match d.chan with
    | none =>
      match checkDesc s c d with
      | .error e => .error e
      | .ok o => .ok (s, ⟨s.mem, o, d⟩)
    | some i =>
      if scalesOk s c d = false then .error stOperandLayout
      else
        match s.streamTake c i (chanBytes d) with
        | .error e => .error e
        | .ok (bytes, s) => .ok (s, ⟨Mem.empty.writeBytes (spadBase c) bytes, 0, denseDesc d⟩)

/-- The codes of row `r` of an opened source. -/
def Src.codes (src : Src) (s : State) (c r : Nat) : List Word :=
  loadRowCodes { s with mem := src.mem } c src.off src.desc r

/-- The block scales of row `r`, which lie in the core's scratchpad whether or not the codes come from a channel. -/
def Src.scales (src : Src) (s : State) (c r : Nat) : List Byte := loadRowScales s c src.desc r

/-- The values of row `r` with their scales applied. -/
def Src.vals (src : Src) (s : State) (c r : Nat) : List Num :=
  let codes := src.codes s c r
  (List.range src.desc.n0).map fun i =>
    let v := decode src.desc.fmt (s.ftz c) (codes.getD i 0#64)
    if fmtIsMx src.desc.fmt then applyScale (loadScale s c src.desc r i) v else v

/-- The elements of row `r`, each a code with its value. -/
def Src.elems (src : Src) (s : State) (c r : Nat) : List (Word × Num) := (src.codes s c r).zip (src.vals s c r)

/-- All elements of an opened source, row after row. -/
def Src.all (src : Src) (s : State) (c : Nat) : List (Word × Num) :=
  (List.range (descRows src.desc)).flatMap fun r => src.elems s c r

/-- Whether a destination operand can be written: its checks, the conversion it names (R37, R467) and a channel's room. -/
def checkDst (s : State) (c : Nat) (d : Desc) (copy : Bool) : Option Nat :=
  if !copy && !storeOk d then some stOperandLayout
  else
    match d.chan with
    | none =>
      match checkDesc s c d with
      | .error e => some e
      | .ok _ => none
    | some i =>
      if scalesOk s c d = false then some stOperandLayout
      else if s.streamRoom c i (chanBytes d) then none else some stStreamOverrun

/-- Where the scales of a channel destination are gathered before they reach the address its descriptor names. -/
def chanScaleAt : Nat := 2 ^ 24

/-- Storing values to a destination that `checkDst` has passed: scratchpad, or a channel's ring. -/
def storeDst (s : State) (c : Nat) (d : Desc) (rows : List (List Num)) : State :=
  match d.chan with
  | none =>
    match checkDesc s c d with
    | .error _ => s
    | .ok o => storeTensor s c o d rows
  | some i =>
    let dd := { denseDesc d with scaleAddr := chanScaleAt }
    let t := storeTensor { s with mem := Mem.empty } c 0 dd rows
    let bytes := t.mem.readBytes (spadBase c) (chanBytes d)
    let scales := t.mem.readBytes (spadBase c + chanScaleAt) (if fmtIsMx d.fmt then d.n0 / 32 * descRows d else 0)
    let s := { t with mem := s.mem.writeBytes (spadBase c + d.scaleAddr % 2 ^ 25) scales }
    s.streamPut c i bytes

/-- Copying codes in their own format to a destination that `checkDst` has passed (R467). -/
def copyDst (s : State) (c : Nat) (d : Desc) (rows : List (List Word)) : State :=
  match d.chan with
  | none =>
    match checkDesc s c d with
    | .error _ => s
    | .ok o => ((rows.zipIdx).foldl (fun s row => copyCodes s c o d row.2 0 row.1) s).copyAmax c d rows
  | some i =>
    (s.streamPut c i (padUnits (rows.flatMap fun row =>
      row.flatMap fun w => leBytes (fmtBits d.fmt / 8) w.toNat))).copyAmax c d rows

end Sys2Proof.Machine
end

