-- ==== Sys2Proof/Machine/Engine.lean ====
section
/-! DEFINITION. The engines: stationary loads, block passes and bank drains (R45, R46, R55 to R68, R74, R79). -/

namespace Sys2Proof.Machine

/-- The element format of an operand of a pair; FP8 and MXFP8 operands are E4M3 or E5M2 (R45). -/
def pairFmt (p : Pair) (e5 : Bool) : Format :=
  match p with
  | .fp8 => if e5 then .e5m2 else .e4m3
  | .int8 => .int8
  | .mxfp8 => if e5 then .mxfp8e5m2 else .mxfp8e4m3
  | .mxfp4 => .mxfp4
  | .hazel8 => .hazel8
  | .bf16 => .bf16
  | .fp16 => .fp16
  | .hazel16 => .hazel16
  | .fp32 => .fp32
  | .fp64 => .fp64

/-- Kt and Nt (R56). -/
def pairShape : Pair → Nat × Nat
  | .fp8 | .int8 | .mxfp8 => (64, 64)
  | .mxfp4 | .hazel8 => (128, 64)
  | .bf16 | .fp16 | .hazel16 => (64, 32)
  | .fp32 => (16, 16)
  | .fp64 => (8, 8)

/-- Load cycles of a block (R56). -/
def loadCycles : Pair → Nat
  | .fp8 | .int8 | .bf16 | .fp16 | .hazel16 => 32
  | .mxfp8 => 33
  | .mxfp4 => 34
  | .hazel8 => 64
  | .fp32 => 8
  | .fp64 => 4

/-- The chunk length m of an orientation (R56); the sequential pairs have none. -/
def chunkLen (p : Pair) (o : Orient) : Nat :=
  match p with
  | .mxfp8 | .mxfp4 => 32
  | .bf16 | .fp16 | .hazel16 => if o = .row then 64 else 32
  | _ => 64

/-- The reduction length (R56). -/
def redLen (p : Pair) (o : Orient) : Nat := if o = .row then (pairShape p).1 else (pairShape p).2

/-- The bank row width W (R59). -/
def bankWidth (p : Pair) (o : Orient) : Nat := if o = .row then (pairShape p).2 else (pairShape p).1

/-- The format of the totals (R59). -/
def pairTot : Pair → TotFmt
  | .int8 => .int32
  | .fp64 => .fp64
  | _ => .fp32

/-- The element format of a total. -/
def TotFmt.fmt : TotFmt → Format
  | .fp32 => .fp32
  | .int32 => .int32
  | .fp64 => .fp64

/-- Rows of a bank (R59). -/
def bankRows (t : TotFmt) (w : Nat) : Nat := (if t = .fp64 then 8192 else 16384) / w

/-- A bank of an engine. -/
def Engine.bank (e : Engine) (b : Fin 2) : Bank := if b = 0 then e.bank0 else e.bank1

/-- Setting a bank. -/
def Engine.setBank (e : Engine) (b : Fin 2) (v : Bank) : Engine :=
  if b = 0 then { e with bank0 := v } else { e with bank1 := v }

/-- A total of a bank (R59); after a drain, one not preloaded is a free value (log entry 10). -/
def Bank.total (b : Bank) (k : Nat) : Word :=
  match b.stale with
  | none => mget 0#64 b.vals k
  | some n => mget (Config.freeWord n k) b.vals k

/-- Setting a total. -/
def Bank.setTotal (b : Bank) (k : Nat) (v : Word) : Bank :=
  match b.stale with
  | none => { b with vals := mset 0#64 b.vals k v }
  | some _ => { b with vals := mins v b.vals k }

/-- Setting a saturation bit (R64). -/
def Bank.setSat (b : Bank) (k : Nat) (v : Bool) : Bank := { b with sats := mset false b.sats k v }

/-- Changing engine `e` of core `c`. -/
def State.modEngine (s : State) (c e : Nat) (f : Engine → Engine) : State :=
  s.modCore c fun x => x.setEngine e (f (x.engine e))

/-! ## Stationary loads -/

/-- Reading a block's codes through the load converter: rows of the operand, in its own order. An MX pair takes its
blocks as they stand, since scales are formed only by stores (R42, R467). -/
def loadBlockRows (s : State) (c : Nat) (src : Src) (fmt : Format) : List (List Word) × State :=
  (List.range (descRows src.desc)).foldl
    (fun acc r =>
      let (codes, s) := loadConvert acc.2 c src.desc fmt (r * src.desc.n0) (src.elems acc.2 c r)
      (acc.1 ++ [codes], s)) ([], s)

/-- A block's element (k, n): dimension 0 of the descriptor runs along k when the axis is K, else along n. -/
def Block.code (b : Block) (k n : Nat) : Word :=
  let (i, r) := if b.axis = .k then (k, n) else (n, k)
  (b.rows.getD r []).getD i 0#64

/-- The scale of the block that holds element (k, n) (R33). -/
def Block.scale (b : Block) (k n : Nat) : Byte :=
  if b.axis = .k then b.scales.getD (k / 32 + b.kt / 32 * n) 127#8 else b.scales.getD (n / 32 + b.nt / 32 * k) 127#8

/-- Rows and columns of a block as its descriptor gives them: dimension 0 runs along the axis (R57, R58). -/
def blockShape (d : Desc) : Nat × Nat := if d.axis = .k then (d.n0, descRows d) else (descRows d, d.n0)

/-- The load of a block that fits: it enters the shadow registers, and a load longer than the rows of the pass before it
counts the difference as load wait (R56, R68, R74). Where a chain of passes ends is open, and a load is measured against
the engine's last pass, of whatever chain: DESIGN CHOICE (log entry 85). -/
def State.loadRun (s : State) (c : Core) (e : Eng) (op : BlockLoad) (src : Src) : State :=
  let d := op.w
  let fmt := pairFmt op.pair op.e5
  let (rows, s) := loadBlockRows s c src fmt
  let scales := if fmtIsMx fmt then (List.range (descRows d)).flatMap fun r => src.scales s c r else []
  let b : Block := ⟨op.pair, fmt, d.axis, rows, scales, (blockShape d).1, (blockShape d).2⟩
  let wait :=
    match ((s.core c).engine e).lastRows with
    | some r => loadCycles op.pair - r
    | none => 0
  ((s.pCount (c.val / 16) 0x46 wait).waits (c.val / 16) 0x47).modEngine c e fun g =>
    { g with shadow := b, lastRows := none }

/-- Whether a block fits the engine: no larger than the pair's, and a block-scaled pair takes its blocks as they stand
(R57, R467). -/
def loadFits (op : BlockLoad) : Bool :=
  decide ((blockShape op.w).1 ≤ (pairShape op.pair).1) && decide ((blockShape op.w).2 ≤ (pairShape op.pair).2) &&
    (!fmtIsMx (pairFmt op.pair op.e5) || op.w.fmt == pairFmt op.pair op.e5)

/-- STATIONARY_LOAD (R56, R57): the block enters the shadow registers; one too large ends with operand layout and changes
nothing. A load longer than the rows of the pass before it makes that pass load-bound, and the difference counts as
load wait (R68). -/
def stationaryLoadEff (c : Core) (e : Eng) (op : BlockLoad) (shell : ShellOutcome) (s : State) : State :=
  if s.coreRuns c = false then s
  else
    match openSrc s c op.w (pairFmt op.pair op.e5) with
    | .error code => s.opFail c code
    | .ok (s', src) =>
      if loadFits op = false then s.opFail c stOperandLayout
      else
        let (s', goes) := s'.opRead c op.w.chan.isNone shell
        if goes = false then s' else s'.loadRun c e op src

/-! ## Products and chunk sums -/

/-- One product of a pair with its flags (R35, R45). MX products are of the element values; the scales act on the chunk. -/
def product (p : Pair) (fa fb : Format) (ftz : Bool) (a b : Word) : Num × Flg :=
  match p with
  | .hazel8 | .hazel16 =>
    let F := if p = .hazel8 then 2 else 7
    (match hazelOf fa a.toNat, hazelOf fb b.toNat with
     | .nan, _ => (.nan, 0#4)
     | _, .nan => (.nan, 0#4)
     | .inf _, .zero => (.nan, flNV)
     | .zero, .inf _ => (.nan, flNV)
     | .zero, _ => (.zero, 0#4)
     | _, .zero => (.zero, 0#4)
     | .inf s, .inf t => (.inf (s != t), 0#4)
     | .inf s, .log t _ => (.inf (s != t), 0#4)
     | .log s _, .inf t => (.inf (s != t), 0#4)
     | .log s L, .log t M =>
       let k := ((L + M).fmod (2 ^ F)).toNat
       let j := (L + M).fdiv (2 ^ F)
       let T := if k = 0 then 2 ^ 19 else (root2 F k 20 + 1) / 2
       (.fin (s != t) T (j - 19), flIf (k ≠ 0) flNX))
  | .fp16 =>
    let (v, f) := (decode fa ftz a).mul (decode fb ftz b)
    let (r, g) := chunkRound v
    (r, f ||| g)
  | _ => (decode (fmtElem fa) ftz a).mul (decode (fmtElem fb) ftz b)

/-- One level of the summation tree (R62). -/
def treeLevel : List (Num × Flg) → List (Num × Flg)
  | a :: b :: rest =>
    let (v, f) := chunkAdd a.1 b.1
    (v, f ||| a.2 ||| b.2) :: treeLevel rest
  | l => l

/-- The fixed binary tree over a chunk of 2^n products (R62). -/
def treeSum : Nat → List (Num × Flg) → Num × Flg
  | 0, l => l.headD (.zero, 0#4)
  | n + 1, l => treeSum n (treeLevel l)

/-- A sum of INT8 products, exactly (R64). -/
def intSum (l : List (Num × Flg)) : Int :=
  l.foldl (fun a v =>
    match v.1 with
    | .fin s m e => a + signedAt s m e 0
    | _ => a) 0

/-- A chunk sum promoted into an FP32 total by RNE (R46, R63): a finite chunk sum beyond the FP32 range makes a finite
total ±∞. -/
def promote (ftz : Bool) (total : Word32) (chunk : Num) : Word32 × Flg :=
  let t := ofF32 ftz total
  let big : Bool :=
    match chunk with
    | .fin s m e => decide (m ≠ 0) && (fp32Par.round .rne s m e).beyond
    | _ => false
  match t, chunk with
  | .fin _ _ _, .fin s _ _ =>
    if big then (if s then 0xFF800000#32 else 0x7F800000#32, flOF ||| flNX)
    else
      let (v, f) := t.add false chunk
      let (r, g) := toF32 .rne ftz v
      (r, f ||| g)
  | _, _ =>
    let (v, f) := t.add false chunk
    let (r, g) := toF32 .rne ftz v
    (r, f ||| g)

/-- An INT32 total plus a chunk, saturating (R36, R64): the total, its saturation bit and the flag. -/
def promoteInt (total : Word) (sat : Bool) (chunk : Int) : Word × Bool × Flg :=
  if sat then (total, true, 0#4)
  else
    let v := signedOf 32 total.toNat + chunk
    if v > 2 ^ 31 - 1 then (0x7FFFFFFF#64, true, flOF)
    else if v < -(2 ^ 31) then (0x80000000#64, true, flOF)
    else (BitVec.ofInt 64 (v % 2 ^ 32), false, 0#4)

/-- The block element that multiplies streamed position `t` for output `j`. -/
def Block.at (b : Block) (o : Orient) (t j : Nat) : Word := if o = .row then b.code t j else b.code j t

/-- Whether the block was loaded at that element, or the cell is padded (R57). -/
def Block.has (b : Block) (o : Orient) (t j : Nat) : Bool :=
  let (k, n) := if o = .row then (t, j) else (j, t)
  decide (k < b.kt) && decide (n < b.nt)

/-- The products of streamed positions `t` to `t + m - 1` for output `j`; padded ones are +0 (R57). A scale of 0xFF
makes its elements NaN (R33). -/
def chunkProducts (b : Block) (o : Orient) (ftz : Bool) (fx : Format) (x : List Word) (xs : List Byte) (j t m : Nat) :
    List (Num × Flg) :=
  (List.range m).map fun i =>
    let q := t + i
    if decide (q < x.length) && b.has o q j then
      if fmtIsMx fx && (xs.getD (q / 32) 127#8 == 0xFF#8 ||
          (if o = .row then b.scale q j else b.scale j q) == 0xFF#8) then (.nan, 0#4)
      else product b.pair fx b.fmt ftz (x.getD q 0#64) (b.at o q j)
    else (.zero, 0#4)

/-- The exponent that the two block scales of a chunk apply (R63). -/
def chunkScale (b : Block) (o : Orient) (fx : Format) (xs : List Byte) (j t : Nat) : Int :=
  if fmtIsMx fx then
    ((xs.getD (t / 32) 127#8).toNat : Int) - 127 +
      (((if o = .row then b.scale t j else b.scale j t).toNat : Int) - 127)
  else 0

/-- The chunks of output `j` promoted in ascending order into a floating-point total (R62, R63). -/
def addChunks (b : Block) (o : Orient) (ftz : Bool) (fx : Format) (x : List Word) (xs : List Byte) (j m : Nat) :
    Nat → Nat → Word32 → Flg → Word32 × Flg
  | 0, _, tot, f => (tot, f)
  | n + 1, t, tot, f =>
    let (v, g) := treeSum (Nat.log2 m) (chunkProducts b o ftz fx x xs j t m)
    let (tot, h) := promote ftz tot (v.scale (chunkScale b o fx xs j t))
    addChunks b o ftz fx x xs j m n (t + m) tot (f ||| g ||| h)

/-- The sequential fused multiply-adds of an FP32 or FP64 output (R63). -/
def addSeq (b : Block) (o : Orient) (ftz : Bool) (fmt : Format) (x : List Word) (j : Nat) :
    Nat → Nat → Word → Flg → Word × Flg
  | 0, _, tot, f => (tot, f)
  | n + 1, t, tot, f =>
    let full := decide (t < x.length) && b.has o t j
    let a := if full then decode fmt ftz (x.getD t 0#64) else .zero
    let e := if full then decode fmt ftz (b.at o t j) else .zero
    let (v, g) := a.fma false e (decode fmt ftz tot)
    let (r, h) := encode fmt .rne .nonsat ftz v
    addSeq b o ftz fmt x j n (t + 1) r (f ||| g ||| h)

/-- One output of a streamed row added into its total: the total, the saturation bit and the flags. -/
def addOutput (b : Block) (o : Orient) (ftz : Bool) (fx : Format) (x : List Word) (xs : List Byte) (j : Nat) (tot : Word)
    (sat : Bool) : Word × Bool × Flg :=
  match b.pair with
  | .int8 => promoteInt tot sat (intSum (chunkProducts b o ftz fx x xs j 0 64))
  | .fp32 | .fp64 =>
    let (r, f) := addSeq b o ftz fx x j (redLen b.pair o) 0 tot 0#4
    (r, false, f)
  | p =>
    let m := chunkLen p o
    let (r, f) := addChunks b o ftz fx x xs j m (redLen p o / m) 0 (tot.truncate 32) 0#4
    (r.zeroExtend 64, false, f)

/-- The outputs `j` to `W - 1` of one streamed row added into a bank row that starts at total `base`. -/
def addRow (b : Block) (o : Orient) (ftz : Bool) (fx : Format) (x : List Word) (xs : List Byte) (base : Nat) :
    Nat → Nat → Bank → Flg → Bank × Flg
  | 0, _, bk, f => (bk, f)
  | n + 1, j, bk, f =>
    let k := base + j
    let (tot, sat, g) := addOutput b o ftz fx x xs j (bk.total k) (mget false bk.sats k)
    addRow b o ftz fx x xs base n (j + 1) ((bk.setTotal k tot).setSat k sat) (f ||| g)

/-! ## Block passes -/

/-- The initial totals that a preload gives rows of a bank, once its checks hold (R60): none, +0, or rows of a source, of
which a bias has the one. -/
inductive PreSrc where
  | keep
  | zero
  | rows (src : Src) (bias : Bool)
  deriving DecidableEq, Repr

/-- Whether a preload source is allowed for a total format: INT32 totals take INT8 and INT32 only (R60). -/
def preSrcOk (t : TotFmt) (fmt : Format) : Bool :=
  match t with
  | .int32 => fmt == .int8 || fmt == .int32
  | _ => true

/-- The format in which a preload's source is presented: INT32 totals take its codes as they stand and extend them. -/
def preFmt (t : TotFmt) (d : Desc) : Format :=
  match t with
  | .int32 => d.fmt
  | t => t.fmt

/-- Opening the source of `rows` rows of width `w` (R60). A descriptor that is not of that size, for which the manual gives
no outcome, ends the pass with operand layout: DESIGN CHOICE (log entry 86). -/
def preOpen (s : State) (c : Nat) (t : TotFmt) (w rows : Nat) (p : Preload) : Except Nat (State × PreSrc) :=
  let openRows (d : Desc) (n : Nat) (bias : Bool) : Except Nat (State × PreSrc) :=
    if preSrcOk t d.fmt = false ∨ d.n0 ≠ w ∨ descRows d ≠ n then .error stOperandLayout
    else
      match openSrc s c d (preFmt t d) with
      | .error e => .error e
      | .ok (s, src) => .ok (s, .rows src bias)
  match p with
  | .keep => .ok (s, .keep)
  | .zero => .ok (s, .zero)
  | .residual d => openRows d rows false
  | .bias d => openRows d 1 true

/-- A preload's code in the total's format (R60): INT8 is sign-extended and INT32 copied. -/
def preExtend (t : TotFmt) (d : Desc) (w : Word) : Word :=
  match t with
  | .int32 => BitVec.ofInt 64 (signedOf (fmtBits d.fmt) w.toNat % 2 ^ 32)
  | _ => w

/-- The initial totals of `rows` rows of width `w`, through the load converter (R39, R43, R60). -/
def preVals (s : State) (c : Nat) (t : TotFmt) (w rows : Nat) (p : PreSrc) : Option (List (List Word)) × State :=
  match p with
  | .keep => (none, s)
  | .zero => (some (List.replicate rows (List.replicate w 0#64)), s)
  | .rows src bias =>
    let (v, s) := loadBlockRows s c src (preFmt t src.desc)
    let v := v.map fun row => row.map (preExtend t src.desc)
    (some (if bias then List.replicate rows (v.headD []) else v), s)

/-- A row of totals set, with its saturation bits cleared (R60). -/
def setRow (base : Nat) : Nat → List Word → Bank → Bank
  | _, [], bk => bk
  | j, v :: vs, bk => setRow base (j + 1) vs ((bk.setTotal (base + j) v).setSat (base + j) false)

/-- The rows of a preload set. -/
def setRows (w : Nat) : Nat → List (List Word) → Bank → Bank
  | _, [], bk => bk
  | r, v :: vs, bk => setRows w (r + 1) vs (setRow (r * w) 0 v bk)

/-- The streamed rows from row `r` on, added into bank rows `start + r` in order. -/
def passRows (b : Block) (o : Orient) (ftz : Bool) (fx : Format) (w start : Nat) :
    Nat → List (List Word × List Byte) → Bank → Flg → Bank × Flg
  | _, [], bk, f => (bk, f)
  | r, x :: xs, bk, f =>
    let (bk, g) := addRow b o ftz fx x.1 x.2 ((start + r) * w) w 0 bk 0#4
    passRows b o ftz fx w start (r + 1) xs bk (f ||| g)

/-- The layout checks of a block pass on engine state `g` (R57 to R60). A pass whose operand pair is not that of the block it
uses, for which the manual gives no outcome, fails them: DESIGN CHOICE (log entry 87). -/
def passLayoutOk (g : Engine) (op : BlockPass) : Bool :=
  let b := if op.swap then g.shadow else g.active
  let w := bankWidth op.pair op.orient
  let t := pairTot op.pair
  let bk := g.bank op.bank
  let fx := pairFmt op.pair op.e5
  (b.rows.isEmpty || b.pair == op.pair)
    && decide (op.x.n0 ≤ redLen op.pair op.orient)
    && (!fmtIsMx fx || (op.x.fmt == fx && op.x.axis == .row &&
        (b.rows.isEmpty || b.axis == (if op.orient = .row then Axis.k else Axis.n))))
    && decide (op.startRow + descRows op.x ≤ bankRows t w)
    && (match bk.use with
        | none => !(op.preload == .keep)
        | some (t', w') => t' == t && w' == w)

/-- The block that a pass uses: the shadow block after a swap; one that holds only +0 takes the pass's pair. -/
def Engine.passBlock (g : Engine) (op : BlockPass) : Block :=
  let b := if op.swap then g.shadow else g.active
  if b.rows.isEmpty then { b with pair := op.pair, fmt := pairFmt op.pair op.e5 } else b

/-- The bank that a pass adds into, with the rows its preload sets (R60). -/
def Engine.passBank (g : Engine) (op : BlockPass) (pre : Option (List (List Word))) : Bank :=
  let bk := { g.bank op.bank with use := some (pairTot op.pair, bankWidth op.pair op.orient) }
  match pre with
  | none => bk
  | some v => setRows (bankWidth op.pair op.orient) op.startRow v bk

/-- The streamed rows of a pass with their scales, and the state after the load converter. -/
def passStream (s : State) (c : Nat) (op : BlockPass) (src : Src) : List (List Word × List Byte) × State :=
  let fx := pairFmt op.pair op.e5
  let (rows, s) := loadBlockRows s c src fx
  ((rows.zipIdx).map fun r => (r.1, if fmtIsMx fx then src.scales s c r.2 else []), s)

/-- A pass whose checks hold: the streamed rows pass through the active block and add into bank rows. A stall for a preload
value counts as load wait, and one for a scratchpad bank as bank stall (R60, R70, R74). -/
def State.passRun (s : State) (c : Core) (e : Eng) (op : BlockPass) (src : Src) (g : Engine) (pre : PreSrc) : State :=
  let n := descRows op.x
  let (init, s) := preVals s c (pairTot op.pair) (bankWidth op.pair op.orient) n pre
  let (xs, s) := passStream s c op src
  let b := g.passBlock op
  let (bk, f) := passRows b op.orient (s.ftz c) (pairFmt op.pair op.e5) (bankWidth op.pair op.orient) op.startRow 0 xs
    (g.passBank op init) 0#4
  let s := s.raiseFlags c (.eng e) f
  let s := (s.pCount (c.val / 16) 0x44 n).pCount (c.val / 16) 0x45 (n * b.kt * b.nt)
  let s := (s.waits (c.val / 16) 0x46).waits (c.val / 16) 0x47
  s.modEngine c e fun h =>
    { (h.setBank op.bank bk) with
      active := if op.swap then g.shadow else g.active, shadow := if op.swap then g.active else g.shadow,
      lastRows := some n }

/-- BLOCK_PASS (R55, R59, R60, R62 to R64): the streamed rows pass through the active block and add into bank rows. Every
check comes before any change (R57, R59, R60). -/
def blockPassEff (c : Core) (e : Eng) (op : BlockPass) (shell : ShellOutcome) (s : State) : State :=
  if s.coreRuns c = false then s
  else
    let g := (s.core c).engine e
    match openSrc s c op.x (pairFmt op.pair op.e5) with
    | .error code => s.opFail c code
    | .ok (s1, src) =>
      if passLayoutOk g op = false then s.opFail c stOperandLayout
      else
        match preOpen s1 c (pairTot op.pair) (bankWidth op.pair op.orient) (descRows op.x) op.preload with
        | .error code => s.opFail c code
        | .ok (s2, pre) =>
          let (s3, goes) := s2.opRead c true shell
          if goes = false then s3 else s3.passRun c e op src g pre

/-! ## Bank drains -/

/-- A total multiplied by 2^e in its own format (R79): INT32 totals ignore e. -/
def scaleTotal (t : TotFmt) (ftz : Bool) (e : Int) (v : Word) : Num × Flg :=
  match t with
  | .int32 => (decode .int32 false v, 0#4)
  | t =>
    if e = 0 then (decode t.fmt ftz v, 0#4)
    else
      let (c, f) := encode t.fmt .rne .nonsat ftz ((decode t.fmt ftz v).scale e)
      (decode t.fmt ftz c, f)

/-- The scaled totals of `n` bank rows from `row`, and their flags. -/
def drainVals (bk : Bank) (t : TotFmt) (w : Nat) (ftz : Bool) (e : Int) (row n : Nat) : List (List Num) × Flg :=
  let es := (List.range n).map fun r => (List.range w).map fun j => scaleTotal t ftz e (bk.total ((row + r) * w + j))
  (es.map fun r => r.map Prod.fst, es.foldl (fun a r => r.foldl (fun a e => a ||| e.2) a) 0#4)

/-- FP32 codes of values placed in vector registers. -/
def vregWrite (x : CoreSt) (r : Nat) : Nat → List Word32 → CoreSt
  | _, [] => x
  | i, v :: vs => vregWrite (x.setVreg r i v) r (i + 1) vs

/-- Values rounded to FP32 codes by RNE, with the flags. -/
def f32Codes (ftz : Bool) (vs : List Num) : List Word32 × Flg :=
  let es := vs.map fun v => toF32 .rne ftz v
  (es.map Prod.fst, es.foldl (fun a e => a ||| e.2) 0#4)

/-- The bank as a drain leaves it: empty (R65), its totals open until they are preloaded (log entry 10). -/
def Bank.drained (n : Nat) : Bank := ⟨none, [], [], some n⟩

/-- The bank drained of core `c`. -/
def State.emptyBank (s : State) (c e : Nat) (b : Fin 2) : State :=
  let (n, s) := s.fresh
  s.modEngine c e fun g => g.setBank b (.drained n)

end Sys2Proof.Machine
end

