-- ==== Sys2Proof/Machine/Walnut.lean ====
section
/-! DEFINITION. The walnut buffer's regions, gradient passes, bank drains, discards and vector adds (R65, R75 to R82). -/

namespace Sys2Proof.Machine

/-- Entries of a core's walnut buffer (R80). -/
def walnutEntries : Nat := 524288

/-- A region descriptor's rule: a length that is a multiple of 16, inside the buffer (R81). -/
def regionOk (r : WRegion) : Bool := r.len % 16 == 0 && decide (r.base + r.len ≤ walnutEntries)

/-- The address of a walnut entry (R80). -/
def entryAddr (c i : Nat) : Nat := walnutBase c + 4 * i

/-- A walnut entry's FP32 code. -/
def State.entry (s : State) (c i : Nat) : Word32 := BitVec.ofNat 32 (s.mem.readLE (entryAddr c i) 4)

/-- Setting a walnut entry. -/
def State.setEntry (s : State) (c i : Nat) (v : Word32) : State := s.writeLE (entryAddr c i) 4 v.toNat

/-- Whether a region that a descriptor names is DRAINING: its additions wait (R81). -/
def State.regionDrains (s : State) (c : Nat) (r : WRegion) : Bool :=
  (s.core c).regions.any fun o => o.base == r.base && o.len == r.len && o.draining.isSome

/-- Whether a region is the one a descriptor names. -/
def WOpen.named (o : WOpen) (r : WRegion) : Bool := o.base == r.base && o.len == r.len

/-- The first addition opens a region (R81). -/
def State.openRegion (s : State) (c : Nat) (r : WRegion) : State :=
  s.modCore c fun x =>
    if x.regions.any fun o => o.named r then x else { x with regions := x.regions ++ [⟨r.base, r.len, none⟩] }

/-- A region back to EMPTY: every entry reads as +0 (R81). -/
def State.closeRegion (s : State) (c : Nat) (r : WRegion) : State :=
  (s.zeroMem (entryAddr c r.base) (4 * r.len)).modCore c fun x =>
    { x with regions := x.regions.filter fun o => !o.named r }

/-- One addition into an entry by RNE, formed exactly and rounded once (R77, R82). -/
def entryAdd (ftz : Bool) (e : Word32) (v : Num) : Word32 × Flg :=
  let (x, f) := (ofF32 ftz e).add false v
  let (r, g) := toF32 .rne ftz x
  (r, f ||| g)

/-- Additions of values into consecutive entries from `i`, with the flags they raise. -/
def addEntries (c : Nat) (ftz : Bool) : Nat → List Num → State → Flg → State × Flg
  | _, [], s, f => (s, f)
  | i, v :: vs, s, f =>
    let (e, g) := entryAdd ftz (s.entry c i) v
    addEntries c ftz (i + 1) vs (s.setEntry c i e) (f ||| g)

/-! ## Gradient passes -/

/-- Whether a pair may run a gradient pass (R76). -/
def gradPairOk : Pair → Bool
  | .fp8 | .hazel8 | .bf16 | .fp16 | .hazel16 => true
  | .int8 | .mxfp8 | .mxfp4 | .fp32 | .fp64 => false

/-- The products of cell (k, n) over rows, in row order; a padded position gives +0 (R57, R77). -/
def gradProducts (p : Pair) (fx fd : Format) (ftz : Bool) (k n : Nat) (rows : List (List Word × List Word)) :
    List (Num × Flg) :=
  rows.map fun r =>
    match r.1[k]?, r.2[n]? with
    | some a, some b => product p fx fd ftz a b
    | _, _ => (.zero, 0#4)

/-- A chunk's partial: products added in ascending row order, each by RNE in the chunk format (R77). -/
def gradPartial : List (Num × Flg) → Num × Flg → Num × Flg
  | [], acc => acc
  | v :: vs, acc =>
    let (r, f) := chunkAdd acc.1 v.1
    gradPartial vs (r, f ||| acc.2 ||| v.2)

/-- Chunks of 64 rows promoted into an entry one after another (R77); `n` bounds the number of chunks. -/
def gradChunks (ftz : Bool) : Nat → List (Num × Flg) → Word32 → Flg → Word32 × Flg
  | 0, _, e, f => (e, f)
  | n + 1, ps, e, f =>
    if ps.isEmpty then (e, f)
    else
      let (v, g) := gradPartial (ps.take 64) (.zero, 0#4)
      let (e, h) := entryAdd ftz e v
      gradChunks ftz n (ps.drop 64) e (f ||| g ||| h)

/-- The cells of a gradient pass from index `i` on, in entry order (R80). -/
def gradCells (c : Nat) (p : Pair) (fx fd : Format) (ftz : Bool) (nt base : Nat) (rows : List (List Word × List Word)) :
    Nat → Nat → State → Flg → State × Flg
  | 0, _, s, f => (s, f)
  | n + 1, i, s, f =>
    let ps := gradProducts p fx fd ftz (i / nt) (i % nt) rows
    let (e, g) := gradChunks ftz (rows.length / 64 + 1) ps (s.entry c (base + i)) 0#4
    gradCells c p fx fd ftz nt base rows n (i + 1) (s.setEntry c (base + i) e) (f ||| g)

/-- The layout checks of a gradient pass (R75, R76, R81). A block base that is no multiple of 1,024 or a block outside its
region, for which the manual gives no outcome, fails them: DESIGN CHOICE (log entry 88). -/
def gradFits (op : GradPass) : Bool :=
  let (kt, nt) := pairShape op.pair
  gradPairOk op.pair && regionOk op.region && decide (op.block % 1024 = 0)
    && decide (op.region.base ≤ op.block) && decide (op.block + kt * nt ≤ op.region.base + op.region.len)
    && decide (op.x.n0 ≤ kt) && decide (op.dy.n0 ≤ nt) && decide (descRows op.dy = descRows op.x)

/-- A gradient pass whose checks hold: the outer products of the rows accumulate into the walnut block. -/
def State.gradRun (s : State) (c : Core) (e : Eng) (op : GradPass) (sx sd : Src) : State :=
  let (kt, nt) := pairShape op.pair
  let n := descRows op.x
  let fx := pairFmt op.pair op.xe5
  let fd := pairFmt op.pair op.dye5
  let (xr, s) := loadBlockRows s c sx fx
  let (dr, s) := loadBlockRows s c sd fd
  let s := if n = 0 then s else s.openRegion c op.region
  let (s, f) := gradCells c op.pair fx fd (s.ftz c) nt op.block (xr.zip dr) (kt * nt) 0 s 0#4
  let s := s.raiseFlags c (.eng e) f
  let s := (s.pCount (c.val / 16) 0x44 n).pCount (c.val / 16) 0x45 (n * op.x.n0 * op.dy.n0)
  (s.waits (c.val / 16) 0x47).waits (c.val / 16) 0x49

/-- What a command that reads scratchpad and walnut entries meets (R86, R148): the outcome is of the one or of the other. -/
def State.opReadBoth (s : State) (c : Nat) (walnut : Bool) (o : ShellOutcome) : State × Bool :=
  if walnut then s.opReadWalnut c o else s.opRead c true o

/-- GRADIENT_PASS (R75 to R77, R80, R81): the outer products of the rows accumulate into the walnut block. Additions into a
DRAINING region wait. `inWalnut` says whether the Shell outcome is of a walnut entry or of the operands. -/
def gradientPassEff (c : Core) (e : Eng) (op : GradPass) (inWalnut : Bool) (shell : ShellOutcome) (s : State) : State :=
  if s.coreRuns c = false ∨ s.regionDrains c op.region = true then s
  else
    match openSrc s c op.x (pairFmt op.pair op.xe5) with
    | .error code => s.opFail c code
    | .ok (s1, sx) =>
      match openSrc s1 c op.dy (pairFmt op.pair op.dye5) with
      | .error code => s.opFail c code
      | .ok (s2, sd) =>
        if gradFits op = false then s.opFail c stOperandLayout
        else
          let (s3, goes) := s2.opReadBoth c inWalnut shell
          if goes = false then s3 else s3.gradRun c e op sx sd

/-! ## Bank drains -/

/-- NaN and infinity codes of a class counted (R98). -/
def State.countClass (s : State) (p tag : Nat) (ws : List Word32) : State :=
  let z (w : Word32) : Word := w.zeroExtend 64
  (s.pCount p (0x60 + tag) (ws.countP fun w => codeIsNan .fp32 (z w))).pCount p (0x68 + tag)
    (ws.countP fun w => codeIsInf .fp32 (z w))

/-- The layout check of a bank drain, and the failing code of its destination (R58, R65, R81, R467). A drain names a range of
rows; rows past the bank, or a destination that is not W elements by so many rows, fail it: DESIGN CHOICE (log entry
89). -/
def drainCheck (s : State) (c : Nat) (bk : Bank) (op : Drain) : Option Nat :=
  match bk.use with
  | none => some stOperandLayout
  | some (t, w) =>
    if op.row + op.rows > bankRows t w then some stOperandLayout
    else
      match op.dest with
      | .spad d =>
        if d.n0 ≠ w ∨ descRows d ≠ op.rows ∨ (d.fmt = .int32 ∧ t ≠ .int32) then some stOperandLayout
        else checkDst s c d (t = .int32 && d.fmt == .int32)
      | .walnut r off _ =>
        if t ≠ .fp32 ∨ regionOk r = false ∨ off + op.rows * w > r.len then some stOperandLayout else none
      | .vector _ => none

/-- A drain whose checks hold, from a bank that holds totals of format `t` in rows of `w` (R65, R79). A drain of some rows
leaves the whole bank empty: DESIGN CHOICE (log entry 89). A row's wait for its last contribution counts as load wait
(R66). -/
def State.drainRun (s : State) (c : Core) (e : Eng) (op : Drain) (bk : Bank) (t : TotFmt) (w : Nat) : State :=
  let ftz := s.ftz c
  let (rows, f) := drainVals bk t w ftz op.scale op.row op.rows
  let s := ((s.raiseFlags c .conv f).waits (c.val / 16) 0x46).waits (c.val / 16) 0x47
  let s :=
    match op.dest with
    | .spad d =>
      if t = TotFmt.int32 ∧ d.fmt = Format.int32 then
        copyDst s c d ((List.range op.rows).map fun r =>
          (List.range w).map fun j => bk.total ((op.row + r) * w + j))
      else storeDst s c d rows
    | .walnut r off tag =>
      let s := if op.rows = 0 then s else s.openRegion c r
      let (s, g) := addEntries c ftz (r.base + off) rows.flatten s 0#4
      let s := s.countClass (c.val / 16) tag.val (f32Codes ftz rows.flatten).1
      (s.raiseFlags c (.eng e) g).waits (c.val / 16) 0x49
    | .vector v =>
      let (codes, g) := f32Codes ftz rows.flatten
      (s.modCore c fun x => vregWrite x v.val 0 codes).raiseFlags c .conv g
  s.emptyBank c e op.bank

/-- The Shell outcome that a drain meets: of the granules it merges in scratchpad, of the walnut entries it adds to, or in
flight (R86, R136, R147). -/
def State.drainMeets (s : State) (c : Nat) (op : Drain) (shell : ShellOutcome) : State × Bool :=
  match op.dest with
  | .spad d => s.opRead c d.chan.isNone shell
  | .walnut _ _ _ => s.opReadWalnut c shell
  | .vector _ => s.opRead c false shell

/-- Whether a drain adds into a region that is DRAINING (R81). -/
def State.drainWaits (s : State) (c : Nat) (op : Drain) : Bool :=
  match op.dest with
  | .walnut r _ _ => s.regionDrains c r
  | .spad _ | .vector _ => false

/-- BANK_DRAIN (R65, R79): rows leave in ascending order, scaled and converted; the bank is left empty. -/
def bankDrainEff (c : Core) (e : Eng) (op : Drain) (shell : ShellOutcome) (s : State) : State :=
  if s.coreRuns c = false ∨ s.drainWaits c op = true then s
  else
    let bk := ((s.core c).engine e).bank op.bank
    match drainCheck s c bk op with
    | some code => s.opFail c code
    | none =>
      let (s, goes) := s.drainMeets c op shell
      if goes = false then s
      else
        match bk.use with
        | none => s
        | some (t, w) => s.drainRun c e op bk t w

/-- WALNUT_DISCARD (R81): an OPEN region returns to EMPTY without output. -/
def walnutDiscardEff (c : Core) (r : WRegion) (s : State) : State :=
  if s.coreRuns c = false then s
  else if regionOk r = false then s.opFail c stOperandLayout
  else s.closeRegion c r

/-- The lanes' values added into consecutive entries (R82). -/
def State.laneAdd (s : State) (c : Core) (r : WRegion) (offset : Nat) (vreg : Fin 32) (n : Nat) : State :=
  let ftz := s.ftz c
  let vs := (List.range n).map fun i => ofF32 ftz ((s.core c).vreg vreg i)
  let s := if n = 0 then s else s.openRegion c r
  let (s, f) := addEntries c ftz (r.base + offset) vs s 0#4
  (s.raiseFlags c .vec f).waits (c.val / 16) 0x49

/-- WALNUT_VECTOR_ADD (R82): each lane's value is added by RNE into its entry. -/
def walnutVectorAddEff (c : Core) (r : WRegion) (offset : Nat) (vreg : Fin 32) (n : Nat) (shell : ShellOutcome)
    (s : State) : State :=
  if s.coreRuns c = false ∨ s.regionDrains c r = true then s
  else if regionOk r = false ∨ offset + n > r.len then s.opFail c stOperandLayout
  else
    let (s, goes) := s.opReadWalnut c shell
    if goes = false then s else s.laneAdd c r offset vreg n

/-- The kept lines of a region (R85): line j is kept when bit j of the mask is 1. -/
def keptLines (m : Mem) (maskAt : Option Nat) (lines : Nat) : List Nat :=
  match maskAt with
  | none => List.range lines
  | some a => (List.range lines).filter fun j => (m.read (a + j / 8)).toNat / 2 ^ (j % 8) % 2 == 1

/-- The entries of the kept lines, packed in ascending order (R85). -/
def keptEntries (s : State) (c : Nat) (r : WRegion) (lines : List Nat) : List Word32 :=
  lines.flatMap fun j => (List.range 16).map fun i => s.entry c (r.base + 16 * j + i)

end Sys2Proof.Machine
end

