-- ==== Sys2Proof/Machine/Training.lean ====
section
/-! DEFINITION. Parameter registers, amax slots, flags, hardware loops, the step fence, micro-batches and the loss monitor (R43,
R50, R94, R99 to R105, R121, R124, R132). -/

namespace Sys2Proof.Machine

/-! ## Parameter registers, amax slots, flags -/

/-- The value that a write of a parameter or count register takes (R121). -/
def paramRead (x : CoreSt) : ParamSrc → Word
  | .imm v => v
  | .vreg r => (x.vreg r 0).zeroExtend 64

/-- PARAM_WRITE (R121, R124): an immediate, or the 32-bit code of element 0 of a vector register, goes to a parameter register
or to a count register CNT_j, which only the next entry of its level reads. -/
def paramWriteEff (c : Core) (dst : ParamDst) (src : ParamSrc) (s : State) : State :=
  if s.coreRuns c = false then s
  else
    s.modCore c fun x =>
      match dst with
      | .param k => x.setParam k (paramRead x src)
      | .cnt j => x.setLoop j { x.loop j with cnt := paramRead x src }

/-- AMAX_SLOT_CLEAR (R43). -/
def amaxSlotClearEff (c : Core) (slot : Fin 32) (s : State) : State :=
  if s.coreRuns c = false then s else s.modCore c fun x => x.setAmax slot 0#32

/-- AMAX_SLOT_READ (R44): the slot's value goes to element 0 of a vector register. -/
def amaxSlotReadEff (c : Core) (slot dst : Fin 32) (s : State) : State :=
  if s.coreRuns c = false then s else s.modCore c fun x => x.setVreg dst 0 (x.amaxSlot slot)

/-- FLAG_CLEAR (R50). -/
def flagClearEff (c : Core) (mask : Word32) (s : State) : State :=
  if s.coreRuns c = false then s else s.clearFlags c mask

/-- ARITH_FLAGS_CLEAR (R52). -/
def arithFlagsClearW (s : State) (p : Nat) (v : Word) : WR :=
  .ok ((List.range 16).foldl (fun s q => s.clearFlags (16 * p + q) (clearMask v.toNat)) s)

/-- ARITH_FLAGS_CLEAR (R52). -/
def arithFlagsClearEff (via : Via) (p : Part) (value : Word) (s : State) : State :=
  s.partWrite via p 0x41 (arithFlagsClearW s p value)

/-- ENG_COUNTER_CLEAR (R74). -/
def engCounterClearEff (via : Via) (p : Part) (value : Word) (s : State) : State :=
  s.partWrite via p 0x48 (clearW s value (s.clearObjs (partIx p) 0x44 4))

/-- WALNUT_COUNTER_CLEAR (R87). -/
def walnutCounterClearEff (via : Via) (p : Part) (value : Word) (s : State) : State :=
  s.partWrite via p 0x4A (clearW s value (s.clearObjs (partIx p) 0x49 1))

/-- NONFINITE_CLEAR (R100): the counters of the selected classes. -/
def nonfiniteClearW (s : State) (p : Nat) (v : Word) : WR :=
  .ok ((List.range 8).foldl (fun s i => if bit v i then (s.pWr p (0x60 + i) 0).pWr p (0x68 + i) 0 else s) s)

/-- NONFINITE_CLEAR (R100). -/
def nonfiniteClearEff (via : Via) (p : Part) (value : Word) (s : State) : State :=
  s.partWrite via p 0x70 (nonfiniteClearW s p value)

/-! ## The stream of a core (R109, R110) -/

/-- The stream of core `c` in its launch. -/
def Launch.stream_ (l : Launch) (g : Nat) : List StreamItem :=
  match l.img.streams.find? fun x => x.1 == g with
  | some x => x.2
  | none => []

/-- The launch on a core. -/
def State.launchOf (s : State) (c : Nat) : Option (Nat × Launch) :=
  match (s.core c).run.launch with
  | none => none
  | some k => (s.launch k).map fun l => (k, l)

/-- The stream of the launch on core `c`. -/
def State.items (s : State) (c : Nat) : List StreamItem :=
  match s.launchOf c with
  | some (_, l) => l.stream_ (s.groupLocal c)
  | none => []

/-- Whether an item is a tile. -/
def StreamItem.isTile : StreamItem → Bool
  | .tile _ => true
  | _ => false

/-- The index among a stream's tiles of the first tile at or after item `i`; 0xFFFFFFFF when none follows (R130). -/
def tileIndex (items : List StreamItem) (i : Nat) : Nat :=
  if (items.drop i).any StreamItem.isTile then (items.take i).countP StreamItem.isTile else 0xFFFFFFFF

/-- A core with no tile running that has passed the last item of its stream has finished it (R110). -/
def State.settleCore (s : State) (c : Nat) : State :=
  let x := s.core c
  if x.run.launch.isSome ∧ x.run.tile = none ∧ (s.items c).length ≤ x.run.item then
    s.setCore c { x with run := { x.run with finished := true } }
  else s

/-- Moving a core to another item of its stream. -/
def State.gotoItem (s : State) (c i : Nat) : State :=
  (s.modCore c fun x => { x with run := { x.run with item := i } }).settleCore c

/-- The items up to and with the end that closes `depth + 1` open bodies. -/
def bodyLength : List StreamItem → Nat → Nat
  | [], _ => 0
  | .tile _ :: rest, depth => 1 + bodyLength rest depth
  | .loopEnter _ _ :: rest, depth => 1 + bodyLength rest (depth + 1)
  | .loopEnd _ :: rest, depth =>
    match depth with
    | 0 => 1
    | d + 1 => 1 + bodyLength rest d

/-- The item after the body whose entry is at `i`. -/
def afterBody (items : List StreamItem) (i : Nat) : Nat := i + 1 + bodyLength (items.drop (i + 1)) 0

/-- The items of a reversed stream before the entry of the body that they stand in. -/
def bodyBack : List StreamItem → Nat → Nat
  | [], _ => 0
  | .tile _ :: rest, depth => 1 + bodyBack rest depth
  | .loopEnd _ :: rest, depth => 1 + bodyBack rest (depth + 1)
  | .loopEnter _ _ :: rest, depth =>
    match depth with
    | 0 => 0
    | d + 1 => 1 + bodyBack rest d

/-- The first item of the body whose end is item `i`. -/
def startOfBody (items : List StreamItem) (i : Nat) : Nat := i - bodyBack (items.take i).reverse 0

/-- Whether a core stands at a tile boundary of a launch that has not been told to end. -/
def State.atBoundary (s : State) (c : Nat) : Bool :=
  let x := s.core c
  match s.launchOf c with
  | some (_, l) => x.run.tile.isNone && !x.run.finished && !x.run.failed && l.ending.isNone
  | none => false

/-- The tile running on a core. -/
def State.runningTile (s : State) (c : Nat) : Option Tile :=
  let x := s.core c
  if x.run.tile.isNone then none
  else
    match (s.items c)[x.run.item - 1]? with
    | some (.tile t) => some t
    | _ => none

/-! ## Hardware loops (R124, R125) -/

/-- The largest loop count. -/
def loopMax : Nat := 16777215

/-- Loop entry's first step: an immediate or a parameter register is written to CNT_j. -/
def loopSource (x : CoreSt) (level : Nat) (src : LoopSrc) : CoreSt :=
  match src with
  | .imm n => x.setLoop level { x.loop level with cnt := BitVec.ofNat 64 n }
  | .param k => x.setLoop level { x.loop level with cnt := x.param k }
  | .cnt => x

/-- A loop level started with a count. -/
def loopStart (x : CoreSt) (level n : Nat) : CoreSt :=
  x.setLoop level { x.loop level with latched := n, iter := 0, active := true }

/-- LOOP_ENTER (R124, R125): inside a tile, or of a loop of whole tiles at a tile boundary. -/
def loopEnterEff (c : Core) (level : Fin 4) (src : LoopSrc) (s : State) : State :=
  if s.coreRuns c = false then s
  else
    let items := s.items c
    let i := (s.core c).run.item
    if s.atBoundary c then
      if items[i]? ≠ some (.loopEnter level src) then s
      else
        let s := s.modCore c fun x => loopSource x level src
        let n := ((s.core c).loop level).cnt.toNat
        if loopMax < n then s.opFailAt c stLoopLimit (tileIndex items (i + 1))
        else if n = 0 then s.gotoItem c (afterBody items i)
        else (s.modCore c fun x => loopStart x level n).gotoItem c (i + 1)
    else
      let s := s.modCore c fun x => loopSource x level src
      let n := ((s.core c).loop level).cnt.toNat
      let limit := match s.runningTile c with
        | some t => match t.inner.find? fun l => l.level == level with
          | some l => l.limit
          | none => loopMax
        | none => loopMax
      if loopMax < n then s.opFail c stLoopLimit
      else if n = 0 then s
      else if limit < n then s.opFail c stLoopLimit
      else s.modCore c fun x => loopStart x level n

/-- LOOP_END (R124). -/
def loopEndEff (c : Core) (level : Fin 4) (s : State) : State :=
  if s.coreRuns c = false then s
  else
    let items := s.items c
    let i := (s.core c).run.item
    let l := (s.core c).loop level
    let iter := l.iter + 1
    let more := decide (iter < l.latched)
    let t := s.modCore c fun x => x.setLoop level { l with iter := iter, active := more }
    if s.atBoundary c then
      if items[i]? ≠ some (.loopEnd level) then s
      else if more then t.gotoItem c (startOfBody items i)
      else t.gotoItem c (i + 1)
    else t

/-! ## The step fence (R101 to R105) -/

/-- The context on a core: that of its launch. -/
def State.ctxOf (s : State) (c : Nat) : Option Nat := (s.launchOf c).map fun l => l.2.ctx

/-- The cores on which a step's program runs. -/
def State.stepCores (s : State) (p : Nat) (ctx : Option Nat) : List Nat :=
  match ctx with
  | some k => s.ctxCores k
  | none => (List.range 16).map fun q => 16 * p + q

/-- STEP_BEGIN (R94, R103): arms the fence of the core's partition; the deadline goes to the job slot. -/
def stepBeginEff (c : Core) (step mbs fenceBeat : Nat) (deadline : Option (JobSlot × Nat)) (reseed : Bool) (s : State) :
    State :=
  if s.coreRuns c = false then s
  else
    let p := c.val / 16
    let ctx := s.ctxOf c
    let f := s.fence p
    let s := if f.state = .armed ∧ f.step = step then s
      else s.setFence p { f with
        state := .armed, step := step, mbs := mbs, retired := 0, beat := fenceBeat, ctx := ctx, voided := none }
    let s := match deadline with
      | some (j, b) => s.nameDeadline j step b
      | none => s
    let s := s.pWr p 0x51 (BitVec.ofNat 64 step)
    if reseed then
      (s.stepCores p ctx).foldl (fun s q => s.modCore q fun x =>
        reseedLanes (s.pRd (q / 16) 0x50) (BitVec.ofNat 64 step) (s.pN (q / 16) 0x52) (s.pN (q / 16) 0x53) q x) s
    else s

/-- The bindings that an admission by BIND_CURRENT makes: the COMMITTED slot of each region, where it can be bound. -/
def bindCurrent (s : State) (p : Nat) : List Region → Option (List (Nat × Nat))
  | [] => some []
  | r :: rs =>
    match (s.region p r).current with
    | none => none
    | some i =>
      if 255 ≤ ((s.region p r).slot i).bind then none
      else (bindCurrent s p rs).map fun l => (r.val, i) :: l

/-- Raising the bind counts of a list of slots. -/
def State.bindAll (s : State) (p : Nat) (l : List (Nat × Nat)) : State :=
  l.foldl (fun s b => s.bindSlot p b.1 b.2) s

/-- The regions that an admission binds at one instant: those it names and those of its acorns (R286, R298). -/
def State.admitRegions (s : State) (p : Nat) (regions : List Region) (acorns : List (Fin 32)) : List Region :=
  (regions ++ s.acornRegions p acorns).eraseDups

/-- MICRO_BATCH_ADMIT (R102) of a micro-batch of training step `trains`: admission that would raise a bind count past 255
waits. A request may name VALID acorn entries only (R298). -/
def microBatchAdmitEff (p : Part) (mb : Nat) (regions : List Region) (b : Binding) (trains : Nat)
    (acorns : List (Fin 32)) (s : State) : State :=
  let regions := s.admitRegions p regions acorns
  let named := acorns.map Fin.val
  if (s.microBatches p).any (fun m => m.mb == mb) || acorns.any (fun i => !bit (s.acorn p i) 63) then s
  else
    match b with
    | .current =>
      match bindCurrent s p regions with
      | none => s
      | some l => (s.bindAll p l).setMicroBatches p (s.microBatches p ++ [⟨mb, trains, named, none, l, []⟩])
    | .step n =>
      let t : Tag := BitVec.ofNat 16 n
      let full := regions.any fun r => match (s.region p r).stepSlot t with
        | some i => decide (255 ≤ ((s.region p r).slot i).bind)
        | none => false
      if full then s
      else
        let (s, l, w) := bindWants p t (regions.map Fin.val) s [] []
        s.setMicroBatches p (s.microBatches p ++ [⟨mb, trains, named, some n, l, w⟩])

/-- MICRO_BATCH_RETIRE (R102, R103): one of the step that the fence is armed for counts there. -/
def microBatchRetireEff (p : Part) (mb : Nat) (s : State) : State :=
  match (s.microBatches p).find? fun m => m.mb == mb with
  | none => s
  | some m =>
    let s := m.binds.foldl (fun s b => s.unbindSlot p b.1 b.2) s
    let s := s.setMicroBatches p ((s.microBatches p).filter fun x => x.mb != mb)
    let f := s.fence p
    let s := if f.state = .armed ∧ f.step = m.trains then s.setFence p { f with retired := f.retired + 1 } else s
    (s.bindWaiting p).pollLoader p

/-- OPTIMIZER_WRITE (R101, R102): the slot that is not COMMITTED becomes PENDING; a RETIRING one makes the write wait. -/
def optimizerWriteEff (c : Core) (r : Region) (s : State) : State :=
  if s.coreRuns c = false then s
  else
    let p := c.val / 16
    let e := s.region p r
    if e.valid = false ∨ e.single = true then s.opFail c stOperandLayout
    else
      let i := match e.current with
        | some k => 1 - k
        | none => 0
      let v := e.slot i
      match v.state with
      | .pending => if v.holder = .step then s else s.opFail c stOperandLayout
      | .free => s.modSlot p r i fun v => { v with state := .pending, holder := .step, written := false }
      | .committed => s
      | .retiring => s

/-- REGION_MARK_WRITTEN (R103). -/
def regionMarkWrittenEff (c : Core) (r : Region) (s : State) : State :=
  if s.coreRuns c = false then s
  else
    let p := c.val / 16
    match (s.region p r).find fun v => v.state == .pending && v.holder == .step with
    | none => s
    | some i => s.modSlot p r i fun v => { v with written := true }

/-- The entries of a partition whose slot is PENDING for the step. -/
def State.stepPending (s : State) (p : Nat) : List (Nat × Nat) :=
  (List.range 256).filterMap fun r =>
    ((s.region p r).find fun v => v.state == .pending && v.holder == .step).map fun i => (r, i)

/-- Regions written in the step and not yet marked written. -/
def State.unwritten (s : State) (p : Nat) : Nat :=
  (s.stepPending p).countP fun x => !((s.region p x.1).slot x.2).written

/-- Committing the step's slots under a tag. -/
def commitStep (p : Nat) (t : Tag) : List (Nat × Nat) → State → State
  | [], s => s
  | (r, i) :: rest, s =>
    let s := s.modSlot p r (1 - i) VSlot.superseded
    commitStep p t rest (s.modSlot p r i fun v => v.committedAs t)

/-- STEP_FENCE_COMMIT (R103). -/
def stepFenceCommitEff (p : Part) (s : State) : State :=
  let f := s.fence p
  if f.state = .armed ∧ f.mbs ≤ f.retired ∧ s.unwritten p = 0 ∧ f.beat ≤ s.beatIx then
    let s := commitStep p (BitVec.ofNat 16 (f.step + 1)) (s.stepPending p) s
    let s := s.setFence p { f with state := .committed }
    (s.bindWaiting p).pollLoader p
  else s

/-- The OPEN regions of a core, those in DRAINING left out (R81). -/
def CoreSt.openRegions (x : CoreSt) : List WOpen := x.regions.filter fun o => o.draining.isNone

/-- Discarding the OPEN regions of a core (R104). -/
def State.discardOpen (s : State) (c : Nat) : State :=
  (s.core c).openRegions.foldl (fun s o => s.closeRegion c ⟨o.base, o.len⟩) s

/-- Discarding the OPEN regions of a saved core. -/
def SavedCore.discardOpen (v : SavedCore) (c : Nat) : SavedCore :=
  { v with
    core := { v.core with regions := v.core.regions.filter fun o => o.draining.isSome },
    walnut := v.core.openRegions.foldl (fun m o => m.zero (entryAddr c o.base) (4 * o.len)) v.walnut }

/-- The abort of an armed fence (R104). -/
def State.abortFence (s : State) (p : Nat) : State :=
  let f := s.fence p
  if f.state ≠ .armed then s
  else
    let s := (s.stepPending p).foldl (fun s x => s.modSlot p x.1 x.2 VSlot.freed) s
    let s := match f.ctx with
      | none => (s.stepCores p none).foldl State.discardOpen s
      | some k =>
        match (mget Ctx.reset s.ctxs k).state with
        | .swapped | .loading =>
          { s with saved := s.saved.map fun (e : Nat × List (Nat × SavedCore)) =>
              if e.1 = k then (e.1, e.2.map fun (c : Nat × SavedCore) => (c.1, c.2.discardOpen c.1)) else e }
        | _ => (s.ctxCores k).foldl State.discardOpen s
    (s.setFence p { f with state := .aborted, voided := some (BitVec.ofNat 16 (f.step + 1)) }).pollLoader p

/-- FENCE_ABORT (R104, R105). -/
def fenceAbortW (s : State) (p : Nat) (v : Word) : WR := .ok (if bit v 0 then s.abortFence p else s)

/-- FENCE_ABORT (R104). -/
def fenceAbortEff (via : Via) (p : Part) (value : Word) (s : State) : State :=
  s.partWrite via p 0x5F (fenceAbortW s p value)

/-- Codes of a fence state (R105). -/
def FenceState.code : FenceState → Nat
  | .idle => 0
  | .armed => 1
  | .committed => 2
  | .aborted => 3

/-- FENCE_STATUS (R105). -/
def State.fenceStatus (s : State) (p : Nat) : Nat :=
  let f := s.fence p
  let armed := f.state == .armed
  (if armed then min (f.mbs - f.retired) 255 else 0) * 2 ^ 16 + (if armed then min (s.unwritten p) 255 else 0) * 2 ^ 8 +
  f.state.code

/-! ## The loss monitor (R99, R100) -/

/-- An FP32 operation of the monitor: exact, then rounded by RNE. -/
def r32 (v : Num × Flg) : Word32 := (toF32 .rne false v.1).1

/-- The value of an FP32 code. -/
def v32 (w : Word32) : Num := ofF32 false w

/-- The threshold mean + k × sqrt(var): the square root is rounded to FP32 first. -/
def sqrt32 (w : Word32) : Word32 :=
  match v32 w with
  | .fin false m e =>
    let e' : Int := if e % 2 = 0 then e else e - 1
    let m' : Nat := if e % 2 = 0 then m else 2 * m
    let k : Nat := 64
    let r := rootBits 1 (m' * 2 ^ (2 * k)) (Nat.log2 (m' + 1) + k + 1) 0
    let sticky := if r * r = m' * 2 ^ (2 * k) then 0 else 1
    (toF32 .rne false (.fin false (2 * r + sticky) (e' / 2 - k - 1))).1
  | .fin true 0 _ => w
  | .inf false => w
  | _ => BitVec.ofNat 32 (nanCode .fp32)

/-- A submission (R99). -/
def State.submitLoss (s : State) (p : Nat) (loss : Word32) : State :=
  let rd (sub : Nat) : Word32 := (s.pRd p sub).truncate 32
  let wr (s : State) (sub : Nat) (w : Word32) : State := s.pWr p sub (w.zeroExtend 64)
  let l := v32 loss
  let count := s.pN p 0x5B
  let status := s.pN p 0x59
  let mean := rd 0x57
  let var := rd 0x58
  let bar := r32 ((v32 mean).add false (v32 (r32 ((v32 (rd 0x54)).mul (v32 (sqrt32 var))))))
  if l.isNan || l.isInf then (s.wrN (pKey p 0x59) (status ||| 2)).event (s.lead p) 2
  else if s.pN p 0x5A ≤ count ∧ (v32 bar).lt l = true then
    (s.wrN (pKey p 0x59) (setField (status ||| 1) 31 16 (min (nfield status 31 16 + 1) 65535))).event (s.lead p) 2
  else
    let s :=
      if count = 0 then wr (wr s 0x57 loss) 0x58 0#32
      else
        let a := Num.fin false 1 (-(s.pN p 0x55 : Int))
        let d := r32 (l.add false (v32 mean).neg)
        let mean' := r32 ((v32 mean).add false (v32 (r32 (a.mul (v32 d)))))
        let ad := r32 (a.mul (v32 d))
        let dd := r32 ((v32 ad).mul (v32 d))
        let inner := r32 ((v32 var).add false (v32 dd))
        let oneA := r32 ((Num.fin false 1 0).add false a.neg)
        wr (wr s 0x57 mean') 0x58 (r32 ((v32 oneA).mul (v32 inner)))
    s.wrN (pKey p 0x5B) (min (count + 1) (2 ^ 32 - 1))

/-- LOSS_SUBMIT (R99): by a program, or through the object. -/
def lossSubmitEff (via : Option Via) (p : Part) (loss : Word32) (s : State) : State :=
  match via with
  | none => s.submitLoss p loss
  | some v => s.partWrite v p 0x56 (.ok (s.submitLoss p loss))

/-! ## Idle counters (R132) -/

/-- A live idle counter. -/
def State.idleOf (s : State) (c k : Nat) : Word := mget 0#64 (s.core c).idle k

/-- IDLE_CORE_SELECT: the value is stored and a snapshot is captured. -/
def idleCoreSelectW (s : State) (p : Nat) (v : Word) : WR :=
  if v.toNat ≤ 15 ∨ v.toNat = 0xFF then
    let s := s.pWr p 0x8A v
    .ok ((List.range 9).foldl (fun s k =>
      s.pWr p (0x80 + k)
        (if v.toNat = 0xFF then (List.range 16).foldl (fun a q => a + s.idleOf (16 * p + q) k) 0#64
         else s.idleOf (16 * p + v.toNat) k)) s)
  else .error .range

/-- IDLE_CORE_SELECT (R132). -/
def idleCoreSelectEff (via : Via) (p : Part) (value : Word) (s : State) : State :=
  s.partWrite via p 0x8A (idleCoreSelectW s p value)

/-- IDLE_COUNTER_CLEAR (R132). -/
def idleCounterClearEff (via : Via) (p : Part) (value : Word) (s : State) : State :=
  s.partWrite via p 0x89
    (clearW s value ((List.range 16).foldl (fun s q => s.modCore (16 * p + q) fun x => { x with idle := [] }) s))

end Sys2Proof.Machine
end

