-- ==== Sys2Proof/Machine/CollOps.lean ====
section
/-! DEFINITION. The events of the collective engine: job slots, operations, packets and deadlines (R234 to R271). -/

namespace Sys2Proof.Machine

/-! ## Job slots (R234 to R236, R269) -/

/-- A write of JOB_ID (R234, R271): an UNASSIGNED slot becomes IDLE; an IDLE slot that is given 0xFFF becomes UNASSIGNED. -/
def jobIdW (s : State) (via : Via) (j : Nat) (v : Word) : WR :=
  let id := v.toNat % 4096
  if viaPriv via = false then .error .access
  else if 2 ≤ s.jsState j then .error .state
  else if id ≠ 0xFFF ∧ ((List.range 128).any fun i => decide (i ≠ j) && s.rdN (jsKey i 1) == id) then .error .state
  else .ok ((s.wrN (jsKey j 1) id).wrN (jsKey j 4) (if id = 0xFFF then 0 else 1))

/-- JOB_SLOT_ASSIGN (R234). -/
def jobSlotAssignEff (via : Via) (j : JobSlot) (value : Word) (s : State) : State :=
  s.objWrite via (jsIx j) 1 (jobIdW s via j value)

/-- The object with the free store of a slot's router. -/
def storeKey (j : Nat) : Nat := objKey 0x2600 (1 + j / 64)

/-- The store that ENABLE reserves, in KiB (R236). -/
def storeNeed (r R w : Nat) : Nat := (2 * addingNodes r R + 1) * w * 4

/-- ENABLE (R235, R236). -/
def slotEnableW (s : State) (j : Nat) : WR :=
  let r := s.rdN (jsKey j 7)
  let R := s.rdN (jsKey j 8)
  let need := storeNeed r R (s.window j)
  let table := s.rdN (jsKey j 9)
  let own := s.mem.readLE (table + 4 * r) 4
  if s.jsState j ≠ 1 ∨ R ≤ r ∨ s.inGroupHbm (s.holder j) table (4 * R) = false ∨
      entryAddrOf own ≠ s.ownAddr.toNat ∨ s.rdN (jsKey j 0x0E) < s.rdN (jsKey j 0x0D) * (treeLevels R + 1) ∨
      s.rdN (storeKey j) < need ∨ (s.staged j = true ∧ s.rdN (jsKey j 0x0B) = 0) then .error .state
  else
    let s := (s.wrN (jsKey j 4) 2).wrN (jsKey j 0x12) need
    let s := s.wrN (storeKey j) (s.rdN (storeKey j) - need)
    .ok (s.setCs j { CollSlot.reset with
      members := (List.range R).map fun i => s.mem.readLE (table + 4 * i) 4, deadlines := (s.cs j).deadlines,
      records := (s.cs j).records })

/-- SLOT_ENABLE (R236). -/
def slotEnableEff (via : Via) (j : JobSlot) (s : State) : State := s.objWrite via (jsIx j) 3 (slotEnableW s j)

/-- COLL_COUNTER_CLEAR (R270). -/
def collCounterClearEff (via : Via) (value : Word) (s : State) : State :=
  s.objWrite via 0x2600 4 (clearW s value (s.clearObjs 0x2600 3 1))

/-- SLOT_COUNTER_CLEAR (R271). -/
def slotCounterClearEff (via : Via) (j : JobSlot) (value : Word) (s : State) : State :=
  s.objWrite via (jsIx j) 0 (clearW s value (s.clearObjs (jsIx j) 0x15 7))

/-- A write of MODE sets NAN_POLICY to that mode's default (R256). -/
def modeW (s : State) (j : Nat) (v : Word) : WR :=
  if 1 < v.toNat then .error .range
  else if 2 ≤ s.jsState j then .error .state
  else .ok ((s.wr (jsKey j 5) v).wr (jsKey j 6) v)

/-! ## Ends of steps and Reels -/

/-- The holder's step ends (R252). -/
def State.endStep (s : State) (j : Nat) : State := s.forMembers (s.holder j) fun q s => s.abortFence q

/-- The journal's bytes (R264). -/
def journalBytes (d : CollDesc) (st : Nat) : List Byte :=
  leBytes 8 st ++ leBytes 8 d.deadline ++ leBytes 8 d.areaA ++ leBytes 2 d.step ++ leBytes 38 0

/-- A Reel's new state (R264): the journal is written before the state takes effect. After a partition reset the journal
stays as it is. -/
def State.reelState (s : State) (j : Nat) (r : ReelSt) (st : Nat) : State :=
  let a := s.rdN (jsKey j 0x1E)
  if r.part = .reset then s
  else
    let s := if s.inGroupHbm (s.holder j) a 64 then s.writeBytes a (journalBytes r.desc st) else s
    (s.wrN (jsKey j 0x1D) st).setReel j { r with state := st }

/-- A listed region's PENDING slot decided by the vote (R263, R281). An old slot that Tango or a serve still binds becomes FREE
once they have let go (R101, R308; log entry 110). -/
def reelRegion (seq : Nat) (ok : Bool) (r : ReelRegion) (s : State) : State :=
  if ok then
    let old := (s.region r.part r.region).slot (1 - r.slot)
    let tag : Tag := if r.created then BitVec.ofNat 16 seq else old.tag
    let s := s.modSlot r.part r.region r.slot fun v => v.committedAs tag
    if r.created then s else s.modSlot r.part r.region (1 - r.slot) VSlot.superseded
  else s.modSlot r.part r.region r.slot VSlot.freed

/-- The status record of a Reel. -/
def State.reelRecord (s : State) (j : Nat) (r : ReelSt) (code count : Nat) : CollRecord :=
  { key := r.desc.step * 65536 + r.desc.bucket, op := 3, code := code, ctx := s.holderId j, addr := r.desc.status, word := 0,
    bytes := statusBytes s.beat count code false false false false }

/-- Segments that a Reel holds are given up: they count as consumed (R247). -/
def consumeReel (j : Nat) (r : ReelSt) (s : State) : State :=
  r.held.foldl (fun s h =>
    s.consumeOn j h.2.2.2.2 1 (BitVec.ofNat 16 r.desc.step, BitVec.ofNat 16 h.2.1) true) s

/-- The outcome of a Reel (R263): its journal, its slots and its status record. -/
def State.reelOutcome (s : State) (j : Nat) (step : Tag) (ok : Bool) (code count : Nat) : State :=
  match s.reelOf j step with
  | none => s
  | some r =>
    if r.decided then s
    else
      let s := s.reelState j r (if ok then 4 else 5)
      let s := r.regions.foldl (fun s x => reelRegion r.desc.step ok x s) s
      let s := (consumeReel j r s).setReel j { r with
        state := if r.part = .reset then r.state else if ok then 4 else 5, decided := true, held := [] }
      let s := (s.forMembers (s.holder j) fun q s => (s.bindWaiting q).pollLoader q).relSync
      if r.part = .live then s.collStatus j (s.reelRecord j r (if ok then 0 else code) count) else s

/-- Whether the vote's packets have all passed this device: what comes down is RESULT and one segment. -/
def State.votePassed (s : State) (j : Nat) (c : CollCtx) : Bool :=
  if s.cRank j c = 0 then c.upDone else !c.got.isEmpty

/-- The outcome of a vote whose result is known here (R263). -/
def voteCheck (j : Nat) : List CollCtx → State → State
  | [], s => s
  | c :: cs, s =>
    let s :=
      match c.vote, c.result, s.reelOf j c.step with
      | true, some r, some reel =>
        let s := if c.decided then s
          else (s.reelOutcome j c.step (r.1 == reel.desc.areaD + 1) 1 r.1).modCtx j c.key fun c => { c with decided := true }
        if s.votePassed j c then s.endCtx j c false else s
      | _, _, _ => s
    voteCheck j cs s

/-- Progress of a slot: contexts, then a vote that has its result. -/
def State.pollSlot (s : State) (j : Nat) : State :=
  let s := s.collPoll j
  voteCheck j ((s.cs j).ctxs.map Prod.snd) s

/-- A context ends ABORTED or ORPHANED: a vote decides its Reel, any other ends the holder's step (R252, R263), unless the
holder's part of it is over (R267). -/
def State.abortCtx (s : State) (j : Nat) (c : CollCtx) (code : Nat) : State :=
  let s := s.finishCtx j c code
  if c.vote then s.reelOutcome j c.step false code 0
  else if c.detached then s
  else s.endStep j

/-! ## Release (R269) -/

/-- Every open context of a slot ends locally with a code. -/
def endAll (j code : Nat) : List CollCtx → State → State
  | [], s => s
  | c :: cs, s => endAll j code cs (s.finishCtx j c code)

/-- Every undecided Reel of a slot ends ABORTED. -/
def endReels (j : Nat) : List ReelSt → State → State
  | [], s => s
  | r :: rs, s => endReels j rs (s.reelOutcome j (BitVec.ofNat 16 r.desc.step) false 1 0)

/-- The status record of an operation that waits for a context and never starts. -/
def State.waitRecord (s : State) (j : Nat) (d : CollDesc) (code : Nat) : CollRecord :=
  { key := d.step * 65536 + d.bucket, op := d.op, code := code, ctx := s.holderId j, addr := d.status, word := 0,
    bytes := statusBytes s.beat 0 code false false false false }

/-- RELEASE (R269): open contexts, Reels in flight and waiting contributions end locally as ABORTED. -/
def State.releaseSlot (s : State) (j : Nat) : State :=
  let waiting := (s.cs j).waiting
  let s := s.modCs j fun x => { x with waiting := [] }
  let s := endReels j ((s.cs j).reels.map Prod.snd) (endAll j 1 ((s.cs j).ctxs.map Prod.snd) s)
  let s := waiting.foldl (fun s w => s.collStatus j (s.waitRecord j w.desc 1)) s
  s.modCs j fun x => { x with late := [] }

/-- RELEASE (R269). -/
def slotReleaseW (s : State) (j : Nat) : WR :=
  if s.jsState j ≠ 2 then .error .state else .ok ((s.releaseSlot j).wrN (jsKey j 4) 3)

/-- SLOT_RELEASE (R269). -/
def slotReleaseEff (via : Via) (j : JobSlot) (s : State) : State := s.objWrite via (jsIx j) 3 (slotReleaseW s j)

/-- A write to SLOT_CONTROL: its action bits act in ascending order (log entry 43). -/
def slotControlW (s : State) (j : Nat) (v : Word) : WR :=
  ctlActs v 0 [(slotEnableW · j), (slotReleaseW · j)] s

/-- SLOT_RELEASE_DONE (R269): the slot becomes UNASSIGNED and its store is freed. Status records that are still held, and
which operations have ended, stay. -/
def slotReleaseDoneEff (j : JobSlot) (s : State) : State :=
  if s.jsState j ≠ 3 then s
  else
    let x := s.cs j
    let s := s.wrN (storeKey j) (s.rdN (storeKey j) + s.rdN (jsKey j 0x12))
    (((s.wrN (jsKey j 4) 0).wrN (jsKey j 0x12) 0).wrN (jsKey j 1) 0xFFF).setCs j
      { CollSlot.reset with records := x.records, finished := x.finished, refusals := x.refusals }

/-! ## Descriptors (R242) -/

/-- A collective descriptor in memory. -/
def readCollDesc (m : Mem) (a : Nat) : CollDesc :=
  let v := m.readLE a 64
  { deadline := nfield v 501 448, status := nfield v 447 400, result := nfield v 383 336, source := nfield v 319 272,
    areaA := nfield v 255 208, areaB := nfield v 207 160, areaC := nfield v 159 144, areaD := nfield v 143 128,
    length := nfield v 127 96, bucket := nfield v 95 80, step := nfield v 79 64, root := nfield v 63 48,
    slot := nfield v 38 32, op := nfield v 31 28, redOp := nfield v 27 26, scope := nfield v 25 25 == 1,
    kind := nfield v 24 24 == 1 }

/-- Bytes of a descriptor's result. -/
def State.collResultBytes (s : State) (d : CollDesc) : Nat :=
  let R := s.rdN (jsKey d.slot 8)
  if d.op = 2 then 4 * (extentCounts s.mem d.areaA R).sum
  else if d.op = 3 then 0
  else if d.op = 4 then d.length
  else 4 * d.length

/-- Whether an operation needs its extent table (R260). -/
def CollDesc.needsTable (d : CollDesc) : Bool := d.op == 2 || (d.op == 0 && d.scope)

/-- Whether the extent table of a descriptor lies in the group's memory (R18). -/
def State.collTableOk (s : State) (lead : Nat) (d : CollDesc) : Bool :=
  !d.needsTable || d.areaA == 0 || s.inGroupMem lead d.areaA (4 * s.rdN (jsKey d.slot 8))

/-- Whether a descriptor's encodings and LENGTH stand (R239, R242, R260). -/
def State.collEncOk (s : State) (d : CollDesc) : Bool :=
  let R := s.rdN (jsKey d.slot 8)
  let lenOk := d.length % 4 == 0 && decide (4 ≤ d.length) && decide (d.length ≤ 2 ^ 28)
  let counts := extentCounts s.mem d.areaA R
  let okTable := d.areaA != 0 && counts.all fun c => c % 4 == 0
  decide (d.redOp ≤ 1) &&
  match d.op with
  | 0 => lenOk && (!d.scope || (okTable && counts.sum == d.length))
  | 1 => lenOk && decide (d.root < R)
  | 2 => okTable
  | 3 => decide (d.areaC ≤ d.areaD)
  | 4 => d.length % 256 == 0 && decide (0 < d.length)
  | _ => false

/-- Whether this device reads a descriptor's source. -/
def State.readsSource (s : State) (d : CollDesc) : Bool :=
  match d.op with
  | 0 => !d.kind
  | 1 => s.rdN (jsKey d.slot 7) == d.root
  | 2 => true
  | 4 => true
  | _ => false

/-- Bytes of the source. -/
def State.sourceBytes (s : State) (d : CollDesc) : Nat :=
  if d.op = 2 then
    let e := extentOf (extentCounts s.mem d.areaA (s.rdN (jsKey d.slot 8))) (s.rdN (jsKey d.slot 7))
    e.2 - e.1
  else s.collResultBytes d

/-- Whether a descriptor's addresses, and the staging area of a staged contribution, lie in the group's memory (R18, R248). -/
def State.collAddrOk (s : State) (lead : Nat) (d : CollDesc) : Bool :=
  let n := s.collResultBytes d
  let j := d.slot
  s.inGroupMem lead d.status 16 &&
  (d.op == 3 || d.op == 4 || n == 0 || s.inGroupMem lead d.result n) &&
  (d.op != 4 || (s.inGroupMem lead d.areaA n && s.inGroupMem lead d.areaB n)) &&
  (!s.readsSource d || s.sourceBytes d == 0 || s.inGroupMem lead d.source (s.sourceBytes d)) &&
  (d.op != 0 || !s.staged j || s.inGroupHbm lead (s.rdN (jsKey j 0x0A)) (s.rdN (jsKey j 0x0B) * 2 ^ 20))

/-- The end of an operation with status REFUSED (R242); an access outside the group faults the issuing partition `who`
(R18). For a group that does not hold the slot the record is written at once. -/
def State.collRefuse (s : State) (lead who : Nat) (d : CollDesc) (acc : Bool) : State :=
  let j := d.slot
  let s := if acc then s.partFault who else s
  let r := s.waitRecord j d 3
  let lands := s.inGroupMem lead d.status 16
  if s.jsState j = 2 ∧ s.holder j = lead then (if lands then s.collStatus j r else s.collEnded j r)
  else
    let s := if lands then s.writeBytes d.status r.bytes else s
    s.modCs j fun x => { x with refusals := (lead, r.key) :: x.refusals.filter (· != (lead, r.key)) }

/-! ## Packets that come down or around (R246, R257, R258, R265) -/

/-- The stream key of a packet. -/
def pktStream (p : Packet) : Nat := streamKey p.src.toNat p.type.toNat

/-- A piece of an ALL_GATHER passed on around the ring until it is back at its origin (R258). -/
def State.gatherOn (s : State) (j : Nat) (c : CollCtx) (d : CollDesc) (off : Nat) (body : List Byte) : State :=
  let r := s.cRank j c
  let R := s.cRanks j c
  let next := (r + 1) % max 1 R
  let e := extentOf (extentCounts s.mem d.areaA R) next
  if R ≤ 1 ∨ (e.1 ≤ off ∧ off < e.2) then s
  else s.pushOut j (s.collPkt j (s.cEntry j c next) 4 c.step c.bucket off body)

/-- Number of transfers of a Hora (R265). -/
def horaTransfers (R : Nat) (d : CollDesc) : Nat := if d.scope then R else R - 1

/-- The bytes performed of a Hora transfer. -/
def CollCtx.horaBytes (c : CollCtx) (d : CollDesc) (t : Nat) : Nat :=
  (c.horaGot.filter fun x => decide (t * d.length ≤ x.1) && decide (x.1 < (t + 1) * d.length)).foldl
    (fun a x => a + x.2) 0

/-- The next piece that a Hora may send (R265, R266), where the successor's buffer is free. Forward, a block goes on as it has
arrived; backward, once it has been performed and released. -/
def State.horaNext (s : State) (j : Nat) (c : CollCtx) (d : CollDesc) : Option (List Byte) :=
  let t := c.horaSend
  let n := min 4096 (d.length - c.horaOff)
  if horaTransfers (s.cRanks j c) d ≤ t ∨ c.horaFrees < t ∨ (d.scope = true ∧ c.horaReleased ≤ t) then none
  else if t = 0 then some (s.readBytes (d.source + c.horaOff) n)
  else
    let off := (t - 1) * d.length + c.horaOff
    if d.scope = false then mfind c.horaIn off
    else if mfind c.horaGot off = some n then some (s.readBytes (collDest d off) n)
    else none

/-- A piece of a Hora sent: where the transfer goes on. -/
def CollCtx.horaSent (c : CollCtx) (d : CollDesc) (n : Nat) : CollCtx :=
  let off := c.horaOff + n
  let c := { c with horaIn := mdel c.horaIn ((c.horaSend - 1) * d.length + c.horaOff) }
  if d.length ≤ off then { c with horaSend := c.horaSend + 1, horaOff := 0 } else { c with horaOff := off }

/-- The HORA_FREE that is due to the predecessor: the step's block is released and has been passed on. -/
def State.horaFreeDue (s : State) (j : Nat) (c : CollCtx) (d : CollDesc) : Bool :=
  let u := c.horaFreed
  let T := horaTransfers (s.cRanks j c) d
  decide (u < c.horaReleased) && (u == 0 || decide (u < c.horaSend) || decide (T ≤ u)) && decide (u + 1 < T)

/-- Progress of a Hora. -/
def horaPoll (j k : Nat) : Nat → State → State
  | 0, s => s
  | f + 1, s =>
    match s.collCtx j k with
    | none => s
    | some c =>
      match c.desc with
      | none => s
      | some d =>
        let r := s.cRank j c
        let R := max 1 (s.cRanks j c)
        if c.detached then s
        else if s.horaFreeDue j c d then
          horaPoll j k f ((s.setCtx j { c with horaFreed := c.horaFreed + 1 }).collInject j
            (s.collCtl j (s.cEntry j c ((r + R - 1) % R)) 4 c.step c.bucket (ctlWord 6 0 0 0 0 0)))
        else
          match s.horaNext j c d with
          | none => s
          | some body =>
            horaPoll j k f ((s.setCtx j (c.horaSent d body.length)).pushOut j
              (s.collPkt j (s.cEntry j c ((r + 1) % R)) 4 c.step c.bucket (c.horaSend * d.length + c.horaOff) body))

/-- Enough fuel for a Hora. -/
def horaFuel (R : Nat) (d : CollDesc) : Nat := (R + 1) * (segCount d.length + 2)

/-- Progress of a Hora context. -/
def State.pollHora (s : State) (j k : Nat) (c : CollCtx) (d : CollDesc) : State :=
  horaPoll j k (horaFuel (s.cRanks j c) d) s

/-- Progress of every Hora of a slot. -/
def pollHoras (j : Nat) : List (Nat × CollCtx) → State → State
  | [], s => s
  | (k, c) :: rest, s =>
    pollHoras j rest (match c.desc with
      | some d => if d.op = 4 then s.pollHora j k c d else s
      | none => s)

/-- Whether a packet comes from the parent of a rank in the tree of R244, rotated by `rot` for a broadcast (R246, R257). -/
def State.isParent (s : State) (j : Nat) (c : CollCtx) (r rot : Nat) (p : Packet) : Bool :=
  p.type == 3 && r != 0 &&
    entryAddrOf (s.cEntry j c ((parentRank r + rot) % max 1 (s.cRanks j c))) == p.src.toNat

/-- Whether a packet comes from this rank's neighbour on the ring (R258, R266): the predecessor, or with `up` the
successor. -/
def State.isRing (s : State) (j : Nat) (c : CollCtx) (up : Bool) (p : Packet) : Bool :=
  let R := max 1 (s.cRanks j c)
  let q := if up then s.cRank j c + 1 else s.cRank j c + R - 1
  p.type == 4 && entryAddrOf (s.cEntry j c (q % R)) == p.src.toNat

/-- Whether a context takes ABORT and EXCLUDED from a packet's sender: its parent in an ALL_REDUCE or a vote. -/
def State.fromTree (s : State) (j : Nat) (c : CollCtx) (p : Packet) : Bool :=
  (match c.desc with
    | some d => d.op == 0
    | none => true) && s.isParent j c (s.cRank j c) 0 p

/-- Whether a context takes results and pieces from a packet's sender (R237); where the operation is not known yet, this is
settled when it is issued. -/
def State.aboveOk (s : State) (j : Nat) (c : CollCtx) (p : Packet) : Bool :=
  match c.desc with
  | some d =>
    if d.op ≤ 1 then
      let (r, rot) := s.downSelf j c
      s.isParent j c r rot p
    else s.isRing j c false p
  | none => if c.vote || c.upSeen then s.fromTree j c p else true

/-- Whether a data segment has its place in an operation (R237, R239): within the result, or within one transfer of a Hora. -/
def State.collSegFits (s : State) (j : Nat) (c : CollCtx) (d : CollDesc) (p : Packet) : Bool :=
  let hi := p.target + p.payload.length
  match d.op with
  | 2 => decide (hi ≤ 4 * (extentCounts s.mem d.areaA (s.cRanks j c)).sum)
  | 4 => decide (hi ≤ horaTransfers (s.cRanks j c) d * d.length) && decide (p.target % d.length + p.payload.length ≤ d.length)
  | _ => p.target % 4096 == 0 && decide (hi ≤ 4 * d.length)

/-- A Hora's segment kept for cutting through: that of a forward Hora, of a transfer that goes on (R266). -/
def CollCtx.horaCut (c : CollCtx) (R : Nat) (d : CollDesc) (p : Packet) : CollCtx :=
  if d.scope = false ∧ p.target / max 1 d.length + 1 < horaTransfers R d then
    { c with horaIn := mins p.payload c.horaIn p.target }
  else c

/-- A data segment for an issued context: delivered, forwarded, or dropped as late (R246, R257, R258, R265). -/
def State.takeSegment (s : State) (j : Nat) (c : CollCtx) (d : CollDesc) (p : Packet) (forwarded : Bool) : State :=
  if c.got.contains p.target then s.lateDrop j p
  else if s.aboveOk j c p = false ∨ s.collSegFits j c d p = false then s.collDrop
  else
    let c := { c with got := p.target :: c.got }
    let down (s : State) : State := if forwarded then s else s.sendDown j c p.target p.payload false
    let put (s : State) : State := s.performSeg j c.key p.target p.payload (pktStream p)
    match d.op with
    | 2 => put ((s.setCtx j c).gatherOn j c d p.target p.payload)
    | 4 =>
      let c := c.horaCut (s.cRanks j c) d p
      (put (s.setCtx j c)).pollHora j c.key c d
    | _ => if c.vote then (down (s.setCtx j c)).consumePkt j p else put (down (s.setCtx j c))

/-- RESULT at an issued or known context (R246). -/
def State.takeResult (s : State) (j : Nat) (c : CollCtx) (p : Packet) (forwarded : Bool) : State :=
  let w := readCtl p
  if s.aboveOk j c p = false then s.collDrop
  else if c.result.isSome then s
  else
    let s := s.setCtx j { c with result := some (w.count, w.flags % 2 == 1) }
    if forwarded then s else s.sendDown j c ctlTarget p.payload false

/-- Packets kept until the operation was issued, taken in the order of their arrival. -/
def replayRaw (j k : Nat) (d : CollDesc) : List (Packet × Bool) → State → State
  | [], s => s
  | (p, f) :: rest, s =>
    match s.collCtx j k with
    | none => s
    | some c =>
      replayRaw j k d rest (if isCtl p then s.takeResult j c p f else s.takeSegment j c d p f)

/-! ## Starting an operation (R242 to R266) -/

/-- The context of a key, opened where there is none. -/
def State.openCtx (s : State) (j : Nat) (step : Tag) (bucket : BitVec 16) : CollCtx :=
  match s.collCtx j (collKey step bucket) with
  | some c => c
  | none =>
    let vote := match s.reelOf j step with
      | some r => bucket == 0xFFFF#16 && !r.decided
      | none => false
    { CollCtx.fresh step bucket with vote := vote, upSeen := vote }

/-- BROADCAST at its root (R257). -/
def rootSends (j k : Nat) (d : CollDesc) : Nat → Nat → State → State
  | 0, _, s => s
  | n + 1, i, s =>
    match s.collCtx j k with
    | none => s
    | some c =>
      let body := s.readBytes (d.source + 4096 * i) (segSize (4 * d.length) i)
      rootSends j k d n (i + 1) ((s.sendDown j c (4096 * i) body false).performSeg j k (4096 * i) body 0)

/-- ALL_GATHER's own pieces (R258). -/
def gatherSends (j k : Nat) (d : CollDesc) (lo n : Nat) : Nat → Nat → State → State
  | 0, _, s => s
  | m + 1, i, s =>
    match s.collCtx j k with
    | none => s
    | some c =>
      let body := s.readBytes (d.source + 4096 * i) (min 4096 (n - 4096 * i))
      let off := lo + 4096 * i
      gatherSends j k d lo n m (i + 1) ((s.gatherOn j c d off body).performSeg j k off body 0)

/-- The regions of a Reel's move list: index and NEW_BASE. -/
def reelTable (m : Mem) (a : Nat) : List (Nat × Nat) :=
  (List.range (m.readLE a 4)).map fun i => (m.readLE (a + 4 + 16 * i) 1, m.readLE (a + 12 + 16 * i) 8)

/-- The moves of a Reel. -/
def reelMoves (m : Mem) (d : CollDesc) : List ReelMove :=
  let a := d.areaA + 4 + 16 * m.readLE d.areaA 4
  (List.range d.length).map fun i =>
    let b := a + 32 * i
    ⟨m.readLE b 4, m.readLE (b + 4) 1, m.readLE (b + 5) 1, m.readLE (b + 8) 8, m.readLE (b + 16) 8, m.readLE (b + 24) 8⟩

/-- The slots that a Reel makes PENDING (R261, R262): in each member partition that has a VALID entry of a listed region; an
entry that no member has is created in the lead's table. -/
def State.reelTargets (s : State) (lead : Nat) (table : List (Nat × Nat)) : List ReelRegion :=
  table.flatMap fun x =>
    let ps := (s.members lead).filter fun p => (s.region p x.1).valid
    if ps.isEmpty then [⟨lead, x.1, x.2, 0, true⟩]
    else ps.map fun p => ⟨p, x.1, x.2, ((s.region p x.1).freeSlot).getD 0, false⟩

/-- Bytes of a region's new layout that the moves of a Reel write. -/
def reelExtent (moves : List ReelMove) (region : Nat) : Nat :=
  moves.foldl (fun a m => if m.dir = 1 ∧ m.region = region then max a (m.offset + m.bytes) else a) 0

/-- Whether what a Reel names lies in the group's memory (R18): the move list, the vote table, the sources and the new
layouts. -/
def State.reelAccess (s : State) (lead : Nat) (d : CollDesc) : Bool :=
  let moves := reelMoves s.mem d
  s.inGroupMem lead d.areaA (4 + 16 * s.mem.readLE d.areaA 4 + 32 * d.length) &&
  s.inGroupMem lead d.areaB (4 * (d.areaD + 1)) &&
  (moves.all fun m => m.dir != 0 || s.inGroupMem lead m.src m.bytes) &&
  (reelTable s.mem d.areaA).all fun x =>
    let n := reelExtent moves x.1
    n == 0 || s.inGroupMem lead x.2 n

/-- Whether a Reel may start (R261): no member's fence is ARMED, no listed region has a bound micro-batch and each has a FREE
second slot; each region stands once in the table, and no Reel of the same sequence number is undecided. -/
def State.reelOk (s : State) (lead j : Nat) (d : CollDesc) : Bool :=
  let table := reelTable s.mem d.areaA
  ((s.members lead).all fun p => (s.fence p).state != .armed) &&
  (match s.reelOf j (BitVec.ofNat 16 d.step) with
    | some r => r.decided
    | none => true) &&
  decide (table.map Prod.fst).Nodup &&
  ((s.reelTargets lead table).all fun x =>
    let e := s.region x.part x.region
    x.created || (!e.single && e.freeSlot.isSome &&
      (s.microBatches x.part).all fun m => m.binds.all fun b => b.1 != x.region)) &&
  (reelMoves s.mem d).all fun m => decide (m.dir ≤ 1)

/-- A listed region's slot made PENDING for a Reel (R262). -/
def reelPend : List ReelRegion → State → State
  | [], s => s
  | x :: rest, s =>
    let e := s.region x.part x.region
    let s := if x.created then s.setRegion x.part x.region { e with
        valid := true, single := false, slot0 := VSlot.reset, slot1 := VSlot.reset } else s
    reelPend rest (s.modSlot x.part x.region x.slot fun v =>
      { v with state := .pending, holder := .reel, addr := x.base, bind := 0 })

/-- The segments of a Reel SEND (R262). -/
def reelSend (j : Nat) (d : CollDesc) (m : ReelMove) : Nat → Nat → State → State
  | 0, _, s => s
  | n + 1, i, s =>
    let k := min 4096 (m.bytes - 4096 * i)
    reelSend j d m n (i + 1) (s.pushOut j
      (s.collPkt j m.peer 4 (BitVec.ofNat 16 d.step) (BitVec.ofNat 16 m.region) (m.offset + 4096 * i)
        (s.readBytes (m.src + 4096 * i) k)))

/-- The start of a Reel (R262). -/
def State.startReel (s : State) (lead j : Nat) (d : CollDesc) : State :=
  let moves := reelMoves s.mem d
  let regions := s.reelTargets lead (reelTable s.mem d.areaA)
  let r : ReelSt :=
    { desc := d, regions := regions, receives := moves.filter fun m => m.dir == 1, got := [],
      voters := (List.range (d.areaD + 1)).map fun i => s.mem.readLE (d.areaB + 4 * i) 4, state := 1, readyAt := none,
      decided := false, part := .live, held := [] }
  let s := reelPend regions (s.reelState j r 1)
  let s := s.modCs j fun x => { x with finished := mdel x.finished (d.step * 65536 + d.bucket) }
  moves.foldl (fun s m => if m.dir = 0 then reelSend j d m (segCount m.bytes) 0 s else s) s

/-- A started operation's own part. -/
def State.startOp (s : State) (j : Nat) (d : CollDesc) : State :=
  let step : Tag := BitVec.ofNat 16 d.step
  let bucket := BitVec.ofNat 16 d.bucket
  let k := collKey step bucket
  let c := s.openCtx j step bucket
  let raw := c.raw
  let carry := if d.op = 0 then mfind (s.cs j).carries d.bucket else none
  let ready := d.op == 0 && !s.staged j
  let c := { c with
    desc := some d, raw := [],
    own := { c.own with ready := ready, carry := carry } }
  let s := (s.setCtx j c).modCs j fun x => { x with
    finished := mdel x.finished k, late := mdel x.late k,
    carries := if d.op = 0 then mdel x.carries d.bucket else x.carries }
  let s :=
    if d.op = 1 ∧ s.cRank j c = d.root then
      let s := s.setCtx j { c with result := some (1, false) }
      let s := s.sendDown j c ctlTarget (ctlWord 5 0 0 1 d.length 0) false
      rootSends j k d (segCount (4 * d.length)) 0 s
    else if d.op = 2 then
      let e := extentOf (extentCounts s.mem d.areaA (s.cRanks j c)) (s.cRank j c)
      gatherSends j k d e.1 (e.2 - e.1) (segCount (e.2 - e.1)) 0 s
    else if d.op = 4 then s.pollHora j k c d
    else s
  (replayRaw j k d raw s).pollSlot j

/-- Whether a descriptor names the key of an operation that is open or waits for a context. -/
def State.keyTaken (s : State) (d : CollDesc) : Bool :=
  ((s.cs d.slot).waiting.any fun w => w.desc.step == d.step && w.desc.bucket == d.bucket) ||
  match s.collCtx d.slot (d.step * 65536 + d.bucket) with
  | some c => c.desc.isSome || c.detached || (c.goesUp && d.op != 0)
  | none => false

/-- An operation that has been accepted starts (R249): one that would open a 257th context waits; a key that packets have
already ended takes its code. -/
def State.beginColl (s : State) (core : Option Nat) (d : CollDesc) : State :=
  let j := d.slot
  let k := d.step * 65536 + d.bucket
  match mfind (s.cs j).finished k with
  | some (255, code) =>
    (s.modCs j fun x => { x with finished := mdel x.finished k }).collStatus j (s.waitRecord j d code)
  | _ =>
    if (s.collCtx j k).isNone ∧ 256 ≤ (s.cs j).ctxs.length then
      s.modCs j fun x => { x with waiting := x.waiting ++ [⟨core, d⟩] }
    else s.startOp j d

/-- A descriptor taken up by the engine for the group led by `lead`, issued by partition `who` (R242). -/
def State.takeDesc (s : State) (lead who : Nat) (core : Option Nat) (d : CollDesc) : State :=
  let j := d.slot
  if s.jsState j ≠ 2 ∨ s.holder j ≠ lead then s.collRefuse lead who d false
  else if s.collTableOk lead d = false then s.collRefuse lead who d true
  else if s.collEncOk d = false then s.collRefuse lead who d false
  else if s.collAddrOk lead d = false then s.collRefuse lead who d true
  else
    let s := s.modCs j fun x => { x with refusals := x.refusals.filter (· != (lead, d.step * 65536 + d.bucket)) }
    if d.op = 3 then
      if s.reelAccess lead d = false then s.collRefuse lead who d true
      else if s.reelOk lead j d = false then s.collRefuse lead who d false
      else s.startReel lead j d
    else if s.keyTaken d then s.collRefuse lead who d false
    else if d.op = 0 ∧ s.staged j = true ∧ s.rdN (jsKey j 0x0B) * 2 ^ 20 < 4 * d.length then s.collRefuse lead who d false
    else s.beginColl core d

/-- Contributions that wait for a context start, oldest first, as far as there is room (R249). -/
def startWaits (j : Nat) : Nat → State → State
  | 0, s => s
  | n + 1, s =>
    match (s.cs j).waiting with
    | [] => s
    | w :: ws =>
      if 256 ≤ (s.cs j).ctxs.length ∧ (s.collCtx j (w.desc.step * 65536 + w.desc.bucket)).isNone then s
      else startWaits j n ((s.modCs j fun x => { x with waiting := ws }).beginColl w.core w.desc)

/-- Progress of a slot where contexts may have ended: waiting contributions start. -/
def State.settle (s : State) (j : Nat) : State :=
  let s := s.pollSlot j
  startWaits j (s.cs j).waiting.length s

/-- Whether a core waits for one of 256 contexts (R249). -/
def State.collWaits (s : State) (c : Nat) : Bool := s.coll.any fun x => x.2.waiting.any fun w => w.core == some c

/-- A collective started by a program or by the driver (R242): `op` is the operation that the command names; a reserved OP
is taken by the ALL_REDUCE command. -/
def State.startColl (s : State) (by_ : CollBy) (addr op : Nat) : State :=
  let d := readCollDesc s.mem addr
  if d.op ≠ op ∧ ¬(op = 0 ∧ 5 ≤ d.op) then s
  else
    match by_ with
    | .program c =>
      let lead := s.lead (c.val / 16)
      if s.coreRuns c = false then s
      else if s.inGroupMem lead addr 64 = false then s.opFail c stAccessRefused
      else s.takeDesc lead (c.val / 16) (some c.val) d
    | .driver v =>
      let lead := s.holder d.slot
      s.objWrite v (jsIx d.slot) 0x1F
        (if s.inGroupMem lead addr 64 then .ok (s.takeDesc lead lead none d) else .error .range)

/-- ALL_REDUCE (R248). -/
def allReduceEff (by_ : CollBy) (addr : Nat) (s : State) : State := s.startColl by_ addr 0

/-- BROADCAST (R257). -/
def broadcastEff (by_ : CollBy) (addr : Nat) (s : State) : State := s.startColl by_ addr 1

/-- ALL_GATHER (R258). -/
def allGatherEff (by_ : CollBy) (addr : Nat) (s : State) : State := s.startColl by_ addr 2

/-- REEL (R262). -/
def reelEff (by_ : CollBy) (addr : Nat) (s : State) : State := s.startColl by_ addr 3

/-- HORA (R265). -/
def horaEff (by_ : CollBy) (addr : Nat) (s : State) : State := s.startColl by_ addr 4

/-! ## Taking packets (R237) -/

/-- Whether a packet's key has an open context of which the holder's part is over (R267): the nodes stay in service. -/
def State.servesOn (s : State) (j : Nat) (p : Packet) : Bool :=
  match s.collCtx j (collKey p.step p.bucket) with
  | some c => c.detached || c.vote
  | none => false

/-- The slot that takes a packet: ACTIVE, with its job identifier, and with a context that may take deliveries or whose part
in the packet's bucket is over (log entry 105). -/
def State.takeSlot (s : State) (p : Packet) : Option Nat :=
  (List.range 128).find? fun j =>
    s.jsState j == 2 && s.rdN (jsKey j 1) == p.jobId.toNat && p.ctxId.toNat / 16 == s.holder j &&
    (!(mget Ctx.reset s.ctxs p.ctxId.toNat).state.refusesDelivery || s.servesOn j p)

/-- A packet of a collective type taken by its slot, or dropped (R195, R237). A superseded device takes none (R224). -/
def State.withSlot (s : State) (p : Packet) (f : Nat → State) : State :=
  if s.superseded then s
  else
    match s.takeSlot p with
    | none => s.collDrop.ctxDrop p
    | some j => f j

/-- Whether a packet is late on its stream: its key has ended there and no context of it is open (R249). -/
def State.isLate (s : State) (j : Nat) (p : Packet) : Bool :=
  (s.collCtx j (collKey p.step p.bucket)).isNone &&
  match ((s.cs j).inn (pktStream p)).ended with
  | some e => keyLe (p.step, p.bucket) e
  | none => false

/-- Whether a packet's context is open or can be opened (R249). -/
def State.canOpen (s : State) (j : Nat) (p : Packet) : Bool :=
  (s.collCtx j (collKey p.step p.bucket)).isSome || decide ((s.cs j).ctxs.length < 256)

/-- The level of the node whose right child has an address. -/
def State.childLevel (s : State) (j : Nat) (c : CollCtx) (addr : Nat) : Option Nat :=
  (hostedLevels (s.cRank j c) (s.cRanks j c)).find? fun l =>
    match rightRank (s.cRank j c) l (s.cRanks j c) with
    | some q => entryAddrOf (s.cEntry j c q) == addr
    | none => false

/-- Whether the right child of a level gives nothing any more. -/
def CollCtx.childGone (c : CollCtx) (l : Nat) : Bool :=
  (mget CNode.fresh c.nodes l).right.excluded || match c.cut with
    | some v => decide (l ≤ v)
    | none => false

/-- Whether a child's packet has its place (R237, R239): a control packet, or segment k of the bucket as far as its length is
known. -/
def CollCtx.childFits (c : CollCtx) (p : Packet) : Bool :=
  isCtl p || (p.target % 4096 == 0 && (c.bytes == 0 || p.payload.length == segSize c.bytes (p.target / 4096)))

/-- A packet from a child of the tree. -/
def State.fromChild (s : State) (j : Nat) (p : Packet) (f : Child → Child) : State :=
  if s.isLate j p then s.lateDrop j p
  else if s.canOpen j p = false then s.collDrop
  else
    let c := s.openCtx j p.step p.bucket
    let isOther := match c.desc with
      | some d => d.op != 0
      | none => false
    match s.childLevel j c p.src.toNat with
    | none => s.collDrop
    | some l =>
      if isOther = true ∨ p.type ≠ 2 ∨ c.childFits p = false then s.collDrop
      else if c.childGone l || (!isCtl p && decide (p.target / 4096 < (mget CNode.fresh c.nodes l).next)) then
        s.lateDrop j p
      else
        let n := mget CNode.fresh c.nodes l
        (s.setCtx j { c with upSeen := true, nodes := mins { n with right := f n.right } c.nodes l }).settle j

/-- Bytes of a Reel written into a region's new slot (R262): performed only where they land; consumed either way. -/
def State.reelPut (s : State) (j : Nat) (r : ReelSt) (region off a : Nat) (body : List Byte) (src : Nat) : State :=
  let (s, done) := s.collPut j a body (s.holderCtx j)
  let s := if done then s.setReel j { r with got := (region, off, body.length) :: r.got } else s
  s.consumeOn j src 1 (BitVec.ofNat 16 r.desc.step, BitVec.ofNat 16 region) true

/-- The RECEIVE move that a Reel's segment belongs to: from its peer, into its region, within its bytes. -/
def ReelSt.move (r : ReelSt) (p : Packet) : Option ReelMove :=
  r.receives.find? fun m => entryAddrOf m.peer == p.src.toNat && m.region == p.bucket.toNat &&
    decide (m.offset ≤ p.target) && decide (p.target + p.payload.length ≤ m.offset + m.bytes)

/-- A GATHER packet of a Reel (R262, R263): late after the vote, dropped where the holder's part is over or no move lists it,
and otherwise written at NEW_BASE + TARGET, or held (R238). -/
def State.reelData (s : State) (j : Nat) (r : ReelSt) (p : Packet) : State :=
  let base := (r.regions.find? fun x => x.region == p.bucket.toNat).map fun x => x.base
  if r.decided then s.lateDrop j p
  else if r.part ≠ .live then s.collDrop.consumePkt j p
  else
    match r.move p, base with
    | some m, some b =>
      let a := b + p.target
      if r.got.contains (m.region, p.target, p.payload.length) || (mfind r.held a).isSome then s.lateDrop j p
      else if s.mustHold j a || (!r.held.isEmpty && decide (hbmEnd ≤ a)) then
        s.setReel j { r with held := mins (m.region, p.target, p.payload, pktStream p) r.held a }
      else s.reelPut j r m.region p.target a p.payload (pktStream p)
    | _, _ => s.collDrop

/-- The Reel that a GATHER packet belongs to: of its STEP, with a RECEIVE of the region that BUCKET names. -/
def State.reelFor (s : State) (j : Nat) (p : Packet) : Option ReelSt :=
  if p.type = 4 ∧ (s.collCtx j (collKey p.step p.bucket)).isNone then
    match s.reelOf j p.step with
    | some r => if r.receives.any fun m => m.region == p.bucket.toNat then some r else none
    | none => none
  else none

/-- A data segment that comes down to a context which has no operation of its own: it is passed on; a vote counts it, one
whose holder is gone drops it, and any other keeps it until the operation is issued. -/
def State.passSegment (s : State) (j : Nat) (c : CollCtx) (p : Packet) : State :=
  let now := (c.upSeen || c.vote) && p.type == 3
  let c' := { c with got := p.target :: c.got }
  if s.aboveOk j c p = false then s.collDrop
  else if c.got.contains p.target then s.lateDrop j p
  else
    let s := if now then s.sendDown j c p.target p.payload false else s
    if c.vote then (s.consumePkt j p).setCtx j c'
    else if c.detached then (s.collDrop.consumePkt j p).setCtx j c'
    else s.setCtx j { c with raw := c.raw ++ [(p, now)] }

/-- A data segment of a result, broadcast, gather or Hora. -/
def State.fromAbove (s : State) (j : Nat) (p : Packet) : State :=
  match s.reelFor j p with
  | some r => s.reelData j r p
  | none =>
    if s.isLate j p then s.lateDrop j p
    else if s.canOpen j p = false then s.collDrop
    else
      let c := s.openCtx j p.step p.bucket
      (match c.desc with
        | some d => s.takeSegment j c d p false
        | none => s.passSegment j c p).settle j

/-- COLL_DATA_SEGMENT (R237, R240, R245, R246, R258, R262, R265). A control packet of a reserved KIND is dropped here. -/
def collDataSegmentEff (p : Packet) (s : State) : State :=
  s.withSlot p fun j =>
    let w := readCtl p
    if isCtl p then (if w.kind = 0 ∨ 6 < w.kind then s.collDrop else s)
    else
      match p.type.toNat with
      | 2 => s.fromChild j p fun h => { h with segs := mins p.payload h.segs (p.target / 4096) }
      | 3 => s.fromAbove j p
      | 4 => s.fromAbove j p
      | _ => s

/-- A control packet of a kind. -/
def State.withCtl (s : State) (p : Packet) (kind : Nat) (f : Nat → Ctl → State) : State :=
  if isCtl p && (readCtl p).kind == kind then s.withSlot p fun j => f j (readCtl p) else s

/-- OPEN (R241). -/
def openPacketEff (p : Packet) (s : State) : State :=
  s.withCtl p 1 fun j w => s.fromChild j p fun h => { h with opened := some (w.count, w.elements) }

/-- Sending on what a window now allows. -/
def State.pumpOut (s : State) (j k : Nat) : State := sendQueue j k (s.window j) ((s.cs j).out k).queue s

/-- WINDOW (R247): the consumed count, modulo 2^32. -/
def windowPacketEff (p : Packet) (s : State) : State :=
  s.withCtl p 2 fun j w =>
    let k := pktStream p
    let o := (s.cs j).out k
    let acked := o.acked + (w.consumed + 2 ^ 32 - o.acked % 2 ^ 32) % 2 ^ 32
    if (mfind (s.cs j).outs k).isNone ∨ o.sent < acked then s.collDrop
    else
      let s := ((s.modCs j fun x => x.setOut k { o with acked := acked }).pumpOut j k).settle j
      pollHoras j (s.cs j).ctxs s

/-! ## Exclusion and carry (R254, R255) -/

/-- The contribution's data copied to the carry buffer. -/
def carryBytes (c : CollCtx) (d : CollDesc) : List Byte :=
  (List.range (segCount (4 * d.length))).flatMap fun k =>
    let n := segSize (4 * d.length) k
    match c.own.free with
    | some f => (List.range n).map fun i => Config.freeByte f (4096 * k + i)
    | none => (mget [] c.own.data k ++ List.replicate n 0#8).take n

/-- An excluded contribution that was staged in time is copied to its carry buffer (R255); answers whether it was. -/
def State.carryOut (s : State) (j : Nat) (c : CollCtx) : State × Bool :=
  match c.desc, c.own.stagedAt, s.collDeadline j c.step with
  | some d, some b, some D =>
    if b ≤ D + s.rdN (jsKey j 0x0F) ∧ d.areaB ≠ 0 ∧ c.carriedOut = false ∧
        s.inGroupMem (s.holder j) d.areaB (4 * d.length) = true then
      let s := (s.writeBytes d.areaB (carryBytes c d)).count (jsKey j 0x1B) 1
      (s.modCs j fun x => { x with carries := mins d.areaB x.carries d.bucket }, true)
    else (s, false)
  | _, _, _ => (s, false)

/-- A context's excluded contribution carried, where it was staged in time. -/
def State.tryCarry (s : State) (j : Nat) (c : CollCtx) : State :=
  let (s, done) := s.carryOut j c
  if done then s.setCtx j { c with carriedOut := true } else s

/-- The own contribution excluded. -/
def State.excludeOwn (s : State) (j k : Nat) : State :=
  match s.collCtx j k with
  | none => s
  | some c =>
    let c := { c with selfExcluded := true, own := { c.own with gone := true } }
    (s.setCtx j c).tryCarry j c

/-- A span of this device excluded up to level `v`: the notice goes down, what the span's nodes hold is late. -/
def State.excludeSpan (s : State) (j k v : Nat) : State :=
  match s.collCtx j k with
  | none => s
  | some c =>
    let r := s.cRank j c
    let R := s.cRanks j c
    let levels := ((List.range v).reverse.map fun i => i + 1).filter fun l => decide (l ≤ topLevel r R)
    let s := levels.foldl (fun s l =>
      match rightRank r l R with
      | none => s
      | some q =>
        let e := s.cEntry j c q
        let n := (mget CNode.fresh c.nodes l).right.segs.length
        ((s.collInject j (s.collCtl j e 3 c.step c.bucket (ctlWord 3 0 (l - 1) 0 0 0))).count (jsKey j 0x18) n).consume
          j (streamKey e 2) e n (c.step, c.bucket) true) s
    let nodes := levels.foldl (fun m l =>
      let n := mget CNode.fresh m l
      mins { n with right := { n.right with segs := [] } } m l) c.nodes
    let cut := match c.cut with
      | some u => max u v
      | none => v
    (s.setCtx j { c with nodes := nodes, cut := some cut, upSeen := true }).excludeOwn j k

/-- EXCLUDED (R254, R255). -/
def excludedPacketEff (p : Packet) (s : State) : State :=
  s.withCtl p 3 fun j w =>
    if s.isLate j p then s.lateDrop j p
    else if s.canOpen j p = false then s.collDrop
    else
      let c := s.openCtx j p.step p.bucket
      if s.fromTree j c p = false then s.collDrop
      else ((s.setCtx j c).excludeSpan j c.key w.level).settle j

/-- SOFT_DEADLINE (R251, R254): a bounded-loss node excludes each child of which nothing has arrived. -/
def softDeadlineEff (j : JobSlot) (step : Tag) (bucket : BitVec 16) (level : Nat) (s : State) : State :=
  let k := collKey step bucket
  match s.collCtx j k, s.collDeadline j step with
  | some c, some D =>
    let due := s.bounded j && decide (D + (level - 1) * s.rdN (jsKey j 0x0D) ≤ s.beatIx) && decide (1 ≤ level) &&
      decide (level ≤ s.cTop j c) && c.goesUp && !c.upDone && !(match c.cut with
        | some v => decide (level ≤ v)
        | none => false)
    if due = false then s
    else
      let n := mget CNode.fresh c.nodes level
      let absent (h : Child) : Bool := h.opened.isNone && h.segs.isEmpty && !h.excluded
      let pair := rightRank (s.cRank j c) level (s.cRanks j c)
      let exL := absent n.left
      let exR := absent n.right && pair.isSome
      let n := { n with
        left := { n.left with excluded := n.left.excluded || exL },
        right := { n.right with excluded := n.right.excluded || exR } }
      let s := (s.setCtx j { c with nodes := mins n c.nodes level }).count (jsKey j 0x17) (b2n exL + b2n exR)
      let s := match pair with
        | some q =>
          if exR then
            s.collInject j (s.collCtl j (s.cEntry j c q) 3 c.step c.bucket (ctlWord 3 0 (level - 1) 0 0 0))
          else s
        | none => s
      (if exL then s.excludeSpan j k (level - 1) else s).settle j
  | _, _ => s

/-! ## Staging (R248, R256) -/

/-- The whole contribution as it is staged: by segment. -/
def State.stageData (s : State) (c : CollCtx) (d : CollDesc) : SMap (List Byte) :=
  (List.range (segCount (4 * d.length))).map fun k =>
    let n := segSize (4 * d.length) k
    (k, if d.kind then (mget [] c.own.data k ++ List.replicate n 0#8).take n
        else s.readBytes (d.source + 4096 * k) n)

/-- Whether the staging of a context's contribution may complete: an ALL_REDUCE that is staged, with every byte there. -/
def State.stagesNow (s : State) (j : Nat) (c : CollCtx) (d : CollDesc) : Bool :=
  d.op == 0 && !c.vote && !c.detached && s.staged j && c.own.stagedAt.isNone &&
    !(d.kind && decide (covered c.own.got 0 (4 * d.length) < 4 * d.length))

/-- The contribution of a context as it stands staged now. -/
def State.stagedNow (s : State) (c : CollCtx) (d : CollDesc) : CollCtx :=
  { c with own := { c.own with data := s.stageData c d, stagedAt := some s.beatIx } }

/-- The staging area after a contribution has been written to it, in a layout that is not published. -/
def State.stageFree (s : State) (j : Nat) : State := s.freeMem (s.rdN (jsKey j 0x0A)) (s.rdN (jsKey j 0x0B) * 2 ^ 20)

/-- A staged contribution is sent (R256): empty where NAN_POLICY is EXCLUDE and it holds a NaN; its carry then waits for the
next contribution. -/
def State.stagedSend (s : State) (j : Nat) (c : CollCtx) (d : CollDesc) : State :=
  let nan := decide (s.rdN (jsKey j 6) = 1) && c.own.data.any fun x => (segWords x.2).any wordNan
  let own := { c.own with ready := true, empty := nan, carry := if nan then none else c.own.carry }
  let s := s.setCtx j { c with own := own }
  let s := if nan then s.count (jsKey j 0x19) 1 else s
  match nan, c.own.carry with
  | true, some a => s.modCs j fun x => { x with carries := mins a x.carries d.bucket }
  | _, _ => s

/-- STAGING_COMPLETE (R248, R255, R256), also of an excluded contribution whose context has ended. -/
def stagingCompleteEff (j : JobSlot) (step : Tag) (bucket : BitVec 16) (s : State) : State :=
  let k := collKey step bucket
  match s.collCtx j k, mfind (s.cs j).late k with
  | some c, _ =>
    match c.desc with
    | none => s
    | some d =>
      if s.stagesNow j c d = false then s
      else
        let c := s.stagedNow c d
        let s := (s.stageFree j).setCtx j c
        if c.selfExcluded then s.tryCarry j c else (s.stagedSend j c d).settle j
  | none, some c =>
    match c.desc with
    | none => s
    | some d =>
      if s.stagesNow j c d = false then s
      else (((s.stageFree j).carryOut j (s.stagedNow c d)).1).modCs j fun x => { x with late := mdel x.late k }
  | none, none => s

/-- Bytes written into captured segments. -/
def putBytes : List Byte → Nat → SMap (List Byte) → SMap (List Byte)
  | [], _, m => m
  | b :: bs, o, m =>
    let seg := mget [] m (o / 4096)
    let seg := if seg.isEmpty then List.replicate 4096 0#8 else seg
    putBytes bs (o + 1) (mins (seg.set (o % 4096) b) m (o / 4096))

/-- Bytes that walnut drains have delivered to a contribution: bytes delivered twice leave it free (R248). -/
def Own.deliver (o : Own) (off : Nat) (body : List Byte) (free : Nat) : Own :=
  let hi := off + body.length
  { o with
    got := (off, hi) :: o.got, data := putBytes body off o.data,
    free := if decide (0 < covered o.got off hi) && o.free.isNone then some free else o.free }

/-- Bytes that a walnut drain delivers to a bucket; `none` while they would go beyond the window, or while the context
cannot open (R248, R249). -/
def State.bucketDeliver (s : State) (b : BucketDest) (body : List Byte) : Option State :=
  let j := b.slot.val
  let k := collKey b.step b.bucket
  let f := s.freeCtr
  let s' := { s with freeCtr := s.freeCtr + 1 }
  if s.jsState j ≠ 2 then some s.collDrop
  else
    match s.collCtx j k, mfind (s.cs j).late k with
    | none, some c =>
      some (s'.modCs j fun x => { x with late := mins { c with own := c.own.deliver b.offset body f } x.late k })
    | old, _ =>
      let c := s.openCtx j b.step b.bucket
      if old.isNone ∧ 256 ≤ (s.cs j).ctxs.length then none
      else if body.isEmpty then some s
      else if c.detached || (c.own.gone && !s.staged j) then some s.collDrop
      else if s.staged j = false ∧ c.own.next + s.window j < segCount (b.offset + body.length) then none
      else some ((s'.setCtx j { c with own := c.own.deliver b.offset body f }).settle j)

/-! ## Aborts, results and deadlines (R246, R250 to R253, R259) -/

/-- ABORT (R252): passed on to this device's part of the tree. -/
def abortPacketEff (p : Packet) (s : State) : State :=
  s.withCtl p 4 fun j _ =>
    if s.isLate j p then s.lateDrop j p
    else
      let c := s.openCtx j p.step p.bucket
      if s.fromTree j c p = false then s.collDrop
      else
        let s := s.sendDown j c ctlTarget p.payload true
        (s.abortCtx j c 1).settle j

/-- RESULT (R246, R263). -/
def resultPacketEff (p : Packet) (s : State) : State :=
  s.withCtl p 5 fun j _ =>
    if s.isLate j p then s.lateDrop j p
    else if s.canOpen j p = false ∨ p.type ≠ 3 then s.collDrop
    else
      let c := s.openCtx j p.step p.bucket
      if c.desc.isSome || c.vote || c.detached then (s.takeResult j c p false).settle j
      else
        let now := c.upSeen
        if s.aboveOk j c p = false then s.collDrop
        else
          let s := if now then s.sendDown j c ctlTarget p.payload false else s
          s.setCtx j { c with raw := c.raw ++ [(p, now)] }

/-- HORA_FREE (R266). -/
def horaFreeEff (p : Packet) (s : State) : State :=
  s.withCtl p 6 fun j _ =>
    let k := collKey p.step p.bucket
    match s.collCtx j k with
    | none => s.collDrop
    | some c =>
      match c.desc with
      | none => s.collDrop
      | some d =>
        if d.op ≠ 4 ∨ s.isRing j c true p = false then s.collDrop
        else (s.setCtx j { c with horaFrees := c.horaFrees + 1 }).pollHora j k c d

/-- HORA_BUFFER_RELEASE (R266). -/
def horaBufferReleaseEff (c : Core) (j : JobSlot) (step : Tag) (bucket : BitVec 16) (s : State) : State :=
  let k := collKey step bucket
  if s.coreRuns c = false ∨ s.holder j ≠ s.lead (c.val / 16) then s
  else
    match s.collCtx j k with
    | none => s
    | some x =>
      match x.desc with
      | none => s
      | some d =>
        if d.op ≠ 4 then s else (s.setCtx j { x with horaReleased := x.horaReleased + 1 }).pollHora j k x d

/-- The context that a deadline of an ALL_REDUCE or a vote concerns: one that is open, or the vote of an undecided Reel. -/
def State.deadlineCtx (s : State) (j : Nat) (step : Tag) (bucket : BitVec 16) : Option CollCtx :=
  match s.collCtx j (collKey step bucket) with
  | some c => if c.goesUp || c.vote then some c else none
  | none =>
    let c := s.openCtx j step bucket
    if c.vote then some c else none

/-- HARD_DEADLINE (R251, R252). -/
def hardDeadlineEff (j : JobSlot) (step : Tag) (bucket : BitVec 16) (s : State) : State :=
  match s.deadlineCtx j step bucket with
  | none => s
  | some c =>
    match s.hardBeat j c with
    | none => s
    | some h =>
      if s.beatIx < h ∨ s.cRank j c ≠ 0 ∨ c.upDone = true then s
      else
        let s := s.sendDown j c ctlTarget (ctlWord 4 0 0 0 0 0) true
        (s.abortCtx j c 1).settle j

/-- ORPHAN_DEADLINE (R251). -/
def orphanDeadlineEff (j : JobSlot) (step : Tag) (bucket : BitVec 16) (s : State) : State :=
  match s.deadlineCtx j step bucket with
  | none => s
  | some c =>
    match s.hardBeat j c with
    | none => s
    | some h =>
      if s.beatIx < h + s.rdN (jsKey j 0x0E) ∨ c.decided = true then s
      else (s.abortCtx j c 2).settle j

/-- The result segments that come down through this device: those that an extent of its span wants (R246). -/
def State.passSegs (s : State) (j : Nat) (c : CollCtx) (d : CollDesc) : Nat :=
  let r := s.cRank j c
  ((List.range (segCount (4 * d.length))).filter fun i =>
    s.spanWants j c r (s.cTop j c + 1) (4096 * i) (segSize (4 * d.length) i)).length

/-- Whether all that comes down in an ALL_REDUCE or a broadcast has been passed on (log entry 106). -/
def State.passedOn (s : State) (j : Nat) (c : CollCtx) (d : CollDesc) : Bool :=
  c.result.isSome && ((s.downSelf j c).1 == 0 || decide (s.passSegs j c d ≤ c.got.length))

/-- Whether every byte that an operation expects has been performed. -/
def State.bytesDone (s : State) (j : Nat) (c : CollCtx) (d : CollDesc) : Bool :=
  c.held.isEmpty &&
  match d.op with
  | 0 => c.upDone && s.passedOn j c d && decide (s.expectSegs j c d ≤ c.perfSegs)
  | 1 => s.passedOn j c d && decide (s.expectSegs j c d ≤ c.perfSegs)
  | 2 => decide (4 * (extentCounts s.mem d.areaA (s.cRanks j c)).sum ≤ c.perfBytes)
  | 4 => (List.range (horaTransfers (s.cRanks j c) d)).all fun t => c.horaBytes d t == d.length
  | _ => false

/-- Whether an operation is done: its bytes are there, and the last block of a Hora has been released (R265). -/
def State.opDone (s : State) (j : Nat) (c : CollCtx) (d : CollDesc) : Bool :=
  s.bytesDone j c d && (d.op != 4 || decide (s.cRanks j c ≤ c.horaReleased))

/-- Whether this device's part in a bucket whose holder is gone is over: everything has been passed on (R267). -/
def State.serviceDone (s : State) (j : Nat) (c : CollCtx) (d : CollDesc) : Bool :=
  decide (d.op ≤ 1) && (d.op == 1 || c.upDone) && s.passedOn j c d

/-- BUCKET_DONE (R243, R250). -/
def bucketDoneEff (j : JobSlot) (step : Tag) (bucket : BitVec 16) (s : State) : State :=
  match s.collCtx j (collKey step bucket) with
  | none => s
  | some c =>
    match c.desc with
    | none => s
    | some d =>
      if c.vote then s
      else if c.detached then (if s.serviceDone j c d then (s.endCtx j c false).settle j else s)
      else if s.opDone j c d = false then s
      else
        let s := s.finishCtx j c 0
        (if c.outcome.1 && d.op == 0 then s.event (s.holder j) 2 else s).settle j

/-- COLLECTIVE_DEADLINE (R259). -/
def collectiveDeadlineEff (j : JobSlot) (step : Tag) (bucket : BitVec 16) (s : State) : State :=
  match s.collCtx j (collKey step bucket) with
  | none => s
  | some c =>
    match c.desc with
    | none => s
    | some d =>
      if d.op = 0 ∨ c.vote = true ∨ s.bytesDone j c d = true ∨ s.beatIx < d.deadline then s
      else (if c.detached then s.endCtx j c true else s.finishCtx j c 5).settle j

/-! ## Held deliveries (R238) -/

/-- Held segments of a context written in offset order, and consumed. -/
def flushSegs (j k : Nat) : SMap (Nat × List Byte × Nat) → State → State
  | [], s => s
  | (off, a, bs, src) :: rest, s =>
    match s.collCtx j k with
    | none => s
    | some c =>
      let isHora := match c.desc with
        | some d => d.op == 4
        | none => false
      let (s, done) := s.collPut j a bs (s.holderCtx j)
      let c := { c with held := mdel c.held off }
      let s := s.setCtx j (if done then c.performed off bs.length isHora else c)
      flushSegs j k rest (if src = 0 then s else s.consumeOn j src 1 (c.step, c.bucket) true)

/-- Held bytes of a Reel written, in address order. -/
def flushReel (j : Nat) (step : Tag) : SMap (Nat × Nat × List Byte × Nat) → State → State
  | [], s => s
  | (a, region, off, bs, src) :: rest, s =>
    match s.reelOf j step with
    | none => s
    | some r =>
      let r := { r with held := mdel r.held a }
      flushReel j step rest ((s.setReel j r).reelPut j r region off a bs src)

/-- Held bytes of every Reel of a slot written. -/
def flushReels (j : Nat) : List ReelSt → State → State
  | [], s => s
  | r :: rest, s => flushReels j rest (flushReel j (BitVec.ofNat 16 r.desc.step) r.held s)

/-- Held status records written, or held again where their own context is not RESIDENT. -/
def flushRecords (j : Nat) : List CollRecord → State → State
  | [], s => s
  | r :: rest, s => flushRecords j rest (s.collStatus j r)

/-- Held segments of every context of a slot written. -/
def flushCtxs (j : Nat) : List (Nat × CollCtx) → State → State
  | [], s => s
  | (k, c) :: rest, s => flushCtxs j rest (flushSegs j k c.held s)

/-- Every held byte of a slot delivered (R238): segments in offset order and what Reels hold. -/
def State.flushHeld (s : State) (j : Nat) : State :=
  let s := flushCtxs j (s.cs j).ctxs s
  flushReels j ((s.cs j).reels.map Prod.snd) s

/-- HELD_DELIVERY_FLUSH (R238): in offset order once the context is RESIDENT, then the status records. -/
def heldDeliveryFlushEff (j : JobSlot) (s : State) : State :=
  let s := if (s.holderCtx j).state = .resident then s.flushHeld j else s
  let recs := (s.cs j).records
  let s := flushRecords j recs (s.modCs j fun x => { x with records := [] })
  (pollHoras j (s.cs j).ctxs s).settle j

/-! ## Reel (R262, R263) -/

/-- Whether every RECEIVE byte of a Reel has been performed. -/
def ReelSt.received (r : ReelSt) : Bool :=
  r.held.isEmpty && decide ((r.receives.map fun m => m.bytes).sum ≤ (r.got.map fun g => g.2.2).sum)

/-- REEL_READY (R262): a Reel that is COPYING and has every byte becomes READY. -/
def reelReadyEff (j : JobSlot) (s : State) : State :=
  match ((s.cs j).reels.map Prod.snd).find? fun r => !r.decided && r.state == 1 && r.part == .live && r.received with
  | none => s
  | some r => s.reelState j { r with readyAt := some s.beatIx } 2

/-- The vote's descriptor: one element, SUM. -/
def voteDesc (r : ReelSt) : CollDesc :=
  { r.desc with length := 1, op := 0, redOp := 0, scope := false, kind := true, bucket := 0xFFFF }

/-- Whether a Reel votes now: its commit beat has come, and it was READY by then. -/
def ReelSt.votes (r : ReelSt) (beat : Nat) : Bool :=
  !r.decided && r.state == 2 && r.part == .live && decide (r.desc.deadline ≤ beat) &&
    match r.readyAt with
    | some b => decide (b ≤ r.desc.deadline)
    | none => false

/-- REEL_VOTE (R263): a READY device contributes 1.0 at the commit beat. -/
def reelVoteEff (j : JobSlot) (s : State) : State :=
  match ((s.cs j).reels.map Prod.snd).find? fun r => r.votes s.beatIx with
  | none => s
  | some r =>
    let s := s.reelState j r 3
    let c := s.openCtx j (BitVec.ofNat 16 r.desc.step) 0xFFFF#16
    let o := { Own.fresh with ready := true, data := [(0, leBytes 4 0x3F800000)], stagedAt := some s.beatIx }
    (s.setCtx j { c with desc := some (voteDesc r), own := o }).settle j

/-! ## Teardown and reset in flight (R267) -/

/-- The packets of a context that are this device's own part: dropped while they wait. -/
def State.ownPacket (s : State) (j : Nat) (c : CollCtx) (p : Packet) : Bool :=
  match c.desc with
  | some d =>
    match d.op with
    | 2 =>
      let e := extentOf (extentCounts s.mem d.areaA (s.cRanks j c)) (s.cRank j c)
      decide (e.1 ≤ p.target) && decide (p.target < e.2)
    | 4 => true
    | _ => false
  | none => false

/-- Whether a context stays open for others when its holder's part is over: a vote, a tree node, and what only passes
through. -/
def State.staysOn (s : State) (j : Nat) (c : CollCtx) : Bool :=
  c.vote || match c.desc with
    | some d => d.op != 1 || (s.downSelf j c).1 != 0
    | none => c.upSeen

/-- A context whose holder partition is gone: its contribution stops and its deliveries are dropped; a torn-down one ends
ABORTED with code TORN_DOWN. -/
def detachCtx (j : Nat) (torn : Bool) (c : CollCtx) (s : State) : State :=
  if c.vote || c.detached then s
  else
    let s := match c.desc with
      | some d =>
        if torn then (s.count (jsKey j 0x16) (if d.op = 0 then 1 else 0)).collTorn j (s.ctxRecord j c d 4) else s
      | none => s
    let s := c.held.foldl (fun s h => s.collDrop.consumeOn j h.2.2.2 1 (c.step, c.bucket) true) s
    let c := { c with detached := true, held := [], own := { c.own with gone := true } }
    if s.staysOn j c then
      let f := s.ownPacket j c
      (s.setCtx j c).modCs j fun x => x.purge c f
    else s.endCtx j c true

/-- A Reel whose holder partition is gone (R264, R267): what it holds is dropped; a reset clears the version table, so that
no slot is left to decide. -/
def detachReel (j : Nat) (torn : Bool) (r : ReelSt) (s : State) : State :=
  if r.decided then s
  else
    let s := if torn && r.part == .live then s.collTorn j (s.reelRecord j r 4 0) else s
    let s := consumeReel j r (r.held.foldl (fun s _ => s.collDrop) s)
    s.setReel j { r with
      part := if torn then .torn else .reset, held := [], regions := if torn then r.regions else [] }

/-- A slot's part for a holder that is gone: open contexts, Reels, waiting contributions and held records. -/
def State.detachSlot (s : State) (j : Nat) (torn : Bool) : State :=
  let x := s.cs j
  let s := x.ctxs.foldl (fun s c => detachCtx j torn c.2 s) s
  let s := x.reels.foldl (fun s r => detachReel j torn r.2 s) s
  let s := if torn then x.waiting.foldl (fun s w => s.collTorn j (s.waitRecord j w.desc 4)) s else s
  s.modCs j fun x => { x with records := [], waiting := [], late := [] }

/-- Every open context of the slots held by a group, at teardown step 4 or at a partition reset (R267). -/
def State.detachColl (s : State) (lead : Nat) (torn : Bool) (only : Nat → Bool) : State :=
  (List.range 128).foldl (fun s j =>
    if s.holder j = lead ∧ 2 ≤ s.jsState j ∧ only j = true then s.detachSlot j torn else s) s

/-! ## Gates and status (R116, R250, R468) -/

/-- Whether the operation form of a COLLECTIVE gate of a group is satisfied (R116, R253, R265): its operation has ended, but
not as a reduction that was aborted. -/
def State.collGate (s : State) (lead j key : Nat) (hora : Option Nat) : Bool :=
  (s.cs j).refusals.contains (lead, key) ||
  (s.holder j == lead &&
    match mfind (s.cs j).finished key with
    | some (op, code) => op != 255 && !(op == 0 && (code == 1 || code == 2))
    | none =>
      match hora, s.collCtx j key with
      | some st, some c =>
        match c.desc with
        | some d => d.op == 4 && (st == 0 || c.horaBytes d (st - 1) == d.length)
        | none => false
      | _, _ => false)

/-- Whether a COLLECTIVE gate of a group is voided by an abort of its reduction (R253). -/
def State.collVoided (s : State) (lead j key : Nat) : Bool :=
  s.holder j == lead &&
  match mfind (s.cs j).finished key with
  | some (op, code) => (op == 0 || op == 255) && (code == 1 || code == 2)
  | none => false

/-- Whether the bucket form of a COLLECTIVE gate is satisfied: `reserved` segments are reserved by other tiles (R468). -/
def State.bucketGate (s : State) (j key q reserved : Nat) : Bool :=
  match s.collCtx j key with
  | none => decide ((s.cs j).ctxs.length < 256) && decide (segCount q + reserved ≤ s.window j)
  | some c =>
    let delivered := c.own.got.foldl (fun a g => max a (segCount g.2)) 0
    decide (delivered - c.own.next + segCount q + reserved ≤ s.window j)

/-- CTX_STATUS of the context that CTX_SELECT names (R250, R271): a context stands DONE or ABORTED while its record is held. -/
def State.ctxStatus (s : State) (j : Nat) : Nat :=
  let k := s.rdN (jsKey j 0x13)
  match s.collCtx j k with
  | some c => if c.detached then 0 else (if c.upDone then 2 else 1) * 2 ^ 61 + c.word
  | none =>
    match (s.cs j).records.find? fun r => r.key == k && r.op != 3 with
    | some r => (if r.code = 0 then 3 else 4) * 2 ^ 61 + r.word
    | none => 0

/-- DL_BEAT of the step that DL_STEP names (R271). -/
def State.dlBeat (s : State) (j : Nat) : Nat :=
  match (s.cs j).deadlines.find? fun d => d.1 == s.rdN (jsKey j 0x10) with
  | some d => d.2
  | none => 0

end Sys2Proof.Machine
end

