-- ==== Sys2Proof/Machine/Dma.lean ====
section
/-! DEFINITION. The DMA engines: windows, promotion, bursts, fences, stops, and the receiver of peer writes (R157 to R173,
R195, R368, R369). -/

namespace Sys2Proof.Machine

/-! ## Descriptors (R162) -/

/-- Field of `len` bits at bit `lo` of a descriptor. -/
def df (d : BitVec 512) (lo len : Nat) : Nat := d.toNat / 2 ^ lo % 2 ^ len

/-- A signed 32-bit field. -/
def dfInt (d : BitVec 512) (lo : Nat) : Int := (BitVec.ofNat 32 (df d lo 32)).toInt

/-- A descriptor with a field replaced. -/
def dset (d : BitVec 512) (lo len v : Nat) : BitVec 512 :=
  BitVec.ofNat 512 (d.toNat - df d lo len * 2 ^ lo + v % 2 ^ len * 2 ^ lo)

/-- SRC_SPACE. -/
def dSrcSpace (d : BitVec 512) : Nat := df d 48 2
/-- DST_SPACE. -/
def dDstSpace (d : BitVec 512) : Nat := df d 112 2
/-- LENGTH. -/
def dLength (d : BitVec 512) : Nat := df d 128 32
/-- ROWS. -/
def dRows (d : BitVec 512) : Nat := df d 160 24
/-- PRIORITY. -/
def dPriority (d : BitVec 512) : Nat := df d 320 2
/-- MODE CIRCULAR. -/
def dCircular (d : BitVec 512) : Bool := d.getLsbD 322
/-- ARRIVE. -/
def dArrive (d : BitVec 512) : Nat := df d 325 2
/-- CTX_ID. -/
def dCtx (d : BitVec 512) : Nat := df d 296 8

/-- The bits of a descriptor that are not reserved (R162, R11). -/
def descMask : BitVec 512 :=
  BitVec.ofNat 512 ((2 ^ 50 - 1) + (2 ^ 50 - 1) * 2 ^ 64 + (2 ^ 56 - 1) * 2 ^ 128 + (2 ^ 100 - 1) * 2 ^ 192
    + (2 ^ 16 - 1) * 2 ^ 296 + (2 ^ 8 - 1) * 2 ^ 320)

/-- Whether a descriptor holds a reserved encoding (R162). -/
def descReserved (d : BitVec 512) : Bool :=
  decide (2 ≤ dSrcSpace d) || dDstSpace d == 3 || dArrive d == 3

/-- The start of row `r` on the source or destination side (R162). -/
def dRowAt (d : BitVec 512) (dst : Bool) (r : Nat) : Int :=
  if dst then (df d 64 48 : Int) + r * dfInt d 224 else (df d 0 48 : Int) + r * dfInt d 192

/-- The extent of a side: lowest byte and the byte past the highest (R164). -/
def dExtent (d : BitVec 512) (dst : Bool) : Int × Int :=
  let a := dRowAt d dst 0
  let b := dRowAt d dst (dRows d - 1)
  (min a b, max a b + dLength d)

/-! ## Channels -/

/-- A channel's key. -/
def chanKey (c : ChanId) : Nat := c.part.val * 32 + c.eng.val * 16 + c.ch.val

/-- A channel. -/
def State.chan (s : State) (k : Nat) : DmaCh := mget DmaCh.reset s.dma k

/-- Setting a channel. -/
def State.setChan (s : State) (k : Nat) (x : DmaCh) : State := { s with dma := mset DmaCh.reset s.dma k x }

/-- Changing a channel. -/
def State.modChan (s : State) (k : Nat) (f : DmaCh → DmaCh) : State := s.setChan k (f (s.chan k))

/-- Whether a transfer is active. -/
def DmaCh.busy (x : DmaCh) : Bool := x.state == .ready || x.state == .running

/-- BYTES_LEFT (R159). -/
def DmaCh.left (x : DmaCh) : Nat :=
  if x.busy then dRows x.active * dLength x.active - (x.wrow * dLength x.active + x.wcol) else 0

/-- STAGED: bytes read and not yet written (R159). -/
def DmaCh.stagedBytes (x : DmaCh) : Nat := (x.staged.map List.length).sum

/-- A channel at the start of a pass, with nothing staged. -/
def DmaCh.rewound (x : DmaCh) : DmaCh :=
  { x with row := 0, col := 0, staged := [], wrow := 0, wcol := 0, stopping := false, flushing := false, halfDone := false }

/-- The code of a channel state (R158). -/
def DmaState.code : DmaState → Nat
  | .idle => 0
  | .ready => 1
  | .running => 2
  | .halted => 3

/-- STATUS (R159). -/
def DmaCh.status (x : DmaCh) : Nat :=
  x.lastCode * 2 ^ 24 + b2n x.fault * 2 ^ 23 + x.state.code * 2 ^ 20 + b2n x.armed * 2 ^ 19 + b2n x.evError * 16 +
    b2n x.evArrive * 8 + b2n x.evFull * 4 + b2n x.evHalf * 2

/-- The function a program's start uses: the partition's VF where it exists, else the PF (R368). -/
def State.partFn (s : State) (p : Nat) : Nat := if s.vfExists (p + 1) then p + 1 else 0

/-- Whether the channel belongs to the loader and the server (R294). -/
def State.servesChan (s : State) (k : Nat) : Bool := k % 32 == 31 && s.serves (k / 32)

/-! ## Endings (R170) -/

/-- An ending with an error: what is staged is discarded, and the channel is HALTED, counted, with the events of R170. -/
def State.dmaHalt (s : State) (k code : Nat) (fault : Bool) : State :=
  let s := s.modChan k fun x =>
    { x.rewound with state := .halted, lastCode := code, fault := fault, evError := true, halfDone := x.halfDone }
  let s := s.count32Sat (pKey (k / 32) 0xA4) 1
  if fault then s.partFault (k / 32) else s

/-- An ending without halt: OK, STOPPED or TORN_DOWN. -/
def State.dmaEnd (s : State) (k code : Nat) : State :=
  s.modChan k fun x => { x.rewound with state := .idle, lastCode := code, fault := false }

/-- DATA_ERROR at an uncorrectable granule from `a` on: its owner is faulted (R148, R170). -/
def State.dmaDataError (s : State) (k : Nat) : State :=
  (s.dmaHalt k 4 false).modChan k fun x => { x with fault := true }

/-! ## Fences (R166, R167) -/

/-- The DMA interrupt of a partition (R168, R365). -/
def State.dmaIrq (s : State) (k : Nat) (on : Bool) : State := if on then s.event (k / 32) 1 else s

/-- A fence completes: ARRIVE_COUNT, then EV_ARRIVE, then the interrupt (R168). -/
def State.dmaArrived (s : State) (k : Nat) (irq : Bool) : State :=
  (s.modChan k fun x => { x with arrive := x.arrive + 1, evArrive := true }).dmaIrq k irq

/-- Issuing a fence: it covers every write issued before it, and sends a zero-length read to every function whose HOST
writes are among them (R166). `own`: the active transfer's ARRIVE field asks for it. -/
def State.dmaIssueFence (s : State) (k : Nat) (irq own : Bool) : State :=
  let x := s.chan k
  let fns := (x.hostFns ++ x.fences.flatMap DmaFence.host).eraseDups
  let f : DmaFence := ⟨s.beatIx, x.outstanding.map Prod.fst, x.peerRefused, fns, irq, if own then some x.xfer else none⟩
  let s := s.setChan k { x with fences := x.fences ++ [f], peerRefused := false, hostFns := [] }
  fns.foldl (fun s fn => s.emit (.hostFence fn)) s

/-- A fence that the ARRIVE field asks for: a transfer without data completes it at once (R164). -/
def State.dmaOwnFence (s : State) (k : Nat) (empty : Bool) : State :=
  let irq := (s.chan k).active.getLsbD 327
  if empty then s.dmaArrived k irq else s.dmaIssueFence k irq true

/-- The half point (R168): count, EV bit, interrupt, then a fence when ARRIVE names it. -/
def State.dmaHalf (s : State) (k : Nat) (empty : Bool) : State :=
  let d := (s.chan k).active
  let s := (s.modChan k fun x => { x with half := x.half + 1, evHalf := true, halfDone := true }).dmaIrq k (d.getLsbD 323)
  if dArrive d = 2 then s.dmaOwnFence k empty else s

/-- The full point (R168): a ONCE transfer ends, a CIRCULAR one starts its next pass unless a shadow waits (R161, R165). -/
def State.dmaFull (s : State) (k : Nat) (empty : Bool) : State :=
  let d := (s.chan k).active
  let s := (s.modChan k fun x => { x with full := x.full + 1, evFull := true }).dmaIrq k (d.getLsbD 324)
  let s := if dArrive d = 0 then s else s.dmaOwnFence k empty
  if dCircular d && !(s.chan k).armed then s.modChan k DmaCh.rewound
  else s.dmaEnd k 0

/-- A pass that moves no data (R164). -/
def State.dmaEmptyPass (s : State) (k : Nat) : State := (s.dmaHalf k true).dmaFull k true

/-! ## Promotion (R161, R164) -/

/-- Whether a range lies in the walnut range of partition `p`'s group. -/
def State.inGroupWalnut (s : State) (p a n : Nat) : Bool :=
  decide (0x180000000000 ≤ a) && decide (a + n ≤ walnutEnd) &&
  (List.range 16).all fun q =>
    let lo := max a (walnutBase (16 * q))
    let hi := min (a + max n 1) (walnutBase (16 * q + 16))
    decide (hi ≤ lo) || s.sameGroup p q

/-- Whether a LOCAL extent may be touched (R164 check 2). -/
def State.extentOk (s : State) (p : Nat) (e : Int × Int) : Bool :=
  decide (0 ≤ e.1) &&
    (s.inGroupMem p e.1.toNat (e.2 - e.1).toNat || s.inGroupWalnut p e.1.toNat (e.2 - e.1).toNat)

/-- The checks of R164: the failing code and whether it raises a fault. -/
def State.dmaCheck (s : State) (p : Nat) (d : BitVec 512) : Option (Nat × Bool) :=
  let src := dExtent d false
  let dst := dExtent d true
  let ls := dSrcSpace d == 0
  let ld := dDstSpace d == 0
  if descReserved d then some (1, false)
  else if dLength d = 0 ∨ dRows d = 0 then none
  else if (ls && !s.extentOk p src) || (ld && !s.extentOk p dst) then some (2, true)
  else if ld && decide ((walnutBase 0 : Int) ≤ dst.1) then some (2, false)
  else if ls && ld && decide (src.1 < dst.2) && decide (dst.1 < src.2) then some (3, false)
  else none

/-- Promotion of an armed shadow. -/
def State.dmaPromote (s : State) (k : Nat) : State :=
  let x := s.chan k
  let s := s.setChan k { x.rewound with
    armed := false, active := x.shadow, activeFn := x.shadowFn, state := .ready, age := s.ageStamp, xfer := x.xfer + 1 }
  match s.dmaCheck (k / 32) x.shadow with
  | some (code, fault) => s.dmaHalt k code fault
  | none => if dLength x.shadow = 0 ∨ dRows x.shadow = 0 then s.dmaEmptyPass k else s

/-- DMA_PROMOTION (R161). -/
def dmaPromotionEff (ch : ChanId) (s : State) : State :=
  let x := s.chan (chanKey ch)
  if x.armed && x.state == .idle && !s.superseded then s.dmaPromote (chanKey ch) else s

/-! ## Starting and controlling (R159, R160) -/

/-- The offset of a channel's CONTROL word in its partition's command block (R361). -/
def chanCtl (ch : ChanId) : Nat := 0x8000 + 0x100 * (16 * ch.eng.val + ch.ch.val) + 0x80

/-- The function whose path arms a shadow (R368). -/
def viaFn : Via → Nat
  | .pf => 0
  | .vf p => p.val + 1
  | .barzar => 0

/-- ARM (R160, R162). -/
def dmaArmW (s : State) (fn k : Nat) : WR :=
  let x := s.chan k
  if x.armed || x.owner || s.servesChan k then .error .state
  else if descReserved x.shadow then .error .range
  else .ok (s.setChan k { x with armed := true, shadowFn := fn })

/-- DMA_ARM (R160). -/
def dmaArmEff (via : Via) (ch : ChanId) (s : State) : State :=
  s.blockWrite via ch.part (chanCtl ch) (dmaArmW s (viaFn via) (chanKey ch))

/-- A field taken from a parameter register where the start names one (R163). -/
def paramField (x : CoreSt) (p : Option Param) (lo len : Nat) (d : BitVec 512) : Option (BitVec 512) :=
  match p with
  | none => some d
  | some k => if (x.param k).toNat < 2 ^ len then some (dset d lo len (x.param k).toNat) else none

/-- DMA_START (R160, R162, R163): a program loads and arms a program-owned channel, or its tile ends with operand
layout. -/
def dmaStartEff (c : Core) (eng : Fin 2) (ch : Fin 16) (desc : BitVec 512) (srcP dstP lenP rowsP : Option Param)
    (s : State) : State :=
  if s.coreRuns c = false then s
  else
    let p := c.val / 16
    let k := p * 32 + eng.val * 16 + ch.val
    let x := s.core c
    let ch := s.chan k
    let ctx := (s.ctxOf c).getD 0xFF
    let d := (paramField x srcP 0 48 (desc &&& descMask)).bind fun d =>
      (paramField x dstP 64 48 d).bind fun d =>
        (paramField x lenP 128 32 d).bind fun d => paramField x rowsP 160 24 d
    match d with
    | none => s.opFail c stOperandLayout
    | some d =>
      if !ch.owner || ch.armed || descReserved d || s.servesChan k then s.opFail c stOperandLayout
      else s.setChan k { ch with shadow := dset d 296 8 ctx, armed := true, shadowFn := s.partFn p }

/-- STOP (R171): the channel reads no more; it ends without a full point, at once where nothing is staged. -/
def State.dmaStopW (s : State) (k : Nat) : WR :=
  .ok (if (s.chan k).busy = false then s
    else if (s.chan k).staged.isEmpty then s.dmaEnd k 8
    else s.modChan k fun x => { x with stopping := true })

/-- DMA_STOP (R171). -/
def dmaStopEff (via : Via) (ch : ChanId) (s : State) : State :=
  s.blockWrite via ch.part (chanCtl ch) (s.dmaStopW (chanKey ch))

/-- RESUME (R158): the held shadow starts, or the channel becomes IDLE. -/
def State.dmaResumeW (s : State) (k : Nat) : WR :=
  let x := s.chan k
  .ok (if x.state ≠ .halted then s
    else if x.armed then s.dmaPromote k
    else s.setChan k { x with state := .idle })

/-- DMA_RESUME (R158). -/
def dmaResumeEff (via : Via) (ch : ChanId) (s : State) : State :=
  s.blockWrite via ch.part (chanCtl ch) (s.dmaResumeW (chanKey ch))

/-- CLEAR (R159): the shadow is discarded. -/
def State.dmaClearW (s : State) (k : Nat) : WR :=
  let x := s.chan k
  .ok (if x.state = .halted then s.setChan k { x with state := .idle, armed := false } else s)

/-- DMA_CLEAR (R159). -/
def dmaClearEff (via : Via) (ch : ChanId) (s : State) : State :=
  s.blockWrite via ch.part (chanCtl ch) (s.dmaClearW (chanKey ch))

/-- DMA_FENCE (R166): from CONTROL.FENCE, or a program's fence operation when `via` is none. -/
def dmaFenceEff (via : Option Via) (ch : ChanId) (s : State) : State :=
  match via with
  | some v => s.blockWrite v ch.part (chanCtl ch) (.ok (s.dmaIssueFence (chanKey ch) false false))
  | none => s.dmaIssueFence (chanKey ch) false false

/-- A write of the whole CONTROL word (R159): OWNER, and then every action bit set, in ascending order (log entry 43). -/
def State.dmaControlW (s : State) (fn k : Nat) (v : Word) : WR := do
  let x := s.chan k
  let own := bit v 5
  let s ← guardW (own == x.owner || (x.state == .idle && !x.armed)) .state (.ok (s.setChan k { x with owner := own }))
  let s ← ctlAct v 0 (fun s => dmaArmW s fn k) s
  let s ← ctlAct v 1 (fun s => s.dmaStopW k) s
  let s ← ctlAct v 2 (fun s => .ok (s.dmaIssueFence k false false)) s
  let s ← ctlAct v 3 (fun s => s.dmaResumeW k) s
  ctlAct v 4 (fun s => s.dmaClearW k) s

/-- A write of the dword at byte `off` of SHADOW (R160). -/
def State.dmaShadowW (s : State) (k off : Nat) (v : Word) : WR :=
  let x := s.chan k
  if x.armed || x.owner then .error .state
  else .ok (s.setChan k { x with shadow := dset x.shadow (8 * off) 32 v.toNat &&& descMask })

/-- A write of STATUS: the EV bits are cleared by writing 1 (R159). -/
def State.dmaStatusW (s : State) (k : Nat) (v : Word) : WR :=
  .ok (s.modChan k fun x => { x with
    evError := x.evError && !bit v 4, evArrive := x.evArrive && !bit v 3, evFull := x.evFull && !bit v 2,
    evHalf := x.evHalf && !bit v 1 })

/-- A dword of a channel window (R159). -/
def State.dmaWindowRead (s : State) (k off : Nat) : Nat :=
  let x := s.chan k
  if off < 0x40 then df x.shadow (8 * off) 32
  else if off < 0x80 then df x.active (8 * (off - 0x40)) 32
  else if off = 0x80 then b2n x.owner * 32
  else if off = 0x84 then x.status
  else if off = 0x88 then x.half.toNat
  else if off = 0x8C then x.full.toNat
  else if off = 0x90 then x.arrive.toNat
  else if off = 0x94 then x.stagedBytes
  else if off = 0x98 then x.left % 2 ^ 32
  else if off = 0x9C then x.left / 2 ^ 32 % 2 ^ 32
  else 0

/-! ## Bursts (R165, R169) -/

/-- The WEIGHT of a transfer's context, 1 for none (R194). -/
def State.dmaWeight (s : State) (d : BitVec 512) : Nat :=
  if dCtx d = 0xFF then 1 else max 1 (mget Ctx.reset s.ctxs (dCtx d)).weight

/-- The channels of an engine that have work; one whose peer has asked for quiet issues no burst (R196 step 6). -/
def State.dmaWaiting (s : State) (p e : Nat) : List Nat :=
  (List.range 16).filter fun c =>
    let x := s.chan (p * 32 + e * 16 + c)
    let d := x.active
    x.busy && !(dDstSpace d == 2 && s.quieted (BitVec.ofNat 24 (df d 256 24)) (df d 280 12) (df d 304 8))

/-- The oldest of some channels. -/
def State.dmaOldest (s : State) (base : Nat) : List Nat → Option Nat
  | [] => none
  | c :: cs =>
    match s.dmaOldest base cs with
    | none => some c
    | some b => if olderStamp (s.chan (base + b)).age (s.chan (base + c)).age then some b else some c

/-- Weighted round-robin among channels of one age: the last channel while it has turns left, then the next in order. -/
def DmaEng.turn (g : DmaEng) (ties : List Nat) : Nat :=
  let last := match g.last with
    | some l => l.val
    | none => 15
  if ties.contains last && decide (0 < g.turns) then last
  else ((ties.find? fun c => decide (last < c)).getD (ties.headD 0))

/-- The channel that receives the next burst (R169). -/
def State.dmaGrant (s : State) (p e : Nat) : Option Nat :=
  let base := p * 32 + e * 16
  let g := mget DmaEng.reset s.dmaEng (p * 2 + e)
  let w := s.dmaWaiting p e
  match s.dmaOldest base (w.filter fun c => decide (64 ≤ mget 0 g.waits c)) with
  | some c => some c
  | none =>
    let prio (c : Nat) : Nat := dPriority (s.chan (base + c)).active
    let top := w.foldl (fun m c => max m (prio c)) 0
    let best := w.filter fun c => prio c == top
    match s.dmaOldest base best with
    | none => none
    | some o => some (g.turn (best.filter fun c => (s.chan (base + c)).age == (s.chan (base + o)).age))

/-- The grant itself: the displaced channel becomes READY and owes the writes it has staged, the waits of the others are
counted (R169). -/
def State.dmaTake (s : State) (p e c : Nat) : State :=
  let base := p * 32 + e * 16
  let g := mget DmaEng.reset s.dmaEng (p * 2 + e)
  let prio (q : Nat) : Nat := dPriority (s.chan (base + q)).active
  let w := s.dmaWaiting p e
  let displaced := (List.range 16).filter fun q => q != c && (s.chan (base + q)).state == .running
  let waits : SMap Nat := (w.filter fun q => q != c && decide (prio q < prio c)).map fun q => (q, mget 0 g.waits q + 1)
  let turns := if g.last = some (Fin.ofNat 16 c) ∧ 0 < g.turns then g.turns - 1
    else s.dmaWeight (s.chan (base + c)).active - 1
  let up := displaced.countP fun q => decide (prio q < prio c)
  let s := displaced.foldl (fun s q => s.modChan (base + q) fun x =>
    { x with state := .ready, flushing := !x.staged.isEmpty }) s
  let s := s.modChan (base + c) fun x => { x with state := .running }
  let s := { s with dmaEng := mset DmaEng.reset s.dmaEng (p * 2 + e) ⟨some (Fin.ofNat 16 c), waits, turns⟩ }
  s.pCount p 0xA3 up

/-- A HOST request through a function: its address translation is cached when ATS is enabled (R369). -/
def State.hostTouch (s : State) (fn a : Nat) : State :=
  if (s.func fn).ats = false then s
  else
    let e : AtsEntry := ⟨fn, a / 4096 * 4096, 4096⟩
    let hit := s.host.atsCache.any fun x => x.func == fn && decide (x.page ≤ a) && decide (a < x.page + x.size)
    if hit then s else { s with host := { s.host with atsCache := (e :: s.host.atsCache).take 4096 } }

/-- The half threshold of a one-row pass (R166). -/
def halfBytes (len : Nat) : Nat := len / 2 / 256 * 256

/-- What a pass reaches after a write: the half point, the full point; or the end of a transfer that was stopped. -/
def State.dmaPoints (s : State) (k : Nat) : State :=
  let x := s.chan k
  let rows := dRows x.active
  let half := if rows = 1 then decide (1 ≤ x.wrow) || decide (halfBytes (dLength x.active) ≤ x.wcol)
    else decide ((rows + 1) / 2 ≤ x.wrow)
  let s := if half && !x.halfDone then s.dmaHalf k false else s
  if x.stopping = true then (if x.staged.isEmpty then s.dmaEnd k 8 else s)
  else if x.wrow = rows then s.dmaFull k false else s

/-- The bytes of a burst reach their destination. -/
def State.dmaDeliver (s : State) (k da : Nat) (bytes : List Byte) : State :=
  let x := s.chan k
  let d := x.active
  if dDstSpace d = 0 then s.writeBytes da bytes
  else if dDstSpace d = 1 then
    let f := s.func x.activeFn
    ((s.hostTouch x.activeFn da).emit (.hostWrite x.activeFn da f.relaxed f.ats bytes)).modChan k fun x =>
      { x with hostFns := (x.activeFn :: x.hostFns).eraseDups }
  else
    let dest : FabAddr := BitVec.ofNat 24 (df d 256 24)
    let row := (x.seq, dest, df d 280 12, df d 304 8)
    let s := s.setChan k { x with seq := (x.seq + 1) % 65536, outstanding := x.outstanding ++ [row] }
    s.inject (partDie (k / 32)) (peerPacket dest (df d 280 12) (df d 304 8) da x.seq bytes)

/-- Where the next byte to read and the next byte to write stand. -/
def DmaCh.srcAt (x : DmaCh) : Nat := ((dRowAt x.active false x.row + x.col) % (2 ^ 48 : Nat)).toNat

/-- The destination of the next byte to write. -/
def DmaCh.dstAt (x : DmaCh) : Nat := ((dRowAt x.active true x.wrow + x.wcol) % (2 ^ 48 : Nat)).toNat

/-- The bytes of the next read: at most 4 KiB of one row and one aligned 4 KiB block of the source (R165). -/
def DmaCh.burst (x : DmaCh) : Nat := min (4096 - x.srcAt % 4096) (dLength x.active - x.col)

/-- A position `n` bytes further in rows of `len`. -/
def dmaStep (len n : Nat) (at_ : Nat × Nat) : Nat × Nat :=
  if at_.2 + n = len then (at_.1 + 1, 0) else (at_.1, at_.2 + n)

/-- Whether a channel may read another burst: the pass has bytes left, at most 16 KiB stand ahead of its writes, and neither
a STOP nor a displacement has its staged bytes written first (R165, R169, R171). -/
def DmaCh.mayRead (x : DmaCh) : Bool :=
  !x.stopping && !x.flushing && decide (x.row < dRows x.active) && decide (x.stagedBytes + x.burst ≤ 16384)

/-- Reading a burst: its bytes are staged, or an error of its source ends the transfer (R148, R170, R368). -/
def State.dmaRead (s : State) (k : Nat) (env : BurstEnv) : State :=
  let x := s.chan k
  let host := dSrcSpace x.active == 1
  let s := if host then s else s.memMeets x.srcAt env.shell
  if host && (!(s.func x.activeFn).busMaster || env.host != .ok) then s.dmaHalt k 5 false
  else if !host && env.shell.bad then s.dmaDataError k
  else
    let s := if host then s.hostTouch x.activeFn x.srcAt else s
    let bytes := if host then env.hostData.take x.burst else s.readBytes x.srcAt x.burst
    let pos := dmaStep (dLength x.active) x.burst (x.row, x.col)
    (s.pCount (k / 32) 0xA1 x.burst).modChan k fun x =>
      { x with staged := x.staged ++ [bytes], row := pos.1, col := pos.2 }

/-- Whether a write of `n` bytes at `a` covers a granule in part (R136). -/
def coversPart (a n : Nat) : Bool := decide (0 < n) && (a % 16 != 0 || (a + n) % 16 != 0)

/-- Writing the oldest staged burst. A LOCAL write that covers part of a granule merges with it, and does not take place
where that read fails (R136); a HOST write needs bus mastering and a translation (R355, R369). -/
def State.dmaWrite (s : State) (k : Nat) (env : BurstEnv) : State :=
  let x := s.chan k
  match x.staged with
  | [] => s
  | bytes :: rest =>
    let n := bytes.length
    let da := x.dstAt
    let merges := dDstSpace x.active == 0 && coversPart da n
    let s := if merges then s.memMeets da env.merge else s
    if dDstSpace x.active == 1 && (!(s.func x.activeFn).busMaster || env.host == .atsRefused) then s.dmaHalt k 5 false
    else if merges && env.merge.bad then s.dmaDataError k
    else
      let s := (s.dmaDeliver k da bytes).pCount (k / 32) 0xA2 n
      let pos := dmaStep (dLength x.active) n (x.wrow, x.wcol)
      (s.modChan k fun x => { x with
        staged := rest, wrow := pos.1, wcol := pos.2, flushing := x.flushing && !rest.isEmpty }).dmaPoints k

/-- Whether a grant has the channel read: the mode asks for it and the channel may. -/
def DmaCh.reads (x : DmaCh) (m : BurstMode) : Bool := m != .write && x.mayRead

/-- Whether a grant has the channel write: the mode asks for it, or staged bytes must go first. -/
def DmaCh.writes (x : DmaCh) (m : BurstMode) : Bool :=
  (m != .read || x.stopping || x.flushing) && (!x.staged.isEmpty || x.reads m)

/-- What the channel that has been granted issues. -/
def State.dmaMove (s : State) (k : Nat) (env : BurstEnv) : State :=
  let x := s.chan k
  let s := if x.reads env.mode then s.dmaRead k env else s
  if x.writes env.mode then s.dmaWrite k env else s

/-- Whether the host has returned the bytes that a read of the channel asks for. -/
def State.dmaHostReady (s : State) (k : Nat) (env : BurstEnv) : Bool :=
  let x := s.chan k
  !x.reads env.mode || dSrcSpace x.active != 1 || env.host != .ok || decide (x.burst ≤ env.hostData.length)

/-- Whether the channel has something to issue under a mode; one whose transfer moves no data has its next pass. -/
def State.dmaIssues (s : State) (k : Nat) (env : BurstEnv) : Bool :=
  let x := s.chan k
  decide (dLength x.active = 0 ∨ dRows x.active = 0) || x.reads env.mode || x.writes env.mode

/-- DMA_BURST (R169). A superseded device issues none (R224). -/
def dmaBurstEff (p : Part) (e : Fin 2) (env : BurstEnv) (s : State) : State :=
  if s.superseded then s
  else
    match s.dmaGrant p e with
    | none => s
    | some c =>
      let k := p.val * 32 + e.val * 16 + c
      if s.dmaHostReady k env = false ∨ s.dmaIssues k env = false then s
      else
        let s := s.dmaTake p e c
        let d := (s.chan k).active
        if dLength d = 0 ∨ dRows d = 0 then s.dmaEmptyPass k else s.dmaMove k env

/-! ## Completion of fences -/

/-- The oldest fence of a channel completes with a code: 0, HOST_ERROR, PEER_REFUSED or ARRIVAL_TIMEOUT (R166, R167). -/
def State.dmaFenceEnd (s : State) (k code : Nat) : State :=
  let x := s.chan k
  match x.fences with
  | [] => s
  | f :: rest =>
    let s := (s.setChan k { x with fences := rest }).dmaArrived k f.irq
    if code = 0 then s.modChan k fun x => { x with lastCode := 0, fault := false } else s.dmaHalt k code false

/-- COMPLETION_TIMEOUT (R170, R368): the host does not answer a read of the active transfer, or a zero-length read of the
oldest fence. -/
def completionTimeoutEff (ch : ChanId) (fence : Bool) (s : State) : State :=
  let k := chanKey ch
  let x := s.chan k
  if fence then
    match x.fences with
    | [] => s
    | f :: _ => if f.host.isEmpty then s else s.dmaFenceEnd k 5
  else if x.busy && dSrcSpace x.active == 1 then s.dmaHalt k 5 false else s

/-- The code with which a fence ends whose writes are all accounted for: an error of its zero-length read, a refused PEER
write, or OK. -/
def DmaFence.code (f : DmaFence) (host : HostEnd) : Nat :=
  if f.host.isEmpty = false ∧ host ≠ .ok then 5 else if f.refused then 6 else 0

/-- ARRIVAL_FENCE_COMPLETE (R166): the oldest fence, once no PEER write it covers is unacknowledged and its zero-length reads
have ended as `host` says. -/
def arrivalFenceCompleteEff (ch : ChanId) (host : HostEnd) (s : State) : State :=
  let k := chanKey ch
  if s.servesChan k then s.serveFence ch.part
  else
    match (s.chan k).fences with
    | [] => s
    | f :: _ => if f.covers.isEmpty then s.dmaFenceEnd k (f.code host) else s

/-- ARRIVAL_TIMEOUT (R167): the oldest fence, after DMA_ARRIVE_TIMEOUT beats. -/
def arrivalTimeoutEff (ch : ChanId) (s : State) : State :=
  let k := chanKey ch
  if s.servesChan k then s.serveTimeout ch.part
  else
    match (s.chan k).fences with
    | [] => s
    | f :: _ => if f.issued + s.pN ch.part 0xA0 ≤ s.beatIx then s.dmaFenceEnd k 7 else s

/-- An acknowledgement of one PEER write: the fences that cover it no longer wait for it (R166, R167). -/
def DmaCh.acked (x : DmaCh) (n : Nat) (refused : Bool) : DmaCh :=
  if (x.outstanding.any fun o => o.1 == n) = false then x
  else
    let covered := x.fences.any fun f => f.covers.contains n
    { x with
      outstanding := x.outstanding.filter fun o => o.1 != n,
      peerRefused := x.peerRefused || (refused && !covered),
      fences := x.fences.map fun f =>
        { f with covers := f.covers.erase n, refused := f.refused || (refused && f.covers.contains n) } }

/-- Whether a peer write of this device for a job and context at an address is unacknowledged (R196 step 6): of a transfer,
a fetch request, a serve or a restore. -/
def State.peerOwes (s : State) (a : FabAddr) (job ctx : Nat) : Bool :=
  (s.dma.any fun kv => kv.2.outstanding.any fun o => o.2.1 == a && o.2.2.1 == job && o.2.2.2 == ctx) ||
  (s.loaders.any fun kv =>
    (kv.2.shards.any fun sh => sh.seq.isSome && kv.2.job == job && sh.holders.any fun h => h.2 == a && h.1 == ctx) ||
    (match kv.2.serve with
      | some sv => decide (0 < sv.left) && sv.req.reqAddr == a && sv.req.job == job && sv.req.reqCtx == ctx
      | none => false)) ||
  (match s.tango.restore with
    | some r => !r.outstanding.isEmpty && r.addr == a && s.rdN (objKey 0x2700 0x19) == job &&
        field (s.rd (objKey 0x2700 0x18)) 31 24 == ctx
    | none => false)

/-- Acknowledging the quiet requests that have nothing left to wait for; the acknowledgement carries the present epoch. -/
def ackQuiet : List Quiet → State → List Quiet → State
  | [], s, done => { s with quiet := done }
  | q :: qs, s, done =>
    if q.owed && !s.peerOwes q.addr q.job q.ctx then
      ackQuiet qs (s.inject 0 (ackPacket 7 q.pkt false)) (done ++ [{ q with owed := false }])
    else ackQuiet qs s (done ++ [q])

/-- Acknowledging quiet requests after an acknowledgement has arrived. -/
def State.pumpQuiet (s : State) : State := ackQuiet s.quiet s []

/-- QUIET_REQ (R196 step 6): this device, as a peer, stops injecting for the job and context toward the sender. -/
def quietReqEff (pkt : Packet) (s : State) : State :=
  if s.superseded then s
  else
    let row : Quiet := ⟨pkt.src, pkt.jobId.toNat, pkt.ctxId.toNat, pkt, true, s.beatIx⟩
    let rest := s.quiet.filter fun (q : Quiet) => !(q.addr == row.addr && q.job == row.job && q.ctx == row.ctx)
    State.pumpQuiet { s with quiet := rest ++ [row] }

/-- An acknowledgement of a restore's write (R319). -/
def State.restoreAck (s : State) (n : Nat) (refused : Bool) : State :=
  match s.tango.restore with
  | some r =>
    let done := r.outstanding.foldl (fun a o => if o.1 = n then a + o.2 else a) 0
    State.count { s with tango := { s.tango with
        restore := some { r with
          outstanding := r.outstanding.filter fun o => o.1 != n, refused := r.refused || refused } } }
      (objKey 0x2700 0x1E) (if refused then 0 else done)
  | none => s

/-- Whether an acknowledgement is of one of a running restore's writes. -/
def State.restoreOwns (s : State) (pkt : Packet) : Bool :=
  match s.tango.restore with
  | some r => r.addr == pkt.src && r.outstanding.any fun o => o.1 == pkt.seq.toNat
  | none => false

/-- PEER_ACK (R166, R167): of a transfer's write, of one of the loader's and server's channel (R292, R294), or of a
restore's. -/
def peerAckEff (ch : ChanId) (pkt : Packet) (answer : PeerAnswer) (s : State) : State :=
  let k := chanKey ch
  let refused := answer == .refused
  if s.superseded then s
  else if (s.chan k).outstanding.any fun o => o.1 == pkt.seq.toNat && o.2.1 == pkt.src then
    (s.modChan k fun x => x.acked pkt.seq.toNat refused).pumpQuiet
  else if s.restoreOwns pkt then (s.restoreAck pkt.seq.toNat refused).pumpQuiet
  else if k % 32 = 31 then (s.loaderAck ch.part pkt refused).pumpQuiet
  else s

/-- DMA_COUNTER_CLEAR (R173). -/
def dmaCounterClearEff (via : Via) (p : Part) (value : Word) (s : State) : State :=
  s.partWrite via p 0xA6 (clearW s value (s.clearObjs (partIx p) 0xA1 5))

/-! ## The receiver of peer writes (R167, R195) -/

/-- The partition whose own area, outside its Tango reserve, holds a range. -/
def State.ownArea (s : State) (a n : Nat) : Option Nat :=
  match spaceOf a with
  | .hbm p => if a + n ≤ s.reserveBase p then some p else none
  | .spad c => if a + n ≤ spadBase (c / 16 * 16 + 16) then some (c / 16) else none
  | _ => none

/-- The partition that a packet to a target address is addressed to. -/
def targetPart (a : Nat) : Option Nat :=
  match spaceOf a with
  | .hbm p => some p
  | .spad c => some (c / 16)
  | .walnut c => some (c / 16)
  | _ => none

/-- A peer write that has passed R167 and R290 is performed and acknowledged. One whose merge reads an uncorrectable granule
does not take place, and no acknowledgement of it is sent (R136, R142, log entry 102). -/
def State.peerPerform (s : State) (p : Nat) (pkt : Packet) (o : ShellOutcome) : State :=
  let merges := coversPart pkt.target pkt.payload.length
  let s := if merges then s.memMeets pkt.target o else s
  if merges && o.bad then s else (s.writeBytes pkt.target pkt.payload).peerAccept p pkt

/-- PEER_WRITE (R167, R195, R290, R294). A target that no partition holds is refused by the partition of the context that
the packet names (log entry 101). -/
def peerWriteEff (pkt : Packet) (shell : ShellOutcome) (s : State) : State :=
  if s.superseded then s
  else
    let n := pkt.payload.length
    let p := (targetPart pkt.target).getD (pkt.ctxId.toNat / 16)
    if s.ctxTakes p pkt.jobId.toNat pkt.ctxId.toNat = false then s.ctxDrop pkt
    else if s.serves p ∧ n = 64 ∧ pkt.target = s.pN p 0xC9 then serveRequestReceiveEff (Fin.ofNat 16 p) pkt s
    else if (s.serves p = true ∨ (s.loader p).shards ≠ []) ∧ n = 64 ∧ pkt.target = s.pN p 0xC9 + 64 then
      fetchNoticeEff (Fin.ofNat 16 p) pkt s
    else if s.holdsJob p pkt.jobId.toNat = false ∨ s.ownArea pkt.target n ≠ some p then s.peerRefuse p pkt
    else if s.loadAllows p pkt.target n (some pkt.src) then s.peerPerform p pkt shell
    else s.loadStray p

/-! ## Gates, teardown and bus mastering -/

/-- A DMA gate (R168): the counter has reached `v`, and on FULL_COUNT of a program-owned channel no shadow waits. -/
def State.dmaGate (s : State) (k : Nat) (c : DmaCounter) (v : Nat) : Bool :=
  let x := s.chan k
  let n := match c with
    | .half => x.half.toNat
    | .full => x.full.toNat
    | .arrive => x.arrive.toNat
  decide ((n + 2 ^ 32 - v % 2 ^ 32) % 2 ^ 32 < 2 ^ 31) && !(c == .full && x.owner && x.armed)

/-- A transfer ends with TORN_DOWN (R172): what it has staged goes, and its fences raise no arrival event. -/
def State.dmaTear (s : State) (k : Nat) : State :=
  (s.modChan k fun x => { x with fences := x.fences.filter fun f => f.xfer != some x.xfer }).dmaEnd k 9

/-- A context identifier is retired (R172): its shadows are discarded and its transfers end with TORN_DOWN. -/
def State.dmaRetire (s : State) (members : List Nat) (ctx : Nat) : State :=
  members.foldl (fun s p => (List.range 32).foldl (fun s c =>
    let k := p * 32 + c
    let x := s.chan k
    let s := if x.armed && dCtx x.shadow == ctx then s.setChan k { x with armed := false } else s
    if (s.chan k).busy && dCtx (s.chan k).active == ctx then s.dmaTear k else s) s) s

/-- Whether no transfer of a context remains in some partitions (R172). -/
def State.dmaQuiet (s : State) (members : List Nat) (ctx : Nat) : Bool :=
  members.all fun p => (List.range 32).all fun c =>
    let x := s.chan (p * 32 + c)
    !(x.armed && dCtx x.shadow == ctx) && !(x.busy && dCtx x.active == ctx)

/-- Completing every fence of a channel that covers a HOST write of a function, with those before it (R355). -/
def dmaHostFences (k fn : Nat) : Nat → State → State
  | 0, s => s
  | n + 1, s => if (s.chan k).fences.any fun f => f.host.contains fn then dmaHostFences k fn n (s.dmaFenceEnd k 7) else s

/-- Bus mastering of a function goes off (R355). -/
def State.dmaNoBus (s : State) (fn : Nat) : State :=
  (s.dma.map Prod.fst).foldl (fun s k =>
    let x := s.chan k
    let host := x.activeFn == fn && x.busy && (dSrcSpace x.active == 1 || dDstSpace x.active == 1)
    dmaHostFences k fn x.fences.length (if host then s.dmaHalt k 5 false else s)) s

end Sys2Proof.Machine
end

