-- ==== Sys2Proof/Machine/Sched.lean ====
section
/-! DEFINITION. The command processor: program table, launch slots, launches and their completion records (R106 to R110,
R122, R128 to R130, R187 to R192). -/

namespace Sys2Proof.Machine

/-! ## Lookups -/

/-- A program table entry of partition `p` (R107). -/
def State.prog (s : State) (p n : Nat) : Prog := mget Prog.reset s.progs (1024 * p + n)

/-- Setting a program table entry. -/
def State.setProg (s : State) (p n : Nat) (x : Prog) : State := { s with progs := mset Prog.reset s.progs (1024 * p + n) x }

/-- A launch slot of partition `p` (R187). -/
def State.slot (s : State) (p n : Nat) : LSlot := mget LSlot.reset s.slots (256 * p + n)

/-- Setting a launch slot. -/
def State.setSlot (s : State) (p n : Nat) (x : LSlot) : State := { s with slots := mset LSlot.reset s.slots (256 * p + n) x }

/-- Whether partition `p` leads its group (R175). -/
def State.isLead (s : State) (p : Nat) : Bool := s.lead p == p

/-- Whether every member of `p`'s group is in Run (R416) and out of reset (R339). -/
def State.groupRuns (s : State) (p : Nat) : Bool :=
  (s.members p).all fun q => s.pN q 1 == 0 && s.pN q 0xE1 == 0

/-- Whether a self-test runs on a member of `p`'s group (R347). -/
def State.bistRuns (s : State) (p : Nat) : Bool := (s.members p).any fun q => s.pN q 0xEB == 2

/-- Whether a cluster may issue: its partition runs and the cluster is awake (R413, R416). -/
def State.clusterAwake (s : State) (p : Nat) : Bool :=
  s.pN p 1 == 0 && s.pN p 0xE1 == 0 && !(mget ClusterClk.reset s.pow.clusters p).asleep

/-! ## The program table (R107, R108) -/

/-- The core numbers of an image (R106). -/
def imgCores (i : Image) : List Nat := i.streams.map Prod.fst

/-- Whether whole-tile loops nest properly and at most four deep: the stack of open levels while reading a stream (R108
checks 3 and 4). No check keeps a level from being entered again within its own body. -/
def loopsOk : List StreamItem → List (Fin 4) → Bool
  | [], st => st.isEmpty
  | .tile _ :: rest, st => loopsOk rest st
  | .loopEnter j _ :: rest, st => decide (st.length < 4) && loopsOk rest (j :: st)
  | .loopEnd j :: rest, st =>
    match st with
    | k :: st' => k == j && loopsOk rest st'
    | [] => false

/-- The deepest nesting of a stream (R108 check 3): whole-tile loops open, and the loops within a tile. -/
def loopDepth : List StreamItem → Nat → Nat
  | [], _ => 0
  | .tile t :: rest, d => max (d + (t.inner.map fun i => i.level).eraseDups.length) (loopDepth rest d)
  | .loopEnter _ _ :: rest, d => max (d + 1) (loopDepth rest (d + 1))
  | .loopEnd _ :: rest, d => loopDepth rest (d - 1)

/-- The tiles of a stream. -/
def streamTiles : List StreamItem → List Tile
  | [] => []
  | .tile t :: rest => t :: streamTiles rest
  | _ :: rest => streamTiles rest

/-- Whether a gate quantity on a stream channel is well formed (R108 check 6). -/
def gateQuantityOk (chans : List ChannelDesc) : Gate → Bool
  | .streamIn c q =>
    match chans[c]? with
    | some d => q % 256 == 0 && decide (q ≤ d.depth)
    | none => false
  | .streamOut c q =>
    match chans[c]? with
    | some d => q % 256 == 0 && decide (q ≤ d.depth)
    | none => false
  | _ => true

/-- A channel as check 5 wants it: it joins two cores. -/
def channelOk (cores : List Nat) (d : ChannelDesc) : Bool :=
  cores.contains d.prod && cores.contains d.cons && d.prod != d.cons && decide (1024 ≤ d.depth) && decide (d.depth ≤ 4 * 2 ^ 20) &&
    d.depth % 1024 == 0 && d.base / 2 ^ 25 == d.cons && decide (d.base % 2 ^ 25 + d.depth ≤ 2 ^ 25)

/-- The first failed check of an image (R108); 0 when none fails. -/
def State.imageCheck (s : State) (p : Nat) (x : Prog) (i : Image) : Nat :=
  let tiles := i.streams.flatMap fun st => streamTiles st.2
  if !(s.inGroupArea p x.address (x.length * 1024) && i.headerOk) then 1
  else if i.streams.isEmpty || (imgCores i).any fun g => decide (16 * (s.members p).length ≤ g) then 2
  else if i.streams.any fun st => decide (4 < loopDepth st.2 0) then 3
  else if !(i.streams.all fun st => loopsOk st.2 []) ||
      !(tiles.all fun t => t.inner.all fun l => decide (1 ≤ l.limit) && decide (l.limit ≤ 16777215)) then 4
  else if !(i.channels.all (channelOk (imgCores i))) then 5
  else if !(tiles.all fun t => t.gates.all (gateQuantityOk i.channels)) then 6
  else if (imgCores i).any fun g => decide (16 < i.channels.countP fun d => d.prod == g) ||
      decide (16 < i.channels.countP fun d => d.cons == g) then 7
  else if tiles.any fun t => decide (8 < t.gates.length) then 8
  else 0

/-- Writing ADDRESS of an entry (R107). -/
def progAddressW (s : State) (p n a : Nat) : WR :=
  let x := s.prog p n
  if a % 4096 ≠ 0 then .error .range
  else if x.state = .free ∧ x.releasing = false then .ok (s.setProg p n { x with address := a })
  else if a = x.address then .ok s
  else .error .state

/-- Writing LENGTH of an entry, in KiB (R107). -/
def progLengthW (s : State) (p n len : Nat) : WR :=
  let x := s.prog p n
  if len = 0 ∨ 65536 < len then .error .range
  else if x.state = .free ∧ x.releasing = false then .ok (s.setProg p n { x with length := len })
  else if len = x.length then .ok s
  else .error .state

/-- Whether launches of an entry's handle run. -/
def State.handleRuns (s : State) (p h : Nat) : Bool := s.launches.any fun kv => kv.1 / 256 == p && kv.2.handle == h

/-- The handle of an entry (R107). -/
def Prog.handle (x : Prog) (n : Nat) : Nat := x.gen.val * 1024 + n

/-- The release of an entry takes effect (R107). -/
def State.progFree (s : State) (p n : Nat) : State :=
  let x := s.prog p n
  s.setProg p n { x with state := .free, releasing := false, gen := x.gen + 1, refuse := 0, img := none }

/-- Writing FREE releases an entry (R107). -/
def progReleaseW (s : State) (p n : Nat) : WR :=
  let x := s.prog p n
  if x.state = .free then .ok s
  else if x.state = .ready ∧ s.handleRuns p (x.handle n) = true then .ok (s.setProg p n { x with releasing := true })
  else .ok (s.progFree p n)

/-- Writing VALIDATING (R107). -/
def progValidateW (s : State) (p n : Nat) : WR :=
  let x := s.prog p n
  if x.state = .free ∧ x.releasing = false then .ok (s.setProg p n { x with state := .validating, refuse := 0 })
  else .error .state

/-- PROGRAM_REGISTER (R107): address, length and VALIDATING. -/
def programRegisterEff (via : Via) (p : Part) (n : Fin 1024) (address lengthKiB : Nat) (s : State) : State :=
  s.blockWrite via p (0x4000 + 16 * n.val + 8)
    (match progAddressW s p n address with
      | .error e => .error e
      | .ok s1 =>
        match progLengthW s1 p n lengthKiB with
        | .error e => .error e
        | .ok s2 => progValidateW s2 p n)

/-- Whether a stream channel of an image would leave the partition group (R18). -/
def State.channelLeaves (s : State) (p : Nat) (i : Image) : Bool :=
  i.channels.any fun d => decide (16 * (s.members p).length ≤ d.prod) || decide (16 * (s.members p).length ≤ d.cons)

/-- IMAGE_VALIDATION_DONE (R108): a channel that would leave the group also raises a partition fault (R18). -/
def imageValidationDoneEff (p : Part) (n : Fin 1024) (img : Image) (s : State) : State :=
  let x := s.prog p n
  if x.state ≠ .validating then s
  else
    match s.imageCheck p x img with
    | 0 => s.setProg p n { x with state := .ready, img := some img }
    | k =>
      let s := s.setProg p n { x with state := .refused, refuse := k }
      if s.channelLeaves p img then s.partFault p else s

/-- PROGRAM_RELEASE (R107). -/
def programReleaseEff (via : Via) (p : Part) (n : Fin 1024) (s : State) : State :=
  s.blockWrite via p (0x4000 + 16 * n.val + 8) (progReleaseW s p n)

/-- The image that a handle names, where its entry is READY, not releasing and of that generation (R107). -/
def State.imageOf (s : State) (p h : Nat) : Option Image :=
  let x := s.prog p (h % 1024)
  if x.state = .ready ∧ x.releasing = false ∧ x.gen.val = h / 1024 then x.img else none

/-- The cores of a handle's image; none where the handle is not usable (R188). -/
def State.handleCores (s : State) (p h : Nat) : List Nat :=
  match s.imageOf p h with
  | some i => imgCores i
  | none => []

/-! ## Launch slots (R187 to R189) -/

/-- The deadline monitor's slots (R191). -/
def LSlot.monitored (x : LSlot) : Bool := x.fallbackEn && x.deadline != 0

/-- ARM (R187, R188). -/
def slotArmW (s : State) (p n : Nat) : WR :=
  let x := s.slot p n
  if x.state = .armed ∨ x.state = .running then .error .state
  else if s.isLead p = false then .error .state
  else if x.recordAddr % 128 ≠ 0 ∨ s.inGroupHbm p x.recordAddr 128 = false then .error .range
  else
    let cores := s.handleCores p x.handle ++ (if x.monitored then s.handleCores p x.fallback else [])
    .ok (s.setSlot p n { x with state := .armed, coreSet := cores, armedAt := s.beat, prewoken := false, readyBeats := 0 })

/-- SLOT_ARM (R187). -/
def slotArmEff (via : Via) (p : Part) (n : Fin 256) (s : State) : State :=
  s.blockWrite via p (64 * n.val + 0x24) (slotArmW s p n)

/-- The end of a launch told from outside its operations: no failing core or tile (R130). -/
def outsideEnd (code : Nat) : LaunchEnd := ⟨code, 0xFF, 0xFFFFFFFF⟩

/-- ABORT (R187). -/
def slotAbortW (s : State) (p n : Nat) : WR :=
  let x := s.slot p n
  .ok (match x.state with
    | .armed => s.setSlot p n { x with state := .empty }
    | .running => s.endLaunch (256 * p + n) (outsideEnd stAborted)
    | _ => s)

/-- SLOT_ABORT (R187). -/
def slotAbortEff (via : Via) (p : Part) (n : Fin 256) (s : State) : State :=
  s.blockWrite via p (64 * n.val + 0x24) (slotAbortW s p n)

/-- Whether slot `a` precedes slot `b` in Beat order (R188). -/
def beatBefore (sa sb : LSlot) (a b : Nat) : Bool :=
  decide (sa.startBeat < sb.startBeat) || (sa.startBeat == sb.startBeat && decide (a < b))

/-- Whether a slot is due (R189). -/
def State.due (s : State) (p n : Nat) : Bool :=
  let x := s.slot p n
  x.state == .armed && decide (x.startBeat ≤ s.beatIx) &&
  (List.range 256).all fun m =>
    let y := s.slot p m
    !(y.state == .armed && beatBefore y x m n && y.coreSet.any fun g => x.coreSet.contains g)

/-- The slots of partition `p` that are due for a context. -/
def State.dueOf (s : State) (p ctx : Nat) : List Nat :=
  ((s.slots.filter fun kv => kv.1 / 256 == p && kv.2.state == .armed && kv.2.ctxId == ctx).map fun kv => kv.1 % 256).filter
    (s.due p)

/-- The program a due slot of a RESIDENT context is to run (R191), and whether it is the fallback. -/
def State.chosen (s : State) (x : LSlot) : Nat × Bool :=
  if x.monitored && decide (x.startBeat + x.deadline < s.beatIx + x.expect) then (x.fallback, true) else (x.handle, false)

/-- Whether a launch runs on one of some group-local cores of `p`'s group. -/
def State.coresRun (s : State) (p : Nat) (cores : List Nat) : Bool :=
  cores.any fun g =>
    match s.groupCore p g with
    | some c => (s.core c).run.launch.isSome
    | none => false

/-- Whether cores lie within a context's CORE_MASK (R189). -/
def Ctx.covers (x : Ctx) (cores : List Nat) : Bool := cores.all fun g => x.coreMask.getLsbD g

/-! ## Completion records (R128 to R131) -/

/-- The cores of a launch that stand on the device. -/
def State.launchCores (s : State) (k : Nat) : List Nat :=
  (s.cores.filter fun kv => kv.2.run.launch == some k).map Prod.fst

/-- The flags of a launch (R51): those that were cleared while it ran, and the flag words of its cores, on the device or saved
with their context. -/
def State.launchFlags (s : State) (k : Nat) (l : Launch) : Nat :=
  let live := s.cores.foldl (fun a kv => if kv.2.run.launch == some k then a ||| arithOf kv.2.flags else a) l.flags
  (mget [] s.saved l.ctx).foldl (fun a v => if v.2.core.run.launch == some k then a ||| arithOf v.2.core.flags else a) live

/-- The bytes of a completion record (R128). -/
def recordBytes (status flags slot handle tile start end_ : Nat) (cycles : Nat → Nat) (overrun seq : Nat) : List Byte :=
  leBytes 4 status ++ leBytes 4 flags ++ leBytes 2 slot ++ leBytes 2 handle ++ leBytes 4 tile ++ leBytes 8 start ++
  leBytes 8 end_ ++ ((List.range 9).flatMap fun i => leBytes 8 (cycles i)) ++ leBytes 8 overrun ++ leBytes 8 seq ++
  leBytes 8 0

/-- Writing a record for slot `n` of lead `p`, with its sequence number and events (R128, R192). Codes 8 to 11 name no core
and no tile (R130). -/
def State.writeRecord (s : State) (p n handle : Nat) (e : LaunchEnd) (flags start : Nat) (cycles : Nat → Nat)
    (overrun deadline : Nat) : State :=
  let x := s.slot p n
  let miss := deadline != 0 && decide ((x.startBeat + deadline) * 1024 < s.beat)
  let s :=
    if s.inGroupHbm p x.recordAddr 128 then
      let seq := (s.pRd p 0x8B + 1#64).toNat
      let none_ := e.code == 0 || (decide (8 ≤ e.code) && decide (e.code ≤ 11)) || e.core == 0xFF
      let fail := if none_ then 0xFF else e.core
      let tile := if none_ then 0xFFFFFFFF else e.tile
      let status := 2 ^ 31 + fail % 256 * 256 + e.code
      let bytes := recordBytes status flags n handle tile start s.beat cycles overrun seq
      let s := (s.writeBytes x.recordAddr bytes).wrN (pKey p 0x8B) seq
      if x.irq then s.event p 0 else s
    else s.partFault p
  if miss then (s.pCount p 0xB9 1).event p 3 else s

/-- The flags that already stand on the cores of a handle's image, live or saved with the context, when a launch of it ends
before any tile issues (R51). -/
def State.handleFlags (s : State) (p h ctx : Nat) : Nat :=
  let cores := (s.handleCores p h).filterMap (s.groupCore p)
  let kept := mget [] s.saved ctx
  if (s.ctx ctx).state = .resident then cores.foldl (fun a c => a ||| arithOf (s.core c).flags) 0
  else kept.foldl (fun a v => if cores.contains v.1 then a ||| arithOf v.2.core.flags else a) 0

/-- A slot that ends before any tile issues (R130): its record, then DONE. -/
def State.slotEnd (s : State) (p n handle code : Nat) : State :=
  let s := s.writeRecord p n handle (outsideEnd code) (s.handleFlags p handle (s.slot p n).ctxId) s.beat (fun _ => 0) 0
    (s.slot p n).deadline
  s.setSlot p n { s.slot p n with state := .done }

/-- Releasing entries take effect when the last launch of the handle has ended (R107). -/
def State.settleProg (s : State) (p h : Nat) : State :=
  let x := s.prog p (h % 1024)
  if x.releasing ∧ x.handle (h % 1024) = h ∧ s.handleRuns p h = false then s.progFree p (h % 1024) else s

/-- A launch is complete: its record is written, its cores are released, its slot is DONE (R110, R128). One that is aborted
before any tile issues records no cycles (R130). -/
def State.finishLaunch (s : State) (k : Nat) (l : Launch) (e : LaunchEnd) : State :=
  let p := k / 256
  let n := k % 256
  let flags := s.launchFlags k l
  let early := l.startNs.isNone && decide (6 ≤ e.code) && decide (e.code ≤ 8)
  let cycles (i : Nat) : Nat := if early then 0 else mget 0 l.cycles i
  let s := s.writeRecord p n l.handle e flags (l.startNs.getD s.beat) cycles l.overrun l.deadline
  let s := (s.launchCores k).foldl (fun s c => s.modCore c fun x => { x with run := .idle, spot := none }) s
  let s := { s with
    launches := mdel s.launches k,
    saved := mmod [] s.saved l.ctx fun v => v.map fun (c : Nat × SavedCore) =>
      if c.2.core.run.launch == some k then (c.1, { c.2 with core := { c.2.core with run := .idle } }) else c }
  let s := s.setSlot p n { s.slot p n with state := .done }
  s.settleProg p l.handle

/-- Whether every core of a launch has finished its stream. -/
def State.launchDone (s : State) (k ctx : Nat) : Bool :=
  (s.cores.all fun kv => kv.2.run.launch != some k || (kv.2.run.finished && kv.2.run.tile.isNone)) &&
  (mget [] s.saved ctx).all fun v => v.2.core.run.launch != some k || v.2.core.run.finished

/-- Whether every core of a launch is at a tile boundary. -/
def State.launchStopped (s : State) (k : Nat) : Bool :=
  s.cores.all fun kv => kv.2.run.launch != some k || kv.2.run.tile.isNone

/-- A launch that has completed its streams, or has been told to end and whose cores have stopped, completes. A superseded
device writes no record (R224). -/
def State.tryFinish (s : State) (k : Nat) : State :=
  if s.superseded then s
  else
    match s.launch k with
    | none => s
    | some l =>
      match l.ending with
      | some e => if s.launchStopped k then s.finishLaunch k l e else s
      | none => if s.launchDone k l.ctx then s.finishLaunch k l ⟨0, 0xFF, 0xFFFFFFFF⟩ else s

/-- LAUNCH_COMPLETE (R110, R128, R130). -/
def launchCompleteEff (p : Part) (n : Fin 256) (s : State) : State := s.tryFinish (256 * p.val + n.val)

/-! ## Starting a slot (R109, R122, R189 to R191) -/

/-- An entry of a patch list (R122): register, all, core, operation, value. -/
structure Patch where
  reg : Nat
  all : Bool
  core : Nat
  op : Nat
  value : Word
  deriving DecidableEq, Repr

/-- The entries of a patch list. -/
def readPatches (m : Mem) (a : Nat) : Nat → List Patch
  | 0 => []
  | n + 1 =>
    let w := m.readLE a 8
    ⟨w % 64, nfield w 6 6 == 1, nfield w 13 7, nfield w 15 14, BitVec.ofNat 64 (m.readLE (a + 8) 8)⟩ :: readPatches m (a + 16) n

/-- Applying a patch to one core (R122). -/
def Patch.apply (t : Patch) (start : Nat) (x : CoreSt) : CoreSt :=
  let v := match t.op with
    | 0 => t.value
    | 1 => x.param t.reg + t.value
    | _ => BitVec.ofNat 64 start + t.value
  x.setParam t.reg v

/-- Applying a list of patches in order to the cores they name. -/
def State.applyPatches (s : State) (p start : Nat) (cores : List Nat) : List Patch → State
  | [] => s
  | t :: ts =>
    let named := if t.all then cores else [t.core]
    let s := named.foldl (fun s g => match s.groupCore p g with
      | some c => s.modCore c (t.apply start)
      | none => s) s
    s.applyPatches p start cores ts

/-- Whether a patch list may be read, and its entries applied (R122). -/
def State.patchesOk (s : State) (p : Nat) (x : LSlot) (cores : List Nat) : Bool :=
  x.patchCount == 0 ||
  (x.patchAddr % 16 == 0 && s.inGroupHbm p x.patchAddr (16 * x.patchCount) &&
    (readPatches s.mem x.patchAddr x.patchCount).all fun t => t.op != 3 && (t.all || cores.contains t.core))

/-- A slot starts with a program (R109): patches, loops inactive, every core at the head of its stream. -/
def State.startLaunch (s : State) (p n h : Nat) (img : Image) : State :=
  let x := s.slot p n
  let k := 256 * p + n
  let s := s.applyPatches p x.startBeat (imgCores img) (if x.patchCount = 0 then [] else readPatches s.mem x.patchAddr x.patchCount)
  let l : Launch :=
    { ctx := x.ctxId, handle := h, img := img, startBeat := x.startBeat, recordAddr := x.recordAddr, deadline := x.deadline,
      irq := x.irq, ftz := (s.members p).filter fun q => bit (s.pRd q 0x42) 0, flags := 0, startNs := none, ending := none, cycles := [], overrun := 0, streams := [] }
  let s := (s.setLaunch k l).setSlot p n { x with state := .running }
  (imgCores img).foldl (fun s g => match s.groupCore p g with
    | some c =>
      (s.modCore c fun x =>
        { x with
          loops := (List.range 4).foldl (fun m j => mset Loop.empty m j { mget Loop.empty x.loops j with active := false })
            x.loops,
          run := { CoreRun.idle with launch := some k } }).settleCore c
    | none => s) s

/-- A slot is acted on with its fallback (R191). -/
def State.tookFallback (s : State) (p n : Nat) (fb : Bool) : State :=
  let s := s.setSlot p n { s.slot p n with ranFallback := fb }
  if fb then s.pCount p 0xB8 1 else s

/-- LATE_STARTS (R190). -/
def State.noteLate (s : State) (p n : Nat) : State :=
  if (s.slot p n).startBeat + 1 ≤ s.beatIx then s.pCount p 0xB7 1 else s

/-- LAUNCH_SLOT_START (R109, R188 to R191): a due slot starts, or completes at once with program invalid. -/
def slotStart (p : Part) (n : Fin 256) (s : State) : State :=
  let x := s.slot p n
  let invalid (s : State) (h : Nat) : State := s.slotEnd p n h stProgramInvalid
  if s.superseded ∨ s.due p n = false then s
  else if x.coreSet = [] then invalid (s.tookFallback p n false) x.handle
  else if x.ctxId / 16 ≠ p.val then invalid (s.tookFallback p n false) x.handle
  else
    let c := s.ctx x.ctxId
    if c.state = .free ∨ c.state = .teardown ∨ c.state = .retired then invalid (s.tookFallback p n false) x.handle
    else if x.monitored = true ∧ c.state ≠ .resident then s
    else
      let (h, fb) := s.chosen x
      match s.imageOf p h with
      | none => invalid (s.tookFallback p n fb) h
      | some img =>
        if c.covers (imgCores img) = false then invalid (s.tookFallback p n fb) h
        else if c.state ≠ .resident ∨ c.evictReq = true ∨ s.groupRuns p = false ∨ s.bistRuns p = true ∨
            s.coresRun p (imgCores img) = true then s
        else
          let s := (s.tookFallback p n fb).noteLate p n
          if s.patchesOk p x (imgCores img) then s.startLaunch p n h img else s.slotEnd p n h stPatchInvalid

/-! ## Writes of the tables by dword (R107, R177, R187) -/

/-- A write of the dword at byte `off` of a slot. -/
def slotDwordW (s : State) (p n off : Nat) (v : Nat) : WR :=
  let x := s.slot p n
  let put (y : LSlot) : WR :=
    if x.state = .empty ∨ x.state = .done then .ok (s.setSlot p n y) else .error .state
  if off = 0x00 then put { x with startBeat := x.startBeat / 2 ^ 32 * 2 ^ 32 + v }
  else if off = 0x04 then put { x with startBeat := x.startBeat % 2 ^ 32 + v % 2 ^ 22 * 2 ^ 32 }
  else if off = 0x08 then put { x with patchAddr := x.patchAddr / 2 ^ 32 * 2 ^ 32 + v }
  else if off = 0x0C then put { x with patchAddr := x.patchAddr % 2 ^ 32 + v % 2 ^ 16 * 2 ^ 32 }
  else if off = 0x10 then put { x with recordAddr := x.recordAddr / 2 ^ 32 * 2 ^ 32 + v }
  else if off = 0x14 then put { x with recordAddr := x.recordAddr % 2 ^ 32 + v % 2 ^ 16 * 2 ^ 32 }
  else if off = 0x18 then put { x with handle := v % 65536, fallback := v / 65536 }
  else if off = 0x1C then put { x with deadline := v % 65536, expect := v / 65536 }
  else if off = 0x20 then put { x with ctxId := v % 256, patchCount := v / 256 % 256 }
  else if off = 0x24 then
    let s := s.setSlot p n { x with fallbackEn := nfield v 3 3 == 1, irq := nfield v 2 2 == 1 }
    ctlActs (BitVec.ofNat 64 v) 0 [(slotArmW · p n), (slotAbortW · p n)] s
  else .ok s

/-- The code of a slot state. -/
def SlotState.code : SlotState → Nat
  | .empty => 0
  | .armed => 1
  | .running => 2
  | .done => 3

/-- A dword of a slot (R187). -/
def LSlot.dword (x : LSlot) (off : Nat) : Nat :=
  if off = 0x00 then x.startBeat % 2 ^ 32
  else if off = 0x04 then x.startBeat / 2 ^ 32
  else if off = 0x08 then x.patchAddr % 2 ^ 32
  else if off = 0x0C then x.patchAddr / 2 ^ 32
  else if off = 0x10 then x.recordAddr % 2 ^ 32
  else if off = 0x14 then x.recordAddr / 2 ^ 32
  else if off = 0x18 then x.fallback * 65536 + x.handle
  else if off = 0x1C then x.expect * 65536 + x.deadline
  else if off = 0x20 then x.patchCount * 256 + x.ctxId
  else if off = 0x24 then b2n x.fallbackEn * 8 + b2n x.irq * 4
  else if off = 0x28 then b2n x.ranFallback * 8 + x.state.code
  else 0

/-- A write of the dword at byte `off` of a program table entry. -/
def progDwordW (s : State) (p n off : Nat) (v : Nat) : WR :=
  let x := s.prog p n
  if off = 0 then progAddressW s p n (x.address / 2 ^ 32 * 2 ^ 32 + v)
  else if off = 4 then progAddressW s p n (x.address % 2 ^ 32 + v % 2 ^ 16 * 2 ^ 32)
  else if off = 12 then progLengthW s p n v
  else
    match nfield v 9 8 with
    | 0 => progReleaseW s p n
    | 1 => progValidateW s p n
    | _ => .error .range

/-- The code of a program state. -/
def ProgState.code : ProgState → Nat
  | .free => 0
  | .validating => 1
  | .ready => 2
  | .refused => 3

/-- A dword of a program table entry (R107). -/
def Prog.dword (x : Prog) (off : Nat) : Nat :=
  if off = 0 then x.address % 2 ^ 32
  else if off = 4 then x.address / 2 ^ 32
  else if off = 8 then b2n x.releasing * 2 ^ 16 + x.gen.val * 2 ^ 10 + x.state.code * 256 + x.refuse
  else x.length

end Sys2Proof.Machine
end

