-- ==== Sys2Proof/Machine/Context.lean ====
section
/-! DEFINITION. Tiles and gates, contexts, the swapper, time slices, teardown and partition groups (R114 to R120, R174 to
R186, R195 to R200). -/

namespace Sys2Proof.Machine

/-! ## Gates (R116) -/

/-- The kinds of cause for an unsatisfied gate, in the order of R131. -/
def gateClass : Gate → CycleClass
  | .beatOffset _ => .beat
  | .beatParam _ => .beat
  | .version _ _ => .beat
  | .dma _ _ _ _ => .dma
  | .collective _ _ _ _ => .collective
  | .bucket _ _ _ _ => .collective
  | .streamIn _ _ => .streamIn
  | .streamOut _ _ => .streamOut

/-- Whether a gate is of kind BEAT (R332). -/
def gateIsBeat : Gate → Bool
  | .beatOffset _ => true
  | .beatParam _ => true
  | _ => false

/-- The quantity that a tile's gates name on a stream channel. -/
def gateSum (inbound : Bool) (ch : Nat) : List Gate → Nat
  | [] => 0
  | .streamIn c q :: gs => (if inbound && c == ch then q else 0) + gateSum inbound ch gs
  | .streamOut c q :: gs => (if !inbound && c == ch then q else 0) + gateSum inbound ch gs
  | _ :: gs => gateSum inbound ch gs

/-- Bucket segments that a tile's gates name for a key of a slot. -/
def gateSegs (j key : Nat) : List Gate → Nat
  | [] => 0
  | .bucket s st b q :: gs => (if s.val == j && collKey st b == key then segCount q else 0) + gateSegs j key gs
  | _ :: gs => gateSegs j key gs

/-- Bucket segments reserved by running tiles for a key of a slot (R468). -/
def State.bucketReserved (s : State) (j key : Nat) : Nat :=
  s.cores.foldl (fun a kv => kv.2.run.resBucket.foldl (fun b r =>
    if r.1 == j && r.2.1 * 65536 + r.2.2.1 == key then b + r.2.2.2 else b) a) 0

/-- A value of the image or of a parameter register. -/
def imgRead (v : ImgVal) (x : CoreSt) : Nat :=
  match v with
  | .imm n => n
  | .param k => (x.param k).toNat

/-- Whether a VERSION gate's binding is possible and the bind count allows admission (R102, R116). -/
def State.versionGate (s : State) (p : Nat) (r : Region) (b : Binding) : Bool :=
  let e := s.region p r.val
  let slot := match b with
    | .step n => e.stepSlot (BitVec.ofNat 16 n)
    | .current => e.current
  match slot with
  | some i => decide ((e.slot i).bind < 255)
  | none => false

/-- Whether a gate of the next tile of core `c`, among the gates `gs`, is satisfied (R116). -/
def State.gateOk (s : State) (c : Nat) (l : Launch) (gs : List Gate) (g : Gate) : Bool :=
  let x := s.core c
  let p := c / 16
  match g with
  | .beatOffset n => decide (l.startBeat + n ≤ s.beatIx)
  | .beatParam k => decide ((x.param k).toNat ≤ s.beatIx)
  | .version r b => s.versionGate p r b
  | .dma e ch n v => s.dmaGate (p * 32 + e.val * 16 + ch.val) n (imgRead v x)
  | .collective j st b h => s.collGate (s.lead p) j.val (collKey st b) h
  | .bucket j st b q =>
    let k := collKey st b
    s.bucketGate j.val k q (s.bucketReserved j.val k + gateSegs j.val k gs - segCount q)
  | .streamIn ch _ =>
    match l.img.channels[ch]? with
    | some d => d.cons == s.groupLocal c && decide (gateSum true ch gs ≤ (l.stream ch).data)
    | none => false
  | .streamOut ch _ =>
    match l.img.channels[ch]? with
    | some d => d.prod == s.groupLocal c && decide (gateSum false ch gs ≤ (l.stream ch).credits)
    | none => false

/-- Whether a gate has been voided by the abort of its step or of its reduction (R104, R129, R253). -/
def State.gateVoid (s : State) (c : Nat) (g : Gate) : Bool :=
  match g with
  | .version _ (.step n) => (s.fence (c / 16)).voided == some (BitVec.ofNat 16 n)
  | .collective j st b _ => s.collVoided (s.lead (c / 16)) j.val (collKey st b)
  | .bucket j st b _ => s.collVoided (s.lead (c / 16)) j.val (collKey st b)
  | _ => false

/-- The next tile of a core that stands at a boundary. -/
def State.nextTile (s : State) (c : Nat) : Option Tile :=
  let x := s.core c
  if x.run.tile.isSome || x.run.finished then none
  else
    match (s.items c)[x.run.item]? with
    | some (.tile t) => some t
    | _ => none

/-- The unsatisfied gates of the next tile of a core. -/
def State.openGates (s : State) (c : Nat) : List Gate :=
  match s.nextTile c, s.launchOf c with
  | some t, some (_, l) => t.gates.filter fun g => !s.gateOk c l t.gates g
  | _, _ => []

/-- Whether a core is blocked (R119). -/
def State.coreBlocked (s : State) (c : Nat) : Bool := !(s.openGates c).isEmpty

/-! ## Tiles (R115 to R118, R120) -/

/-- Reserving what one gate names (R116, R468). -/
def reserveGate (c k : Nat) (g : Gate) (s : State) : State :=
  match s.launch k, g with
  | some l, .streamIn ch q =>
    let st := l.stream ch
    (s.setLaunch k (l.setStream ch { st with data := st.data - q })).modCore c fun x =>
      { x with run := { x.run with resIn := mmod 0 x.run.resIn ch fun n => n + q } }
  | some l, .streamOut ch q =>
    let st := l.stream ch
    (s.setLaunch k (l.setStream ch { st with credits := st.credits - q })).modCore c fun x =>
      { x with run := { x.run with resOut := mmod 0 x.run.resOut ch fun n => n + q } }
  | some _, .bucket j st b q =>
    s.modCore c fun x =>
      { x with run := { x.run with resBucket := x.run.resBucket ++ [(j.val, st.toNat, b.toNat, segCount q)] } }
  | _, _ => s

/-- Reserving what a tile's gates name, in their order (R116). -/
def reserveGates (c k : Nat) (gs : List Gate) (s : State) : State := gs.foldl (fun s g => reserveGate c k g s) s

/-- Returning unused reservations (R117). -/
def returnReserved (c k : Nat) : List (Nat × Nat) → Bool → State → State
  | [], _, s => s
  | (ch, n) :: rest, inbound, s =>
    let s := match s.launch k with
      | some l =>
        let st := l.stream ch
        s.setLaunch k (l.setStream ch
          (if inbound then { st with data := st.data + n } else { st with credits := st.credits + n }))
      | none => s
    returnReserved c k rest inbound s

/-- A core gives up its reservations and stands at a boundary. -/
def State.leaveTile (s : State) (c : Nat) : State :=
  let x := s.core c
  let s := match x.run.launch with
    | some k => returnReserved c k x.run.resOut false (returnReserved c k x.run.resIn true s)
    | none => s
  s.modCore c fun x =>
    { x with run := { x.run with tile := none, resIn := [], resOut := [], readIn := [], resBucket := [] } }

/-- Whether a core may issue at all: its launch goes on in a RESIDENT context that is not being evicted, its cluster is
awake and not under self-test, and no spot check holds it (R118, R322, R347, R416). -/
def State.mayIssue (s : State) (c : Nat) (l : Launch) : Bool :=
  let x := s.core c
  let k := s.ctx l.ctx
  l.ending.isNone && !x.run.failed && !x.run.checked && k.state == .resident && !k.evictReq && !s.superseded &&
    s.clusterAwake (c / 16) && !s.bistRuns (c / 16)

/-- The issue of the next tile of a core, where its gates allow it (R116). -/
def issueTile (c : Core) (s : State) : State :=
  match s.launchOf c, s.nextTile c with
  | some (k, l), some t =>
    if s.mayIssue c l = false then s
    else if t.gates.any (s.gateVoid c) then s.endLaunch k (outsideEnd stFenceAborted)
    else
      if !(s.openGates c).isEmpty then s
      else
        let idx := tileIndex (s.items c) (s.core c).run.item
        let s := s.setLaunch k { l with startNs := some (l.startNs.getD s.beat) }
        let s := reserveGates c k t.gates s
        s.modCore c fun x =>
          { x with run := { x.run with
              tile := some (idx, s.beat), item := x.run.item + 1, tileBeats := 0, gateBeats := 0 } }
  | _, _ => s

/-! ## Contexts and their cores (R177 to R181) -/

/-- Bytes of a save slot (R181). -/
def Ctx.slotBytes (x : Ctx) : Nat := 704 * 1024 + 2 * 2 ^ 20 + x.spadSize * 65536

/-- Cores claimed by a context. -/
def Ctx.claimed (x : Ctx) : Nat := (List.range 128).countP fun g => x.coreMask.getLsbD g

/-- Bytes of a context's save area (R181). -/
def Ctx.saveArea (x : Ctx) : Nat := x.claimed * x.slotBytes

/-- Whether a context occupies its cores (R180): LOADING, RESIDENT or EVICTING, or torn down while on them. -/
def Ctx.occupies (x : Ctx) : Bool :=
  x.state == .loading || x.state == .resident || x.state == .evicting || (x.state == .teardown && x.onCores)

/-- The identifiers of a lead's context table. -/
def ctxIds (p : Nat) : List Nat := (List.range 16).map fun i => 16 * p + i

/-- The partitions of a group in which a context has cores. -/
def State.ctxParts (s : State) (k : Nat) : List Nat := ((s.ctxCores k).map fun c => c / 16).eraseDups

/-- CREATE (R177, R178). -/
def contextCreateW (s : State) (p i : Nat) : WR :=
  let k := 16 * p + i
  let x := s.ctx k
  if k = 0xFF ∨ x.state ≠ .free ∨ s.isLead p = false then .error .state
  else if x.coreMask = 0 ∨ x.coreMask.toNat / 2 ^ (16 * (s.members p).length) ≠ 0 ∨
      s.inGroupHbm p x.saveAddr x.saveArea = false ∨ 512 < x.spadBase + x.spadSize then .error .range
  else .ok (s.setCtxE k { x with
    state := .swapped, saved := false, saveError := false, quietPending := 0, blockedSince := 0, runnableSince := 0,
    sliceStart := none, charge := 0, overs := [], expired := none, evictReq := false,
    onCores := false })

/-- The offset of a context's CONTROL word (R361). -/
def ctxCtl (i : Nat) : Nat := 0xA000 + 64 * i + 0x28

/-- CONTEXT_CREATE (R177, R178). -/
def contextCreateEff (via : Via) (p : Part) (i : Fin 16) (s : State) : State :=
  s.blockWrite via p (ctxCtl i) (contextCreateW s p i)

/-- An eviction is requested: it ends the slice in the beat in which it is made (R185). -/
def State.requestEvict (s : State) (k : Nat) (counts : Bool) : State :=
  let x := s.ctx k
  if x.state = .resident ∧ x.evictReq = false then
    let s := s.setCtxE k { x with evictReq := true, sliceStart := none, expired := none }
    let s := if counts then s.pCount (k / 16) 0xB5 1 else s
    s.tryEvict k
  else s

/-- EVICT (R177): ignored unless RESIDENT. -/
def contextEvictW (s : State) (p i : Nat) : WR := .ok (s.requestEvict (16 * p + i) true)

/-- CONTEXT_EVICT (R177). -/
def contextEvictEff (via : Via) (p : Part) (i : Fin 16) (s : State) : State :=
  s.blockWrite via p (ctxCtl i) (contextEvictW s p i)

/-! ## What a context is waiting for (R119, R183) -/

/-- Whether a RESIDENT context is blocked (R119). -/
def State.ctxBlocked (s : State) (k : Nat) : Bool :=
  let x := s.ctx k
  x.state == .resident && (s.dueOf (k / 16) k).isEmpty &&
    (s.ctxCores k).all fun c =>
      match s.launchOf c with
      | some (_, l) => l.ctx != k || (s.core c).run.finished || s.coreBlocked c
      | none => true

/-- The beat counter value at which a context last became blocked (R177): now, where nothing has noted it yet; 0 while it is
not blocked. -/
def State.blockedAt (s : State) (k : Nat) : Nat :=
  let old := (s.ctx k).blockedSince
  if s.ctxBlocked k then (if old = 0 then max 1 s.beat else old) else 0

/-- Whether a SWAPPED context is runnable (R183). -/
def State.ctxRunnable (s : State) (k : Nat) : Bool := (s.ctx k).state == .swapped && !(s.dueOf (k / 16) k).isEmpty

/-- Keeping BLOCKED_SINCE and the moment a context became runnable (R177, R183). -/
def State.noteCtx (s : State) (k : Nat) : State :=
  let x := s.ctx k
  if x.state = .free then s
  else
    let since (on : Bool) (old : Nat) : Nat := if on then (if old = 0 then max 1 s.beat else old) else 0
    s.setCtxE k { x with
      blockedSince := s.blockedAt k,
      runnableSince := since (s.ctxRunnable k) x.runnableSince }

/-- The same for every context of a group. -/
def State.noteCtxs (s : State) (p : Nat) : State := (ctxIds (s.lead p)).foldl State.noteCtx s

/-- TILE_ISSUE (R116, R177). -/
def tileIssueEff (c : Core) (s : State) : State := (issueTile c s).noteCtxs (c.val / 16)

/-- LAUNCH_SLOT_START (R109, R177, R188 to R191). -/
def launchSlotStartEff (p : Part) (n : Fin 256) (s : State) : State := (slotStart p n s).noteCtxs p

/-! ## The swapper (R180, R183) -/

/-- Whether context `k` may enter LOADING when the contexts in `gone` have left (R180). -/
def State.fits (s : State) (k : Nat) (gone : List Nat) : Bool :=
  let others := (ctxIds (k / 16)).filter fun j => j != k && (s.ctx j).occupies && !gone.contains j
  let mine := s.ctxCores k
  (others.all fun j => ((s.ctx j).coreMask &&& (s.ctx k).coreMask) == 0) &&
  (s.ctxParts k).all fun q =>
    decide ((others.countP fun j => (s.ctxCores j).any fun c => c / 16 == q) + (if mine.any fun c => c / 16 == q then 1 else 0)
      ≤ 4)

/-- Whether resident context `j` is in the way of `k` (R183). -/
def State.inWay (s : State) (k : Nat) (gone : List Nat) (j : Nat) : Bool :=
  let others := (ctxIds (k / 16)).filter fun i => i != k && (s.ctx i).occupies && !gone.contains i
  ((s.ctx j).coreMask &&& (s.ctx k).coreMask) != 0 ||
  (s.ctxParts k).any fun q =>
    (s.ctxCores j).any (fun c => c / 16 == q) &&
      decide (4 ≤ others.countP fun i => (s.ctxCores i).any fun c => c / 16 == q)

/-- The element with the least key, the first of equals. -/
def leastBy (f : Nat → Nat × Nat) : List Nat → Option Nat
  | [] => none
  | k :: ks =>
    match leastBy f ks with
    | none => some k
    | some b =>
      if (f k).1 < (f b).1 ∨ ((f k).1 = (f b).1 ∧ (f k).2 ≤ (f b).2) then some k else some b

/-- The evictions that make room for `k` (R183): the contexts to evict with whether each counts in PREEMPTIONS; none when
R180 cannot be met. -/
def State.makeRoom (s : State) (k : Nat) : Nat → List Nat → List (Nat × Bool) → Option (List (Nat × Bool))
  | 0, _, _ => none
  | n + 1, gone, picked =>
    if s.fits k gone then some picked
    else
      let cand := (ctxIds (k / 16)).filter fun j =>
        j != k && (s.ctx j).state == .resident && !gone.contains j && s.inWay k gone j
      let blocked := cand.filter fun j => (s.ctx j).blockedSince != 0
      let expired := cand.filter fun j => (s.ctx j).expired.isSome
      let lower := cand.filter fun j => decide ((s.ctx j).priority < (s.ctx k).priority)
      match leastBy (fun j => ((s.ctx j).blockedSince, 0)) blocked with
      | some j => s.makeRoom k n (j :: gone) (picked ++ [(j, false)])
      | none =>
        match leastBy (fun j => ((s.ctx j).expired.getD 0, 0)) expired with
        | some j => s.makeRoom k n (j :: gone) (picked ++ [(j, true)])
        | none =>
          match leastBy (fun j => ((s.ctx j).priority, (s.ctx j).restored)) lower with
          | some j => s.makeRoom k n (j :: gone) (picked ++ [(j, true)])
          | none => none

/-- The contexts whose cores are already being given up. -/
def State.leaving (s : State) (p : Nat) : List Nat :=
  (ctxIds p).filter fun j => (s.ctx j).state == .evicting || (s.ctx j).evictReq

/-- One evaluation of the swapper of lead `p` (R183). -/
def State.swap (s : State) (p : Nat) : State :=
  let s := s.noteCtxs p
  let run := (ctxIds p).filter s.ctxRunnable
  let top := run.foldl (fun m k => max m (s.ctx k).priority) 0
  match leastBy (fun k => ((s.ctx k).runnableSince, 0)) (run.filter fun k => (s.ctx k).priority == top) with
  | none => s
  | some k =>
    if s.groupRuns p = false ∨ s.bistRuns p = true then s
    else if s.fits k [] then s.modCtxE k fun x => { x with state := .loading, runnableSince := 0, since := s.beatIx }
    else
      match s.makeRoom k 17 (s.leaving p) [] with
      | none => s
      | some l => l.foldl (fun s j => s.requestEvict j.1 j.2) s

/-- SWAPPER_EVALUATE (R183). A superseded device swaps nothing (R224). -/
def swapperEvaluateEff (p : Part) (s : State) : State := if s.superseded then s else s.swap (s.lead p)

/-! ## Eviction and restore (R181, R182) -/

/-- In-core state as partition reset gives it, but for the idle counters. -/
def CoreSt.cleared (x : CoreSt) : CoreSt := { CoreSt.reset with idle := x.idle }

/-- A context's scratchpad range on a core. -/
def Ctx.spadAt (x : Ctx) (c : Nat) : Nat × Nat := (Sys2Proof.Machine.spadBase c + x.spadBase * 65536, x.spadSize * 65536)

/-- What an eviction keeps of one core: granules in `lost` read as zero (R181). -/
def State.saveCore (s : State) (x : Ctx) (lost : List Nat) (c : Nat) : Nat × SavedCore :=
  let m := lost.foldl (fun m a => m.zero (a / 16 * 16) 16) s.mem
  let y := s.core c
  let w := m.take (walnutBase c) walnutSize
  (c, ⟨y, w, m.take (x.spadAt c).1 (x.spadAt c).2⟩)

/-- Bytes that an eviction of one core writes. -/
def State.evictBytes (s : State) (x : Ctx) (c : Nat) : Nat :=
  656 * 1024 + ((s.core c).regions.foldl (fun a r => a + 4 * r.len) 0) + x.spadSize * 65536

/-- Bytes that a saved core holds. -/
def savedBytes (x : Ctx) (v : Nat × SavedCore) : Nat :=
  656 * 1024 + (v.2.core.regions.foldl (fun a r => a + 4 * r.len) 0) + x.spadSize * 65536

/-- CONTEXT_EVICT_DONE (R181): `lost` are addresses of granules of the scratchpad range that could not be read. -/
def contextEvictDoneEff (p : Part) (i : Fin 16) (lost : List Nat) (s : State) : State :=
  let k := 16 * p.val + i.val
  let x := s.ctx k
  if x.state ≠ .evicting ∨ s.superseded = true then s
  else
    let cores := s.ctxCores k
    let bad := lost.filter fun a => cores.any fun c =>
      decide ((x.spadAt c).1 ≤ a) && decide (a < (x.spadAt c).1 + (x.spadAt c).2)
    let kept := cores.map (s.saveCore x bad)
    let bytes := cores.foldl (fun a c => a + s.evictBytes x c) 0
    let s := bad.foldl (fun s a => match spaceOf a with
      | .spad c => (s.eccNote .spadRead (c / 16) c a (.uncorrectable 0)).partFault (c / 16)
      | _ => s) s
    let s := s.freeMem x.saveAddr x.saveArea
    let s := cores.foldl (fun s c => s.modCore c fun y => { y with run := .idle, spot := none }) s
    let s := { s with saved := mset [] s.saved k kept }
    let s := s.setCtxE k { x with
      state := .swapped, saved := true, saveError := x.saveError || !bad.isEmpty, saveBytes := bytes, evictReq := false,
      expired := none, sliceStart := none }
    (((s.pCount p 0xB3 1).pCount p 0xB4 bytes).swap p)

/-- The length of the next slice, and the charge that remains (R186). -/
def Ctx.nextSlice (x : Ctx) : Ctx :=
  let cut := min x.slice x.charge
  { x with sliceLen := x.slice - cut, charge := x.charge - cut }

/-- A slice begins at a moment of the beat counter (R185). -/
def Ctx.beginSlice (x : Ctx) (t : Nat) : Ctx :=
  if x.slice = 0 then { x with sliceStart := none } else { x.nextSlice with sliceStart := some t }

/-- Restoring one core: what was kept, or the values of a first restore (R181). Bytes outside the context's range are
left undefined. -/
def State.restoreCore (s : State) (x : Ctx) (kept : List (Nat × SavedCore)) (c : Nat) : State :=
  let (a, n) := x.spadAt c
  let lo := spadBase c
  let hi := lo + spadSize
  let s := if lo < a then s.freeMem lo (a - lo) else s
  let s := if a + n < hi then s.freeMem (a + n) (hi - (a + n)) else s
  match kept.find? fun v => v.1 == c with
  | some v =>
    let m := (s.mem.put (walnutBase c) walnutSize v.2.walnut).put a n v.2.spad
    { s with mem := m }.modCore c fun y =>
      { v.2.core with idle := y.idle, run := { v.2.core.run with gateBeats := 0 } }
  | none => ((s.zeroMem (walnutBase c) walnutSize).zeroMem a n).modCore c CoreSt.cleared

/-- CONTEXT_RESTORE_DONE (R181, R182, R185). -/
def contextRestoreDoneEff (p : Part) (i : Fin 16) (s : State) : State :=
  let k := 16 * p.val + i.val
  let x := s.ctx k
  if x.state ≠ .loading ∨ s.superseded = true then s
  else
    let kept := mget [] s.saved k
    let bytes := if x.saved then kept.foldl (fun a v => a + savedBytes x v) 0 else 0
    let s := (s.ctxCores k).foldl (fun s c => s.restoreCore x kept c) s
    let s := { s with saved := mset [] s.saved k [] }
    let s := s.setCtxE k ({ x with
      state := .resident, restored := s.beat, evictReq := false, expired := none, blockedSince := 0 }.beginSlice s.beat)
    ((s.pCount p 0xB3 1).pCount p 0xB4 bytes).noteCtxs p

/-! ## Completing a tile, and overrun (R115, R120, R186, R322) -/

/-- Cycles of a cluster's clock in a stretch of nanoseconds. -/
def State.cyclesIn (s : State) (p ns : Nat) : Nat := ns * s.rdN (objKey 0x2200 (0x10 + p)) / 1000

/-- Beats charged against a context (R186): they shorten the slice that has begun since the expiry, and what goes beyond its
length is carried to the one after. -/
def Ctx.chargeBeats (x : Ctx) (n : Nat) : Ctx :=
  if x.sliceStart.isSome then
    let cut := min x.sliceLen n
    { x with sliceLen := x.sliceLen - cut, charge := x.charge + (n - cut) }
  else { x with charge := x.charge + n }

/-- The overrun of an atomic tile that was running when one slice or more expired (R186): its cycles from each expiry, and
the beats not yet charged for it. -/
def State.chargeOverrun (s : State) (c k issued : Nat) (l : Launch) : State :=
  let x := s.ctx l.ctx
  let met (e : Nat × Nat) : Bool := decide (issued ≤ e.1)
  let beats (e : Nat × Nat) : Nat := (s.beat - e.1 + 1023) / 1024
  let cycles := x.overs.foldl (fun a e => if met e then a + s.cyclesIn (c / 16) (s.beat - e.1) else a) 0
  let more := x.overs.foldl (fun a e => if met e then a + (beats e - e.2) else a) 0
  let overs := x.overs.map fun e => if met e then (e.1, max e.2 (beats e)) else e
  let s := s.setLaunch k { l with overrun := l.overrun + cycles }
  (s.setCtxE l.ctx ({ x with overs := overs }.chargeBeats more)).pCount (k / 256) 0xB6 more

/-- Whether the tile that has just run is sampled for a spot check (R322): which tiles of ten thousand are taken is open,
so the choice is a free value held to the rate. -/
def State.spotSample (s : State) (p : Nat) : State × Bool :=
  let rate := if mget false s.health.probation (0x300 + p) || mget false s.health.probation 0
    then s.rdN (objKey 0x2400 0x0F) else s.rdN (objKey 0x2400 0x0E)
  let seen := mget 0 s.health.spotSeen p
  let taken := mget 0 s.health.spotTaken p
  let want := if rate ≤ taken then false
    else if 10000 - seen ≤ rate - taken then true
    else (Config.freeWord s.freeCtr p).getLsbD 0
  let wrap := decide (9999 ≤ seen)
  let h := { s.health with
    spotSeen := mset 0 s.health.spotSeen p (if wrap then 0 else seen + 1),
    spotTaken := mset 0 s.health.spotTaken p (if wrap then 0 else taken + b2n want) }
  ({ s with health := h, freeCtr := s.freeCtr + 1 }, want)

/-- Whether a core of a cluster other than `c` counts NO_WORK: no launch has a tile to issue on it (R131, R322). -/
def State.noWork (s : State) (c : Nat) : Bool := (s.core c).run.launch.isNone

/-- A checkable tile of `cycles` cycles has run: a spot check starts, or is skipped (R322). -/
def State.spotAfter (s : State) (c cycles : Nat) : State :=
  let p := c / 16
  let (s, want) := s.spotSample p
  if want = false then s
  else
    let free := (List.range 16).any fun q => 16 * p + q != c && s.noWork (16 * p + q)
    let spent := mget 0 s.health.spotCycles p + cycles
    let total := s.cyclesIn p (s.mgmt.ns - s.health.subStart) * 16
    if free && decide (50 * spent ≤ total) then
      { s with health := { s.health with spotCycles := mset 0 s.health.spotCycles p spent } }.modCore c fun x =>
        { x with run := { x.run with checked := true } }
    else s.count (objKey 0x2400 0x12) 1

/-- Whether a drain that a core's tile has issued still waits (R84, R115). -/
def CoreSt.drains (x : CoreSt) : Bool := x.regions.any fun o => o.draining.isSome

/-- TILE_COMPLETE (R115, R117, R120): a tile completes only when its drains have delivered their last granules. -/
def tileCompleteEff (c : Core) (cycles : Nat) (s : State) : State :=
  let x := s.core c
  match s.launchOf c, x.run.tile with
  | some (k, l), some (_, issued) =>
    if x.drains || s.collWaits c then s else
    let t := s.runningTile c
    let atomic := match t with
      | some t => t.atomic
      | none => false
    let s := if (if atomic then 51200 else 16000) < cycles then s.pCount (c.val / 16) 0x8C 1 else s
    let s := if atomic then s.chargeOverrun c k issued l else s
    let s := (s.leaveTile c).settleCore c
    let s := match t with
      | some t => if t.checkable then s.spotAfter c cycles else s
      | none => s
    (s.tryEvict l.ctx).noteCtx l.ctx
  | _, _ => s

/-- SLICE_EXPIRY (R185, R186). -/
def sliceExpiryEff (p : Part) (i : Fin 16) (s : State) : State :=
  let k := 16 * p.val + i.val
  let x := s.ctx k
  match x.sliceStart with
  | none => s
  | some t =>
    let end_ := t + x.sliceLen * 1024
    if x.state ≠ .resident ∨ s.beat < end_ ∨ s.superseded = true then s
    else
      let runs (t : Nat) : Bool := (s.ctxCores k).any fun c => match (s.core c).run.tile with
        | some r => decide (r.2 ≤ t)
        | none => false
      let overs := (x.overs ++ [(end_, 0)]).filter fun e => runs e.1
      let s := s.setCtxE k { x with expired := some end_, overs := overs, sliceStart := none }
      let s := s.swap p
      if (s.ctx k).evictReq ∨ (s.ctx k).state ≠ .resident then s
      else s.modCtxE k fun x => { x with expired := none }.beginSlice end_

/-! ## Teardown (R195 to R198) -/

/-- Running launches of a context, in slot order. -/
def State.ctxLaunches (s : State) (k : Nat) : List Nat := (s.launches.filter fun kv => kv.2.ctx == k).map Prod.fst

/-- The member tables' entries for a job, over the slots that a group holds (R196 step 5). -/
def State.memberEntries (s : State) (lead job : Nat) : List Nat :=
  if job = 0xFFF then []
  else (List.range 128).flatMap fun j =>
    if s.rdN (jsKey j 1) = job ∧ s.holder j = lead ∧ s.jsState j ≠ 0 then
      (List.range (s.rdN (jsKey j 8))).map fun r => s.mem.readLE (s.rdN (jsKey j 9) + 4 * r) 4
    else []

/-- Quiet requests to members (R196 step 5). -/
def sendQuiet (job k : Nat) : List Nat → Nat → State → State
  | [], _, s => s
  | e :: es, n, s =>
    let p := { mkPacket 6 3 (BitVec.ofNat 24 e) job k with seq := BitVec.ofNat 16 n }
    sendQuiet job k es (n + 1) (s.inject (partDie (k / 16)) p)

/-- The launch slots of lead `p` that are armed for a context. -/
def State.armedOf (s : State) (p k : Nat) : List Nat :=
  (s.slots.filter fun kv => kv.1 / 256 == p && kv.2.state == .armed && kv.2.ctxId == k).map fun kv => kv.1 % 256

/-- Retiring a context's identifier: steps 1 to 5 of R196, begun together. -/
def State.teardown (s : State) (k : Nat) : State :=
  let x := s.ctx k
  let p := k / 16
  if x.state = .free ∨ x.state = .teardown ∨ x.state = .retired then s
  else
    let s := s.setCtxE k { x with
      state := .teardown, onCores := x.state == .resident, evictReq := false, sliceStart := none, expired := none,
      blockedSince := 0, runnableSince := 0, since := s.beatIx }
    let s := (s.ctxLaunches k).foldl (fun s l => (s.endLaunch l (outsideEnd stTornDown)).tryFinish l) s
    let s := (s.armedOf p k).foldl (fun s n => s.slotEnd p n (s.slot p n).handle stProgramInvalid) s
    let s := if x.state = .evicting then s.freeMem x.saveAddr x.saveArea else s
    let s := if x.state = .evicting ∨ x.state = .loading then
      (s.ctxCores k).foldl (fun s c => s.modCore c fun y => { y with run := .idle }) s else s
    let s := { s with saved := mset [] s.saved k [] }
    let s := s.dmaRetire (s.members p) k
    let s := (s.members p).foldl (fun s q => s.loaderTeardown q k) s
    let s := if x.jobId = 0xFFF then s
      else s.detachColl p true fun j => s.rdN (jsKey j 1) == x.jobId
    let peers := s.memberEntries p x.jobId
    let s := s.modCtxE k fun y => { y with quietPending := peers.length }
    sendQuiet x.jobId k peers 0 s

/-- TEARDOWN (R177, R196). -/
def contextTeardownW (s : State) (p i : Nat) : WR := .ok (s.teardown (16 * p + i))

/-- CONTEXT_TEARDOWN (R196). -/
def contextTeardownEff (via : Via) (p : Part) (i : Fin 16) (s : State) : State :=
  s.blockWrite via p (ctxCtl i) (contextTeardownW s p i)

/-- QUIET_ACK (R196 step 7). An acknowledgement with a stale epoch is dropped. -/
def quietAckEff (pkt : Packet) (s : State) : State :=
  let k := pkt.ctxId.toNat
  let x := s.ctx k
  let stale := match s.epochOf pkt.src with
    | some e => epochNewer e pkt.srcEpoch
    | none => false
  if s.superseded ∨ stale = true ∨ x.state ≠ .teardown ∨ x.jobId ≠ pkt.jobId.toNat then s
  else s.setCtxE k { x with quietPending := x.quietPending - 1 }

/-- The cores of a context that no other context holds. -/
def State.freeCoresOf (s : State) (k : Nat) : List Nat :=
  (s.ctxCores k).filter fun c =>
    (ctxIds (k / 16)).all fun j => j == k || !(s.ctx j).occupies || !(s.ctxCores j).contains c

/-- The end of a teardown (R197): the in-core state and the scratchpad range are cleared. -/
def State.endTeardown (s : State) (k : Nat) (timedOut : Bool) : State :=
  let x := s.ctx k
  let s := (s.freeCoresOf k).foldl (fun s c =>
    ((s.zeroMem (walnutBase c) walnutSize).zeroMem (x.spadAt c).1 (x.spadAt c).2).modCore c CoreSt.cleared) s
  let s := s.setCtxE k { s.ctx k with
    state := .retired, onCores := false, timedOut := timedOut, since := s.beatIx }
  if timedOut then s.count32Sat (pKey (k / 16) 0xBB) 1 else s

/-- TEARDOWN_COMPLETE (R197): on quiet. -/
def teardownCompleteEff (p : Part) (i : Fin 16) (s : State) : State :=
  let k := 16 * p.val + i.val
  let x := s.ctx k
  if x.state = .teardown ∧ (s.ctxLaunches k).isEmpty = true ∧ s.dmaQuiet (s.members p) k = true ∧ x.quietPending = 0 then
    (s.endTeardown k false).swap p
  else s

/-- TEARDOWN_DEADLINE (R197): launches whose tiles still run end here with their records. -/
def teardownDeadlineEff (p : Part) (i : Fin 16) (s : State) : State :=
  let k := 16 * p.val + i.val
  let x := s.ctx k
  if x.state = .teardown ∧ x.since + x.teardownDl ≤ s.beatIx then
    let s := (s.ctxLaunches k).foldl (fun s l => ((s.launchCores l).foldl State.leaveTile s).tryFinish l) s
    (s.endTeardown k true).swap p
  else s

/-- RETIRE_HOLD_EXPIRY (R198). -/
def retireHoldExpiryEff (p : Part) (i : Fin 16) (s : State) : State :=
  let k := 16 * p.val + i.val
  let x := s.ctx k
  if x.state = .retired ∧ x.since + s.rdN (objKey 0x2300 0x10) ≤ s.beatIx then s.setCtxE k { x with state := .free } else s

/-! ## Groups (R174) and counters (R199) -/

/-- Whether a partition has every context FREE and every slot EMPTY or DONE (R174). -/
def State.idleTables (s : State) (p : Nat) : Bool :=
  ((ctxIds p).all fun k => (s.ctx k).state == .free) &&
  (List.range 256).all fun n => (s.slot p n).state == .empty || (s.slot p n).state == .done

/-- A write to GROUP_LEAD of partition `q` (R174, R199). -/
def groupLeadW (s : State) (via : Via) (q : Nat) (v : Word) : WR :=
  let l := v.toNat
  let members := s.members q
  if viaPriv via = false then .error .access
  else if 15 < l ∨ q < l then .error .range
  else if l = q then
    if s.isLead q then (if members.length = 1 then .ok s else .error .state)
    else if members.all s.idleTables then .ok (s.pWr q 0xB0 v) else .error .state
  else
    let dest := s.members l
    if members.length ≠ 1 ∨ s.isLead l = false ∨ 8 ≤ dest.length ∨ (dest ++ [q]).all s.idleTables = false then .error .state
    else .ok (s.pWr q 0xB0 v)

/-- GROUP_LEAD_WRITE (R174). -/
def groupLeadWriteEff (via : Via) (p : Part) (value : Word) (s : State) : State :=
  s.partWrite via p 0xB0 (groupLeadW s via p (BitVec.ofNat 64 (value.toNat % 256)))

/-- SCHED_COUNTER_CLEAR (R199). -/
def schedCounterClearEff (via : Via) (p : Part) (value : Word) (s : State) : State :=
  s.partWrite via p 0xBC (clearW s value (s.clearObjs (partIx p) 0xB3 9))

/-! ## The context table by dword (R177, R178) -/

/-- A write of the dword at byte `off` of a context entry. -/
def ctxDwordW (s : State) (p i off : Nat) (v : Nat) : WR :=
  let k := 16 * p + i
  let x := s.ctx k
  let put (ok : Bool) (y : Ctx) : WR :=
    if x.state ≠ .free then .error .state else if ok then .ok (s.setCtxE k y) else .error .range
  if off < 0x10 then
    let m : Nat := x.coreMask.toNat
    let m' : Nat := m - m / 2 ^ (8 * off) % 2 ^ 32 * 2 ^ (8 * off) + v * 2 ^ (8 * off)
    put true { x with coreMask := BitVec.ofNat 128 m' }
  else if off = 0x10 then put (v % 65536 == 0) { x with saveAddr := x.saveAddr / 2 ^ 32 * 2 ^ 32 + v }
  else if off = 0x14 then put true { x with saveAddr := x.saveAddr % 2 ^ 32 + v % 2 ^ 16 * 2 ^ 32 }
  else if off = 0x18 then
    put (decide (v % 65536 ≤ 511) && decide (v / 65536 ≤ 512)) { x with spadBase := v % 65536, spadSize := v / 65536 }
  else if off = 0x1C then put (decide (v ≤ 1000000)) { x with slice := v }
  else if off = 0x20 then put (v % 65536 != 0) { x with teardownDl := v % 65536, jobId := v / 65536 % 4096 }
  else if off = 0x24 then
    put (decide (v % 256 ≤ 3) && decide (1 ≤ v / 256 % 256) && decide (v / 256 % 256 ≤ 15))
      { x with priority := v % 256, weight := v / 256 % 256 }
  else if off = 0x28 then
    ctlActs (BitVec.ofNat 64 v) 0 [(contextCreateW · p i), (contextEvictW · p i), (contextTeardownW · p i)] s
  else .ok s

/-- The code of a context state (R177). -/
def CtxState.code : CtxState → Nat
  | .free => 0
  | .swapped => 1
  | .loading => 2
  | .resident => 3
  | .evicting => 4
  | .teardown => 5
  | .retired => 6

/-- A dword of a context entry (R177). -/
def State.ctxDword (s : State) (k off : Nat) : Nat :=
  let x := s.ctx k
  if off < 0x10 then x.coreMask.toNat / 2 ^ (8 * off) % 2 ^ 32
  else if off = 0x10 then x.saveAddr % 2 ^ 32
  else if off = 0x14 then x.saveAddr / 2 ^ 32
  else if off = 0x18 then x.spadSize * 65536 + x.spadBase
  else if off = 0x1C then x.slice
  else if off = 0x20 then x.jobId * 65536 + x.teardownDl
  else if off = 0x24 then x.weight * 256 + x.priority
  else if off = 0x2C then
    min x.quietPending 255 * 65536 + b2n x.saveError * 32 + b2n x.timedOut * 16 + b2n (s.ctxRunnable k) * 8 + x.state.code
  else if off = 0x30 then s.blockedAt k % 2 ^ 32
  else if off = 0x34 then s.blockedAt k / 2 ^ 32 % 2 ^ 32
  else if off = 0x38 then x.saveBytes % 2 ^ 32
  else if off = 0x3C then x.saveBytes / 2 ^ 32 % 2 ^ 32
  else 0

/-- RESIDENT_MASK (R199). -/
def State.residentMask (s : State) (p : Nat) : Nat :=
  (List.range 16).foldl (fun a i =>
    let st := (s.ctx (16 * p + i)).state
    if st = .loading ∨ st = .resident ∨ st = .evicting then a + 2 ^ i else a) 0

end Sys2Proof.Machine
end

