-- ==== Sys2Proof/Machine/Scrub.lean ====
section
/-! DEFINITION. Retention masks, patrol scrub and the clears of the memory counters and log (R138, R149, R153 to R156). -/

namespace Sys2Proof.Machine

/-- A core's retention mask (R138). -/
def State.retainMask (s : State) (c : Nat) : Word := mget 0#64 s.retain c

/-- The bits set in a word. -/
def bitCount (v : Word) : Nat := (List.range 64).countP fun i => v.getLsbD i

/-- Retention banks selected in a partition (R156). -/
def State.retainBanks (s : State) (p : Nat) : Nat :=
  (List.range 16).foldl (fun a l => a + bitCount (s.retainMask (16 * p + l))) 0

/-- Retention banks selected in the device (R153). -/
def State.retainTotal (s : State) : Nat := s.retain.foldl (fun a kv => a + bitCount kv.2) 0

/-- A write to RETAIN_MASK (R138): during retention entry it waits for the exit. -/
def retainMaskW (s : State) (via : Via) (p : Nat) (v : Word) : WR :=
  let c := 16 * p + s.pN p 0x90
  let late := s.pow.retainLate.foldl
    (fun m kv => match kv.2 with
      | some w => mset 0#64 m kv.1 w
      | none => m) s.retain
  let total := (mset 0#64 late c v).foldl (fun a kv => a + bitCount kv.2) 0
  if viaPriv via = false then .error .access
  else if 1024 < total then .error .range
  else if s.rdN (objKey 0x2000 7) = 1 then
    .ok { s with pow := { s.pow with retainLate := mset none s.pow.retainLate c (some v) } }
  else .ok { s with retain := mset 0#64 s.retain c v }

/-- RETAIN_MASK_WRITE (R138). -/
def retainMaskWriteEff (via : Via) (p : Part) (value : Word) (s : State) : State :=
  s.partWrite via p 0x91 (retainMaskW s via p value)

/-- Whether an HBM channel is in self-refresh (R416). -/
def State.channelSleeps (s : State) (n : Nat) : Bool := s.pN (n / 24) 1 == 2 && !s.pow.awake.contains n

/-- The first granule of partition `p`'s HBM at or after `a` on a channel that is not in self-refresh: of 24 runs of 256 B one
after another, each is on a channel of its own (R140). -/
def State.nextHbmIn (s : State) (p a : Nat) : Option Nat :=
  let from_ := max a (hbmBase p)
  (List.range 25).findSome? fun i =>
    let b := max from_ ((from_ / 256 + i) * 256)
    if b < hbmBase (p + 1) ∧ s.channelSleeps (hbmChannel b) = false then some b else none

/-- The next granule of HBM that patrol scrub reads, at or after `a`: channels in self-refresh are skipped (R149). -/
def State.nextHbm (s : State) (a : Nat) : Option Nat :=
  (List.range 16).findSome? fun p => if a < hbmBase (p + 1) then s.nextHbmIn p a else none

/-- The next granule of a scratchpad that patrol scrub reads, at or after offset `o` from the first: partitions that keep
banks without their clock are skipped (R138, R149). -/
def State.nextSpad (s : State) (o : Nat) : Option Nat :=
  (List.range 16).findSome? fun p =>
    if o < (p + 1) * (16 * spadSize) ∧ s.pN p 1 = 0 then some (max o (p * (16 * spadSize))) else none

/-- The period of a pass in nanoseconds: SCRUB_HBM_PERIOD, at most 60 s while a stack is in probation, or SCRUB_SPAD_PERIOD
(R149, R324). -/
def State.scrubPeriod (s : State) (hbm : Bool) : Nat :=
  let h := s.health
  let strict := mget false h.probation 0 || (List.range 12).any fun n => mget false h.probation (0x200 + n)
  let secs := if hbm then (if strict then min 60 (s.rdN (objKey 0x2800 3)) else s.rdN (objKey 0x2800 3))
    else s.rdN (objKey 0x2800 4)
  secs * 10 ^ 9

/-- A patrol scrub of the device. -/
def State.scrub (s : State) (hbm : Bool) : Scrub := if hbm then s.health.scrubHbm else s.health.scrubSpad

/-- Setting it. -/
def State.setScrub (s : State) (hbm : Bool) (x : Scrub) : State :=
  { s with health := if hbm then { s.health with scrubHbm := x } else { s.health with scrubSpad := x } }

/-- The next granule of a patrol scrub, counted from the start of its memory. -/
def State.nextScrub (s : State) (hbm : Bool) (o : Nat) : Option Nat := if hbm then s.nextHbm o else s.nextSpad o

/-- The outcome of a patrol read (R148): counted and logged, and an uncorrectable one raises the memory event. -/
def State.scrubNote (s : State) (hbm : Bool) (o : Nat) (out : ShellOutcome) : State :=
  let p := if hbm then o / hbmSize else o / (16 * spadSize)
  let s := if hbm then s.eccNote .hbmPatrol p (hbmChannel o) o out
    else s.eccNote .spadPatrol p (o / spadSize) (spadBase 0 + o) out
  if out.bad then s.event p 6 else s

/-- After the read at `o`: the scrub stands behind it; where nothing is left to read the pass is complete and counted, and
the next begins a period after this one began (R149). -/
def State.scrubOn (s : State) (hbm : Bool) (o : Nat) : State :=
  let x := s.scrub hbm
  let since := if x.running then x.since else s.mgmt.ns
  match s.nextScrub hbm (o + 16) with
  | some _ => s.setScrub hbm ⟨o + 16, true, since⟩
  | none =>
    (s.setScrub hbm ⟨0, false, since + s.scrubPeriod hbm⟩).count32 (objKey 0x2800 (if hbm then 5 else 6)) 1

/-- PATROL_SCRUB_READ (R148, R149): the next granule of a pass, in ascending order; a pass begins no sooner than a period
after the last began. -/
def patrolScrubReadEff (hbm : Bool) (o : ShellOutcome) (s : State) : State :=
  let x := s.scrub hbm
  if s.jobReady = false ∨ (x.running = false ∧ s.mgmt.ns < x.since) then s
  else
    match s.nextScrub hbm x.at_ with
    | some a => (s.scrubNote hbm a o.first).scrubOn hbm a
    | none => s

/-- The log emptied (R153). -/
def State.clearEccLog (s : State) : State := { s with eccLog := [] }.wr (objKey 0x2800 0x0E) 0

/-- ECC_LOG_CLEAR (R153). -/
def eccLogClearEff (via : Via) (value : Word) (s : State) : State :=
  s.objWrite via 0x2800 0x0F (clearW s value s.clearEccLog)

/-- MEM_COUNTER_CLEAR (R156). -/
def memCounterClearEff (via : Via) (p : Part) (value : Word) (s : State) : State :=
  s.partWrite via p 0x9A (clearW s value (s.clearObjs (partIx p) 0x94 6))

end Sys2Proof.Machine
end

