-- ==== Sys2Proof/Machine/HostLink.lean ====
section
/-! DEFINITION. The PCI Express side: bus mastering, D3hot, virtual functions, MSI-X release, BAR4, the domain window and
address translation (R352 to R369). -/

namespace Sys2Proof.Machine

/-! ## Functions (R354 to R357, R366, R367) -/

/-- Current Link Speed as the standard Link Status register codes it (R353; log entry 104). -/
def speedCode : PcieSpeed → Nat
  | .gt2 => 1
  | .gt5 => 2
  | .gt8 => 3
  | .gt16 => 4
  | .gt32 => 5
  | .gt64 => 6

/-- The lanes of a width: Negotiated Link Width as the Link Status register codes it. -/
def widthLanes : PcieWidth → Nat
  | .x1 => 1
  | .x2 => 2
  | .x4 => 4
  | .x8 => 8
  | .x16 => 16

/-- The Link Status register of the PF's configuration space (R353): Current Link Speed in [3:0], Negotiated Link Width in
[9:4], and 0 while the link is down (log entry 104). -/
def State.linkStatus (s : State) : Nat :=
  match s.host.link with
  | some l => widthLanes l.width * 16 + speedCode l.speed
  | none => 0

/-- The PCIe link trains, or is down where the rails, the reference or the reset hold it (R352, R353, R408): CFG_STRAP[3]
leaves eight lanes of sixteen. -/
def State.trainPcie (s : State) (l : PcieLink) : State :=
  let l := if l.width = .x16 ∧ bit (s.rd (objKey 0x1100 0x10)) 3 = true then { l with width := .x8 } else l
  { s with host := { s.host with link := if s.pcieUp then some l else none } }

/-- The completion of a host read through function `f` (R368). -/
def State.complete (s : State) (f status : Nat) (data : List Byte) : State :=
  s.emit (.completion f status (s.func f).relaxed data)

/-- Changing a function. -/
def State.modFunc (s : State) (f : Nat) (g : FuncSt → FuncSt) : State := s.setFunc f (g (s.func f))

/-- Whether a function exists on a link that is up. -/
def State.funcLive (s : State) (f : Nat) : Bool := s.pcieUp && (f == 0 || s.vfExists f)

/-- A vector that is pending and neither masked nor held sends its message (R367). -/
def State.releaseVector (s : State) (f v : Nat) : State :=
  let x := s.func f
  if x.msixEnable && (x.vec v).pending && !x.held v then
    (s.setFunc f (x.setVec v { x.vec v with pending := false })).emit (.msix f v)
  else s

/-- The vectors of a function. -/
def vecCount (f : Nat) : Nat := if f = 0 then 144 else 8

/-- MSIX_VECTOR_RELEASE (R367). -/
def msixVectorReleaseEff (f : Func) (vector : Nat) (s : State) : State :=
  if s.funcLive f.val && decide (vector < vecCount f.val) then s.releaseVector f.val vector else s

/-- BUS_MASTER_DISABLE (R355). -/
def busMasterDisableEff (f : Func) (s : State) : State :=
  if s.funcLive f.val then (s.modFunc f.val fun x => { x with busMaster := false }).dmaNoBus f.val else s

/-- D3HOT_ENTRY (R357). -/
def d3hotEntryEff (f : Func) (s : State) : State :=
  if s.funcLive f.val then s.modFunc f.val fun x => { x with d3hot := true } else s

/-- The pending events of a VF that ceases to exist move to the PF (R366); its registers return to their reset values. -/
def State.dropVf (s : State) (v : Nat) : State :=
  let x := s.func v
  let s := (s.dmaNoBus v).setFunc v .reset
  (List.range 8).foldl (fun s k =>
    if (x.vec k).pending = false then s
    else if (s.func 0).msixEnable then s.sendMsix 0 (16 + 8 * (v - 1) + k)
    else s.emit (.unsignalled (v - 1) k)) s

/-- VF_ENABLE_CHANGE (R354, R366): NumVFs changes only while VF Enable is 0. -/
def vfEnableChangeEff (enable : Bool) (numVfs : Nat) (s : State) : State :=
  if s.pcieUp = false ∨ 16 < numVfs ∨ (s.host.vfEnable = true ∧ enable = true) then s
  else
    let gone := (List.range 17).filter fun v => s.vfExists v && !(enable && decide (v ≤ numVfs))
    gone.foldl State.dropVf { s with host := { s.host with vfEnable := enable, numVfs := numVfs } }

/-! ## BAR4 (R362, R431) -/

/-- Whether a range meets a Tango reserve. -/
def State.meetsReserve (s : State) (a n : Nat) : Bool :=
  (List.range 16).any fun q => decide (a < hbmBase (q + 1)) && decide (s.reserveBase q < a + n)

/-- Whether a partition's memory is refused because it is not ready (R447). -/
def State.notReady (s : State) (p : Nat) : Bool := s.pN p 0xE1 == 7

/-- The device address that a BAR4 offset reaches; none when the access is refused (R362, R448). -/
def State.bar4Addr (s : State) (f o n : Nat) : Option Nat :=
  let a := if f = 0 then o else hbmBase (f - 1) + o
  let top := if f = 0 then hbmEnd else hbmSize
  if s.jobReady = false ∨ top < o + n ∨ s.meetsReserve a n = true then none
  else if (List.range 16).any fun q => s.notReady q && decide (a < hbmBase (q + 1)) && decide (hbmBase q < a + n) then none
  else some a

/-- Whether the boot ROM maps its staging area at a BAR4 range (R431). -/
def State.stages (s : State) (f o n : Nat) : Bool :=
  f == 0 && (s.readiness == 2 || s.readiness == 3) && decide (o + n ≤ 40 * 2 ^ 20)

/-- An uncorrectable outcome of a BAR4 access: logged, counted and raised (R362). -/
def State.bar4Note (s : State) (a : Nat) (o : ShellOutcome) : State :=
  let p := a / hbmSize
  let s := s.eccNote .hbmRead p (hbmChannel a) a o
  if o.bad then s.event p 6 else s

/-- A write through BAR4 at a device address. -/
def State.bar4Write (s : State) (f o a : Nat) (bs : List Byte) (sh : ShellOutcome) : State :=
  let part := a % 16 != 0 || (a + bs.length) % 16 != 0
  if part then
    let s := s.bar4Note a sh
    if sh.bad then s.recordRefuse f 2 o false else s.writeBytes a bs
  else s.writeBytes a bs

/-- A read through BAR4 at a device address. -/
def State.bar4Read (s : State) (f a n : Nat) (sh : ShellOutcome) : State :=
  let s := s.bar4Note a sh
  if sh.bad then s.complete f 2 [] else s.complete f 0 (s.readBytes a n)

/-- BAR4_ACCESS (R362, R363, R431): `wr` is the data of a write. -/
def bar4AccessEff (f : Func) (offset : Nat) (wr : Option (List Byte)) (len : Nat) (shell : ShellOutcome) (s : State) :
    State :=
  let n := match wr with
    | some bs => bs.length
    | none => len
  if s.funcLive f.val = false ∨ (s.func f.val).d3hot = true then s
  else if s.stages f.val offset n then
    match wr with
    | some bs => s.writeBytes (spadBase 0 + offset) bs
    | none => s.complete f.val 0 (s.readBytes (spadBase 0 + offset) n)
  else
    match s.bar4Addr f.val offset n, wr with
    | some a, some bs => s.bar4Write f.val offset a bs shell
    | some a, none => s.bar4Read f.val a n shell
    | none, some _ => s.recordRefuse f.val 2 offset false
    | none, none => s.complete f.val 1 []

/-! ## Strings and domains (R360, R378, R400, R435) -/

/-- The bytes of "EM9-T864". -/
def productName : List Byte := [0x45, 0x4D, 0x39, 0x2D, 0x54, 0x38, 0x36, 0x34]

/-- A byte of the calibration set as its objects show it: the staging copy while one is held (R402). -/
def MgmtSt.calByte (m : MgmtSt) (i : Nat) : Byte :=
  if m.calState = .locked then mget 0#8 m.cal i else mget 0#8 m.staging i

/-- The reserved bytes of a calibration set: blocks 0x2F38 to 0x2F3E and the header's; they read zero, and writes to them
are ignored (R11, R400). -/
def calReserved (i : Nat) : Bool :=
  let h := i - 0x3F * 1024
  (decide (0x38 * 1024 ≤ i) && decide (i < 0x3F * 1024)) ||
  (decide (0x3F * 1024 ≤ i) && (h == 7 || (decide (16 ≤ h) && decide (h < 64)) || decide (640 ≤ h)))

/-- The length and the bytes of a string or domain object; none for any other object. -/
def State.domain (s : State) (index sub : Nat) : Option (Nat × (Nat → Byte)) :=
  let listed (l : List Byte) : Option (Nat × (Nat → Byte)) := some (l.length, fun i => l.getD i 0#8)
  if index = 0x1000 ∧ sub = 3 then listed productName
  else if index = 0x2900 ∧ sub = 4 then
    match s.sec.running with
    | some i => some (64, fun k => i.digest.getD k 0#8)
    | none => some (64, fun _ => 0#8)
  else if index = 0x2900 ∧ sub = 5 then listed (Config.identityCert.take 4096)
  else if index = 0x2900 ∧ sub = 6 then
    match s.sec.running with
    | some i => listed ((Config.attestCert (s.rdN (objKey 0x2900 0x0C)) i.version i.svn i.digest).take 4096)
    | none => listed []
  else if 0x2F00 ≤ index ∧ index < 0x2F40 ∧ sub = 1 then
    some (1024, fun i => s.mgmt.calByte ((index - 0x2F00) * 1024 + i))
  else none

/-- Whether a string or domain object takes writes: the calibration blocks (R400). -/
def domainWritable (index sub : Nat) : Bool := decide (0x2F00 ≤ index) && decide (index < 0x2F40) && sub == 1

/-- A write of bytes into a domain object at an offset (R378, R402). -/
def domainW (s : State) (index sub off : Nat) (bs : List Byte) : WR :=
  match s.domain index sub with
  | none => .error .noObject
  | some (n, _) =>
    if domainWritable index sub = false then .error .access
    else if n < off + bs.length then .error .length
    else if s.mgmt.calState ≠ .unlocked then .error .state
    else
      let base := (index - 0x2F00) * 1024 + off
      let m := bs.zipIdx.foldl
        (fun m (b : Byte × Nat) => if calReserved (base + b.2) then m else mset 0#8 m (base + b.2) b.1) s.mgmt.staging
      .ok { s with mgmt := { s.mgmt with staging := m, calAt := s.mgmt.ns } }

/-- DOMAIN_WINDOW_ACCESS (R360): bytes past the end read as zero. -/
def domainWindowAccessEff (offset : Nat) (wr : Option (List Byte)) (len : Nat) (s : State) : State :=
  let index := s.host.domSelect.toNat / 256 % 65536
  let sub := s.host.domSelect.toNat % 256
  let at_ := s.host.domOffset.toNat + offset
  let n := match wr with
    | some bs => bs.length
    | none => len
  let inside := decide (offset + n ≤ 65536)
  if s.viaLive .pf = false then s
  else
    match wr with
    | some bs =>
      s.applyW .pf 0 (0x410000 + offset)
        (if !inside then .error .noObject
          else if s.objOpen index sub true = false then .error .state
          else domainW s index sub at_ bs)
    | none =>
      match s.domain index sub with
      | some (total, byte) =>
        if inside && s.objOpen index sub false then
          s.complete 0 0 ((List.range n).map fun i => if at_ + i < total then byte (at_ + i) else 0#8)
        else s.complete 0 1 []
      | none => s.complete 0 1 []

/-- ATS_INVALIDATION (R369): cached translations of the function that meet the range go. -/
def atsInvalidationEff (f : Func) (page size : Nat) (s : State) : State :=
  if s.funcLive f.val = false then s
  else
    State.emit
      { s with host := { s.host with
          atsCache := s.host.atsCache.filter fun (e : AtsEntry) =>
            !(e.func == f.val && decide (e.page < page + size) && decide (page < e.page + e.size)) } }
      (.atsDone f.val page)

end Sys2Proof.Machine
end

