-- ==== Sys2Proof/Machine/Tango.lean ====
section
/-! DEFINITION. Tango: pairs, the reserve, mirrors, the release tag, rollback and restore (R301 to R315, R319, R325).
Which fields of a PAIR carry the reserve size and the banks: log entry 58. -/

namespace Sys2Proof.Machine

/-! ## Objects and the reserve (R302, R303) -/

/-- A Tango object. -/
def tKey (sub : Nat) : Nat := objKey 0x2700 sub

/-- Changing the Tango engine. -/
def State.modTango (s : State) (f : TangoSt → TangoSt) : State := { s with tango := f s.tango }

/-- The codes of TANGO_STATE. -/
def tsUnpaired : Nat := 0
/-- PAIRING. -/
def tsPairing : Nat := 1
/-- CONFLICT. -/
def tsConflict : Nat := 2
/-- IDLE. -/
def tsIdle : Nat := 3
/-- MIRRORING. -/
def tsMirroring : Nat := 4
/-- WAITING. -/
def tsWaiting : Nat := 5
/-- SUSPENDED. -/
def tsSuspended : Nat := 6
/-- HALTED. -/
def tsHalted : Nat := 7

/-- TANGO_STATE: a superseded device reads HALTED (R311). -/
def State.tangoState (s : State) : Nat := if s.superseded then tsHalted else s.rdN (tKey 2)

/-- Setting TANGO_STATE. -/
def State.toTango (s : State) (st : Nat) : State := s.wrN (tKey 2) st

/-- Bytes of the reserve space (R302). -/
def State.reserveBytes (s : State) : Nat := (List.range 16).foldl (fun a p => a + s.pN p 0x93 * 2 ^ 30) 0

/-- A chunk: 64 MiB (R305). -/
def chunkBytes : Nat := 64 * 2 ^ 20

/-- bank_bytes of a reserve (R302). -/
def bankBytesOf (reserve banks : Nat) : Nat := (reserve - 2 ^ 20) / max 1 banks / chunkBytes * chunkBytes

/-- bank_bytes of this device's own reserve. -/
def State.bankBytes (s : State) : Nat := bankBytesOf s.reserveBytes (s.rdN (tKey 5))

/-- The device address of byte `o` of the reserve space, from partition `p` on; none past its end. -/
def State.reserveAddr (s : State) (p : Nat) : Nat → Nat → Option Nat
  | 0, _ => none
  | n + 1, o =>
    let here := s.pN p 0x93 * 2 ^ 30
    if o < here then some (s.reserveBase p + o) else s.reserveAddr (p + 1) n (o - here)

/-- The offset of byte `t` of bank `b` in the reserve space (R302). -/
def State.bankOff (s : State) (b t : Nat) : Nat := 2 ^ 20 + b * s.bankBytes + t

/-- Writing bytes into a bank. -/
def State.bankWrite (s : State) (b t : Nat) (bs : List Byte) : State :=
  bs.zipIdx.foldl (fun s (x : Byte × Nat) =>
    match s.reserveAddr 0 16 (s.bankOff b (t + x.2)) with
    | some a => s.writeBytes a [x.1]
    | none => s) s

/-- Reading bytes of a bank. -/
def State.bankRead (s : State) (b t n : Nat) : List Byte :=
  (List.range n).map fun i =>
    match s.reserveAddr 0 16 (s.bankOff b (t + i)) with
    | some a => s.mem.read a
    | none => 0#8

/-- A bank's record in the reserve header. -/
def TangoSt.bank (x : TangoSt) (b : Nat) : TBank := if b = 0 then x.bank0 else x.bank1

/-- Setting a bank's record. -/
def TangoSt.setBank (x : TangoSt) (b : Nat) (v : TBank) : TangoSt :=
  if b = 0 then { x with bank0 := v } else { x with bank1 := v }

/-- Every bank EMPTY (R141, R303). -/
def TangoSt.emptyBanks (x : TangoSt) : TangoSt := { x with bank0 := .empty, bank1 := .empty, rxBank := none, rxBytes := [] }

/-! ## The mirror list and the image (R304, R305) -/

/-- The listed regions in list order: partition and version-table index. -/
def State.listed (s : State) : List (Nat × Nat) :=
  (List.range 256).filterMap fun i =>
    let e := mget 0#64 s.tango.list i
    if bit e 31 then some (field e 11 8, field e 7 0) else none

/-- A part starts on a 4 KiB boundary (R305). -/
def align4K (n : Nat) : Nat := (n + 4095) / 4096 * 4096

/-- Where each region of an image starts, given the sizes, from offset `o` on; and where the image ends. -/
def partStarts : Nat → List Nat → List Nat × Nat
  | o, [] => ([], o)
  | o, n :: ns =>
    let (l, e) := partStarts (align4K (o + n)) ns
    (o :: l, if ns.isEmpty then o + n else e)

/-- Bytes of an image of regions of these sizes, behind the 64 KiB control record. -/
def imageSize (sizes : List Nat) : Nat := (partStarts 65536 sizes).2

/-- TANGO_IMAGE_BYTES (R325). -/
def State.imageBytes (s : State) : Nat := imageSize (s.listed.map fun l => (s.region l.1 l.2).size)

/-- A write to TANGO_LIST_ENTRY (R304). -/
def listEntryW (s : State) (v : Word) : WR :=
  let e := s.region (field v 11 8) (field v 7 0)
  if s.tangoState = tsMirroring ∨ s.tangoState = tsWaiting then .error .state
  else if bit v 31 && !(e.valid && !e.single) then .error .range
  else .ok (s.modTango fun x => { x with list := mset 0#64 x.list (s.rdN (tKey 6)) (v &&& 0x80000FFF#64) })

/-- TANGO_LIST_ENTRY_WRITE (R304). -/
def tangoListEntryWriteEff (via : Via) (value : Word) (s : State) : State :=
  s.objWrite via 0x2700 7 (listEntryW s value)

/-! ## Packets (R306) -/

/-- The pair's usable ports: ACTIVE TANGO ports that lead to the partner. -/
def State.pairPorts (s : State) : List Nat :=
  match s.tango.heard with
  | some h => s.tangoPorts.filter fun n => s.rdN (portKey n 4) % 2 ^ 24 == h.1.toNat
  | none => []

/-- Sending a Tango packet out of a port. -/
def State.sendTango (s : State) (n : Nat) (p : Packet) : State :=
  if s.superseded then s
  else s.enqueue n 32 0 { p with src := s.ownAddr, srcEpoch := s.ownEpoch, age := BitVec.ofNat 32 s.ageStamp }

/-- A Tango packet (R306). -/
def tangoPacket (dest : FabAddr) (tag : Tag) (bucket target : Nat) (body : List Byte) : Packet :=
  { mkPacket 5 2 dest 0xFFF 0xFF with
    step := tag, bucket := BitVec.ofNat 16 bucket, target := target, length := body.length, payload := body }

/-- A Tango control packet. -/
def tangoCtl (dest : FabAddr) (tag : Tag) (kind bank role count bytes : Nat) : Packet :=
  tangoPacket dest tag 0 ctlTarget
    (leBytes 1 kind ++ leBytes 1 bank ++ leBytes 1 role ++ [0#8] ++ leBytes 4 count ++ leBytes 8 bytes ++
      List.replicate 16 0#8)

/-- A field of a control packet's payload. -/
def ctlField (p : Packet) (off n : Nat) : Nat := leNat ((p.payload.drop off).take n)

/-- Sending a control packet to the partner. -/
def State.sendPair (s : State) (tag : Tag) (kind bank count bytes : Nat) : State :=
  match s.tango.heard, s.pairPorts with
  | some h, n :: _ => s.sendTango n (tangoCtl h.1 tag kind bank (s.rdN (tKey 1)) count bytes)
  | _, _ => s

/-! ## Pairing (R301, R303) -/

/-- Dropping one bind of a slot that Tango holds. -/
def State.tangoUnbind (s : State) (p r i : Nat) : State := (s.unbindSlot p r i).pollLoader p

/-- A mirror's binds dropped. -/
def State.dropMirrorBinds (s : State) : State :=
  match s.tango.mirror with
  | none => s
  | some m =>
    let s := m.slots.foldl (fun s x => if x.bound then s.tangoUnbind x.part x.region x.slot else s) s
    s.modTango fun t => { t with mirror := some { m with slots := m.slots.map fun x => { x with bound := false } } }

/-- The running mirror ends without an image. -/
def State.dropMirror (s : State) : State := s.dropMirrorBinds.modTango fun t => { t with mirror := none, resumeSent := false }

/-- Whether the address of a fabric port or of this device is assigned. -/
def assigned (a : Nat) : Bool := a != 0xFFFFFF

/-- This device's PAIR out of a port; COUNT carries TANGO_BANKS and the image bytes carry the reserve's size (log 58). -/
def State.sendPairWord (s : State) (n : Nat) : State :=
  let dest : FabAddr := BitVec.ofNat 24 (s.rdN (portKey n 4))
  (s.sendTango n (tangoCtl dest 0 1 0 (s.rdN (tKey 1)) (s.rdN (tKey 5)) s.reserveBytes)).modTango fun t =>
    { t with pairSent := true }

/-- The first ACTIVE TANGO port with a partner whose address is assigned. -/
def State.pairPort (s : State) : Option Nat := s.tangoPorts.find? fun n => assigned (s.rdN (portKey n 4) % 2 ^ 24)

/-- Pairing afresh: this device sends its PAIR (R141, R301). -/
def State.rePair (s : State) : State :=
  let s := s.dropMirror.modTango fun t => { t with pairSent := false, waiting := none }
  match s.pairPort with
  | some n =>
    if assigned s.ownAddr.toNat && !s.tango.unpaired then (s.toTango tsPairing).sendPairWord n else s.toTango tsUnpaired
  | none => s.toTango tsUnpaired

/-- Pairing refused with a cause. -/
def State.pairConflict (s : State) (cause : Nat) : State :=
  (s.dropMirror.toTango tsConflict).wrN (tKey 3) (cause * 2 ^ 24 + s.rdN (tKey 3) % 2 ^ 24)

/-- RESUME sent to the partner (R311). -/
def State.sendResume (s : State) : State :=
  match s.tango.mirror with
  | some m => (s.sendPair m.tag 5 m.bank 0 0).modTango fun t => { t with resumeSent := true, paused := false }
  | none => s

/-- TANGO_PAIRING_START (R301, R311): a TANGO port has reached ACTIVE. Role A sends its PAIR first; a port that leads
elsewhere than to the pair is counted, and a suspended mirror whose ports were all lost resumes. -/
def tangoPairingStartEff (n : Port) (s : State) : State :=
  let far := s.rdN (portKey n 4) % 2 ^ 24
  if s.superseded = true ∨ s.tangoPorts.contains n.val = false then s
  else
    let s := s.modTango fun t => { t with unpaired := false }
    if assigned s.ownAddr.toNat = false ∨ assigned far = false then s
    else
      match s.tango.heard with
      | some h =>
        if h.1.toNat ≠ far then s.count32Sat (tKey 0x16) 1
        else if s.tangoState = tsSuspended then
          (if s.tangoPorts = [n.val] ∧ s.tango.paused = false then s.sendResume else s)
        else s
      | none =>
        if s.tangoState = tsUnpaired ∨ s.tangoState = tsPairing then
          if s.tangoPorts.any fun m => m != n.val && s.rdN (portKey m 4) % 2 ^ 24 != far then s.pairConflict 2
          else
            let s := s.toTango tsPairing
            if s.rdN (tKey 1) = 0 && !s.tango.pairSent then s.sendPairWord n.val else s
        else s

/-- A PAIR that pairs: a new address empties every bank (R303), the partner is noted, and this device answers with its own
PAIR unless it has sent one on this pairing. -/
def State.pairWith (s : State) (n : Nat) (pkt : Packet) : State :=
  let same : Bool := match s.tango.pair with
    | some h => h.1 == pkt.src
    | none => false
  let reserve := ctlField pkt 8 8
  let banks := ctlField pkt 4 4
  let owes := !(s.tangoState == tsPairing && s.tango.pairSent)
  let again := s.tango.lastFence
  let had := s.tango.mirror.isSome || s.tango.waiting.isSome
  let s := s.dropMirror
  let s := s.modTango fun t =>
    let t := if same then t else { t.emptyBanks with peer0 := none, peer1 := none }
    { t with pair := some (pkt.src, pkt.srcEpoch), heard := some (pkt.src, pkt.srcEpoch, ctlField pkt 2 1, reserve, banks),
             waiting := none, paused := false }
  let s := (s.wrN (tKey 3) pkt.src.toNat).wrN (tKey 9) (bankBytesOf reserve banks)
  let s := if owes then s.sendPairWord n else s
  let s := s.modTango fun t => { t with pairSent := false }
  match again with
  | some t => if had then (s.modTango fun x => { x with waiting := some (t, s.beatIx, false) }).toTango tsWaiting
    else s.toTango tsIdle
  | none => s.toTango tsIdle

/-- A Tango packet that passes the ingress check of R221, which comes first (R307). -/
def State.tangoIn (s : State) (pkt : Packet) (f : State → State) : State :=
  let (s, goes) := s.ingress pkt.src pkt.srcEpoch
  if goes then f s else s

/-- PAIR taken (R301, R303). -/
def State.takePair (s : State) (n : Port) (pkt : Packet) : State :=
  if s.superseded = true ∨ s.tangoPorts.contains n.val = false ∨ s.tango.unpaired = true ∨
      assigned s.ownAddr.toNat = false ∨ s.tangoState = tsHalted then s
  else
    let other : Bool := match s.tango.pair with
      | some h => h.1 != pkt.src
      | none => false
    let s := s.wrN (tKey 3) (s.rdN (tKey 3) / 2 ^ 24 * 2 ^ 24 + pkt.src.toNat)
    if s.tango.frozen && other then s.pairConflict 4
    else if ctlField pkt 2 1 = s.rdN (tKey 1) then s.pairConflict 1
    else if s.tangoPorts.any fun m => s.rdN (portKey m 4) % 2 ^ 24 != pkt.src.toNat then
      (if s.tango.heard.isSome && !other then (s.count32Sat (tKey 0x16) 1).pairWith n pkt else s.pairConflict 2)
    else if bankBytesOf (ctlField pkt 8 8) (ctlField pkt 4 4) < s.imageBytes then s.pairConflict 3
    else s.pairWith n pkt

/-- PAIR (R301, R303). -/
def pairEff (n : Port) (pkt : Packet) (s : State) : State := s.tangoIn pkt fun s => s.takePair n pkt

/-! ## Mirrors at the source (R305, R308 to R311) -/

/-- The control record of an image of tag `t` (R305). -/
def State.controlRecord (s : State) (t : Tag) (slots : List MSlot) : Mem :=
  let head := ((((Mem.empty.writeLE 0 4 s.ownAddr.toNat).writeLE 4 2 s.ownEpoch.toNat).writeLE 6 2 t.toNat).writeLE 8 4
    slots.length).writeLE 4160 8 8192
  let regs := slots.zipIdx.foldl (fun (m : Mem) (x : MSlot × Nat) =>
    let a := 64 + 16 * x.2
    ((((m.writeLE a 1 x.1.part).writeLE (a + 1) 1 x.1.region).writeLE (a + 2) 1 x.1.slot).writeLE (a + 8) 8
      x.1.base).writeLE (8192 + 8 * x.2) 8 x.1.size) head
  (List.range 16).foldl (fun (m : Mem) p =>
    let a := 6144 + 64 * p
    let seed := (((m.writeLE a 8 (s.pN p 0x50)).writeLE (a + 8) 8 (s.pN p 0x51)).writeLE (a + 16) 4 (s.pN p 0x52)).writeLE
      (a + 20) 1 (s.pN p 0x53)
    let loss := ((seed.writeLE (a + 21) 4 (s.pN p 0x57)).writeLE (a + 25) 4 (s.pN p 0x58)).writeLE (a + 29) 4 (s.pN p 0x5B)
    ((loss.writeLE (a + 33) 2 (s.pN p 0x5A)).writeLE (a + 35) 4 (s.pN p 0x54)).writeLE (a + 39) 1 (s.pN p 0x55)) regs

/-- The bytes of a mirror's image at a 4 KiB offset, at most 4,096. -/
def State.imageAt (s : State) (m : Mirror) (off n : Nat) : List Byte :=
  if off < 65536 then m.record.readBytes off n
  else
    let starts := (partStarts 65536 (m.slots.map fun x => x.size)).1
    match (m.slots.zip starts).find? fun x => decide (x.2 ≤ off) && decide (off < align4K (x.2 + x.1.size)) with
    | some (x, o) =>
      let have_ := min n (x.size - (off - o))
      s.readBytes (x.base + (off - o)) have_ ++ List.replicate (n - have_) 0#8
    | none => List.replicate n 0#8

/-- The data packets of chunk `k` from offset `off` on, `left` of them (R306). -/
def sendPackets (m : Mirror) (dest : FabAddr) (ports : List Nat) (k : Nat) : Nat → Nat → State → State
  | 0, _, s => s
  | left + 1, off, s =>
    if m.bytes ≤ off then s
    else
      let n := min 4096 (m.bytes - off)
      let s := match ports[off / 4096 % max 1 ports.length]? with
        | some q => s.sendTango q (tangoPacket dest m.tag k off (s.imageAt m off n))
        | none => s
      sendPackets m dest ports k left (off + 4096) s

/-- Sending the next chunk (R308 step 5). -/
def State.sendChunk (s : State) : State :=
  match s.tango.mirror, s.tango.heard with
  | some m, some h =>
    if m.sent < m.chunks ∧ s.tangoState = tsMirroring then
      let s := sendPackets m h.1 s.pairPorts m.sent (chunkBytes / 4096) (m.sent * chunkBytes) s
      s.modTango fun t => { t with mirror := some { m with sent := m.sent + 1 } }
    else s
  | _, _ => s

/-- Whether no Tango data packet waits at the pair's ports: the next chunk may leave (log entry 59). -/
def State.tangoDrained (s : State) : Bool :=
  s.pairPorts.all fun n => (s.port n).outQ.all fun q => !(q.pkt.type == 5 && q.pkt.target != ctlTarget)

/-- A change of the mirror list takes effect (R304): the binds of the released tag follow it (R310). -/
def State.listTakes (s : State) : State :=
  let l := s.listed
  let out := s.tango.relBinds.filter fun b => !l.contains (b.1, b.2.1)
  let s := out.foldl (fun s b => s.tangoUnbind b.1 b.2.1 b.2.2) s
  (s.modTango fun x => { x with inForce := l, relBinds := x.relBinds.filter fun b => l.contains (b.1, b.2.1) }).relSync

/-- A mirror fence (R305, R308 step 1): every partition with a listed region has committed tag `t`. -/
def State.mirrorFence (s : State) (t : Tag) : State :=
  let ps := (s.listed.map Prod.fst).eraseDups
  let all := !ps.isEmpty && ps.all fun p =>
    (s.fence p).state == .committed && BitVec.ofNat 16 ((s.fence p).step + 1) == t
  if all = false then s
  else
    let st := s.tangoState
    let s := (s.modTango fun x => { x with lastFence := some t }).listTakes
    if st = tsIdle ∨ st = tsMirroring ∨ st = tsWaiting ∨ st = tsSuspended then
      let s := if s.tango.waiting.isSome then s.count (tKey 0x10) 1 else s
      let s := s.modTango fun x => { x with waiting := some (t, s.beatIx, false) }
      if st = tsIdle ∧ s.tango.mirror = none then s.toTango tsWaiting else s
    else s

/-- The bank for the next mirror (R308 step 2). -/
def State.targetBank (s : State) : Option Nat :=
  let banks := match s.tango.heard with
    | some h => h.2.2.2.2
    | none => 0
  let held (t : Option Tag) : Bool := t.isSome && t == s.releaseTag
  if banks = 1 then some 0
  else if held s.tango.peer0 = false then some 0
  else if held s.tango.peer1 = false then some 1
  else none

/-- The slots that a mirror copies: the COMMITTED slot of every region in force, where each can be bound (R308 step 3). -/
def State.mirrorSlots (s : State) : List (Nat × Nat) → Option (List MSlot)
  | [] => some []
  | (p, r) :: rest =>
    let e := s.region p r
    match e.current, s.mirrorSlots rest with
    | some i, some l => if (e.slot i).bind < 255 then some (⟨p, r, i, (e.slot i).addr, e.size, true⟩ :: l) else none
    | _, _ => none

/-- What this device knows of a partner's bank. -/
def TangoSt.setPeer (x : TangoSt) (b : Nat) (v : Option Tag) : TangoSt :=
  if b = 0 then { x with peer0 := v } else { x with peer1 := v }

/-- MIRROR_BEGIN (R308 steps 2 to 5). Where the source cannot be read, its owner faults (R148), and the mirror goes on waiting
(log entry 109). -/
def mirrorBeginEff (shell : ShellOutcome) (s : State) : State :=
  if s.tangoState ≠ tsWaiting ∨ s.tango.mirror.isSome = true ∨ s.pairPorts = [] then s
  else
    match s.tango.waiting, s.targetBank, s.mirrorSlots s.tango.inForce with
    | some (t, fence, late), some b, some slots =>
      let bytes := imageSize (slots.map fun x => x.size)
      let at_ := match slots with
        | x :: _ => x.base
        | [] => 0
      if s.rdN (tKey 9) < bytes then s.pairConflict 3
      else if shell.bad then s.memMeets at_ shell
      else
        let s := s.memNote at_ shell
        let chunks := (bytes + chunkBytes - 1) / chunkBytes
        let s := slots.foldl (fun s x => s.bindSlot x.part x.region x.slot) s
        let m : Mirror :=
          { tag := t, fence := fence, bank := b, slots := slots, record := s.controlRecord t slots, bytes := bytes,
            chunks := chunks, sent := 0, acked := 0, begun := true, late := late }
        let s := s.modTango fun x => ({ x with mirror := some m, waiting := none }).setPeer b none
        let s := ((s.toTango tsMirroring).wrN (tKey 0x0A) t.toNat).wrN (tKey 0x0D) 0
        (s.sendPair t 2 b chunks bytes).sendChunk
    | _, _, _ => s

/-- Binds of regions that are acknowledged whole are dropped (R308 step 6). -/
def State.dropAcked (s : State) : State :=
  match s.tango.mirror with
  | none => s
  | some m =>
    let ends := (m.slots.zip (partStarts 65536 (m.slots.map fun x => x.size)).1).map fun x => (x.1, x.2 + x.1.size)
    let done (e : Nat) : Bool := decide (e ≤ m.acked * chunkBytes)
    let s := ends.foldl (fun s x => if x.1.bound && done x.2 then s.tangoUnbind x.1.part x.1.region x.1.slot else s) s
    s.modTango fun t =>
      { t with mirror := some { m with slots := ends.map fun x => { x.1 with bound := x.1.bound && !done x.2 } } }

/-- Chunks acknowledged rise to `k`; the bytes are counted, and after the last the source sends COMPLETE (R308). -/
def State.ackTo (s : State) (k : Nat) : State :=
  match s.tango.mirror with
  | none => s
  | some m =>
    let bytes := min (k * chunkBytes) m.bytes - min (m.acked * chunkBytes) m.bytes
    let m := { m with acked := k }
    let s := ((s.modTango fun t => { t with mirror := some m }).wrN (tKey 0x0D) k).count (tKey 0x11) bytes
    let s := s.dropAcked
    if k < m.chunks then s
    else
      let s := (s.sendPair m.tag 4 m.bank 0 m.bytes).wrN (tKey 0x0B) (2 ^ 16 + m.tag.toNat)
      let s := s.modTango fun t => ({ t with mirror := none }).setPeer m.bank (some m.tag)
      s.toTango (if s.tango.waiting.isSome then tsWaiting else tsIdle)

/-- Whether a packet comes from the pair's partner (R307). -/
def State.fromPair (s : State) (pkt : Packet) : Bool :=
  match s.tango.pair with
  | some h => h.1 == pkt.src && h.2 == pkt.srcEpoch
  | none => false

/-- ACK (R308 step 5): acknowledgements follow chunk order. -/
def tangoAckEff (pkt : Packet) (s : State) : State :=
  match s.tango.mirror with
  | some m =>
    if s.fromPair pkt = true ∧ s.tangoState = tsMirroring ∧ ctlField pkt 4 4 = m.acked ∧ m.acked < m.sent then
      s.ackTo (m.acked + 1)
    else s
  | none => s

/-- A mirror found late (R309): counted once, with the health event. -/
def State.lateMirror (s : State) : State := (s.count32Sat (tKey 0x0F) 1).healthEvent

/-- MIRROR_LATE (R309), for a mirror that runs and for a tag that waits. -/
def mirrorLateEff (s : State) : State :=
  let due (fence : Nat) : Bool := decide (fence + s.rdN (tKey 0x0E) ≤ s.beatIx)
  if s.superseded then s
  else
    let s := match s.tango.mirror with
      | some m =>
        if !m.late && due m.fence then
          (s.modTango fun t => { t with mirror := some { m with late := true } }).lateMirror
        else s
      | none => s
    match s.tango.waiting with
    | some (t, f, false) => if due f then (s.modTango fun x => { x with waiting := some (t, f, true) }).lateMirror else s
    | _ => s

/-- The mirror is interrupted (R311). -/
def State.suspendMirror (s : State) : State :=
  if s.tangoState = tsMirroring then (s.toTango tsSuspended).modTango fun t => { t with resumeSent := false } else s

/-- Whether a TANGO-role port is in any state but FAILED. -/
def State.tangoPortLeft (s : State) : Bool := (List.range 32).any fun n => s.role n == 1 && (s.port n).st != .failed

/-- The pairing ends: TANGO_STATE reads UNPAIRED. -/
def State.unpair (s : State) : State :=
  (s.dropMirror.toTango tsUnpaired).modTango fun t => { t with heard := none, waiting := none, pairSent := false }

/-- TANGO_INTERRUPT (R311): every TANGO port is lost. A partition reset suspends by itself. -/
def tangoInterruptEff (s : State) : State :=
  if s.tangoPorts.isEmpty = false ∨ s.superseded = true then s
  else
    let st := s.tangoState
    if st = tsHalted then s
    else if s.tangoPortLeft = false then s.unpair
    else if st = tsMirroring then s.suspendMirror
    else if st = tsWaiting ∨ st = tsSuspended then s.toTango tsSuspended
    else s.unpair

/-- Re-taking the binds of a mirror's slots (R311): each region that is still to be sent holds a COMMITTED slot of the
mirror's tag. -/
def State.retake (s : State) (m : Mirror) : Option (List MSlot) :=
  let ok (x : MSlot) : Bool :=
    let e := s.region x.part x.region
    match e.current with
    | some i => (e.slot i).tag == m.tag && (x.bound || decide ((e.slot i).bind < 255))
    | none => false
  if m.slots.all ok then
    some (m.slots.map fun x =>
      let e := s.region x.part x.region
      let i := e.current.getD x.slot
      { x with slot := i, base := (e.slot i).addr })
  else none

/-- RESUME_REPLY (R311): the mirror goes on from the next chunk, or the newest tag starts afresh. -/
def resumeReplyEff (pkt : Packet) (s : State) : State :=
  let st := s.tangoState
  if s.fromPair pkt = false ∨ s.tango.resumeSent = false ∨ (st ≠ tsSuspended ∧ st ≠ tsIdle) then s
  else
    match s.tango.mirror with
    | none => s.modTango fun t => { t with resumeSent := false }
    | some m =>
      let k := ctlField pkt 4 4
      let s := (s.modTango fun t => { t with resumeSent := false }).count32Sat (tKey 0x17) 1
      match (if pkt.step = m.tag ∧ k ≤ m.chunks then s.retake m else none) with
      | some slots =>
        let s := (slots.zip m.slots).foldl (fun s x => if x.2.bound then s else s.bindSlot x.1.part x.1.region x.1.slot) s
        let m := { m with slots := slots.map (fun x => { x with bound := true }), sent := k, bank := ctlField pkt 1 1 }
        let s := (s.modTango fun t => { t with mirror := some m }).toTango tsMirroring
        (s.ackTo k).sendChunk
      | none =>
        let s := s.dropMirror
        match s.tango.waiting, s.tango.lastFence with
        | some _, _ => s.toTango tsWaiting
        | none, some t => (s.modTango fun x => { x with waiting := some (t, s.beatIx, false) }).toTango tsWaiting
        | none, none => s.toTango tsIdle

/-! ## The partner's side (R307, R308, R311) -/

/-- BEGIN (R308 step 4): the named bank becomes FILLING; another that was FILLING becomes EMPTY (R313). -/
def tangoBeginEff (pkt : Packet) (s : State) : State :=
  let b := ctlField pkt 1 1
  if s.fromPair pkt = false ∨ s.tango.frozen = true ∨ s.superseded = true ∨ s.rdN (tKey 5) ≤ b then s
  else
    s.modTango fun t =>
      let o := 1 - b
      let t := if (t.bank o).st = .filling then t.setBank o .empty else t
      { t.setBank b ⟨.filling, pkt.step, ctlField pkt 8 8, 0, pkt.src, pkt.srcEpoch⟩ with rxBank := some b, rxBytes := [] }

/-- The partition whose reserve holds a byte of a bank is in a partition reset, which refuses Tango writes (R339). -/
def State.bankHalted (s : State) (b t n : Nat) : Bool :=
  [t, t + n - 1].any fun o => match s.reserveAddr 0 16 (s.bankOff b o) with
    | some a => s.pN (a / hbmSize) 0xE1 != 0
    | none => true

/-- Bytes of chunk `k` of an image. -/
def chunkLenOf (bytes k : Nat) : Nat := min chunkBytes (bytes - k * chunkBytes)

/-- Acknowledging the chunks that are complete, in order (R308 step 5). -/
def sendAcks : Nat → Nat → State → State
  | 0, _, s => s
  | n + 1, b, s =>
    let k := s.tango.bank b
    if k.chunks * chunkBytes < k.bytes ∧ chunkLenOf k.bytes k.chunks ≤ mget 0 s.tango.rxBytes k.chunks then
      let s := s.modTango fun t => t.setBank b { k with chunks := k.chunks + 1 }
      sendAcks n b (s.sendPair k.tag 3 b k.chunks 0)
    else s

/-- A Tango data packet taken (R307, R308). -/
def State.takeTangoData (s : State) (pkt : Packet) : State :=
  let n := pkt.payload.length
  match s.tango.rxBank with
  | some b =>
    if s.fromPair pkt && !s.tango.frozen && !s.superseded && (s.tango.bank b).st == .filling &&
        decide (pkt.target + n ≤ s.bankBytes) && !s.bankHalted b pkt.target n then
      let s := s.bankWrite b pkt.target pkt.payload
      let s := s.modTango fun t =>
        { t with rxBytes := mset 0 t.rxBytes (pkt.target / chunkBytes) (mget 0 t.rxBytes (pkt.target / chunkBytes) + n) }
      sendAcks (s.tango.rxBytes.length + 1) b s
    else s.count (tKey 0x15) 1
  | none => s.count (tKey 0x15) 1

/-- TANGO_DATA (R307, R308). -/
def tangoDataEff (pkt : Packet) (s : State) : State := s.tangoIn pkt fun s => s.takeTangoData pkt

/-- COMPLETE (R308 step 7). -/
def tangoCompleteEff (pkt : Packet) (s : State) : State :=
  let b := ctlField pkt 1 1
  let k := s.tango.bank b
  if s.fromPair pkt = true ∧ s.tango.frozen = false ∧ s.superseded = false ∧ k.st = .filling ∧ k.tag = pkt.step then
    s.modTango fun t => { t.setBank b { k with st := .complete } with rxBank := none, rxBytes := [] }
  else s

/-- RESUME (R311): the answer names the FILLING bank's tag and acknowledged chunks. -/
def tangoResumeEff (pkt : Packet) (s : State) : State :=
  if s.fromPair pkt = false ∨ s.superseded = true then s
  else
    let b := if s.tango.bank0.st = .filling then 0 else 1
    let k := s.tango.bank b
    if k.st = .filling then
      (s.modTango fun t => { t with rxBank := some b, rxBytes := [] }).sendPair k.tag 6 b k.chunks 0
    else s.sendPair 0 6 0xFF 0 0

/-! ## The release tag and rollback (R310, R313) -/

/-- The binds that hold the released tag dropped. -/
def State.dropRelease (s : State) : State :=
  (s.tango.relBinds.foldl (fun s b => s.tangoUnbind b.1 b.2.1 b.2.2) s).modTango fun t => { t with relBinds := [] }

/-- A write to TANGO_RELEASE_TAG (R310). -/
def releaseTagW (s : State) (v : Word) : WR :=
  let t : Tag := BitVec.ofNat 16 (field v 15 0)
  let ack := s.rd (tKey 0x0B)
  let newest : Tag := BitVec.ofNat 16 (field ack 15 0)
  let older : Bool := match s.releaseTag with
    | some r => epochNewer r t
    | none => false
  if bit v 16 = false then .ok (s.dropRelease.wr (tKey 0x0C) (v &&& 0x1FFFF#64))
  else if bit ack 16 = false ∨ epochNewer t newest = true ∨ older = true then .error .range
  else if s.releaseTag = some t then .ok s
  else .ok (s.dropRelease.wr (tKey 0x0C) (v &&& 0x1FFFF#64)).relSync

/-- TANGO_RELEASE_TAG_WRITE (R310). -/
def tangoReleaseTagWriteEff (via : Via) (value : Word) (s : State) : State :=
  s.objWrite via 0x2700 0x0C (releaseTagW s value)

/-- One region returns to the released tag (R313). -/
def State.rollbackRegion (s : State) (t : Tag) (p r : Nat) : State :=
  let e := s.region p r
  match e.stepSlot t with
  | some i =>
    if (e.slot i).state = .committed then s
    else
      (s.modSlot p r (1 - i) fun v => if v.bind = 0 then v.freed else { v with state := .retiring }).modSlot p r i
        fun v => { v with state := .committed }
  | none => s

/-- ROLLBACK (R313). -/
def rollbackW (s : State) : WR :=
  let l := s.tango.inForce
  let ps := (l.map Prod.fst).eraseDups
  let busy := ps.any fun p =>
    (s.launches.any fun kv => s.sameGroup (kv.1 / 256) p) || (s.fence p).state == .armed
  match s.releaseTag with
  | none => .error .state
  | some t =>
    if busy then .error .state
    else
      let running := s.tango.mirror.isSome
      let s := s.dropMirror.modTango fun x => { x with waiting := none }
      let s := if running ∨ s.tangoState = tsWaiting then
        (if s.tangoState = tsMirroring ∨ s.tangoState = tsWaiting ∨ s.tangoState = tsSuspended then s.toTango tsIdle else s)
        else s
      let s := l.foldl (fun s x => s.rollbackRegion t x.1 x.2) s
      .ok (ps.foldl (fun s p => (s.bindWaiting p).pollLoader p) s)

/-! ## Control (R311, R312, R325) -/

/-- START: from HALTED or SUSPENDED, resumes under R311; never while superseded. -/
def tangoStartW (s : State) : WR :=
  let st := s.tangoState
  if s.superseded then .error .state
  else if st = tsHalted then
    (if s.tango.heard.isNone then .ok (s.toTango tsUnpaired)
    else
      let s := s.toTango tsIdle
      .ok (if s.tango.mirror.isSome then s.sendResume else s))
  else if st = tsSuspended then .ok (if s.tango.mirror.isSome then s.sendResume else s.toTango
    (if s.tango.waiting.isSome then tsWaiting else tsIdle))
  else .ok s

/-- STOP. -/
def tangoStopW (s : State) : WR :=
  .ok ((s.dropMirrorBinds.modTango fun t => { t with waiting := none, resumeSent := false }).toTango tsHalted)

/-- PAUSE. -/
def tangoPauseW (s : State) : WR :=
  .ok (if s.tangoState = tsMirroring then s.suspendMirror.modTango fun t => { t with paused := true } else s)

/-- UNPAIR. -/
def tangoUnpairW (s : State) : WR := .ok (s.unpair.modTango fun t => { t with unpaired := true })

/-- FREEZE. -/
def tangoFreezeW (s : State) : WR := .ok (s.modTango fun t => { t with frozen := true })

/-- UNFREEZE: a pairing that the freeze refused is tried again. -/
def tangoUnfreezeW (s : State) : WR :=
  let s := s.modTango fun t => { t with frozen := false }
  .ok (if s.tangoState = tsConflict ∧ s.rdN (tKey 3) / 2 ^ 24 = 4 then s.rePair else s)

/-- The pieces of a restore (R319): the control record and each region, from the record at the head of the bank. -/
def State.restorePieces (s : State) (b : Nat) : List (Nat × Nat × Nat) :=
  let rd (o n : Nat) : Nat := leNat (s.bankRead b o n)
  let entries := min 256 (rd 8 4)
  let table := rd 4160 8
  let sizes := (List.range entries).map fun i => rd (table + 8 * i) 8
  let bases := (List.range entries).map fun i => rd (64 + 16 * i + 8) 8
  (0, s.rdN (tKey 0x1B), 65536) ::
    (((partStarts 65536 sizes).1.zip (bases.zip sizes)).map fun x => (x.1, x.2.1, x.2.2))

/-- The restore ends with a DMA code. -/
def State.endRestore (s : State) (code : Nat) : State :=
  if s.tango.restore.isNone then s
  else
    ((s.modTango fun t => { t with restore := none }).wrN (tKey 0x1C) (if code = 0 then 2 else 3)).wrN (tKey 0x1D)
      (code * 2 ^ 24)

/-- RESTORE (R319). A bank that cannot be read faults the owner of its memory, and the restore ends FAILED with the DMA code of
a data error (R148, R170). -/
def tangoRestoreW (s : State) (o : ShellOutcome) : WR :=
  let b := s.rdN (tKey 0x1A)
  let dest := s.rd (tKey 0x18)
  if s.tango.frozen = false ∨ (s.tango.bank b).st ≠ .complete ∨ s.tango.restore.isSome = true then .error .state
  else
    let s := s.modTango fun t =>
      { t with restore := some ⟨BitVec.ofNat 24 (field dest 23 0), s.restorePieces b, 0, [], false⟩ }
    let s := (((s.wrN (tKey 0x1C) 1).wrN (tKey 0x1D) 0).wrN (tKey 0x1E) 0).memMeets
      ((s.reserveAddr 0 16 (s.bankOff b 0)).getD 0) o
    .ok (if o.bad then s.endRestore 4 else s)

/-- RESTORE_ABORT. -/
def restoreAbortW (s : State) : WR := .ok (s.endRestore 8)

/-- Peer writes of a piece of a restore: `n` bytes of bank `b` at `off` to `a`. -/
def restoreSend (b job ctx : Nat) : Nat → Nat → Nat → Nat → State → State
  | 0, _, _, _, s => s
  | left + 1, off, a, n, s =>
    match s.tango.restore with
    | none => s
    | some r =>
      if n = 0 then s
      else
        let k := min 4096 n
        let s := s.inject 0 (peerPacket r.addr job ctx a r.seq (s.bankRead b off k))
        let s := s.modTango fun t =>
          { t with restore := some { r with seq := (r.seq + 1) % 65536, outstanding := r.outstanding ++ [(r.seq, k)] } }
        restoreSend b job ctx left (off + k) (a + k) (n - k) s

/-- One step of a running restore: at most 64 MiB of its next piece leave (log entry 59). -/
def State.stepRestore (s : State) : State :=
  match s.tango.restore with
  | none => s
  | some r =>
    match r.todo with
    | [] => s
    | (off, a, n) :: rest =>
      let k := min n chunkBytes
      let todo := if n ≤ k then rest else (off + k, a + k, n - k) :: rest
      let s := s.modTango fun t => { t with restore := some { r with todo := todo } }
      restoreSend (s.rdN (tKey 0x1A)) (s.rdN (tKey 0x19)) (field (s.rd (tKey 0x18)) 31 24) (chunkBytes / 4096) off a k s

/-- RESTORE_DONE (R319): the final fence completes once every write is acknowledged, or ends with an error. -/
def tangoRestoreDoneEff (code : Fin 10) (s : State) : State :=
  match s.tango.restore with
  | none => s
  | some r =>
    if code.val ≠ 0 then s.endRestore code.val
    else if r.todo = [] ∧ r.outstanding = [] then s.endRestore (if r.refused then 6 else 0)
    else s

/-- A write of the whole TANGO_CONTROL word: its action bits act in ascending order (log entry 43). -/
def tangoControlW (s : State) (v : Word) : WR :=
  ctlActs v 0 [tangoStartW, tangoStopW, tangoPauseW, tangoUnpairW, tangoFreezeW, tangoUnfreezeW, rollbackW,
    (tangoRestoreW · .clean), restoreAbortW] s

/-- START (R311). -/
def tangoStartEff (via : Via) (s : State) : State := s.objWrite via 0x2700 4 (tangoStartW s)

/-- STOP (R325). -/
def tangoStopEff (via : Via) (s : State) : State := s.objWrite via 0x2700 4 (tangoStopW s)

/-- PAUSE (R311). -/
def tangoPauseEff (via : Via) (s : State) : State := s.objWrite via 0x2700 4 (tangoPauseW s)

/-- UNPAIR (R325). -/
def tangoUnpairEff (via : Via) (s : State) : State := s.objWrite via 0x2700 4 (tangoUnpairW s)

/-- FREEZE (R312). -/
def tangoFreezeEff (via : Via) (s : State) : State := s.objWrite via 0x2700 4 (tangoFreezeW s)

/-- UNFREEZE (R312). -/
def tangoUnfreezeEff (via : Via) (s : State) : State := s.objWrite via 0x2700 4 (tangoUnfreezeW s)

/-- ROLLBACK (R313). -/
def tangoRollbackEff (via : Via) (s : State) : State := s.objWrite via 0x2700 4 (rollbackW s)

/-- RESTORE (R319). -/
def tangoRestoreEff (via : Via) (shell : ShellOutcome) (s : State) : State :=
  s.objWrite via 0x2700 4 (tangoRestoreW s shell)

/-- RESTORE_ABORT (R325). -/
def tangoRestoreAbortEff (via : Via) (s : State) : State := s.objWrite via 0x2700 4 (restoreAbortW s)

/-! ## The layout of the reserve (R141, R301, R325) -/

/-- A partition with a resident context (R141). -/
def State.hasResident (s : State) (p : Nat) : Bool :=
  (ctxIds (s.lead p)).any fun k => (s.ctx k).occupies && (s.ctxCores k).any fun c => c / 16 == p

/-- A write to TANGO_RESERVE (R141): what passes from one of the partition's key and the Tango key to the other reads as
R151 states. -/
def tangoReserveW (s : State) (via : Via) (p : Nat) (v : Word) : WR :=
  let filling := s.tango.bank0.st == .filling || s.tango.bank1.st == .filling
  if viaPriv via = false then .error .access
  else if 27 < v.toNat then .error .range
  else if s.hasResident p || filling || s.tango.restore.isSome || s.tango.frozen then .error .state
  else if v = s.pRd p 0x93 then .ok s
  else
    let paired := s.tango.heard.isSome
    let top := hbmBase (p + 1)
    let (old, new) := (s.pN p 0x93 * 2 ^ 30, v.toNat * 2 ^ 30)
    let s := s.freeMem (top - max old new) (max old new - min old new)
    let s := (s.pWr p 0x93 v).modTango TangoSt.emptyBanks
    .ok (if paired || s.tangoState == tsConflict then s.rePair else s)

/-- TANGO_RESERVE_WRITE (R141). -/
def tangoReserveWriteEff (via : Via) (p : Part) (value : Word) (s : State) : State :=
  s.partWrite via p 0x93 (tangoReserveW s via p value)

/-- A write to TANGO_BANKS (R325). -/
def tangoBanksW (s : State) (v : Word) : WR :=
  let empty := s.tango.bank0.st == .empty && s.tango.bank1.st == .empty
  if v.toNat = 0 ∨ 2 < v.toNat then .error .range
  else if !empty && s.tango.heard.isSome then .error .state
  else
    let changed := decide (v ≠ s.rd (tKey 5))
    let s := s.wr (tKey 5) v
    .ok (if changed && (s.tango.heard.isSome || s.tangoState == tsConflict) then s.rePair else s)

/-- A write to TANGO_ROLE (R325). -/
def tangoRoleW (s : State) (v : Word) : WR :=
  if 1 < v.toNat then .error .range
  else
    let changed := decide (v ≠ s.rd (tKey 1))
    let s := s.wr (tKey 1) v
    .ok (if changed && s.tangoState == tsConflict then s.rePair else s)

/-- HELD_BANK_INFO of a bank (R325). -/
def State.heldBankInfo (s : State) (b : Nat) : Nat :=
  let k := s.tango.bank b
  let st := match k.st with
    | .empty => 0
    | .filling => 1
    | .complete => 2
  st * 2 ^ 62 + b2n s.tango.frozen * 2 ^ 61 + k.addr.toNat * 2 ^ 32 + k.epoch.toNat * 2 ^ 16 + k.tag.toNat

/-- Partition `p` loses its version table (R311, R345, R439): Tango's binds in it are gone and the mirror is suspended; where
the partition halts, a restore that reads its reserve ends with STOPPED. -/
def State.tangoPartReset (s : State) (p : Nat) (halts : Bool) : State :=
  let touches := match s.tango.mirror with
    | some m => m.slots.any fun x => x.part == p
    | none => false
  let s := s.modTango fun t => { t with
    relBinds := t.relBinds.filter fun b => b.1 != p,
    mirror := t.mirror.map fun m =>
      { m with slots := m.slots.map fun x => if x.part = p then { x with bound := false } else x } }
  let s := if touches then s.suspendMirror else s
  let reserve : Nat := State.pN s p 0x93
  if halts && s.tango.restore.isSome && decide (0 < reserve) then s.endRestore 8 else s

end Sys2Proof.Machine
end

