-- ==== Sys2Proof/Machine/Answer.lean ====
section
/-! DEFINITION. The answer of a command's meaning, and the one effect that two units share. -/

namespace Sys2Proof.Machine

/-- `t` with the queue of waiting commands as it is in `s`: the queue belongs to the step. -/
def State.withQueue (t s : State) : State := { t with pending := s.pending }

/-- A command's answer: the state after its effect, with the queue as it was. -/
def State.outcome (s t : State) : Host.Outcome State Fault Refusal := .next (t.withQueue s)

/-- The step fence, and the mirror fence that follows a committed one (R103, R305). -/
def stepFenceMirrorEff (p : Part) (s : State) : State :=
  let t := stepFenceCommitEff p s
  if (s.fence p).state = .armed ∧ (t.fence p).state = .committed then t.mirrorFence (BitVec.ofNat 16 ((s.fence p).step + 1)) else t

end Sys2Proof.Machine
end

