-- ==== Sys2Proof/Machine/FabricLink.lean ====
section
/-! DEFINITION. The link layer and the commands of ports, links, routers and epochs (R204 to R225, R232, R233). -/

namespace Sys2Proof.Machine

/-! ## Flits out of a port -/

/-- Whether flits pass on a port. -/
def PortSt.linked (x : PortSt) : Bool := x.st == .active || x.st == .draining

/-- The credits that the next flit returns: the first virtual channel and class that is owed any (R212). -/
def owedNext (x : PortSt) : Nat × Nat :=
  match x.owed with
  | [] => (0, 0)
  | (k, c) :: _ => (k, min c 2047)

/-- The LINK word of the next flit, with its credits and its acknowledgement (R208, R211, R212). -/
def PortSt.nextLink (x : PortSt) (type : Nat) (vc : Fin 4) (cls : Fin 2) : LinkWord :=
  let (ck, cc) := owedNext x
  { flitType := BitVec.ofNat 3 type, bodyVc := vc, bodyClass := cls, creditVc := Fin.ofNat 4 (ck / 2),
    creditClass := Fin.ofNat 2 ck, creditCount := cc, ack := x.rxNext }

/-- The last 1,024 entries of a replay buffer (R211). -/
def last1024 (l : List SentFlit) : List SentFlit := l.drop (l.length - 1024)

/-- The port after it has sent a flit: the flit is numbered and kept for replay, and its credits are returned (R211, R212). -/
def PortSt.sent (x : PortSt) (w : LinkWord) (body : List Byte) : PortSt :=
  let (ck, cc) := owedNext x
  { x with txNext := (x.txNext + 1) % 4096, replay := last1024 (x.replay ++ [⟨x.txNext, w, body⟩]),
           owed := mset 0 x.owed ck (mget 0 x.owed ck - cc) }

/-- A flit of a type leaves port `n` (R208, R211). -/
def State.sendFlit (s : State) (n type : Nat) (vc : Fin 4) (cls : Fin 2) (body : List Byte) : State :=
  let x := s.port n
  let w := x.nextLink type vc cls
  (s.setPort n (x.sent w body)).emit (.flit n w x.txNext (wireFlit body w))

/-- 256 bytes that the manual leaves open: it gives no layout of the payload of a TEMPO or CONTROL flit (log entry 94). -/
def freeBody (n : Nat) : List Byte := (List.range 256).map (Config.freeByte n)

/-- A flit whose payload has no published layout leaves port `n`. -/
def State.sendOpaque (s : State) (n type : Nat) : State :=
  let (k, s) := s.fresh
  s.sendFlit n type 0 0 (freeBody k)

/-! ## Port control -/

/-- PORT_CONTROL.RETRAIN (R204, R233). -/
def retrainW (s : State) (n : Nat) : WR :=
  if s.role n = 2 then .error .state
  else if (s.port n).st = .failed ∨ (s.port n).st = .disabled then .ok (s.toPState n .detect)
  else .ok s

/-- PORT_RETRAIN (R204). -/
def portRetrainEff (via : Via) (n : Port) (s : State) : State := s.objWrite via (0x2510 + n) 3 (retrainW s n)

/-- PORT_CONTROL.DISABLE (R204). -/
def disableW (s : State) (n : Nat) : WR := .ok (s.toPState n .disabled)

/-- PORT_DISABLE (R204). -/
def portDisableEff (via : Via) (n : Port) (s : State) : State := s.objWrite via (0x2510 + n) 3 (disableW s n)

/-- Whether port `n` is the only usable candidate of some valid entry of the active bank (R206). -/
def State.soleCandidate (s : State) (n : Nat) : Bool :=
  s.fab.routeA.any fun kv =>
    bit kv.2 63 && !(s.usable kv.2).isEmpty && (s.usable kv.2).all fun c => c.2 == n

/-- Whether another port of the same die is in DRAINING or RECAL (R206). -/
def State.dieRecals (s : State) (n : Nat) : Bool :=
  (List.range 32).any fun m =>
    m != n && m / 16 == n / 16 && ((s.port m).st == .draining || (s.port m).st == .recal)

/-- A recalibration request (R206): the port leaves routing and drains, and asks its partner to do the same in a CONTROL
flit (log entry 94). -/
def recalW (s : State) (n : Nat) (force : Bool) : WR :=
  if (s.port n).st ≠ .active then .error .state
  else if (!force && s.soleCandidate n) || s.dieRecals n then .error .state
  else .ok (((s.toPState n .draining).sendOpaque n 5).emit (.askDrain n))

/-- PORT_RECAL (R206). -/
def portRecalEff (via : Via) (n : Port) (force : Bool) (s : State) : State :=
  s.objWrite via (0x2510 + n) 3 (recalW s n force)

/-- ADAPTATION_MONITOR_REQUEST (R206): a lane's error rate above 10^-5, or a tap held at its limit for 1 s, requests
recalibration without FORCE; a refused request changes nothing and comes again. -/
def adaptationMonitorRequestEff (n : Port) (ber : Word32) (pinned : Bool) (s : State) : State :=
  let s := s.wrN (portKey n 0x0C) ber.toNat
  if pinned ∨ (0x3727C5AC < ber.toNat ∧ ber.toNat ≤ 0x7F800000) then
    match recalW s n false with
    | .ok t => t
    | .error _ => s
  else s

/-- A write to PORT_ROLE (R204). -/
def roleW (s : State) (n : Nat) (v : Word) : WR :=
  let x := s.port n
  if 2 < v.toNat then .error .range
  else if x.st = .disabled ∨ x.st = .failed ∨ (x.st = .draining ∧ x.outQ = []) then
    let s := s.saveObj (portKey n 1) v
    .ok (if v.toNat = 2 then s.toPState n .disabled else s)
  else .error .state

/-- PORT_ROLE_WRITE (R204). -/
def portRoleWriteEff (via : Via) (n : Port) (value : Word) (s : State) : State :=
  s.objWrite via (0x2510 + n) 1 (roleW s n value)

/-- SIGNAL_DETECT (R204). -/
def signalDetectEff (n : Port) (s : State) : State :=
  if (s.port n).st = .detect then s.toPState n .train else s

/-- An attempt of training or recalibration ends: success goes to CHECK, the third failure to FAILED (R204). -/
def State.attemptDone (s : State) (n : Nat) (ok : Bool) : State :=
  let x := s.port n
  if ok then s.toPState n .check
  else if 3 ≤ x.attempts + 1 then s.failPort n 1
  else s.setPort n { x with attempts := x.attempts + 1 }

/-- TRAIN_DONE (R203, R204). -/
def trainDoneEff (n : Port) (ok : Bool) (s : State) : State :=
  if (s.port n).st = .train then s.attemptDone n ok else s

/-- Entries received in CHECK, each raised or created (R222). -/
def learnAll : List (FabAddr × Epoch) → State → State
  | [], s => s
  | (a, e) :: rest, s => learnAll rest (s.learnEpoch a e).1

/-- CHECK_EXCHANGE (R205, R222): identity, role, delay and epoch tables. -/
def checkExchangeEff (n : Port) (info : CheckInfo) (s : State) : State :=
  if (s.port n).st ≠ .check then s
  else
    let s := (s.wrN (portKey n 4) (info.addr.toNat + info.port.val * 2 ^ 24)).wrN (portKey n 5) info.delayNs
    if s.role n ≠ info.role.val then s.failPort n 2
    else
      let s := s.fab.epochs.foldl
        (fun s kv => match kv.2 with
          | some e => s.emit (.announce n (BitVec.ofNat 24 kv.1) e 0 s.ownAddr s.ownEpoch)
          | none => s) s
      (learnAll info.epochs (s.toPState n .active)).reselect false

/-- DRAIN_DONE (R204): no flit queued and every credit back, or 100 µs have passed. -/
def drainDoneEff (n : Port) (after100us : Bool) (s : State) : State :=
  let x := s.port n
  if x.st = .draining ∧ (after100us = true ∨ (x.outQ = [] ∧ x.used = [])) then s.toPState n .recal else s

/-- RECAL_DONE (R204). -/
def recalDoneEff (n : Port) (ok : Bool) (s : State) : State :=
  if (s.port n).st = .recal then s.attemptDone n ok else s

/-- FATAL_LINK_FAILURE (R207). -/
def fatalLinkFailureEff (n : Port) (cause : LinkFail) (s : State) : State :=
  let st := (s.port n).st
  if st = .disabled ∨ st = .failed then s
  else
    match cause with
    | .lockLoss => s.fatalPort n 3
    | .replay => s.fatalPort n 4
    | .errorRate => s.fatalPort n 5

/-! ## The link layer -/

/-- Whether a flit numbered `k` stands at or after `next` in the sender's numbering. -/
def fromSeq (next k : Nat) : Bool := decide ((k + 4096 - next % 4096) % 4096 < 1024)

/-- A NAK (R211): the sender replays from the flit named; eight replays of one flit that fail in a row are a fatal
failure, with no further replay (R207). -/
def State.takeNak (s : State) (n next : Nat) : State :=
  let x := s.port n
  let again : Nat := if x.nakSeq = some next then x.nakCount + 1 else 1
  let s := s.setPort n { x with nakSeq := some next, nakCount := again }
  if 8 < again then s.fatalPort n 4
  else
    (x.replay.filter fun f => fromSeq next f.seq).foldl
      (fun s f => s.emit (.flit n f.link f.seq (wireFlit f.body f.link))) (s.count (portKey n 8) 1)

/-- NAK (R211). -/
def nakEff (n : Port) (next : Nat) (s : State) : State :=
  if (s.port n).linked then s.takeNak n next else s

/-- Acknowledged flits leave the replay buffer: those before `ack` in the sender's numbering. -/
def ackReplay (ack : Nat) (l : List SentFlit) : List SentFlit :=
  l.filter fun f => decide ((ack % 4096 + 4096 - f.seq) % 4096 = 0 ∨ 2048 ≤ (ack % 4096 + 4096 - f.seq) % 4096)

/-- A DATA body enters the input buffer (R210, R212): its packets hold units of it, and a credit that its PAD leaves over
goes back at once. -/
def PortSt.takeBody (x : PortSt) (ck : Nat) (body : List Byte) : PortSt :=
  let (left, units) := readUnits 8 body (mget 0 x.coming ck)
  let h := mget 0 x.held ck
  { x with coming := mset 0 x.coming ck left, held := mset 0 x.held ck (h + units),
           owed := mset 0 x.owed ck (mget 0 x.owed ck + (unitCredits h + 1 - unitCredits (h + units))) }

/-- The receiver's and the sender's side after a flit accepted in sequence (R208, R211, R212): it acknowledges flits, ends the
run of NAKs of a flit that it acknowledges, and returns credits. -/
def PortSt.accept (x : PortSt) (l : LinkWord) : PortSt :=
  let ck := 2 * l.creditVc.val + l.creditClass.val
  let replay := ackReplay l.ack x.replay
  let through : Bool := match x.nakSeq with
    | some k => !(replay.any fun f => f.seq == k % 4096)
    | none => true
  { x with rxNext := (x.rxNext + 1) % 4096, discarding := false,
           used := mset 0 x.used ck (mget 0 x.used ck - l.creditCount), replay := replay,
           nakSeq := if through then none else x.nakSeq, nakCount := if through then 0 else x.nakCount }

/-- A flit accepted in sequence: what its type brings (R206, R208, R210, R211, R233). A TEST flit moves PRE_FEC_BER, whose
value is measured (log entry 95); a TEMPO flit's payload comes with TEMPO_RECEIVE. -/
def State.acceptFlit (s : State) (n : Nat) (f : FlitRx) : State :=
  let l := f.link
  let s := s.setPort n ((s.port n).accept l)
  match l.flitType.toNat with
  | 1 =>
    (s.setPort n ((s.port n).takeBody (2 * l.bodyVc.val + l.bodyClass.val) f.body)).count (portKey n 0x0B) 1
  | 3 =>
    let (k, s) := s.fresh
    s.wrFree (portKey n 0x0C) (Config.freeWord k 0 &&& 0xFFFFFFFF#64)
  | 4 => s.takeNak n l.ack
  | 5 => if f.drain ∧ (s.port n).st = .active then s.toPState n .draining else s
  | _ => s

/-- A flit that is not accepted: a NAK names the next flit expected, and flits are discarded until it arrives (R211). Its ACK
field, the count of flits accepted, is that name (DEDUCED, log entry 94). -/
def State.refuseFlit (s : State) (n : Nat) (broken : Bool) : State :=
  let x := s.port n
  let s := s.setPort n { x with discarding := true }
  if broken || !x.discarding then s.sendFlit n 4 0 0 [] else s

/-- FLIT_RECEIVE (R208, R211). -/
def flitReceiveEff (n : Port) (f : FlitRx) (s : State) : State :=
  if (s.port n).linked = false then s
  else
    let s := if s.role n = 1 then { s with health := { s.health with lastTango := s.beatIx } } else s
    if fecDecodes f then
      let s := s.count (portKey n 6) (f.evenErrors + f.oddErrors)
      if flitCrcOk f = false then s.refuseFlit n true
      else if f.seq % 4096 = (s.port n).rxNext then s.acceptFlit n f
      else s.refuseFlit n false
    else (s.count (portKey n 7) 1).refuseFlit n true

/-- Whether a packet of a queue is partly sent. -/
def OutPkt.begun (q : OutPkt) : Bool := decide (q.left < pktUnits q.pkt)

/-- Whether two queued packets share a virtual channel and class. -/
def sameChannel (a b : OutPkt) : Bool := a.pkt.vc == b.pkt.vc && a.pkt.cls == b.pkt.cls

/-- Whether a queued packet would go if it had a credit: no earlier packet of its input, channel and class waits, and no
packet of its channel and class is partly sent (R210, R212). -/
def mayGo (before after : List OutPkt) (q : OutPkt) : Bool :=
  (before.all fun b => !(sameChannel b q && (b.inp == q.inp || b.begun))) && after.all fun b => !(sameChannel b q && b.begun)

/-- The packets that may go, in queue order. -/
def waitingPkts : List OutPkt → List OutPkt → List OutPkt
  | _, [] => []
  | before, q :: qs =>
    let rest := waitingPkts (before ++ [q]) qs
    if mayGo before qs q then q :: rest else rest

/-- Those whose next body has a credit (R212). -/
def State.ready (s : State) (n : Nat) (qs : List OutPkt) : List OutPkt :=
  (waitingPkts [] qs).filter fun q => decide (0 < s.freeCredits n q.pkt.vc q.pkt.cls)

/-- The oldest of a list, lower input port first (R214). -/
def oldestPkt : List OutPkt → Option OutPkt
  | [] => none
  | q :: qs =>
    match oldestPkt qs with
    | none => some q
    | some b =>
      let aq := q.pkt.age.toNat
      let ab := b.pkt.age.toNat
      if olderStamp ab aq || (decide (aq = ab) && decide (b.inp < q.inp)) then some b else some q

/-- Grants to others after which a packet that holds its credits goes before the rest, so that it waits for fewer than 64
(R214; DESIGN CHOICE, log entry 96). -/
def grantBound : Nat := 32

/-- The packet whose body goes next (R214): one that has waited long, else VC3, but for at most one body in eight while
others are ready, else the oldest. -/
def nextPkt (sinceVc3 : Nat) (rs : List OutPkt) : Option OutPkt :=
  let long := rs.filter fun q => decide (grantBound ≤ q.waited)
  let v3 := rs.filter fun q => q.pkt.vc == 3
  let other := rs.filter fun q => q.pkt.vc != 3
  if long ≠ [] then oldestPkt long
  else if (7 ≤ sinceVc3 ∨ other = []) ∧ v3 ≠ [] then oldestPkt v3 else oldestPkt other

/-- Filling a body from the queue's packets of one channel and class, starting with the first and going on in queue order
(R210): the packets left, those of which units go in it with how many, and the units left over. -/
def fillBody (vc : Fin 4) (cls : Fin 2) : Nat → List OutPkt → List OutPkt × List (OutPkt × Nat) × Nat
  | units, [] => ([], [], units)
  | 0, qs => (qs, [], 0)
  | units + 1, q :: qs =>
    if q.pkt.vc = vc ∧ q.pkt.cls = cls then
      if q.left ≤ units + 1 then
        let (rest, sent, pad) := fillBody vc cls (units + 1 - q.left) qs
        (rest, (q, q.left) :: sent, pad)
      else ({ q with left := q.left - (units + 1) } :: qs, [(q, units + 1)], 0)
    else
      let (rest, sent, pad) := fillBody vc cls (units + 1) qs
      (q :: rest, sent, pad)

/-- The next `units` units of 32 B of a packet (R210). -/
def OutPkt.slice (q : OutPkt) (units : Nat) : List Byte :=
  ((packetBytes q.pkt).drop (32 * (pktUnits q.pkt - q.left))).take (32 * units)

/-- The port's check of granules of queued packets that have not begun to go, each by its place in the queue (R209): a bad
one drops its packet. -/
def State.checkQueue (s : State) (n : Nat) : Nat → List OutPkt → List (Nat × ShellOutcome) → State × List OutPkt
  | _, [], _ => (s, [])
  | i, q :: qs, checks =>
    let os := (checks.filter fun c => c.1 == i && !q.begun).map fun c => c.2
    let (s, goes) := s.portShell n os
    let s := if goes then s else s.leaveInput q.inp q.pkt.vc q.inCls q.left
    let (s, rest) := s.checkQueue n (i + 1) qs checks
    (s, if goes then q :: rest else rest)

/-- Sending the next body of packets (R210, R212, R214): its units leave their input buffers, packets that held their
credits have waited one grant more, and a packet whose last unit goes has left. -/
def State.sendBody (s : State) (n : Nat) (rs : List OutPkt) (q : OutPkt) : State :=
  let x := s.port n
  let (outQ, sent, pad) := fillBody q.pkt.vc q.pkt.cls 8 ({ q with waited := 0 } :: x.outQ.erase q)
  let body := (sent.flatMap fun p => p.1.slice p.2) ++ padBytes q.pkt.vc pad
  let uk := 2 * q.pkt.vc.val + q.pkt.cls.val
  let outQ := outQ.map fun p => if rs.contains p then { p with waited := p.waited + 1 } else p
  let s := s.setPort n { x with
    outQ := outQ, used := mset 0 x.used uk (mget 0 x.used uk + 1),
    sinceVc3 := if q.pkt.vc = 3 then 0 else x.sinceVc3 + 1 }
  let s := (s.sendFlit n 1 q.pkt.vc q.pkt.cls body).count (portKey n 0x0A) 1
  sent.foldl
    (fun s p =>
      let s := s.leaveInput p.1.inp p.1.pkt.vc p.1.inCls p.2
      if p.2 = p.1.left then s.emit (.packet (some n) p.1.pkt) else s) s

/-- The 256 bytes of the PRBS31 pattern after the first `k` (R233). -/
def testBody (k : Nat) : List Byte := (List.range 256).map fun i => Config.prbs31 (k + i)

/-- WIRE_FLIT_SEND (R208 to R214, R233): the next flit of a port, with its acknowledgement and credits; its share of slots goes
to TEST flits, and an IDLE flit goes when no body is ready. A body without a credit waits, and the wait is counted. -/
def wireFlitSendEff (n : Port) (checks : List (Nat × ShellOutcome)) (s : State) : State :=
  if (s.port n).linked = false ∨ 1024 ≤ (s.port n).replay.length then s
  else
    let (s, outQ) := s.checkQueue n 0 (s.port n).outQ checks
    let x := { s.port n with outQ := outQ }
    let due := x.testDue + s.rdN (portKey n 0x0D)
    let s := s.setPort n { x with testDue := due % 1000 }
    if 1000 ≤ due then
      (s.setPort n { s.port n with testSent := x.testSent + 256 }).sendFlit n 3 0 0 (testBody x.testSent)
    else
      let rs := s.ready n outQ
      let s := if rs.length < (waitingPkts [] outQ).length then s.waitsAt (portKey n 0x10) else s
      match nextPkt (s.port n).sinceVc3 rs with
      | none => s.sendFlit n 0 0 0 []
      | some q => s.sendBody n rs q

/-! ## Routers and epochs -/

/-- PACKET_ROUTE (R204, R216, R217, R221): a packet at the router of a die, from an external port or injected. -/
def packetRouteEff (die : Die) (inPort : Option Port) (pkt : Packet) (shells : List ShellOutcome) (s : State) : State :=
  match inPort with
  | none => s.injectWith die.val pkt shells
  | some n =>
    if (s.port n).linked = false then s
    else
      let (s, goes) := s.ingress pkt.src pkt.srcEpoch
      let left (s : State) : State := s.leaveInput n pkt.vc pkt.cls (pktUnits pkt)
      if goes = false then left s
      else if s.role n = 1 ∧ pkt.dest ≠ s.ownAddr then left s.dropUnreachable
      else s.routeFrom (n.val / 16) n pkt shells

/-- What a router does with an announcement that has passed the ingress check (R223). -/
def State.takeAnnouncement (s : State) (inPort : Nat) (addr : FabAddr) (epoch : Epoch) (hops : Nat) : State :=
  let (s, changed, full) := s.learnEpoch addr epoch
  if changed then s.announce addr epoch 0 (some inPort)
  else if full then
    let s := s.count32Sat (fabKey 0x0E) 1
    if hops = 15 then s else s.announce addr epoch (hops + 1) (some inPort)
  else s

/-- EPOCH_ANNOUNCE (R221, R223): the packet of a sender under an older epoch is dropped at the ingress. -/
def epochAnnounceEff (inPort : Port) (addr : FabAddr) (epoch : Epoch) (hops : Fin 16) (src : FabAddr) (srcEpoch : Epoch)
    (s : State) : State :=
  let (s, goes) := s.ingress src srcEpoch
  if goes then s.takeAnnouncement inPort addr epoch hops else s

/-- A write to FABRIC_EPOCH (R232). -/
def fabricEpochW (s : State) (v : Word) : WR :=
  let e : Epoch := BitVec.ofNat 16 v.toNat
  let older : Bool := match s.epochOf s.ownAddr with
    | some t => !epochNewer e t
    | none => false
  if 0xFFFF < v.toNat then .error .range
  else if s.superseded ∨ (s.fab.epochSet ∧ epochNewer e s.ownEpoch = false) ∨ older then .error .state
  else
    let s := ((s.raiseEntry s.ownAddr e).1.wr (fabKey 2) v).modFab fun f => { f with epochSet := true }
    .ok (s.announce s.ownAddr e 0 none)

/-- FABRIC_EPOCH_WRITE (R223, R232). -/
def fabricEpochWriteEff (via : Via) (value : Word) (s : State) : State :=
  s.objWrite via 0x2500 2 (fabricEpochW s value)

/-- A write to EPOCH_WRITE (R232). -/
def epochWriteW (s : State) (v : Word) : WR :=
  let a : FabAddr := BitVec.ofNat 24 (field v 39 16)
  let e : Epoch := BitVec.ofNat 16 (field v 15 0)
  let quiet := s.superseded
  let (t, changed, full) := s.learnEpoch a e
  let t := if full then t.count32Sat (fabKey 0x0E) 1 else t
  .ok (if (changed || full) && !quiet then t.announce a e 0 none else t)

/-- EPOCH_WRITE (R232). -/
def epochWriteEff (via : Via) (value : Word) (s : State) : State := s.objWrite via 0x2500 8 (epochWriteW s value)

/-- The exchange of the routing banks (R218). -/
def State.exchangeBanks (s : State) : State :=
  (s.modFab fun f => { f with routeA := f.routeS, routeS := f.routeA, copying := true }).wr (fabKey 6) 0

/-- A write to ROUTE_COMMIT_BEAT (R218). -/
def commitBeatW (s : State) (v : Word) : WR :=
  if v = 0 then .ok (s.wr (fabKey 6) 0)
  else if v.toNat ≤ s.beatIx then .ok s.exchangeBanks
  else .ok (s.wr (fabKey 6) v)

/-- ROUTE_COMMIT_BEAT_WRITE (R218). -/
def routeCommitBeatWriteEff (via : Via) (value : Word) (s : State) : State :=
  s.objWrite via 0x2500 6 (commitBeatW s value)

/-- ROUTE_BANK_EXCHANGE (R218): at the commit beat the banks exchange. -/
def routeBankExchangeEff (s : State) : State :=
  let b := s.rdN (fabKey 6)
  if b ≠ 0 ∧ b ≤ s.beatIx then s.exchangeBanks else s

/-- ROUTE_COPY_DONE (R218). -/
def routeCopyDoneEff (s : State) : State :=
  if s.fab.copying then s.modFab fun f => { f with routeS := f.routeA, copying := false } else s

/-- A write to ROUTE_ENTRY (R215, R218, R232). -/
def routeEntryW (s : State) (v : Word) : WR :=
  let sel := s.rdN (fabKey 4)
  let bad := (List.range 4).any fun i => decide (32 ≤ field v (8 * i + 7) (8 * i))
  if bad then .error .range
  else if nfield sel 31 31 = 1 ∨ s.fab.copying then .error .state
  else
    let v : Word := v &&& 0xC0FF0000FFFFFFFF#64
    .ok (s.modFab fun f => { f with routeS := mset 0#64 f.routeS (nfield sel 16 0) v })

/-- Clearing the fabric counters (R232). -/
def State.clearFabric (s : State) : State := (s.clearObjs 0x2500 0x0C 3).clearObjs 0x2500 0x1A 2

/-- FABRIC_COUNTER_CLEAR (R232). -/
def fabricCounterClearEff (via : Via) (value : Word) (s : State) : State :=
  s.objWrite via 0x2500 0x1C (clearW s value s.clearFabric)

/-- Clearing a port's counters (R233). -/
def State.clearPort (s : State) (n : Nat) : State :=
  (s.clearObjs (0x2510 + n) 6 6).clearObjs (0x2510 + n) 0x0E 3

/-- PORT_COUNTER_CLEAR (R233). -/
def portCounterClearEff (via : Via) (n : Port) (value : Word) (s : State) : State :=
  s.objWrite via (0x2510 + n) 0x11 (clearW s value (s.clearPort n))

end Sys2Proof.Machine
end

