-- ==== Sys2Proof/Machine/Approx.lean ====
section
/-! DEFINITION. The bounded operations of R48: divide, roots, exponentials, logarithms, tanh, sigmoid, erf and GELU. Each
exact result is enclosed between two dyadic numbers; the result is some grid value within the bound of its class, chosen by
a constant without a body (log entries 11 and 12). -/

namespace Sys2Proof.Machine

/-- A real number of a sign whose magnitude lies in [m, m + d] × 2^e; it is m × 2^e itself when d is 0. -/
structure Near where
  neg : Bool
  m : Nat
  d : Nat
  e : Int
  deriving DecidableEq, Repr

/-- The value with its sign changed when `neg` holds. -/
def Near.signed (y : Near) (neg : Bool) : Near := { y with neg := y.neg != neg }

/-- Whether the value is known to be nonzero. -/
def Near.nonzero (y : Near) : Bool := decide (0 < y.m + y.d)

/-- The lower end of the enclosure. -/
def Near.low (y : Near) : Num := if y.neg then .fin true (y.m + y.d) y.e else .fin false y.m y.e

/-- The upper end of the enclosure. -/
def Near.high (y : Near) : Num := if y.neg then .fin true y.m y.e else .fin false (y.m + y.d) y.e

/-! ## Enclosures -/

/-- The quotient m / n × 2^e of a nonzero m. -/
def nearQuot (m n : Nat) (e : Int) : Near :=
  let k := 96 + Nat.log2 n
  ⟨false, m * 2 ^ k / n, if m * 2 ^ k % n = 0 then 0 else 1, e - k⟩

/-- The root of m × 2^e. -/
def nearRoot (m : Nat) (e : Int) : Near :=
  let (m, e) := if e % 2 = 0 then (m, e) else (2 * m, e - 1)
  let q := Nat.sqrt (m * 2 ^ 160)
  ⟨false, q, if q * q = m * 2 ^ 160 then 0 else 1, e / 2 - 80⟩

/-- The reciprocal root of m × 2^e. -/
def nearRsqrt (m : Nat) (e : Int) : Near :=
  let (m, e) := if e % 2 = 0 then (m, e) else (2 * m, e - 1)
  let k := 96 + Nat.log2 m
  let q := Nat.sqrt (2 ^ (2 * k) / m)
  ⟨false, q, if q * q * m = 2 ^ (2 * k) then 0 else 1, -(e / 2) - k⟩

/-- Fraction bits of the fixed-point numbers below. -/
def fixBits : Nat := 192

/-- One. -/
def fixOne : Nat := 2 ^ fixBits

/-- ln 2, to `fixBits` fraction bits. -/
def ln2Fix : Nat := 4350955369971217654477563090224794165364344896676135745069

/-- 2 / √π, to `fixBits` fraction bits. -/
def twoOverSqrtPi : Nat := 7082950827949419406546779429796514218173736946937360083502

/-- m × 2^e to `fixBits` fraction bits, truncated. -/
def fixOf (m : Nat) (e : Int) : Nat :=
  if 0 ≤ e + fixBits then m * 2 ^ (e + fixBits).toNat else m / 2 ^ (-(e + fixBits)).toNat

/-- Whether m × 2^e is at least 2^k. -/
def atLeast (m : Nat) (e : Int) (k : Nat) : Bool := decide (m ≠ 0) && decide ((k : Int) ≤ (Nat.log2 m : Int) + e)

/-- The terms r^n / n! from the term `t` on, added to `acc`. -/
def expTerms (r : Nat) : Nat → Nat → Nat → Nat → Nat
  | 0, _, _, acc => acc
  | k + 1, n, t, acc => expTerms r k (n + 1) (t * r / fixOne / n) (acc + t)

/-- exp of a fixed-point number as a fixed-point number in [1, 2] and an exponent of two. -/
def expFix (t : Int) : Nat × Int :=
  (expTerms (t.fmod ln2Fix).toNat 64 1 fixOne 0, t.fdiv ln2Fix)

/-- 2 to the power of a fixed-point number, as a fixed-point number in [1, 2] and an exponent of two. -/
def exp2Fix (t : Int) : Nat × Int :=
  (expTerms ((t.fmod fixOne).toNat * ln2Fix / fixOne) 64 1 fixOne 0, t.fdiv fixOne)

/-- exp of a fixed-point number, enclosed. -/
def nearExpFix (t : Int) : Near :=
  let (E, k) := expFix t
  ⟨false, E - 2 ^ 13, 2 ^ 14, k - fixBits⟩

/-- exp of a fixed-point number that is not positive, as a fixed-point number. -/
def expNeg (t : Nat) : Nat :=
  let (E, k) := expFix (-(t : Int))
  E / 2 ^ (-k).toNat

/-- A number just above 0. -/
def nearNothing : Near := ⟨false, 0, 1, -300⟩

/-- A number beyond every format. -/
def nearHuge : Near := ⟨false, 1, 1, 2000⟩

/-- A signed fixed-point number from a sign and a magnitude. -/
def signedFix (neg : Bool) (t : Nat) : Int := if neg then -(t : Int) else t

/-- exp of ±m × 2^e. -/
def nearExp (neg : Bool) (m : Nat) (e : Int) : Near :=
  if m = 0 then ⟨false, 1, 0, 0⟩
  else if atLeast m e 8 then (if neg then nearNothing else nearHuge)
  else nearExpFix (signedFix neg (fixOf m e))

/-- 2 to the power ±m × 2^e. -/
def nearExp2 (neg : Bool) (m : Nat) (e : Int) : Near :=
  if m = 0 then ⟨false, 1, 0, 0⟩
  else if atLeast m e 8 then (if neg then nearNothing else nearHuge)
  else
    let t := signedFix neg (fixOf m e)
    let k := t.fdiv fixOne
    let f := (t.fmod fixOne).toNat
    if f = 0 then ⟨false, 1, 0, k⟩
    else
      let y := nearExpFix (f * ln2Fix / fixOne : Nat)
      { y with e := y.e + k }

/-- The terms z^(2i+1) / (2i+1) from the power `t` on, added to `acc`. -/
def atanhTerms (z2 : Nat) : Nat → Nat → Nat → Nat → Nat
  | 0, _, _, acc => acc
  | k + 1, n, t, acc => atanhTerms z2 k (n + 2) (t * z2 / fixOne) (acc + t / n)

/-- ln of a fixed-point number in [1, 2). -/
def lnFix (f : Nat) : Nat :=
  let z := (f - fixOne) * fixOne / (f + fixOne)
  2 * atanhTerms (z * z / fixOne) 72 1 z 0

/-- A signed fixed-point number known to about 2^20 units, enclosed. -/
def nearFix (v : Int) : Near := ⟨decide (v < 0), v.natAbs - 2 ^ 20, 2 ^ 21, -(fixBits : Int)⟩

/-- The logarithm of m × 2^e for a nonzero m, to base 2 or e. -/
def nearLog (base2 : Bool) (m : Nat) (e : Int) : Near :=
  let l := Nat.log2 m
  let k : Int := l + e
  let f := m * 2 ^ (fixBits - l)
  if f = fixOne ∧ (base2 = true ∨ k = 0) then ⟨decide (k < 0), k.natAbs, 0, 0⟩
  else if base2 then nearFix (k * fixOne + (lnFix f * fixOne / ln2Fix : Nat))
  else nearFix (k * ln2Fix + lnFix f)

/-- A number just below 1. -/
def nearOne : Near := ⟨false, 2 ^ 95 - 1, 1, -95⟩

/-- A fixed-point magnitude known to about 2^40 units, enclosed. -/
def nearMag (y : Nat) : Near := ⟨false, y - 2 ^ 40, 2 ^ 41, -(fixBits : Int)⟩

/-- tanh of m × 2^e. -/
def nearTanh (m : Nat) (e : Int) : Near :=
  if m = 0 then ⟨false, 0, 0, 0⟩
  else if atLeast m e 6 then nearOne
  else
    let u := expNeg (2 * fixOf m e)
    nearMag ((fixOne - u) * fixOne / (fixOne + u))

/-- The sigmoid of ±m × 2^e. -/
def nearSigmoid (neg : Bool) (m : Nat) (e : Int) : Near :=
  if m = 0 then ⟨false, 1, 0, -1⟩
  else if atLeast m e 7 then (if neg then nearNothing else nearOne)
  else
    let u := expNeg (fixOf m e)
    nearMag (if neg then u * fixOne / (fixOne + u) else fixOne * fixOne / (fixOne + u))

/-- The terms of Σ 2^n x^(2n+1) / (2n+1)!! from the term `t` on, added to `acc`. -/
def erfTerms (x2 : Nat) : Nat → Nat → Nat → Nat → Nat
  | 0, _, _, acc => acc
  | k + 1, n, t, acc => erfTerms x2 k (n + 2) (t * (2 * x2) / fixOne / n) (acc + t)

/-- erf of a fixed-point number below 8. -/
def erfFix (x : Nat) : Nat :=
  let x2 := x * x / fixOne
  let (E, k) := expFix (-(x2 : Int))
  let S := erfTerms x2 320 3 x 0
  S * E / fixOne / 2 ^ (-k).toNat * twoOverSqrtPi / fixOne

/-- erf of m × 2^e. -/
def nearErf (m : Nat) (e : Int) : Near :=
  if m = 0 then ⟨false, 0, 0, 0⟩
  else if atLeast m e 3 then nearOne
  else nearMag (erfFix (fixOf m e))

/-- √2, to `fixBits` fraction bits. -/
def sqrt2Fix : Nat := Nat.sqrt (2 ^ (2 * fixBits + 1))

/-- GELU of ±m × 2^e, as x × (1 + erf(x / √2)) / 2: PRESUMED, since the manual names the function and gives no formula (log
entry 12). -/
def nearGelu (neg : Bool) (m : Nat) (e : Int) : Near :=
  if m = 0 then ⟨neg, 0, 0, 0⟩
  else if atLeast m e 4 then
    (if neg then { nearNothing with neg := true } else ⟨false, m * 2 ^ 80 - 1, 1, e - 80⟩)
  else
    let t := fixOf m e
    let a := t * fixOne / sqrt2Fix
    let g := if a < 8 * fixOne then erfFix a else fixOne
    (nearMag (t * (if neg then fixOne - g else fixOne + g) / (2 * fixOne))).signed neg

/-! ## Bounds and picks -/

/-- The bound of a class (R48): so many ulp, with an absolute bound of 2^-26 where that is larger. -/
structure Bound where
  ulps : Nat
  abs26 : Bool
  deriving DecidableEq, Repr

/-- The exponent of the ulp of a value in a format of `p` significand bits whose smallest step is 2^qmin. -/
def Near.ulpExp (y : Near) (p : Nat) (qmin : Int) : Int :=
  if y.m = 0 then qmin else max ((Nat.log2 y.m : Int) + y.e - ((p : Int) - 1)) qmin

/-- The bound at a value, as an exact number. -/
def Near.bound (y : Near) (b : Bound) (p : Nat) (qmin : Int) : Num :=
  let u := y.ulpExp p qmin
  if b.abs26 && decide (u + Nat.log2 b.ulps < -26) then .fin false 1 (-26) else .fin false b.ulps u

/-- The place of a value on the signed FP32 grid: the least place not below it, or the greatest not above it. -/
def gridPlace (up : Bool) : Num → Int
  | .fin s m e =>
    if m = 0 then 0
    else
      let r := fp32Par.round (if up then .rup else .rdn) s m e
      let k : Int := if r.beyond then infMag fp32Par else fp32Par.magCode r.n r.q
      if s then -k else k
  | .inf s => if s then -(infMag fp32Par : Int) else infMag fp32Par
  | .nan => 0

/-- The FP32 code of a place of the grid; place 0 takes the sign `neg`. -/
def placeCode (neg : Bool) (k : Int) : Word32 :=
  BitVec.ofNat 32 (if k < 0 ∨ (k = 0 ∧ neg = true) then 2 ^ 31 + k.natAbs else k.natAbs)

/-- A member of the integers from `lo` to `hi`. -/
def pickBetween (lo hi : Int) (choice : Nat) : Int := lo + (choice % ((hi - lo).toNat + 1) : Nat)

/-- The place that a bounded operation gives: within its bound on both sides of every value of the enclosure (R48). -/
def Near.place (y : Near) (b : Bound) (choice : Nat) : Int :=
  let w := y.bound b 24 (-149)
  pickBetween (gridPlace true (y.high.add false w.neg).1) (gridPlace false (y.low.add false w).1) choice

/-- The FP32 result of a bounded operation with its flags (R40, R48, R49): an exact result of 2^128 or more overflows as the
mode directs, and a result below the smallest normal is flushed in the EM7 mode (R32). -/
def Near.code (y : Near) (b : Bound) (choice : Nat) (rnd : Rnd) (ftz : Bool) : Word32 × Flg :=
  let inf := infMag fp32Par
  if atLeast y.m y.e 128 then
    (placeCode y.neg (if y.neg then -((if overflowToMax .nonsat rnd y.neg then inf - 1 else inf : Nat) : Int)
      else ((if overflowToMax .nonsat rnd y.neg then inf - 1 else inf : Nat) : Int)), flOF ||| flNX)
  else
    let k := y.place b choice
    let exact : Bool := decide (y.d = 0) && decide (gridPlace true y.low = k) && decide (gridPlace false y.low = k)
    let tiny : Bool := y.nonzero && decide (k.natAbs < 2 ^ 23)
    if ftz && tiny && decide (k ≠ 0) then (placeCode (decide (k < 0)) 0 , flUF ||| flNX)
    else
      (placeCode y.neg k,
        flIf (!exact) flNX ||| flIf (decide (k.natAbs = inf)) flOF ||| flIf (tiny && !exact) flUF)

/-- A value as a multiple of 2^q, rounded down. -/
def floorAt (v : Num) (q : Int) : Int :=
  match v with
  | .fin s m e =>
    let n := (roundAt .rdn s m e q).1
    if s then -(n : Int) else n
  | _ => 0

/-- The internal result from which stochastic rounding of a bounded operation starts (R38): a value with a significand of 40
bits within the class's bound of the exact result, in ulp of the destination. -/
def Near.internal (y : Near) (b : Bound) (choice : Nat) (p : Nat) (qmin : Int) : Num :=
  let w := y.bound b p qmin
  let q : Int := if y.m = 0 then -200 else (Nat.log2 y.m : Int) + y.e - 39
  let lo := -(floorAt ((y.high.add false w.neg).1.neg) q)
  let hi := floorAt (y.low.add false w).1 q
  let k := pickBetween lo hi choice
  if k = 0 then .fin y.neg 0 0 else (roundSig 40 .rtz (.fin (decide (k < 0)) k.natAbs q)).1

end Sys2Proof.Machine
end

