-- ==== Sys2Proof/Machine/Health.lean ====
section
/-! DEFINITION. The failure detector, the health scores and the spot checks (R316 to R326). -/

namespace Sys2Proof.Machine

/-- Key of a health object. -/
def hKey (sub : Nat) : Nat := objKey 0x2400 sub

/-- Changing the health state. -/
def State.modHealth (s : State) (f : HealthSt → HealthSt) : State := { s with health := f s.health }

/-! ## The failure detector (R316, R317) -/

/-- The entry of the suspect table that holds an address. -/
def HealthSt.entryOf (h : HealthSt) (a : FabAddr) : Option (Nat × Suspect) := h.suspects.find? fun kv => kv.2.addr == a

/-- The entry with the oldest last event: the one to replace. -/
def oldestSuspect : List (Nat × Suspect) → Nat
  | [] => 0
  | [kv] => kv.1
  | kv :: rest =>
    let r := oldestSuspect rest
    let at_ (x : Suspect) : Nat := x.events.headD 0
    match rest.find? fun x => x.1 == r with
    | some b => if at_ b.2 < at_ kv.2 then r else kv.1
    | none => kv.1

/-- The place for a new entry: a free one, else that of the entry with the oldest last event. -/
def HealthSt.place (h : HealthSt) : Nat :=
  match (List.range 16).find? fun i => (mfind h.suspects i).isNone with
  | some i => i
  | none => oldestSuspect h.suspects

/-- An event of the detector (R316): cause 1 PARTNER_SILENT, 2 ABSENT, 3 PROBE_TIMEOUT. -/
def State.suspectEvent (s : State) (a : FabAddr) (cause : Nat) : State :=
  let now := s.beatIx
  if s.health.trusted.any (fun t => t.1 == a && decide (now < t.2)) then s
  else
    let window := s.rdN (hKey 0x1A)
    let ep := (s.epochOf a).getD 0
    let (i, x) := match s.health.entryOf a with
      | some kv => kv
      | none => (s.health.place, ⟨a, ep, cause, [], s.beat, false, false⟩)
    let events := (now :: x.events.filter fun e => decide (now - e ≤ window)).take 255
    let reached := decide (s.rdN (hKey 0x19) ≤ events.length)
    let y := { x with epoch := ep, cause := cause, events := events, suspect := x.suspect || reached }
    let s := s.modHealth fun h => { h with suspects := mins y h.suspects i }
    if reached && !x.suspect then s.healthEvent else s

/-- The partner at the far end of the TANGO ports, as far as this device has heard of one. -/
def State.tangoPartner (s : State) : Option FabAddr :=
  match s.tango.heard with
  | some h => some h.1
  | none =>
    match s.tango.pair with
    | some q => some q.1
    | none => s.pairPort.map fun n => BitVec.ofNat 24 (s.rdN (portKey n 4))

/-- PARTNER_SILENT (R316). -/
def partnerSilentEff (s : State) : State :=
  match s.tangoPartner with
  | none => s
  | some a =>
    if s.beatIx < s.health.lastTango + s.rdN (hKey 0x17) then s
    else (s.modHealth fun h => { h with lastTango := s.beatIx }).suspectEvent a 1

/-- The addresses that a job slot's probes go to: the tree parent and the tree children (R244, R316), by member entry. -/
def State.probeEntries (s : State) (j : Nat) : List Nat :=
  let r := s.rdN (jsKey j 7)
  let R := s.rdN (jsKey j 8)
  let ranks := (if r = 0 then [] else [parentRank r]) ++ downRanks r R
  (ranks.map fun q => (s.cs j).members.getD q 0).eraseDups

/-- A probe: TARGET 0 asks and TARGET 1 answers (log entry 61). -/
def probePacket (dest : FabAddr) (job ctx : Nat) (answer : Bool) : Packet :=
  { mkPacket 9 3 dest job ctx with target := b2n answer }

/-- Sending the probes of a slot. -/
def sendProbes (j : Nat) : List Nat → State → State
  | [], s => s
  | e :: rest, s =>
    let a : FabAddr := BitVec.ofNat 24 (entryAddrOf e)
    let dead := match s.health.entryOf a with
      | some kv => kv.2.dead
      | none => false
    let s := if dead then s
      else
        let s := s.collInject j (probePacket a (s.rdN (jsKey j 1)) (e / 2 ^ 24 % 256) false)
        s.modHealth fun h => { h with probes := h.probes ++ [(a, s.beatIx)] }
    sendProbes j rest s

/-- Whether a slot's probes are due: PROBE_INTERVAL beats have passed since the last, and 0 stops them (R316, R326). -/
def State.probeDue (s : State) (j : Nat) : Bool :=
  s.rdN (hKey 0x18) != 0 && match mget none s.health.probedAt j with
    | some t => decide (t + s.rdN (hKey 0x18) ≤ s.beatIx)
    | none => true

/-- PROBE_SEND (R316). -/
def probeSendEff (j : JobSlot) (s : State) : State :=
  if s.jsState j ≠ 2 ∨ s.probeDue j = false ∨ s.superseded = true then s
  else sendProbes j (s.probeEntries j)
    (s.modHealth fun h => { h with probedAt := mset none h.probedAt j (some s.beatIx) })

/-- A list of probes without its oldest entry for an address. -/
def dropProbe (a : FabAddr) : List (FabAddr × Nat) → List (FabAddr × Nat)
  | [] => []
  | x :: rest => if x.1 = a then rest else x :: dropProbe a rest

/-- PROBE (R316): the command processor answers; an answer ends the wait for it. -/
def probeEff (pkt : Packet) (s : State) : State :=
  if pkt.target = 0 then
    if s.jobReady then
      s.inject 0 { probePacket pkt.src pkt.jobId.toNat pkt.ctxId.toNat true with seq := pkt.seq }
    else s
  else s.modHealth fun h => { h with probes := dropProbe pkt.src h.probes }

/-- PROBE_TIMEOUT (R316). -/
def probeTimeoutEff (addr : FabAddr) (s : State) : State :=
  match s.health.probes.find? fun x => x.1 == addr with
  | none => s
  | some x =>
    if s.beatIx < x.2 + 64 then s
    else (s.modHealth fun h => { h with probes := dropProbe addr h.probes }).suspectEvent addr 3

/-- TRUST of DETECTOR_OVERRIDE (R317). -/
def trustW (s : State) (a : FabAddr) : WR :=
  .ok (s.modHealth fun h => { h with
    suspects := h.suspects.filter fun kv => kv.2.addr != a,
    trusted := (a, s.beatIx + s.rdN (hKey 0x1A)) :: h.trusted.filter fun t => t.1 != a && decide (s.beatIx < t.2) })

/-- DEAD of DETECTOR_OVERRIDE (R317); an address without an entry gets one (log entry 62). -/
def deadW (s : State) (a : FabAddr) : WR :=
  let (i, x) := match s.health.entryOf a with
    | some kv => kv
    | none => (s.health.place, ⟨a, (s.epochOf a).getD 0, 0, [], s.beat, false, false⟩)
  .ok (s.modHealth fun h => { h with
    suspects := mins { x with dead := true } h.suspects i,
    probes := h.probes.filter fun q => q.1 != a })

/-- A write to DETECTOR_OVERRIDE (R326). -/
def detectorW (s : State) (v : Word) : WR :=
  let a : FabAddr := BitVec.ofNat 24 (field v 39 16)
  match field v 1 0 with
  | 1 => trustW s a
  | 2 => deadW s a
  | _ => .error .range

/-- TRUST (R317). -/
def trustEff (via : Via) (addr : FabAddr) (s : State) : State := s.objWrite via 0x2400 0x16 (trustW s addr)

/-- DEAD (R317). -/
def deadEff (via : Via) (addr : FabAddr) (s : State) : State := s.objWrite via 0x2400 0x16 (deadW s addr)

/-- SUSPECT_ENTRY of the selected entry (R326). -/
def State.suspectWord (s : State) : Nat :=
  match mfind s.health.suspects (s.rdN (hKey 0x13)) with
  | none => 0
  | some x =>
    let window := s.rdN (hKey 0x1A)
    let n := min 255 (x.events.countP fun e => decide (s.beatIx - e ≤ window))
    2 ^ 63 + b2n x.suspect * 2 ^ 62 + b2n x.dead * 2 ^ 61 + x.cause * 2 ^ 58 + n * 2 ^ 40 + x.addr.toNat * 2 ^ 16 +
      x.epoch.toNat

/-! ## ABSENT: what the tree finds missing at a deadline (R252, R254, R316) -/

/-- The ranks below the nodes hosted here of which nothing has arrived. -/
def State.absentAt (s : State) (j : Nat) (c : CollCtx) (levels : List Nat) : List FabAddr :=
  levels.filterMap fun l =>
    let n := mget CNode.fresh c.nodes l
    match rightRank (s.cRank j c) l (s.cRanks j c) with
    | some q =>
      if n.right.opened.isNone && n.right.segs.isEmpty && n.next == 0 && !c.childGone l
      then some (BitVec.ofNat 24 (entryAddrOf (s.cEntry j c q))) else none
    | none => none

/-- An ABSENT event for each address. -/
def absentAll : List FabAddr → State → State
  | [], s => s
  | a :: rest, s => absentAll rest (s.suspectEvent a 2)

/-- SOFT_DEADLINE with the detector's part (R254, R316). -/
def softDeadlineAllEff (j : JobSlot) (step : Tag) (bucket : BitVec 16) (level : Nat) (s : State) : State :=
  let t := softDeadlineEff j step bucket level s
  match s.collCtx j (collKey step bucket) with
  | none => t
  | some c =>
    if t.rdN (jsKey j 0x17) = s.rdN (jsKey j 0x17) then t else absentAll (s.absentAt j c [level]) t

/-- HARD_DEADLINE with the detector's part (R252, R316): every device that hosts nodes of a context still open counts its
absent children; only rank 0 aborts the step. -/
def hardDeadlineAllEff (j : JobSlot) (step : Tag) (bucket : BitVec 16) (s : State) : State :=
  let t := hardDeadlineEff j step bucket s
  match s.collCtx j (collKey step bucket) with
  | none => t
  | some c =>
    match s.hardBeat j c with
    | none => t
    | some h =>
      if s.beatIx < h ∨ c.upDone = true ∨ (c.goesUp || c.vote) = false then t
      else absentAll (s.absentAt j c (hostedLevels (s.cRank j c) (s.cRanks j c))) t

/-! ## Scores and recommendations (R321 to R324) -/

/-- The 61 part codes, ascending (R321). -/
def partCodes : List Nat :=
  0 :: (List.range 32).map (fun n => 0x100 + n) ++ (List.range 12).map (fun n => 0x200 + n) ++
    (List.range 16).map fun n => 0x300 + n

/-- Factory T_i and w_i (R321). -/
def inputFactory : List (Nat × Nat) :=
  [(1000000000, 100), (1000, 300), (4, 400), (1, 300), (10000, 250), (2, 600), (1000, 150), (1000, 200), (1, 600),
   (1, 700), (2, 400), (100, 200), (1, 700), (4, 150)]

/-- T_i and w_i in force; a value set through HEALTH_INPUT stands as `w_i × 2^48 + T_i`. -/
def HealthSt.input (h : HealthSt) (i : Nat) : Nat × Nat :=
  match mget none h.inputs i with
  | some v => (field v 47 0, field v 63 48)
  | none => inputFactory.getD i (1, 0)

/-- The shadow counters of a part's inputs (R321). -/
def partInputs (code : Nat) : List (Nat × List Nat) :=
  let n := code % 256
  match code / 256 with
  | 0 => [(11, [objKey 0x2800 0x10]), (12, [objKey 0x2800 0x11]), (13, [fabKey 0xFE, fabKey 0x1B])]
  | 1 => [(0, [portKey n 6]), (1, [portKey n 8]), (2, [portKey n 9]), (3, [portKey n 0x0F])]
  | 2 =>
    let k := 0x2810 + n
    [(4, [objKey k 2]), (5, [objKey k 3]), (6, [objKey k 5])]
  | _ => [(7, [pKey n 0x94, pKey n 0x96]), (8, [pKey n 0x95, pKey n 0x97]), (9, [pKey n 0xFE]), (10, [pKey n 0xE6])]

/-- The increase of a shadow counter over the last 60 sub-windows. -/
def HealthSt.increase (h : HealthSt) (key : Nat) : Nat :=
  mget 0 h.shadow key - (match h.snaps[59]? with
    | some m => mget 0 m key
    | none => 0)

/-- A part's score (R321). -/
def HealthSt.scoreNow (h : HealthSt) (code : Nat) : Nat :=
  1000 - ((partInputs code).map fun i =>
    let x := (i.2.map h.increase).foldl (fun a b => a + b) 0
    let (t, w) := h.input i.1
    w * min x t / t).foldl (fun a b => a + b) 0

/-- A part's last score. -/
def HealthSt.score (h : HealthSt) (code : Nat) : Nat := mget 1000 h.scores code

/-- Whether a part is in probation: its own, or with the whole device (R324). -/
def HealthSt.onProbation (h : HealthSt) (code : Nat) : Bool := mget false h.probation code || mget false h.probation 0

/-- The lowest score and the lowest part that has it. -/
def HealthSt.worst (h : HealthSt) : Nat × Nat :=
  partCodes.foldl (fun (b : Nat × Nat) c => if h.score c < b.1 then (h.score c, c) else b) (h.score 0, 0)

/-- A recommendation made: HEALTH_RECOMMEND and the events (R323). -/
def State.recommend (s : State) (code kind : Nat) : State :=
  (s.wrN (hKey 6) (kind * 2 ^ 30 + code)).healthEvent

/-- What a part is recommended for at a sub-window's end (R323). `recs` keeps the standing recommendation: 1 PROBATION,
2 EXPEL, 3 an EXPEL that became PROBATION. -/
def recommendPart (code : Nat) (s : State) : State :=
  let h := s.health
  let score := h.score code
  let last := mget 0 h.recs code
  let note (s : State) (r : Nat) : State := s.modHealth fun h => { h with recs := mset 0 h.recs code r }
  let inService := !mget false h.probation code
  if s.rdN (hKey 8) ≤ score ∧ s.rdN (hKey 9) ≤ score then note s 0
  else if score < s.rdN (hKey 9) then
    if last = 2 then s
    else
      let free := match h.lastExpel with
        | none => true
        | some t => decide (t + s.rdN (hKey 0x0A) * 10 ^ 9 ≤ s.mgmt.ns)
      if free then
        ((note s 2).modHealth fun h => { h with lastExpel := some s.mgmt.ns }).recommend code 2
      else if last = 3 then s
      else
        let s := (note s 3).count32Sat (hKey 0x0B) 1
        if inService then s.recommend code 1 else s
  else if inService && last != 1 && last != 3 then (note s 1).recommend code 1
  else s

/-- A sub-window in nanoseconds: a sixtieth of HEALTH_WINDOW, on the management clock (R21, R321). -/
def State.subWindow (s : State) : Nat := s.rdN (hKey 7) * 10 ^ 9 / 60

/-- HEALTH_SUBWINDOW_END (R321 to R323), once the sub-window has passed. -/
def healthSubwindowEndEff (s : State) : State :=
  let h := s.health
  if s.mgmt.ns < h.subStart + s.subWindow then s else
  let scores := partCodes.foldl (fun m c => mset 1000 m c (h.scoreNow c)) ([] : SMap Nat)
  let s := s.modHealth fun h => { h with
    scores := scores, snaps := (h.shadow :: h.snaps).take 60, spotCycles := [], subStart := s.mgmt.ns }
  let (low, code) := s.health.worst
  partCodes.foldl (fun s c => recommendPart c s) ((s.wrN (hKey 1) low).wrN (hKey 2) code)

/-- A write to HEALTH_PART_SELECT (R326). -/
def partSelectW (s : State) (v : Word) : WR :=
  guardW (partCodes.contains v.toNat) .range (.ok (s.wr (hKey 3) v))

/-- A write to HEALTH_PART_STATE (R324). -/
def healthPartStateW (s : State) (v : Word) : WR :=
  let code := s.rdN (hKey 3)
  guardW (decide (v.toNat ≤ 1)) .range (.ok (s.modHealth fun h => { h with
    probation := mset false h.probation code (v.toNat == 1), recs := mset 0 h.recs code 0 }))

/-- HEALTH_PART_STATE_WRITE (R324). -/
def healthPartStateWriteEff (via : Via) (value : Word) (s : State) : State :=
  s.objWrite via 0x2400 5 (healthPartStateW s value)

/-- A write to HEALTH_INPUT (R321, R326); its saved value stands under the input's own key. -/
def healthInputW (s : State) (v : Word) : WR :=
  let i := s.rdN (hKey 0x0C)
  if 1000 < field v 63 48 ∨ field v 47 0 = 0 then .error .range
  else
    let s := s.modHealth fun h => { h with inputs := mset none h.inputs i (some v) }
    .ok { s with mgmt := { s.mgmt with saves := s.mgmt.saves ++ [(objKey 0x2401 i, v)] } }

/-- HEALTH_INPUT as it reads. -/
def State.healthInput (s : State) : Nat :=
  let (t, w) := s.health.input (s.rdN (hKey 0x0C))
  w * 2 ^ 48 + t

/-- SPOT_CHECK_COMPARE (R322): the two fingerprints of a sampled tile. -/
def spotCheckCompareEff (c : Core) (first second : Word) (s : State) : State :=
  let x := s.core c
  if x.run.checked = false then s
  else
    let s := (s.modCore c fun x => { x with run := { x.run with checked := false } }).count (hKey 0x10) 1
    if first = second then s
    else (s.count (hKey 0x11) 1).shadowAdd (pKey (c.val / 16) 0xFE) 1

end Sys2Proof.Machine
end

