-- ==== Sys2Proof/Machine/Reset.lean ====
section
/-! DEFINITION. The ladder of resets: watchdogs, rungs, partition reset, chip reset and power cycle (R327 to R345, R349 to
R351, R356). -/

namespace Sys2Proof.Machine

/-- Key of a reset or hang object. -/
def rKey (sub : Nat) : Nat := objKey 0x2A00 sub

/-- Changing the hang ladder. -/
def State.modHang (s : State) (f : HangSt → HangSt) : State := { s with hang := f s.hang }

/-! ## READINESS and the hang log (R349, R351, R449) -/

/-- READINESS takes a value: a change is management event 10 (R449). -/
def State.setReadiness (s : State) (r : Nat) : State :=
  if s.readiness = r then s else (s.wrN (objKey 0x1000 0x30) r).mgmtEvent 10

/-- PART_READY of a partition. -/
def State.setPartReady (s : State) (p : Nat) (ready : Bool) : State :=
  let v := s.rdN (objKey 0x1000 0x31)
  s.wrN (objKey 0x1000 0x31) (setField v p p (b2n ready))

/-- An entry of the hang log (R349). -/
def State.hangLog (s : State) (e : HangEntry) : State :=
  (s.modHang fun h => { h with log := (e :: h.log).take 32 }).count32 (rKey 9) 1

/-- The hang-log entry of a rung on the whole device. -/
def State.deviceEntry (s : State) (rung cause : Nat) (escalated reported : Bool) : HangEntry :=
  ⟨rung, cause, escalated, reported, 0xFF, 0xFF, 0xFF, 0, s.beat⟩

/-- HANG_LOG_ENTRY of an entry (R349). -/
def HangEntry.word (e : HangEntry) : Nat :=
  e.rung * 2 ^ 61 + e.cause * 2 ^ 56 + b2n e.escalated * 2 ^ 55 + b2n e.reported * 2 ^ 54 + e.part % 256 * 2 ^ 40 +
    e.core % 256 * 2 ^ 32 + e.ctx % 256 * 2 ^ 24 + e.tile % 2 ^ 24

/-- Whether a rung is AUTO (R330). -/
def State.rungAuto (s : State) (rung : Nat) : Bool := bit (s.rd (rKey 4)) (rung - 1)

/-- A rung is reported and not taken (R330). -/
def State.reportRung (s : State) (e : HangEntry) : State := (s.hangLog { e with reported := true }).healthEvent

/-! ## What a partition reset clears (R342) -/

/-- The objects of a partition that its reset leaves as they are (R156, R173, R199, R300, R342, R350, R426, R442). -/
def partKept (sub : Nat) : Bool :=
  (decide (1 ≤ sub) && decide (sub ≤ 5)) || (decide (0x20 ≤ sub) && decide (sub ≤ 0x30)) ||
  sub == 0x91 || sub == 0x93 || sub == 0xA0 || sub == 0xB0 || sub == 0xC8 || sub == 0xC9 ||
  (decide (0xE1 ≤ sub) && decide (sub ≤ 0xEC))

/-- The counters of a partition that its reset clears (R339 READY). -/
def partCounter (sub : Nat) : Bool :=
  sub == 6 || sub == 7 || (decide (0x44 ≤ sub) && decide (sub ≤ 0x49)) || (decide (0x60 ≤ sub) && decide (sub ≤ 0x6F)) ||
  (decide (0x80 ≤ sub) && decide (sub ≤ 0x88)) || sub == 0x8C || (decide (0x94 ≤ sub) && decide (sub ≤ 0x99)) ||
  (decide (0xA1 ≤ sub) && decide (sub ≤ 0xA5)) || (decide (0xB3 ≤ sub) && decide (sub ≤ 0xBB)) ||
  (decide (0xCB ≤ sub) && decide (sub ≤ 0xCF))

/-- Objects of partition `p` set back to their reset values where `f` says so. -/
def State.dropPartObjs (s : State) (p : Nat) (f : Nat → Bool) : State :=
  { s with obj := s.obj.filter fun kv => !(kv.1 / 256 == partIx p && f (kv.1 % 256)) }

/-- A table without the entries that belong to partition `p`, `w` keys to a partition. -/
def partOut {α : Type} (p w : Nat) (m : SMap α) : SMap α := mclear m (p * w) ((p + 1) * w)

/-- The tables and cores of partition `p` at their reset values (R342). Contexts that `keep` names stay. -/
def State.dropTables (s : State) (p : Nat) (keep : Ctx → Bool) : State :=
  let kept := s.ctxs.filter fun kv => kv.1 / 16 == p && keep kv.2
  { s with
    cores := partOut p 16 s.cores, progs := partOut p 1024 s.progs, slots := partOut p 256 s.slots,
    launches := partOut p 256 s.launches, saved := partOut p 16 s.saved, versions := partOut p 256 s.versions,
    fences := partOut p 1 s.fences, mbs := partOut p 1 s.mbs, dma := partOut p 32 s.dma, dmaEng := partOut p 2 s.dmaEng,
    loaders := partOut p 1 s.loaders, acorns := partOut p 32 s.acorns,
    ctxs := kept.foldl (fun (m : SMap Ctx) (kv : Nat × Ctx) => mins kv.2 m kv.1) (partOut p 16 s.ctxs),
    hang := { s.hang with rungs := partOut p 256 s.hang.rungs },
    health := { s.health with spotSeen := mdel s.health.spotSeen p, spotTaken := mdel s.health.spotTaken p } }

/-- The tables, cores and on-chip memory of partition `p` at their reset values (R339 CLEAR, R342). -/
def State.clearTables (s : State) (p : Nat) (keep : Ctx → Bool) : State :=
  ((s.dropTables p keep).zeroMem (spadBase (16 * p)) (16 * spadSize)).zeroMem (walnutBase (16 * p)) (16 * walnutSize)

/-- A partition's clusters and channels are powered: WAKE (R339, R416). -/
def State.partAwake (s : State) (p : Nat) : State :=
  { s.pWr p 1 0 with
    pow := { s.pow with
      clusters := mmod ClusterClk.reset s.pow.clusters p fun c => { c with asleep := false },
      awake := s.pow.awake.filter fun n => n / 24 != p,
      noWork := mdel s.pow.noWork p, drained := mdel s.pow.drained p } }

/-- A self-test ends CANCELLED (R347); a running one leaves the memories that it tests zeroed, and the HBM that its third
part was to test undefined (log entry 63). -/
def State.cancelBist (s : State) (p : Nat) : State :=
  match mget none s.hang.bist p with
  | none => s
  | some b =>
    let running := s.pN p 0xEB == 2
    let s := (s.modHang fun h => { h with bist := mset none h.bist p none }).wrN (pKey p 0xEB) 5
    if running then
      let s := (s.zeroMem (spadBase (16 * p)) (16 * spadSize)).zeroMem (walnutBase (16 * p)) (16 * walnutSize)
      if b.hbm then s.freeMem (hbmBase p) (s.reserveBase p - hbmBase p) else s
    else s

/-! ## Partition reset (R338 to R342) -/

/-- Bytes of context state of a core in a sample (R341). -/
def sampleState : Nat := 656 * 1024

/-- Where the window of a core stands in a sample, and its place in the scratchpad and size (R341, R350). -/
def State.sampleWindow (s : State) (p l : Nat) : Nat × Nat × Nat :=
  let w := s.pRd p 0xE8
  let size := field w 15 0 * 65536
  (s.pN p 0xE7 + 4096 + l * (sampleState + size) + sampleState, field w 31 16 * 65536, size)

/-- The size of a sample (R341). -/
def State.sampleBytes (s : State) (p : Nat) : Nat := 4096 + 16 * (sampleState + field (s.pRd p 0xE8) 15 0 * 65536)

/-- The sample of a partition: the windows of its cores, among bytes whose layout is not published (R341; log entry 64).
A sample that does not fit the group's HBM is not written. -/
def State.takeSample (s : State) (p : Nat) : State :=
  let a := s.pN p 0xE7
  if a = 0 ∨ s.inGroupHbm p a (s.sampleBytes p) = false then s
  else
    let before := s.mem
    let s := s.freeMem a (s.sampleBytes p)
    let mem := (List.range 16).foldl (fun (m : Mem) l =>
      let (dst, off, size) := s.sampleWindow p l
      m.put dst size (before.take (spadBase (16 * p + l) + off) size)) s.mem
    { s with mem := mem }.pWr p 0xE9 (BitVec.ofNat 64 (2 ^ 31 + (field (s.pRd p 0xE9) 15 0 + 1) % 65536))

/-- HALT on a member of the group (R339): its cores, DMA engines, loader and server stop with all that they had, a self-test
ends, and Tango is told (log entry 64: their tables read as reset from here on). -/
def haltMember (q : Nat) (s : State) : State :=
  (((s.cancelBist q).tangoPartReset q true).dropTables q fun _ => false).pWr q 0xE1 1

/-- What a member of the group does as it enters a phase (R339). -/
def enterPhase (phase q : Nat) (s : State) : State :=
  let s :=
    match phase with
    | 2 => s.takeSample q
    | 4 => s.partAwake q
    | 5 => (s.clearTables q fun _ => false).dropPartObjs q fun sub => !partKept sub
    | _ => s
  s.pWr q 0xE1 (BitVec.ofNat 64 phase)

/-- The reset of the group that `lead` leads goes on to its next phase, up to CHECK (R339): SAMPLE is left out where no sample
is due. -/
def State.resetPhase (s : State) (lead : Nat) : State :=
  match mget none s.hang.resets lead with
  | none => s
  | some r =>
    let now := s.pN lead 0xE1
    if 1 ≤ now ∧ now ≤ 5 then
      let next := if now = 1 ∧ r.sample = false then 3 else now + 1
      let s := (s.members lead).foldl (fun s q => enterPhase next q s) s
      s.modHang fun h => { h with resets := mset none h.resets lead (some { r with phaseAt := s.beatIx }) }
    else s

/-- One phase more for every partition reset under way: what a beat does (log entry 64). -/
def State.resetPhases (s : State) : State :=
  s.hang.resets.foldl (fun (t : State) (kv : Nat × Option ResetRun) => t.resetPhase kv.1) s

/-- A partition reset starts on every member of the group (R337, R338, R351): a request that meets a running one joins it,
with its sample where SAMPLE has not begun, and one that meets a reclaim waits for it (R440). `entry` is the log entry of
partition `p` itself. -/
def State.startReset (s : State) (p : Nat) (sample : Bool) (entry : HangEntry) : State :=
  let lead := s.lead p
  let group := s.members p
  if group.any fun q => s.pN q 0x2E == 1 then
    let w := s.sec.waitReset
    let sec := { s.sec with waitReset := match w.find? fun x => s.lead x.part == lead with
      | some _ => w.map fun x => if s.lead x.part = lead then { x with sample := x.sample || sample } else x
      | none => w ++ [⟨p, sample, entry.cause⟩] }
    { s with sec := sec }
  else if (mget none s.hang.resets lead).isSome ∧ s.pN p 0xE1 ≠ 7 then
    if s.pN p 0xE1 = 1 ∧ sample = true then
      s.modHang fun h => { h with resets := mmod none h.resets lead fun r => r.map fun x => { x with sample := true } }
    else s
  else
    let s := group.foldl (fun s q =>
      let e := if q = p then entry else { entry with part := q, core := 0xFF, ctx := 0xFF, tile := 0 }
      (((s.hangLog e).count32Sat (pKey q 0xE3) 1).pWr q 0xE2 (BitVec.ofNat 64 entry.cause)).setPartReady q false) s
    let s := s.detachColl lead false fun _ => true
    let s := group.foldl (fun s q => haltMember q s) s
    let run : ResetRun := ⟨sample, entry.cause, s.beatIx, s.beatIx⟩
    (s.modHang fun h => { h with resets := mset none h.resets lead (some run) }).pumpQuiet

/-- The log entry of a partition reset that no core caused. -/
def State.partEntry (s : State) (p cause : Nat) (escalated : Bool) : HangEntry :=
  ⟨3, cause, escalated, false, p, 0xFF, 0xFF, 0, s.beat⟩

/-- Rung 3 (R327, R338): a watchdog takes a sample where SAMPLE_ADDR is nonzero. -/
def State.rung3 (s : State) (e : HangEntry) : State :=
  if s.rungAuto 3 then s.startReset e.part true e else s.reportRung e

/-- A write to PART_RESET (R338, R350). -/
def partResetW (s : State) (p : Nat) (v : Word) : WR :=
  if bit v 0 = false then .ok s
  else guardW s.jobReady .state (.ok (s.startReset p (bit v 1) (s.partEntry p 7 false)))

/-- PART_RESET (R338, R339). -/
def partResetEff (via : Via) (p : Part) (value : Word) (s : State) : State :=
  s.partWrite via p 0xE0 (partResetW s p value)

/-- VF_FLR (R338, R356): the function's own registers return to their reset values. -/
def vfFlrEff (p : Part) (s : State) : State :=
  if s.pcieUp = false ∨ s.vfExists (p.val + 1) = false then s
  else
    let s := s.setFunc (p.val + 1) .reset
    if s.jobReady then s.startReset p.val false (s.partEntry p 8 false) else s

/-- Granules of an access bank that did not answer: zero in the sample's window, from its first byte on (R341). -/
def zeroBank (dst off size bank : Nat) : Nat → Mem → Mem
  | 0, m => m
  | n + 1, m =>
    let m := zeroBank dst off size bank n m
    let at_ := n * 64
    if at_ < size ∧ accessBank (off + at_) = bank then m.zero (dst + at_) (min 64 (size - at_)) else m

/-- What did not answer, in partition `p`'s sample (R341). -/
def State.sampleDead (s : State) (p : Nat) (dead : List (LocalCore × Fin 64)) : State :=
  if dead.isEmpty ∨ bit (s.pRd p 0xE9) 31 = false then s
  else
    let mem := dead.foldl (fun m d =>
      let (dst, off, size) := s.sampleWindow p d.1
      zeroBank dst off size d.2 (size / 64) m) s.mem
    { s with mem := mem }.pWr p 0xE9 (BitVec.ofNat 64 (setField (s.pN p 0xE9) 30 30 1))

/-- PARTITION_RESET_READY (R339, R341, R447): the phases that remain, then READY, or FAILED where CHECK fails. -/
def partitionResetReadyEff (p : Part) (obs : ResetObs) (s : State) : State :=
  let lead := s.lead p
  match mget none s.hang.resets lead with
  | none => s
  | some r =>
    if s.pN p 0xE1 = 7 then s
    else
      let s := (List.range 5).foldl (fun s _ => s.resetPhase lead) s
      let s := if r.sample then s.sampleDead p obs.deadBanks else s
      if obs.checkOk then
        let s := (s.members p).foldl (fun s q => ((s.dropPartObjs q partCounter).pWr q 0xE1 0).setPartReady q true) s
        let s := s.modHang fun h => { h with resets := mset none h.resets lead none }
        (s.members p).foldl (fun s q => s.event q 5) s
      else (s.members p).foldl (fun s q => s.pWr q 0xE1 7) s

/-! ## Chip reset (R343, R453) -/

/-- The objects that a chip reset leaves as they are: identity, Conga and calibration objects, measurements, what counts
from power-up or since manufacture, and the key generations (R386, R396, R404, R423, R424, R437, R442, R349).
That RECLAIM_NS (R439) is one of them is DESIGN CHOICE (log entry 103). -/
def chipKept (key : Nat) : Bool :=
  let index := key / 256
  let sub := key % 256
  index == 0x1000 || index == 0x1100 || index == 0x2F40 ||
  (index == 0x2000 && ((decide (2 ≤ sub) && decide (sub ≤ 5)) || sub == 0x0C)) ||
  (index == 0x2100 && (sub == 1 || sub == 3 || sub == 5 || sub == 7 || decide (0x10 ≤ sub))) ||
  (index == 0x2200 && sub == 3) ||
  (decide (0x2810 ≤ index) && decide (index < 0x281C) && sub == 1) ||
  (index == 0x2900 && (sub == 2 || sub == 3 || sub == 0x0C)) ||
  (index == 0x2A00 && (sub == 2 || sub == 3 || sub == 9)) ||
  (decide (0x3000 ≤ index) && decide (index < 0x4000) && index % 256 == 0 &&
    (sub == 5 || sub == 0x2B || sub == 0x2F || sub == 0x30))

/-- The RWS values that chip reset and power-up load: those in flash, under those whose save has failed since power-up and
the saves still pending (R382). -/
def MgmtSt.savedValues (m : MgmtSt) : List (Nat × Word) := m.flash ++ m.unsaved ++ m.saves

/-- Loading saved values into the objects, and the inputs of the health scores from their own keys. -/
def loadSaved : List (Nat × Word) → State → State
  | [], s => s
  | (k, v) :: rest, s =>
    let s := if k / 256 = 0x2401 then
        s.modHealth fun h => { h with inputs := mset none h.inputs (k % 256) (some v) }
      else s.wr k v
    loadSaved rest s

/-- The device at the start of a chip reset or at power-up: nothing but the management side, the sensors and the flash
keeps what it had (R343, R453). -/
def State.deviceReset (s : State) : State :=
  let m := s.mgmt
  let committing := m.calState == .committing
  let m := { m with
    calState := if committing then .committing else .locked, staging := if committing then m.staging else [],
    calRefuse := 0 }
  let t : State := { State.reset with
    pending := s.pending, freeCtr := s.freeCtr, out := s.out, beat := s.beat, mgmt := m,
    obj := s.obj.filter fun kv => chipKept kv.1,
    hang := { HangSt.reset with log := s.hang.log, mcFirst := s.hang.mcFirst, chip := s.hang.chip },
    sec := { SecSt.reset with bank0 := s.sec.bank0, bank1 := s.sec.bank1, nextBank := s.sec.nextBank },
    pow := { PowSt.reset with
      mode := s.pow.mode, regHot := s.pow.regHot, stackWarm := s.pow.stackWarm, stackHot := s.pow.stackHot,
      uvGate := s.pow.uvGate, cycleReq := s.pow.cycleReq } }
  loadSaved (m.savedValues.filter fun kv => !(kv.1 / 256 == 0x1000 || kv.1 / 256 == 0x1100)) t

/-- A chip reset (R343): with the rails off after a thermal trip it holds (R422). -/
def State.chipReset (s : State) (cause : Nat) (e : HangEntry) : State :=
  if s.pow.mode = .off then s
  else
    let s := s.hangLog e
    let ready := s.readiness
    let writing := s.rdN (objKey 0x2900 9) % 4 == 1
    let active := s.rdN (objKey 0x2900 2) % 2
    let s := s.deviceReset
    let s := if writing then { s with sec :=
        if active = 0 then { s.sec with bank1 := { s.sec.bank1 with valid := false } }
        else { s.sec with bank0 := { s.sec.bank0 with valid := false } } } else s
    let s := ((s.wrN (rKey 2) cause).count32Sat (rKey 3) 1).wrN (objKey 0x1000 0x31) 0
    let s := s.wrN (objKey 0x1000 0x30) ready
    if s.pow.mode = .tripped then s else s.setReadiness 0

/-- Rung 4 (R327, R330). -/
def State.rung4 (s : State) (cause : Nat) (escalated : Bool) : State :=
  let e := s.deviceEntry 4 cause escalated false
  if s.rungAuto 4 then (s.chipReset cause e).modHang fun h => { h with chip := some s.mgmt.ns } else s.reportRung e

/-- PWR_CYCLE_REQ (R344). -/
def State.cycleRequest (s : State) (on : Bool) : State := { s with pow := { s.pow with cycleReq := on } }

/-- Rung 5 (R327, R344). -/
def State.rung5 (s : State) (cause : Nat) (escalated : Bool) : State :=
  let e := s.deviceEntry 5 cause escalated false
  if s.rungAuto 5 then (s.hangLog e).cycleRequest true else s.reportRung e

/-- RESET_CONTROL as a key and an action (R343, R349): bits 0 and 1 need the key. -/
def resetControlW (s : State) (via : Via) (v : Word) : WR :=
  let keyed := field v 31 16 == 0x5A3C
  if viaPriv via = false then .error .access
  else if (bit v 0 || bit v 1) && !keyed then .error .range
  else
    ctlActs v 0 [fun s => .ok (s.chipReset 7 (s.deviceEntry 4 7 false false)),
      fun s => .ok ((s.hangLog (s.deviceEntry 5 7 false false)).cycleRequest true), fun s => .ok (s.cycleRequest false)] s

/-- CHIP_RESET (R343, R356): written, or by Function Level Reset of the PF. -/
def chipResetEff (via : Option Via) (value : Word) (s : State) : State :=
  match via with
  | some v => s.objWrite v 0x2A00 1 (resetControlW s v value)
  | none => if s.pcieUp then s.chipReset 8 (s.deviceEntry 4 8 false false) else s

/-- PERST_ASSERT (R343). -/
def perstAssertEff (s : State) : State := s.chipReset 8 (s.deviceEntry 4 8 false false)

/-- POWER_CYCLE (R344). -/
def powerCycleEff (via : Via) (value : Word) (s : State) : State :=
  s.objWrite via 0x2A00 1 (resetControlW s via value)

/-- POWER_CYCLE_CANCEL (R344). -/
def powerCycleCancelEff (via : Via) (value : Word) (s : State) : State :=
  s.objWrite via 0x2A00 1 (resetControlW s via value)

/-! ## Watchdogs and the climb (R327 to R336) -/

/-- Whether the watchdogs of partition `p` run (R336): not while superseded, in Retention, in partition-off or during a
reset of the partition. -/
def State.watchdogsRun (s : State) (p : Nat) : Bool :=
  s.jobReady && !s.superseded && s.rdN (objKey 0x2000 7) == 0 && s.pN p 1 == 0 && s.pN p 0xE1 == 0

/-- Rung 1 for the launch on core `c` (R327, R329). -/
def State.rung1 (s : State) (c k : Nat) (l : Launch) (cause tile : Nat) : State :=
  let p := c / 16
  let e : HangEntry := ⟨1, cause, false, false, p, c % 16, l.ctx, tile, s.beat⟩
  if l.ending.isSome then s
  else if s.rungAuto 1 then
    let s := (s.hangLog e).count32Sat (pKey p 0xE6) 1
    let s := s.modHang fun h => { h with rungs := mset none h.rungs k (some ⟨1, k, l.ctx, c, tile, s.beatIx, []⟩) }
    (s.endLaunch k ⟨stHang, s.groupLocal c, tile⟩).tryFinish k
  else s.reportRung e

/-- TILE_WATCHDOG_EXPIRY (R331): the count is kept beat by beat. -/
def tileWatchdogExpiryEff (c : Core) (s : State) : State :=
  match s.launchOf c, (s.core c).run.tile with
  | some (k, l), some (tile, _) =>
    let p := c.val / 16
    if s.watchdogsRun p = false ∨ s.bistRuns p = true ∨ (s.core c).run.tileBeats < s.pN p 0xE4 then s
    else s.rung1 c k l 1 tile
  | _, _ => s

/-- GATE_WATCHDOG_EXPIRY (R332). -/
def gateWatchdogExpiryEff (c : Core) (s : State) : State :=
  match s.launchOf c with
  | some (k, l) =>
    let p := c.val / 16
    let bound := s.pN p 0xE5
    if s.watchdogsRun p = false ∨ s.bistRuns p = true ∨ bound = 0 ∨ (s.core c).run.gateBeats < bound ∨
        (s.ctx l.ctx).state ≠ .resident ∨ ((s.openGates c).any fun g => !gateIsBeat g) = false then s
    else s.rung1 c k l 2 (tileIndex (s.items c) (s.core c).run.item)
  | none => s

/-- Whether an armed slot is startable (R189). -/
def State.startable (s : State) (p n : Nat) : Bool :=
  let x := s.slot p n
  let c := s.ctx x.ctxId
  let (h, _) := s.chosen x
  s.due p n && c.state == .resident && !c.evictReq && s.groupRuns p && match s.imageOf p h with
    | some i => !s.coresRun p (imgCores i)
    | none => true

/-- SCAN_WATCHDOG_EXPIRY (R333). -/
def scanWatchdogExpiryEff (p : Part) (w : ScanStuck) (s : State) : State :=
  let lead := s.lead p
  let stuck := match w with
    | .slot n => s.startable lead n && decide (9766 ≤ (s.slot lead n).readyBeats)
    | .swap i =>
      let x := s.ctx (16 * lead + i)
      (x.state == .evicting || x.state == .loading) && decide (x.since + 9766 ≤ s.beatIx)
  if stuck = false ∨ s.watchdogsRun p = false ∨ s.bistRuns p = true then s
  else s.rung3 (s.partEntry p 4 false)

/-- ARBITER_WATCHDOG_EXPIRY (R334). -/
def arbiterWatchdogExpiryEff (o : ArbiterOwner) (s : State) : State :=
  match o with
  | .part p lc =>
    let core := match lc with
      | some l => l.val
      | none => 0xFF
    if s.watchdogsRun p then s.rung3 { s.partEntry p 5 false with core := core } else s
  | .shared => if s.jobReady && !s.superseded && s.rdN (objKey 0x2000 7) == 0 then s.rung4 5 false else s

/-- MC_WATCHDOG_EXPIRY (R335): the controller's own queues are lost with a save that is not complete (R382), and a running
commit leaves the stored set invalid (R403). -/
def mcWatchdogExpiryEff (s : State) : State :=
  if s.superseded ∨ s.pow.mode = .off ∨ s.mgmt.ns < s.mgmt.wdAt + s.rdN (rKey 5) * 10 ^ 6 then s
  else
    let m := { s.mgmt with wdAt := s.mgmt.ns }
    let again := match s.hang.mcFirst with
      | some t => decide (m.ns ≤ t + 60 * 10 ^ 9)
      | none => false
    if again then ({ s with mgmt := m }.modHang fun h => { h with mcFirst := none }).rung5 6 false
    else
      let committing := m.calState == .committing
      let lost := m.saves.foldl (fun (s : State) kv => s.wr kv.1 (mget (objDefault kv.1) m.flash kv.1)) s
      { lost with
        mgmt := { m with
          restarting := true, queue := [], saves := [],
          calBroken := m.calBroken || committing,
          calState := .locked, staging := [] },
        hang := { s.hang with mcFirst := some m.ns } }

/-- MC_RESTART_DONE (R335). -/
def mcRestartDoneEff (s : State) : State :=
  if s.mgmt.restarting then { s with mgmt := { s.mgmt with restarting := false, wdAt := s.mgmt.ns } }.mgmtEvent 7 else s

/-- A core after a rung-2 reset: its tile is abandoned, what it holds is as partition reset leaves it, but for its flag
word and idle counters (R328). -/
def CoreSt.engineReset (x : CoreSt) : CoreSt :=
  { CoreSt.reset with flags := x.flags, idle := x.idle, run := { x.run with finished := true, failed := true, checked := false } }

/-- Rung 2 (R327, R328) for a rung-1 launch whose cores are still inside tiles. -/
def State.rung2 (s : State) (r : RungSt) (stuck : List Nat) : State :=
  let c := stuck.headD r.core
  let tile := match (s.core c).run.tile with
    | some t => t.1
    | none => r.tile
  let e : HangEntry := ⟨2, 3, true, false, c / 16, c % 16, r.ctx, tile, s.beat⟩
  if s.rungAuto 2 then
    let s := (s.hangLog e).count32Sat (pKey (c / 16) 0xE6) 1
    let s := stuck.foldl (fun s d =>
      ((s.leaveTile d).modCore d CoreSt.engineReset).zeroMem (walnutBase d) walnutSize) s
    let s := s.modHang fun h => { h with
      rungs := mset none h.rungs r.launch (some { r with rung := 2, since := s.beatIx, cores := stuck }) }
    (s.tryFinish r.launch).teardown r.ctx
  else (s.reportRung e).modHang fun h => { h with rungs := mset none h.rungs r.launch none }

/-- Whether the rung on a launch still stands: the launch that it ended is still there. -/
def State.rungStands (s : State) (r : RungSt) : Bool :=
  match s.launch r.launch with
  | some l => match l.ending with
    | some e => e.code == stHang
    | none => false
  | none => false

/-- Rungs 1 and 2 of a group that are due (R327). -/
def climbRungs : List (Nat × Option RungSt) → State → State
  | [], s => s
  | (k, some r) :: rest, s =>
    let s :=
      if r.rung = 1 then
        if s.beatIx < r.since + 64 then s
        else
          let stuck := (s.launchCores k).filter fun c => (s.core c).run.tile.isSome
          if s.rungStands r = false ∨ stuck.isEmpty = true then s.modHang fun h => { h with rungs := mset none h.rungs k none }
          else s.rung2 r stuck
      else if s.beatIx < r.since + 98 then s
      else
        let c := r.cores.headD r.core
        let s := s.modHang fun h => { h with rungs := mset none h.rungs k none }
        s.rung3 ⟨3, 3, true, false, c / 16, c % 16, r.ctx, r.tile, s.beat⟩
    climbRungs rest s
  | (_, none) :: rest, s => climbRungs rest s

/-- The bound of a phase, in beats, by the code of PART_RESET_STATE (R339). -/
def phaseBound (phase : Nat) : Nat :=
  match phase with
  | 1 => 20
  | 2 => 489
  | 3 => 1954
  | 4 => 196
  | 5 => 98
  | 6 => 4883
  | _ => 15625

/-- RUNG_TIMEOUT (R327, R339): whichever rung of the group, or of the device, has outlived its bound. -/
def rungTimeoutEff (p : Part) (s : State) : State :=
  let lead := s.lead p
  match s.hang.chip, mget none s.hang.resets lead with
  | some t, _ =>
    if s.jobReady then s.modHang fun h => { h with chip := none }
    else if s.mgmt.ns < t + 10 ^ 9 then s
    else (s.modHang fun h => { h with chip := none }).rung5 3 true
  | none, some r =>
    if s.beatIx < r.since + 15625 ∧ s.beatIx < r.phaseAt + phaseBound (s.pN lead 0xE1) then s
    else
      let s := s.modHang fun h => { h with resets := mset none h.resets lead none }
      ((s.members p).foldl (fun s q => s.pWr q 0xE1 7) s).rung4 3 true
  | none, none =>
    if s.watchdogsRun p = false then s
    else climbRungs (s.hang.rungs.filter fun kv => kv.1 / 256 == lead) s

/-- ENGINE_RESET_DONE (R327, R328). -/
def engineResetDoneEff (p : Part) (s : State) : State :=
  let lead := s.lead p
  s.modHang fun h => { h with rungs := h.rungs.filter fun kv => !(kv.1 / 256 == lead && match kv.2 with
    | some r => r.rung == 2
    | none => true) }

end Sys2Proof.Machine
end

