-- ==== Sys2Proof/Machine/Bist.lean ====
section
/-! DEFINITION. Draining and waking a partition group, and the self-test (R346 to R348, R414, R416). -/

namespace Sys2Proof.Machine

/-- Whether the group of partition `p` is drained (R346). -/
def State.drained (s : State) (p : Nat) : Bool :=
  let lead := s.lead p
  let group := s.members p
  ((ctxIds lead).all fun k =>
    let st := (s.ctx k).state
    st == .free || st == .swapped || st == .retired) &&
  ((List.range 256).all fun n => (s.slot lead n).state == .empty || (s.slot lead n).state == .done) &&
  (group.all fun q => (List.range 32).all fun c => (s.chan (q * 32 + c)).state == .idle) &&
  (group.all fun q => (s.loader q).st != .loading && (s.loader q).st != .waitSlot) &&
  (List.range 128).all fun j => !(group.contains (s.holder j) && s.jsState j == 2)

/-- The whole group begins to wake (R416): from partition-off, or turning its entry round. -/
def State.wakeGroup (s : State) (p : Nat) : State :=
  (s.members p).foldl (fun s q =>
    if s.pN q 1 = 1 ∨ s.pN q 1 = 2 then (s.pWr q 1 3).pCount q 7 1 else s) s

/-- BIST_RUNNING while a test that job-ready started still runs (R449, R452). -/
def State.bistFlag (s : State) : State :=
  let k := objKey 0x1000 0x32
  let on := s.hang.bist.any fun kv => match kv.2 with
    | some b => b.boot
    | none => false
  s.wrN k (setField (s.rdN k) 3 3 (b2n on))

/-- REQUEST of a self-test (R347): at once on a drained partition, which it wakes, and deferred on any other. -/
def State.bistStart (s : State) (p : Nat) (hbm boot : Bool) : State :=
  let st := s.pN p 0xEB
  if st = 1 ∨ st = 2 then s
  else
    let s := (s.modHang fun h => { h with bist := mset none h.bist p (some ⟨hbm, boot⟩) }).wakeGroup p
    ((s.pWr p 0xEB (if s.drained p then 2 else 1)).pWr p 0xEC 0).bistFlag

/-- A write to BIST_CONTROL (R347, R350). -/
def bistControlW (s : State) (p : Nat) (v : Word) : WR :=
  ctlActs v 0
    [fun s => guardW (s.jobReady && s.pN p 0xE1 == 0 && s.pN p 0x2E != 1) .state (.ok (s.bistStart p (bit v 2) false)),
      fun s => .ok (s.cancelBist p).bistFlag] s

/-- BIST_REQUEST (R347). -/
def bistRequestEff (via : Via) (p : Part) (value : Word) (s : State) : State :=
  s.partWrite via p 0xEA (bistControlW s p value)

/-- BIST_CANCEL (R347). -/
def bistCancelEff (via : Via) (p : Part) (value : Word) (s : State) : State :=
  s.partWrite via p 0xEA (bistControlW s p value)

/-- BIST_DEFERRED_START (R347). -/
def bistDeferredStartEff (p : Part) (s : State) : State :=
  if s.pN p 0xEB = 1 ∧ s.drained p = true then s.pWr p 0xEB 2 else s

/-- BIST_DONE (R348): what was tested reads as after a partition reset, and HBM as zero. -/
def bistDoneEff (p : Part) (obs : BistObs) (s : State) : State :=
  match mget none s.hang.bist p with
  | none => s
  | some b =>
    if s.pN p 0xEB ≠ 2 then s
    else
      let hbmBad := b.hbm && obs.hbmFail
      let bad := hbmBad || obs.memFail || obs.engFail || obs.failCores != 0
      let result := obs.failCores.toNat * 65536 + b2n hbmBad * 4 + b2n obs.memFail * 2 + b2n obs.engFail
      let s := (s.zeroMem (spadBase (16 * p)) (16 * spadSize)).zeroMem (walnutBase (16 * p)) (16 * walnutSize)
      let s := if b.hbm then s.zeroMem (hbmBase p) (s.reserveBase p - hbmBase p) else s
      let s := (s.modHang fun h => { h with bist := mset none h.bist p none }).bistFlag
      let s := ((s.pWr p 0xEB (if bad then 4 else 3)).pWr p 0xEC (BitVec.ofNat 64 result)).event p 5
      if bad then s.healthEvent else s

end Sys2Proof.Machine
end

