-- ==== Sys2Proof/Machine/Power.lean ====
section
/-! DEFINITION. Power states, the loops that set a cluster's clock, temperature, the input and the references (R405 to
R426). -/

namespace Sys2Proof.Machine

/-- Key of a power object. -/
def pwKey (sub : Nat) : Nat := objKey 0x2000 sub

/-- Key of a thermal object. -/
def thKey (sub : Nat) : Nat := objKey 0x2100 sub

/-- Key of a clock object. -/
def ckKey (sub : Nat) : Nat := objKey 0x2200 sub

/-- Changing the power state. -/
def State.modPow (s : State) (f : PowSt → PowSt) : State := { s with pow := f s.pow }

/-- A number of thousandths as a binary32 code, to nearest. -/
def milliF32 (i : Int) : Word := ((toF32 .rne false (numDiv (Num.ofInt i) 1000)).1).zeroExtend 64

/-- A number of millionths as a binary32 code, to nearest. -/
def microF32 (n : Nat) : Word := ((toF32 .rne false (numDiv (Num.ofInt n) 1000000)).1).zeroExtend 64

/-- Whether the device runs without a valid calibration set (R404). -/
def State.uncalibrated (s : State) : Bool := s.rdN (ckKey 1) == 1

/-- A cluster's requests and sleep. -/
def State.cluster (s : State) (p : Nat) : ClusterClk := mget ClusterClk.reset s.pow.clusters p

/-- Changing a cluster's requests and sleep. -/
def State.modCluster (s : State) (p : Nat) (f : ClusterClk → ClusterClk) : State :=
  s.modPow fun w => { w with clusters := mmod ClusterClk.reset w.clusters p f }

/-! ## Partition-off, wake and sleep (R413 to R416) -/

/-- The banks of a core that its retention mask does not select are lost, and so is its walnut buffer: they read as zero
after wake (R137, R414). -/
def State.loseBanks (s : State) (c : Nat) : State :=
  let mask := mget 0#64 s.pow.offMasks c
  let s := (List.range 64).foldl (fun s b =>
    if mask.getLsbD b then s else s.zeroMem (spadBase c + b * 2 ^ 19) (2 ^ 19)) s
  s.zeroMem (walnutBase c) walnutSize

/-- What partition `p` loses in partition-off (R414). -/
def State.losePart (s : State) (p : Nat) : State :=
  (List.range 16).foldl (fun s l => ((s.loseBanks (16 * p + l)).modCore (16 * p + l) CoreSt.cleared)) s

/-- The retention masks in force now name the banks of partition `p` that are kept (R138). -/
def State.takeMasks (s : State) (p : Nat) : State :=
  s.modPow fun w => { w with
    offMasks := (List.range 16).foldl
      (fun (m : SMap Word) l => mset 0#64 m (16 * p + l) (s.retainMask (16 * p + l))) w.offMasks }

/-- The group of `p` begins its entry to partition-off (R414). -/
def State.enterOff (s : State) (p : Nat) : State := (s.members p).foldl (fun s q => (s.takeMasks q).pWr q 1 1) s

/-- A write to PART_POWER_REQ (R414, R416, R426). -/
def partPowerW (s : State) (p : Nat) (v : Word) : WR :=
  match v.toNat with
  | 1 =>
    let st := s.pN p 1
    if st = 1 ∨ st = 2 then .ok s
    else guardW (s.drained p && s.pN p 0xE1 == 0 && s.pN p 0x2E != 1 && !s.bistRuns p) .state (.ok (s.enterOff p))
  | 2 => .ok (s.wakeGroup p)
  | _ => .error .range

/-- PART_POWER_OFF (R414). -/
def partPowerOffEff (via : Via) (p : Part) (value : Word) (s : State) : State := s.partWrite via p 0 (partPowerW s p value)

/-- PART_POWER_ON (R416). -/
def partPowerOnEff (via : Via) (p : Part) (value : Word) (s : State) : State := s.partWrite via p 0 (partPowerW s p value)

/-- PARTITION_OFF_ENTRY_DONE (R414): the group's members are off together. -/
def partitionOffEntryDoneEff (p : Part) (s : State) : State :=
  if s.rdN (pwKey 7) ≠ 0 then s
  else (s.members p).foldl (fun s q => if s.pN q 1 = 1 then (s.losePart q).pWr q 1 2 else s) s

/-- WAKE_DEMAND (R416). -/
def wakeDemandEff (t : WakeTarget) (s : State) : State :=
  if s.rdN (pwKey 7) ≠ 0 then s
  else
    match t with
    | .cluster p =>
      let c := s.cluster p
      if c.asleep && !c.waking then (s.modCluster p fun c => { c with waking := true }).pCount p 7 1 else s
    | .channel n =>
      if s.channelSleeps n && !s.pow.wakingCh.contains n.val then s.modPow fun w => { w with wakingCh := n.val :: w.wakingCh }
      else s
    | .group p => s.wakeGroup p

/-- WAKE_DONE (R416). -/
def wakeDoneEff (t : WakeTarget) (s : State) : State :=
  if s.rdN (pwKey 7) ≠ 0 then s
  else
    match t with
    | .cluster p =>
      if (s.cluster p).waking then s.modCluster p fun c => { c with asleep := false, waking := false } else s
    | .channel n =>
      if s.pow.wakingCh.contains n.val then
        s.modPow fun w => { w with wakingCh := w.wakingCh.erase n.val, awake := n.val :: w.awake }
      else s
    | .group p => (s.members p).foldl (fun s q => if s.pN q 1 = 3 then s.partAwake q else s) s

/-- CHANNEL_SELF_REFRESH_RETURN (R416). -/
def channelSelfRefreshReturnEff (n : Fin 384) (s : State) : State :=
  s.modPow fun w => { w with awake := w.awake.filter fun m => m != n.val }

/-- CLUSTER_SLEEP_EXPIRY (R413). -/
def clusterSleepExpiryEff (p : Part) (s : State) : State :=
  let limit := s.pN p 4
  if limit ≠ 0 ∧ limit ≤ mget 0 s.pow.noWork p ∧ s.clusterAwake p = true then
    s.modCluster p fun c => { c with asleep := true }
  else s

/-- AUTO_OFF_EXPIRY (R415). -/
def autoOffExpiryEff (p : Part) (s : State) : State :=
  let limit := s.pN p 2
  let lead := s.lead p
  let soon := s.slots.any fun kv =>
    kv.1 / 256 == lead && kv.2.state == .armed && decide (kv.2.startBeat ≤ s.beatIx + s.pN p 3 + 977)
  if limit ≠ 0 ∧ limit ≤ mget 0 s.pow.drained lead ∧ s.drained p = true ∧ soon = false ∧ s.groupRuns p = true ∧
      s.bistRuns p = false ∧ s.rdN (pwKey 7) = 0 then s.enterOff p
  else s

/-- PREWAKE (R415): of an armed slot of the group's lead. -/
def prewakeEff (p : Part) (n : Fin 256) (s : State) : State :=
  let lead := s.lead p
  let x := s.slot lead n
  if x.state = .armed ∧ x.prewoken = false ∧ x.startBeat ≤ s.beatIx + s.pN p 3 ∧ (s.pN p 1 = 1 ∨ s.pN p 1 = 2) ∧
      s.rdN (pwKey 7) = 0 then
    (s.setSlot lead n { x with prewoken := true }).wakeGroup p
  else s

/-! ## The clock of a cluster (R407 to R412) -/

/-- CAP_MHZ and ALLOWED of the power loop (R410). -/
def State.capMhz (s : State) : Nat := field (s.rd (pwKey 8)) 15 4

/-- ALLOWED of the power loop. -/
def State.capAllowed (s : State) : Nat := field (s.rd (pwKey 8)) 20 16

/-- CAP_STATE with a cap frequency, slots and bounds; ACTIVE follows (R423). -/
def capWord (mhz allowed : Nat) (cut current power : Bool) : Nat :=
  allowed * 65536 + mhz * 16 + b2n cut * 8 + b2n current * 4 + b2n power * 2 + b2n (decide (mhz < 1350) || decide (allowed < 16))

/-- CAP_STATE as it reads: between 36 V and 38 V at most 8 slots are allowed (R405). -/
def State.capState (s : State) : Nat :=
  let v := s.rd (pwKey 8)
  let allowed := if s.pow.uvGate then min 8 s.capAllowed else s.capAllowed
  capWord s.capMhz allowed (bit v 3) (bit v 2) (bit v 1)

/-- The frequency that a cluster is to run at: the lowest of its requests (R26, R412). -/
def State.clockTarget (s : State) (p : Nat) : Nat :=
  let c := s.cluster p
  max 800 (min (min c.avfsMhz s.capMhz) c.thMhz)

/-- Issue slots of 16 that a cluster may use: fewer than 16 is issue gating (R26, R410, R412). -/
def State.slotsAllowed (s : State) (p : Nat) : Nat :=
  min (if s.pow.uvGate then min 8 s.capAllowed else s.capAllowed) (s.cluster p).thAllowed

/-- CLUSTER_LIMIT as it reads (R412, R425). -/
def State.clusterLimit (s : State) (p : Nat) : Nat :=
  let c := s.cluster p
  let slots := s.slotsAllowed p
  let low := min (min c.avfsMhz s.capMhz) c.thMhz
  let by_ :=
    if s.pN p 1 = 2 then 4
    else if c.asleep then 3
    else if c.avfsMhz = low then 0
    else if s.capMhz = low then 1
    else 2
  (slots - 1) * 16 + by_

/-- The input power limit in force, in milliwatts: 95 % of POWER_LIMIT without a valid calibration set, and 75 % while the
regulators are hot (R404, R410, R421). -/
def State.powerLimit (s : State) : Nat :=
  let l := s.rdN (pwKey 1) * 1000
  let l := if s.uncalibrated then l * 95 / 100 else l
  if s.pow.regHot then l * 75 / 100 else l

/-- One step of the loop down: the frequency, then issue slots (R410). -/
def capDown (mhz allowed : Nat) : Nat × Nat := if 800 < mhz then (max 800 (mhz - 25), allowed) else (mhz, max 4 (allowed - 1))

/-- One step of the loop up: the slots that it had taken, then the frequency (R410; log entry 65). -/
def capUp (mhz allowed : Nat) : Nat × Nat := if allowed < 16 then (mhz, allowed + 1) else (min 1350 (mhz + 25), allowed)

/-- POWER_CAP_SAMPLE (R405, R410, R423): one sample a microsecond; a step down waits for 10 of them and a step up for
100. -/
def powerCapSampleEff (m : PowerSample) (s : State) : State :=
  if s.pow.mode ≠ .on then s
  else
    let limit := s.powerLimit
    let hot := decide (limit < m.avgMw)
    let hotI := decide (limit < m.currentMa * 40)
    let v := s.rd (pwKey 8)
    let mhz := s.capMhz
    let allowed := if bit v 3 && decide (m.powerMw * 4 ≤ limit * 5) then s.pow.preCut else s.capAllowed
    let cut := bit v 3 && !decide (m.powerMw * 4 ≤ limit * 5)
    let wait := s.pow.capWait
    let ((mhz', allowed'), wait') :=
      if hot || hotI then (if wait % 10 = 0 then (capDown mhz allowed, 9) else ((mhz, allowed), wait % 10 - 1))
      else if m.marginHeld then (if wait = 0 then (capUp mhz allowed, 99) else ((mhz, allowed), wait - 1))
      else ((mhz, allowed), wait - 1)
    let active := decide (mhz' < 1350) || decide (allowed' < 16)
    let current := if hot || hotI then hotI else bit v 2 && active
    let power := if hot || hotI then hot else bit v 1 && active
    let entered := active && !bit v 0
    let frac := s.pow.energyFrac + m.powerMw
    let (k, s) := s.fresh
    let s := s.modPow fun w => { w with
      capWait := wait', energyFrac := frac % 1000000, uvGate := w.uvGate && !m.above38 }
    let s := (s.wrN (pwKey 8) (capWord mhz' allowed' cut current power)).count (pwKey 5) (frac / 1000000)
    let s := ((s.wr (pwKey 4) (milliF32 m.avgMw)).wrFree (pwKey 2) (Config.freeWord k 2 &&& 0xFFFFFFFF#64)).wrFree (pwKey 3)
      (Config.freeWord k 3 &&& 0xFFFFFFFF#64)
    if entered then s.count (pwKey 9) 1 else s

/-- A fast cut (R405, R410): 8 issue slots in 16 at once. -/
def State.applyCut (s : State) : State :=
  let v := s.rd (pwKey 8)
  let s := if bit v 3 then s else s.modPow fun w => { w with preCut := s.capAllowed }
  (s.wrN (pwKey 8) (capWord s.capMhz (min 8 s.capAllowed) true (bit v 2) (bit v 1))).count (pwKey 9) 1

/-- FAST_CUT (R410). -/
def fastCutEff (s : State) : State := if s.pow.mode = .on then s.applyCut else s

/-- AVFS_TRIM (R409): the rail within 0.60 V to 0.90 V, the request within 0.80 GHz to 1.35 GHz, at most 0.9 GHz without a
valid calibration set. -/
def avfsTrimEff (p : Part) (mv : Nat) (requestMhz : Nat) (s : State) : State :=
  if s.pow.mode ≠ .on ∨ s.rdN (pwKey 7) ≠ 0 then s
  else
    let top := if s.uncalibrated then 900 else 1350
    let mhz := max 800 (min top requestMhz) / 25 * 25
    (s.wrN (ckKey (0x20 + p)) (max 600 (min 900 mv))).modCluster p fun c => { c with avfsMhz := mhz }

/-- CLUSTER_CLOCK_CHANGE (R407, R412): one step of 25 MHz toward the lowest request. -/
def clusterClockChangeEff (p : Part) (s : State) : State :=
  let now := s.rdN (ckKey (0x10 + p))
  let goal := s.clockTarget p
  if s.pow.mode ≠ .on ∨ s.pN p 1 = 2 then s
  else if now < goal then s.wrN (ckKey (0x10 + p)) (min goal (now + 25))
  else if goal < now then s.wrN (ckKey (0x10 + p)) (max goal (now - 25))
  else s

/-! ## Temperature (R411, R421, R422) -/

/-- A limit of R421 in thousandths of a degree: 5 °C lower without a valid calibration set. -/
def State.tempLimit (s : State) (c : Nat) : Int := ((c : Nat) : Int) * 1000 - (if s.uncalibrated then 5000 else 0)

/-- THERMAL_STATUS from what is throttled (R424). -/
def State.thermalFlags (s : State) : State :=
  let hot (p : Nat) : Bool := decide ((s.cluster p).thMhz < 1350) || decide ((s.cluster p).thAllowed < 16)
  let mask := (List.range 16).foldl (fun a p => a + b2n (hot p) * 2 ^ p) 0
  let anyStack := s.pow.stackHot.any fun kv => kv.2
  let v := s.rdN (thKey 5)
  s.wrN (thKey 5) (mask * 65536 + b2n s.uncalibrated * 8 + nfield v 2 2 * 4 + b2n anyStack * 2 + b2n (decide (mask ≠ 0)))

/-- With each reading of its sensor a stack reports the errors that its own scrub found and the refresh management commands
it was sent since the last, by free amounts (R145, R154, log entry 67). -/
def State.stackReports (s : State) (n : Nat) : State :=
  let (k, s) := s.fresh
  let ecs := objKey (0x2810 + n) 5
  let rfm := objKey (0x2810 + n) 6
  ((s.shadowOf ecs (Config.freeWord k 0).toNat).wrFree ecs
    (BitVec.ofNat 64 (min (s.rdN ecs + (Config.freeWord k 0).toNat) (2 ^ 32 - 1)))).wrFree rfm (s.rd rfm + Config.freeWord k 1)

/-- A cluster's thermal request falls by one step: the frequency, then issue slots (R411). -/
def ClusterClk.cooled (c : ClusterClk) : ClusterClk :=
  if 800 < c.thMhz then { c with thMhz := max 800 (c.thMhz - 25), coolTicks := 0 }
  else { c with thAllowed := max 4 (c.thAllowed - 1), coolTicks := 0 }

/-- It rises by one step: the slots that were taken, then the frequency (R411; log entry 65). -/
def ClusterClk.relaxed (c : ClusterClk) : ClusterClk :=
  if c.thAllowed < 16 then { c with thAllowed := c.thAllowed + 1, coolTicks := 0 }
  else { c with thMhz := min 1350 (c.thMhz + 25), coolTicks := 0 }

/-- THERMAL_THROTTLE_TICK (R411, R421): of one sensor, every 10 µs; a cluster's request falls with each reading and rises with
every hundredth. -/
def thermalThrottleTickEff (t : ThermalSensor) (s : State) : State :=
  match t with
  | .cluster p milliC =>
    let limit := s.tempLimit (s.rdN (thKey 2))
    let c := s.cluster p
    let was := decide (c.thMhz < 1350) || decide (c.thAllowed < 16)
    let c' :=
      if limit ≤ milliC then c.cooled
      else if milliC < limit - 3000 ∧ was = true then
        (if c.coolTicks < 99 then { c with coolTicks := c.coolTicks + 1 } else c.relaxed)
      else c
    let now := decide (c'.thMhz < 1350) || decide (c'.thAllowed < 16)
    let s := ((s.wr (thKey (0x10 + p)) (milliF32 milliC)).modCluster p fun _ => c').thermalFlags
    if now && !was then s.count (thKey 6) 1 else s
  | .stack n milliC =>
    let warm := decide (s.tempLimit 85 ≤ milliC)
    let hot := decide (s.tempLimit 95 ≤ milliC)
    let was := mget false s.pow.stackWarm n.val
    let s := s.modPow fun w => { w with
      stackWarm := mset false w.stackWarm n.val warm, stackHot := mset false w.stackHot n.val hot }
    let s := (s.wr (objKey (0x2810 + n) 1) (milliF32 milliC)).thermalFlags.stackReports n
    if warm && !was then s.count (thKey 6) 1 else s
  | .regulator milliC =>
    (s.wr (thKey 3) (milliF32 milliC)).modPow fun w => { w with regHot := decide (s.tempLimit 115 ≤ milliC) }
  | .die milliC => s.wr (thKey 1) (milliF32 milliC)
  | .retention milliC => s.modPow fun w => { w with retTemp := some milliC }

/-- STACK_REFRESH as it reads (R154, R411, R416). -/
def State.stackRefresh (s : State) (n : Nat) : Nat :=
  if (List.range 32).all fun i => s.channelSleeps (32 * n + i) then 2
  else b2n (mget false s.pow.stackWarm n)

/-- THERMAL_TRIP (R422): every rail but the always-on rail goes off. -/
def thermalTripEff (s : State) : State :=
  if s.pow.mode ≠ .on then s
  else
    let held := s.deviceReset
    let s := (held.modPow fun w => { w with mode := .tripped }).wrN (objKey 0x1000 0x31) 0
    let s := (s.wrN (thKey 5) (setField (s.rdN (thKey 5)) 2 2 1)).count32Sat (thKey 7) 1
    s.healthEvent.setReadiness 8

/-- THERMAL_HOLD_EXIT (R422, R450): every sensor reads 85 °C or less. -/
def thermalHoldExitEff (s : State) : State :=
  if s.pow.mode = .tripped then
    ((s.modPow fun w => { w with mode := .on }).count32Sat (rKey 3) 1).setReadiness 0
  else s

/-! ## The input and the references (R405, R408) -/

/-- What the flash and the fuses hold: it outlives a loss of power (R344, R386, R404, R424, R434, R437, R442). -/
def flashKept (key : Nat) : Bool :=
  let index := key / 256
  let sub := key % 256
  (index == 0x1000 && (sub == 1 || sub == 2 || sub == 4 || sub == 5)) || key == objKey 0x2F40 4 || key == thKey 7 ||
  (index == 0x2900 && (sub == 2 || sub == 3 || sub == 0x0C)) ||
  (decide (0x3000 ≤ index) && decide (index < 0x4000) && index % 256 == 0 && sub == 0x2B)

/-- Every rail is off (R405): only the on-package flash keeps what it holds. A commit or an update that was writing leaves
its place invalid (R403, R432). -/
def State.powerOff (s : State) : State :=
  let committing := s.mgmt.calState == .committing
  let writing := s.rdN (objKey 0x2900 9) % 4 == 1
  let active := s.rdN (objKey 0x2900 2) % 2
  let b0 := if writing && active == 1 then { s.sec.bank0 with valid := false } else s.sec.bank0
  let b1 := if writing && active == 0 then { s.sec.bank1 with valid := false } else s.sec.bank1
  { State.reset with
    pending := s.pending, freeCtr := s.freeCtr, out := s.out,
    obj := s.obj.filter fun kv => flashKept kv.1,
    mgmt := { MgmtSt.reset with
      flash := s.mgmt.flash, cal := s.mgmt.cal, calBroken := s.mgmt.calBroken || committing, congaIn := s.mgmt.congaIn },
    sec := { SecSt.reset with bank0 := b0, bank1 := b1, nextBank := s.sec.nextBank },
    pow := { PowSt.reset with mode := .off } }

/-- A bit of INPUT_FAULT. -/
def State.inputFault (s : State) (b : Nat) : State := s.wrN (pwKey 0x0D) (setField (s.rdN (pwKey 0x0D)) b b 1)

/-- INPUT_UNDERVOLTAGE (R405): an input below 40 V also releases PWR_CYCLE_REQ (R344). -/
def inputUndervoltageEff (milliV : Nat) (us : Nat) (s : State) : State :=
  if s.pow.mode = .off ∨ 40000 ≤ milliV then s
  else
  let s := s.cycleRequest false
  if 36000 ≤ milliV then
    let s := s.inputFault 0
    if milliV < 38000 then s.modPow fun w => { w with uvGate := true } else s
  else if us < 100 then (s.inputFault 0).applyCut
  else s.powerOff

/-- INPUT_OVERVOLTAGE (R405). -/
def inputOvervoltageEff (milliV : Nat) (us : Nat) (s : State) : State :=
  if s.pow.mode = .off ∨ milliV ≤ 60000 then s
  else if milliV ≤ 64000 ∨ us < 10 then s.inputFault 1
  else s.powerOff

/-- BEAT_ERROR_BOUND as it reads (R227, R230, R408): in HOLDOVER it grows with time. -/
def State.beatErrorBound (s : State) : Nat :=
  if s.beatState = bsHoldover then
    let held := s.beat - s.fab.holdSince
    s.fab.holdBound + (if bit (s.rd (ckKey 3)) 0 then (held + 1999999) / 2000000 else (20 * held + 999999) / 1000000)
  else s.rdN (fabKey 0x18)

/-- The growth of the bound starts afresh from its present value. -/
def State.rebase (s : State) : State :=
  let b := s.beatErrorBound
  s.modFab fun f => { f with holdBound := b, holdSince := s.beat }

/-- SERDES_REFERENCE_LOSS (R408): every port that had lock loses it. -/
def serdesReferenceLossEff (us : Nat) (s : State) : State :=
  if us ≤ 10 ∨ bit (s.rd (ckKey 3)) 0 = false ∨ s.pow.mode ≠ .on then s
  else
    let s := s.rebase.wrN (ckKey 3) (setField (s.rdN (ckKey 3)) 0 0 0)
    (List.range 32).foldl (fun s n =>
      match (s.port n).st with
      | .disabled | .detect | .failed => s
      | _ => s.fatalPort n 3) s

/-- SERDES_REFERENCE_RETURN (R408). -/
def serdesReferenceReturnEff (s : State) : State := s.rebase.wrN (ckKey 3) (setField (s.rdN (ckKey 3)) 0 0 1)

/-- PCIE_REFERENCE_CHANGE (R408): the link goes down, or trains again to `link`. -/
def pcieReferenceChangeEff (present : Bool) (link : PcieLink) (s : State) : State :=
  (s.wrN (ckKey 3) (setField (s.rdN (ckKey 3)) 1 1 (b2n present))).trainPcie link

/-- POWER_COUNTER_CLEAR (R423). -/
def powerCounterClearEff (via : Via) (value : Word) (s : State) : State :=
  s.objWrite via 0x2000 0x0E (clearW s value (s.clearObjs 0x2000 9 1))

/-! ## Retention (R417 to R420) -/

/-- KIND of BRINGUP_STATUS as a bring-up begins (R449): HOST_BOOT stands, the other fields start at their reset values. -/
def State.beginBringup (s : State) (kind : Nat) : State :=
  let k := objKey 0x1000 0x32
  s.wrN k (kind * 2 ^ 28 + nfield (s.rdN k) 0 0)

/-- Retention begins (R417): every partition goes off, every port drains and the Beat stops. -/
def State.enterRetention (s : State) (estimate : Nat) : State :=
  let s := (List.range 16).foldl (fun s p => (s.takeMasks p).pWr p 1 1) s
  let s := (List.range 32).foldl (fun s n => if (s.port n).st = .active then s.toPState n .draining else s) s
  let s := ((s.wrN (pwKey 7) 1).wr (pwKey 0x0A) (microF32 estimate)).modPow fun w => { w with retWarnAt := none }
  s.setReadiness 7

/-- Retention ends (R418): partitions as after a partition reset, with the selected banks kept; job slots UNASSIGNED; the
epoch table empty; the ports about to train; Tango about to pair. -/
def State.leaveRetention (s : State) : State :=
  let s := (List.range 16).foldl (fun s p =>
    let kept := s.mem
    let s := { s.clearTables p (fun _ => false) with mem := kept }
    (s.partAwake p).dropPartObjs p fun sub => !partKept sub) s
  let obj := s.obj.filter fun kv => !(decide (0x2600 ≤ kv.1 / 256) && decide (kv.1 / 256 < 0x2690))
  let late := s.pow.retainLate.foldl
    (fun (m : SMap Word) kv => match kv.2 with
      | some w => mset 0#64 m kv.1 w
      | none => m) s.retain
  let f := s.fab
  let t := s.tango
  let s := { s with
    obj := obj, coll := [], quiet := [], retain := late,
    pow := { s.pow with retainLate := [], clusters := [], wakingCh := [] },
    fab := { FabricSt.reset with epochSet := f.epochSet, pps := false },
    tango := { TangoSt.reset with
      bank0 := t.bank0, bank1 := t.bank1, pair := t.pair, frozen := t.frozen, list := t.list, inForce := t.inForce } }
  let s := (s.setBeat bsFree 0 0xFF s.ownAddr).toTango tsUnpaired
  (List.range 32).foldl (fun s n => if s.role n = 2 then s else s.toPState n .detect) s

/-- The estimate of R419 in microamperes, rounded down: 3.5 A + N × 22 mA × 2^((T − 45) / 20) at a temperature in thousandths
of a degree. -/
def State.retMicroAmps (s : State) (milliC : Int) : Nat :=
  let t := (milliC - 45000) * (fixOne : Int) / 20000
  let (m, e) := exp2Fix t
  3500000 + fixOf (s.retainTotal * 22000 * m) (e - fixBits) / fixOne

/-- A write to DEVICE_POWER_REQ (R417, R418, R420); `estimate` is that of R419 at the present temperature, in microamperes. -/
def devicePowerW (s : State) (via : Via) (v : Word) (estimate : Nat) : WR :=
  let st := s.rdN (pwKey 7)
  let idle := (List.range 16).all fun p =>
    s.drained p && s.pN p 0xEB != 1 && s.pN p 0xEB != 2 && (s.pN p 0xE1 == 0 || s.pN p 0xE1 == 7) && s.pN p 0x2E != 1
  if viaPriv via = false then .error .access
  else
    match v.toNat with
    | 0 =>
      if st = 0 ∨ st = 3 then .ok s
      else if st = 1 then .error .state
      else if s.pow.brownedOut then .ok (s.chipReset 7 (s.deviceEntry 4 7 false false))
      else .ok ((s.leaveRetention.wrN (pwKey 7) 3).beginBringup 2)
    | 1 =>
      if st = 0 then guardW (s.jobReady && idle && decide (estimate ≤ 36000000)) .state (.ok (s.enterRetention estimate))
      else if st = 3 then .error .state
      else .ok s
    | _ => .error .range

/-- RETENTION_ENTRY (R417). `milliC` is what the hottest retention-domain sensor reads now. -/
def retentionEntryEff (via : Via) (value : Word) (milliC : Int) (s : State) : State :=
  s.objWrite via 0x2000 6 (devicePowerW s via value (s.retMicroAmps milliC))

/-- RETENTION_EXIT (R418, R420). -/
def retentionExitEff (via : Via) (value : Word) (s : State) : State := s.objWrite via 0x2000 6 (devicePowerW s via value 0)

/-- RETENTION_ENTRY_DONE (R417). -/
def retentionEntryDoneEff (s : State) : State :=
  if s.rdN (pwKey 7) ≠ 1 then s
  else
    let s := (List.range 16).foldl (fun s p => (s.losePart p).pWr p 1 2) s
    let s := (List.range 32).foldl (fun s n => s.toPState n .disabled) s
    (s.wrN (pwKey 7) 2).wr (pwKey 0x0B) (s.rd (pwKey 0x0A))

/-- RET_CURRENT_WARNING (R419): the health event at most once a minute. -/
def retCurrentWarningEff (milliA : Nat) (s : State) : State :=
  if s.rdN (pwKey 7) ≠ 2 ∨ milliA < 36000 then s
  else
    let v := milliF32 milliA
    let peak := s.rd (pwKey 0x0B)
    let s := (s.wr (pwKey 0x0A) v).wr (pwKey 0x0B) (if peak.toNat < v.toNat then v else peak)
    let due := match s.pow.retWarnAt with
      | some t => decide (t + 60 * 10 ^ 9 ≤ s.mgmt.ns)
      | none => true
    if due then (s.modPow fun w => { w with retWarnAt := some s.mgmt.ns }).healthEvent else s

/-- A partition's key generation rises by one (R437). -/
def State.newKey (s : State) (p : Nat) : State := s.count32 (pKey p 0x2B) 1

/-- BROWN_OUT (R420): the retained banks and every key are lost. -/
def brownOutEff (s : State) : State :=
  if s.rdN (pwKey 7) ≠ 2 ∨ s.pow.brownedOut = true then s
  else
    let s := (List.range 16).foldl (fun s p => (s.newKey p).zeroMem (spadBase (16 * p)) (16 * spadSize)) s
    ((s.modPow fun w => { w with brownedOut := true }).count32Sat (pwKey 0x0C) 1).healthEvent

end Sys2Proof.Machine
end

