-- ==== Sys2Proof/Machine/Calib.lean ====
section
/-! DEFINITION. The calibration set and its checks (R400, R401), straps as they are in force (R397), and firmware images
(R430). -/

namespace Sys2Proof.Machine

/-- Changing the management controller. -/
def State.modMgmt (s : State) (f : MgmtSt → MgmtSt) : State := { s with mgmt := f s.mgmt }

/-- Changing the security engine. -/
def State.modSec (s : State) (f : SecSt → SecSt) : State := { s with sec := f s.sec }

/-! ## The calibration set -/

/-- Bytes `a` to `a + n - 1` of a calibration set. -/
def calBytes (c : SMap Byte) (a n : Nat) : List Byte := (List.range n).map fun i => mget 0#8 c (a + i)

/-- The first byte of the header block. -/
def calHead : Nat := 63 * 1024

/-- ORIGIN of a set (R400). -/
def calOrigin (c : SMap Byte) : Nat := (mget 0#8 c (calHead + 6)).toNat

/-- The first check of R401 that a set fails, as REFUSE codes it: 1 MAGIC or FORMAT, 2 SERIAL, 3 DIGEST; 0 none. -/
def calCheck (c : SMap Byte) (serial : Word) : Nat :=
  if leNat (calBytes c calHead 4) ≠ 0x4C433945 ∨ leNat (calBytes c (calHead + 4) 2) ≠ 1 then 1
  else if leNat (calBytes c (calHead + 8) 8) ≠ serial.toNat then 2
  else if sha512 (calBytes c 0 calHead ++ calBytes c calHead 64) ≠ calBytes c (calHead + 64) 64 then 3
  else 0

/-- The device's serial number. -/
def State.serial (s : State) : Word := s.rd (objKey 0x1000 5)

/-- Whether the stored set is valid (R401). -/
def State.calValid (s : State) : Bool := !s.mgmt.calBroken && calCheck s.mgmt.cal s.serial == 0

/-! ## Straps (R396, R397) -/

/-- STRAP_EFFECTIVE. -/
def State.straps (s : State) : Nat :=
  let pins := s.rdN (objKey 0x1100 0x10) % 4096
  let mask := s.rdN (objKey 0x1100 0x11) % 4096
  let value := s.rdN (objKey 0x1100 0x12) % 4096
  (pins &&& (4095 ^^^ mask)) ||| (value &&& mask)

/-! ## Firmware images (R430) -/

/-- The largest and the smallest body of an image. -/
def bodyMax : Nat := 32 * 2 ^ 20

/-- Reading an image at an address: a body length outside 64 KiB to 32 MiB fails with the digest. -/
def State.readImage (s : State) (a : Nat) : ImgRead :=
  let m := s.mem
  let body := m.readLE (a + 12) 4
  let fits := decide (65536 ≤ body) && decide (body ≤ bodyMax)
  let digest := m.readBytes (a + 64) 64
  { headOk := m.readLE a 4 == 0x46573945 && m.readLE (a + 4) 2 == 1,
    bodyOk := fits && sha512 (m.readBytes (a + 4096) body) == digest,
    info := ⟨true, BitVec.ofNat 32 (m.readLE (a + 8) 4), (m.read (a + 6)).toNat, digest⟩ }

/-- FW_SVN_MIN. -/
def State.svnMin (s : State) : Nat := s.rdN (objKey 0x2900 3)

/-- The first check of R430 that an image fails, as FW_UPDATE_STATUS codes it; 0 none. -/
def State.imageFails (s : State) (r : ImgRead) (chk : ImageCheck) : Nat :=
  if r.headOk = false then 1
  else if chk.keyOk = false then 2
  else if chk.sigOk = false then 3
  else if r.bodyOk = false then 4
  else if r.info.svn < s.svnMin then 5
  else 0

/-- Whether an image in a bank boots: it is whole, what the flash holds still passes, and its SVN suffices (R430,
R434). -/
def State.bankPasses (s : State) (i : ImgInfo) (intact : Bool) : Bool := i.valid && intact && decide (s.svnMin ≤ i.svn)

end Sys2Proof.Machine
end

