-- ==== Sys2Proof/Machine/Bringup.lean ====
section
/-! DEFINITION. Power-up and bring-up, from the always-on rail to job-ready (R429, R431, R443 to R453). -/

namespace Sys2Proof.Machine

/-- Key of an identity or bring-up object. -/
def idKey (sub : Nat) : Nat := objKey 0x1000 sub

/-- Key of a security object. -/
def secKey (sub : Nat) : Nat := objKey 0x2900 sub

/-! ## Power-up (R443) -/

/-- POWER_UP (R443, R382, R392, R394): RWS objects take their saved values, the CAN node joins the bus. -/
def powerUpEff (s : State) : State :=
  if s.pow.mode ≠ .off then s
  else
    let s := loadSaved s.mgmt.flash (s.modPow fun w => { w with mode := .on })
    let fixed := s.rdN (idKey 0x11)
    let s := (s.wrN (idKey 0x10) fixed).modMgmt fun m => { m with arbSlow := s.rdN (idKey 0x12) == 1 }
    s.wrN (objKey 0x1100 1) (if fixed ≠ 0 then 3 else b2n s.mgmt.congaIn)

/-! ## A bring-up that fails (R447) -/

/-- A step of R445 has failed: READINESS reads FAILED, and the ladder goes on to rung 5. -/
def State.failBringup (s : State) (step : Nat) : State :=
  let k := idKey 0x32
  let s := (s.modSec fun x => { x with obs := none }).modHang fun h => { h with chip := none }
  ((s.wrN k (setField (s.rdN k) 27 24 step)).setReadiness 9).rung5 3 true

/-! ## Steps 4 and 5 (R445, R447) -/

/-- Step 4a's calibration load (R401, R404). -/
def State.loadCalibration (s : State) : State :=
  let ok := s.calValid
  let k := idKey 0x32
  let s := (s.modMgmt fun m => { m with calLoaded := ok, calPending := false }).wrN (ckKey 1) (b2n !ok)
  let s := (s.wrN k (setField (s.rdN k) 1 1 (b2n !ok))).thermalFlags
  if ok then s
  else (List.range 16).foldl (fun s p => s.modCluster p fun c => { c with avfsMhz := min c.avfsMhz 900 }) s

/-- Whether partition `p` owns channels on stack `n` (R16): 24 channels to a partition, 32 to a stack. -/
def ownsOn (p n : Nat) : Bool := decide (24 * p < 32 * (n + 1)) && decide (32 * n < 24 * (p + 1))

/-- Whether partition `p` passes CHECK and has all its stacks (R447). -/
def partPasses (obs : BringupObs) (p : Nat) : Bool :=
  obs.checkOk.getLsbD p && (List.range 12).all fun n => obs.stacksOk.getLsbD n || !ownsOn p n

/-- Steps 4 and 5: calibration, stacks, ports, routers and partitions. -/
def State.stepsFourFive (s : State) (obs : BringupObs) : State :=
  let s := s.loadCalibration
  let s := s.wrN (objKey 0x2800 2) obs.stacksOk.toNat
  let s := (List.range 32).foldl (fun s n => if s.role n = 2 then s else s.toPState n .detect) s
  if obs.failedStep = 4 ∨ obs.failedStep = 5 then s.failBringup obs.failedStep
  else
    let s := (List.range 16).foldl (fun s p => if partPasses obs p then s else s.pWr p 0xE1 7) s
    s.modSec fun x => { x with obs := none }

/-- Steps 4 and 5 start unless a calibration commit holds them (R403, R450). -/
def State.goOn (s : State) : State :=
  match s.sec.obs with
  | some obs => if s.readiness = 4 ∧ s.mgmt.calState ≠ .committing then s.stepsFourFive obs else s
  | none => s

/-! ## Steps 2 and 3 (R429, R431) -/

/-- The firmware starts (R429 step 5): the staging area is zeroed with the rest of the scratchpad (R431). -/
def State.startFirmware (s : State) (i : ImgInfo) : State :=
  let s := (s.modSec fun x => { x with running := some i }).wrN (secKey 1) 3
  let s := (s.wr (idKey 6) (i.version.zeroExtend 64)).zeroMem (spadBase 0) (2 * spadSize)
  (s.setReadiness 4).goOn

/-- Step 3: the image of the active bank, or of the other one; or the wait for the host (R429). -/
def State.boot (s : State) (obs : BringupObs) : State :=
  let k := secKey 2
  let active := if s.sec.nextBank then 1 - s.rdN k % 2 else s.rdN k % 2
  let s := (s.modSec fun x => { x with nextBank := false }).wrN k active
  let bank (n : Nat) : ImgInfo := if n = 0 then s.sec.bank0 else s.sec.bank1
  if bit (s.rd (objKey 0x1100 0x10)) 7 then (s.wrN (secKey 1) 1).setReadiness 2
  else if s.bankPasses (bank active) obs.activePasses then s.startFirmware (bank active)
  else if s.bankPasses (bank (1 - active)) obs.otherPasses then
    (s.wrN k (2 + (1 - active))).startFirmware (bank (1 - active))
  else (s.wrN (secKey 1) 4).setReadiness 3

/-- New keys for every partition and for Tango (R429 step 1, R437). -/
def State.newKeys (s : State) : State := ((List.range 16).foldl State.newKey s).count32 (secKey 0x0C) 1

/-- What the straps set at a reset release (R397, R399, R405): the power limit, the tempo-master candidate, the Tango role,
and at power-up the CAN data rate. -/
def State.sampleStraps (s : State) (pins : BitVec 12) (powerUp : Bool) : State :=
  let s := s.wrN (objKey 0x1100 0x10) pins.toNat
  let e := s.straps
  let bad := nfield e 9 8 == 3
  let limit := match nfield e 1 0 with
    | 0 => 2400
    | 1 => 2000
    | 2 => 1600
    | _ => 1200
  let s := ((s.wrN (pwKey 1) limit).wrN (fabKey 0x15) (nfield e 2 2)).wrN (objKey 0x2700 1) (nfield e 10 10)
  let s := s.wrN (objKey 0x1100 0x14) (b2n bad)
  let s := if powerUp then s.wrN (idKey 0x13) (if bad then 0 else nfield e 9 8) else s
  if bad = false then s
  else if s.rdN (idKey 0x10) = 0 then s.modMgmt fun m => { m with strapEv := true }
  else s.mgmtEvent 6

/-- RESET_RELEASE (R444, R445, R451). -/
def resetReleaseEff (obs : BringupObs) (s : State) : State :=
  if s.pow.mode ≠ .on ∨ s.readiness ≠ 0 then s
  else
    let powerUp := s.rdN (rKey 3) == 0
    let s := ({ s with beat := 0 }.setBeat bsFree 0 0xFF s.ownAddr).beginBringup (b2n !powerUp)
    let s := s.sampleStraps obs.straps powerUp
    let s := s.wrN (idKey 0x32) (setField (s.rdN (idKey 0x32)) 0 0 (b2n (obs.straps.getLsbD 7)))
    let s := ((s.modSec fun x => { x with obs := some obs }).setReadiness 1).trainPcie obs.link
    if obs.failedStep = 2 then s.failBringup 2
    else
      let s := s.newKeys
      if obs.failedStep = 3 then s.failBringup 3 else s.boot obs

/-- A write to FW_LOAD (R431, R442): only while the boot ROM waits for an image. -/
def fwLoadW (s : State) (via : Via) (v : Word) (chk : ImageCheck) : WR :=
  if via ≠ .pf then .error .state
  else if bit v 0 = false then .ok s
  else if s.readiness ≠ 2 ∧ s.readiness ≠ 3 then .error .state
  else
    let r := s.readImage (spadBase 0)
    if s.imageFails r chk = 0 then .ok (s.startFirmware r.info) else .ok (s.wrN (secKey 1) 2)

/-- FW_LOAD (R431). -/
def fwLoadEff (via : Via) (value : Word) (chk : ImageCheck) (s : State) : State :=
  s.objWrite via 0x2900 0x0A (fwLoadW s via value chk)

/-! ## Job-ready (R446, R449, R452) -/

/-- The ports that are ACTIVE. -/
def State.activeMask (s : State) : Nat :=
  (List.range 32).foldl (fun a n => a + b2n (decide ((s.port n).st = .active)) * 2 ^ n) 0

/-- READINESS at job-ready, with the objects that go with it. -/
def State.becomeReady (s : State) (microseconds : Nat) : State :=
  let ready (p : Nat) : Bool := s.pN p 0xE1 != 7
  let mask := (List.range 16).foldl (fun a p => a + b2n (ready p) * 2 ^ p) 0
  let s := ((s.wrN (idKey 0x31) mask).wrN (idKey 0x33) (min microseconds (2 ^ 32 - 1))).wrN (idKey 0x34) s.activeMask
  s.setReadiness (if mask = 65535 then 5 else 6)

/-- The self-tests of BOOT_BIST on every ready partition (R452). -/
def State.bootBist (s : State) : State :=
  match s.rdN (idKey 0x35) with
  | 0 => s
  | b => (List.range 16).foldl (fun s p => if s.pN p 0xE1 = 7 then s else s.bistStart p (b == 2) true) s

/-- JOB_READY (R418, R422, R446, R452): the end of a bring-up, or of a retention exit. -/
def jobReadyEff (microseconds : Nat) (s : State) : State :=
  if s.pow.mode ≠ .on then s
  else if s.readiness = 4 ∧ s.sec.obs = none then
    let s := (s.wrN (thKey 5) (setField (s.rdN (thKey 5)) 2 2 0)).modHang fun h => { h with chip := none }
    (s.becomeReady microseconds).bootBist
  else if s.readiness = 7 ∧ s.rdN (pwKey 7) = 3 then (s.wrN (pwKey 7) 0).becomeReady microseconds
  else s

end Sys2Proof.Machine
end

