-- ==== Sys2Proof/Machine/Security.lean ====
section
/-! DEFINITION. Firmware update, attestation and reclaim (R432 to R442). -/

namespace Sys2Proof.Machine

/-! ## Firmware update (R432, R434) -/

/-- The bank that is not active takes an image. -/
def State.setInactive (s : State) (i : ImgInfo) : State :=
  if s.rdN (secKey 2) % 2 = 0 then s.modSec fun x => { x with bank1 := i } else s.modSec fun x => { x with bank0 := i }

/-- A write to FW_UPDATE_ADDR (R442). -/
def fwUpdateAddrW (s : State) (via : Via) (v : Word) : WR :=
  let a := v.toNat
  if via ≠ .pf then .error .state
  else guardW (a % 4096 == 0 && decide (a < hbmEnd) && !s.inReserve a) .range (.ok (s.wr (secKey 7) v))

/-- A write to FW_UPDATE_CONTROL (R432): the image is copied, and the inactive bank is no longer what it was. -/
def fwUpdateW (s : State) (via : Via) (v : Word) : WR :=
  if via ≠ .pf then .error .state
  else if bit v 0 = false then .ok s
  else if s.jobReady = false ∨ s.rdN (secKey 9) % 4 = 1 then .error .state
  else
    let r := s.readImage (s.rdN (secKey 7))
    .ok ((s.modSec fun x => { x with update := some r, nextBank := false }).wrN (secKey 9) 1)

/-- FW_UPDATE_START (R432). -/
def fwUpdateStartEff (via : Via) (value : Word) (s : State) : State := s.objWrite via 0x2900 8 (fwUpdateW s via value)

/-- FW_UPDATE_DONE (R432): DONE, or FAILED with the first failed check; a failed flash write leaves the bank invalid. -/
def fwUpdateDoneEff (chk : ImageCheck) (flashOk : Bool) (s : State) : State :=
  match s.sec.update with
  | none => s
  | some r =>
    let bad := s.imageFails r chk
    let s := s.modSec fun x => { x with update := none }
    if bad ≠ 0 then s.wrN (secKey 9) (bad * 2 ^ 24 + 3)
    else if flashOk = false then (s.setInactive { r.info with valid := false }).wrN (secKey 9) (6 * 2 ^ 24 + 3)
    else ((s.setInactive r.info).modSec fun x => { x with nextBank := true }).wrN (secKey 9) 2

/-- A write to SVN_ADVANCE (R434). -/
def svnAdvanceW (s : State) (via : Via) (v : Word) : WR :=
  if viaPriv via = false then .error .access
  else if bit v 0 = false then .ok s
  else if field v 31 16 ≠ 0x3C96 then .error .range
  else
    match s.sec.running with
    | none => .error .state
    | some i => .ok (s.wrN (secKey 3) (max s.svnMin i.svn))

/-- SVN_ADVANCE (R434). -/
def svnAdvanceEff (via : Via) (value : Word) (s : State) : State := s.objWrite via 0x2900 0x0B (svnAdvanceW s via value)

/-! ## Attestation (R436) -/

/-- Whether a report may stand at an address (R436). -/
def State.reportPlace (s : State) (p a : Nat) : Bool :=
  a % 1024 == 0 && decide (hbmBase p ≤ a) && decide (a + 1024 ≤ s.reserveBase p)

/-- The request of a partition that the security engine has not answered. -/
def State.attestOf (s : State) (p : Nat) : Option AttReq := s.sec.attest.find? fun r => r.part == p

/-- A write to ATTEST_CONTROL (R436). -/
def attestW (s : State) (p : Nat) (v : Word) : WR :=
  let st := s.pN p 0x2A
  let a := s.pN p 0x28
  if bit v 0 = false then .ok s
  else if st % 4 = 1 then .error .state
  else if s.reportPlace p a = false then .ok (s.pWr p 0x2A (BitVec.ofNat 64 (setField st 1 0 3)))
  else
    let r : AttReq :=
      ⟨p, a, s.lead p, s.beat, (List.range 8).map fun i => s.pRd p (0x20 + i), s.pRd p 0x2C⟩
    .ok ((s.modSec fun x => { x with attest := x.attest ++ [r] }).pWr p 0x2A (BitVec.ofNat 64 (setField st 1 0 1)))

/-- ATTEST_REQUEST (R436). -/
def attestRequestEff (via : Via) (p : Part) (value : Word) (s : State) : State := s.partWrite via p 0x29 (attestW s p value)

/-- FLAGS of a report (R436). -/
def State.reportFlags (s : State) (p : Nat) : Nat :=
  b2n s.calValid + 2 * b2n (bit (s.rd (secKey 2)) 1) + 4 * b2n (bit (s.rd (idKey 0x32)) 0) +
    8 * b2n ((ctxIds (s.lead p)).any fun k => (s.ctx k).state != .free)

/-- The text of a report that its signature covers: bytes 0 to 511 (R436). -/
def State.reportText (s : State) (r : AttReq) : List Byte :=
  let i := s.sec.running.getD ⟨false, 0#32, 0, []⟩
  leBytes 4 0x41543945 ++ leBytes 1 1 ++ leBytes 1 r.part ++ leBytes 1 r.lead ++ leBytes 1 (s.reportFlags r.part) ++
  leBytes 8 s.serial.toNat ++ leBytes 8 r.beat ++ leBytes 4 (s.pN r.part 0x2B) ++ leBytes 4 i.version.toNat ++
  ((List.range 64).map fun k => i.digest.getD k 0#8) ++ r.nonce.flatMap (fun w => leBytes 8 w.toNat) ++
  leBytes 8 r.tag.toNat ++ leBytes 8 (s.pN r.part 0x30) ++ leBytes 8 s.straps ++ List.replicate 328 0#8

/-- ATTEST_REPORT_DONE (R436, R440): requests are served in arrival order, and one that meets a reclaim waits for it. -/
def attestReportDoneEff (p : Part) (signature : List Byte) (s : State) : State :=
  match s.sec.attest with
  | [] => s
  | r :: rest =>
    if r.part ≠ p.val ∨ s.pN p 0x2E = 1 then s
    else
      let st := s.pN p 0x2A
      let text := s.reportText r ++ (List.range 512).map fun k => signature.getD k 0#8
      let s := (s.writeBytes r.addr text).modSec fun x => { x with attest := rest }
      s.pWr p 0x2A (BitVec.ofNat 64 ((nfield st 31 16 + 1) % 65536 * 65536 + 2))

/-! ## Reclaim (R437 to R440) -/

/-- Whether partition `q` may be reclaimed (R438). -/
def State.reclaimable (s : State) (q : Nat) : Bool :=
  ((ctxIds q).all fun k => (s.ctx k).state == .free || (s.ctx k).state == .retired) &&
  ((List.range 256).all fun n => (s.slot q n).state == .empty || (s.slot q n).state == .done) &&
  ((List.range 32).all fun c => (s.chan (q * 32 + c)).state == .idle) &&
  ((s.loader q).st == .idle || (s.loader q).st == .cancelled || (s.loader q).st == .failed ||
    (s.loader q).st == .committed) &&
  bit (s.pRd q 0xCA) 0 == false &&
  ((List.range 128).all fun j => !(s.holder j == q && decide (2 ≤ s.jsState j))) &&
  (s.pN q 0xE1 == 0 || s.pN q 0xE1 == 7) && (mget none s.hang.bist q).isNone && s.pN q 0x2E != 1 &&
  (s.pN q 1 == 0 || s.pN q 1 == 2)

/-- Steps 1 and 2 of R439: a new key, after which the partition's HBM outside its reserve reads as R151 states. -/
def State.newHbmKey (s : State) (q : Nat) : State := (s.newKey q).freeMem (hbmBase q) (s.reserveBase q - hbmBase q)

/-- A write to RECLAIM_CONTROL (R438, R439). -/
def reclaimW (s : State) (via : Via) (p : Nat) (v : Word) : WR :=
  if viaPriv via = false then .error .access
  else if bit v 0 = false then .ok s
  else if field v 31 16 ≠ 0x7E1A then .error .range
  else if s.jobReady = false ∨ ((s.members p).all s.reclaimable) = false then .error .state
  else .ok ((s.members p).foldl (fun s q => (s.newHbmKey q).pWr q 0x2E 1) (s.wakeGroup p))

/-- RECLAIM (R438). -/
def reclaimEff (via : Via) (p : Part) (value : Word) (s : State) : State :=
  s.partWrite via p 0x2D (reclaimW s via p value)

/-- The objects that a reclaim sets to their reset values beside those of a partition reset (R439 step 4, R442). -/
def reclaimCleared (sub : Nat) : Bool :=
  (decide (0x20 ≤ sub) && decide (sub ≤ 0x28)) || sub == 0x2C || sub == 0xE7 || sub == 0xE8 || sub == 0x90

/-- Steps 3 to 5 of R439 on one member. -/
def State.reclaimMember (s : State) (q : Nat) : State :=
  let s := (s.partAwake q).tangoPartReset q false
  let s := s.clearTables q fun c => c.state == .retired
  let s := s.dropPartObjs q fun sub => !partKept sub || reclaimCleared sub
  let s := { s with
    retain := mclear s.retain (16 * q) (16 * q + 16), pow := { s.pow with retainLate := mclear s.pow.retainLate (16 * q) (16 * q + 16) } }
  let s := (s.pWr q 0x2E 2).pWr q 0x30 (BitVec.ofNat 64 s.beat)
  (s.count32Sat (pKey q 0x2F) 1).event q 5

/-- The partition resets that have waited for a reclaim of the group start (R440). -/
def startWaiting : List WaitReset → State → State
  | [], s => s
  | w :: ws, s => startWaiting ws (s.startReset w.part w.sample (s.partEntry w.part w.cause false))

/-- RECLAIM_DONE (R439, R440). -/
def reclaimDoneEff (p : Part) (s : State) : State :=
  let lead := s.lead p
  if s.pN p 0x2E ≠ 1 then s
  else
    let s := (s.members p).foldl State.reclaimMember s
    let due := s.sec.waitReset.filter fun w => s.lead w.part == lead
    let s := s.modSec fun x => { x with waitReset := x.waitReset.filter fun w => s.lead w.part != lead }
    startWaiting due s

end Sys2Proof.Machine
end

