-- ==== Sys2Proof/Machine/CalControl.lean ====
section
/-! DEFINITION. Writing the calibration set: UNLOCK, COMMIT and LOCK (R402 to R404). -/

namespace Sys2Proof.Machine

/-- Key of a calibration control object. -/
def calKey (sub : Nat) : Nat := objKey 0x2F40 sub

/-- UNLOCK: the staging copy takes the stored set (R402 step 1). -/
def calUnlockW (s : State) (v : Word) : WR :=
  if field v 31 16 ≠ 0xC41B then .error .range
  else if s.mgmt.calState = .committing then .error .state
  else .ok (s.modMgmt fun m => { m with calState := .unlocked, staging := m.cal, calAt := m.ns })

/-- The first check of R402 step 3 that the staging copy fails, as REFUSE codes it; an ORIGIN that R400 does not define
fails with FORMAT. -/
def State.commitRefusal (s : State) (signatureOk : Bool) : Nat :=
  let c := s.mgmt.staging
  let n := calCheck c s.serial
  if n = 1 ∨ 1 < calOrigin c then 1
  else if n ≠ 0 then n
  else if calOrigin c = 0 then (if signatureOk then 0 else 4)
  else if bit (s.rd (objKey 0x1100 0x10)) 11 then 0
  else 5

/-- COMMIT (R402 steps 3 and 4). -/
def calCommitW (s : State) (signatureOk : Bool) : WR :=
  if s.mgmt.calState ≠ .unlocked then .error .state
  else
    let n := s.commitRefusal signatureOk
    let s := s.modMgmt fun m => { m with calAt := m.ns }
    if n = 0 then .ok (s.modMgmt fun m => { m with calState := .committing })
    else .ok ((s.modMgmt fun m => { m with calRefuse := n }).mgmtEvent 5)

/-- LOCK: the staging copy is dropped. -/
def calLockW (s : State) : WR :=
  if s.mgmt.calState ≠ .unlocked then .error .state
  else .ok (s.modMgmt fun m => { m with calState := .locked, staging := [] })

/-- A write to CAL_CONTROL: its action bits act in ascending order (log entry 43). -/
def calControlW (s : State) (via : Via) (v : Word) (signatureOk : Bool) : WR :=
  if viaPriv via = false then .error .access
  else if v.toNat &&& 7 ≠ 0 then ctlActs v 0 [(calUnlockW · v), (calCommitW · signatureOk), calLockW] s
  else .ok (if s.mgmt.calState = .unlocked then s.modMgmt fun m => { m with calAt := m.ns } else s)

/-- UNLOCK (R402). -/
def unlockEff (via : Via) (value : Word) (s : State) : State := s.objWrite via 0x2F40 1 (calControlW s via value false)

/-- COMMIT (R402): `signatureOk` is what the RSA check of step 4 finds. -/
def commitEff (via : Via) (value : Word) (signatureOk : Bool) (s : State) : State :=
  s.objWrite via 0x2F40 1 (calControlW s via value signatureOk)

/-- LOCK (R404). -/
def lockEff (via : Via) (value : Word) (s : State) : State := s.objWrite via 0x2F40 1 (calControlW s via value false)

/-- CALIBRATION_COMMIT_DONE (R402, R403): a write that failed leaves the erased set invalid; a bring-up that waits goes
on (R450). -/
def calibrationCommitDoneEff (ok : Bool) (s : State) : State :=
  if s.mgmt.calState ≠ .committing then s
  else
    let s :=
      if ok then
        State.mgmtEvent ((s.modMgmt fun m => { m with
          cal := m.staging, calBroken := false, calState := .locked, staging := [], calPending := true }).count32Sat
            (calKey 4) 1) 4
      else State.mgmtEvent (s.modMgmt fun m => { m with calBroken := true, calState := .locked, staging := [] }) 5
    s.goOn

/-- CALIBRATION_STAGING_TIMEOUT (R402): 60 s without a write. -/
def calibrationStagingTimeoutEff (s : State) : State :=
  let m := s.mgmt
  if m.calState = .unlocked ∧ m.calAt + 60 * 10 ^ 9 ≤ m.ns then
    s.modMgmt fun m => { m with calState := .locked, staging := [] }
  else s

/-- CAL_STATUS (R404). -/
def State.calStatus (s : State) : Nat :=
  let m := s.mgmt
  let st := match m.calState with
    | .locked => 0
    | .unlocked => 1
    | .committing => 2
  m.calRefuse * 4096 + (if s.calValid then calOrigin m.cal % 2 else 0) * 256 + b2n m.calPending * 32 +
    b2n (bit (s.rd (objKey 0x1100 0x10)) 11) * 16 + st * 4 + b2n m.calLoaded * 2 + b2n s.calValid

end Sys2Proof.Machine
end

