-- ==== Sys2Proof/Machine/ObjRead.lean ====
section
/-! DEFINITION. What every object of the dictionary reads as (R380, R381, R384): the stored value, or a value computed
from the state. -/

namespace Sys2Proof.Machine

/-- BUS_STATE of CAN_STATUS: error active, error passive or bus off (R386). -/
def MgmtSt.busState (m : MgmtSt) : Nat := if m.busOff then 2 else if 127 < m.txErr ∨ 127 < m.rxErr then 1 else 0

/-- CAN_STATUS (R386). -/
def MgmtSt.canStatus (m : MgmtSt) : Nat :=
  b2n m.ctrlLost * 2 ^ 25 + b2n m.conflict * 2 ^ 24 + min m.txErr 255 * 2 ^ 16 + min m.rxErr 255 * 2 ^ 8 + m.busState

/-- EVENT_LOG_ENTRY (R386). -/
def EventEntry.word (e : EventEntry) : Nat :=
  e.cls * 2 ^ 56 + e.part % 256 * 2 ^ 48 + e.code % 65536 * 2 ^ 32 + e.seq.toNat

/-- The identity objects that are computed (R386, R449). -/
def State.identRead (s : State) (sub : Nat) : Option Nat :=
  let m := s.mgmt
  let entry := m.log[s.rdN (idKey 0x28)]?
  match sub with
  | 0x03 => some 8
  | 0x14 => some m.canStatus
  | 0x20 => some (min m.saves.length 255)
  | 0x29 => some ((entry.map EventEntry.word).getD 0)
  | 0x2A => some ((entry.map fun (e : EventEntry) => e.beat).getD 0)
  | 0x32 =>
    let waits := s.readiness == 4 && (List.range 32).any fun n => decide ((s.port n).st = .train)
    some (setField (s.rdN (idKey 0x32)) 2 2 (b2n waits))
  | _ => none

/-- FABRIC_STATE (R232). -/
def State.fabricState (s : State) : Nat := if s.superseded then 2 else b2n (assigned s.ownAddr.toNat)

/-- The health objects that are computed (R326). -/
def State.healthRead (s : State) (sub : Nat) : Option Nat :=
  let h := s.health
  let code := s.rdN (hKey 3)
  match sub with
  | 0x04 => some (h.score code)
  | 0x05 => some (b2n (mget false h.probation code))
  | 0x0D => some s.healthInput
  | 0x14 => some s.suspectWord
  | 0x15 => some (((mfind h.suspects (s.rdN (hKey 0x13))).map fun (x : Suspect) => x.firstNs).getD 0)
  | _ => none

/-- The fabric objects that are computed (R232). -/
def State.fabRead (s : State) (sub : Nat) : Option Nat :=
  let f := s.fab
  let sel := s.rdN (fabKey 4)
  match sub with
  | 0x03 => some s.fabricState
  | 0x05 => some (mget 0#64 (if nfield sel 31 31 = 1 then f.routeA else f.routeS) (nfield sel 16 0)).toNat
  | 0x07 => some (b2n f.copying * 2 + b2n (decide (s.rdN (fabKey 6) ≠ 0)))
  | 0x0A => some (match s.epochOf (BitVec.ofNat 24 (s.rdN (fabKey 9))) with
      | some e => 65536 + e.toNat
      | none => 0)
  | 0x0B => some f.epochs.length
  | 0x11 => some s.beat
  | 0x17 => some (if s.beatState = bsFree ∨ s.beatState = bsMaster then s.ownAddr.toNat else s.rdN (fabKey 0x17))
  | 0x18 => some s.beatErrorBound
  | _ => none

/-- The port objects that are computed (R233, R324). -/
def State.portRead (s : State) (n sub : Nat) : Option Nat :=
  match sub with
  | 0x02 => some (s.port n).word
  | 0x0D => if s.health.onProbation (0x100 + n) then some 20 else none
  | _ => none

/-- The Tango objects that are computed (R302, R305, R325). -/
def State.tangoRead (s : State) (sub : Nat) : Option Nat :=
  let b := s.rdN (tKey 0x12)
  match sub with
  | 0x02 => some s.tangoState
  | 0x07 => some (mget 0#64 s.tango.list (s.rdN (tKey 6))).toNat
  | 0x08 => some s.imageBytes
  | 0x13 => some (s.heldBankInfo b)
  | 0x14 => some (s.tango.bank b).chunks
  | _ => none

/-- ECC_LOG_INFO (R153). -/
def EccEntry.word (e : EccEntry) : Nat :=
  e.outcome * 2 ^ 30 + e.source * 2 ^ 27 + b2n e.writeback * 2 ^ 26 + e.symbol % 64 * 2 ^ 20 + e.part % 16 * 2 ^ 16 +
    e.unit % 512

/-- The memory objects that are computed (R153). -/
def State.memRead (s : State) (sub : Nat) : Option Nat :=
  let entry := s.eccLog[s.rdN (objKey 0x2800 9)]?
  match sub with
  | 0x07 => some s.retainTotal
  | 0x0A => some ((entry.map EccEntry.word).getD 0)
  | 0x0B => some ((entry.map fun (e : EccEntry) => e.addr / 16 * 16 % 2 ^ 48).getD 0)
  | 0x0C => some ((entry.map fun (e : EccEntry) => e.beat).getD 0)
  | _ => none

/-- The partition objects that are computed. -/
def State.partRead (s : State) (p sub : Nat) : Option Nat :=
  let e := s.region p (s.selected p)
  match sub with
  | 0x40 => some (s.arithFlags p)
  | 0x59 => some (setField (s.pN p 0x59) 2 2 (b2n (decide (s.pN p 0x5A ≤ s.pN p 0x5B))))
  | 0x5D => some e.word
  | 0x5E => some (s.fenceStatus p)
  | 0x91 => some (s.retainMask (16 * p + s.pN p 0x90)).toNat
  | 0x92 => some (s.retainBanks p)
  | 0x9B => some (54 - s.pN p 0x93)
  | 0xB1 => some ((s.members p).foldl (fun a q => a + 2 ^ q) 0)
  | 0xB2 => some (s.residentMask p)
  | 0xC0 => some e.slot0.addr
  | 0xC1 => some e.slot1.addr
  | 0xC2 => some e.size
  | 0xC6 => some (s.loader p).status
  | 0xD1 => some (s.acorn p (s.pN p 0xD0)).toNat
  | _ => none

/-- What an object that is computed reads as; none for one that is stored. -/
def State.computed (s : State) (index sub : Nat) : Option Nat :=
  if index = 0x1000 then s.identRead sub
  else if index = 0x1100 then
    (if sub = 3 then some (nfield s.straps 6 4 * 16) else if sub = 0x13 then some s.straps else none)
  else if index = 0x2000 then
    (if sub = 8 then some s.capState
     else if sub = 0x0A ∧ s.rdN (pwKey 7) ≠ 2 then s.pow.retTemp.map fun t => (microF32 (s.retMicroAmps t)).toNat
     else none)
  else if index = 0x2200 then (if 0x30 ≤ sub ∧ sub < 0x40 then some (s.clusterLimit (sub - 0x30)) else none)
  else if index = 0x2400 then s.healthRead sub
  else if index = 0x2500 then s.fabRead sub
  else if 0x2510 ≤ index ∧ index < 0x2530 then s.portRead (index - 0x2510) sub
  else if 0x2610 ≤ index ∧ index < 0x2690 then
    (if sub = 0x11 then some (s.dlBeat (index - 0x2610)) else if sub = 0x14 then some (s.ctxStatus (index - 0x2610))
     else none)
  else if index = 0x2700 then s.tangoRead sub
  else if index = 0x2800 then s.memRead sub
  else if 0x2810 ≤ index ∧ index < 0x281C then (if sub = 4 then some (s.stackRefresh (index - 0x2810)) else none)
  else if index = 0x2A00 then
    let entry := s.hang.log[s.rdN (rKey 6)]?
    (if sub = 7 then some ((entry.map HangEntry.word).getD 0)
     else if sub = 8 then some ((entry.map fun (e : HangEntry) => e.beat).getD 0) else none)
  else if index = 0x2F40 then
    (if sub = 2 then some s.calStatus
     else if sub = 3 then some (if s.calValid then s.serial.toNat else 0) else none)
  else if 0x3000 ≤ index ∧ index % 256 = 0 then s.partRead (index / 256 % 16) sub
  else none

/-- Objects of which nothing that the model holds gives the value: estimates of current, power and energy (R419, R426; log
entry 67). -/
def State.readsFree (s : State) (index sub : Nat) : Bool :=
  (index == 0x2000 && sub == 0x0A && s.rdN (pwKey 7) != 2 && s.pow.retTemp.isNone) ||
  (decide (0x3000 ≤ index) && index % 256 == 0 && (sub == 5 || sub == 6))

/-- The largest value of an object of a size. -/
def sizeTop (size : Nat) : Nat := 2 ^ (8 * size)

/-- Reading an object: its value, with the state after (a free value moves the serial on). -/
def State.objValue (s : State) (o : ObjSpec) (index sub : Nat) : Nat × State :=
  match s.domain index sub with
  | some (n, _) => (n, s)
  | none =>
    if s.readsFree index sub then
      let (k, s) := s.fresh
      ((Config.freeWord k 0).toNat % sizeTop o.size, s)
    else (((s.computed index sub).getD (s.rdN (objKey index sub))) % sizeTop o.size, s)

end Sys2Proof.Machine
end

