-- ==== Sys2Proof/Machine/Registers.lean ====
section
/-! DEFINITION. A write of a value to any object, table dword or function register (R11, R12, R359 to R367, R377,
R381). -/

namespace Sys2Proof.Machine

/-! ## Writes by the access code alone -/

/-- Setting an object's value, saved where its access is RWS (R381, R382). -/
def storeW (s : State) (o : ObjSpec) (index sub : Nat) (v : Word) : WR :=
  let key := objKey index sub
  .ok (match o.acc with
    | .rws => s.saveObj key v
    | .rw1c => s.wr key (s.rd key &&& ~~~v)
    | .rw => s.wr key v
    | _ => s)

/-- An accepted value is stored when a condition of the object's own description holds. -/
def storeIf (ok : Bool) (s : State) (o : ObjSpec) (index sub : Nat) (v : Word) : WR :=
  guardW ok .range (storeW s o index sub v)

/-- A value that is 0 or at least `lo`. -/
def zeroOr (lo : Nat) (v : Word) : Bool := v == 0 || decide (lo ≤ v.toNat)

/-! ## Objects with conditions or effects of their own -/

/-- Index 0x1000 (R386): a virtual function reads it only (R358). -/
def identW (s : State) (via : Via) (o : ObjSpec) (sub : Nat) (v : Word) : WR :=
  if viaPriv via = false then .error .access
  else
    match sub with
    | 0x19 => storeIf (zeroOr 100 v) s o 0x1000 sub v
    | 0x1A => storeIf (zeroOr 100 v) s o 0x1000 sub v
    | _ => storeW s o 0x1000 sub v

/-- Index 0x1100 (R396). -/
def congaW (s : State) (o : ObjSpec) (sub : Nat) (v : Word) : WR :=
  match sub with
  | 0x11 => storeIf ((v &&& 0xF880#64) == 0) s o 0x1100 sub v
  | 0x12 => storeIf (!(field v 9 8 == 3 && field (s.rd (objKey 0x1100 0x11)) 9 8 == 3)) s o 0x1100 sub v
  | _ => storeW s o 0x1100 sub v

/-- Index 0x2000 (R423): the estimate of R419 that decides on Retention is a free
value until the sensor has been read. -/
def powerW (s : State) (via : Via) (o : ObjSpec) (sub : Nat) (v : Word) : WR :=
  match sub with
  | 0x01 => guardW (viaPriv via) .access (storeW s o 0x2000 sub v)
  | 0x06 =>
    let (k, s) := s.fresh
    devicePowerW s via v (match s.pow.retTemp with
      | some t => s.retMicroAmps t
      | none => (Config.freeWord k 0).toNat)
  | 0x0E => clearW s v (s.clearObjs 0x2000 9 1)
  | _ => storeW s o 0x2000 sub v

/-- Index 0x2400 (R326). -/
def healthW (s : State) (o : ObjSpec) (sub : Nat) (v : Word) : WR :=
  match sub with
  | 0x03 => partSelectW s v
  | 0x05 => healthPartStateW s v
  | 0x09 => storeIf (decide (v.toNat ≤ s.rdN (hKey 8))) s o 0x2400 sub v
  | 0x0D => healthInputW s v
  | 0x16 => detectorW s v
  | 0x18 => storeIf (zeroOr 16 v) s o 0x2400 sub v
  | _ => storeW s o 0x2400 sub v

/-- FABRIC_ADDR (R232, R301): once it is assigned, Tango may pair. -/
def fabricAddrW (s : State) (v : Word) : WR :=
  if s.superseded then .error .state
  else
    let s := s.wr (fabKey 1) v
    .ok (if s.tangoState = tsUnpaired ∧ assigned v.toNat = true then s.rePair else s)

/-- Index 0x2500 (R232). -/
def fabricW (s : State) (o : ObjSpec) (sub : Nat) (v : Word) : WR :=
  match sub with
  | 0x01 => fabricAddrW s v
  | 0x02 => fabricEpochW s v
  | 0x04 => storeIf (bit v 16 || decide (field v 15 0 ≤ 255)) s o 0x2500 sub v
  | 0x05 => routeEntryW s v
  | 0x06 => commitBeatW s v
  | 0x08 => epochWriteW s v
  | 0x15 => .ok ((s.wr (fabKey 0x15) v).reselect false)
  | 0x19 => .ok ((s.wr (fabKey 0x19) v).modFab fun f => { f with pps := f.pps && s.rd (fabKey 0x19) == v })
  | 0x1C => clearW s v s.clearFabric
  | _ => storeW s o 0x2500 sub v

/-- PORT_CONTROL (R233): its action bits act in ascending order (log entry 43). -/
def portControlW (s : State) (n : Nat) (v : Word) : WR :=
  ctlActs v 0 [(retrainW · n), (recalW · n (bit v 3)), (disableW · n)] s

/-- Index 0x2510 + n (R233, R324). -/
def portW (s : State) (n : Nat) (o : ObjSpec) (sub : Nat) (v : Word) : WR :=
  match sub with
  | 0x01 => roleW s n v
  | 0x03 => portControlW s n v
  | 0x0D => guardW (!s.health.onProbation (0x100 + n)) .state (storeW s o (0x2510 + n) sub v)
  | 0x11 => clearW s v (s.clearPort n)
  | _ => storeW s o (0x2510 + n) sub v

/-- DL_BEAT (R251, R271): 0 names no deadline. -/
def dlBeatW (s : State) (j : Nat) (v : Word) : WR := .ok (s.nameDeadline j (s.rdN (jsKey j 0x10)) v.toNat)

/-- SLOT_START (R242): a collective descriptor of the slot's holder. -/
def slotStartW (s : State) (j : Nat) (v : Word) : WR :=
  let lead := s.holder j
  if s.inGroupMem lead v.toNat 64 then .ok (s.takeDesc lead lead none (readCollDesc s.mem v.toNat)) else .error .range

/-- The objects of a job slot that may be written while it is ACTIVE or RELEASING (R236). -/
def slotAlways (sub : Nat) : Bool :=
  sub == 0 || sub == 3 || sub == 0x10 || sub == 0x11 || sub == 0x13 || sub == 0x1C || sub == 0x1E || sub == 0x1F

/-- Whether a staging area of a slot lies outside every Tango reserve (R271). -/
def State.stageOk (s : State) (a mib : Nat) : Bool :=
  (List.range 16).all fun q => decide (min (a + mib * 2 ^ 20) (hbmBase (q + 1)) ≤ max a (s.reserveBase q))

/-- Index 0x2610 + j (R234 to R236, R271). -/
def jobSlotW (s : State) (via : Via) (j : Nat) (o : ObjSpec) (sub : Nat) (v : Word) : WR :=
  if slotAlways sub = false ∧ 2 ≤ s.jsState j then .error .state
  else
    match sub with
    | 0x00 => clearW s v (s.clearObjs (jsIx j) 0x15 7)
    | 0x01 => jobIdW s via j v
    | 0x02 => guardW (viaPriv via) .access (storeW s o (jsIx j) sub v)
    | 0x03 => slotControlW s j v
    | 0x05 => modeW s j v
    | 0x09 => storeIf (v.toNat % 4 == 0) s o (jsIx j) sub v
    | 0x0A => storeIf (v.toNat % 4096 == 0 && !s.inReserve v.toNat && s.stageOk v.toNat (s.rdN (jsKey j 0x0B))) s o (jsIx j) sub v
    | 0x0B => storeIf (s.stageOk (s.rdN (jsKey j 0x0A)) v.toNat) s o (jsIx j) sub v
    | 0x0C => storeIf (v.toNat % 2 == 0) s o (jsIx j) sub v
    | 0x11 => dlBeatW s j v
    | 0x1E => storeIf (v.toNat % 64 == 0) s o (jsIx j) sub v
    | 0x1F => slotStartW s j v
    | _ => storeW s o (jsIx j) sub v

/-- Index 0x2700 (R325). -/
def tangoW (s : State) (o : ObjSpec) (sub : Nat) (v : Word) : WR :=
  match sub with
  | 0x01 => tangoRoleW s v
  | 0x04 => tangoControlW s v
  | 0x05 => tangoBanksW s v
  | 0x07 => listEntryW s v
  | 0x0C => releaseTagW s v
  | 0x1B => storeIf (v.toNat % 65536 == 0) s o 0x2700 sub v
  | _ => storeW s o 0x2700 sub v

/-- Index 0x2900 (R442): what a check of R430 finds is free here. -/
def securityW (s : State) (via : Via) (o : ObjSpec) (sub : Nat) (v : Word) : WR :=
  match sub with
  | 0x07 => fwUpdateAddrW s via v
  | 0x08 => fwUpdateW s via v
  | 0x0A =>
    let (k, s) := s.fresh
    let w := Config.freeWord k 0
    fwLoadW s via v ⟨bit w 0, bit w 1⟩
  | 0x0B => svnAdvanceW s via v
  | _ => storeW s o 0x2900 sub v

/-- Index 0x2A00 (R349, R351). -/
def hangW (s : State) (via : Via) (o : ObjSpec) (sub : Nat) (v : Word) : WR :=
  match sub with
  | 0x01 => resetControlW s via v
  | 0x04 => guardW (viaPriv via) .access (storeW s o 0x2A00 sub v)
  | 0x05 => guardW (viaPriv via) .access (storeW s o 0x2A00 sub v)
  | _ => storeW s o 0x2A00 sub v

/-- Index 0x2F40 (R404): what the signature check finds is free here. -/
def calW (s : State) (via : Via) (v : Word) : WR :=
  let (k, s) := s.fresh
  calControlW s via v (bit (Config.freeWord k 0) 0)

/-- SAMPLE_WINDOW (R350). -/
def sampleWindowOk (v : Word) : Bool :=
  decide (field v 31 16 ≤ 511) && decide (field v 15 0 ≤ 64) && decide (field v 31 16 + field v 15 0 ≤ 512)

/-- Index 0x3p00, the first half. -/
def partLowW (s : State) (via : Via) (p : Nat) (o : ObjSpec) (sub : Nat) (v : Word) : WR :=
  let ix := partIx p
  match sub with
  | 0x00 => partPowerW s p v
  | 0x02 => storeIf (zeroOr 977 v) s o ix sub v
  | 0x04 => storeIf (zeroOr 10 v) s o ix sub v
  | 0x28 => storeIf (v.toNat % 1024 == 0) s o ix sub v
  | 0x29 => attestW s p v
  | 0x2C => guardW (viaPriv via) .access (storeW s o ix sub v)
  | 0x2D => reclaimW s via p v
  | 0x41 => arithFlagsClearW s p v
  | 0x48 => clearW s v (s.clearObjs ix 0x44 4)
  | 0x4A => clearW s v (s.clearObjs ix 0x49 1)
  | 0x54 => storeIf (f32Finite v.toNat && !bit v 31 && decide (v ≠ 0)) s o ix sub v
  | 0x56 => .ok (s.submitLoss p (v.truncate 32))
  | 0x5F => fenceAbortW s p v
  | 0x70 => nonfiniteClearW s p v
  | _ => storeW s o ix sub v

/-- Index 0x3p00, the second half. -/
def partHighW (s : State) (via : Via) (p : Nat) (o : ObjSpec) (sub : Nat) (v : Word) : WR :=
  let ix := partIx p
  match sub with
  | 0x89 => clearW s v ((List.range 16).foldl (fun s q => s.modCore (16 * p + q) fun x => { x with idle := [] }) s)
  | 0x8A => idleCoreSelectW s p v
  | 0x91 => retainMaskW s via p v
  | 0x93 => tangoReserveW s via p v
  | 0x9A => clearW s v (s.clearObjs ix 0x94 6)
  | 0xA6 => clearW s v (s.clearObjs ix 0xA1 5)
  | 0xB0 => groupLeadW s via p v
  | 0xBC => clearW s v (s.clearObjs ix 0xB3 9)
  | 0xC0 => versionBaseW s p 0 v
  | 0xC1 => versionBaseW s p 1 v
  | 0xC2 => versionSizeW s p v
  | 0xC3 => versionControlW s p v
  | 0xC4 => storeIf (v.toNat % 64 == 0 && s.inGroupHbm p v.toNat 64) s o ix sub v
  | 0xC5 => loadControlW s p v
  | 0xC9 => storeIf (v.toNat % 128 == 0 && decide (hbmBase p ≤ v.toNat) && decide (v.toNat + 128 ≤ s.reserveBase p)) s o ix sub v
  | 0xCA => serveEnableW s p v
  | 0xD1 => acornW s p v
  | 0xD2 => clearW s v (s.clearObjs ix 0xCB 5)
  | 0xE0 => partResetW s p v
  | 0xE5 => storeIf (zeroOr 977 v) s o ix sub v
  | 0xE7 => storeIf (v == 0 || (v.toNat % 65536 == 0 && s.inGroupHbm p v.toNat 1)) s o ix sub v
  | 0xE8 => storeIf (sampleWindowOk v) s o ix sub v
  | 0xEA => bistControlW s p v
  | _ => storeW s o ix sub v

/-- An accepted type, access and range: the object's own effect. -/
def objEffW (s : State) (via : Via) (o : ObjSpec) (index sub : Nat) (v : Word) : WR :=
  if index = 0x1000 then identW s via o sub v
  else if index = 0x1100 then congaW s o sub v
  else if index = 0x2000 then powerW s via o sub v
  else if index = 0x2400 then healthW s o sub v
  else if index = 0x2500 then fabricW s o sub v
  else if 0x2510 ≤ index ∧ index < 0x2530 then portW s (index - 0x2510) o sub v
  else if index = 0x2600 then (if sub = 4 then clearW s v (s.clearObjs 0x2600 3 1) else storeW s o index sub v)
  else if 0x2610 ≤ index ∧ index < 0x2690 then jobSlotW s via (index - 0x2610) o sub v
  else if index = 0x2700 then tangoW s o sub v
  else if index = 0x2800 then (if sub = 0x0F then clearW s v s.clearEccLog else storeW s o index sub v)
  else if index = 0x2900 then securityW s via o sub v
  else if index = 0x2A00 then hangW s via o sub v
  else if index = 0x2F40 then calW s via v
  else if 0x3000 ≤ index then
    (if sub < 0x80 then partLowW s via (index / 256 % 16) o sub v else partHighW s via (index / 256 % 16) o sub v)
  else storeW s o index sub v

/-- A write of a value to an object (R11, R12, R381): reserved bits of the value are ignored, a value out of range is
refused. -/
def objW (s : State) (via : Via) (index sub : Nat) (v : Word) : WR :=
  match objSpec index sub with
  | none => .error .noObject
  | some o =>
    if o.acc = .const ∨ o.acc = .ro then .error .access
    else if o.kind ≠ .num then .error .length
    else
      let v := v &&& BitVec.ofNat 64 o.mask
      if v.toNat < o.lo ∨ o.hi < v.toNat then .error .range else objEffW s via o index sub v

/-! ## Sizes (R359) and command-block dwords (R361) -/

/-- Whether a write of `size` bytes fits an object of a size (R359). -/
def sizeFits (objSize size : Nat) (v : Word) : Bool :=
  if objSize = 8 then size == 8
  else (size == 4 || size == 8) && decide (v.toNat < sizeTop objSize)

/-- A write of a register's slot of a given size. -/
def objSizedW (s : State) (via : Via) (index sub size : Nat) (v : Word) : WR :=
  match objSpec index sub with
  | none => .error .noObject
  | some o => if o.kind = .num ∧ sizeFits o.size size v = false then .error .length else objW s via index sub v

/-- A write of the dword at an offset of partition `p`'s command block (R361). -/
def blockDwordW (s : State) (via : Via) (p off : Nat) (v : Nat) : WR :=
  if off < 0x4000 then slotDwordW s p (off / 64) (off % 64) v
  else if off < 0x8000 then progDwordW s p ((off - 0x4000) / 16) (off % 16) v
  else if off < 0xA000 then
    let k := p * 32 + (off - 0x8000) / 256
    let o := off % 256
    if o < 0x40 then s.dmaShadowW k o (BitVec.ofNat 64 v)
    else if o = 0x80 then s.dmaControlW (viaFn via) k (BitVec.ofNat 64 v)
    else if o = 0x84 then s.dmaStatusW k (BitVec.ofNat 64 v)
    else .ok s
  else if off < 0xA400 then ctxDwordW s p ((off - 0xA000) / 64) (off % 64) v
  else .error .noObject

/-- A write of 4 or 8 bytes into a command block, naturally aligned (R361). Of the 8 bytes that hold a program entry's
STATE and LENGTH, the LENGTH lands first (R107). -/
def blockW (s : State) (via : Via) (p off size : Nat) (v : Word) : WR :=
  let lo := v.toNat % 2 ^ 32
  let hi := v.toNat / 2 ^ 32
  if size = 4 ∧ off % 4 = 0 then blockDwordW s via p off lo
  else if size = 8 ∧ off % 8 = 0 then
    (if 0x4000 ≤ off ∧ off < 0x8000 ∧ off % 16 = 8 then
      (blockDwordW s via p (off + 4) hi).bind fun t => blockDwordW t via p off lo
     else (blockDwordW s via p off lo).bind fun t => blockDwordW t via p (off + 4) hi)
  else .error .length

/-! ## Function registers (R355 to R367, R369) -/

/-- The function of a PCIe path. -/
def viaFunc : Via → Option Nat
  | .pf => some 0
  | .vf p => some (p.val + 1)
  | .barzar => none

/-- A dword of a function's MSI-X table (R365). -/
def msixTableW (x : FuncSt) (vector word : Nat) (v : Nat) : FuncSt :=
  let m := x.vec vector
  x.setVec vector (match word with
    | 0 => { m with addr := BitVec.ofNat 64 (m.addr.toNat / 2 ^ 32 * 2 ^ 32 + v % 2 ^ 32) }
    | 1 => { m with addr := BitVec.ofNat 64 (m.addr.toNat % 2 ^ 32 + v % 2 ^ 32 * 2 ^ 32) }
    | 2 => { m with data := BitVec.ofNat 32 v }
    | _ => { m with masked := nfield v 0 0 == 1 })

/-- FUNC_REFUSE (R363): clearing VALID also sets COUNT to 0. -/
def funcRefuseW (x : FuncSt) (v : Word) : FuncSt :=
  if bit v 63 then { x with refValid := false, refCount := 0 } else x

/-- A configuration register of a function (R355, R357, R366 to R369). -/
def cfgW (x : FuncSt) (r : CfgReg) (v : Word) : FuncSt :=
  let on := bit v 0
  match r with
  | .msixEnable => { x with msixEnable := on }
  | .msixMask => { x with msixMask := on }
  | .busMaster => { x with busMaster := on }
  | .atsEnable => { x with ats := on }
  | .relaxedOrdering => { x with relaxed := on }
  | .powerD0 => { x with d3hot := !on }

/-- A register of the path's own function. -/
def State.funcWrite (s : State) (via : Via) (g : FuncSt → FuncSt) : State :=
  match viaFunc via with
  | some f => s.modFunc f g
  | none => s

/-- REGISTER_WRITE (R11, R12, R359 to R367): `reg` names what the access reaches, `size` its bytes. -/
def registerWriteEff (via : Via) (reg : RegAddr) (size : Nat) (value : Word) (s : State) : State :=
  match reg with
  | .obj index sub => s.objWrite via index.toNat sub.toNat (objSizedW s via index.toNat sub.toNat size value)
  | .bar2 p off => s.blockWrite via p off (blockW s via p off size value)
  | .msix vector word =>
    match viaFunc via with
    | some f =>
      if s.viaLive via && decide (vector.val < vecCount f) then
        s.modFunc f fun x => msixTableW x vector word value.toNat
      else s
    | none => s
  | .funcRefuse => if s.viaLive via then s.funcWrite via fun x => funcRefuseW x value else s
  | .domainSelect =>
    if via = .pf ∧ s.viaLive via = true then
      { s with host := { s.host with domSelect := BitVec.ofNat 32 (value.toNat % 2 ^ 24) } }
    else s
  | .domainOffset =>
    if via = .pf ∧ s.viaLive via = true then
      s.applyW .pf 0 0x400008
        (if value.toNat % 8 = 0 ∧ value.toNat < 2 ^ 32 then
          .ok { s with host := { s.host with domOffset := BitVec.ofNat 32 value.toNat } }
         else .error .range)
    else s
  | .cfg r =>
    match viaFunc via with
    | some f =>
      if s.funcLive f then
        let s := s.modFunc f fun x => cfgW x r value
        if r = .busMaster ∧ bit value 0 = false then s.dmaNoBus f else s
      else s
    | none => s
  | .poisoned bar off =>
    match viaFunc via with
    | some f =>
      if s.viaLive via then (s.recordRefuse f ⟨bar.val, by omega⟩ off.val true).emit (.aerPoisoned f) else s
    | none => s

end Sys2Proof.Machine
end

