-- ==== Sys2Proof/Machine/Can.lean ====
section
/-! DEFINITION. The management controller's CAN FD node: Barzar requests, heartbeats, events and Conga (R371 to R399,
R461). -/

namespace Sys2Proof.Machine

/-- NODE_ID. -/
def State.nodeId (s : State) : Nat := s.rdN (idKey 0x10)

/-- Whether the node is on the bus: powered, running and not bus-off (R335, R371). -/
def State.onBus (s : State) : Bool := s.pow.mode != .off && !s.mgmt.restarting && !s.mgmt.busOff

/-- Whether the node may send frames other than CONFIRM: it has an ID and no conflict (R374, R396). -/
def State.maySend (s : State) : Bool := s.onBus && s.nodeId != 0 && !s.mgmt.conflict

/-- A frame goes out. -/
def State.sendCan (s : State) (id : Nat) (bytes : List Byte) : State := (s.emit (.can id bytes)).count (idKey 0x16) 1

/-- A frame has been received and acted on. -/
def State.rxCan (s : State) : State := s.count (idKey 0x15) 1

/-- A frame is ignored. -/
def State.ignoreCan (s : State) : State := s.count (idKey 0x17) 1

/-! ## Requests (R375 to R379) -/

/-- The first eight bytes of a response. -/
def respHead (r : CanRequest) (st : WStatus) (size : Nat) : List Byte :=
  [BitVec.ofNat 8 st.code, r.tag] ++ leBytes 2 r.index.toNat ++ [r.sub, BitVec.ofNat 8 size, 0#8, 0#8]

/-- A response is sent, unless the request was a broadcast or the node may not send. -/
def State.respond (s : State) (bytes : List Byte) : State :=
  if s.maySend then s.sendCan (0x200 + s.nodeId) bytes else s

/-- The answer to a READ (R375, R377). -/
def State.answerRead (s : State) (r : CanRequest) : State :=
  let index := r.index.toNat
  let sub := r.sub.toNat
  let bad (e : WStatus) : State := s.respond (respHead r e 0 ++ leBytes 8 0)
  match objSpec index sub with
  | none => bad .noObject
  | some o =>
    if o.acc = .wo then bad .access
    else if s.objOpen index sub false = false then bad .state
    else
      let size := if o.kind = .num then o.size else 4
      let (v, s) := s.objValue o index sub
      s.respond (respHead r .ok size ++ leBytes 8 v)

/-- What a WRITE does (R375, R377). -/
def State.writeOutcome (s : State) (r : CanRequest) : WR :=
  let index := r.index.toNat
  let sub := r.sub.toNat
  match objSpec index sub with
  | none => .error .noObject
  | some o =>
    if o.kind ≠ .num then .error .length
    else if o.acc = .const ∨ o.acc = .ro then .error .access
    else if r.size.toNat ≠ o.size then .error .length
    else if s.objOpen index sub true = false then .error .state
    else objW s .barzar index sub (BitVec.ofNat 64 (r.value.toNat % sizeTop o.size))

/-- A refused broadcast is recorded (R379). -/
def State.noteBroadcast (s : State) (r : CanRequest) (e : WStatus) : State :=
  let k := idKey 0x1C
  if bit (s.rd k) 31 then s
  else s.wrN k (2 ^ 31 + e.code * 2 ^ 24 + r.index.toNat * 2 ^ 8 + r.sub.toNat)

/-- The answer to a WRITE; a broadcast is applied without one. -/
def State.answerWrite (s : State) (r : CanRequest) : State :=
  match s.writeOutcome r with
  | .ok t => if r.node = 0 then t else t.respond (respHead r .ok 0 ++ leBytes 8 0)
  | .error e => if r.node = 0 then s.noteBroadcast r e else s.respond (respHead r e 0 ++ leBytes 8 0)

/-- OFFSET of a segment request. -/
def segOffset (r : CanRequest) : Nat := r.value.toNat % 2 ^ 32

/-- COUNT of a segment request. -/
def segCountOf (r : CanRequest) : Nat := r.value.toNat / 2 ^ 32

/-- A 64-byte response. -/
def respSeg (r : CanRequest) (st : WStatus) (copied : Bool) (data : List Byte) : List Byte :=
  respHead r st 0 ++ (if copied then leBytes 8 r.value.toNat else leBytes 8 0) ++
    (List.range 48).map fun i => data.getD i 0#8

/-- Whether a segment lies within an object of `n` bytes. -/
def segFits (r : CanRequest) (n : Nat) : Bool :=
  decide (1 ≤ segCountOf r) && decide (segCountOf r ≤ 48) && decide (segOffset r + segCountOf r ≤ n)

/-- The answer to a READ_SEG (R378). -/
def State.answerReadSeg (s : State) (r : CanRequest) : State :=
  let index := r.index.toNat
  let sub := r.sub.toNat
  let bad (e : WStatus) : State := s.respond (respSeg r e true [])
  match objSpec index sub with
  | none => bad .noObject
  | some _ =>
    match s.domain index sub with
    | none => bad .length
    | some (n, byte) =>
      if s.objOpen index sub false = false then bad .state
      else if segFits r n = false then bad .length
      else s.respond (respSeg r .ok true ((List.range (segCountOf r)).map fun i => byte (segOffset r + i)))

/-- What a WRITE_SEG does (R378): it lands whole or not at all. -/
def State.segOutcome (s : State) (r : CanRequest) : WR :=
  let index := r.index.toNat
  let sub := r.sub.toNat
  match objSpec index sub with
  | none => .error .noObject
  | some _ =>
    match s.domain index sub with
    | none => .error .length
    | some (n, _) =>
      if domainWritable index sub = false then .error .access
      else if s.objOpen index sub true = false then .error .state
      else if segFits r n = false then .error .length
      else domainW s index sub (segOffset r) ((List.range (segCountOf r)).map fun i => r.data.getD i 0#8)

/-- The answer to a WRITE_SEG. -/
def State.answerWriteSeg (s : State) (r : CanRequest) : State :=
  match s.segOutcome r with
  | .ok t => t.respond (respSeg r .ok false [])
  | .error e => s.respond (respSeg r e false [])

/-- The answer to a request (R375, R379). -/
def State.answer (s : State) (r : CanRequest) : State :=
  match r.cmd.toNat with
  | 1 => s.answerRead r
  | 2 => s.answerWrite r
  | 3 => s.answerReadSeg r
  | 4 => s.answerWriteSeg r
  | _ => s.respond (respHead r .length 0 ++ leBytes 8 0)

/-- Answering requests in order. -/
def answerAll : List CanRequest → State → State
  | [], s => s
  | r :: rs, s => answerAll rs (s.answer r)

/-- A request frame reaches the device (R374, R376, R379): it is answered behind those already queued, or with BUSY. -/
def State.canFrame (s : State) (r : CanRequest) : State :=
  if s.onBus = false ∨ s.nodeId = 0 ∨ (r.node.toNat ≠ 0 ∧ r.node.toNat ≠ s.nodeId) then s
  else if r.node = 0 ∧ r.cmd.toNat ≠ 2 then s.ignoreCan
  else if 8 ≤ s.mgmt.queue.length then s.rxCan.respond (respHead r .busy 0 ++ leBytes 8 0)
  else answerAll (s.mgmt.queue ++ [r]) (s.rxCan.modMgmt fun m => { m with queue := [] })

/-- READ (R375, R377): also a frame with a CMD that R375 does not define. -/
def canReadEff (r : CanRequest) (s : State) : State :=
  if 2 ≤ r.cmd.toNat ∧ r.cmd.toNat ≤ 4 then s else s.canFrame r

/-- WRITE (R375, R377, R379). -/
def canWriteEff (r : CanRequest) (s : State) : State := if r.cmd.toNat = 2 then s.canFrame r else s

/-- READ_SEG (R378). -/
def canReadSegEff (r : CanRequest) (s : State) : State := if r.cmd.toNat = 3 then s.canFrame r else s

/-- WRITE_SEG (R378). -/
def canWriteSegEff (r : CanRequest) (s : State) : State := if r.cmd.toNat = 4 then s.canFrame r else s

/-! ## Heartbeats and events (R387 to R391) -/

/-- The payload of a heartbeat (R387). -/
def State.heartbeat (s : State) : List Byte :=
  let flags := b2n (!s.mgmt.evQueue.isEmpty) + 2 * b2n s.mgmt.conflict + 4 * b2n s.calValid + 8 * b2n s.pow.cycleReq
  [BitVec.ofNat 8 s.readiness, BitVec.ofNat 8 s.fabricState] ++ leBytes 2 (s.rdN (hKey 1)) ++
    [BitVec.ofNat 8 s.beatState, BitVec.ofNat 8 flags, 0#8, s.mgmt.hbCount]

/-- HEARTBEAT_SEND (R387, R389). -/
def heartbeatSendEff (s : State) : State :=
  let ms := s.rdN (idKey 0x19)
  if s.maySend = false ∨ ms = 0 ∨ s.mgmt.ns < s.mgmt.hbAt + ms * 10 ^ 6 then s
  else (s.sendCan (0x700 + s.nodeId) s.heartbeat).modMgmt fun m => { m with hbCount := m.hbCount + 1, hbAt := m.ns }

/-- CONTROLLER_HEARTBEAT (R374, R388, R390). -/
def controllerHeartbeatEff (s : State) : State :=
  if s.onBus = false ∨ s.nodeId = 0 then s
  else s.rxCan.modMgmt fun m => { m with ctrlHbAt := m.ns, ctrlLost := false }

/-- CTRL_HB_TIMEOUT (R390). -/
def ctrlHbTimeoutEff (s : State) : State :=
  let ms := s.rdN (idKey 0x1A)
  if s.pow.mode = .off ∨ s.mgmt.restarting = true ∨ ms = 0 ∨ s.mgmt.ctrlLost = true ∨
      s.mgmt.ns < s.mgmt.ctrlHbAt + ms * 10 ^ 6 then s
  else State.mgmtEvent (s.modMgmt fun m => { m with ctrlLost := true }) 2

/-- BARZAR_EVENT (R365, R391): an event of a class is logged, queued for its frame and signalled to the host. -/
def barzarEventEff (cls : Fin 5) (part : Option Part) (code : Nat) (s : State) : State :=
  if s.pow.mode = .off ∨ s.mgmt.restarting = true then s
  else
    match cls.val, part with
    | 1, _ => s.healthEvent
    | 2, _ => s.fabricEvent
    | 3, some p => if code < 8 then s.event p code else s
    | 4, _ => if 1 ≤ code ∧ code ≤ 10 then s.mgmtEvent code else s
    | _, _ => s

/-- An EVENT frame (R391). -/
def eventBytes (e : EventEntry) (lost : Bool) : List Byte :=
  [BitVec.ofNat 8 e.cls, BitVec.ofNat 8 (b2n lost), BitVec.ofNat 8 e.part, 0#8] ++ leBytes 2 e.code ++ [0#8, 0#8] ++
    leBytes 8 e.beat

/-- EVENT_FRAME_SEND (R391). -/
def eventFrameSendEff (s : State) : State :=
  let m := s.mgmt
  let early := match m.evAt with
    | some t => decide (m.ns < t + s.rdN (idKey 0x1B) * 10 ^ 6)
    | none => false
  match m.evQueue with
  | [] => s
  | e :: es =>
    if s.maySend = false ∨ early = true then s
    else (s.sendCan (0x080 + s.nodeId) (eventBytes e m.evLost)).modMgmt fun m =>
      { m with evQueue := es, evLost := false, evAt := some m.ns }

/-! ## Conga (R392 to R396, R461) -/

/-- CONGA_STATE (R396). -/
def State.congaState (s : State) : Nat := s.rdN (objKey 0x1100 1)

/-- Setting CONGA_STATE. -/
def State.toConga (s : State) (n : Nat) : State := s.wrN (objKey 0x1100 1) n

/-- A new NODE_ID: queued requests are dropped (R376), and a strap fault that has waited is raised (R399). -/
def State.takeId (s : State) (n : Nat) : State :=
  let s := if n = s.nodeId then s else (s.wrN (idKey 0x10) n).modMgmt fun m => { m with queue := [] }
  if n ≠ 0 ∧ s.mgmt.strapEv = true then State.mgmtEvent (s.modMgmt fun m => { m with strapEv := false }) 6 else s

/-- The CONFIRM for chain position `p`, after which CONGA_OUT is asserted (R393). -/
def State.confirm (s : State) (p : Nat) (fixed : Bool) : State :=
  let flags := b2n fixed + 2 * b2n s.calValid
  let bytes := [2#8, BitVec.ofNat 8 p, BitVec.ofNat 8 s.nodeId, BitVec.ofNat 8 flags] ++ leBytes 8 s.serial.toNat ++
    leBytes 4 0
  (s.sendCan s.nodeId bytes).modMgmt fun m => { m with congaOut := true }

/-- ASSIGN (R393, R394). -/
def assignEff (position : Nat) (s : State) : State :=
  if s.onBus = false ∨ position = 0 ∨ 127 < position then s
  else if s.congaState = 1 then
    let id := nfield s.straps 6 4 * 16 + position
    if 1 ≤ id ∧ id ≤ 127 then
      (((s.rxCan.wrN (objKey 0x1100 2) position).toConga 2).takeId id).confirm position false
    else (s.rxCan.toConga 4).mgmtEvent 9
  else if s.congaState = 3 ∧ s.mgmt.congaIn = true ∧ s.mgmt.congaOut = false then
    (s.rxCan.wrN (objKey 0x1100 2) position).confirm position true
  else s

/-- RESTART (R394, R395, R396). -/
def restartEff (s : State) : State :=
  if s.onBus = false then s
  else
    let fixed := s.rdN (idKey 0x11)
    let s := s.rxCan.modMgmt fun m => { m with queue := [], congaOut := false, conflict := false }
    let s := (s.wrN (objKey 0x1100 2) 0).takeId fixed
    s.toConga (if fixed ≠ 0 then 3 else b2n s.mgmt.congaIn)

/-- CONGA_IN_CHANGE (R392, R461). -/
def congaInChangeEff (level : Bool) (heldUs : Nat) (s : State) : State :=
  if heldUs < 100 then s
  else
    let s := s.modMgmt fun m => { m with congaIn := level }
    if s.pow.mode = .off ∨ 1 < s.congaState then s else s.toConga (b2n level)

/-- NODE_ID_CONFLICT (R396). -/
def nodeIdConflictEff (s : State) : State :=
  if s.onBus = false ∨ s.nodeId = 0 ∨ s.mgmt.conflict = true then s
  else State.mgmtEvent ((s.modMgmt fun m => { m with conflict := true }).toConga 5) 3

/-! ## Error states (R371) -/

/-- CAN_BUS_ERROR (R371). -/
def canBusErrorEff (e : CanError) (s : State) : State :=
  if s.onBus = false then s
  else
    match e with
    | .tx n =>
      let t := s.mgmt.txErr + n
      let s := s.modMgmt fun m => { m with txErr := min t 255, busOff := decide (255 < t) }
      if 255 < t then s.count32Sat (idKey 0x18) 1 else s
    | .rx n => s.modMgmt fun m => { m with rxErr := min (m.rxErr + n) 255 }
    | .txOk => s.modMgmt fun m => { m with txErr := m.txErr - 1 }
    | .rxOk => s.modMgmt fun m => { m with rxErr := if 127 < m.rxErr then 127 else m.rxErr - 1 }

/-- BUS_OFF_RECOVERY (R371, R391). -/
def busOffRecoveryEff (s : State) : State :=
  if s.mgmt.busOff ∧ s.pow.mode ≠ .off then
    State.mgmtEvent (s.modMgmt fun m => { m with busOff := false, txErr := 0, rxErr := 0 }) 8
  else s

/-- CAN_FRAME_IGNORED (R371, R373, R374): of each kind that `why` names. -/
def canFrameIgnoredEff (_why : IgnoredFrame) (s : State) : State := if s.onBus then s.ignoreCan else s

/-- RWS_SAVE_DONE (R382): the oldest save completes or fails. -/
def rwsSaveDoneEff (ok : Bool) (s : State) : State :=
  match s.mgmt.saves with
  | [] => s
  | (k, v) :: rest =>
    let s := s.modMgmt fun m => { m with
      saves := rest, flash := if ok then mins v m.flash k else m.flash,
      unsaved := if ok then mdel m.unsaved k else mins v m.unsaved k }
    if ok then s else (s.count32Sat (idKey 0x21) 1).mgmtEvent 1

end Sys2Proof.Machine
end

