-- ==== Sys2Proof/Machine/Tempo.lean ====
section
/-! DEFINITION. The distribution of the Beat: TEMPO exchanges, masters, HOLDOVER and the TIME_PPS signal (R226 to R231,
R462). -/

namespace Sys2Proof.Machine

/-- The announcement that a port sends (R228): the master's, as heard from the source, or this device's own. -/
def State.sendAnn (s : State) : Option MasterAnn :=
  match s.fab.source with
  | some n => (mget none s.fab.heard n).map Heard.ann
  | none => if s.candidate then some s.ownAnn else none

/-- TEMPO_SEND (R226). -/
def tempoSendEff (n : Port) (s : State) : State :=
  if (s.port n).st = .active then (s.emit (.tempo n s.beat (s.port n).tempoRx s.sendAnn)).sendOpaque n 2 else s

/-- Whether a newly announced master is one that R229 forbids to follow. -/
def State.conflicts (s : State) (m : MasterAnn) (off : Int) : Bool :=
  (s.beatState == bsLocked || s.beatState == bsMaster || (s.beatState == bsAcquiring && s.fab.everLocked)) &&
  s.fab.master != some (m.addr, m.serial) && decide (1024 < off.natAbs)

/-- Noting an announcement under R229: a conflict is counted once while it stands. -/
def State.noteMaster (s : State) (m : MasterAnn) (off : Int) : State :=
  let key := (m.addr, m.serial)
  if s.conflicts m off then
    if s.fab.rejected.contains key then s
    else
      let cur := match s.fab.source.bind fun n => mget none s.fab.heard n with
        | some h => h.ann
        | none => s.ownAnn
      if (s.fab.source.isSome || s.candidate) && !annBetter m cur then s
      else ((s.modFab fun f => { f with rejected := f.rejected ++ [key] }).count32Sat (fabKey 0x1B) 1).fabricEvent
  else s.modFab fun f => { f with rejected := f.rejected.erase key }

/-- The correction of a measured offset to the source, own Beat less the source's (R229). -/
def State.correct (s : State) (off : Int) (hops : Nat) : State :=
  let near := decide (off.natAbs < 10)
  let close := if near then s.fab.close + 1 else 0
  let locked := decide (16 ≤ close) || (s.beatState == bsLocked && near)
  let s := s.wr (fabKey 0x12) (BitVec.ofNat 64 (BitVec.ofInt 32 off).toNat)
  let s := s.wrN (fabKey 0x18) (errorBound hops + (if locked then 0 else off.natAbs))
  let first := !s.fab.acquired && !s.fab.everLocked
  let never := !s.fab.everLocked
  let s :=
    if first && decide (off < 0) then
      ({ s with beat := s.beat + off.natAbs }.count32Sat (fabKey 0x1A) 1).modFab fun f => { f with slew := 0, hold := 0 }
    else if never && decide (0 < off) then s.modFab fun f => { f with hold := off.natAbs, slew := 0 }
    else s.modFab fun f => { f with slew := -off, hold := 0 }
  let s := s.modFab fun f =>
    { f with acquired := true, close := close, lastSrc := s.beatIx, everLocked := f.everLocked || locked }
  if locked then s.wrN (fabKey 0x10) bsLocked else s

/-- TEMPO_RECEIVE (R226, R228, R229). -/
def tempoReceiveEff (n : Port) (t : TempoRx) (s : State) : State :=
  if (s.port n).st ≠ .active then s
  else
    let rtt : Int := ((t.localRx : Int) - t.localTx) - ((t.sendTime : Int) - t.partnerRx)
    let delay : Nat := (rtt / 2).toNat
    let s := (s.wrN (portKey n 5) delay).setPort n { s.port n with tempoRx := t.localRx }
    if s.role n ≠ 0 then s
    else
      let off : Int := (t.localRx : Int) - ((t.sendTime : Int) + delay)
      let s :=
        match t.ann with
        | none => s
        | some a =>
          let m : MasterAnn := { a with hops := a.hops + 1 }
          if annSame m s.ownAnn then s
          else (s.modFab fun f => { f with heard := mset none f.heard n (some ⟨m, s.beatIx⟩) }).noteMaster m off
      let s := s.reselect false
      if s.fab.source = some n.val then s.correct off (s.rdN (fabKey 0x13)) else s

/-- MASTER_ANNOUNCEMENT_TIMEOUT (R228): an announcement not refreshed for 128 beats is forgotten. -/
def masterAnnouncementTimeoutEff (addr : FabAddr) (serial : Word) (s : State) : State :=
  let named (h : Heard) : Bool := h.ann.addr == addr && h.ann.serial == serial
  let fresh := s.fab.heard.any fun kv => match kv.2 with
    | some h => named h && decide (s.beatIx < h.at_ + 128)
    | none => false
  let present := s.fab.heard.any fun kv => match kv.2 with
    | some h => named h
    | none => false
  if fresh || !present then s
  else
    let s := s.modFab fun f => { f with
      rejected := f.rejected.erase (addr, serial),
      heard := f.heard.filter fun kv => match kv.2 with
        | some h => !named h
        | none => false }
    s.reselect true

/-- HOLDOVER_ENTRY (R230): no TEMPO flit from the source for 64 beats, and no other port with a path to the master. -/
def holdoverEntryEff (s : State) : State :=
  match s.fab.source with
  | none => s
  | some n =>
    if s.wasLocked ∧ s.fab.lastSrc + 64 ≤ s.beatIx then
      match s.heardPorts.filter fun h => h.1 != n && s.fab.master == some (h.2.addr, h.2.serial) with
      | [] => s.enterHoldover
      | _ => (s.modFab fun f => { f with heard := mset none f.heard n none }).reselect false
    else s

/-- The slewing that brings the Beat onto a multiple of 10^9 ns. -/
def ppsSlew (beat : Nat) : Int :=
  let e : Nat := beat % 1000000000
  if e < 500000000 then -(e : Int) else ((1000000000 - e : Nat) : Int)

/-- TIME_PPS_EDGE (R231, R462): the first edge is taken wherever it falls, a later one only within 1 ms of a multiple of
10^9 ns. -/
def timePpsEdgeEff (s : State) : State :=
  if s.beatState ≠ bsMaster ∨ s.rdN (fabKey 0x19) = 0 then s
  else
    let d := ppsSlew s.beat
    if s.fab.pps = false ∨ d.natAbs ≤ 1000000 then s.modFab fun f => { f with pps := true, slew := d } else s

/-- TIME_PPS_LOSS (R231, R462): the master runs from its reference. -/
def timePpsLossEff (s : State) : State :=
  if s.fab.pps then s.modFab fun f => { f with pps := false, slew := 0 } else s

/-- The Beat counter one beat on (R14, R229): a correction of at most 1 ns in 1,024, or held still. A master with
TIME_PPS_EN = 0 makes none (R231). -/
def State.advanceBeat (s : State) (ns : Nat) : State :=
  let f := s.fab
  if 0 < f.hold then
    let stay := min f.hold ns
    { s with beat := s.beat + (ns - stay), fab := { f with hold := f.hold - stay } }
  else
    let most : Int := (ns / 1024 : Nat)
    let slew : Int := if s.beatState = bsMaster ∧ s.rdN (fabKey 0x19) = 0 then 0 else f.slew
    let d : Int := max (-most) (min most slew)
    { s with beat := ((s.beat + ns : Nat) + d).toNat, fab := { f with slew := slew - d } }

end Sys2Proof.Machine
end

