-- ==== Sys2Proof/Machine/Tick.lean ====
section
/-! DEFINITION. The passing of one beat, 1,024 ns, while no command waits: the clocks, the cycle classes of every core, and
what the device does at its own pace (R14, R21, R131, R132, R308, R413, R415; log entry 17). -/

namespace Sys2Proof.Machine

/-! ## Cycle classes (R131) -/

/-- Whether core `c` saves or restores a context, or holds a stopped one (R131). -/
def State.preempted (s : State) (c : Nat) : Bool :=
  (ctxIds (s.lead (c / 16))).any fun k =>
    let x := s.ctx k
    (x.state == .loading || x.state == .evicting || (x.state == .teardown && x.onCores) ||
      (x.state == .resident && x.evictReq)) && (s.ctxCores k).contains c

/-- The first idle cause in the order of R131. -/
def firstCause (cs : List CycleClass) : CycleClass :=
  if cs.contains .beat then .beat
  else if cs.contains .dma then .dma
  else if cs.contains .collective then .collective
  else if cs.contains .streamIn then .streamIn
  else .streamOut

/-- The class of the cycles that core `c` now passes (R131): log entry 18 for what the table of R131 leaves, among it a core
that stands at the entry or end of a loop of whole tiles (BUSY). A tile whose walnut drain waits for its bucket, or whose
contribution waits for a context, counts as the collective idle cause (R84, R249). -/
def State.cycleClass (s : State) (c : Nat) : CycleClass :=
  let x := s.core c
  if s.pN (c / 16) 1 = 3 then .powerWake
  else if x.run.tile.isSome then (if x.drains || s.collWaits c then .collective else .busy)
  else if s.preempted c then .preempted
  else if (s.nextTile c).isNone then (if s.atBoundary c then .busy else .done)
  else
    let open_ := s.openGates c
    if !open_.isEmpty then firstCause (open_.map gateClass)
    else if !s.clusterAwake (c / 16) then .powerWake
    else .busy

/-- Cycles of a class more for the live counters of core `c` (R132); they stop in partition-off (R131). -/
def State.countIdle (s : State) (c n : Nat) : State :=
  if s.pN (c / 16) 1 = 2 then s
  else s.modCore c fun x => { x with idle := mmod 0#64 x.idle (s.cycleClass c).num fun w => w + BitVec.ofNat 64 n }

/-- The class of a launch's cycles on core `c` of its core set (R131): PREEMPTED while its context is not on the core. -/
def State.launchClass (s : State) (k c : Nat) : CycleClass :=
  if (s.core c).run.launch = some k then s.cycleClass c else .preempted

/-- A launch's cycles, summed over its core set (R131); `cyc` gives the cycles of a partition's clock. -/
def State.countLaunch (s : State) (cyc : Nat → Nat) (k : Nat) (l : Launch) : State :=
  let cores := (imgCores l.img).filterMap (s.groupCore (k / 256))
  s.setLaunch k { l with cycles := cores.foldl (fun (m : SMap Nat) (c : Nat) =>
    mmod 0 m (s.launchClass k c).num fun n => n + cyc (c / 16)) l.cycles }

/-- Counting a beat's cycles, with every class as it stood when the beat began. -/
def State.countCycles (s : State) (cyc : Nat → Nat) : State :=
  let counted := s.launches.foldl (fun (t : State) (kv : Nat × Launch) =>
    match (s.countLaunch cyc kv.1 kv.2).launch kv.1 with
    | some l => t.setLaunch kv.1 l
    | none => t) s
  (List.range 256).foldl (fun (t : State) (c : Nat) => t.setCore c ((s.countIdle c (cyc (c / 16))).core c)) counted

/-! ## Watchdog counts (R331, R332, R336) -/

/-- What the tile watchdog and the gate watchdog of core `c` count in a beat. -/
def State.watchCore (s : State) (c : Nat) : State :=
  let p := c / 16
  match s.launchOf c with
  | none => s
  | some (_, l) =>
    if (s.core c).run.tile.isSome then
      if s.slotsAllowed p < 16 ∨ s.clusterAwake p = false then s
      else s.modCore c fun x => { x with run := { x.run with tileBeats := x.run.tileBeats + 1 } }
    else if (s.ctx l.ctx).state ≠ .resident then
      s.modCore c fun x => { x with run := { x.run with gateBeats := 0 } }
    else if s.atBoundary c && (s.openGates c).any fun g => !gateIsBeat g then
      s.modCore c fun x => { x with run := { x.run with gateBeats := x.run.gateBeats + 1 } }
    else s

/-- What the scan watchdog counts in a beat for one launch slot (R333). -/
def State.watchSlot (s : State) (k : Nat) : State :=
  let x := s.slot (k / 256) (k % 256)
  s.setSlot (k / 256) (k % 256) { x with readyBeats := if s.startable (k / 256) (k % 256) then x.readyBeats + 1 else 0 }

/-- The watchdog counts of every partition that runs its watchdogs and no self-test (R336). -/
def State.watch (s : State) : State :=
  let on (t : State) (p : Nat) : Bool := t.watchdogsRun p && !t.bistRuns p
  let s := (List.range 256).foldl (fun (t : State) (c : Nat) => if on t (c / 16) then t.watchCore c else t) s
  s.slots.foldl (fun (t : State) (kv : Nat × LSlot) => if on t (kv.1 / 256) then t.watchSlot kv.1 else t) s

/-! ## Beats of rest (R413, R415) -/

/-- Whether a cluster's cores all count NO_WORK (R413). -/
def State.clusterRests (s : State) (p : Nat) : Bool :=
  (List.range 16).all fun q => s.cycleClass (16 * p + q) == .done

/-- One more beat of rest, or none. -/
def restOn (on : Bool) (m : SMap Nat) (p : Nat) : SMap Nat := if on then mmod 0 m p fun n => n + 1 else mdel m p

/-- The beats for which clusters have had no work and groups have been drained. -/
def State.countRest (s : State) : State :=
  s.modPow fun w => { w with
    noWork := (List.range 16).foldl (fun (m : SMap Nat) (p : Nat) => restOn (s.clusterRests p) m p) w.noWork,
    drained := (List.range 16).foldl (fun (m : SMap Nat) (p : Nat) => restOn (s.isLead p && s.drained p) m p) w.drained }

/-! ## One beat -/

/-- Cycles of cluster `p`'s clock in the beat that ends at `t`, at its set frequency (R131). -/
def State.beatCycles (s : State) (t p : Nat) : Nat := s.cyclesIn p t - s.cyclesIn p (t - 1024)

/-- What a running device does in a beat. -/
def State.runBeat (s : State) : State :=
  let s := (s.countCycles (s.beatCycles s.mgmt.ns)).watch.countRest.advanceBeat 1024
  let s := (List.range 16).foldl (fun (t : State) (p : Nat) => if t.isLead p then t.noteCtxs p else t) s
  let s := s.resetPhases
  let s := if s.tangoDrained then s.sendChunk else s
  s.stepRestore

/-- One beat. The management controller's clock runs while the input supplies the always-on rail (R21); the Beat counter
stands in Retention (R419) and after a thermal trip. -/
def State.tick (s : State) : State :=
  if s.pow.mode = .off then s
  else
    let s := { s with mgmt := { s.mgmt with ns := s.mgmt.ns + 1024 } }
    if s.pow.mode = .on ∧ s.rdN (pwKey 7) = 0 then s.runBeat else s

end Sys2Proof.Machine
end

