-- ==== Sys2Proof/Machine/Vector.lean ====
section
/-! DEFINITION. The vector unit: elementwise operations, Poppy draws, row reductions, softmax and norms forward and backward
(R37, R38, R48, R72, R73, R88 to R93). -/

namespace Sys2Proof.Machine

/-- A vector source that has passed its checks. -/
inductive VOpen where
  | reg (r : Fin 32)
  | mem (src : Src)
  | imm (v : Word32)
  deriving DecidableEq, Repr

/-- Opening a vector source of `n` elements that is to be presented as `fmt`. A descriptor that does not count n elements, for
which the manual gives no outcome, ends the operation with operand layout: DESIGN CHOICE (log entry 90). -/
def openV (s : State) (c n : Nat) (fmt : Format) (v : VSrc) : Except Nat (State × VOpen) :=
  match v with
  | .reg r => .ok (s, .reg r)
  | .imm w => .ok (s, .imm w)
  | .mem d =>
    if d.n0 * descRows d ≠ n then .error stOperandLayout
    else
      match openSrc s c d fmt with
      | .error e => .error e
      | .ok (s, src) => .ok (s, .mem src)

/-- The FP32 codes of an opened source, through the load converter when it lies in scratchpad (R72). -/
def VOpen.codes (v : VOpen) (s : State) (c n : Nat) : List Word32 × State :=
  match v with
  | .reg r => ((List.range n).map fun i => (s.core c).vreg r i, s)
  | .imm w => (List.replicate n w, s)
  | .mem src =>
    let (ws, s) := loadConvert s c src.desc .fp32 0 (src.all s c)
    (ws.map fun w => w.truncate 32, s)

/-- The FP64 codes of an opened source: FP64 element i of a register run lies in elements 2i (low half) and 2i + 1 (log
entry 31). -/
def VOpen.codes64 (v : VOpen) (s : State) (c n : Nat) : List Word × State :=
  match v with
  | .reg r =>
    ((List.range n).map fun i =>
      ((s.core c).vreg r (2 * i + 1)).zeroExtend 64 <<< 32 ||| ((s.core c).vreg r (2 * i)).zeroExtend 64, s)
  | .imm w => ((List.replicate n (encode .fp64 .rne .nonsat false (ofF32 false w)).1), s)
  | .mem src => loadConvert s c src.desc .fp64 0 (src.all s c)

/-- Whether a source lies in scratchpad rather than in a register or a channel. -/
def srcInSpad : VSrc → Bool
  | .mem d => d.chan.isNone
  | .reg _ | .imm _ => false

/-- Whether a destination lies in scratchpad. -/
def dstInSpad : VDst → Bool
  | .mem d => d.chan.isNone
  | .reg _ => false

/-- An operation of the vector unit meets the Shell outcome of its reads, and its stalls at scratchpad banks are counted
(R70, R74, R136, R148). -/
def State.vecMeets (s : State) (c : Nat) (spad : Bool) (o : ShellOutcome) : State × Bool :=
  (if spad then s.waits (c / 16) 0x47 else s).opRead c spad o

/-! ## Operations -/

/-- What an operation of one element gives: an exact value still to be rounded, a finished FP32 code, or the enclosed result
of an operation that R48 bounds, with what its choice depends on. -/
inductive VRes where
  | exact (v : Num) (f : Flg)
  | code (w : Word32) (f : Flg)
  | near (fn : VecFn) (ca cb : Word32) (y : Near) (b : Bound)
  deriving DecidableEq, Repr

/-- Minimum or maximum: a NaN operand gives NaN; which zero of unlike signs is given is open (log entry 13). -/
def vMinMax (isMax : Bool) (ca cb : Word32) (a b : Num) : Num :=
  if a.isNan || b.isNan then .nan
  else if a.lt b then (if isMax then b else a)
  else if b.lt a then (if isMax then a else b)
  else if Config.zeroPick isMax ca cb then a else b

/-- The bound of divide, square root, reciprocal and reciprocal square root (R48). -/
def bound1 : Bound := ⟨1, false⟩

/-- The bound of exp, exp2, log and log2 (R48). -/
def bound2 : Bound := ⟨2, false⟩

/-- The bound of tanh, sigmoid, erf and GELU (R48). -/
def bound4 : Bound := ⟨4, true⟩

/-- Infinity of a sign, as an FP32 code. -/
def infCode (neg : Bool) : Word32 := if neg then 0xFF800000#32 else 0x7F800000#32

/-- Zero of a sign, as an FP32 code. -/
def zeroCode (neg : Bool) : Word32 := if neg then 0x80000000#32 else 0#32

/-- The FP32 NaN. -/
def nan32 : Word32 := 0x7FC00000#32

/-- Division within 1 ulp: NaN and NV for 0/0 and ∞/∞; ±∞ without a flag for a finite value over zero (R48, R53). -/
def vDiv (fn : VecFn) (ca cb : Word32) (a b : Num) : VRes :=
  match a, b with
  | .nan, _ => .code nan32 0#4
  | _, .nan => .code nan32 0#4
  | .inf _, .inf _ => .code nan32 flNV
  | .inf s, .fin t _ _ => .code (infCode (s != t)) 0#4
  | .fin s _ _, .inf t => .code (zeroCode (s != t)) 0#4
  | .fin s m e, .fin t n f =>
    if n = 0 then (if m = 0 then .code nan32 flNV else .code (infCode (s != t)) 0#4)
    else if m = 0 then .code (zeroCode (s != t)) 0#4
    else .near fn ca cb ((nearQuot m n (e - f)).signed (s != t)) bound1

/-- Square root within 1 ulp: NaN and NV for a negative value; a zero keeps its sign (R48, R49). -/
def vSqrt (ca : Word32) (a : Num) : VRes :=
  match a with
  | .nan => .code nan32 0#4
  | .inf s => if s then .code nan32 flNV else .code (infCode false) 0#4
  | .fin s m e =>
    if m = 0 then .code (zeroCode s) 0#4
    else if s then .code nan32 flNV
    else .near .sqrt ca 0#32 (nearRoot m e) bound1

/-- Reciprocal square root within 1 ulp. -/
def vRsqrt (ca : Word32) (a : Num) : VRes :=
  match a with
  | .nan => .code nan32 0#4
  | .inf s => if s then .code nan32 flNV else .code (zeroCode false) 0#4
  | .fin s m e =>
    if m = 0 then .code (infCode s) 0#4
    else if s then .code nan32 flNV
    else .near .rsqrt ca 0#32 (nearRsqrt m e) bound1

/-- The enclosed result of exp to GELU on a finite ±m × 2^e; the logarithms take a positive operand. -/
def nearFn (fn : VecFn) (neg : Bool) (m : Nat) (e : Int) : Near × Bound :=
  match fn with
  | .exp => (nearExp neg m e, bound2)
  | .exp2 => (nearExp2 neg m e, bound2)
  | .log => (nearLog false m e, bound2)
  | .log2 => (nearLog true m e, bound2)
  | .tanh => ((nearTanh m e).signed neg, bound4)
  | .sigmoid => (nearSigmoid neg m e, bound4)
  | .erf => ((nearErf m e).signed neg, bound4)
  | _ => (nearGelu neg m e, bound4)

/-- exp to GELU of an infinity: the limit, which the manual does not state: PRESUMED (log entry 12). -/
def transInf (fn : VecFn) (neg : Bool) : VRes :=
  match fn with
  | .exp | .exp2 => .code (if neg then 0#32 else infCode false) 0#4
  | .log | .log2 => if neg then .code nan32 flNV else .code (infCode false) 0#4
  | .tanh | .erf => .code (if neg then 0xBF800000#32 else 0x3F800000#32) 0#4
  | .sigmoid => .code (if neg then 0#32 else 0x3F800000#32) 0#4
  | _ => .code (if neg then 0x80000000#32 else infCode false) 0#4

/-- exp to GELU: NaN propagates; a logarithm of a negative value is NaN with NV, and one of a zero −∞ without a flag (R49,
R53); every other result lies within the bound of R48 (log entry 12). -/
def vTrans (fn : VecFn) (ca : Word32) (a : Num) : VRes :=
  let isLog := fn == .log || fn == .log2
  match a with
  | .nan => .code nan32 0#4
  | .inf s => transInf fn s
  | .fin s m e =>
    if isLog = true ∧ m = 0 then .code (infCode true) 0#4
    else if isLog = true ∧ s = true then .code nan32 flNV
    else .near fn ca 0#32 (nearFn fn s m e).1 (nearFn fn s m e).2

/-- One element of an elementwise operation (R72). -/
def vElem (fn : VecFn) (ftz : Bool) (down : Bool) (ca cb cc : Word32) : VRes :=
  let a := ofF32 ftz ca
  let b := ofF32 ftz cb
  let d := ofF32 ftz cc
  let ex (r : Num × Flg) : VRes := .exact r.1 r.2
  match fn with
  | .add => ex (a.add down b)
  | .sub => ex (a.add down b.neg)
  | .mul => ex (a.mul b)
  | .fma => ex (a.fma down b d)
  | .min => .exact (vMinMax false ca cb a b) 0#4
  | .max => .exact (vMinMax true ca cb a b) 0#4
  | .select => .exact (if cc = Config.cmpCode true then a else b) 0#4
  | .cmpLt => .code (Config.cmpCode (!a.isNan && !b.isNan && a.lt b)) 0#4
  | .cmpLe => .code (Config.cmpCode (!a.isNan && !b.isNan && !b.lt a)) 0#4
  | .cmpEq => .code (Config.cmpCode (a.eqv b)) 0#4
  | .cvt => .exact a 0#4
  | .div => vDiv .div ca cb a b
  | .sqrt => vSqrt ca a
  | .recip => vDiv .recip 0x3F800000#32 ca (.fin false 1 0) a
  | .rsqrt => vRsqrt ca a
  | .exp | .exp2 | .log | .log2 | .tanh | .sigmoid | .erf | .gelu => vTrans fn ca a
  | .draw16 | .draw32 | .draw64 | .add64 | .mul64 | .fma64 => .exact .zero 0#4

/-- The value that SR to a format starts from: the exact result, or the 40-bit internal result of an operation whose exact
result may not be representable (R38). -/
def srValue (fmt : Format) (r : VRes) : Num × Flg :=
  match r with
  | .exact v f => (v, f)
  | .code w f => (ofF32 false w, f)
  | .near fn ca cb y b =>
    match fpar fmt with
    | some f => (y.internal b (Config.internalChoice fn ca cb) f.p (if fmtIsMx fmt then -149 else f.qmin), 0#4)
    | none => (y.internal b (Config.internalChoice fn ca cb) 24 (-149), 0#4)

/-- Whether an operation is a compare (R38). -/
def isCmp (fn : VecFn) : Bool := fn == .cmpLt || fn == .cmpLe || fn == .cmpEq

/-- A rounding mode that draws no bits, as it applies to one value. -/
def plainRnd : Rounding → Rnd
  | .rne => .rne
  | .rtz => .rtz
  | .rup => .rup
  | .rdn => .rdn
  | .sr => .rne

/-- The finished FP32 code of a result under a mode other than SR. -/
def VRes.finish (r : VRes) (rnd : Rounding) (ftz : Bool) : Word32 × Flg :=
  match r with
  | .exact v f =>
    let (w, g) := toF32 (plainRnd rnd) ftz v
    (w, f ||| g)
  | .code w f => (w, f)
  | .near fn ca cb y b => y.code b (Config.ulpChoice fn ca cb) (plainRnd rnd) ftz

/-- Values in rows of `n0` for a store. -/
def rowsOf {α : Type} (n0 : Nat) : Nat → List α → List (List α)
  | 0, _ => []
  | r + 1, vs => vs.take n0 :: rowsOf n0 r (vs.drop n0)

/-- Whether a vector destination of `n` elements can be written. -/
def checkV (s : State) (c n : Nat) (v : VDst) (copy : Bool) : Option Nat :=
  match v with
  | .reg _ => none
  | .mem d => if d.n0 * descRows d ≠ n then some stOperandLayout else checkDst s c d copy

/-- FP32 codes to a vector destination: a register, or the store converter (R72). -/
def storeV (s : State) (c : Nat) (v : VDst) (codes : List Word32) : State :=
  match v with
  | .reg r => s.modCore c fun x => vregWrite x r.val 0 codes
  | .mem d => storeDst s c d (rowsOf d.n0 (descRows d) (codes.map fun w => ofF32 false w))

/-- Whether SR may be named: only with a destination in FP8, MX elements, BF16 or FP16 through the store converter
(R37). -/
def srDstOk : VDst → Bool
  | .reg _ => false
  | .mem d => convModeOk d.fmt .sr

/-- Draws for elements `i` on, from the lanes that issue them (R93). The bits stand zero-extended as the element's FP32 code,
and a memory destination converts that code's value: DESIGN CHOICE (log entry 91). -/
def drawElems (c : Nat) (wide : Bool) : Nat → Nat → CoreSt → List Word32 × CoreSt
  | 0, _, x => ([], x)
  | n + 1, i, x =>
    let (v, x) := if wide then x.draw32 c i else x.draw16 c i
    let (vs, x) := drawElems c wide n (i + 1) x
    (BitVec.ofNat 32 v :: vs, x)

/-- 64-bit draws for elements `i` on (R93), which stand as FP64 elements do. -/
def drawElems64 (c : Nat) : Nat → Nat → CoreSt → List Word × CoreSt
  | 0, _, x => ([], x)
  | n + 1, i, x =>
    let (v, x) := x.draw64 c i
    let (vs, x) := drawElems64 c n (i + 1) x
    (v :: vs, x)

/-- The exact result of one element of an FP64 operation (R72). -/
def vExact64 (fn : VecFn) (rnd : Rounding) (ca cb cc : Word) : Num × Flg :=
  let a := decode .fp64 false ca
  let b := decode .fp64 false cb
  let d := decode .fp64 false cc
  let down := rnd == .rdn
  match fn with
  | .add64 => a.add down b
  | .mul64 => a.mul b
  | _ => a.fma down b d

/-- One element of an FP64 operation rounded to FP64. -/
def vElem64 (fn : VecFn) (rnd : Rounding) (ca cb cc : Word) : Word × Flg :=
  let (v, f) := vExact64 fn rnd ca cb cc
  let (w, g) := encode .fp64 (plainRnd rnd) .nonsat false v
  (w, f ||| g)

/-- FP64 codes to a vector destination. -/
def storeV64 (s : State) (c : Nat) (v : VDst) (codes : List Word) : State :=
  match v with
  | .reg r =>
    s.modCore c fun x =>
      vregWrite x r.val 0 (codes.flatMap fun (w : Word) => [BitVec.truncate 32 w, BitVec.truncate 32 (w >>> 32)])
  | .mem d => storeDst s c d (rowsOf d.n0 (descRows d) (codes.map fun w => decode .fp64 false w))

/-- Whether an operation works on FP64 elements. -/
def is64 (fn : VecFn) : Bool := fn == .add64 || fn == .mul64 || fn == .fma64

/-- The flags of a list of results. -/
def orFlags {α : Type} (l : List (α × Flg)) : Flg := l.foldl (fun a e => a ||| e.2) 0#4

/-- The codes or values of an FP64 operation to its destination: SR rounds the exact result once, to the destination (R38). -/
def State.vectorRun64 (s : State) (c : Core) (op : VecOp) (ts : List (Word × Word × Word)) : State :=
  match op.round, op.dst with
  | .sr, .mem d =>
    let vs := ts.map fun t => vExact64 op.fn op.round t.1 t.2.1 t.2.2
    storeDst (s.raiseFlags c .vec (orFlags vs)) c { d with round := .sr }
      (rowsOf d.n0 (descRows d) (vs.map Prod.fst))
  | _, dst =>
    let rs := ts.map fun t => vElem64 op.fn op.round t.1 t.2.1 t.2.2
    storeV64 (s.raiseFlags c .vec (orFlags rs)) c dst (rs.map Prod.fst)

/-- The results of an FP32 operation to its destination: SR rounds the exact or internal result once, to the destination, and
a compare draws nothing (R37, R38). -/
def State.vectorRun32 (s : State) (c : Core) (op : VecOp) (rs : List VRes) : State :=
  let ftz := s.ftz c
  match op.round, op.dst with
  | .sr, .mem d =>
    if isCmp op.fn then
      storeDst s c { d with round := .rne }
        (rowsOf d.n0 (descRows d) (rs.map fun r => ofF32 false (r.finish .rne ftz).1))
    else
      let vs := rs.map fun r => srValue d.fmt r
      storeDst (s.raiseFlags c .vec (orFlags vs)) c { d with round := .sr }
        (rowsOf d.n0 (descRows d) (vs.map Prod.fst))
  | rnd, dst =>
    let fs := rs.map fun r => r.finish rnd ftz
    storeV (s.raiseFlags c .vec (orFlags fs)) c dst (fs.map Prod.fst)

/-- A vector operation whose operands are open (R72, R37, R38, R93). -/
def State.vectorRun (s : State) (c : Core) (op : VecOp) (va vb vc : VOpen) : State :=
  if op.fn = .draw64 then
    let (codes, x) := drawElems64 c op.n 0 (s.core c)
    storeV64 (s.setCore c x) c op.dst codes
  else if op.fn = .draw16 ∨ op.fn = .draw32 then
    let (codes, x) := drawElems c (op.fn == .draw32) op.n 0 (s.core c)
    storeV (s.setCore c x) c op.dst codes
  else if is64 op.fn then
    let (as, s) := va.codes64 s c op.n
    let (bs, s) := vb.codes64 s c op.n
    let (cs, s) := vc.codes64 s c op.n
    s.vectorRun64 c op (as.zip (bs.zip cs))
  else
    let (as, s) := va.codes s c op.n
    let (bs, s) := vb.codes s c op.n
    let (cs, s) := vc.codes s c op.n
    s.vectorRun32 c op ((as.zip (bs.zip cs)).map fun t =>
      vElem op.fn (s.ftz c) (op.round == .rdn) t.1 t.2.1 t.2.2)

/-- The format in which an operation takes its operands. -/
def opFmt (fn : VecFn) : Format := if is64 fn then .fp64 else .fp32

/-- Whether an operation reads or writes its core's scratchpad. -/
def vecInSpad (op : VecOp) : Bool := srcInSpad op.a || srcInSpad op.b || srcInSpad op.c || dstInSpad op.dst

/-- VECTOR_OPERATION (R72): one instruction across the lanes. A mode that the block does not have ends it with operand
layout, drawing nothing and setting no flag (R37). -/
def vectorOperationEff (c : Core) (op : VecOp) (shell : ShellOutcome) (s : State) : State :=
  if s.coreRuns c = false then s
  else if op.round = .sr ∧ srDstOk op.dst = false then s.opFail c stOperandLayout
  else
    match checkV s c op.n op.dst (op.round == .sr) with
    | some code => s.opFail c code
    | none =>
      match openV s c op.n (opFmt op.fn) op.a with
      | .error code => s.opFail c code
      | .ok (s1, va) =>
        match openV s1 c op.n (opFmt op.fn) op.b with
        | .error code => s.opFail c code
        | .ok (s2, vb) =>
          match openV s2 c op.n (opFmt op.fn) op.c with
          | .error code => s.opFail c code
          | .ok (s3, vc) =>
            let (s4, goes) := s3.vecMeets c (vecInSpad op) shell
            if goes = false then s4 else s4.vectorRun c op va vb vc

/-! ## Row reductions (R73) -/

/-- The identity that pads a row to a power of two. -/
def redIdentity : RedOp → Word32
  | .sum => 0#32
  | .max => 0xFF800000#32
  | .min => 0x7F800000#32

/-- One combination of the tree, rounded in the operation's mode. -/
def redCombine (op : RedOp) (rnd : Rounding) (ftz : Bool) (a b : Word32) : Word32 × Flg :=
  match op with
  | .sum => (vElem .add ftz (rnd == .rdn) a b 0#32).finish rnd ftz
  | .max => (vElem .max ftz false a b 0#32).finish .rne ftz
  | .min => (vElem .min ftz false a b 0#32).finish .rne ftz

/-- One level of the tree over adjacent pairs. -/
def redLevel (f : Word32 → Word32 → Word32 × Flg) : List Word32 → List Word32 × Flg
  | a :: b :: rest =>
    let (r, g) := f a b
    let (rs, h) := redLevel f rest
    (r :: rs, g ||| h)
  | l => (l, 0#4)

/-- The fixed binary tree over 2^n elements. -/
def redTree (f : Word32 → Word32 → Word32 × Flg) : Nat → List Word32 → Flg → Word32 × Flg
  | 0, l, g => (l.headD 0#32, g)
  | n + 1, l, g =>
    let (l, h) := redLevel f l
    redTree f n l (g ||| h)

/-- The levels of the tree over n elements: the least k with n ≤ 2^k. -/
def redLevels (n : Nat) : Nat := if n ≤ 1 then 0 else Nat.log2 (n - 1) + 1

/-- A row reduced by the tree, padded with the identity (R73). -/
def reduceRow (op : RedOp) (rnd : Rounding) (ftz : Bool) (row : List Word32) : Word32 × Flg :=
  let k := redLevels row.length
  redTree (redCombine op rnd ftz) k (row ++ List.replicate (2 ^ k - row.length) (redIdentity op)) 0#4

/-- A reduction whose operands are open (R73). R73 has each addition round in the operation's mode and R38 has an operation
draw once for each element: under SR the tree's additions round by RNE and the one result draws as it is stored: DESIGN
CHOICE (log entry 92). -/
def State.reductionRun (s : State) (c : Core) (op : RowRed) (v : VOpen) : State :=
  let ftz := s.ftz c
  let (row, s) := v.codes s c op.n
  let (r, f) := reduceRow op.op op.round ftz row
  let s := s.raiseFlags c .vec f
  match op.round, op.dst with
  | .sr, .mem d => storeDst s c { d with round := .sr } [[ofF32 false r]]
  | _, dst => storeV s c dst [r]

/-- ROW_REDUCTION (R73): n up to 2^20; the one result goes to element 0 of the destination. A larger n, for which the manual
gives no outcome, ends in operand layout here and in the norms: DESIGN CHOICE (log entry 93). -/
def rowReductionEff (c : Core) (op : RowRed) (shell : ShellOutcome) (s : State) : State :=
  if s.coreRuns c = false then s
  else if op.n > 2 ^ 20 ∨ (op.round = .sr ∧ srDstOk op.dst = false) then s.opFail c stOperandLayout
  else
    match checkV s c 1 op.dst (op.round == .sr), openV s c op.n .fp32 op.src with
    | some code, _ => s.opFail c code
    | none, .error code => s.opFail c code
    | none, .ok (s', v) =>
      let (s', goes) := s'.vecMeets c (srcInSpad op.src || dstInSpad op.dst) shell
      if goes = false then s' else s'.reductionRun c op v

/-! ## Norms and softmax (R73, R88 to R90) -/

/-- A running computation: the flags raised so far ride along. -/
structure Acc32 where
  v : Word32
  f : Flg
  deriving DecidableEq, Repr

/-- One FP32 operation by RNE. -/
def op32 (fn : VecFn) (ftz : Bool) (a b d : Word32) : Word32 × Flg := (vElem fn ftz false a b d).finish .rne ftz

/-- An elementwise operation over lists, with the flags. -/
def map32 (fn : VecFn) (ftz : Bool) (as bs cs : List Word32) : List Word32 × Flg :=
  let rs := (as.zip (bs.zip cs)).map fun t => op32 fn ftz t.1 t.2.1 t.2.2
  (rs.map Prod.fst, orFlags rs)

/-- The tree sum of a row by RNE. -/
def treeSum32 (ftz : Bool) (row : List Word32) : Word32 × Flg := reduceRow .sum .rne ftz row

/-- The row length as an FP32 value. -/
def lenCode (n : Nat) : Word32 := (toF32 .rne false (.fin false n 0)).1

/-- A constant list. -/
def rep (n : Nat) (v : Word32) : List Word32 := List.replicate n v

/-- The statistics of a row as the forward forms them (R73, R88): softmax's maximum and sum, a norm's mean and reciprocal
root. The sequence by which a norm forms its moments is read as sum / n and sum of squares / n by the tree (log entry
32). -/
def rowStats (k : NormKind) (ftz : Bool) (x : List Word32) (eps : Word32) : (Word32 × Word32) × Flg :=
  let n := x.length
  match k with
  | .softmax =>
    let (mx, f0) := reduceRow .max .rne ftz x
    let (ds, f1) := map32 .sub ftz x (rep n mx) x
    let (es, f2) := map32 .exp ftz ds ds ds
    let (sm, f3) := treeSum32 ftz es
    ((mx, sm), f0 ||| f1 ||| f2 ||| f3)
  | .layer =>
    let (t, f0) := treeSum32 ftz x
    let (mu, f1) := op32 .div ftz t (lenCode n) 0#32
    let (ds, f2) := map32 .sub ftz x (rep n mu) x
    let (sq, f3) := map32 .mul ftz ds ds ds
    let (v, f4) := treeSum32 ftz sq
    let (var, f5) := op32 .div ftz v (lenCode n) 0#32
    let (ve, f6) := op32 .add ftz var eps 0#32
    let (r, f7) := op32 .rsqrt ftz ve 0#32 0#32
    ((mu, r), f0 ||| f1 ||| f2 ||| f3 ||| f4 ||| f5 ||| f6 ||| f7)
  | .rms =>
    let (sq, f3) := map32 .mul ftz x x x
    let (v, f4) := treeSum32 ftz sq
    let (ms, f5) := op32 .div ftz v (lenCode n) 0#32
    let (ve, f6) := op32 .add ftz ms eps 0#32
    let (r, f7) := op32 .rsqrt ftz ve 0#32 0#32
    ((0#32, r), f3 ||| f4 ||| f5 ||| f6 ||| f7)

/-- A row's softmax values exp(x - mx) / sm, or its normalised values (x - mu) × r (R89). -/
def rowNormed (k : NormKind) (ftz : Bool) (x : List Word32) (st : Word32 × Word32) : List Word32 × Flg :=
  let n := x.length
  match k with
  | .softmax =>
    let (ds, f1) := map32 .sub ftz x (rep n st.1) x
    let (es, f2) := map32 .exp ftz ds ds ds
    let (ys, f3) := map32 .div ftz es (rep n st.2) ds
    (ys, f1 ||| f2 ||| f3)
  | .layer | .rms =>
    let (ds, f1) := map32 .sub ftz x (rep n st.1) x
    let (ys, f2) := map32 .mul ftz ds (rep n st.2) ds
    (ys, f1 ||| f2)

/-- The byte offset of an 8-byte statistics pair that core `c` may reach (R88, R113). -/
def statsOff (s : State) (c : Nat) (a : Nat) : Except Nat Nat :=
  if a ≥ 2 ^ 32 then .error stOperandLayout
  else
    match s.groupCore (c / 16) (a / 2 ^ 25) with
    | none => .error stAccessRefused
    | some c' =>
      if c' ≠ c ∨ a % 2 ^ 25 + 8 > 2 ^ 25 ∨ a % 4 ≠ 0 then .error stOperandLayout else .ok (a % 2 ^ 25)

/-- The error of an optional statistics address. -/
def statsErr (s : State) (c : Nat) : Option Nat → Option Nat
  | none => none
  | some a =>
    match statsOff s c a with
    | .error e => some e
    | .ok _ => none

/-- A forward row operation whose operands are open (R88). -/
def State.normRun (s : State) (c : Core) (op : NormFwd) (vx vg : VOpen) : State :=
  let ftz := s.ftz c
  let (x, s) := vx.codes s c op.n
  let (g, s) := vg.codes s c op.n
  let (st, f0) := rowStats op.kind ftz x op.eps
  let (y, f1) := rowNormed op.kind ftz x st
  let (y, f2) := if op.kind = .softmax then (y, 0#4) else map32 .mul ftz y g g
  let s := s.raiseFlags c .vec (f0 ||| f1 ||| f2)
  let s :=
    match op.stats with
    | none => s
    | some a =>
      (s.writeLE (spadBase c + a % 2 ^ 25) 4 st.1.toNat).writeLE (spadBase c + a % 2 ^ 25 + 4) 4 st.2.toNat
  storeV s c op.y y

/-- Whether a forward row operation reads or writes its core's scratchpad. -/
def normInSpad (op : NormFwd) : Bool := srcInSpad op.x || srcInSpad op.gain || dstInSpad op.y || op.stats.isSome

/-- ROW_NORMALISATION (R73, R88): a forward softmax or norm over a row, which may write its statistics. -/
def rowNormalisationEff (c : Core) (op : NormFwd) (shell : ShellOutcome) (s : State) : State :=
  if s.coreRuns c = false then s
  else if op.n > 2 ^ 20 then s.opFail c stOperandLayout
  else
    match checkV s c op.n op.y false, statsErr s c op.stats with
    | some code, _ => s.opFail c code
    | none, some code => s.opFail c code
    | none, none =>
      match openV s c op.n .fp32 op.x with
      | .error code => s.opFail c code
      | .ok (s1, vx) =>
        match openV s1 c op.n .fp32 op.gain with
        | .error code => s.opFail c code
        | .ok (s2, vg) =>
          let (s3, goes) := s2.vecMeets c (normInSpad op) shell
          if goes = false then s3 else s3.normRun c op vx vg

/-- The backward of softmax over a row (R89). -/
def softmaxBack (ftz : Bool) (y dy : List Word32) : List Word32 × Flg :=
  let n := y.length
  let (ps, f0) := map32 .mul ftz dy y y
  let (d, f1) := treeSum32 ftz ps
  let (ts, f2) := map32 .sub ftz dy (rep n d) y
  let (dx, f3) := map32 .mul ftz y ts y
  (dx, f0 ||| f1 ||| f2 ||| f3)

/-- The backward of a norm over a row (R89): `layer` forms a and fuses it. -/
def normBack (layer : Bool) (ftz : Bool) (xh dy gain : List Word32) (r : Word32) : List Word32 × Flg :=
  let n := xh.length
  let (g, f0) := map32 .mul ftz dy gain gain
  let (a, f1) := if layer then treeSum32 ftz g else (0#32, 0#4)
  let (gx, f2) := map32 .mul ftz g xh xh
  let (b, f3) := treeSum32 ftz gx
  let (t, f4) := if layer then map32 .fma ftz xh (rep n b) (rep n a) else map32 .mul ftz xh (rep n b) xh
  let (q, f5) := map32 .div ftz t (rep n (lenCode n)) t
  let (u, f6) := map32 .sub ftz g q q
  let (dx, f7) := map32 .mul ftz (rep n r) u u
  (dx, f0 ||| f1 ||| f2 ||| f3 ||| f4 ||| f5 ||| f6 ||| f7)

/-- A backward row operation whose operands are open (R89, R90). -/
def State.normBackRun (s : State) (c : Core) (op : NormBwd) (vx vd vg : VOpen) : State :=
  let ftz := s.ftz c
  let (x, s) := vx.codes s c op.n
  let (dy, s) := vd.codes s c op.n
  let (g, s) := vg.codes s c op.n
  let (st, f0) :=
    match op.stats with
    | none => rowStats op.kind ftz x op.eps
    | some a =>
      ((if op.kind = .rms then 0#32 else BitVec.ofNat 32 (s.mem.readLE (spadBase c + a % 2 ^ 25) 4),
        BitVec.ofNat 32 (s.mem.readLE (spadBase c + a % 2 ^ 25 + 4) 4)), 0#4)
  let (y, f1) := rowNormed op.kind ftz x st
  let (dx, f2) :=
    match op.kind with
    | .softmax => softmaxBack ftz y dy
    | .layer => normBack true ftz y dy g st.2
    | .rms => normBack false ftz y dy g st.2
  storeV (s.raiseFlags c .vec (f0 ||| f1 ||| f2)) c op.dx dx

/-- Whether a backward row operation reads or writes its core's scratchpad. -/
def backInSpad (op : NormBwd) : Bool :=
  srcInSpad op.x || srcInSpad op.dy || srcInSpad op.gain || dstInSpad op.dx || op.stats.isSome

/-- NORM_BACKWARD (R89, R90): the native backward reads the saved statistics; the recompute mode forms them again. -/
def normBackwardEff (c : Core) (op : NormBwd) (shell : ShellOutcome) (s : State) : State :=
  if s.coreRuns c = false then s
  else if op.n > 2 ^ 20 then s.opFail c stOperandLayout
  else
    match checkV s c op.n op.dx false, statsErr s c op.stats with
    | some code, _ => s.opFail c code
    | none, some code => s.opFail c code
    | none, none =>
      match openV s c op.n .fp32 op.x with
      | .error code => s.opFail c code
      | .ok (s1, vx) =>
        match openV s1 c op.n .fp32 op.dy with
        | .error code => s.opFail c code
        | .ok (s2, vd) =>
          match openV s2 c op.n .fp32 op.gain with
          | .error code => s.opFail c code
          | .ok (s3, vg) =>
            let (s4, goes) := s3.vecMeets c (backInSpad op) shell
            if goes = false then s4 else s4.normBackRun c op vx vd vg

end Sys2Proof.Machine
end

