-- ==== Sys2Proof/Machine/WalnutDrain.lean ====
section
/-! DEFINITION. The walnut drain (R79, R81, R84, R85, R98). -/

namespace Sys2Proof.Machine

/-- Where a keep mask of `n` bytes lies: its device address, or the failing status code (R85, R113). -/
def maskAddr (s : State) (c a n : Nat) : Except Nat Nat :=
  match s.groupCore (c / 16) (a / 2 ^ 25) with
  | none => .error stAccessRefused
  | some c' =>
    if c' ≠ c ∨ a % 2 ^ 25 + n > 2 ^ 25 then .error stOperandLayout else .ok (spadBase c + a % 2 ^ 25)

/-- An entry's code multiplied by 2^e (R79). -/
def scaleEntry (ftz : Bool) (e : Int) (w : Word32) : Word32 × Flg :=
  let (v, f) := scaleTotal .fp32 ftz e (w.zeroExtend 64)
  let (r, g) := toF32 .rne ftz v
  (r, f ||| g)

/-- The kept entries scaled, with the flags. -/
def scaleEntries (ftz : Bool) (e : Int) : List Word32 → List Word32 × Flg
  | [] => ([], 0#4)
  | w :: ws =>
    let (r, f) := scaleEntry ftz e w
    let (rs, g) := scaleEntries ftz e ws
    (r :: rs, f ||| g)

/-- Bytes from a bucket's offset on that it takes now of `n` (R84, R249): what fits its context's window, or all of it where
nothing is kept. -/
def State.bucketRoom (s : State) (b : BucketDest) (n : Nat) : Nat :=
  let j := b.slot.val
  let known := (s.collCtx j (collKey b.step b.bucket)).isSome
  if s.jsState j ≠ 2 then n
  else if known = false ∧ 256 ≤ (s.cs j).ctxs.length then 0
  else
    let c := s.openCtx j b.step b.bucket
    if c.detached || c.own.gone || s.staged j then n
    else
      let m := min n (4096 * (c.own.next + s.window j) - b.offset)
      if m = n then n else m / 64 * 64

/-- The region's state in DRAINING, with `k` entries sent (R81). -/
def State.markDraining (s : State) (c : Nat) (r : WRegion) (k : Nat) : State :=
  s.modCore c fun x =>
    { x with regions := (x.regions.filter fun o => !o.named r) ++ [⟨r.base, r.len, some k⟩] }

/-- How many entries a drain of the region has sent so far. -/
def State.drainedTo (s : State) (c : Nat) (r : WRegion) : Nat :=
  match (s.core c).regions.find? fun o => o.named r with
  | some o => o.draining.getD 0
  | none => 0

/-- The entries of kept lines set to +0 (R84). -/
def State.zeroLines (s : State) (c : Nat) (r : WRegion) (lines : List Nat) : State :=
  lines.foldl (fun s j => s.zeroMem (entryAddr c (r.base + 16 * j)) 64) s

/-- Values in rows of `n`. -/
def inRows (n : Nat) : Nat → List Num → List (List Num)
  | 0, _ => []
  | k + 1, vs => vs.take n :: inRows n k (vs.drop n)

/-- The check of a drain's destination for `n` entries: the failing status code. -/
def wdrainCheck (s : State) (c : Nat) (op : WDrain) (n : Nat) : Option Nat :=
  match op.dest with
  | .spad d =>
    if d.n0 * descRows d ≠ n ∨ d.fmt = .int32 then some stOperandLayout else checkDst s c d false
  | .bucket b => if s.holder b.slot.val ≠ s.lead (c / 16) then some stAccessRefused else none
  | .vector _ => none

/-- The keep mask's address, where a drain names one (R84, R85). -/
def wdrainMask (s : State) (c : Nat) (op : WDrain) : Except Nat (Option Nat) :=
  match op.mask with
  | none => .ok none
  | some a => (maskAddr s c a ((op.region.len / 16 + 7) / 8)).map some

/-- The lines that a walnut drain sends (R84, R85). -/
def wdrainLines (s : State) (op : WDrain) (m : Option Nat) : List Nat := keptLines s.mem m (op.region.len / 16)

/-- The room that a drain reserved in a bucket is used up (R468). -/
def State.dropBucketRoom (s : State) (c : Nat) (b : BucketDest) : State :=
  s.modCore c fun x => { x with run := { x.run with
    resBucket := x.run.resBucket.filter fun r =>
      !(r.1 == b.slot.val && r.2.1 == b.step.toNat && r.2.2.1 == b.bucket.toNat) } }

/-- A drain to a bucket goes on (R84): as many lines as the bucket takes now leave, from the first unsent one; the region
stays in DRAINING while lines are left, and the drain waits for room. -/
def State.wdrainBucket (s : State) (c : Core) (op : WDrain) (b : BucketDest) (lines : List Nat) : State :=
  let k := s.drainedTo c op.region
  let left := lines.drop (k / 16)
  let n := s.bucketRoom { b with offset := b.offset + 4 * k } (64 * left.length) / 64
  let now := left.take n
  let (codes, f) := scaleEntries (s.ftz c) op.scale (keptEntries s c op.region now)
  match s.bucketDeliver { b with offset := b.offset + 4 * k } (wordsSeg codes) with
  | none => s.markDraining c op.region k
  | some s =>
    let s := ((s.raiseFlags c .conv f).countClass (c.val / 16) op.tag codes).waits (c.val / 16) 0x49
    if n < left.length then (s.zeroLines c op.region now).markDraining c op.region (k + 16 * n)
    else (s.closeRegion c op.region).dropBucketRoom c b

/-- A walnut drain whose checks hold (R84): the scaled entries of the kept lines go to their destination, and the region
closes once its last entry has been read. -/
def State.wdrainRun (s : State) (c : Core) (op : WDrain) (lines : List Nat) : State :=
  match op.dest with
  | .bucket b => s.wdrainBucket c op b lines
  | .spad d =>
    let ftz := s.ftz c
    let (codes, f) := scaleEntries ftz op.scale (keptEntries s c op.region lines)
    let s := (s.raiseFlags c .conv f).waits (c.val / 16) 0x49
    (storeDst s c d (inRows d.n0 (descRows d) (codes.map fun w => ofF32 ftz w))).closeRegion c op.region
  | .vector v =>
    let (codes, f) := scaleEntries (s.ftz c) op.scale (keptEntries s c op.region lines)
    let s := (s.raiseFlags c .conv f).waits (c.val / 16) 0x49
    (s.modCore c fun x => vregWrite x v.val 0 codes).closeRegion c op.region

/-- WALNUT_DRAIN (R84, R85): kept lines go out, every entry is zeroed, the region is EMPTY; a bucket without room makes the
drain wait in DRAINING, and the command takes it up again. -/
def walnutDrainEff (c : Core) (op : WDrain) (shell : ShellOutcome) (s : State) : State :=
  if s.coreRuns c = false then s
  else if regionOk op.region = false then s.opFail c stOperandLayout
  else
    match wdrainMask s c op with
    | .error code => s.opFail c code
    | .ok m =>
      let lines := wdrainLines s op m
      match wdrainCheck s c op (16 * lines.length) with
      | some code => s.opFail c code
      | none =>
        let (s, goes) := s.opReadWalnut c shell
        if goes = false then s else s.wdrainRun c op lines

end Sys2Proof.Machine
end

