-- ==== Sys2Proof/Machine/ExecBoot.lean ====
section
/-! DEFINITION. The meanings of the commands of bring-up and security (R428 to R453). -/

namespace Sys2Proof.Machine

/-- POWER_UP (R443). -/
def execPowerUp (s : State) : Host.Outcome State Fault Refusal :=
  s.outcome (powerUpEff s)

/-- RESET_RELEASE (R445). -/
def execResetRelease (obs : BringupObs) (s : State) : Host.Outcome State Fault Refusal :=
  s.outcome (resetReleaseEff obs s)

/-- JOB_READY (R446). -/
def execJobReady (microseconds : Nat) (s : State) : Host.Outcome State Fault Refusal :=
  s.outcome (jobReadyEff microseconds s)

/-- FW_LOAD (R431). -/
def execFwLoad (via : Via) (value : Word) (chk : ImageCheck) (s : State) : Host.Outcome State Fault Refusal :=
  s.outcome (fwLoadEff via value chk s)

/-- FW_UPDATE_START (R432). -/
def execFwUpdateStart (via : Via) (value : Word) (s : State) : Host.Outcome State Fault Refusal :=
  s.outcome (fwUpdateStartEff via value s)

/-- FW_UPDATE_DONE (R432). -/
def execFwUpdateDone (chk : ImageCheck) (flashOk : Bool) (s : State) : Host.Outcome State Fault Refusal :=
  s.outcome (fwUpdateDoneEff chk flashOk s)

/-- SVN_ADVANCE (R434). -/
def execSvnAdvance (via : Via) (value : Word) (s : State) : Host.Outcome State Fault Refusal :=
  s.outcome (svnAdvanceEff via value s)

/-- ATTEST_REQUEST (R436). -/
def execAttestRequest (via : Via) (p : Part) (value : Word) (s : State) : Host.Outcome State Fault Refusal :=
  s.outcome (attestRequestEff via p value s)

/-- RECLAIM (R439). -/
def execReclaim (via : Via) (p : Part) (value : Word) (s : State) : Host.Outcome State Fault Refusal :=
  s.outcome (reclaimEff via p value s)

end Sys2Proof.Machine
end

