-- ==== Sys2Proof/Machine/ExecColl.lean ====
section
/-! DEFINITION. The meanings of the commands of job slots and collectives (R234 to R271). -/

namespace Sys2Proof.Machine

/-- JOB_SLOT_ASSIGN (R234). -/
def execJobSlotAssign (via : Via) (j : JobSlot) (value : Word) (s : State) : Host.Outcome State Fault Refusal :=
  s.outcome (jobSlotAssignEff via j value s)

/-- SLOT_ENABLE (R236). -/
def execSlotEnable (via : Via) (j : JobSlot) (s : State) : Host.Outcome State Fault Refusal :=
  s.outcome (slotEnableEff via j s)

/-- SLOT_RELEASE (R269). -/
def execSlotRelease (via : Via) (j : JobSlot) (s : State) : Host.Outcome State Fault Refusal :=
  s.outcome (slotReleaseEff via j s)

/-- SLOT_RELEASE_DONE (R269). -/
def execSlotReleaseDone (j : JobSlot) (s : State) : Host.Outcome State Fault Refusal :=
  s.outcome (slotReleaseDoneEff j s)

/-- ALL_REDUCE (R248). -/
def execAllReduce (by_ : CollBy) (addr : Nat) (s : State) : Host.Outcome State Fault Refusal :=
  s.outcome (allReduceEff by_ addr s)

/-- BROADCAST (R257). -/
def execBroadcast (by_ : CollBy) (addr : Nat) (s : State) : Host.Outcome State Fault Refusal :=
  s.outcome (broadcastEff by_ addr s)

/-- ALL_GATHER (R258). -/
def execAllGather (by_ : CollBy) (addr : Nat) (s : State) : Host.Outcome State Fault Refusal :=
  s.outcome (allGatherEff by_ addr s)

/-- REEL (R262). -/
def execReel (by_ : CollBy) (addr : Nat) (s : State) : Host.Outcome State Fault Refusal :=
  s.outcome (reelEff by_ addr s)

/-- HORA (R265). -/
def execHora (by_ : CollBy) (addr : Nat) (s : State) : Host.Outcome State Fault Refusal :=
  s.outcome (horaEff by_ addr s)

/-- STAGING_COMPLETE (R248). -/
def execStagingComplete (j : JobSlot) (step : Tag) (bucket : BitVec 16) (s : State) :
    Host.Outcome State Fault Refusal :=
  s.outcome (stagingCompleteEff j step bucket s)

/-- COLL_DATA_SEGMENT (R245). -/
def execCollDataSegment (pkt : Packet) (s : State) : Host.Outcome State Fault Refusal :=
  s.outcome (collDataSegmentEff pkt s)

/-- OPEN (R241). -/
def execOpenPacket (pkt : Packet) (s : State) : Host.Outcome State Fault Refusal :=
  s.outcome (openPacketEff pkt s)

/-- WINDOW (R247). -/
def execWindowPacket (pkt : Packet) (s : State) : Host.Outcome State Fault Refusal :=
  s.outcome (windowPacketEff pkt s)

/-- EXCLUDED (R255). -/
def execExcludedPacket (pkt : Packet) (s : State) : Host.Outcome State Fault Refusal :=
  s.outcome (excludedPacketEff pkt s)

/-- ABORT (R252). -/
def execAbortPacket (pkt : Packet) (s : State) : Host.Outcome State Fault Refusal :=
  s.outcome (abortPacketEff pkt s)

/-- RESULT (R246). -/
def execResultPacket (pkt : Packet) (s : State) : Host.Outcome State Fault Refusal :=
  s.outcome (resultPacketEff pkt s)

/-- HORA_FREE (R266). -/
def execHoraFree (pkt : Packet) (s : State) : Host.Outcome State Fault Refusal :=
  s.outcome (horaFreeEff pkt s)

/-- HORA_BUFFER_RELEASE (R266). -/
def execHoraBufferRelease (c : Core) (j : JobSlot) (step : Tag) (bucket : BitVec 16) (s : State) :
    Host.Outcome State Fault Refusal :=
  s.outcome (horaBufferReleaseEff c j step bucket s)

/-- SOFT_DEADLINE (R254). -/
def execSoftDeadline (j : JobSlot) (step : Tag) (bucket : BitVec 16) (level : Nat) (s : State) :
    Host.Outcome State Fault Refusal :=
  s.outcome (softDeadlineAllEff j step bucket level s)

/-- HARD_DEADLINE (R251). -/
def execHardDeadline (j : JobSlot) (step : Tag) (bucket : BitVec 16) (s : State) : Host.Outcome State Fault Refusal :=
  s.outcome (hardDeadlineAllEff j step bucket s)

/-- ORPHAN_DEADLINE (R251). -/
def execOrphanDeadline (j : JobSlot) (step : Tag) (bucket : BitVec 16) (s : State) :
    Host.Outcome State Fault Refusal :=
  s.outcome (orphanDeadlineEff j step bucket s)

/-- BUCKET_DONE (R250). -/
def execBucketDone (j : JobSlot) (step : Tag) (bucket : BitVec 16) (s : State) : Host.Outcome State Fault Refusal :=
  s.outcome (bucketDoneEff j step bucket s)

/-- COLLECTIVE_DEADLINE (R259). -/
def execCollectiveDeadline (j : JobSlot) (step : Tag) (bucket : BitVec 16) (s : State) :
    Host.Outcome State Fault Refusal :=
  s.outcome (collectiveDeadlineEff j step bucket s)

/-- REEL_READY (R262). -/
def execReelReady (j : JobSlot) (s : State) : Host.Outcome State Fault Refusal :=
  s.outcome (reelReadyEff j s)

/-- REEL_VOTE (R263). -/
def execReelVote (j : JobSlot) (s : State) : Host.Outcome State Fault Refusal :=
  s.outcome (reelVoteEff j s)

/-- COLL_COUNTER_CLEAR (R270). -/
def execCollCounterClear (via : Via) (value : Word) (s : State) : Host.Outcome State Fault Refusal :=
  s.outcome (collCounterClearEff via value s)

/-- SLOT_COUNTER_CLEAR (R271). -/
def execSlotCounterClear (via : Via) (j : JobSlot) (value : Word) (s : State) : Host.Outcome State Fault Refusal :=
  s.outcome (slotCounterClearEff via j value s)

end Sys2Proof.Machine
end

