-- ==== Sys2Proof/Machine/ExecDma.lean ====
section
/-! DEFINITION. The meanings of the commands of the DMA engines, peer writes and memory (R133 to R173). -/

namespace Sys2Proof.Machine

/-- DMA_START (R160). -/
def execDmaStart (c : Core) (eng : Fin 2) (ch : Fin 16) (desc : BitVec 512)
    (srcP dstP lenP rowsP : Option Param) (s : State) : Host.Outcome State Fault Refusal :=
  s.outcome (dmaStartEff c eng ch desc srcP dstP lenP rowsP s)

/-- DMA_ARM (R160). -/
def execDmaArm (via : Via) (ch : ChanId) (s : State) : Host.Outcome State Fault Refusal :=
  s.outcome (dmaArmEff via ch s)

/-- DMA_PROMOTION (R161). -/
def execDmaPromotion (ch : ChanId) (s : State) : Host.Outcome State Fault Refusal :=
  s.outcome (dmaPromotionEff ch s)

/-- DMA_BURST (R169). -/
def execDmaBurst (part : Part) (eng : Fin 2) (env : BurstEnv) (s : State) : Host.Outcome State Fault Refusal :=
  s.outcome (dmaBurstEff part eng env s)

/-- DMA_FENCE (R166). -/
def execDmaFence (via : Option Via) (ch : ChanId) (s : State) : Host.Outcome State Fault Refusal :=
  s.outcome (dmaFenceEff via ch s)

/-- ARRIVAL_FENCE_COMPLETE (R166). -/
def execArrivalFenceComplete (ch : ChanId) (host : HostEnd) (s : State) : Host.Outcome State Fault Refusal :=
  s.outcome (arrivalFenceCompleteEff ch host s)

/-- ARRIVAL_TIMEOUT (R167). -/
def execArrivalTimeout (ch : ChanId) (s : State) : Host.Outcome State Fault Refusal :=
  s.outcome (arrivalTimeoutEff ch s)

/-- DMA_STOP (R171). -/
def execDmaStop (via : Via) (ch : ChanId) (s : State) : Host.Outcome State Fault Refusal :=
  s.outcome (dmaStopEff via ch s)

/-- DMA_RESUME (R158). -/
def execDmaResume (via : Via) (ch : ChanId) (s : State) : Host.Outcome State Fault Refusal :=
  s.outcome (dmaResumeEff via ch s)

/-- DMA_CLEAR (R159). -/
def execDmaClear (via : Via) (ch : ChanId) (s : State) : Host.Outcome State Fault Refusal :=
  s.outcome (dmaClearEff via ch s)

/-- DMA_COUNTER_CLEAR (R173). -/
def execDmaCounterClear (via : Via) (p : Part) (value : Word) (s : State) : Host.Outcome State Fault Refusal :=
  s.outcome (dmaCounterClearEff via p value s)

/-- PEER_WRITE (R167). -/
def execPeerWrite (pkt : Packet) (shell : ShellOutcome) (s : State) : Host.Outcome State Fault Refusal :=
  s.outcome (peerWriteEff pkt shell s)

/-- PEER_ACK (R166). -/
def execPeerAck (ch : ChanId) (pkt : Packet) (answer : PeerAnswer) (s : State) : Host.Outcome State Fault Refusal :=
  s.outcome (peerAckEff ch pkt answer s)

/-- RETAIN_MASK_WRITE (R138). -/
def execRetainMaskWrite (via : Via) (p : Part) (value : Word) (s : State) : Host.Outcome State Fault Refusal :=
  s.outcome (retainMaskWriteEff via p value s)

/-- TANGO_RESERVE_WRITE (R141). -/
def execTangoReserveWrite (via : Via) (p : Part) (value : Word) (s : State) : Host.Outcome State Fault Refusal :=
  s.outcome (tangoReserveWriteEff via p value s)

/-- PATROL_SCRUB_READ (R149). -/
def execPatrolScrubRead (hbm : Bool) (o : ShellOutcome) (s : State) : Host.Outcome State Fault Refusal :=
  s.outcome (patrolScrubReadEff hbm o s)

/-- ECC_LOG_CLEAR (R153). -/
def execEccLogClear (via : Via) (value : Word) (s : State) : Host.Outcome State Fault Refusal :=
  s.outcome (eccLogClearEff via value s)

/-- MEM_COUNTER_CLEAR (R156). -/
def execMemCounterClear (via : Via) (p : Part) (value : Word) (s : State) : Host.Outcome State Fault Refusal :=
  s.outcome (memCounterClearEff via p value s)

end Sys2Proof.Machine
end

