-- ==== Sys2Proof/Machine/ExecEvents.lean ====
section
/-! DEFINITION. The meanings of the commands of the events that end what another command began (R214, R328 to R462). -/

namespace Sys2Proof.Machine

/-- WIRE_FLIT_SEND (R214). -/
def execWireFlitSend (n : Port) (checks : List (Nat × ShellOutcome)) (s : State) : Host.Outcome State Fault Refusal :=
  s.outcome (wireFlitSendEff n checks s)

/-- COMPLETION_TIMEOUT (R368). -/
def execCompletionTimeout (ch : ChanId) (fence : Bool) (s : State) : Host.Outcome State Fault Refusal :=
  s.outcome (completionTimeoutEff ch fence s)

/-- ENGINE_RESET_DONE (R328). -/
def execEngineResetDone (p : Part) (s : State) : Host.Outcome State Fault Refusal :=
  s.outcome (engineResetDoneEff p s)

/-- MC_RESTART_DONE (R335). -/
def execMcRestartDone (s : State) : Host.Outcome State Fault Refusal :=
  s.outcome (mcRestartDoneEff s)

/-- CHANNEL_SELF_REFRESH_RETURN (R416). -/
def execChannelSelfRefreshReturn (n : Fin 384) (s : State) : Host.Outcome State Fault Refusal :=
  s.outcome (channelSelfRefreshReturnEff n s)

/-- PARTITION_OFF_ENTRY_DONE (R414). -/
def execPartitionOffEntryDone (p : Part) (s : State) : Host.Outcome State Fault Refusal :=
  s.outcome (partitionOffEntryDoneEff p s)

/-- RETENTION_ENTRY_DONE (R417). -/
def execRetentionEntryDone (s : State) : Host.Outcome State Fault Refusal :=
  s.outcome (retentionEntryDoneEff s)

/-- RET_CURRENT_WARNING (R419). -/
def execRetCurrentWarning (milliA : Nat) (s : State) : Host.Outcome State Fault Refusal :=
  s.outcome (retCurrentWarningEff milliA s)

/-- THERMAL_HOLD_EXIT (R422). -/
def execThermalHoldExit (s : State) : Host.Outcome State Fault Refusal :=
  s.outcome (thermalHoldExitEff s)

/-- TIME_PPS_LOSS (R462). -/
def execTimePpsLoss (s : State) : Host.Outcome State Fault Refusal :=
  s.outcome (timePpsLossEff s)

/-- PCIE_REFERENCE_CHANGE (R408). -/
def execPcieReferenceChange (present : Bool) (link : PcieLink) (s : State) : Host.Outcome State Fault Refusal :=
  s.outcome (pcieReferenceChangeEff present link s)

/-- CAN_BUS_ERROR (R371). -/
def execCanBusError (e : CanError) (s : State) : Host.Outcome State Fault Refusal :=
  s.outcome (canBusErrorEff e s)

/-- CAN_FRAME_IGNORED (R373). -/
def execCanFrameIgnored (why : IgnoredFrame) (s : State) : Host.Outcome State Fault Refusal :=
  s.outcome (canFrameIgnoredEff why s)

/-- ATTEST_REPORT_DONE (R436). -/
def execAttestReportDone (p : Part) (signature : List Byte) (s : State) : Host.Outcome State Fault Refusal :=
  s.outcome (attestReportDoneEff p signature s)

/-- RECLAIM_DONE (R439). -/
def execReclaimDone (p : Part) (s : State) : Host.Outcome State Fault Refusal :=
  s.outcome (reclaimDoneEff p s)

end Sys2Proof.Machine
end

