-- ==== Sys2Proof/Machine/ExecFabric.lean ====
section
/-! DEFINITION. The meanings of the commands of ports, packets, routes and time (R201 to R233, R462). -/

namespace Sys2Proof.Machine

/-- PORT_RETRAIN (R204). -/
def execPortRetrain (via : Via) (n : Port) (s : State) : Host.Outcome State Fault Refusal :=
  s.outcome (portRetrainEff via n s)

/-- PORT_DISABLE (R204). -/
def execPortDisable (via : Via) (n : Port) (s : State) : Host.Outcome State Fault Refusal :=
  s.outcome (portDisableEff via n s)

/-- PORT_RECAL (R206). -/
def execPortRecal (via : Via) (n : Port) (force : Bool) (s : State) : Host.Outcome State Fault Refusal :=
  s.outcome (portRecalEff via n force s)

/-- ADAPTATION_MONITOR_REQUEST (R206). -/
def execAdaptationMonitorRequest (n : Port) (ber : Word32) (pinned : Bool) (s : State) :
    Host.Outcome State Fault Refusal :=
  s.outcome (adaptationMonitorRequestEff n ber pinned s)

/-- PORT_ROLE_WRITE (R204). -/
def execPortRoleWrite (via : Via) (n : Port) (value : Word) (s : State) : Host.Outcome State Fault Refusal :=
  s.outcome (portRoleWriteEff via n value s)

/-- SIGNAL_DETECT (R204). -/
def execSignalDetect (n : Port) (s : State) : Host.Outcome State Fault Refusal :=
  s.outcome (signalDetectEff n s)

/-- TRAIN_DONE (R203). -/
def execTrainDone (n : Port) (ok : Bool) (s : State) : Host.Outcome State Fault Refusal :=
  s.outcome (trainDoneEff n ok s)

/-- CHECK_EXCHANGE (R205). -/
def execCheckExchange (n : Port) (info : CheckInfo) (s : State) : Host.Outcome State Fault Refusal :=
  s.outcome (checkExchangeEff n info s)

/-- DRAIN_DONE (R204). -/
def execDrainDone (n : Port) (after100us : Bool) (s : State) : Host.Outcome State Fault Refusal :=
  s.outcome (drainDoneEff n after100us s)

/-- RECAL_DONE (R204). -/
def execRecalDone (n : Port) (ok : Bool) (s : State) : Host.Outcome State Fault Refusal :=
  s.outcome (recalDoneEff n ok s)

/-- FATAL_LINK_FAILURE (R207). -/
def execFatalLinkFailure (n : Port) (cause : LinkFail) (s : State) : Host.Outcome State Fault Refusal :=
  s.outcome (fatalLinkFailureEff n cause s)

/-- FLIT_RECEIVE (R211). -/
def execFlitReceive (n : Port) (f : FlitRx) (s : State) : Host.Outcome State Fault Refusal :=
  s.outcome (flitReceiveEff n f s)

/-- NAK (R211). -/
def execNak (n : Port) (next : Nat) (s : State) : Host.Outcome State Fault Refusal :=
  s.outcome (nakEff n next s)

/-- PACKET_ROUTE (R216). -/
def execPacketRoute (die : Die) (inPort : Option Port) (pkt : Packet) (shells : List ShellOutcome) (s : State) :
    Host.Outcome State Fault Refusal :=
  s.outcome (packetRouteEff die inPort pkt shells s)

/-- EPOCH_ANNOUNCE (R223). -/
def execEpochAnnounce (inPort : Port) (addr : FabAddr) (epoch : Epoch) (hops : Fin 16) (src : FabAddr)
    (srcEpoch : Epoch) (s : State) : Host.Outcome State Fault Refusal :=
  s.outcome (epochAnnounceEff inPort addr epoch hops src srcEpoch s)

/-- FABRIC_EPOCH_WRITE (R232). -/
def execFabricEpochWrite (via : Via) (value : Word) (s : State) : Host.Outcome State Fault Refusal :=
  s.outcome (fabricEpochWriteEff via value s)

/-- EPOCH_WRITE (R232). -/
def execEpochWrite (via : Via) (value : Word) (s : State) : Host.Outcome State Fault Refusal :=
  s.outcome (epochWriteEff via value s)

/-- ROUTE_COMMIT_BEAT_WRITE (R218). -/
def execRouteCommitBeatWrite (via : Via) (value : Word) (s : State) : Host.Outcome State Fault Refusal :=
  s.outcome (routeCommitBeatWriteEff via value s)

/-- ROUTE_BANK_EXCHANGE (R218). -/
def execRouteBankExchange (s : State) : Host.Outcome State Fault Refusal :=
  s.outcome (routeBankExchangeEff s)

/-- ROUTE_COPY_DONE (R218). -/
def execRouteCopyDone (s : State) : Host.Outcome State Fault Refusal :=
  s.outcome (routeCopyDoneEff s)

/-- FABRIC_COUNTER_CLEAR (R232). -/
def execFabricCounterClear (via : Via) (value : Word) (s : State) : Host.Outcome State Fault Refusal :=
  s.outcome (fabricCounterClearEff via value s)

/-- PORT_COUNTER_CLEAR (R233). -/
def execPortCounterClear (via : Via) (n : Port) (value : Word) (s : State) : Host.Outcome State Fault Refusal :=
  s.outcome (portCounterClearEff via n value s)

/-- TEMPO_SEND (R226). -/
def execTempoSend (n : Port) (s : State) : Host.Outcome State Fault Refusal :=
  s.outcome (tempoSendEff n s)

/-- TEMPO_RECEIVE (R226). -/
def execTempoReceive (n : Port) (t : TempoRx) (s : State) : Host.Outcome State Fault Refusal :=
  s.outcome (tempoReceiveEff n t s)

/-- MASTER_ANNOUNCEMENT_TIMEOUT (R228). -/
def execMasterAnnouncementTimeout (addr : FabAddr) (serial : Word) (s : State) : Host.Outcome State Fault Refusal :=
  s.outcome (masterAnnouncementTimeoutEff addr serial s)

/-- HOLDOVER_ENTRY (R230). -/
def execHoldoverEntry (s : State) : Host.Outcome State Fault Refusal :=
  s.outcome (holdoverEntryEff s)

/-- TIME_PPS_EDGE (R462). -/
def execTimePpsEdge (s : State) : Host.Outcome State Fault Refusal :=
  s.outcome (timePpsEdgeEff s)

end Sys2Proof.Machine
end

