-- ==== Sys2Proof/Machine/ExecHost.lean ====
section
/-! DEFINITION. The meanings of the commands of the host interface (R352 to R370). -/

namespace Sys2Proof.Machine

/-- BUS_MASTER_DISABLE (R355). -/
def execBusMasterDisable (f : Func) (s : State) : Host.Outcome State Fault Refusal :=
  s.outcome (busMasterDisableEff f s)

/-- D3HOT_ENTRY (R357). -/
def execD3hotEntry (f : Func) (s : State) : Host.Outcome State Fault Refusal :=
  s.outcome (d3hotEntryEff f s)

/-- VF_ENABLE_CHANGE (R366). -/
def execVfEnableChange (enable : Bool) (numVfs : Nat) (s : State) : Host.Outcome State Fault Refusal :=
  s.outcome (vfEnableChangeEff enable numVfs s)

/-- MSIX_VECTOR_RELEASE (R367). -/
def execMsixVectorRelease (f : Func) (vector : Nat) (s : State) : Host.Outcome State Fault Refusal :=
  s.outcome (msixVectorReleaseEff f vector s)

/-- BAR4_ACCESS (R362). -/
def execBar4Access (f : Func) (offset : Nat) (wr : Option (List Byte)) (len : Nat) (shell : ShellOutcome) (s : State) :
    Host.Outcome State Fault Refusal :=
  s.outcome (bar4AccessEff f offset wr len shell s)

/-- DOMAIN_WINDOW_ACCESS (R360). -/
def execDomainWindowAccess (offset : Nat) (wr : Option (List Byte)) (len : Nat) (s : State) :
    Host.Outcome State Fault Refusal :=
  s.outcome (domainWindowAccessEff offset wr len s)

/-- ATS_INVALIDATION (R369). -/
def execAtsInvalidation (f : Func) (page : Nat) (size : Nat) (s : State) : Host.Outcome State Fault Refusal :=
  s.outcome (atsInvalidationEff f page size s)

end Sys2Proof.Machine
end

