-- ==== Sys2Proof/Machine/ExecMgmt.lean ====
section
/-! DEFINITION. The meanings of the commands of the management controller (R371 to R404, R461). -/

namespace Sys2Proof.Machine

/-- READ (R375). -/
def execCanRead (r : CanRequest) (s : State) : Host.Outcome State Fault Refusal :=
  s.outcome (canReadEff r s)

/-- WRITE (R375). -/
def execCanWrite (r : CanRequest) (s : State) : Host.Outcome State Fault Refusal :=
  s.outcome (canWriteEff r s)

/-- READ_SEG (R378). -/
def execCanReadSeg (r : CanRequest) (s : State) : Host.Outcome State Fault Refusal :=
  s.outcome (canReadSegEff r s)

/-- WRITE_SEG (R378). -/
def execCanWriteSeg (r : CanRequest) (s : State) : Host.Outcome State Fault Refusal :=
  s.outcome (canWriteSegEff r s)

/-- HEARTBEAT_SEND (R387). -/
def execHeartbeatSend (s : State) : Host.Outcome State Fault Refusal :=
  s.outcome (heartbeatSendEff s)

/-- CONTROLLER_HEARTBEAT (R390). -/
def execControllerHeartbeat (s : State) : Host.Outcome State Fault Refusal :=
  s.outcome (controllerHeartbeatEff s)

/-- CTRL_HB_TIMEOUT (R390). -/
def execCtrlHbTimeout (s : State) : Host.Outcome State Fault Refusal :=
  s.outcome (ctrlHbTimeoutEff s)

/-- BARZAR_EVENT (R391). -/
def execBarzarEvent (cls : Fin 5) (part : Option Part) (code : Nat) (s : State) : Host.Outcome State Fault Refusal :=
  s.outcome (barzarEventEff cls part code s)

/-- EVENT_FRAME_SEND (R391). -/
def execEventFrameSend (s : State) : Host.Outcome State Fault Refusal :=
  s.outcome (eventFrameSendEff s)

/-- ASSIGN (R393). -/
def execAssign (position : Nat) (s : State) : Host.Outcome State Fault Refusal :=
  s.outcome (assignEff position s)

/-- RESTART (R395). -/
def execRestart (s : State) : Host.Outcome State Fault Refusal :=
  s.outcome (restartEff s)

/-- CONGA_IN_CHANGE (R461). -/
def execCongaInChange (level : Bool) (heldUs : Nat) (s : State) : Host.Outcome State Fault Refusal :=
  s.outcome (congaInChangeEff level heldUs s)

/-- NODE_ID_CONFLICT (R396). -/
def execNodeIdConflict (s : State) : Host.Outcome State Fault Refusal :=
  s.outcome (nodeIdConflictEff s)

/-- BUS_OFF_RECOVERY (R371). -/
def execBusOffRecovery (s : State) : Host.Outcome State Fault Refusal :=
  s.outcome (busOffRecoveryEff s)

/-- RWS_SAVE_DONE (R382). -/
def execRwsSaveDone (ok : Bool) (s : State) : Host.Outcome State Fault Refusal :=
  s.outcome (rwsSaveDoneEff ok s)

/-- UNLOCK (R402). -/
def execUnlock (via : Via) (value : Word) (s : State) : Host.Outcome State Fault Refusal :=
  s.outcome (unlockEff via value s)

/-- COMMIT (R402). -/
def execCommit (via : Via) (value : Word) (signatureOk : Bool) (s : State) : Host.Outcome State Fault Refusal :=
  s.outcome (commitEff via value signatureOk s)

/-- LOCK (R404). -/
def execLock (via : Via) (value : Word) (s : State) : Host.Outcome State Fault Refusal :=
  s.outcome (lockEff via value s)

/-- CALIBRATION_COMMIT_DONE (R402). -/
def execCalibrationCommitDone (ok : Bool) (s : State) : Host.Outcome State Fault Refusal :=
  s.outcome (calibrationCommitDoneEff ok s)

/-- CALIBRATION_STAGING_TIMEOUT (R402). -/
def execCalibrationStagingTimeout (s : State) : Host.Outcome State Fault Refusal :=
  s.outcome (calibrationStagingTimeoutEff s)

end Sys2Proof.Machine
end

