-- ==== Sys2Proof/Machine/ExecPower.lean ====
section
/-! DEFINITION. The meanings of the commands of power, clocks and thermal (R405 to R423). -/

namespace Sys2Proof.Machine

/-- RETENTION_ENTRY (R417). -/
def execRetentionEntry (via : Via) (value : Word) (milliC : Int) (s : State) : Host.Outcome State Fault Refusal :=
  s.outcome (retentionEntryEff via value milliC s)

/-- RETENTION_EXIT (R418). -/
def execRetentionExit (via : Via) (value : Word) (s : State) : Host.Outcome State Fault Refusal :=
  s.outcome (retentionExitEff via value s)

/-- BROWN_OUT (R420). -/
def execBrownOut (s : State) : Host.Outcome State Fault Refusal :=
  s.outcome (brownOutEff s)

/-- PART_POWER_OFF (R414). -/
def execPartPowerOff (via : Via) (p : Part) (value : Word) (s : State) : Host.Outcome State Fault Refusal :=
  s.outcome (partPowerOffEff via p value s)

/-- PART_POWER_ON (R416). -/
def execPartPowerOn (via : Via) (p : Part) (value : Word) (s : State) : Host.Outcome State Fault Refusal :=
  s.outcome (partPowerOnEff via p value s)

/-- WAKE_DEMAND (R416). -/
def execWakeDemand (t : WakeTarget) (s : State) : Host.Outcome State Fault Refusal :=
  s.outcome (wakeDemandEff t s)

/-- WAKE_DONE (R416). -/
def execWakeDone (t : WakeTarget) (s : State) : Host.Outcome State Fault Refusal :=
  s.outcome (wakeDoneEff t s)

/-- CLUSTER_SLEEP_EXPIRY (R413). -/
def execClusterSleepExpiry (p : Part) (s : State) : Host.Outcome State Fault Refusal :=
  s.outcome (clusterSleepExpiryEff p s)

/-- AUTO_OFF_EXPIRY (R415). -/
def execAutoOffExpiry (p : Part) (s : State) : Host.Outcome State Fault Refusal :=
  s.outcome (autoOffExpiryEff p s)

/-- PREWAKE (R415). -/
def execPrewake (p : Part) (n : Fin 256) (s : State) : Host.Outcome State Fault Refusal :=
  s.outcome (prewakeEff p n s)

/-- POWER_CAP_SAMPLE (R410). -/
def execPowerCapSample (m : PowerSample) (s : State) : Host.Outcome State Fault Refusal :=
  s.outcome (powerCapSampleEff m s)

/-- FAST_CUT (R410). -/
def execFastCut (s : State) : Host.Outcome State Fault Refusal :=
  s.outcome (fastCutEff s)

/-- AVFS_TRIM (R409). -/
def execAvfsTrim (p : Part) (mv : Nat) (requestMhz : Nat) (s : State) : Host.Outcome State Fault Refusal :=
  s.outcome (avfsTrimEff p mv requestMhz s)

/-- THERMAL_THROTTLE_TICK (R411). -/
def execThermalThrottleTick (t : ThermalSensor) (s : State) : Host.Outcome State Fault Refusal :=
  s.outcome (thermalThrottleTickEff t s)

/-- CLUSTER_CLOCK_CHANGE (R407). -/
def execClusterClockChange (p : Part) (s : State) : Host.Outcome State Fault Refusal :=
  s.outcome (clusterClockChangeEff p s)

/-- THERMAL_TRIP (R422). -/
def execThermalTrip (s : State) : Host.Outcome State Fault Refusal :=
  s.outcome (thermalTripEff s)

/-- INPUT_UNDERVOLTAGE (R405). -/
def execInputUndervoltage (milliV : Nat) (us : Nat) (s : State) : Host.Outcome State Fault Refusal :=
  s.outcome (inputUndervoltageEff milliV us s)

/-- INPUT_OVERVOLTAGE (R405). -/
def execInputOvervoltage (milliV : Nat) (us : Nat) (s : State) : Host.Outcome State Fault Refusal :=
  s.outcome (inputOvervoltageEff milliV us s)

/-- SERDES_REFERENCE_LOSS (R408). -/
def execSerdesReferenceLoss (us : Nat) (s : State) : Host.Outcome State Fault Refusal :=
  s.outcome (serdesReferenceLossEff us s)

/-- SERDES_REFERENCE_RETURN (R408). -/
def execSerdesReferenceReturn (s : State) : Host.Outcome State Fault Refusal :=
  s.outcome (serdesReferenceReturnEff s)

/-- POWER_COUNTER_CLEAR (R423). -/
def execPowerCounterClear (via : Via) (value : Word) (s : State) : Host.Outcome State Fault Refusal :=
  s.outcome (powerCounterClearEff via value s)

end Sys2Proof.Machine
end

