-- ==== Sys2Proof/Machine/ExecProgram.lean ====
section
/-! DEFINITION. The meanings of the commands of the operations of programs, versions and losses (R43 to R132). -/

namespace Sys2Proof.Machine

/-- REGISTER_WRITE (R381). -/
def execRegisterWrite (via : Via) (reg : RegAddr) (size : Nat) (value : Word) (s : State) :
    Host.Outcome State Fault Refusal :=
  s.outcome (registerWriteEff via reg size value s)

/-- STATIONARY_LOAD (R56). -/
def execStationaryLoad (c : Core) (e : Eng) (op : BlockLoad) (shell : ShellOutcome) (s : State) :
    Host.Outcome State Fault Refusal :=
  s.outcome (stationaryLoadEff c e op shell s)

/-- BLOCK_PASS (R55). -/
def execBlockPass (c : Core) (e : Eng) (op : BlockPass) (shell : ShellOutcome) (s : State) :
    Host.Outcome State Fault Refusal :=
  s.outcome (blockPassEff c e op shell s)

/-- GRADIENT_PASS (R75). -/
def execGradientPass (c : Core) (e : Eng) (op : GradPass) (inWalnut : Bool) (shell : ShellOutcome) (s : State) :
    Host.Outcome State Fault Refusal :=
  s.outcome (gradientPassEff c e op inWalnut shell s)

/-- BANK_DRAIN (R65). -/
def execBankDrain (c : Core) (e : Eng) (op : Drain) (shell : ShellOutcome) (s : State) :
    Host.Outcome State Fault Refusal :=
  s.outcome (bankDrainEff c e op shell s)

/-- WALNUT_DRAIN (R84). -/
def execWalnutDrain (c : Core) (op : WDrain) (shell : ShellOutcome) (s : State) : Host.Outcome State Fault Refusal :=
  s.outcome (walnutDrainEff c op shell s)

/-- WALNUT_DISCARD (R81). -/
def execWalnutDiscard (c : Core) (r : WRegion) (s : State) : Host.Outcome State Fault Refusal :=
  s.outcome (walnutDiscardEff c r s)

/-- VECTOR_OPERATION (R72). -/
def execVectorOperation (c : Core) (op : VecOp) (shell : ShellOutcome) (s : State) :
    Host.Outcome State Fault Refusal :=
  s.outcome (vectorOperationEff c op shell s)

/-- ROW_REDUCTION (R73). -/
def execRowReduction (c : Core) (op : RowRed) (shell : ShellOutcome) (s : State) : Host.Outcome State Fault Refusal :=
  s.outcome (rowReductionEff c op shell s)

/-- ROW_NORMALISATION (R88). -/
def execRowNormalisation (c : Core) (op : NormFwd) (shell : ShellOutcome) (s : State) :
    Host.Outcome State Fault Refusal :=
  s.outcome (rowNormalisationEff c op shell s)

/-- NORM_BACKWARD (R89). -/
def execNormBackward (c : Core) (op : NormBwd) (shell : ShellOutcome) (s : State) :
    Host.Outcome State Fault Refusal :=
  s.outcome (normBackwardEff c op shell s)

/-- WALNUT_VECTOR_ADD (R82). -/
def execWalnutVectorAdd (c : Core) (r : WRegion) (offset : Nat) (vreg : Fin 32) (n : Nat)
    (shell : ShellOutcome) (s : State) : Host.Outcome State Fault Refusal :=
  s.outcome (walnutVectorAddEff c r offset vreg n shell s)

/-- PARAM_WRITE (R121). -/
def execParamWrite (c : Core) (dst : ParamDst) (src : ParamSrc) (s : State) : Host.Outcome State Fault Refusal :=
  s.outcome (paramWriteEff c dst src s)

/-- AMAX_SLOT_CLEAR (R43). -/
def execAmaxSlotClear (c : Core) (slot : Fin 32) (s : State) : Host.Outcome State Fault Refusal :=
  s.outcome (amaxSlotClearEff c slot s)

/-- AMAX_SLOT_READ (R44). -/
def execAmaxSlotRead (c : Core) (slot : Fin 32) (dst : Fin 32) (s : State) : Host.Outcome State Fault Refusal :=
  s.outcome (amaxSlotReadEff c slot dst s)

/-- FLAG_CLEAR (R50). -/
def execFlagClear (c : Core) (mask : Word32) (s : State) : Host.Outcome State Fault Refusal :=
  s.outcome (flagClearEff c mask s)

/-- LOOP_ENTER (R124). -/
def execLoopEnter (c : Core) (level : Fin 4) (src : LoopSrc) (s : State) : Host.Outcome State Fault Refusal :=
  s.outcome (loopEnterEff c level src s)

/-- LOOP_END (R124). -/
def execLoopEnd (c : Core) (level : Fin 4) (s : State) : Host.Outcome State Fault Refusal :=
  s.outcome (loopEndEff c level s)

/-- TILE_ISSUE (R116). -/
def execTileIssue (c : Core) (s : State) : Host.Outcome State Fault Refusal :=
  s.outcome (tileIssueEff c s)

/-- TILE_COMPLETE (R115). -/
def execTileComplete (c : Core) (cycles : Nat) (s : State) : Host.Outcome State Fault Refusal :=
  s.outcome (tileCompleteEff c cycles s)

/-- STEP_BEGIN (R103). -/
def execStepBegin (c : Core) (step : Nat) (mbs : Nat) (fenceBeat : Nat) (deadline : Option
    (JobSlot × Nat)) (reseed : Bool) (s : State) : Host.Outcome State Fault Refusal :=
  s.outcome (stepBeginEff c step mbs fenceBeat deadline reseed s)

/-- MICRO_BATCH_ADMIT (R102). -/
def execMicroBatchAdmit (p : Part) (mb : Nat) (regions : List Region) (b : Binding) (trains : Nat)
    (acorns : List (Fin 32)) (s : State) : Host.Outcome State Fault Refusal :=
  s.outcome (microBatchAdmitEff p mb regions b trains acorns s)

/-- MICRO_BATCH_RETIRE (R102). -/
def execMicroBatchRetire (p : Part) (mb : Nat) (s : State) : Host.Outcome State Fault Refusal :=
  s.outcome (microBatchRetireEff p mb s)

/-- OPTIMIZER_WRITE (R102). -/
def execOptimizerWrite (c : Core) (r : Region) (s : State) : Host.Outcome State Fault Refusal :=
  s.outcome (optimizerWriteEff c r s)

/-- REGION_MARK_WRITTEN (R103). -/
def execRegionMarkWritten (c : Core) (r : Region) (s : State) : Host.Outcome State Fault Refusal :=
  s.outcome (regionMarkWrittenEff c r s)

/-- STEP_FENCE_COMMIT (R103). -/
def execStepFenceCommit (p : Part) (s : State) : Host.Outcome State Fault Refusal :=
  s.outcome (stepFenceMirrorEff p s)

/-- FENCE_ABORT (R104). -/
def execFenceAbort (via : Via) (p : Part) (value : Word) (s : State) : Host.Outcome State Fault Refusal :=
  s.outcome (fenceAbortEff via p value s)

/-- LOSS_SUBMIT (R99). -/
def execLossSubmit (via : Option Via) (p : Part) (loss : Word32) (s : State) : Host.Outcome State Fault Refusal :=
  s.outcome (lossSubmitEff via p loss s)

/-- ARITH_FLAGS_CLEAR (R52). -/
def execArithFlagsClear (via : Via) (p : Part) (value : Word) (s : State) : Host.Outcome State Fault Refusal :=
  s.outcome (arithFlagsClearEff via p value s)

/-- ENG_COUNTER_CLEAR (R74). -/
def execEngCounterClear (via : Via) (p : Part) (value : Word) (s : State) : Host.Outcome State Fault Refusal :=
  s.outcome (engCounterClearEff via p value s)

/-- WALNUT_COUNTER_CLEAR (R87). -/
def execWalnutCounterClear (via : Via) (p : Part) (value : Word) (s : State) : Host.Outcome State Fault Refusal :=
  s.outcome (walnutCounterClearEff via p value s)

/-- NONFINITE_CLEAR (R100). -/
def execNonfiniteClear (via : Via) (p : Part) (value : Word) (s : State) : Host.Outcome State Fault Refusal :=
  s.outcome (nonfiniteClearEff via p value s)

/-- IDLE_CORE_SELECT (R132). -/
def execIdleCoreSelect (via : Via) (p : Part) (value : Word) (s : State) : Host.Outcome State Fault Refusal :=
  s.outcome (idleCoreSelectEff via p value s)

/-- IDLE_COUNTER_CLEAR (R132). -/
def execIdleCounterClear (via : Via) (p : Part) (value : Word) (s : State) : Host.Outcome State Fault Refusal :=
  s.outcome (idleCounterClearEff via p value s)

end Sys2Proof.Machine
end

