-- ==== Sys2Proof/Machine/ExecReset.lean ====
section
/-! DEFINITION. The meanings of the commands of the hang ladder, resets and self-tests (R326 to R351). -/

namespace Sys2Proof.Machine

/-- TILE_WATCHDOG_EXPIRY (R331). -/
def execTileWatchdogExpiry (c : Core) (s : State) : Host.Outcome State Fault Refusal :=
  s.outcome (tileWatchdogExpiryEff c s)

/-- GATE_WATCHDOG_EXPIRY (R332). -/
def execGateWatchdogExpiry (c : Core) (s : State) : Host.Outcome State Fault Refusal :=
  s.outcome (gateWatchdogExpiryEff c s)

/-- SCAN_WATCHDOG_EXPIRY (R333). -/
def execScanWatchdogExpiry (p : Part) (w : ScanStuck) (s : State) : Host.Outcome State Fault Refusal :=
  s.outcome (scanWatchdogExpiryEff p w s)

/-- ARBITER_WATCHDOG_EXPIRY (R334). -/
def execArbiterWatchdogExpiry (o : ArbiterOwner) (s : State) : Host.Outcome State Fault Refusal :=
  s.outcome (arbiterWatchdogExpiryEff o s)

/-- MC_WATCHDOG_EXPIRY (R335). -/
def execMcWatchdogExpiry (s : State) : Host.Outcome State Fault Refusal :=
  s.outcome (mcWatchdogExpiryEff s)

/-- RUNG_TIMEOUT (R327). -/
def execRungTimeout (p : Part) (s : State) : Host.Outcome State Fault Refusal :=
  s.outcome (rungTimeoutEff p s)

/-- PART_RESET (R339). -/
def execPartReset (via : Via) (p : Part) (value : Word) (s : State) : Host.Outcome State Fault Refusal :=
  s.outcome (partResetEff via p value s)

/-- PARTITION_RESET_READY (R339). -/
def execPartitionResetReady (p : Part) (obs : ResetObs) (s : State) : Host.Outcome State Fault Refusal :=
  s.outcome (partitionResetReadyEff p obs s)

/-- VF_FLR (R356). -/
def execVfFlr (p : Part) (s : State) : Host.Outcome State Fault Refusal :=
  s.outcome (vfFlrEff p s)

/-- CHIP_RESET (R343). -/
def execChipReset (via : Option Via) (value : Word) (s : State) : Host.Outcome State Fault Refusal :=
  s.outcome (chipResetEff via value s)

/-- PERST_ASSERT (R343). -/
def execPerstAssert (s : State) : Host.Outcome State Fault Refusal :=
  s.outcome (perstAssertEff s)

/-- POWER_CYCLE (R344). -/
def execPowerCycle (via : Via) (value : Word) (s : State) : Host.Outcome State Fault Refusal :=
  s.outcome (powerCycleEff via value s)

/-- POWER_CYCLE_CANCEL (R344). -/
def execPowerCycleCancel (via : Via) (value : Word) (s : State) : Host.Outcome State Fault Refusal :=
  s.outcome (powerCycleCancelEff via value s)

/-- BIST_REQUEST (R347). -/
def execBistRequest (via : Via) (p : Part) (value : Word) (s : State) : Host.Outcome State Fault Refusal :=
  s.outcome (bistRequestEff via p value s)

/-- BIST_DEFERRED_START (R347). -/
def execBistDeferredStart (p : Part) (s : State) : Host.Outcome State Fault Refusal :=
  s.outcome (bistDeferredStartEff p s)

/-- BIST_CANCEL (R347). -/
def execBistCancel (via : Via) (p : Part) (value : Word) (s : State) : Host.Outcome State Fault Refusal :=
  s.outcome (bistCancelEff via p value s)

/-- BIST_DONE (R348). -/
def execBistDone (p : Part) (obs : BistObs) (s : State) : Host.Outcome State Fault Refusal :=
  s.outcome (bistDoneEff p obs s)

end Sys2Proof.Machine
end

