-- ==== Sys2Proof/Machine/ExecSched.lean ====
section
/-! DEFINITION. The meanings of the commands of programs, launch slots, contexts and groups (R107 to R200). -/

namespace Sys2Proof.Machine

/-- PROGRAM_REGISTER (R107). -/
def execProgramRegister (via : Via) (p : Part) (n : Fin 1024) (address : Nat) (lengthKiB : Nat) (s : State) :
    Host.Outcome State Fault Refusal :=
  s.outcome (programRegisterEff via p n address lengthKiB s)

/-- IMAGE_VALIDATION_DONE (R108). -/
def execImageValidationDone (p : Part) (n : Fin 1024) (img : Image) (s : State) : Host.Outcome State Fault Refusal :=
  s.outcome (imageValidationDoneEff p n img s)

/-- PROGRAM_RELEASE (R107). -/
def execProgramRelease (via : Via) (p : Part) (n : Fin 1024) (s : State) : Host.Outcome State Fault Refusal :=
  s.outcome (programReleaseEff via p n s)

/-- SLOT_ARM (R187). -/
def execSlotArm (via : Via) (p : Part) (n : Fin 256) (s : State) : Host.Outcome State Fault Refusal :=
  s.outcome (slotArmEff via p n s)

/-- SLOT_ABORT (R187). -/
def execSlotAbort (via : Via) (p : Part) (n : Fin 256) (s : State) : Host.Outcome State Fault Refusal :=
  s.outcome (slotAbortEff via p n s)

/-- LAUNCH_SLOT_START (R189). -/
def execLaunchSlotStart (p : Part) (n : Fin 256) (s : State) : Host.Outcome State Fault Refusal :=
  s.outcome (launchSlotStartEff p n s)

/-- LAUNCH_COMPLETE (R128). -/
def execLaunchComplete (p : Part) (n : Fin 256) (s : State) : Host.Outcome State Fault Refusal :=
  s.outcome (launchCompleteEff p n s)

/-- CONTEXT_CREATE (R178). -/
def execContextCreate (via : Via) (p : Part) (i : Fin 16) (s : State) : Host.Outcome State Fault Refusal :=
  s.outcome (contextCreateEff via p i s)

/-- CONTEXT_EVICT (R183). -/
def execContextEvict (via : Via) (p : Part) (i : Fin 16) (s : State) : Host.Outcome State Fault Refusal :=
  s.outcome (contextEvictEff via p i s)

/-- CONTEXT_TEARDOWN (R196). -/
def execContextTeardown (via : Via) (p : Part) (i : Fin 16) (s : State) : Host.Outcome State Fault Refusal :=
  s.outcome (contextTeardownEff via p i s)

/-- SWAPPER_EVALUATE (R183). -/
def execSwapperEvaluate (p : Part) (s : State) : Host.Outcome State Fault Refusal :=
  s.outcome (swapperEvaluateEff p s)

/-- CONTEXT_EVICT_DONE (R181). -/
def execContextEvictDone (p : Part) (i : Fin 16) (lost : List Nat) (s : State) : Host.Outcome State Fault Refusal :=
  s.outcome (contextEvictDoneEff p i lost s)

/-- CONTEXT_RESTORE_DONE (R182). -/
def execContextRestoreDone (p : Part) (i : Fin 16) (s : State) : Host.Outcome State Fault Refusal :=
  s.outcome (contextRestoreDoneEff p i s)

/-- HELD_DELIVERY_FLUSH (R238). -/
def execHeldDeliveryFlush (slot : JobSlot) (s : State) : Host.Outcome State Fault Refusal :=
  s.outcome (heldDeliveryFlushEff slot s)

/-- SLICE_EXPIRY (R185). -/
def execSliceExpiry (p : Part) (i : Fin 16) (s : State) : Host.Outcome State Fault Refusal :=
  s.outcome (sliceExpiryEff p i s)

/-- QUIET_REQ (R196). -/
def execQuietReq (pkt : Packet) (s : State) : Host.Outcome State Fault Refusal :=
  s.outcome (quietReqEff pkt s)

/-- QUIET_ACK (R196). -/
def execQuietAck (pkt : Packet) (s : State) : Host.Outcome State Fault Refusal :=
  s.outcome (quietAckEff pkt s)

/-- TEARDOWN_COMPLETE (R197). -/
def execTeardownComplete (p : Part) (i : Fin 16) (s : State) : Host.Outcome State Fault Refusal :=
  s.outcome (teardownCompleteEff p i s)

/-- TEARDOWN_DEADLINE (R197). -/
def execTeardownDeadline (p : Part) (i : Fin 16) (s : State) : Host.Outcome State Fault Refusal :=
  s.outcome (teardownDeadlineEff p i s)

/-- RETIRE_HOLD_EXPIRY (R198). -/
def execRetireHoldExpiry (p : Part) (i : Fin 16) (s : State) : Host.Outcome State Fault Refusal :=
  s.outcome (retireHoldExpiryEff p i s)

/-- GROUP_LEAD_WRITE (R174). -/
def execGroupLeadWrite (via : Via) (p : Part) (value : Word) (s : State) : Host.Outcome State Fault Refusal :=
  s.outcome (groupLeadWriteEff via p value s)

/-- SCHED_COUNTER_CLEAR (R199). -/
def execSchedCounterClear (via : Via) (p : Part) (value : Word) (s : State) : Host.Outcome State Fault Refusal :=
  s.outcome (schedCounterClearEff via p value s)

end Sys2Proof.Machine
end

