-- ==== Sys2Proof/Machine/ExecTango.lean ====
section
/-! DEFINITION. The meanings of the commands of Tango, the failure detector and health (R301 to R325). -/

namespace Sys2Proof.Machine

/-- PAIR (R301). -/
def execPair (n : Port) (pkt : Packet) (s : State) : Host.Outcome State Fault Refusal :=
  s.outcome (pairEff n pkt s)

/-- TANGO_PAIRING_START (R301). -/
def execTangoPairingStart (n : Port) (s : State) : Host.Outcome State Fault Refusal :=
  s.outcome (tangoPairingStartEff n s)

/-- TANGO_LIST_ENTRY_WRITE (R304). -/
def execTangoListEntryWrite (via : Via) (value : Word) (s : State) : Host.Outcome State Fault Refusal :=
  s.outcome (tangoListEntryWriteEff via value s)

/-- MIRROR_BEGIN (R308). -/
def execMirrorBegin (shell : ShellOutcome) (s : State) : Host.Outcome State Fault Refusal :=
  s.outcome (mirrorBeginEff shell s)

/-- BEGIN (R308). -/
def execTangoBegin (pkt : Packet) (s : State) : Host.Outcome State Fault Refusal :=
  s.outcome (tangoBeginEff pkt s)

/-- TANGO_DATA (R307). -/
def execTangoData (pkt : Packet) (s : State) : Host.Outcome State Fault Refusal :=
  s.outcome (tangoDataEff pkt s)

/-- ACK (R308). -/
def execTangoAck (pkt : Packet) (s : State) : Host.Outcome State Fault Refusal :=
  s.outcome (tangoAckEff pkt s)

/-- COMPLETE (R308). -/
def execTangoComplete (pkt : Packet) (s : State) : Host.Outcome State Fault Refusal :=
  s.outcome (tangoCompleteEff pkt s)

/-- RESUME (R311). -/
def execTangoResume (pkt : Packet) (s : State) : Host.Outcome State Fault Refusal :=
  s.outcome (tangoResumeEff pkt s)

/-- RESUME_REPLY (R311). -/
def execTangoResumeReply (pkt : Packet) (s : State) : Host.Outcome State Fault Refusal :=
  s.outcome (resumeReplyEff pkt s)

/-- MIRROR_LATE (R309). -/
def execMirrorLate (s : State) : Host.Outcome State Fault Refusal :=
  s.outcome (mirrorLateEff s)

/-- TANGO_INTERRUPT (R311). -/
def execTangoInterrupt (s : State) : Host.Outcome State Fault Refusal :=
  s.outcome (tangoInterruptEff s)

/-- TANGO_RELEASE_TAG_WRITE (R310). -/
def execTangoReleaseTagWrite (via : Via) (value : Word) (s : State) : Host.Outcome State Fault Refusal :=
  s.outcome (tangoReleaseTagWriteEff via value s)

/-- START (R311). -/
def execTangoStart (via : Via) (s : State) : Host.Outcome State Fault Refusal :=
  s.outcome (tangoStartEff via s)

/-- STOP (R325). -/
def execTangoStop (via : Via) (s : State) : Host.Outcome State Fault Refusal :=
  s.outcome (tangoStopEff via s)

/-- PAUSE (R311). -/
def execTangoPause (via : Via) (s : State) : Host.Outcome State Fault Refusal :=
  s.outcome (tangoPauseEff via s)

/-- UNPAIR (R325). -/
def execTangoUnpair (via : Via) (s : State) : Host.Outcome State Fault Refusal :=
  s.outcome (tangoUnpairEff via s)

/-- FREEZE (R312). -/
def execTangoFreeze (via : Via) (s : State) : Host.Outcome State Fault Refusal :=
  s.outcome (tangoFreezeEff via s)

/-- UNFREEZE (R312). -/
def execTangoUnfreeze (via : Via) (s : State) : Host.Outcome State Fault Refusal :=
  s.outcome (tangoUnfreezeEff via s)

/-- ROLLBACK (R313). -/
def execTangoRollback (via : Via) (s : State) : Host.Outcome State Fault Refusal :=
  s.outcome (tangoRollbackEff via s)

/-- RESTORE (R319). -/
def execTangoRestore (via : Via) (shell : ShellOutcome) (s : State) : Host.Outcome State Fault Refusal :=
  s.outcome (tangoRestoreEff via shell s)

/-- RESTORE_ABORT (R325). -/
def execTangoRestoreAbort (via : Via) (s : State) : Host.Outcome State Fault Refusal :=
  s.outcome (tangoRestoreAbortEff via s)

/-- RESTORE_DONE (R319). -/
def execTangoRestoreDone (code : Fin 10) (s : State) : Host.Outcome State Fault Refusal :=
  s.outcome (tangoRestoreDoneEff code s)

/-- PARTNER_SILENT (R316). -/
def execPartnerSilent (s : State) : Host.Outcome State Fault Refusal :=
  s.outcome (partnerSilentEff s)

/-- PROBE_SEND (R316). -/
def execProbeSend (j : JobSlot) (s : State) : Host.Outcome State Fault Refusal :=
  s.outcome (probeSendEff j s)

/-- PROBE (R316). -/
def execProbe (pkt : Packet) (s : State) : Host.Outcome State Fault Refusal :=
  s.outcome (probeEff pkt s)

/-- PROBE_TIMEOUT (R316). -/
def execProbeTimeout (addr : FabAddr) (s : State) : Host.Outcome State Fault Refusal :=
  s.outcome (probeTimeoutEff addr s)

/-- TRUST (R317). -/
def execTrust (via : Via) (addr : FabAddr) (s : State) : Host.Outcome State Fault Refusal :=
  s.outcome (trustEff via addr s)

/-- DEAD (R317). -/
def execDead (via : Via) (addr : FabAddr) (s : State) : Host.Outcome State Fault Refusal :=
  s.outcome (deadEff via addr s)

/-- HEALTH_SUBWINDOW_END (R323). -/
def execHealthSubwindowEnd (s : State) : Host.Outcome State Fault Refusal :=
  s.outcome (healthSubwindowEndEff s)

/-- HEALTH_PART_STATE_WRITE (R324). -/
def execHealthPartStateWrite (via : Via) (value : Word) (s : State) : Host.Outcome State Fault Refusal :=
  s.outcome (healthPartStateWriteEff via value s)

/-- SPOT_CHECK_COMPARE (R322). -/
def execSpotCheckCompare (c : Core) (first second : Word) (s : State) : Host.Outcome State Fault Refusal :=
  s.outcome (spotCheckCompareEff c first second s)

end Sys2Proof.Machine
end

