-- ==== Sys2Proof/Machine/ExecWeights.lean ====
section
/-! DEFINITION. The meanings of the commands of the version table, loaders and acorns (R285 to R300). -/

namespace Sys2Proof.Machine

/-- DEFINE (R285). -/
def execDefine (via : Via) (p : Part) (s : State) : Host.Outcome State Fault Refusal :=
  s.outcome (defineEff via p s)

/-- DEFINE_SINGLE (R285). -/
def execDefineSingle (via : Via) (p : Part) (tag : Tag) (s : State) : Host.Outcome State Fault Refusal :=
  s.outcome (defineSingleEff via p tag s)

/-- INSTALL (R285). -/
def execInstall (via : Via) (p : Part) (slot : Fin 2) (tag : Tag) (s : State) : Host.Outcome State Fault Refusal :=
  s.outcome (installEff via p slot tag s)

/-- CLEAR (R285). -/
def execClear (via : Via) (p : Part) (s : State) : Host.Outcome State Fault Refusal :=
  s.outcome (clearEff via p s)

/-- LOAD_START (R289). -/
def execLoadStart (via : Via) (p : Part) (shell : ShellOutcome) (s : State) : Host.Outcome State Fault Refusal :=
  s.outcome (loadStartEff via p shell s)

/-- LOAD_COMMIT (R295). -/
def execLoadCommit (via : Via) (p : Part) (s : State) : Host.Outcome State Fault Refusal :=
  s.outcome (loadCommitEff via p s)

/-- LOAD_CANCEL (R296). -/
def execLoadCancel (via : Via) (p : Part) (s : State) : Host.Outcome State Fault Refusal :=
  s.outcome (loadCancelEff via p s)

/-- LOAD_RETRY (R293). -/
def execLoadRetry (via : Via) (p : Part) (shell : ShellOutcome) (s : State) : Host.Outcome State Fault Refusal :=
  s.outcome (loadRetryEff via p shell s)

/-- EXPECT_BEAT (R289). -/
def execExpectBeat (p : Part) (s : State) : Host.Outcome State Fault Refusal :=
  s.outcome (expectBeatEff p s)

/-- DIGEST_DONE (R291). -/
def execDigestDone (p : Part) (shard : Nat) (o : ShellOutcome) (s : State) : Host.Outcome State Fault Refusal :=
  s.outcome (digestDoneEff p shard o s)

/-- FETCH_DEADLINE (R292). -/
def execFetchDeadline (p : Part) (shard : Nat) (s : State) : Host.Outcome State Fault Refusal :=
  s.outcome (fetchDeadlineEff p shard s)

/-- FETCH_NOTICE (R292). -/
def execFetchNotice (p : Part) (pkt : Packet) (s : State) : Host.Outcome State Fault Refusal :=
  s.outcome (fetchNoticeEff p pkt s)

/-- SERVE_ENABLE (R294). -/
def execServeEnable (via : Via) (p : Part) (value : Word) (s : State) : Host.Outcome State Fault Refusal :=
  s.outcome (serveEnableEff via p value s)

/-- SERVE_REQUEST_RECEIVE (R294). -/
def execServeRequestReceive (p : Part) (pkt : Packet) (s : State) : Host.Outcome State Fault Refusal :=
  s.outcome (serveRequestReceiveEff p pkt s)

/-- SERVE_REQUEST_PROCESS (R294). -/
def execServeRequestProcess (p : Part) (shell : ShellOutcome) (s : State) : Host.Outcome State Fault Refusal :=
  s.outcome (serveRequestProcessEff p shell s)

/-- ACORN_ENTRY_WRITE (R298). -/
def execAcornEntryWrite (via : Via) (p : Part) (value : Word) (s : State) : Host.Outcome State Fault Refusal :=
  s.outcome (acornEntryWriteEff via p value s)

/-- WEIGHT_COUNTER_CLEAR (R300). -/
def execWeightCounterClear (via : Via) (p : Part) (value : Word) (s : State) : Host.Outcome State Fault Refusal :=
  s.outcome (weightCounterClearEff via p value s)

end Sys2Proof.Machine
end

