-- ==== Sys2Proof/Machine/Dispatch.lean ====
section
/-! DEFINITION. The dispatch of a command to its meaning. -/

namespace Sys2Proof.Machine

/-- What a command does to everything but the queue. -/
def exec (i : Instr) (s : State) : Host.Outcome State Fault Refusal :=
  match i with
  | .registerWrite via reg size value => Sys2Proof.Machine.execRegisterWrite via reg size value s
  | .stationaryLoad c e op shell => Sys2Proof.Machine.execStationaryLoad c e op shell s
  | .blockPass c e op shell => Sys2Proof.Machine.execBlockPass c e op shell s
  | .gradientPass c e op inWalnut shell => Sys2Proof.Machine.execGradientPass c e op inWalnut shell s
  | .bankDrain c e op shell => Sys2Proof.Machine.execBankDrain c e op shell s
  | .walnutDrain c op shell => Sys2Proof.Machine.execWalnutDrain c op shell s
  | .walnutDiscard c r => Sys2Proof.Machine.execWalnutDiscard c r s
  | .vectorOperation c op shell => Sys2Proof.Machine.execVectorOperation c op shell s
  | .rowReduction c op shell => Sys2Proof.Machine.execRowReduction c op shell s
  | .rowNormalisation c op shell => Sys2Proof.Machine.execRowNormalisation c op shell s
  | .normBackward c op shell => Sys2Proof.Machine.execNormBackward c op shell s
  | .walnutVectorAdd c r offset vreg n shell => Sys2Proof.Machine.execWalnutVectorAdd c r offset vreg n shell s
  | .paramWrite c dst src => Sys2Proof.Machine.execParamWrite c dst src s
  | .amaxSlotClear c slot => Sys2Proof.Machine.execAmaxSlotClear c slot s
  | .amaxSlotRead c slot dst => Sys2Proof.Machine.execAmaxSlotRead c slot dst s
  | .flagClear c mask => Sys2Proof.Machine.execFlagClear c mask s
  | .loopEnter c level src => Sys2Proof.Machine.execLoopEnter c level src s
  | .loopEnd c level => Sys2Proof.Machine.execLoopEnd c level s
  | .tileIssue c => Sys2Proof.Machine.execTileIssue c s
  | .tileComplete c cycles => Sys2Proof.Machine.execTileComplete c cycles s
  | .stepBegin c step mbs fenceBeat deadline reseed => Sys2Proof.Machine.execStepBegin c step mbs fenceBeat deadline reseed s
  | .microBatchAdmit p mb regions b trains acorns => Sys2Proof.Machine.execMicroBatchAdmit p mb regions b trains acorns s
  | .microBatchRetire p mb => Sys2Proof.Machine.execMicroBatchRetire p mb s
  | .optimizerWrite c r => Sys2Proof.Machine.execOptimizerWrite c r s
  | .regionMarkWritten c r => Sys2Proof.Machine.execRegionMarkWritten c r s
  | .stepFenceCommit p => Sys2Proof.Machine.execStepFenceCommit p s
  | .fenceAbort via p value => Sys2Proof.Machine.execFenceAbort via p value s
  | .lossSubmit via p loss => Sys2Proof.Machine.execLossSubmit via p loss s
  | .arithFlagsClear via p value => Sys2Proof.Machine.execArithFlagsClear via p value s
  | .engCounterClear via p value => Sys2Proof.Machine.execEngCounterClear via p value s
  | .walnutCounterClear via p value => Sys2Proof.Machine.execWalnutCounterClear via p value s
  | .nonfiniteClear via p value => Sys2Proof.Machine.execNonfiniteClear via p value s
  | .idleCoreSelect via p value => Sys2Proof.Machine.execIdleCoreSelect via p value s
  | .idleCounterClear via p value => Sys2Proof.Machine.execIdleCounterClear via p value s
  | .programRegister via p n address lengthKiB => Sys2Proof.Machine.execProgramRegister via p n address lengthKiB s
  | .imageValidationDone p n img => Sys2Proof.Machine.execImageValidationDone p n img s
  | .programRelease via p n => Sys2Proof.Machine.execProgramRelease via p n s
  | .slotArm via p n => Sys2Proof.Machine.execSlotArm via p n s
  | .slotAbort via p n => Sys2Proof.Machine.execSlotAbort via p n s
  | .launchSlotStart p n => Sys2Proof.Machine.execLaunchSlotStart p n s
  | .launchComplete p n => Sys2Proof.Machine.execLaunchComplete p n s
  | .contextCreate via p ctx => Sys2Proof.Machine.execContextCreate via p ctx s
  | .contextEvict via p ctx => Sys2Proof.Machine.execContextEvict via p ctx s
  | .contextTeardown via p ctx => Sys2Proof.Machine.execContextTeardown via p ctx s
  | .swapperEvaluate p => Sys2Proof.Machine.execSwapperEvaluate p s
  | .contextEvictDone p ctx lost => Sys2Proof.Machine.execContextEvictDone p ctx lost s
  | .contextRestoreDone p ctx => Sys2Proof.Machine.execContextRestoreDone p ctx s
  | .heldDeliveryFlush slot => Sys2Proof.Machine.execHeldDeliveryFlush slot s
  | .sliceExpiry p ctx => Sys2Proof.Machine.execSliceExpiry p ctx s
  | .quietReq pkt => Sys2Proof.Machine.execQuietReq pkt s
  | .quietAck pkt => Sys2Proof.Machine.execQuietAck pkt s
  | .teardownComplete p ctx => Sys2Proof.Machine.execTeardownComplete p ctx s
  | .teardownDeadline p ctx => Sys2Proof.Machine.execTeardownDeadline p ctx s
  | .retireHoldExpiry p ctx => Sys2Proof.Machine.execRetireHoldExpiry p ctx s
  | .groupLeadWrite via p value => Sys2Proof.Machine.execGroupLeadWrite via p value s
  | .schedCounterClear via p value => Sys2Proof.Machine.execSchedCounterClear via p value s
  | .dmaStart c eng ch desc srcP dstP lenP rowsP => Sys2Proof.Machine.execDmaStart c eng ch desc srcP dstP lenP rowsP s
  | .dmaArm via ch => Sys2Proof.Machine.execDmaArm via ch s
  | .dmaPromotion ch => Sys2Proof.Machine.execDmaPromotion ch s
  | .dmaBurst part eng env => Sys2Proof.Machine.execDmaBurst part eng env s
  | .dmaFence via ch => Sys2Proof.Machine.execDmaFence via ch s
  | .arrivalFenceComplete ch host => Sys2Proof.Machine.execArrivalFenceComplete ch host s
  | .arrivalTimeout ch => Sys2Proof.Machine.execArrivalTimeout ch s
  | .dmaStop via ch => Sys2Proof.Machine.execDmaStop via ch s
  | .dmaResume via ch => Sys2Proof.Machine.execDmaResume via ch s
  | .dmaClear via ch => Sys2Proof.Machine.execDmaClear via ch s
  | .dmaCounterClear via p value => Sys2Proof.Machine.execDmaCounterClear via p value s
  | .peerWrite pkt shell => Sys2Proof.Machine.execPeerWrite pkt shell s
  | .peerAck ch pkt answer => Sys2Proof.Machine.execPeerAck ch pkt answer s
  | .retainMaskWrite via p value => Sys2Proof.Machine.execRetainMaskWrite via p value s
  | .tangoReserveWrite via p value => Sys2Proof.Machine.execTangoReserveWrite via p value s
  | .patrolScrubRead hbm o => Sys2Proof.Machine.execPatrolScrubRead hbm o s
  | .eccLogClear via value => Sys2Proof.Machine.execEccLogClear via value s
  | .memCounterClear via p value => Sys2Proof.Machine.execMemCounterClear via p value s
  | .portRetrain via n => Sys2Proof.Machine.execPortRetrain via n s
  | .portDisable via n => Sys2Proof.Machine.execPortDisable via n s
  | .portRecal via n force => Sys2Proof.Machine.execPortRecal via n force s
  | .adaptationMonitorRequest n ber pinned => Sys2Proof.Machine.execAdaptationMonitorRequest n ber pinned s
  | .portRoleWrite via n value => Sys2Proof.Machine.execPortRoleWrite via n value s
  | .signalDetect n => Sys2Proof.Machine.execSignalDetect n s
  | .trainDone n ok => Sys2Proof.Machine.execTrainDone n ok s
  | .checkExchange n info => Sys2Proof.Machine.execCheckExchange n info s
  | .drainDone n after100us => Sys2Proof.Machine.execDrainDone n after100us s
  | .recalDone n ok => Sys2Proof.Machine.execRecalDone n ok s
  | .fatalLinkFailure n cause => Sys2Proof.Machine.execFatalLinkFailure n cause s
  | .flitReceive n f => Sys2Proof.Machine.execFlitReceive n f s
  | .nak n next => Sys2Proof.Machine.execNak n next s
  | .packetRoute die inPort pkt shells => Sys2Proof.Machine.execPacketRoute die inPort pkt shells s
  | .epochAnnounce inPort addr epoch hops src srcEpoch => Sys2Proof.Machine.execEpochAnnounce inPort addr epoch hops src srcEpoch s
  | .fabricEpochWrite via value => Sys2Proof.Machine.execFabricEpochWrite via value s
  | .epochWrite via value => Sys2Proof.Machine.execEpochWrite via value s
  | .routeCommitBeatWrite via value => Sys2Proof.Machine.execRouteCommitBeatWrite via value s
  | .routeBankExchange => Sys2Proof.Machine.execRouteBankExchange s
  | .routeCopyDone => Sys2Proof.Machine.execRouteCopyDone s
  | .fabricCounterClear via value => Sys2Proof.Machine.execFabricCounterClear via value s
  | .portCounterClear via n value => Sys2Proof.Machine.execPortCounterClear via n value s
  | .tempoSend n => Sys2Proof.Machine.execTempoSend n s
  | .tempoReceive n t => Sys2Proof.Machine.execTempoReceive n t s
  | .masterAnnouncementTimeout addr serial => Sys2Proof.Machine.execMasterAnnouncementTimeout addr serial s
  | .holdoverEntry => Sys2Proof.Machine.execHoldoverEntry s
  | .timePpsEdge => Sys2Proof.Machine.execTimePpsEdge s
  | .jobSlotAssign via j value => Sys2Proof.Machine.execJobSlotAssign via j value s
  | .slotEnable via j => Sys2Proof.Machine.execSlotEnable via j s
  | .slotRelease via j => Sys2Proof.Machine.execSlotRelease via j s
  | .slotReleaseDone j => Sys2Proof.Machine.execSlotReleaseDone j s
  | .allReduce by_ addr => Sys2Proof.Machine.execAllReduce by_ addr s
  | .broadcast by_ addr => Sys2Proof.Machine.execBroadcast by_ addr s
  | .allGather by_ addr => Sys2Proof.Machine.execAllGather by_ addr s
  | .reel by_ addr => Sys2Proof.Machine.execReel by_ addr s
  | .hora by_ addr => Sys2Proof.Machine.execHora by_ addr s
  | .stagingComplete j step bucket => Sys2Proof.Machine.execStagingComplete j step bucket s
  | .collDataSegment pkt => Sys2Proof.Machine.execCollDataSegment pkt s
  | .openPacket pkt => Sys2Proof.Machine.execOpenPacket pkt s
  | .windowPacket pkt => Sys2Proof.Machine.execWindowPacket pkt s
  | .excludedPacket pkt => Sys2Proof.Machine.execExcludedPacket pkt s
  | .abortPacket pkt => Sys2Proof.Machine.execAbortPacket pkt s
  | .resultPacket pkt => Sys2Proof.Machine.execResultPacket pkt s
  | .horaFree pkt => Sys2Proof.Machine.execHoraFree pkt s
  | .horaBufferRelease c j step bucket => Sys2Proof.Machine.execHoraBufferRelease c j step bucket s
  | .softDeadline j step bucket level => Sys2Proof.Machine.execSoftDeadline j step bucket level s
  | .hardDeadline j step bucket => Sys2Proof.Machine.execHardDeadline j step bucket s
  | .orphanDeadline j step bucket => Sys2Proof.Machine.execOrphanDeadline j step bucket s
  | .bucketDone j step bucket => Sys2Proof.Machine.execBucketDone j step bucket s
  | .collectiveDeadline j step bucket => Sys2Proof.Machine.execCollectiveDeadline j step bucket s
  | .reelReady j => Sys2Proof.Machine.execReelReady j s
  | .reelVote j => Sys2Proof.Machine.execReelVote j s
  | .collCounterClear via value => Sys2Proof.Machine.execCollCounterClear via value s
  | .slotCounterClear via j value => Sys2Proof.Machine.execSlotCounterClear via j value s
  | .define via p => Sys2Proof.Machine.execDefine via p s
  | .defineSingle via p tag => Sys2Proof.Machine.execDefineSingle via p tag s
  | .install via p slot tag => Sys2Proof.Machine.execInstall via p slot tag s
  | .clear via p => Sys2Proof.Machine.execClear via p s
  | .loadStart via p shell => Sys2Proof.Machine.execLoadStart via p shell s
  | .loadCommit via p => Sys2Proof.Machine.execLoadCommit via p s
  | .loadCancel via p => Sys2Proof.Machine.execLoadCancel via p s
  | .loadRetry via p shell => Sys2Proof.Machine.execLoadRetry via p shell s
  | .expectBeat p => Sys2Proof.Machine.execExpectBeat p s
  | .digestDone p shard o => Sys2Proof.Machine.execDigestDone p shard o s
  | .fetchDeadline p shard => Sys2Proof.Machine.execFetchDeadline p shard s
  | .fetchNotice p pkt => Sys2Proof.Machine.execFetchNotice p pkt s
  | .serveEnable via p value => Sys2Proof.Machine.execServeEnable via p value s
  | .serveRequestReceive p pkt => Sys2Proof.Machine.execServeRequestReceive p pkt s
  | .serveRequestProcess p shell => Sys2Proof.Machine.execServeRequestProcess p shell s
  | .acornEntryWrite via p value => Sys2Proof.Machine.execAcornEntryWrite via p value s
  | .weightCounterClear via p value => Sys2Proof.Machine.execWeightCounterClear via p value s
  | .pair n pkt => Sys2Proof.Machine.execPair n pkt s
  | .tangoPairingStart n => Sys2Proof.Machine.execTangoPairingStart n s
  | .tangoListEntryWrite via value => Sys2Proof.Machine.execTangoListEntryWrite via value s
  | .mirrorBegin shell => Sys2Proof.Machine.execMirrorBegin shell s
  | .tangoBegin pkt => Sys2Proof.Machine.execTangoBegin pkt s
  | .tangoData pkt => Sys2Proof.Machine.execTangoData pkt s
  | .tangoAck pkt => Sys2Proof.Machine.execTangoAck pkt s
  | .tangoComplete pkt => Sys2Proof.Machine.execTangoComplete pkt s
  | .tangoResume pkt => Sys2Proof.Machine.execTangoResume pkt s
  | .tangoResumeReply pkt => Sys2Proof.Machine.execTangoResumeReply pkt s
  | .mirrorLate => Sys2Proof.Machine.execMirrorLate s
  | .tangoInterrupt => Sys2Proof.Machine.execTangoInterrupt s
  | .tangoReleaseTagWrite via value => Sys2Proof.Machine.execTangoReleaseTagWrite via value s
  | .tangoStart via => Sys2Proof.Machine.execTangoStart via s
  | .tangoStop via => Sys2Proof.Machine.execTangoStop via s
  | .tangoPause via => Sys2Proof.Machine.execTangoPause via s
  | .tangoUnpair via => Sys2Proof.Machine.execTangoUnpair via s
  | .tangoFreeze via => Sys2Proof.Machine.execTangoFreeze via s
  | .tangoUnfreeze via => Sys2Proof.Machine.execTangoUnfreeze via s
  | .tangoRollback via => Sys2Proof.Machine.execTangoRollback via s
  | .tangoRestore via shell => Sys2Proof.Machine.execTangoRestore via shell s
  | .tangoRestoreAbort via => Sys2Proof.Machine.execTangoRestoreAbort via s
  | .tangoRestoreDone code => Sys2Proof.Machine.execTangoRestoreDone code s
  | .partnerSilent => Sys2Proof.Machine.execPartnerSilent s
  | .probeSend j => Sys2Proof.Machine.execProbeSend j s
  | .probe pkt => Sys2Proof.Machine.execProbe pkt s
  | .probeTimeout addr => Sys2Proof.Machine.execProbeTimeout addr s
  | .trust via addr => Sys2Proof.Machine.execTrust via addr s
  | .dead via addr => Sys2Proof.Machine.execDead via addr s
  | .healthSubwindowEnd => Sys2Proof.Machine.execHealthSubwindowEnd s
  | .healthPartStateWrite via value => Sys2Proof.Machine.execHealthPartStateWrite via value s
  | .spotCheckCompare c first second => Sys2Proof.Machine.execSpotCheckCompare c first second s
  | .tileWatchdogExpiry c => Sys2Proof.Machine.execTileWatchdogExpiry c s
  | .gateWatchdogExpiry c => Sys2Proof.Machine.execGateWatchdogExpiry c s
  | .scanWatchdogExpiry p w => Sys2Proof.Machine.execScanWatchdogExpiry p w s
  | .arbiterWatchdogExpiry o => Sys2Proof.Machine.execArbiterWatchdogExpiry o s
  | .mcWatchdogExpiry => Sys2Proof.Machine.execMcWatchdogExpiry s
  | .rungTimeout p => Sys2Proof.Machine.execRungTimeout p s
  | .partReset via p value => Sys2Proof.Machine.execPartReset via p value s
  | .partitionResetReady p obs => Sys2Proof.Machine.execPartitionResetReady p obs s
  | .vfFlr p => Sys2Proof.Machine.execVfFlr p s
  | .chipReset via value => Sys2Proof.Machine.execChipReset via value s
  | .perstAssert => Sys2Proof.Machine.execPerstAssert s
  | .powerCycle via value => Sys2Proof.Machine.execPowerCycle via value s
  | .powerCycleCancel via value => Sys2Proof.Machine.execPowerCycleCancel via value s
  | .bistRequest via p value => Sys2Proof.Machine.execBistRequest via p value s
  | .bistDeferredStart p => Sys2Proof.Machine.execBistDeferredStart p s
  | .bistCancel via p value => Sys2Proof.Machine.execBistCancel via p value s
  | .bistDone p obs => Sys2Proof.Machine.execBistDone p obs s
  | .busMasterDisable f => Sys2Proof.Machine.execBusMasterDisable f s
  | .d3hotEntry f => Sys2Proof.Machine.execD3hotEntry f s
  | .vfEnableChange enable numVfs => Sys2Proof.Machine.execVfEnableChange enable numVfs s
  | .msixVectorRelease f vector => Sys2Proof.Machine.execMsixVectorRelease f vector s
  | .bar4Access f offset wr len shell => Sys2Proof.Machine.execBar4Access f offset wr len shell s
  | .domainWindowAccess offset wr len => Sys2Proof.Machine.execDomainWindowAccess offset wr len s
  | .atsInvalidation f page size => Sys2Proof.Machine.execAtsInvalidation f page size s
  | .canRead r => Sys2Proof.Machine.execCanRead r s
  | .canWrite r => Sys2Proof.Machine.execCanWrite r s
  | .canReadSeg r => Sys2Proof.Machine.execCanReadSeg r s
  | .canWriteSeg r => Sys2Proof.Machine.execCanWriteSeg r s
  | .heartbeatSend => Sys2Proof.Machine.execHeartbeatSend s
  | .controllerHeartbeat => Sys2Proof.Machine.execControllerHeartbeat s
  | .ctrlHbTimeout => Sys2Proof.Machine.execCtrlHbTimeout s
  | .barzarEvent cls part code => Sys2Proof.Machine.execBarzarEvent cls part code s
  | .eventFrameSend => Sys2Proof.Machine.execEventFrameSend s
  | .assign position => Sys2Proof.Machine.execAssign position s
  | .restart => Sys2Proof.Machine.execRestart s
  | .congaInChange level heldUs => Sys2Proof.Machine.execCongaInChange level heldUs s
  | .nodeIdConflict => Sys2Proof.Machine.execNodeIdConflict s
  | .busOffRecovery => Sys2Proof.Machine.execBusOffRecovery s
  | .rwsSaveDone ok => Sys2Proof.Machine.execRwsSaveDone ok s
  | .unlock via value => Sys2Proof.Machine.execUnlock via value s
  | .commit via value signatureOk => Sys2Proof.Machine.execCommit via value signatureOk s
  | .lock via value => Sys2Proof.Machine.execLock via value s
  | .calibrationCommitDone ok => Sys2Proof.Machine.execCalibrationCommitDone ok s
  | .calibrationStagingTimeout => Sys2Proof.Machine.execCalibrationStagingTimeout s
  | .powerUp => Sys2Proof.Machine.execPowerUp s
  | .resetRelease obs => Sys2Proof.Machine.execResetRelease obs s
  | .jobReady microseconds => Sys2Proof.Machine.execJobReady microseconds s
  | .fwLoad via value chk => Sys2Proof.Machine.execFwLoad via value chk s
  | .fwUpdateStart via value => Sys2Proof.Machine.execFwUpdateStart via value s
  | .fwUpdateDone chk flashOk => Sys2Proof.Machine.execFwUpdateDone chk flashOk s
  | .svnAdvance via value => Sys2Proof.Machine.execSvnAdvance via value s
  | .attestRequest via p value => Sys2Proof.Machine.execAttestRequest via p value s
  | .reclaim via p value => Sys2Proof.Machine.execReclaim via p value s
  | .retentionEntry via value milliC => Sys2Proof.Machine.execRetentionEntry via value milliC s
  | .retentionExit via value => Sys2Proof.Machine.execRetentionExit via value s
  | .brownOut => Sys2Proof.Machine.execBrownOut s
  | .partPowerOff via p value => Sys2Proof.Machine.execPartPowerOff via p value s
  | .partPowerOn via p value => Sys2Proof.Machine.execPartPowerOn via p value s
  | .wakeDemand t => Sys2Proof.Machine.execWakeDemand t s
  | .wakeDone t => Sys2Proof.Machine.execWakeDone t s
  | .clusterSleepExpiry p => Sys2Proof.Machine.execClusterSleepExpiry p s
  | .autoOffExpiry p => Sys2Proof.Machine.execAutoOffExpiry p s
  | .prewake p n => Sys2Proof.Machine.execPrewake p n s
  | .powerCapSample m => Sys2Proof.Machine.execPowerCapSample m s
  | .fastCut => Sys2Proof.Machine.execFastCut s
  | .avfsTrim p mv requestMhz => Sys2Proof.Machine.execAvfsTrim p mv requestMhz s
  | .thermalThrottleTick t => Sys2Proof.Machine.execThermalThrottleTick t s
  | .clusterClockChange p => Sys2Proof.Machine.execClusterClockChange p s
  | .thermalTrip => Sys2Proof.Machine.execThermalTrip s
  | .inputUndervoltage milliV us => Sys2Proof.Machine.execInputUndervoltage milliV us s
  | .inputOvervoltage milliV us => Sys2Proof.Machine.execInputOvervoltage milliV us s
  | .serdesReferenceLoss us => Sys2Proof.Machine.execSerdesReferenceLoss us s
  | .serdesReferenceReturn => Sys2Proof.Machine.execSerdesReferenceReturn s
  | .powerCounterClear via value => Sys2Proof.Machine.execPowerCounterClear via value s
  | .wireFlitSend n checks => Sys2Proof.Machine.execWireFlitSend n checks s
  | .completionTimeout ch fence => Sys2Proof.Machine.execCompletionTimeout ch fence s
  | .engineResetDone p => Sys2Proof.Machine.execEngineResetDone p s
  | .mcRestartDone => Sys2Proof.Machine.execMcRestartDone s
  | .channelSelfRefreshReturn n => Sys2Proof.Machine.execChannelSelfRefreshReturn n s
  | .partitionOffEntryDone p => Sys2Proof.Machine.execPartitionOffEntryDone p s
  | .retentionEntryDone => Sys2Proof.Machine.execRetentionEntryDone s
  | .retCurrentWarning milliA => Sys2Proof.Machine.execRetCurrentWarning milliA s
  | .thermalHoldExit => Sys2Proof.Machine.execThermalHoldExit s
  | .timePpsLoss => Sys2Proof.Machine.execTimePpsLoss s
  | .pcieReferenceChange present link => Sys2Proof.Machine.execPcieReferenceChange present link s
  | .canBusError e => Sys2Proof.Machine.execCanBusError e s
  | .canFrameIgnored why => Sys2Proof.Machine.execCanFrameIgnored why s
  | .attestReportDone p signature => Sys2Proof.Machine.execAttestReportDone p signature s
  | .reclaimDone p => Sys2Proof.Machine.execReclaimDone p s

end Sys2Proof.Machine
end

