-- ==== Sys2Proof/Laws/SMap.lean ====
section
/-! SUPPORT. What reading, setting and deleting do to a sparse table, and that setting keeps its canonical form. -/

namespace Sys2Proof.Machine

variable {α : Type} (d v : α) (m : SMap α) (j k : Nat)

/-- Reading after listing. -/
@[simp] theorem mget_mins : mget d (mins v m k) j = if j = k then v else mget d m j := by
  induction m with
  | nil =>
    rcases eq_or_ne j k with rfl | h
    · simp [mins, mget]
    · simp [mins, mget, h, h.symm]
  | cons x m ih =>
    obtain ⟨k', v'⟩ := x
    rcases eq_or_ne j k with rfl | h
    · by_cases h1 : j < k'
      · simp [mins, mget, h1]
      · by_cases h2 : k' = j
        · simp [mins, mget, h2]
        · simp [mins, mget, h1, h2, ih]
    · by_cases h1 : k < k'
      · simp [mins, mget, h1, h, h.symm]
      · by_cases h2 : k' = k
        · simp [mins, mget, h2, h, h.symm]
        · simp [mins, mget, h1, h2, h, ih]

/-- Reading after deleting. -/
@[simp] theorem mget_mdel : mget d (mdel m k) j = if j = k then d else mget d m j := by
  induction m with
  | nil => simp [mdel, mget]
  | cons x m ih =>
    obtain ⟨k', v'⟩ := x
    by_cases h2 : k' = k
    · rcases eq_or_ne j k with rfl | h
      · simp [mdel, h2, ih]
      · simp [mdel, mget, h2, h, h.symm, ih]
    · rcases eq_or_ne j k with rfl | h
      · simp [mdel, mget, h2, ih]
      · simp [mdel, mget, h2, h, ih]

/-- Reading after setting. -/
@[simp] theorem mget_mset [DecidableEq α] : mget d (mset d m k v) j = if j = k then v else mget d m j := by
  unfold mset; split
  · simp [*]
  · simp

/-- Reading elsewhere after setting, whatever the default there. -/
theorem mget_mset_ne [DecidableEq α] (e : α) (h : j ≠ k) : mget e (mset d m k v) j = mget e m j := by
  unfold mset; split <;> simp [h]

/-- Reading after changing. -/
@[simp] theorem mget_mmod [DecidableEq α] (f : α → α) :
    mget d (mmod d m k f) j = if j = k then f (mget d m k) else mget d m j := by
  simp [mmod]

/-- An empty table reads as its default. -/
@[simp] theorem mget_nil : mget d ([] : SMap α) j = d := rfl

/-- Deleting keeps the keys rising: a table whose keys all exceed `b` still does. -/
theorem mdel_gt {b : Nat} : (∀ x ∈ m, b < x.1) → ∀ x ∈ mdel m k, b < x.1 := by
  induction m with
  | nil => simp [mdel]
  | cons y m ih =>
    obtain ⟨k', v'⟩ := y
    intro h x hx
    simp only [mdel] at hx
    split at hx
    · exact ih (fun z hz => h z (List.mem_cons_of_mem _ hz)) x hx
    · rcases List.mem_cons.1 hx with rfl | hx
      · exact h _ (List.mem_cons_self ..)
      · exact ih (fun z hz => h z (List.mem_cons_of_mem _ hz)) x hx

/-- Rising keys in terms of the head: every later key is greater. -/
theorem mrising_cons (x : Nat × α) : mrising (x :: m) = true ↔ (∀ y ∈ m, x.1 < y.1) ∧ mrising m = true := by
  induction m generalizing x with
  | nil => simp [mrising]
  | cons y m ih =>
    obtain ⟨k1, v1⟩ := x; obtain ⟨k2, v2⟩ := y
    simp only [mrising, Bool.and_eq_true, decide_eq_true_eq]
    rw [ih]
    constructor
    · rintro ⟨h, h1, h2⟩
      exact ⟨fun z hz => by
        rcases List.mem_cons.1 hz with rfl | hz
        · exact h
        · exact lt_trans h (h1 z hz), h1, h2⟩
    · rintro ⟨h, h1, h2⟩
      exact ⟨h _ (List.mem_cons_self ..), h1, h2⟩

/-- Deleting keeps the keys rising. -/
theorem mrising_mdel (h : mrising m = true) : mrising (mdel m k) = true := by
  induction m with
  | nil => exact h
  | cons x m ih =>
    obtain ⟨k', v'⟩ := x
    rw [mrising_cons] at h
    simp only [mdel]
    split
    · exact ih h.2
    · rw [mrising_cons]
      exact ⟨mdel_gt m k h.1, ih h.2⟩

/-- What listing adds. -/
theorem mem_mins (x : Nat × α) (hx : x ∈ mins v m k) : x = (k, v) ∨ x ∈ m := by
  induction m with
  | nil => simpa [mins] using hx
  | cons y m ih =>
    obtain ⟨k', v'⟩ := y
    simp only [mins] at hx
    split at hx
    · simpa using hx
    · split at hx
      · simp only [List.mem_cons] at hx ⊢; tauto
      · simp only [List.mem_cons] at hx ⊢
        rcases hx with hx | hx
        · tauto
        · rcases ih hx with h | h <;> tauto

/-- What deleting keeps. -/
theorem mem_mdel (x : Nat × α) (hx : x ∈ mdel m k) : x ∈ m := by
  induction m with
  | nil => exact hx
  | cons y m ih =>
    obtain ⟨k', v'⟩ := y
    simp only [mdel] at hx
    split at hx
    · exact List.mem_cons_of_mem _ (ih hx)
    · simp only [List.mem_cons] at hx ⊢
      rcases hx with hx | hx
      · exact .inl hx
      · exact .inr (ih hx)

/-- Listing keeps the keys rising. -/
theorem mrising_mins (h : mrising m = true) : mrising (mins v m k) = true := by
  induction m with
  | nil => rfl
  | cons x m ih =>
    obtain ⟨k', v'⟩ := x
    have hx := (mrising_cons m _).1 h
    simp only [mins]
    split
    next hk => rw [mrising_cons]; exact ⟨fun y hy => by
      rcases List.mem_cons.1 hy with rfl | hy
      · exact hk
      · exact lt_trans hk (hx.1 y hy), h⟩
    next hk =>
      split
      next he => subst he; rw [mrising_cons]; exact hx
      next he =>
        rw [mrising_cons]
        refine ⟨fun y hy => ?_, ih hx.2⟩
        rcases mem_mins v m k y hy with rfl | hy
        · exact lt_of_le_of_ne (Nat.le_of_not_lt hk) he
        · exact hx.1 y hy

/-- Setting keeps the keys rising. -/
theorem mrising_mset [DecidableEq α] (h : mrising m = true) : mrising (mset d m k v) = true := by
  unfold mset; split
  · exact mrising_mdel m k h
  · exact mrising_mins v m k h

/-- A part of a table with rising keys has rising keys. -/
theorem mrising_filter (q : Nat × α → Bool) (h : mrising m = true) : mrising (m.filter q) = true := by
  induction m with
  | nil => rfl
  | cons x m ih =>
    have hx := (mrising_cons m x).1 h
    rw [List.filter_cons]
    split
    · rw [mrising_cons]
      exact ⟨fun y hy => hx.1 y (List.mem_filter.1 hy).1, ih hx.2⟩
    · exact ih hx.2

end Sys2Proof.Machine
end

