-- ==== Sys2Proof/Safety.lean ====
section
/-! DEFINITION. What counts as a safe run, and the terms in which statements name a path that reaches a register. -/

namespace Sys2Proof

/-- A step that goes on. -/
def goesOn (s : Machine.State) : Prop := ∃ t, Machine.step s = .next t

/-- `k` steps of the machine; a stop ends them. -/
def run : Nat → Machine.State → Host.Outcome Machine.State Machine.Fault Machine.Refusal
  | 0, s => .next s
  | k + 1, s =>
    match Machine.step s with
    | .next t => run k t
    | .fault r => .fault r
    | .refused r => .refused r

/-- A run of `k` steps is safe when no step of it stops. -/
def safeFor (k : Nat) (s : Machine.State) : Prop := ∃ t, run k s = .next t

namespace Machine

/-- A write by this path to this object arrives and finds the object open (R358, R359, R448). -/
def State.reaches (s : State) (via : Via) (index sub : Nat) : Bool :=
  s.viaLive via && (viaOffset via index sub).isSome && s.viaReaches via index sub && s.objOpen index sub true

/-- A write by this path to the command block of partition `p` arrives and finds it open (R361, R448). -/
def State.reachesBlock (s : State) (via : Via) (p : Nat) : Bool :=
  via != .barzar && s.viaLive via && viaPart via p && s.blockOpen p

/-- The state that a command answers, where it answers one. -/
def afterwards (c : Instr) (s : State) : State :=
  match exec c s with
  | .next t => t
  | .fault _ => s
  | .refused _ => s

/-- The commands of a list applied in order, each with the rest of the list waiting behind it. -/
def applyAll : List Instr → State → State
  | [], s => s
  | c :: cs, s => applyAll cs (afterwards c { s with pending := cs })

/-- `t` is `s` with the objects `subs` of an index at 0: every other object, the cores, the memory, the tables and the event log
are as in `s`. -/
def clearedTo (s t : State) (index : Nat) (subs : List Nat) : Prop :=
  (∀ sub ∈ subs, t.rd (objKey index sub) = 0#64) ∧ (∀ k, (∀ sub ∈ subs, k ≠ objKey index sub) → t.rd k = s.rd k) ∧
  t.cores = s.cores ∧ t.mem = s.mem ∧ t.launches = s.launches ∧ t.dma = s.dma ∧ t.coll = s.coll ∧ t.fab = s.fab ∧
  t.health = s.health ∧ t.mgmt = s.mgmt ∧ t.pow = s.pow

/-- Registers, memory and tables that only programs and the host change are in `t` as in `s`. -/
def sameWork (s t : State) : Prop :=
  t.cores = s.cores ∧ t.mem = s.mem ∧ t.progs = s.progs ∧ t.ctxs = s.ctxs ∧ t.slots = s.slots ∧ t.launches = s.launches ∧
  t.versions = s.versions ∧ t.fences = s.fences ∧ t.dma = s.dma

/-! ## Operands that can be read -/

/-- Whether a source operand of core `c` can be read as `fmt`: its descriptor passes the checks of R113, or its channel holds
the bytes (R117). -/
def State.readable (s : State) (c : Nat) (d : Desc) (fmt : Format) : Bool := (openSrc s c d fmt).isOk

/-- A readable source operand opened: the state after a channel's bytes are taken, and where its codes lie. -/
def State.taken (s : State) (c : Nat) (d : Desc) (fmt : Format) : State × Src :=
  match openSrc s c d fmt with
  | .ok r => r
  | .error _ => (s, ⟨s.mem, 0, d⟩)

/-- The same for a vector source of `n` elements. -/
def State.readableV (s : State) (c n : Nat) (fmt : Format) (v : VSrc) : Bool := (openV s c n fmt v).isOk

/-- A readable vector source opened. -/
def State.takenV (s : State) (c n : Nat) (fmt : Format) (v : VSrc) : State × VOpen :=
  match openV s c n fmt v with
  | .ok r => r
  | .error _ => (s, .imm 0#32)

/-- Whether the source of a pass's preload can be read (R60). -/
def State.preReadable (s : State) (c : Nat) (op : BlockPass) : Bool :=
  (preOpen s c (pairTot op.pair) (bankWidth op.pair op.orient) (descRows op.x) op.preload).isOk

/-- The preload of a pass opened. -/
def State.takenPre (s : State) (c : Nat) (op : BlockPass) : State × PreSrc :=
  match preOpen s c (pairTot op.pair) (bankWidth op.pair op.orient) (descRows op.x) op.preload with
  | .ok r => r
  | .error _ => (s, .keep)

/-- The byte offset in core `c`'s scratchpad at which an operand that passes its checks begins. -/
def State.offsetOf (s : State) (c : Nat) (d : Desc) : Nat :=
  match checkDesc s c d with
  | .ok o => o
  | .error _ => 0

/-- An operation of core `c` leads from `s` to `t` without failing: the core still runs and no other core has changed. -/
def opDone (s t : State) (c : Nat) : Prop := t.coreRuns c = true ∧ ∀ d, d ≠ c → t.core d = s.core d

/-- Memory is unchanged outside the `n` bytes from `a` on. -/
def memOutside (s t : State) (a n : Nat) : Prop := ∀ b, (b < a ∨ a + n ≤ b) → t.mem.read b = s.mem.read b

/-- Whether a walnut region is OPEN or DRAINING (R81). -/
def State.regionHeld (s : State) (c : Nat) (r : WRegion) : Bool := (s.core c).regions.any fun o => o.named r

/-! ## Resets -/

/-- What a partition reset leaves at once on the group of partition `p` (R338, R339): every member is in HALT with the cause, counted
and not ready, and the group's reset is under way. -/
def groupHalted (s t : State) (p cause : Nat) (sample : Bool) : Prop :=
  (∀ q ∈ s.members p, t.pN q 0xE1 = 1 ∧ t.pN q 0xE2 = cause ∧ t.pN q 0xE3 = min (s.pN q 0xE3 + 1) (2 ^ 32 - 1) ∧
    bit (t.rd (objKey 0x1000 0x31)) q = false ∧ (∀ i < 16, t.core (16 * q + i) = CoreSt.reset)) ∧
  mget none t.hang.resets (s.lead p) = some ⟨sample, cause, s.beatIx, s.beatIx⟩

/-- Whether a partition reset of the group of `p` would start at once: no reclaim and no reset of the group is under way. -/
def mayReset (s : State) (p : Nat) : Prop := (∀ q ∈ s.members p, s.pN q 0x2E ≠ 1) ∧ mget none s.hang.resets (s.lead p) = none

/-- What a chip reset leaves (R343): READINESS is RESET_HELD, RESET_CAUSE its cause, no core, table or byte of memory holds anything. -/
def chipHeld (t : State) (cause : Nat) : Prop :=
  t.readiness = 0 ∧ t.rdN (rKey 2) = cause ∧ t.rdN (objKey 0x1000 0x31) = 0 ∧ t.mem = State.reset.mem ∧ t.cores = [] ∧ t.progs = [] ∧
  t.ctxs = [] ∧ t.slots = [] ∧ t.launches = [] ∧ t.versions = [] ∧ t.fences = [] ∧ t.dma = [] ∧ t.coll = [] ∧ t.loaders = []

end Machine

end Sys2Proof
end

