-- ==== Sys2Proof/Laws/State.lean ====
section
/-! SUPPORT. What each update of the state leaves alone, field by field, and what reading gives after it. -/

namespace Sys2Proof.Machine

variable (s : State)

/-! ## wr -/

@[simp] theorem State.wr_pending (k : Nat) (v : Word) : (s.wr k v).pending = s.pending := rfl
@[simp] theorem State.wr_mem (k : Nat) (v : Word) : (s.wr k v).mem = s.mem := rfl
@[simp] theorem State.wr_freeCtr (k : Nat) (v : Word) : (s.wr k v).freeCtr = s.freeCtr := rfl
@[simp] theorem State.wr_out (k : Nat) (v : Word) : (s.wr k v).out = s.out := rfl
@[simp] theorem State.wr_beat (k : Nat) (v : Word) : (s.wr k v).beat = s.beat := rfl
@[simp] theorem State.wr_cores (k : Nat) (v : Word) : (s.wr k v).cores = s.cores := rfl
@[simp] theorem State.wr_retain (k : Nat) (v : Word) : (s.wr k v).retain = s.retain := rfl
@[simp] theorem State.wr_progs (k : Nat) (v : Word) : (s.wr k v).progs = s.progs := rfl
@[simp] theorem State.wr_ctxs (k : Nat) (v : Word) : (s.wr k v).ctxs = s.ctxs := rfl
@[simp] theorem State.wr_slots (k : Nat) (v : Word) : (s.wr k v).slots = s.slots := rfl
@[simp] theorem State.wr_launches (k : Nat) (v : Word) : (s.wr k v).launches = s.launches := rfl
@[simp] theorem State.wr_saved (k : Nat) (v : Word) : (s.wr k v).saved = s.saved := rfl
@[simp] theorem State.wr_versions (k : Nat) (v : Word) : (s.wr k v).versions = s.versions := rfl
@[simp] theorem State.wr_fences (k : Nat) (v : Word) : (s.wr k v).fences = s.fences := rfl
@[simp] theorem State.wr_mbs (k : Nat) (v : Word) : (s.wr k v).mbs = s.mbs := rfl
@[simp] theorem State.wr_dma (k : Nat) (v : Word) : (s.wr k v).dma = s.dma := rfl
@[simp] theorem State.wr_dmaEng (k : Nat) (v : Word) : (s.wr k v).dmaEng = s.dmaEng := rfl
@[simp] theorem State.wr_host (k : Nat) (v : Word) : (s.wr k v).host = s.host := rfl
@[simp] theorem State.wr_mgmt (k : Nat) (v : Word) : (s.wr k v).mgmt = s.mgmt := rfl
@[simp] theorem State.wr_eccLog (k : Nat) (v : Word) : (s.wr k v).eccLog = s.eccLog := rfl
@[simp] theorem State.wr_fab (k : Nat) (v : Word) : (s.wr k v).fab = s.fab := rfl
@[simp] theorem State.wr_loaders (k : Nat) (v : Word) : (s.wr k v).loaders = s.loaders := rfl
@[simp] theorem State.wr_coll (k : Nat) (v : Word) : (s.wr k v).coll = s.coll := rfl
@[simp] theorem State.wr_acorns (k : Nat) (v : Word) : (s.wr k v).acorns = s.acorns := rfl
@[simp] theorem State.wr_quiet (k : Nat) (v : Word) : (s.wr k v).quiet = s.quiet := rfl
@[simp] theorem State.wr_pow (k : Nat) (v : Word) : (s.wr k v).pow = s.pow := rfl
@[simp] theorem State.wr_sec (k : Nat) (v : Word) : (s.wr k v).sec = s.sec := rfl
@[simp] theorem State.wr_hang (k : Nat) (v : Word) : (s.wr k v).hang = s.hang := rfl
@[simp] theorem State.wr_tango (k : Nat) (v : Word) : (s.wr k v).tango = s.tango := rfl
@[simp] theorem State.wr_health (k : Nat) (v : Word) : (s.wr k v).health = s.health := rfl

/-! ## wrFree -/

@[simp] theorem State.wrFree_pending (k : Nat) (v : Word) : (s.wrFree k v).pending = s.pending := rfl
@[simp] theorem State.wrFree_mem (k : Nat) (v : Word) : (s.wrFree k v).mem = s.mem := rfl
@[simp] theorem State.wrFree_freeCtr (k : Nat) (v : Word) : (s.wrFree k v).freeCtr = s.freeCtr := rfl
@[simp] theorem State.wrFree_out (k : Nat) (v : Word) : (s.wrFree k v).out = s.out := rfl
@[simp] theorem State.wrFree_beat (k : Nat) (v : Word) : (s.wrFree k v).beat = s.beat := rfl
@[simp] theorem State.wrFree_cores (k : Nat) (v : Word) : (s.wrFree k v).cores = s.cores := rfl
@[simp] theorem State.wrFree_retain (k : Nat) (v : Word) : (s.wrFree k v).retain = s.retain := rfl
@[simp] theorem State.wrFree_progs (k : Nat) (v : Word) : (s.wrFree k v).progs = s.progs := rfl
@[simp] theorem State.wrFree_ctxs (k : Nat) (v : Word) : (s.wrFree k v).ctxs = s.ctxs := rfl
@[simp] theorem State.wrFree_slots (k : Nat) (v : Word) : (s.wrFree k v).slots = s.slots := rfl
@[simp] theorem State.wrFree_launches (k : Nat) (v : Word) : (s.wrFree k v).launches = s.launches := rfl
@[simp] theorem State.wrFree_saved (k : Nat) (v : Word) : (s.wrFree k v).saved = s.saved := rfl
@[simp] theorem State.wrFree_versions (k : Nat) (v : Word) : (s.wrFree k v).versions = s.versions := rfl
@[simp] theorem State.wrFree_fences (k : Nat) (v : Word) : (s.wrFree k v).fences = s.fences := rfl
@[simp] theorem State.wrFree_mbs (k : Nat) (v : Word) : (s.wrFree k v).mbs = s.mbs := rfl
@[simp] theorem State.wrFree_dma (k : Nat) (v : Word) : (s.wrFree k v).dma = s.dma := rfl
@[simp] theorem State.wrFree_dmaEng (k : Nat) (v : Word) : (s.wrFree k v).dmaEng = s.dmaEng := rfl
@[simp] theorem State.wrFree_host (k : Nat) (v : Word) : (s.wrFree k v).host = s.host := rfl
@[simp] theorem State.wrFree_mgmt (k : Nat) (v : Word) : (s.wrFree k v).mgmt = s.mgmt := rfl
@[simp] theorem State.wrFree_eccLog (k : Nat) (v : Word) : (s.wrFree k v).eccLog = s.eccLog := rfl
@[simp] theorem State.wrFree_fab (k : Nat) (v : Word) : (s.wrFree k v).fab = s.fab := rfl
@[simp] theorem State.wrFree_loaders (k : Nat) (v : Word) : (s.wrFree k v).loaders = s.loaders := rfl
@[simp] theorem State.wrFree_coll (k : Nat) (v : Word) : (s.wrFree k v).coll = s.coll := rfl
@[simp] theorem State.wrFree_acorns (k : Nat) (v : Word) : (s.wrFree k v).acorns = s.acorns := rfl
@[simp] theorem State.wrFree_quiet (k : Nat) (v : Word) : (s.wrFree k v).quiet = s.quiet := rfl
@[simp] theorem State.wrFree_pow (k : Nat) (v : Word) : (s.wrFree k v).pow = s.pow := rfl
@[simp] theorem State.wrFree_sec (k : Nat) (v : Word) : (s.wrFree k v).sec = s.sec := rfl
@[simp] theorem State.wrFree_hang (k : Nat) (v : Word) : (s.wrFree k v).hang = s.hang := rfl
@[simp] theorem State.wrFree_tango (k : Nat) (v : Word) : (s.wrFree k v).tango = s.tango := rfl
@[simp] theorem State.wrFree_health (k : Nat) (v : Word) : (s.wrFree k v).health = s.health := rfl

/-! ## setCore -/

@[simp] theorem State.setCore_pending (c : Nat) (x : CoreSt) : (s.setCore c x).pending = s.pending := rfl
@[simp] theorem State.setCore_obj (c : Nat) (x : CoreSt) : (s.setCore c x).obj = s.obj := rfl
@[simp] theorem State.setCore_mem (c : Nat) (x : CoreSt) : (s.setCore c x).mem = s.mem := rfl
@[simp] theorem State.setCore_freeCtr (c : Nat) (x : CoreSt) : (s.setCore c x).freeCtr = s.freeCtr := rfl
@[simp] theorem State.setCore_out (c : Nat) (x : CoreSt) : (s.setCore c x).out = s.out := rfl
@[simp] theorem State.setCore_beat (c : Nat) (x : CoreSt) : (s.setCore c x).beat = s.beat := rfl
@[simp] theorem State.setCore_retain (c : Nat) (x : CoreSt) : (s.setCore c x).retain = s.retain := rfl
@[simp] theorem State.setCore_progs (c : Nat) (x : CoreSt) : (s.setCore c x).progs = s.progs := rfl
@[simp] theorem State.setCore_ctxs (c : Nat) (x : CoreSt) : (s.setCore c x).ctxs = s.ctxs := rfl
@[simp] theorem State.setCore_slots (c : Nat) (x : CoreSt) : (s.setCore c x).slots = s.slots := rfl
@[simp] theorem State.setCore_launches (c : Nat) (x : CoreSt) : (s.setCore c x).launches = s.launches := rfl
@[simp] theorem State.setCore_saved (c : Nat) (x : CoreSt) : (s.setCore c x).saved = s.saved := rfl
@[simp] theorem State.setCore_versions (c : Nat) (x : CoreSt) : (s.setCore c x).versions = s.versions := rfl
@[simp] theorem State.setCore_fences (c : Nat) (x : CoreSt) : (s.setCore c x).fences = s.fences := rfl
@[simp] theorem State.setCore_mbs (c : Nat) (x : CoreSt) : (s.setCore c x).mbs = s.mbs := rfl
@[simp] theorem State.setCore_dma (c : Nat) (x : CoreSt) : (s.setCore c x).dma = s.dma := rfl
@[simp] theorem State.setCore_dmaEng (c : Nat) (x : CoreSt) : (s.setCore c x).dmaEng = s.dmaEng := rfl
@[simp] theorem State.setCore_host (c : Nat) (x : CoreSt) : (s.setCore c x).host = s.host := rfl
@[simp] theorem State.setCore_mgmt (c : Nat) (x : CoreSt) : (s.setCore c x).mgmt = s.mgmt := rfl
@[simp] theorem State.setCore_eccLog (c : Nat) (x : CoreSt) : (s.setCore c x).eccLog = s.eccLog := rfl
@[simp] theorem State.setCore_fab (c : Nat) (x : CoreSt) : (s.setCore c x).fab = s.fab := rfl
@[simp] theorem State.setCore_loaders (c : Nat) (x : CoreSt) : (s.setCore c x).loaders = s.loaders := rfl
@[simp] theorem State.setCore_coll (c : Nat) (x : CoreSt) : (s.setCore c x).coll = s.coll := rfl
@[simp] theorem State.setCore_acorns (c : Nat) (x : CoreSt) : (s.setCore c x).acorns = s.acorns := rfl
@[simp] theorem State.setCore_quiet (c : Nat) (x : CoreSt) : (s.setCore c x).quiet = s.quiet := rfl
@[simp] theorem State.setCore_pow (c : Nat) (x : CoreSt) : (s.setCore c x).pow = s.pow := rfl
@[simp] theorem State.setCore_sec (c : Nat) (x : CoreSt) : (s.setCore c x).sec = s.sec := rfl
@[simp] theorem State.setCore_hang (c : Nat) (x : CoreSt) : (s.setCore c x).hang = s.hang := rfl
@[simp] theorem State.setCore_tango (c : Nat) (x : CoreSt) : (s.setCore c x).tango = s.tango := rfl
@[simp] theorem State.setCore_health (c : Nat) (x : CoreSt) : (s.setCore c x).health = s.health := rfl

/-! ## setFunc -/

@[simp] theorem State.setFunc_pending (f : Nat) (x : FuncSt) : (s.setFunc f x).pending = s.pending := rfl
@[simp] theorem State.setFunc_obj (f : Nat) (x : FuncSt) : (s.setFunc f x).obj = s.obj := rfl
@[simp] theorem State.setFunc_mem (f : Nat) (x : FuncSt) : (s.setFunc f x).mem = s.mem := rfl
@[simp] theorem State.setFunc_freeCtr (f : Nat) (x : FuncSt) : (s.setFunc f x).freeCtr = s.freeCtr := rfl
@[simp] theorem State.setFunc_out (f : Nat) (x : FuncSt) : (s.setFunc f x).out = s.out := rfl
@[simp] theorem State.setFunc_beat (f : Nat) (x : FuncSt) : (s.setFunc f x).beat = s.beat := rfl
@[simp] theorem State.setFunc_cores (f : Nat) (x : FuncSt) : (s.setFunc f x).cores = s.cores := rfl
@[simp] theorem State.setFunc_retain (f : Nat) (x : FuncSt) : (s.setFunc f x).retain = s.retain := rfl
@[simp] theorem State.setFunc_progs (f : Nat) (x : FuncSt) : (s.setFunc f x).progs = s.progs := rfl
@[simp] theorem State.setFunc_ctxs (f : Nat) (x : FuncSt) : (s.setFunc f x).ctxs = s.ctxs := rfl
@[simp] theorem State.setFunc_slots (f : Nat) (x : FuncSt) : (s.setFunc f x).slots = s.slots := rfl
@[simp] theorem State.setFunc_launches (f : Nat) (x : FuncSt) : (s.setFunc f x).launches = s.launches := rfl
@[simp] theorem State.setFunc_saved (f : Nat) (x : FuncSt) : (s.setFunc f x).saved = s.saved := rfl
@[simp] theorem State.setFunc_versions (f : Nat) (x : FuncSt) : (s.setFunc f x).versions = s.versions := rfl
@[simp] theorem State.setFunc_fences (f : Nat) (x : FuncSt) : (s.setFunc f x).fences = s.fences := rfl
@[simp] theorem State.setFunc_mbs (f : Nat) (x : FuncSt) : (s.setFunc f x).mbs = s.mbs := rfl
@[simp] theorem State.setFunc_dma (f : Nat) (x : FuncSt) : (s.setFunc f x).dma = s.dma := rfl
@[simp] theorem State.setFunc_dmaEng (f : Nat) (x : FuncSt) : (s.setFunc f x).dmaEng = s.dmaEng := rfl
@[simp] theorem State.setFunc_mgmt (f : Nat) (x : FuncSt) : (s.setFunc f x).mgmt = s.mgmt := rfl
@[simp] theorem State.setFunc_eccLog (f : Nat) (x : FuncSt) : (s.setFunc f x).eccLog = s.eccLog := rfl
@[simp] theorem State.setFunc_fab (f : Nat) (x : FuncSt) : (s.setFunc f x).fab = s.fab := rfl
@[simp] theorem State.setFunc_loaders (f : Nat) (x : FuncSt) : (s.setFunc f x).loaders = s.loaders := rfl
@[simp] theorem State.setFunc_coll (f : Nat) (x : FuncSt) : (s.setFunc f x).coll = s.coll := rfl
@[simp] theorem State.setFunc_acorns (f : Nat) (x : FuncSt) : (s.setFunc f x).acorns = s.acorns := rfl
@[simp] theorem State.setFunc_quiet (f : Nat) (x : FuncSt) : (s.setFunc f x).quiet = s.quiet := rfl
@[simp] theorem State.setFunc_pow (f : Nat) (x : FuncSt) : (s.setFunc f x).pow = s.pow := rfl
@[simp] theorem State.setFunc_sec (f : Nat) (x : FuncSt) : (s.setFunc f x).sec = s.sec := rfl
@[simp] theorem State.setFunc_hang (f : Nat) (x : FuncSt) : (s.setFunc f x).hang = s.hang := rfl
@[simp] theorem State.setFunc_tango (f : Nat) (x : FuncSt) : (s.setFunc f x).tango = s.tango := rfl
@[simp] theorem State.setFunc_health (f : Nat) (x : FuncSt) : (s.setFunc f x).health = s.health := rfl

/-! ## setProg -/

@[simp] theorem State.setProg_pending (p n : Nat) (x : Prog) : (s.setProg p n x).pending = s.pending := rfl
@[simp] theorem State.setProg_obj (p n : Nat) (x : Prog) : (s.setProg p n x).obj = s.obj := rfl
@[simp] theorem State.setProg_mem (p n : Nat) (x : Prog) : (s.setProg p n x).mem = s.mem := rfl
@[simp] theorem State.setProg_freeCtr (p n : Nat) (x : Prog) : (s.setProg p n x).freeCtr = s.freeCtr := rfl
@[simp] theorem State.setProg_out (p n : Nat) (x : Prog) : (s.setProg p n x).out = s.out := rfl
@[simp] theorem State.setProg_beat (p n : Nat) (x : Prog) : (s.setProg p n x).beat = s.beat := rfl
@[simp] theorem State.setProg_cores (p n : Nat) (x : Prog) : (s.setProg p n x).cores = s.cores := rfl
@[simp] theorem State.setProg_retain (p n : Nat) (x : Prog) : (s.setProg p n x).retain = s.retain := rfl
@[simp] theorem State.setProg_ctxs (p n : Nat) (x : Prog) : (s.setProg p n x).ctxs = s.ctxs := rfl
@[simp] theorem State.setProg_slots (p n : Nat) (x : Prog) : (s.setProg p n x).slots = s.slots := rfl
@[simp] theorem State.setProg_launches (p n : Nat) (x : Prog) : (s.setProg p n x).launches = s.launches := rfl
@[simp] theorem State.setProg_saved (p n : Nat) (x : Prog) : (s.setProg p n x).saved = s.saved := rfl
@[simp] theorem State.setProg_versions (p n : Nat) (x : Prog) : (s.setProg p n x).versions = s.versions := rfl
@[simp] theorem State.setProg_fences (p n : Nat) (x : Prog) : (s.setProg p n x).fences = s.fences := rfl
@[simp] theorem State.setProg_mbs (p n : Nat) (x : Prog) : (s.setProg p n x).mbs = s.mbs := rfl
@[simp] theorem State.setProg_dma (p n : Nat) (x : Prog) : (s.setProg p n x).dma = s.dma := rfl
@[simp] theorem State.setProg_dmaEng (p n : Nat) (x : Prog) : (s.setProg p n x).dmaEng = s.dmaEng := rfl
@[simp] theorem State.setProg_host (p n : Nat) (x : Prog) : (s.setProg p n x).host = s.host := rfl
@[simp] theorem State.setProg_mgmt (p n : Nat) (x : Prog) : (s.setProg p n x).mgmt = s.mgmt := rfl
@[simp] theorem State.setProg_eccLog (p n : Nat) (x : Prog) : (s.setProg p n x).eccLog = s.eccLog := rfl
@[simp] theorem State.setProg_fab (p n : Nat) (x : Prog) : (s.setProg p n x).fab = s.fab := rfl
@[simp] theorem State.setProg_loaders (p n : Nat) (x : Prog) : (s.setProg p n x).loaders = s.loaders := rfl
@[simp] theorem State.setProg_coll (p n : Nat) (x : Prog) : (s.setProg p n x).coll = s.coll := rfl
@[simp] theorem State.setProg_acorns (p n : Nat) (x : Prog) : (s.setProg p n x).acorns = s.acorns := rfl
@[simp] theorem State.setProg_quiet (p n : Nat) (x : Prog) : (s.setProg p n x).quiet = s.quiet := rfl
@[simp] theorem State.setProg_pow (p n : Nat) (x : Prog) : (s.setProg p n x).pow = s.pow := rfl
@[simp] theorem State.setProg_sec (p n : Nat) (x : Prog) : (s.setProg p n x).sec = s.sec := rfl
@[simp] theorem State.setProg_hang (p n : Nat) (x : Prog) : (s.setProg p n x).hang = s.hang := rfl
@[simp] theorem State.setProg_tango (p n : Nat) (x : Prog) : (s.setProg p n x).tango = s.tango := rfl
@[simp] theorem State.setProg_health (p n : Nat) (x : Prog) : (s.setProg p n x).health = s.health := rfl

/-! ## setSlot -/

@[simp] theorem State.setSlot_pending (p n : Nat) (x : LSlot) : (s.setSlot p n x).pending = s.pending := rfl
@[simp] theorem State.setSlot_obj (p n : Nat) (x : LSlot) : (s.setSlot p n x).obj = s.obj := rfl
@[simp] theorem State.setSlot_mem (p n : Nat) (x : LSlot) : (s.setSlot p n x).mem = s.mem := rfl
@[simp] theorem State.setSlot_freeCtr (p n : Nat) (x : LSlot) : (s.setSlot p n x).freeCtr = s.freeCtr := rfl
@[simp] theorem State.setSlot_out (p n : Nat) (x : LSlot) : (s.setSlot p n x).out = s.out := rfl
@[simp] theorem State.setSlot_beat (p n : Nat) (x : LSlot) : (s.setSlot p n x).beat = s.beat := rfl
@[simp] theorem State.setSlot_cores (p n : Nat) (x : LSlot) : (s.setSlot p n x).cores = s.cores := rfl
@[simp] theorem State.setSlot_retain (p n : Nat) (x : LSlot) : (s.setSlot p n x).retain = s.retain := rfl
@[simp] theorem State.setSlot_progs (p n : Nat) (x : LSlot) : (s.setSlot p n x).progs = s.progs := rfl
@[simp] theorem State.setSlot_ctxs (p n : Nat) (x : LSlot) : (s.setSlot p n x).ctxs = s.ctxs := rfl
@[simp] theorem State.setSlot_launches (p n : Nat) (x : LSlot) : (s.setSlot p n x).launches = s.launches := rfl
@[simp] theorem State.setSlot_saved (p n : Nat) (x : LSlot) : (s.setSlot p n x).saved = s.saved := rfl
@[simp] theorem State.setSlot_versions (p n : Nat) (x : LSlot) : (s.setSlot p n x).versions = s.versions := rfl
@[simp] theorem State.setSlot_fences (p n : Nat) (x : LSlot) : (s.setSlot p n x).fences = s.fences := rfl
@[simp] theorem State.setSlot_mbs (p n : Nat) (x : LSlot) : (s.setSlot p n x).mbs = s.mbs := rfl
@[simp] theorem State.setSlot_dma (p n : Nat) (x : LSlot) : (s.setSlot p n x).dma = s.dma := rfl
@[simp] theorem State.setSlot_dmaEng (p n : Nat) (x : LSlot) : (s.setSlot p n x).dmaEng = s.dmaEng := rfl
@[simp] theorem State.setSlot_host (p n : Nat) (x : LSlot) : (s.setSlot p n x).host = s.host := rfl
@[simp] theorem State.setSlot_mgmt (p n : Nat) (x : LSlot) : (s.setSlot p n x).mgmt = s.mgmt := rfl
@[simp] theorem State.setSlot_eccLog (p n : Nat) (x : LSlot) : (s.setSlot p n x).eccLog = s.eccLog := rfl
@[simp] theorem State.setSlot_fab (p n : Nat) (x : LSlot) : (s.setSlot p n x).fab = s.fab := rfl
@[simp] theorem State.setSlot_loaders (p n : Nat) (x : LSlot) : (s.setSlot p n x).loaders = s.loaders := rfl
@[simp] theorem State.setSlot_coll (p n : Nat) (x : LSlot) : (s.setSlot p n x).coll = s.coll := rfl
@[simp] theorem State.setSlot_acorns (p n : Nat) (x : LSlot) : (s.setSlot p n x).acorns = s.acorns := rfl
@[simp] theorem State.setSlot_quiet (p n : Nat) (x : LSlot) : (s.setSlot p n x).quiet = s.quiet := rfl
@[simp] theorem State.setSlot_pow (p n : Nat) (x : LSlot) : (s.setSlot p n x).pow = s.pow := rfl
@[simp] theorem State.setSlot_sec (p n : Nat) (x : LSlot) : (s.setSlot p n x).sec = s.sec := rfl
@[simp] theorem State.setSlot_hang (p n : Nat) (x : LSlot) : (s.setSlot p n x).hang = s.hang := rfl
@[simp] theorem State.setSlot_tango (p n : Nat) (x : LSlot) : (s.setSlot p n x).tango = s.tango := rfl
@[simp] theorem State.setSlot_health (p n : Nat) (x : LSlot) : (s.setSlot p n x).health = s.health := rfl

/-! ## setCtxE -/

@[simp] theorem State.setCtxE_pending (k : Nat) (x : Ctx) : (s.setCtxE k x).pending = s.pending := rfl
@[simp] theorem State.setCtxE_obj (k : Nat) (x : Ctx) : (s.setCtxE k x).obj = s.obj := rfl
@[simp] theorem State.setCtxE_mem (k : Nat) (x : Ctx) : (s.setCtxE k x).mem = s.mem := rfl
@[simp] theorem State.setCtxE_freeCtr (k : Nat) (x : Ctx) : (s.setCtxE k x).freeCtr = s.freeCtr := rfl
@[simp] theorem State.setCtxE_out (k : Nat) (x : Ctx) : (s.setCtxE k x).out = s.out := rfl
@[simp] theorem State.setCtxE_beat (k : Nat) (x : Ctx) : (s.setCtxE k x).beat = s.beat := rfl
@[simp] theorem State.setCtxE_cores (k : Nat) (x : Ctx) : (s.setCtxE k x).cores = s.cores := rfl
@[simp] theorem State.setCtxE_retain (k : Nat) (x : Ctx) : (s.setCtxE k x).retain = s.retain := rfl
@[simp] theorem State.setCtxE_progs (k : Nat) (x : Ctx) : (s.setCtxE k x).progs = s.progs := rfl
@[simp] theorem State.setCtxE_slots (k : Nat) (x : Ctx) : (s.setCtxE k x).slots = s.slots := rfl
@[simp] theorem State.setCtxE_launches (k : Nat) (x : Ctx) : (s.setCtxE k x).launches = s.launches := rfl
@[simp] theorem State.setCtxE_saved (k : Nat) (x : Ctx) : (s.setCtxE k x).saved = s.saved := rfl
@[simp] theorem State.setCtxE_versions (k : Nat) (x : Ctx) : (s.setCtxE k x).versions = s.versions := rfl
@[simp] theorem State.setCtxE_fences (k : Nat) (x : Ctx) : (s.setCtxE k x).fences = s.fences := rfl
@[simp] theorem State.setCtxE_mbs (k : Nat) (x : Ctx) : (s.setCtxE k x).mbs = s.mbs := rfl
@[simp] theorem State.setCtxE_dma (k : Nat) (x : Ctx) : (s.setCtxE k x).dma = s.dma := rfl
@[simp] theorem State.setCtxE_dmaEng (k : Nat) (x : Ctx) : (s.setCtxE k x).dmaEng = s.dmaEng := rfl
@[simp] theorem State.setCtxE_host (k : Nat) (x : Ctx) : (s.setCtxE k x).host = s.host := rfl
@[simp] theorem State.setCtxE_mgmt (k : Nat) (x : Ctx) : (s.setCtxE k x).mgmt = s.mgmt := rfl
@[simp] theorem State.setCtxE_eccLog (k : Nat) (x : Ctx) : (s.setCtxE k x).eccLog = s.eccLog := rfl
@[simp] theorem State.setCtxE_fab (k : Nat) (x : Ctx) : (s.setCtxE k x).fab = s.fab := rfl
@[simp] theorem State.setCtxE_loaders (k : Nat) (x : Ctx) : (s.setCtxE k x).loaders = s.loaders := rfl
@[simp] theorem State.setCtxE_coll (k : Nat) (x : Ctx) : (s.setCtxE k x).coll = s.coll := rfl
@[simp] theorem State.setCtxE_acorns (k : Nat) (x : Ctx) : (s.setCtxE k x).acorns = s.acorns := rfl
@[simp] theorem State.setCtxE_quiet (k : Nat) (x : Ctx) : (s.setCtxE k x).quiet = s.quiet := rfl
@[simp] theorem State.setCtxE_pow (k : Nat) (x : Ctx) : (s.setCtxE k x).pow = s.pow := rfl
@[simp] theorem State.setCtxE_sec (k : Nat) (x : Ctx) : (s.setCtxE k x).sec = s.sec := rfl
@[simp] theorem State.setCtxE_hang (k : Nat) (x : Ctx) : (s.setCtxE k x).hang = s.hang := rfl
@[simp] theorem State.setCtxE_tango (k : Nat) (x : Ctx) : (s.setCtxE k x).tango = s.tango := rfl
@[simp] theorem State.setCtxE_health (k : Nat) (x : Ctx) : (s.setCtxE k x).health = s.health := rfl

/-! ## setLaunch -/

@[simp] theorem State.setLaunch_pending (k : Nat) (l : Launch) : (s.setLaunch k l).pending = s.pending := rfl
@[simp] theorem State.setLaunch_obj (k : Nat) (l : Launch) : (s.setLaunch k l).obj = s.obj := rfl
@[simp] theorem State.setLaunch_mem (k : Nat) (l : Launch) : (s.setLaunch k l).mem = s.mem := rfl
@[simp] theorem State.setLaunch_freeCtr (k : Nat) (l : Launch) : (s.setLaunch k l).freeCtr = s.freeCtr := rfl
@[simp] theorem State.setLaunch_out (k : Nat) (l : Launch) : (s.setLaunch k l).out = s.out := rfl
@[simp] theorem State.setLaunch_beat (k : Nat) (l : Launch) : (s.setLaunch k l).beat = s.beat := rfl
@[simp] theorem State.setLaunch_cores (k : Nat) (l : Launch) : (s.setLaunch k l).cores = s.cores := rfl
@[simp] theorem State.setLaunch_retain (k : Nat) (l : Launch) : (s.setLaunch k l).retain = s.retain := rfl
@[simp] theorem State.setLaunch_progs (k : Nat) (l : Launch) : (s.setLaunch k l).progs = s.progs := rfl
@[simp] theorem State.setLaunch_ctxs (k : Nat) (l : Launch) : (s.setLaunch k l).ctxs = s.ctxs := rfl
@[simp] theorem State.setLaunch_slots (k : Nat) (l : Launch) : (s.setLaunch k l).slots = s.slots := rfl
@[simp] theorem State.setLaunch_saved (k : Nat) (l : Launch) : (s.setLaunch k l).saved = s.saved := rfl
@[simp] theorem State.setLaunch_versions (k : Nat) (l : Launch) : (s.setLaunch k l).versions = s.versions := rfl
@[simp] theorem State.setLaunch_fences (k : Nat) (l : Launch) : (s.setLaunch k l).fences = s.fences := rfl
@[simp] theorem State.setLaunch_mbs (k : Nat) (l : Launch) : (s.setLaunch k l).mbs = s.mbs := rfl
@[simp] theorem State.setLaunch_dma (k : Nat) (l : Launch) : (s.setLaunch k l).dma = s.dma := rfl
@[simp] theorem State.setLaunch_dmaEng (k : Nat) (l : Launch) : (s.setLaunch k l).dmaEng = s.dmaEng := rfl
@[simp] theorem State.setLaunch_host (k : Nat) (l : Launch) : (s.setLaunch k l).host = s.host := rfl
@[simp] theorem State.setLaunch_mgmt (k : Nat) (l : Launch) : (s.setLaunch k l).mgmt = s.mgmt := rfl
@[simp] theorem State.setLaunch_eccLog (k : Nat) (l : Launch) : (s.setLaunch k l).eccLog = s.eccLog := rfl
@[simp] theorem State.setLaunch_fab (k : Nat) (l : Launch) : (s.setLaunch k l).fab = s.fab := rfl
@[simp] theorem State.setLaunch_loaders (k : Nat) (l : Launch) : (s.setLaunch k l).loaders = s.loaders := rfl
@[simp] theorem State.setLaunch_coll (k : Nat) (l : Launch) : (s.setLaunch k l).coll = s.coll := rfl
@[simp] theorem State.setLaunch_acorns (k : Nat) (l : Launch) : (s.setLaunch k l).acorns = s.acorns := rfl
@[simp] theorem State.setLaunch_quiet (k : Nat) (l : Launch) : (s.setLaunch k l).quiet = s.quiet := rfl
@[simp] theorem State.setLaunch_pow (k : Nat) (l : Launch) : (s.setLaunch k l).pow = s.pow := rfl
@[simp] theorem State.setLaunch_sec (k : Nat) (l : Launch) : (s.setLaunch k l).sec = s.sec := rfl
@[simp] theorem State.setLaunch_hang (k : Nat) (l : Launch) : (s.setLaunch k l).hang = s.hang := rfl
@[simp] theorem State.setLaunch_tango (k : Nat) (l : Launch) : (s.setLaunch k l).tango = s.tango := rfl
@[simp] theorem State.setLaunch_health (k : Nat) (l : Launch) : (s.setLaunch k l).health = s.health := rfl

/-! ## setRegion -/

@[simp] theorem State.setRegion_pending (p r : Nat) (e : VEntry) : (s.setRegion p r e).pending = s.pending := rfl
@[simp] theorem State.setRegion_obj (p r : Nat) (e : VEntry) : (s.setRegion p r e).obj = s.obj := rfl
@[simp] theorem State.setRegion_mem (p r : Nat) (e : VEntry) : (s.setRegion p r e).mem = s.mem := rfl
@[simp] theorem State.setRegion_freeCtr (p r : Nat) (e : VEntry) : (s.setRegion p r e).freeCtr = s.freeCtr := rfl
@[simp] theorem State.setRegion_out (p r : Nat) (e : VEntry) : (s.setRegion p r e).out = s.out := rfl
@[simp] theorem State.setRegion_beat (p r : Nat) (e : VEntry) : (s.setRegion p r e).beat = s.beat := rfl
@[simp] theorem State.setRegion_cores (p r : Nat) (e : VEntry) : (s.setRegion p r e).cores = s.cores := rfl
@[simp] theorem State.setRegion_retain (p r : Nat) (e : VEntry) : (s.setRegion p r e).retain = s.retain := rfl
@[simp] theorem State.setRegion_progs (p r : Nat) (e : VEntry) : (s.setRegion p r e).progs = s.progs := rfl
@[simp] theorem State.setRegion_ctxs (p r : Nat) (e : VEntry) : (s.setRegion p r e).ctxs = s.ctxs := rfl
@[simp] theorem State.setRegion_slots (p r : Nat) (e : VEntry) : (s.setRegion p r e).slots = s.slots := rfl
@[simp] theorem State.setRegion_launches (p r : Nat) (e : VEntry) : (s.setRegion p r e).launches = s.launches := rfl
@[simp] theorem State.setRegion_saved (p r : Nat) (e : VEntry) : (s.setRegion p r e).saved = s.saved := rfl
@[simp] theorem State.setRegion_fences (p r : Nat) (e : VEntry) : (s.setRegion p r e).fences = s.fences := rfl
@[simp] theorem State.setRegion_mbs (p r : Nat) (e : VEntry) : (s.setRegion p r e).mbs = s.mbs := rfl
@[simp] theorem State.setRegion_dma (p r : Nat) (e : VEntry) : (s.setRegion p r e).dma = s.dma := rfl
@[simp] theorem State.setRegion_dmaEng (p r : Nat) (e : VEntry) : (s.setRegion p r e).dmaEng = s.dmaEng := rfl
@[simp] theorem State.setRegion_host (p r : Nat) (e : VEntry) : (s.setRegion p r e).host = s.host := rfl
@[simp] theorem State.setRegion_mgmt (p r : Nat) (e : VEntry) : (s.setRegion p r e).mgmt = s.mgmt := rfl
@[simp] theorem State.setRegion_eccLog (p r : Nat) (e : VEntry) : (s.setRegion p r e).eccLog = s.eccLog := rfl
@[simp] theorem State.setRegion_fab (p r : Nat) (e : VEntry) : (s.setRegion p r e).fab = s.fab := rfl
@[simp] theorem State.setRegion_loaders (p r : Nat) (e : VEntry) : (s.setRegion p r e).loaders = s.loaders := rfl
@[simp] theorem State.setRegion_coll (p r : Nat) (e : VEntry) : (s.setRegion p r e).coll = s.coll := rfl
@[simp] theorem State.setRegion_acorns (p r : Nat) (e : VEntry) : (s.setRegion p r e).acorns = s.acorns := rfl
@[simp] theorem State.setRegion_quiet (p r : Nat) (e : VEntry) : (s.setRegion p r e).quiet = s.quiet := rfl
@[simp] theorem State.setRegion_pow (p r : Nat) (e : VEntry) : (s.setRegion p r e).pow = s.pow := rfl
@[simp] theorem State.setRegion_sec (p r : Nat) (e : VEntry) : (s.setRegion p r e).sec = s.sec := rfl
@[simp] theorem State.setRegion_hang (p r : Nat) (e : VEntry) : (s.setRegion p r e).hang = s.hang := rfl
@[simp] theorem State.setRegion_tango (p r : Nat) (e : VEntry) : (s.setRegion p r e).tango = s.tango := rfl
@[simp] theorem State.setRegion_health (p r : Nat) (e : VEntry) : (s.setRegion p r e).health = s.health := rfl

/-! ## setFence -/

@[simp] theorem State.setFence_pending (p : Nat) (f : StepFence) : (s.setFence p f).pending = s.pending := rfl
@[simp] theorem State.setFence_obj (p : Nat) (f : StepFence) : (s.setFence p f).obj = s.obj := rfl
@[simp] theorem State.setFence_mem (p : Nat) (f : StepFence) : (s.setFence p f).mem = s.mem := rfl
@[simp] theorem State.setFence_freeCtr (p : Nat) (f : StepFence) : (s.setFence p f).freeCtr = s.freeCtr := rfl
@[simp] theorem State.setFence_out (p : Nat) (f : StepFence) : (s.setFence p f).out = s.out := rfl
@[simp] theorem State.setFence_beat (p : Nat) (f : StepFence) : (s.setFence p f).beat = s.beat := rfl
@[simp] theorem State.setFence_cores (p : Nat) (f : StepFence) : (s.setFence p f).cores = s.cores := rfl
@[simp] theorem State.setFence_retain (p : Nat) (f : StepFence) : (s.setFence p f).retain = s.retain := rfl
@[simp] theorem State.setFence_progs (p : Nat) (f : StepFence) : (s.setFence p f).progs = s.progs := rfl
@[simp] theorem State.setFence_ctxs (p : Nat) (f : StepFence) : (s.setFence p f).ctxs = s.ctxs := rfl
@[simp] theorem State.setFence_slots (p : Nat) (f : StepFence) : (s.setFence p f).slots = s.slots := rfl
@[simp] theorem State.setFence_launches (p : Nat) (f : StepFence) : (s.setFence p f).launches = s.launches := rfl
@[simp] theorem State.setFence_saved (p : Nat) (f : StepFence) : (s.setFence p f).saved = s.saved := rfl
@[simp] theorem State.setFence_versions (p : Nat) (f : StepFence) : (s.setFence p f).versions = s.versions := rfl
@[simp] theorem State.setFence_mbs (p : Nat) (f : StepFence) : (s.setFence p f).mbs = s.mbs := rfl
@[simp] theorem State.setFence_dma (p : Nat) (f : StepFence) : (s.setFence p f).dma = s.dma := rfl
@[simp] theorem State.setFence_dmaEng (p : Nat) (f : StepFence) : (s.setFence p f).dmaEng = s.dmaEng := rfl
@[simp] theorem State.setFence_host (p : Nat) (f : StepFence) : (s.setFence p f).host = s.host := rfl
@[simp] theorem State.setFence_mgmt (p : Nat) (f : StepFence) : (s.setFence p f).mgmt = s.mgmt := rfl
@[simp] theorem State.setFence_eccLog (p : Nat) (f : StepFence) : (s.setFence p f).eccLog = s.eccLog := rfl
@[simp] theorem State.setFence_fab (p : Nat) (f : StepFence) : (s.setFence p f).fab = s.fab := rfl
@[simp] theorem State.setFence_loaders (p : Nat) (f : StepFence) : (s.setFence p f).loaders = s.loaders := rfl
@[simp] theorem State.setFence_coll (p : Nat) (f : StepFence) : (s.setFence p f).coll = s.coll := rfl
@[simp] theorem State.setFence_acorns (p : Nat) (f : StepFence) : (s.setFence p f).acorns = s.acorns := rfl
@[simp] theorem State.setFence_quiet (p : Nat) (f : StepFence) : (s.setFence p f).quiet = s.quiet := rfl
@[simp] theorem State.setFence_pow (p : Nat) (f : StepFence) : (s.setFence p f).pow = s.pow := rfl
@[simp] theorem State.setFence_sec (p : Nat) (f : StepFence) : (s.setFence p f).sec = s.sec := rfl
@[simp] theorem State.setFence_hang (p : Nat) (f : StepFence) : (s.setFence p f).hang = s.hang := rfl
@[simp] theorem State.setFence_tango (p : Nat) (f : StepFence) : (s.setFence p f).tango = s.tango := rfl
@[simp] theorem State.setFence_health (p : Nat) (f : StepFence) : (s.setFence p f).health = s.health := rfl

/-! ## setMicroBatches -/

@[simp] theorem State.setMicroBatches_pending (p : Nat) (l : List MicroBatch) : (s.setMicroBatches p l).pending = s.pending := rfl
@[simp] theorem State.setMicroBatches_obj (p : Nat) (l : List MicroBatch) : (s.setMicroBatches p l).obj = s.obj := rfl
@[simp] theorem State.setMicroBatches_mem (p : Nat) (l : List MicroBatch) : (s.setMicroBatches p l).mem = s.mem := rfl
@[simp] theorem State.setMicroBatches_freeCtr (p : Nat) (l : List MicroBatch) : (s.setMicroBatches p l).freeCtr = s.freeCtr := rfl
@[simp] theorem State.setMicroBatches_out (p : Nat) (l : List MicroBatch) : (s.setMicroBatches p l).out = s.out := rfl
@[simp] theorem State.setMicroBatches_beat (p : Nat) (l : List MicroBatch) : (s.setMicroBatches p l).beat = s.beat := rfl
@[simp] theorem State.setMicroBatches_cores (p : Nat) (l : List MicroBatch) : (s.setMicroBatches p l).cores = s.cores := rfl
@[simp] theorem State.setMicroBatches_retain (p : Nat) (l : List MicroBatch) : (s.setMicroBatches p l).retain = s.retain := rfl
@[simp] theorem State.setMicroBatches_progs (p : Nat) (l : List MicroBatch) : (s.setMicroBatches p l).progs = s.progs := rfl
@[simp] theorem State.setMicroBatches_ctxs (p : Nat) (l : List MicroBatch) : (s.setMicroBatches p l).ctxs = s.ctxs := rfl
@[simp] theorem State.setMicroBatches_slots (p : Nat) (l : List MicroBatch) : (s.setMicroBatches p l).slots = s.slots := rfl
@[simp] theorem State.setMicroBatches_launches (p : Nat) (l : List MicroBatch) : (s.setMicroBatches p l).launches = s.launches := rfl
@[simp] theorem State.setMicroBatches_saved (p : Nat) (l : List MicroBatch) : (s.setMicroBatches p l).saved = s.saved := rfl
@[simp] theorem State.setMicroBatches_versions (p : Nat) (l : List MicroBatch) : (s.setMicroBatches p l).versions = s.versions := rfl
@[simp] theorem State.setMicroBatches_fences (p : Nat) (l : List MicroBatch) : (s.setMicroBatches p l).fences = s.fences := rfl
@[simp] theorem State.setMicroBatches_dma (p : Nat) (l : List MicroBatch) : (s.setMicroBatches p l).dma = s.dma := rfl
@[simp] theorem State.setMicroBatches_dmaEng (p : Nat) (l : List MicroBatch) : (s.setMicroBatches p l).dmaEng = s.dmaEng := rfl
@[simp] theorem State.setMicroBatches_host (p : Nat) (l : List MicroBatch) : (s.setMicroBatches p l).host = s.host := rfl
@[simp] theorem State.setMicroBatches_mgmt (p : Nat) (l : List MicroBatch) : (s.setMicroBatches p l).mgmt = s.mgmt := rfl
@[simp] theorem State.setMicroBatches_eccLog (p : Nat) (l : List MicroBatch) : (s.setMicroBatches p l).eccLog = s.eccLog := rfl
@[simp] theorem State.setMicroBatches_fab (p : Nat) (l : List MicroBatch) : (s.setMicroBatches p l).fab = s.fab := rfl
@[simp] theorem State.setMicroBatches_loaders (p : Nat) (l : List MicroBatch) : (s.setMicroBatches p l).loaders = s.loaders := rfl
@[simp] theorem State.setMicroBatches_coll (p : Nat) (l : List MicroBatch) : (s.setMicroBatches p l).coll = s.coll := rfl
@[simp] theorem State.setMicroBatches_acorns (p : Nat) (l : List MicroBatch) : (s.setMicroBatches p l).acorns = s.acorns := rfl
@[simp] theorem State.setMicroBatches_quiet (p : Nat) (l : List MicroBatch) : (s.setMicroBatches p l).quiet = s.quiet := rfl
@[simp] theorem State.setMicroBatches_pow (p : Nat) (l : List MicroBatch) : (s.setMicroBatches p l).pow = s.pow := rfl
@[simp] theorem State.setMicroBatches_sec (p : Nat) (l : List MicroBatch) : (s.setMicroBatches p l).sec = s.sec := rfl
@[simp] theorem State.setMicroBatches_hang (p : Nat) (l : List MicroBatch) : (s.setMicroBatches p l).hang = s.hang := rfl
@[simp] theorem State.setMicroBatches_tango (p : Nat) (l : List MicroBatch) : (s.setMicroBatches p l).tango = s.tango := rfl
@[simp] theorem State.setMicroBatches_health (p : Nat) (l : List MicroBatch) : (s.setMicroBatches p l).health = s.health := rfl

/-! ## setChan -/

@[simp] theorem State.setChan_pending (k : Nat) (x : DmaCh) : (s.setChan k x).pending = s.pending := rfl
@[simp] theorem State.setChan_obj (k : Nat) (x : DmaCh) : (s.setChan k x).obj = s.obj := rfl
@[simp] theorem State.setChan_mem (k : Nat) (x : DmaCh) : (s.setChan k x).mem = s.mem := rfl
@[simp] theorem State.setChan_freeCtr (k : Nat) (x : DmaCh) : (s.setChan k x).freeCtr = s.freeCtr := rfl
@[simp] theorem State.setChan_out (k : Nat) (x : DmaCh) : (s.setChan k x).out = s.out := rfl
@[simp] theorem State.setChan_beat (k : Nat) (x : DmaCh) : (s.setChan k x).beat = s.beat := rfl
@[simp] theorem State.setChan_cores (k : Nat) (x : DmaCh) : (s.setChan k x).cores = s.cores := rfl
@[simp] theorem State.setChan_retain (k : Nat) (x : DmaCh) : (s.setChan k x).retain = s.retain := rfl
@[simp] theorem State.setChan_progs (k : Nat) (x : DmaCh) : (s.setChan k x).progs = s.progs := rfl
@[simp] theorem State.setChan_ctxs (k : Nat) (x : DmaCh) : (s.setChan k x).ctxs = s.ctxs := rfl
@[simp] theorem State.setChan_slots (k : Nat) (x : DmaCh) : (s.setChan k x).slots = s.slots := rfl
@[simp] theorem State.setChan_launches (k : Nat) (x : DmaCh) : (s.setChan k x).launches = s.launches := rfl
@[simp] theorem State.setChan_saved (k : Nat) (x : DmaCh) : (s.setChan k x).saved = s.saved := rfl
@[simp] theorem State.setChan_versions (k : Nat) (x : DmaCh) : (s.setChan k x).versions = s.versions := rfl
@[simp] theorem State.setChan_fences (k : Nat) (x : DmaCh) : (s.setChan k x).fences = s.fences := rfl
@[simp] theorem State.setChan_mbs (k : Nat) (x : DmaCh) : (s.setChan k x).mbs = s.mbs := rfl
@[simp] theorem State.setChan_dmaEng (k : Nat) (x : DmaCh) : (s.setChan k x).dmaEng = s.dmaEng := rfl
@[simp] theorem State.setChan_host (k : Nat) (x : DmaCh) : (s.setChan k x).host = s.host := rfl
@[simp] theorem State.setChan_mgmt (k : Nat) (x : DmaCh) : (s.setChan k x).mgmt = s.mgmt := rfl
@[simp] theorem State.setChan_eccLog (k : Nat) (x : DmaCh) : (s.setChan k x).eccLog = s.eccLog := rfl
@[simp] theorem State.setChan_fab (k : Nat) (x : DmaCh) : (s.setChan k x).fab = s.fab := rfl
@[simp] theorem State.setChan_loaders (k : Nat) (x : DmaCh) : (s.setChan k x).loaders = s.loaders := rfl
@[simp] theorem State.setChan_coll (k : Nat) (x : DmaCh) : (s.setChan k x).coll = s.coll := rfl
@[simp] theorem State.setChan_acorns (k : Nat) (x : DmaCh) : (s.setChan k x).acorns = s.acorns := rfl
@[simp] theorem State.setChan_quiet (k : Nat) (x : DmaCh) : (s.setChan k x).quiet = s.quiet := rfl
@[simp] theorem State.setChan_pow (k : Nat) (x : DmaCh) : (s.setChan k x).pow = s.pow := rfl
@[simp] theorem State.setChan_sec (k : Nat) (x : DmaCh) : (s.setChan k x).sec = s.sec := rfl
@[simp] theorem State.setChan_hang (k : Nat) (x : DmaCh) : (s.setChan k x).hang = s.hang := rfl
@[simp] theorem State.setChan_tango (k : Nat) (x : DmaCh) : (s.setChan k x).tango = s.tango := rfl
@[simp] theorem State.setChan_health (k : Nat) (x : DmaCh) : (s.setChan k x).health = s.health := rfl

/-! ## setLoader -/

@[simp] theorem State.setLoader_pending (p : Nat) (x : LoaderSt) : (s.setLoader p x).pending = s.pending := rfl
@[simp] theorem State.setLoader_obj (p : Nat) (x : LoaderSt) : (s.setLoader p x).obj = s.obj := rfl
@[simp] theorem State.setLoader_mem (p : Nat) (x : LoaderSt) : (s.setLoader p x).mem = s.mem := rfl
@[simp] theorem State.setLoader_freeCtr (p : Nat) (x : LoaderSt) : (s.setLoader p x).freeCtr = s.freeCtr := rfl
@[simp] theorem State.setLoader_out (p : Nat) (x : LoaderSt) : (s.setLoader p x).out = s.out := rfl
@[simp] theorem State.setLoader_beat (p : Nat) (x : LoaderSt) : (s.setLoader p x).beat = s.beat := rfl
@[simp] theorem State.setLoader_cores (p : Nat) (x : LoaderSt) : (s.setLoader p x).cores = s.cores := rfl
@[simp] theorem State.setLoader_retain (p : Nat) (x : LoaderSt) : (s.setLoader p x).retain = s.retain := rfl
@[simp] theorem State.setLoader_progs (p : Nat) (x : LoaderSt) : (s.setLoader p x).progs = s.progs := rfl
@[simp] theorem State.setLoader_ctxs (p : Nat) (x : LoaderSt) : (s.setLoader p x).ctxs = s.ctxs := rfl
@[simp] theorem State.setLoader_slots (p : Nat) (x : LoaderSt) : (s.setLoader p x).slots = s.slots := rfl
@[simp] theorem State.setLoader_launches (p : Nat) (x : LoaderSt) : (s.setLoader p x).launches = s.launches := rfl
@[simp] theorem State.setLoader_saved (p : Nat) (x : LoaderSt) : (s.setLoader p x).saved = s.saved := rfl
@[simp] theorem State.setLoader_versions (p : Nat) (x : LoaderSt) : (s.setLoader p x).versions = s.versions := rfl
@[simp] theorem State.setLoader_fences (p : Nat) (x : LoaderSt) : (s.setLoader p x).fences = s.fences := rfl
@[simp] theorem State.setLoader_mbs (p : Nat) (x : LoaderSt) : (s.setLoader p x).mbs = s.mbs := rfl
@[simp] theorem State.setLoader_dma (p : Nat) (x : LoaderSt) : (s.setLoader p x).dma = s.dma := rfl
@[simp] theorem State.setLoader_dmaEng (p : Nat) (x : LoaderSt) : (s.setLoader p x).dmaEng = s.dmaEng := rfl
@[simp] theorem State.setLoader_host (p : Nat) (x : LoaderSt) : (s.setLoader p x).host = s.host := rfl
@[simp] theorem State.setLoader_mgmt (p : Nat) (x : LoaderSt) : (s.setLoader p x).mgmt = s.mgmt := rfl
@[simp] theorem State.setLoader_eccLog (p : Nat) (x : LoaderSt) : (s.setLoader p x).eccLog = s.eccLog := rfl
@[simp] theorem State.setLoader_fab (p : Nat) (x : LoaderSt) : (s.setLoader p x).fab = s.fab := rfl
@[simp] theorem State.setLoader_coll (p : Nat) (x : LoaderSt) : (s.setLoader p x).coll = s.coll := rfl
@[simp] theorem State.setLoader_acorns (p : Nat) (x : LoaderSt) : (s.setLoader p x).acorns = s.acorns := rfl
@[simp] theorem State.setLoader_quiet (p : Nat) (x : LoaderSt) : (s.setLoader p x).quiet = s.quiet := rfl
@[simp] theorem State.setLoader_pow (p : Nat) (x : LoaderSt) : (s.setLoader p x).pow = s.pow := rfl
@[simp] theorem State.setLoader_sec (p : Nat) (x : LoaderSt) : (s.setLoader p x).sec = s.sec := rfl
@[simp] theorem State.setLoader_hang (p : Nat) (x : LoaderSt) : (s.setLoader p x).hang = s.hang := rfl
@[simp] theorem State.setLoader_tango (p : Nat) (x : LoaderSt) : (s.setLoader p x).tango = s.tango := rfl
@[simp] theorem State.setLoader_health (p : Nat) (x : LoaderSt) : (s.setLoader p x).health = s.health := rfl

/-! ## setCs -/

@[simp] theorem State.setCs_pending (j : Nat) (x : CollSlot) : (s.setCs j x).pending = s.pending := rfl
@[simp] theorem State.setCs_obj (j : Nat) (x : CollSlot) : (s.setCs j x).obj = s.obj := rfl
@[simp] theorem State.setCs_mem (j : Nat) (x : CollSlot) : (s.setCs j x).mem = s.mem := rfl
@[simp] theorem State.setCs_freeCtr (j : Nat) (x : CollSlot) : (s.setCs j x).freeCtr = s.freeCtr := rfl
@[simp] theorem State.setCs_out (j : Nat) (x : CollSlot) : (s.setCs j x).out = s.out := rfl
@[simp] theorem State.setCs_beat (j : Nat) (x : CollSlot) : (s.setCs j x).beat = s.beat := rfl
@[simp] theorem State.setCs_cores (j : Nat) (x : CollSlot) : (s.setCs j x).cores = s.cores := rfl
@[simp] theorem State.setCs_retain (j : Nat) (x : CollSlot) : (s.setCs j x).retain = s.retain := rfl
@[simp] theorem State.setCs_progs (j : Nat) (x : CollSlot) : (s.setCs j x).progs = s.progs := rfl
@[simp] theorem State.setCs_ctxs (j : Nat) (x : CollSlot) : (s.setCs j x).ctxs = s.ctxs := rfl
@[simp] theorem State.setCs_slots (j : Nat) (x : CollSlot) : (s.setCs j x).slots = s.slots := rfl
@[simp] theorem State.setCs_launches (j : Nat) (x : CollSlot) : (s.setCs j x).launches = s.launches := rfl
@[simp] theorem State.setCs_saved (j : Nat) (x : CollSlot) : (s.setCs j x).saved = s.saved := rfl
@[simp] theorem State.setCs_versions (j : Nat) (x : CollSlot) : (s.setCs j x).versions = s.versions := rfl
@[simp] theorem State.setCs_fences (j : Nat) (x : CollSlot) : (s.setCs j x).fences = s.fences := rfl
@[simp] theorem State.setCs_mbs (j : Nat) (x : CollSlot) : (s.setCs j x).mbs = s.mbs := rfl
@[simp] theorem State.setCs_dma (j : Nat) (x : CollSlot) : (s.setCs j x).dma = s.dma := rfl
@[simp] theorem State.setCs_dmaEng (j : Nat) (x : CollSlot) : (s.setCs j x).dmaEng = s.dmaEng := rfl
@[simp] theorem State.setCs_host (j : Nat) (x : CollSlot) : (s.setCs j x).host = s.host := rfl
@[simp] theorem State.setCs_mgmt (j : Nat) (x : CollSlot) : (s.setCs j x).mgmt = s.mgmt := rfl
@[simp] theorem State.setCs_eccLog (j : Nat) (x : CollSlot) : (s.setCs j x).eccLog = s.eccLog := rfl
@[simp] theorem State.setCs_fab (j : Nat) (x : CollSlot) : (s.setCs j x).fab = s.fab := rfl
@[simp] theorem State.setCs_loaders (j : Nat) (x : CollSlot) : (s.setCs j x).loaders = s.loaders := rfl
@[simp] theorem State.setCs_acorns (j : Nat) (x : CollSlot) : (s.setCs j x).acorns = s.acorns := rfl
@[simp] theorem State.setCs_quiet (j : Nat) (x : CollSlot) : (s.setCs j x).quiet = s.quiet := rfl
@[simp] theorem State.setCs_pow (j : Nat) (x : CollSlot) : (s.setCs j x).pow = s.pow := rfl
@[simp] theorem State.setCs_sec (j : Nat) (x : CollSlot) : (s.setCs j x).sec = s.sec := rfl
@[simp] theorem State.setCs_hang (j : Nat) (x : CollSlot) : (s.setCs j x).hang = s.hang := rfl
@[simp] theorem State.setCs_tango (j : Nat) (x : CollSlot) : (s.setCs j x).tango = s.tango := rfl
@[simp] theorem State.setCs_health (j : Nat) (x : CollSlot) : (s.setCs j x).health = s.health := rfl

/-! ## setPort -/

@[simp] theorem State.setPort_pending (n : Nat) (x : PortSt) : (s.setPort n x).pending = s.pending := rfl
@[simp] theorem State.setPort_obj (n : Nat) (x : PortSt) : (s.setPort n x).obj = s.obj := rfl
@[simp] theorem State.setPort_mem (n : Nat) (x : PortSt) : (s.setPort n x).mem = s.mem := rfl
@[simp] theorem State.setPort_freeCtr (n : Nat) (x : PortSt) : (s.setPort n x).freeCtr = s.freeCtr := rfl
@[simp] theorem State.setPort_out (n : Nat) (x : PortSt) : (s.setPort n x).out = s.out := rfl
@[simp] theorem State.setPort_beat (n : Nat) (x : PortSt) : (s.setPort n x).beat = s.beat := rfl
@[simp] theorem State.setPort_cores (n : Nat) (x : PortSt) : (s.setPort n x).cores = s.cores := rfl
@[simp] theorem State.setPort_retain (n : Nat) (x : PortSt) : (s.setPort n x).retain = s.retain := rfl
@[simp] theorem State.setPort_progs (n : Nat) (x : PortSt) : (s.setPort n x).progs = s.progs := rfl
@[simp] theorem State.setPort_ctxs (n : Nat) (x : PortSt) : (s.setPort n x).ctxs = s.ctxs := rfl
@[simp] theorem State.setPort_slots (n : Nat) (x : PortSt) : (s.setPort n x).slots = s.slots := rfl
@[simp] theorem State.setPort_launches (n : Nat) (x : PortSt) : (s.setPort n x).launches = s.launches := rfl
@[simp] theorem State.setPort_saved (n : Nat) (x : PortSt) : (s.setPort n x).saved = s.saved := rfl
@[simp] theorem State.setPort_versions (n : Nat) (x : PortSt) : (s.setPort n x).versions = s.versions := rfl
@[simp] theorem State.setPort_fences (n : Nat) (x : PortSt) : (s.setPort n x).fences = s.fences := rfl
@[simp] theorem State.setPort_mbs (n : Nat) (x : PortSt) : (s.setPort n x).mbs = s.mbs := rfl
@[simp] theorem State.setPort_dma (n : Nat) (x : PortSt) : (s.setPort n x).dma = s.dma := rfl
@[simp] theorem State.setPort_dmaEng (n : Nat) (x : PortSt) : (s.setPort n x).dmaEng = s.dmaEng := rfl
@[simp] theorem State.setPort_host (n : Nat) (x : PortSt) : (s.setPort n x).host = s.host := rfl
@[simp] theorem State.setPort_mgmt (n : Nat) (x : PortSt) : (s.setPort n x).mgmt = s.mgmt := rfl
@[simp] theorem State.setPort_eccLog (n : Nat) (x : PortSt) : (s.setPort n x).eccLog = s.eccLog := rfl
@[simp] theorem State.setPort_loaders (n : Nat) (x : PortSt) : (s.setPort n x).loaders = s.loaders := rfl
@[simp] theorem State.setPort_coll (n : Nat) (x : PortSt) : (s.setPort n x).coll = s.coll := rfl
@[simp] theorem State.setPort_acorns (n : Nat) (x : PortSt) : (s.setPort n x).acorns = s.acorns := rfl
@[simp] theorem State.setPort_quiet (n : Nat) (x : PortSt) : (s.setPort n x).quiet = s.quiet := rfl
@[simp] theorem State.setPort_pow (n : Nat) (x : PortSt) : (s.setPort n x).pow = s.pow := rfl
@[simp] theorem State.setPort_sec (n : Nat) (x : PortSt) : (s.setPort n x).sec = s.sec := rfl
@[simp] theorem State.setPort_hang (n : Nat) (x : PortSt) : (s.setPort n x).hang = s.hang := rfl
@[simp] theorem State.setPort_tango (n : Nat) (x : PortSt) : (s.setPort n x).tango = s.tango := rfl
@[simp] theorem State.setPort_health (n : Nat) (x : PortSt) : (s.setPort n x).health = s.health := rfl

/-! ## modFab -/

@[simp] theorem State.modFab_pending (f : FabricSt → FabricSt) : (s.modFab f).pending = s.pending := rfl
@[simp] theorem State.modFab_obj (f : FabricSt → FabricSt) : (s.modFab f).obj = s.obj := rfl
@[simp] theorem State.modFab_mem (f : FabricSt → FabricSt) : (s.modFab f).mem = s.mem := rfl
@[simp] theorem State.modFab_freeCtr (f : FabricSt → FabricSt) : (s.modFab f).freeCtr = s.freeCtr := rfl
@[simp] theorem State.modFab_out (f : FabricSt → FabricSt) : (s.modFab f).out = s.out := rfl
@[simp] theorem State.modFab_beat (f : FabricSt → FabricSt) : (s.modFab f).beat = s.beat := rfl
@[simp] theorem State.modFab_cores (f : FabricSt → FabricSt) : (s.modFab f).cores = s.cores := rfl
@[simp] theorem State.modFab_retain (f : FabricSt → FabricSt) : (s.modFab f).retain = s.retain := rfl
@[simp] theorem State.modFab_progs (f : FabricSt → FabricSt) : (s.modFab f).progs = s.progs := rfl
@[simp] theorem State.modFab_ctxs (f : FabricSt → FabricSt) : (s.modFab f).ctxs = s.ctxs := rfl
@[simp] theorem State.modFab_slots (f : FabricSt → FabricSt) : (s.modFab f).slots = s.slots := rfl
@[simp] theorem State.modFab_launches (f : FabricSt → FabricSt) : (s.modFab f).launches = s.launches := rfl
@[simp] theorem State.modFab_saved (f : FabricSt → FabricSt) : (s.modFab f).saved = s.saved := rfl
@[simp] theorem State.modFab_versions (f : FabricSt → FabricSt) : (s.modFab f).versions = s.versions := rfl
@[simp] theorem State.modFab_fences (f : FabricSt → FabricSt) : (s.modFab f).fences = s.fences := rfl
@[simp] theorem State.modFab_mbs (f : FabricSt → FabricSt) : (s.modFab f).mbs = s.mbs := rfl
@[simp] theorem State.modFab_dma (f : FabricSt → FabricSt) : (s.modFab f).dma = s.dma := rfl
@[simp] theorem State.modFab_dmaEng (f : FabricSt → FabricSt) : (s.modFab f).dmaEng = s.dmaEng := rfl
@[simp] theorem State.modFab_host (f : FabricSt → FabricSt) : (s.modFab f).host = s.host := rfl
@[simp] theorem State.modFab_mgmt (f : FabricSt → FabricSt) : (s.modFab f).mgmt = s.mgmt := rfl
@[simp] theorem State.modFab_eccLog (f : FabricSt → FabricSt) : (s.modFab f).eccLog = s.eccLog := rfl
@[simp] theorem State.modFab_loaders (f : FabricSt → FabricSt) : (s.modFab f).loaders = s.loaders := rfl
@[simp] theorem State.modFab_coll (f : FabricSt → FabricSt) : (s.modFab f).coll = s.coll := rfl
@[simp] theorem State.modFab_acorns (f : FabricSt → FabricSt) : (s.modFab f).acorns = s.acorns := rfl
@[simp] theorem State.modFab_quiet (f : FabricSt → FabricSt) : (s.modFab f).quiet = s.quiet := rfl
@[simp] theorem State.modFab_pow (f : FabricSt → FabricSt) : (s.modFab f).pow = s.pow := rfl
@[simp] theorem State.modFab_sec (f : FabricSt → FabricSt) : (s.modFab f).sec = s.sec := rfl
@[simp] theorem State.modFab_hang (f : FabricSt → FabricSt) : (s.modFab f).hang = s.hang := rfl
@[simp] theorem State.modFab_tango (f : FabricSt → FabricSt) : (s.modFab f).tango = s.tango := rfl
@[simp] theorem State.modFab_health (f : FabricSt → FabricSt) : (s.modFab f).health = s.health := rfl

/-! ## modMgmt -/

@[simp] theorem State.modMgmt_pending (f : MgmtSt → MgmtSt) : (s.modMgmt f).pending = s.pending := rfl
@[simp] theorem State.modMgmt_obj (f : MgmtSt → MgmtSt) : (s.modMgmt f).obj = s.obj := rfl
@[simp] theorem State.modMgmt_mem (f : MgmtSt → MgmtSt) : (s.modMgmt f).mem = s.mem := rfl
@[simp] theorem State.modMgmt_freeCtr (f : MgmtSt → MgmtSt) : (s.modMgmt f).freeCtr = s.freeCtr := rfl
@[simp] theorem State.modMgmt_out (f : MgmtSt → MgmtSt) : (s.modMgmt f).out = s.out := rfl
@[simp] theorem State.modMgmt_beat (f : MgmtSt → MgmtSt) : (s.modMgmt f).beat = s.beat := rfl
@[simp] theorem State.modMgmt_cores (f : MgmtSt → MgmtSt) : (s.modMgmt f).cores = s.cores := rfl
@[simp] theorem State.modMgmt_retain (f : MgmtSt → MgmtSt) : (s.modMgmt f).retain = s.retain := rfl
@[simp] theorem State.modMgmt_progs (f : MgmtSt → MgmtSt) : (s.modMgmt f).progs = s.progs := rfl
@[simp] theorem State.modMgmt_ctxs (f : MgmtSt → MgmtSt) : (s.modMgmt f).ctxs = s.ctxs := rfl
@[simp] theorem State.modMgmt_slots (f : MgmtSt → MgmtSt) : (s.modMgmt f).slots = s.slots := rfl
@[simp] theorem State.modMgmt_launches (f : MgmtSt → MgmtSt) : (s.modMgmt f).launches = s.launches := rfl
@[simp] theorem State.modMgmt_saved (f : MgmtSt → MgmtSt) : (s.modMgmt f).saved = s.saved := rfl
@[simp] theorem State.modMgmt_versions (f : MgmtSt → MgmtSt) : (s.modMgmt f).versions = s.versions := rfl
@[simp] theorem State.modMgmt_fences (f : MgmtSt → MgmtSt) : (s.modMgmt f).fences = s.fences := rfl
@[simp] theorem State.modMgmt_mbs (f : MgmtSt → MgmtSt) : (s.modMgmt f).mbs = s.mbs := rfl
@[simp] theorem State.modMgmt_dma (f : MgmtSt → MgmtSt) : (s.modMgmt f).dma = s.dma := rfl
@[simp] theorem State.modMgmt_dmaEng (f : MgmtSt → MgmtSt) : (s.modMgmt f).dmaEng = s.dmaEng := rfl
@[simp] theorem State.modMgmt_host (f : MgmtSt → MgmtSt) : (s.modMgmt f).host = s.host := rfl
@[simp] theorem State.modMgmt_eccLog (f : MgmtSt → MgmtSt) : (s.modMgmt f).eccLog = s.eccLog := rfl
@[simp] theorem State.modMgmt_fab (f : MgmtSt → MgmtSt) : (s.modMgmt f).fab = s.fab := rfl
@[simp] theorem State.modMgmt_loaders (f : MgmtSt → MgmtSt) : (s.modMgmt f).loaders = s.loaders := rfl
@[simp] theorem State.modMgmt_coll (f : MgmtSt → MgmtSt) : (s.modMgmt f).coll = s.coll := rfl
@[simp] theorem State.modMgmt_acorns (f : MgmtSt → MgmtSt) : (s.modMgmt f).acorns = s.acorns := rfl
@[simp] theorem State.modMgmt_quiet (f : MgmtSt → MgmtSt) : (s.modMgmt f).quiet = s.quiet := rfl
@[simp] theorem State.modMgmt_pow (f : MgmtSt → MgmtSt) : (s.modMgmt f).pow = s.pow := rfl
@[simp] theorem State.modMgmt_sec (f : MgmtSt → MgmtSt) : (s.modMgmt f).sec = s.sec := rfl
@[simp] theorem State.modMgmt_hang (f : MgmtSt → MgmtSt) : (s.modMgmt f).hang = s.hang := rfl
@[simp] theorem State.modMgmt_tango (f : MgmtSt → MgmtSt) : (s.modMgmt f).tango = s.tango := rfl
@[simp] theorem State.modMgmt_health (f : MgmtSt → MgmtSt) : (s.modMgmt f).health = s.health := rfl

/-! ## modSec -/

@[simp] theorem State.modSec_pending (f : SecSt → SecSt) : (s.modSec f).pending = s.pending := rfl
@[simp] theorem State.modSec_obj (f : SecSt → SecSt) : (s.modSec f).obj = s.obj := rfl
@[simp] theorem State.modSec_mem (f : SecSt → SecSt) : (s.modSec f).mem = s.mem := rfl
@[simp] theorem State.modSec_freeCtr (f : SecSt → SecSt) : (s.modSec f).freeCtr = s.freeCtr := rfl
@[simp] theorem State.modSec_out (f : SecSt → SecSt) : (s.modSec f).out = s.out := rfl
@[simp] theorem State.modSec_beat (f : SecSt → SecSt) : (s.modSec f).beat = s.beat := rfl
@[simp] theorem State.modSec_cores (f : SecSt → SecSt) : (s.modSec f).cores = s.cores := rfl
@[simp] theorem State.modSec_retain (f : SecSt → SecSt) : (s.modSec f).retain = s.retain := rfl
@[simp] theorem State.modSec_progs (f : SecSt → SecSt) : (s.modSec f).progs = s.progs := rfl
@[simp] theorem State.modSec_ctxs (f : SecSt → SecSt) : (s.modSec f).ctxs = s.ctxs := rfl
@[simp] theorem State.modSec_slots (f : SecSt → SecSt) : (s.modSec f).slots = s.slots := rfl
@[simp] theorem State.modSec_launches (f : SecSt → SecSt) : (s.modSec f).launches = s.launches := rfl
@[simp] theorem State.modSec_saved (f : SecSt → SecSt) : (s.modSec f).saved = s.saved := rfl
@[simp] theorem State.modSec_versions (f : SecSt → SecSt) : (s.modSec f).versions = s.versions := rfl
@[simp] theorem State.modSec_fences (f : SecSt → SecSt) : (s.modSec f).fences = s.fences := rfl
@[simp] theorem State.modSec_mbs (f : SecSt → SecSt) : (s.modSec f).mbs = s.mbs := rfl
@[simp] theorem State.modSec_dma (f : SecSt → SecSt) : (s.modSec f).dma = s.dma := rfl
@[simp] theorem State.modSec_dmaEng (f : SecSt → SecSt) : (s.modSec f).dmaEng = s.dmaEng := rfl
@[simp] theorem State.modSec_host (f : SecSt → SecSt) : (s.modSec f).host = s.host := rfl
@[simp] theorem State.modSec_mgmt (f : SecSt → SecSt) : (s.modSec f).mgmt = s.mgmt := rfl
@[simp] theorem State.modSec_eccLog (f : SecSt → SecSt) : (s.modSec f).eccLog = s.eccLog := rfl
@[simp] theorem State.modSec_fab (f : SecSt → SecSt) : (s.modSec f).fab = s.fab := rfl
@[simp] theorem State.modSec_loaders (f : SecSt → SecSt) : (s.modSec f).loaders = s.loaders := rfl
@[simp] theorem State.modSec_coll (f : SecSt → SecSt) : (s.modSec f).coll = s.coll := rfl
@[simp] theorem State.modSec_acorns (f : SecSt → SecSt) : (s.modSec f).acorns = s.acorns := rfl
@[simp] theorem State.modSec_quiet (f : SecSt → SecSt) : (s.modSec f).quiet = s.quiet := rfl
@[simp] theorem State.modSec_pow (f : SecSt → SecSt) : (s.modSec f).pow = s.pow := rfl
@[simp] theorem State.modSec_hang (f : SecSt → SecSt) : (s.modSec f).hang = s.hang := rfl
@[simp] theorem State.modSec_tango (f : SecSt → SecSt) : (s.modSec f).tango = s.tango := rfl
@[simp] theorem State.modSec_health (f : SecSt → SecSt) : (s.modSec f).health = s.health := rfl

/-! ## modHang -/

@[simp] theorem State.modHang_pending (f : HangSt → HangSt) : (s.modHang f).pending = s.pending := rfl
@[simp] theorem State.modHang_obj (f : HangSt → HangSt) : (s.modHang f).obj = s.obj := rfl
@[simp] theorem State.modHang_mem (f : HangSt → HangSt) : (s.modHang f).mem = s.mem := rfl
@[simp] theorem State.modHang_freeCtr (f : HangSt → HangSt) : (s.modHang f).freeCtr = s.freeCtr := rfl
@[simp] theorem State.modHang_out (f : HangSt → HangSt) : (s.modHang f).out = s.out := rfl
@[simp] theorem State.modHang_beat (f : HangSt → HangSt) : (s.modHang f).beat = s.beat := rfl
@[simp] theorem State.modHang_cores (f : HangSt → HangSt) : (s.modHang f).cores = s.cores := rfl
@[simp] theorem State.modHang_retain (f : HangSt → HangSt) : (s.modHang f).retain = s.retain := rfl
@[simp] theorem State.modHang_progs (f : HangSt → HangSt) : (s.modHang f).progs = s.progs := rfl
@[simp] theorem State.modHang_ctxs (f : HangSt → HangSt) : (s.modHang f).ctxs = s.ctxs := rfl
@[simp] theorem State.modHang_slots (f : HangSt → HangSt) : (s.modHang f).slots = s.slots := rfl
@[simp] theorem State.modHang_launches (f : HangSt → HangSt) : (s.modHang f).launches = s.launches := rfl
@[simp] theorem State.modHang_saved (f : HangSt → HangSt) : (s.modHang f).saved = s.saved := rfl
@[simp] theorem State.modHang_versions (f : HangSt → HangSt) : (s.modHang f).versions = s.versions := rfl
@[simp] theorem State.modHang_fences (f : HangSt → HangSt) : (s.modHang f).fences = s.fences := rfl
@[simp] theorem State.modHang_mbs (f : HangSt → HangSt) : (s.modHang f).mbs = s.mbs := rfl
@[simp] theorem State.modHang_dma (f : HangSt → HangSt) : (s.modHang f).dma = s.dma := rfl
@[simp] theorem State.modHang_dmaEng (f : HangSt → HangSt) : (s.modHang f).dmaEng = s.dmaEng := rfl
@[simp] theorem State.modHang_host (f : HangSt → HangSt) : (s.modHang f).host = s.host := rfl
@[simp] theorem State.modHang_mgmt (f : HangSt → HangSt) : (s.modHang f).mgmt = s.mgmt := rfl
@[simp] theorem State.modHang_eccLog (f : HangSt → HangSt) : (s.modHang f).eccLog = s.eccLog := rfl
@[simp] theorem State.modHang_fab (f : HangSt → HangSt) : (s.modHang f).fab = s.fab := rfl
@[simp] theorem State.modHang_loaders (f : HangSt → HangSt) : (s.modHang f).loaders = s.loaders := rfl
@[simp] theorem State.modHang_coll (f : HangSt → HangSt) : (s.modHang f).coll = s.coll := rfl
@[simp] theorem State.modHang_acorns (f : HangSt → HangSt) : (s.modHang f).acorns = s.acorns := rfl
@[simp] theorem State.modHang_quiet (f : HangSt → HangSt) : (s.modHang f).quiet = s.quiet := rfl
@[simp] theorem State.modHang_pow (f : HangSt → HangSt) : (s.modHang f).pow = s.pow := rfl
@[simp] theorem State.modHang_sec (f : HangSt → HangSt) : (s.modHang f).sec = s.sec := rfl
@[simp] theorem State.modHang_tango (f : HangSt → HangSt) : (s.modHang f).tango = s.tango := rfl
@[simp] theorem State.modHang_health (f : HangSt → HangSt) : (s.modHang f).health = s.health := rfl

/-! ## modHealth -/

@[simp] theorem State.modHealth_pending (f : HealthSt → HealthSt) : (s.modHealth f).pending = s.pending := rfl
@[simp] theorem State.modHealth_obj (f : HealthSt → HealthSt) : (s.modHealth f).obj = s.obj := rfl
@[simp] theorem State.modHealth_mem (f : HealthSt → HealthSt) : (s.modHealth f).mem = s.mem := rfl
@[simp] theorem State.modHealth_freeCtr (f : HealthSt → HealthSt) : (s.modHealth f).freeCtr = s.freeCtr := rfl
@[simp] theorem State.modHealth_out (f : HealthSt → HealthSt) : (s.modHealth f).out = s.out := rfl
@[simp] theorem State.modHealth_beat (f : HealthSt → HealthSt) : (s.modHealth f).beat = s.beat := rfl
@[simp] theorem State.modHealth_cores (f : HealthSt → HealthSt) : (s.modHealth f).cores = s.cores := rfl
@[simp] theorem State.modHealth_retain (f : HealthSt → HealthSt) : (s.modHealth f).retain = s.retain := rfl
@[simp] theorem State.modHealth_progs (f : HealthSt → HealthSt) : (s.modHealth f).progs = s.progs := rfl
@[simp] theorem State.modHealth_ctxs (f : HealthSt → HealthSt) : (s.modHealth f).ctxs = s.ctxs := rfl
@[simp] theorem State.modHealth_slots (f : HealthSt → HealthSt) : (s.modHealth f).slots = s.slots := rfl
@[simp] theorem State.modHealth_launches (f : HealthSt → HealthSt) : (s.modHealth f).launches = s.launches := rfl
@[simp] theorem State.modHealth_saved (f : HealthSt → HealthSt) : (s.modHealth f).saved = s.saved := rfl
@[simp] theorem State.modHealth_versions (f : HealthSt → HealthSt) : (s.modHealth f).versions = s.versions := rfl
@[simp] theorem State.modHealth_fences (f : HealthSt → HealthSt) : (s.modHealth f).fences = s.fences := rfl
@[simp] theorem State.modHealth_mbs (f : HealthSt → HealthSt) : (s.modHealth f).mbs = s.mbs := rfl
@[simp] theorem State.modHealth_dma (f : HealthSt → HealthSt) : (s.modHealth f).dma = s.dma := rfl
@[simp] theorem State.modHealth_dmaEng (f : HealthSt → HealthSt) : (s.modHealth f).dmaEng = s.dmaEng := rfl
@[simp] theorem State.modHealth_host (f : HealthSt → HealthSt) : (s.modHealth f).host = s.host := rfl
@[simp] theorem State.modHealth_mgmt (f : HealthSt → HealthSt) : (s.modHealth f).mgmt = s.mgmt := rfl
@[simp] theorem State.modHealth_eccLog (f : HealthSt → HealthSt) : (s.modHealth f).eccLog = s.eccLog := rfl
@[simp] theorem State.modHealth_fab (f : HealthSt → HealthSt) : (s.modHealth f).fab = s.fab := rfl
@[simp] theorem State.modHealth_loaders (f : HealthSt → HealthSt) : (s.modHealth f).loaders = s.loaders := rfl
@[simp] theorem State.modHealth_coll (f : HealthSt → HealthSt) : (s.modHealth f).coll = s.coll := rfl
@[simp] theorem State.modHealth_acorns (f : HealthSt → HealthSt) : (s.modHealth f).acorns = s.acorns := rfl
@[simp] theorem State.modHealth_quiet (f : HealthSt → HealthSt) : (s.modHealth f).quiet = s.quiet := rfl
@[simp] theorem State.modHealth_pow (f : HealthSt → HealthSt) : (s.modHealth f).pow = s.pow := rfl
@[simp] theorem State.modHealth_sec (f : HealthSt → HealthSt) : (s.modHealth f).sec = s.sec := rfl
@[simp] theorem State.modHealth_hang (f : HealthSt → HealthSt) : (s.modHealth f).hang = s.hang := rfl
@[simp] theorem State.modHealth_tango (f : HealthSt → HealthSt) : (s.modHealth f).tango = s.tango := rfl

/-! ## modTango -/

@[simp] theorem State.modTango_pending (f : TangoSt → TangoSt) : (s.modTango f).pending = s.pending := rfl
@[simp] theorem State.modTango_obj (f : TangoSt → TangoSt) : (s.modTango f).obj = s.obj := rfl
@[simp] theorem State.modTango_mem (f : TangoSt → TangoSt) : (s.modTango f).mem = s.mem := rfl
@[simp] theorem State.modTango_freeCtr (f : TangoSt → TangoSt) : (s.modTango f).freeCtr = s.freeCtr := rfl
@[simp] theorem State.modTango_out (f : TangoSt → TangoSt) : (s.modTango f).out = s.out := rfl
@[simp] theorem State.modTango_beat (f : TangoSt → TangoSt) : (s.modTango f).beat = s.beat := rfl
@[simp] theorem State.modTango_cores (f : TangoSt → TangoSt) : (s.modTango f).cores = s.cores := rfl
@[simp] theorem State.modTango_retain (f : TangoSt → TangoSt) : (s.modTango f).retain = s.retain := rfl
@[simp] theorem State.modTango_progs (f : TangoSt → TangoSt) : (s.modTango f).progs = s.progs := rfl
@[simp] theorem State.modTango_ctxs (f : TangoSt → TangoSt) : (s.modTango f).ctxs = s.ctxs := rfl
@[simp] theorem State.modTango_slots (f : TangoSt → TangoSt) : (s.modTango f).slots = s.slots := rfl
@[simp] theorem State.modTango_launches (f : TangoSt → TangoSt) : (s.modTango f).launches = s.launches := rfl
@[simp] theorem State.modTango_saved (f : TangoSt → TangoSt) : (s.modTango f).saved = s.saved := rfl
@[simp] theorem State.modTango_versions (f : TangoSt → TangoSt) : (s.modTango f).versions = s.versions := rfl
@[simp] theorem State.modTango_fences (f : TangoSt → TangoSt) : (s.modTango f).fences = s.fences := rfl
@[simp] theorem State.modTango_mbs (f : TangoSt → TangoSt) : (s.modTango f).mbs = s.mbs := rfl
@[simp] theorem State.modTango_dma (f : TangoSt → TangoSt) : (s.modTango f).dma = s.dma := rfl
@[simp] theorem State.modTango_dmaEng (f : TangoSt → TangoSt) : (s.modTango f).dmaEng = s.dmaEng := rfl
@[simp] theorem State.modTango_host (f : TangoSt → TangoSt) : (s.modTango f).host = s.host := rfl
@[simp] theorem State.modTango_mgmt (f : TangoSt → TangoSt) : (s.modTango f).mgmt = s.mgmt := rfl
@[simp] theorem State.modTango_eccLog (f : TangoSt → TangoSt) : (s.modTango f).eccLog = s.eccLog := rfl
@[simp] theorem State.modTango_fab (f : TangoSt → TangoSt) : (s.modTango f).fab = s.fab := rfl
@[simp] theorem State.modTango_loaders (f : TangoSt → TangoSt) : (s.modTango f).loaders = s.loaders := rfl
@[simp] theorem State.modTango_coll (f : TangoSt → TangoSt) : (s.modTango f).coll = s.coll := rfl
@[simp] theorem State.modTango_acorns (f : TangoSt → TangoSt) : (s.modTango f).acorns = s.acorns := rfl
@[simp] theorem State.modTango_quiet (f : TangoSt → TangoSt) : (s.modTango f).quiet = s.quiet := rfl
@[simp] theorem State.modTango_pow (f : TangoSt → TangoSt) : (s.modTango f).pow = s.pow := rfl
@[simp] theorem State.modTango_sec (f : TangoSt → TangoSt) : (s.modTango f).sec = s.sec := rfl
@[simp] theorem State.modTango_hang (f : TangoSt → TangoSt) : (s.modTango f).hang = s.hang := rfl
@[simp] theorem State.modTango_health (f : TangoSt → TangoSt) : (s.modTango f).health = s.health := rfl

/-! ## modPow -/

@[simp] theorem State.modPow_pending (f : PowSt → PowSt) : (s.modPow f).pending = s.pending := rfl
@[simp] theorem State.modPow_obj (f : PowSt → PowSt) : (s.modPow f).obj = s.obj := rfl
@[simp] theorem State.modPow_mem (f : PowSt → PowSt) : (s.modPow f).mem = s.mem := rfl
@[simp] theorem State.modPow_freeCtr (f : PowSt → PowSt) : (s.modPow f).freeCtr = s.freeCtr := rfl
@[simp] theorem State.modPow_out (f : PowSt → PowSt) : (s.modPow f).out = s.out := rfl
@[simp] theorem State.modPow_beat (f : PowSt → PowSt) : (s.modPow f).beat = s.beat := rfl
@[simp] theorem State.modPow_cores (f : PowSt → PowSt) : (s.modPow f).cores = s.cores := rfl
@[simp] theorem State.modPow_retain (f : PowSt → PowSt) : (s.modPow f).retain = s.retain := rfl
@[simp] theorem State.modPow_progs (f : PowSt → PowSt) : (s.modPow f).progs = s.progs := rfl
@[simp] theorem State.modPow_ctxs (f : PowSt → PowSt) : (s.modPow f).ctxs = s.ctxs := rfl
@[simp] theorem State.modPow_slots (f : PowSt → PowSt) : (s.modPow f).slots = s.slots := rfl
@[simp] theorem State.modPow_launches (f : PowSt → PowSt) : (s.modPow f).launches = s.launches := rfl
@[simp] theorem State.modPow_saved (f : PowSt → PowSt) : (s.modPow f).saved = s.saved := rfl
@[simp] theorem State.modPow_versions (f : PowSt → PowSt) : (s.modPow f).versions = s.versions := rfl
@[simp] theorem State.modPow_fences (f : PowSt → PowSt) : (s.modPow f).fences = s.fences := rfl
@[simp] theorem State.modPow_mbs (f : PowSt → PowSt) : (s.modPow f).mbs = s.mbs := rfl
@[simp] theorem State.modPow_dma (f : PowSt → PowSt) : (s.modPow f).dma = s.dma := rfl
@[simp] theorem State.modPow_dmaEng (f : PowSt → PowSt) : (s.modPow f).dmaEng = s.dmaEng := rfl
@[simp] theorem State.modPow_host (f : PowSt → PowSt) : (s.modPow f).host = s.host := rfl
@[simp] theorem State.modPow_mgmt (f : PowSt → PowSt) : (s.modPow f).mgmt = s.mgmt := rfl
@[simp] theorem State.modPow_eccLog (f : PowSt → PowSt) : (s.modPow f).eccLog = s.eccLog := rfl
@[simp] theorem State.modPow_fab (f : PowSt → PowSt) : (s.modPow f).fab = s.fab := rfl
@[simp] theorem State.modPow_loaders (f : PowSt → PowSt) : (s.modPow f).loaders = s.loaders := rfl
@[simp] theorem State.modPow_coll (f : PowSt → PowSt) : (s.modPow f).coll = s.coll := rfl
@[simp] theorem State.modPow_acorns (f : PowSt → PowSt) : (s.modPow f).acorns = s.acorns := rfl
@[simp] theorem State.modPow_quiet (f : PowSt → PowSt) : (s.modPow f).quiet = s.quiet := rfl
@[simp] theorem State.modPow_sec (f : PowSt → PowSt) : (s.modPow f).sec = s.sec := rfl
@[simp] theorem State.modPow_hang (f : PowSt → PowSt) : (s.modPow f).hang = s.hang := rfl
@[simp] theorem State.modPow_tango (f : PowSt → PowSt) : (s.modPow f).tango = s.tango := rfl
@[simp] theorem State.modPow_health (f : PowSt → PowSt) : (s.modPow f).health = s.health := rfl

/-! ## emit -/

@[simp] theorem State.emit_pending (o : Out) : (s.emit o).pending = s.pending := rfl
@[simp] theorem State.emit_obj (o : Out) : (s.emit o).obj = s.obj := rfl
@[simp] theorem State.emit_mem (o : Out) : (s.emit o).mem = s.mem := rfl
@[simp] theorem State.emit_freeCtr (o : Out) : (s.emit o).freeCtr = s.freeCtr := rfl
@[simp] theorem State.emit_beat (o : Out) : (s.emit o).beat = s.beat := rfl
@[simp] theorem State.emit_cores (o : Out) : (s.emit o).cores = s.cores := rfl
@[simp] theorem State.emit_retain (o : Out) : (s.emit o).retain = s.retain := rfl
@[simp] theorem State.emit_progs (o : Out) : (s.emit o).progs = s.progs := rfl
@[simp] theorem State.emit_ctxs (o : Out) : (s.emit o).ctxs = s.ctxs := rfl
@[simp] theorem State.emit_slots (o : Out) : (s.emit o).slots = s.slots := rfl
@[simp] theorem State.emit_launches (o : Out) : (s.emit o).launches = s.launches := rfl
@[simp] theorem State.emit_saved (o : Out) : (s.emit o).saved = s.saved := rfl
@[simp] theorem State.emit_versions (o : Out) : (s.emit o).versions = s.versions := rfl
@[simp] theorem State.emit_fences (o : Out) : (s.emit o).fences = s.fences := rfl
@[simp] theorem State.emit_mbs (o : Out) : (s.emit o).mbs = s.mbs := rfl
@[simp] theorem State.emit_dma (o : Out) : (s.emit o).dma = s.dma := rfl
@[simp] theorem State.emit_dmaEng (o : Out) : (s.emit o).dmaEng = s.dmaEng := rfl
@[simp] theorem State.emit_host (o : Out) : (s.emit o).host = s.host := rfl
@[simp] theorem State.emit_mgmt (o : Out) : (s.emit o).mgmt = s.mgmt := rfl
@[simp] theorem State.emit_eccLog (o : Out) : (s.emit o).eccLog = s.eccLog := rfl
@[simp] theorem State.emit_fab (o : Out) : (s.emit o).fab = s.fab := rfl
@[simp] theorem State.emit_loaders (o : Out) : (s.emit o).loaders = s.loaders := rfl
@[simp] theorem State.emit_coll (o : Out) : (s.emit o).coll = s.coll := rfl
@[simp] theorem State.emit_acorns (o : Out) : (s.emit o).acorns = s.acorns := rfl
@[simp] theorem State.emit_quiet (o : Out) : (s.emit o).quiet = s.quiet := rfl
@[simp] theorem State.emit_pow (o : Out) : (s.emit o).pow = s.pow := rfl
@[simp] theorem State.emit_sec (o : Out) : (s.emit o).sec = s.sec := rfl
@[simp] theorem State.emit_hang (o : Out) : (s.emit o).hang = s.hang := rfl
@[simp] theorem State.emit_tango (o : Out) : (s.emit o).tango = s.tango := rfl
@[simp] theorem State.emit_health (o : Out) : (s.emit o).health = s.health := rfl

/-! ## writeBytes -/

@[simp] theorem State.writeBytes_pending (a : Nat) (bs : List Byte) : (s.writeBytes a bs).pending = s.pending := rfl
@[simp] theorem State.writeBytes_obj (a : Nat) (bs : List Byte) : (s.writeBytes a bs).obj = s.obj := rfl
@[simp] theorem State.writeBytes_freeCtr (a : Nat) (bs : List Byte) : (s.writeBytes a bs).freeCtr = s.freeCtr := rfl
@[simp] theorem State.writeBytes_out (a : Nat) (bs : List Byte) : (s.writeBytes a bs).out = s.out := rfl
@[simp] theorem State.writeBytes_beat (a : Nat) (bs : List Byte) : (s.writeBytes a bs).beat = s.beat := rfl
@[simp] theorem State.writeBytes_cores (a : Nat) (bs : List Byte) : (s.writeBytes a bs).cores = s.cores := rfl
@[simp] theorem State.writeBytes_retain (a : Nat) (bs : List Byte) : (s.writeBytes a bs).retain = s.retain := rfl
@[simp] theorem State.writeBytes_progs (a : Nat) (bs : List Byte) : (s.writeBytes a bs).progs = s.progs := rfl
@[simp] theorem State.writeBytes_ctxs (a : Nat) (bs : List Byte) : (s.writeBytes a bs).ctxs = s.ctxs := rfl
@[simp] theorem State.writeBytes_slots (a : Nat) (bs : List Byte) : (s.writeBytes a bs).slots = s.slots := rfl
@[simp] theorem State.writeBytes_launches (a : Nat) (bs : List Byte) : (s.writeBytes a bs).launches = s.launches := rfl
@[simp] theorem State.writeBytes_saved (a : Nat) (bs : List Byte) : (s.writeBytes a bs).saved = s.saved := rfl
@[simp] theorem State.writeBytes_versions (a : Nat) (bs : List Byte) : (s.writeBytes a bs).versions = s.versions := rfl
@[simp] theorem State.writeBytes_fences (a : Nat) (bs : List Byte) : (s.writeBytes a bs).fences = s.fences := rfl
@[simp] theorem State.writeBytes_mbs (a : Nat) (bs : List Byte) : (s.writeBytes a bs).mbs = s.mbs := rfl
@[simp] theorem State.writeBytes_dma (a : Nat) (bs : List Byte) : (s.writeBytes a bs).dma = s.dma := rfl
@[simp] theorem State.writeBytes_dmaEng (a : Nat) (bs : List Byte) : (s.writeBytes a bs).dmaEng = s.dmaEng := rfl
@[simp] theorem State.writeBytes_host (a : Nat) (bs : List Byte) : (s.writeBytes a bs).host = s.host := rfl
@[simp] theorem State.writeBytes_mgmt (a : Nat) (bs : List Byte) : (s.writeBytes a bs).mgmt = s.mgmt := rfl
@[simp] theorem State.writeBytes_eccLog (a : Nat) (bs : List Byte) : (s.writeBytes a bs).eccLog = s.eccLog := rfl
@[simp] theorem State.writeBytes_fab (a : Nat) (bs : List Byte) : (s.writeBytes a bs).fab = s.fab := rfl
@[simp] theorem State.writeBytes_loaders (a : Nat) (bs : List Byte) : (s.writeBytes a bs).loaders = s.loaders := rfl
@[simp] theorem State.writeBytes_coll (a : Nat) (bs : List Byte) : (s.writeBytes a bs).coll = s.coll := rfl
@[simp] theorem State.writeBytes_acorns (a : Nat) (bs : List Byte) : (s.writeBytes a bs).acorns = s.acorns := rfl
@[simp] theorem State.writeBytes_quiet (a : Nat) (bs : List Byte) : (s.writeBytes a bs).quiet = s.quiet := rfl
@[simp] theorem State.writeBytes_pow (a : Nat) (bs : List Byte) : (s.writeBytes a bs).pow = s.pow := rfl
@[simp] theorem State.writeBytes_sec (a : Nat) (bs : List Byte) : (s.writeBytes a bs).sec = s.sec := rfl
@[simp] theorem State.writeBytes_hang (a : Nat) (bs : List Byte) : (s.writeBytes a bs).hang = s.hang := rfl
@[simp] theorem State.writeBytes_tango (a : Nat) (bs : List Byte) : (s.writeBytes a bs).tango = s.tango := rfl
@[simp] theorem State.writeBytes_health (a : Nat) (bs : List Byte) : (s.writeBytes a bs).health = s.health := rfl

/-! ## withQueue -/

@[simp] theorem State.withQueue_pending (t : State) : (s.withQueue t).pending = t.pending := rfl
@[simp] theorem State.withQueue_obj (t : State) : (s.withQueue t).obj = s.obj := rfl
@[simp] theorem State.withQueue_mem (t : State) : (s.withQueue t).mem = s.mem := rfl
@[simp] theorem State.withQueue_freeCtr (t : State) : (s.withQueue t).freeCtr = s.freeCtr := rfl
@[simp] theorem State.withQueue_out (t : State) : (s.withQueue t).out = s.out := rfl
@[simp] theorem State.withQueue_beat (t : State) : (s.withQueue t).beat = s.beat := rfl
@[simp] theorem State.withQueue_cores (t : State) : (s.withQueue t).cores = s.cores := rfl
@[simp] theorem State.withQueue_retain (t : State) : (s.withQueue t).retain = s.retain := rfl
@[simp] theorem State.withQueue_progs (t : State) : (s.withQueue t).progs = s.progs := rfl
@[simp] theorem State.withQueue_ctxs (t : State) : (s.withQueue t).ctxs = s.ctxs := rfl
@[simp] theorem State.withQueue_slots (t : State) : (s.withQueue t).slots = s.slots := rfl
@[simp] theorem State.withQueue_launches (t : State) : (s.withQueue t).launches = s.launches := rfl
@[simp] theorem State.withQueue_saved (t : State) : (s.withQueue t).saved = s.saved := rfl
@[simp] theorem State.withQueue_versions (t : State) : (s.withQueue t).versions = s.versions := rfl
@[simp] theorem State.withQueue_fences (t : State) : (s.withQueue t).fences = s.fences := rfl
@[simp] theorem State.withQueue_mbs (t : State) : (s.withQueue t).mbs = s.mbs := rfl
@[simp] theorem State.withQueue_dma (t : State) : (s.withQueue t).dma = s.dma := rfl
@[simp] theorem State.withQueue_dmaEng (t : State) : (s.withQueue t).dmaEng = s.dmaEng := rfl
@[simp] theorem State.withQueue_host (t : State) : (s.withQueue t).host = s.host := rfl
@[simp] theorem State.withQueue_mgmt (t : State) : (s.withQueue t).mgmt = s.mgmt := rfl
@[simp] theorem State.withQueue_eccLog (t : State) : (s.withQueue t).eccLog = s.eccLog := rfl
@[simp] theorem State.withQueue_fab (t : State) : (s.withQueue t).fab = s.fab := rfl
@[simp] theorem State.withQueue_loaders (t : State) : (s.withQueue t).loaders = s.loaders := rfl
@[simp] theorem State.withQueue_coll (t : State) : (s.withQueue t).coll = s.coll := rfl
@[simp] theorem State.withQueue_acorns (t : State) : (s.withQueue t).acorns = s.acorns := rfl
@[simp] theorem State.withQueue_quiet (t : State) : (s.withQueue t).quiet = s.quiet := rfl
@[simp] theorem State.withQueue_pow (t : State) : (s.withQueue t).pow = s.pow := rfl
@[simp] theorem State.withQueue_sec (t : State) : (s.withQueue t).sec = s.sec := rfl
@[simp] theorem State.withQueue_hang (t : State) : (s.withQueue t).hang = s.hang := rfl
@[simp] theorem State.withQueue_tango (t : State) : (s.withQueue t).tango = s.tango := rfl
@[simp] theorem State.withQueue_health (t : State) : (s.withQueue t).health = s.health := rfl

/-! ## Reading after an update -/

@[simp] theorem State.rd_wr (k j : Nat) (v : Word) : (s.wr k v).rd j = if j = k then v else s.rd j := by
  by_cases h : j = k
  · subst h; simp [State.rd, State.wr]
  · simp [State.rd, State.wr, h, mget_mset_ne]

@[simp] theorem State.rd_wrFree (k j : Nat) (v : Word) : (s.wrFree k v).rd j = if j = k then v else s.rd j := by
  by_cases h : j = k <;> simp [State.rd, State.wrFree, h]

@[simp] theorem State.core_setCore (c j : Nat) (x : CoreSt) : (s.setCore c x).core j = if j = c then x else s.core j := by
  simp [State.core, State.setCore]

@[simp] theorem State.core_modCore (c j : Nat) (f : CoreSt → CoreSt) :
    (s.modCore c f).core j = if j = c then f (s.core c) else s.core j := by
  simp [State.modCore]

@[simp] theorem State.func_setFunc (f j : Nat) (x : FuncSt) : (s.setFunc f x).func j = if j = f then x else s.func j := by
  simp [State.func, State.setFunc]

@[simp] theorem State.ctx_setCtxE (k j : Nat) (x : Ctx) : (s.setCtxE k x).ctx j = if j = k then x else s.ctx j := by
  simp [State.ctx, State.setCtxE]

@[simp] theorem State.slot_setSlot (p n m : Nat) (x : LSlot) :
    (s.setSlot p n x).slot p m = if m = n then x else s.slot p m := by
  simp [State.slot, State.setSlot]

@[simp] theorem State.prog_setProg (p n m : Nat) (x : Prog) :
    (s.setProg p n x).prog p m = if m = n then x else s.prog p m := by
  simp [State.prog, State.setProg]

@[simp] theorem State.region_setRegion (p r q : Nat) (e : VEntry) :
    (s.setRegion p r e).region p q = if q = r then e else s.region p q := by
  simp [State.region, State.setRegion]

@[simp] theorem State.fence_setFence (p q : Nat) (f : StepFence) :
    (s.setFence p f).fence q = if q = p then f else s.fence q := by
  simp [State.fence, State.setFence]

@[simp] theorem State.microBatches_set (p q : Nat) (l : List MicroBatch) :
    (s.setMicroBatches p l).microBatches q = if q = p then l else s.microBatches q := by
  simp [State.microBatches, State.setMicroBatches]

@[simp] theorem State.chan_setChan (k j : Nat) (x : DmaCh) : (s.setChan k x).chan j = if j = k then x else s.chan j := by
  simp [State.chan, State.setChan]

@[simp] theorem State.loader_setLoader (p q : Nat) (x : LoaderSt) :
    (s.setLoader p x).loader q = if q = p then x else s.loader q := by
  simp [State.loader, State.setLoader]

@[simp] theorem State.cs_setCs (j i : Nat) (x : CollSlot) : (s.setCs j x).cs i = if i = j then x else s.cs i := by
  simp [State.cs, State.setCs]

@[simp] theorem State.port_setPort (n m : Nat) (x : PortSt) : (s.setPort n x).port m = if m = n then x else s.port m := by
  simp [State.port, State.setPort]

@[simp] theorem State.withQueue_self : s.withQueue s = s := rfl

/-! ## The paths (R12, R359, R363) -/

/-- A write that arrives and is accepted takes its effect. -/
theorem State.objWrite_ok {via : Via} {index sub : Nat} (h : s.reaches via index sub = true) (t : State) :
    s.objWrite via index sub (.ok t) = t := by
  simp only [State.reaches, Bool.and_eq_true] at h
  obtain ⟨⟨⟨h1, h2⟩, h3⟩, h4⟩ := h
  unfold State.objWrite
  rw [if_neg (by simp [h1])]
  cases ho : viaOffset via index sub with
  | none => simp [ho] at h2
  | some off => simp [h3, h4, State.applyW]

/-- A write to a command block that arrives and is accepted takes its effect. -/
theorem State.blockWrite_ok {via : Via} {p : Nat} (h : s.reachesBlock via p = true) (off : Nat) (t : State) :
    s.blockWrite via p off (.ok t) = t := by
  simp only [State.reachesBlock, Bool.and_eq_true, bne_iff_ne, ne_eq] at h
  obtain ⟨⟨⟨h0, h1⟩, h2⟩, h3⟩ := h
  unfold State.blockWrite
  rw [if_neg (by simp [h1, h2])]
  cases via <;> simp_all [State.applyW]

end Sys2Proof.Machine
end

