-- ==== Sys2Proof/WellFormed.lean ====
section
/-! DEFINITION. Which commands are well formed: every operand fits the field in which the EM9 carries it. What the EM9
itself checks of an operand is not here but in the command's meaning. -/

namespace Sys2Proof

/-- An operand descriptor (R112): dimension 0 and at most three more of 1 to 65,535, with strides of 25 bits. -/
def Desc.wf (d : Desc) : Bool :=
  decide (1 ≤ d.n0) && decide (d.dims.length ≤ 3) && decide (d.steps.length ≤ 4) &&
  decide (d.scaleAddr < 2 ^ 32) &&
  d.dims.all fun x =>
    decide (1 ≤ x.1) && decide (x.1 ≤ 65535) && decide (-(2 ^ 24 : Int) ≤ x.2) && decide (x.2 < 2 ^ 24)

/-- A preload mode's operand (R60). -/
def Preload.wf : Preload → Bool
  | .zero => true
  | .bias d => d.wf
  | .residual d => d.wf
  | .keep => true

/-- A block pass (R55). -/
def BlockPass.wf (op : BlockPass) : Bool := op.x.wf && op.preload.wf

/-- A drain's destination (R65). -/
def DrainDest.wf : DrainDest → Bool
  | .spad d => d.wf
  | .walnut _ _ _ => true
  | .vector _ => true

/-- A walnut drain's destination (R84). -/
def WDrainDest.wf : WDrainDest → Bool
  | .bucket b => decide (b.offset < 2 ^ 48)
  | .spad d => d.wf
  | .vector _ => true

/-- The scale exponent of a drain: −64 to 63 (R79). -/
def scaleWf (e : Int) : Bool := decide (-64 ≤ e) && decide (e ≤ 63)

/-- A bank drain (R65, R79). -/
def Drain.wf (op : Drain) : Bool := op.dest.wf && scaleWf op.scale

/-- A walnut drain (R79, R84, R85): its mask lies at a 32-bit operand address. -/
def WDrain.wf (op : WDrain) : Bool := op.dest.wf && scaleWf op.scale && (op.mask.getD 0 < 2 ^ 32)

/-- A source of the vector unit (R72). -/
def VSrc.wf : VSrc → Bool
  | .reg _ => true
  | .mem d => d.wf
  | .imm _ => true

/-- A destination of the vector unit (R72). -/
def VDst.wf : VDst → Bool
  | .reg _ => true
  | .mem d => d.wf

/-- A vector instruction (R72). -/
def VecOp.wf (op : VecOp) : Bool := op.a.wf && op.b.wf && op.c.wf && op.dst.wf && decide (1 ≤ op.n)

/-- A row reduction: at most 2^20 elements (R73). -/
def RowRed.wf (op : RowRed) : Bool := op.src.wf && op.dst.wf && decide (1 ≤ op.n) && decide (op.n ≤ 2 ^ 20)

/-- A forward row operation (R88): the statistics lie at a 32-bit operand address. -/
def NormFwd.wf (op : NormFwd) : Bool :=
  op.x.wf && op.y.wf && op.gain.wf && decide (1 ≤ op.n) && decide (op.n ≤ 2 ^ 20) && (op.stats.getD 0 < 2 ^ 32)

/-- A backward row operation (R89, R90). -/
def NormBwd.wf (op : NormBwd) : Bool :=
  op.x.wf && op.dy.wf && op.gain.wf && op.dx.wf && decide (1 ≤ op.n) && decide (op.n ≤ 2 ^ 20) &&
  (op.stats.getD 0 < 2 ^ 32)

/-- An image: group-local core numbers (R106). -/
def Image.wf (i : Image) : Bool :=
  (i.streams.all fun x => decide (x.1 < 128)) && i.channels.all fun d => decide (d.prod < 128) && decide (d.cons < 128)

/-- A packet (R219): LENGTH is the payload's, at most 4,096 bytes; TARGET has 48 bits. -/
def Packet.wf (p : Packet) : Bool :=
  decide (p.length ≤ 4096) && decide (p.payload.length = p.length) && decide (p.target < 2 ^ 48)

/-- A wire flit (R208): a body of 256 bytes, a LINK word and CRC of 32 bits, and codewords of 136 bytes. -/
def FlitRx.wf (f : FlitRx) : Bool :=
  decide (f.evenErrors ≤ 136) && decide (f.oddErrors ≤ 136) && decide (f.body.length = 256) && decide (f.crc < 2 ^ 32) &&
  decide (f.link.creditCount < 2048) && decide (f.link.ack < 4096)

/-- A TEMPO exchange (R226): times are Beat counter values. -/
def TempoRx.wf (t : TempoRx) : Bool :=
  decide (t.sendTime < 2 ^ 64) && decide (t.partnerRx < 2 ^ 64) &&
  decide (t.localTx < 2 ^ 64) && decide (t.localRx < 2 ^ 64)

/-- A Barzar request (R375): 48 data bytes at most. -/
def CanRequest.wf (r : CanRequest) : Bool := decide (r.data.length ≤ 48)

/-- An access by the host: some bytes, and as many as it names (R362). -/
def accessWf (wr : Option (List Byte)) (len : Nat) : Bool :=
  decide (1 ≤ len) && match wr with
  | some bs => decide (bs.length = len)
  | none => true

/-- A Shell outcome names a granule of the 48-bit address space (R133, R146). -/
def ShellOutcome.wf : ShellOutcome → Bool
  | .clean => true
  | .corrected _ g _ | .uncorrectable g | .pathCorrected _ g | .pathUncorrectable g => decide (g < 2 ^ 44)

/-- A command is well formed. -/
def Instr.wf : Instr → Bool
  | .registerWrite _ _ size _ => (size == 1 || size == 2 || size == 4 || size == 8)
  | .stationaryLoad _ _ op shell => op.w.wf && shell.wf
  | .blockPass _ _ op shell => op.wf && shell.wf
  | .gradientPass _ _ op _ shell => op.x.wf && op.dy.wf && shell.wf
  | .bankDrain _ _ op shell => op.wf && shell.wf
  | .walnutDrain _ op shell => op.wf && shell.wf
  | .walnutDiscard _ _ => true
  | .vectorOperation _ op shell => op.wf && shell.wf
  | .rowReduction _ op shell => op.wf && shell.wf
  | .rowNormalisation _ op shell => op.wf && shell.wf
  | .normBackward _ op shell => op.wf && shell.wf
  | .walnutVectorAdd _ _ _ _ _ shell => shell.wf
  | .paramWrite _ _ _ => true
  | .amaxSlotClear _ _ => true
  | .amaxSlotRead _ _ _ => true
  | .flagClear _ _ => true
  | .loopEnter _ _ _ => true
  | .loopEnd _ _ => true
  | .tileIssue _ => true
  | .tileComplete _ _ => true
  | .stepBegin _ step _ fenceBeat _ _ => decide (step < 2 ^ 32) && decide (fenceBeat < 2 ^ 54)
  | .microBatchAdmit _ _ _ _ _ _ => true
  | .microBatchRetire _ _ => true
  | .optimizerWrite _ _ => true
  | .regionMarkWritten _ _ => true
  | .stepFenceCommit _ => true
  | .fenceAbort _ _ _ => true
  | .lossSubmit _ _ _ => true
  | .arithFlagsClear _ _ _ => true
  | .engCounterClear _ _ _ => true
  | .walnutCounterClear _ _ _ => true
  | .nonfiniteClear _ _ _ => true
  | .idleCoreSelect _ _ _ => true
  | .idleCounterClear _ _ _ => true
  | .programRegister _ _ _ address lengthKiB => decide (address < 2 ^ 48) && decide (lengthKiB < 2 ^ 32)
  | .imageValidationDone _ _ img => img.wf
  | .programRelease _ _ _ => true
  | .slotArm _ _ _ => true
  | .slotAbort _ _ _ => true
  | .launchSlotStart _ _ => true
  | .launchComplete _ _ => true
  | .contextCreate _ _ _ => true
  | .contextEvict _ _ _ => true
  | .contextTeardown _ _ _ => true
  | .swapperEvaluate _ => true
  | .contextEvictDone _ _ lost => lost.all fun a => decide (a < 2 ^ 48)
  | .contextRestoreDone _ _ => true
  | .heldDeliveryFlush _ => true
  | .sliceExpiry _ _ => true
  | .quietReq pkt => pkt.wf
  | .quietAck pkt => pkt.wf
  | .teardownComplete _ _ => true
  | .teardownDeadline _ _ => true
  | .retireHoldExpiry _ _ => true
  | .groupLeadWrite _ _ _ => true
  | .schedCounterClear _ _ _ => true
  | .dmaStart _ _ _ _ _ _ _ _ => true
  | .dmaArm _ _ => true
  | .dmaPromotion _ => true
  | .dmaBurst _ _ env => env.shell.wf && env.merge.wf
  | .dmaFence _ _ => true
  | .arrivalFenceComplete _ _ => true
  | .arrivalTimeout _ => true
  | .dmaStop _ _ => true
  | .dmaResume _ _ => true
  | .dmaClear _ _ => true
  | .dmaCounterClear _ _ _ => true
  | .peerWrite pkt shell => pkt.wf && shell.wf
  | .peerAck _ pkt _ => pkt.wf
  | .retainMaskWrite _ _ _ => true
  | .tangoReserveWrite _ _ _ => true
  | .patrolScrubRead _ o => o.wf
  | .eccLogClear _ _ => true
  | .memCounterClear _ _ _ => true
  | .portRetrain _ _ => true
  | .portDisable _ _ => true
  | .portRecal _ _ _ => true
  | .adaptationMonitorRequest _ _ _ => true
  | .portRoleWrite _ _ _ => true
  | .signalDetect _ => true
  | .trainDone _ _ => true
  | .checkExchange _ _ => true
  | .drainDone _ _ => true
  | .recalDone _ _ => true
  | .fatalLinkFailure _ _ => true
  | .flitReceive _ f => f.wf
  | .nak _ _ => true
  | .packetRoute _ _ pkt shells => pkt.wf && shells.all ShellOutcome.wf
  | .epochAnnounce _ _ _ _ _ _ => true
  | .fabricEpochWrite _ _ => true
  | .epochWrite _ _ => true
  | .routeCommitBeatWrite _ _ => true
  | .routeBankExchange => true
  | .routeCopyDone => true
  | .fabricCounterClear _ _ => true
  | .portCounterClear _ _ _ => true
  | .tempoSend _ => true
  | .tempoReceive _ t => t.wf
  | .masterAnnouncementTimeout _ _ => true
  | .holdoverEntry => true
  | .timePpsEdge => true
  | .jobSlotAssign _ _ _ => true
  | .slotEnable _ _ => true
  | .slotRelease _ _ => true
  | .slotReleaseDone _ => true
  | .allReduce _ addr => decide (addr < 2 ^ 32)
  | .broadcast _ addr => decide (addr < 2 ^ 32)
  | .allGather _ addr => decide (addr < 2 ^ 32)
  | .reel _ addr => decide (addr < 2 ^ 32)
  | .hora _ addr => decide (addr < 2 ^ 32)
  | .stagingComplete _ _ _ => true
  | .collDataSegment pkt => pkt.wf
  | .openPacket pkt => pkt.wf
  | .windowPacket pkt => pkt.wf
  | .excludedPacket pkt => pkt.wf
  | .abortPacket pkt => pkt.wf
  | .resultPacket pkt => pkt.wf
  | .horaFree pkt => pkt.wf
  | .horaBufferRelease _ _ _ _ => true
  | .softDeadline _ _ _ _ => true
  | .hardDeadline _ _ _ => true
  | .orphanDeadline _ _ _ => true
  | .bucketDone _ _ _ => true
  | .collectiveDeadline _ _ _ => true
  | .reelReady _ => true
  | .reelVote _ => true
  | .collCounterClear _ _ => true
  | .slotCounterClear _ _ _ => true
  | .define _ _ => true
  | .defineSingle _ _ _ => true
  | .install _ _ _ _ => true
  | .clear _ _ => true
  | .loadStart _ _ shell => shell.wf
  | .loadCommit _ _ => true
  | .loadCancel _ _ => true
  | .loadRetry _ _ shell => shell.wf
  | .expectBeat _ => true
  | .digestDone _ _ o => o.wf
  | .fetchDeadline _ _ => true
  | .fetchNotice _ pkt => pkt.wf
  | .serveEnable _ _ _ => true
  | .serveRequestReceive _ pkt => pkt.wf
  | .serveRequestProcess _ shell => shell.wf
  | .acornEntryWrite _ _ _ => true
  | .weightCounterClear _ _ _ => true
  | .pair _ pkt => pkt.wf
  | .tangoPairingStart _ => true
  | .tangoListEntryWrite _ _ => true
  | .mirrorBegin shell => shell.wf
  | .tangoBegin pkt => pkt.wf
  | .tangoData pkt => pkt.wf
  | .tangoAck pkt => pkt.wf
  | .tangoComplete pkt => pkt.wf
  | .tangoResume pkt => pkt.wf
  | .tangoResumeReply pkt => pkt.wf
  | .mirrorLate => true
  | .tangoInterrupt => true
  | .tangoReleaseTagWrite _ _ => true
  | .tangoStart _ => true
  | .tangoStop _ => true
  | .tangoPause _ => true
  | .tangoUnpair _ => true
  | .tangoFreeze _ => true
  | .tangoUnfreeze _ => true
  | .tangoRollback _ => true
  | .tangoRestore _ shell => shell.wf
  | .tangoRestoreAbort _ => true
  | .tangoRestoreDone _ => true
  | .partnerSilent => true
  | .probeSend _ => true
  | .probe pkt => pkt.wf
  | .probeTimeout _ => true
  | .trust _ _ => true
  | .dead _ _ => true
  | .healthSubwindowEnd => true
  | .healthPartStateWrite _ _ => true
  | .spotCheckCompare _ _ _ => true
  | .tileWatchdogExpiry _ => true
  | .gateWatchdogExpiry _ => true
  | .scanWatchdogExpiry _ _ => true
  | .arbiterWatchdogExpiry _ => true
  | .mcWatchdogExpiry => true
  | .rungTimeout _ => true
  | .partReset _ _ _ => true
  | .partitionResetReady _ _ => true
  | .vfFlr _ => true
  | .chipReset _ _ => true
  | .perstAssert => true
  | .powerCycle _ _ => true
  | .powerCycleCancel _ _ => true
  | .bistRequest _ _ _ => true
  | .bistDeferredStart _ => true
  | .bistCancel _ _ _ => true
  | .bistDone _ _ => true
  | .busMasterDisable _ => true
  | .d3hotEntry _ => true
  | .vfEnableChange _ numVfs => decide (numVfs ≤ 16)
  | .msixVectorRelease _ vector => decide (vector < 144)
  | .bar4Access _ offset wr len shell => decide (offset < 2 ^ 48) && accessWf wr len && shell.wf
  | .domainWindowAccess offset wr len => decide (offset < 4096) && accessWf wr len
  | .atsInvalidation _ _ _ => true
  | .canRead r => r.wf
  | .canWrite r => r.wf
  | .canReadSeg r => r.wf
  | .canWriteSeg r => r.wf
  | .heartbeatSend => true
  | .controllerHeartbeat => true
  | .ctrlHbTimeout => true
  | .barzarEvent _ _ _ => true
  | .eventFrameSend => true
  | .assign position => decide (1 ≤ position) && decide (position ≤ 127)
  | .restart => true
  | .congaInChange _ _ => true
  | .nodeIdConflict => true
  | .busOffRecovery => true
  | .rwsSaveDone _ => true
  | .unlock _ _ => true
  | .commit _ _ _ => true
  | .lock _ _ => true
  | .calibrationCommitDone _ => true
  | .calibrationStagingTimeout => true
  | .powerUp => true
  | .resetRelease _ => true
  | .jobReady _ => true
  | .fwLoad _ _ _ => true
  | .fwUpdateStart _ _ => true
  | .fwUpdateDone _ _ => true
  | .svnAdvance _ _ => true
  | .attestRequest _ _ _ => true
  | .reclaim _ _ _ => true
  | .retentionEntry _ _ _ => true
  | .retentionExit _ _ => true
  | .brownOut => true
  | .partPowerOff _ _ _ => true
  | .partPowerOn _ _ _ => true
  | .wakeDemand _ => true
  | .wakeDone _ => true
  | .clusterSleepExpiry _ => true
  | .autoOffExpiry _ => true
  | .prewake _ _ => true
  | .powerCapSample _ => true
  | .fastCut => true
  | .avfsTrim _ _ _ => true
  | .thermalThrottleTick _ => true
  | .clusterClockChange _ => true
  | .thermalTrip => true
  | .inputUndervoltage _ _ => true
  | .inputOvervoltage _ _ => true
  | .serdesReferenceLoss _ => true
  | .serdesReferenceReturn => true
  | .powerCounterClear _ _ => true
  | .wireFlitSend _ checks => checks.all fun c => c.2.wf
  | .completionTimeout _ _ => true
  | .engineResetDone _ => true
  | .mcRestartDone => true
  | .channelSelfRefreshReturn _ => true
  | .partitionOffEntryDone _ => true
  | .retentionEntryDone => true
  | .retCurrentWarning _ => true
  | .thermalHoldExit => true
  | .timePpsLoss => true
  | .pcieReferenceChange _ _ => true
  | .canBusError _ => true
  | .canFrameIgnored _ => true
  | .attestReportDone _ signature => decide (signature.length = 512)
  | .reclaimDone _ => true

end Sys2Proof
end

