-- ==== Sys2Proof/Certificates/Slice0/Obligations.lean ====
section
/-! DEFINITION. The statements for the provers. -/

open Sys2Proof Sys2Proof.Machine

/-! ## The queue and the step -/

/-- The command at the front of the queue runs on the state with the rest of the queue. -/
def Obligations.FrontCommandRuns : Prop :=
  ∀ (c : Instr) (rest : List Instr) (s : State), s.pending = c :: rest → step s = exec c { s with pending := rest }

/-- On an empty queue a beat passes (the model's choice: log entry 17). A device whose input is off stands still; one that is
not running only advances the management controller's clock (R21); a running one also does a beat's work. -/
def Obligations.EmptyQueuePassesABeat : Prop :=
  ∀ s : State, s.pending = [] →
    (s.pow.mode = .off → step s = .next s) ∧
    (s.pow.mode ≠ .off → ¬(s.pow.mode = .on ∧ s.rdN (pwKey 7) = 0) →
      step s = .next { s with mgmt := { s.mgmt with ns := s.mgmt.ns + 1024 } }) ∧
    (s.pow.mode = .on → s.rdN (pwKey 7) = 0 →
      step s = .next ((State.runBeat { s with mgmt := { s.mgmt with ns := s.mgmt.ns + 1024 } }).withQueue s))

/-- Every command, in every state, answers a next state and leaves the queue of waiting commands alone: nothing that the
EM9 may be asked stops the block. -/
def Obligations.EveryCommandGoesOn : Prop :=
  ∀ (c : Instr) (s : State), ∃ t, exec c s = .next t ∧ t.pending = s.pending

/-- The queue is first in, first out: as many steps as commands wait apply exactly those commands, in their order, and leave
the queue empty; no step of the run stops. -/
def Obligations.QueueDrainsInOrder : Prop :=
  ∀ s : State, run s.pending.length s = .next (applyAll s.pending s) ∧ (applyAll s.pending s).pending = []

/-- That every waiting command is well formed is kept by every step. -/
def Obligations.WaitingCommandsStayWellFormed : Prop :=
  ∀ s t : State, (∀ c ∈ s.pending, c.wf = true) → step s = .next t → ∀ c ∈ t.pending, c.wf = true

/-! ## Reset (R14, R343, R443 to R449) -/

/-- Right after a chip reset: READINESS reads RESET_HELD, PARTITIONS_READY 0, the Beat counter 0 and every counter object 0; the
memory lists nothing and is in its canonical form; no command waits; every context is FREE, every launch slot EMPTY, every
program entry FREE, every version slot FREE, every step fence idle and every core is without a launch. -/
def Obligations.ResetLeaves : Prop :=
  State.reset.readiness = 0 ∧ State.reset.rdN (objKey 0x1000 0x31) = 0 ∧ State.reset.beat = 0 ∧
  State.reset.mem.cells = [] ∧ State.reset.mem.wf ∧ State.reset.pending = [] ∧
  (∀ c ∈ State.reset.pending, c.wf = true) ∧
  (∀ k, (State.reset.ctx k).state = .free) ∧ (∀ p n, (State.reset.slot p n).state = .empty) ∧
  (∀ p n, (State.reset.prog p n).state = .free) ∧ (∀ p r i, ((State.reset.region p r).slot i).state = .free) ∧
  (∀ p, (State.reset.fence p).state = .idle) ∧ (∀ c, (State.reset.core c).run.launch = none) ∧
  (∀ a, State.reset.mem.read a = 0#8)

/-! ## Paths to registers (R12, R358 to R367) -/

/-- REGISTER_WRITE (R11, R12, R359 to R367): a write that its object or table accepts has that register's effect and no other; an
accepted TILE_WATCHDOG value is stored. A refused one leaves the machine as it was but for the function's FUNC_REFUSE, which records
the first refusal and counts; through a path that is not open a write changes nothing. The registers of the function itself take
their values. -/
def Obligations.RegistersAreWritten : Prop :=
  (∀ (s : State) (via : Via) (index : BitVec 16) (sub : Byte) (size : Nat) (v : Word),
    (s.reaches via index.toNat sub.toNat = true → ∀ t, objSizedW s via index.toNat sub.toNat size v = .ok t →
      exec (.registerWrite via (.obj index sub) size v) s = .next (t.withQueue s)) ∧
    (∀ e, s.reaches .pf index.toNat sub.toNat = true → objSizedW s .pf index.toNat sub.toNat size v = .error e →
      exec (.registerWrite .pf (.obj index sub) size v) s =
          .next ((s.recordRefuse 0 0 (index.toNat * 0x100 + sub.toNat * 8) false).withQueue s) ∧
        (let x := (s.recordRefuse 0 0 (index.toNat * 0x100 + sub.toNat * 8) false).func 0
         x.refValid = true ∧ x.refCount = min ((if (s.func 0).refValid then (s.func 0).refCount else 0) + 1) 0xFFFF ∧
         (x.refOffset = if (s.func 0).refValid then (s.func 0).refOffset else index.toNat * 0x100 + sub.toNat * 8))) ∧
    (s.viaLive via = false → exec (.registerWrite via (.obj index sub) size v) s = .next s)) ∧
  (∀ (s : State) (via : Via) (p : Part) (v : Word), s.reaches via (partIx p) 0xE4 = true → v.toNat < 2 ^ 32 →
    (64 ≤ v.toNat → v.toNat ≤ 1000000 → ∃ t, exec (.registerWrite via (.obj (BitVec.ofNat 16 (partIx p)) 0xE4) 4 v) s = .next t ∧
      t.pRd p 0xE4 = v ∧ (∀ k, k ≠ pKey p 0xE4 → t.rd k = s.rd k) ∧ sameWork s t) ∧
    (v.toNat < 64 ∨ 1000000 < v.toNat → ∃ t, exec (.registerWrite via (.obj (BitVec.ofNat 16 (partIx p)) 0xE4) 4 v) s = .next t ∧
      t.obj = s.obj ∧ sameWork s t)) ∧
  (∀ (s : State) (via : Via) (p : Part) (off : Fin 65536) (size : Nat) (v : Word), s.reachesBlock via p = true →
    ∀ t, blockW s via p off size v = .ok t → exec (.registerWrite via (.bar2 p off) size v) s = .next (t.withQueue s)) ∧
  (∀ (s : State) (p : Part) (n : Fin 256) (v : Word), s.reachesBlock .pf p = true →
    (∀ off : Fin 65536, off.val = 64 * n.val → (s.slot p n).state = .empty → exec (.registerWrite .pf (.bar2 p off) 4 v) s =
      .next ((s.setSlot p n { s.slot p n with
        startBeat := (s.slot p n).startBeat / 2 ^ 32 * 2 ^ 32 + v.toNat % 2 ^ 32 }).withQueue s)) ∧
    (∀ off : Fin 65536, off.val = 64 * n.val → (s.slot p n).state = .armed → ∃ t,
      exec (.registerWrite .pf (.bar2 p off) 4 v) s = .next t ∧ t.obj = s.obj ∧ sameWork s t ∧ (t.func 0).refValid = true)) ∧
  (∀ (s : State) (v : Word) (size : Nat), s.viaLive .pf = true →
    (∃ t, exec (.registerWrite .pf .domainSelect size v) s = .next t ∧ t.host.domSelect = BitVec.ofNat 32 (v.toNat % 2 ^ 24) ∧
      t.host.domOffset = s.host.domOffset ∧ t.obj = s.obj ∧ sameWork s t) ∧
    (v.toNat % 8 = 0 → v.toNat < 2 ^ 32 → ∃ t, exec (.registerWrite .pf .domainOffset size v) s = .next t ∧
      t.host.domOffset.toNat = v.toNat ∧ t.host.domSelect = s.host.domSelect ∧ t.obj = s.obj ∧ sameWork s t) ∧
    (bit v 63 = true → ∃ t, exec (.registerWrite .pf .funcRefuse size v) s = .next t ∧ (t.func 0).refValid = false ∧
      (t.func 0).refCount = 0 ∧ t.obj = s.obj ∧ sameWork s t) ∧
    (∀ i : Fin 144, ∃ t, exec (.registerWrite .pf (.msix i 3) size v) s = .next t ∧ ((t.func 0).vec i).masked = bit v 0 ∧
      ((t.func 0).vec i).pending = ((s.func 0).vec i).pending ∧ (∀ j, j ≠ i.val → (t.func 0).vec j = (s.func 0).vec j) ∧
      t.obj = s.obj ∧ sameWork s t)) ∧
  (∀ (s : State) (v : Word) (size : Nat), s.pcieUp = true →
    (∃ t, exec (.registerWrite .pf (.cfg .msixEnable) size v) s = .next t ∧ (t.func 0).msixEnable = bit v 0 ∧ t.obj = s.obj ∧ sameWork s t) ∧
    (bit v 0 = true → ∃ t, exec (.registerWrite .pf (.cfg .busMaster) size v) s = .next t ∧ (t.func 0).busMaster = true ∧ t.obj = s.obj ∧
      sameWork s t) ∧
    (bit v 0 = true → ∃ t, exec (.registerWrite .pf (.cfg .powerD0) size v) s = .next t ∧ (t.func 0).d3hot = false ∧ t.obj = s.obj ∧
      sameWork s t))

/-! ## Engines, walnut buffer and vector unit (R43, R50, R55 to R90, R121, R124) -/

/-- STATIONARY_LOAD of a block that fits and whose operand can be read completes (R56, R57): the shadow registers hold the block's
format, axis, shape and rows, as the load converter gives them, and the codes as they lie in scratchpad where nothing is
converted; the active block, the banks, memory and every other core stay.
A block loaded with more rows or columns than the pair takes ends the operation with "operand layout" and changes no
register, bank or memory (R57). -/
def Obligations.BlocksAreLoaded : Prop :=
  (∀ (c : Core) (e : Eng) (op : BlockLoad) (shell : ShellOutcome) (s : State),
     s.coreRuns c = true → s.readable c op.w (pairFmt op.pair op.e5) = true → loadFits op = true → shell.bad = false →
     ∃ t, exec (.stationaryLoad c e op shell) s = .next t ∧ opDone s t c ∧ t.mem = s.mem ∧
       (let fmt := pairFmt op.pair op.e5
        let r := s.taken c op.w fmt
        let s1 := (r.1.opRead c op.w.chan.isNone shell).1
        let g := (s.core c).engine e
        let h := (t.core c).engine e
        h.shadow.pair = op.pair ∧ h.shadow.fmt = fmt ∧ h.shadow.axis = op.w.axis ∧ (h.shadow.kt, h.shadow.nt) = blockShape op.w ∧
        h.shadow.rows = (loadBlockRows s1 c r.2 fmt).1 ∧
        (op.w.chan = none → op.w.fmt = fmt →
          h.shadow.rows = (List.range (descRows op.w)).map fun i => loadRowCodes s c (s.offsetOf c op.w) op.w i) ∧
        h.active = g.active ∧ h.bank0 = g.bank0 ∧ h.bank1 = g.bank1)) ∧
  (∀ (c : Core) (e : Eng) (op : BlockLoad) (shell : ShellOutcome) (s : State),
     s.coreRuns c = true → s.readable c op.w (pairFmt op.pair op.e5) = true →
     ((pairShape op.pair).1 < (blockShape op.w).1 ∨ (pairShape op.pair).2 < (blockShape op.w).2) →
     exec (.stationaryLoad c e op shell) s = .next ((s.opFail c stOperandLayout).withQueue s))

/-- BLOCK_PASS and GRADIENT_PASS whose operands can be read and whose checks hold complete: a pass adds its streamed rows into the
bank in ascending order, with the block that a swap makes active, and leaves the other bank and memory (R55, R60 to R64); a
gradient pass accumulates the rows' products into the entries of its walnut block, whose region is then not EMPTY, and leaves
every other byte of memory and the engines (R75 to R81). -/
def Obligations.PassesAccumulate : Prop :=
  (∀ (c : Core) (e : Eng) (op : BlockPass) (shell : ShellOutcome) (s : State),
    s.coreRuns c = true → s.readable c op.x (pairFmt op.pair op.e5) = true → passLayoutOk ((s.core c).engine e) op = true →
    (s.taken c op.x (pairFmt op.pair op.e5)).1.preReadable c op = true → shell.bad = false →
    ∃ t, exec (.blockPass c e op shell) s = .next t ∧ opDone s t c ∧ t.mem = s.mem ∧
      (let r := s.taken c op.x (pairFmt op.pair op.e5)
       let q := r.1.takenPre c op
       let g := (s.core c).engine e
       let h := (t.core c).engine e
       let w := bankWidth op.pair op.orient
       let init := preVals (q.1.opRead c true shell).1 c (pairTot op.pair) w (descRows op.x) q.2
       let xs := passStream init.2 c op r.2
       h.bank op.bank = (passRows (g.passBlock op) op.orient (s.ftz c) (pairFmt op.pair op.e5) w op.startRow 0 xs.1
          (g.passBank op init.1) 0#4).1 ∧
       (∀ b, b ≠ op.bank → h.bank b = g.bank b) ∧
       h.active = (if op.swap then g.shadow else g.active) ∧ h.shadow = (if op.swap then g.active else g.shadow))) ∧
  (∀ (c : Core) (e : Eng) (op : GradPass) (inWalnut : Bool) (shell : ShellOutcome) (s : State),
    s.coreRuns c = true → s.regionDrains c op.region = false → gradFits op = true → shell.bad = false →
    s.readable c op.x (pairFmt op.pair op.xe5) = true →
    (s.taken c op.x (pairFmt op.pair op.xe5)).1.readable c op.dy (pairFmt op.pair op.dye5) = true →
    ∃ t, exec (.gradientPass c e op inWalnut shell) s = .next t ∧ opDone s t c ∧ (t.core c).engines = (s.core c).engines ∧
      (0 < descRows op.x → t.regionHeld c op.region = true) ∧
      (let fx := pairFmt op.pair op.xe5
       let fd := pairFmt op.pair op.dye5
       let r := s.taken c op.x fx
       let q := r.1.taken c op.dy fd
       let xr := loadBlockRows (q.1.opReadBoth c inWalnut shell).1 c r.2 fx
       let rows := xr.1.zip (loadBlockRows xr.2 c q.2 fd).1
       let kt := (pairShape op.pair).1
       let nt := (pairShape op.pair).2
       memOutside s t (entryAddr c op.block) (4 * (kt * nt)) ∧
       ∀ i, i < kt * nt → t.entry c (op.block + i) = (gradChunks (s.ftz c) (rows.length / 64 + 1)
         (gradProducts op.pair fx fd (s.ftz c) (i / nt) (i % nt) rows) (s.entry c (op.block + i)) 0#4).1))

/-- BANK_DRAIN, WALNUT_DRAIN and WALNUT_DISCARD complete. A bank drain leaves its bank empty (R65): to vector registers go the
scaled totals, to a walnut region they are added and nothing else of memory changes. A walnut drain to scratchpad or vector
unit sends the kept, scaled entries, zeroes every entry and leaves its region EMPTY; one to a bucket does so or waits in
DRAINING (R81, R84). A discard zeroes its region's entries and nothing else (R81). -/
def Obligations.DrainsEmpty : Prop :=
  (∀ (c : Core) (e : Eng) (op : Drain) (shell : ShellOutcome) (s : State) (t : TotFmt) (w : Nat),
    s.coreRuns c = true → s.drainWaits c op = false → drainCheck s c (((s.core c).engine e).bank op.bank) op = none →
    shell.bad = false → (((s.core c).engine e).bank op.bank).use = some (t, w) →
    ∃ u, exec (.bankDrain c e op shell) s = .next u ∧ opDone s u c ∧
      (∃ n, ((u.core c).engine e).bank op.bank = Bank.drained n) ∧
      (let rows := (drainVals (((s.core c).engine e).bank op.bank) t w (s.ftz c) op.scale op.row op.rows).1.flatten
       (∀ v, op.dest = .vector v → u.mem = s.mem ∧ ∀ k x, (f32Codes (s.ftz c) rows).1[k]? = some x → (u.core c).vreg v k = x) ∧
       (∀ r off tag, op.dest = .walnut r off tag →
         memOutside s u (entryAddr c (r.base + off)) (4 * rows.length) ∧ (0 < op.rows → u.regionHeld c r = true) ∧
         ∀ k x, rows[k]? = some x → u.entry c (r.base + off + k) =
           (entryAdd (s.ftz c) (s.entry c (r.base + off + k)) x).1))) ∧
  (∀ (c : Core) (op : WDrain) (shell : ShellOutcome) (s : State) (m : Option Nat),
    s.coreRuns c = true → regionOk op.region = true → wdrainMask s c op = .ok m →
    wdrainCheck s c op (16 * (wdrainLines s op m).length) = none → shell.bad = false →
    ∃ u, exec (.walnutDrain c op shell) s = .next u ∧
      ((u.regionHeld c op.region = false ∧ ∀ i, i < op.region.len → u.entry c (op.region.base + i) = 0#32) ∨
        ((∃ b, op.dest = .bucket b) ∧ u.regionDrains c op.region = true)) ∧
      ((∀ b, op.dest ≠ .bucket b) → opDone s u c ∧ (u.core c).engines = (s.core c).engines) ∧
      (∀ v, op.dest = .vector v → ∀ k x,
        (scaleEntries (s.ftz c) op.scale (keptEntries s c op.region (wdrainLines s op m))).1[k]? = some x → (u.core c).vreg v k = x)) ∧
  (∀ (c : Core) (r : WRegion) (s : State), s.coreRuns c = true → regionOk r = true →
    ∃ u, exec (.walnutDiscard c r) s = .next u ∧ u.regionHeld c r = false ∧ (∀ i, i < r.len → u.entry c (r.base + i) = 0#32) ∧
      memOutside s u (entryAddr c r.base) (4 * r.len) ∧ u.obj = s.obj ∧ u.launches = s.launches ∧
      (∀ d, d ≠ c.val → u.core d = s.core d) ∧ (u.core c).engines = (s.core c).engines ∧ (u.core c).vregs = (s.core c).vregs)

/-- The vector unit's operations complete where their operands can be read and their destination written: elementwise operations,
conversion and draws (R72), reductions of at most 2^20 elements (R73), the forward and backward row operations (R88 to R90) and
the addition to walnut entries (R82). The engines and the other cores stay, and memory does where the destination is a
register; of register operands each result element is that of its function, rounded in the operation's mode. -/
def Obligations.VectorOperationsComplete : Prop :=
  (∀ (c : Core) (op : VecOp) (shell : ShellOutcome) (s : State),
    s.coreRuns c = true → ¬(op.round = .sr ∧ srDstOk op.dst = false) → checkV s c op.n op.dst (op.round == .sr) = none →
    shell.bad = false →
    (let r1 := s.takenV c op.n (opFmt op.fn) op.a
     let r2 := r1.1.takenV c op.n (opFmt op.fn) op.b
     let r3 := r2.1.takenV c op.n (opFmt op.fn) op.c
     s.readableV c op.n (opFmt op.fn) op.a = true → r1.1.readableV c op.n (opFmt op.fn) op.b = true →
     r2.1.readableV c op.n (opFmt op.fn) op.c = true →
     ∃ t, exec (.vectorOperation c op shell) s = .next t ∧ opDone s t c ∧ (t.core c).engines = (s.core c).engines ∧
       t = ((r3.1.vecMeets c (vecInSpad op) shell).1.vectorRun c op r1.2 r2.2 r3.2).withQueue s ∧
       (∀ v, op.dst = .reg v → t.mem = s.mem)) ∧
    (∀ ra rb rc v, op.a = .reg ra → op.b = .reg rb → op.c = .reg rc → op.dst = .reg v → is64 op.fn = false →
      op.fn ∉ [VecFn.draw16, .draw32, .draw64] → op.round ≠ .sr →
      ∃ t, exec (.vectorOperation c op shell) s = .next t ∧ t.mem = s.mem ∧ ∀ i, i < op.n →
        (t.core c).vreg v i = ((vElem op.fn (s.ftz c) (op.round == .rdn) ((s.core c).vreg ra i) ((s.core c).vreg rb i)
          ((s.core c).vreg rc i)).finish op.round (s.ftz c)).1)) ∧
  (∀ (c : Core) (op : RowRed) (shell : ShellOutcome) (s : State),
    s.coreRuns c = true → op.n ≤ 2 ^ 20 → ¬(op.round = .sr ∧ srDstOk op.dst = false) →
    checkV s c 1 op.dst (op.round == .sr) = none → s.readableV c op.n .fp32 op.src = true → shell.bad = false →
    ∃ t, exec (.rowReduction c op shell) s = .next t ∧ opDone s t c ∧ (t.core c).engines = (s.core c).engines ∧
      (∀ v, op.dst = .reg v → t.mem = s.mem ∧
        ∀ r, op.src = .reg r → op.round ≠ .sr → (t.core c).vreg v 0 = (reduceRow op.op op.round (s.ftz c)
          ((List.range op.n).map fun i => (s.core c).vreg r i)).1)) ∧
  (∀ (c : Core) (op : NormFwd) (shell : ShellOutcome) (s : State),
    s.coreRuns c = true → op.n ≤ 2 ^ 20 → checkV s c op.n op.y false = none → statsErr s c op.stats = none →
    s.readableV c op.n .fp32 op.x = true → (s.takenV c op.n .fp32 op.x).1.readableV c op.n .fp32 op.gain = true →
    shell.bad = false →
    ∃ t, exec (.rowNormalisation c op shell) s = .next t ∧ opDone s t c ∧ (t.core c).engines = (s.core c).engines ∧
      (∀ v, op.y = .reg v → (op.stats = none → t.mem = s.mem) ∧
        (∀ a, op.stats = some a → memOutside s t (spadBase c + a % 2 ^ 25) 8) ∧
        ∀ r, op.x = .reg r →
          (let x := (List.range op.n).map fun i => (s.core c).vreg r i
           let st := (rowStats op.kind (s.ftz c) x op.eps).1
           (∀ a, op.stats = some a → t.mem.readLE (spadBase c + a % 2 ^ 25) 4 = st.1.toNat ∧
             t.mem.readLE (spadBase c + a % 2 ^ 25 + 4) 4 = st.2.toNat) ∧
           (op.kind = .softmax → ∀ i y, (rowNormed .softmax (s.ftz c) x st).1[i]? = some y → (t.core c).vreg v i = y)))) ∧
  (∀ (c : Core) (op : NormBwd) (shell : ShellOutcome) (s : State),
    (let r1 := s.takenV c op.n .fp32 op.x
     let r2 := r1.1.takenV c op.n .fp32 op.dy
     s.coreRuns c = true → op.n ≤ 2 ^ 20 → checkV s c op.n op.dx false = none → statsErr s c op.stats = none →
     s.readableV c op.n .fp32 op.x = true → r1.1.readableV c op.n .fp32 op.dy = true →
     r2.1.readableV c op.n .fp32 op.gain = true → shell.bad = false →
     ∃ t, exec (.normBackward c op shell) s = .next t ∧ opDone s t c ∧ (t.core c).engines = (s.core c).engines ∧
       (∀ v, op.dx = .reg v → t.mem = s.mem ∧ ∀ rx rd, op.x = .reg rx → op.dy = .reg rd → op.kind = .softmax → op.stats = none →
         (let x := (List.range op.n).map fun i => (s.core c).vreg rx i
          let y := (rowNormed .softmax (s.ftz c) x (rowStats .softmax (s.ftz c) x op.eps).1).1
          ∀ i g, (softmaxBack (s.ftz c) y ((List.range op.n).map fun i => (s.core c).vreg rd i)).1[i]? = some g →
            (t.core c).vreg v i = g)))) ∧
  (∀ (c : Core) (r : WRegion) (off : Nat) (v : Fin 32) (n : Nat) (shell : ShellOutcome) (s : State),
    s.coreRuns c = true → s.regionDrains c r = false → regionOk r = true → off + n ≤ r.len → shell.bad = false →
    ∃ t, exec (.walnutVectorAdd c r off v n shell) s = .next t ∧ opDone s t c ∧ (0 < n → t.regionHeld c r = true) ∧
      memOutside s t (entryAddr c (r.base + off)) (4 * n) ∧ (t.core c).vregs = (s.core c).vregs ∧
      ∀ i, i < n → t.entry c (r.base + off + i) =
        (entryAdd (s.ftz c) (s.entry c (r.base + off + i)) (ofF32 (s.ftz c) ((s.core c).vreg v i))).1)

/-- PARAM_WRITE, AMAX_SLOT_CLEAR, AMAX_SLOT_READ and FLAG_CLEAR on a core that has not failed: the register takes the immediate or
element 0 (R121), the slot takes +0 (R43), the vector register's element 0 takes the slot (R44), the flags of the mask are
cleared, the launch keeping them for its record (R50, R51). Each changes that core alone, and nothing else of the machine. -/
def Obligations.CoreRegisterOperations : Prop :=
  ∀ (c : Core) (s : State), s.coreRuns c = true →
    (∀ (dst : ParamDst) (src : ParamSrc), ∃ t, exec (.paramWrite c dst src) s = .next t ∧
      (let w := match src with
        | .imm v => v
        | .vreg r => ((s.core c).vreg r 0).zeroExtend 64
       (∀ k, dst = .param k → (t.core c).param k = w ∧ (t.core c).loops = (s.core c).loops ∧
         ∀ j : Param, j ≠ k → (t.core c).param j = (s.core c).param j) ∧
       (∀ k, dst = .cnt k → (t.core c).loop k = { (s.core c).loop k with cnt := w } ∧ (t.core c).params = (s.core c).params ∧
         ∀ j : Fin 4, j ≠ k → (t.core c).loop j = (s.core c).loop j)) ∧
      (∀ d, d ≠ c.val → t.core d = s.core d) ∧ t.mem = s.mem ∧ t.obj = s.obj ∧ t.launches = s.launches) ∧
    (∀ slot : Fin 32, ∃ t, exec (.amaxSlotClear c slot) s = .next t ∧ (t.core c).amaxSlot slot = 0#32 ∧
      (∀ j : Fin 32, j ≠ slot → (t.core c).amaxSlot j = (s.core c).amaxSlot j) ∧
      (∀ d, d ≠ c.val → t.core d = s.core d) ∧ t.mem = s.mem ∧ t.obj = s.obj ∧ t.launches = s.launches) ∧
    (∀ slot dst : Fin 32, ∃ t, exec (.amaxSlotRead c slot dst) s = .next t ∧
      (t.core c).vreg dst 0 = (s.core c).amaxSlot slot ∧ (t.core c).amax = (s.core c).amax ∧
      (∀ d, d ≠ c.val → t.core d = s.core d) ∧ t.mem = s.mem ∧ t.obj = s.obj ∧ t.launches = s.launches) ∧
    (∀ mask : Word32, ∃ t, exec (.flagClear c mask) s = .next t ∧ (t.core c).flags = (s.core c).flags &&& ~~~mask ∧
      (t.core c).params = (s.core c).params ∧
      (∀ d, d ≠ c.val → t.core d = s.core d) ∧ t.mem = s.mem ∧ t.obj = s.obj ∧
      (∀ k, (s.core c).run.launch ≠ some k → t.launch k = s.launch k) ∧
      (∀ k l, (s.core c).run.launch = some k → s.launch k = some l →
        t.launch k = some { l with flags := l.flags ||| arithOf (s.core c).flags }))

/-- LOOP_ENTER and LOOP_END inside a tile (R124, R125): entry writes CNT, latches a count that is neither 0 nor above 2^24 − 1 nor
above the tile's limit, sets ITER to 0 and starts the level; a zero count skips the body; a count above 2^24 − 1 ends the tile
with "loop limit"; an end raises ITER by one and leaves the level active only below the latched count.
LOOP_ENTER and LOOP_END of a loop of whole tiles, at the core's next item (R124, R125): a zero count goes to the item after the
body, a running count to the body's first item, a count above 2^24 − 1 ends the launch with "loop limit"; an end goes back to
the body while iterations are left and else to the next item. -/
def Obligations.LoopsRepeatTiles : Prop :=
  (∀ (c : Core) (level : Fin 4) (s : State), s.coreRuns c = true → s.atBoundary c = false →
     (∀ src : LoopSrc,
       (let u := s.modCore c fun x => loopSource x level src
        let n := ((u.core c).loop level).cnt.toNat
        (loopMax < n → exec (.loopEnter c level src) s = .next ((u.opFail c stLoopLimit).withQueue s)) ∧
        (n = 0 → exec (.loopEnter c level src) s = .next u) ∧
        (0 < n → n ≤ loopMax → (∀ t, s.runningTile c = some t → ∀ l ∈ t.inner, l.level = level → n ≤ l.limit) →
          ∃ t, exec (.loopEnter c level src) s = .next t ∧ (t.core c).loop level = ⟨((u.core c).loop level).cnt, n, 0, true⟩))) ∧
     (((s.core c).loop level).active = true →
       ∃ t, exec (.loopEnd c level) s = .next t ∧
         (t.core c).loop level = { (s.core c).loop level with
           iter := ((s.core c).loop level).iter + 1,
           active := decide (((s.core c).loop level).iter + 1 < ((s.core c).loop level).latched) })) ∧
  (∀ (c : Core) (level : Fin 4) (s : State), s.coreRuns c = true → s.atBoundary c = true →
     (let items := s.items c
      let i := (s.core c).run.item
      (∀ src : LoopSrc, items[i]? = some (.loopEnter level src) →
       (let u := s.modCore c fun x => loopSource x level src
        let n := ((u.core c).loop level).cnt.toNat
        (n = 0 → exec (.loopEnter c level src) s = .next ((u.gotoItem c (afterBody items i)).withQueue s)) ∧
        (0 < n → n ≤ loopMax → exec (.loopEnter c level src) s =
           .next (((u.modCore c fun x => loopStart x level n).gotoItem c (i + 1)).withQueue s)) ∧
        (loopMax < n → exec (.loopEnter c level src) s =
           .next ((u.opFailAt c stLoopLimit (tileIndex items (i + 1))).withQueue s)))) ∧
      (items[i]? = some (.loopEnd level) → ((s.core c).loop level).active = true →
       (let l := (s.core c).loop level
        let more := decide (l.iter + 1 < l.latched)
        exec (.loopEnd c level) s = .next (((s.modCore c fun x =>
          x.setLoop level { l with iter := l.iter + 1, active := more }).gotoItem c
            (if more then startOfBody items i else i + 1)).withQueue s)))))

/-! ## Tiles, the step fence, micro-batches and the loss monitor (R94 to R104, R115 to R120) -/

/-- TILE_ISSUE and TILE_COMPLETE (R115 to R117). A core that may issue and whose next tile has every gate satisfied issues it: the
tile runs from this beat, the core's stream moves on by one, its launch keeps the beat of its first tile; no other core and no
memory changes. With a gate unsatisfied nothing is issued, and with a void one the launch is told to end with "fence aborted".
A running tile whose drains have delivered and whose core has no collective to wait for completes: its core stands at a boundary
with nothing reserved, other cores as they were. -/
def Obligations.TilesIssueAndComplete : Prop :=
  (∀ (c : Core) (s : State) (k : Nat) (l : Launch) (t : Tile),
    s.launchOf c = some (k, l) → s.nextTile c = some t → s.mayIssue c l = true →
    (t.gates.any (s.gateVoid c) = false → s.openGates c = [] →
      ∃ u, exec (.tileIssue c) s = .next u ∧
        (u.core c).run.tile = some (tileIndex (s.items c) (s.core c).run.item, s.beat) ∧
        (u.core c).run.item = (s.core c).run.item + 1 ∧
        (∀ d, d ≠ c.val → u.core d = s.core d) ∧ u.mem = s.mem ∧ u.obj = s.obj ∧ u.versions = s.versions) ∧
    (t.gates.any (s.gateVoid c) = false → s.openGates c ≠ [] →
      ∃ u, exec (.tileIssue c) s = .next u ∧ (u.core c).run.tile = none ∧ (u.core c).run.item = (s.core c).run.item) ∧
    (t.gates.any (s.gateVoid c) = true →
      exec (.tileIssue c) s = .next ((s.endLaunch k (outsideEnd stFenceAborted)).withQueue s))) ∧
  (∀ (c : Core) (cycles : Nat) (s : State) (k : Nat) (l : Launch) (i b : Nat),
    s.launchOf c = some (k, l) → (s.core c).run.tile = some (i, b) → (s.core c).drains = false → s.collWaits c = false →
    ∃ u, exec (.tileComplete c cycles) s = .next u ∧ (u.core c).run.tile = none ∧ (u.core c).run.resIn = [] ∧
      (u.core c).run.resOut = [] ∧ (u.core c).run.resBucket = [] ∧ (u.core c).run.item = (s.core c).run.item ∧ u.mem = s.mem ∧
      (∀ d, d ≠ c.val → u.core d = s.core d))

/-- STEP_BEGIN arms the step fence of the core's partition for a new step, writes STEP and gives the deadline to its job slot (R94,
R103); a second begin of the same armed step leaves the fence.
MICRO_BATCH_ADMIT and MICRO_BATCH_RETIRE (R102, R103, R298). A new micro-batch that names VALID acorns only and is bound to
current versions is admitted with the COMMITTED slot of each of its regions and its acorns' regions, once each; while a slot has no
room or none is COMMITTED it waits, and one bound to a step's versions is admitted unless such a slot has no room. A retirement
gives the bindings back and counts in a fence armed for the micro-batch's step. -/
def Obligations.StepsAndMicroBatchesBegin : Prop :=
  (∀ (c : Core) (step mbs fb : Nat) (dl : Option (JobSlot × Nat)) (reseed : Bool) (s : State), s.coreRuns c = true →
     ∃ t, exec (.stepBegin c step mbs fb dl reseed) s = .next t ∧
       t.fence (c / 16) = (if (s.fence (c / 16)).state = .armed ∧ (s.fence (c / 16)).step = step then s.fence (c / 16)
         else ⟨.armed, step, mbs, 0, fb, s.ctxOf c, none⟩) ∧
       t.pRd (c / 16) 0x51 = BitVec.ofNat 64 step ∧
       (∀ q, q ≠ c.val / 16 → t.fence q = s.fence q) ∧ t.versions = s.versions ∧ t.mem = s.mem ∧
       (∀ j b, dl = some (j, b) → (t.cs j).deadlines.head? = some (step % 65536, b))) ∧
  ((∀ (p : Part) (mb trains : Nat) (rs : List Region) (acorns : List (Fin 32)) (s : State),
     ((s.microBatches p).any fun m => m.mb == mb) = false → (∀ i ∈ acorns, bit (s.acorn p i) 63 = true) →
     (∀ l, bindCurrent s p (s.admitRegions p rs acorns) = some l →
       ∃ t, exec (.microBatchAdmit p mb rs .current trains acorns) s = .next t ∧
         t.microBatches p = s.microBatches p ++ [⟨mb, trains, acorns.map Fin.val, none, l, []⟩] ∧
         (∀ r ∈ rs, r.val ∈ l.map Prod.fst) ∧
         (∀ b ∈ l, ((t.region p b.1).slot b.2).bind = ((s.region p b.1).slot b.2).bind + 1 ∧
           ((s.region p b.1).slot b.2).state = .committed) ∧ t.mem = s.mem ∧ t.cores = s.cores) ∧
     (bindCurrent s p (s.admitRegions p rs acorns) = none →
       exec (.microBatchAdmit p mb rs .current trains acorns) s = .next s) ∧
     (∀ n, (∀ r ∈ s.admitRegions p rs acorns, ∀ i, (s.region p r).stepSlot (BitVec.ofNat 16 n) = some i →
         ((s.region p r).slot i).bind < 255) →
       ∃ t l w, exec (.microBatchAdmit p mb rs (.step n) trains acorns) s = .next t ∧
         t.microBatches p = s.microBatches p ++ [⟨mb, trains, acorns.map Fin.val, some n, l, w⟩] ∧
         (∀ r ∈ s.admitRegions p rs acorns, r.val ∈ w ∨ r.val ∈ l.map Prod.fst))) ∧
   (∀ (p : Part) (mb : Nat) (s : State) (m : MicroBatch), (s.microBatches p).find? (fun m => m.mb == mb) = some m →
     ∃ t, exec (.microBatchRetire p mb) s = .next t ∧ (∀ x ∈ t.microBatches p, x.mb ≠ mb) ∧
       (t.fence p).retired = (s.fence p).retired + (if (s.fence p).state = .armed ∧ (s.fence p).step = m.trains then 1 else 0)))

/-- OPTIMIZER_WRITE and REGION_MARK_WRITTEN (R101 to R103): in a region with two slots, a FREE slot beside the COMMITTED one becomes
PENDING for the step; a RETIRING one makes the write wait; the region's PENDING slot of the step is marked written.
STEP_FENCE_COMMIT (R103): once the step's micro-batches have retired, its regions are written and its beat has come, the fence
commits, and every slot PENDING for the step is COMMITTED under the tag of the next step. Until then nothing happens.
FENCE_ABORT (R104): an armed fence aborts, the tag of its step's next version is void, and every slot PENDING for the step is given
up (FREE, or taken by a waiting load); a fence that is not armed stays. -/
def Obligations.FencesCommitOrAbort : Prop :=
  (∀ (c : Core) (r : Region) (s : State), s.coreRuns c = true →
     (let p := c.val / 16
      let e := s.region p r
      (∀ k, e.valid = true → e.single = false → e.current = some k → (e.slot (1 - k)).state = .free →
        ∃ t, exec (.optimizerWrite c r) s = .next t ∧ ((t.region p r).slot (1 - k)).state = .pending ∧
          ((t.region p r).slot (1 - k)).holder = .step ∧ ((t.region p r).slot (1 - k)).written = false ∧
          (∀ q, q ≠ r.val → t.region p q = s.region p q) ∧ t.mem = s.mem ∧ t.cores = s.cores) ∧
      (∀ k, e.valid = true → e.single = false → e.current = some k → (e.slot (1 - k)).state = .retiring →
        exec (.optimizerWrite c r) s = .next s) ∧
      (e.valid = false ∨ e.single = true →
        exec (.optimizerWrite c r) s = .next ((s.opFail c stOperandLayout).withQueue s)) ∧
      (∀ i, e.find (fun v => v.state == .pending && v.holder == .step) = some i →
        ∃ t, exec (.regionMarkWritten c r) s = .next t ∧ ((t.region p r).slot i).written = true ∧
          ((t.region p r).slot i).state = .pending ∧ (∀ q, q ≠ r.val → t.region p q = s.region p q) ∧
          t.mem = s.mem ∧ t.cores = s.cores))) ∧
  (∀ (p : Part) (s : State),
     (let f := s.fence p
      (f.state = .armed → f.mbs ≤ f.retired → s.unwritten p = 0 → f.beat ≤ s.beatIx →
        ∃ t, exec (.stepFenceCommit p) s = .next t ∧ (t.fence p).state = .committed ∧ (t.fence p).step = f.step ∧
          ∀ x ∈ s.stepPending p, ((t.region p x.1).slot x.2).state = .committed ∧
            ((t.region p x.1).slot x.2).tag = BitVec.ofNat 16 (f.step + 1)) ∧
      (f.state ≠ .armed ∨ f.retired < f.mbs ∨ 0 < s.unwritten p ∨ s.beatIx < f.beat →
        exec (.stepFenceCommit p) s = .next s))) ∧
  (∀ (via : Via) (p : Part) (v : Word) (s : State), s.reaches via (partIx p) 0x5F = true → bit v 0 = true →
     ((s.fence p).state = .armed → ∃ t, exec (.fenceAbort via p v) s = .next t ∧ (t.fence p).state = .aborted ∧
       (t.fence p).voided = some (BitVec.ofNat 16 ((s.fence p).step + 1)) ∧
       ∀ x ∈ s.stepPending p, ((t.region p x.1).slot x.2).state = .free ∨ ((t.region p x.1).slot x.2).holder = .load) ∧
     ((s.fence p).state ≠ .armed → exec (.fenceAbort via p v) s = .next s))

/-- LOSS_SUBMIT (R99): a loss that is not finite sets bit 1 of the monitor's status, counts nothing and leaves the mean and variance;
the first accepted loss becomes the mean with variance +0; both ways, by a program or by a write, the same happens.
Every clear of a group of counters, when its bit 0 is written through a path that reaches it, sets exactly those counters to 0
(R74, R87, R156, R173, R199, R232, R233, R270, R271, R300, R423), and with bit 0 clear changes nothing (R11). ECC_LOG_CLEAR also empties
the error log (R153).
ARITH_FLAGS_CLEAR, NONFINITE_CLEAR, IDLE_CORE_SELECT and IDLE_COUNTER_CLEAR (R52, R100, R132): the flags named in the value are
cleared in each core of the partition; the counters of the classes named in the value are set to 0; a core number, or 255 for the sum
over the partition, captures the nine idle counters; a clear sets the live counters of the partition's cores to 0. -/
def Obligations.LossAndCountersAreKept : Prop :=
  (∀ (via : Option Via) (p : Part) (loss : Word32) (s : State),
     (∀ v, via = some v → s.reaches v (partIx p) 0x56 = true) →
     exec (.lossSubmit via p loss) s = .next ((s.submitLoss p loss).withQueue s) ∧
     (((v32 loss).isNan || (v32 loss).isInf) = true → ∃ t, exec (.lossSubmit via p loss) s = .next t ∧
       bit (t.pRd p 0x59) 1 = true ∧ t.pRd p 0x5B = s.pRd p 0x5B ∧ t.pRd p 0x57 = s.pRd p 0x57 ∧
       t.pRd p 0x58 = s.pRd p 0x58 ∧ t.mem = s.mem) ∧
     (((v32 loss).isNan || (v32 loss).isInf) = false → s.pN p 0x5B = 0 → 0 < s.pN p 0x5A →
       ∃ t, exec (.lossSubmit via p loss) s = .next t ∧ t.pRd p 0x57 = loss.zeroExtend 64 ∧ t.pRd p 0x58 = 0#64 ∧
         t.pRd p 0x5B = 1#64 ∧ t.pRd p 0x59 = s.pRd p 0x59 ∧ t.mem = s.mem)) ∧
  (∀ (via : Via) (v : Word) (s : State),
     (∀ p : Part, s.reaches via (partIx p) 0x48 = true →
       (bit v 0 = true → ∃ t, exec (.engCounterClear via p v) s = .next t ∧
         clearedTo s t (partIx p) [0x44, 0x45, 0x46, 0x47]) ∧
       (bit v 0 = false → exec (.engCounterClear via p v) s = .next s)) ∧
     (∀ p : Part, s.reaches via (partIx p) 0x4A = true →
       (bit v 0 = true → ∃ t, exec (.walnutCounterClear via p v) s = .next t ∧
         clearedTo s t (partIx p) [0x49]) ∧
       (bit v 0 = false → exec (.walnutCounterClear via p v) s = .next s)) ∧
     (∀ p : Part, s.reaches via (partIx p) 0xBC = true →
       (bit v 0 = true → ∃ t, exec (.schedCounterClear via p v) s = .next t ∧
         clearedTo s t (partIx p) [0xB3, 0xB4, 0xB5, 0xB6, 0xB7, 0xB8, 0xB9, 0xBA, 0xBB]) ∧
       (bit v 0 = false → exec (.schedCounterClear via p v) s = .next s)) ∧
     (∀ p : Part, s.reaches via (partIx p) 0xA6 = true →
       (bit v 0 = true → ∃ t, exec (.dmaCounterClear via p v) s = .next t ∧
         clearedTo s t (partIx p) [0xA1, 0xA2, 0xA3, 0xA4, 0xA5]) ∧
       (bit v 0 = false → exec (.dmaCounterClear via p v) s = .next s)) ∧
     (∀ p : Part, s.reaches via (partIx p) 0x9A = true →
       (bit v 0 = true → ∃ t, exec (.memCounterClear via p v) s = .next t ∧
         clearedTo s t (partIx p) [0x94, 0x95, 0x96, 0x97, 0x98, 0x99]) ∧
       (bit v 0 = false → exec (.memCounterClear via p v) s = .next s)) ∧
     (∀ p : Part, s.reaches via (partIx p) 0xD2 = true →
       (bit v 0 = true → ∃ t, exec (.weightCounterClear via p v) s = .next t ∧
         clearedTo s t (partIx p) [0xCB, 0xCC, 0xCD, 0xCE, 0xCF]) ∧
       (bit v 0 = false → exec (.weightCounterClear via p v) s = .next s)) ∧
     (s.reaches via 0x2500 0x1C = true →
       (bit v 0 = true → ∃ t, exec (.fabricCounterClear via v) s = .next t ∧
         clearedTo s t 0x2500 [0x0C, 0x0D, 0x0E, 0x1A, 0x1B]) ∧
       (bit v 0 = false → exec (.fabricCounterClear via v) s = .next s)) ∧
     (s.reaches via 0x2600 4 = true →
       (bit v 0 = true → ∃ t, exec (.collCounterClear via v) s = .next t ∧
         clearedTo s t 0x2600 [3]) ∧
       (bit v 0 = false → exec (.collCounterClear via v) s = .next s)) ∧
     (s.reaches via 0x2000 0x0E = true →
       (bit v 0 = true → ∃ t, exec (.powerCounterClear via v) s = .next t ∧
         clearedTo s t 0x2000 [9]) ∧
       (bit v 0 = false → exec (.powerCounterClear via v) s = .next s)) ∧
     (∀ n : Port, s.reaches via (0x2510 + n) 0x11 = true →
       (bit v 0 = true → ∃ t, exec (.portCounterClear via n v) s = .next t ∧
         clearedTo s t (0x2510 + n) [6, 7, 8, 9, 0x0A, 0x0B, 0x0E, 0x0F, 0x10]) ∧
       (bit v 0 = false → exec (.portCounterClear via n v) s = .next s)) ∧
     (∀ j : JobSlot, s.reaches via (jsIx j) 0 = true →
       (bit v 0 = true → ∃ t, exec (.slotCounterClear via j v) s = .next t ∧
         clearedTo s t (jsIx j) [0x15, 0x16, 0x17, 0x18, 0x19, 0x1A, 0x1B]) ∧
       (bit v 0 = false → exec (.slotCounterClear via j v) s = .next s)) ∧
     (s.reaches via 0x2800 0x0F = true →
       (bit v 0 = true → ∃ t, exec (.eccLogClear via v) s = .next t ∧ t.eccLog = [] ∧ clearedTo s t 0x2800 [0x0E]) ∧
       (bit v 0 = false → exec (.eccLogClear via v) s = .next s))) ∧
  (∀ (via : Via) (p : Part) (v : Word) (s : State),
     (s.reaches via (partIx p) 0x41 = true → ∃ t, exec (.arithFlagsClear via p v) s = .next t ∧
       (∀ d, (t.core d).flags = if d / 16 = p.val then (s.core d).flags &&& ~~~clearMask v.toNat else (s.core d).flags) ∧
       t.obj = s.obj ∧ t.mem = s.mem) ∧
     (s.reaches via (partIx p) 0x70 = true → ∃ t, exec (.nonfiniteClear via p v) s = .next t ∧
       (∀ i, i < 8 → t.pRd p (0x60 + i) = (if bit v i then 0 else s.pRd p (0x60 + i)) ∧
         t.pRd p (0x68 + i) = (if bit v i then 0 else s.pRd p (0x68 + i))) ∧ t.cores = s.cores ∧ t.mem = s.mem) ∧
     (s.reaches via (partIx p) 0x8A = true →
       (v.toNat ≤ 15 → ∃ t, exec (.idleCoreSelect via p v) s = .next t ∧ t.pRd p 0x8A = v ∧
         (∀ k, k < 9 → t.pRd p (0x80 + k) = s.idleOf (16 * p + v.toNat) k) ∧ t.cores = s.cores ∧ t.mem = s.mem) ∧
       (v.toNat = 255 → ∃ t, exec (.idleCoreSelect via p v) s = .next t ∧ t.pRd p 0x8A = v ∧
         (∀ k, k < 9 → t.pRd p (0x80 + k) =
           (List.range 16).foldl (fun (a : Word) (q : Nat) => a + s.idleOf (16 * p + q) k) 0#64) ∧ t.cores = s.cores)) ∧
     (s.reaches via (partIx p) 0x89 = true → bit v 0 = true → ∃ t, exec (.idleCounterClear via p v) s = .next t ∧
       (∀ d k, t.idleOf d k = if d / 16 = p.val then 0#64 else s.idleOf d k) ∧ t.obj = s.obj ∧ t.mem = s.mem))

/-! ## Programs, launch slots and launches (R106 to R110, R122, R128 to R130, R187 to R191) -/

/-- PROGRAM_REGISTER, IMAGE_VALIDATION_DONE and PROGRAM_RELEASE (R107, R108): a FREE entry takes address and length and becomes
VALIDATING; validation leaves it READY with its image, or REFUSED with the number of the first failed check; a release leaves it
FREE with its generation one higher, or releasing while launches of its handle run. No other entry changes.
SLOT_ARM and SLOT_ABORT (R187, R188): an EMPTY or DONE slot of a group lead whose record has 128 aligned bytes in the group's HBM is
ARMED with the core set of its programs; an ARMED slot that is aborted is EMPTY; an abort of a RUNNING one tells its launch to end. -/
def Obligations.ProgramsAndSlots : Prop :=
  (∀ (p : Part) (n : Fin 1024) (s : State),
     (∀ (via : Via) (a len : Nat), s.reachesBlock via p = true → (s.prog p n).state = .free → (s.prog p n).releasing = false →
       a % 4096 = 0 → 1 ≤ len → len ≤ 65536 →
       ∃ t, exec (.programRegister via p n a len) s = .next t ∧
         t.prog p n = { s.prog p n with state := .validating, refuse := 0, address := a, length := len } ∧
         (∀ m : Nat, m ≠ n.val → t.prog p m = s.prog p m) ∧ t.cores = s.cores ∧ t.mem = s.mem ∧ t.obj = s.obj) ∧
     (∀ img : Image, (s.prog p n).state = .validating →
       ∃ t, exec (.imageValidationDone p n img) s = .next t ∧
         t.prog p n = (if s.imageCheck p (s.prog p n) img = 0 then { s.prog p n with state := .ready, img := some img }
           else { s.prog p n with state := .refused, refuse := s.imageCheck p (s.prog p n) img }) ∧
         (∀ m : Nat, m ≠ n.val → t.prog p m = s.prog p m) ∧ t.cores = s.cores ∧ t.mem = s.mem ∧
         (s.channelLeaves p img = false → t.obj = s.obj)) ∧
     (∀ via : Via, s.reachesBlock via p = true → (s.prog p n).state ≠ .free →
       ∃ t, exec (.programRelease via p n) s = .next t ∧
         t.prog p n = (if (s.prog p n).state = .ready ∧ s.handleRuns p ((s.prog p n).handle n) = true
           then { s.prog p n with releasing := true }
           else { s.prog p n with state := .free, releasing := false, gen := (s.prog p n).gen + 1, refuse := 0, img := none }) ∧
         (∀ m : Nat, m ≠ n.val → t.prog p m = s.prog p m) ∧ t.cores = s.cores ∧ t.mem = s.mem ∧ t.obj = s.obj)) ∧
  (∀ (via : Via) (p : Part) (n : Fin 256) (s : State), s.reachesBlock via p = true →
     ((s.slot p n).state = .empty ∨ (s.slot p n).state = .done → s.isLead p = true → (s.slot p n).recordAddr % 128 = 0 →
       s.inGroupHbm p (s.slot p n).recordAddr 128 = true →
       ∃ t, exec (.slotArm via p n) s = .next t ∧ (t.slot p n).state = .armed ∧ (t.slot p n).armedAt = s.beat ∧
         (t.slot p n).coreSet = s.handleCores p (s.slot p n).handle ++
           (if (s.slot p n).monitored then s.handleCores p (s.slot p n).fallback else []) ∧
         (t.slot p n).recordAddr = (s.slot p n).recordAddr ∧ (∀ m : Nat, m ≠ n.val → t.slot p m = s.slot p m) ∧
         t.cores = s.cores ∧ t.mem = s.mem ∧ t.obj = s.obj) ∧
     ((s.slot p n).state = .armed → ∃ t, exec (.slotAbort via p n) s = .next t ∧ (t.slot p n).state = .empty ∧
       (∀ m : Nat, m ≠ n.val → t.slot p m = s.slot p m) ∧ t.cores = s.cores ∧ t.mem = s.mem ∧ t.obj = s.obj) ∧
     ((s.slot p n).state = .running →
       exec (.slotAbort via p n) s = .next ((s.endLaunch (256 * p.val + n.val) (outsideEnd stAborted)).withQueue s)) ∧
     ((s.slot p n).state = .empty ∨ (s.slot p n).state = .done → exec (.slotAbort via p n) s = .next s))

/-- LAUNCH_SLOT_START (R109, R189 to R191): a due slot of a RESIDENT context whose program is READY, covers only the context's cores and
finds them idle starts: the slot runs, the launch is registered, and every core of its image stands at the head of its stream with
its loops inactive. A due slot whose program cannot run is DONE at once, its record saying "program invalid".
LAUNCH_COMPLETE (R110, R128, R130): a launch whose cores have all finished their streams writes its record with status 0 and no
failing core, releases its cores and leaves its slot DONE; nothing else of the memory changes. One still running stays. -/
def Obligations.LaunchesRun : Prop :=
  (∀ (p : Part) (n : Fin 256) (s : State), s.superseded = false → s.due p n = true →
     (let x := s.slot p n
      let c := s.ctx x.ctxId
      (∀ img : Image, x.coreSet ≠ [] → x.ctxId / 16 = p.val → c.state = .resident → c.evictReq = false →
        s.imageOf p (s.chosen x).1 = some img → c.covers (imgCores img) = true → s.groupRuns p = true → s.bistRuns p = false →
        s.coresRun p (imgCores img) = false → x.patchCount = 0 →
        ∃ t, exec (.launchSlotStart p n) s = .next t ∧ (t.slot p n).state = .running ∧
          (t.slot p n).ranFallback = (s.chosen x).2 ∧
          (∃ l, t.launch (256 * p.val + n.val) = some l ∧ l.img = img ∧ l.handle = (s.chosen x).1 ∧ l.ctx = x.ctxId ∧ l.ending = none ∧
            l.startNs = none ∧ l.ftz = (s.members p).filter fun q => bit (s.pRd q 0x42) 0) ∧
          (∀ g ∈ imgCores img, ∀ d, s.groupCore p g = some d → (t.core d).run.launch = some (256 * p.val + n.val) ∧
            (t.core d).run.item = 0 ∧ (t.core d).run.tile = none ∧ (t.core d).params = (s.core d).params ∧
            (∀ j < 4, ((t.core d).loop j).active = false)) ∧
          t.mem = s.mem) ∧
      (x.ctxId / 16 ≠ p.val → s.inGroupHbm p x.recordAddr 128 = true →
        ∃ t, exec (.launchSlotStart p n) s = .next t ∧ (t.slot p n).state = .done ∧
          t.mem.readLE x.recordAddr 4 = 0x8000FF00 + stProgramInvalid ∧
          (∀ a, ¬(x.recordAddr ≤ a ∧ a < x.recordAddr + 128) → t.mem.read a = s.mem.read a) ∧ t.cores = s.cores))) ∧
  (∀ (p : Part) (n : Fin 256) (s : State) (l : Launch), s.superseded = false → s.launch (256 * p.val + n.val) = some l → l.ending = none →
     (s.launchDone (256 * p.val + n.val) l.ctx = true → s.inGroupHbm p (s.slot p n).recordAddr 128 = true →
       ∃ t, exec (.launchComplete p n) s = .next t ∧ (t.slot p n).state = .done ∧ t.launch (256 * p.val + n.val) = none ∧
         (∀ c, (t.core c).run.launch ≠ some (256 * p.val + n.val)) ∧ t.mem.readLE (s.slot p n).recordAddr 4 = 0x8000FF00 ∧
         (∀ a, ¬((s.slot p n).recordAddr ≤ a ∧ a < (s.slot p n).recordAddr + 128) → t.mem.read a = s.mem.read a)) ∧
     (s.launchDone (256 * p.val + n.val) l.ctx = false → exec (.launchComplete p n) s = .next s))

/-! ## Contexts (R177 to R186, R195 to R198) -/

/-- CONTEXT_CREATE and CONTEXT_EVICT (R177, R178): a FREE entry of a group lead with a good core mask, save area and scratchpad range
becomes SWAPPED with nothing saved; EVICT of a RESIDENT context requests its eviction and counts it, and is otherwise ignored.
CONTEXT_EVICT_DONE and CONTEXT_RESTORE_DONE (R181, R182): an EVICTING context whose scratchpads could be read is saved, core by
core, and its cores are idle; a LOADING one is RESIDENT with each core's registers as they were saved, or cleared where nothing
was, the idle counters kept either way. -/
def Obligations.ContextsComeAndGo : Prop :=
  (∀ (via : Via) (p : Part) (i : Fin 16) (s : State), s.reachesBlock via p = true →
     (let k := 16 * p.val + i.val
      let x := s.ctx k
      (k ≠ 0xFF → x.state = .free → s.isLead p = true → x.coreMask ≠ 0 →
        x.coreMask.toNat / 2 ^ (16 * (s.members p).length) = 0 → s.inGroupHbm p x.saveAddr x.saveArea = true →
        x.spadBase + x.spadSize ≤ 512 →
        ∃ t, exec (.contextCreate via p i) s = .next t ∧ (t.ctx k).state = .swapped ∧ (t.ctx k).saved = false ∧
          (t.ctx k).coreMask = x.coreMask ∧ (∀ j, j ≠ k → t.ctx j = s.ctx j) ∧ t.cores = s.cores ∧ t.mem = s.mem ∧ t.obj = s.obj) ∧
      (x.state = .resident → x.evictReq = false →
        ∃ t, exec (.contextEvict via p i) s = .next t ∧ (t.ctx k).evictReq = true ∧
          ((t.ctx k).state = .resident ∨ (t.ctx k).state = .evicting) ∧ t.pRd p 0xB5 = s.pRd p 0xB5 + 1#64 ∧
          (∀ j, j ≠ k → t.ctx j = s.ctx j) ∧ t.cores = s.cores ∧ t.mem = s.mem) ∧
      (x.state ≠ .resident → exec (.contextEvict via p i) s = .next s))) ∧
  (∀ (p : Part) (i : Fin 16) (s : State), s.superseded = false →
     (let k := 16 * p.val + i.val
      let x := s.ctx k
      (x.state = .evicting →
        ∃ t, exec (.contextEvictDone p i []) s = .next t ∧ (t.ctx k).saved = true ∧ (t.ctx k).saveError = x.saveError ∧
          mget [] t.saved k = (s.ctxCores k).map (s.saveCore x []) ∧ (∀ c ∈ s.ctxCores k, (t.core c).run = .idle) ∧
          (∀ c, c ∉ s.ctxCores k → t.core c = s.core c)) ∧
      (x.state = .loading →
        ∃ t, exec (.contextRestoreDone p i) s = .next t ∧ (t.ctx k).state = .resident ∧ (t.ctx k).restored = s.beat ∧
          mget [] t.saved k = [] ∧
          (∀ c ∈ s.ctxCores k, t.core c = (match (mget [] s.saved k).find? fun v => v.1 == c with
            | some v => { v.2.core with idle := (s.core c).idle, run := { v.2.core.run with gateBeats := 0 } }
            | none => (s.core c).cleared)) ∧
          (∀ c, c ∉ s.ctxCores k → t.core c = s.core c))))

/-- What an eviction keeps a restore brings back (R181): when an evicted context is LOADING again, with the same cores, on any state
that still holds what was saved (s with its memory in canonical form), the restore gives each of its cores the registers and program position it had, and every byte of the
context's scratchpad range and of the walnut buffer the value it had. -/
def Obligations.EvictionAndRestoreKeepTheContext : Prop :=
  ∀ (p : Part) (i : Fin 16) (s t u v : State), s.superseded = false → u.superseded = false →
    (let k := 16 * p.val + i.val
     (s.ctx k).state = .evicting → exec (.contextEvictDone p i []) s = .next t →
     mget [] u.saved k = mget [] t.saved k → u.ctxCores k = s.ctxCores k → (u.ctx k).state = .loading →
     (u.ctx k).spadBase = (s.ctx k).spadBase → (u.ctx k).spadSize = (s.ctx k).spadSize →
     (s.ctx k).spadBase + (s.ctx k).spadSize ≤ 512 → (∀ c ∈ s.ctxCores k, c < 256) → s.mem.wf →
     exec (.contextRestoreDone p i) u = .next v →
     ∀ c ∈ s.ctxCores k, v.core c = { s.core c with
         idle := (u.core c).idle, run := { (s.core c).run with gateBeats := 0 } } ∧
       (∀ a, ((s.ctx k).spadAt c).1 ≤ a → a < ((s.ctx k).spadAt c).1 + ((s.ctx k).spadAt c).2 → v.mem.read a = s.mem.read a) ∧
       (∀ a, walnutBase c ≤ a → a < walnutBase c + walnutSize → v.mem.read a = s.mem.read a))

/-- SWAPPER_EVALUATE, SLICE_EXPIRY and HELD_DELIVERY_FLUSH (R180, R183, R185, R186): with a single runnable context that fits beside
those on the cores the swapper starts its load; an expired slice is noted, and the context keeps its cores and begins the next slice
where no eviction is asked; what a job slot's contexts hold is delivered once its holder is RESIDENT, and stays held until then; held
status records go to their own contexts.
GROUP_LEAD_WRITE (R174): through a privileged path, a partition alone in its group joins the group of a lower lead with fewer than
eight members, and a member leaves for itself, when the tables of all partitions concerned are idle; a partition with a member of its
own, or one whose tables are not idle, stays. -/
def Obligations.SwapperAndGroups : Prop :=
  ((∀ (p : Part) (k : Nat) (s : State), s.superseded = false → s.lead p = p.val →
     ((ctxIds p).filter (s.noteCtxs p).ctxRunnable) = [k] → (s.noteCtxs p).groupRuns p = true → (s.noteCtxs p).bistRuns p = false →
     (s.noteCtxs p).fits k [] = true →
     ∃ t, exec (.swapperEvaluate p) s = .next t ∧ (t.ctx k).state = .loading ∧ t.cores = s.cores ∧ t.mem = s.mem) ∧
   (∀ (p : Part) (i : Fin 16) (s : State) (b : Nat), s.superseded = false → (s.ctx (16 * p.val + i.val)).state = .resident →
     (s.ctx (16 * p.val + i.val)).sliceStart = some b →
     (s.beat < b + (s.ctx (16 * p.val + i.val)).sliceLen * 1024 → exec (.sliceExpiry p i) s = .next s) ∧
     (b + (s.ctx (16 * p.val + i.val)).sliceLen * 1024 ≤ s.beat → ∃ t, exec (.sliceExpiry p i) s = .next t ∧
       ((∃ c ∈ s.ctxCores (16 * p.val + i.val), ∃ r, (s.core c).run.tile = some r ∧
           r.2 ≤ b + (s.ctx (16 * p.val + i.val)).sliceLen * 1024) →
         (b + (s.ctx (16 * p.val + i.val)).sliceLen * 1024, 0) ∈ (t.ctx (16 * p.val + i.val)).overs) ∧
       ((t.ctx (16 * p.val + i.val)).evictReq = true ∨ (t.ctx (16 * p.val + i.val)).state ≠ .resident ∨
         ((t.ctx (16 * p.val + i.val)).expired = none ∧ (t.ctx (16 * p.val + i.val)).sliceStart =
           (if (s.ctx (16 * p.val + i.val)).slice = 0 then none
            else some (b + (s.ctx (16 * p.val + i.val)).sliceLen * 1024)))) ∧ t.cores = s.cores ∧ t.mem = s.mem)) ∧
   (∀ (j : JobSlot) (s : State),
     (let rest := fun u : State =>
        let v := flushRecords j (u.cs j).records (u.modCs j fun x => { x with records := [] })
        (pollHoras j (v.cs j).ctxs v).settle j
      ((s.holderCtx j).state ≠ .resident → exec (.heldDeliveryFlush j) s = .next ((rest s).withQueue s)) ∧
      ((s.holderCtx j).state = .resident → (∀ k c, s.collCtx j k = some c → c.key = k) →
        ∃ t u : State, exec (.heldDeliveryFlush j) s = .next t ∧ t = (rest u).withQueue s ∧
          (∀ k c, u.collCtx j k = some c → c.held = []) ∧ u.cores = s.cores)))) ∧
  (∀ (via : Via) (q : Part) (l : Nat) (s : State), s.reaches via (partIx q) 0xB0 = true → viaPriv via = true → l < 16 →
     (l < q.val → s.members q = [q.val] → s.isLead l = true → (s.members l).length < 8 →
       (s.members l ++ [q.val]).all s.idleTables = true →
       ∃ t, exec (.groupLeadWrite via q (BitVec.ofNat 64 l)) s = .next t ∧ t.lead q = l ∧
         (∀ r : Part, r ≠ q → t.lead r = s.lead r) ∧ t.ctxs = s.ctxs ∧ t.cores = s.cores ∧ t.mem = s.mem) ∧
     (l = q.val → s.isLead q = false → (s.members q).all s.idleTables = true →
       ∃ t, exec (.groupLeadWrite via q (BitVec.ofNat 64 l)) s = .next t ∧ t.lead q = q.val ∧
         (∀ r : Part, r ≠ q → t.lead r = s.lead r) ∧ t.ctxs = s.ctxs ∧ t.cores = s.cores ∧ t.mem = s.mem))

/-- CONTEXT_TEARDOWN, TEARDOWN_COMPLETE, TEARDOWN_DEADLINE and RETIRE_HOLD_EXPIRY (R196 to R198): a teardown of a live context begins at
once; it ends in RETIRED when nothing of the context runs or is owed, or at its deadline, which is marked and counted; a RETIRED entry is
FREE again only once RETIRE_HOLD has passed, an object of 1 to 1,000,000 beats that resets to 9,766, is saved, and refuses other
values.
QUIET_REQ and QUIET_ACK (R196): a peer's request is kept, one for each sender, job and context, and is acknowledged once no write of
this device for them is unacknowledged; an acknowledgement of a context in teardown, with its job and an epoch that is not stale,
lowers its count of peers by one, and any other is dropped. -/
def Obligations.TeardownAndQuiet : Prop :=
  ((∀ (p : Part) (i : Fin 16) (s : State),
     (let k := 16 * p.val + i.val
      let x := s.ctx k
      (∀ via : Via, s.reachesBlock via p = true → x.state ≠ .free → x.state ≠ .teardown → x.state ≠ .retired →
        ∃ t, exec (.contextTeardown via p i) s = .next t ∧ (t.ctx k).state = .teardown ∧ (t.ctx k).since = s.beatIx ∧
          (x.jobId = 0xFFF → (t.ctx k).quietPending = 0) ∧ mget [] t.saved k = []) ∧
      (x.state = .teardown → (s.ctxLaunches k).isEmpty = true → s.dmaQuiet (s.members p) k = true → x.quietPending = 0 →
        ∃ t, exec (.teardownComplete p i) s = .next t ∧ (t.ctx k).state = .retired ∧ (t.ctx k).timedOut = false ∧
          (t.ctx k).since = s.beatIx ∧ (∀ c ∈ s.freeCoresOf k, t.core c = (s.core c).cleared) ∧
          (∀ c, c ∉ s.freeCoresOf k → t.core c = s.core c)) ∧
      (x.state = .teardown → x.since + x.teardownDl ≤ s.beatIx →
        ∃ t, exec (.teardownDeadline p i) s = .next t ∧ (t.ctx k).state = .retired ∧ (t.ctx k).timedOut = true ∧
          (t.ctx k).since = s.beatIx ∧ t.pN p 0xBB = min (s.pN p 0xBB + 1) (2 ^ 32 - 1)) ∧
      (x.state = .teardown → s.beatIx < x.since + x.teardownDl → exec (.teardownDeadline p i) s = .next s) ∧
      (x.state = .retired → x.since + s.rdN (objKey 0x2300 0x10) ≤ s.beatIx →
        ∃ t, exec (.retireHoldExpiry p i) s = .next t ∧ t.ctx k = { x with state := .free } ∧ (∀ j, j ≠ k → t.ctx j = s.ctx j) ∧
          t.cores = s.cores ∧ t.mem = s.mem ∧ t.obj = s.obj) ∧
      (x.state = .retired → s.beatIx < x.since + s.rdN (objKey 0x2300 0x10) → exec (.retireHoldExpiry p i) s = .next s))) ∧
   (∀ (via : Via) (v : Word) (s : State), s.reaches via 0x2300 0x10 = true → v.toNat < 2 ^ 32 →
     (1 ≤ v.toNat → v.toNat ≤ 1000000 → ∃ t, exec (.registerWrite via (.obj 0x2300 0x10) 4 v) s = .next t ∧
       t.rd (objKey 0x2300 0x10) = v ∧ t.mgmt.saves = s.mgmt.saves ++ [(objKey 0x2300 0x10, v)] ∧
       (∀ k, k ≠ objKey 0x2300 0x10 → t.rd k = s.rd k) ∧ sameWork s t) ∧
     (v.toNat < 1 ∨ 1000000 < v.toNat → ∃ t, exec (.registerWrite via (.obj 0x2300 0x10) 4 v) s = .next t ∧
       t.obj = s.obj ∧ t.mgmt = s.mgmt ∧ sameWork s t)) ∧
   (objSpec 0x2300 0x10).map (fun o => (o.size, o.kind, o.acc)) = some (4, .num, .rws) ∧ State.reset.rdN (objKey 0x2300 0x10) = 9766) ∧
  (∀ (pkt : Packet) (s : State), s.superseded = false →
     (∃ t, exec (.quietReq pkt) s = .next t ∧
       (∃ q ∈ t.quiet, q.addr = pkt.src ∧ q.job = pkt.jobId.toNat ∧ q.ctx = pkt.ctxId.toNat ∧
         (s.tango.restore = none → q.owed = s.peerOwes pkt.src pkt.jobId.toNat pkt.ctxId.toNat)) ∧ t.cores = s.cores ∧ t.mem = s.mem ∧ t.dma = s.dma) ∧
     (let k := pkt.ctxId.toNat
      (s.epochOf pkt.src = none → (s.ctx k).state = .teardown → (s.ctx k).jobId = pkt.jobId.toNat →
        ∃ t, exec (.quietAck pkt) s = .next t ∧ (t.ctx k) = { s.ctx k with quietPending := (s.ctx k).quietPending - 1 } ∧
          (∀ j, j ≠ k → t.ctx j = s.ctx j) ∧ t.cores = s.cores ∧ t.mem = s.mem) ∧
      ((s.ctx k).state ≠ .teardown ∨ (s.ctx k).jobId ≠ pkt.jobId.toNat → exec (.quietAck pkt) s = .next s)))

/-! ## DMA (R157 to R173) -/

/-- DMA_START and DMA_ARM (R160, R162, R163): a program arms a program-owned channel whose shadow is free with the descriptor and the
fields it takes from parameter registers, with its context's number; the host arms a host-owned one whose shadow has no reserved bit
set. Nothing but the channel changes. A program's start of a channel that is not its own, is armed, or has a reserved descriptor ends the
tile with "operand layout".
DMA_PROMOTION (R161, R164): the armed shadow of an IDLE channel becomes its active transfer: READY at its first byte where its
checks pass and it moves data, HALTED with the code of the failed check otherwise.
DMA_STOP, DMA_RESUME, DMA_CLEAR and COMPLETION_TIMEOUT (R158, R159, R171, R368): a stop ends an active transfer that has nothing staged with code 8 and no
full point, and has one with staged bytes write them first; a HALTED channel without a shadow is IDLE again by RESUME, and by CLEAR with its shadow discarded; a host that does not answer a
read halts the transfer, or ends the oldest fence that waits for one, with code 5. Other channels and memory stay. -/
def Obligations.DmaChannelsRun : Prop :=
  ((∀ (c : Core) (eng : Fin 2) (ch : Fin 16) (desc d : BitVec 512) (pa pb pl pr : Option Param) (s : State),
     s.coreRuns c = true →
     ((paramField (s.core c) pa 0 48 (desc &&& descMask)).bind fun d =>
       (paramField (s.core c) pb 64 48 d).bind fun d =>
         (paramField (s.core c) pl 128 32 d).bind fun d => paramField (s.core c) pr 160 24 d) = some d →
     (let k := c.val / 16 * 32 + eng.val * 16 + ch.val
      ((s.chan k).owner = true → (s.chan k).armed = false → descReserved d = false → s.servesChan k = false →
        ∃ t, exec (.dmaStart c eng ch desc pa pb pl pr) s = .next t ∧
          t.chan k = { s.chan k with
            shadow := dset d 296 8 ((s.ctxOf c).getD 0xFF), armed := true, shadowFn := s.partFn (c.val / 16) } ∧
          (∀ j, j ≠ k → t.chan j = s.chan j) ∧ t.cores = s.cores ∧ t.mem = s.mem ∧ t.obj = s.obj) ∧
      ((s.chan k).owner = false ∨ (s.chan k).armed = true ∨ descReserved d = true →
        exec (.dmaStart c eng ch desc pa pb pl pr) s = .next ((s.opFail c stOperandLayout).withQueue s)))) ∧
   (∀ (via : Via) (ch : ChanId) (s : State), s.reachesBlock via ch.part = true → (s.chan (chanKey ch)).armed = false →
     (s.chan (chanKey ch)).owner = false → s.servesChan (chanKey ch) = false → descReserved (s.chan (chanKey ch)).shadow = false →
     ∃ t, exec (.dmaArm via ch) s = .next t ∧ t.chan (chanKey ch) = { s.chan (chanKey ch) with armed := true, shadowFn := viaFn via } ∧
       (∀ j, j ≠ chanKey ch → t.chan j = s.chan j) ∧ t.cores = s.cores ∧ t.mem = s.mem ∧ t.obj = s.obj)) ∧
  (∀ (ch : ChanId) (s : State),
     (let k := chanKey ch
      let x := s.chan k
      (s.superseded = false → x.armed = true → x.state = .idle →
        (s.dmaCheck (k / 32) x.shadow = none → dLength x.shadow ≠ 0 → dRows x.shadow ≠ 0 →
          ∃ t, exec (.dmaPromotion ch) s = .next t ∧ (t.chan k).state = .ready ∧ (t.chan k).active = x.shadow ∧
            (t.chan k).armed = false ∧ (t.chan k).row = 0 ∧ (t.chan k).col = 0 ∧ (t.chan k).staged = [] ∧ (t.chan k).age = s.ageStamp ∧
            (∀ j, j ≠ k → t.chan j = s.chan j) ∧ t.mem = s.mem ∧ t.cores = s.cores) ∧
        (∀ code fault, s.dmaCheck (k / 32) x.shadow = some (code, fault) →
          ∃ t, exec (.dmaPromotion ch) s = .next t ∧ (t.chan k).state = .halted ∧ (t.chan k).lastCode = code ∧
            (t.chan k).fault = fault ∧ (t.chan k).evError = true ∧ (t.chan k).armed = false ∧
            (∀ j, j ≠ k → t.chan j = s.chan j) ∧ t.mem = s.mem ∧ t.cores = s.cores)) ∧
      (x.armed = false ∨ x.state ≠ .idle → exec (.dmaPromotion ch) s = .next s))) ∧
  (∀ (ch : ChanId) (s : State),
     (let k := chanKey ch
      let x := s.chan k
      let kept := fun t : State => (∀ j, j ≠ k → t.chan j = s.chan j) ∧ t.mem = s.mem ∧ t.cores = s.cores
      (∀ via : Via, s.reachesBlock via ch.part = true →
        (x.busy = true → x.staged ≠ [] → ∃ t, exec (.dmaStop via ch) s = .next t ∧ t.chan k = { x with stopping := true } ∧ kept t) ∧
        (x.busy = true → x.staged = [] → ∃ t, exec (.dmaStop via ch) s = .next t ∧ (t.chan k).state = .idle ∧ (t.chan k).lastCode = 8 ∧
          (t.chan k).full = x.full ∧ (t.chan k).half = x.half ∧ kept t) ∧
        (x.busy = false → exec (.dmaStop via ch) s = .next s) ∧
        (x.state = .halted → x.armed = false → ∃ t, exec (.dmaResume via ch) s = .next t ∧
          t.chan k = { x with state := .idle } ∧ kept t) ∧
        (x.state = .halted → x.armed = true → exec (.dmaResume via ch) s = .next ((s.dmaPromote k).withQueue s)) ∧
        (x.state ≠ .halted → exec (.dmaResume via ch) s = .next s) ∧
        (x.state = .halted → ∃ t, exec (.dmaClear via ch) s = .next t ∧ t.chan k = { x with state := .idle, armed := false } ∧ kept t) ∧
        (x.state ≠ .halted → exec (.dmaClear via ch) s = .next s)) ∧
      (x.busy = true → dSrcSpace x.active = 1 → ∃ t, exec (.completionTimeout ch false) s = .next t ∧ (t.chan k).state = .halted ∧
        (t.chan k).lastCode = 5 ∧ (t.chan k).fault = false ∧ (t.chan k).evError = true ∧ kept t) ∧
      (∀ f rest, x.fences = f :: rest → f.host ≠ [] → ∃ t, exec (.completionTimeout ch true) s = .next t ∧ (t.chan k).fences = rest ∧
        (t.chan k).lastCode = 5 ∧ (t.chan k).arrive = x.arrive + 1 ∧ (t.chan k).state = .halted ∧ kept t)))

/-- DMA_BURST (R165, R169, R170): the granted channel of an engine reads at most 4 KiB of one row of its source, which it stages, and
writes the oldest burst it has staged to its destination: the bytes written are those read, no other byte of memory changes, and the byte
counters rise by the lengths. A source granule that Shell cannot correct, or one that a write in part must merge with, halts the
transfer with code 4 and a fault and moves nothing; a host that does not give the bytes halts it with code 5. -/
def Obligations.DmaBurstMovesBytes : Prop :=
  ∀ (p : Part) (e : Fin 2) (env : BurstEnv) (s : State) (c : Nat), s.superseded = false → s.dmaGrant p e = some c → c < 16 →
    (let k := p.val * 32 + e.val * 16 + c
     let x := s.chan k
     let d := x.active
     let merges := coversPart x.dstAt x.burst
     let others := fun t : State => (∀ j, j / 16 ≠ k / 16 → t.chan j = s.chan j) ∧ t.cores = s.cores
     dLength d ≠ 0 → dRows d ≠ 0 → dDstSpace d = 0 → x.stopping = false → x.flushing = false →
     (env.mode = .both → x.staged = [] → x.row < dRows d →
       (dSrcSpace d = 0 → env.shell.bad = false → (merges = true → env.merge.bad = false) →
         ∃ t, exec (.dmaBurst p e env) s = .next t ∧ t.mem = s.mem.writeBytes x.dstAt (s.mem.readBytes x.srcAt x.burst) ∧
           t.pRd p 0xA1 = s.pRd p 0xA1 + BitVec.ofNat 64 x.burst ∧ t.pRd p 0xA2 = s.pRd p 0xA2 + BitVec.ofNat 64 x.burst ∧ others t) ∧
       (dSrcSpace d = 1 → (s.func x.activeFn).busMaster = true → env.host = .ok → x.burst ≤ env.hostData.length →
         (merges = true → env.merge.bad = false) →
         ∃ t, exec (.dmaBurst p e env) s = .next t ∧ t.mem = s.mem.writeBytes x.dstAt (env.hostData.take x.burst) ∧ others t) ∧
       (dSrcSpace d = 0 → env.shell.bad = true →
         ∃ t, exec (.dmaBurst p e env) s = .next t ∧ (t.chan k).state = .halted ∧ (t.chan k).lastCode = 4 ∧
           (t.chan k).fault = true ∧ t.mem = s.mem ∧ others t) ∧
       (dSrcSpace d = 0 → env.shell.bad = false → merges = true → env.merge.bad = true →
         ∃ t, exec (.dmaBurst p e env) s = .next t ∧ (t.chan k).state = .halted ∧ (t.chan k).lastCode = 4 ∧
           (t.chan k).fault = true ∧ t.mem = s.mem ∧ others t) ∧
       (dSrcSpace d = 1 → ((s.func x.activeFn).busMaster = false ∨ env.host ≠ .ok) →
         ∃ t, exec (.dmaBurst p e env) s = .next t ∧ (t.chan k).state = .halted ∧ (t.chan k).lastCode = 5 ∧
           t.mem = s.mem ∧ others t)) ∧
     (env.mode = .read → x.mayRead = true → dSrcSpace d = 0 → env.shell.bad = false →
       ∃ t, exec (.dmaBurst p e env) s = .next t ∧ t.mem = s.mem ∧ (t.chan k).state = .running ∧
         (t.chan k).staged = x.staged ++ [s.mem.readBytes x.srcAt x.burst] ∧
         ((t.chan k).row, (t.chan k).col) = dmaStep (dLength d) x.burst (x.row, x.col) ∧
         t.pRd p 0xA1 = s.pRd p 0xA1 + BitVec.ofNat 64 x.burst ∧ t.pRd p 0xA2 = s.pRd p 0xA2 ∧ others t) ∧
     (∀ bytes rest, env.mode = .write → x.staged = bytes :: rest →
       (coversPart x.dstAt bytes.length = true → env.merge.bad = false) →
       ∃ t, exec (.dmaBurst p e env) s = .next t ∧ t.mem = s.mem.writeBytes x.dstAt bytes ∧ t.pRd p 0xA1 = s.pRd p 0xA1 ∧
         t.pRd p 0xA2 = s.pRd p 0xA2 + BitVec.ofNat 64 bytes.length ∧ others t))

/-- DMA_FENCE, ARRIVAL_FENCE_COMPLETE and ARRIVAL_TIMEOUT (R166 to R168): a fence joins the channel's fences and covers exactly the PEER
writes that are unacknowledged; the oldest fence completes when it covers none any more, raising ARRIVE_COUNT and EV_ARRIVE, with code
HOST_ERROR where a zero-length read it sent did not end well and PEER_REFUSED where a write was refused; after DMA_ARRIVE_TIMEOUT beats it
ends with code 7 and halts the channel.
PEER_WRITE and PEER_ACK (R167, R195): a write into the partition's own area for a job that it holds is stored whole and acknowledged;
one that fails those checks stores nothing and is counted, as is one to bytes
that a load holds; an acknowledgement strikes its write from the channel and from the fences that
cover it, and a refusal marks those fences, or the channel where none covers it. -/
def Obligations.DmaFencesAndPeers : Prop :=
  (∀ (ch : ChanId) (s : State),
     (let k := chanKey ch
      let x := s.chan k
      (∀ via : Option Via, (∀ v, via = some v → s.reachesBlock v ch.part = true) →
        ∃ t, exec (.dmaFence via ch) s = .next t ∧
          (∃ f, (t.chan k).fences = x.fences ++ [f] ∧ f.issued = s.beatIx ∧ f.covers = x.outstanding.map Prod.fst ∧
            f.refused = x.peerRefused ∧ (∀ fn, fn ∈ f.host ↔ fn ∈ x.hostFns ∨ ∃ g ∈ x.fences, fn ∈ g.host)) ∧
          (t.chan k).state = x.state ∧
          (∀ j, j ≠ k → t.chan j = s.chan j) ∧ t.mem = s.mem ∧ t.cores = s.cores) ∧
      (s.servesChan k = false → ∀ f rest, x.fences = f :: rest →
        (∀ host : HostEnd, f.covers = [] →
          (let code := if f.host ≠ [] ∧ host ≠ .ok then 5 else if f.refused then 6 else 0
           ∃ t, exec (.arrivalFenceComplete ch host) s = .next t ∧ (t.chan k).fences = rest ∧
             (t.chan k).arrive = x.arrive + 1 ∧ (t.chan k).evArrive = true ∧ (t.chan k).lastCode = code ∧
             (t.chan k).state = (if code = 0 then x.state else .halted) ∧ t.mem = s.mem ∧ t.cores = s.cores)) ∧
        (∀ host : HostEnd, f.covers ≠ [] → exec (.arrivalFenceComplete ch host) s = .next s) ∧
        (f.issued + s.pN ch.part 0xA0 ≤ s.beatIx → ∃ t, exec (.arrivalTimeout ch) s = .next t ∧ (t.chan k).fences = rest ∧
          (t.chan k).lastCode = 7 ∧ (t.chan k).state = .halted ∧ (t.chan k).arrive = x.arrive + 1 ∧ t.mem = s.mem) ∧
        (s.beatIx < f.issued + s.pN ch.part 0xA0 → exec (.arrivalTimeout ch) s = .next s)))) ∧
  ((∀ (pkt : Packet) (shell : ShellOutcome) (s : State),
     (let p := (targetPart pkt.target).getD (pkt.ctxId.toNat / 16)
      let n := pkt.payload.length
      let own := s.holdsJob p pkt.jobId.toNat && s.ownArea pkt.target n == some p
      let loads := s.loadAllows p pkt.target n (some pkt.src)
      let nothing := fun t : State => t.mem = s.mem ∧ t.cores = s.cores ∧ t.dma = s.dma
      s.superseded = false → s.ctxTakes p pkt.jobId.toNat pkt.ctxId.toNat = true →
      n ≠ 64 ∨ (pkt.target ≠ s.pN p 0xC9 ∧ pkt.target ≠ s.pN p 0xC9 + 64) →
      (own = true → loads = true → (coversPart pkt.target n = true → shell.bad = false) →
        ∃ t, exec (.peerWrite pkt shell) s = .next t ∧ t.mem = s.mem.writeBytes pkt.target pkt.payload ∧ t.cores = s.cores ∧
          t.dma = s.dma) ∧
      (own = true → loads = true → coversPart pkt.target n = true → shell.bad = true →
        ∃ t, exec (.peerWrite pkt shell) s = .next t ∧ nothing t) ∧
      (own = true → loads = false → ∃ t, exec (.peerWrite pkt shell) s = .next t ∧ nothing t ∧ t.pRd p 0xCE = s.pRd p 0xCE + 1#64) ∧
      (own = false → ∃ t, exec (.peerWrite pkt shell) s = .next t ∧ nothing t ∧ t.pRd p 0xA5 = s.pRd p 0xA5 + 1#64))) ∧
   (∀ (ch : ChanId) (pkt : Packet) (answer : PeerAnswer) (s : State), s.superseded = false →
     ((s.chan (chanKey ch)).outstanding.any fun o => o.1 == pkt.seq.toNat && o.2.1 == pkt.src) = true →
     (let x := s.chan (chanKey ch)
      let n := pkt.seq.toNat
      let no := answer == PeerAnswer.refused
      ∃ t, exec (.peerAck ch pkt answer) s = .next t ∧ (t.chan (chanKey ch)).outstanding = x.outstanding.filter (fun o => o.1 != n) ∧
        (t.chan (chanKey ch)).fences = x.fences.map (fun f =>
          { f with covers := f.covers.erase n, refused := f.refused || (no && f.covers.contains n) }) ∧
        (t.chan (chanKey ch)).peerRefused = (x.peerRefused || (no && !(x.fences.any fun f => f.covers.contains n))) ∧
        t.mem = s.mem ∧ t.cores = s.cores)))

/-! ## Memory objects and scrubbing (R138, R141, R149, R153, R156) -/

/-- RETAIN_MASK_WRITE, TANGO_RESERVE_WRITE and PATROL_SCRUB_READ: through a privileged path, a mask that keeps the total at or below 1,024
banks is set for the selected core, and one that exceeds it is refused (R138, R156); a reserve of at most 27 GiB is set while nothing is
resident, filling, frozen or restoring, and only the HBM between the old boundary and the new loses its bytes (R141); a patrol read of the
next granule moves the scrub's position on by one and changes no memory, the last granule of a pass counts the pass and has the next
begin a period after it, and one that Shell cannot correct raises the partition's memory event (R149, R153). -/
def Obligations.MemoryObjects : Prop :=
  (∀ (via : Via) (p : Part) (v : Word) (s : State), s.reaches via (partIx p) 0x91 = true → viaPriv via = true →
    s.pow.retainLate = [] → s.rdN (objKey 0x2000 7) ≠ 1 →
    (let c := 16 * p.val + s.pN p 0x90
     ((mset 0#64 s.retain c v).foldl (fun a kv => a + bitCount kv.2) 0 ≤ 1024 →
       ∃ t, exec (.retainMaskWrite via p v) s = .next t ∧ mget 0#64 t.retain c = v ∧
         (∀ d, d ≠ c → mget 0#64 t.retain d = mget 0#64 s.retain d) ∧ t.mem = s.mem ∧ t.cores = s.cores ∧ t.obj = s.obj) ∧
     (1024 < (mset 0#64 s.retain c v).foldl (fun a kv => a + bitCount kv.2) 0 →
       ∃ t, exec (.retainMaskWrite via p v) s = .next t ∧ t.retain = s.retain))) ∧
  (∀ (via : Via) (p : Part) (v : Word) (s : State), s.reaches via (partIx p) 0x93 = true → viaPriv via = true →
    (v.toNat ≤ 27 → s.hasResident p = false → s.tango.bank0.st ≠ .filling → s.tango.bank1.st ≠ .filling → s.tango.restore = none →
      s.tango.frozen = false →
      ∃ t, exec (.tangoReserveWrite via p v) s = .next t ∧ t.pRd p 0x93 = v ∧ t.cores = s.cores ∧
        (let old := s.pN p 0x93
         memOutside s t (hbmBase (p.val + 1) - max old v.toNat * 2 ^ 30) ((max old v.toNat - min old v.toNat) * 2 ^ 30))) ∧
    (27 < v.toNat → ∃ t, exec (.tangoReserveWrite via p v) s = .next t ∧ t.obj = s.obj ∧ t.tango = s.tango)) ∧
  (∀ (hbm : Bool) (o : ShellOutcome) (s : State) (a : Nat),
    (let x := s.scrub hbm
     let since := if x.running then x.since else s.mgmt.ns
     let passes := objKey 0x2800 (if hbm then 5 else 6)
     s.jobReady = true → (x.running = true ∨ x.since ≤ s.mgmt.ns) → s.nextScrub hbm x.at_ = some a →
     (∃ t, exec (.patrolScrubRead hbm o) s = .next t ∧ sameWork s t ∧
       (s.nextScrub hbm (a + 16) ≠ none → t.scrub hbm = ⟨a + 16, true, since⟩ ∧ t.rd passes = s.rd passes) ∧
       (s.nextScrub hbm (a + 16) = none → t.scrub hbm = ⟨0, false, since + s.scrubPeriod hbm⟩ ∧
         t.rdN passes = (s.rdN passes + 1) % 2 ^ 32)) ∧
     (o.bad = true → ∃ t u : State, exec (.patrolScrubRead hbm o) s = .next t ∧ sameWork s u ∧
       t = ((u.event (if hbm then a / hbmSize else a / (16 * spadSize)) 6).scrubOn hbm a).withQueue s)))

/-! ## Ports of the fabric (R201 to R214, R233) -/

/-- A port through its states (R204, R206): from FAILED or DISABLED a retrain request brings a port that is not DISABLED by role to DETECT;
a signal brings it to TRAIN; training that succeeds, and recalibration, bring it to CHECK, and the third failed attempt to FAILED; a
request drains an ACTIVE port unless it is the only candidate of a route (FORCE apart) or another port of its die is being
recalibrated; a drained port recalibrates. A port that goes to CHECK sends its address and role, and one that leaves the link gives the
packets it had queued up.
PORT_ROLE_WRITE (R204): a role is taken by a port that is DISABLED, FAILED or drained, and handed to flash; role 2 disables the port;
any other port keeps its role. -/
def Obligations.PortsAndRoles : Prop :=
  (∀ (n : Port) (s : State),
     (let x := s.port n
      let goes := fun (c : Instr) (st : PState) => ∃ t, exec c s = .next t ∧ (t.port n).st = st ∧
        (∀ m, m ≠ n.val → (t.port m).st = (s.port m).st ∧ (t.port m).outQ = (s.port m).outQ) ∧
        (x.outQ = [] → ∀ m, m ≠ n.val → t.port m = s.port m) ∧ sameWork s t
      (∀ via : Via, s.reaches via (0x2510 + n) 3 = true →
        (s.role n ≠ 2 → x.st = .failed ∨ x.st = .disabled → goes (.portRetrain via n) .detect) ∧
        (s.role n ≠ 2 → x.st ≠ .failed → x.st ≠ .disabled → exec (.portRetrain via n) s = .next s) ∧
        goes (.portDisable via n) .disabled ∧
        (∀ force : Bool, x.st = .active → s.dieRecals n = false → force = true ∨ s.soleCandidate n = false →
          goes (.portRecal via n force) .draining)) ∧
      (∀ pinned : Bool, ∀ ber : Word32,
        (x.st = .active → s.dieRecals n = false → s.soleCandidate n = false → pinned = true →
          goes (.adaptationMonitorRequest n ber pinned) .draining) ∧
        (pinned = false → ber.toNat ≤ 0x3727C5AC → ∃ t, exec (.adaptationMonitorRequest n ber pinned) s = .next t ∧
          t.rdN (portKey n 0x0C) = ber.toNat ∧ t.fab = s.fab ∧ sameWork s t)) ∧
      (x.st = .detect → goes (.signalDetect n) .train) ∧
      (x.st = .train → goes (.trainDone n true) .check) ∧ (x.st = .recal → goes (.recalDone n true) .check) ∧
      (x.st = .train → x.attempts < 2 → goes (.trainDone n false) .train) ∧
      (x.st = .train → 2 ≤ x.attempts → goes (.trainDone n false) .failed) ∧
      (x.st = .draining → ∀ after : Bool, after = true ∨ (x.outQ = [] ∧ x.used = []) → goes (.drainDone n after) .recal) ∧
      (∀ cause : LinkFail, x.st ≠ .disabled → x.st ≠ .failed → goes (.fatalLinkFailure n cause) .failed ∧
        (∀ t, exec (.fatalLinkFailure n cause) s = .next t → (t.port n).cause = (match cause with
          | .lockLoss => 3
          | .replay => 4
          | .errorRate => 5))) ∧
      (∀ info : CheckInfo, x.st = .check → s.role n ≠ info.role.val → goes (.checkExchange n info) .failed) ∧
      (∀ info : CheckInfo, x.st = .check → s.role n = info.role.val → goes (.checkExchange n info) .active) ∧
      (∀ info : CheckInfo, x.st = .check → ∃ t, exec (.checkExchange n info) s = .next t ∧
        t.rd (portKey n 4) = BitVec.ofNat 64 (info.addr.toNat + info.port.val * 2 ^ 24) ∧
        t.rd (portKey n 5) = BitVec.ofNat 64 info.delayNs))) ∧
  (∀ (via : Via) (n : Port) (v : Word) (s : State), s.reaches via (0x2510 + n) 1 = true → v.toNat ≤ 2 →
     ((s.port n).st = .disabled ∨ (s.port n).st = .failed ∨ ((s.port n).st = .draining ∧ (s.port n).outQ = []) →
       ∃ t, exec (.portRoleWrite via n v) s = .next t ∧ t.role n = v.toNat ∧
         t.mgmt.saves = s.mgmt.saves ++ [(portKey n 1, v)] ∧ (v.toNat = 2 → (t.port n).st = .disabled) ∧ sameWork s t) ∧
     ((s.port n).st = .active → ∃ t, exec (.portRoleWrite via n v) s = .next t ∧ t.role n = s.role n ∧ t.fab = s.fab ∧ sameWork s t))

/-- FLIT_RECEIVE, NAK and WIRE_FLIT_SEND (R207 to R212). On a linked port: a flit that FEC decodes, whose CRC matches and which has the
expected number is accepted, the number expected next rises by one modulo 4,096 and the acknowledged flits leave the replay buffer; one
with another number, a bad CRC or a codeword beyond FEC leaves the expected number and starts discarding. A NAK that repeats for the same
flit at most eight times replays what it names. A flit sent takes the next number and stays in the replay buffer, an IDLE flit when no
packet waits; with 1,024 flits unacknowledged none is sent. -/
def Obligations.LinkLayer : Prop :=
  ∀ (n : Port) (s : State), (s.port n).linked = true →
    (∀ f : FlitRx, fecDecodes f = true → flitCrcOk f = true → f.seq % 4096 = (s.port n).rxNext → f.link.flitType.toNat ≠ 4 →
      ∃ t, exec (.flitReceive n f) s = .next t ∧ (t.port n).rxNext = ((s.port n).rxNext + 1) % 4096 ∧
        (t.port n).discarding = false ∧ (t.port n).replay = ackReplay f.link.ack (s.port n).replay ∧
        t.rd (portKey n 6) = s.rd (portKey n 6) + BitVec.ofNat 64 (f.evenErrors + f.oddErrors) ∧
        (∀ m, m ≠ n.val → t.port m = s.port m) ∧ sameWork s t) ∧
    (∀ f : FlitRx, fecDecodes f = false ∨ flitCrcOk f = false ∨ f.seq % 4096 ≠ (s.port n).rxNext →
      ∃ t, exec (.flitReceive n f) s = .next t ∧ (t.port n).rxNext = (s.port n).rxNext ∧ (t.port n).discarding = true ∧
        (∀ m, m ≠ n.val → t.port m = s.port m) ∧ sameWork s t) ∧
    (∀ next : Nat, (s.port n).nakSeq ≠ some next ∨ (s.port n).nakCount < 8 →
      ∃ t, exec (.nak n next) s = .next t ∧ (t.port n).nakSeq = some next ∧ (t.port n).replay = (s.port n).replay ∧
        (t.port n).st = (s.port n).st ∧ t.rd (portKey n 8) = s.rd (portKey n 8) + 1#64 ∧
        t.out = s.out ++ ((s.port n).replay.filter fun f => decide ((f.seq + 4096 - next % 4096) % 4096 < 1024)).map
          (fun f => Out.flit n f.link f.seq (wireFlit f.body f.link)) ∧ sameWork s t) ∧
    (∀ next : Nat, (s.port n).nakSeq = some next → 8 ≤ (s.port n).nakCount →
      ∃ t, exec (.nak n next) s = .next t ∧ (t.port n).st = .failed ∧ (t.port n).cause = 4 ∧ sameWork s t) ∧
    (∀ checks : List (Nat × ShellOutcome), (s.port n).replay.length < 1024 →
      ∃ (t : State) (w : LinkWord) (body : List Byte), exec (.wireFlitSend n checks) s = .next t ∧
        (t.port n).txNext = ((s.port n).txNext + 1) % 4096 ∧
        (t.port n).replay = (s.port n).replay ++ [⟨(s.port n).txNext, w, body⟩] ∧ w.ack = (s.port n).rxNext ∧
        (∀ m, m ≠ n.val → (t.port m).st = (s.port m).st ∧ (t.port m).replay = (s.port m).replay ∧ (t.port m).outQ = (s.port m).outQ) ∧
        sameWork s t) ∧
    (∀ checks : List (Nat × ShellOutcome), (s.port n).replay.length < 1024 → (s.port n).outQ = [] →
      (s.port n).testDue + s.rdN (portKey n 0x0D) < 1000 →
      ∃ (t : State) (w : LinkWord), exec (.wireFlitSend n checks) s = .next t ∧ w.flitType = 0#3 ∧
        t.out = s.out ++ [Out.flit n w (s.port n).txNext (wireFlit [] w)] ∧ (∀ m, m ≠ n.val → t.port m = s.port m) ∧ sameWork s t) ∧
    (∀ checks : List (Nat × ShellOutcome), 1024 ≤ (s.port n).replay.length → exec (.wireFlitSend n checks) s = .next s)

/-- PACKET_ROUTE (R215 to R221): an injected packet for this device leaves to it with this device's address, epoch and age; a packet that
enters for an address without a valid route is dropped and counted; one whose source epoch is older than the table's is dropped as
stale and counted; on a TANGO port one for another device is dropped; each drop leaves the input buffer of its port alone. A packet with a
usable route, none of whose granules is bad, is queued at the chosen port. -/
def Obligations.PacketsAreRouted : Prop :=
  (∀ (die : Die) (pkt : Packet) (s : State), s.superseded = false → pkt.type.toNat < 10 → pkt.dest = s.ownAddr →
    s.quieted pkt.dest pkt.jobId.toNat pkt.ctxId.toNat = false →
    exec (.packetRoute die none pkt []) s = .next ((s.emit (.packet none { pkt with
      src := s.ownAddr, srcEpoch := s.ownEpoch, hops := 0, cls := 0, age := BitVec.ofNat 32 s.ageStamp })).withQueue s)) ∧
  (∀ (die : Die) (n : Port) (pkt : Packet) (shells : List ShellOutcome) (s : State), (s.port n).linked = true →
    (let drops := fun t : State => t.out = s.out ∧ (∀ m, m ≠ n.val → t.port m = s.port m) ∧ (t.port n).outQ = (s.port n).outQ ∧
       sameWork s t
     (∀ e, s.epochOf pkt.src = some e → epochNewer e pkt.srcEpoch = true →
      ∃ t, exec (.packetRoute die (some n) pkt shells) s = .next t ∧ t.rd (fabKey 0x0C) = s.rd (fabKey 0x0C) + 1#64 ∧ drops t) ∧
     (s.epochOf pkt.src = none → pkt.type.toNat < 10 → pkt.hops.val < 15 → pkt.dest ≠ s.ownAddr →
      (s.role n = 1 ∨ bit (mget 0#64 s.fab.routeA (routeKey s.ownAddr pkt.dest)) 63 = false →
        ∃ t, exec (.packetRoute die (some n) pkt shells) s = .next t ∧ t.rd (fabKey 0x0D) = s.rd (fabKey 0x0D) + 1#64 ∧ drops t) ∧
      (s.role n ≠ 1 → bit (mget 0#64 s.fab.routeA (routeKey s.ownAddr pkt.dest)) 63 = true → (∀ o ∈ shells, o.bad = false) →
        ∀ i m, s.chooseCandidate (mget 0#64 s.fab.routeA (routeKey s.ownAddr pkt.dest)) pkt = some (i, m) → pkt.hops.val + 2 < 16 →
        ∃ t q, exec (.packetRoute die (some n) pkt shells) s = .next t ∧ (t.port m).outQ = (s.port m).outQ ++ [q] ∧
          q.inp = n.val ∧ q.pkt.target = pkt.target ∧ q.pkt.payload = pkt.payload ∧ q.pkt.src = pkt.src ∧
          (∀ j, j ≠ m → t.port j = s.port j) ∧ sameWork s t))))

/-- Epochs (R220 to R224, R232): an announcement of a newer epoch raises the entry, of a new address creates it, and goes on through the other
fabric ports; an older or equal one changes nothing; one that its sender sends under an older epoch than the table's is dropped and
counted. A newer epoch for the device's own address supersedes it. FABRIC_EPOCH takes a newer epoch than the one written before, and
EPOCH_WRITE sets the entry it names as an announcement does.
Routing banks (R218): ROUTE_COMMIT_BEAT with 0 disarms, with a beat to come is kept until it, and with one that has come exchanges the
banks at once; the exchange at its beat does the same and disarms; while the copy runs it ends with both banks alike. -/
def Obligations.EpochsAndRoutes : Prop :=
  (∀ (a : FabAddr) (e : Epoch) (s : State),
     (∀ (n : Port) (hops : Fin 16) (src : FabAddr) (se : Epoch),
       (∀ old, s.epochOf src = some old → epochNewer old se = true →
         ∃ t, exec (.epochAnnounce n a e hops src se) s = .next t ∧ t.rd (fabKey 0x0C) = s.rd (fabKey 0x0C) + 1#64 ∧ t.fab = s.fab ∧
           t.out = s.out ∧ sameWork s t) ∧
       (s.epochOf src = none ∨ s.epochOf src = some se →
        (∀ old, s.epochOf a = some old → epochNewer e old = false → exec (.epochAnnounce n a e hops src se) s = .next s) ∧
        ((∃ old, s.epochOf a = some old ∧ epochNewer e old = true) ∨ (s.epochOf a = none ∧ s.fab.epochs.length < 65536) →
         ∃ t, exec (.epochAnnounce n a e hops src se) s = .next t ∧ t.epochOf a = some e ∧
           (∀ b, b ≠ a → t.epochOf b = s.epochOf b) ∧ sameWork s t ∧
           (a = s.ownAddr → epochNewer e s.ownEpoch = true → s.superseded = false → t.superseded = true) ∧
           (a ≠ s.ownAddr → t.superseded = s.superseded)))) ∧
     (∀ via : Via, s.reaches via 0x2500 2 = true → s.superseded = false → a = s.ownAddr → s.epochOf a = none → s.fab.epochSet = false →
       s.fab.epochs.length < 65536 →
       ∃ t, exec (.fabricEpochWrite via (e.zeroExtend 64)) s = .next t ∧ t.ownEpoch = e ∧ t.epochOf a = some e ∧
         t.fab.epochSet = true ∧ t.superseded = false ∧ sameWork s t) ∧
     (∀ (via : Via) (v : Word), s.reaches via 0x2500 8 = true → field v 39 16 = a.toNat → field v 15 0 = e.toNat →
       (∃ old, s.epochOf a = some old ∧ epochNewer e old = true) →
       ∃ t, exec (.epochWrite via v) s = .next t ∧ t.epochOf a = some e ∧ (∀ b, b ≠ a → t.epochOf b = s.epochOf b) ∧ sameWork s t)) ∧
  (∀ s : State,
     (∀ (via : Via) (v : Word), s.reaches via 0x2500 6 = true →
       (v = 0 ∨ s.beatIx < v.toNat → ∃ t, exec (.routeCommitBeatWrite via v) s = .next t ∧ t.rd (fabKey 6) = v ∧
         t.fab = s.fab ∧ sameWork s t) ∧
       (v ≠ 0 → v.toNat ≤ s.beatIx → ∃ t, exec (.routeCommitBeatWrite via v) s = .next t ∧ t.fab.routeA = s.fab.routeS ∧
         t.fab.routeS = s.fab.routeA ∧ t.fab.copying = true ∧ t.rd (fabKey 6) = 0#64 ∧ sameWork s t)) ∧
     (s.rdN (fabKey 6) ≠ 0 → s.rdN (fabKey 6) ≤ s.beatIx → ∃ t, exec .routeBankExchange s = .next t ∧
       t.fab.routeA = s.fab.routeS ∧ t.fab.routeS = s.fab.routeA ∧ t.fab.copying = true ∧ t.rd (fabKey 6) = 0#64 ∧ sameWork s t) ∧
     (s.rdN (fabKey 6) = 0 ∨ s.beatIx < s.rdN (fabKey 6) → exec .routeBankExchange s = .next s) ∧
     (s.fab.copying = true → ∃ t, exec .routeCopyDone s = .next t ∧ t.fab.routeS = s.fab.routeA ∧ t.fab.routeA = s.fab.routeA ∧
       t.fab.copying = false ∧ t.fab.ports = s.fab.ports ∧ t.obj = s.obj ∧ sameWork s t))

/-! ## The distribution of the Beat (R226 to R231) -/

/-- TEMPO_SEND, TEMPO_RECEIVE, MASTER_ANNOUNCEMENT_TIMEOUT, HOLDOVER_ENTRY, TIME_PPS_EDGE and TIME_PPS_LOSS: an ACTIVE port sends the Beat, the time
it last heard and its announcement; it measures half the round trip; an announcement not refreshed for 128 beats is forgotten; a source
silent for 64 beats with no other path leads to HOLDOVER; a master slews toward the second when an edge arrives, and its reference is
gone when the edges stop. -/
def Obligations.TempoKeepsTime : Prop :=
  ∀ s : State,
    (∀ n : Port,
      ((s.port n).st = .active → ∃ (t : State) (w : LinkWord) (body : List Byte), exec (.tempoSend n) s = .next t ∧ w.flitType = 2#3 ∧
        t.out = s.out ++ [Out.tempo n s.beat (s.port n).tempoRx s.sendAnn, Out.flit n w (s.port n).txNext (wireFlit body w)] ∧
        (t.port n).txNext = ((s.port n).txNext + 1) % 4096 ∧ t.beat = s.beat ∧ (∀ m, m ≠ n.val → t.port m = s.port m) ∧ sameWork s t) ∧
      ((s.port n).st ≠ .active → exec (.tempoSend n) s = .next s)) ∧
    (∀ (n : Port) (r : TempoRx), (s.port n).st = .active → s.role n ≠ 0 →
      ∃ t, exec (.tempoReceive n r) s = .next t ∧ (t.port n).tempoRx = r.localRx ∧
        t.rd (portKey n 5) = BitVec.ofNat 64
          ((((r.localRx : Int) - r.localTx) - ((r.sendTime : Int) - r.partnerRx)) / 2).toNat ∧ t.beat = s.beat ∧ sameWork s t) ∧
    (∀ (n : Port) (r : TempoRx), (s.port n).st = .active → s.role n = 0 →
      ∃ t, exec (.tempoReceive n r) s = .next t ∧ (t.port n).tempoRx = r.localRx ∧
        (∀ m, m ≠ n.val → t.port m = s.port m) ∧ sameWork s t) ∧
    (∀ (a : FabAddr) (serial : Word) (h : Heard) (n : Nat), s.fab.heard = [(n, some h)] → h.ann.addr = a → h.ann.serial = serial →
      (h.at_ + 128 ≤ s.beatIx → ∃ t, exec (.masterAnnouncementTimeout a serial) s = .next t ∧ t.fab.heard = [] ∧ sameWork s t) ∧
      (s.beatIx < h.at_ + 128 → exec (.masterAnnouncementTimeout a serial) s = .next s)) ∧
    (∀ n : Nat, s.fab.source = some n → s.wasLocked = true →
      (s.fab.lastSrc + 64 ≤ s.beatIx → s.fab.heard = [] → ∃ t, exec .holdoverEntry s = .next t ∧ t.beatState = bsHoldover ∧
        t.fab.source = none ∧ t.fab.slew = 0 ∧ t.beat = s.beat ∧ sameWork s t) ∧
      (s.beatIx < s.fab.lastSrc + 64 → exec .holdoverEntry s = .next s)) ∧
    (s.beatState = bsMaster → s.rdN (fabKey 0x19) ≠ 0 →
      (s.fab.pps = false ∨ (ppsSlew s.beat).natAbs ≤ 1000000 → ∃ t, exec .timePpsEdge s = .next t ∧ t.fab.pps = true ∧
        t.fab.slew = ppsSlew s.beat ∧ t.beat = s.beat ∧ t.obj = s.obj ∧ sameWork s t) ∧
      (s.fab.pps = true → 1000000 < (ppsSlew s.beat).natAbs → exec .timePpsEdge s = .next s)) ∧
    (s.fab.pps = true → ∃ t, exec .timePpsLoss s = .next t ∧ t.fab.pps = false ∧ t.fab.slew = 0 ∧ t.beat = s.beat ∧
      t.obj = s.obj ∧ sameWork s t) ∧
    (s.beatState ≠ bsMaster → exec .timePpsEdge s = .next s)

/-! ## Job slots (R234 to R236, R269) -/

/-- JOB_SLOT_ASSIGN, SLOT_ENABLE, SLOT_RELEASE and SLOT_RELEASE_DONE: a privileged write of an identifier that no other slot has makes an
inactive slot IDLE, and of 0xFFF UNASSIGNED; an IDLE slot whose checks hold is ACTIVE with its member table taken and its store reserved
from the router's free store; RELEASE of an ACTIVE slot makes it RELEASING, from which it becomes UNASSIGNED with its store given back. -/
def Obligations.JobSlots : Prop :=
  ∀ (j : JobSlot) (s : State),
    (∀ (via : Via) (v : Word), s.reaches via (jsIx j) 1 = true → viaPriv via = true → s.jsState j < 2 →
      (v.toNat % 4096 = 0xFFF ∨ ∀ i < 128, i ≠ j.val → s.rdN (jsKey i 1) ≠ v.toNat % 4096) →
      ∃ t, exec (.jobSlotAssign via j v) s = .next t ∧ t.rdN (jsKey j 1) = v.toNat % 4096 ∧
        t.jsState j = (if v.toNat % 4096 = 0xFFF then 0 else 1) ∧ (∀ i : JobSlot, i ≠ j → t.jsState i = s.jsState i) ∧
        t.coll = s.coll ∧ sameWork s t) ∧
    (∀ via : Via, s.reaches via (jsIx j) 3 = true → s.jsState j = 1 → s.rdN (jsKey j 7) < s.rdN (jsKey j 8) →
      s.inGroupHbm (s.holder j) (s.rdN (jsKey j 9)) (4 * s.rdN (jsKey j 8)) = true →
      entryAddrOf (s.mem.readLE (s.rdN (jsKey j 9) + 4 * s.rdN (jsKey j 7)) 4) = s.ownAddr.toNat →
      s.rdN (jsKey j 0x0D) * (treeLevels (s.rdN (jsKey j 8)) + 1) ≤ s.rdN (jsKey j 0x0E) →
      storeNeed (s.rdN (jsKey j 7)) (s.rdN (jsKey j 8)) (s.window j) ≤ s.rdN (storeKey j) →
      (s.staged j = true → s.rdN (jsKey j 0x0B) ≠ 0) →
      ∃ t, exec (.slotEnable via j) s = .next t ∧ t.jsState j = 2 ∧
        t.rdN (storeKey j) = s.rdN (storeKey j) - storeNeed (s.rdN (jsKey j 7)) (s.rdN (jsKey j 8)) (s.window j) ∧
        (t.cs j).members = (List.range (s.rdN (jsKey j 8))).map (fun i => s.mem.readLE (s.rdN (jsKey j 9) + 4 * i) 4) ∧
        (t.cs j).ctxs = [] ∧ (∀ i, i ≠ j.val → t.cs i = s.cs i) ∧ sameWork s t) ∧
    (∀ via : Via, s.reaches via (jsIx j) 3 = true →
      (s.jsState j = 2 → ∃ t, exec (.slotRelease via j) s = .next t ∧ t.jsState j = 3) ∧
      (s.jsState j ≠ 2 → ∃ t, exec (.slotRelease via j) s = .next t ∧ t.obj = s.obj ∧ t.coll = s.coll ∧ sameWork s t)) ∧
    (s.jsState j = 3 → s.rdN (storeKey j) + s.rdN (jsKey j 0x12) < 2 ^ 64 →
      ∃ t, exec (.slotReleaseDone j) s = .next t ∧ t.jsState j = 0 ∧ t.rdN (jsKey j 1) = 0xFFF ∧
        t.rdN (storeKey j) = s.rdN (storeKey j) + s.rdN (jsKey j 0x12) ∧ (t.cs j).ctxs = [] ∧ (t.cs j).reels = [] ∧
        (t.cs j).members = [] ∧ (t.cs j).records = (s.cs j).records ∧
        (∀ i, i ≠ j.val → t.cs i = s.cs i) ∧ sameWork s t) ∧
    (s.jsState j ≠ 3 → exec (.slotReleaseDone j) s = .next s)

/-! ## Collectives (R237 to R265) -/

/-- ALL_REDUCE, BROADCAST, ALL_GATHER, HORA and REEL complete (R242, R248, R257, R258, R262, R265): a descriptor that names the operation,
started by a program of the holder's group or through the slot's object, whose encoding, table and addresses are good, for a key that
is neither taken nor ended, on an ACTIVE slot with room for a context, opens the context with that descriptor: an ALL_REDUCE that is
not staged is ready and takes its carry, a BROADCAST has its result at its root; the slot's contexts then make their progress
(State.pollSlot). A Reel is COPYING, with every slot of its regions PENDING. An access the group may not make ends the program's tile
with "access refused".
REEL_READY and REEL_VOTE complete (R262 to R264): a COPYING Reel whose RECEIVE bytes have all been performed becomes READY, and at its
commit beat one that was READY by then votes with the contribution 1.0, in a context of BUCKET 0xFFFF; each new state is in the journal
before it is in REEL_STATE, and the journal's first eight bytes hold its code. -/
def Obligations.CollectivesAndReels : Prop :=
  (∀ (addr : Nat) (s : State),
     (let d := readCollDesc s.mem addr
      let j := d.slot
      let k := d.step * 65536 + d.bucket
      let c0 := s.openCtx j (BitVec.ofNat 16 d.step) (BitVec.ofNat 16 d.bucket)
      ∀ (lead : Nat) (b : CollBy),
        ((∃ c : Core, b = .program c ∧ s.coreRuns c = true ∧ lead = s.lead (c.val / 16)) ∨
          (∃ v : Via, b = .driver v ∧ s.reaches v (jsIx j) 0x1F = true ∧ lead = s.holder j)) →
        s.inGroupMem lead addr 64 = true → s.jsState j = 2 → s.holder j = lead → s.collTableOk lead d = true →
        s.collEncOk d = true → s.collAddrOk lead d = true →
        (d.op = 3 → s.reelAccess lead d = true → s.reelOk lead j d = true →
          ∃ (t : State) (r : ReelSt), exec (.reel b addr) s = .next t ∧ t.reelOf j (BitVec.ofNat 16 d.step) = some r ∧ r.desc = d ∧ r.state = 1 ∧
            r.decided = false ∧ r.regions = s.reelTargets lead (reelTable s.mem d.areaA) ∧
            (∀ x ∈ r.regions, ((t.region x.part x.region).slot x.slot).state = .pending ∧
              ((t.region x.part x.region).slot x.slot).holder = .reel) ∧ t.cores = s.cores) ∧
        (s.collCtx j k = none → s.keyTaken d = false → mfind (s.cs j).finished k = none → (s.cs j).ctxs.length < 256 →
          (d.op = 0 → s.staged j = false ∨ 4 * d.length ≤ s.rdN (jsKey j 0x0B) * 2 ^ 20 →
            ∃ (t u : State) (c : CollCtx), exec (.allReduce b addr) s = .next t ∧ t = (u.pollSlot j).withQueue s ∧ u.collCtx j k = some c ∧
              c.desc = some d ∧ c.own.ready = !s.staged j ∧ c.own.carry = mfind (s.cs j).carries d.bucket ∧
              mfind (u.cs j).carries d.bucket = none ∧ u.cores = s.cores ∧ u.mem = s.mem) ∧
          (d.op = 1 → ∃ (t u : State) (c : CollCtx), exec (.broadcast b addr) s = .next t ∧ t = (u.pollSlot j).withQueue s ∧ u.collCtx j k = some c ∧
            c.desc = some d ∧ c.result = (if s.cRank j c0 = d.root then some (1, false) else none) ∧ u.cores = s.cores) ∧
          (d.op = 2 → ∃ (t u : State) (c : CollCtx), exec (.allGather b addr) s = .next t ∧ t = (u.pollSlot j).withQueue s ∧ u.collCtx j k = some c ∧
            c.desc = some d ∧ u.cores = s.cores) ∧
          (d.op = 4 → ∃ (t u : State) (c : CollCtx), exec (.hora b addr) s = .next t ∧ t = (u.pollSlot j).withQueue s ∧ u.collCtx j k = some c ∧
            c.desc = some d ∧ u.cores = s.cores))) ∧
     (∀ c : Core, s.coreRuns c = true → (readCollDesc s.mem addr).op = 0 → s.inGroupMem (s.lead (c.val / 16)) addr 64 = false →
       exec (.allReduce (.program c) addr) s = .next ((s.opFail c stAccessRefused).withQueue s))) ∧
  (∀ (j : JobSlot) (s : State) (n : Nat) (r : ReelSt), (s.cs j).reels = [(n, r)] → r.desc.step = n → n < 65536 → r.decided = false →
     r.part = .live → s.inGroupHbm (s.holder j) (s.rdN (jsKey j 0x1E)) 64 = true →
     (r.state = 1 → r.received = true →
       ∃ t, exec (.reelReady j) s = .next t ∧ t.rdN (jsKey j 0x1D) = 2 ∧ t.mem.readLE (s.rdN (jsKey j 0x1E)) 8 = 2 ∧
         t.reelOf j (BitVec.ofNat 16 n) = some { r with state := 2, readyAt := some s.beatIx } ∧
         memOutside s t (s.rdN (jsKey j 0x1E)) 64 ∧ t.cores = s.cores) ∧
     (r.state ≠ 1 ∨ r.received = false → exec (.reelReady j) s = .next s) ∧
     (r.votes s.beatIx = true → s.collCtx j (n * 65536 + 0xFFFF) = none →
       ∃ (t u : State) (c : CollCtx), exec (.reelVote j) s = .next t ∧ t = (u.settle j).withQueue s ∧ u.rdN (jsKey j 0x1D) = 3 ∧
         u.mem.readLE (s.rdN (jsKey j 0x1E)) 8 = 3 ∧ u.reelOf j (BitVec.ofNat 16 n) = some { r with state := 3 } ∧
         u.collCtx j (n * 65536 + 0xFFFF) = some c ∧ c.vote = true ∧ c.desc = some (voteDesc r) ∧ c.own.ready = true ∧
         c.own.data = [(0, leBytes 4 0x3F800000)] ∧ memOutside s u (s.rdN (jsKey j 0x1E)) 64 ∧ u.cores = s.cores) ∧
     (r.votes s.beatIx = false → exec (.reelVote j) s = .next s))

/-- Packets that a job slot takes complete (R237, R240, R241, R246, R247, R249, R254, R265): OPEN and a contribution's segment stand
with the child of the tree they come from, WINDOW raises the consumed count of the sender's stream, EXCLUDED cuts off the span up to
the level it names and this device's own contribution, ABORT ends the context, RESULT stands with an issued context or waits for the
operation, HORA_FREE counts for its Hora; the slot's contexts then make their progress (State.settle). A packet that no ACTIVE slot
takes is dropped and counted, and a late one is counted as late. -/
def Obligations.CollectivePackets : Prop :=
  ∀ (pkt : Packet) (s : State), s.superseded = false →
    (let w := readCtl pkt
     let key := collKey pkt.step pkt.bucket
     let ctl := fun n : Nat => isCtl pkt = true ∧ w.kind = n
     (s.takeSlot pkt = none →
       (∀ x ∈ [(1, Instr.openPacket pkt), (2, Instr.windowPacket pkt), (3, Instr.excludedPacket pkt), (4, Instr.abortPacket pkt),
           (5, Instr.resultPacket pkt), (6, Instr.horaFree pkt)], ctl x.1 →
         exec x.2 s = .next ((s.collDrop.ctxDrop pkt).withQueue s)) ∧
       exec (.collDataSegment pkt) s = .next ((s.collDrop.ctxDrop pkt).withQueue s)) ∧
     (∀ j, s.takeSlot pkt = some j →
       (let c := s.openCtx j pkt.step pkt.bucket
        (s.isLate j pkt = true → ∀ x ∈ [(1, Instr.openPacket pkt), (3, Instr.excludedPacket pkt), (4, Instr.abortPacket pkt),
            (5, Instr.resultPacket pkt)], ctl x.1 → exec x.2 s = .next ((s.lateDrop j pkt).withQueue s)) ∧
        (∀ l, s.isLate j pkt = false → s.canOpen j pkt = true → c.key = key → s.childLevel j c pkt.src.toNat = some l →
          (∀ d, c.desc = some d → d.op = 0) → c.childGone l = false → pkt.type = 2 →
          (ctl 1 → ∃ (t u : State) (x : CollCtx), exec (.openPacket pkt) s = .next t ∧ t = (u.settle j).withQueue s ∧ u.collCtx j key = some x ∧
            (mget CNode.fresh x.nodes l).right.opened = some (w.count, w.elements) ∧ x.desc = c.desc ∧ x.own = c.own ∧
            (∀ i, i ≠ key → u.collCtx j i = s.collCtx j i) ∧ u.mem = s.mem ∧ u.cores = s.cores) ∧
          (isCtl pkt = false → c.childFits pkt = true → (mget CNode.fresh c.nodes l).next ≤ pkt.target / 4096 →
            ∃ (t u : State) (x : CollCtx), exec (.collDataSegment pkt) s = .next t ∧ t = (u.settle j).withQueue s ∧ u.collCtx j key = some x ∧
              mfind (mget CNode.fresh x.nodes l).right.segs (pkt.target / 4096) = some pkt.payload ∧ x.desc = c.desc ∧ x.own = c.own ∧
              (∀ i, i ≠ key → u.collCtx j i = s.collCtx j i) ∧ u.mem = s.mem ∧ u.cores = s.cores)) ∧
        (ctl 3 → s.isLate j pkt = false → s.canOpen j pkt = true → c.key = key → s.fromTree j c pkt = true →
          ∃ (t u : State) (x : CollCtx) (v : Nat), exec (.excludedPacket pkt) s = .next t ∧ t = (u.settle j).withQueue s ∧ u.collCtx j key = some x ∧
            x.selfExcluded = true ∧ x.own.gone = true ∧ x.cut = some v ∧ w.level ≤ v ∧ u.cores = s.cores) ∧
        (ctl 4 → s.isLate j pkt = false → c.key = key → s.fromTree j c pkt = true →
          ∃ t u : State, exec (.abortPacket pkt) s = .next t ∧ t = (u.settle j).withQueue s ∧ u.collCtx j key = none ∧
            (c.vote = false → c.detached = false → ∀ q ∈ s.members (s.holder j), (u.fence q).state ≠ .armed)) ∧
        (ctl 5 → s.isLate j pkt = false → s.canOpen j pkt = true → pkt.type = 3 → c.key = key → s.aboveOk j c pkt = true →
          (c.desc.isSome = true ∨ c.vote = true ∨ c.detached = true → c.result = none →
            ∃ (t u : State) (x : CollCtx), exec (.resultPacket pkt) s = .next t ∧ t = (u.settle j).withQueue s ∧ u.collCtx j key = some x ∧
              x.result = some (w.count, w.flags % 2 == 1) ∧ x.desc = c.desc ∧ u.mem = s.mem ∧ u.cores = s.cores) ∧
          (c.desc = none → c.vote = false → c.detached = false →
            ∃ (t : State) (x : CollCtx), exec (.resultPacket pkt) s = .next t ∧ t.collCtx j key = some x ∧ x.raw = c.raw ++ [(pkt, c.upSeen)] ∧
              x.result = c.result ∧ t.mem = s.mem ∧ t.cores = s.cores)) ∧
        (ctl 2 → (let o := (s.cs j).out (pktStream pkt)
          let acked := o.acked + (w.consumed + 2 ^ 32 - o.acked % 2 ^ 32) % 2 ^ 32
          ((mfind (s.cs j).outs (pktStream pkt)).isSome = true → acked ≤ o.sent →
            ∃ t u : State, exec (.windowPacket pkt) s = .next t ∧
              t = (pollHoras j ((u.settle j).cs j).ctxs (u.settle j)).withQueue s ∧
              ((u.cs j).out (pktStream pkt)).acked = acked ∧ (u.cs j).ctxs = (s.cs j).ctxs ∧ u.mem = s.mem ∧ u.cores = s.cores) ∧
          ((mfind (s.cs j).outs (pktStream pkt)).isNone = true ∨ o.sent < acked →
            exec (.windowPacket pkt) s = .next (s.collDrop.withQueue s)))) ∧
        (ctl 6 → ∀ c d, s.collCtx j key = some c → c.key = key → c.desc = some d → d.op = 4 → s.isRing j c true pkt = true →
          ∃ (t : State) (x : CollCtx), exec (.horaFree pkt) s = .next t ∧ t.collCtx j key = some x ∧ x.horaFrees = c.horaFrees + 1 ∧ x.desc = c.desc ∧
            x.horaReleased = c.horaReleased ∧ (∀ i, i ≠ key → t.collCtx j i = s.collCtx j i) ∧ t.mem = s.mem ∧
            t.cores = s.cores))))

/-- STAGING_COMPLETE, HORA_BUFFER_RELEASE, BUCKET_DONE and COLLECTIVE_DEADLINE complete (R248, R250, R259, R265): a staged contribution whose
bytes are all there is ready to be sent, and staged now; a Hora buffer of the core's own group is released; a context whose operation
is done ends with code 0, and a BROADCAST, ALL_GATHER or HORA past its deadline with code 5: it is open no more and its operation
counts as ended, unless its record waits for its context (R238); the slot's contexts then make their progress (State.settle). What
its condition does not allow changes nothing.
SOFT_DEADLINE (R251, R254) and the deadlines of a whole reduction, HARD_DEADLINE and ORPHAN_DEADLINE (R251, R252), complete: a level's
soft deadline that has come in a bounded slot excludes the children of that level of which nothing has come; at the hard deadline of a
context that is not done the children of which nothing has come are ABSENT events (R316), and the root tells its subtree and ends it
ABORTED; one still undecided a further HARD_DELTA later ends ORPHANED, the holder's step ending with it; the slot's contexts then make
their progress (State.settle). Before their beats nothing happens. -/
def Obligations.CollectivesEnd : Prop :=
  (∀ (j : JobSlot) (step : Tag) (bucket : BitVec 16) (s : State),
     (let k := collKey step bucket
      (s.collCtx j k = none →
        (∀ x ∈ [Instr.bucketDone j step bucket, Instr.collectiveDeadline j step bucket], exec x s = .next s) ∧
        (mfind (s.cs j).late k = none → exec (.stagingComplete j step bucket) s = .next s) ∧
        (s.reelOf j step = none → ∀ x ∈ [Instr.hardDeadline j step bucket, Instr.orphanDeadline j step bucket], exec x s = .next s)) ∧
      (∀ c d, s.collCtx j k = some c → c.desc = some d →
        (c.vote = false → c.detached = false → c.key = k → s.opDone j c d = true →
          ∃ t u : State, exec (.bucketDone j step bucket) s = .next t ∧ t = (u.settle j).withQueue s ∧ u.collCtx j k = none ∧
            (mfind (u.cs j).finished k = some (d.op, 0) ∨ ∃ r ∈ (u.cs j).records, r.key = k ∧ r.op = d.op ∧ r.code = 0) ∧
            (∀ i, i ≠ k → u.collCtx j i = s.collCtx j i) ∧ u.cores = s.cores) ∧
        (d.op ≠ 0 → c.vote = false → c.detached = false → c.key = k → s.bytesDone j c d = false → d.deadline ≤ s.beatIx →
          ∃ t u : State, exec (.collectiveDeadline j step bucket) s = .next t ∧ t = (u.settle j).withQueue s ∧ u.collCtx j k = none ∧
            (mfind (u.cs j).finished k = some (d.op, 5) ∨ ∃ r ∈ (u.cs j).records, r.key = k ∧ r.op = d.op ∧ r.code = 5) ∧
            (∀ i, i ≠ k → u.collCtx j i = s.collCtx j i) ∧ u.cores = s.cores) ∧
        (s.beatIx < d.deadline → exec (.collectiveDeadline j step bucket) s = .next s) ∧
        (c.detached = false → s.opDone j c d = false → exec (.bucketDone j step bucket) s = .next s) ∧
        (∀ q : Core, s.coreRuns q = true → s.holder j = s.lead (q.val / 16) → d.op = 4 → c.key = k →
          ∃ (t : State) (x : CollCtx), exec (.horaBufferRelease q j step bucket) s = .next t ∧ t.collCtx j k = some x ∧
            x.horaReleased = c.horaReleased + 1 ∧ x.desc = c.desc ∧ x.horaFrees = c.horaFrees ∧
            (∀ i, i ≠ k → t.collCtx j i = s.collCtx j i) ∧ t.mem = s.mem ∧ t.cores = s.cores) ∧
        (s.stagesNow j c d = true → c.key = k → s.rdN (jsKey j 6) ≠ 1 → c.selfExcluded = false →
          ∃ (t u : State) (x : CollCtx), exec (.stagingComplete j step bucket) s = .next t ∧ t = (u.settle j).withQueue s ∧ u.collCtx j k = some x ∧
            x.own.stagedAt = some s.beatIx ∧ x.own.ready = true ∧ x.own.empty = false ∧ x.own.data = s.stageData c d ∧
            x.desc = c.desc ∧ (∀ i, i ≠ k → u.collCtx j i = s.collCtx j i) ∧ u.cores = s.cores)))) ∧
  (∀ (j : JobSlot) (step : Tag) (bucket : BitVec 16) (s : State) (c : CollCtx),
     (let k := collKey step bucket
      s.collCtx j k = some c → c.key = k →
      (∀ D level, s.collDeadline j step = some D →
        (s.bounded j = true → D + (level - 1) * s.rdN (jsKey j 0x0D) ≤ s.beatIx → 1 ≤ level → level ≤ s.cTop j c → c.goesUp = true →
          c.upDone = false → c.cut = none →
          ∃ (t u : State) (x : CollCtx), exec (.softDeadline j step bucket level) s = .next t ∧
            t = (if (u.settle j).rdN (jsKey j 0x17) = s.rdN (jsKey j 0x17) then u.settle j
              else absentAll (s.absentAt j c [level]) (u.settle j)).withQueue s ∧ u.collCtx j k = some x ∧
            (let n := mget CNode.fresh c.nodes level
             let m := mget CNode.fresh x.nodes level
             let absent := fun h : Child => h.opened.isNone && h.segs.isEmpty
             m.left.excluded = (n.left.excluded || absent n.left) ∧
             m.right.excluded = (n.right.excluded || (absent n.right && (rightRank (s.cRank j c) level (s.cRanks j c)).isSome))) ∧
            x.desc = c.desc ∧ u.cores = s.cores) ∧
        (s.beatIx < D → exec (.softDeadline j step bucket level) s = .next s)) ∧
      (∀ h, s.hardBeat j c = some h → (c.goesUp || c.vote) = true →
        (h ≤ s.beatIx → c.upDone = false →
          (let absent := s.absentAt j c (hostedLevels (s.cRank j c) (s.cRanks j c))
           (s.cRank j c = 0 → ∃ t u : State, exec (.hardDeadline j step bucket) s = .next t ∧
             t = (absentAll absent (u.settle j)).withQueue s ∧ u.collCtx j k = none ∧
             (c.vote = false → c.detached = false → ∀ q ∈ s.members (s.holder j), (u.fence q).state ≠ .armed)) ∧
           (s.cRank j c ≠ 0 → exec (.hardDeadline j step bucket) s = .next ((absentAll absent s).withQueue s)))) ∧
        (s.beatIx < h ∨ c.upDone = true → exec (.hardDeadline j step bucket) s = .next s) ∧
        (h + s.rdN (jsKey j 0x0E) ≤ s.beatIx → c.decided = false →
          ∃ t u : State, exec (.orphanDeadline j step bucket) s = .next t ∧ t = (u.settle j).withQueue s ∧ u.collCtx j k = none ∧
            (c.vote = false → c.detached = false → ∀ q ∈ s.members (s.holder j), (u.fence q).state ≠ .armed)) ∧
        (s.beatIx < h + s.rdN (jsKey j 0x0E) → exec (.orphanDeadline j step bucket) s = .next s))))

/-! ## Weights (R281 to R300) -/

/-- DEFINE, DEFINE_SINGLE, INSTALL and CLEAR of the selected region (R105, R285, R286): an invalid region whose slots lie in the group's memory
becomes valid with both slots FREE, or a single one COMMITTED under the tag given; a slot of a valid region with both slots FREE is
COMMITTED under the tag; a region with both slots FREE that no acorn entry names becomes invalid. Other regions stay.
LOAD_START, LOAD_COMMIT, LOAD_CANCEL and LOAD_RETRY (R289, R293, R295, R296): a manifest outside the group's HBM, one that cannot be read
and one at fault leave the loader FAILED with cause 8 and the shard's index; a good one is LOADING when each of its regions has a slot that
is FREE or held by the load before, and waits in WAIT_SLOT otherwise; the commit of a VERIFIED load, with no step under way, makes every
slot it holds COMMITTED under its tag; a cancelled load gives its slots up; a retry of a FAILED load fetches its failed shards again from
the holders that the manifest names now. -/
def Obligations.RegionsAndLoads : Prop :=
  (∀ (via : Via) (p : Part) (s : State), s.reaches via (partIx p) 0xC3 = true →
     (let r := s.selected p
      let e := s.region p r
      (e.valid = false → s.inGroupMem p e.slot0.addr e.size = true →
        (s.inGroupMem p e.slot1.addr e.size = true → ∃ t, exec (.define via p) s = .next t ∧
          t.region p r = { e with valid := true, single := false, slot0 := e.slot0.freed, slot1 := e.slot1.freed } ∧
          (∀ q, q ≠ r → t.region p q = s.region p q) ∧ t.cores = s.cores ∧ t.mem = s.mem ∧ t.obj = s.obj) ∧
        (∀ tag : Tag, s.microBatches p = [] → ∃ t, exec (.defineSingle via p tag) s = .next t ∧ (t.region p r).valid = true ∧
          (t.region p r).single = true ∧ (t.region p r).slot0.state = .committed ∧ (t.region p r).slot0.tag = tag ∧
          (∀ q, q ≠ r → t.region p q = s.region p q) ∧ t.cores = s.cores ∧ t.mem = s.mem ∧ t.obj = s.obj)) ∧
      (∀ (i : Fin 2) (tag : Tag), e.valid = true → e.single = false → e.allFree = true → s.microBatches p = [] →
        ∃ t, exec (.install via p i tag) s = .next t ∧ ((t.region p r).slot i).state = .committed ∧
          ((t.region p r).slot i).tag = tag ∧ ((t.region p r).slot (1 - i.val)).state = .free ∧
          (∀ q, q ≠ r → t.region p q = s.region p q) ∧ t.cores = s.cores ∧ t.mem = s.mem ∧ t.obj = s.obj) ∧
      (e.allFree = true → s.acornNames p r = false → ∃ t, exec (.clear via p) s = .next t ∧
        t.region p r = { e with valid := false, single := false } ∧ (∀ q, q ≠ r → t.region p q = s.region p q) ∧
        t.cores = s.cores ∧ t.mem = s.mem ∧ t.obj = s.obj) ∧
      (e.allFree = false → ∃ t, exec (.clear via p) s = .next t ∧ t.versions = s.versions))) ∧
  (∀ (via : Via) (p : Part) (s : State), s.reaches via (partIx p) 0xC5 = true →
     (let l := s.loader p
      let a := s.pN p 0xC4
      let m := checkManifest s p a
      let same := fun t : State => t.cores = s.cores ∧ t.mem = s.mem
      let here := s.inGroupHbm p a (manifestSize s.mem a)
      let kept := if l.st = .verified ∨ l.st = .failed then l.held else []
      (∀ o : ShellOutcome, l.st ≠ .loading → l.st ≠ .waitSlot →
        (here = false ∨ o.bad = true → ∃ t, exec (.loadStart via p o) s = .next t ∧ (t.loader p).st = .failed ∧
          (t.loader p).failWord = 8 * 2 ^ 28 ∧ t.versions = s.versions ∧ same t) ∧
        (∀ i, here = true → o.bad = false → m.1 = some i → ∃ t, exec (.loadStart via p o) s = .next t ∧ (t.loader p).st = .failed ∧
          (t.loader p).failWord = 8 * 2 ^ 28 + i % 65536 ∧ t.versions = s.versions ∧ same t) ∧
        (here = true → o.bad = false → m.1 = none → ∃ t, exec (.loadStart via p o) s = .next t ∧
          (t.loader p).st = (if (m.2.regions.all fun r => (kept.any fun h => h.1 == r) || (s.region p r).freeSlot.isSome) = true
            then .loading else .waitSlot) ∧
          (t.loader p).regions = m.2.regions ∧ (t.loader p).tag = m.2.tag ∧ (t.loader p).shards.length = m.2.shards.length ∧
          (t.loader p).failWord = 0 ∧ (t.loader p).queue = l.queue ∧ same t)) ∧
      (l.st = .verified → (s.fence p).state ≠ .armed → (l.held.map Prod.fst).Nodup → (∀ h ∈ l.held, h.2 < 2) →
        ∃ t, exec (.loadCommit via p) s = .next t ∧ (t.loader p).st = .committed ∧ (t.loader p).held = [] ∧
          (∀ h ∈ l.held, ((t.region p h.1).slot h.2).state = .committed ∧ ((t.region p h.1).slot h.2).tag = l.tag) ∧
          (∀ q, q ∉ l.held.map Prod.fst → s.microBatches p = [] → t.region p q = s.region p q) ∧ same t) ∧
      (l.st ≠ .idle → l.st ≠ .committed → ∃ t, exec (.loadCancel via p) s = .next t ∧ (t.loader p).st = .cancelled ∧
        (t.loader p).held = [] ∧ (∀ h ∈ l.held, h.2 < 2 → ((t.region p h.1).slot h.2).state = .free) ∧ same t) ∧
      (let failed := fun i : Nat => ((l.shards[i]?).map Shard.st) = some .failed
       let named := fun i : Nat => readHolders s.mem (shardTable l.manifest l.regions.length + 128 * i)
       ∀ o : ShellOutcome, l.st = .failed → (∃ i, failed i) →
        (o.bad = true → ∃ t, exec (.loadRetry via p o) s = .next t ∧ (t.loader p).st = .failed ∧ same t) ∧
        (o.bad = false → (∀ i, failed i → named i ≠ []) → ∃ t, exec (.loadRetry via p o) s = .next t ∧ (t.loader p).st = .loading ∧
          (t.loader p).failWord = 0 ∧ (t.loader p).shards.length = l.shards.length ∧
          (∀ i, failed i → ∃ x : Shard, (t.loader p).shards[i]? = some x ∧ x.st = .fetching ∧ x.fails = 0 ∧ x.holders = named i ∧
            x.sentAt = s.beatIx) ∧
          (∀ i, ¬ failed i → (t.loader p).shards[i]? = l.shards[i]?) ∧ t.versions = s.versions ∧ same t))))

/-- EXPECT_BEAT, DIGEST_DONE, FETCH_DEADLINE and FETCH_NOTICE (R289 to R293): at the EXPECT beat no shard waits any more; a shard whose
digest matches is VERIFIED and counted; one that does not match, and a fetch not answered in its time, has one failure more, is counted
and is fetched again, or has FAILED where it has no holder, on its third failure, or in a load that has failed; a good notice for the
current attempt, from a sender that R167 and R195 let in, leaves the shard to be verified.
SERVE_ENABLE, SERVE_REQUEST_RECEIVE, SERVE_REQUEST_PROCESS and ACORN_ENTRY_WRITE (R294, R298, R300): serving is switched on when its channel is
idle; a request for a job of the group joins the queue of at most 64 and is acknowledged, any other is refused and counted; a request for
bytes that lie in a region's slot is served with that slot bound meanwhile, and one that names no such slot, or bytes beyond it, or bytes
that cannot be read, is answered by a notice with code 1, 2 or 3; an acorn entry that names no bound pair and two valid regions is
stored. -/
def Obligations.ShardsAndServing : Prop :=
  (∀ (p : Part) (s : State),
     ((s.loader p).st = .loading → (s.loader p).expectBeat ≤ s.beatIx → ∃ t, exec (.expectBeat p) s = .next t ∧
       (∀ x ∈ (t.loader p).shards, x.st ≠ .waiting) ∧ t.versions = s.versions ∧ t.cores = s.cores ∧ t.mem = s.mem) ∧
     ((s.loader p).st ≠ .loading ∨ s.beatIx < (s.loader p).expectBeat → exec (.expectBeat p) s = .next s) ∧
     (∀ (i : Nat) (sh : Shard), (s.loader p).shards[i]? = some sh →
       (let same := fun t : State => t.versions = s.versions ∧ t.cores = s.cores ∧ t.mem = s.mem
        let fails := fun (c : Instr) (counter : Nat) => ∃ (t : State) (x : Shard), exec c s = .next t ∧
          t.pRd p counter = s.pRd p counter + 1#64 ∧ same t ∧ (t.loader p).shards[i]? = some x ∧ x.fails = sh.fails + 1 ∧
          (sh.holders ≠ [] → sh.fails + 1 < 3 → (s.loader p).st ≠ .failed →
            x.st = .fetching ∧ x.attempt = sh.attempt + 1 ∧ x.sentAt = s.beatIx ∧ (t.loader p).st = (s.loader p).st) ∧
          (sh.holders = [] ∨ 3 ≤ sh.fails + 1 ∨ (s.loader p).st = .failed → x.st = .failed ∧ (t.loader p).st = .failed)
        let digest := sha512 (s.readBytes (s.shardAddr p (s.loader p) sh) sh.bytes)
        (sh.st = .verifying → sh.unit = true →
         (digest = sh.digest → ∀ o : ShellOutcome, o.bad = false →
           ∃ t, exec (.digestDone p i o) s = .next t ∧ ((t.loader p).shards[i]?.map Shard.st) = some .verified ∧
             t.pRd p 0xCB = s.pRd p 0xCB + 1#64 ∧ same t) ∧
         (∀ o : ShellOutcome, o.bad = true ∨ digest ≠ sh.digest → fails (.digestDone p i o) 0xCC)) ∧
        (sh.st = .fetching →
         (sh.sentAt + s.pN p 0xC8 + (sh.bytes + 65535) / 65536 ≤ s.beatIx → fails (.fetchDeadline p i) 0xCD) ∧
         (s.beatIx < sh.sentAt + s.pN p 0xC8 + (sh.bytes + 65535) / 65536 → exec (.fetchDeadline p i) s = .next s) ∧
         (∀ (pkt : Packet) (attempt : Nat), s.superseded = false → s.ctxTakes p pkt.jobId.toNat pkt.ctxId.toNat = true →
           s.holdsJob p pkt.jobId.toNat = true → noticeFields pkt.payload = (i, attempt, 0) →
           (attempt + 1) % 65536 = sh.attempt % 65536 →
           ∃ t, exec (.fetchNotice p pkt) s = .next t ∧ ((t.loader p).shards[i]?.map Shard.st) = some .verifying ∧ same t)) ∧
        (sh.st ≠ .fetching → exec (.fetchDeadline p i) s = .next s)))) ∧
  ((∀ (via : Via) (p : Part) (v : Word) (s : State), s.reaches via (partIx p) 0xCA = true →
     (bit v 0 = false ∨ s.serves p = true ∨ ((s.chan (p.val * 32 + 31)).state = .idle ∧ (s.chan (p.val * 32 + 31)).armed = false) →
       ∃ t, exec (.serveEnable via p v) s = .next t ∧ t.pRd p 0xCA = v &&& 1#64 ∧ sameWork s t)) ∧
   (∀ (p : Part) (pkt : Packet) (s : State), s.serves p = true → s.superseded = false → s.ctxTakes p pkt.jobId.toNat pkt.ctxId.toNat = true →
     (s.holdsJob p pkt.jobId.toNat = true → (s.loader p).queue.length < 64 → ∃ t, exec (.serveRequestReceive p pkt) s = .next t ∧
       (t.loader p).queue = (s.loader p).queue ++ [parseRequest pkt.ctxId.toNat pkt.payload] ∧ sameWork s t) ∧
     (s.holdsJob p pkt.jobId.toNat = false ∨ 64 ≤ (s.loader p).queue.length → ∃ t, exec (.serveRequestReceive p pkt) s = .next t ∧
       (t.loader p).queue = (s.loader p).queue ∧ t.pRd p 0xA5 = s.pRd p 0xA5 + 1#64 ∧ sameWork s t)) ∧
   (∀ (p : Part) (s : State) (r : FetchReq) (rest : List FetchReq), s.serves p = true → (s.loader p).queue = r :: rest →
     (s.loader p).serve = none →
     (let l := s.loader p
      let answers := fun (o : ShellOutcome) (code : Nat) => ∃ t u : State, exec (.serveRequestProcess p o) s = .next t ∧
        t = (u.sendNotice p r code).withQueue s ∧ (t.loader p).queue = rest ∧ (t.loader p).serve = none ∧ t.versions = s.versions ∧
        t.cores = s.cores ∧ t.mem = s.mem
      (s.serveSlot p r = none → ∀ o : ShellOutcome, answers o 1) ∧
      (∀ i : Nat, s.serveSlot p r = some i →
        (let e := s.region p r.region
         let chunks := (r.bytes + 4095) / 4096
         let from_ := (e.slot i).addr + r.offset
         ((s.region p r.region).size < r.offset + r.bytes → ∀ o : ShellOutcome, answers o 2) ∧
         (r.offset + r.bytes ≤ e.size → (e.slot i).bind < 255 → ∀ o : ShellOutcome, o.bad = true → answers o 3) ∧
         (r.offset + r.bytes ≤ e.size → (e.slot i).bind < 255 → ∀ o : ShellOutcome, o.bad = false →
           ∃ t u : State, exec (.serveRequestProcess p o) s = .next t ∧ t = (serveCopy p r from_ l.nextSeq chunks 0 u).withQueue s ∧
             (t.loader p).queue = rest ∧ (t.loader p).serve = some ⟨r, i, chunks, false, s.beatIx, l.nextSeq, chunks⟩ ∧
             ((t.region p r.region).slot i).bind = (e.slot i).bind + 1 ∧ t.cores = s.cores ∧ t.mem = s.mem) ∧
         (r.offset + r.bytes ≤ e.size → 255 ≤ (e.slot i).bind → ∀ o : ShellOutcome, exec (.serveRequestProcess p o) s = .next s))))) ∧
   (∀ (via : Via) (p : Part) (v : Word) (s : State), s.reaches via (partIx p) 0xD1 = true → f32Finite (field v 31 0) = true →
     (bit (s.acorn p (s.pN p 0xD0)) 63 = true → s.acornBound p (s.pN p 0xD0) = false) →
     (s.region p (field v 55 48)).valid = true → (s.region p (field v 47 40)).valid = true →
     (s.region p (field v 47 40)).size ≤ 64 * 2 ^ 20 →
     ∃ t, exec (.acornEntryWrite via p v) s = .next t ∧ t.acorn p (s.pN p 0xD0) = v &&& 0x80FFFFFFFFFFFFFF#64 ∧
       (∀ i, i ≠ s.pN p 0xD0 → t.acorn p i = s.acorn p i) ∧ t.obj = s.obj ∧ sameWork s t))

/-! ## Tango (R301 to R315, R319, R325) -/

/-- PAIR, TANGO_PAIRING_START and TANGO_LIST_ENTRY_WRITE (R301, R303, R304): with its TANGO ports all leading to the sender, the
other role and room for the image, a PAIR names the partner, empties the banks if the partner is a new one, and leaves the pair
IDLE or WAITING; one of the same role, or from elsewhere, is a CONFLICT with cause 1 or 2. A list entry is stored while no
mirror runs or waits, if it is not valid or names a valid region of two slots.
START, STOP, PAUSE, UNPAIR, FREEZE and UNFREEZE (R311, R312, R325): STOP halts and keeps no fence waiting; a halted engine goes on by
START; PAUSE suspends a running mirror; UNPAIR ends the pairing until a TANGO port next trains; FREEZE and UNFREEZE set and clear the
hold on the banks. TANGO_INTERRUPT, with a TANGO port left that may come back, suspends a running mirror. -/
def Obligations.TangoPairsAndStops : Prop :=
  ((∀ (n : Port) (pkt : Packet) (s : State), s.superseded = false → s.tangoPorts.contains n.val = true → s.tango.unpaired = false →
     assigned s.ownAddr.toNat = true → s.tangoState ≠ tsHalted → s.tango.frozen = false → s.tango.mirror = none →
     (s.epochOf pkt.src = none ∨ s.epochOf pkt.src = some pkt.srcEpoch) →
     (let far := ∀ m ∈ s.tangoPorts, s.rdN (portKey m 4) % 2 ^ 24 = pkt.src.toNat
      let reserve := ctlField pkt 8 8
      let banks := ctlField pkt 4 4
      (ctlField pkt 2 1 ≠ s.rdN (tKey 1) → far → s.imageBytes ≤ bankBytesOf reserve banks →
        ∃ t, exec (.pair n pkt) s = .next t ∧ t.tango.pair = some (pkt.src, pkt.srcEpoch) ∧ t.rdN (tKey 3) = pkt.src.toNat ∧
          t.tango.heard = some (pkt.src, pkt.srcEpoch, ctlField pkt 2 1, reserve, banks) ∧
          (s.tango.lastFence = none → t.rdN (tKey 2) = 3) ∧
          (∀ h, s.tango.pair = some h → h.1 ≠ pkt.src → t.tango.bank0 = .empty ∧ t.tango.bank1 = .empty) ∧
          (∀ h, s.tango.pair = some h → h.1 = pkt.src → t.tango.bank0 = s.tango.bank0 ∧ t.tango.bank1 = s.tango.bank1) ∧ sameWork s t) ∧
      (ctlField pkt 2 1 = s.rdN (tKey 1) → ∃ t, exec (.pair n pkt) s = .next t ∧ t.rdN (tKey 2) = 2 ∧
        t.rdN (tKey 3) = 2 ^ 24 + pkt.src.toNat ∧ t.tango.pair = s.tango.pair ∧ sameWork s t) ∧
      (ctlField pkt 2 1 ≠ s.rdN (tKey 1) → ¬far → s.tango.heard = none → ∃ t, exec (.pair n pkt) s = .next t ∧ t.rdN (tKey 2) = 2 ∧
        t.rdN (tKey 3) = 2 * 2 ^ 24 + pkt.src.toNat ∧ t.tango.pair = s.tango.pair ∧ sameWork s t))) ∧
   (∀ (n : Port) (s : State), s.superseded = false → s.tangoPorts.contains n.val = true → assigned s.ownAddr.toNat = true →
     assigned (s.rdN (portKey n 4) % 2 ^ 24) = true → s.tango.heard = none → s.tangoState = tsUnpaired →
     (∀ m ∈ s.tangoPorts, s.rdN (portKey m 4) % 2 ^ 24 = s.rdN (portKey n 4) % 2 ^ 24) →
     ∃ t, exec (.tangoPairingStart n) s = .next t ∧ t.rdN (tKey 2) = 1 ∧ t.tango.unpaired = false ∧
       (s.rdN (tKey 1) = 0 → t.tango.pairSent = true) ∧ sameWork s t) ∧
   (∀ (via : Via) (v : Word) (s : State), s.reaches via 0x2700 7 = true → s.tangoState ≠ tsMirroring → s.tangoState ≠ tsWaiting →
     (bit v 31 = true → (s.region (field v 11 8) (field v 7 0)).valid = true ∧ (s.region (field v 11 8) (field v 7 0)).single = false) →
     ∃ t, exec (.tangoListEntryWrite via v) s = .next t ∧ mget 0#64 t.tango.list (s.rdN (tKey 6)) = v &&& 0x80000FFF#64 ∧
       (∀ i, i ≠ s.rdN (tKey 6) → mget 0#64 t.tango.list i = mget 0#64 s.tango.list i) ∧ t.obj = s.obj ∧ sameWork s t)) ∧
  (∀ (via : Via) (s : State), s.reaches via 0x2700 4 = true → s.superseded = false →
     (let goes := fun (c : Instr) (st : Nat) (x : TangoSt) => ∃ t, exec c s = .next t ∧ t.tango = x ∧ t.rdN (tKey 2) = st ∧
        (∀ k, k ≠ tKey 2 → t.rd k = s.rd k) ∧ sameWork s t
      let x := s.tango
      (x.mirror = none →
        goes (.tangoStop via) 7 { x with waiting := none, resumeSent := false } ∧
        goes (.tangoUnpair via) 0
          { x with mirror := none, resumeSent := false, heard := none, waiting := none, pairSent := false, unpaired := true }) ∧
      (∀ m : Mirror, x.mirror = some m → (∀ p, (s.loader p).st ≠ .waitSlot) → ∃ t, exec (.tangoStop via) s = .next t ∧
        t.rdN (tKey 2) = 7 ∧ t.tango.waiting = none ∧
        t.tango.mirror = some { m with slots := m.slots.map fun y => { y with bound := false } } ∧ t.cores = s.cores ∧ t.mem = s.mem) ∧
      (s.tangoState = tsHalted → x.heard = none → goes (.tangoStart via) 0 x) ∧
      (s.tangoState = tsHalted → x.heard ≠ none → x.mirror = none → goes (.tangoStart via) 3 x) ∧
      (s.tangoState = tsSuspended → x.mirror = none → goes (.tangoStart via) (if x.waiting = none then 3 else 5) x) ∧
      (s.tangoState ≠ tsHalted → s.tangoState ≠ tsSuspended → exec (.tangoStart via) s = .next s) ∧
      (s.tangoState = tsMirroring → goes (.tangoPause via) 6 { x with resumeSent := false, paused := true }) ∧
      (s.tangoState ≠ tsMirroring → exec (.tangoPause via) s = .next s) ∧
      goes (.tangoFreeze via) (s.rdN (tKey 2)) { x with frozen := true } ∧
      (s.tangoState ≠ tsConflict → goes (.tangoUnfreeze via) (s.rdN (tKey 2)) { x with frozen := false }) ∧
      (s.tangoPorts = [] → s.tangoPortLeft = true → s.tangoState = tsMirroring → goes .tangoInterrupt 6 { x with resumeSent := false }) ∧
      (s.tangoPorts = [] → s.tangoPortLeft = true → s.tangoState = tsWaiting → goes .tangoInterrupt 6 x) ∧
      (s.tangoPorts ≠ [] → exec .tangoInterrupt s = .next s)))

/-- MIRROR_BEGIN, ACK and MIRROR_LATE (R308, R309): a waiting fence whose listed regions each have a COMMITTED slot starts a mirror of
its tag into the target bank, each slot held by one bind more; an acknowledgement in chunk order counts, and the last one ends the
mirror, whose tag is then the newest the partner has; a mirror, or a tag that waits, not complete within TANGO_WINDOW of its fence is
counted late once. A source that cannot be read leaves the tag waiting.
RESUME and RESUME_REPLY (R311): the partner answers with the tag and the acknowledged chunks of its FILLING bank, and then takes data
for that bank again; a reply of the mirror's tag whose slots can be held lets the mirror go on from that chunk; a reply of another
tag ends the mirror, and the newest fence waits. -/
def Obligations.MirrorsRunAndResume : Prop :=
  ((∀ (s : State) (tag : Tag) (fence b : Nat) (late : Bool) (slots : List MSlot), s.tangoState = tsWaiting → s.tango.mirror = none →
     s.pairPorts ≠ [] → s.tango.waiting = some (tag, fence, late) → s.targetBank = some b →
     s.mirrorSlots s.tango.inForce = some slots → s.tango.inForce.Nodup → (∀ x ∈ s.tango.inForce, x.2 < 256) →
     imageSize (slots.map fun x => x.size) ≤ s.rdN (tKey 9) →
     (∀ o : ShellOutcome, o.bad = true → ∃ t, exec (.mirrorBegin o) s = .next t ∧ t.tango = s.tango ∧ t.versions = s.versions ∧
       t.cores = s.cores ∧ t.mem = s.mem) ∧
     ∀ o : ShellOutcome, o.bad = false → ∃ t m, exec (.mirrorBegin o) s = .next t ∧ t.tango.mirror = some m ∧ m.tag = tag ∧ m.bank = b ∧ m.slots = slots ∧ m.sent = 1 ∧
       m.acked = 0 ∧ m.bytes = imageSize (slots.map fun x => x.size) ∧ t.tango.waiting = none ∧ t.rdN (tKey 2) = 4 ∧
       t.rdN (tKey 0x0A) = tag.toNat ∧ t.rdN (tKey 0x0D) = 0 ∧ t.cores = s.cores ∧ t.mem = s.mem ∧
       ∀ x ∈ slots, ((t.region x.part x.region).slot x.slot).bind = ((s.region x.part x.region).slot x.slot).bind + 1) ∧
   (∀ (pkt : Packet) (s : State) (m : Mirror), s.fromPair pkt = true → s.tangoState = tsMirroring → s.tango.mirror = some m →
     ctlField pkt 4 4 = m.acked → m.acked < m.sent → (∀ p, (s.loader p).st ≠ .waitSlot) →
     (m.acked + 1 < m.chunks → ∃ t m', exec (.tangoAck pkt) s = .next t ∧ t.tango.mirror = some m' ∧ m'.acked = m.acked + 1 ∧
       m'.sent = m.sent ∧ t.rdN (tKey 2) = s.rdN (tKey 2) ∧ t.rdN (tKey 0x0B) = s.rdN (tKey 0x0B) ∧ t.cores = s.cores ∧ t.mem = s.mem) ∧
     (m.chunks ≤ m.acked + 1 → ∃ t, exec (.tangoAck pkt) s = .next t ∧ t.tango.mirror = none ∧ t.rdN (tKey 0x0B) = 2 ^ 16 + m.tag.toNat ∧
       t.rdN (tKey 2) = (if s.tango.waiting = none then 3 else 5) ∧ t.cores = s.cores ∧ t.mem = s.mem)) ∧
   (∀ s : State, s.superseded = false →
     (let counted := fun t : State => t.rdN (tKey 0x0F) = min (s.rdN (tKey 0x0F) + 1) (2 ^ 32 - 1) ∧ sameWork s t
      (∀ m : Mirror, s.tango.mirror = some m → s.tango.waiting = none →
       (m.late = false → m.fence + s.rdN (tKey 0x0E) ≤ s.beatIx → ∃ t, exec .mirrorLate s = .next t ∧
         t.tango.mirror = some { m with late := true } ∧ counted t) ∧
       (m.late = true → exec .mirrorLate s = .next s)) ∧
      (∀ (tag : Tag) (fence : Nat), s.tango.mirror = none → s.tango.waiting = some (tag, fence, false) →
        fence + s.rdN (tKey 0x0E) ≤ s.beatIx → ∃ t, exec .mirrorLate s = .next t ∧ t.tango.waiting = some (tag, fence, true) ∧
          counted t)))) ∧
  ((∀ (pkt : Packet) (s : State), s.fromPair pkt = true → s.superseded = false →
     (∀ b, b = (if s.tango.bank0.st = .filling then 0 else 1) → (s.tango.bank b).st = .filling →
       ∃ t, exec (.tangoResume pkt) s = .next t ∧ t.tango = { s.tango with rxBank := some b, rxBytes := [] } ∧ t.obj = s.obj ∧ sameWork s t) ∧
     (s.tango.bank0.st ≠ .filling → s.tango.bank1.st ≠ .filling →
       ∃ t, exec (.tangoResume pkt) s = .next t ∧ t.tango = s.tango ∧ t.obj = s.obj ∧ sameWork s t)) ∧
   (∀ (pkt : Packet) (s : State) (m : Mirror), s.fromPair pkt = true → s.tango.resumeSent = true → s.tangoState = tsSuspended →
     s.tango.mirror = some m → (∀ p, (s.loader p).st ≠ .waitSlot) →
     (∀ slots, pkt.step = m.tag → ctlField pkt 4 4 < m.chunks → s.pairPorts ≠ [] → s.retake m = some slots →
       ∃ t m', exec (.tangoResumeReply pkt) s = .next t ∧ t.tango.mirror = some m' ∧ m'.acked = ctlField pkt 4 4 ∧
         m'.sent = ctlField pkt 4 4 + 1 ∧ m'.bank = ctlField pkt 1 1 ∧ t.rdN (tKey 2) = 4 ∧ t.tango.resumeSent = false ∧
         t.rdN (tKey 0x17) = min (s.rdN (tKey 0x17) + 1) (2 ^ 32 - 1) ∧ t.cores = s.cores ∧ t.mem = s.mem) ∧
     (pkt.step ≠ m.tag → ∃ t, exec (.tangoResumeReply pkt) s = .next t ∧ t.tango.mirror = none ∧ t.tango.resumeSent = false ∧
       (∀ f, s.tango.lastFence = some f → t.rdN (tKey 2) = 5 ∧ t.tango.waiting ≠ none) ∧ t.cores = s.cores ∧ t.mem = s.mem)))

/-- BEGIN, TANGO_DATA and COMPLETE at the partner (R307, R308, R313): BEGIN makes the named bank FILLING under its tag and a bank that
was FILLING EMPTY; data writes the bank's bytes and no other byte of memory; COMPLETE of the bank's tag makes it COMPLETE. Packets of
another sender change neither memory nor banks; data of one sent under an older epoch than the table's is counted as stale. -/
def Obligations.BanksAreFilled : Prop :=
  (∀ (pkt : Packet) (s : State) (e : Epoch), s.epochOf pkt.src = some e → epochNewer e pkt.srcEpoch = true →
    ∃ t, exec (.tangoData pkt) s = .next t ∧ t.tango = s.tango ∧ t.rd (fabKey 0x0C) = s.rd (fabKey 0x0C) + 1#64 ∧ sameWork s t) ∧
  (∀ (pkt : Packet) (s : State), s.epochOf pkt.src = none ∨ s.epochOf pkt.src = some pkt.srcEpoch →
   (s.fromPair pkt = false ∨ s.tango.frozen = true →
      exec (.tangoBegin pkt) s = .next s ∧ exec (.tangoComplete pkt) s = .next s ∧
      ∃ t, exec (.tangoData pkt) s = .next t ∧ t.tango = s.tango ∧ t.rd (tKey 0x15) = s.rd (tKey 0x15) + 1#64 ∧ sameWork s t) ∧
    (s.fromPair pkt = true → s.tango.frozen = false → s.superseded = false →
      (∀ b < 2, ctlField pkt 1 1 = b → b < s.rdN (tKey 5) → ∃ t, exec (.tangoBegin pkt) s = .next t ∧
        t.tango.bank b = ⟨.filling, pkt.step, ctlField pkt 8 8, 0, pkt.src, pkt.srcEpoch⟩ ∧ t.tango.rxBank = some b ∧
        (t.tango.bank (1 - b) = if (s.tango.bank (1 - b)).st = .filling then .empty else s.tango.bank (1 - b)) ∧
        t.obj = s.obj ∧ sameWork s t) ∧
      (∀ b < 2, ctlField pkt 1 1 = b → (s.tango.bank b).st = .filling → (s.tango.bank b).tag = pkt.step →
        ∃ t, exec (.tangoComplete pkt) s = .next t ∧ t.tango.bank b = { s.tango.bank b with st := .complete } ∧
          t.tango.bank (1 - b) = s.tango.bank (1 - b) ∧ t.tango.rxBank = none ∧ t.obj = s.obj ∧ sameWork s t) ∧
      (∀ b < 2, s.tango.rxBank = some b → (s.tango.bank b).st = .filling → pkt.target + pkt.payload.length ≤ s.bankBytes →
        s.bankHalted b pkt.target pkt.payload.length = false → (∀ p < 16, s.pN p 0x93 ≤ 27) →
        ∃ t, exec (.tangoData pkt) s = .next t ∧ t.cores = s.cores ∧ t.versions = s.versions ∧
          (∀ (i : Nat) (x : Byte) (a : Nat), pkt.payload[i]? = some x → s.reserveAddr 0 16 (s.bankOff b (pkt.target + i)) = some a →
            t.mem.read a = x) ∧
          (∀ a, (∀ i < pkt.payload.length, s.reserveAddr 0 16 (s.bankOff b (pkt.target + i)) ≠ some a) → t.mem.read a = s.mem.read a))))

/-- TANGO_RELEASE_TAG_WRITE and ROLLBACK (R310, R313): the tag written, no newer than the newest whole image and not older than the one
named before, is held by one bind on each listed region's slot of it; ROLLBACK, with no launch running and no fence armed, returns
every listed region that holds the released tag to it.
RESTORE, RESTORE_ABORT and RESTORE_DONE (R319, R325): a restore starts only from a frozen COMPLETE bank, with its state RUNNING and its
bytes at 0, and ends at once, FAILED with the code of a data error, where the bank cannot be read; it ends DONE once every piece has been
sent and acknowledged, and an abort or an error ends it FAILED with the DMA code. -/
def Obligations.TagsAndRestores : Prop :=
  ((∀ (via : Via) (v : Word) (s : State), s.reaches via 0x2700 0x0C = true →
     (let tag : Tag := BitVec.ofNat 16 (field v 15 0)
      (bit v 16 = true → bit (s.rd (tKey 0x0B)) 16 = true → epochNewer tag (BitVec.ofNat 16 (field (s.rd (tKey 0x0B)) 15 0)) = false →
        s.releaseTag = none → s.tango.relBinds = [] → s.tango.inForce.Nodup → (∀ x ∈ s.tango.inForce, x.2 < 256) →
        ∃ t, exec (.tangoReleaseTagWrite via v) s = .next t ∧ t.rd (tKey 0x0C) = v &&& 0x1FFFF#64 ∧
          (∀ k, k ≠ tKey 0x0C → t.rd k = s.rd k) ∧ t.cores = s.cores ∧ t.mem = s.mem ∧
          ∀ x ∈ s.tango.inForce, ∀ i, (s.region x.1 x.2).stepSlot tag = some i → ((s.region x.1 x.2).slot i).bind < 255 →
            ((t.region x.1 x.2).slot i).bind = ((s.region x.1 x.2).slot i).bind + 1 ∧ (x.1, x.2, i) ∈ t.tango.relBinds) ∧
      (bit v 16 = false → s.tango.relBinds = [] → ∃ t, exec (.tangoReleaseTagWrite via v) s = .next t ∧
        t.rd (tKey 0x0C) = v &&& 0x1FFFF#64 ∧ (∀ k, k ≠ tKey 0x0C → t.rd k = s.rd k) ∧ sameWork s t) ∧
      (bit v 16 = true → bit (s.rd (tKey 0x0B)) 16 = false → ∃ t, exec (.tangoReleaseTagWrite via v) s = .next t ∧ t.obj = s.obj ∧
        t.tango = s.tango ∧ sameWork s t))) ∧
   (∀ (via : Via) (s : State) (tag : Tag), s.reaches via 0x2700 4 = true → s.releaseTag = some tag → s.launches = [] →
     (∀ p, (s.fence p).state ≠ .armed) → s.tango.mirror = none → s.tango.inForce.Nodup → (∀ x ∈ s.tango.inForce, x.2 < 256) →
     (∀ p, (s.loader p).st ≠ .waitSlot) →
     (∀ p, s.microBatches p = []) →
     ∃ t, exec (.tangoRollback via) s = .next t ∧ t.tango.waiting = none ∧ t.cores = s.cores ∧ t.mem = s.mem ∧
       ∀ x ∈ s.tango.inForce, ∀ i, (s.region x.1 x.2).stepSlot tag = some i → ((t.region x.1 x.2).slot i).state = .committed ∧
         ((t.region x.1 x.2).slot i).tag = ((s.region x.1 x.2).slot i).tag)) ∧
  ((∀ (via : Via) (s : State), s.reaches via 0x2700 4 = true →
     (s.tango.frozen = true → (s.tango.bank (s.rdN (tKey 0x1A))).st = .complete → s.tango.restore = none →
       (∀ o : ShellOutcome, o.bad = true → ∃ t, exec (.tangoRestore via o) s = .next t ∧ t.tango = s.tango ∧ t.rdN (tKey 0x1C) = 3 ∧
         t.rdN (tKey 0x1D) = 4 * 2 ^ 24 ∧ sameWork s t) ∧
       ∀ o : ShellOutcome, o.bad = false → ∃ t, exec (.tangoRestore via o) s = .next t ∧ { t.tango with restore := none } = s.tango ∧
         t.tango.restore = some ⟨BitVec.ofNat 24 (field (s.rd (tKey 0x18)) 23 0), s.restorePieces (s.rdN (tKey 0x1A)), 0, [], false⟩ ∧
         t.rdN (tKey 0x1C) = 1 ∧ t.rdN (tKey 0x1D) = 0 ∧ t.rdN (tKey 0x1E) = 0 ∧ sameWork s t) ∧
     (∀ o : ShellOutcome, s.tango.frozen = false ∨ s.tango.restore ≠ none → ∃ t, exec (.tangoRestore via o) s = .next t ∧ t.tango = s.tango ∧ t.obj = s.obj ∧
       sameWork s t) ∧
     (s.tango.restore ≠ none → ∃ t, exec (.tangoRestoreAbort via) s = .next t ∧ t.tango = { s.tango with restore := none } ∧
       t.rdN (tKey 0x1C) = 3 ∧ t.rdN (tKey 0x1D) = 8 * 2 ^ 24 ∧ sameWork s t)) ∧
   (∀ (s : State) (r : TRestore), s.tango.restore = some r →
     (r.todo = [] → r.outstanding = [] → r.refused = false → ∃ t, exec (.tangoRestoreDone 0) s = .next t ∧
       t.tango = { s.tango with restore := none } ∧ t.rdN (tKey 0x1C) = 2 ∧ t.rdN (tKey 0x1D) = 0 ∧ sameWork s t) ∧
     (r.todo ≠ [] ∨ r.outstanding ≠ [] → exec (.tangoRestoreDone 0) s = .next s) ∧
     (∀ code : Fin 10, code ≠ 0 → ∃ t, exec (.tangoRestoreDone code) s = .next t ∧ t.tango = { s.tango with restore := none } ∧
       t.rdN (tKey 0x1C) = 3 ∧ t.rdN (tKey 0x1D) = code.val * 2 ^ 24 ∧ sameWork s t)))

/-! ## The failure detector, health, the hang ladder, resets and the self-test (R316 to R351, R453) -/

/-- PARTNER_SILENT, PROBE_SEND, PROBE, PROBE_TIMEOUT, TRUST and DEAD (R316, R317): an event on an address that is not under TRUST is
entered with its cause, and makes the address a suspect once SUSPECT_EVENTS of them lie within the window; probes go to the tree
neighbours that are not dead once PROBE_INTERVAL beats have passed and are owed an answer until it comes or 64 beats have passed; TRUST clears the address's entry and its
events are ignored for SUSPECT_WINDOW beats; DEAD marks the entry and stops probes to the address; none of these changes routing,
epochs or a collective.
HEALTH_SUBWINDOW_END, HEALTH_PART_STATE_WRITE and SPOT_CHECK_COMPARE (R321 to R324): at a sub-window's end, and not before, every part has the score
of its counters, and HEALTH_LOWEST and HEALTH_LOWEST_PART name the lowest; the selected part enters or leaves probation; a compare of
a sampled tile is counted, and a difference as a mismatch. -/
def Obligations.DetectorAndHealth : Prop :=
  ((∀ (s : State) (a : FabAddr) (cause : Nat), (∀ t ∈ s.health.trusted, t.1 = a → t.2 ≤ s.beatIx) →
     ∃ i x, mfind (s.suspectEvent a cause).health.suspects i = some x ∧ x.addr = a ∧ x.cause = cause ∧ s.beatIx ∈ x.events ∧
       (s.rdN (hKey 0x19) ≤ x.events.length → x.suspect = true)) ∧
   (∀ (s : State) (a : FabAddr) (cause : Nat), (s.suspectEvent a cause).fab = s.fab ∧ (s.suspectEvent a cause).coll = s.coll ∧
     (s.suspectEvent a cause).obj = s.obj ∧ sameWork s (s.suspectEvent a cause)) ∧
   (∀ (s : State) (a : FabAddr), s.tangoPartner = some a →
     (s.health.lastTango + s.rdN (hKey 0x17) ≤ s.beatIx → ∃ t, exec .partnerSilent s = .next t ∧ t.health.lastTango = s.beatIx ∧
       ((∀ q ∈ s.health.trusted, q.1 = a → q.2 ≤ s.beatIx) →
         ∃ i x, mfind t.health.suspects i = some x ∧ x.addr = a ∧ x.cause = 1 ∧ s.beatIx ∈ x.events) ∧
       t.fab = s.fab ∧ t.obj = s.obj ∧ sameWork s t) ∧
     (s.beatIx < s.health.lastTango + s.rdN (hKey 0x17) → exec .partnerSilent s = .next s)) ∧
   (∀ (j : JobSlot) (s : State), s.jsState j = 2 → s.superseded = false →
     (s.probeDue j = false → exec (.probeSend j) s = .next s) ∧
     (s.probeDue j = true → (∀ e ∈ s.probeEntries j, ∀ kv, s.health.entryOf (BitVec.ofNat 24 (entryAddrOf e)) = some kv → kv.2.dead = false) →
     ∃ t, exec (.probeSend j) s = .next t ∧ sameWork s t ∧ t.health.probes =
       s.health.probes ++ (s.probeEntries j).map fun e => (BitVec.ofNat 24 (entryAddrOf e), s.beatIx))) ∧
   (∀ (pkt : Packet) (s : State),
     (pkt.target = 0 → s.jobReady = true → exec (.probe pkt) s = .next ((s.inject 0
       { probePacket pkt.src pkt.jobId.toNat pkt.ctxId.toNat true with seq := pkt.seq }).withQueue s)) ∧
     (pkt.target ≠ 0 → ∃ t, exec (.probe pkt) s = .next t ∧ t.health.probes = dropProbe pkt.src s.health.probes ∧ t.obj = s.obj ∧
       sameWork s t)) ∧
   (∀ (a : FabAddr) (s : State) (b : Nat), (s.health.probes.find? fun x => x.1 == a) = some (a, b) →
     (b + 64 ≤ s.beatIx → ∃ t, exec (.probeTimeout a) s = .next t ∧ t.health.probes = dropProbe a s.health.probes ∧
       ((∀ q ∈ s.health.trusted, q.1 = a → q.2 ≤ s.beatIx) →
         ∃ i x, mfind t.health.suspects i = some x ∧ x.addr = a ∧ x.cause = 3 ∧ s.beatIx ∈ x.events) ∧
       t.fab = s.fab ∧ t.obj = s.obj ∧ sameWork s t) ∧
     (s.beatIx < b + 64 → exec (.probeTimeout a) s = .next s)) ∧
   (∀ (via : Via) (a : FabAddr) (s : State), s.reaches via 0x2400 0x16 = true →
     (∃ t, exec (.trust via a) s = .next t ∧ t.health.entryOf a = none ∧ (a, s.beatIx + s.rdN (hKey 0x1A)) ∈ t.health.trusted ∧
       (∀ (u : State) (cause : Nat), u.health = t.health → u.beatIx < s.beatIx + s.rdN (hKey 0x1A) → u.suspectEvent a cause = u) ∧
       t.obj = s.obj ∧ t.fab = s.fab ∧ t.coll = s.coll ∧ sameWork s t) ∧
     (∃ t, exec (.dead via a) s = .next t ∧ (∃ kv ∈ t.health.suspects, kv.2.addr = a ∧ kv.2.dead = true) ∧
       (∀ q ∈ t.health.probes, q.1 ≠ a) ∧ (∀ (u w : State) (j : JobSlot), u.health = t.health → exec (.probeSend j) u = .next w →
         ∀ q ∈ w.health.probes, q.1 ≠ a) ∧
       t.obj = s.obj ∧ t.fab = s.fab ∧ t.coll = s.coll ∧ sameWork s t))) ∧
  ((∀ s : State, s.mgmt.ns < s.health.subStart + s.subWindow → exec .healthSubwindowEnd s = .next s) ∧
   (∀ s : State, s.health.subStart + s.subWindow ≤ s.mgmt.ns → ∃ t, exec .healthSubwindowEnd s = .next t ∧ sameWork s t ∧
     t.health.subStart = s.mgmt.ns ∧
     (∀ code ∈ partCodes, t.health.score code = s.health.scoreNow code ∧ t.rdN (hKey 1) ≤ s.health.scoreNow code) ∧
     (∃ code ∈ partCodes, t.rdN (hKey 1) = s.health.scoreNow code ∧ t.rdN (hKey 2) = code)) ∧
   (∀ (via : Via) (v : Word) (s : State), s.reaches via 0x2400 5 = true →
     (v.toNat ≤ 1 → ∃ t, exec (.healthPartStateWrite via v) s = .next t ∧
       (mget false t.health.probation (s.rdN (hKey 3)) = true ↔ v = 1#64) ∧
       (∀ c, c ≠ s.rdN (hKey 3) → mget false t.health.probation c = mget false s.health.probation c) ∧ t.obj = s.obj ∧ sameWork s t) ∧
     (1 < v.toNat → ∃ t, exec (.healthPartStateWrite via v) s = .next t ∧ t.health = s.health ∧ t.obj = s.obj ∧ sameWork s t)) ∧
   (∀ (c : Core) (a b : Word) (s : State),
     ((s.core c).run.checked = true → ∃ t, exec (.spotCheckCompare c a b) s = .next t ∧ t.rd (hKey 0x10) = s.rd (hKey 0x10) + 1#64 ∧
       t.rd (hKey 0x11) = (if a = b then s.rd (hKey 0x11) else s.rd (hKey 0x11) + 1#64) ∧ (t.core c).run.checked = false ∧
       (∀ d, d ≠ c.val → t.core d = s.core d) ∧ t.mem = s.mem) ∧
     ((s.core c).run.checked = false → exec (.spotCheckCompare c a b) s = .next s)))

/-- TILE_WATCHDOG_EXPIRY, GATE_WATCHDOG_EXPIRY, SCAN_WATCHDOG_EXPIRY, ARBITER_WATCHDOG_EXPIRY and MC_WATCHDOG_EXPIRY (R327, R330 to R336):
where the watchdogs run and the time has passed, the rung's entry goes to the head of the hang log, naming the cause, and rung 1 ends
the launch with status hang, rung 3 halts the partition group and rung 4 resets the chip; a rung that is not AUTO is reported and
nothing else happens; earlier nothing changes. The controller's first expiry restarts it and loses its queues; a second within 60 s
asks for a power cycle.
RUNG_TIMEOUT, ENGINE_RESET_DONE and MC_RESTART_DONE (R327, R328, R335): a chip reset of rung 4 that is not job-ready within a second
asks for a power cycle, and one that is ends the climb; a partition reset that outlives its bound, or a phase of it its own, leaves its
members FAILED and takes rung 4; a rung-1 launch whose cores are still inside tiles 64 beats later takes rung 2, and rung 2 takes rung 3 98 beats later; a rung
2 that is done leaves the ladder; the controller is back. -/
def Obligations.WatchdogsAndRungs : Prop :=
  ((∀ (c : Core) (s : State) (k : Nat) (l : Launch), s.launchOf c = some (k, l) → l.ending = none →
     (let p := c.val / 16
      let climbs := fun (w : Instr) (cause tile : Nat) =>
        (s.rungAuto 1 = true → ∃ t, exec w s = .next t ∧
          t.hang.log.head? = some ⟨1, cause, false, false, p, c.val % 16, l.ctx, tile, s.beat⟩ ∧
          mget none t.hang.rungs k = some ⟨1, k, l.ctx, c.val, tile, s.beatIx, []⟩ ∧
          t.pN p 0xE6 = min (s.pN p 0xE6 + 1) (2 ^ 32 - 1) ∧
          (t.launch k = none ∨ ∃ l', t.launch k = some l' ∧ l'.ending = some ⟨stHang, s.groupLocal c, tile⟩)) ∧
        (s.rungAuto 1 = false → ∃ t, exec w s = .next t ∧ sameWork s t ∧
          t.hang.log.head? = some ⟨1, cause, false, true, p, c.val % 16, l.ctx, tile, s.beat⟩)
      (∀ tile issued, (s.core c).run.tile = some (tile, issued) →
        (s.watchdogsRun p = true → s.bistRuns p = false → s.pN p 0xE4 ≤ (s.core c).run.tileBeats → climbs (.tileWatchdogExpiry c) 1 tile) ∧
        ((s.core c).run.tileBeats < s.pN p 0xE4 → exec (.tileWatchdogExpiry c) s = .next s)) ∧
      (s.watchdogsRun p = true → s.bistRuns p = false → s.pN p 0xE5 ≠ 0 → s.pN p 0xE5 ≤ (s.core c).run.gateBeats →
        (s.ctx l.ctx).state = .resident → (∃ g ∈ s.openGates c, gateIsBeat g = false) →
        climbs (.gateWatchdogExpiry c) 2 (tileIndex (s.items c) (s.core c).run.item)) ∧
      (s.pN p 0xE5 = 0 ∨ (s.core c).run.gateBeats < s.pN p 0xE5 → exec (.gateWatchdogExpiry c) s = .next s))) ∧
   (∀ (p : Part) (s : State), s.watchdogsRun p = true → s.bistRuns p = false →
     (∀ w : ScanStuck, (match w with
         | .slot n => s.startable (s.lead p) n = true ∧ 9766 ≤ (s.slot (s.lead p) n).readyBeats
         | .swap i => ((s.ctx (16 * s.lead p + i)).state = .evicting ∨ (s.ctx (16 * s.lead p + i)).state = .loading) ∧
             (s.ctx (16 * s.lead p + i)).since + 9766 ≤ s.beatIx) →
       (s.rungAuto 3 = true → mayReset s p → ∃ t, exec (.scanWatchdogExpiry p w) s = .next t ∧ groupHalted s t p 4 true) ∧
       (s.rungAuto 3 = false → ∃ t, exec (.scanWatchdogExpiry p w) s = .next t ∧ sameWork s t ∧
         t.hang.log.head? = some ⟨3, 4, false, true, p, 0xFF, 0xFF, 0, s.beat⟩)) ∧
     (∀ lc : Option LocalCore,
       (let core := match lc with
         | some l => l.val
         | none => 0xFF
        (s.rungAuto 3 = true → mayReset s p → ∃ t, exec (.arbiterWatchdogExpiry (.part p lc)) s = .next t ∧ groupHalted s t p 5 true) ∧
        (s.rungAuto 3 = false → ∃ t, exec (.arbiterWatchdogExpiry (.part p lc)) s = .next t ∧ sameWork s t ∧
          t.hang.log.head? = some ⟨3, 5, false, true, p, core, 0xFF, 0, s.beat⟩)))) ∧
   (∀ s : State, s.jobReady = true → s.superseded = false → s.rdN (objKey 0x2000 7) = 0 →
     (s.rungAuto 4 = true → s.pow.mode = .on → ∃ t, exec (.arbiterWatchdogExpiry .shared) s = .next t ∧ chipHeld t 5 ∧
       t.hang.chip = some s.mgmt.ns ∧ t.hang.log.head? = some ⟨4, 5, false, false, 0xFF, 0xFF, 0xFF, 0, s.beat⟩) ∧
     (s.rungAuto 4 = false → ∃ t, exec (.arbiterWatchdogExpiry .shared) s = .next t ∧ sameWork s t ∧
       t.hang.log.head? = some ⟨4, 5, false, true, 0xFF, 0xFF, 0xFF, 0, s.beat⟩)) ∧
   (∀ s : State, s.superseded = false → s.pow.mode ≠ .off →
     (let due := s.mgmt.wdAt + s.rdN (rKey 5) * 10 ^ 6 ≤ s.mgmt.ns
      (¬ due → exec .mcWatchdogExpiry s = .next s) ∧
      (due → (∀ t0, s.hang.mcFirst = some t0 → t0 + 60 * 10 ^ 9 < s.mgmt.ns) → ∃ t, exec .mcWatchdogExpiry s = .next t ∧
       t.mgmt.restarting = true ∧ t.mgmt.queue = [] ∧ t.mgmt.saves = [] ∧ t.hang.mcFirst = some s.mgmt.ns ∧ sameWork s t) ∧
      (∀ t0, due → s.hang.mcFirst = some t0 → s.mgmt.ns ≤ t0 + 60 * 10 ^ 9 → s.rungAuto 5 = true → ∃ t, exec .mcWatchdogExpiry s = .next t ∧
       t.pow.cycleReq = true ∧ t.hang.log.head? = some ⟨5, 6, false, false, 0xFF, 0xFF, 0xFF, 0, s.beat⟩ ∧ sameWork s t)))) ∧
  ((∀ (p : Part) (s : State),
     (∀ t0, s.hang.chip = some t0 →
       (s.jobReady = true → exec (.rungTimeout p) s = .next ((s.modHang fun h => { h with chip := none }).withQueue s)) ∧
       (s.jobReady = false → s.mgmt.ns < t0 + 10 ^ 9 → exec (.rungTimeout p) s = .next s) ∧
       (s.jobReady = false → t0 + 10 ^ 9 ≤ s.mgmt.ns → s.rungAuto 5 = true → ∃ t, exec (.rungTimeout p) s = .next t ∧
         t.pow.cycleReq = true ∧ t.hang.chip = none ∧ t.hang.log.head? = some ⟨5, 3, true, false, 0xFF, 0xFF, 0xFF, 0, s.beat⟩ ∧
         sameWork s t)) ∧
     (s.hang.chip = none → ∀ r, mget none s.hang.resets (s.lead p) = some r →
       (let late := r.since + 15625 ≤ s.beatIx ∨ r.phaseAt + phaseBound (s.pN (s.lead p) 0xE1) ≤ s.beatIx
        (¬ late → exec (.rungTimeout p) s = .next s) ∧
        (late → s.rungAuto 4 = false → ∃ t, exec (.rungTimeout p) s = .next t ∧
         (∀ q ∈ s.members p, t.pN q 0xE1 = 7) ∧ mget none t.hang.resets (s.lead p) = none ∧ sameWork s t) ∧
        (late → s.rungAuto 4 = true → s.pow.mode = .on → ∃ t, exec (.rungTimeout p) s = .next t ∧ chipHeld t 3))) ∧
     (s.hang.chip = none → mget none s.hang.resets (s.lead p) = none → s.watchdogsRun p = true →
       ∀ k r, (s.hang.rungs.filter fun kv => kv.1 / 256 == s.lead p) = [(k, some r)] →
         (let stuck := (s.launchCores k).filter fun c => (s.core c).run.tile.isSome
          (r.rung = 1 → r.since + 64 ≤ s.beatIx → s.rungStands r = true → stuck ≠ [] →
            exec (.rungTimeout p) s = .next ((s.rung2 r stuck).withQueue s)) ∧
          (r.rung = 1 → r.since + 64 ≤ s.beatIx → stuck = [] → ∃ t, exec (.rungTimeout p) s = .next t ∧
            mget none t.hang.rungs k = none ∧ t.obj = s.obj ∧ sameWork s t) ∧
          (r.rung = 2 → r.since + 98 ≤ s.beatIx → exec (.rungTimeout p) s =
            .next (((s.modHang fun h => { h with rungs := mset none h.rungs k none }).rung3
              ⟨3, 3, true, false, (r.cores.headD r.core) / 16, (r.cores.headD r.core) % 16, r.ctx, r.tile, s.beat⟩).withQueue s))))) ∧
   (∀ (p : Part) (s : State), ∃ t, exec (.engineResetDone p) s = .next t ∧
     (∀ kv ∈ t.hang.rungs, kv.1 / 256 = s.lead p → ∃ r, kv.2 = some r ∧ r.rung ≠ 2) ∧ t.obj = s.obj ∧ sameWork s t) ∧
   (∀ s : State, (s.mgmt.restarting = true → ∃ t, exec .mcRestartDone s = .next t ∧ t.mgmt.restarting = false ∧ t.obj = s.obj ∧
       sameWork s t) ∧
     (s.mgmt.restarting = false → exec .mcRestartDone s = .next s)))

/-- PART_RESET, VF_FLR and PARTITION_RESET_READY (R338, R339, R341, R342, R356): every member of the group is reset: its state shows a
reset in HALT with its cause and is counted, and its cores, contexts, slots, launches, programs and regions are at their reset values,
while HBM and other groups stay; READY, whose phases include CLEAR, opens the tables again with the counters at their reset values and
the scratchpads and walnut buffers zero, and a failed CHECK leaves FAILED. -/
def Obligations.PartitionsReset : Prop :=
  (∀ (via : Via) (p : Part) (v : Word) (s : State), s.reaches via (partIx p) 0xE0 = true → s.jobReady = true → bit v 0 = true →
    bit v 1 = false → mayReset s p →
    ∃ t, exec (.partReset via p v) s = .next t ∧ groupHalted s t p 7 false ∧
      (∀ q ∈ s.members p, (∀ i < 16, (t.ctx (16 * q + i)).state = .free) ∧
        (∀ n < 256, (t.slot q n).state = .empty ∧ t.region q n = VEntry.reset) ∧ (∀ n < 1024, (t.prog q n).state = .free)) ∧
      ((∀ j, (s.cs j).ctxs = [] ∧ (s.cs j).reels = []) → (∀ q, s.pN q 0xEB ≠ 2) → t.mem = s.mem ∧ ∀ c, c / 16 ∉ s.members p → t.core c = s.core c)) ∧
  (∀ (p : Part) (s : State), s.pcieUp = true → s.vfExists (p.val + 1) = true →
    (s.jobReady = true → mayReset s p → ∃ t, exec (.vfFlr p) s = .next t ∧ groupHalted s t p 8 false ∧
      t = (State.startReset (s.setFunc (p.val + 1) .reset) p.val false (s.partEntry p 8 false)).withQueue s) ∧
    (s.jobReady = false → ∃ t, exec (.vfFlr p) s = .next t ∧ t.func (p.val + 1) = .reset ∧
      (∀ f, f ≠ p.val + 1 → t.func f = s.func f) ∧ t.obj = s.obj ∧ sameWork s t)) ∧
  (∀ (p : Part) (obs : ResetObs) (s : State) (r : ResetRun), mget none s.hang.resets (s.lead p) = some r → s.pN p 0xE1 ≠ 7 →
    s.lead p < 16 → s.lead (s.lead p) = s.lead p →
    (obs.checkOk = true → ∃ t, exec (.partitionResetReady p obs) s = .next t ∧ mget none t.hang.resets (s.lead p) = none ∧
      (∀ q ∈ s.members p, t.pN q 0xE1 = 0 ∧ bit (t.rd (objKey 0x1000 0x31)) q = true ∧ ∀ k, partCounter k = true → k < 256 →
        t.pRd q k = objDefault (pKey q k)) ∧
      (1 ≤ s.pN (s.lead p) 0xE1 → s.pN (s.lead p) 0xE1 < 5 → r.sample = false →
        (∀ q ∈ s.members p, (∀ a, spadBase (16 * q) ≤ a → a < spadBase (16 * q + 16) → t.mem.read a = 0#8) ∧
          (∀ a, walnutBase (16 * q) ≤ a → a < walnutBase (16 * q + 16) → t.mem.read a = 0#8)) ∧
        ∀ a < hbmEnd, t.mem.read a = s.mem.read a)) ∧
    (obs.checkOk = false → ∃ t, exec (.partitionResetReady p obs) s = .next t ∧ (∀ q ∈ s.members p, t.pN q 0xE1 = 7)))

/-- CHIP_RESET, PERST_ASSERT, POWER_CYCLE and POWER_CYCLE_CANCEL (R343, R344, R349, R453): a chip reset, keyed or by PERST# or the PF's
reset, leaves every table, core and register of the device at its reset value, memory with nothing listed, READINESS at RESET_HELD,
RESET_CAUSE its cause and the reset counted; PWR_CYCLE_REQ is asserted by the keyed request and withdrawn; a write without the key
does nothing. -/
def Obligations.ChipResets : Prop :=
  (∀ s : State, s.pow.mode = .on → ∃ t, exec .perstAssert s = .next t ∧ t.readiness = 0 ∧ t.rdN (rKey 2) = 8 ∧
    t.rdN (objKey 0x1000 0x31) = 0 ∧ t.mem = State.reset.mem ∧ t.cores = [] ∧ t.progs = [] ∧ t.ctxs = [] ∧ t.slots = [] ∧
    t.launches = [] ∧ t.versions = [] ∧ t.fences = [] ∧ t.dma = [] ∧ t.coll = [] ∧ t.fab = .reset ∧ t.tango = .reset ∧
    t.loaders = [] ∧ t.beat = s.beat ∧ t.hang.log.head? = some ⟨4, 8, false, false, 0xFF, 0xFF, 0xFF, 0, s.beat⟩ ∧
    ((∀ kv ∈ s.mgmt.savedValues, kv.1 ≠ rKey 3) → t.rdN (rKey 3) = min (s.rdN (rKey 3) + 1) (2 ^ 32 - 1))) ∧
  (∀ s : State, s.pow.mode = .off → exec .perstAssert s = .next s) ∧
  (∀ (v : Word) (s : State), s.pcieUp = true → exec (.chipReset none v) s = exec .perstAssert s) ∧
  (∀ (via : Via) (v : Word) (s : State), s.reaches via 0x2A00 1 = true →
    (field v 31 16 = 0x5A3C →
      (bit v 0 = true → s.pow.mode = .on → ∃ t, exec (.chipReset (some via) v) s = .next t ∧ t.readiness = 0 ∧ t.rdN (rKey 2) = 7 ∧
        t.mem = State.reset.mem ∧ t.cores = [] ∧ t.ctxs = [] ∧ t.launches = [] ∧ t.versions = [] ∧ t.dma = []) ∧
      (bit v 0 = false → bit v 1 = true → bit v 2 = false → ∃ t, exec (.powerCycle via v) s = .next t ∧ t.pow = { s.pow with cycleReq := true } ∧
        t.hang.log.head? = some ⟨5, 7, false, false, 0xFF, 0xFF, 0xFF, 0, s.beat⟩ ∧ (∀ k, k ≠ rKey 9 → t.rd k = s.rd k) ∧ sameWork s t)) ∧
    (bit v 0 = false → bit v 1 = false → bit v 2 = true → ∃ t, exec (.powerCycleCancel via v) s = .next t ∧
      t.pow = { s.pow with cycleReq := false } ∧ t.obj = s.obj ∧ t.hang = s.hang ∧ sameWork s t) ∧
    (field v 31 16 ≠ 0x5A3C → bit v 0 = true ∨ bit v 1 = true → ∃ t, exec (.chipReset (some via) v) s = .next t ∧ t.obj = s.obj ∧
      t.hang = s.hang ∧ t.pow = s.pow ∧ sameWork s t))

/-- BIST_REQUEST, BIST_DEFERRED_START, BIST_CANCEL and BIST_DONE (R347, R348): a request runs on a drained partition and is deferred on
any other until it is drained; a cancelled test reads CANCELLED; a test that is done leaves the memories it tested zero and its result,
and one that failed reads FAILED. -/
def Obligations.SelfTestsRun : Prop :=
  (∀ (via : Via) (p : Part) (v : Word) (s : State), s.reaches via (partIx p) 0xEA = true →
    (bit v 0 = true → bit v 1 = false → s.jobReady = true → s.pN p 0xE1 = 0 → s.pN p 0x2E ≠ 1 → s.pN p 0xEB ≠ 1 → s.pN p 0xEB ≠ 2 →
      ∃ t, exec (.bistRequest via p v) s = .next t ∧ t.pN p 0xEB = (if s.drained p then 2 else 1) ∧ t.pN p 0xEC = 0 ∧
        mget none t.hang.bist p = some ⟨bit v 2, false⟩ ∧ sameWork s t) ∧
    (bit v 0 = true → bit v 1 = false → s.jobReady = true → s.pN p 0xE1 = 0 → s.pN p 0x2E ≠ 1 → s.pN p 0xEB = 1 ∨ s.pN p 0xEB = 2 →
      exec (.bistRequest via p v) s = .next s) ∧
    (∀ b, bit v 0 = false → bit v 1 = true → mget none s.hang.bist p = some b → ∃ t, exec (.bistCancel via p v) s = .next t ∧
      t.pN p 0xEB = 5 ∧ mget none t.hang.bist p = none ∧ t.cores = s.cores ∧ (s.pN p 0xEB ≠ 2 → t.mem = s.mem))) ∧
  (∀ (p : Part) (s : State), s.pN p 0xEB = 1 → (s.drained p = true → ∃ t, exec (.bistDeferredStart p) s = .next t ∧
      t.pN p 0xEB = 2 ∧ (∀ k, k ≠ pKey p 0xEB → t.rd k = s.rd k) ∧ t.hang = s.hang ∧ sameWork s t) ∧
    (s.drained p = false → exec (.bistDeferredStart p) s = .next s)) ∧
  (∀ (p : Part) (obs : BistObs) (s : State) (b : BistRun), mget none s.hang.bist p = some b → s.pN p 0xEB = 2 →
    ∃ t, exec (.bistDone p obs) s = .next t ∧ mget none t.hang.bist p = none ∧ t.cores = s.cores ∧
      (∀ a, spadBase (16 * p.val) ≤ a → a < spadBase (16 * p.val + 16) → t.mem.read a = 0#8) ∧
      (∀ a, walnutBase (16 * p.val) ≤ a → a < walnutBase (16 * p.val + 16) → t.mem.read a = 0#8) ∧
      (∀ a, hbmBase p ≤ a → a < hbmBase (p.val + 1) → t.mem.read a = if b.hbm ∧ a < s.reserveBase p then 0#8 else s.mem.read a) ∧
      (obs.memFail = false → obs.engFail = false → obs.failCores = 0 → (b.hbm = true → obs.hbmFail = false) →
        t.pN p 0xEB = 3 ∧ t.pN p 0xEC = 0) ∧
      (obs.memFail = true ∨ obs.engFail = true ∨ obs.failCores ≠ 0 ∨ (b.hbm = true ∧ obs.hbmFail = true) → t.pN p 0xEB = 4) ∧
      field (t.pRd p 0xEC) 31 16 = obs.failCores.toNat)

/-! ## PCI Express (R354 to R369, R431) -/

/-- BUS_MASTER_DISABLE, D3HOT_ENTRY, VF_ENABLE_CHANGE, MSIX_VECTOR_RELEASE and ATS_INVALIDATION (R354, R355, R357, R366, R367, R369): a
function of a live link loses bus mastering or enters D3hot; NumVFs changes while VF Enable is 0, and a function that ceases to
exist returns to its reset values; a pending vector that nothing holds sends its message and is no longer pending; the cached
translations of a function that meet an invalidated range go, and no other.
BAR4_ACCESS and DOMAIN_WINDOW_ACCESS (R360, R362, R363, R431): a granule-aligned write to memory that BAR4 reaches writes exactly its
bytes at the address that the offset names, and a read returns them; an access outside it is refused, recorded or answered as
unsupported, and one that meets a granule that Shell cannot correct as an error, with nothing written; before firmware runs, the physical function's BAR4 is the staging area; the domain window reads the selected object,
with zeros past its end, and a write to a calibration block lands in the staging copy but for its reserved bytes. -/
def Obligations.FunctionsAndWindows : Prop :=
  ((∀ (f : Func) (s : State), s.funcLive f.val = true →
     (∃ t, exec (.busMasterDisable f) s = .next t ∧ (t.func f.val).busMaster = false ∧ t.cores = s.cores ∧ t.mem = s.mem) ∧
     (∃ t, exec (.d3hotEntry f) s = .next t ∧ t.func f.val = { s.func f.val with d3hot := true } ∧
       (∀ g, g ≠ f.val → t.func g = s.func g) ∧ t.obj = s.obj ∧ t.out = s.out ∧ sameWork s t) ∧
     (∀ v < vecCount f.val, (s.func f.val).msixEnable = true → ((s.func f.val).vec v).pending = true → (s.func f.val).held v = false →
       ∃ t, exec (.msixVectorRelease f v) s = .next t ∧ ((t.func f.val).vec v).pending = false ∧
         t.out = s.out ++ [.msix f.val v] ∧ t.obj = s.obj ∧ sameWork s t) ∧
     (∀ v, (s.func f.val).held v = true → exec (.msixVectorRelease f v) s = .next s) ∧
     (∀ page size, ∃ t, exec (.atsInvalidation f page size) s = .next t ∧ t.out = s.out ++ [.atsDone f.val page] ∧ t.obj = s.obj ∧
       sameWork s t ∧ ∀ e : AtsEntry, e ∈ t.host.atsCache ↔
         e ∈ s.host.atsCache ∧ ¬(e.func = f.val ∧ e.page < page + size ∧ page < e.page + e.size))) ∧
   (∀ (enable : Bool) (n : Nat) (s : State), s.pcieUp = true → n ≤ 16 →
     (s.host.vfEnable = false → ∃ t, exec (.vfEnableChange enable n) s = .next t ∧ t.host.vfEnable = enable ∧ t.host.numVfs = n ∧
       (∀ v, t.vfExists v = true ↔ enable = true ∧ 1 ≤ v ∧ v ≤ n) ∧ t.obj = s.obj ∧ sameWork s t) ∧
     (s.host.vfEnable = true → s.host.numVfs ≤ 16 → s.dma = [] → ∃ t, exec (.vfEnableChange false n) s = .next t ∧ (∀ v, t.vfExists v = false) ∧
       (∀ v, s.vfExists v = true → t.func v = FuncSt.reset) ∧ t.obj = s.obj ∧ sameWork s t) ∧
     (s.host.vfEnable = true → exec (.vfEnableChange true n) s = .next s))) ∧
  ((∀ (f : Func) (o : Nat) (bs : List Byte) (s : State), s.funcLive f.val = true → (s.func f.val).d3hot = false →
     (∀ a, s.stages f.val o bs.length = false → s.bar4Addr f.val o bs.length = some a → a % 16 = 0 → bs.length % 16 = 0 →
       ∃ t, exec (.bar4Access f o (some bs) 0 .clean) s = .next t ∧ t.readBytes a bs.length = bs ∧
         (∀ x, x < a ∨ a + bs.length ≤ x → t.mem.read x = s.mem.read x) ∧ t.obj = s.obj ∧ t.cores = s.cores) ∧
     (s.stages f.val o bs.length = false → s.bar4Addr f.val o bs.length = none → ∃ t,
       exec (.bar4Access f o (some bs) 0 .clean) s = .next t ∧ (t.func f.val).refValid = true ∧ t.obj = s.obj ∧ sameWork s t) ∧
     (∀ (a : Nat) (sh : ShellOutcome), s.stages f.val o bs.length = false → s.bar4Addr f.val o bs.length = some a → sh.bad = true →
       a % 16 ≠ 0 ∨ (a + bs.length) % 16 ≠ 0 → ∃ t, exec (.bar4Access f o (some bs) 0 sh) s = .next t ∧
         (t.func f.val).refValid = true ∧ sameWork s t) ∧
     (s.stages f.val o bs.length = true → ∃ t, exec (.bar4Access f o (some bs) 0 .clean) s = .next t ∧
       t.readBytes (spadBase 0 + o) bs.length = bs ∧
       (∀ x, x < spadBase 0 + o ∨ spadBase 0 + o + bs.length ≤ x → t.mem.read x = s.mem.read x) ∧ t.obj = s.obj ∧ t.cores = s.cores)) ∧
   (∀ (f : Func) (o n : Nat) (s : State), s.funcLive f.val = true → (s.func f.val).d3hot = false → s.stages f.val o n = false →
     (∀ a, s.bar4Addr f.val o n = some a → ∃ t, exec (.bar4Access f o none n .clean) s = .next t ∧
       t.out = s.out ++ [.completion f.val 0 (s.func f.val).relaxed (s.readBytes a n)] ∧ sameWork s t) ∧
     (∀ (a : Nat) (sh : ShellOutcome), s.bar4Addr f.val o n = some a → sh.bad = true → ∃ t, exec (.bar4Access f o none n sh) s = .next t ∧
       t.out.getLast? = some (.completion f.val 2 (s.func f.val).relaxed []) ∧ sameWork s t) ∧
     (∀ sh : ShellOutcome, s.bar4Addr f.val o n = none → exec (.bar4Access f o none n sh) s =
       .next ((s.emit (.completion f.val 1 (s.func f.val).relaxed [])).withQueue s))) ∧
   (∀ (o n : Nat) (s : State), s.viaLive .pf = true → o + n ≤ 65536 →
     (let index := s.host.domSelect.toNat / 256 % 65536
      let sub := s.host.domSelect.toNat % 256
      let base := s.host.domOffset.toNat + o
      (∀ total byte, s.domain index sub = some (total, byte) → s.objOpen index sub false = true →
        exec (.domainWindowAccess o none n) s = .next ((s.emit (.completion 0 0 (s.func 0).relaxed ((List.range n).map fun i =>
          if base + i < total then byte (base + i) else 0#8))).withQueue s)) ∧
      (s.domain index sub = none → exec (.domainWindowAccess o none n) s = .next ((s.emit (.completion 0 1 (s.func 0).relaxed [])).withQueue s)) ∧
      (∀ bs : List Byte, bs.length = n → domainWritable index sub = true → s.objOpen index sub true = true → base + n ≤ 1024 →
        s.mgmt.calState = .unlocked → ∃ t, exec (.domainWindowAccess o (some bs) 0) s = .next t ∧ t.mgmt.calAt = s.mgmt.ns ∧
          (∀ i x, bs[i]? = some x → mget 0#8 t.mgmt.staging ((index - 0x2F00) * 1024 + base + i) =
            if calReserved ((index - 0x2F00) * 1024 + base + i) then mget 0#8 s.mgmt.staging ((index - 0x2F00) * 1024 + base + i) else x) ∧
          (∀ k, (k < (index - 0x2F00) * 1024 + base ∨ (index - 0x2F00) * 1024 + base + n ≤ k) →
            mget 0#8 t.mgmt.staging k = mget 0#8 s.mgmt.staging k) ∧ t.obj = s.obj ∧ sameWork s t))))

/-! ## Barzar and Conga (R371 to R399, R461) -/

/-- READ, WRITE, READ_SEG, WRITE_SEG and CAN_FRAME_IGNORED (R374 to R379): a request that names the node, with none waiting, is counted and
answered at once: a READ with the object's value, a WRITE of a value it takes with OK and the object changed, a refused one with its
status and nothing changed; a segment is read or lands whole. A broadcast WRITE is applied by a node that has an ID, without a
response, and a refused one is recorded; any other broadcast is counted as ignored. A request to another node does nothing; a frame of
no meaning is counted as ignored.
HEARTBEAT_SEND, CONTROLLER_HEARTBEAT, CTRL_HB_TIMEOUT, BARZAR_EVENT, EVENT_FRAME_SEND, CAN_BUS_ERROR, BUS_OFF_RECOVERY and RWS_SAVE_DONE
(R371, R382, R387 to R391): a heartbeat that is due goes out and its counter rises; a controller's heartbeat ends its loss, and its
absence is noted once; an event is logged at the head of the log and queued, and the oldest queued event goes out in a frame; transmit
errors past 255 take the node off the bus, and recovery clears both counts; the oldest save reaches the flash or is counted lost. -/
def Obligations.RequestsAndEvents : Prop :=
  ((∀ (r : CanRequest) (s : State), s.onBus = true → s.nodeId ≠ 0 → s.mgmt.queue = [] → r.node.toNat = s.nodeId →
     (let u := s.rxCan.modMgmt fun m => { m with queue := [] }
      (∀ o, r.cmd.toNat = 1 → objSpec r.index.toNat r.sub.toNat = some o → o.acc ≠ .wo → o.kind = .num →
        u.objOpen r.index.toNat r.sub.toNat false = true →
        ∃ t, exec (.canRead r) s = .next t ∧ t.rd (idKey 0x15) = s.rd (idKey 0x15) + 1#64 ∧ t.mgmt.queue = [] ∧ sameWork s t ∧
          (s.mgmt.conflict = false → t.out = s.out ++ [.can (0x200 + s.nodeId)
            (respHead r .ok o.size ++ leBytes 8 (u.objValue o r.index.toNat r.sub.toNat).1)]) ∧
          (s.mgmt.conflict = true → t.out = s.out)) ∧
      (r.cmd.toNat = 2 →
        (∀ t, u.writeOutcome r = .ok t → exec (.canWrite r) s = .next ((t.respond (respHead r .ok 0 ++ leBytes 8 0)).withQueue s)) ∧
        (∀ e, u.writeOutcome r = .error e → ∃ t, exec (.canWrite r) s = .next t ∧ sameWork s t ∧
          ∀ k, k ≠ idKey 0x15 → k ≠ idKey 0x16 → t.rd k = s.rd k)) ∧
      (r.cmd.toNat = 3 → ∀ n byte o, objSpec r.index.toNat r.sub.toNat = some o → u.domain r.index.toNat r.sub.toNat = some (n, byte) →
        u.objOpen r.index.toNat r.sub.toNat false = true → segFits r n = true →
        ∃ t, exec (.canReadSeg r) s = .next t ∧ t.rd (idKey 0x15) = s.rd (idKey 0x15) + 1#64 ∧ t.mgmt.queue = [] ∧ sameWork s t ∧
          (s.mgmt.conflict = false → t.out = s.out ++ [.can (0x200 + s.nodeId) (respSeg r .ok true
            ((List.range (segCountOf r)).map fun i => byte (segOffset r + i)))]) ∧
          (s.mgmt.conflict = true → t.out = s.out)) ∧
      (r.cmd.toNat = 4 →
        (∀ t, u.segOutcome r = .ok t → exec (.canWriteSeg r) s = .next ((t.respond (respSeg r .ok false [])).withQueue s)) ∧
        (∀ e, u.segOutcome r = .error e → ∃ t, exec (.canWriteSeg r) s = .next t ∧ t.mgmt.staging = s.mgmt.staging ∧ sameWork s t)))) ∧
   (∀ (r : CanRequest) (s : State), r.node.toNat ≠ 0 → r.node.toNat ≠ s.nodeId →
     exec (.canRead r) s = .next s ∧ exec (.canWrite r) s = .next s ∧ exec (.canReadSeg r) s = .next s ∧ exec (.canWriteSeg r) s = .next s) ∧
   (∀ (r : CanRequest) (s : State), s.onBus = true → r.node = 0#7 →
     (s.nodeId = 0 → exec (.canRead r) s = .next s ∧ exec (.canWrite r) s = .next s ∧ exec (.canReadSeg r) s = .next s ∧
       exec (.canWriteSeg r) s = .next s) ∧
     (s.nodeId ≠ 0 →
       (r.cmd = 1 → exec (.canRead r) s = .next ((s.count (idKey 0x17) 1).withQueue s)) ∧
       (r.cmd = 3 → exec (.canReadSeg r) s = .next ((s.count (idKey 0x17) 1).withQueue s)) ∧
       (r.cmd = 4 → exec (.canWriteSeg r) s = .next ((s.count (idKey 0x17) 1).withQueue s)) ∧
       (r.cmd = 2 → s.mgmt.queue = [] →
         (let u := s.rxCan.modMgmt fun m => { m with queue := [] }
          (∀ t, u.writeOutcome r = .ok t → exec (.canWrite r) s = .next (t.withQueue s)) ∧
          (∀ e, u.writeOutcome r = .error e → ∃ t, exec (.canWrite r) s = .next t ∧ t.out = s.out ∧ sameWork s t ∧
            bit (t.rd (idKey 0x1C)) 31 = true ∧ (bit (s.rd (idKey 0x1C)) 31 = false → t.rdN (idKey 0x1C) =
              2 ^ 31 + e.code * 2 ^ 24 + r.index.toNat * 2 ^ 8 + r.sub.toNat) ∧
            ∀ k, k ≠ idKey 0x15 → k ≠ idKey 0x1C → t.rd k = s.rd k))))) ∧
   (∀ (w : IgnoredFrame) (s : State), s.onBus = true → ∃ t, exec (.canFrameIgnored w) s = .next t ∧
     t.rd (idKey 0x17) = s.rd (idKey 0x17) + 1#64 ∧ (∀ k, k ≠ idKey 0x17 → t.rd k = s.rd k) ∧ t.out = s.out ∧ t.mgmt = s.mgmt ∧ sameWork s t)) ∧
  ((∀ s : State,
     (s.maySend = true → s.rdN (idKey 0x19) ≠ 0 → s.mgmt.hbAt + s.rdN (idKey 0x19) * 10 ^ 6 ≤ s.mgmt.ns →
       ∃ t, exec .heartbeatSend s = .next t ∧ t.out = s.out ++ [.can (0x700 + s.nodeId) s.heartbeat] ∧
         t.mgmt.hbCount = s.mgmt.hbCount + 1#8 ∧ t.mgmt.hbAt = s.mgmt.ns ∧ t.rd (idKey 0x16) = s.rd (idKey 0x16) + 1#64 ∧ sameWork s t) ∧
     (s.maySend = false → exec .heartbeatSend s = .next s ∧ exec .eventFrameSend s = .next s) ∧
     (s.onBus = true → s.nodeId ≠ 0 → ∃ t, exec .controllerHeartbeat s = .next t ∧ t.mgmt.ctrlLost = false ∧
       t.mgmt.ctrlHbAt = s.mgmt.ns ∧ sameWork s t) ∧
     (s.pow.mode ≠ .off → s.mgmt.restarting = false → s.rdN (idKey 0x1A) ≠ 0 →
       (s.mgmt.ctrlLost = false → s.mgmt.ctrlHbAt + s.rdN (idKey 0x1A) * 10 ^ 6 ≤ s.mgmt.ns → ∃ t, exec .ctrlHbTimeout s = .next t ∧
         t.mgmt.ctrlLost = true ∧ t.mgmt.log.head? = some ⟨4, 0xFF, 2, s.mgmt.evSeq, s.beat⟩ ∧ sameWork s t ∧ t.obj = s.obj ∧
         t = { s with mgmt := t.mgmt, host := t.host, out := t.out }) ∧
       (s.mgmt.ctrlLost = true → exec .ctrlHbTimeout s = .next s)) ∧
     (∀ (p : Part) (code : Nat), s.pow.mode ≠ .off → s.mgmt.restarting = false → code < 8 →
       ∃ t, exec (.barzarEvent 3 (some p) code) s = .next t ∧ t.mgmt.log.head? = some ⟨3, p, code, s.mgmt.evSeq, s.beat⟩ ∧
         t.mgmt.evSeq = s.mgmt.evSeq + 1#32 ∧ (s.mgmt.evQueue.length < 32 → t.mgmt.evQueue.length = s.mgmt.evQueue.length + 1) ∧
         (32 ≤ s.mgmt.evQueue.length → t.mgmt.evQueue = s.mgmt.evQueue ∧ t.mgmt.evLost = true) ∧ t.obj = s.obj ∧ sameWork s t) ∧
     (∀ e es, s.mgmt.evQueue = e :: es → s.maySend = true →
       (∀ t0, s.mgmt.evAt = some t0 → t0 + s.rdN (idKey 0x1B) * 10 ^ 6 ≤ s.mgmt.ns) → ∃ t, exec .eventFrameSend s = .next t ∧
         t.mgmt.evQueue = es ∧ t.mgmt.evLost = false ∧ t.out = s.out ++ [.can (0x080 + s.nodeId) (eventBytes e s.mgmt.evLost)] ∧ sameWork s t) ∧
     (∀ n : Nat, s.onBus = true →
       (s.mgmt.txErr + n ≤ 255 → ∃ t, exec (.canBusError (.tx n)) s = .next t ∧ t.mgmt.txErr = s.mgmt.txErr + n ∧ t.mgmt.busOff = false ∧
         t.obj = s.obj ∧ sameWork s t) ∧
       (255 < s.mgmt.txErr + n → ∃ t, exec (.canBusError (.tx n)) s = .next t ∧ t.mgmt.busOff = true ∧
         t.rdN (idKey 0x18) = min (s.rdN (idKey 0x18) + 1) (2 ^ 32 - 1) ∧ sameWork s t)) ∧
     (s.mgmt.busOff = true → s.pow.mode ≠ .off → ∃ t, exec .busOffRecovery s = .next t ∧ t.mgmt.busOff = false ∧ t.mgmt.txErr = 0 ∧
       t.mgmt.rxErr = 0 ∧ t.obj = s.obj ∧ sameWork s t) ∧
     (∀ k v rest, s.mgmt.saves = (k, v) :: rest →
       (∃ t, exec (.rwsSaveDone true) s = .next t ∧ t.mgmt.saves = rest ∧ t.mgmt.flash = mins v s.mgmt.flash k ∧ t.obj = s.obj ∧ sameWork s t) ∧
       (∃ t, exec (.rwsSaveDone false) s = .next t ∧ t.mgmt.saves = rest ∧ t.mgmt.flash = s.mgmt.flash ∧
         t.rdN (idKey 0x21) = min (s.rdN (idKey 0x21) + 1) (2 ^ 32 - 1) ∧ sameWork s t))))

/-- ASSIGN, RESTART, CONGA_IN_CHANGE and NODE_ID_CONFLICT (R392 to R396): a node that awaits its position takes the ID of its tray and
position, confirms it and asserts CONGA_OUT, and one whose ID would be none is a fault; RESTART drops what waits and starts the node
over, with its fixed ID where it has one; CONGA_IN counts after 100 µs; a conflict silences the node and is noted once. -/
def Obligations.CongaAssigns : Prop :=
  (∀ (pos : Nat) (s : State), s.onBus = true → 1 ≤ pos → pos ≤ 127 →
    (s.congaState = 1 → 1 ≤ nfield s.straps 6 4 * 16 + pos → nfield s.straps 6 4 * 16 + pos ≤ 127 →
      ∃ t, exec (.assign pos) s = .next t ∧ t.nodeId = nfield s.straps 6 4 * 16 + pos ∧ t.congaState = 2 ∧ t.mgmt.congaOut = true ∧
        t.rdN (objKey 0x1100 2) = pos ∧ sameWork s t) ∧
    (s.congaState = 1 → 127 < nfield s.straps 6 4 * 16 + pos → ∃ t, exec (.assign pos) s = .next t ∧ t.congaState = 4 ∧
      t.nodeId = s.nodeId ∧ t.mgmt.congaOut = s.mgmt.congaOut ∧ sameWork s t) ∧
    (s.congaState = 3 → s.mgmt.congaIn = true → s.mgmt.congaOut = false → ∃ t, exec (.assign pos) s = .next t ∧ t.congaState = 3 ∧
      t.mgmt.congaOut = true ∧ t.nodeId = s.nodeId ∧ t.rdN (objKey 0x1100 2) = pos ∧ sameWork s t) ∧
    (s.congaState = 0 ∨ s.congaState = 2 → exec (.assign pos) s = .next s)) ∧
  (∀ s : State, s.onBus = true → ∃ t, exec .restart s = .next t ∧ t.nodeId = s.rdN (idKey 0x11) ∧ t.mgmt.queue = [] ∧
    t.mgmt.congaOut = false ∧ t.mgmt.conflict = false ∧ t.rdN (objKey 0x1100 2) = 0 ∧
    t.congaState = (if s.rdN (idKey 0x11) ≠ 0 then 3 else b2n s.mgmt.congaIn) ∧ sameWork s t) ∧
  (∀ (level : Bool) (us : Nat) (s : State),
    (us < 100 → exec (.congaInChange level us) s = .next s) ∧
    (100 ≤ us → s.pow.mode ≠ .off → s.congaState ≤ 1 → ∃ t, exec (.congaInChange level us) s = .next t ∧ t.mgmt.congaIn = level ∧
      t.congaState = b2n level ∧ sameWork s t) ∧
    (100 ≤ us → 1 < s.congaState → ∃ t, exec (.congaInChange level us) s = .next t ∧ t.mgmt.congaIn = level ∧ t.obj = s.obj ∧ sameWork s t)) ∧
  (∀ s : State, s.onBus = true → s.nodeId ≠ 0 →
    (s.mgmt.conflict = false → ∃ t, exec .nodeIdConflict s = .next t ∧ t.mgmt.conflict = true ∧ t.congaState = 5 ∧ t.maySend = false ∧
      sameWork s t) ∧
    (s.mgmt.conflict = true → exec .nodeIdConflict s = .next s))

/-- UNLOCK, COMMIT, LOCK, CALIBRATION_COMMIT_DONE and CALIBRATION_STAGING_TIMEOUT (R402 to R404): a keyed UNLOCK copies the stored set into
staging; a COMMIT whose checks pass writes it, and one that fails keeps the set UNLOCKED with the check's code; LOCK, a committed
write and 60 s without a write end with the set LOCKED; only a write that is done changes the stored set. -/
def Obligations.CalibrationIsCommitted : Prop :=
  (∀ (via : Via) (v : Word) (ok : Bool) (s : State), s.reaches via 0x2F40 1 = true →
    (bit v 0 = true → bit v 1 = false → bit v 2 = false → field v 31 16 = 0xC41B → s.mgmt.calState ≠ .committing →
      ∃ t, exec (.unlock via v) s = .next t ∧
        t.mgmt = { s.mgmt with calState := .unlocked, staging := s.mgmt.cal, calAt := s.mgmt.ns } ∧ t.obj = s.obj ∧ sameWork s t) ∧
    (bit v 0 = true → field v 31 16 ≠ 0xC41B → ∃ t, exec (.unlock via v) s = .next t ∧ t.mgmt = s.mgmt ∧ t.obj = s.obj ∧ sameWork s t) ∧
    (bit v 0 = false → bit v 1 = true → bit v 2 = false → s.mgmt.calState = .unlocked →
      (s.commitRefusal ok = 0 → ∃ t, exec (.commit via v ok) s = .next t ∧ t.mgmt.calState = .committing ∧
        t.mgmt.staging = s.mgmt.staging ∧ t.mgmt.cal = s.mgmt.cal ∧ t.obj = s.obj ∧ sameWork s t) ∧
      (s.commitRefusal ok ≠ 0 → ∃ t, exec (.commit via v ok) s = .next t ∧ t.mgmt.calState = .unlocked ∧
        t.mgmt.calRefuse = s.commitRefusal ok ∧ t.mgmt.cal = s.mgmt.cal ∧ t.obj = s.obj ∧ sameWork s t)) ∧
    (bit v 0 = false → bit v 1 = false → bit v 2 = true → s.mgmt.calState = .unlocked →
      ∃ t, exec (.lock via v) s = .next t ∧ t.mgmt = { s.mgmt with calState := .locked, staging := [] } ∧ t.obj = s.obj ∧ sameWork s t)) ∧
  (∀ s : State, s.mgmt.calState = .committing → s.readiness ≠ 4 →
    (∃ t, exec (.calibrationCommitDone true) s = .next t ∧ t.mgmt.cal = s.mgmt.staging ∧ t.mgmt.calState = .locked ∧
      t.mgmt.calPending = true ∧ t.rdN (calKey 4) = min (s.rdN (calKey 4) + 1) (2 ^ 32 - 1)) ∧
    (∃ t, exec (.calibrationCommitDone false) s = .next t ∧ t.mgmt.cal = s.mgmt.cal ∧ t.mgmt.calBroken = true ∧
      t.mgmt.calState = .locked)) ∧
  (∀ s : State, s.mgmt.calState ≠ .committing → ∀ ok, exec (.calibrationCommitDone ok) s = .next s) ∧
  (∀ s : State,
    (s.mgmt.calState = .unlocked → s.mgmt.calAt + 60 * 10 ^ 9 ≤ s.mgmt.ns → ∃ t, exec .calibrationStagingTimeout s = .next t ∧
      t.mgmt = { s.mgmt with calState := .locked, staging := [] } ∧ t.obj = s.obj ∧ sameWork s t) ∧
    (s.mgmt.ns < s.mgmt.calAt + 60 * 10 ^ 9 → exec .calibrationStagingTimeout s = .next s))

/-! ## Bring-up, firmware and security (R429 to R453) -/

/-- POWER_UP, RESET_RELEASE, JOB_READY, FW_LOAD, FW_UPDATE_START, FW_UPDATE_DONE and SVN_ADVANCE (R429 to R434, R443 to R449): a device
whose input is off comes on with its saved values; a released one starts its Beat at zero and, with an active image that passes,
runs it and waits to be ready, or waits for the host where FW_RECOVERY is strapped; it is JOB_READY when every partition is; an
image that passes is started or kept for the next boot, and one that fails is not; FW_SVN_MIN only rises. -/
def Obligations.DevicesComeUp : Prop :=
  (∀ s : State, s.pow.mode = .off → (∀ kv ∈ s.mgmt.flash, kv.1 ≠ idKey 0x11) → ∃ t, exec .powerUp s = .next t ∧ t.pow.mode = .on ∧
    t.nodeId = s.rdN (idKey 0x11) ∧ sameWork s t) ∧
  (∀ s : State, s.pow.mode ≠ .off → exec .powerUp s = .next s) ∧
  (∀ (obs : BringupObs) (s : State), s.pow.mode = .on → s.readiness = 0 → obs.failedStep = 0 → s.sec.nextBank = false →
    s.rdN (secKey 2) = 0 →
    (obs.straps.getLsbD 7 = true → ∃ t, exec (.resetRelease obs) s = .next t ∧ t.readiness = 2 ∧ t.beat = 0 ∧ t.sec.running = s.sec.running ∧
      sameWork s t) ∧
    (obs.straps.getLsbD 7 = false → s.sec.bank0.valid = true → obs.activePasses = true → s.svnMin ≤ s.sec.bank0.svn →
      s.mgmt.calState ≠ .committing → ∃ t, exec (.resetRelease obs) s = .next t ∧ t.readiness = 4 ∧ t.beat = 0 ∧
        t.sec.running = some s.sec.bank0 ∧ t.sec.obs = none ∧
        (∀ a, spadBase 0 ≤ a → a < spadBase 2 → t.mem.read a = 0#8)) ∧
    (obs.straps.getLsbD 7 = false → s.sec.bank0.valid = false → s.sec.bank1.valid = false →
      ∃ t, exec (.resetRelease obs) s = .next t ∧ t.readiness = 3 ∧ t.beat = 0 ∧ t.sec.running = s.sec.running ∧ sameWork s t)) ∧
  (∀ (us : Nat) (s : State), s.pow.mode = .on → s.readiness = 4 → s.sec.obs = none → s.rdN (idKey 0x35) = 0 →
    ∃ t, exec (.jobReady us) s = .next t ∧ ((∀ p < 16, s.pN p 0xE1 ≠ 7) → t.readiness = 5) ∧
      ((∃ p < 16, s.pN p 0xE1 = 7) → t.readiness = 6) ∧ t.hang.chip = none ∧
      t.rdN (idKey 0x33) = min us (2 ^ 32 - 1) ∧ sameWork s t) ∧
  (∀ (v : Word) (chk : ImageCheck) (s : State), s.reaches .pf 0x2900 0x0A = true → bit v 0 = true → s.readiness = 2 ∨ s.readiness = 3 →
    (let r := s.readImage (spadBase 0)
     (s.imageFails r chk = 0 → ∃ t, exec (.fwLoad .pf v chk) s = .next t ∧ t.sec.running = some r.info ∧ t.rdN (secKey 1) = 3 ∧
       (∀ a, spadBase 0 ≤ a → a < spadBase 2 → t.mem.read a = 0#8) ∧ (s.sec.obs = none → t.readiness = 4) ∧ t.cores = s.cores) ∧
     (s.imageFails r chk ≠ 0 → ∃ t, exec (.fwLoad .pf v chk) s = .next t ∧ t.rdN (secKey 1) = 2 ∧
       (∀ k, k ≠ secKey 1 → t.rd k = s.rd k) ∧ t.sec = s.sec ∧ sameWork s t))) ∧
  (∀ (v : Word) (s : State), s.reaches .pf 0x2900 8 = true → bit v 0 = true → s.jobReady = true → s.rdN (secKey 9) % 4 ≠ 1 →
    ∃ t, exec (.fwUpdateStart .pf v) s = .next t ∧ t.sec.update = some (s.readImage (s.rdN (secKey 7))) ∧ t.rdN (secKey 9) = 1 ∧
      t.sec.running = s.sec.running ∧ sameWork s t) ∧
  (∀ (chk : ImageCheck) (ok : Bool) (s : State) (r : ImgRead), s.sec.update = some r → s.rdN (secKey 2) = 0 →
    ∃ t, exec (.fwUpdateDone chk ok) s = .next t ∧ t.sec.update = none ∧ t.sec.bank0 = s.sec.bank0 ∧ t.sec.running = s.sec.running ∧ sameWork s t ∧
      (s.imageFails r chk = 0 → ok = true → t.sec.bank1 = r.info ∧ t.sec.nextBank = true ∧ t.rdN (secKey 9) = 2) ∧
      (s.imageFails r chk = 0 → ok = false → t.sec.bank1.valid = false ∧ t.rdN (secKey 9) = 6 * 2 ^ 24 + 3) ∧
      (s.imageFails r chk ≠ 0 → t.sec.bank1 = s.sec.bank1 ∧ t.rdN (secKey 9) = s.imageFails r chk * 2 ^ 24 + 3)) ∧
  (∀ (via : Via) (v : Word) (s : State) (i : ImgInfo), s.reaches via 0x2900 0x0B = true → bit v 0 = true → field v 31 16 = 0x3C96 →
    s.sec.running = some i → i.svn < 256 → ∃ t, exec (.svnAdvance via v) s = .next t ∧ t.svnMin = max s.svnMin i.svn ∧
      (∀ k, k ≠ secKey 3 → t.rd k = s.rd k) ∧ sameWork s t)

/-- ATTEST_REQUEST, ATTEST_REPORT_DONE, RECLAIM and RECLAIM_DONE (R436 to R440): a request for a report that has its place in the
partition's memory joins the queue and reads BUSY, and one that has not fails; the oldest request's report is written, and nothing
else; a keyed reclaim of a partition with nothing left running gives every member a new key, after which it takes no longer part,
and at its end the members' tables, cores and retention masks are as new and the reclaim is counted. -/
def Obligations.PartitionsAreAttestedAndReclaimed : Prop :=
  (∀ (via : Via) (p : Part) (v : Word) (s : State), s.reaches via (partIx p) 0x29 = true → bit v 0 = true →
    (s.pN p 0x2A % 4 ≠ 1 → s.reportPlace p (s.pN p 0x28) = true → ∃ t r, exec (.attestRequest via p v) s = .next t ∧
      t.sec.attest = s.sec.attest ++ [r] ∧ r.part = p.val ∧ r.addr = s.pN p 0x28 ∧ r.beat = s.beat ∧ t.pN p 0x2A % 4 = 1 ∧ sameWork s t) ∧
    (s.pN p 0x2A % 4 ≠ 1 → s.reportPlace p (s.pN p 0x28) = false → ∃ t, exec (.attestRequest via p v) s = .next t ∧
      t.sec = s.sec ∧ t.pN p 0x2A % 4 = 3 ∧ sameWork s t) ∧
    (s.pN p 0x2A % 4 = 1 → ∃ t, exec (.attestRequest via p v) s = .next t ∧ t.sec = s.sec ∧ t.obj = s.obj ∧ sameWork s t)) ∧
  (∀ (p : Part) (sig : List Byte) (s : State) (r : AttReq) (rest : List AttReq), s.sec.attest = r :: rest →
    (r.part = p.val → s.pN p 0x2E ≠ 1 → sig.length = 512 →
      ∃ t, exec (.attestReportDone p sig) s = .next t ∧ t.sec.attest = rest ∧
        (∀ x, x < r.addr → t.mem.read x = s.mem.read x) ∧ (∀ x, r.addr + (s.reportText r).length + 512 ≤ x → t.mem.read x = s.mem.read x) ∧
        t.readBytes r.addr ((s.reportText r).length + 512) = s.reportText r ++ sig ∧ t.pN p 0x2A % 4 = 2 ∧ t.cores = s.cores ∧
        t.versions = s.versions) ∧
    (r.part ≠ p.val → exec (.attestReportDone p sig) s = .next s)) ∧
  (∀ (via : Via) (p : Part) (v : Word) (s : State), s.reaches via (partIx p) 0x2D = true → viaPriv via = true → bit v 0 = true →
    (field v 31 16 = 0x7E1A → s.jobReady = true → (∀ q ∈ s.members p, s.reclaimable q = true) → ∃ t, exec (.reclaim via p v) s = .next t ∧
      (∀ q ∈ s.members p, t.pN q 0x2E = 1 ∧ t.pN q 0x2B = (s.pN q 0x2B + 1) % 2 ^ 32) ∧ t.cores = s.cores ∧ t.ctxs = s.ctxs ∧
      ∀ a, (∀ q ∈ s.members p, a < hbmBase q ∨ s.reserveBase q ≤ a) → t.mem.read a = s.mem.read a) ∧
    (field v 31 16 ≠ 0x7E1A → ∃ t, exec (.reclaim via p v) s = .next t ∧ t.obj = s.obj ∧ sameWork s t)) ∧
  (∀ (p : Part) (s : State), s.sec.waitReset = [] →
    (s.pN p 0x2E = 1 → ∃ t, exec (.reclaimDone p) s = .next t ∧ ∀ q ∈ s.members p, t.pN q 0x2E = 2 ∧
      t.pN q 0x2F = min (s.pN q 0x2F + 1) (2 ^ 32 - 1) ∧ (∀ i < 16, t.core (16 * q + i) = CoreSt.reset) ∧
      (∀ n < 256, t.region q n = VEntry.reset) ∧ (∀ n < 1024, (t.prog q n).state = .free) ∧
      (∀ i < 16, mget 0#64 t.retain (16 * q + i) = 0#64)) ∧
    (s.pN p 0x2E ≠ 1 → exec (.reclaimDone p) s = .next s))

/-! ## Power, clocks and temperature (R405 to R426) -/

/-- PART_POWER_OFF, PART_POWER_ON, PARTITION_OFF_ENTRY_DONE, WAKE_DEMAND, WAKE_DONE, CHANNEL_SELF_REFRESH_RETURN, CLUSTER_SLEEP_EXPIRY,
AUTO_OFF_EXPIRY and PREWAKE (R413 to R416): a drained group enters partition-off as one, with the masks then in force, and keeps only the banks those retain; a
request, a demand or a slot that is soon due wakes the whole group; a cluster that has had no work sleeps and wakes on demand.
RETENTION_ENTRY, RETENTION_ENTRY_DONE, RETENTION_EXIT, BROWN_OUT and RET_CURRENT_WARNING (R417 to R420): an idle device whose current
estimate fits enters Retention; there its partitions are off and its ports down; it leaves as after a partition reset of every
partition with what it retains; a brown-out destroys the retained banks and renews the keys, once; a current above the limit is
recorded, and raised as a health event at most once a minute. -/
def Obligations.PartitionsSleepDeviceRetains : Prop :=
  ((∀ (via : Via) (p : Part) (s : State), s.reaches via (partIx p) 0 = true →
     (s.pN p 1 ≠ 1 → s.pN p 1 ≠ 2 → s.drained p = true → s.pN p 0xE1 = 0 → s.pN p 0x2E ≠ 1 → s.bistRuns p = false →
       ∃ t, exec (.partPowerOff via p 1#64) s = .next t ∧ (∀ q ∈ s.members p, t.pN q 1 = 1 ∧
           ∀ i < 16, mget 0#64 t.pow.offMasks (16 * q + i) = s.retainMask (16 * q + i)) ∧
         (∀ k, (∀ q ∈ s.members p, k ≠ pKey q 1) → t.rd k = s.rd k) ∧ sameWork s t) ∧
     (s.pN p 1 ≠ 1 → s.pN p 1 ≠ 2 → s.drained p = false → ∃ t, exec (.partPowerOff via p 1#64) s = .next t ∧ t.obj = s.obj ∧ sameWork s t) ∧
     (∃ t, exec (.partPowerOn via p 2#64) s = .next t ∧ sameWork s t ∧ ∀ q ∈ s.members p, s.pN q 1 = 1 ∨ s.pN q 1 = 2 → t.pN q 1 = 3 ∧
       t.pRd q 7 = s.pRd q 7 + 1#64)) ∧
   (∀ (p : Part) (s : State), s.rdN (pwKey 7) = 0 →
     (∃ t, exec (.partitionOffEntryDone p) s = .next t ∧ (∀ q ∈ s.members p, s.pN q 1 = 1 → t.pN q 1 = 2 ∧
         ∀ (i b x : Nat), i < 16 → b < 64 → x < 2 ^ 19 → (mget 0#64 s.pow.offMasks (16 * q + i)).getLsbD b = false →
           t.mem.read (spadBase (16 * q + i) + b * 2 ^ 19 + x) = 0#8) ∧
       (∀ a < hbmEnd, t.mem.read a = s.mem.read a) ∧
       (∀ (q i b x : Nat), q < 16 → i < 16 → b < 64 → x < 2 ^ 19 → (mget 0#64 s.pow.offMasks (16 * q + i)).getLsbD b = true →
         t.mem.read (spadBase (16 * q + i) + b * 2 ^ 19 + x) = s.mem.read (spadBase (16 * q + i) + b * 2 ^ 19 + x))) ∧
     ((s.cluster p).asleep = true → (s.cluster p).waking = false → ∃ t, exec (.wakeDemand (.cluster p)) s = .next t ∧
       t.cluster p = { s.cluster p with waking := true } ∧ t.pRd p 7 = s.pRd p 7 + 1#64 ∧ sameWork s t) ∧
     ((s.cluster p).waking = true → ∃ t, exec (.wakeDone (.cluster p)) s = .next t ∧
       t.cluster p = { s.cluster p with asleep := false, waking := false } ∧ (∀ q, q ≠ p.val → t.cluster q = s.cluster q) ∧
       t.obj = s.obj ∧ sameWork s t) ∧
     (∃ t, exec (.wakeDone (.group p)) s = .next t ∧ (∀ q ∈ s.members p, s.pN q 1 = 3 → t.pN q 1 = 0) ∧ sameWork s t) ∧
     (∀ n : Fin 384, n.val ∈ s.pow.wakingCh → ∃ t, exec (.wakeDone (.channel n)) s = .next t ∧ t.pow.awake = n.val :: s.pow.awake ∧
       t.pow.wakingCh = s.pow.wakingCh.erase n.val ∧ t.obj = s.obj ∧ sameWork s t) ∧
     (∀ n : Fin 384, ∃ t, exec (.channelSelfRefreshReturn n) s = .next t ∧ n.val ∉ t.pow.awake ∧
       (∀ m, m ≠ n.val → (m ∈ t.pow.awake ↔ m ∈ s.pow.awake)) ∧ t.obj = s.obj ∧ sameWork s t) ∧
     (s.pN p 4 ≠ 0 → s.pN p 4 ≤ mget 0 s.pow.noWork p → s.clusterAwake p = true → ∃ t, exec (.clusterSleepExpiry p) s = .next t ∧
       t.cluster p = { s.cluster p with asleep := true } ∧ (∀ q, q ≠ p.val → t.cluster q = s.cluster q) ∧ t.obj = s.obj ∧ sameWork s t) ∧
     (s.pN p 4 = 0 → exec (.clusterSleepExpiry p) s = .next s) ∧
     (s.pN p 2 ≠ 0 → s.pN p 2 ≤ mget 0 s.pow.drained (s.lead p) → s.drained p = true → s.groupRuns p = true → s.bistRuns p = false →
       (∀ kv ∈ s.slots, kv.2.state ≠ .armed) → ∃ t, exec (.autoOffExpiry p) s = .next t ∧ (∀ q ∈ s.members p, t.pN q 1 = 1) ∧ sameWork s t) ∧
     (s.pN p 2 = 0 → exec (.autoOffExpiry p) s = .next s) ∧
     (∀ n : Fin 256, (s.slot (s.lead p) n).state = .armed → (s.slot (s.lead p) n).prewoken = false →
       (s.slot (s.lead p) n).startBeat ≤ s.beatIx + s.pN p 3 → s.pN p 1 = 2 →
       ∃ t, exec (.prewake p n) s = .next t ∧ (t.slot (s.lead p) n).prewoken = true ∧ t.pN p 1 = 3 ∧ t.mem = s.mem ∧ t.cores = s.cores))) ∧
  ((∀ (via : Via) (milliC : Int) (s : State), s.reaches via 0x2000 6 = true →
     (s.rdN (pwKey 7) = 0 → s.jobReady = true → s.retMicroAmps milliC ≤ 36000000 → (∀ p < 16, s.drained p = true ∧ s.pN p 0xEB ≠ 1 ∧ s.pN p 0xEB ≠ 2 ∧
         s.pN p 0xE1 = 0 ∧ s.pN p 0x2E ≠ 1) → ∃ t, exec (.retentionEntry via 1#64 milliC) s = .next t ∧ t.rdN (pwKey 7) = 1 ∧
       t.readiness = 7 ∧ (∀ p < 16, t.pN p 1 = 1) ∧ t.mem = s.mem ∧ t.cores = s.cores ∧ t.versions = s.versions) ∧
     (s.rdN (pwKey 7) = 0 → 36000000 < s.retMicroAmps milliC → ∃ t, exec (.retentionEntry via 1#64 milliC) s = .next t ∧ t.obj = s.obj ∧ sameWork s t) ∧
     (s.rdN (pwKey 7) = 2 → s.pow.brownedOut = false → ∃ t, exec (.retentionExit via 0#64) s = .next t ∧ t.rdN (pwKey 7) = 3 ∧ t.mem = s.mem ∧
       (∀ p < 16, t.pN p 1 = 0) ∧ (∀ c < 256, t.core c = CoreSt.reset) ∧ t.coll = [])) ∧
   (∀ s : State,
     (s.rdN (pwKey 7) = 1 → ∃ t, exec .retentionEntryDone s = .next t ∧ t.rdN (pwKey 7) = 2 ∧ (∀ p < 16, t.pN p 1 = 2) ∧
       (∀ n < 32, (t.port n).st = .disabled) ∧ ∀ a < hbmEnd, t.mem.read a = s.mem.read a) ∧
     (s.rdN (pwKey 7) ≠ 1 → exec .retentionEntryDone s = .next s) ∧
     (s.rdN (pwKey 7) = 2 → s.pow.brownedOut = false → ∃ t, exec .brownOut s = .next t ∧ t.pow.brownedOut = true ∧
       (∀ a, spadBase 0 ≤ a → a < spadBase 256 → t.mem.read a = 0#8) ∧ (∀ p < 16, t.pN p 0x2B = (s.pN p 0x2B + 1) % 2 ^ 32) ∧
       t.rdN (pwKey 0x0C) = min (s.rdN (pwKey 0x0C) + 1) (2 ^ 32 - 1) ∧ t.cores = s.cores) ∧
     (s.pow.brownedOut = true → exec .brownOut s = .next s) ∧
     (∀ ma, s.rdN (pwKey 7) = 2 → 36000 ≤ ma → ∃ t, exec (.retCurrentWarning ma) s = .next t ∧ t.rd (pwKey 0x0A) = milliF32 ma ∧
       (∀ k, k ≠ pwKey 0x0A → k ≠ pwKey 0x0B → t.rd k = s.rd k) ∧ sameWork s t) ∧
     (∀ ma, ma < 36000 → exec (.retCurrentWarning ma) s = .next s)))

/-- POWER_CAP_SAMPLE, FAST_CUT, AVFS_TRIM, THERMAL_THROTTLE_TICK and CLUSTER_CLOCK_CHANGE (R407 to R412, R423): above the limit a due step
takes 25 MHz while there are any to take, and with margin a due step gives a slot back before a frequency; a cut leaves at most 8
slots; a trim is held to its range; a hot cluster gives 25 MHz up, and one that stays cool takes a slot or 25 MHz back with every hundredth
reading; the clock moves by at
most 25 MHz toward the lowest request.
THERMAL_TRIP, THERMAL_HOLD_EXIT, INPUT_UNDERVOLTAGE, INPUT_OVERVOLTAGE, SERDES_REFERENCE_LOSS, SERDES_REFERENCE_RETURN and
PCIE_REFERENCE_CHANGE (R405, R408, R422): a trip takes the rails off with the device reset and READINESS at THERMAL_HOLD, and its
end goes back to RESET_HELD; the input's bands are reported, release the power-cycle request, gate
slots, cut, or end with every rail off; each reference's presence
is shown, and the SerDes reference's loss fails every port that had lock. -/
def Obligations.ClocksAndSupply : Prop :=
  ((∀ (m : PowerSample) (s : State), s.pow.mode = .on → bit (s.rd (pwKey 8)) 3 = false → s.capMhz ≤ 1350 → s.capAllowed ≤ 16 →
     (s.powerLimit < m.avgMw → s.pow.capWait % 10 = 0 → 800 < s.capMhz → ∃ t, exec (.powerCapSample m) s = .next t ∧
       t.capMhz = max 800 (s.capMhz - 25) ∧ t.capAllowed = s.capAllowed ∧ bit (t.rd (pwKey 8)) 0 = true ∧ bit (t.rd (pwKey 8)) 1 = true ∧
       t.pow.capWait = 9 ∧ sameWork s t) ∧
     (m.avgMw ≤ s.powerLimit → m.currentMa * 40 ≤ s.powerLimit → m.marginHeld = true → s.pow.capWait = 0 →
       ∃ t, exec (.powerCapSample m) s = .next t ∧ t.pow.capWait = 99 ∧ sameWork s t ∧
         (s.capAllowed < 16 → t.capAllowed = s.capAllowed + 1 ∧ t.capMhz = s.capMhz) ∧
         (s.capAllowed = 16 → t.capAllowed = 16 ∧ t.capMhz = min 1350 (s.capMhz + 25))) ∧
     (∃ t, exec (.powerCapSample m) s = .next t ∧
       t.rd (pwKey 5) = s.rd (pwKey 5) + BitVec.ofNat 64 ((s.pow.energyFrac + m.powerMw) / 1000000) ∧ t.rd (pwKey 4) = milliF32 m.avgMw ∧ sameWork s t)) ∧
   (∀ s : State, s.pow.mode = .on → s.capMhz ≤ 1350 → s.capAllowed ≤ 16 → ∃ t, exec .fastCut s = .next t ∧ t.capAllowed = min 8 s.capAllowed ∧
     t.capMhz = s.capMhz ∧ bit (t.rd (pwKey 8)) 3 = true ∧ t.rd (pwKey 9) = s.rd (pwKey 9) + 1#64 ∧ sameWork s t) ∧
   (∀ (p : Part) (mv mhz : Nat) (s : State), s.pow.mode = .on → s.rdN (pwKey 7) = 0 → ∃ t, exec (.avfsTrim p mv mhz) s = .next t ∧
     t.rdN (ckKey (0x20 + p.val)) = max 600 (min 900 mv) ∧
     (t.cluster p).avfsMhz = max 800 (min (if s.uncalibrated then 900 else 1350) mhz) / 25 * 25 ∧
     (∀ q, q ≠ p.val → t.cluster q = s.cluster q) ∧ sameWork s t) ∧
   (∀ (p : Part) (milliC : Int) (s : State),
     (let limit := s.tempLimit (s.rdN (thKey 2))
      let c := s.cluster p
      (limit ≤ milliC → 800 < c.thMhz → ∃ t, exec (.thermalThrottleTick (.cluster p milliC)) s = .next t ∧
        t.cluster p = { c with thMhz := max 800 (c.thMhz - 25), coolTicks := 0 } ∧ (∀ q, q ≠ p.val → t.cluster q = s.cluster q) ∧ sameWork s t) ∧
      (limit ≤ milliC → c.thMhz ≤ 800 → ∃ t, exec (.thermalThrottleTick (.cluster p milliC)) s = .next t ∧
        t.cluster p = { c with thAllowed := max 4 (c.thAllowed - 1), coolTicks := 0 } ∧ sameWork s t) ∧
      (milliC < limit - 3000 → c.thMhz < 1350 ∨ c.thAllowed < 16 → ∃ t, exec (.thermalThrottleTick (.cluster p milliC)) s = .next t ∧
        sameWork s t ∧ t.cluster p = (if c.coolTicks < 99 then { c with coolTicks := c.coolTicks + 1 }
          else if c.thAllowed < 16 then { c with thAllowed := c.thAllowed + 1, coolTicks := 0 }
          else { c with thMhz := min 1350 (c.thMhz + 25), coolTicks := 0 })) ∧
      (milliC < limit - 3000 → 1350 ≤ c.thMhz → 16 ≤ c.thAllowed → ∃ t, exec (.thermalThrottleTick (.cluster p milliC)) s = .next t ∧
        t.cluster p = c ∧ sameWork s t) ∧
      (limit - 3000 ≤ milliC → milliC < limit → ∃ t, exec (.thermalThrottleTick (.cluster p milliC)) s = .next t ∧ t.cluster p = c ∧ sameWork s t))) ∧
   (∀ (p : Part) (s : State), s.pow.mode = .on → s.pN p 1 ≠ 2 → ∃ t, exec (.clusterClockChange p) s = .next t ∧ sameWork s t ∧
     (let now := s.rdN (ckKey (0x10 + p.val))
      let goal := s.clockTarget p
      t.rdN (ckKey (0x10 + p.val)) = if now < goal then min goal (now + 25) else if goal < now then max goal (now - 25) else now))) ∧
  ((∀ s : State,
     (s.pow.mode = .on → ∃ t, exec .thermalTrip s = .next t ∧ t.pow.mode = .tripped ∧ t.readiness = 8 ∧ t.mem = State.reset.mem ∧
       t.cores = [] ∧ t.ctxs = [] ∧ t.launches = [] ∧ t.versions = [] ∧ bit (t.rd (thKey 5)) 2 = true) ∧
     (s.pow.mode ≠ .on → exec .thermalTrip s = .next s) ∧
     (s.pow.mode = .tripped → ∃ t, exec .thermalHoldExit s = .next t ∧ t.pow.mode = .on ∧ t.readiness = 0 ∧
       t.rdN (rKey 3) = min (s.rdN (rKey 3) + 1) (2 ^ 32 - 1) ∧ sameWork s t) ∧
     (s.pow.mode ≠ .tripped → exec .thermalHoldExit s = .next s)) ∧
   (∀ (mv us : Nat) (s : State), s.pow.mode ≠ .off →
     (40000 ≤ mv → exec (.inputUndervoltage mv us) s = .next s) ∧
     (36000 ≤ mv → mv < 40000 → ∃ t, exec (.inputUndervoltage mv us) s = .next t ∧ (mv < 38000 → t.pow.uvGate = true) ∧
       t.pow.mode = s.pow.mode ∧ t.pow.cycleReq = false ∧ sameWork s t) ∧
     (mv < 36000 → us < 100 → s.capMhz ≤ 1350 → s.capAllowed ≤ 16 → ∃ t, exec (.inputUndervoltage mv us) s = .next t ∧
       t.capAllowed = min 8 s.capAllowed ∧ bit (t.rd (pwKey 8)) 3 = true ∧ sameWork s t) ∧
     (mv < 36000 → 100 ≤ us → ∃ t, exec (.inputUndervoltage mv us) s = .next t ∧ t.pow.mode = .off ∧ t.mem = State.reset.mem ∧ t.cores = [] ∧
       t.ctxs = [] ∧ t.mgmt.flash = s.mgmt.flash ∧ t.mgmt.cal = s.mgmt.cal) ∧
     (mv ≤ 60000 → exec (.inputOvervoltage mv us) s = .next s) ∧
     (60000 < mv → mv ≤ 64000 ∨ us < 10 → ∃ t, exec (.inputOvervoltage mv us) s = .next t ∧ t.pow.mode = s.pow.mode ∧ sameWork s t) ∧
     (64000 < mv → 10 ≤ us → ∃ t, exec (.inputOvervoltage mv us) s = .next t ∧ t.pow.mode = .off ∧ t.mem = State.reset.mem ∧ t.cores = [])) ∧
   (∀ (us : Nat) (s : State), s.pow.mode = .on → bit (s.rd (ckKey 3)) 0 = true →
     (10 < us → ∃ t, exec (.serdesReferenceLoss us) s = .next t ∧ bit (t.rd (ckKey 3)) 0 = false ∧
       (∀ n < 32, (s.port n).st ≠ .disabled → (s.port n).st ≠ .detect → (t.port n).st = .failed) ∧
       (∀ n < 32, (s.port n).st = .disabled ∨ (s.port n).st = .detect → (t.port n).st = (s.port n).st)) ∧
     (us ≤ 10 → exec (.serdesReferenceLoss us) s = .next s)) ∧
   (∀ (b : Bool) (l : PcieLink) (s : State), (∃ t, exec .serdesReferenceReturn s = .next t ∧ bit (t.rd (ckKey 3)) 0 = true ∧ sameWork s t) ∧
     ∃ t, exec (.pcieReferenceChange b l) s = .next t ∧ (t.pcieUp = false → t.linkStatus = 0) ∧
       (t.pcieUp = true → t.linkStatus % 16 = speedCode l.speed) ∧ bit (t.rd (ckKey 3)) 1 = b ∧ bit (t.rd (ckKey 3)) 0 = bit (s.rd (ckKey 3)) 0 ∧
       (∀ k, k ≠ ckKey 3 → t.rd k = s.rd k) ∧ sameWork s t))

/-! ## Memory and numbers (R9, R30 to R41, R92, R93) -/

/-- Memory by bytes (R9, R133): what a write of bytes stores is read back at its address and every other byte stays; a number is stored
least significant byte first; a zeroed range reads as zero and the rest stays; each keeps the canonical form. -/
def Obligations.MemoryReadsBack : Prop :=
  ∀ (m : Mem) (a : Nat),
    (∀ bs : List Byte, (m.writeBytes a bs).readBytes a bs.length = bs ∧
      (∀ x, x < a ∨ a + bs.length ≤ x → (m.writeBytes a bs).read x = m.read x) ∧ (m.wf → (m.writeBytes a bs).wf)) ∧
    (∀ n v, v < 256 ^ n → (m.writeLE a n v).readLE a n = v ∧ ∀ i < n, ((m.writeLE a n v).read (a + i)).toNat = v / 256 ^ i % 256) ∧
    (∀ n x, (m.zero a n).read x = (if a ≤ x ∧ x < a + n then 0#8 else m.read x)) ∧ (∀ n, m.wf → (m.zero a n).wf)

/-- The canonical form of memory is kept by every step, whatever command waits (log entry 10). -/
def Obligations.MemoryStaysCanonical : Prop :=
  ∀ s t : State, s.mem.wf → step s = .next t → t.mem.wf

/-- The device physical address map (R133): every address of a partition's HBM, of a core's scratchpad and of a core's walnut buffer names
that partition or core, the ranges between them name nothing, and the last range is that of the control windows. -/
def Obligations.AddressesDecode : Prop :=
  (∀ p o : Nat, p < 16 → o < 54 * 2 ^ 30 → spaceOf (p * 0xD80000000 + o) = .hbm p) ∧
  (∀ n o : Nat, n < 256 → o < 32 * 2 ^ 20 → spaceOf (0x100000000000 + n * 0x2000000 + o) = .spad n) ∧
  (∀ n o : Nat, n < 256 → o < 2 * 2 ^ 20 → spaceOf (0x180000000000 + n * 0x200000 + o) = .walnut n) ∧
  (∀ a : Nat, 0xD800000000 ≤ a ∧ a ≤ 0xFFFFFFFFFFF ∨ 0x100200000000 ≤ a ∧ a ≤ 0x17FFFFFFFFFF ∨
    0x180020000000 ≤ a ∧ a ≤ 0x1FFFFFFFFFFF → spaceOf a = .unmapped) ∧
  (∀ a : Nat, 0x200000000000 ≤ a → a ≤ 0xFFFFFFFFFFFF → spaceOf a = .control) ∧
  (∀ p l : Nat, p < 16 → l < 16 → (Space.spad (16 * p + l)).part = some p ∧ (Space.walnut (16 * p + l)).part = some p ∧
    (Space.hbm p).part = some p)

/-- Formats (R30, R36, R39 to R41): a finite code of a floating-point format of 16 bits or fewer converts to itself in every rounding and
overflow mode without a flag; an integer converts to INT8 with saturation at -128 and 127. -/
def Obligations.NumbersConvert : Prop :=
  (∀ (fmt : Format), fmt = .e4m3 ∨ fmt = .e5m2 ∨ fmt = .e2m1 ∨ fmt = .bf16 ∨ fmt = .fp16 →
    ∀ (c : Nat) (rnd : Rnd) (ovf : Overflow), c < 2 ^ fmtBits fmt → ∀ neg m e, decode fmt false (BitVec.ofNat 64 c) = .fin neg m e →
      encode fmt rnd ovf false (.fin neg m e) = (BitVec.ofNat 64 c, 0#4)) ∧
  (∀ (i : Int) (rnd : Rnd) (ovf : Overflow) (ftz : Bool), encode .int8 rnd ovf ftz (Num.ofInt i) =
    (BitVec.ofInt 64 (max (-128) (min 127 i) % 256), if -128 ≤ i ∧ i ≤ 127 then 0#4 else flOF ||| flNX))

/-- The Poppy generator (R92, R93): a fresh word advances the state by w modulo 2^64 and is its mix, as the pseudocode of R92 writes it; the
four 16-bit draws after a refill are the word's quarters from the least significant on, a 32-bit draw at position 16 skips to the upper
half, and a 64-bit draw takes a fresh word wherever the buffer stands. -/
def Obligations.PoppyDraws : Prop :=
  (∀ z : Word, poppyMix z =
    (let a := (z ^^^ (z >>> 30)) * 0xBF58476D1CE4E5B9#64
     let b := (a ^^^ (a >>> 27)) * 0x94D049BB133111EB#64
     b ^^^ (b >>> 31))) ∧
  (∀ l : Lane,
    (let st := l.state + 0x9E3779B97F4A7C15#64
     l.refill = ⟨st, poppyMix st, 0⟩ ∧ l.draw64 = (poppyMix st, ⟨st, poppyMix st, 64⟩) ∧
     (l.pos = 64 →
       (let d1 := l.draw16
        let d2 := d1.2.draw16
        let d3 := d2.2.draw16
        let d4 := d3.2.draw16
        d1.1 + 2 ^ 16 * d2.1 + 2 ^ 32 * d3.1 + 2 ^ 48 * d4.1 = (poppyMix st).toNat ∧ d1.1 < 2 ^ 16 ∧ d2.1 < 2 ^ 16 ∧ d3.1 < 2 ^ 16 ∧
        d4.2 = ⟨st, poppyMix st, 64⟩ ∧ d1.2.draw32.1 = (poppyMix st).toNat / 2 ^ 32 ∧ d1.2.draw32.2.pos = 64))))
end

