-- ==== Sys2Proof/Laws/Exec.lean ====
section
/-! SUPPORT. What every command's answer has in common. -/

namespace Sys2Proof.Machine

set_option maxRecDepth 10000 in
set_option maxHeartbeats 400000 in
/-- Every command answers some state with the queue as it was. -/
theorem exec_outcome (c : Instr) (s : State) : ∃ t, exec c s = s.outcome t := by
  unfold exec
  cases c <;> exact ⟨_, rfl⟩

/-- The state that a command answers. -/
theorem exec_next (c : Instr) (s : State) : exec c s = .next (afterwards c s) := by
  obtain ⟨t, h⟩ := exec_outcome c s
  simp [afterwards, h, State.outcome]

/-- The queue after a command. -/
@[simp] theorem afterwards_pending (c : Instr) (s : State) : (afterwards c s).pending = s.pending := by
  obtain ⟨t, h⟩ := exec_outcome c s
  simp [afterwards, h, State.outcome]

end Sys2Proof.Machine
end

