-- ==== Sys2Proof/Laws/Mem.lean ====
section
/-! SUPPORT. What reading and writing memory do, and that every memory operation keeps the canonical form. -/

namespace Sys2Proof.Machine

/-! ## The canonical form -/

/-- The canonical form in words: rising addresses, and a listed zero only over a free fill. -/
theorem Mem.wf_iff (m : Mem) : m.wf ↔
    mrising m.cells = true ∧ ∀ kv ∈ m.cells, (fillOf m.fills kv.1).isSome = true ∨ kv.2 ≠ 0#8 := by
  simp [Mem.wf, Mem.ok, List.all_eq_true, -Prod.forall]

/-- Memory with nothing listed is canonical. -/
theorem Mem.empty_wf : Mem.empty.wf := rfl

/-! ## One byte -/

/-- Writing leaves the fills. -/
@[simp] theorem Mem.write_fills (m : Mem) (a : Nat) (v : Byte) : (m.write a v).fills = m.fills := by
  unfold Mem.write; split <;> rfl

/-- The background does not depend on the listed bytes. -/
@[simp] theorem Mem.write_background (m : Mem) (a b : Nat) (v : Byte) : (m.write a v).background b = m.background b := by
  simp [Mem.background]

/-- Reading after writing a byte. -/
@[simp] theorem Mem.read_write (m : Mem) (a b : Nat) (v : Byte) :
    (m.write a v).read b = if b = a then v else m.read b := by
  unfold Mem.read
  rw [Mem.write_background]
  unfold Mem.write
  split
  · rename_i h
    rcases eq_or_ne b a with rfl | hb
    · simp [Mem.background, h]
    · simp [mget_mset_ne, hb]
  · simp

/-- Writing a byte keeps the canonical form. -/
theorem Mem.write_wf (m : Mem) (a : Nat) (v : Byte) (h : m.wf) : (m.write a v).wf := by
  rw [Mem.wf_iff] at h ⊢
  refine ⟨?_, fun kv hk => ?_⟩
  · unfold Mem.write; split
    · exact mrising_mset _ _ _ _ h.1
    · exact mrising_mins _ _ _ h.1
  · rw [Mem.write_fills]
    unfold Mem.write at hk
    split at hk
    · rename_i hf
      simp only [mset] at hk
      split at hk
      · exact h.2 kv (mem_mdel _ _ _ hk)
      · rename_i hv
        rcases mem_mins _ _ _ _ hk with rfl | hm
        · exact .inr hv
        · exact h.2 kv hm
    · rename_i n hf
      rcases mem_mins _ _ _ _ hk with rfl | hm
      · exact .inl (by simp [hf])
      · exact h.2 kv hm

/-! ## Runs of bytes -/

/-- How many bytes a run reads. -/
@[simp] theorem Mem.readBytes_length (m : Mem) : ∀ (n a : Nat), (m.readBytes a n).length = n
  | 0, _ => rfl
  | n + 1, a => by simp [Mem.readBytes, Mem.readBytes_length m n]

/-- A run is its bytes. -/
theorem Mem.readBytes_eq (m m' : Mem) : ∀ (n a : Nat), (∀ i < n, m.read (a + i) = m'.read (a + i)) →
    m.readBytes a n = m'.readBytes a n
  | 0, _, _ => rfl
  | n + 1, a, h => by
    have h0 := h 0 (by omega)
    simp only [Nat.add_zero] at h0
    simp only [Mem.readBytes, h0]
    congr 1
    refine Mem.readBytes_eq m m' n (a + 1) fun i hi => ?_
    have := h (i + 1) (by omega)
    rwa [Nat.add_assoc, Nat.add_comm 1 i]

/-- Byte `i` of a run. -/
theorem Mem.readBytes_get (m : Mem) : ∀ (n a i : Nat), i < n → (m.readBytes a n)[i]? = some (m.read (a + i))
  | 0, _, _, h => absurd h (Nat.not_lt_zero _)
  | n + 1, a, 0, _ => by simp [Mem.readBytes]
  | n + 1, a, i + 1, h => by
    rw [Mem.readBytes, List.getElem?_cons_succ, Mem.readBytes_get m n (a + 1) i (by omega)]
    congr 2
    omega

/-- Writing a run leaves the fills. -/
@[simp] theorem Mem.writeBytes_fills : ∀ (bs : List Byte) (m : Mem) (a : Nat), (m.writeBytes a bs).fills = m.fills
  | [], _, _ => rfl
  | v :: vs, m, a => by rw [Mem.writeBytes, Mem.writeBytes_fills vs, Mem.write_fills]

/-- Reading a byte after writing a run. -/
theorem Mem.read_writeBytes : ∀ (bs : List Byte) (m : Mem) (a b : Nat),
    (m.writeBytes a bs).read b = if a ≤ b ∧ b < a + bs.length then bs.getD (b - a) 0#8 else m.read b
  | [], m, a, b => by
    rw [if_neg (by simp only [List.length_nil]; omega)]
    rfl
  | v :: vs, m, a, b => by
    rw [Mem.writeBytes, Mem.read_writeBytes vs, Mem.read_write]
    simp only [List.length_cons]
    by_cases h1 : a + 1 ≤ b ∧ b < a + 1 + vs.length
    · rw [if_pos h1, if_pos (by omega)]
      obtain ⟨k, rfl⟩ : ∃ k, b = a + 1 + k := ⟨b - (a + 1), by omega⟩
      rw [show a + 1 + k - (a + 1) = k by omega, show a + 1 + k - a = k + 1 by omega]
      simp
    · rw [if_neg h1]
      by_cases h2 : b = a
      · subst h2
        rw [if_pos rfl, if_pos (by omega)]
        simp
      · rw [if_neg h2, if_neg (by omega)]

/-- A byte outside a written run. -/
theorem Mem.read_writeBytes_out (m : Mem) (a b : Nat) (bs : List Byte) (h : b < a ∨ a + bs.length ≤ b) :
    (m.writeBytes a bs).read b = m.read b := by
  rw [Mem.read_writeBytes, if_neg (by omega)]

/-- A written run reads back. -/
theorem Mem.readBytes_writeBytes (m : Mem) (a : Nat) (bs : List Byte) : (m.writeBytes a bs).readBytes a bs.length = bs := by
  apply List.ext_getElem?
  intro i
  by_cases hi : i < bs.length
  · rw [Mem.readBytes_get _ _ _ _ hi, Mem.read_writeBytes, if_pos (by omega), Nat.add_sub_cancel_left]
    simp [List.getD, List.getElem?_eq_getElem hi]
  · rw [List.getElem?_eq_none (by simp; omega), List.getElem?_eq_none (by omega)]

/-- Writing a run keeps the canonical form. -/
theorem Mem.writeBytes_wf : ∀ (bs : List Byte) (m : Mem) (a : Nat), m.wf → (m.writeBytes a bs).wf
  | [], _, _, h => h
  | v :: vs, m, a, h => Mem.writeBytes_wf vs _ _ (Mem.write_wf m a v h)

/-- How many bytes a number takes. -/
@[simp] theorem leBytes_length : ∀ (n v : Nat), (leBytes n v).length = n
  | 0, _ => rfl
  | n + 1, v => by rw [leBytes, List.length_cons, leBytes_length n]

/-- Bytes of a number spell it (R9). -/
theorem leNat_leBytes : ∀ (n v : Nat), v < 256 ^ n → leNat (leBytes n v) = v
  | 0, v, h => by simp only [Nat.pow_zero, Nat.lt_one_iff] at h; subst h; rfl
  | n + 1, v, h => by
    rw [leBytes, leNat, leNat_leBytes n (v / 256) (by rw [Nat.pow_succ] at h; omega), BitVec.toNat_ofNat]
    omega

/-- A written number reads back (R9). -/
theorem Mem.readLE_writeLE (m : Mem) (a n v : Nat) (h : v < 256 ^ n) : (m.writeLE a n v).readLE a n = v := by
  have := Mem.readBytes_writeBytes m a (leBytes n v)
  rw [leBytes_length] at this
  rw [Mem.readLE, Mem.writeLE, this, leNat_leBytes n v h]

/-- Writing a number keeps the canonical form. -/
theorem Mem.writeLE_wf (m : Mem) (a n v : Nat) (h : m.wf) : (m.writeLE a n v).wf := Mem.writeBytes_wf _ _ _ h

/-! ## Ranges -/

/-- Reading a table whose keys in a range are dropped. -/
theorem mget_mclear {α : Type} (d : α) (lo hi : Nat) (j : Nat) : ∀ m : SMap α,
    mget d (mclear m lo hi) j = if lo ≤ j ∧ j < hi then d else mget d m j
  | [] => by simp [mclear]
  | (k, v) :: m => by
    have ih := mget_mclear d lo hi j m
    unfold mclear at ih ⊢
    by_cases hk : lo ≤ k ∧ k < hi
    · rw [List.filter_cons_of_neg (by simp [hk.1, hk.2]), ih]
      by_cases hj : lo ≤ j ∧ j < hi
      · rw [if_pos hj, if_pos hj]
      · rw [if_neg hj, if_neg hj, mget, if_neg (by rintro rfl; exact hj hk)]
    · rw [List.filter_cons_of_pos (by simp; omega), mget, ih]
      by_cases hj : k = j
      · subst hj; rw [if_pos rfl, if_neg hk, mget, if_pos rfl]
      · rw [if_neg hj, mget, if_neg hj]

/-- A fill that lies inside a range does not reach an address outside it. -/
theorem fillOf_filter_out (base len a : Nat) (h : ¬(base ≤ a ∧ a < base + len)) : ∀ fs : List Fill,
    fillOf (fs.filter fun f => !f.within base len) a = fillOf fs a
  | [] => rfl
  | f :: fs => by
    by_cases hw : f.within base len = true
    · rw [List.filter_cons_of_neg (by simp [hw]), fillOf_filter_out base len a h fs, fillOf, if_neg]
      simp only [Fill.within, Bool.and_eq_true, decide_eq_true_eq] at hw
      omega
    · rw [List.filter_cons_of_pos (by simpa using hw), fillOf, fillOf, fillOf_filter_out base len a h fs]

/-- Fills that do not meet a range leave its addresses at zero. -/
theorem fillOf_none_of_not_meets (base len a : Nat) (h : base ≤ a ∧ a < base + len) : ∀ fs : List Fill,
    (fs.any fun f => f.meets base len) = false → fillOf fs a = none
  | [], _ => rfl
  | f :: fs, hf => by
    rw [List.any_cons, Bool.or_eq_false_iff] at hf
    rw [fillOf, if_neg, fillOf_none_of_not_meets base len a h fs hf.2]
    have := hf.1
    simp only [Fill.meets, Bool.and_eq_false_iff, decide_eq_false_iff_not] at this
    omega

/-- Filling drops the listed bytes of its range. -/
theorem Mem.fill_cells (m : Mem) (base len : Nat) (serial : Option Nat) :
    (m.fill base len serial).cells = mclear m.cells base (base + len) := by
  unfold Mem.fill
  simp only []
  split <;> rfl

/-- Which fill covers an address after a range is filled. -/
theorem Mem.fill_fillOf (m : Mem) (base len : Nat) (serial : Option Nat) (a : Nat) :
    fillOf (m.fill base len serial).fills a = if base ≤ a ∧ a < base + len then serial else fillOf m.fills a := by
  unfold Mem.fill
  simp only []
  split
  · rw [fillOf]
    by_cases h : base ≤ a ∧ a < base + len
    · rw [if_pos h, if_pos h]
    · rw [if_neg h, if_neg h, fillOf_filter_out base len a h]
  · rename_i hs
    simp only [Bool.or_eq_true, not_or, Bool.not_eq_true] at hs
    by_cases h : base ≤ a ∧ a < base + len
    · rw [if_pos h, fillOf_none_of_not_meets base len a h _ hs.2]
      cases serial with
      | none => rfl
      | some n => simp at hs
    · rw [if_neg h, fillOf_filter_out base len a h]

/-- Reading a byte after a range is filled. -/
theorem Mem.read_fill (m : Mem) (base len : Nat) (serial : Option Nat) (a : Nat) :
    (m.fill base len serial).read a =
      if base ≤ a ∧ a < base + len then (match serial with
        | none => 0#8
        | some n => Config.freeByte n a) else m.read a := by
  unfold Mem.read Mem.background
  rw [Mem.fill_fillOf, Mem.fill_cells, mget_mclear]
  by_cases h : base ≤ a ∧ a < base + len
  · cases serial <;> simp only [if_pos h]
  · simp only [if_neg h]

/-- Reading a byte after a range is zeroed. -/
theorem Mem.read_zero (m : Mem) (base len a : Nat) :
    (m.zero base len).read a = if base ≤ a ∧ a < base + len then 0#8 else m.read a := Mem.read_fill m base len none a

/-- Filling a range keeps the canonical form. -/
theorem Mem.fill_wf (m : Mem) (base len : Nat) (serial : Option Nat) (h : m.wf) : (m.fill base len serial).wf := by
  rw [Mem.wf_iff] at h ⊢
  have hc : ∀ kv ∈ mclear m.cells base (base + len), kv ∈ m.cells ∧ ¬(base ≤ kv.1 ∧ kv.1 < base + len) := by
    intro kv hk
    obtain ⟨h1, h2⟩ := List.mem_filter.1 hk
    refine ⟨h1, ?_⟩
    simp only [Bool.not_eq_true', Bool.and_eq_false_iff, decide_eq_false_iff_not] at h2
    omega
  unfold Mem.fill
  simp only []
  split
  · refine ⟨mrising_filter _ _ h.1, fun kv hk => ?_⟩
    obtain ⟨h1, h2⟩ := hc kv hk
    rw [fillOf, if_neg h2, fillOf_filter_out base len _ h2]
    exact h.2 kv h1
  · refine ⟨mrising_filter _ _ h.1, fun kv hk => ?_⟩
    obtain ⟨h1, h2⟩ := hc kv hk
    rw [fillOf_filter_out base len _ h2]
    exact h.2 kv h1

/-- Zeroing a range keeps the canonical form. -/
theorem Mem.zero_wf (m : Mem) (base len : Nat) (h : m.wf) : (m.zero base len).wf := Mem.fill_wf m base len none h

/-- A kept range lies in its range: an address outside it has no fill of it. -/
theorem fillOf_clip_out (base len a : Nat) (h : ¬(base ≤ a ∧ a < base + len)) (gs : List Fill) : ∀ fs : List Fill,
    fillOf ((fs.map fun f => f.clip base len) ++ gs) a = fillOf gs a
  | [] => rfl
  | f :: fs => by
    rw [List.map_cons, List.cons_append, fillOf, if_neg, fillOf_clip_out base len a h gs fs]
    simp only [Fill.clip]
    omega

/-- Writes of a list of bytes keep the canonical form. -/
theorem Mem.writes_wf : ∀ (l : List (Nat × Byte)) (m : Mem), m.wf →
    (l.foldl (fun (acc : Mem) kv => acc.write kv.1 kv.2) m).wf
  | [], _, h => h
  | kv :: l, m, h => Mem.writes_wf l _ (Mem.write_wf m kv.1 kv.2 h)

/-- Putting a kept range back keeps the canonical form. -/
theorem Mem.put_wf (m : Mem) (base len : Nat) (kept : Mem) (h : m.wf) : (m.put base len kept).wf := by
  unfold Mem.put
  refine Mem.writes_wf _ _ ?_
  have hz := (Mem.wf_iff _).1 (Mem.zero_wf m base len h)
  rw [Mem.wf_iff]
  refine ⟨hz.1, fun kv hk => ?_⟩
  have hout : ¬(base ≤ kv.1 ∧ kv.1 < base + len) := by
    have : kv ∈ mclear m.cells base (base + len) := by
      unfold Mem.zero Mem.fill at hk
      simp only [] at hk
      split at hk <;> exact hk
    obtain ⟨-, h2⟩ := List.mem_filter.1 this
    simp only [Bool.not_eq_true', Bool.and_eq_false_iff, decide_eq_false_iff_not] at h2
    omega
  simp only [Mem.take]
  rw [fillOf_clip_out base len _ hout]
  exact hz.2 kv hk

/-- A kept range is canonical. -/
theorem Mem.take_wf (m : Mem) (base len : Nat) (h : m.wf) : (m.take base len).wf := by
  rw [Mem.wf_iff] at h ⊢
  refine ⟨mrising_filter _ _ h.1, fun kv hk => ?_⟩
  obtain ⟨h1, h2⟩ := List.mem_filter.1 hk
  simp only [Bool.and_eq_true, decide_eq_true_eq] at h2
  rcases h.2 kv h1 with hf | hf
  · left
    have key : ∀ fs : List Fill, fillOf ((fs.filter fun f => f.meets base len).map fun f => f.clip base len) kv.1 = fillOf fs kv.1 := by
      intro fs
      induction fs with
      | nil => rfl
      | cons f fs ih =>
        by_cases hm : f.meets base len = true
        · rw [List.filter_cons_of_pos (by simpa using hm), List.map_cons, fillOf, fillOf, ih]
          have hc : ((f.clip base len).base ≤ kv.1 ∧ kv.1 < (f.clip base len).base + (f.clip base len).len) ↔
              (f.base ≤ kv.1 ∧ kv.1 < f.base + f.len) := by
            simp only [Fill.clip]
            omega
          rw [show (f.clip base len).serial = f.serial from rfl]
          by_cases hb : f.base ≤ kv.1 ∧ kv.1 < f.base + f.len
          · rw [if_pos hb, if_pos (hc.2 hb)]
          · rw [if_neg hb, if_neg (mt hc.1 hb)]
        · rw [List.filter_cons_of_neg (by simpa using hm), fillOf, ih, if_neg]
          simp only [Fill.meets, Bool.and_eq_true, decide_eq_true_eq] at hm
          omega
    simp only [Mem.take, key, hf]
  · exact .inr hf

end Sys2Proof.Machine
end

