-- ==== Sys2Proof/Laws/Read.lean ====
section
/-! SUPPORT. What reading a register, a table entry or a unit gives after an update of another part of the state. -/

namespace Sys2Proof.Machine

variable (s : State)

/-! ## wr -/

@[simp] theorem State.wr_core (k : Nat) (v : Word) (j0 : Nat) : (s.wr k v).core j0 = s.core j0 := rfl
@[simp] theorem State.wr_func (k : Nat) (v : Word) (j0 : Nat) : (s.wr k v).func j0 = s.func j0 := rfl
@[simp] theorem State.wr_prog (k : Nat) (v : Word) (j0 j1 : Nat) : (s.wr k v).prog j0 j1 = s.prog j0 j1 := rfl
@[simp] theorem State.wr_slot (k : Nat) (v : Word) (j0 j1 : Nat) : (s.wr k v).slot j0 j1 = s.slot j0 j1 := rfl
@[simp] theorem State.wr_ctx (k : Nat) (v : Word) (j0 : Nat) : (s.wr k v).ctx j0 = s.ctx j0 := rfl
@[simp] theorem State.wr_launch (k : Nat) (v : Word) (j0 : Nat) : (s.wr k v).launch j0 = s.launch j0 := rfl
@[simp] theorem State.wr_region (k : Nat) (v : Word) (j0 j1 : Nat) : (s.wr k v).region j0 j1 = s.region j0 j1 := rfl
@[simp] theorem State.wr_fence (k : Nat) (v : Word) (j0 : Nat) : (s.wr k v).fence j0 = s.fence j0 := rfl
@[simp] theorem State.wr_microBatches (k : Nat) (v : Word) (j0 : Nat) : (s.wr k v).microBatches j0 = s.microBatches j0 := rfl
@[simp] theorem State.wr_chan (k : Nat) (v : Word) (j0 : Nat) : (s.wr k v).chan j0 = s.chan j0 := rfl
@[simp] theorem State.wr_loader (k : Nat) (v : Word) (j0 : Nat) : (s.wr k v).loader j0 = s.loader j0 := rfl
@[simp] theorem State.wr_cs (k : Nat) (v : Word) (j0 : Nat) : (s.wr k v).cs j0 = s.cs j0 := rfl
@[simp] theorem State.wr_port (k : Nat) (v : Word) (j0 : Nat) : (s.wr k v).port j0 = s.port j0 := rfl

/-! ## setCore -/

@[simp] theorem State.setCore_rd (c : Nat) (x : CoreSt) (j0 : Nat) : (s.setCore c x).rd j0 = s.rd j0 := rfl
@[simp] theorem State.setCore_func (c : Nat) (x : CoreSt) (j0 : Nat) : (s.setCore c x).func j0 = s.func j0 := rfl
@[simp] theorem State.setCore_prog (c : Nat) (x : CoreSt) (j0 j1 : Nat) : (s.setCore c x).prog j0 j1 = s.prog j0 j1 := rfl
@[simp] theorem State.setCore_slot (c : Nat) (x : CoreSt) (j0 j1 : Nat) : (s.setCore c x).slot j0 j1 = s.slot j0 j1 := rfl
@[simp] theorem State.setCore_ctx (c : Nat) (x : CoreSt) (j0 : Nat) : (s.setCore c x).ctx j0 = s.ctx j0 := rfl
@[simp] theorem State.setCore_launch (c : Nat) (x : CoreSt) (j0 : Nat) : (s.setCore c x).launch j0 = s.launch j0 := rfl
@[simp] theorem State.setCore_region (c : Nat) (x : CoreSt) (j0 j1 : Nat) : (s.setCore c x).region j0 j1 = s.region j0 j1 := rfl
@[simp] theorem State.setCore_fence (c : Nat) (x : CoreSt) (j0 : Nat) : (s.setCore c x).fence j0 = s.fence j0 := rfl
@[simp] theorem State.setCore_microBatches (c : Nat) (x : CoreSt) (j0 : Nat) : (s.setCore c x).microBatches j0 = s.microBatches j0 := rfl
@[simp] theorem State.setCore_chan (c : Nat) (x : CoreSt) (j0 : Nat) : (s.setCore c x).chan j0 = s.chan j0 := rfl
@[simp] theorem State.setCore_loader (c : Nat) (x : CoreSt) (j0 : Nat) : (s.setCore c x).loader j0 = s.loader j0 := rfl
@[simp] theorem State.setCore_cs (c : Nat) (x : CoreSt) (j0 : Nat) : (s.setCore c x).cs j0 = s.cs j0 := rfl
@[simp] theorem State.setCore_port (c : Nat) (x : CoreSt) (j0 : Nat) : (s.setCore c x).port j0 = s.port j0 := rfl

/-! ## setFunc -/

@[simp] theorem State.setFunc_rd (f : Nat) (x : FuncSt) (j0 : Nat) : (s.setFunc f x).rd j0 = s.rd j0 := rfl
@[simp] theorem State.setFunc_core (f : Nat) (x : FuncSt) (j0 : Nat) : (s.setFunc f x).core j0 = s.core j0 := rfl
@[simp] theorem State.setFunc_prog (f : Nat) (x : FuncSt) (j0 j1 : Nat) : (s.setFunc f x).prog j0 j1 = s.prog j0 j1 := rfl
@[simp] theorem State.setFunc_slot (f : Nat) (x : FuncSt) (j0 j1 : Nat) : (s.setFunc f x).slot j0 j1 = s.slot j0 j1 := rfl
@[simp] theorem State.setFunc_ctx (f : Nat) (x : FuncSt) (j0 : Nat) : (s.setFunc f x).ctx j0 = s.ctx j0 := rfl
@[simp] theorem State.setFunc_launch (f : Nat) (x : FuncSt) (j0 : Nat) : (s.setFunc f x).launch j0 = s.launch j0 := rfl
@[simp] theorem State.setFunc_region (f : Nat) (x : FuncSt) (j0 j1 : Nat) : (s.setFunc f x).region j0 j1 = s.region j0 j1 := rfl
@[simp] theorem State.setFunc_fence (f : Nat) (x : FuncSt) (j0 : Nat) : (s.setFunc f x).fence j0 = s.fence j0 := rfl
@[simp] theorem State.setFunc_microBatches (f : Nat) (x : FuncSt) (j0 : Nat) : (s.setFunc f x).microBatches j0 = s.microBatches j0 := rfl
@[simp] theorem State.setFunc_chan (f : Nat) (x : FuncSt) (j0 : Nat) : (s.setFunc f x).chan j0 = s.chan j0 := rfl
@[simp] theorem State.setFunc_loader (f : Nat) (x : FuncSt) (j0 : Nat) : (s.setFunc f x).loader j0 = s.loader j0 := rfl
@[simp] theorem State.setFunc_cs (f : Nat) (x : FuncSt) (j0 : Nat) : (s.setFunc f x).cs j0 = s.cs j0 := rfl
@[simp] theorem State.setFunc_port (f : Nat) (x : FuncSt) (j0 : Nat) : (s.setFunc f x).port j0 = s.port j0 := rfl

/-! ## setProg -/

@[simp] theorem State.setProg_rd (p n : Nat) (x : Prog) (j0 : Nat) : (s.setProg p n x).rd j0 = s.rd j0 := rfl
@[simp] theorem State.setProg_core (p n : Nat) (x : Prog) (j0 : Nat) : (s.setProg p n x).core j0 = s.core j0 := rfl
@[simp] theorem State.setProg_func (p n : Nat) (x : Prog) (j0 : Nat) : (s.setProg p n x).func j0 = s.func j0 := rfl
@[simp] theorem State.setProg_slot (p n : Nat) (x : Prog) (j0 j1 : Nat) : (s.setProg p n x).slot j0 j1 = s.slot j0 j1 := rfl
@[simp] theorem State.setProg_ctx (p n : Nat) (x : Prog) (j0 : Nat) : (s.setProg p n x).ctx j0 = s.ctx j0 := rfl
@[simp] theorem State.setProg_launch (p n : Nat) (x : Prog) (j0 : Nat) : (s.setProg p n x).launch j0 = s.launch j0 := rfl
@[simp] theorem State.setProg_region (p n : Nat) (x : Prog) (j0 j1 : Nat) : (s.setProg p n x).region j0 j1 = s.region j0 j1 := rfl
@[simp] theorem State.setProg_fence (p n : Nat) (x : Prog) (j0 : Nat) : (s.setProg p n x).fence j0 = s.fence j0 := rfl
@[simp] theorem State.setProg_microBatches (p n : Nat) (x : Prog) (j0 : Nat) : (s.setProg p n x).microBatches j0 = s.microBatches j0 := rfl
@[simp] theorem State.setProg_chan (p n : Nat) (x : Prog) (j0 : Nat) : (s.setProg p n x).chan j0 = s.chan j0 := rfl
@[simp] theorem State.setProg_loader (p n : Nat) (x : Prog) (j0 : Nat) : (s.setProg p n x).loader j0 = s.loader j0 := rfl
@[simp] theorem State.setProg_cs (p n : Nat) (x : Prog) (j0 : Nat) : (s.setProg p n x).cs j0 = s.cs j0 := rfl
@[simp] theorem State.setProg_port (p n : Nat) (x : Prog) (j0 : Nat) : (s.setProg p n x).port j0 = s.port j0 := rfl

/-! ## setSlot -/

@[simp] theorem State.setSlot_rd (p n : Nat) (x : LSlot) (j0 : Nat) : (s.setSlot p n x).rd j0 = s.rd j0 := rfl
@[simp] theorem State.setSlot_core (p n : Nat) (x : LSlot) (j0 : Nat) : (s.setSlot p n x).core j0 = s.core j0 := rfl
@[simp] theorem State.setSlot_func (p n : Nat) (x : LSlot) (j0 : Nat) : (s.setSlot p n x).func j0 = s.func j0 := rfl
@[simp] theorem State.setSlot_prog (p n : Nat) (x : LSlot) (j0 j1 : Nat) : (s.setSlot p n x).prog j0 j1 = s.prog j0 j1 := rfl
@[simp] theorem State.setSlot_ctx (p n : Nat) (x : LSlot) (j0 : Nat) : (s.setSlot p n x).ctx j0 = s.ctx j0 := rfl
@[simp] theorem State.setSlot_launch (p n : Nat) (x : LSlot) (j0 : Nat) : (s.setSlot p n x).launch j0 = s.launch j0 := rfl
@[simp] theorem State.setSlot_region (p n : Nat) (x : LSlot) (j0 j1 : Nat) : (s.setSlot p n x).region j0 j1 = s.region j0 j1 := rfl
@[simp] theorem State.setSlot_fence (p n : Nat) (x : LSlot) (j0 : Nat) : (s.setSlot p n x).fence j0 = s.fence j0 := rfl
@[simp] theorem State.setSlot_microBatches (p n : Nat) (x : LSlot) (j0 : Nat) : (s.setSlot p n x).microBatches j0 = s.microBatches j0 := rfl
@[simp] theorem State.setSlot_chan (p n : Nat) (x : LSlot) (j0 : Nat) : (s.setSlot p n x).chan j0 = s.chan j0 := rfl
@[simp] theorem State.setSlot_loader (p n : Nat) (x : LSlot) (j0 : Nat) : (s.setSlot p n x).loader j0 = s.loader j0 := rfl
@[simp] theorem State.setSlot_cs (p n : Nat) (x : LSlot) (j0 : Nat) : (s.setSlot p n x).cs j0 = s.cs j0 := rfl
@[simp] theorem State.setSlot_port (p n : Nat) (x : LSlot) (j0 : Nat) : (s.setSlot p n x).port j0 = s.port j0 := rfl

/-! ## setCtxE -/

@[simp] theorem State.setCtxE_rd (k : Nat) (x : Ctx) (j0 : Nat) : (s.setCtxE k x).rd j0 = s.rd j0 := rfl
@[simp] theorem State.setCtxE_core (k : Nat) (x : Ctx) (j0 : Nat) : (s.setCtxE k x).core j0 = s.core j0 := rfl
@[simp] theorem State.setCtxE_func (k : Nat) (x : Ctx) (j0 : Nat) : (s.setCtxE k x).func j0 = s.func j0 := rfl
@[simp] theorem State.setCtxE_prog (k : Nat) (x : Ctx) (j0 j1 : Nat) : (s.setCtxE k x).prog j0 j1 = s.prog j0 j1 := rfl
@[simp] theorem State.setCtxE_slot (k : Nat) (x : Ctx) (j0 j1 : Nat) : (s.setCtxE k x).slot j0 j1 = s.slot j0 j1 := rfl
@[simp] theorem State.setCtxE_launch (k : Nat) (x : Ctx) (j0 : Nat) : (s.setCtxE k x).launch j0 = s.launch j0 := rfl
@[simp] theorem State.setCtxE_region (k : Nat) (x : Ctx) (j0 j1 : Nat) : (s.setCtxE k x).region j0 j1 = s.region j0 j1 := rfl
@[simp] theorem State.setCtxE_fence (k : Nat) (x : Ctx) (j0 : Nat) : (s.setCtxE k x).fence j0 = s.fence j0 := rfl
@[simp] theorem State.setCtxE_microBatches (k : Nat) (x : Ctx) (j0 : Nat) : (s.setCtxE k x).microBatches j0 = s.microBatches j0 := rfl
@[simp] theorem State.setCtxE_chan (k : Nat) (x : Ctx) (j0 : Nat) : (s.setCtxE k x).chan j0 = s.chan j0 := rfl
@[simp] theorem State.setCtxE_loader (k : Nat) (x : Ctx) (j0 : Nat) : (s.setCtxE k x).loader j0 = s.loader j0 := rfl
@[simp] theorem State.setCtxE_cs (k : Nat) (x : Ctx) (j0 : Nat) : (s.setCtxE k x).cs j0 = s.cs j0 := rfl
@[simp] theorem State.setCtxE_port (k : Nat) (x : Ctx) (j0 : Nat) : (s.setCtxE k x).port j0 = s.port j0 := rfl

/-! ## setLaunch -/

@[simp] theorem State.setLaunch_rd (k : Nat) (l : Launch) (j0 : Nat) : (s.setLaunch k l).rd j0 = s.rd j0 := rfl
@[simp] theorem State.setLaunch_core (k : Nat) (l : Launch) (j0 : Nat) : (s.setLaunch k l).core j0 = s.core j0 := rfl
@[simp] theorem State.setLaunch_func (k : Nat) (l : Launch) (j0 : Nat) : (s.setLaunch k l).func j0 = s.func j0 := rfl
@[simp] theorem State.setLaunch_prog (k : Nat) (l : Launch) (j0 j1 : Nat) : (s.setLaunch k l).prog j0 j1 = s.prog j0 j1 := rfl
@[simp] theorem State.setLaunch_slot (k : Nat) (l : Launch) (j0 j1 : Nat) : (s.setLaunch k l).slot j0 j1 = s.slot j0 j1 := rfl
@[simp] theorem State.setLaunch_ctx (k : Nat) (l : Launch) (j0 : Nat) : (s.setLaunch k l).ctx j0 = s.ctx j0 := rfl
@[simp] theorem State.setLaunch_region (k : Nat) (l : Launch) (j0 j1 : Nat) : (s.setLaunch k l).region j0 j1 = s.region j0 j1 := rfl
@[simp] theorem State.setLaunch_fence (k : Nat) (l : Launch) (j0 : Nat) : (s.setLaunch k l).fence j0 = s.fence j0 := rfl
@[simp] theorem State.setLaunch_microBatches (k : Nat) (l : Launch) (j0 : Nat) : (s.setLaunch k l).microBatches j0 = s.microBatches j0 := rfl
@[simp] theorem State.setLaunch_chan (k : Nat) (l : Launch) (j0 : Nat) : (s.setLaunch k l).chan j0 = s.chan j0 := rfl
@[simp] theorem State.setLaunch_loader (k : Nat) (l : Launch) (j0 : Nat) : (s.setLaunch k l).loader j0 = s.loader j0 := rfl
@[simp] theorem State.setLaunch_cs (k : Nat) (l : Launch) (j0 : Nat) : (s.setLaunch k l).cs j0 = s.cs j0 := rfl
@[simp] theorem State.setLaunch_port (k : Nat) (l : Launch) (j0 : Nat) : (s.setLaunch k l).port j0 = s.port j0 := rfl

/-! ## setRegion -/

@[simp] theorem State.setRegion_rd (p r : Nat) (e : VEntry) (j0 : Nat) : (s.setRegion p r e).rd j0 = s.rd j0 := rfl
@[simp] theorem State.setRegion_core (p r : Nat) (e : VEntry) (j0 : Nat) : (s.setRegion p r e).core j0 = s.core j0 := rfl
@[simp] theorem State.setRegion_func (p r : Nat) (e : VEntry) (j0 : Nat) : (s.setRegion p r e).func j0 = s.func j0 := rfl
@[simp] theorem State.setRegion_prog (p r : Nat) (e : VEntry) (j0 j1 : Nat) : (s.setRegion p r e).prog j0 j1 = s.prog j0 j1 := rfl
@[simp] theorem State.setRegion_slot (p r : Nat) (e : VEntry) (j0 j1 : Nat) : (s.setRegion p r e).slot j0 j1 = s.slot j0 j1 := rfl
@[simp] theorem State.setRegion_ctx (p r : Nat) (e : VEntry) (j0 : Nat) : (s.setRegion p r e).ctx j0 = s.ctx j0 := rfl
@[simp] theorem State.setRegion_launch (p r : Nat) (e : VEntry) (j0 : Nat) : (s.setRegion p r e).launch j0 = s.launch j0 := rfl
@[simp] theorem State.setRegion_fence (p r : Nat) (e : VEntry) (j0 : Nat) : (s.setRegion p r e).fence j0 = s.fence j0 := rfl
@[simp] theorem State.setRegion_microBatches (p r : Nat) (e : VEntry) (j0 : Nat) : (s.setRegion p r e).microBatches j0 = s.microBatches j0 := rfl
@[simp] theorem State.setRegion_chan (p r : Nat) (e : VEntry) (j0 : Nat) : (s.setRegion p r e).chan j0 = s.chan j0 := rfl
@[simp] theorem State.setRegion_loader (p r : Nat) (e : VEntry) (j0 : Nat) : (s.setRegion p r e).loader j0 = s.loader j0 := rfl
@[simp] theorem State.setRegion_cs (p r : Nat) (e : VEntry) (j0 : Nat) : (s.setRegion p r e).cs j0 = s.cs j0 := rfl
@[simp] theorem State.setRegion_port (p r : Nat) (e : VEntry) (j0 : Nat) : (s.setRegion p r e).port j0 = s.port j0 := rfl

/-! ## setFence -/

@[simp] theorem State.setFence_rd (p : Nat) (f : StepFence) (j0 : Nat) : (s.setFence p f).rd j0 = s.rd j0 := rfl
@[simp] theorem State.setFence_core (p : Nat) (f : StepFence) (j0 : Nat) : (s.setFence p f).core j0 = s.core j0 := rfl
@[simp] theorem State.setFence_func (p : Nat) (f : StepFence) (j0 : Nat) : (s.setFence p f).func j0 = s.func j0 := rfl
@[simp] theorem State.setFence_prog (p : Nat) (f : StepFence) (j0 j1 : Nat) : (s.setFence p f).prog j0 j1 = s.prog j0 j1 := rfl
@[simp] theorem State.setFence_slot (p : Nat) (f : StepFence) (j0 j1 : Nat) : (s.setFence p f).slot j0 j1 = s.slot j0 j1 := rfl
@[simp] theorem State.setFence_ctx (p : Nat) (f : StepFence) (j0 : Nat) : (s.setFence p f).ctx j0 = s.ctx j0 := rfl
@[simp] theorem State.setFence_launch (p : Nat) (f : StepFence) (j0 : Nat) : (s.setFence p f).launch j0 = s.launch j0 := rfl
@[simp] theorem State.setFence_region (p : Nat) (f : StepFence) (j0 j1 : Nat) : (s.setFence p f).region j0 j1 = s.region j0 j1 := rfl
@[simp] theorem State.setFence_microBatches (p : Nat) (f : StepFence) (j0 : Nat) : (s.setFence p f).microBatches j0 = s.microBatches j0 := rfl
@[simp] theorem State.setFence_chan (p : Nat) (f : StepFence) (j0 : Nat) : (s.setFence p f).chan j0 = s.chan j0 := rfl
@[simp] theorem State.setFence_loader (p : Nat) (f : StepFence) (j0 : Nat) : (s.setFence p f).loader j0 = s.loader j0 := rfl
@[simp] theorem State.setFence_cs (p : Nat) (f : StepFence) (j0 : Nat) : (s.setFence p f).cs j0 = s.cs j0 := rfl
@[simp] theorem State.setFence_port (p : Nat) (f : StepFence) (j0 : Nat) : (s.setFence p f).port j0 = s.port j0 := rfl

/-! ## setMicroBatches -/

@[simp] theorem State.setMicroBatches_rd (p : Nat) (l : List MicroBatch) (j0 : Nat) : (s.setMicroBatches p l).rd j0 = s.rd j0 := rfl
@[simp] theorem State.setMicroBatches_core (p : Nat) (l : List MicroBatch) (j0 : Nat) : (s.setMicroBatches p l).core j0 = s.core j0 := rfl
@[simp] theorem State.setMicroBatches_func (p : Nat) (l : List MicroBatch) (j0 : Nat) : (s.setMicroBatches p l).func j0 = s.func j0 := rfl
@[simp] theorem State.setMicroBatches_prog (p : Nat) (l : List MicroBatch) (j0 j1 : Nat) : (s.setMicroBatches p l).prog j0 j1 = s.prog j0 j1 := rfl
@[simp] theorem State.setMicroBatches_slot (p : Nat) (l : List MicroBatch) (j0 j1 : Nat) : (s.setMicroBatches p l).slot j0 j1 = s.slot j0 j1 := rfl
@[simp] theorem State.setMicroBatches_ctx (p : Nat) (l : List MicroBatch) (j0 : Nat) : (s.setMicroBatches p l).ctx j0 = s.ctx j0 := rfl
@[simp] theorem State.setMicroBatches_launch (p : Nat) (l : List MicroBatch) (j0 : Nat) : (s.setMicroBatches p l).launch j0 = s.launch j0 := rfl
@[simp] theorem State.setMicroBatches_region (p : Nat) (l : List MicroBatch) (j0 j1 : Nat) : (s.setMicroBatches p l).region j0 j1 = s.region j0 j1 := rfl
@[simp] theorem State.setMicroBatches_fence (p : Nat) (l : List MicroBatch) (j0 : Nat) : (s.setMicroBatches p l).fence j0 = s.fence j0 := rfl
@[simp] theorem State.setMicroBatches_chan (p : Nat) (l : List MicroBatch) (j0 : Nat) : (s.setMicroBatches p l).chan j0 = s.chan j0 := rfl
@[simp] theorem State.setMicroBatches_loader (p : Nat) (l : List MicroBatch) (j0 : Nat) : (s.setMicroBatches p l).loader j0 = s.loader j0 := rfl
@[simp] theorem State.setMicroBatches_cs (p : Nat) (l : List MicroBatch) (j0 : Nat) : (s.setMicroBatches p l).cs j0 = s.cs j0 := rfl
@[simp] theorem State.setMicroBatches_port (p : Nat) (l : List MicroBatch) (j0 : Nat) : (s.setMicroBatches p l).port j0 = s.port j0 := rfl

/-! ## setChan -/

@[simp] theorem State.setChan_rd (k : Nat) (x : DmaCh) (j0 : Nat) : (s.setChan k x).rd j0 = s.rd j0 := rfl
@[simp] theorem State.setChan_core (k : Nat) (x : DmaCh) (j0 : Nat) : (s.setChan k x).core j0 = s.core j0 := rfl
@[simp] theorem State.setChan_func (k : Nat) (x : DmaCh) (j0 : Nat) : (s.setChan k x).func j0 = s.func j0 := rfl
@[simp] theorem State.setChan_prog (k : Nat) (x : DmaCh) (j0 j1 : Nat) : (s.setChan k x).prog j0 j1 = s.prog j0 j1 := rfl
@[simp] theorem State.setChan_slot (k : Nat) (x : DmaCh) (j0 j1 : Nat) : (s.setChan k x).slot j0 j1 = s.slot j0 j1 := rfl
@[simp] theorem State.setChan_ctx (k : Nat) (x : DmaCh) (j0 : Nat) : (s.setChan k x).ctx j0 = s.ctx j0 := rfl
@[simp] theorem State.setChan_launch (k : Nat) (x : DmaCh) (j0 : Nat) : (s.setChan k x).launch j0 = s.launch j0 := rfl
@[simp] theorem State.setChan_region (k : Nat) (x : DmaCh) (j0 j1 : Nat) : (s.setChan k x).region j0 j1 = s.region j0 j1 := rfl
@[simp] theorem State.setChan_fence (k : Nat) (x : DmaCh) (j0 : Nat) : (s.setChan k x).fence j0 = s.fence j0 := rfl
@[simp] theorem State.setChan_microBatches (k : Nat) (x : DmaCh) (j0 : Nat) : (s.setChan k x).microBatches j0 = s.microBatches j0 := rfl
@[simp] theorem State.setChan_loader (k : Nat) (x : DmaCh) (j0 : Nat) : (s.setChan k x).loader j0 = s.loader j0 := rfl
@[simp] theorem State.setChan_cs (k : Nat) (x : DmaCh) (j0 : Nat) : (s.setChan k x).cs j0 = s.cs j0 := rfl
@[simp] theorem State.setChan_port (k : Nat) (x : DmaCh) (j0 : Nat) : (s.setChan k x).port j0 = s.port j0 := rfl

/-! ## setLoader -/

@[simp] theorem State.setLoader_rd (p : Nat) (x : LoaderSt) (j0 : Nat) : (s.setLoader p x).rd j0 = s.rd j0 := rfl
@[simp] theorem State.setLoader_core (p : Nat) (x : LoaderSt) (j0 : Nat) : (s.setLoader p x).core j0 = s.core j0 := rfl
@[simp] theorem State.setLoader_func (p : Nat) (x : LoaderSt) (j0 : Nat) : (s.setLoader p x).func j0 = s.func j0 := rfl
@[simp] theorem State.setLoader_prog (p : Nat) (x : LoaderSt) (j0 j1 : Nat) : (s.setLoader p x).prog j0 j1 = s.prog j0 j1 := rfl
@[simp] theorem State.setLoader_slot (p : Nat) (x : LoaderSt) (j0 j1 : Nat) : (s.setLoader p x).slot j0 j1 = s.slot j0 j1 := rfl
@[simp] theorem State.setLoader_ctx (p : Nat) (x : LoaderSt) (j0 : Nat) : (s.setLoader p x).ctx j0 = s.ctx j0 := rfl
@[simp] theorem State.setLoader_launch (p : Nat) (x : LoaderSt) (j0 : Nat) : (s.setLoader p x).launch j0 = s.launch j0 := rfl
@[simp] theorem State.setLoader_region (p : Nat) (x : LoaderSt) (j0 j1 : Nat) : (s.setLoader p x).region j0 j1 = s.region j0 j1 := rfl
@[simp] theorem State.setLoader_fence (p : Nat) (x : LoaderSt) (j0 : Nat) : (s.setLoader p x).fence j0 = s.fence j0 := rfl
@[simp] theorem State.setLoader_microBatches (p : Nat) (x : LoaderSt) (j0 : Nat) : (s.setLoader p x).microBatches j0 = s.microBatches j0 := rfl
@[simp] theorem State.setLoader_chan (p : Nat) (x : LoaderSt) (j0 : Nat) : (s.setLoader p x).chan j0 = s.chan j0 := rfl
@[simp] theorem State.setLoader_cs (p : Nat) (x : LoaderSt) (j0 : Nat) : (s.setLoader p x).cs j0 = s.cs j0 := rfl
@[simp] theorem State.setLoader_port (p : Nat) (x : LoaderSt) (j0 : Nat) : (s.setLoader p x).port j0 = s.port j0 := rfl

/-! ## setCs -/

@[simp] theorem State.setCs_rd (j : Nat) (x : CollSlot) (j0 : Nat) : (s.setCs j x).rd j0 = s.rd j0 := rfl
@[simp] theorem State.setCs_core (j : Nat) (x : CollSlot) (j0 : Nat) : (s.setCs j x).core j0 = s.core j0 := rfl
@[simp] theorem State.setCs_func (j : Nat) (x : CollSlot) (j0 : Nat) : (s.setCs j x).func j0 = s.func j0 := rfl
@[simp] theorem State.setCs_prog (j : Nat) (x : CollSlot) (j0 j1 : Nat) : (s.setCs j x).prog j0 j1 = s.prog j0 j1 := rfl
@[simp] theorem State.setCs_slot (j : Nat) (x : CollSlot) (j0 j1 : Nat) : (s.setCs j x).slot j0 j1 = s.slot j0 j1 := rfl
@[simp] theorem State.setCs_ctx (j : Nat) (x : CollSlot) (j0 : Nat) : (s.setCs j x).ctx j0 = s.ctx j0 := rfl
@[simp] theorem State.setCs_launch (j : Nat) (x : CollSlot) (j0 : Nat) : (s.setCs j x).launch j0 = s.launch j0 := rfl
@[simp] theorem State.setCs_region (j : Nat) (x : CollSlot) (j0 j1 : Nat) : (s.setCs j x).region j0 j1 = s.region j0 j1 := rfl
@[simp] theorem State.setCs_fence (j : Nat) (x : CollSlot) (j0 : Nat) : (s.setCs j x).fence j0 = s.fence j0 := rfl
@[simp] theorem State.setCs_microBatches (j : Nat) (x : CollSlot) (j0 : Nat) : (s.setCs j x).microBatches j0 = s.microBatches j0 := rfl
@[simp] theorem State.setCs_chan (j : Nat) (x : CollSlot) (j0 : Nat) : (s.setCs j x).chan j0 = s.chan j0 := rfl
@[simp] theorem State.setCs_loader (j : Nat) (x : CollSlot) (j0 : Nat) : (s.setCs j x).loader j0 = s.loader j0 := rfl
@[simp] theorem State.setCs_port (j : Nat) (x : CollSlot) (j0 : Nat) : (s.setCs j x).port j0 = s.port j0 := rfl

/-! ## setPort -/

@[simp] theorem State.setPort_rd (n : Nat) (x : PortSt) (j0 : Nat) : (s.setPort n x).rd j0 = s.rd j0 := rfl
@[simp] theorem State.setPort_core (n : Nat) (x : PortSt) (j0 : Nat) : (s.setPort n x).core j0 = s.core j0 := rfl
@[simp] theorem State.setPort_func (n : Nat) (x : PortSt) (j0 : Nat) : (s.setPort n x).func j0 = s.func j0 := rfl
@[simp] theorem State.setPort_prog (n : Nat) (x : PortSt) (j0 j1 : Nat) : (s.setPort n x).prog j0 j1 = s.prog j0 j1 := rfl
@[simp] theorem State.setPort_slot (n : Nat) (x : PortSt) (j0 j1 : Nat) : (s.setPort n x).slot j0 j1 = s.slot j0 j1 := rfl
@[simp] theorem State.setPort_ctx (n : Nat) (x : PortSt) (j0 : Nat) : (s.setPort n x).ctx j0 = s.ctx j0 := rfl
@[simp] theorem State.setPort_launch (n : Nat) (x : PortSt) (j0 : Nat) : (s.setPort n x).launch j0 = s.launch j0 := rfl
@[simp] theorem State.setPort_region (n : Nat) (x : PortSt) (j0 j1 : Nat) : (s.setPort n x).region j0 j1 = s.region j0 j1 := rfl
@[simp] theorem State.setPort_fence (n : Nat) (x : PortSt) (j0 : Nat) : (s.setPort n x).fence j0 = s.fence j0 := rfl
@[simp] theorem State.setPort_microBatches (n : Nat) (x : PortSt) (j0 : Nat) : (s.setPort n x).microBatches j0 = s.microBatches j0 := rfl
@[simp] theorem State.setPort_chan (n : Nat) (x : PortSt) (j0 : Nat) : (s.setPort n x).chan j0 = s.chan j0 := rfl
@[simp] theorem State.setPort_loader (n : Nat) (x : PortSt) (j0 : Nat) : (s.setPort n x).loader j0 = s.loader j0 := rfl
@[simp] theorem State.setPort_cs (n : Nat) (x : PortSt) (j0 : Nat) : (s.setPort n x).cs j0 = s.cs j0 := rfl

/-! ## modFab -/

@[simp] theorem State.modFab_rd (f : FabricSt → FabricSt) (j0 : Nat) : (s.modFab f).rd j0 = s.rd j0 := rfl
@[simp] theorem State.modFab_core (f : FabricSt → FabricSt) (j0 : Nat) : (s.modFab f).core j0 = s.core j0 := rfl
@[simp] theorem State.modFab_func (f : FabricSt → FabricSt) (j0 : Nat) : (s.modFab f).func j0 = s.func j0 := rfl
@[simp] theorem State.modFab_prog (f : FabricSt → FabricSt) (j0 j1 : Nat) : (s.modFab f).prog j0 j1 = s.prog j0 j1 := rfl
@[simp] theorem State.modFab_slot (f : FabricSt → FabricSt) (j0 j1 : Nat) : (s.modFab f).slot j0 j1 = s.slot j0 j1 := rfl
@[simp] theorem State.modFab_ctx (f : FabricSt → FabricSt) (j0 : Nat) : (s.modFab f).ctx j0 = s.ctx j0 := rfl
@[simp] theorem State.modFab_launch (f : FabricSt → FabricSt) (j0 : Nat) : (s.modFab f).launch j0 = s.launch j0 := rfl
@[simp] theorem State.modFab_region (f : FabricSt → FabricSt) (j0 j1 : Nat) : (s.modFab f).region j0 j1 = s.region j0 j1 := rfl
@[simp] theorem State.modFab_fence (f : FabricSt → FabricSt) (j0 : Nat) : (s.modFab f).fence j0 = s.fence j0 := rfl
@[simp] theorem State.modFab_microBatches (f : FabricSt → FabricSt) (j0 : Nat) : (s.modFab f).microBatches j0 = s.microBatches j0 := rfl
@[simp] theorem State.modFab_chan (f : FabricSt → FabricSt) (j0 : Nat) : (s.modFab f).chan j0 = s.chan j0 := rfl
@[simp] theorem State.modFab_loader (f : FabricSt → FabricSt) (j0 : Nat) : (s.modFab f).loader j0 = s.loader j0 := rfl
@[simp] theorem State.modFab_cs (f : FabricSt → FabricSt) (j0 : Nat) : (s.modFab f).cs j0 = s.cs j0 := rfl

/-! ## modMgmt -/

@[simp] theorem State.modMgmt_rd (f : MgmtSt → MgmtSt) (j0 : Nat) : (s.modMgmt f).rd j0 = s.rd j0 := rfl
@[simp] theorem State.modMgmt_core (f : MgmtSt → MgmtSt) (j0 : Nat) : (s.modMgmt f).core j0 = s.core j0 := rfl
@[simp] theorem State.modMgmt_func (f : MgmtSt → MgmtSt) (j0 : Nat) : (s.modMgmt f).func j0 = s.func j0 := rfl
@[simp] theorem State.modMgmt_prog (f : MgmtSt → MgmtSt) (j0 j1 : Nat) : (s.modMgmt f).prog j0 j1 = s.prog j0 j1 := rfl
@[simp] theorem State.modMgmt_slot (f : MgmtSt → MgmtSt) (j0 j1 : Nat) : (s.modMgmt f).slot j0 j1 = s.slot j0 j1 := rfl
@[simp] theorem State.modMgmt_ctx (f : MgmtSt → MgmtSt) (j0 : Nat) : (s.modMgmt f).ctx j0 = s.ctx j0 := rfl
@[simp] theorem State.modMgmt_launch (f : MgmtSt → MgmtSt) (j0 : Nat) : (s.modMgmt f).launch j0 = s.launch j0 := rfl
@[simp] theorem State.modMgmt_region (f : MgmtSt → MgmtSt) (j0 j1 : Nat) : (s.modMgmt f).region j0 j1 = s.region j0 j1 := rfl
@[simp] theorem State.modMgmt_fence (f : MgmtSt → MgmtSt) (j0 : Nat) : (s.modMgmt f).fence j0 = s.fence j0 := rfl
@[simp] theorem State.modMgmt_microBatches (f : MgmtSt → MgmtSt) (j0 : Nat) : (s.modMgmt f).microBatches j0 = s.microBatches j0 := rfl
@[simp] theorem State.modMgmt_chan (f : MgmtSt → MgmtSt) (j0 : Nat) : (s.modMgmt f).chan j0 = s.chan j0 := rfl
@[simp] theorem State.modMgmt_loader (f : MgmtSt → MgmtSt) (j0 : Nat) : (s.modMgmt f).loader j0 = s.loader j0 := rfl
@[simp] theorem State.modMgmt_cs (f : MgmtSt → MgmtSt) (j0 : Nat) : (s.modMgmt f).cs j0 = s.cs j0 := rfl
@[simp] theorem State.modMgmt_port (f : MgmtSt → MgmtSt) (j0 : Nat) : (s.modMgmt f).port j0 = s.port j0 := rfl

/-! ## modSec -/

@[simp] theorem State.modSec_rd (f : SecSt → SecSt) (j0 : Nat) : (s.modSec f).rd j0 = s.rd j0 := rfl
@[simp] theorem State.modSec_core (f : SecSt → SecSt) (j0 : Nat) : (s.modSec f).core j0 = s.core j0 := rfl
@[simp] theorem State.modSec_func (f : SecSt → SecSt) (j0 : Nat) : (s.modSec f).func j0 = s.func j0 := rfl
@[simp] theorem State.modSec_prog (f : SecSt → SecSt) (j0 j1 : Nat) : (s.modSec f).prog j0 j1 = s.prog j0 j1 := rfl
@[simp] theorem State.modSec_slot (f : SecSt → SecSt) (j0 j1 : Nat) : (s.modSec f).slot j0 j1 = s.slot j0 j1 := rfl
@[simp] theorem State.modSec_ctx (f : SecSt → SecSt) (j0 : Nat) : (s.modSec f).ctx j0 = s.ctx j0 := rfl
@[simp] theorem State.modSec_launch (f : SecSt → SecSt) (j0 : Nat) : (s.modSec f).launch j0 = s.launch j0 := rfl
@[simp] theorem State.modSec_region (f : SecSt → SecSt) (j0 j1 : Nat) : (s.modSec f).region j0 j1 = s.region j0 j1 := rfl
@[simp] theorem State.modSec_fence (f : SecSt → SecSt) (j0 : Nat) : (s.modSec f).fence j0 = s.fence j0 := rfl
@[simp] theorem State.modSec_microBatches (f : SecSt → SecSt) (j0 : Nat) : (s.modSec f).microBatches j0 = s.microBatches j0 := rfl
@[simp] theorem State.modSec_chan (f : SecSt → SecSt) (j0 : Nat) : (s.modSec f).chan j0 = s.chan j0 := rfl
@[simp] theorem State.modSec_loader (f : SecSt → SecSt) (j0 : Nat) : (s.modSec f).loader j0 = s.loader j0 := rfl
@[simp] theorem State.modSec_cs (f : SecSt → SecSt) (j0 : Nat) : (s.modSec f).cs j0 = s.cs j0 := rfl
@[simp] theorem State.modSec_port (f : SecSt → SecSt) (j0 : Nat) : (s.modSec f).port j0 = s.port j0 := rfl

/-! ## modHang -/

@[simp] theorem State.modHang_rd (f : HangSt → HangSt) (j0 : Nat) : (s.modHang f).rd j0 = s.rd j0 := rfl
@[simp] theorem State.modHang_core (f : HangSt → HangSt) (j0 : Nat) : (s.modHang f).core j0 = s.core j0 := rfl
@[simp] theorem State.modHang_func (f : HangSt → HangSt) (j0 : Nat) : (s.modHang f).func j0 = s.func j0 := rfl
@[simp] theorem State.modHang_prog (f : HangSt → HangSt) (j0 j1 : Nat) : (s.modHang f).prog j0 j1 = s.prog j0 j1 := rfl
@[simp] theorem State.modHang_slot (f : HangSt → HangSt) (j0 j1 : Nat) : (s.modHang f).slot j0 j1 = s.slot j0 j1 := rfl
@[simp] theorem State.modHang_ctx (f : HangSt → HangSt) (j0 : Nat) : (s.modHang f).ctx j0 = s.ctx j0 := rfl
@[simp] theorem State.modHang_launch (f : HangSt → HangSt) (j0 : Nat) : (s.modHang f).launch j0 = s.launch j0 := rfl
@[simp] theorem State.modHang_region (f : HangSt → HangSt) (j0 j1 : Nat) : (s.modHang f).region j0 j1 = s.region j0 j1 := rfl
@[simp] theorem State.modHang_fence (f : HangSt → HangSt) (j0 : Nat) : (s.modHang f).fence j0 = s.fence j0 := rfl
@[simp] theorem State.modHang_microBatches (f : HangSt → HangSt) (j0 : Nat) : (s.modHang f).microBatches j0 = s.microBatches j0 := rfl
@[simp] theorem State.modHang_chan (f : HangSt → HangSt) (j0 : Nat) : (s.modHang f).chan j0 = s.chan j0 := rfl
@[simp] theorem State.modHang_loader (f : HangSt → HangSt) (j0 : Nat) : (s.modHang f).loader j0 = s.loader j0 := rfl
@[simp] theorem State.modHang_cs (f : HangSt → HangSt) (j0 : Nat) : (s.modHang f).cs j0 = s.cs j0 := rfl
@[simp] theorem State.modHang_port (f : HangSt → HangSt) (j0 : Nat) : (s.modHang f).port j0 = s.port j0 := rfl

/-! ## modHealth -/

@[simp] theorem State.modHealth_rd (f : HealthSt → HealthSt) (j0 : Nat) : (s.modHealth f).rd j0 = s.rd j0 := rfl
@[simp] theorem State.modHealth_core (f : HealthSt → HealthSt) (j0 : Nat) : (s.modHealth f).core j0 = s.core j0 := rfl
@[simp] theorem State.modHealth_func (f : HealthSt → HealthSt) (j0 : Nat) : (s.modHealth f).func j0 = s.func j0 := rfl
@[simp] theorem State.modHealth_prog (f : HealthSt → HealthSt) (j0 j1 : Nat) : (s.modHealth f).prog j0 j1 = s.prog j0 j1 := rfl
@[simp] theorem State.modHealth_slot (f : HealthSt → HealthSt) (j0 j1 : Nat) : (s.modHealth f).slot j0 j1 = s.slot j0 j1 := rfl
@[simp] theorem State.modHealth_ctx (f : HealthSt → HealthSt) (j0 : Nat) : (s.modHealth f).ctx j0 = s.ctx j0 := rfl
@[simp] theorem State.modHealth_launch (f : HealthSt → HealthSt) (j0 : Nat) : (s.modHealth f).launch j0 = s.launch j0 := rfl
@[simp] theorem State.modHealth_region (f : HealthSt → HealthSt) (j0 j1 : Nat) : (s.modHealth f).region j0 j1 = s.region j0 j1 := rfl
@[simp] theorem State.modHealth_fence (f : HealthSt → HealthSt) (j0 : Nat) : (s.modHealth f).fence j0 = s.fence j0 := rfl
@[simp] theorem State.modHealth_microBatches (f : HealthSt → HealthSt) (j0 : Nat) : (s.modHealth f).microBatches j0 = s.microBatches j0 := rfl
@[simp] theorem State.modHealth_chan (f : HealthSt → HealthSt) (j0 : Nat) : (s.modHealth f).chan j0 = s.chan j0 := rfl
@[simp] theorem State.modHealth_loader (f : HealthSt → HealthSt) (j0 : Nat) : (s.modHealth f).loader j0 = s.loader j0 := rfl
@[simp] theorem State.modHealth_cs (f : HealthSt → HealthSt) (j0 : Nat) : (s.modHealth f).cs j0 = s.cs j0 := rfl
@[simp] theorem State.modHealth_port (f : HealthSt → HealthSt) (j0 : Nat) : (s.modHealth f).port j0 = s.port j0 := rfl

/-! ## modTango -/

@[simp] theorem State.modTango_rd (f : TangoSt → TangoSt) (j0 : Nat) : (s.modTango f).rd j0 = s.rd j0 := rfl
@[simp] theorem State.modTango_core (f : TangoSt → TangoSt) (j0 : Nat) : (s.modTango f).core j0 = s.core j0 := rfl
@[simp] theorem State.modTango_func (f : TangoSt → TangoSt) (j0 : Nat) : (s.modTango f).func j0 = s.func j0 := rfl
@[simp] theorem State.modTango_prog (f : TangoSt → TangoSt) (j0 j1 : Nat) : (s.modTango f).prog j0 j1 = s.prog j0 j1 := rfl
@[simp] theorem State.modTango_slot (f : TangoSt → TangoSt) (j0 j1 : Nat) : (s.modTango f).slot j0 j1 = s.slot j0 j1 := rfl
@[simp] theorem State.modTango_ctx (f : TangoSt → TangoSt) (j0 : Nat) : (s.modTango f).ctx j0 = s.ctx j0 := rfl
@[simp] theorem State.modTango_launch (f : TangoSt → TangoSt) (j0 : Nat) : (s.modTango f).launch j0 = s.launch j0 := rfl
@[simp] theorem State.modTango_region (f : TangoSt → TangoSt) (j0 j1 : Nat) : (s.modTango f).region j0 j1 = s.region j0 j1 := rfl
@[simp] theorem State.modTango_fence (f : TangoSt → TangoSt) (j0 : Nat) : (s.modTango f).fence j0 = s.fence j0 := rfl
@[simp] theorem State.modTango_microBatches (f : TangoSt → TangoSt) (j0 : Nat) : (s.modTango f).microBatches j0 = s.microBatches j0 := rfl
@[simp] theorem State.modTango_chan (f : TangoSt → TangoSt) (j0 : Nat) : (s.modTango f).chan j0 = s.chan j0 := rfl
@[simp] theorem State.modTango_loader (f : TangoSt → TangoSt) (j0 : Nat) : (s.modTango f).loader j0 = s.loader j0 := rfl
@[simp] theorem State.modTango_cs (f : TangoSt → TangoSt) (j0 : Nat) : (s.modTango f).cs j0 = s.cs j0 := rfl
@[simp] theorem State.modTango_port (f : TangoSt → TangoSt) (j0 : Nat) : (s.modTango f).port j0 = s.port j0 := rfl

/-! ## modPow -/

@[simp] theorem State.modPow_rd (f : PowSt → PowSt) (j0 : Nat) : (s.modPow f).rd j0 = s.rd j0 := rfl
@[simp] theorem State.modPow_core (f : PowSt → PowSt) (j0 : Nat) : (s.modPow f).core j0 = s.core j0 := rfl
@[simp] theorem State.modPow_func (f : PowSt → PowSt) (j0 : Nat) : (s.modPow f).func j0 = s.func j0 := rfl
@[simp] theorem State.modPow_prog (f : PowSt → PowSt) (j0 j1 : Nat) : (s.modPow f).prog j0 j1 = s.prog j0 j1 := rfl
@[simp] theorem State.modPow_slot (f : PowSt → PowSt) (j0 j1 : Nat) : (s.modPow f).slot j0 j1 = s.slot j0 j1 := rfl
@[simp] theorem State.modPow_ctx (f : PowSt → PowSt) (j0 : Nat) : (s.modPow f).ctx j0 = s.ctx j0 := rfl
@[simp] theorem State.modPow_launch (f : PowSt → PowSt) (j0 : Nat) : (s.modPow f).launch j0 = s.launch j0 := rfl
@[simp] theorem State.modPow_region (f : PowSt → PowSt) (j0 j1 : Nat) : (s.modPow f).region j0 j1 = s.region j0 j1 := rfl
@[simp] theorem State.modPow_fence (f : PowSt → PowSt) (j0 : Nat) : (s.modPow f).fence j0 = s.fence j0 := rfl
@[simp] theorem State.modPow_microBatches (f : PowSt → PowSt) (j0 : Nat) : (s.modPow f).microBatches j0 = s.microBatches j0 := rfl
@[simp] theorem State.modPow_chan (f : PowSt → PowSt) (j0 : Nat) : (s.modPow f).chan j0 = s.chan j0 := rfl
@[simp] theorem State.modPow_loader (f : PowSt → PowSt) (j0 : Nat) : (s.modPow f).loader j0 = s.loader j0 := rfl
@[simp] theorem State.modPow_cs (f : PowSt → PowSt) (j0 : Nat) : (s.modPow f).cs j0 = s.cs j0 := rfl
@[simp] theorem State.modPow_port (f : PowSt → PowSt) (j0 : Nat) : (s.modPow f).port j0 = s.port j0 := rfl

/-! ## emit -/

@[simp] theorem State.emit_rd (o : Out) (j0 : Nat) : (s.emit o).rd j0 = s.rd j0 := rfl
@[simp] theorem State.emit_core (o : Out) (j0 : Nat) : (s.emit o).core j0 = s.core j0 := rfl
@[simp] theorem State.emit_func (o : Out) (j0 : Nat) : (s.emit o).func j0 = s.func j0 := rfl
@[simp] theorem State.emit_prog (o : Out) (j0 j1 : Nat) : (s.emit o).prog j0 j1 = s.prog j0 j1 := rfl
@[simp] theorem State.emit_slot (o : Out) (j0 j1 : Nat) : (s.emit o).slot j0 j1 = s.slot j0 j1 := rfl
@[simp] theorem State.emit_ctx (o : Out) (j0 : Nat) : (s.emit o).ctx j0 = s.ctx j0 := rfl
@[simp] theorem State.emit_launch (o : Out) (j0 : Nat) : (s.emit o).launch j0 = s.launch j0 := rfl
@[simp] theorem State.emit_region (o : Out) (j0 j1 : Nat) : (s.emit o).region j0 j1 = s.region j0 j1 := rfl
@[simp] theorem State.emit_fence (o : Out) (j0 : Nat) : (s.emit o).fence j0 = s.fence j0 := rfl
@[simp] theorem State.emit_microBatches (o : Out) (j0 : Nat) : (s.emit o).microBatches j0 = s.microBatches j0 := rfl
@[simp] theorem State.emit_chan (o : Out) (j0 : Nat) : (s.emit o).chan j0 = s.chan j0 := rfl
@[simp] theorem State.emit_loader (o : Out) (j0 : Nat) : (s.emit o).loader j0 = s.loader j0 := rfl
@[simp] theorem State.emit_cs (o : Out) (j0 : Nat) : (s.emit o).cs j0 = s.cs j0 := rfl
@[simp] theorem State.emit_port (o : Out) (j0 : Nat) : (s.emit o).port j0 = s.port j0 := rfl

/-! ## writeBytes -/

@[simp] theorem State.writeBytes_rd (a : Nat) (bs : List Byte) (j0 : Nat) : (s.writeBytes a bs).rd j0 = s.rd j0 := rfl
@[simp] theorem State.writeBytes_core (a : Nat) (bs : List Byte) (j0 : Nat) : (s.writeBytes a bs).core j0 = s.core j0 := rfl
@[simp] theorem State.writeBytes_func (a : Nat) (bs : List Byte) (j0 : Nat) : (s.writeBytes a bs).func j0 = s.func j0 := rfl
@[simp] theorem State.writeBytes_prog (a : Nat) (bs : List Byte) (j0 j1 : Nat) : (s.writeBytes a bs).prog j0 j1 = s.prog j0 j1 := rfl
@[simp] theorem State.writeBytes_slot (a : Nat) (bs : List Byte) (j0 j1 : Nat) : (s.writeBytes a bs).slot j0 j1 = s.slot j0 j1 := rfl
@[simp] theorem State.writeBytes_ctx (a : Nat) (bs : List Byte) (j0 : Nat) : (s.writeBytes a bs).ctx j0 = s.ctx j0 := rfl
@[simp] theorem State.writeBytes_launch (a : Nat) (bs : List Byte) (j0 : Nat) : (s.writeBytes a bs).launch j0 = s.launch j0 := rfl
@[simp] theorem State.writeBytes_region (a : Nat) (bs : List Byte) (j0 j1 : Nat) : (s.writeBytes a bs).region j0 j1 = s.region j0 j1 := rfl
@[simp] theorem State.writeBytes_fence (a : Nat) (bs : List Byte) (j0 : Nat) : (s.writeBytes a bs).fence j0 = s.fence j0 := rfl
@[simp] theorem State.writeBytes_microBatches (a : Nat) (bs : List Byte) (j0 : Nat) : (s.writeBytes a bs).microBatches j0 = s.microBatches j0 := rfl
@[simp] theorem State.writeBytes_chan (a : Nat) (bs : List Byte) (j0 : Nat) : (s.writeBytes a bs).chan j0 = s.chan j0 := rfl
@[simp] theorem State.writeBytes_loader (a : Nat) (bs : List Byte) (j0 : Nat) : (s.writeBytes a bs).loader j0 = s.loader j0 := rfl
@[simp] theorem State.writeBytes_cs (a : Nat) (bs : List Byte) (j0 : Nat) : (s.writeBytes a bs).cs j0 = s.cs j0 := rfl
@[simp] theorem State.writeBytes_port (a : Nat) (bs : List Byte) (j0 : Nat) : (s.writeBytes a bs).port j0 = s.port j0 := rfl

/-! ## withQueue -/

@[simp] theorem State.withQueue_rd (t : State) (j0 : Nat) : (s.withQueue t).rd j0 = s.rd j0 := rfl
@[simp] theorem State.withQueue_core (t : State) (j0 : Nat) : (s.withQueue t).core j0 = s.core j0 := rfl
@[simp] theorem State.withQueue_func (t : State) (j0 : Nat) : (s.withQueue t).func j0 = s.func j0 := rfl
@[simp] theorem State.withQueue_prog (t : State) (j0 j1 : Nat) : (s.withQueue t).prog j0 j1 = s.prog j0 j1 := rfl
@[simp] theorem State.withQueue_slot (t : State) (j0 j1 : Nat) : (s.withQueue t).slot j0 j1 = s.slot j0 j1 := rfl
@[simp] theorem State.withQueue_ctx (t : State) (j0 : Nat) : (s.withQueue t).ctx j0 = s.ctx j0 := rfl
@[simp] theorem State.withQueue_launch (t : State) (j0 : Nat) : (s.withQueue t).launch j0 = s.launch j0 := rfl
@[simp] theorem State.withQueue_region (t : State) (j0 j1 : Nat) : (s.withQueue t).region j0 j1 = s.region j0 j1 := rfl
@[simp] theorem State.withQueue_fence (t : State) (j0 : Nat) : (s.withQueue t).fence j0 = s.fence j0 := rfl
@[simp] theorem State.withQueue_microBatches (t : State) (j0 : Nat) : (s.withQueue t).microBatches j0 = s.microBatches j0 := rfl
@[simp] theorem State.withQueue_chan (t : State) (j0 : Nat) : (s.withQueue t).chan j0 = s.chan j0 := rfl
@[simp] theorem State.withQueue_loader (t : State) (j0 : Nat) : (s.withQueue t).loader j0 = s.loader j0 := rfl
@[simp] theorem State.withQueue_cs (t : State) (j0 : Nat) : (s.withQueue t).cs j0 = s.cs j0 := rfl
@[simp] theorem State.withQueue_port (t : State) (j0 : Nat) : (s.withQueue t).port j0 = s.port j0 := rfl

/-! ## Shorter forms -/

@[simp] theorem State.pWr_eq (p sub : Nat) (v : Word) : s.pWr p sub v = s.wr (pKey p sub) v := rfl
@[simp] theorem State.pRd_eq (p sub : Nat) : s.pRd p sub = s.rd (pKey p sub) := rfl
@[simp] theorem State.wrN_eq (k v : Nat) : s.wrN k v = s.wr k (BitVec.ofNat 64 v) := rfl
@[simp] theorem State.rdN_eq (k : Nat) : s.rdN k = (s.rd k).toNat := rfl
@[simp] theorem State.pN_eq (p sub : Nat) : s.pN p sub = (s.rd (pKey p sub)).toNat := rfl

end Sys2Proof.Machine
end

