-- ==== Sys2Proof/Laws/Ops.lean ====
section
/-! SUPPORT. What the shared operations do: clears, counts, events, launches, version slots. -/

namespace Sys2Proof.Machine

/-! ## Objects -/

/-- What a cleared run of objects reads, and that it changes objects only. -/
theorem State.clearObjs_spec (index : Nat) : ∀ (n sub : Nat) (s : State),
    (∀ k, (s.clearObjs index sub n).rd k =
      if (∃ i, i < n ∧ k = objKey index (sub + i)) then objDefault k else s.rd k) ∧
    (∃ o, s.clearObjs index sub n = { s with obj := o })
  | 0, sub, s => ⟨fun k => by simp [State.clearObjs], s.obj, rfl⟩
  | n + 1, sub, s => by
    obtain ⟨h, o, ho⟩ := State.clearObjs_spec index n (sub + 1) (s.wr (objKey index sub) (objDefault (objKey index sub)))
    refine ⟨fun k => ?_, o, by rw [State.clearObjs, ho]; rfl⟩
    rw [State.clearObjs, h k, State.rd_wr]
    by_cases h1 : ∃ i, i < n ∧ k = objKey index (sub + 1 + i)
    · obtain ⟨i, hi, hk⟩ := h1
      have h2 : ∃ i, i < n + 1 ∧ k = objKey index (sub + i) := ⟨i + 1, by omega, by rw [hk]; congr 1; omega⟩
      rw [if_pos ⟨i, hi, hk⟩, if_pos h2]
    · rw [if_neg h1]
      by_cases h3 : k = objKey index sub
      · rw [if_pos h3, if_pos ⟨0, by omega, h3⟩, h3]
      · rw [if_neg h3, if_neg]
        rintro ⟨i, hi, hk⟩
        cases i with
        | zero => exact h3 hk
        | succ i => exact h1 ⟨i, by omega, by rw [hk]; congr 1; omega⟩

/-- A counter that has counted `n` more. -/
theorem State.rd_count (s : State) (k n j : Nat) :
    (s.count k n).rd j = if j = k then s.rd k + BitVec.ofNat 64 n else s.rd j := by
  unfold State.count State.shadowOf State.shadowAdd
  split
  · rw [State.rd_wr]; rfl
  · rw [State.rd_wr]

/-- Counting changes objects and the shadow counters only. -/
theorem State.count_frame (s : State) (k n : Nat) :
    ∃ o h, s.count k n = { s with obj := o, health := h } := by
  unfold State.count State.shadowOf State.shadowAdd State.wr
  split
  · exact ⟨_, _, rfl⟩
  · exact ⟨_, s.health, rfl⟩

/-- An event of a partition changes the host link, the management controller and what leaves the device only (R365, R391). -/
theorem State.event_frame (s : State) (p k : Nat) :
    ∃ h m o, s.event p k = { s with host := h, mgmt := m, out := o } := by
  unfold State.event State.signalPart
  split
  · unfold State.sendMsix; simp only []; split
    · exact ⟨_, _, s.out, rfl⟩
    · exact ⟨_, _, _, rfl⟩
  · split
    · unfold State.sendMsix; simp only []; split
      · exact ⟨_, _, s.out, rfl⟩
      · exact ⟨_, _, _, rfl⟩
    · exact ⟨s.host, _, _, rfl⟩

/-! ## Loops, engines, banks -/

@[simp] theorem CoreSt.loop_setLoop (x : CoreSt) (j k : Nat) (l : Loop) :
    (x.setLoop j l).loop k = if k = j then l else x.loop k := by simp [CoreSt.loop, CoreSt.setLoop]

@[simp] theorem CoreSt.engine_setEngine (x : CoreSt) (j k : Nat) (g : Engine) :
    (x.setEngine j g).engine k = if k = j then g else x.engine k := by simp [CoreSt.engine, CoreSt.setEngine]

/-- An engine after a change of it. -/
theorem State.engine_modEngine (s : State) (c e : Nat) (f : Engine → Engine) :
    ((s.modEngine c e f).core c).engine e = f ((s.core c).engine e) := by simp [State.modEngine]

/-- A bank set reads as it was set. -/
theorem Engine.bank_setBank (g : Engine) (b : Fin 2) (v : Bank) : (g.setBank b v).bank b = v := by
  unfold Engine.setBank Engine.bank; split <;> simp_all

/-! ## Launches and tiles -/

/-- Reserving what one gate names changes launches and the core's run only. -/
theorem reserveGate_frame (c k : Nat) (g : Gate) (s : State) :
    (∃ l cs, reserveGate c k g s = { s with launches := l, cores := cs }) ∧
    (∀ d, d ≠ c → (reserveGate c k g s).core d = s.core d) ∧
    ((reserveGate c k g s).core c).run.item = (s.core c).run.item := by
  unfold reserveGate
  split
  · exact ⟨⟨_, _, rfl⟩, fun d hd => by simp [State.core, State.modCore, State.setCore, State.setLaunch, hd],
      by simp [State.core, State.modCore, State.setCore, State.setLaunch]⟩
  · exact ⟨⟨_, _, rfl⟩, fun d hd => by simp [State.core, State.modCore, State.setCore, State.setLaunch, hd],
      by simp [State.core, State.modCore, State.setCore, State.setLaunch]⟩
  · exact ⟨⟨_, _, rfl⟩, fun d hd => by simp [State.core, State.modCore, State.setCore, hd],
      by simp [State.core, State.modCore, State.setCore]⟩
  · exact ⟨⟨s.launches, s.cores, rfl⟩, fun _ _ => rfl, rfl⟩

/-- Reserving what gates name changes launches and the core's run only. -/
theorem reserveGates_frame (c k : Nat) : ∀ (gs : List Gate) (s : State),
    (∃ l cs, reserveGates c k gs s = { s with launches := l, cores := cs }) ∧
    (∀ d, d ≠ c → (reserveGates c k gs s).core d = s.core d) ∧
    ((reserveGates c k gs s).core c).run.item = (s.core c).run.item
  | [], s => ⟨⟨s.launches, s.cores, rfl⟩, fun _ _ => rfl, rfl⟩
  | g :: gs, s => by
    obtain ⟨⟨l, cs, h1⟩, h2, h3⟩ := reserveGates_frame c k gs (reserveGate c k g s)
    obtain ⟨⟨l', cs', g1⟩, g2, g3⟩ := reserveGate_frame c k g s
    refine ⟨⟨l, cs, ?_⟩, fun d hd => (h2 d hd).trans (g2 d hd), h3.trans g3⟩
    show reserveGates c k gs (reserveGate c k g s) = _
    rw [h1, g1]

/-- Returning reservations changes launches only. -/
theorem returnReserved_frame (c k : Nat) : ∀ (rs : List (Nat × Nat)) (b : Bool) (s : State),
    ∃ l, returnReserved c k rs b s = { s with launches := l }
  | [], _, s => ⟨s.launches, rfl⟩
  | (ch, n) :: rs, b, s => by
    rw [returnReserved]
    split <;> (obtain ⟨l, h⟩ := returnReserved_frame c k rs b _; rw [h]; exact ⟨_, rfl⟩)

end Sys2Proof.Machine
end

