-- ==== Sys2Proof/Laws/PerInstr.lean ====
section
/-! SUPPORT. Scope: what a command of the outside may carry. Every packet that a well-formed command carries holds as many
payload bytes as its LENGTH says, at most 4,096, and a TARGET of 48 bits (R219). -/

namespace Sys2Proof.Laws

/-- The packets that a command carries. -/
def packets : Instr → List Packet
  | .quietReq pkt => [pkt]
  | .quietAck pkt => [pkt]
  | .peerWrite pkt _ => [pkt]
  | .peerAck _ pkt _ => [pkt]
  | .packetRoute _ _ pkt _ => [pkt]
  | .collDataSegment pkt => [pkt]
  | .openPacket pkt => [pkt]
  | .windowPacket pkt => [pkt]
  | .excludedPacket pkt => [pkt]
  | .abortPacket pkt => [pkt]
  | .resultPacket pkt => [pkt]
  | .horaFree pkt => [pkt]
  | .fetchNotice _ pkt => [pkt]
  | .serveRequestReceive _ pkt => [pkt]
  | .pair _ pkt => [pkt]
  | .tangoBegin pkt => [pkt]
  | .tangoData pkt => [pkt]
  | .tangoAck pkt => [pkt]
  | .tangoComplete pkt => [pkt]
  | .tangoResume pkt => [pkt]
  | .tangoResumeReply pkt => [pkt]
  | .probe pkt => [pkt]
  | _ => []

/-- Scope of a command. -/
def Scope.Statement (i : Instr) : Prop :=
  i.wf = true → ∀ p ∈ packets i, p.payload.length = p.length ∧ p.length ≤ 4096 ∧ p.target < 2 ^ 48

/-- What the check of a packet says. -/
theorem packet_wf (p : Packet) (h : p.wf = true) : p.payload.length = p.length ∧ p.length ≤ 4096 ∧ p.target < 2 ^ 48 := by
  simp only [Packet.wf, Bool.and_eq_true, decide_eq_true_eq] at h
  exact ⟨h.1.2, h.1.1, h.2⟩

/-- A command without packets. -/
theorem scope_of_none (i : Instr) (h : packets i = []) : Scope.Statement i := by
  intro _ p hp
  rw [h] at hp
  cases hp

/-- A command whose one packet its check covers. -/
theorem scope_of_packet (i : Instr) (q : Packet) (h : packets i = [q]) (hw : i.wf = true → q.wf = true) :
    Scope.Statement i := by
  intro hi p hp
  rw [h, List.mem_singleton] at hp
  exact hp ▸ packet_wf q (hw hi)

theorem Scope.registerWrite (via : Via) (reg : RegAddr) (size : Nat) (value : Word) : Scope.Statement
    (.registerWrite via reg size value) :=
  scope_of_none _ rfl
theorem Scope.stationaryLoad (c : Core) (e : Eng) (op : BlockLoad) (shell : ShellOutcome) : Scope.Statement
    (.stationaryLoad c e op shell) :=
  scope_of_none _ rfl
theorem Scope.blockPass (c : Core) (e : Eng) (op : BlockPass) (shell : ShellOutcome) : Scope.Statement (.blockPass c
    e op shell) :=
  scope_of_none _ rfl
theorem Scope.gradientPass (c : Core) (e : Eng) (op : GradPass) (inWalnut : Bool) (shell : ShellOutcome) :
    Scope.Statement (.gradientPass c e op inWalnut shell) :=
  scope_of_none _ rfl
theorem Scope.bankDrain (c : Core) (e : Eng) (op : Drain) (shell : ShellOutcome) : Scope.Statement (.bankDrain c e
    op shell) :=
  scope_of_none _ rfl
theorem Scope.walnutDrain (c : Core) (op : WDrain) (shell : ShellOutcome) : Scope.Statement (.walnutDrain c op
    shell) :=
  scope_of_none _ rfl
theorem Scope.walnutDiscard (c : Core) (r : WRegion) : Scope.Statement (.walnutDiscard c r) :=
  scope_of_none _ rfl
theorem Scope.vectorOperation (c : Core) (op : VecOp) (shell : ShellOutcome) : Scope.Statement (.vectorOperation c
    op shell) :=
  scope_of_none _ rfl
theorem Scope.rowReduction (c : Core) (op : RowRed) (shell : ShellOutcome) : Scope.Statement (.rowReduction c op
    shell) :=
  scope_of_none _ rfl
theorem Scope.rowNormalisation (c : Core) (op : NormFwd) (shell : ShellOutcome) : Scope.Statement (.rowNormalisation
    c op shell) :=
  scope_of_none _ rfl
theorem Scope.normBackward (c : Core) (op : NormBwd) (shell : ShellOutcome) : Scope.Statement (.normBackward c op
    shell) :=
  scope_of_none _ rfl
theorem Scope.walnutVectorAdd (c : Core) (r : WRegion) (offset : Nat) (vreg : Fin 32) (n : Nat) (shell :
    ShellOutcome) : Scope.Statement (.walnutVectorAdd c r offset vreg n shell) :=
  scope_of_none _ rfl
theorem Scope.paramWrite (c : Core) (dst : ParamDst) (src : ParamSrc) : Scope.Statement (.paramWrite c dst src) :=
  scope_of_none _ rfl
theorem Scope.amaxSlotClear (c : Core) (slot : Fin 32) : Scope.Statement (.amaxSlotClear c slot) :=
  scope_of_none _ rfl
theorem Scope.amaxSlotRead (c : Core) (slot dst : Fin 32) : Scope.Statement (.amaxSlotRead c slot dst) :=
  scope_of_none _ rfl
theorem Scope.flagClear (c : Core) (mask : Word32) : Scope.Statement (.flagClear c mask) :=
  scope_of_none _ rfl
theorem Scope.loopEnter (c : Core) (level : Fin 4) (src : LoopSrc) : Scope.Statement (.loopEnter c level src) :=
  scope_of_none _ rfl
theorem Scope.loopEnd (c : Core) (level : Fin 4) : Scope.Statement (.loopEnd c level) :=
  scope_of_none _ rfl
theorem Scope.tileIssue (c : Core) : Scope.Statement (.tileIssue c) :=
  scope_of_none _ rfl
theorem Scope.tileComplete (c : Core) (cycles : Nat) : Scope.Statement (.tileComplete c cycles) :=
  scope_of_none _ rfl
theorem Scope.stepBegin (c : Core) (step mbs fenceBeat : Nat) (deadline : Option (JobSlot × Nat)) (reseed : Bool) :
    Scope.Statement (.stepBegin c step mbs fenceBeat deadline reseed) :=
  scope_of_none _ rfl
theorem Scope.microBatchAdmit (p : Part) (mb : Nat) (regions : List Region) (b : Binding) (trains : Nat) (acorns :
    List (Fin 32)) : Scope.Statement (.microBatchAdmit p mb regions b trains acorns) :=
  scope_of_none _ rfl
theorem Scope.microBatchRetire (p : Part) (mb : Nat) : Scope.Statement (.microBatchRetire p mb) :=
  scope_of_none _ rfl
theorem Scope.optimizerWrite (c : Core) (r : Region) : Scope.Statement (.optimizerWrite c r) :=
  scope_of_none _ rfl
theorem Scope.regionMarkWritten (c : Core) (r : Region) : Scope.Statement (.regionMarkWritten c r) :=
  scope_of_none _ rfl
theorem Scope.stepFenceCommit (p : Part) : Scope.Statement (.stepFenceCommit p) :=
  scope_of_none _ rfl
theorem Scope.fenceAbort (via : Via) (p : Part) (value : Word) : Scope.Statement (.fenceAbort via p value) :=
  scope_of_none _ rfl
theorem Scope.lossSubmit (via : Option Via) (p : Part) (loss : Word32) : Scope.Statement (.lossSubmit via p loss) :=
  scope_of_none _ rfl
theorem Scope.arithFlagsClear (via : Via) (p : Part) (value : Word) : Scope.Statement (.arithFlagsClear via p value)
    :=
  scope_of_none _ rfl
theorem Scope.engCounterClear (via : Via) (p : Part) (value : Word) : Scope.Statement (.engCounterClear via p value)
    :=
  scope_of_none _ rfl
theorem Scope.walnutCounterClear (via : Via) (p : Part) (value : Word) : Scope.Statement (.walnutCounterClear via p
    value) :=
  scope_of_none _ rfl
theorem Scope.nonfiniteClear (via : Via) (p : Part) (value : Word) : Scope.Statement (.nonfiniteClear via p value)
    :=
  scope_of_none _ rfl
theorem Scope.idleCoreSelect (via : Via) (p : Part) (value : Word) : Scope.Statement (.idleCoreSelect via p value)
    :=
  scope_of_none _ rfl
theorem Scope.idleCounterClear (via : Via) (p : Part) (value : Word) : Scope.Statement (.idleCounterClear via p
    value) :=
  scope_of_none _ rfl
theorem Scope.programRegister (via : Via) (p : Part) (n : Fin 1024) (address lengthKiB : Nat) : Scope.Statement
    (.programRegister via p n address lengthKiB) :=
  scope_of_none _ rfl
theorem Scope.imageValidationDone (p : Part) (n : Fin 1024) (img : Image) : Scope.Statement (.imageValidationDone p
    n img) :=
  scope_of_none _ rfl
theorem Scope.programRelease (via : Via) (p : Part) (n : Fin 1024) : Scope.Statement (.programRelease via p n) :=
  scope_of_none _ rfl
theorem Scope.slotArm (via : Via) (p : Part) (n : Fin 256) : Scope.Statement (.slotArm via p n) :=
  scope_of_none _ rfl
theorem Scope.slotAbort (via : Via) (p : Part) (n : Fin 256) : Scope.Statement (.slotAbort via p n) :=
  scope_of_none _ rfl
theorem Scope.launchSlotStart (p : Part) (n : Fin 256) : Scope.Statement (.launchSlotStart p n) :=
  scope_of_none _ rfl
theorem Scope.launchComplete (p : Part) (n : Fin 256) : Scope.Statement (.launchComplete p n) :=
  scope_of_none _ rfl
theorem Scope.contextCreate (via : Via) (p : Part) (i : Fin 16) : Scope.Statement (.contextCreate via p i) :=
  scope_of_none _ rfl
theorem Scope.contextEvict (via : Via) (p : Part) (i : Fin 16) : Scope.Statement (.contextEvict via p i) :=
  scope_of_none _ rfl
theorem Scope.contextTeardown (via : Via) (p : Part) (i : Fin 16) : Scope.Statement (.contextTeardown via p i) :=
  scope_of_none _ rfl
theorem Scope.swapperEvaluate (p : Part) : Scope.Statement (.swapperEvaluate p) :=
  scope_of_none _ rfl
theorem Scope.contextEvictDone (p : Part) (i : Fin 16) (lost : List Nat) : Scope.Statement (.contextEvictDone p i
    lost) :=
  scope_of_none _ rfl
theorem Scope.contextRestoreDone (p : Part) (i : Fin 16) : Scope.Statement (.contextRestoreDone p i) :=
  scope_of_none _ rfl
theorem Scope.heldDeliveryFlush (slot : JobSlot) : Scope.Statement (.heldDeliveryFlush slot) :=
  scope_of_none _ rfl
theorem Scope.sliceExpiry (p : Part) (i : Fin 16) : Scope.Statement (.sliceExpiry p i) :=
  scope_of_none _ rfl
theorem Scope.quietReq (pkt : Packet) : Scope.Statement (.quietReq pkt) :=
  scope_of_packet _ pkt rfl fun h => h
theorem Scope.quietAck (pkt : Packet) : Scope.Statement (.quietAck pkt) :=
  scope_of_packet _ pkt rfl fun h => h
theorem Scope.teardownComplete (p : Part) (i : Fin 16) : Scope.Statement (.teardownComplete p i) :=
  scope_of_none _ rfl
theorem Scope.teardownDeadline (p : Part) (i : Fin 16) : Scope.Statement (.teardownDeadline p i) :=
  scope_of_none _ rfl
theorem Scope.retireHoldExpiry (p : Part) (i : Fin 16) : Scope.Statement (.retireHoldExpiry p i) :=
  scope_of_none _ rfl
theorem Scope.groupLeadWrite (via : Via) (p : Part) (value : Word) : Scope.Statement (.groupLeadWrite via p value)
    :=
  scope_of_none _ rfl
theorem Scope.schedCounterClear (via : Via) (p : Part) (value : Word) : Scope.Statement (.schedCounterClear via p
    value) :=
  scope_of_none _ rfl
theorem Scope.dmaStart (c : Core) (eng : Fin 2) (ch : Fin 16) (desc : BitVec 512) (srcP dstP lenP rowsP : Option
    Param) : Scope.Statement (.dmaStart c eng ch desc srcP dstP lenP rowsP) :=
  scope_of_none _ rfl
theorem Scope.dmaArm (via : Via) (ch : ChanId) : Scope.Statement (.dmaArm via ch) :=
  scope_of_none _ rfl
theorem Scope.dmaPromotion (ch : ChanId) : Scope.Statement (.dmaPromotion ch) :=
  scope_of_none _ rfl
theorem Scope.dmaBurst (part : Part) (eng : Fin 2) (env : BurstEnv) : Scope.Statement (.dmaBurst part eng env) :=
  scope_of_none _ rfl
theorem Scope.dmaFence (via : Option Via) (ch : ChanId) : Scope.Statement (.dmaFence via ch) :=
  scope_of_none _ rfl
theorem Scope.arrivalFenceComplete (ch : ChanId) (host : HostEnd) : Scope.Statement (.arrivalFenceComplete ch host)
    :=
  scope_of_none _ rfl
theorem Scope.arrivalTimeout (ch : ChanId) : Scope.Statement (.arrivalTimeout ch) :=
  scope_of_none _ rfl
theorem Scope.dmaStop (via : Via) (ch : ChanId) : Scope.Statement (.dmaStop via ch) :=
  scope_of_none _ rfl
theorem Scope.dmaResume (via : Via) (ch : ChanId) : Scope.Statement (.dmaResume via ch) :=
  scope_of_none _ rfl
theorem Scope.dmaClear (via : Via) (ch : ChanId) : Scope.Statement (.dmaClear via ch) :=
  scope_of_none _ rfl
theorem Scope.dmaCounterClear (via : Via) (p : Part) (value : Word) : Scope.Statement (.dmaCounterClear via p value)
    :=
  scope_of_none _ rfl
theorem Scope.peerWrite (pkt : Packet) (shell : ShellOutcome) : Scope.Statement (.peerWrite pkt shell) :=
  scope_of_packet _ pkt rfl fun h => (Bool.and_eq_true_iff.mp h).1
theorem Scope.peerAck (ch : ChanId) (pkt : Packet) (answer : PeerAnswer) : Scope.Statement (.peerAck ch pkt answer)
    :=
  scope_of_packet _ pkt rfl fun h => h
theorem Scope.retainMaskWrite (via : Via) (p : Part) (value : Word) : Scope.Statement (.retainMaskWrite via p value)
    :=
  scope_of_none _ rfl
theorem Scope.tangoReserveWrite (via : Via) (p : Part) (value : Word) : Scope.Statement (.tangoReserveWrite via p
    value) :=
  scope_of_none _ rfl
theorem Scope.patrolScrubRead (hbm : Bool) (o : ShellOutcome) : Scope.Statement (.patrolScrubRead hbm o) :=
  scope_of_none _ rfl
theorem Scope.eccLogClear (via : Via) (value : Word) : Scope.Statement (.eccLogClear via value) :=
  scope_of_none _ rfl
theorem Scope.memCounterClear (via : Via) (p : Part) (value : Word) : Scope.Statement (.memCounterClear via p value)
    :=
  scope_of_none _ rfl
theorem Scope.portRetrain (via : Via) (n : Port) : Scope.Statement (.portRetrain via n) :=
  scope_of_none _ rfl
theorem Scope.portDisable (via : Via) (n : Port) : Scope.Statement (.portDisable via n) :=
  scope_of_none _ rfl
theorem Scope.portRecal (via : Via) (n : Port) (force : Bool) : Scope.Statement (.portRecal via n force) :=
  scope_of_none _ rfl
theorem Scope.adaptationMonitorRequest (n : Port) (ber : Word32) (pinned : Bool) : Scope.Statement
    (.adaptationMonitorRequest n ber pinned) :=
  scope_of_none _ rfl
theorem Scope.portRoleWrite (via : Via) (n : Port) (value : Word) : Scope.Statement (.portRoleWrite via n value) :=
  scope_of_none _ rfl
theorem Scope.signalDetect (n : Port) : Scope.Statement (.signalDetect n) :=
  scope_of_none _ rfl
theorem Scope.trainDone (n : Port) (ok : Bool) : Scope.Statement (.trainDone n ok) :=
  scope_of_none _ rfl
theorem Scope.checkExchange (n : Port) (info : CheckInfo) : Scope.Statement (.checkExchange n info) :=
  scope_of_none _ rfl
theorem Scope.drainDone (n : Port) (after100us : Bool) : Scope.Statement (.drainDone n after100us) :=
  scope_of_none _ rfl
theorem Scope.recalDone (n : Port) (ok : Bool) : Scope.Statement (.recalDone n ok) :=
  scope_of_none _ rfl
theorem Scope.fatalLinkFailure (n : Port) (cause : LinkFail) : Scope.Statement (.fatalLinkFailure n cause) :=
  scope_of_none _ rfl
theorem Scope.flitReceive (n : Port) (f : FlitRx) : Scope.Statement (.flitReceive n f) :=
  scope_of_none _ rfl
theorem Scope.nak (n : Port) (next : Nat) : Scope.Statement (.nak n next) :=
  scope_of_none _ rfl
theorem Scope.packetRoute (die : Die) (inPort : Option Port) (pkt : Packet) (shells : List ShellOutcome) :
    Scope.Statement (.packetRoute die inPort pkt shells) :=
  scope_of_packet _ pkt rfl fun h => (Bool.and_eq_true_iff.mp h).1
theorem Scope.epochAnnounce (inPort : Port) (addr : FabAddr) (epoch : Epoch) (hops : Fin 16) (src : FabAddr)
    (srcEpoch : Epoch) : Scope.Statement (.epochAnnounce inPort addr epoch hops src srcEpoch) :=
  scope_of_none _ rfl
theorem Scope.fabricEpochWrite (via : Via) (value : Word) : Scope.Statement (.fabricEpochWrite via value) :=
  scope_of_none _ rfl
theorem Scope.epochWrite (via : Via) (value : Word) : Scope.Statement (.epochWrite via value) :=
  scope_of_none _ rfl
theorem Scope.routeCommitBeatWrite (via : Via) (value : Word) : Scope.Statement (.routeCommitBeatWrite via value) :=
  scope_of_none _ rfl
theorem Scope.routeBankExchange : Scope.Statement .routeBankExchange := scope_of_none _ rfl
theorem Scope.routeCopyDone : Scope.Statement .routeCopyDone := scope_of_none _ rfl
theorem Scope.fabricCounterClear (via : Via) (value : Word) : Scope.Statement (.fabricCounterClear via value) :=
  scope_of_none _ rfl
theorem Scope.portCounterClear (via : Via) (n : Port) (value : Word) : Scope.Statement (.portCounterClear via n
    value) :=
  scope_of_none _ rfl
theorem Scope.tempoSend (n : Port) : Scope.Statement (.tempoSend n) :=
  scope_of_none _ rfl
theorem Scope.tempoReceive (n : Port) (t : TempoRx) : Scope.Statement (.tempoReceive n t) :=
  scope_of_none _ rfl
theorem Scope.masterAnnouncementTimeout (addr : FabAddr) (serial : Word) : Scope.Statement
    (.masterAnnouncementTimeout addr serial) :=
  scope_of_none _ rfl
theorem Scope.holdoverEntry : Scope.Statement .holdoverEntry := scope_of_none _ rfl
theorem Scope.timePpsEdge : Scope.Statement .timePpsEdge := scope_of_none _ rfl
theorem Scope.jobSlotAssign (via : Via) (s : JobSlot) (value : Word) : Scope.Statement (.jobSlotAssign via s value)
    :=
  scope_of_none _ rfl
theorem Scope.slotEnable (via : Via) (s : JobSlot) : Scope.Statement (.slotEnable via s) :=
  scope_of_none _ rfl
theorem Scope.slotRelease (via : Via) (s : JobSlot) : Scope.Statement (.slotRelease via s) :=
  scope_of_none _ rfl
theorem Scope.slotReleaseDone (s : JobSlot) : Scope.Statement (.slotReleaseDone s) :=
  scope_of_none _ rfl
theorem Scope.allReduce (by_ : CollBy) (addr : Nat) : Scope.Statement (.allReduce by_ addr) :=
  scope_of_none _ rfl
theorem Scope.broadcast (by_ : CollBy) (addr : Nat) : Scope.Statement (.broadcast by_ addr) :=
  scope_of_none _ rfl
theorem Scope.allGather (by_ : CollBy) (addr : Nat) : Scope.Statement (.allGather by_ addr) :=
  scope_of_none _ rfl
theorem Scope.reel (by_ : CollBy) (addr : Nat) : Scope.Statement (.reel by_ addr) :=
  scope_of_none _ rfl
theorem Scope.hora (by_ : CollBy) (addr : Nat) : Scope.Statement (.hora by_ addr) :=
  scope_of_none _ rfl
theorem Scope.stagingComplete (s : JobSlot) (step : Tag) (bucket : BitVec 16) : Scope.Statement (.stagingComplete s
    step bucket) :=
  scope_of_none _ rfl
theorem Scope.collDataSegment (pkt : Packet) : Scope.Statement (.collDataSegment pkt) :=
  scope_of_packet _ pkt rfl fun h => h
theorem Scope.openPacket (pkt : Packet) : Scope.Statement (.openPacket pkt) :=
  scope_of_packet _ pkt rfl fun h => h
theorem Scope.windowPacket (pkt : Packet) : Scope.Statement (.windowPacket pkt) :=
  scope_of_packet _ pkt rfl fun h => h
theorem Scope.excludedPacket (pkt : Packet) : Scope.Statement (.excludedPacket pkt) :=
  scope_of_packet _ pkt rfl fun h => h
theorem Scope.abortPacket (pkt : Packet) : Scope.Statement (.abortPacket pkt) :=
  scope_of_packet _ pkt rfl fun h => h
theorem Scope.resultPacket (pkt : Packet) : Scope.Statement (.resultPacket pkt) :=
  scope_of_packet _ pkt rfl fun h => h
theorem Scope.horaFree (pkt : Packet) : Scope.Statement (.horaFree pkt) :=
  scope_of_packet _ pkt rfl fun h => h
theorem Scope.horaBufferRelease (c : Core) (s : JobSlot) (step : Tag) (bucket : BitVec 16) : Scope.Statement
    (.horaBufferRelease c s step bucket) :=
  scope_of_none _ rfl
theorem Scope.softDeadline (s : JobSlot) (step : Tag) (bucket : BitVec 16) (level : Nat) : Scope.Statement
    (.softDeadline s step bucket level) :=
  scope_of_none _ rfl
theorem Scope.hardDeadline (s : JobSlot) (step : Tag) (bucket : BitVec 16) : Scope.Statement (.hardDeadline s step
    bucket) :=
  scope_of_none _ rfl
theorem Scope.orphanDeadline (s : JobSlot) (step : Tag) (bucket : BitVec 16) : Scope.Statement (.orphanDeadline s
    step bucket) :=
  scope_of_none _ rfl
theorem Scope.bucketDone (s : JobSlot) (step : Tag) (bucket : BitVec 16) : Scope.Statement (.bucketDone s step
    bucket) :=
  scope_of_none _ rfl
theorem Scope.collectiveDeadline (s : JobSlot) (step : Tag) (bucket : BitVec 16) : Scope.Statement
    (.collectiveDeadline s step bucket) :=
  scope_of_none _ rfl
theorem Scope.reelReady (s : JobSlot) : Scope.Statement (.reelReady s) :=
  scope_of_none _ rfl
theorem Scope.reelVote (s : JobSlot) : Scope.Statement (.reelVote s) :=
  scope_of_none _ rfl
theorem Scope.collCounterClear (via : Via) (value : Word) : Scope.Statement (.collCounterClear via value) :=
  scope_of_none _ rfl
theorem Scope.slotCounterClear (via : Via) (s : JobSlot) (value : Word) : Scope.Statement (.slotCounterClear via s
    value) :=
  scope_of_none _ rfl
theorem Scope.define (via : Via) (p : Part) : Scope.Statement (.define via p) :=
  scope_of_none _ rfl
theorem Scope.defineSingle (via : Via) (p : Part) (tag : Tag) : Scope.Statement (.defineSingle via p tag) :=
  scope_of_none _ rfl
theorem Scope.install (via : Via) (p : Part) (slot : Fin 2) (tag : Tag) : Scope.Statement (.install via p slot tag)
    :=
  scope_of_none _ rfl
theorem Scope.clear (via : Via) (p : Part) : Scope.Statement (.clear via p) :=
  scope_of_none _ rfl
theorem Scope.loadStart (via : Via) (p : Part) (shell : ShellOutcome) : Scope.Statement (.loadStart via p shell) :=
  scope_of_none _ rfl
theorem Scope.loadCommit (via : Via) (p : Part) : Scope.Statement (.loadCommit via p) :=
  scope_of_none _ rfl
theorem Scope.loadCancel (via : Via) (p : Part) : Scope.Statement (.loadCancel via p) :=
  scope_of_none _ rfl
theorem Scope.loadRetry (via : Via) (p : Part) (shell : ShellOutcome) : Scope.Statement (.loadRetry via p shell) :=
  scope_of_none _ rfl
theorem Scope.expectBeat (p : Part) : Scope.Statement (.expectBeat p) :=
  scope_of_none _ rfl
theorem Scope.digestDone (p : Part) (shard : Nat) (o : ShellOutcome) : Scope.Statement (.digestDone p shard o) :=
  scope_of_none _ rfl
theorem Scope.fetchDeadline (p : Part) (shard : Nat) : Scope.Statement (.fetchDeadline p shard) :=
  scope_of_none _ rfl
theorem Scope.fetchNotice (p : Part) (pkt : Packet) : Scope.Statement (.fetchNotice p pkt) :=
  scope_of_packet _ pkt rfl fun h => h
theorem Scope.serveEnable (via : Via) (p : Part) (value : Word) : Scope.Statement (.serveEnable via p value) :=
  scope_of_none _ rfl
theorem Scope.serveRequestReceive (p : Part) (pkt : Packet) : Scope.Statement (.serveRequestReceive p pkt) :=
  scope_of_packet _ pkt rfl fun h => h
theorem Scope.serveRequestProcess (p : Part) (shell : ShellOutcome) : Scope.Statement (.serveRequestProcess p shell)
    :=
  scope_of_none _ rfl
theorem Scope.acornEntryWrite (via : Via) (p : Part) (value : Word) : Scope.Statement (.acornEntryWrite via p value)
    :=
  scope_of_none _ rfl
theorem Scope.weightCounterClear (via : Via) (p : Part) (value : Word) : Scope.Statement (.weightCounterClear via p
    value) :=
  scope_of_none _ rfl
theorem Scope.pair (n : Port) (pkt : Packet) : Scope.Statement (.pair n pkt) :=
  scope_of_packet _ pkt rfl fun h => h
theorem Scope.tangoPairingStart (n : Port) : Scope.Statement (.tangoPairingStart n) :=
  scope_of_none _ rfl
theorem Scope.tangoListEntryWrite (via : Via) (value : Word) : Scope.Statement (.tangoListEntryWrite via value) :=
  scope_of_none _ rfl
theorem Scope.mirrorBegin (shell : ShellOutcome) : Scope.Statement (.mirrorBegin shell) :=
  scope_of_none _ rfl
theorem Scope.tangoBegin (pkt : Packet) : Scope.Statement (.tangoBegin pkt) :=
  scope_of_packet _ pkt rfl fun h => h
theorem Scope.tangoData (pkt : Packet) : Scope.Statement (.tangoData pkt) :=
  scope_of_packet _ pkt rfl fun h => h
theorem Scope.tangoAck (pkt : Packet) : Scope.Statement (.tangoAck pkt) :=
  scope_of_packet _ pkt rfl fun h => h
theorem Scope.tangoComplete (pkt : Packet) : Scope.Statement (.tangoComplete pkt) :=
  scope_of_packet _ pkt rfl fun h => h
theorem Scope.tangoResume (pkt : Packet) : Scope.Statement (.tangoResume pkt) :=
  scope_of_packet _ pkt rfl fun h => h
theorem Scope.tangoResumeReply (pkt : Packet) : Scope.Statement (.tangoResumeReply pkt) :=
  scope_of_packet _ pkt rfl fun h => h
theorem Scope.mirrorLate : Scope.Statement .mirrorLate := scope_of_none _ rfl
theorem Scope.tangoInterrupt : Scope.Statement .tangoInterrupt := scope_of_none _ rfl
theorem Scope.tangoReleaseTagWrite (via : Via) (value : Word) : Scope.Statement (.tangoReleaseTagWrite via value) :=
  scope_of_none _ rfl
theorem Scope.tangoStart (via : Via) : Scope.Statement (.tangoStart via) :=
  scope_of_none _ rfl
theorem Scope.tangoStop (via : Via) : Scope.Statement (.tangoStop via) :=
  scope_of_none _ rfl
theorem Scope.tangoPause (via : Via) : Scope.Statement (.tangoPause via) :=
  scope_of_none _ rfl
theorem Scope.tangoUnpair (via : Via) : Scope.Statement (.tangoUnpair via) :=
  scope_of_none _ rfl
theorem Scope.tangoFreeze (via : Via) : Scope.Statement (.tangoFreeze via) :=
  scope_of_none _ rfl
theorem Scope.tangoUnfreeze (via : Via) : Scope.Statement (.tangoUnfreeze via) :=
  scope_of_none _ rfl
theorem Scope.tangoRollback (via : Via) : Scope.Statement (.tangoRollback via) :=
  scope_of_none _ rfl
theorem Scope.tangoRestore (via : Via) (shell : ShellOutcome) : Scope.Statement (.tangoRestore via shell) :=
  scope_of_none _ rfl
theorem Scope.tangoRestoreAbort (via : Via) : Scope.Statement (.tangoRestoreAbort via) :=
  scope_of_none _ rfl
theorem Scope.tangoRestoreDone (code : Fin 10) : Scope.Statement (.tangoRestoreDone code) :=
  scope_of_none _ rfl
theorem Scope.partnerSilent : Scope.Statement .partnerSilent := scope_of_none _ rfl
theorem Scope.probeSend (s : JobSlot) : Scope.Statement (.probeSend s) :=
  scope_of_none _ rfl
theorem Scope.probe (pkt : Packet) : Scope.Statement (.probe pkt) :=
  scope_of_packet _ pkt rfl fun h => h
theorem Scope.probeTimeout (addr : FabAddr) : Scope.Statement (.probeTimeout addr) :=
  scope_of_none _ rfl
theorem Scope.trust (via : Via) (addr : FabAddr) : Scope.Statement (.trust via addr) :=
  scope_of_none _ rfl
theorem Scope.dead (via : Via) (addr : FabAddr) : Scope.Statement (.dead via addr) :=
  scope_of_none _ rfl
theorem Scope.healthSubwindowEnd : Scope.Statement .healthSubwindowEnd := scope_of_none _ rfl
theorem Scope.healthPartStateWrite (via : Via) (value : Word) : Scope.Statement (.healthPartStateWrite via value) :=
  scope_of_none _ rfl
theorem Scope.spotCheckCompare (c : Core) (first second : Word) : Scope.Statement (.spotCheckCompare c first second)
    :=
  scope_of_none _ rfl
theorem Scope.tileWatchdogExpiry (c : Core) : Scope.Statement (.tileWatchdogExpiry c) :=
  scope_of_none _ rfl
theorem Scope.gateWatchdogExpiry (c : Core) : Scope.Statement (.gateWatchdogExpiry c) :=
  scope_of_none _ rfl
theorem Scope.scanWatchdogExpiry (p : Part) (w : ScanStuck) : Scope.Statement (.scanWatchdogExpiry p w) :=
  scope_of_none _ rfl
theorem Scope.arbiterWatchdogExpiry (o : ArbiterOwner) : Scope.Statement (.arbiterWatchdogExpiry o) :=
  scope_of_none _ rfl
theorem Scope.mcWatchdogExpiry : Scope.Statement .mcWatchdogExpiry := scope_of_none _ rfl
theorem Scope.rungTimeout (p : Part) : Scope.Statement (.rungTimeout p) :=
  scope_of_none _ rfl
theorem Scope.partReset (via : Via) (p : Part) (value : Word) : Scope.Statement (.partReset via p value) :=
  scope_of_none _ rfl
theorem Scope.partitionResetReady (p : Part) (obs : ResetObs) : Scope.Statement (.partitionResetReady p obs) :=
  scope_of_none _ rfl
theorem Scope.vfFlr (p : Part) : Scope.Statement (.vfFlr p) :=
  scope_of_none _ rfl
theorem Scope.chipReset (via : Option Via) (value : Word) : Scope.Statement (.chipReset via value) :=
  scope_of_none _ rfl
theorem Scope.perstAssert : Scope.Statement .perstAssert := scope_of_none _ rfl
theorem Scope.powerCycle (via : Via) (value : Word) : Scope.Statement (.powerCycle via value) :=
  scope_of_none _ rfl
theorem Scope.powerCycleCancel (via : Via) (value : Word) : Scope.Statement (.powerCycleCancel via value) :=
  scope_of_none _ rfl
theorem Scope.bistRequest (via : Via) (p : Part) (value : Word) : Scope.Statement (.bistRequest via p value) :=
  scope_of_none _ rfl
theorem Scope.bistDeferredStart (p : Part) : Scope.Statement (.bistDeferredStart p) :=
  scope_of_none _ rfl
theorem Scope.bistCancel (via : Via) (p : Part) (value : Word) : Scope.Statement (.bistCancel via p value) :=
  scope_of_none _ rfl
theorem Scope.bistDone (p : Part) (obs : BistObs) : Scope.Statement (.bistDone p obs) :=
  scope_of_none _ rfl
theorem Scope.busMasterDisable (f : Func) : Scope.Statement (.busMasterDisable f) :=
  scope_of_none _ rfl
theorem Scope.d3hotEntry (f : Func) : Scope.Statement (.d3hotEntry f) :=
  scope_of_none _ rfl
theorem Scope.vfEnableChange (enable : Bool) (numVfs : Nat) : Scope.Statement (.vfEnableChange enable numVfs) :=
  scope_of_none _ rfl
theorem Scope.msixVectorRelease (f : Func) (vector : Nat) : Scope.Statement (.msixVectorRelease f vector) :=
  scope_of_none _ rfl
theorem Scope.bar4Access (f : Func) (offset : Nat) (wr : Option (List Byte)) (len : Nat) (shell : ShellOutcome) :
    Scope.Statement (.bar4Access f offset wr len shell) :=
  scope_of_none _ rfl
theorem Scope.domainWindowAccess (offset : Nat) (wr : Option (List Byte)) (len : Nat) : Scope.Statement
    (.domainWindowAccess offset wr len) :=
  scope_of_none _ rfl
theorem Scope.atsInvalidation (f : Func) (page size : Nat) : Scope.Statement (.atsInvalidation f page size) :=
  scope_of_none _ rfl
theorem Scope.canRead (r : CanRequest) : Scope.Statement (.canRead r) :=
  scope_of_none _ rfl
theorem Scope.canWrite (r : CanRequest) : Scope.Statement (.canWrite r) :=
  scope_of_none _ rfl
theorem Scope.canReadSeg (r : CanRequest) : Scope.Statement (.canReadSeg r) :=
  scope_of_none _ rfl
theorem Scope.canWriteSeg (r : CanRequest) : Scope.Statement (.canWriteSeg r) :=
  scope_of_none _ rfl
theorem Scope.heartbeatSend : Scope.Statement .heartbeatSend := scope_of_none _ rfl
theorem Scope.controllerHeartbeat : Scope.Statement .controllerHeartbeat := scope_of_none _ rfl
theorem Scope.ctrlHbTimeout : Scope.Statement .ctrlHbTimeout := scope_of_none _ rfl
theorem Scope.barzarEvent (cls : Fin 5) (part : Option Part) (code : Nat) : Scope.Statement (.barzarEvent cls part
    code) :=
  scope_of_none _ rfl
theorem Scope.eventFrameSend : Scope.Statement .eventFrameSend := scope_of_none _ rfl
theorem Scope.assign (position : Nat) : Scope.Statement (.assign position) :=
  scope_of_none _ rfl
theorem Scope.restart : Scope.Statement .restart := scope_of_none _ rfl
theorem Scope.congaInChange (level : Bool) (heldUs : Nat) : Scope.Statement (.congaInChange level heldUs) :=
  scope_of_none _ rfl
theorem Scope.nodeIdConflict : Scope.Statement .nodeIdConflict := scope_of_none _ rfl
theorem Scope.busOffRecovery : Scope.Statement .busOffRecovery := scope_of_none _ rfl
theorem Scope.rwsSaveDone (ok : Bool) : Scope.Statement (.rwsSaveDone ok) :=
  scope_of_none _ rfl
theorem Scope.unlock (via : Via) (value : Word) : Scope.Statement (.unlock via value) :=
  scope_of_none _ rfl
theorem Scope.commit (via : Via) (value : Word) (signatureOk : Bool) : Scope.Statement (.commit via value
    signatureOk) :=
  scope_of_none _ rfl
theorem Scope.lock (via : Via) (value : Word) : Scope.Statement (.lock via value) :=
  scope_of_none _ rfl
theorem Scope.calibrationCommitDone (ok : Bool) : Scope.Statement (.calibrationCommitDone ok) :=
  scope_of_none _ rfl
theorem Scope.calibrationStagingTimeout : Scope.Statement .calibrationStagingTimeout := scope_of_none _ rfl
theorem Scope.powerUp : Scope.Statement .powerUp := scope_of_none _ rfl
theorem Scope.resetRelease (obs : BringupObs) : Scope.Statement (.resetRelease obs) :=
  scope_of_none _ rfl
theorem Scope.jobReady (microseconds : Nat) : Scope.Statement (.jobReady microseconds) :=
  scope_of_none _ rfl
theorem Scope.fwLoad (via : Via) (value : Word) (chk : ImageCheck) : Scope.Statement (.fwLoad via value chk) :=
  scope_of_none _ rfl
theorem Scope.fwUpdateStart (via : Via) (value : Word) : Scope.Statement (.fwUpdateStart via value) :=
  scope_of_none _ rfl
theorem Scope.fwUpdateDone (chk : ImageCheck) (flashOk : Bool) : Scope.Statement (.fwUpdateDone chk flashOk) :=
  scope_of_none _ rfl
theorem Scope.svnAdvance (via : Via) (value : Word) : Scope.Statement (.svnAdvance via value) :=
  scope_of_none _ rfl
theorem Scope.attestRequest (via : Via) (p : Part) (value : Word) : Scope.Statement (.attestRequest via p value) :=
  scope_of_none _ rfl
theorem Scope.reclaim (via : Via) (p : Part) (value : Word) : Scope.Statement (.reclaim via p value) :=
  scope_of_none _ rfl
theorem Scope.retentionEntry (via : Via) (value : Word) (milliC : Int) : Scope.Statement (.retentionEntry via value
    milliC) :=
  scope_of_none _ rfl
theorem Scope.retentionExit (via : Via) (value : Word) : Scope.Statement (.retentionExit via value) :=
  scope_of_none _ rfl
theorem Scope.brownOut : Scope.Statement .brownOut := scope_of_none _ rfl
theorem Scope.partPowerOff (via : Via) (p : Part) (value : Word) : Scope.Statement (.partPowerOff via p value) :=
  scope_of_none _ rfl
theorem Scope.partPowerOn (via : Via) (p : Part) (value : Word) : Scope.Statement (.partPowerOn via p value) :=
  scope_of_none _ rfl
theorem Scope.wakeDemand (t : WakeTarget) : Scope.Statement (.wakeDemand t) :=
  scope_of_none _ rfl
theorem Scope.wakeDone (t : WakeTarget) : Scope.Statement (.wakeDone t) :=
  scope_of_none _ rfl
theorem Scope.clusterSleepExpiry (p : Part) : Scope.Statement (.clusterSleepExpiry p) :=
  scope_of_none _ rfl
theorem Scope.autoOffExpiry (p : Part) : Scope.Statement (.autoOffExpiry p) :=
  scope_of_none _ rfl
theorem Scope.prewake (p : Part) (n : Fin 256) : Scope.Statement (.prewake p n) :=
  scope_of_none _ rfl
theorem Scope.powerCapSample (m : PowerSample) : Scope.Statement (.powerCapSample m) :=
  scope_of_none _ rfl
theorem Scope.fastCut : Scope.Statement .fastCut := scope_of_none _ rfl
theorem Scope.avfsTrim (p : Part) (mv requestMhz : Nat) : Scope.Statement (.avfsTrim p mv requestMhz) :=
  scope_of_none _ rfl
theorem Scope.thermalThrottleTick (t : ThermalSensor) : Scope.Statement (.thermalThrottleTick t) :=
  scope_of_none _ rfl
theorem Scope.clusterClockChange (p : Part) : Scope.Statement (.clusterClockChange p) :=
  scope_of_none _ rfl
theorem Scope.thermalTrip : Scope.Statement .thermalTrip := scope_of_none _ rfl
theorem Scope.inputUndervoltage (milliV us : Nat) : Scope.Statement (.inputUndervoltage milliV us) :=
  scope_of_none _ rfl
theorem Scope.inputOvervoltage (milliV us : Nat) : Scope.Statement (.inputOvervoltage milliV us) :=
  scope_of_none _ rfl
theorem Scope.serdesReferenceLoss (us : Nat) : Scope.Statement (.serdesReferenceLoss us) :=
  scope_of_none _ rfl
theorem Scope.serdesReferenceReturn : Scope.Statement .serdesReferenceReturn := scope_of_none _ rfl
theorem Scope.powerCounterClear (via : Via) (value : Word) : Scope.Statement (.powerCounterClear via value) :=
  scope_of_none _ rfl
theorem Scope.wireFlitSend (n : Port) (checks : List (Nat × ShellOutcome)) : Scope.Statement (.wireFlitSend n
    checks) :=
  scope_of_none _ rfl
theorem Scope.completionTimeout (ch : ChanId) (fence : Bool) : Scope.Statement (.completionTimeout ch fence) :=
  scope_of_none _ rfl
theorem Scope.engineResetDone (p : Part) : Scope.Statement (.engineResetDone p) :=
  scope_of_none _ rfl
theorem Scope.mcRestartDone : Scope.Statement .mcRestartDone := scope_of_none _ rfl
theorem Scope.channelSelfRefreshReturn (n : Fin 384) : Scope.Statement (.channelSelfRefreshReturn n) :=
  scope_of_none _ rfl
theorem Scope.partitionOffEntryDone (p : Part) : Scope.Statement (.partitionOffEntryDone p) :=
  scope_of_none _ rfl
theorem Scope.retentionEntryDone : Scope.Statement .retentionEntryDone := scope_of_none _ rfl
theorem Scope.retCurrentWarning (milliA : Nat) : Scope.Statement (.retCurrentWarning milliA) :=
  scope_of_none _ rfl
theorem Scope.thermalHoldExit : Scope.Statement .thermalHoldExit := scope_of_none _ rfl
theorem Scope.timePpsLoss : Scope.Statement .timePpsLoss := scope_of_none _ rfl
theorem Scope.pcieReferenceChange (present : Bool) (link : PcieLink) : Scope.Statement (.pcieReferenceChange present
    link) :=
  scope_of_none _ rfl
theorem Scope.canBusError (e : CanError) : Scope.Statement (.canBusError e) :=
  scope_of_none _ rfl
theorem Scope.canFrameIgnored (why : IgnoredFrame) : Scope.Statement (.canFrameIgnored why) :=
  scope_of_none _ rfl
theorem Scope.attestReportDone (p : Part) (signature : List Byte) : Scope.Statement (.attestReportDone p signature)
    :=
  scope_of_none _ rfl
theorem Scope.reclaimDone (p : Part) : Scope.Statement (.reclaimDone p) :=
  scope_of_none _ rfl

end Sys2Proof.Laws
end

