-- ==== Sys2Proof/Machine/Mapping.lean ====
section
/-! DEFINITION. The layouts that every compiler and job run-time of a job derives from the same counts: ragged shares, expert
maps, pipeline stages, thin stages and sequence stretches (R272 to R279). They are functions of counts alone; the device
executes the layout they give (log entry 77). -/

namespace Sys2Proof.Machine

/-! ## The axes and the mode of a slot (R272) -/

/-- What the ranks of a job slot are to one another. -/
inductive MapAxis where
  | dataParallel | pipelineStage | tensorParallel | sequenceStretch
  deriving DecidableEq, Repr

/-- Whether a slot of an axis may be enabled with MODE BOUNDED: only among replicas of one another (R272). -/
def MapAxis.mayBeBounded : MapAxis → Bool
  | .dataParallel => true
  | .pipelineStage => false
  | .tensorParallel => false
  | .sequenceStretch => false

/-! ## Uneven division (R273 to R276) -/

/-- How many of `h` heads, columns or tokens rank `t` of `n` receives: the last `h mod n` ranks have one more (R273, R275). -/
def raggedShare (h n t : Nat) : Nat := if n - h % n ≤ t then h / n + 1 else h / n

/-- The first of them: R273. -/
def raggedFirst (h n t : Nat) : Nat := t * (h / n) + (t - (n - h % n))

/-- How many of `e` experts rank `t` of `p` holds in the default map: the higher counts lie at the highest ranks (R274). -/
def expertCount (e p t : Nat) : Nat := raggedShare e p t

/-- The default expert map: experts in ascending order over ranks in ascending order (R274). -/
def expertMap (e p : Nat) : List Nat := (List.range p).flatMap fun t => List.replicate (expertCount e p t) t

/-- Whether an expert map may take the place of another at a step boundary: every rank of `p` holds the floor or the ceiling of
its share (R274). -/
def expertMapOk (p : Nat) (m : List Nat) : Bool :=
  m.all (decide <| · < p) && (List.range p).all fun t =>
    let n := m.countP (· == t)
    n == m.length / p || n == (m.length + p - 1) / p

/-- A per-rank count padded with +0 elements to a multiple of 4 (R276). -/
def padCount (n : Nat) : Nat := (n + 3) / 4 * 4

/-- The per-rank counts of an extent table for `h` elements over `n` ranks (R260, R276). -/
def raggedCounts (h n : Nat) : List Nat := (List.range n).map fun t => padCount (raggedShare h n t)

/-! ## Pipeline stages (R277, R278) -/

/-- Micro-batches whose activations stage `s` of `p` holds at once, of `m` in a step. -/
def inFlight (p m s : Nat) : Nat := min (p - s) m

/-- The layers that the bytes `c` of stage `s` hold, at `w` bytes a layer and `a` bytes a layer and micro-batch; `w + a` is not
zero. -/
def stageCap (p m w a c s : Nat) : Nat := c / (w + inFlight p m s * a)

/-- The capped sum of R277 at `x`. -/
def cappedSum (caps : List Nat) (x : Nat) : Nat := caps.foldl (fun n cap => n + min x cap) 0

/-- The smallest integer from `x` on, within `fuel` steps, at which the capped sum reaches `n` (R277). -/
def leastLayers (caps : List Nat) (n : Nat) : Nat → Nat → Nat
  | 0, x => x
  | fuel + 1, x => if n ≤ cappedSum caps x then x else leastLayers caps n fuel (x + 1)

/-- Taking the surplus off the lowest stages that hold `x` layers (R277). -/
def takeSurplus (x : Nat) : List Nat → Nat → List Nat
  | [], _ => []
  | l :: ls, 0 => l :: ls
  | l :: ls, k + 1 => if l = x then (l - 1) :: takeSurplus x ls k else l :: takeSurplus x ls (k + 1)

/-- The layers of each stage from the stages' capacities; none where the capacities fall short of `n` (R277). -/
def balanceLayers (caps : List Nat) (n : Nat) : Option (List Nat) :=
  if caps.sum < n then none
  else
    let x := leastLayers caps n n 0
    let layers := caps.map (min x)
    some (takeSurplus x layers (layers.sum - n))

/-- The layers of each stage from what R277 is given: `cs` are the stages' bytes. -/
def stageLayers (n m w a : Nat) (cs : List Nat) : Option (List Nat) :=
  balanceLayers (cs.zipIdx.map fun c => stageCap cs.length m w a c.1 c.2) n

/-- The thin stages of device `d` of `p` with `v` on each (R278). -/
def thinStages (p v d : Nat) : List Nat := (List.range v).map fun i => d + i * p

/-- Whether a job of `m` micro-batches over `p` devices may use `v` thin stages on each (R278). -/
def interleaveOk (p m v : Nat) : Bool := decide (1 ≤ v) && decide (v ≤ 4) && (v == 1 || m % p == 0)

/-- The idle share of a step as a fraction: what filling and draining the pipeline costs (R278). -/
def idleShare (p m v : Nat) : Nat × Nat := (p - 1, v * m + p - 1)

/-! ## Sequence stretches (R275, R279) -/

/-- The tokens of rank `r` of `n`: the first and their number (R275). -/
def stretch (tokens n r : Nat) : Nat × Nat := (raggedFirst tokens n r, raggedShare tokens n r)

/-- The LENGTH of a HORA block, the same on every rank: that of the longest stretch (R279). -/
def horaBlock (tokens n bytesPerToken : Nat) : Nat := raggedShare tokens n (n - 1) * bytesPerToken

end Sys2Proof.Machine
end

