-- ==== Sys2Proof/Tests/Slice0.lean ====
section
/-! SUPPORT. Tests: the checks of WellFormed refuse an ill-formed term each; witnesses that meet the hypotheses of the
statements; and single steps on small states. Expected values come from the manual's rules. -/

namespace Sys2Proof.Tests

set_option Elab.async false

open Sys2Proof.Machine

/-! ## WellFormed: a good command, and one ill-formed term for each check -/

/-- Sixteen FP32 elements at offset 0 of core 0. -/
def d0 : Desc := ⟨.fp32, 0#64, none, [], 16, [], 0, .k, none, 0, .rne, .sat, none⟩

/-- An empty packet for this device. -/
def p0 : Packet := ⟨0#24, 0#24, 0#16, 0#12, 1#4, 0#8, 0#16, 0#16, 0, 0, 0, 0#32, 0, 0#16, [], 0⟩

def v0 : VecOp := ⟨.add, .reg 0, .reg 1, .reg 2, .mem d0, 16, .rne⟩

/-- A whole flit of zeros with the number 0 and a checksum of 0. -/
def f0 : FlitRx := ⟨0, 0, 0, List.replicate 256 0#8, ⟨0#3, 0, 0, 0, 0, 0, 0⟩, 0, false⟩

theorem test_wf_good : (Instr.vectorOperation 0 v0 .clean).wf = true ∧ (Instr.packetRoute 0 none p0 []).wf = true ∧
    (Instr.flitReceive 0 f0).wf = true := by decide +kernel

theorem test_wf_desc_n0 : ({ d0 with n0 := 0 } : Desc).wf = false := by decide
theorem test_wf_desc_dims : ({ d0 with dims := [(1, 0), (1, 0), (1, 0), (1, 0)] } : Desc).wf = false := by decide
theorem test_wf_desc_dim0 : ({ d0 with dims := [(0, 0)] } : Desc).wf = false := by decide
theorem test_wf_desc_dim_size : ({ d0 with dims := [(65536, 0)] } : Desc).wf = false := by decide
theorem test_wf_desc_stride : ({ d0 with dims := [(1, 16777216)] } : Desc).wf = false := by decide
theorem test_wf_desc_stride_low : ({ d0 with dims := [(1, -16777217)] } : Desc).wf = false := by decide
theorem test_wf_desc_steps : ({ d0 with steps := [(0, 0), (1, 0), (2, 0), (3, 0), (0, 0)] } : Desc).wf = false := by decide
theorem test_wf_desc_scale : ({ d0 with scaleAddr := 2 ^ 32 } : Desc).wf = false := by decide
theorem test_wf_vector_n : (Instr.vectorOperation 0 { v0 with n := 0 } .clean).wf = false := by decide
theorem test_wf_row_n : (Instr.rowReduction 0 ⟨.sum, .reg 0, .reg 1, 2 ^ 20 + 1, .rne⟩ .clean).wf = false := by decide
theorem test_wf_norm_stats : (Instr.rowNormalisation 0 ⟨.softmax, .reg 0, .reg 1, 4, 0, .reg 2, some (2 ^ 32)⟩ .clean).wf =
    false := by decide
theorem test_wf_back_n : (Instr.normBackward 0 ⟨.rms, .reg 0, .reg 1, .reg 2, .reg 3, 0, 0, none⟩ .clean).wf = false := by decide
theorem test_wf_drain : (Instr.bankDrain 0 0 ⟨0, 0, 1, 0, .spad { d0 with n0 := 0 }⟩ .clean).wf = false := by decide
theorem test_wf_drain_scale : (Instr.bankDrain 0 0 ⟨0, 0, 1, 64, .vector 0⟩ .clean).wf = false ∧
    (Instr.bankDrain 0 0 ⟨0, 0, 1, -65, .vector 0⟩ .clean).wf = false := by decide
theorem test_wf_walnut_scale : (Instr.walnutDrain 0 ⟨⟨0, 1024⟩, 64, none, 0, .vector 0⟩ .clean).wf = false := by decide
theorem test_wf_pass_preload : (Instr.blockPass 0 0 ⟨.bf16, false, .row, false, 0, 0, .bias { d0 with n0 := 0 }, d0⟩ .clean).wf =
    false := by decide
theorem test_wf_walnut_mask : (Instr.walnutDrain 0 ⟨⟨0, 1024⟩, 0, some (2 ^ 32), 0, .vector 0⟩ .clean).wf = false := by decide
theorem test_wf_walnut_bucket : (Instr.walnutDrain 0 ⟨⟨0, 1024⟩, 0, none, 0, .bucket ⟨0, 0, 0, 2 ^ 48⟩⟩ .clean).wf = false := by
  decide
theorem test_wf_register_size : (Instr.registerWrite .pf .funcRefuse 3 0).wf = false := by decide
theorem test_wf_step : (Instr.stepBegin 0 (2 ^ 32) 1 0 none false).wf = false := by decide
theorem test_wf_fence_beat : (Instr.stepBegin 0 0 1 (2 ^ 54) none false).wf = false := by decide
theorem test_wf_program : (Instr.programRegister .pf 0 0 (2 ^ 48) 1).wf = false := by decide
theorem test_wf_image_core : (Instr.imageValidationDone 0 0 ⟨true, [(128, [])], []⟩).wf = false := by decide
theorem test_wf_image_channel : (Instr.imageValidationDone 0 0 ⟨true, [], [⟨128, 0, 0, 0⟩]⟩).wf = false := by decide
theorem test_wf_lost : (Instr.contextEvictDone 0 0 [2 ^ 48]).wf = false := by decide
theorem test_wf_packet_length : (Instr.probe { p0 with length := 1 }).wf = false := by decide
theorem test_wf_packet_long : (Instr.probe { p0 with length := 4097, payload := List.replicate 4097 0 }).wf = false := by
  decide +kernel
theorem test_wf_packet_target : (Instr.probe { p0 with target := 2 ^ 48 }).wf = false := by decide
theorem test_wf_scrub : (Instr.patrolScrubRead true (.corrected 0 (2 ^ 44) false)).wf = false := by decide
theorem test_wf_flit_fec : (Instr.flitReceive 0 { f0 with evenErrors := 137 }).wf = false := by decide +kernel
theorem test_wf_flit_credit : (Instr.flitReceive 0 { f0 with link := { f0.link with creditCount := 2048 } }).wf = false := by
  decide +kernel
theorem test_wf_flit_ack : (Instr.flitReceive 0 { f0 with link := { f0.link with ack := 4096 } }).wf = false := by decide +kernel
theorem test_wf_flit_body : (Instr.flitReceive 0 { f0 with body := [] }).wf = false := by decide
theorem test_wf_flit_crc : (Instr.flitReceive 0 { f0 with crc := 2 ^ 32 }).wf = false := by decide +kernel
theorem test_wf_tempo : (Instr.tempoReceive 0 ⟨2 ^ 64, 0, 0, 0, none⟩).wf = false := by decide
theorem test_wf_descriptor : (Instr.allReduce (.program 0) (2 ^ 32)).wf = false := by decide
theorem test_wf_vfs : (Instr.vfEnableChange true 17).wf = false := by decide
theorem test_wf_vector : (Instr.msixVectorRelease 0 144).wf = false := by decide
theorem test_wf_bar4 : (Instr.bar4Access 0 0 none 0 .clean).wf = false := by decide
theorem test_wf_bar4_bytes : (Instr.bar4Access 0 0 (some [0]) 2 .clean).wf = false := by decide
theorem test_wf_window : (Instr.domainWindowAccess 4096 none 1).wf = false := by decide
theorem test_wf_can : (Instr.canRead ⟨1, 1, 0, 0, 0, 0, 0, List.replicate 49 0⟩).wf = false := by decide
theorem test_wf_assign : (Instr.assign 0).wf = false ∧ (Instr.assign 128).wf = false := by decide
theorem test_wf_signature : (Instr.attestReportDone 0 []).wf = false := by decide

/-! ## Small states -/

/-- The value of an outcome where it is good. -/
def okAnd {ε α : Type} (x : Except ε α) (f : α → Bool) : Bool :=
  match x with
  | .ok a => f a
  | .error _ => false

/-- The value that an option holds, judged. -/
def optAnd {α : Type} (x : Option α) (f : α → Bool) : Bool :=
  match x with
  | some a => f a
  | none => false

/-- The state that a command answers, judged. -/
def after (c : Instr) (s : State) (f : State → Bool) : Bool :=
  match exec c s with
  | .next t => f t
  | .fault _ => false
  | .refused _ => false

/-- The state that a step answers, judged. -/
def stepped (s : State) (f : State → Bool) : Bool :=
  match step s with
  | .next t => f t
  | .fault _ => false
  | .refused _ => false

/-- A job-ready device with its PCIe link up. -/
def up : State := (State.reset.wrN (objKey 0x1000 0x30) 5).wrN (objKey 0x1000 0x31) 65535

/-- With sixteen virtual functions. -/
def upVf : State := { up with host := { up.host with vfEnable := true, numVfs := 16 } }

/-- A tile of no gates. -/
def tile0 : Tile := ⟨[], false, true, []⟩

/-- An image of two tiles on core 0, within a loop of level 0. -/
def img0 : Image := ⟨true, [(0, [.loopEnter 0 (.imm 2), .tile tile0, .loopEnd 0, .tile tile0])], []⟩

/-- Context 0 on core 0, program 0 and launch 0 of slot 0, with core 0 at item `i` and in tile `t`. -/
def running (i : Nat) (t : Option (Nat × Nat)) : State :=
  { up with
    ctxs := [(0, { Ctx.reset with coreMask := 1, state := .resident, spadSize := 32, jobId := 1, onCores := true })],
    progs := [(0, { Prog.reset with state := .ready, length := 64, address := 4096, img := some img0 })],
    slots := [(0, { LSlot.reset with state := .running, coreSet := [0] })],
    launches := [(0, ⟨0, 0, img0, 0, 0, 0, false, [], 0, some 0, none, [], 0, []⟩)],
    cores := [(0, { CoreSt.reset with run := { CoreRun.idle with launch := some 0, item := i, tile := t } })] }

/-! ## Witnesses: the queue, reset and registers -/

theorem test_wit_FrontCommandRuns : { State.reset with pending := [.partnerSilent, .mcRestartDone] }.pending =
    [.partnerSilent, .mcRestartDone] := rfl

/-- Powered off; on and running; on and in Retention; tripped. -/
theorem test_wit_EmptyQueuePassesABeat : (State.reset.modPow fun w => { w with mode := .off }).pow.mode = .off ∧
    State.reset.pending = [] ∧ (up.pow.mode = .on ∧ up.rdN (pwKey 7) = 0) ∧
    ¬((up.wrN (pwKey 7) 2).pow.mode = .on ∧ (up.wrN (pwKey 7) 2).rdN (pwKey 7) = 0) ∧
    (up.modPow fun w => { w with mode := .tripped }).pow.mode = .tripped := by decide +kernel

theorem test_wit_QueueDrainsInOrder : (applyAll [.mcRestartDone, .brownOut] { up with pending := [.mcRestartDone, .brownOut] }).pending =
    [] := by decide +kernel

theorem test_wit_WaitingCommandsStayWellFormed : (∀ c ∈ { up with pending := [Instr.assign 127, .assign 1] }.pending, c.wf = true) ∧
    stepped { up with pending := [Instr.assign 127, .assign 1] } (fun t => t.pending == [.assign 1]) = true := by
  decide +kernel

/-- An open path, an object that takes a value and one that refuses it, at the bounds of TILE_WATCHDOG (R330); a path that is not
open; the blocks, and the registers of a function. -/
theorem test_wit_RegistersAreWritten : up.reaches .pf 0x3000 0xE4 = true ∧ upVf.reaches (.vf 0) (partIx 0) 0xE4 = true ∧
    okAnd (objSizedW up .pf 0x3000 0xE4 4 64#64) (fun _ => true) = true ∧
    okAnd (objSizedW up .pf 0x3000 0xE4 4 1000000#64) (fun _ => true) = true ∧
    okAnd (objSizedW up .pf 0x3000 0xE4 4 63#64) (fun _ => true) = false ∧
    okAnd (objSizedW up .pf 0x3000 0xE4 4 1000001#64) (fun _ => true) = false ∧
    State.reset.viaLive .pf = false ∧ up.reachesBlock .pf 0 = true ∧ upVf.reachesBlock (.vf 15) 15 = true ∧
    okAnd (blockW up .pf 0 0 4 7#64) (fun _ => true) = true ∧ (up.slot 0 255).state = .empty ∧
    ((up.setSlot 0 255 { LSlot.reset with state := .armed }).slot 0 255).state = .armed ∧ up.viaLive .pf = true ∧
    (8#64).toNat % 8 = 0 ∧ bit (0x8000000000000000#64) 63 = true ∧ up.pcieUp = true ∧ bit (1#64) 0 = true := by decide +kernel

/-! ## Witnesses: engines, walnut buffer, vector unit -/

/-- BF16 blocks of 64 rows and 32 columns, the largest of the pair, and of one row more. -/
def bl0 : BlockLoad := ⟨.bf16, false, { d0 with fmt := .bf16, n0 := 64, dims := [(32, 128)] }⟩
def bl1 : BlockLoad := ⟨.bf16, false, { d0 with fmt := .bf16, n0 := 65, dims := [(32, 130)] }⟩

theorem test_wit_StationaryLoad : up.coreRuns 0 = true ∧ up.readable 0 bl0.w (pairFmt bl0.pair bl0.e5) = true ∧ loadFits bl0 = true ∧
    ShellOutcome.clean.bad = false ∧ bl0.w.chan = none ∧ bl0.w.fmt = pairFmt bl0.pair bl0.e5 ∧
    up.readable 0 bl1.w (pairFmt bl1.pair bl1.e5) = true ∧ (pairShape bl1.pair).1 < (blockShape bl1.w).1 := by decide +kernel

/-- A pass of one row of one element with a zero preload. -/
def bp0 : BlockPass := ⟨.bf16, false, .row, true, 0, 0, .zero, { d0 with fmt := .bf16, n0 := 1 }⟩

/-- A gradient pass of one row into the first walnut block. -/
def gp0 : GradPass := ⟨.bf16, false, false, { d0 with fmt := .bf16, n0 := 64 }, { d0 with fmt := .bf16, n0 := 32 }, ⟨0, 2048⟩, 0⟩

theorem test_wit_PassesAccumulate : up.readable 0 bp0.x (pairFmt bp0.pair bp0.e5) = true ∧ passLayoutOk ((up.core 0).engine 0) bp0 = true ∧
    (up.taken 0 bp0.x (pairFmt bp0.pair bp0.e5)).1.preReadable 0 bp0 = true ∧ up.regionDrains 0 gp0.region = false ∧ gradFits gp0 = true ∧
    up.readable 0 gp0.x (pairFmt gp0.pair gp0.xe5) = true ∧
    (up.taken 0 gp0.x (pairFmt gp0.pair gp0.xe5)).1.readable 0 gp0.dy (pairFmt gp0.pair gp0.dye5) = true ∧ 0 < descRows gp0.x := by
  decide +kernel

/-- A bank with one total, 1.0. -/
def bankUp : State := up.modCore 0 fun x => x.setEngine 0 { Engine.empty with bank0 := ⟨some (.fp32, 32), [(0, 0x3F800000#64)], [], none⟩ }

def dr0 : Drain := ⟨0, 0, 1, 0, .vector 0⟩
def wd0 : WDrain := ⟨⟨0, 1024⟩, 0, none, 0, .vector 0⟩

def drw : Drain := ⟨0, 0, 1, 63, .walnut ⟨0, 1024⟩ 0 0⟩

theorem test_wit_DrainsEmpty : up.coreRuns 0 = true ∧ bankUp.coreRuns 0 = true ∧ bankUp.drainWaits 0 dr0 = false ∧
    drainCheck bankUp 0 (((bankUp.core 0).engine 0).bank 0) dr0 = none ∧ (((bankUp.core 0).engine 0).bank 0).use = some (.fp32, 32) ∧
    bankUp.drainWaits 0 drw = false ∧ drainCheck bankUp 0 (((bankUp.core 0).engine 0).bank 0) drw = none ∧ 0 < drw.rows ∧
    regionOk wd0.region = true ∧ regionOk ⟨524288 - 16, 16⟩ = true ∧ okAnd (wdrainMask up 0 wd0) (fun m => m == none) = true ∧
    wdrainCheck up 0 wd0 (16 * (wdrainLines up wd0 none).length) = none ∧ (∀ b, wd0.dest ≠ .bucket b) :=
  ⟨by decide +kernel, by decide +kernel, by decide +kernel, by decide +kernel, by decide +kernel, by decide +kernel, by decide +kernel,
    by decide +kernel, by decide +kernel, by decide +kernel, by decide +kernel, by decide +kernel, fun _ => nofun⟩

def vo0 : VecOp := ⟨.add, .mem d0, .reg 1, .imm 0, .mem { d0 with imm := 64#64 }, 16, .rne⟩
def rr0 : RowRed := ⟨.sum, .mem { d0 with n0 := 1048576 }, .reg 0, 1048576, .rne⟩
def nf0 : NormFwd := ⟨.softmax, .mem d0, .reg 0, 16, 0, .imm 0, some 64⟩
def nb0 : NormBwd := ⟨.rms, .mem d0, .reg 1, .reg 2, .reg 3, 16, 0, none⟩

/-- Of registers, with the result in a register. -/
def vo1 : VecOp := ⟨.fma, .reg 0, .reg 1, .reg 2, .reg 3, 512, .rdn⟩
def rr1 : RowRed := ⟨.max, .reg 0, .reg 1, 512, .rtz⟩
def nf1 : NormFwd := ⟨.softmax, .reg 0, .reg 1, 16, 0, .imm 0, none⟩
def nb1 : NormBwd := ⟨.softmax, .reg 0, .reg 1, .imm 0, .reg 3, 16, 0, none⟩

theorem test_wit_VectorOperationsComplete :
    checkV up 0 vo0.n vo0.dst false = none ∧ ¬(vo0.round = .sr ∧ srDstOk vo0.dst = false) ∧
    (let r1 := up.takenV 0 vo0.n (opFmt vo0.fn) vo0.a
     let r2 := r1.1.takenV 0 vo0.n (opFmt vo0.fn) vo0.b
     up.readableV 0 vo0.n (opFmt vo0.fn) vo0.a = true ∧ r1.1.readableV 0 vo0.n (opFmt vo0.fn) vo0.b = true ∧
     r2.1.readableV 0 vo0.n (opFmt vo0.fn) vo0.c = true) ∧
    checkV up 0 vo1.n vo1.dst false = none ∧ is64 vo1.fn = false ∧ vo1.fn ∉ [VecFn.draw16, .draw32, .draw64] ∧ vo1.round ≠ .sr ∧
    rr0.n ≤ 2 ^ 20 ∧ checkV up 0 1 rr0.dst false = none ∧ up.readableV 0 rr0.n .fp32 rr0.src = true ∧ rr1.round ≠ .sr ∧
    checkV up 0 1 rr1.dst false = none ∧ up.readableV 0 rr1.n .fp32 rr1.src = true ∧
    checkV up 0 16 nf0.y false = none ∧ statsErr up 0 nf0.stats = none ∧ up.readableV 0 16 .fp32 nf0.x = true ∧
    (up.takenV 0 16 .fp32 nf0.x).1.readableV 0 16 .fp32 nf0.gain = true ∧ checkV up 0 16 nf1.y false = none ∧
    up.readableV 0 16 .fp32 nf1.x = true ∧ statsErr up 0 nf1.stats = none ∧
    (∀ nb ∈ [nb0, nb1], checkV up 0 16 nb.dx false = none ∧ statsErr up 0 nb.stats = none ∧ up.readableV 0 16 .fp32 nb.x = true ∧
      (up.takenV 0 16 .fp32 nb.x).1.readableV 0 16 .fp32 nb.dy = true ∧
      ((up.takenV 0 16 .fp32 nb.x).1.takenV 0 16 .fp32 nb.dy).1.readableV 0 16 .fp32 nb.gain = true) ∧
    up.regionDrains 0 ⟨0, 16⟩ = false ∧ regionOk ⟨0, 16⟩ = true ∧ 0 + 16 ≤ (⟨0, 16⟩ : WRegion).len := by decide +kernel

theorem test_wit_CoreRegisterOperations : up.coreRuns 255 = true ∧ up.coreRuns 0 = true ∧ (running 1 none).coreRuns 0 = true ∧
    ((running 1 none).core 0).run.launch = some 0 ∧ ((running 1 none).launch 0).isSome = true ∧ (up.core 0).run.launch ≠ some 0 := by
  decide +kernel

/-- In tile 0 of the launch: counts of 0, of the tile's limit and above 2^24 - 1, and a level that is active. -/
theorem test_wit_LoopsInsideATile : (running 2 (some (0, 0))).coreRuns 0 = true ∧ (running 2 (some (0, 0))).atBoundary 0 = false ∧
    ((loopSource ((running 2 (some (0, 0))).core 0) 1 (.imm 0)).loop 1).cnt.toNat = 0 ∧
    ((loopSource ((running 2 (some (0, 0))).core 0) 1 (.imm loopMax)).loop 1).cnt.toNat = loopMax ∧
    loopMax < ((loopSource ((running 2 (some (0, 0))).core 0) 1 (.imm (loopMax + 1))).loop 1).cnt.toNat ∧
    (running 2 (some (0, 0))).runningTile 0 = some tile0 ∧
    ((((running 2 (some (0, 0))).modCore 0 fun x => loopStart x 1 2).core 0).loop 1).active = true := by decide +kernel

/-- At the loop of whole tiles of the image: its entry, and its end in the first and the last iteration. -/
theorem test_wit_LoopsOfWholeTiles : (running 0 none).atBoundary 0 = true ∧
    ((running 0 none).items 0)[0]? = some (.loopEnter 0 (.imm 2)) ∧ ((running 2 none).items 0)[2]? = some (.loopEnd 0) ∧
    ((((running 2 none).modCore 0 fun x => loopStart x 0 2).core 0).loop 0).active = true ∧
    ((loopSource ((running 0 none).core 0) 0 (.imm 2)).loop 0).cnt.toNat = 2 := by decide +kernel

/-! ## Witnesses: tiles, step fence, versions, loss monitor, clears -/

/-- A region of two slots, the first COMMITTED under tag 7 and the second in the state given. -/
def region2 (st : VState) : VEntry :=
  ⟨true, false, { VSlot.reset with state := .committed, tag := 7 }, { VSlot.reset with state := st, tag := 8 }, 4096⟩

/-- Region 0 of partition 0, and an armed fence of step 7. -/
def fenced (st : VState) (f : FenceState) : State :=
  { up with versions := [(0, region2 st)], fences := [(0, ⟨f, 7, 0, 0, 0, none, none⟩)] }

/-- The launch with a tile that has one gate. -/
def gated (g : Gate) (s : State) : State :=
  { s with
    cores := (running 0 none).cores
    launches := [(0, ⟨0, 0, ⟨true, [(0, [.tile ⟨[g], false, false, []⟩])], []⟩, 0, 0, 0, false, [], 0, none, none, [], 0, []⟩)] }

theorem test_wit_TilesIssueAndComplete : (running 1 none).nextTile 0 = some tile0 ∧
    optAnd ((running 1 none).launchOf 0) (fun kl => (running 1 none).mayIssue 0 kl.2) = true ∧ tile0.gates.any ((running 1 none).gateVoid 0) = false ∧ (running 1 none).openGates 0 = [] ∧
    (gated (.beatOffset 1) (running 1 none)).openGates 0 = [.beatOffset 1] ∧
    (gated (.beatOffset 0) (running 1 none)).openGates 0 = [] ∧
    [Gate.version 0 (.step 8)].any ((gated (.version 0 (.step 8)) { running 1 none with
      fences := [(0, ⟨.aborted, 7, 0, 0, 0, none, some 8⟩)] }).gateVoid 0) = true ∧
    ((running 2 (some (0, 0))).core 0).run.tile = some (0, 0) ∧ ((running 2 (some (0, 0))).core 0).drains = false ∧
    (running 2 (some (0, 0))).collWaits 0 = false := by decide +kernel

theorem test_wit_StepBegin : up.coreRuns 17 = true ∧ (fenced .free .armed).fence 0 = ⟨.armed, 7, 0, 0, 0, none, none⟩ := by
  decide +kernel

/-- A binding to a current version; no COMMITTED slot; a step's version with room for one binding more; a retirement. -/
theorem test_wit_MicroBatches : ((fenced .free .armed).microBatches 0).any (fun m => m.mb == 3) = false ∧
    (∀ i ∈ ([] : List (Fin 32)), bit ((fenced .free .armed).acorn 0 i) 63 = true) ∧
    bindCurrent (fenced .free .armed) 0 ((fenced .free .armed).admitRegions 0 [0, 0] []) = some [(0, 0)] ∧
    bindCurrent up 0 (up.admitRegions 0 [0] []) = none ∧
    (∀ r ∈ (fenced .free .armed).admitRegions 0 [0] [], ∀ i ∈ ((fenced .free .armed).region 0 r).stepSlot 7,
      (((fenced .free .armed).region 0 r).slot i).bind < 255) ∧
    (({ up with mbs := [(0, [⟨3, 7, [], none, [], []⟩])] }.microBatches 0).find? fun (m : MicroBatch) => m.mb == 3) =
      some ⟨3, 7, [], none, [], []⟩ := by decide +kernel

theorem test_wit_OptimizerWritesRegions : ((fenced .free .idle).region 0 0).current = some 0 ∧
    (((fenced .free .idle).region 0 0).slot 1).state = .free ∧ (((fenced .retiring .idle).region 0 0).slot 1).state = .retiring ∧
    (up.region 0 0).valid = false ∧
    (((fenced .pending .idle).region 0 0).find fun v => v.state == .pending && v.holder == .step) = some 1 := by decide +kernel

/-- All done at the beat itself; then one condition short. -/
theorem test_wit_FenceCommitsTheStep : ((fenced .free .armed).fence 0).state = .armed ∧
    ((fenced .free .armed).fence 0).mbs ≤ ((fenced .free .armed).fence 0).retired ∧ (fenced .free .armed).unwritten 0 = 0 ∧
    ((fenced .free .armed).fence 0).beat ≤ (fenced .free .armed).beatIx ∧ ((fenced .free .idle).fence 0).state ≠ .armed ∧
    0 < (fenced .pending .armed).unwritten 0 ∧ (fenced .pending .armed).stepPending 0 = [(0, 1)] := by decide +kernel

theorem test_wit_FenceAborts : up.reaches .pf (partIx 0) 0x5F = true ∧ upVf.reaches (.vf 0) (partIx 0) 0x5F = true ∧
    bit (1#64) 0 = true ∧ ((fenced .pending .committed).fence 0).state ≠ .armed := by decide +kernel

/-- +infinity, a NaN and 1.0, with a monitor that has counted nothing. -/
theorem test_wit_LossIsMonitored : up.reaches .pf (partIx 0) 0x56 = true ∧ (v32 0x7F800000#32).isInf = true ∧
    (v32 0x7FC00000#32).isNan = true ∧ ((v32 0x3F800000#32).isNan || (v32 0x3F800000#32).isInf) = false ∧ up.pN 0 0x5B = 0 ∧
    0 < up.pN 0 0x5A := by decide +kernel

/-- Every counter clear is reached, through the first partition's own function where the objects are a partition's. -/
theorem test_wit_CounterClears : (∀ sub ∈ [0x48, 0x4A, 0xBC, 0xA6, 0x9A, 0xD2], upVf.reaches (.vf 0) (partIx 0) sub = true) ∧
    (∀ x ∈ [(0x2500, 0x1C), (0x2600, 4), (0x2000, 0x0E), (0x2510, 0x11), (0x252F, 0x11), (jsIx 0, 0), (jsIx 127, 0), (0x2800, 0x0F)],
      up.reaches .pf x.1 x.2 = true) ∧ bit (1#64) 0 = true ∧ bit (2#64) 0 = false := by decide +kernel

theorem test_wit_FlagAndIdleObjects : (∀ sub ∈ [0x41, 0x70, 0x8A, 0x89], up.reaches .pf (partIx 15) sub = true) ∧
    (15#64).toNat ≤ 15 ∧ (255#64).toNat = 255 := by decide +kernel

/-! ## Witnesses: programs, launch slots, launches, contexts -/

/-- Context 0 in a state, its cores holding nothing else. -/
def ctxIn (st : CtxState) : State :=
  { up with
    ctxs := [(0, { Ctx.reset with coreMask := 1, state := st, spadSize := 32, saveAddr := 2097152, jobId := 1, since := 0 })]
    cores := [(0, { CoreSt.reset with flags := 1, run := { CoreRun.idle with item := 1 } })] }

/-- Program 0 registered or READY. -/
def progIn (st : ProgState) : State :=
  { ctxIn .resident with progs := [(0, { Prog.reset with state := st, length := 1, address := 4096, img := some img0 })] }

/-- Slot 255 of partition 0 in a state, running program 0 in context 0. -/
def slotIn (st : SlotState) : State :=
  { progIn .ready with slots := [(255, { LSlot.reset with state := st, coreSet := [0], recordAddr := 128 })] }

theorem test_wit_ProgramTable : upVf.reachesBlock (.vf 0) 0 = true ∧ (up.prog 0 1023).state = .free ∧ (up.prog 0 1023).releasing = false ∧
    4096 % 4096 = 0 ∧ ((progIn .validating).prog 0 0).state = .validating ∧
    (progIn .validating).imageCheck 0 ((progIn .validating).prog 0 0) img0 = 0 ∧
    (progIn .validating).imageCheck 0 ((progIn .validating).prog 0 0) { img0 with headerOk := false } ≠ 0 ∧
    (progIn .validating).channelLeaves 0 img0 = false ∧ ((progIn .ready).prog 0 0).state ≠ .free ∧ (progIn .ready).handleRuns 0 (((progIn .ready).prog 0 0).handle 0) = false ∧
    (running 1 none).handleRuns 0 (((running 1 none).prog 0 0).handle 0) = true := by decide +kernel

theorem test_wit_SlotsArmAndAbort : ((slotIn .empty).slot 0 255).state = .empty ∧ ((slotIn .done).slot 0 255).state = .done ∧
    (slotIn .empty).isLead 0 = true ∧ ((slotIn .empty).slot 0 255).recordAddr % 128 = 0 ∧
    (slotIn .empty).inGroupHbm 0 128 128 = true ∧ (slotIn .empty).inGroupHbm 0 (hbmSize - 128) 128 = true ∧
    ((slotIn .armed).slot 0 255).state = .armed ∧ ((slotIn .running).slot 0 255).state = .running := by decide +kernel

/-- Due in the beat of its START_BEAT; the context of another group. -/
theorem test_wit_SlotStarts : (slotIn .armed).superseded = false ∧ ((slotIn .armed).slot 0 255).coreSet ≠ [] ∧ (slotIn .armed).due 0 255 = true ∧
    ((slotIn .armed).ctx 0).state = .resident ∧ ((slotIn .armed).ctx 0).evictReq = false ∧
    (slotIn .armed).imageOf 0 ((slotIn .armed).chosen ((slotIn .armed).slot 0 255)).1 = some img0 ∧
    ((slotIn .armed).ctx 0).covers (imgCores img0) = true ∧ (slotIn .armed).groupRuns 0 = true ∧ (slotIn .armed).bistRuns 0 = false ∧
    (slotIn .armed).coresRun 0 (imgCores img0) = false ∧ ((slotIn .armed).slot 0 255).patchCount = 0 ∧
    ((slotIn .armed).setSlot 0 255 { (slotIn .armed).slot 0 255 with ctxId := 16 }).due 0 255 = true ∧
    (slotIn .armed).inGroupHbm 0 ((slotIn .armed).slot 0 255).recordAddr 128 = true := by decide +kernel

/-- Cores that have finished their streams, and one that has not. -/
theorem test_wit_LaunchCompletes :
    optAnd (((running 4 none).modCore 0 fun x => { x with run := { x.run with finished := true } }).launch 0) (fun l =>
      l.ending.isNone && ((running 4 none).modCore 0 fun x => { x with run := { x.run with finished := true } }).launchDone 0 l.ctx) = true ∧
    (running 4 none).inGroupHbm 0 ((running 4 none).slot 0 0).recordAddr 128 = true ∧ (running 2 (some (0, 0))).launchDone 0 0 = false := by
  decide +kernel

theorem test_wit_ContextsAreCreatedAndEvicted : ((ctxIn .free).ctx 0).state = .free ∧ (ctxIn .free).isLead 0 = true ∧
    ((ctxIn .free).ctx 0).coreMask ≠ 0 ∧ ((ctxIn .free).ctx 0).coreMask.toNat / 2 ^ (16 * ((ctxIn .free).members 0).length) = 0 ∧
    (ctxIn .free).inGroupHbm 0 ((ctxIn .free).ctx 0).saveAddr ((ctxIn .free).ctx 0).saveArea = true ∧
    ((ctxIn .free).ctx 0).spadBase + ((ctxIn .free).ctx 0).spadSize ≤ 512 ∧ ((ctxIn .resident).ctx 0).state = .resident ∧
    ((ctxIn .resident).ctx 0).evictReq = false ∧ 16 * 0 + 0 ≠ 0xFF := by decide +kernel

theorem test_wit_ContextsAreSavedAndRestored : (ctxIn .evicting).superseded = false ∧ ((ctxIn .evicting).ctx 0).state = .evicting ∧
    (ctxIn .evicting).ctxCores 0 = [0] ∧ ((ctxIn .loading).ctx 0).state = .loading := by decide +kernel

/-- What the eviction saves, held in a state where the context is LOADING. -/
theorem test_wit_EvictionAndRestore : after (.contextEvictDone 0 0 []) (ctxIn .evicting) (fun t =>
    let u := { ctxIn .loading with saved := t.saved }
    decide (mget [] u.saved 0 = mget [] t.saved 0) && u.ctxCores 0 == (ctxIn .evicting).ctxCores 0 && (u.ctx 0).state == .loading &&
      (u.ctx 0).spadSize == ((ctxIn .evicting).ctx 0).spadSize && !u.superseded &&
      (u.ctx 0).spadBase == ((ctxIn .evicting).ctx 0).spadBase && decide (((ctxIn .evicting).ctx 0).spadBase + ((ctxIn .evicting).ctx 0).spadSize ≤ 512) &&
      ((ctxIn .evicting).ctxCores 0).all (fun c => decide (c < 256)) && (ctxIn .evicting).mem.ok &&
      after (.contextRestoreDone 0 0) u (fun v => decide ((v.core 0).flags = 1) && (v.core 0).run.item == 1)) = true := by decide +kernel

/-- A SWAPPED context with a slot that is due is the only runnable one; slices at and before their end. -/
def swappable : State :=
  { slotIn .armed with ctxs := [(0, { Ctx.reset with coreMask := 1, state := .swapped, spadSize := 32, saveAddr := 2097152 })], cores := [] }

def sliced : State :=
  { up with beat := 10240, ctxs := [(0, { Ctx.reset with coreMask := 1, state := .resident, sliceStart := some 0, sliceLen := 10 })] }

theorem test_wit_SwapperAndSlices : swappable.superseded = false ∧ swappable.lead 0 = 0 ∧
    (ctxIds 0).filter (swappable.noteCtxs 0).ctxRunnable = [0] ∧ (swappable.noteCtxs 0).groupRuns 0 = true ∧
    (swappable.noteCtxs 0).bistRuns 0 = false ∧ (swappable.noteCtxs 0).fits 0 [] = true ∧
    (sliced.ctx 0).sliceStart = some 0 ∧ 0 + (sliced.ctx 0).sliceLen * 1024 ≤ sliced.beat ∧
    { sliced with beat := 10239 }.beat < 0 + (sliced.ctx 0).sliceLen * 1024 ∧ sliced.ctxCores 0 = [0] ∧
    ({ sliced with cores := (running 1 (some (0, 10240))).cores }.core 0).run.tile = some (0, 10240) ∧
    10240 ≤ 0 + (sliced.ctx 0).sliceLen * 1024 ∧ (up.holderCtx 0).state ≠ .resident ∧
    (((ctxIn .resident).wrN (objKey (jsIx 0) 3) 0 |>.wrN (objKey (jsIx 0) 1) 1).holderCtx 0).state = .resident := by decide +kernel

/-- No context of a slot that was never enabled. -/
theorem test_wit_SwapperAndSlices_keys :
    ∀ k c, ((ctxIn .resident).wrN (objKey (jsIx 0) 3) 0 |>.wrN (objKey (jsIx 0) 1) 1).collCtx 0 k = some c → c.key = k := by
  intro k c h
  have e : (((ctxIn .resident).wrN (objKey (jsIx 0) 3) 0 |>.wrN (objKey (jsIx 0) 1) 1).cs 0).ctxs = [] := by decide +kernel
  rw [State.collCtx, e] at h
  cases h

/-- A context in teardown with nothing that runs; its deadline; a RETIRED one at the end of its hold and a beat before. -/
def tornAt (st : CtxState) (b : Nat) : State := { ctxIn st with beat := b * 1024 }

theorem test_wit_TeardownRetiresTheContext : (up.ctx 0).state = .free ∧ ((ctxIn .resident).ctx 0).state ≠ .free ∧
    ((ctxIn .teardown).ctxLaunches 0).isEmpty = true ∧ (ctxIn .teardown).dmaQuiet ((ctxIn .teardown).members 0) 0 = true ∧
    ((ctxIn .teardown).ctx 0).quietPending = 0 ∧ 0 + ((ctxIn .teardown).ctx 0).teardownDl ≤ (tornAt .teardown 1954).beatIx ∧
    (tornAt .teardown 1953).beatIx < 0 + ((ctxIn .teardown).ctx 0).teardownDl ∧
    0 + (tornAt .retired 9766).rdN (objKey 0x2300 0x10) ≤ (tornAt .retired 9766).beatIx ∧
    (tornAt .retired 9765).beatIx < 0 + (tornAt .retired 9765).rdN (objKey 0x2300 0x10) ∧ up.reaches .pf 0x2300 0x10 = true ∧
    (1#64).toNat = 1 ∧ (1000000#64).toNat ≤ 1000000 := by decide +kernel

theorem test_wit_QuietHandshake : up.superseded = false ∧ up.epochOf p0.src = none ∧ up.tango.restore = none ∧
    ((ctxIn .teardown).ctx (p0.ctxId.toNat)).state = .teardown ∧
    ((ctxIn .teardown).ctx 0).jobId = { p0 with jobId := 1 }.jobId.toNat ∧ (up.ctx 0).state ≠ .teardown := by decide +kernel

theorem test_wit_GroupsForm : up.reaches .pf (partIx 15) 0xB0 = true ∧ viaPriv .pf = true ∧ up.members 15 = [15] ∧
    up.isLead 0 = true ∧ (up.members 0).length < 8 ∧ (up.members 0 ++ [15]).all up.idleTables = true ∧
    (up.wrN (pKey 1 0xB0) 0).isLead 1 = false ∧ ((up.wrN (pKey 1 0xB0) 0).members 1).all (up.wrN (pKey 1 0xB0) 0).idleTables = true := by
  decide +kernel

/-! ## Witnesses: DMA, memory objects -/

/-- 64 bytes from HBM address 0x1000 to 0x2000, in one row; and the same with bits 63:50, which are reserved, not zero. -/
def desc0 : BitVec 512 := BitVec.ofNat 512 (0x1000 + 0x2000 * 2 ^ 64 + 64 * 2 ^ 128 + 1 * 2 ^ 160)
def descBad : BitVec 512 := BitVec.ofNat 512 (0x1000 + 3 * 2 ^ 48 + 0x2000 * 2 ^ 64 + 64 * 2 ^ 128 + 1 * 2 ^ 160)

def ch0 : ChanId := ⟨0, 0, 0⟩

/-- Channel 0 of engine 0 of partition 0. -/
def dmaIn (x : DmaCh) : State := { ctxIn .resident with dma := [(0, x)] }

def fence0 : DmaFence := ⟨0, [], false, [], false, none⟩

theorem test_wit_DmaArms : up.coreRuns 0 = true ∧ descReserved desc0 = false ∧ descReserved descBad = true ∧
    ((paramField (up.core 0) none 0 48 (desc0 &&& descMask)).bind fun d => (paramField (up.core 0) none 64 48 d).bind fun d =>
      (paramField (up.core 0) (some 0) 128 32 d).bind fun d => paramField (up.core 0) none 160 24 d).isSome = true ∧
    ((dmaIn { DmaCh.reset with owner := true }).chan 0).owner = true ∧ ((dmaIn { DmaCh.reset with owner := true }).chan 0).armed = false ∧
    up.servesChan 0 = false ∧ ((dmaIn DmaCh.reset).chan 0).owner = false ∧ upVf.reachesBlock (.vf 0) ch0.part = true ∧
    descReserved (up.chan 0).shadow = false := by decide +kernel

theorem test_wit_DmaPromotes : ((dmaIn { DmaCh.reset with armed := true, shadow := desc0 }).chan 0).state = .idle ∧
    (dmaIn { DmaCh.reset with armed := true, shadow := desc0 }).dmaCheck 0 desc0 = none ∧ dLength desc0 ≠ 0 ∧ dRows desc0 ≠ 0 ∧
    optAnd ((dmaIn DmaCh.reset).dmaCheck 0 (desc0 + BitVec.ofNat 512 hbmSize)) (fun _ => true) = true ∧
    ((dmaIn DmaCh.reset).chan 0).armed = false := by decide +kernel

/-- The granted channel, with a transfer of whole granules, of 60 bytes, and out of the host; with a burst staged. -/
def bursting (d : BitVec 512) (staged : List (List Byte)) : State :=
  (dmaIn { DmaCh.reset with state := .ready, active := d, staged := staged }).setFunc 0 { FuncSt.reset with busMaster := true }

def descPart : BitVec 512 := BitVec.ofNat 512 (0x1000 + 0x2000 * 2 ^ 64 + 60 * 2 ^ 128 + 1 * 2 ^ 160)
def descHost : BitVec 512 := desc0 + BitVec.ofNat 512 (2 ^ 48)

def granted (d : BitVec 512) : Bool :=
  let x := (bursting d []).chan 0
  (bursting d []).dmaGrant 0 0 == some 0 && decide (dLength d ≠ 0) && decide (dRows d ≠ 0) && dDstSpace d == 0 && !x.stopping &&
    !x.flushing && decide (x.row < dRows d) && x.mayRead

theorem test_wit_DmaBurst : granted desc0 = true ∧ dSrcSpace desc0 = 0 ∧
    coversPart ((bursting desc0 []).chan 0).dstAt ((bursting desc0 []).chan 0).burst = false ∧
    (ShellOutcome.uncorrectable 0).bad = true ∧ up.superseded = false := by decide +kernel

theorem test_wit_DmaBurst_part : granted descPart = true ∧ dSrcSpace descPart = 0 ∧
    coversPart ((bursting descPart []).chan 0).dstAt ((bursting descPart []).chan 0).burst = true := by decide +kernel

theorem test_wit_DmaBurst_host : granted descHost = true ∧ dSrcSpace descHost = 1 ∧
    ((bursting descHost []).func ((bursting descHost []).chan 0).activeFn).busMaster = true ∧
    ((dmaIn { DmaCh.reset with state := .ready, active := descHost }).func 0).busMaster = false ∧
    ((bursting descHost []).chan 0).burst ≤ (List.replicate 64 (0 : Byte)).length := by decide +kernel

theorem test_wit_DmaBurst_write : (bursting desc0 [List.replicate 64 7]).dmaGrant 0 0 = some 0 ∧
    coversPart ((bursting desc0 [List.replicate 64 7]).chan 0).dstAt (List.replicate 64 (7 : Byte)).length = false := by decide +kernel

/-- A fence that covers nothing, one that covers a write, and both bounds of DMA_ARRIVE_TIMEOUT. -/
theorem test_wit_DmaFences : ((dmaIn { DmaCh.reset with fences := [fence0] }).chan 0).fences = [fence0] ∧ fence0.covers = [] ∧
    (dmaIn { DmaCh.reset with fences := [fence0] }).servesChan 0 = false ∧
    ((dmaIn { DmaCh.reset with fences := [{ fence0 with covers := [5] }] }).chan 0).fences = [{ fence0 with covers := [5] }] ∧
    fence0.issued + up.pN 0 0xA0 ≤ { up with beat := 1024 * up.pN 0 0xA0 }.beatIx ∧ up.beatIx < fence0.issued + up.pN 0 0xA0 := by
  decide +kernel

theorem test_wit_DmaControl : ({ DmaCh.reset with state := .running, staged := [[1]] } : DmaCh).staged ≠ [] ∧ ({ DmaCh.reset with state := .ready } : DmaCh).busy = true ∧
    ({ DmaCh.reset with state := .running } : DmaCh).busy = true ∧ DmaCh.reset.busy = false ∧
    ((dmaIn { DmaCh.reset with state := .halted }).chan 0).armed = false ∧ ((dmaIn { DmaCh.reset with state := .halted }).chan 0).state =
    .halted ∧ dSrcSpace descHost = 1 ∧ ({ fence0 with host := [0] } : DmaFence).host ≠ [] := by decide +kernel

/-- A peer's write of 16 bytes for the job that context 0 holds, to the partition's HBM and to another's. -/
def peer0 : Packet := { p0 with type := 2, jobId := 1, target := 0x1000, length := 16, payload := List.replicate 16 7 }

def peered : State := { ctxIn .resident with obj := up.obj } |>.wrN (objKey (jsIx 0) 1) 1 |>.wrN (objKey (jsIx 0) 0x1D) 0

theorem test_wit_PeerTraffic : targetPart peer0.target = some 0 ∧ peered.superseded = false ∧ peered.ctxTakes 0 1 0 = true ∧ peer0.payload.length ≠ 64 ∧
    coversPart peer0.target 16 = false ∧ coversPart peer0.target 15 = true ∧
    peered.ownArea peer0.target 16 = some 0 ∧ peered.loadAllows 0 peer0.target 16 (some peer0.src) = true ∧
    peered.holdsJob 0 1 = true ∧ (ctxIn .resident).holdsJob 0 1 = false ∧
    ((dmaIn { DmaCh.reset with outstanding := [(0, 0#24, 1, 0)] }).chan (chanKey ch0)).outstanding.any (fun o =>
      o.1 == peer0.seq.toNat && o.2.1 == peer0.src) = true := by decide +kernel

/-- A mask of 64 banks on one core, 16 of which fill the 1,024; a reserve of 27 GiB; a patrolled granule. -/
theorem test_wit_MemoryObjects : up.reaches .pf (partIx 0) 0x91 = true ∧ up.reaches .barzar (partIx 0) 0x93 = true ∧ viaPriv .barzar = true ∧
    up.pow.retainLate = [] ∧ up.rdN (objKey 0x2000 7) ≠ 1 ∧
    (mset 0#64 ((List.range 15).map fun c => (c + 1, BitVec.allOnes 64)) 0 (BitVec.allOnes 64)).foldl (fun a kv => a + bitCount kv.2) 0 ≤ 1024 ∧
    1024 < (mset 0#64 ((List.range 16).map fun c => (c + 1, BitVec.allOnes 64)) 0 1#64).foldl (fun a kv => a + bitCount kv.2) 0 ∧
    (27#64).toNat ≤ 27 ∧ 27 < (28#64).toNat ∧ up.hasResident 0 = false ∧ up.tango.bank0.st ≠ .filling ∧ up.tango.bank1.st ≠ .filling ∧
    up.tango.restore = none ∧ up.tango.frozen = false ∧
    up.jobReady = true ∧ (∀ hbm : Bool, (up.scrub hbm).since ≤ up.mgmt.ns ∧ up.nextScrub hbm (up.scrub hbm).at_ = some 0 ∧ up.nextScrub hbm 16 ≠ none) ∧
    up.nextScrub true (hbmEnd - 16) = some (hbmEnd - 16) ∧ up.nextScrub true hbmEnd = none := by decide +kernel

/-! ## Witnesses: ports, links, routing, epochs, the Beat -/

/-- Port 0 in a state; its role in PORT_ROLE. -/
def portIn (x : PortSt) (role : Nat) : State := (up.setPort 0 x).wrN (portKey 0 1) role

def pst (st : PState) : PortSt := { PortSt.reset with st := st }

theorem test_wit_PortStates : up.reaches .pf (0x2510 + 0) 3 = true ∧ up.reaches .pf (0x2510 + 31) 3 = true ∧ (portIn (pst .failed) 0).role 0 ≠ 2 ∧
    ((portIn (pst .failed) 0).port 0).st = .failed ∧ ((portIn (pst .disabled) 0).port 0).st = .disabled ∧
    ((portIn (pst .active) 0).port 0).st = .active ∧ (portIn (pst .active) 0).dieRecals 0 = false ∧
    (portIn (pst .active) 0).soleCandidate 0 = false ∧ (0x3727C5AC#32).toNat ≤ 0x3727C5AC ∧ ((portIn (pst .detect) 0).port 0).st = .detect ∧
    ((portIn { pst .train with attempts := 1 } 0).port 0).attempts < 2 ∧ 2 ≤ ((portIn { pst .train with attempts := 2 } 0).port 0).attempts ∧
    ((portIn (pst .recal) 0).port 0).st = .recal ∧ ((portIn (pst .draining) 0).port 0).outQ = [] ∧
    ((portIn (pst .draining) 0).port 0).used = [] ∧ (portIn (pst .check) 1).role 0 = (1 : Fin 3).val ∧
    (portIn (pst .check) 0).role 0 ≠ (1 : Fin 3).val := by decide +kernel

theorem test_wit_PortRoles : up.reaches .pf (0x2510 + 0) 1 = true ∧ (2#64).toNat ≤ 2 ∧
    ((portIn (pst .draining) 0).port 0).outQ = [] := by decide +kernel

/-- An ACTIVE port: a good flit with the expected number; another number; a bad checksum; what cannot be corrected; a full replay
buffer. -/
def f1 : FlitRx := { f0 with crc := 2443800603, evenErrors := 2, oddErrors := 2 }

/-- The CRC-32 of "123456789" is the check value of the public algorithm. -/
theorem test_crc_check : crc32 [0x31, 0x32, 0x33, 0x34, 0x35, 0x36, 0x37, 0x38, 0x39] = 0xCBF43926 := by decide +kernel

theorem test_crc_a : (List.replicate 65 0#8).foldl crcByte 0xFFFFFFFF = 0xE2320888 := by decide +kernel
theorem test_crc_b : (List.replicate 65 0#8).foldl crcByte 0xE2320888 = 0x27A1C0FD := by decide +kernel
theorem test_crc_c : (List.replicate 65 0#8).foldl crcByte 0x27A1C0FD = 0x5325E45D := by decide +kernel
theorem test_crc_d : (List.replicate 65 0#8).foldl crcByte 0x5325E45D = 0x6E568FE4 := by decide +kernel

/-- The CRC-32 of 260 zeros is that of the public implementation (zlib). -/
theorem test_crc_flit : flitCrcOk f1 = true := by
  have e : flitHead f1.body f1.link = List.replicate 65 0#8 ++ (List.replicate 65 0#8 ++ (List.replicate 65 0#8 ++
    List.replicate 65 0#8)) := by decide +kernel
  rw [flitCrcOk, e, crc32, List.foldl_append, List.foldl_append, List.foldl_append, test_crc_a, test_crc_b, test_crc_c, test_crc_d]
  decide

/-- With another checksum it does not match. -/
theorem test_crc_flit_bad : flitCrcOk f0 = false := by
  have h := test_crc_flit
  simp only [flitCrcOk, beq_iff_eq, beq_eq_false_iff_ne] at h ⊢
  rw [show f0.body = f1.body from rfl, show f0.link = f1.link from rfl, h]
  decide

/-- A header with the fields of R219 at their bits: DEST 255:232, TYPE 179:176, LENGTH 135:123, TARGET 79:32, SEQ 31:16. -/
theorem test_header : headerNum { p0 with dest := 0x123456, type := 9, length := 4096, target := 0x4321, seq := 0xBEEF } =
    0x123456 * 2 ^ 232 + 9 * 2 ^ 176 + 4096 * 2 ^ 123 + 0x4321 * 2 ^ 32 + 0xBEEF * 2 ^ 16 ∧
    packetOf (headerNum { p0 with hops := 15, ctxId := 7, step := 3 }) [] 0 = { p0 with hops := 15, ctxId := 7, step := 3 } := by
  decide +kernel

theorem test_wit_LinkLayer : ((portIn (pst .active) 0).port 0).linked = true ∧ fecDecodes f1 = true ∧
    fecDecodes { f1 with evenErrors := 3 } = false ∧ f1.seq % 4096 = ((portIn (pst .active) 0).port 0).rxNext ∧
    f1.link.flitType.toNat ≠ 4 ∧ { f1 with seq := 4095 }.seq % 4096 ≠ ((portIn (pst .active) 0).port 0).rxNext ∧
    ((portIn { pst .active with nakSeq := some 3, nakCount := 7 } 0).port 0).nakCount < 8 ∧
    ((portIn { pst .active with nakSeq := some 3, nakCount := 8 } 0).port 0).nakSeq = some 3 ∧
    ((portIn { pst .active with replay := List.replicate 1023 ⟨0, f0.link, []⟩ } 0).port 0).replay.length < 1024 ∧
    1024 ≤ ((portIn { pst .active with replay := List.replicate 1024 ⟨0, f0.link, []⟩ } 0).port 0).replay.length ∧
    ((portIn (pst .active) 0).port 0).outQ = [] ∧
    ((portIn (pst .active) 0).port 0).testDue + (portIn (pst .active) 0).rdN (portKey 0 0x0D) < 1000 := by decide +kernel

/-- A route by port 0 for every slot of this tray. -/
def routed : State :=
  (portIn (pst .active) 0).modFab fun f => { f with routeA := [(routeKey up.ownAddr 1#24, 0xC001000000000000#64)], epochs := [(5, some 9)] }

theorem test_wit_PacketsAreRouted : p0.type.toNat < 10 ∧ { p0 with dest := up.ownAddr }.dest = up.ownAddr ∧ up.quieted up.ownAddr p0.jobId.toNat p0.ctxId.toNat = false ∧
    (routed.port 0).linked = true ∧ routed.epochOf 5#24 = some 9 ∧ epochNewer 9 8 = true ∧ routed.epochOf p0.src = none ∧ p0.hops.val + 2 < 16 ∧ p0.type.toNat < 10 ∧
    1#24 ≠ routed.ownAddr ∧ (portIn (pst .active) 1).role 0 = 1 ∧ routed.role 0 ≠ 1 ∧
    bit (mget 0#64 routed.fab.routeA (routeKey routed.ownAddr 1#24)) 63 = true ∧
    optAnd (routed.chooseCandidate (mget 0#64 routed.fab.routeA (routeKey routed.ownAddr 1#24)) { p0 with dest := 1#24, type := 2 }) (fun im => im.2 == 0) = true := by
  decide +kernel

theorem test_wit_EpochsAreLearned : routed.epochOf 5#24 = some 9 ∧ epochNewer 9 9 = false ∧ epochNewer 10 9 = true ∧
    epochNewer (9 + 32767) 9 = true ∧ epochNewer (9 + 32768) 9 = false ∧ routed.epochOf 6#24 = none ∧ routed.fab.epochs.length < 65536 ∧
    up.reaches .pf 0x2500 2 = true ∧ up.epochOf up.ownAddr = none ∧ up.fab.epochSet = false ∧ up.reaches .pf 0x2500 8 = true ∧
    field (BitVec.ofNat 64 (5 * 65536 + 10)) 39 16 = (5#24).toNat ∧ field (BitVec.ofNat 64 (5 * 65536 + 10)) 15 0 = (10#16).toNat ∧
    epochNewer 10 up.ownEpoch = true ∧ epochNewer 9 8 = true ∧
    routed.epochOf routed.ownAddr = none ∧ 5#24 ≠ routed.ownAddr ∧ up.fab.epochs.length < 65536 := by decide +kernel

theorem test_wit_RoutingBanks : up.reaches .pf 0x2500 6 = true ∧ up.beatIx < (1#64).toNat ∧ (1#64).toNat ≤ { up with beat := 1024 }.beatIx ∧
    ({ up with beat := 1024 }.wrN (fabKey 6) 1).rdN (fabKey 6) ≤ ({ up with beat := 1024 }.wrN (fabKey 6) 1).beatIx ∧ up.rdN (fabKey 6) = 0 ∧
    (up.modFab fun f => { f with copying := true }).fab.copying = true := by decide +kernel

def hd0 : Heard := ⟨⟨0, 7#24, 1, 0⟩, 0⟩

/-- An announcement of 128 beats' age and of 127; a source silent for 64 beats and for 63; a master within and beyond 1 ms of the
second. -/
theorem test_wit_TempoKeepsTime : ((portIn (pst .active) 0).port 0).st = .active ∧ (portIn (pst .active) 0).role 0 = 0 ∧
    (portIn (pst .active) 1).role 0 ≠ 0 ∧ (up.modFab fun f => { f with heard := [(0, some hd0)] }).fab.heard = [(0, some hd0)] ∧
    (up.modFab fun f => { f with source := some 0, pps := true }).fab.source = some 0 ∧
    (up.modFab fun f => { f with source := some 0, pps := true }).fab.pps = true ∧ up.fab.pps = false ∧ up.fab.heard = [] ∧ hd0.ann.addr = 7#24 ∧ hd0.ann.serial = 1 ∧ hd0.at_ + 128 ≤ { up with beat := 131072 }.beatIx ∧
    { up with beat := 131071 }.beatIx < hd0.at_ + 128 ∧ (up.setBeat bsLocked 0 0 7#24).wasLocked = true ∧
    0 + 64 ≤ { up with beat := 65536 }.beatIx ∧ { up with beat := 65535 }.beatIx < 0 + 64 ∧ (up.setBeat bsMaster 0 0 up.ownAddr).beatState = bsMaster ∧
    (up.wrN (fabKey 0x19) 1).rdN (fabKey 0x19) ≠ 0 ∧ (ppsSlew 1000000).natAbs ≤ 1000000 ∧ 1000000 < (ppsSlew 1000001).natAbs ∧
    up.beatState ≠ bsMaster := by decide +kernel

/-! ## Witnesses: job slots and collectives -/

/-- Job slot 0, with state, held by partition 0 for job 1: rank 0 of two, the other at address 5. -/
def jobSlot (st : Nat) : State :=
  (((((ctxIn .resident).wrN (jsKey 0 1) 1).wrN (jsKey 0 4) st).wrN (jsKey 0 7) 0).wrN (jsKey 0 8) 2).modCs 0 fun x =>
    { x with members := [up.ownAddr.toNat, 5] }

/-- A collective descriptor of an operation for step 1 and bucket 2: 64 bytes or 4,096 segments' worth of nothing else. -/
def collDesc (op len : Nat) : Nat :=
  op * 2 ^ 28 + 1 * 2 ^ 64 + 2 * 2 ^ 80 + len * 2 ^ 96 + 0x10000 * 2 ^ 160 + 0x20000 * 2 ^ 208 + 0x30000 * 2 ^ 272 + 0x40000 * 2 ^ 336 +
    0x50000 * 2 ^ 400 + 10 * 2 ^ 448

/-- The slot ACTIVE, with that descriptor at 0x4000. -/
def withDesc (op len : Nat) : State := (jobSlot 2).writeLE 0x4000 64 (collDesc op len)

/-- An IDLE slot whose member table lies at 0x8000. -/
def enabling : State :=
  ((((((jobSlot 1).wrN (jsKey 0 9) 0x8000).wrN (jsKey 0 0x0D) 1).wrN (jsKey 0 0x0E) 2).writeLE 0x8000 4 up.ownAddr.toNat).writeLE 0x8004 4
    5)

theorem test_wit_JobSlots : up.reaches .pf (jsIx 0) 1 = true ∧ up.jsState 0 < 2 ∧ (∀ i < 128, i ≠ 0 → up.rdN (jsKey i 1) ≠ 0xFFE) ∧
    (0xFFF#64).toNat % 4096 = 0xFFF ∧ enabling.jsState 0 = 1 ∧ enabling.reaches .pf (jsIx 0) 3 = true ∧
    enabling.rdN (jsKey 0 7) < enabling.rdN (jsKey 0 8) ∧
    enabling.inGroupHbm (enabling.holder 0) (enabling.rdN (jsKey 0 9)) (4 * enabling.rdN (jsKey 0 8)) = true ∧
    entryAddrOf (enabling.mem.readLE (enabling.rdN (jsKey 0 9) + 4 * enabling.rdN (jsKey 0 7)) 4) = enabling.ownAddr.toNat ∧
    enabling.rdN (jsKey 0 0x0D) * (treeLevels (enabling.rdN (jsKey 0 8)) + 1) ≤ enabling.rdN (jsKey 0 0x0E) ∧
    storeNeed (enabling.rdN (jsKey 0 7)) (enabling.rdN (jsKey 0 8)) (enabling.window 0) ≤ enabling.rdN (storeKey 0) ∧
    enabling.staged 0 = false ∧ enabling.rdN (jsKey 0 0x0B) = 0 ∧ (enabling.wrN (jsKey 0 0x0B) 1).rdN (jsKey 0 0x0B) ≠ 0 ∧ (jobSlot 2).jsState 0 = 2 ∧ (jobSlot 3).jsState 0 = 3 ∧
    (jobSlot 3).rdN (storeKey 0) + (jobSlot 3).rdN (jsKey 0 0x12) < 2 ^ 64 := by decide +kernel

theorem test_wit_CollectivesStart : (∀ op ∈ [0, 1, 2, 4],
      (let s := withDesc op 256
       let d := readCollDesc s.mem 0x4000
       d.op = op ∧ s.inGroupMem 0 0x4000 64 = true ∧ s.jsState 0 = 2 ∧ s.holder 0 = 0 ∧ s.collTableOk 0 d = true ∧
         s.collEncOk d = true ∧ s.collAddrOk 0 d = true ∧ s.keyTaken d = false ∧ s.coreRuns 0 = true ∧ s.lead 0 = 0)) ∧
    (withDesc 0 256).reaches .pf (jsIx 0) 0x1F = true ∧ (withDesc 0 256).collCtx 0 0x10002 = none ∧ (withDesc 0 256).staged 0 = false ∧
    mfind ((withDesc 0 256).cs 0).finished 0x10002 = none ∧ ((withDesc 0 256).cs 0).ctxs.length < 256 ∧
    (withDesc 0 256).inGroupMem 0 (hbmSize - 32) 64 = false ∧ (readCollDesc (withDesc 0 256).mem (hbmSize - 32)).op = 0 := by
  decide +kernel

theorem test_wit_ReelStarts :
    (let s := withDesc 3 0
     let d := readCollDesc s.mem 0x4000
     d.op = 3 ∧ s.collTableOk 0 d = true ∧ s.collEncOk d = true ∧ s.collAddrOk 0 d = true ∧ s.reelAccess 0 d = true ∧
       s.reelOk 0 0 d = true) := by decide +kernel

/-- A control packet of a kind from the child at address 5. -/
def ctlPkt (kind : Nat) : Packet :=
  { p0 with src := 5, jobId := 1, type := 2, step := 1, bucket := 2, target := ctlTarget, length := 32, payload := ctlWord kind 0 1 1 16 1 }

/-- A segment of the contribution from there. -/
def segPkt : Packet := { ctlPkt 1 with target := 0, payload := List.replicate 32 0 }

/-- The bucket's context open with an operation. -/
def opened (op : Nat) (f : CollCtx → CollCtx) : State :=
  let d := readCollDesc (withDesc op 256).mem 0x4000
  (withDesc op 256).setCtx 0 (f { CollCtx.fresh 1 2 with desc := some d, upSeen := true })

/-- This device as rank 1 of two below the one at address 5. -/
def below (s : State) : State := (s.wrN (jsKey 0 7) 1).modCs 0 fun x => { x with members := [5, up.ownAddr.toNat] }

/-- A control packet of a kind that comes down the tree. -/
def downPkt (kind : Nat) : Packet := { ctlPkt kind with type := 3 }

theorem test_wit_CollectivePackets : up.takeSlot (ctlPkt 1) = none ∧ (jobSlot 2).takeSlot (ctlPkt 1) = some 0 ∧
    (∀ k ∈ [1, 2, 3, 4, 5, 6], isCtl (ctlPkt k) = true ∧ (readCtl (ctlPkt k)).kind = k) ∧ isCtl segPkt = false ∧
    (jobSlot 2).isLate 0 (ctlPkt 1) = false ∧ (jobSlot 2).canOpen 0 (ctlPkt 1) = true ∧
    ((jobSlot 2).modCs 0 fun x => { x with ins := [(pktStream (ctlPkt 1), ⟨0, 0, some (1, 2)⟩)] }).isLate 0 (ctlPkt 1) = true ∧
    ((jobSlot 2).openCtx 0 1 2).key = collKey 1 2 ∧ ((jobSlot 2).childLevel 0 ((jobSlot 2).openCtx 0 1 2) 5).isSome = true ∧
    ((jobSlot 2).openCtx 0 1 2).childGone 1 = false ∧ segPkt.type = 2 ∧ ((jobSlot 2).openCtx 0 1 2).childFits segPkt = true ∧
    CNode.fresh.next ≤ segPkt.target / 4096 := by decide +kernel

theorem test_wit_TreePackets : (∀ k ∈ [3, 4, 5], isCtl (downPkt k) = true ∧ (readCtl (downPkt k)).kind = k ∧
      (below (jobSlot 2)).takeSlot (downPkt k) = some 0 ∧ (below (jobSlot 2)).isLate 0 (downPkt k) = false ∧
      (below (jobSlot 2)).canOpen 0 (downPkt k) = true) ∧
    (∀ k ∈ [3, 4], (below (jobSlot 2)).fromTree 0 ((below (jobSlot 2)).openCtx 0 1 2) (downPkt k) = true) ∧
    ((below (opened 0 id)).openCtx 0 1 2).desc.isSome = true ∧ ((below (opened 0 id)).openCtx 0 1 2).result = none ∧
    (below (opened 0 id)).aboveOk 0 ((below (opened 0 id)).openCtx 0 1 2) (downPkt 5) = true ∧
    (below (jobSlot 2)).aboveOk 0 ((below (jobSlot 2)).openCtx 0 1 2) (downPkt 5) = true ∧
    ((below (jobSlot 2)).openCtx 0 1 2).desc = none ∧ ((below (jobSlot 2)).openCtx 0 1 2).vote = false ∧
    ((below (jobSlot 2)).openCtx 0 1 2).detached = false := by decide +kernel

/-- A WINDOW within what has been sent and one beyond; a HORA_FREE from the next of the ring. -/
theorem test_wit_WindowsAndFrees :
    (let s := (jobSlot 2).modCs 0 fun x => { x with outs := [(pktStream (ctlPkt 2), ⟨[], 1, 0⟩)] }
     let o := (s.cs 0).out (pktStream (ctlPkt 2))
     (mfind (s.cs 0).outs (pktStream (ctlPkt 2))).isSome = true ∧
       o.acked + ((readCtl (ctlPkt 2)).consumed + 2 ^ 32 - o.acked % 2 ^ 32) % 2 ^ 32 ≤ o.sent) ∧
    (mfind ((jobSlot 2).cs 0).outs (pktStream (ctlPkt 2))).isNone = true ∧
    optAnd ((opened 4 id).collCtx 0 (collKey 1 2)) (fun c => c.key == collKey 1 2 && optAnd c.desc (fun d => d.op == 4) &&
      (opened 4 id).isRing 0 c true { ctlPkt 6 with type := 4 }) = true ∧
    (opened 4 id).takeSlot { ctlPkt 6 with type := 4 } = some 0 ∧ isCtl { ctlPkt 6 with type := 4 } = true := by decide +kernel

/-- Contexts that are done, that are past their deadline and that are a beat before it; a Hora; a staged contribution. -/
theorem test_wit_ContextEvents : up.collCtx 0 (collKey 1 2) = none ∧ mfind (up.cs 0).late (collKey 1 2) = none ∧ up.reelOf 0 1 = none ∧
    (let s := opened 4 fun c => { c with horaReleased := 2, horaGot := [(0, 256)] }
     optAnd (s.collCtx 0 (collKey 1 2)) (fun c => c.key == collKey 1 2 && optAnd c.desc fun d =>
       !c.vote && !c.detached && s.opDone 0 c d) = true) ∧
    (let s := { opened 4 id with beat := 10240 }
     optAnd (s.collCtx 0 (collKey 1 2)) (fun c => c.key == collKey 1 2 && optAnd c.desc fun d => d.op != 0 && !c.vote && !c.detached &&
       !s.bytesDone 0 c d && !s.opDone 0 c d && decide (d.deadline ≤ s.beatIx)) = true) ∧
    { opened 4 id with beat := 10239 }.beatIx < (readCollDesc (withDesc 4 256).mem 0x4000).deadline ∧
    (opened 4 id).coreRuns 0 = true ∧ (opened 4 id).holder 0 = (opened 4 id).lead 0 ∧
    (let s := (opened 0 id).wrN (jsKey 0 0x0F) 1
     s.rdN (jsKey 0 6) ≠ 1 ∧ optAnd (s.collCtx 0 (collKey 1 2)) (fun c => c.key == collKey 1 2 && !c.selfExcluded &&
       optAnd c.desc fun d => s.stagesNow 0 c d) = true) := by decide +kernel

/-- Step 1's deadline is beat 10: at the soft deadline of level 1 with both children there, at the hard and at the orphan deadline. -/
def dueAt (b : Nat) (f : CollCtx → CollCtx) : State :=
  { ((opened 0 f).nameDeadline 0 1 10).wrN (jsKey 0 5) 1 with beat := b * 1024 }

def twoChildren : CollCtx → CollCtx := fun c =>
  { c with nodes := [(1, { CNode.fresh with left := { Child.none_ with opened := some (1, 64) }, right := { Child.none_ with
    opened := some (1, 64) } })] }

theorem test_wit_SoftDeadlines : (dueAt 10 twoChildren).collDeadline 0 1 = some 10 ∧ (dueAt 10 twoChildren).bounded 0 = true ∧
    10 + (1 - 1) * (dueAt 10 twoChildren).rdN (jsKey 0 0x0D) ≤ (dueAt 10 twoChildren).beatIx ∧ (dueAt 9 twoChildren).beatIx < 10 ∧
    optAnd ((dueAt 10 twoChildren).collCtx 0 (collKey 1 2)) (fun c => c.key == collKey 1 2 &&
      decide (1 ≤ (dueAt 10 twoChildren).cTop 0 c) && c.goesUp && !c.upDone && c.cut.isNone) = true := by decide +kernel

/-- At the root, and at rank 1. -/
theorem test_wit_HardDeadlines :
    (let s := dueAt (10 + up.rdN (jsKey 0 0x0E)) id
     optAnd (s.collCtx 0 (collKey 1 2)) (fun c => optAnd (s.hardBeat 0 c) fun h => decide (h = 10 + s.rdN (jsKey 0 0x0E)) &&
       (c.goesUp || c.vote) && decide (h ≤ s.beatIx) && !c.upDone && s.cRank 0 c == 0) = true) ∧
    (let s := below (dueAt (10 + up.rdN (jsKey 0 0x0E)) id)
     optAnd (s.collCtx 0 (collKey 1 2)) (fun c => optAnd (s.hardBeat 0 c) fun h => decide (h ≤ s.beatIx) && s.cRank 0 c == 1) = true) ∧
    (let s := dueAt (10 + 2 * up.rdN (jsKey 0 0x0E)) id
     optAnd (s.collCtx 0 (collKey 1 2)) (fun c => optAnd (s.hardBeat 0 c) fun h => decide (h + s.rdN (jsKey 0 0x0E) ≤ s.beatIx) &&
       !c.decided) = true) ∧
    (let s := dueAt 10 id
     optAnd (s.collCtx 0 (collKey 1 2)) (fun c => optAnd (s.hardBeat 0 c) fun h => decide (s.beatIx < h) &&
       decide (s.beatIx < h + s.rdN (jsKey 0 0x0E))) = true) := by decide +kernel

/-- A COPYING Reel of 16 bytes of which `got` have been performed, or a READY one, at a beat; its commit beat is 10. -/
def reel0 (st got : Nat) (ready : Option Nat) : ReelSt :=
  ⟨readCollDesc (withDesc 3 0).mem 0x4000, [], [⟨1, 1, 0, 0, 0, 16⟩], if got = 0 then [] else [(0, 0, got)], [], st, ready, false, .live, []⟩

def reeling (r : ReelSt) (b : Nat) : State :=
  { ((withDesc 3 0).modCs 0 fun x => { x with reels := [(1, r)] }).wrN (jsKey 0 0x1E) 0x60000 with beat := b * 1024 }

theorem test_wit_ReelStates : ((reeling (reel0 1 16 none) 0).cs 0).reels = [(1, reel0 1 16 none)] ∧ (reel0 1 16 none).desc.step = 1 ∧
    (reel0 1 16 none).part = .live ∧
    (reeling (reel0 1 16 none) 0).inGroupHbm ((reeling (reel0 1 16 none) 0).holder 0) ((reeling (reel0 1 16 none) 0).rdN (jsKey 0 0x1E)) 64 = true ∧
    (reel0 1 16 none).received = true ∧ (reel0 1 15 none).received = false ∧
    (reel0 2 16 (some 10)).votes (reeling (reel0 2 16 (some 10)) 10).beatIx = true ∧
    (reel0 2 16 (some 11)).votes (reeling (reel0 2 16 (some 11)) 11).beatIx = false ∧
    (reel0 2 16 (some 9)).votes (reeling (reel0 2 16 (some 9)) 9).beatIx = false ∧
    (reeling (reel0 2 16 (some 10)) 10).collCtx 0 (1 * 65536 + 0xFFFF) = none := by decide +kernel

/-! ## Witnesses: weights -/

/-- A valid region 0 of two slots in the memory of partition 0, with slots in the states given. -/
def wregion (a b : VState) : VEntry :=
  ⟨true, false, { VSlot.reset with state := a, tag := 7, addr := 0x10000, holder := .load },
    { VSlot.reset with state := b, tag := 8, addr := 0x20000, holder := .load }, 256⟩

/-- A device with that region. -/
def wst (a b : VState) : State := { up with versions := [(0, wregion a b)] }

/-- A manifest of one shard of 256 bytes in region 0, at 0x4000, whose only holder is context 3 of the device at address 5; `e`
says whether it is expected. -/
def mst (e : Nat) (s : State) : State :=
  let m := ((((s.wrN (objKey (partIx 0) 0xC4) 0x4000).writeLE 0x4000 4 1).writeLE 0x4004 2 1).writeLE 0x4006 2 9).writeLE 0x4040 8 0
  ((((m.writeLE 0x4081 1 e).writeLE 0x4082 1 1).writeLE 0x4090 8 256).writeLE 0x4098 4 (3 * 2 ^ 24 + 5))

/-- The SHA-512 of 256 bytes of zeros, from the algorithm's public implementation. -/
def zeroDigest : Nat :=
  0x693f95d58383a6162d2aab49eb60395dcc4bb22295120caf3f21e3039003230b287c566a03c7a0ca5accaed2133c700b1cb3f82edf8adcbddc92b4f9fb9910c6

/-- Its shard. -/
def shard0 (st : ShardSt) (u : Bool) : Shard :=
  ⟨0, false, [(3, 5)], 0, 256, (leBytes 64 zeroDigest).reverse, st, 0, 1, 0, some 0, u⟩

/-- A loader with that shard, which holds slot 1 of region 0. -/
def loading (ls : LoadSt) (st : ShardSt) (u : Bool) : State :=
  { mst 0 (wst .committed .pending) with
    loaders := [(0, { LoaderSt.reset with
      st := ls, shards := [shard0 st u], regions := [0], tag := 9, held := [(0, 1)], manifest := 0x4000, expectBeat := 0 })] }

theorem test_wit_RegionsAreDefined : up.reaches .pf (partIx 0) 0xC3 = true ∧ upVf.reaches (.vf 0) (partIx 0) 0xC3 = true ∧
    (up.region 0 (up.selected 0)).valid = false ∧
    up.inGroupMem 0 (up.region 0 0).slot0.addr (up.region 0 0).size = true ∧
    up.inGroupMem 0 (up.region 0 0).slot1.addr (up.region 0 0).size = true ∧ up.microBatches 0 = [] ∧
    (up.region 0 0).allFree = true ∧ up.acornNames 0 0 = false ∧ ((wst .free .free).region 0 0).valid = true ∧
    ((wst .free .free).region 0 0).single = false ∧ ((wst .free .free).region 0 0).allFree = true ∧
    ((wst .committed .free).region 0 0).allFree = false := by decide +kernel

theorem test_wit_LoadsAreControlled : up.reaches .pf (partIx 0) 0xC5 = true ∧ (up.loader 0).st = .idle ∧
    (up.wrN (objKey (partIx 0) 0xC4) (hbmSize - 32)).inGroupHbm 0 (hbmSize - 32) (manifestSize up.mem (hbmSize - 32)) = false ∧
    (∀ e ∈ [0, 2], (mst e (wst .committed .free)).pN 0 0xC4 = 0x4000 ∧ (mst e (wst .committed .free)).inGroupHbm 0 0x4000
      (manifestSize (mst e (wst .committed .free)).mem 0x4000) = true) ∧
    (checkManifest (mst 0 (wst .committed .free)) 0 0x4000).1 = none ∧
    (checkManifest (mst 2 (wst .committed .free)) 0 0x4000).1 = some 0 ∧ ((loading .verified .verified false).loader 0).st = .verified ∧
    ((loading .verified .verified false).fence 0).state ≠ .armed ∧
    (((loading .verified .verified false).loader 0).held.map Prod.fst).Nodup ∧
    (∀ h ∈ ((loading .verified .verified false).loader 0).held, h.2 < 2) ∧
    (loading .verified .verified false).microBatches 0 = [] ∧
    ((loading .failed .failed false).loader 0).st = .failed ∧
    ((((loading .failed .failed false).loader 0).shards[0]?).map Shard.st) = some .failed ∧
    readHolders (loading .failed .failed false).mem (shardTable 0x4000 1 + 128 * 0) ≠ [] := by decide +kernel

/-- A digest that matches and one that does not; the last beat of a fetch's time; the notice of the attempt before the next. -/
theorem test_wit_ShardsAreFetchedAndVerified : ((loading .loading .waiting false).loader 0).st = .loading ∧
    ((loading .loading .waiting false).loader 0).expectBeat ≤ up.beatIx ∧ up.beatIx < 1 ∧ (shard0 .verifying true).holders ≠ [] ∧ (shard0 .verifying true).fails + 1 < 3 ∧
    ((loading .loading .verifying true).loader 0).shards[0]? = some (shard0 .verifying true) ∧
    sha512 ((loading .loading .verifying true).readBytes 0x20000 256) = (shard0 .verifying true).digest ∧
    sha512 (((loading .loading .verifying true).writeLE 0x20000 1 1).readBytes 0x20000 256) ≠ (shard0 .verifying true).digest ∧
    (loading .loading .verifying true).shardAddr 0 ((loading .loading .verifying true).loader 0) (shard0 .verifying true) = 0x20000 ∧
    up.beatIx < (shard0 .fetching false).sentAt + up.pN 0 0xC8 + (256 + 65535) / 65536 ∧
    (shard0 .fetching false).sentAt + up.pN 0 0xC8 + (256 + 65535) / 65536 ≤
      (tornAt .retired (up.pN 0 0xC8 + 1)).beatIx ∧
    noticeFields (List.replicate 64 0) = (0, 0, 0) ∧ (0 + 1) % 65536 = (shard0 .fetching false).attempt % 65536 := by decide +kernel

/-- A server with its context resident for the job. -/
def serving (q : List FetchReq) (f : VEntry → VEntry) : State :=
  let s := (((wst .committed .free).wrN (objKey (partIx 0) 0xCA) 1).wrN (objKey (jsIx 0) 1) 1).wrN (objKey (jsIx 0) 2) 0
  { s with
    versions := [(0, f (wregion .committed .free))]
    loaders := [(0, { LoaderSt.reset with queue := q })],
    ctxs := [(0, { Ctx.reset with state := .resident, jobId := 1 })] }

/-- A request for the last byte of the region, under a tag. -/
def req (tag : Tag) : FetchReq := ⟨0, 0, 0, tag, 1, 5, 1, 255, 1, 0, 0⟩

theorem test_wit_ServingAndAcorns : up.reaches .pf (partIx 0) 0xCA = true ∧ bit (0#64) 0 = false ∧
    (up.chan (0 * 32 + 31)).state = .idle ∧ (up.chan (0 * 32 + 31)).armed = false ∧ (serving [] id).serves 0 = true ∧
    (serving [] id).ctxTakes 0 { p0 with jobId := 1 }.jobId.toNat p0.ctxId.toNat = true ∧ (serving [] id).holdsJob 0 { p0 with jobId := 1 }.jobId.toNat = true ∧
    ((serving (List.replicate 63 (req 7)) id).loader 0).queue.length < 64 ∧
    64 ≤ ((serving (List.replicate 64 (req 7)) id).loader 0).queue.length ∧ ((serving [req 7] id).loader 0).serve = none ∧
    (serving [req 9] id).serveSlot 0 (req 9) = none ∧ (serving [req 7] id).serveSlot 0 (req 7) = some 0 ∧
    (req 7).offset + (req 7).bytes ≤ ((serving [req 7] id).region 0 0).size ∧
    (((serving [req 7] id).region 0 0).slot 0).bind < 255 ∧
    255 ≤ (((serving [req 7] fun e => { e with slot0 := { e.slot0 with bind := 255 } }).region 0 0).slot 0).bind ∧
    ((serving [req 7] id).region 0 (req 7).region).size < { req 7 with bytes := 2 }.offset + { req 7 with bytes := 2 }.bytes ∧
    up.reaches .pf (partIx 0) 0xD1 = true ∧ f32Finite (field 0x800000003F800000#64 31 0) = true ∧
    f32Finite (field 0x7F800000#64 31 0) = false ∧ bit (up.acorn 0 (up.pN 0 0xD0)) 63 = false ∧
    ((wst .free .free).region 0 (field 0x800000003F800000#64 55 48)).valid = true ∧
    ((wst .free .free).region 0 (field 0x800000003F800000#64 47 40)).valid = true ∧
    ((wst .free .free).region 0 (field 0x800000003F800000#64 47 40)).size ≤ 64 * 2 ^ 20 := by decide +kernel

/-! ## Witnesses: Tango -/

/-- An ACTIVE TANGO port 0 that leads to address 5, role A, 2 banks, a reserve of 1 GiB in partition 0, a list of region 0 of partition 0,
and TANGO_STATE. -/
def tangoIn (st : Nat) (f : TangoSt → TangoSt) : State :=
  let s := { portIn (pst .active) 1 with versions := [(0, wregion .committed .free)] }
  let s := (((((s.wrN (portKey 0 4) 5).wrN (fabKey 1) 3).wrN (tKey 1) 0).wrN (tKey 2) st).wrN (tKey 5) 2).wrN (pKey 0 0x93) 1
  (s.wrN (tKey 9) (2 ^ 28)).modTango fun t => f { t with list := [(0, 0x80000000#64)], inForce := [(0, 0)] }

/-- Paired with the device at address 5, of epoch 9. -/
def pairedIn (st : Nat) (f : TangoSt → TangoSt) : State :=
  tangoIn st fun t => f { t with pair := some (5, 9), heard := some (5, 9, 1, 2 ^ 35, 2) }

/-- A control packet from there: kind, bank, role, count and bytes. -/
def tpkt (kind bank role count bytes : Nat) : Packet := { tangoCtl 3 7 kind bank role count bytes with src := 5, srcEpoch := 9 }

/-- A mirror of tag 7 into bank 0, one chunk of whose `n` is out. -/
def mirror0 (n : Nat) : Mirror := ⟨7, 0, 0, [⟨0, 0, 0, 0x10000, 256, true⟩], Mem.empty, 65792, n, 1, 0, true, false⟩

theorem test_wit_TangoPairs : (tangoIn 0 id).superseded = false ∧ (tangoIn 0 id).tangoPorts.contains 0 = true ∧
    (tangoIn 0 id).tango.unpaired = false ∧ assigned (tangoIn 0 id).ownAddr.toNat = true ∧ (tangoIn 0 id).tangoState ≠ tsHalted ∧
    (tangoIn 0 id).tango.frozen = false ∧ (tangoIn 0 id).tango.mirror = none ∧
    ctlField (tpkt 1 0 1 2 (2 ^ 35)) 2 1 ≠ (tangoIn 0 id).rdN (tKey 1) ∧
    (∀ m ∈ (tangoIn 0 id).tangoPorts, (tangoIn 0 id).rdN (portKey m 4) % 2 ^ 24 = (tpkt 1 0 1 2 0).src.toNat) ∧
    (tangoIn 0 id).imageBytes ≤ bankBytesOf (ctlField (tpkt 1 0 1 2 (2 ^ 35)) 8 8) (ctlField (tpkt 1 0 1 2 (2 ^ 35)) 4 4) ∧
    bankBytesOf (ctlField (tpkt 1 0 1 2 (2 ^ 26)) 8 8) (ctlField (tpkt 1 0 1 2 (2 ^ 26)) 4 4) < (tangoIn 0 id).imageBytes ∧
    ctlField (tpkt 1 0 0 2 0) 2 1 = (tangoIn 0 id).rdN (tKey 1) ∧ (tangoIn 0 id).tango.heard = none ∧
    ¬(∀ m ∈ (tangoIn 0 id).tangoPorts, (tangoIn 0 id).rdN (portKey m 4) % 2 ^ 24 = { tpkt 1 0 1 2 0 with src := 6 }.src.toNat) ∧
    assigned ((tangoIn 0 id).rdN (portKey 0 4) % 2 ^ 24) = true ∧ (tangoIn 0 id).tangoState = tsUnpaired ∧
    up.reaches .pf 0x2700 7 = true ∧ (tangoIn 0 id).tangoState ≠ tsMirroring ∧ (tangoIn 0 id).tangoState ≠ tsWaiting ∧
    bit (0x80000000#64) 31 = true ∧ ((tangoIn 0 id).region (field 0x80000000#64 11 8) (field 0x80000000#64 7 0)).valid = true ∧
    ((tangoIn 0 id).region (field 0x80000000#64 11 8) (field 0x80000000#64 7 0)).single = false ∧ bit (0#64) 31 = false ∧
    (tangoIn 0 id).epochOf 5 = none ∧ (tangoIn 0 id).tango.lastFence = none ∧ (pairedIn 3 id).tango.pair = some (5, 9) ∧
    (∀ m ∈ (tangoIn 0 id).tangoPorts, (tangoIn 0 id).rdN (portKey m 4) % 2 ^ 24 = (tangoIn 0 id).rdN (portKey 0 4) % 2 ^ 24) := by
  decide +kernel

/-- A waiting fence; a mirror of one chunk and one of two; the last beat before it is late and the first after. -/
theorem test_wit_MirrorsRun : (pairedIn 5 id).tangoState = tsWaiting ∧ (pairedIn 5 id).tango.mirror = none ∧ (pairedIn 5 id).pairPorts ≠ [] ∧
    (pairedIn 5 fun t => { t with waiting := some (7, 0, false) }).tango.waiting = some (7, 0, false) ∧
    (pairedIn 5 id).targetBank = some 0 ∧
    (pairedIn 5 id).mirrorSlots (pairedIn 5 id).tango.inForce = some [⟨0, 0, 0, 0x10000, 256, true⟩] ∧ (pairedIn 5 id).tango.inForce.Nodup ∧
    (∀ x ∈ (pairedIn 5 id).tango.inForce, x.2 < 256) ∧ imageSize [256] ≤ (pairedIn 5 id).rdN (tKey 9) ∧
    (pairedIn 4 id).fromPair (tpkt 3 0 1 0 0) = true ∧ (pairedIn 4 id).tangoState = tsMirroring ∧
    (pairedIn 4 fun t => { t with mirror := some (mirror0 1) }).tango.mirror = some (mirror0 1) ∧
    ctlField (tpkt 3 0 1 0 0) 4 4 = (mirror0 1).acked ∧ (mirror0 1).acked < (mirror0 1).sent ∧ (pairedIn 4 id).loaders = [] ∧
    (mirror0 2).acked + 1 < (mirror0 2).chunks ∧ (mirror0 1).chunks ≤ (mirror0 1).acked + 1 ∧ (mirror0 1).late = false ∧
    (mirror0 1).fence + up.rdN (tKey 0x0E) ≤ { up with beat := 1024 * up.rdN (tKey 0x0E) }.beatIx ∧ (pairedIn 4 id).superseded = false ∧
    (pairedIn 4 fun t => { t with mirror := some (mirror0 1) }).tango.waiting = none ∧ { mirror0 1 with late := true }.late = true ∧
    0 + up.rdN (tKey 0x0E) ≤ { pairedIn 5 id with beat := 1024 * up.rdN (tKey 0x0E) }.beatIx := by
  decide +kernel

/-- Bank 0 FILLING under tag 7. -/
def filling (t : TangoSt) : TangoSt := { t with bank0 := ⟨.filling, 7, 65792, 0, 5, 9⟩, rxBank := some 0 }

/-- Data of four bytes at the very end of the bank, and past it. -/
def dpkt (o : Nat) : Packet := { tangoPacket 3 7 0 o [1, 2, 3, 4] with src := 5, srcEpoch := 9 }

theorem test_wit_BanksAreFilled : ((pairedIn 3 id).modFab fun f => { f with epochs := [(5, some 10)] }).epochOf 5 = some 10 ∧
    epochNewer 10 9 = true ∧ (pairedIn 3 id).epochOf 5 = none ∧ (pairedIn 3 id).fromPair (tpkt 2 0 1 0 0) = true ∧
    (pairedIn 3 id).fromPair { tpkt 2 0 1 0 0 with srcEpoch := 8 } = false ∧ (pairedIn 3 id).tango.frozen = false ∧
    (pairedIn 3 id).superseded = false ∧ (∀ b < 2, ctlField (tpkt 2 b 1 0 0) 1 1 = b ∧ b < (pairedIn 3 id).rdN (tKey 5)) ∧
    ((pairedIn 3 filling).tango.bank 0).st = .filling ∧ ((pairedIn 3 filling).tango.bank 0).tag = (tpkt 4 0 1 0 0).step ∧
    (pairedIn 3 filling).tango.rxBank = some 0 ∧
    (dpkt ((pairedIn 3 id).bankBytes - 4)).target + 4 ≤ (pairedIn 3 id).bankBytes ∧ 4 ≤ (pairedIn 3 id).bankBytes ∧
    (pairedIn 3 filling).bankHalted 0 ((pairedIn 3 id).bankBytes - 4) 4 = false ∧ (∀ p < 16, (pairedIn 3 id).pN p 0x93 ≤ 27) ∧
    optAnd ((pairedIn 3 filling).reserveAddr 0 16 ((pairedIn 3 filling).bankOff 0 0)) (fun a => a == 53 * 2 ^ 30 + 2 ^ 20) = true := by
  decide +kernel

theorem test_wit_TangoControls : up.reaches .pf 0x2700 4 = true ∧ up.superseded = false ∧ up.tango.mirror = none ∧
    (tangoIn 7 id).tangoState = tsHalted ∧ (tangoIn 7 id).tango.heard = none ∧ (pairedIn 7 id).tango.heard ≠ none ∧
    (pairedIn 4 id).tangoState = tsMirroring ∧ (pairedIn 4 id).tangoState ≠ tsConflict ∧
    ((pairedIn 4 id).setPort 0 (pst .recal)).tangoPorts = [] ∧ ((pairedIn 4 id).setPort 0 (pst .recal)).tangoPortLeft = true ∧
    ((pairedIn 4 id).setPort 0 (pst .recal)).tangoState = tsMirroring ∧
    ((pairedIn 5 id).setPort 0 (pst .recal)).tangoPorts = [] ∧ ((pairedIn 5 id).setPort 0 (pst .recal)).tangoPortLeft = true ∧
    ((pairedIn 5 id).setPort 0 (pst .recal)).tangoState = tsWaiting ∧ (pairedIn 4 id).tangoPorts ≠ [] ∧
    (pairedIn 6 id).tangoState = tsSuspended ∧ (pairedIn 6 id).tango.mirror = none ∧ (pairedIn 7 id).tango.mirror = none ∧
    (pairedIn 4 fun t => { t with mirror := some (mirror0 1) }).tango.mirror = some (mirror0 1) := by decide +kernel

theorem test_wit_MirrorsResume : (pairedIn 3 id).fromPair (tpkt 5 0 1 0 0) = true ∧ (pairedIn 3 filling).tango.bank0.st = .filling ∧
    (pairedIn 3 id).tango.bank0.st ≠ .filling ∧ (pairedIn 3 id).tango.bank1.st ≠ .filling ∧
    (pairedIn 6 fun t => { t with resumeSent := true }).tango.resumeSent = true ∧ (pairedIn 6 id).tangoState = tsSuspended ∧
    (pairedIn 6 id).loaders = [] ∧ (tpkt 6 0 1 0 0).step = (mirror0 2).tag ∧ ctlField (tpkt 6 0 1 1 0) 4 4 < (mirror0 2).chunks ∧
    (pairedIn 6 id).pairPorts ≠ [] ∧ (pairedIn 6 id).retake (mirror0 2) = some (mirror0 2).slots ∧
    { tpkt 6 0 1 0 0 with step := 6 }.step ≠ (mirror0 2).tag := by decide +kernel

/-- The newest whole image is of tag 7; tags 7 and 8. -/
theorem test_wit_TagsAreReleased : up.reaches .pf 0x2700 0x0C = true ∧ bit (0x10007#64) 16 = true ∧
    bit (((pairedIn 3 id).wr (tKey 0x0B) 0x10007#64).rd (tKey 0x0B)) 16 = true ∧ epochNewer (7#16) 7 = false ∧ epochNewer (8#16) 7 = true ∧
    (pairedIn 3 id).releaseTag = none ∧ (pairedIn 3 id).tango.relBinds = [] ∧ bit (7#64) 16 = false ∧
    bit ((pairedIn 3 id).rd (tKey 0x0B)) 16 = false ∧ ((pairedIn 3 id).wr (tKey 0x0C) 0x10007#64).releaseTag = some 7 ∧
    (pairedIn 3 id).launches = [] ∧ (pairedIn 3 id).fences = [] ∧ (pairedIn 3 id).listed = [(0, 0)] ∧ (pairedIn 3 id).mbs = [] ∧
    ((pairedIn 3 id).region 0 0).stepSlot 7 = some 0 := by decide +kernel

/-- No load waits, no fence is armed and no micro-batch is held where none was ever begun. -/
theorem test_wit_quiet : (∀ p, ((pairedIn 4 id).loader p).st ≠ .waitSlot) ∧ (∀ p, ((pairedIn 4 id).fence p).state ≠ .armed) ∧
    (∀ p, (pairedIn 4 id).microBatches p = []) := by
  refine ⟨fun p => ?_, fun p => ?_, fun p => ?_⟩
  · have e : (pairedIn 4 id).loaders = [] := by decide +kernel
    simp [State.loader, e, LoaderSt.reset]
  · have e : (pairedIn 4 id).fences = [] := by decide +kernel
    simp [State.fence, e, StepFence.reset]
  · have e : (pairedIn 4 id).mbs = [] := by decide +kernel
    simp [State.microBatches, e]

theorem test_wit_RestoresRunAndEnd : (pairedIn 3 fun t => { filling t with frozen := true }).tango.frozen = true ∧
    ((pairedIn 3 fun t => { t with bank0 := ⟨.complete, 7, 65792, 1, 5, 9⟩ }).tango.bank ((pairedIn 3 id).rdN (tKey 0x1A))).st = .complete ∧
    (pairedIn 3 id).tango.restore = none ∧ up.tango.frozen = false ∧
    (pairedIn 3 fun t => { t with restore := some ⟨5, [], 0, [], false⟩ }).tango.restore = some ⟨5, [], 0, [], false⟩ ∧
    (⟨5, [(0, 0, 64)], 0, [], false⟩ : TRestore).todo ≠ [] ∧ (⟨5, [], 1, [(0, 64)], false⟩ : TRestore).outstanding ≠ [] ∧
    (9 : Fin 10) ≠ 0 := by decide +kernel

/-! ## Witnesses: the detector, health, the ladder, resets, the self-test -/

/-- A probe to address 5, sent at beat 0. -/
def probed : State := { up with health := { up.health with probes := [(5, 0)] } }

/-- At a beat. -/
def atBeat (b : Nat) (s : State) : State := { s with beat := 1024 * b }

theorem test_wit_DetectorNotesEvents : (up.health.trusted = []) ∧ (pairedIn 3 id).tangoPartner = some 5 ∧
    up.health.lastTango + up.rdN (hKey 0x17) ≤ (atBeat (up.rdN (hKey 0x17)) up).beatIx ∧
    up.beatIx < up.health.lastTango + up.rdN (hKey 0x17) ∧ (jobSlot 2).jsState 0 = 2 ∧ (jobSlot 2).probeDue 0 = true ∧
    { jobSlot 2 with health := { up.health with probedAt := [(0, some 0)] } }.probeDue 0 = false ∧
    (jobSlot 2).superseded = false ∧ (jobSlot 2).probeEntries 0 = [5] ∧ (jobSlot 2).health.entryOf 5 = none ∧
    { p0 with target := 0 }.target = 0 ∧ up.jobReady = true ∧ { p0 with target := 1 }.target ≠ 0 ∧
    (probed.health.probes.find? fun (x : FabAddr × Nat) => x.1 == 5) = some (5, 0) ∧ 0 + 64 ≤ (atBeat 64 probed).beatIx ∧
    (atBeat 63 probed).beatIx < 0 + 64 ∧ up.reaches .pf 0x2400 0x16 = true ∧ 0 < up.rdN (hKey 0x19) ∧
    up.rdN (hKey 0x19) ≤ (List.replicate (up.rdN (hKey 0x19)) 0).length := by decide +kernel

theorem test_wit_HealthIsScored : up.health.subStart + up.subWindow ≤ { up with mgmt := { up.mgmt with ns := up.subWindow } }.mgmt.ns ∧
    up.mgmt.ns < up.health.subStart + up.subWindow ∧ up.reaches .pf 0x2400 5 = true ∧ (1#64).toNat ≤ 1 ∧ 1 < (2#64).toNat ∧
    ({ up with cores := [(0, { CoreSt.reset with run := { CoreRun.idle with checked := true } })] }.core 0).run.checked = true ∧
    (up.core 0).run.checked = false := by decide +kernel

/-- Core 0 in a tile for a number of watchdog beats, and how the rungs stand. -/
def hung (auto beats : Nat) (s : State) : State :=
  { s.wrN (rKey 4) auto with
    cores := [(0, { CoreSt.reset with run := { CoreRun.idle with launch := some 0, item := 1, tile := some (0, 0), tileBeats := beats } })] }

/-- Core 0 at an open gate that is no beat gate, for as long as the gate watchdog allows. -/
def gateHung : State :=
  let s := gated (.version 0 (.step 8)) (running 1 none)
  { s with cores := [(0, { CoreSt.reset with run := { CoreRun.idle with launch := some 0, gateBeats := up.pN 0 0xE5 } })] }

/-- Slot 0 of partition 0 armed, and seen startable for a number of beats. -/
def late0 (n : Nat) : State :=
  { running 1 none with
    slots := [(0, { LSlot.reset with state := .armed, coreSet := [0], readyBeats := n })], launches := [], cores := [],
    progs := (progIn .ready).progs }

theorem test_wit_WatchdogsExpire : ((hung 31 0 (running 1 none)).launchOf 0).map Prod.fst = some 0 ∧
    optAnd ((hung 31 0 (running 1 none)).launchOf 0) (fun kl => kl.2.ending == none) = true ∧
    ((hung 31 (up.pN 0 0xE4) (running 1 none)).core 0).run.tile = some (0, 0) ∧
    (hung 31 (up.pN 0 0xE4) (running 1 none)).watchdogsRun 0 = true ∧ (hung 31 (up.pN 0 0xE4) (running 1 none)).bistRuns 0 = false ∧
    (hung 31 (up.pN 0 0xE4) (running 1 none)).pN 0 0xE4 ≤ ((hung 31 (up.pN 0 0xE4) (running 1 none)).core 0).run.tileBeats ∧
    ((hung 31 0 (running 1 none)).core 0).run.tileBeats < (hung 31 0 (running 1 none)).pN 0 0xE4 ∧
    (hung 31 0 (running 1 none)).rungAuto 1 = true ∧ (hung 0 0 (running 1 none)).rungAuto 1 = false ∧
    (up.wrN (pKey 0 0xE5) 0).pN 0 0xE5 = 0 ∧ gateHung.pN 0 0xE5 ≠ 0 ∧ gateHung.pN 0 0xE5 ≤ (gateHung.core 0).run.gateBeats ∧
    gateHung.watchdogsRun 0 = true ∧ (gateHung.launchOf 0).isSome = true ∧
    (gateHung.ctx 0).state = .resident ∧ (gateHung.openGates 0).any (fun g => !gateIsBeat g) = true := by decide +kernel

theorem test_wit_SharedWatchdogsExpire : (late0 9766).startable ((late0 9766).lead 0) 0 = true ∧
    9766 ≤ ((late0 9766).slot ((late0 9766).lead 0) 0).readyBeats ∧ (late0 9766).watchdogsRun 0 = true ∧ (late0 9766).bistRuns 0 = false ∧
    ((ctxIn .evicting).ctx 0).state = .evicting ∧ ((ctxIn .evicting).ctx 0).since + 9766 ≤ (atBeat 9766 (ctxIn .evicting)).beatIx ∧
    (hung 31 0 up).rungAuto 3 = true ∧ (hung 0 0 up).rungAuto 3 = false ∧ up.jobReady = true ∧
    (∀ q ∈ up.members 0, up.pN q 0x2E ≠ 1) ∧ mget none up.hang.resets (up.lead 0) = none ∧
    up.superseded = false ∧ up.rdN (objKey 0x2000 7) = 0 ∧ (hung 31 0 up).rungAuto 4 = true ∧ (hung 0 0 up).rungAuto 4 = false ∧
    up.pow.mode = .on ∧ up.hang.mcFirst = none ∧ ¬(up.mgmt.wdAt + up.rdN (rKey 5) * 10 ^ 6 ≤ up.mgmt.ns) ∧
    { up with mgmt := { up.mgmt with ns := 60 * 10 ^ 9 } }.mgmt.wdAt + up.rdN (rKey 5) * 10 ^ 6 ≤ 60 * 10 ^ 9 ∧
    (hung 31 0 up).rungAuto 5 = true := by decide +kernel

/-- A rung under way for launch 0, which ends with HANG. -/
def climbing (n : Nat) : State :=
  { hung 31 0 (running 1 none) with
    launches := [(0, ⟨0, 0, img0, 0, 0, 0, false, [], 0, some 0, some ⟨stHang, 0, 0⟩, [], 0, []⟩)]
    hang := { up.hang with rungs := [(0, some ⟨n, 0, 0, 0, 0, 0, [0]⟩)] } }

theorem test_wit_RungsClimb : { up with hang := { up.hang with chip := some 0 } }.hang.chip = some 0 ∧ up.jobReady = true ∧
    (up.wrN (objKey 0x1000 0x30) 0).jobReady = false ∧ up.mgmt.ns < 0 + 10 ^ 9 ∧ (hung 31 0 up).rungAuto 5 = true ∧ up.hang.chip = none ∧
    mget none { up with hang := { up.hang with resets := [(0, some ⟨false, 7, 0, 0⟩)] } }.hang.resets (up.lead 0) = some ⟨false, 7, 0, 0⟩ ∧
    0 + phaseBound (up.pN (up.lead 0) 0xE1) ≤ (atBeat (phaseBound 0) up).beatIx ∧ up.beatIx < 0 + phaseBound (up.pN (up.lead 0) 0xE1) ∧ up.pow.mode = .on ∧
    (atBeat 15624 up).beatIx < 0 + 15625 ∧ 0 + 15625 ≤ (atBeat 15625 up).beatIx ∧ (hung 0 0 up).rungAuto 4 = false ∧
    (climbing 1).hang.chip = none ∧ mget none (climbing 1).hang.resets ((climbing 1).lead 0) = none ∧ (climbing 1).watchdogsRun 0 = true ∧
    ((climbing 1).hang.rungs.filter fun (kv : Nat × Option RungSt) => kv.1 / 256 == (climbing 1).lead 0) =
      [(0, some ⟨1, 0, 0, 0, 0, 0, [0]⟩)] ∧
    0 + 64 ≤ (atBeat 64 (climbing 1)).beatIx ∧ (climbing 1).rungStands ⟨1, 0, 0, 0, 0, 0, [0]⟩ = true ∧
    (((climbing 1).launchCores 0).filter fun (c : Nat) => ((climbing 1).core c).run.tile.isSome) ≠ [] ∧
    ((({ climbing 1 with cores := [] } : State).launchCores 0).filter fun (c : Nat) => ((climbing 1).core c).run.tile.isSome) = [] ∧
    0 + 98 ≤ (atBeat 98 (climbing 2)).beatIx ∧ { up with mgmt := { up.mgmt with restarting := true } }.mgmt.restarting = true ∧
    up.mgmt.restarting = false := by decide +kernel

theorem test_wit_PartitionsReset : up.reaches .pf (partIx 0) 0xE0 = true ∧ up.jobReady = true ∧ bit (1#64) 0 = true ∧ bit (1#64) 1 = false ∧
    (∀ q ∈ up.members 0, up.pN q 0x2E ≠ 1) ∧ mget none up.hang.resets (up.lead 0) = none ∧ up.coll = [] ∧ up.lead 0 < 16 ∧ up.lead (up.lead 0) = up.lead 0 ∧
    1 ≤ (up.wrN (pKey 0 0xE1) 1).pN (up.lead 0) 0xE1 ∧ (up.wrN (pKey 0 0xE1) 1).pN (up.lead 0) 0xE1 < 5 ∧ up.pcieUp = true ∧
    upVf.vfExists (15 + 1) = true ∧ (upVf.wrN (objKey 0x1000 0x30) 4).pcieUp = true ∧ (upVf.wrN (objKey 0x1000 0x30) 4).jobReady = false ∧
    up.pN 0 0xE1 ≠ 7 ∧ (⟨false, 7, 0, 0⟩ : ResetRun).sample = false := by decide +kernel

theorem test_wit_ChipResets : up.pow.mode = .on ∧ up.mgmt.savedValues = [] ∧ up.pcieUp = true ∧ up.reaches .pf 0x2A00 1 = true ∧
    field 0x5A3C0001#64 31 16 = 0x5A3C ∧ bit (0x5A3C0001#64) 0 = true ∧ bit (0x5A3C0002#64) 0 = false ∧ bit (0x5A3C0002#64) 1 = true ∧
    bit (4#64) 0 = false ∧ bit (4#64) 1 = false ∧ bit (4#64) 2 = true ∧ field (3#64) 31 16 ≠ 0x5A3C ∧
    { up with pow := { up.pow with mode := .off } }.pow.mode = .off := by decide +kernel

/-- A self-test DEFERRED or RUNNING on partition 0. -/
def tested (st : Nat) : State :=
  { up.wrN (pKey 0 0xEB) st with hang := { up.hang with bist := [(0, some ⟨true, false⟩)] } }

theorem test_wit_SelfTestsRun : up.reaches .pf (partIx 0) 0xEA = true ∧ up.jobReady = true ∧ up.pN 0 0xE1 = 0 ∧ up.pN 0 0x2E ≠ 1 ∧
    up.pN 0 0xEB ≠ 1 ∧ up.pN 0 0xEB ≠ 2 ∧ up.drained 0 = true ∧ (ctxIn .resident).drained 0 = false ∧ (tested 1).pN 0 0xEB = 1 ∧
    (tested 2).pN 0 0xEB = 2 ∧ mget none (tested 2).hang.bist 0 = some ⟨true, false⟩ ∧ bit (2#64) 0 = false ∧ bit (2#64) 1 = true ∧
    (tested 1).drained 0 = true ∧ { ctxIn .resident with obj := (tested 1).obj }.drained 0 = false := by decide +kernel

/-! ## Witnesses: functions and windows, Barzar and Conga -/

/-- Function 0 with a pending vector 143, bus mastering on. -/
def msixIn (mask : Bool) : State :=
  up.setFunc 0 { FuncSt.reset with
    busMaster := true, msixEnable := true, msixMask := mask,
    vecs := [(143, { (FuncSt.reset.vec 143) with masked := false, pending := true })] }

theorem test_wit_FunctionsChange : up.funcLive 0 = true ∧ upVf.funcLive 16 = true ∧ 143 < vecCount 0 ∧ ((msixIn false).func 0).msixEnable = true ∧
    (((msixIn false).func 0).vec 143).pending = true ∧ ((msixIn false).func 0).held 143 = false ∧ ((msixIn true).func 0).held 143 = true ∧
    up.pcieUp = true ∧ up.host.vfEnable = false ∧ upVf.host.vfEnable = true ∧ upVf.host.numVfs ≤ 16 ∧ upVf.dma = [] ∧
    upVf.vfExists 16 = true ∧ upVf.vfExists 17 = false := by decide +kernel

/-- The last 16 bytes of the HBM below the reserve, and the first of the reserve; the last of the staging area and past it; the object at
0x2F00 sub 1. -/
def staging0 : State := up.wrN (objKey 0x1000 0x30) 2

def selected (v : Word32) : State := { up with host := { up.host with domSelect := v }, mgmt := { up.mgmt with calState := .unlocked } }

theorem test_wit_WindowsAreReached : up.funcLive 0 = true ∧ (up.func 0).d3hot = false ∧ up.stages 0 4096 16 = false ∧
    up.bar4Addr 0 4096 16 = some 4096 ∧ up.stages 0 4097 16 = false ∧ up.bar4Addr 0 4097 16 = some 4097 ∧ 4097 % 16 ≠ 0 ∧ upVf.bar4Addr 16 4096 16 = some (hbmBase 15 + 4096) ∧ 4096 % 16 = 0 ∧
    up.bar4Addr 0 (hbmEnd - 15) 16 = none ∧ upVf.bar4Addr 1 (hbmSize - 15) 16 = none ∧
    ((up.wrN (pKey 0 0x93) 1).bar4Addr 0 ((up.wrN (pKey 0 0x93) 1).reserveBase 0 - 15) 16) = none ∧
    ((up.wrN (pKey 0 0x93) 1).bar4Addr 0 ((up.wrN (pKey 0 0x93) 1).reserveBase 0 - 16) 16).isSome = true ∧
    staging0.funcLive 0 = true ∧ staging0.stages 0 (40 * 2 ^ 20 - 16) 16 = true ∧ staging0.stages 0 (40 * 2 ^ 20 - 15) 16 = false ∧
    up.viaLive .pf = true ∧ 0xFFF0 + 16 ≤ 65536 ∧ ((selected 0x2F0001).domain 0x2F00 1).isSome = true ∧
    (selected 0x2F0001).objOpen 0x2F00 1 false = true ∧ (up.domain 0x1000 5).isSome = false ∧ domainWritable 0x2F00 1 = true ∧
    (selected 0x2F0001).objOpen 0x2F00 1 true = true ∧ (selected 0x2F0001).host.domSelect.toNat / 256 % 65536 = 0x2F00 ∧
    (selected 0x2F0001).host.domSelect.toNat % 256 = 1 ∧ (selected 0x2F0001).mgmt.calState = .unlocked ∧
    (0#32).toNat + 1008 + 16 ≤ 1024 := by decide +kernel

/-- A node with ID 18 on the bus. -/
def node : State := up.wrN (idKey 0x10) 18

/-- A request to it: command, object, size and value. -/
def canReq (cmd : Byte) (index : BitVec 16) (sub size : Byte) (v : Word) : CanRequest :=
  ⟨18, cmd, 1, index, sub, size, v, List.replicate 48 0⟩

/-- READ of NODE_ID; WRITE of HEARTBEAT_PERIOD and of a read-only object; segments of a calibration block, the last of which ends with
it. -/
theorem test_wit_RequestsAreAnswered : node.onBus = true ∧ node.nodeId ≠ 0 ∧ node.mgmt.queue = [] ∧
    (canReq 1 0x1000 0x10 0 0).node.toNat = node.nodeId ∧ optAnd (objSpec 0x1000 0x10) (fun o => o.acc != .wo && o.kind == .num) = true ∧
    (node.rxCan.modMgmt fun m => { m with queue := [] }).objOpen 0x1000 0x10 false = true ∧
    okAnd ((node.rxCan.modMgmt fun m => { m with queue := [] }).writeOutcome (canReq 2 0x1000 0x19 2 500)) (fun t => t.rdN (idKey 0x19) == 500)
      = true ∧
    okAnd ((node.rxCan.modMgmt fun m => { m with queue := [] }).writeOutcome (canReq 2 0x1000 0x10 1 1)) (fun _ => true) = false ∧
    (objSpec 0x2F00 1).isSome = true ∧ (node.domain 0x2F00 1).isSome = true ∧
    (node.rxCan.modMgmt fun m => { m with queue := [] }).objOpen 0x2F00 1 false = true ∧
    segFits (canReq 3 0x2F00 1 0 (BitVec.ofNat 64 (48 * 2 ^ 32 + 976))) 1024 = true ∧
    segFits (canReq 3 0x2F00 1 0 (BitVec.ofNat 64 (48 * 2 ^ 32 + 977))) 1024 = false ∧
    okAnd ({ node with mgmt := { node.mgmt with calState := .unlocked } }.segOutcome (canReq 4 0x2F00 1 0 (BitVec.ofNat 64 (48 * 2 ^ 32 + 976))))
      (fun _ => true) = true ∧
    okAnd (node.segOutcome (canReq 4 0x2F00 1 0 (BitVec.ofNat 64 (48 * 2 ^ 32)))) (fun _ => true) = false ∧
    ({ canReq 1 0x1000 0x10 0 0 with node := 19 }.node.toNat ≠ node.nodeId) ∧ ({ canReq 1 0x1000 0x10 0 0 with node := 0 }.node = 0#7) ∧
    okAnd ((node.rxCan.modMgmt fun m => { m with queue := [] }).writeOutcome { canReq 2 0x1000 0x19 2 500 with node := 0 }) (fun _ => true) =
      true ∧
    okAnd ((node.rxCan.modMgmt fun m => { m with queue := [] }).writeOutcome { canReq 2 0x1000 0x10 1 1 with node := 0 }) (fun _ => true) =
      false ∧ node.mgmt.conflict = false ∧
    (up.wrN (idKey 0x10) 0).nodeId = 0 ∧ (up.wrN (idKey 0x10) 0).onBus = true ∧ bit (node.rd (idKey 0x1C)) 31 = false := by
  decide +kernel

/-- The node's clock at `ns`. -/
def nodeAt (ns : Nat) : State := { node with mgmt := { node.mgmt with ns := ns } }

theorem test_wit_NodeKeepsItsRecords : node.maySend = true ∧ up.maySend = false ∧ node.rdN (idKey 0x19) ≠ 0 ∧
    (nodeAt (node.rdN (idKey 0x19) * 10 ^ 6)).mgmt.hbAt + node.rdN (idKey 0x19) * 10 ^ 6 ≤
      (nodeAt (node.rdN (idKey 0x19) * 10 ^ 6)).mgmt.ns ∧
    node.onBus = true ∧ node.nodeId ≠ 0 ∧ node.pow.mode ≠ .off ∧ node.mgmt.restarting = false ∧ (node.wrN (idKey 0x1A) 7).rdN (idKey 0x1A) ≠ 0 ∧
    node.mgmt.ctrlLost = false ∧ (nodeAt (7 * 10 ^ 6)).mgmt.ctrlHbAt + 7 * 10 ^ 6 ≤ (nodeAt (7 * 10 ^ 6)).mgmt.ns ∧
    node.mgmt.evQueue.length < 32 ∧ 32 ≤ (List.replicate 32 (⟨3, 0, 1, 0, 0⟩ : EventEntry)).length ∧ node.mgmt.evAt = none ∧
    node.mgmt.txErr + 255 ≤ 255 ∧ 255 < node.mgmt.txErr + 256 ∧
    { node with mgmt := { node.mgmt with busOff := true } }.mgmt.busOff = true ∧
    { node with mgmt := { node.mgmt with saves := [(idKey 0x19, 500#64)] } }.mgmt.saves = [(idKey 0x19, 500#64)] := by decide +kernel

/-- A node that awaits its position, in tray 7: position 15 gives ID 127, and 16 none. -/
def awaiting : State := ((node.wrN (objKey 0x1100 1) 1).wrN (objKey 0x1100 0x11) 0x70).wrN (objKey 0x1100 0x12) 0x70

theorem test_wit_CongaAssigns : awaiting.onBus = true ∧ awaiting.congaState = 1 ∧ nfield awaiting.straps 6 4 * 16 + 15 = 127 ∧
    127 < nfield awaiting.straps 6 4 * 16 + 16 ∧ (node.wrN (objKey 0x1100 1) 3).congaState = 3 ∧
    { node with mgmt := { node.mgmt with congaIn := true } }.mgmt.congaIn = true ∧ node.mgmt.congaOut = false ∧
    (node.wrN (objKey 0x1100 1) 0).congaState = 0 ∧ (node.wrN (objKey 0x1100 1) 2).congaState = 2 ∧ node.pow.mode ≠ .off ∧ node.nodeId ≠ 0 ∧
    node.mgmt.conflict = false ∧ { node with mgmt := { node.mgmt with conflict := true } }.mgmt.conflict = true := by decide +kernel

/-- What is listed at keys from `b` on lies past `k`. -/
theorem test_mget_past : ∀ (f : Nat → Byte) (b i n k : Nat), k < b + i →
    mget 0#8 ((List.range' i n).map fun j => (b + j, f j)) k = 0#8 := by
  intro f b i n
  induction n generalizing i with
  | zero => intros; rfl
  | succ n ih =>
    intro k h
    rw [List.range'_succ, List.map_cons]
    simp only [mget]
    rw [if_neg (by omega)]
    exact ih (i + 1) k (by omega)

theorem test_mget_at : ∀ (f : Nat → Byte) (b i n k : Nat), i ≤ k → k < i + n →
    mget 0#8 ((List.range' i n).map fun j => (b + j, f j)) (b + k) = f k := by
  intro f b i n
  induction n generalizing i with
  | zero => intros; omega
  | succ n ih =>
    intro k h1 h2
    rw [List.range'_succ, List.map_cons]
    simp only [mget]
    by_cases h : k = i
    · subst h; rw [if_pos rfl]
    · rw [if_neg (by omega)]
      exact ih (i + 1) k (by omega) (by omega)

theorem test_sha_length (m : List Byte) : (sha512 m).length = 64 := by
  have block : ∀ (hs : List Word) (b : List Byte), hs.length = 8 → (shaBlock hs b).length = 8 := by
    intro hs b h
    simp [shaBlock, h]
  have blocks : ∀ (n : Nat) (bs : List Byte) (hs : List Word), hs.length = 8 → (shaBlocks n bs hs).length = 8 := by
    intro n
    induction n with
    | zero => intro _ _ h; exact h
    | succ n ih =>
      intro bs hs h
      rw [shaBlocks]
      split
      · exact h
      · exact ih _ _ (block hs _ h)
  have flat : ∀ ws : List Word, (ws.flatMap wordBE).length = 8 * ws.length := by
    intro ws
    induction ws with
    | nil => rfl
    | cons w ws ih => simp [wordBE, ih]; omega
  rw [sha512, flat, blocks _ _ _ rfl]

/-- A calibration set for serial number 0 of ORIGIN factory, with a digest. -/
def calSet (d : Nat → Byte) : SMap Byte :=
  [(calHead, 0x45), (calHead + 1, 0x39), (calHead + 2, 0x43), (calHead + 3, 0x4C), (calHead + 4, 1)] ++
    (List.range' 0 64).map fun j => (calHead + 64 + j, d j)

/-- Its bytes before the digest do not depend on it. -/
theorem test_calSet_front (d : Nat → Byte) (k : Nat) (h : k < calHead + 64) : mget 0#8 (calSet d) k = mget 0#8 (calSet fun _ => 0#8) k := by
  simp only [calSet, List.cons_append, List.nil_append, mget]
  repeat' split
  all_goals first
    | rfl
    | rw [test_mget_past _ _ _ _ _ (by omega), test_mget_past _ _ _ _ _ (by omega)]

theorem test_calSet_bytes (f : Nat → Byte) (a n : Nat) (h : a + n ≤ calHead + 64) :
    calBytes (calSet f) a n = calBytes (calSet fun _ => 0#8) a n := by
  apply List.map_congr_left
  intro i hi
  exact test_calSet_front _ _ (by have := List.mem_range.mp hi; omega)

theorem test_calSet_digest (d : List Byte) (len : d.length = 64) : calBytes (calSet fun j => d.getD j 0#8) (calHead + 64) 64 = d := by
  apply List.ext_getElem
  · simp [calBytes, len]
  · intro i h1 h2
    have hi : i < 64 := by simpa [calBytes] using h1
    simp only [calBytes, List.getElem_map, List.getElem_range]
    rw [calSet]
    simp only [List.cons_append, List.nil_append, mget]
    rw [if_neg (by omega), if_neg (by omega), if_neg (by omega), if_neg (by omega), if_neg (by omega),
      test_mget_at _ _ _ _ _ (by omega) (by omega)]
    simp [List.getD, h2]

/-- A set with the digest of its front passes every check. -/
theorem test_calSet_passes (d : List Byte)
    (hd : d = sha512 (calBytes (calSet fun _ => 0#8) 0 calHead ++ calBytes (calSet fun _ => 0#8) calHead 64)) :
    calCheck (calSet fun j => d.getD j 0#8) 0#64 = 0 ∧ calOrigin (calSet fun j => d.getD j 0#8) = 0 := by
  have len : d.length = 64 := by rw [hd]; exact test_sha_length _
  have m : leNat (calBytes (calSet fun _ => 0#8) calHead 4) = 0x4C433945 := by decide +kernel
  have f : leNat (calBytes (calSet fun _ => 0#8) (calHead + 4) 2) = 1 := by decide +kernel
  have n : leNat (calBytes (calSet fun _ => 0#8) (calHead + 8) 8) = 0 := by decide +kernel
  constructor
  · have e := test_calSet_bytes fun j => d.getD j 0#8
    rw [calCheck, test_calSet_digest d len, e calHead 4 (by omega), e (calHead + 4) 2 (by omega), e (calHead + 8) 8 (by omega),
      e 0 calHead (by omega), e calHead 64 (by omega), m, f, n, ← hd]
    simp
  · rw [calOrigin, test_calSet_front _ _ (by omega)]
    decide +kernel

theorem test_calibration_set_exists : ∃ c : SMap Byte, calCheck c 0#64 = 0 ∧ calOrigin c = 0 := by
  obtain ⟨d, hd⟩ : ∃ d, d = sha512 (calBytes (calSet fun _ => 0#8) 0 calHead ++ calBytes (calSet fun _ => 0#8) calHead 64) := ⟨_, rfl⟩
  exact ⟨_, test_calSet_passes d hd⟩

/-- Commits that pass and that do not; the instant at which the staging copy is dropped, and the one before. -/
theorem test_wit_CalibrationIsCommitted : up.reaches .pf 0x2F40 1 = true ∧ bit (0xC41B0001#64) 0 = true ∧ field 0xC41B0001#64 31 16 = 0xC41B ∧
    up.mgmt.calState ≠ .committing ∧ field (1#64) 31 16 ≠ 0xC41B ∧ bit (2#64) 0 = false ∧ bit (2#64) 1 = true ∧
    (selected 0).mgmt.calState = .unlocked ∧ (selected 0).commitRefusal true = 1 ∧ bit (4#64) 0 = false ∧ bit (4#64) 1 = false ∧
    bit (4#64) 2 = true ∧ { up with mgmt := { up.mgmt with calState := .committing } }.mgmt.calState = .committing ∧ up.readiness ≠ 4 ∧
    up.mgmt.calAt + 60 * 10 ^ 9 ≤ (nodeAt (60 * 10 ^ 9)).mgmt.ns ∧ (nodeAt (60 * 10 ^ 9 - 1)).mgmt.ns < up.mgmt.calAt + 60 * 10 ^ 9 ∧
    up.serial = 0#64 := by decide +kernel

theorem test_wit_CommitPasses : ∃ s : State, s.mgmt.calState = .unlocked ∧ s.reaches .pf 0x2F40 1 = true ∧ s.commitRefusal true = 0 := by
  obtain ⟨c, h1, h2⟩ := test_calibration_set_exists
  refine ⟨{ up with mgmt := { up.mgmt with calState := .unlocked, staging := c } }, rfl, ?_, ?_⟩
  · change up.reaches .pf 0x2F40 1 = true
    decide +kernel
  have hs : State.serial { up with mgmt := { up.mgmt with calState := .unlocked, staging := c } } = 0#64 := by
    change up.serial = 0#64
    decide +kernel
  simp [State.commitRefusal, hs, h1, h2]

/-! ## Witnesses: bring-up, security, power, supply -/

/-- The header of an image of 64 KiB of zeros, without its digest. -/
def imageHead : Mem :=
  ((Mem.empty.writeLE (spadBase 0) 4 0x46573945).writeLE (spadBase 0 + 4) 2 1).writeLE (spadBase 0 + 12) 4 65536

/-- Its fields do not depend on the digest. -/
theorem test_image_head (d : List Byte) (len : d.length = 64) (a n : Nat) (h : a + n ≤ spadBase 0 + 64 ∨ spadBase 0 + 128 ≤ a) :
    (imageHead.writeBytes (spadBase 0 + 64) d).readBytes a n = imageHead.readBytes a n := by
  apply Mem.readBytes_eq
  intro i hi
  exact Mem.read_writeBytes_out _ _ _ _ (by omega)

/-- The image with the digest of its body passes every check that its reading makes. -/
theorem test_image_passes (s : State) (d : List Byte) (hd : d = sha512 (imageHead.readBytes (spadBase 0 + 4096) 65536))
    (hm : s.mem = imageHead.writeBytes (spadBase 0 + 64) d) (hv : s.svnMin = 0) :
    s.imageFails (s.readImage (spadBase 0)) ⟨true, true⟩ = 0 := by
  have len : d.length = 64 := by rw [hd]; exact test_sha_length _
  have dig : (imageHead.writeBytes (spadBase 0 + 64) d).readBytes (spadBase 0 + 64) 64 = d := by
    have h := Mem.readBytes_writeBytes imageHead (spadBase 0 + 64) d
    rw [len] at h
    exact h
  have e1 : imageHead.readLE (spadBase 0) 4 = 0x46573945 := by decide +kernel
  have e2 : imageHead.readLE (spadBase 0 + 4) 2 = 1 := by decide +kernel
  have e3 : imageHead.readLE (spadBase 0 + 12) 4 = 65536 := by decide +kernel
  have head : (s.readImage (spadBase 0)).headOk = true := by
    simp only [State.readImage, hm, Mem.readLE]
    rw [test_image_head d len _ _ (by omega), test_image_head d len _ _ (by omega), ← Mem.readLE, ← Mem.readLE, e1, e2]
    decide
  have body : (s.readImage (spadBase 0)).bodyOk = true := by
    simp only [State.readImage, hm, Mem.readLE]
    rw [test_image_head d len (spadBase 0 + 12) 4 (by omega), ← Mem.readLE, e3, dig, test_image_head d len _ _ (by omega), ← hd]
    simp [bodyMax]
  simp [State.imageFails, head, body, hv]

/-- FW_LOAD of an image that passes. -/
theorem test_wit_FirmwareLoads : ∃ s : State, s.reaches .pf 0x2900 0x0A = true ∧ s.readiness = 2 ∧
    s.imageFails (s.readImage (spadBase 0)) ⟨true, true⟩ = 0 := by
  obtain ⟨d, hd⟩ : ∃ d, d = sha512 (imageHead.readBytes (spadBase 0 + 4096) 65536) := ⟨_, rfl⟩
  obtain ⟨m, hm⟩ : ∃ m, m = imageHead.writeBytes (spadBase 0 + 64) d := ⟨_, rfl⟩
  refine ⟨{ staging0 with mem := m }, ?_, ?_, test_image_passes _ d hd hm ?_⟩
  · change staging0.reaches .pf 0x2900 0x0A = true
    decide +kernel
  · change staging0.readiness = 2
    decide +kernel
  · change staging0.svnMin = 0
    decide +kernel

/-- A bring-up observation: straps, and whether the active image passes. -/
def bring (straps : BitVec 12) : BringupObs := ⟨straps, true, false, 0xFFF, 0xFFFF, 0, ⟨.gt64, .x16⟩⟩

/-- The device held in reset. -/
def held0 : State := State.reset

theorem test_wit_DevicesComeUp : { up with pow := { up.pow with mode := .off } }.pow.mode = .off ∧ up.mgmt.flash = [] ∧ held0.pow.mode = .on ∧
    held0.readiness = 0 ∧ (bring 0x080).failedStep = 0 ∧ held0.sec.nextBank = false ∧ held0.rdN (secKey 2) = 0 ∧
    (bring 0x080).straps.getLsbD 7 = true ∧ (bring 0).straps.getLsbD 7 = false ∧ held0.sec.bank0.valid = true ∧
    (bring 0).activePasses = true ∧ held0.svnMin ≤ held0.sec.bank0.svn ∧ held0.mgmt.calState ≠ .committing ∧
    ({ ImgInfo.factory with valid := false } : ImgInfo).valid = false ∧ (up.wrN (objKey 0x1000 0x30) 4).readiness = 4 ∧ up.sec.obs = none ∧
    up.rdN (idKey 0x35) = 0 ∧ (∀ p < 16, up.pN p 0xE1 ≠ 7) ∧ (up.wrN (pKey 15 0xE1) 7).pN 15 0xE1 = 7 ∧
    staging0.imageFails (staging0.readImage (spadBase 0)) ⟨true, true⟩ = 1 ∧ up.reaches .pf 0x2900 8 = true ∧ up.jobReady = true ∧
    up.rdN (secKey 9) % 4 ≠ 1 ∧ up.imageFails ⟨true, true, ⟨true, 1, 0, []⟩⟩ ⟨true, true⟩ = 0 ∧
    up.imageFails ⟨true, false, ⟨true, 1, 0, []⟩⟩ ⟨true, true⟩ = 4 ∧ up.reaches .pf 0x2900 0x0B = true ∧ bit (0x3C960001#64) 0 = true ∧
    field 0x3C960001#64 31 16 = 0x3C96 ∧ ({ ImgInfo.factory with svn := 255 } : ImgInfo).svn < 256 ∧
    staging0.readiness = 2 ∧ bit (1#64) 0 = true ∧ staging0.reaches .pf 0x2900 0x0A = true := by decide +kernel

theorem test_wit_PartitionsAreAttestedAndReclaimed : up.reaches .pf (partIx 0) 0x29 = true ∧ bit (1#64) 0 = true ∧ up.pN 0 0x2A % 4 ≠ 1 ∧
    up.reportPlace 0 (up.pN 0 0x28) = true ∧ up.reportPlace 0 512 = false ∧ up.reportPlace 0 (up.reserveBase 0 - 1024) = true ∧
    up.reportPlace 0 (up.reserveBase 0) = false ∧ (up.wrN (pKey 0 0x2A) 1).pN 0 0x2A % 4 = 1 ∧
    (⟨0, 0, 0, 0, [], 0⟩ : AttReq).part = (0 : Part).val ∧ up.pN 0 0x2E ≠ 1 ∧ (List.replicate 512 (0 : Byte)).length = 512 ∧
    (⟨1, 0, 0, 0, [], 0⟩ : AttReq).part ≠ (0 : Part).val ∧ up.reaches .pf (partIx 0) 0x2D = true ∧ viaPriv .pf = true ∧
    field 0x7E1A0001#64 31 16 = 0x7E1A ∧ (∀ q ∈ up.members 0, up.reclaimable q = true) ∧ field (1#64) 31 16 ≠ 0x7E1A ∧ up.sec.waitReset = [] ∧
    (up.wrN (pKey 0 0x2E) 1).pN 0 0x2E = 1 := by decide +kernel

/-- Cluster 0 asleep or waking. -/
def dozing (a w : Bool) : State := up.modCluster 0 fun c => { c with asleep := a, waking := w }

theorem test_wit_PartitionsSleepAndWake : up.reaches .pf (partIx 0) 0 = true ∧ up.pN 0 1 ≠ 1 ∧ up.pN 0 1 ≠ 2 ∧ up.drained 0 = true ∧
    up.pN 0 0xE1 = 0 ∧ up.pN 0 0x2E ≠ 1 ∧ up.bistRuns 0 = false ∧ (ctxIn .resident).drained 0 = false ∧ (up.wrN (pKey 0 1) 1).pN 0 1 = 1 ∧
    (up.wrN (pKey 0 1) 3).pN 0 1 = 3 ∧ up.rdN (pwKey 7) = 0 ∧ ((dozing true false).cluster 0).asleep = true ∧
    ((dozing true false).cluster 0).waking = false ∧ ((dozing true true).cluster 0).waking = true ∧
    383 ∈ (up.modPow fun w => { w with wakingCh := [383] }).pow.wakingCh ∧ (up.wrN (pKey 0 4) 5).pN 0 4 ≠ 0 ∧
    5 ≤ mget 0 (up.modPow fun w => { w with noWork := [(0, 5)] }).pow.noWork 0 ∧ up.clusterAwake 0 = true ∧ (up.wrN (pKey 0 4) 0).pN 0 4 = 0 ∧
    (up.wrN (pKey 0 2) 5).pN 0 2 ≠ 0 ∧ 5 ≤ mget 0 (up.modPow fun w => { w with drained := [(0, 5)] }).pow.drained (up.lead 0) ∧
    up.groupRuns 0 = true ∧ up.slots = [] ∧ (up.wrN (pKey 0 2) 0).pN 0 2 = 0 ∧ ((late0 0).slot ((late0 0).lead 0) 0).state = .armed ∧
    ((late0 0).slot ((late0 0).lead 0) 0).prewoken = false ∧ ((late0 0).slot ((late0 0).lead 0) 0).startBeat ≤ (late0 0).beatIx + (late0 0).pN 0 3 ∧
    ((late0 0).wrN (pKey 0 1) 2).pN 0 1 = 2 := by decide +kernel

/-- 64 banks retained on each of 16 cores. -/
def retaining : State := { up with retain := (List.range 16).map fun c => (c, BitVec.allOnes 64) }

/-- The estimate of R419 at 25 °C with nothing retained is 3.5 A; with 1,024 banks at 65 °C it is 3.5 + 1,024 × 0.044 A. -/
theorem test_retention_current : up.retMicroAmps 25000 ≤ 36000000 ∧ up.retMicroAmps 25000 = 3500000 ∧
    retaining.retMicroAmps 65000 = 48556000 ∧ 36000000 < retaining.retMicroAmps 65000 ∧ retaining.rdN (pwKey 7) = 0 := by decide +kernel

theorem test_wit_RetentionIsEnteredAndLeft : up.reaches .pf 0x2000 6 = true ∧ up.rdN (pwKey 7) = 0 ∧ up.jobReady = true ∧
    (∀ p < 16, up.drained p = true ∧ up.pN p 0xEB ≠ 1 ∧ up.pN p 0xEB ≠ 2 ∧ up.pN p 0xE1 = 0 ∧ up.pN p 0x2E ≠ 1) ∧
    ((up.wrN (objKey 0x1000 0x30) 7).wrN (pwKey 7) 2).reaches .pf 0x2000 6 = true ∧
    ((up.wrN (objKey 0x1000 0x30) 7).wrN (pwKey 7) 2).reaches .barzar 0x2000 6 = true ∧
    (up.wrN (pwKey 7) 2).rdN (pwKey 7) = 2 ∧ up.pow.brownedOut = false ∧ (up.wrN (pwKey 7) 1).rdN (pwKey 7) = 1 ∧
    (up.modPow fun w => { w with brownedOut := true }).pow.brownedOut = true := by decide +kernel

/-- A sample: average power, current and margin. -/
def sample0 (avg ma : Nat) (ok : Bool) : PowerSample := ⟨avg, ma, 48000, avg, ok, true⟩

theorem test_wit_LoopsSetTheClock : up.pow.mode = .on ∧ bit (up.rd (pwKey 8)) 3 = false ∧ up.capMhz ≤ 1350 ∧ up.capAllowed ≤ 16 ∧
    up.powerLimit < (sample0 (up.powerLimit + 1) 0 false).avgMw ∧ up.pow.capWait % 10 = 0 ∧ 800 < up.capMhz ∧
    (sample0 up.powerLimit 0 true).avgMw ≤ up.powerLimit ∧ (sample0 0 0 true).currentMa * 40 ≤ up.powerLimit ∧ up.pow.capWait = 0 ∧
    up.capAllowed = 16 ∧ (up.wrN (pwKey 8) (capWord 1350 15 false false false)).capAllowed < 16 ∧ up.rdN (pwKey 7) = 0 ∧
    0 < up.tempLimit (up.rdN (thKey 2)) - 3000 ∧ 800 < (up.cluster 0).thMhz ∧
    ((up.modCluster 0 fun c => { c with thMhz := 800 }).cluster 0).thMhz ≤ 800 ∧ up.pN 0 1 ≠ 2 ∧ (-5000 : Int) < up.tempLimit (up.rdN (thKey 2)) - 3000 ∧
    ((up.modCluster 0 fun c => { c with coolTicks := 99 }).cluster 0).coolTicks = 99 ∧ (up.cluster 0).coolTicks < 99 ∧
    ((up.modCluster 0 fun c => { c with thAllowed := 15 }).cluster 0).thAllowed < 16 ∧
    1350 ≤ (up.cluster 0).thMhz ∧ 16 ≤ (up.cluster 0).thAllowed ∧
    ((up.modCluster 0 fun c => { c with thMhz := 1325 }).cluster 0).thMhz < 1350 := by decide +kernel

theorem test_wit_SupplyAndReferencesAreWatched : up.pow.mode = .on ∧ { up with pow := { up.pow with mode := .tripped } }.pow.mode = .tripped ∧
    { up with pow := { up.pow with mode := .tripped } }.pow.mode ≠ .on ∧ up.pow.mode ≠ .off ∧ up.capMhz ≤ 1350 ∧ up.capAllowed ≤ 16 ∧
    bit (up.rd (ckKey 3)) 0 = true ∧ ((portIn (pst .active) 0).port 0).st ≠ .disabled ∧ ((portIn (pst .active) 0).port 0).st ≠ .detect ∧
    ((portIn (pst .detect) 0).port 0).st = .detect := by decide +kernel

/-! ## Witnesses: memory and numbers -/

/-- The first and the last address of each range of R133, and a number of the largest value that its bytes hold. -/
theorem test_wit_AddressesDecode : spaceOf 0 = .hbm 0 ∧ spaceOf 0xD7FFFFFFFF = .hbm 15 ∧ spaceOf 0xD800000000 = .unmapped ∧
    spaceOf 0xFFFFFFFFFFF = .unmapped ∧ spaceOf 0x100000000000 = .spad 0 ∧ spaceOf 0x1001FFFFFFFF = .spad 255 ∧
    spaceOf 0x100200000000 = .unmapped ∧ spaceOf 0x180000000000 = .walnut 0 ∧ spaceOf 0x18001FFFFFFF = .walnut 255 ∧
    spaceOf 0x180020000000 = .unmapped ∧ spaceOf 0x1FFFFFFFFFFF = .unmapped ∧ spaceOf 0x200000000000 = .control ∧
    spaceOf 0xFFFFFFFFFFFF = .control := by decide +kernel

theorem test_wit_Memory : up.mem.wf ∧ 0xFFFF < 256 ^ 2 ∧ after .heartbeatSend up (fun t => decide t.mem.wf) = true := by decide +kernel

theorem test_wit_Numbers : decode .e4m3 false (BitVec.ofNat 64 0x7E) = .fin false 14 5 ∧ 0x7E < 2 ^ fmtBits .e4m3 ∧
    (⟨5, 7, 64⟩ : Lane).pos = 64 := by decide +kernel

/-! ## Single steps from the manual's worked examples -/

/-- Example of 02_number_formats.md: an MXFP4 block of 11.25, -3.125, 0.1875, 0.75 and zeros; and with 15.0 first. -/
theorem test_mx_example :
    mxBlock .mxfp4 ([(.fin false 45 (-2), .rne), (.fin true 25 (-3), .rne), (.fin false 3 (-4), .rne), (.fin false 3 (-2), .rne)] ++
      List.replicate 28 (.zero, .rne)) = (0x80#8, [7#64, 0xB#64, 0#64, 1#64] ++ List.replicate 28 0#64, flUF ||| flNX) ∧
    mxBlock .mxfp4 ((.fin false 15 0, .rne) :: List.replicate 31 (.zero, .rne)) = (0x80#8, 7#64 :: List.replicate 31 0#64, flNX) := by
  decide +kernel

/-- Example of 02_number_formats.md: an FP8 chunked dot product. -/
theorem test_fp8_example :
    addOutput ⟨.fp8, .e4m3, .k, [[0x45, 0x43, 0x08, 0xBC]], [], 4, 1⟩ .row false .e4m3 [0x7E, 0x39, 0x98, 0x46] [] 0 0#64 false =
      (0x44B5BB00#64, false, flNX) := by decide +kernel

/-- Example of 02_number_formats.md: a Hazel8 multiply-add onto 1.0, and its store with RNE and RTZ. -/
theorem test_hazel_example :
    (addOutput ⟨.hazel8, .hazel8, .k, [[0x3D]], [], 1, 1⟩ .row false .hazel8 [0x46] [] 0 0x3F800000#64 false).1 = 0x402BA280#64 ∧
    (encode .hazel8 .rne .nonsat false (.fin false (524288 + 881744) (-19))).1 = 0x46#64 ∧
    (encode .hazel8 .rtz .nonsat false (.fin false (524288 + 881744) (-19))).1 = 0x45#64 := by decide +kernel

/-- Example of 00_scope.md: a Beat counter of 1,000,000,000 ns is in beat 976,562. -/
theorem test_beat_example : { up with beat := 1000000000 }.beatIx = 976562 := by decide +kernel

/-- Example of 06_memory_system.md: locating one byte of HBM and one of scratchpad. -/
theorem test_byte_example : spaceOf 0x44A3456780 = .hbm 5 ∧ hbmChannel 0x44A3456780 = 127 ∧ hbmStack 0x44A3456780 = 3 ∧
    hbmChannelOffset 0x44A3456780 = 0x0C22E480 ∧ spaceOf 0x1000A6123440 = .spad 83 ∧ spadBase 83 + 0x123440 = 0x1000A6123440 ∧
    accessBank 0x123440 = 17 := by decide +kernel

/-- SHA-512 of the three bytes of "abc" (FIPS 180-4, example). -/
theorem test_sha_abc : leNat (sha512 [0x61, 0x62, 0x63]).reverse =
    0xddaf35a193617abacc417349ae20413112e6fa4e89a97ea20a9eeee64b55d39a2192992a274fc1a836ba3c23a3feebbd454d4423643ce80e2a9ac94fa54ca49f := by
  decide +kernel

/-- A BF16 pass of one row: 2.0 × 3.0 onto zero leaves 6.0 in the bank and no flag (R57, R60, R63). -/
theorem test_step_pass : stepped
    { (up.modCore 0 fun x => x.setEngine 0
        { Engine.empty with shadow := ⟨.bf16, .bf16, .k, [[0x4040#64]], [], 1, 1⟩ }).writeBytes (spadBase 0) [0x00, 0x40] with
      pending := [.blockPass 0 0 bp0 .clean] }
    (fun t => (((t.core 0).engine 0).bank 0).total 0 == 0x40C00000#64 && t.pending == []) = true := by decide +kernel

/-- An ADD of 1.0 and 2.0 from scratchpad and register writes 3.0 (R84). -/
theorem test_step_vector : stepped
    { (up.modCore 0 fun x => { x with vregs := [(512, 0x40000000#32)] }).writeBytes (spadBase 0) (leBytes 4 0x3F800000) with
      pending := [.vectorOperation 0 vo0 .clean] }
    (fun t => t.mem.readLE (spadBase 0 + 64) 4 == 0x40400000) = true := by decide +kernel

end Sys2Proof.Tests
end

section
/-! PROOFS. The Poppy generator (R92, R93): what one refill and one draw of each width give, and from these O60. -/

namespace Sys2Proof.Machine

/-! ## One word -/

/-- R92: the state advances by w, and the word is the mix of the state it reaches. -/
theorem Lane.refill_eq (l : Lane) :
    l.refill = ⟨l.state + 0x9E3779B97F4A7C15#64, poppyMix (l.state + 0x9E3779B97F4A7C15#64), 0⟩ := rfl

/-- A word is the sum of its 16-bit quarters, each at its own place. -/
theorem sum_quarters (w : Word) :
    w.toNat % 2 ^ 16 + 2 ^ 16 * (w.toNat / 2 ^ 16 % 2 ^ 16) + 2 ^ 32 * (w.toNat / 2 ^ 32 % 2 ^ 16) +
      2 ^ 48 * (w.toNat / 2 ^ 48 % 2 ^ 16) = w.toNat := by
  have hw := w.isLt
  omega

/-! ## One draw -/

/-- A 16-bit draw from a buffer that is not empty takes the bits from the position on and does not refill. -/
theorem Lane.draw16_of_pos_ne {l : Lane} (h : l.pos ≠ 64) :
    l.draw16 = (l.word.toNat / 2 ^ l.pos % 2 ^ 16, { l with pos := l.pos + 16 }) := by
  simp only [Lane.draw16, if_neg h, BitVec.toNat_ushiftRight, Nat.shiftRight_eq_div_pow]

/-- A 16-bit draw from an empty buffer is the draw from the refilled one. -/
theorem Lane.draw16_of_pos_eq {l : Lane} (h : l.pos = 64) : l.draw16 = l.refill.draw16 := by
  have hr : l.refill.pos ≠ 64 := by simp [Lane.refill_eq]
  simp only [Lane.draw16, if_pos h, if_neg hr]

/-- A 32-bit draw at position 16 gives up the second quarter and takes the upper half. -/
theorem Lane.draw32_of_pos_eq_16 {l : Lane} (h : l.pos = 16) :
    l.draw32 = (l.word.toNat / 2 ^ 32, { l with pos := 64 }) := by
  have hw := l.word.isLt
  have upper_lt : l.word.toNat / 2 ^ 32 < 2 ^ 32 := by omega
  simpa [Lane.draw32, h, Nat.shiftRight_eq_div_pow] using upper_lt

/-- A 64-bit draw takes the refilled word whole and leaves the buffer empty. -/
theorem Lane.draw64_eq (l : Lane) : l.draw64 = (l.refill.word, { l.refill with pos := 64 }) := rfl

/-! ## The draws from a fresh word -/

/-- From position 0, four 16-bit draws give the word's quarters from the least significant on and empty the buffer. -/
theorem Lane.draw16_quarters (st w : Word) :
    (⟨st, w, 0⟩ : Lane).draw16 = (w.toNat % 2 ^ 16, ⟨st, w, 16⟩) ∧
    (⟨st, w, 16⟩ : Lane).draw16 = (w.toNat / 2 ^ 16 % 2 ^ 16, ⟨st, w, 32⟩) ∧
    (⟨st, w, 32⟩ : Lane).draw16 = (w.toNat / 2 ^ 32 % 2 ^ 16, ⟨st, w, 48⟩) ∧
    (⟨st, w, 48⟩ : Lane).draw16 = (w.toNat / 2 ^ 48 % 2 ^ 16, ⟨st, w, 64⟩) := by
  refine ⟨?_, ?_, ?_, ?_⟩ <;> simp [Lane.draw16_of_pos_ne]

/-- Settles O60: a draw from an empty buffer is one from the refilled buffer, whose four quarters sum to the word. -/
theorem poppyDraws : Obligations.PoppyDraws := by
  refine ⟨fun z => rfl, fun l => ⟨l.refill_eq, l.draw64_eq, fun hempty => ?_⟩⟩
  obtain ⟨first, second, third, fourth⟩ :=
    Lane.draw16_quarters (l.state + 0x9E3779B97F4A7C15#64) (poppyMix (l.state + 0x9E3779B97F4A7C15#64))
  simp only [Lane.draw16_of_pos_eq hempty, Lane.refill_eq, first, second, third, fourth,
    Lane.draw32_of_pos_eq_16, and_true]
  have quarter_lt (n : Nat) : n % 2 ^ 16 < 2 ^ 16 := Nat.mod_lt n (by decide)
  exact ⟨sum_quarters _, quarter_lt _, quarter_lt _, quarter_lt _⟩

end Sys2Proof.Machine
end

section
/-! PROOFS. The device physical address map (R133): what each range decodes to, and from these O58. -/

namespace Sys2Proof.Machine

/-! ## The ranges of R133 -/

theorem spaceOf_of_lt_hbmEnd {a : Nat} (h : a < hbmEnd) : spaceOf a = .hbm (a / hbmSize) := by
  simp only [spaceOf, if_pos h]

theorem spaceOf_of_mem_spad_range {a : Nat} (hlo : spadBase 0 ≤ a) (hhi : a < spadEnd) :
    spaceOf a = .spad ((a - spadBase 0) / spadSize) := by
  simp only [spadBase, Nat.zero_mul, Nat.add_zero] at hlo ⊢
  unfold spaceOf hbmEnd
  rw [if_neg (by omega), if_neg hlo.not_gt, if_pos hhi]

theorem spaceOf_of_mem_walnut_range {a : Nat} (hlo : walnutBase 0 ≤ a) (hhi : a < walnutEnd) :
    spaceOf a = .walnut ((a - walnutBase 0) / walnutSize) := by
  simp only [walnutBase, Nat.zero_mul, Nat.add_zero] at hlo ⊢
  unfold spaceOf hbmEnd spadEnd
  rw [if_neg (by omega), if_neg (by omega), if_neg (by omega), if_neg hlo.not_gt, if_pos hhi]

/-- The three ranges between HBM, the scratchpads, the walnut buffers and the control windows. -/
theorem spaceOf_of_mem_gap {a : Nat}
    (h : hbmEnd ≤ a ∧ a < spadBase 0 ∨ spadEnd ≤ a ∧ a < walnutBase 0 ∨ walnutEnd ≤ a ∧ a < 0x200000000000) :
    spaceOf a = .unmapped := by
  simp only [hbmEnd, spadBase, spadEnd, walnutBase, walnutEnd, Nat.zero_mul, Nat.add_zero] at h
  unfold spaceOf hbmEnd spadEnd walnutEnd
  obtain ⟨hlo, hhi⟩ | ⟨hlo, hhi⟩ | ⟨hlo, hhi⟩ := h
  · rw [if_neg (by omega), if_pos hhi]
  · rw [if_neg (by omega), if_neg (by omega), if_neg (by omega), if_pos hhi]
  · rw [if_neg (by omega), if_neg (by omega), if_neg (by omega), if_neg (by omega), if_neg (by omega), if_pos hhi]

theorem spaceOf_of_mem_control_range {a : Nat} (hlo : 0x200000000000 ≤ a) (hhi : a < 0x1000000000000) :
    spaceOf a = .control := by
  unfold spaceOf hbmEnd spadEnd walnutEnd
  rw [if_neg (by omega), if_neg (by omega), if_neg (by omega), if_neg (by omega), if_neg (by omega),
    if_neg (by omega), if_pos hhi]

/-! ## An address within the bytes of one partition or core -/

/-- In a range cut into windows of one size, a window's base and an offset below the size give back the window's number. -/
theorem mul_add_div_of_lt {size : Nat} (n : Nat) {o : Nat} (ho : o < size) : (n * size + o) / size = n := by
  rw [Nat.mul_comm, Nat.mul_add_div (by omega), Nat.div_eq_of_lt ho, Nat.add_zero]

theorem spaceOf_hbmBase_add {p o : Nat} (hp : p < 16) (ho : o < hbmSize) : spaceOf (hbmBase p + o) = .hbm p := by
  have below_end : hbmBase p + o < hbmEnd := by
    simp only [hbmBase, hbmSize, hbmEnd] at ho ⊢
    omega
  rw [spaceOf_of_lt_hbmEnd below_end, hbmBase, mul_add_div_of_lt p ho]

theorem spaceOf_spadBase_add {n o : Nat} (hn : n < 256) (ho : o < spadSize) : spaceOf (spadBase n + o) = .spad n := by
  have offset : spadBase n + o = spadBase 0 + (n * spadSize + o) := by simp only [spadBase]; omega
  have below_end : spadBase 0 + (n * spadSize + o) < spadEnd := by
    simp only [spadBase, spadSize, spadEnd] at ho ⊢
    omega
  rw [offset, spaceOf_of_mem_spad_range (Nat.le_add_right _ _) below_end, Nat.add_sub_cancel_left, mul_add_div_of_lt n ho]

theorem spaceOf_walnutBase_add {n o : Nat} (hn : n < 256) (ho : o < walnutSize) :
    spaceOf (walnutBase n + o) = .walnut n := by
  have offset : walnutBase n + o = walnutBase 0 + (n * walnutSize + o) := by simp only [walnutBase]; omega
  have below_end : walnutBase 0 + (n * walnutSize + o) < walnutEnd := by
    simp only [walnutBase, walnutSize, walnutEnd] at ho ⊢
    omega
  rw [offset, spaceOf_of_mem_walnut_range (Nat.le_add_right _ _) below_end, Nat.add_sub_cancel_left,
    mul_add_div_of_lt n ho]

/-! ## Who owns a core's memory -/

/-- R15: a core's device number is 16 × partition + local core. -/
theorem Space.part_of_core (p : Nat) {l : Nat} (hl : l < 16) :
    (Space.spad (16 * p + l)).part = some p ∧ (Space.walnut (16 * p + l)).part = some p := by
  have partition : (16 * p + l) / 16 = p := by omega
  simp only [Space.part, partition, and_self]

/-- Settles O58: each window is its base and an offset below its size, and each other range is one branch of the map. -/
theorem addressesDecode : Obligations.AddressesDecode := by
  refine ⟨fun p o hp ho => spaceOf_hbmBase_add hp ho, fun n o hn ho => spaceOf_spadBase_add hn ho,
    fun n o hn ho => spaceOf_walnutBase_add hn ho, fun a ha => spaceOf_of_mem_gap ?_,
    fun a hlo hhi => spaceOf_of_mem_control_range hlo (Nat.lt_succ_of_le hhi), fun p l _ hl => ?_⟩
  · simp only [hbmEnd, spadBase, spadEnd, walnutBase, walnutEnd]
    omega
  · obtain ⟨spad, walnut⟩ := Space.part_of_core p hl
    exact ⟨spad, walnut, rfl⟩

end Sys2Proof.Machine
end

section
/-! PROOFS. Teardown and quiet requests (R196 to R198, R200): what the steps of a teardown leave alone of the context tables,
what the swapper leaves alone of a RETIRED context, how quiet requests are kept and acknowledged, and from these O23. -/

namespace Sys2Proof.Machine

/-! ## What is left alone, as one value -/

/-- The contexts and what is saved of them: no step of a teardown after the saved cores are dropped changes more of them than
its own count of peers. -/
def State.ctxSaves (s : State) : SMap Ctx × SMap (List (Nat × SavedCore)) := (s.ctxs, s.saved)

/-- What sending a packet leaves alone. -/
def State.unsent (s : State) :
    (SMap Ctx × SMap (List (Nat × SavedCore))) × SMap CoreSt × Mem × SMap DmaCh × SMap LoaderSt × TangoSt :=
  (s.ctxSaves, s.cores, s.mem, s.dma, s.loaders, s.tango)

/-- The count of teardowns that reached their deadline, of every partition (R197). -/
def State.lateTeardowns (s : State) : Nat → Word := fun p => s.pRd p 0xBB

/-- What the end of a launch leaves alone. -/
def State.ctxClock (s : State) : SMap Ctx × Nat × (Nat → Word) := (s.ctxs, s.beat, s.lateTeardowns)

/-- What the swapper leaves alone. -/
def State.unswapped (s : State) : SMap CoreSt × (Nat → Word) := (s.cores, s.lateTeardowns)

/-- How the teardown of context `k` stands. -/
def State.ending (s : State) (k : Nat) : CtxState × Bool × Nat := ((s.ctx k).state, (s.ctx k).timedOut, (s.ctx k).since)

theorem State.ctxSaves_eq_iff {s t : State} : t.ctxSaves = s.ctxSaves ↔ t.ctxs = s.ctxs ∧ t.saved = s.saved := by
  simp only [State.ctxSaves, Prod.mk.injEq]

theorem State.unsent_eq_iff {s t : State} : t.unsent = s.unsent ↔ t.ctxSaves = s.ctxSaves ∧ t.cores = s.cores ∧ t.mem = s.mem ∧
    t.dma = s.dma ∧ t.loaders = s.loaders ∧ t.tango = s.tango := by
  simp only [State.unsent, Prod.mk.injEq]

theorem State.ctxClock_eq_iff {s t : State} : t.ctxClock = s.ctxClock ↔
    t.ctxs = s.ctxs ∧ t.beat = s.beat ∧ t.lateTeardowns = s.lateTeardowns := by
  simp only [State.ctxClock, Prod.mk.injEq]

theorem State.unswapped_eq_iff {s t : State} : t.unswapped = s.unswapped ↔
    t.cores = s.cores ∧ t.lateTeardowns = s.lateTeardowns := by
  simp only [State.unswapped, Prod.mk.injEq]

theorem State.ending_eq_iff {s : State} {k : Nat} {st : CtxState} {late : Bool} {b : Nat} : s.ending k = (st, late, b) ↔
    (s.ctx k).state = st ∧ (s.ctx k).timedOut = late ∧ (s.ctx k).since = b := by
  simp only [State.ending, Prod.mk.injEq]

theorem State.ctx_of_ctxs {s t : State} (h : t.ctxs = s.ctxs) (k : Nat) : t.ctx k = s.ctx k := by simp only [State.ctx, h]

theorem State.core_of_cores {s t : State} (h : t.cores = s.cores) (c : Nat) : t.core c = s.core c := by simp only [State.core, h]

/-- A fold whose every step leaves a view of the state alone leaves it alone. -/
theorem foldl_keeps {α β : Type} (v : State → α) {f : State → β → State} (h : ∀ s b, v (f s b) = v s) (l : List β) (s : State) :
    v (l.foldl f s) = v s :=
  List.foldlRecOn (motive := fun t => v t = v s) l f rfl fun t ht b _ => (h t b).trans ht

@[simp] theorem foldl_ctxSaves {β : Type} {f : State → β → State} (h : ∀ s b, (f s b).ctxSaves = s.ctxSaves) (l : List β)
    (s : State) : (l.foldl f s).ctxSaves = s.ctxSaves := foldl_keeps State.ctxSaves h l s

@[simp] theorem foldl_ctxClock {β : Type} {f : State → β → State} (h : ∀ s b, (f s b).ctxClock = s.ctxClock) (l : List β)
    (s : State) : (l.foldl f s).ctxClock = s.ctxClock := foldl_keeps State.ctxClock h l s

/-! ## Sending a packet -/

@[simp] theorem State.count_unsent (s : State) (k n : Nat) : (s.count k n).unsent = s.unsent := by
  obtain ⟨o, h, e⟩ := s.count_frame k n
  rw [e]; rfl

@[simp] theorem State.leaveInput_unsent (s : State) (inp : Nat) (vc : Fin 4) (cls : Fin 2) (units : Nat) :
    (s.leaveInput inp vc cls units).unsent = s.unsent := by
  unfold State.leaveInput
  split <;> rfl

@[simp] theorem State.enqueue_unsent (s : State) (n inp : Nat) (cls : Fin 2) (p : Packet) :
    (s.enqueue n inp cls p).unsent = s.unsent := rfl

@[simp] theorem State.emit_unsent (s : State) (o : Out) : (s.emit o).unsent = s.unsent := rfl

@[simp] theorem State.dropUnreachable_unsent (s : State) : s.dropUnreachable.unsent = s.unsent := s.count_unsent _ _

/-- A check that looks at no granule lets the packet pass. -/
@[simp] theorem State.portShell_nil (s : State) (n : Nat) : s.portShell n [] = (s, true) := rfl

/-- A packet that a router takes is dropped, emitted or queued. -/
@[simp] theorem State.routeFrom_unsent (s : State) (die inp : Nat) (p : Packet) :
    (s.routeFrom die inp p []).unsent = s.unsent := by
  unfold State.routeFrom
  simp only [State.portShell_nil, Bool.true_and, if_true]
  split
  · rfl
  split
  · simp
  split
  · split <;> simp
  split
  · simp
  split
  · simp
  · simp only [apply_ite State.unsent, State.leaveInput_unsent, State.dropUnreachable_unsent, State.enqueue_unsent, ite_self]

@[simp] theorem State.inject_unsent (s : State) (die : Nat) (p : Packet) : (s.inject die p).unsent = s.unsent := by
  unfold State.inject State.injectWith
  split
  · rfl
  split
  · rfl
  · exact State.routeFrom_unsent ..

@[simp] theorem State.inject_ctxSaves (s : State) (die : Nat) (p : Packet) : (s.inject die p).ctxSaves = s.ctxSaves :=
  (State.unsent_eq_iff.1 (s.inject_unsent die p)).1

@[simp] theorem sendQuiet_ctxSaves (job k : Nat) (es : List Nat) (n : Nat) (s : State) :
    (sendQuiet job k es n s).ctxSaves = s.ctxSaves := by
  induction es generalizing n s with
  | nil => rfl
  | cons e es ih => rw [sendQuiet, ih, State.inject_ctxSaves]

/-! ## Step 2 of a teardown: launches and armed slots end (R128, R196) -/

/-- A partition's object is another than the count of late teardowns of any partition, where its subindex is. -/
theorem pKey_ne_lateTeardowns (p q : Nat) {sub : Nat} (hne : sub % 256 ≠ 0xBB) : pKey q 0xBB ≠ pKey p sub := by
  simp only [pKey, objKey]
  omega

@[simp] theorem State.event_ctxClock (s : State) (p k : Nat) : (s.event p k).ctxClock = s.ctxClock := by
  obtain ⟨h, m, o, e⟩ := s.event_frame p k
  rw [e]; rfl

@[simp] theorem State.pCount_lateTeardowns (s : State) (p : Nat) {sub : Nat} (n : Nat) (hne : sub % 256 ≠ 0xBB) :
    (s.pCount p sub n).lateTeardowns = s.lateTeardowns := by
  funext q
  simp only [State.lateTeardowns, State.pRd_eq, State.pCount, State.rd_count, if_neg (pKey_ne_lateTeardowns p q hne)]

theorem State.pCount_ctxClock (s : State) (p : Nat) {sub : Nat} (n : Nat) (hne : sub % 256 ≠ 0xBB) :
    (s.pCount p sub n).ctxClock = s.ctxClock := by
  have tables : (s.pCount p sub n).ctxs = s.ctxs ∧ (s.pCount p sub n).beat = s.beat := by
    obtain ⟨o, h, e⟩ := s.count_frame (pKey p sub) n
    simp only [State.pCount, e, and_self]
  simp only [State.ctxClock, tables, s.pCount_lateTeardowns p n hne]

theorem State.wr_ctxClock (s : State) (p : Nat) {sub : Nat} (v : Word) (hne : sub % 256 ≠ 0xBB) :
    (s.wr (pKey p sub) v).ctxClock = s.ctxClock := by
  have counts : (s.wr (pKey p sub) v).lateTeardowns = s.lateTeardowns := by
    funext q
    simp only [State.lateTeardowns, State.pRd_eq, State.rd_wr, if_neg (pKey_ne_lateTeardowns p q hne)]
  simp only [State.ctxClock, counts, State.wr_ctxs, State.wr_beat]

/-- A record writes memory, counts and raises events. -/
@[simp] theorem State.writeRecord_ctxClock (s : State) (p n handle : Nat) (e : LaunchEnd) (flags start : Nat)
    (cycles : Nat → Nat) (overrun deadline : Nat) :
    (s.writeRecord p n handle e flags start cycles overrun deadline).ctxClock = s.ctxClock := by
  have written (t : State) (a : Nat) (bs : List Byte) : (t.writeBytes a bs).ctxClock = t.ctxClock := rfl
  unfold State.writeRecord
  simp (disch := decide) only [apply_ite State.ctxClock, State.event_ctxClock, State.partFault, State.pCount_ctxClock,
    State.wrN_eq, State.wr_ctxClock, written, ite_self]

@[simp] theorem State.settleProg_ctxClock (s : State) (p h : Nat) : (s.settleProg p h).ctxClock = s.ctxClock := by
  unfold State.settleProg
  simp only
  split <;> rfl

@[simp] theorem State.modCore_ctxClock (s : State) (c : Nat) (f : CoreSt → CoreSt) : (s.modCore c f).ctxClock = s.ctxClock := rfl

@[simp] theorem State.setSlot_ctxClock (s : State) (p n : Nat) (x : LSlot) : (s.setSlot p n x).ctxClock = s.ctxClock := rfl

@[simp] theorem State.freeMem_ctxClock (s : State) (a n : Nat) : (s.freeMem a n).ctxClock = s.ctxClock := rfl

@[simp] theorem State.slotEnd_ctxClock (s : State) (p n handle code : Nat) :
    (s.slotEnd p n handle code).ctxClock = s.ctxClock := by
  rw [State.slotEnd, State.setSlot_ctxClock, State.writeRecord_ctxClock]

@[simp] theorem State.finishLaunch_ctxClock (s : State) (k : Nat) (l : Launch) (e : LaunchEnd) :
    (s.finishLaunch k l e).ctxClock = s.ctxClock := by
  have dropped (t : State) (ls : SMap Launch) (sv : SMap (List (Nat × SavedCore))) :
      ({ t with launches := ls, saved := sv } : State).ctxClock = t.ctxClock := rfl
  unfold State.finishLaunch
  simp only [State.settleProg_ctxClock, State.setSlot_ctxClock, dropped]
  rw [foldl_ctxClock fun t c => t.modCore_ctxClock c _, State.writeRecord_ctxClock]

@[simp] theorem State.tryFinish_ctxClock (s : State) (k : Nat) : (s.tryFinish k).ctxClock = s.ctxClock := by
  unfold State.tryFinish
  split
  · rfl
  split
  · rfl
  split
  · split <;> simp
  · split <;> simp

@[simp] theorem State.endLaunch_ctxClock (s : State) (k : Nat) (e : LaunchEnd) : (s.endLaunch k e).ctxClock = s.ctxClock := by
  unfold State.endLaunch
  split
  · rfl
  · split <;> rfl

@[simp] theorem State.leaveTile_ctxClock (s : State) (c : Nat) : (s.leaveTile c).ctxClock = s.ctxClock := by
  unfold State.leaveTile
  simp only [State.modCore_ctxClock]
  split
  next k _ =>
    obtain ⟨ls, first⟩ := returnReserved_frame c k (s.core c).run.resIn true s
    obtain ⟨ls', second⟩ := returnReserved_frame c k (s.core c).run.resOut false (returnReserved c k (s.core c).run.resIn true s)
    rw [second, first]; rfl
  · rfl

/-! ## Steps 3 and 4: transfers, loads and collectives end (R172, R267, R296) -/

@[simp] theorem State.setChan_ctxSaves (s : State) (k : Nat) (x : DmaCh) : (s.setChan k x).ctxSaves = s.ctxSaves := rfl
@[simp] theorem State.dmaTear_ctxSaves (s : State) (k : Nat) : (s.dmaTear k).ctxSaves = s.ctxSaves := rfl
@[simp] theorem State.modSlot_ctxSaves (s : State) (p r i : Nat) (f : VSlot → VSlot) :
    (s.modSlot p r i f).ctxSaves = s.ctxSaves := rfl
@[simp] theorem State.unbindSlot_ctxSaves (s : State) (p r i : Nat) : (s.unbindSlot p r i).ctxSaves = s.ctxSaves := rfl
@[simp] theorem State.setLoader_ctxSaves (s : State) (p : Nat) (x : LoaderSt) : (s.setLoader p x).ctxSaves = s.ctxSaves := rfl
@[simp] theorem State.modLoader_ctxSaves (s : State) (p : Nat) (f : LoaderSt → LoaderSt) :
    (s.modLoader p f).ctxSaves = s.ctxSaves := rfl
@[simp] theorem State.modShard_ctxSaves (s : State) (p i : Nat) (f : Shard → Shard) :
    (s.modShard p i f).ctxSaves = s.ctxSaves := rfl
@[simp] theorem State.modCs_ctxSaves (s : State) (j : Nat) (f : CollSlot → CollSlot) : (s.modCs j f).ctxSaves = s.ctxSaves := rfl
@[simp] theorem State.setCtx_ctxSaves (s : State) (j : Nat) (c : CollCtx) : (s.setCtx j c).ctxSaves = s.ctxSaves := rfl
@[simp] theorem State.setReel_ctxSaves (s : State) (j : Nat) (r : ReelSt) : (s.setReel j r).ctxSaves = s.ctxSaves := rfl
@[simp] theorem State.count_ctxSaves (s : State) (k n : Nat) : (s.count k n).ctxSaves = s.ctxSaves :=
  (State.unsent_eq_iff.1 (s.count_unsent k n)).1
@[simp] theorem State.collDrop_ctxSaves (s : State) : s.collDrop.ctxSaves = s.ctxSaves := s.count_ctxSaves _ _

@[simp] theorem State.dmaRetire_ctxSaves (s : State) (members : List Nat) (ctx : Nat) :
    (s.dmaRetire members ctx).ctxSaves = s.ctxSaves := by
  refine foldl_ctxSaves (fun s p => foldl_ctxSaves (fun s c => ?_) _ s) members s
  simp only
  split <;> split <;> simp

@[simp] theorem freeHeld_ctxSaves (p : Nat) (held : List (Nat × Nat)) (s : State) : (freeHeld p held s).ctxSaves = s.ctxSaves := by
  induction held generalizing s with
  | nil => rfl
  | cons h held ih => rw [freeHeld, ih, State.modSlot_ctxSaves]

@[simp] theorem holdFree_ctxSaves (p : Nat) (rs : List Nat) (s : State) : (holdFree p rs s).ctxSaves = s.ctxSaves := by
  induction rs generalizing s with
  | nil => rfl
  | cons r rs ih =>
    rw [holdFree, ih]
    split
    · rfl
    · split <;> rfl

@[simp] theorem State.sendFetch_ctxSaves (s : State) (p i : Nat) : (s.sendFetch p i).ctxSaves = s.ctxSaves := by
  unfold State.sendFetch
  simp only
  split
  · rfl
  split
  · rfl
  · simp

@[simp] theorem State.enterLoading_ctxSaves (s : State) (p : Nat) : (s.enterLoading p).ctxSaves = s.ctxSaves := by
  refine (foldl_ctxSaves (fun s i => ?_) _ _).trans (State.modLoader_ctxSaves ..)
  split
  · split <;> simp
  · rfl

@[simp] theorem State.pollLoader_ctxSaves (s : State) (p : Nat) : (s.pollLoader p).ctxSaves = s.ctxSaves := by
  unfold State.pollLoader
  split
  · rfl
  · simp only
    split <;> simp

@[simp] theorem State.cancelLoad_ctxSaves (s : State) (p : Nat) : (s.cancelLoad p).ctxSaves = s.ctxSaves := by
  unfold State.cancelLoad
  simp only
  split <;> simp

@[simp] theorem State.loaderTeardown_ctxSaves (s : State) (p k : Nat) : (s.loaderTeardown p k).ctxSaves = s.ctxSaves := by
  unfold State.loaderTeardown
  extract_lets cancelled t
  have kept : t.ctxSaves = s.ctxSaves := by
    simp only [t, cancelled, State.modLoader_ctxSaves]
    split <;> simp
  split
  · split <;> simp [kept]
  · exact kept

@[simp] theorem State.collInject_ctxSaves (s : State) (j : Nat) (p : Packet) : (s.collInject j p).ctxSaves = s.ctxSaves :=
  s.inject_ctxSaves _ p

@[simp] theorem State.consume_ctxSaves (s : State) (j k entry n : Nat) (b : Tag × BitVec 16) (last : Bool) :
    (s.consume j k entry n b last).ctxSaves = s.ctxSaves := by
  unfold State.consume
  simp only
  split <;> simp

@[simp] theorem State.consumeOn_ctxSaves (s : State) (j stream n : Nat) (b : Tag × BitVec 16) (last : Bool) :
    (s.consumeOn j stream n b last).ctxSaves = s.ctxSaves := s.consume_ctxSaves ..

@[simp] theorem State.consumePkt_ctxSaves (s : State) (j : Nat) (p : Packet) : (s.consumePkt j p).ctxSaves = s.ctxSaves :=
  s.consumeOn_ctxSaves ..

@[simp] theorem consumeHeld_ctxSaves (j : Nat) (c : CollCtx) (s : State) : (consumeHeld j c s).ctxSaves = s.ctxSaves := by
  unfold consumeHeld
  simp only [foldl_ctxSaves, State.consumePkt_ctxSaves, State.consumeOn_ctxSaves, implies_true]
  refine foldl_ctxSaves (fun s l => ?_) _ s
  split <;> simp

@[simp] theorem State.endCtx_ctxSaves (s : State) (j : Nat) (c : CollCtx) (purge : Bool) :
    (s.endCtx j c purge).ctxSaves = s.ctxSaves := by
  simp only [State.endCtx, State.modCs_ctxSaves, consumeHeld_ctxSaves]

@[simp] theorem consumeReel_ctxSaves (j : Nat) (r : ReelSt) (s : State) : (consumeReel j r s).ctxSaves = s.ctxSaves :=
  foldl_ctxSaves (fun s _ => s.consumeOn_ctxSaves ..) _ s

@[simp] theorem State.collTorn_ctxSaves (s : State) (j : Nat) (r : CollRecord) : (s.collTorn j r).ctxSaves = s.ctxSaves := by
  unfold State.collTorn State.collEnded
  simp only [State.modCs_ctxSaves]
  split <;> rfl

@[simp] theorem detachCtx_ctxSaves (j : Nat) (torn : Bool) (c : CollCtx) (s : State) :
    (detachCtx j torn c s).ctxSaves = s.ctxSaves := by
  unfold detachCtx
  split
  · rfl
  extract_lets ended drained
  have ended_kept : ended.ctxSaves = s.ctxSaves := by
    simp only [ended]
    split
    · split <;> simp
    · rfl
  have kept : drained.ctxSaves = s.ctxSaves := by simp [drained, ended_kept]
  split <;> simp [kept]

@[simp] theorem detachReel_ctxSaves (j : Nat) (torn : Bool) (r : ReelSt) (s : State) :
    (detachReel j torn r s).ctxSaves = s.ctxSaves := by
  unfold detachReel
  split
  · rfl
  simp only [State.setReel_ctxSaves, consumeReel_ctxSaves, foldl_ctxSaves, State.collDrop_ctxSaves, implies_true]
  split <;> simp

@[simp] theorem State.detachSlot_ctxSaves (s : State) (j : Nat) (torn : Bool) : (s.detachSlot j torn).ctxSaves = s.ctxSaves := by
  unfold State.detachSlot
  simp only [State.modCs_ctxSaves]
  split <;> simp

@[simp] theorem State.detachColl_ctxSaves (s : State) (lead : Nat) (torn : Bool) (only : Nat → Bool) :
    (s.detachColl lead torn only).ctxSaves = s.ctxSaves := by
  refine foldl_ctxSaves (fun s j => ?_) _ s
  split <;> simp

/-! ## A teardown begins (R196) -/

/-- The entry of a context whose teardown has begun and waits for `peers` peers. -/
def State.tornCtx (s : State) (k peers : Nat) : Ctx :=
  { s.ctx k with
    state := .teardown, onCores := (s.ctx k).state == .resident, evictReq := false, sliceStart := none, expired := none,
    blockedSince := 0, runnableSince := 0, since := s.beatIx, quietPending := peers }

theorem State.memberEntries_unused (s : State) (lead : Nat) : s.memberEntries lead 0xFFF = [] := if_pos rfl

/-- The teardown of a live context: its entry counts the peers that are to be quiet, none where it has no job, and nothing
saved of it is left. -/
theorem State.teardown_spec (s : State) (k : Nat)
    (live : ¬((s.ctx k).state = .free ∨ (s.ctx k).state = .teardown ∨ (s.ctx k).state = .retired)) :
    ∃ peers : List Nat, ((s.ctx k).jobId = 0xFFF → peers = []) ∧
      (s.teardown k).ctx k = s.tornCtx k peers.length ∧ mget [] (s.teardown k).saved k = [] := by
  unfold State.teardown
  extract_lets x p begun ended disarmed freed stopped dropped quiesced unloaded detached peers counted
  rw [if_neg live]
  have early : stopped.ctxClock = begun.ctxClock := by
    have freed_kept : freed.ctxClock = begun.ctxClock := by
      simp only [freed]
      split <;> simp [disarmed, ended]
    simp only [stopped]
    split
    · exact (foldl_ctxClock (fun t c => t.modCore_ctxClock c _) _ freed).trans freed_kept
    · exact freed_kept
  have late : detached.ctxSaves = dropped.ctxSaves := by
    have unloaded_kept : unloaded.ctxSaves = dropped.ctxSaves := by simp [unloaded, quiesced]
    simp only [detached]
    split <;> simp [unloaded_kept]
  obtain ⟨early_ctxs, -, -⟩ := State.ctxClock_eq_iff.1 early
  obtain ⟨late_ctxs, late_saved⟩ := State.ctxSaves_eq_iff.1 late
  obtain ⟨sent_ctxs, sent_saved⟩ := State.ctxSaves_eq_iff.1 (sendQuiet_ctxSaves x.jobId k peers 0 counted)
  have entry : detached.ctx k = s.tornCtx k x.quietPending := by
    rw [State.ctx_of_ctxs (late_ctxs.trans early_ctxs), State.ctx_setCtxE, if_pos rfl]
    rfl
  refine ⟨peers, fun no_job => ?_, ?_, ?_⟩
  · simp only [peers, x, no_job, State.memberEntries_unused]
  · rw [State.ctx_of_ctxs sent_ctxs]
    simp only [counted, State.modCtxE, State.ctx_setCtxE, if_true, entry]
    rfl
  · have saved : counted.saved = mset [] stopped.saved k [] := late_saved
    rw [sent_saved, saved, mget_mset, if_pos rfl]

/-! ## The swapper leaves a RETIRED context alone (R183) -/

/-- What is picked by the least key is one of those it is picked from. -/
theorem leastBy_mem {f : Nat → Nat × Nat} {l : List Nat} {k : Nat} (h : leastBy f l = some k) : k ∈ l := by
  induction l generalizing k with
  | nil => simp [leastBy] at h
  | cons a l ih =>
    simp only [leastBy] at h
    split at h
    · simp_all
    next b picked =>
      split at h
      · simp_all
      · exact List.mem_cons_of_mem _ (ih (picked.trans h))

@[simp] theorem State.setCtxE_unswapped (s : State) (k : Nat) (x : Ctx) : (s.setCtxE k x).unswapped = s.unswapped := rfl

@[simp] theorem State.noteCtxs_unswapped (s : State) (p : Nat) : (s.noteCtxs p).unswapped = s.unswapped := by
  refine foldl_keeps State.unswapped (fun s k => ?_) _ s
  unfold State.noteCtx
  simp only
  split <;> simp

theorem State.tryEvict_unswapped (s : State) (k : Nat) : (s.tryEvict k).unswapped = s.unswapped := by
  unfold State.tryEvict
  simp only
  split <;> simp

theorem State.pCount_unswapped (s : State) (p : Nat) {sub : Nat} (n : Nat) (hne : sub % 256 ≠ 0xBB) :
    (s.pCount p sub n).unswapped = s.unswapped := by
  obtain ⟨-, cores, -⟩ := State.unsent_eq_iff.1 (s.count_unsent (pKey p sub) n)
  exact State.unswapped_eq_iff.2 ⟨cores, s.pCount_lateTeardowns p n hne⟩

@[simp] theorem State.requestEvict_unswapped (s : State) (k : Nat) (counts : Bool) :
    (s.requestEvict k counts).unswapped = s.unswapped := by
  unfold State.requestEvict
  simp only
  split
  · rw [State.tryEvict_unswapped]
    split
    · exact (State.pCount_unswapped _ _ 1 (by decide)).trans (s.setCtxE_unswapped k _)
    · exact s.setCtxE_unswapped k _
  · rfl

theorem State.swap_unswapped (s : State) (p : Nat) : (s.swap p).unswapped = s.unswapped := by
  unfold State.swap
  extract_lets noted run top
  have noted_kept : noted.unswapped = s.unswapped := s.noteCtxs_unswapped p
  split
  · exact noted_kept
  split
  · exact noted_kept
  split
  · exact (noted.setCtxE_unswapped _ _).trans noted_kept
  split
  · exact noted_kept
  · rw [foldl_keeps State.unswapped (fun t (e : Nat × Bool) => t.requestEvict_unswapped e.1 e.2), noted_kept]

/-- Keeping the times of contexts leaves their states alone. -/
@[simp] theorem State.noteCtxs_ending (s : State) (p k : Nat) : (s.noteCtxs p).ending k = s.ending k := by
  refine foldl_keeps (State.ending · k) (fun s j => ?_) _ s
  unfold State.noteCtx
  simp only
  split
  · rfl
  · by_cases h : k = j
    · subst h; simp [State.ending]
    · simp [State.ending, h]

theorem State.setCtxE_ending_ne (s : State) {j k : Nat} (h : k ≠ j) (x : Ctx) : (s.setCtxE j x).ending k = s.ending k := by
  simp only [State.ending, State.ctx_setCtxE, if_neg h]

/-- Only a RESIDENT context is evicted on request. -/
theorem State.requestEvict_ending (s : State) (j : Nat) (counts : Bool) {k : Nat} (h : (s.ctx k).state = .retired) :
    (s.requestEvict j counts).ending k = s.ending k := by
  unfold State.requestEvict
  extract_lets x asked counted
  split
  next resident =>
    have other : k ≠ j := by rintro rfl; simp [x, h] at resident
    have counted_kept : counted.ending k = s.ending k := by
      have asked_kept : asked.ending k = s.ending k := s.setCtxE_ending_ne other _
      simp only [counted]
      split
      · rw [← asked_kept]
        obtain ⟨tables, -⟩ := State.ctxSaves_eq_iff.1 (asked.count_ctxSaves (pKey (j / 16) 0xB5) 1)
        simp only [State.ending, State.pCount, State.ctx_of_ctxs tables]
      · exact asked_kept
    unfold State.tryEvict
    simp only
    split
    · rw [State.setCtxE_ending_ne _ other, counted_kept]
    · exact counted_kept
  · rfl

/-- A context that the swapper brings in was SWAPPED, and those it evicts were RESIDENT. -/
theorem State.swap_ending (s : State) (p : Nat) {k : Nat} (h : (s.ctx k).state = .retired) :
    (s.swap p).ending k = s.ending k := by
  unfold State.swap
  extract_lets noted run top
  have noted_kept : noted.ending k = s.ending k := s.noteCtxs_ending p k
  have retired (t : State) (kept : t.ending k = s.ending k) : (t.ctx k).state = .retired := by
    obtain ⟨state, -, -⟩ := State.ending_eq_iff.1 kept
    rw [state, h]
  split
  · exact noted_kept
  next j picked =>
    have runnable : noted.ctxRunnable j = true := by
      have mem := List.mem_of_mem_filter (leastBy_mem picked)
      exact (List.mem_filter.1 mem).2
    have other : k ≠ j := by
      rintro rfl
      simp [State.ctxRunnable, retired noted noted_kept] at runnable
    split
    · exact noted_kept
    split
    · rw [State.modCtxE, State.setCtxE_ending_ne _ other, noted_kept]
    split
    · exact noted_kept
    · exact List.foldlRecOn (motive := fun t : State => t.ending k = s.ending k) _ _ noted_kept fun t kept e _ =>
        (t.requestEvict_ending e.1 e.2 (retired t kept)).trans kept

/-! ## A teardown ends (R197) -/

/-- Clearing a core twice clears it. -/
theorem CoreSt.cleared_cleared (x : CoreSt) : x.cleared.cleared = x.cleared := rfl

/-- The cores of a list cleared, memory aside. -/
theorem core_foldl_cleared {f : State → Nat → State}
    (hf : ∀ s c j, (f s c).core j = if j = c then (s.core c).cleared else s.core j)
    (l : List Nat) (s : State) (j : Nat) : (l.foldl f s).core j = if j ∈ l then (s.core j).cleared else s.core j := by
  induction l generalizing s with
  | nil => simp
  | cons c l ih =>
    rw [List.foldl_cons, ih, hf]
    by_cases here : j = c
    · subst here
      simp [CoreSt.cleared_cleared]
    · simp [here]

/-- The entry, the cores and the count of late teardowns at the end of a teardown. -/
theorem State.endTeardown_spec (s : State) (k : Nat) (timedOut : Bool) :
    (s.endTeardown k timedOut).ending k = (.retired, timedOut, s.beatIx) ∧
    (∀ c, (s.endTeardown k timedOut).core c = if c ∈ s.freeCoresOf k then (s.core c).cleared else s.core c) ∧
    (timedOut = true → ((s.endTeardown k timedOut).pRd (k / 16) 0xBB).toNat =
      min ((s.pRd (k / 16) 0xBB).toNat + 1) (2 ^ 32 - 1)) := by
  unfold State.endTeardown
  extract_lets x cleared y retired
  have clock : cleared.ctxClock = s.ctxClock := by
    refine foldl_ctxClock (fun t c => ?_) _ s
    rfl
  obtain ⟨-, beat_kept, late_kept⟩ := State.ctxClock_eq_iff.1 clock
  have cores (c : Nat) : cleared.core c = if c ∈ s.freeCoresOf k then (s.core c).cleared else s.core c := by
    refine core_foldl_cleared (fun t d j => ?_) _ s c
    exact State.core_modCore _ d j _
  have beat : cleared.beatIx = s.beatIx := by rw [State.beatIx, beat_kept, State.beatIx]
  have late : cleared.pRd (k / 16) 0xBB = s.pRd (k / 16) 0xBB := congrFun late_kept (k / 16)
  have entry : retired.ending k = (.retired, timedOut, s.beatIx) := by
    simp only [retired, State.ending, State.ctx_setCtxE, if_true, beat]
  cases timedOut with
  | false => exact ⟨entry, cores, fun h => absurd h (by decide)⟩
  | true =>
    obtain ⟨h, counted⟩ : ∃ h, retired.count32Sat (pKey (k / 16) 0xBB) 1 =
        State.wr { retired with health := h } (pKey (k / 16) 0xBB)
          (BitVec.ofNat 64 (min ((s.pRd (k / 16) 0xBB).toNat + 1) (2 ^ 32 - 1))) := by
      rw [← late]
      unfold State.count32Sat State.countSat State.shadowOf
      split <;> exact ⟨_, rfl⟩
    rw [if_pos rfl, counted]
    refine ⟨entry, cores, fun _ => ?_⟩
    rw [State.pRd_eq, State.rd_wr, if_pos rfl, BitVec.toNat_ofNat, Nat.mod_eq_of_lt]
    omega

/-- A teardown that ends, and what the swapper leaves of it. -/
theorem State.endTeardown_swap_spec (s : State) (p k : Nat) (timedOut : Bool) :
    let t := (s.endTeardown k timedOut).swap p
    t.ending k = (.retired, timedOut, s.beatIx) ∧
    (∀ c, t.core c = if c ∈ s.freeCoresOf k then (s.core c).cleared else s.core c) ∧
    (timedOut = true → (t.pRd (k / 16) 0xBB).toNat = min ((s.pRd (k / 16) 0xBB).toNat + 1) (2 ^ 32 - 1)) := by
  obtain ⟨entry, cores, late⟩ := s.endTeardown_spec k timedOut
  obtain ⟨cores_kept, late_kept⟩ := State.unswapped_eq_iff.1 ((s.endTeardown k timedOut).swap_unswapped p)
  obtain ⟨retired, -, -⟩ := State.ending_eq_iff.1 entry
  refine ⟨((s.endTeardown k timedOut).swap_ending p retired).trans entry, fun c => ?_, fun h => ?_⟩
  · rw [State.core_of_cores cores_kept, cores]
  · have kept : ((s.endTeardown k timedOut).swap p).pRd (k / 16) 0xBB = (s.endTeardown k timedOut).pRd (k / 16) 0xBB :=
      congrFun late_kept (k / 16)
    rw [kept, late h]

/-- Launches stop at their tiles and end with their records. -/
def State.stopLaunches (s : State) (ks : List Nat) : State :=
  ks.foldl (fun s k => ((s.launchCores k).foldl State.leaveTile s).tryFinish k) s

theorem State.stopLaunches_ctxClock (s : State) (ks : List Nat) : (s.stopLaunches ks).ctxClock = s.ctxClock :=
  foldl_ctxClock (fun t _ => (State.tryFinish_ctxClock ..).trans (foldl_ctxClock State.leaveTile_ctxClock _ t)) ks s

/-! ## RETIRE_HOLD (R198, R200) -/

/-- A refused write changes the refusals of the path's function only (R363). -/
theorem State.applyW_error_frame (s : State) (via : Via) (bar : Fin 4) (off : Nat) (e : WStatus) :
    ∃ h, s.applyW via bar off (.error e) = { s with host := h } := by
  cases via <;> exact ⟨_, rfl⟩

theorem State.objWrite_error_frame (s : State) (via : Via) (index sub : Nat) (e : WStatus) :
    ∃ h, s.objWrite via index sub (.error e) = { s with host := h } := by
  unfold State.objWrite
  split
  · exact ⟨s.host, rfl⟩
  split
  · exact ⟨s.host, rfl⟩
  split
  · exact s.applyW_error_frame ..
  split <;> exact s.applyW_error_frame ..

/-- RETIRE_HOLD takes 1 to 1,000,000 and saves it. -/
theorem retireHoldW_eq (s : State) (via : Via) {v : Word} (h : v.toNat < 2 ^ 32) :
    objSizedW s via 0x2300 0x10 4 v =
      if v.toNat < 1 ∨ 1000000 < v.toNat then .error .range else .ok (s.saveObj (objKey 0x2300 0x10) v) := by
  have spec : objSpec 0x2300 0x10 = some ⟨"RETIRE_HOLD", 0x10, 1, 4, .num, .rws, 0xFFFFFFFF, 1, 1000000, 0x2626⟩ := rfl
  have masked : v &&& BitVec.ofNat 64 0xFFFFFFFF = v := by
    apply BitVec.eq_of_toNat_eq
    rw [BitVec.toNat_and, show (BitVec.ofNat 64 0xFFFFFFFF).toNat = 2 ^ 32 - 1 from rfl, Nat.and_two_pow_sub_one_eq_mod,
      Nat.mod_eq_of_lt h]
  have fits : sizeFits 4 4 v = true := by
    rw [sizeFits, sizeTop, if_neg (by decide)]
    simpa using h
  simp only [objSizedW, spec, fits, objW, masked]
  rfl
/-! ## Quiet requests (R196 step 6) -/

/-- Whether a peer write is unacknowledged does not depend on what sending a packet changes, where no restore runs. -/
theorem State.peerOwes_of_unsent {s t : State} (h : t.unsent = s.unsent) (idle : s.tango.restore = none) (a : FabAddr)
    (job ctx : Nat) : t.peerOwes a job ctx = s.peerOwes a job ctx := by
  obtain ⟨-, -, -, dma, loaders, tango⟩ := State.unsent_eq_iff.1 h
  simp only [State.peerOwes, dma, loaders, tango, idle]

@[simp] theorem ackQuiet_unsent (qs : List Quiet) (s : State) (done : List Quiet) : (ackQuiet qs s done).unsent = s.unsent := by
  induction qs generalizing s done with
  | nil => rfl
  | cons q qs ih =>
    unfold ackQuiet
    split
    · rw [ih, State.inject_unsent]
    · exact ih s _

/-- Requests that have been looked at stay. -/
theorem mem_ackQuiet_of_mem_done {q : Quiet} (qs : List Quiet) (s : State) {done : List Quiet} (h : q ∈ done) :
    q ∈ (ackQuiet qs s done).quiet := by
  induction qs generalizing s done with
  | nil => exact h
  | cons r qs ih =>
    unfold ackQuiet
    split
    · exact ih _ (List.mem_append_left _ h)
    · exact ih _ (List.mem_append_left _ h)

/-- A request that is owed an acknowledgement stays, and goes on being owed it just as long as a write is unacknowledged. -/
theorem ackQuiet_keeps_owed {row : Quiet} {qs : List Quiet} (s : State) (done : List Quiet) (mem : row ∈ qs)
    (owed : row.owed = true) :
    ∃ b, { row with owed := b } ∈ (ackQuiet qs s done).quiet ∧
      (s.tango.restore = none → b = s.peerOwes row.addr row.job row.ctx) := by
  induction qs generalizing s done with
  | nil => cases mem
  | cons q qs ih =>
    have looked {r : Quiet} (t : State) : r ∈ (ackQuiet qs t (done ++ [r])).quiet := mem_ackQuiet_of_mem_done qs t (by simp)
    unfold ackQuiet
    obtain rfl | later := List.mem_cons.1 mem
    · cases owes : s.peerOwes row.addr row.job row.ctx with
      | false => exact ⟨false, by simpa [owed] using looked _, fun _ => rfl⟩
      | true =>
        have same : { row with owed := true } = row := by rw [← owed]
        exact ⟨true, by simpa [same] using looked s, fun _ => rfl⟩
    · split
      · obtain ⟨b, kept, means⟩ := ih (s.inject 0 (ackPacket 7 q.pkt false)) (done ++ [{ q with owed := false }]) later
        refine ⟨b, kept, fun idle => ?_⟩
        have sent := s.inject_unsent 0 (ackPacket 7 q.pkt false)
        obtain ⟨-, -, -, -, -, tango⟩ := State.unsent_eq_iff.1 sent
        rw [means (tango ▸ idle), State.peerOwes_of_unsent sent idle]
      · exact ih s _ later

/-- A peer's request is kept, and owed an acknowledgement just as long as a write is unacknowledged. -/
theorem exec_quietReq_spec (pkt : Packet) (s : State) (running : s.superseded = false) :
    ∃ t, exec (.quietReq pkt) s = .next t ∧
      (∃ q ∈ t.quiet, q.addr = pkt.src ∧ q.job = pkt.jobId.toNat ∧ q.ctx = pkt.ctxId.toNat ∧
        (s.tango.restore = none → q.owed = s.peerOwes pkt.src pkt.jobId.toNat pkt.ctxId.toNat)) ∧
      t.cores = s.cores ∧ t.mem = s.mem ∧ t.dma = s.dma := by
  refine ⟨(quietReqEff pkt s).withQueue s, rfl, ?_⟩
  unfold quietReqEff
  rw [if_neg (by simp [running])]
  extract_lets row rest
  obtain ⟨b, kept, means⟩ := ackQuiet_keeps_owed { s with quiet := rest ++ [row] } [] (by simp : row ∈ rest ++ [row]) rfl
  obtain ⟨-, cores, mem, dma, -, -⟩ := State.unsent_eq_iff.1 (ackQuiet_unsent (rest ++ [row]) { s with quiet := rest ++ [row] } [])
  exact ⟨⟨{ row with owed := b }, kept, rfl, rfl, rfl, means⟩, cores, mem, dma⟩

/-- An acknowledgement of a context in teardown with its job, from a sender without an epoch entry, lowers the count. -/
theorem exec_quietAck_spec (pkt : Packet) (s : State) (running : s.superseded = false) (fresh : s.epochOf pkt.src = none)
    (torn : (s.ctx pkt.ctxId.toNat).state = .teardown) (job : (s.ctx pkt.ctxId.toNat).jobId = pkt.jobId.toNat) :
    exec (.quietAck pkt) s = .next (s.setCtxE pkt.ctxId.toNat
      { s.ctx pkt.ctxId.toNat with quietPending := (s.ctx pkt.ctxId.toNat).quietPending - 1 }) := by
  have taken : quietAckEff pkt s = s.setCtxE pkt.ctxId.toNat
      { s.ctx pkt.ctxId.toNat with quietPending := (s.ctx pkt.ctxId.toNat).quietPending - 1 } := by
    simp only [quietAckEff, fresh]
    exact if_neg (by simp [running, torn, job])
  exact congrArg s.outcome taken

/-- Any other acknowledgement is dropped. -/
theorem exec_quietAck_dropped (pkt : Packet) (s : State)
    (h : (s.ctx pkt.ctxId.toNat).state ≠ .teardown ∨ (s.ctx pkt.ctxId.toNat).jobId ≠ pkt.jobId.toNat) :
    exec (.quietAck pkt) s = .next s := by
  have dropped : quietAckEff pkt s = s := if_pos (.inr (.inr h))
  exact congrArg s.outcome dropped

/-! ## The commands of a teardown -/

/-- R196: a teardown of a live context begins at once. -/
theorem exec_contextTeardown_spec (via : Via) (p : Part) (i : Fin 16) (s : State) (reached : s.reachesBlock via p = true)
    (live : ¬((s.ctx (16 * p.val + i.val)).state = .free ∨ (s.ctx (16 * p.val + i.val)).state = .teardown ∨
      (s.ctx (16 * p.val + i.val)).state = .retired)) :
    ∃ t, exec (.contextTeardown via p i) s = .next t ∧ (t.ctx (16 * p.val + i.val)).state = .teardown ∧
      (t.ctx (16 * p.val + i.val)).since = s.beatIx ∧
      ((s.ctx (16 * p.val + i.val)).jobId = 0xFFF → (t.ctx (16 * p.val + i.val)).quietPending = 0) ∧
      mget [] t.saved (16 * p.val + i.val) = [] := by
  have begins : contextTeardownEff via p i s = s.teardown (16 * p.val + i.val) := s.blockWrite_ok reached _ _
  obtain ⟨peers, no_job, entry, saved⟩ := s.teardown_spec (16 * p.val + i.val) live
  refine ⟨_, congrArg s.outcome begins, ?_⟩
  simp only [State.withQueue_ctx, State.withQueue_saved, entry]
  exact ⟨rfl, rfl, fun h => by rw [no_job h]; rfl, saved⟩

@[simp] theorem State.withQueue_ending (t s : State) (k : Nat) : (t.withQueue s).ending k = t.ending k := rfl

@[simp] theorem State.withQueue_pRd (t s : State) (p sub : Nat) : (t.withQueue s).pRd p sub = t.pRd p sub := rfl

/-- R197: a teardown ends when nothing of its context runs or is owed. -/
theorem exec_teardownComplete_spec (p : Part) (i : Fin 16) (s : State) (torn : (s.ctx (16 * p.val + i.val)).state = .teardown)
    (stopped : (s.ctxLaunches (16 * p.val + i.val)).isEmpty = true)
    (moved : s.dmaQuiet (s.members p) (16 * p.val + i.val) = true) (quiet : (s.ctx (16 * p.val + i.val)).quietPending = 0) :
    ∃ t, exec (.teardownComplete p i) s = .next t ∧ t.ending (16 * p.val + i.val) = (.retired, false, s.beatIx) ∧
      ∀ c, t.core c = if c ∈ s.freeCoresOf (16 * p.val + i.val) then (s.core c).cleared else s.core c := by
  have ends : teardownCompleteEff p i s = (s.endTeardown (16 * p.val + i.val) false).swap p :=
    if_pos ⟨torn, stopped, moved, quiet⟩
  obtain ⟨entry, cores, -⟩ := s.endTeardown_swap_spec p (16 * p.val + i.val) false
  refine ⟨_, congrArg s.outcome ends, ?_, fun c => ?_⟩
  · rw [State.withQueue_ending, entry]
  · rw [State.withQueue_core, cores]

/-- R197: a teardown ends at its deadline, which is counted. -/
theorem exec_teardownDeadline_spec (p : Part) (i : Fin 16) (s : State) (torn : (s.ctx (16 * p.val + i.val)).state = .teardown)
    (late : (s.ctx (16 * p.val + i.val)).since + (s.ctx (16 * p.val + i.val)).teardownDl ≤ s.beatIx) :
    ∃ t, exec (.teardownDeadline p i) s = .next t ∧ t.ending (16 * p.val + i.val) = (.retired, true, s.beatIx) ∧
      t.pN p 0xBB = min (s.pN p 0xBB + 1) (2 ^ 32 - 1) := by
  let stopped := s.stopLaunches (s.ctxLaunches (16 * p.val + i.val))
  have ends : teardownDeadlineEff p i s = (stopped.endTeardown (16 * p.val + i.val) true).swap p := if_pos ⟨torn, late⟩
  obtain ⟨entry, -, counted⟩ := stopped.endTeardown_swap_spec p (16 * p.val + i.val) true
  obtain ⟨-, beat_kept, late_kept⟩ := State.ctxClock_eq_iff.1 (s.stopLaunches_ctxClock (s.ctxLaunches (16 * p.val + i.val)))
  have group : (16 * p.val + i.val) / 16 = p.val := by omega
  have beat : stopped.beatIx = s.beatIx := by simp only [stopped, State.beatIx, beat_kept]
  have before : stopped.pRd p 0xBB = s.pRd p 0xBB := congrFun late_kept p
  have after := counted rfl
  rw [group, before] at after
  refine ⟨_, congrArg s.outcome ends, ?_, ?_⟩
  · rw [State.withQueue_ending, entry, beat]
  · rw [State.pN, State.rdN, ← State.pRd, State.withQueue_pRd, after]
    rfl

/-- R197: before its deadline a teardown goes on. -/
theorem exec_teardownDeadline_early (p : Part) (i : Fin 16) (s : State)
    (early : s.beatIx < (s.ctx (16 * p.val + i.val)).since + (s.ctx (16 * p.val + i.val)).teardownDl) :
    exec (.teardownDeadline p i) s = .next s := by
  have waits : teardownDeadlineEff p i s = s := if_neg fun ⟨_, late⟩ => absurd late early.not_ge
  exact congrArg s.outcome waits

/-- R198: a RETIRED entry is FREE once RETIRE_HOLD has passed. -/
theorem exec_retireHoldExpiry_spec (p : Part) (i : Fin 16) (s : State)
    (retired : (s.ctx (16 * p.val + i.val)).state = .retired)
    (passed : (s.ctx (16 * p.val + i.val)).since + s.rdN (objKey 0x2300 0x10) ≤ s.beatIx) :
    exec (.retireHoldExpiry p i) s =
      .next (s.setCtxE (16 * p.val + i.val) { s.ctx (16 * p.val + i.val) with state := .free }) := by
  have freed : retireHoldExpiryEff p i s =
      s.setCtxE (16 * p.val + i.val) { s.ctx (16 * p.val + i.val) with state := .free } := if_pos ⟨retired, passed⟩
  exact congrArg s.outcome freed

/-- R198: and not before. -/
theorem exec_retireHoldExpiry_early (p : Part) (i : Fin 16) (s : State)
    (early : s.beatIx < (s.ctx (16 * p.val + i.val)).since + s.rdN (objKey 0x2300 0x10)) :
    exec (.retireHoldExpiry p i) s = .next s := by
  have waits : retireHoldExpiryEff p i s = s := if_neg fun ⟨_, passed⟩ => absurd passed early.not_ge
  exact congrArg s.outcome waits

/-- R200: RETIRE_HOLD takes a value of its range, and saves it. -/
theorem exec_registerWrite_retireHold (via : Via) (v : Word) (s : State) (reached : s.reaches via 0x2300 0x10 = true)
    (small : v.toNat < 2 ^ 32) (lo : 1 ≤ v.toNat) (hi : v.toNat ≤ 1000000) :
    exec (.registerWrite via (.obj 0x2300 0x10) 4 v) s = .next (s.saveObj (objKey 0x2300 0x10) v) := by
  have taken : registerWriteEff via (.obj 0x2300 0x10) 4 v s = s.saveObj (objKey 0x2300 0x10) v := by
    show s.objWrite via 0x2300 0x10 (objSizedW s via 0x2300 0x10 4 v) = _
    rw [retireHoldW_eq s via small, if_neg (by omega), s.objWrite_ok reached]
  exact congrArg s.outcome taken

/-- R200: RETIRE_HOLD refuses any other value. -/
theorem exec_registerWrite_retireHold_refused (via : Via) (v : Word) (s : State) (small : v.toNat < 2 ^ 32)
    (out : v.toNat < 1 ∨ 1000000 < v.toNat) :
    ∃ h, exec (.registerWrite via (.obj 0x2300 0x10) 4 v) s = .next { s with host := h } := by
  obtain ⟨h, refused⟩ := s.objWrite_error_frame via 0x2300 0x10 .range
  have same : registerWriteEff via (.obj 0x2300 0x10) 4 v s = { s with host := h } := by
    show s.objWrite via 0x2300 0x10 (objSizedW s via 0x2300 0x10 4 v) = _
    rw [retireHoldW_eq s via small, if_pos out, refused]
  exact ⟨h, congrArg s.outcome same⟩

/-- Setting one context's entry leaves the others alone. -/
theorem State.setCtxE_ctx_self (s : State) (k : Nat) (x : Ctx) :
    (s.setCtxE k x).ctx k = x ∧ ∀ j, j ≠ k → (s.setCtxE k x).ctx j = s.ctx j := by
  refine ⟨?_, fun j other => ?_⟩
  · rw [State.ctx_setCtxE, if_pos rfl]
  · rw [State.ctx_setCtxE, if_neg other]

/-- Settles O23: a teardown's steps leave its entry alone but for their own writes to it, sending a packet leaves all that is
owed alone, and RETIRE_HOLD is one RWS object. -/
theorem teardownAndQuiet : Obligations.TeardownAndQuiet := by
  refine ⟨⟨fun p i s => ⟨fun via reached not_free not_torn not_retired => ?_, fun torn stopped moved quiet => ?_,
      fun torn late => ?_, fun _ early => exec_teardownDeadline_early p i s early, fun retired passed => ?_,
      fun _ early => exec_retireHoldExpiry_early p i s early⟩,
    fun via v s reached small => ⟨fun lo hi => ?_, fun out => ?_⟩, rfl, rfl⟩,
    fun pkt s running => ⟨exec_quietReq_spec pkt s running, fun fresh torn job => ?_, exec_quietAck_dropped pkt s⟩⟩
  · exact exec_contextTeardown_spec via p i s reached (by simp [not_free, not_torn, not_retired])
  · obtain ⟨t, next, entry, cores⟩ := exec_teardownComplete_spec p i s torn stopped moved quiet
    obtain ⟨state, timedOut, since⟩ := State.ending_eq_iff.1 entry
    exact ⟨t, next, state, timedOut, since, fun c mem => (cores c).trans (if_pos mem),
      fun c other => (cores c).trans (if_neg other)⟩
  · obtain ⟨t, next, entry, counted⟩ := exec_teardownDeadline_spec p i s torn late
    obtain ⟨state, timedOut, since⟩ := State.ending_eq_iff.1 entry
    exact ⟨t, next, state, timedOut, since, counted⟩
  · obtain ⟨entry, others⟩ := s.setCtxE_ctx_self (16 * p.val + i.val) { s.ctx (16 * p.val + i.val) with state := .free }
    exact ⟨_, exec_retireHoldExpiry_spec p i s retired passed, entry, others, rfl, rfl, rfl⟩
  · refine ⟨_, exec_registerWrite_retireHold via v s reached small lo hi, (s.rd_wr _ _ v).trans (if_pos rfl), rfl,
      fun k other => (s.rd_wr _ k v).trans (if_neg other), rfl, rfl, rfl, rfl, rfl, rfl, rfl, rfl, rfl⟩
  · obtain ⟨h, next⟩ := exec_registerWrite_retireHold_refused via v s small out
    exact ⟨_, next, rfl, rfl, rfl, rfl, rfl, rfl, rfl, rfl, rfl, rfl, rfl⟩
  · obtain ⟨entry, others⟩ := s.setCtxE_ctx_self pkt.ctxId.toNat
      { s.ctx pkt.ctxId.toNat with quietPending := (s.ctx pkt.ctxId.toNat).quietPending - 1 }
    exact ⟨_, exec_quietAck_spec pkt s running fresh torn job, entry, others, rfl, rfl⟩

end Sys2Proof.Machine
end

section
/-! PROOFS. The failure detector and health (R316, R317, R321 to R324): what events, packets and recommendations leave alone, the
row that an event or DEAD enters, the addresses that probes go to, the lowest score, and from these O43. -/

namespace Sys2Proof.Machine

/-! ## What reporting leaves alone -/

/-- All of the state that reporting leaves alone: what a count, an event, a packet sent or a recommendation changes stands at its
reset value. -/
def State.unreported (s : State) : State :=
  { s with
    obj := [], out := [], host := .reset, mgmt := .reset, fab := .reset,
    health := { s.health with shadow := [], recs := [], lastExpel := none } }

theorem sameWork_of_unreported_eq {s t : State} (h : t.unreported = s.unreported) : sameWork s t := by
  have kept {α : Type} (view : State → α) : view t.unreported = view s.unreported := congrArg view h
  exact ⟨kept State.cores, kept State.mem, kept State.progs, kept State.ctxs, kept State.slots, kept State.launches,
    kept State.versions, kept State.fences, kept State.dma⟩

theorem State.scores_of_unreported_eq {s t : State} (h : t.unreported = s.unreported) :
    t.health.subStart = s.health.subStart ∧ t.health.score = s.health.score := by
  have kept {α : Type} (view : State → α) : view t.unreported = view s.unreported := congrArg view h
  exact ⟨kept (·.health.subStart), kept (·.health.score)⟩

theorem sameWork_refl (s : State) : sameWork s s := sameWork_of_unreported_eq rfl

@[simp] theorem State.count_unreported (s : State) (k n : Nat) : (s.count k n).unreported = s.unreported := by
  unfold State.count State.shadowOf
  split <;> rfl

@[simp] theorem State.count32Sat_unreported (s : State) (k n : Nat) : (s.count32Sat k n).unreported = s.unreported := by
  unfold State.count32Sat State.countSat State.shadowOf
  split <;> rfl

/-- The health event changes the host link, the management controller and what leaves the device only (R365, R391). -/
theorem State.healthEvent_frame (s : State) : ∃ h m o, s.healthEvent = { s with host := h, mgmt := m, out := o } := by
  unfold State.healthEvent State.signalPf State.sendMsix
  split
  · simp only []
    split
    · exact ⟨_, _, s.out, rfl⟩
    · exact ⟨_, _, _, rfl⟩
  · exact ⟨s.host, _, _, rfl⟩

@[simp] theorem State.healthEvent_unreported (s : State) : s.healthEvent.unreported = s.unreported := by
  obtain ⟨h, m, o, e⟩ := s.healthEvent_frame
  rw [e]
  rfl

@[simp] theorem State.healthEvent_rd (s : State) (k : Nat) : s.healthEvent.rd k = s.rd k := by
  obtain ⟨h, m, o, e⟩ := s.healthEvent_frame
  rw [e]
  rfl

@[simp] theorem State.wr_unreported (s : State) (k : Nat) (v : Word) : (s.wr k v).unreported = s.unreported := rfl

/-- A packet that a router takes is dropped, emitted or queued. -/
@[simp] theorem State.inject_unreported (s : State) (die : Nat) (p : Packet) : (s.inject die p).unreported = s.unreported := by
  have left (t : State) (inp : Nat) (vc : Fin 4) (cls : Fin 2) (units : Nat) :
      (t.leaveInput inp vc cls units).unreported = t.unreported := by
    unfold State.leaveInput
    split <;> rfl
  have queued (t : State) (n inp : Nat) (cls : Fin 2) (q : Packet) : (t.enqueue n inp cls q).unreported = t.unreported := rfl
  have dropped (t : State) : t.dropUnreachable.unreported = t.unreported := t.count_unreported _ _
  have routed (q : Packet) : (s.routeFrom die 32 q []).unreported = s.unreported := by
    unfold State.routeFrom
    simp only [State.portShell_nil, Bool.true_and, if_true]
    split
    · rfl
    split
    · rw [left, dropped]
    split
    · rw [left]
      split <;> rfl
    split
    · rw [left, dropped]
    split
    · rw [left, dropped]
    · simp only [apply_ite State.unreported, left, dropped, queued, ite_self]
  unfold State.inject State.injectWith
  split
  · rfl
  split
  · rfl
  · exact routed _

/-! ## The suspect table (R316) -/

theorem mfind_mins_self {α : Type} (v : α) (m : SMap α) (k : Nat) : mfind (mins v m k) k = some v := by
  induction m with
  | nil => simp [mins, mfind]
  | cons x m ih =>
    unfold mins
    split
    · simp [mfind]
    · split
      · simp [mfind]
      next _ other => simp [mfind, other, ih]

theorem mem_mins_self {α : Type} (v : α) (m : SMap α) (k : Nat) : (k, v) ∈ mins v m k := by
  induction m with
  | nil => simp [mins]
  | cons x m ih =>
    unfold mins
    split
    · simp
    · split
      · simp
      · exact List.mem_cons_of_mem _ ih

/-- Listing an entry at the place of the first that a test finds, or where it finds none, makes it the one found. -/
theorem find?_mins {α : Type} {p : Nat × α → Bool} {v : α} {k : Nat} (hv : p (k, v) = true) (m : SMap α)
    (h : ∀ kv, m.find? p = some kv → kv.1 = k) : (mins v m k).find? p = some (k, v) := by
  induction m with
  | nil => simp [mins, hv]
  | cons x m ih =>
    unfold mins
    split
    · simp [hv]
    · split
      · simp [hv]
      next _ other =>
        have missed : p x = false := by
          by_contra hit
          exact other (h x (by simp [hit]))
        rw [List.find?_cons_of_neg (by simp [missed])] at h ⊢
        exact ih h

theorem HealthSt.entryOf_addr {h : HealthSt} {a : FabAddr} {kv : Nat × Suspect} (found : h.entryOf a = some kv) :
    kv.2.addr = a := by
  simpa using List.find?_some found

/-- The row of an address and its place: the one it has, else a fresh one, with the cause given, at the place for a new entry. -/
def State.suspectRow (s : State) (a : FabAddr) (cause : Nat) : Nat × Suspect :=
  (s.health.entryOf a).getD (s.health.place, ⟨a, (s.epochOf a).getD 0, cause, [], s.beat, false, false⟩)

theorem State.suspectRow_addr (s : State) (a : FabAddr) (cause : Nat) : (s.suspectRow a cause).2.addr = a := by
  unfold State.suspectRow
  cases found : s.health.entryOf a with
  | none => rfl
  | some kv => exact HealthSt.entryOf_addr found

/-- A row listed at the place of its address is the one found for the address. -/
theorem State.entryOf_mins_suspectRow (s : State) (a : FabAddr) (cause : Nat) {x : Suspect} (hx : x.addr = a) {h : HealthSt}
    (listed : h.suspects = mins x s.health.suspects (s.suspectRow a cause).1) :
    h.entryOf a = some ((s.suspectRow a cause).1, x) := by
  unfold HealthSt.entryOf
  rw [listed]
  refine find?_mins (by simp [hx]) _ fun kv found => ?_
  have row : s.health.entryOf a = some kv := found
  simp [State.suspectRow, row]

/-- The row of an address with an event noted in it: the event, those within the window before it, and whether they make the
address a suspect. -/
def State.notedRow (s : State) (a : FabAddr) (cause : Nat) : Suspect :=
  let x := (s.suspectRow a cause).2
  let events := (s.beatIx :: x.events.filter fun e => decide (s.beatIx - e ≤ s.rdN (hKey 0x1A))).take 255
  { x with epoch := (s.epochOf a).getD 0, cause := cause, events := events,
           suspect := x.suspect || decide (s.rdN (hKey 0x19) ≤ events.length) }

/-- R316: an event on an address that is not under TRUST notes its row, and may raise the health event. -/
theorem State.suspectEvent_of_untrusted (s : State) (a : FabAddr) (cause : Nat)
    (untrusted : ∀ t ∈ s.health.trusted, t.1 = a → t.2 ≤ s.beatIx) :
    ∃ h m o, s.suspectEvent a cause = { s with
      host := h, mgmt := m, out := o,
      health := { s.health with suspects := mins (s.notedRow a cause) s.health.suspects (s.suspectRow a cause).1 } } := by
  have heard : s.health.trusted.any (fun t => t.1 == a && decide (s.beatIx < t.2)) = false := by
    simpa [List.any_eq_false] using untrusted
  unfold State.suspectEvent State.notedRow State.suspectRow
  simp only [heard]
  cases s.health.entryOf a
  all_goals
    simp only [Option.getD, Bool.false_eq_true, if_false]
    split
    · exact State.healthEvent_frame _
    · exact ⟨s.host, s.mgmt, s.out, rfl⟩

/-- R317: an event on an address under TRUST is ignored. -/
theorem State.suspectEvent_of_trusted (s : State) (a : FabAddr) (cause : Nat) {b : Nat} (mem : (a, b) ∈ s.health.trusted)
    (before : s.beatIx < b) : s.suspectEvent a cause = s := by
  have trusted : s.health.trusted.any (fun t => t.1 == a && decide (s.beatIx < t.2)) = true :=
    List.any_eq_true.2 ⟨(a, b), mem, by simp [before]⟩
  exact if_pos trusted

/-- An event of the detector changes the suspect table and what it reports only. -/
theorem State.suspectEvent_frame (s : State) (a : FabAddr) (cause : Nat) :
    ∃ h m o l, s.suspectEvent a cause = { s with host := h, mgmt := m, out := o, health := { s.health with suspects := l } } := by
  by_cases untrusted : ∀ t ∈ s.health.trusted, t.1 = a → t.2 ≤ s.beatIx
  · obtain ⟨h, m, o, e⟩ := s.suspectEvent_of_untrusted a cause untrusted
    exact ⟨h, m, o, _, e⟩
  · push Not at untrusted
    obtain ⟨⟨_, b⟩, mem, rfl, before⟩ := untrusted
    exact ⟨s.host, s.mgmt, s.out, s.health.suspects, s.suspectEvent_of_trusted _ cause mem before⟩

/-- R316: an event is entered with its cause and its beat, and makes a suspect once SUSPECT_EVENTS lie within the window. -/
theorem State.suspectEvent_enters (s : State) (a : FabAddr) (cause : Nat)
    (untrusted : ∀ t ∈ s.health.trusted, t.1 = a → t.2 ≤ s.beatIx) :
    ∃ i x, mfind (s.suspectEvent a cause).health.suspects i = some x ∧ x.addr = a ∧ x.cause = cause ∧ s.beatIx ∈ x.events ∧
      (s.rdN (hKey 0x19) ≤ x.events.length → x.suspect = true) := by
  obtain ⟨h, m, o, e⟩ := s.suspectEvent_of_untrusted a cause untrusted
  refine ⟨_, s.notedRow a cause, by rw [e]; exact mfind_mins_self .., s.suspectRow_addr a cause, rfl, ?_, fun reached => ?_⟩
  · exact List.mem_cons_self
  · exact Bool.or_eq_true_iff.2 (.inr (decide_eq_true reached))

/-- An event that follows a change of the health record other than to the addresses under TRUST is entered, and leaves alone what
the change made of the rest. -/
theorem State.suspectEvent_modHealth_spec (s : State) (f : HealthSt → HealthSt) (a : FabAddr) (cause : Nat)
    (trusted : (f s.health).trusted = s.health.trusted) :
    (∃ l, ((s.modHealth f).suspectEvent a cause).health = { f s.health with suspects := l }) ∧
    ((∀ q ∈ s.health.trusted, q.1 = a → q.2 ≤ s.beatIx) →
      ∃ i x, mfind ((s.modHealth f).suspectEvent a cause).health.suspects i = some x ∧ x.addr = a ∧ x.cause = cause ∧
        s.beatIx ∈ x.events) ∧
    ((s.modHealth f).suspectEvent a cause).fab = s.fab ∧ ((s.modHealth f).suspectEvent a cause).obj = s.obj ∧
    sameWork s ((s.modHealth f).suspectEvent a cause) := by
  obtain ⟨h, m, o, l, e⟩ := (s.modHealth f).suspectEvent_frame a cause
  refine ⟨⟨l, by rw [e]; rfl⟩, fun untrusted => ?_, by rw [e]; rfl, by rw [e]; rfl, by rw [e]; exact sameWork_refl s⟩
  obtain ⟨i, x, found, addr, of, event, -⟩ := (s.modHealth f).suspectEvent_enters a cause (trusted ▸ untrusted)
  exact ⟨i, x, found, addr, of, event⟩

/-! ## Probes (R316) -/

/-- Whether an address is marked DEAD. -/
def HealthSt.isDead (h : HealthSt) (a : FabAddr) : Bool := (h.entryOf a).any fun kv => kv.2.dead

/-- The probes of member entries: to each address that is not marked DEAD, as of now. -/
def State.probesTo (s : State) (es : List Nat) : List (FabAddr × Nat) :=
  ((es.map fun e => BitVec.ofNat 24 (entryAddrOf e)).filter fun a => !s.health.isDead a).map fun a => (a, s.beatIx)

/-- The state with more probes to be answered. -/
def State.owedProbes (s : State) (qs : List (FabAddr × Nat)) : State := s.modHealth fun h => { h with probes := h.probes ++ qs }

theorem State.owedProbes_append (s : State) (qs rs : List (FabAddr × Nat)) :
    (s.owedProbes qs).owedProbes rs = s.owedProbes (qs ++ rs) := by
  simp only [State.owedProbes, State.modHealth, List.append_assoc]

theorem State.not_isDead_of_mem_probesTo {s : State} {es : List Nat} {q : FabAddr × Nat} (mem : q ∈ s.probesTo es) :
    s.health.isDead q.1 = false := by
  obtain ⟨a, kept, rfl⟩ := List.mem_map.1 mem
  simpa using (List.mem_filter.1 kept).2

theorem State.probesTo_cons (s : State) (e : Nat) (es : List Nat) :
    s.probesTo (e :: es) = if s.health.isDead (BitVec.ofNat 24 (entryAddrOf e)) then s.probesTo es
      else (BitVec.ofNat 24 (entryAddrOf e), s.beatIx) :: s.probesTo es := by
  unfold State.probesTo
  split
  next dead => simp [dead]
  next alive => simp [alive]

/-- Where none of the addresses is marked DEAD, each gets a probe. -/
theorem State.probesTo_eq_map {s : State} {es : List Nat}
    (alive : ∀ e ∈ es, s.health.isDead (BitVec.ofNat 24 (entryAddrOf e)) = false) :
    s.probesTo es = es.map fun e => (BitVec.ofNat 24 (entryAddrOf e), s.beatIx) := by
  unfold State.probesTo
  rw [List.filter_eq_self.2 (by simpa using alive), List.map_map]
  rfl

/-- No probe goes to an address marked DEAD. -/
theorem sendProbes_cons_of_dead (j : Nat) {e : Nat} (es : List Nat) {s : State}
    (dead : s.health.isDead (BitVec.ofNat 24 (entryAddrOf e)) = true) : sendProbes j (e :: es) s = sendProbes j es s := by
  rw [sendProbes]
  cases row : s.health.entryOf (BitVec.ofNat 24 (entryAddrOf e)) with
  | none => simp [HealthSt.isDead, row] at dead
  | some kv =>
    have marked : kv.2.dead = true := by simpa [HealthSt.isDead, row] using dead
    simp only [marked, if_true]

/-- A probe to any other address is one more packet and one more answer owed. -/
theorem sendProbes_cons_of_alive (j : Nat) {e : Nat} (es : List Nat) {s : State}
    (alive : s.health.isDead (BitVec.ofNat 24 (entryAddrOf e)) = false) :
    ∃ p, sendProbes j (e :: es) s = sendProbes j es
      ((s.collInject j p).owedProbes [(BitVec.ofNat 24 (entryAddrOf e), (s.collInject j p).beatIx)]) := by
  rw [sendProbes]
  cases row : s.health.entryOf (BitVec.ofNat 24 (entryAddrOf e)) with
  | none => exact ⟨_, rfl⟩
  | some kv =>
    have unmarked : kv.2.dead = false := by simpa [HealthSt.isDead, row] using alive
    simp only [unmarked, Bool.false_eq_true, if_false]
    exact ⟨_, rfl⟩

/-- Sending probes leaves all alone but the answers owed and what it reports. -/
theorem sendProbes_unreported (j : Nat) (es : List Nat) (s : State) :
    (sendProbes j es s).unreported = s.unreported.owedProbes (s.probesTo es) := by
  induction es generalizing s with
  | nil => simp [sendProbes, State.probesTo, State.owedProbes, State.modHealth]
  | cons e es ih =>
    cases dead : s.health.isDead (BitVec.ofNat 24 (entryAddrOf e)) with
    | true => rw [sendProbes_cons_of_dead j es dead, ih, State.probesTo_cons, if_pos dead]
    | false =>
      obtain ⟨p, sent⟩ := sendProbes_cons_of_alive j es dead
      have kept : (s.collInject j p).unreported = s.unreported := s.inject_unreported _ p
      have now : (s.collInject j p).beatIx = s.beatIx := (congrArg State.beatIx kept :)
      have others : (s.collInject j p).probesTo es = s.probesTo es := (congrArg (State.probesTo · es) kept :)
      calc (sendProbes j (e :: es) s).unreported
        _ = ((s.collInject j p).unreported.owedProbes
              [(BitVec.ofNat 24 (entryAddrOf e), (s.collInject j p).beatIx)]).owedProbes ((s.collInject j p).probesTo es) := by
            rw [sent, ih]; rfl
        _ = s.unreported.owedProbes (s.probesTo (e :: es)) := by
            rw [kept, now, others, State.owedProbes_append, State.probesTo_cons, if_neg (by simp [dead]), List.singleton_append]

/-- PROBE_SEND of a slot whose probes are due sends them. -/
theorem probeSendEff_of_due {j : JobSlot} {s : State} (active : s.jsState j = 2) (running : s.superseded = false)
    (due : s.probeDue j = true) :
    (probeSendEff j s).unreported =
      ((s.modHealth fun h => { h with probedAt := mset none h.probedAt j (some s.beatIx) }).owedProbes
        (s.probesTo (s.probeEntries j))).unreported := by
  rw [probeSendEff, if_neg (by simp [active, due, running]), sendProbes_unreported]
  rfl

/-- R316: the probes sent are owed an answer each, as of now, and the programs' and the host's work goes on as it was. -/
theorem probeSendEff_spec {j : JobSlot} {s : State} (active : s.jsState j = 2) (running : s.superseded = false)
    (due : s.probeDue j = true) :
    (probeSendEff j s).health.probes = s.health.probes ++ s.probesTo (s.probeEntries j) ∧ sameWork s (probeSendEff j s) := by
  have sent := probeSendEff_of_due active running due
  exact ⟨congrArg (fun t => t.health.probes) sent, (sameWork_of_unreported_eq sent :)⟩

/-- PROBE_SEND of any other slot changes nothing. -/
theorem probeSendEff_of_not_due {j : JobSlot} {s : State} (h : s.jsState j ≠ 2 ∨ s.probeDue j = false ∨ s.superseded = true) :
    probeSendEff j s = s := if_pos h

/-- R317: no probe goes to an address marked DEAD, so that no answer of it is owed anew. -/
theorem probeSendEff_keeps_unprobed {j : JobSlot} {s : State} {a : FabAddr} (dead : s.health.isDead a = true)
    (none_owed : ∀ q ∈ s.health.probes, q.1 ≠ a) : ∀ q ∈ (probeSendEff j s).health.probes, q.1 ≠ a := by
  by_cases idle : s.jsState j ≠ 2 ∨ s.probeDue j = false ∨ s.superseded = true
  · rwa [probeSendEff_of_not_due idle]
  · simp only [not_or, not_not, Bool.not_eq_false, Bool.not_eq_true] at idle
    obtain ⟨active, due, running⟩ := idle
    rw [(probeSendEff_spec active running due).1]
    intro q mem
    obtain old | new := List.mem_append.1 mem
    · exact none_owed q old
    · rintro rfl
      exact Bool.false_ne_true ((State.not_isDead_of_mem_probesTo new).symm.trans dead)

/-! ## The commands of the failure detector (R316, R317) -/

/-- R316: a partner that has been silent for TANGO_SILENT is an event of its address. -/
theorem exec_partnerSilent_due {s : State} {a : FabAddr} (partner : s.tangoPartner = some a)
    (due : s.health.lastTango + s.rdN (hKey 0x17) ≤ s.beatIx) :
    exec .partnerSilent s =
      .next (((s.modHealth fun h => { h with lastTango := s.beatIx }).suspectEvent a 1).withQueue s) := by
  have noted : partnerSilentEff s = (s.modHealth fun h => { h with lastTango := s.beatIx }).suspectEvent a 1 := by
    simp only [partnerSilentEff, partner]
    exact if_neg due.not_gt
  exact congrArg s.outcome noted

theorem exec_partnerSilent_early {s : State} {a : FabAddr} (partner : s.tangoPartner = some a)
    (early : s.beatIx < s.health.lastTango + s.rdN (hKey 0x17)) : exec .partnerSilent s = .next s := by
  have waits : partnerSilentEff s = s := by
    simp only [partnerSilentEff, partner]
    exact if_pos early
  exact congrArg s.outcome waits

/-- R316: a probe that is not answered within 64 beats is an event of its address. -/
theorem exec_probeTimeout_due {s : State} {a : FabAddr} {b : Nat}
    (owed : (s.health.probes.find? fun x => x.1 == a) = some (a, b)) (due : b + 64 ≤ s.beatIx) :
    exec (.probeTimeout a) s =
      .next (((s.modHealth fun h => { h with probes := dropProbe a h.probes }).suspectEvent a 3).withQueue s) := by
  have noted : probeTimeoutEff a s = (s.modHealth fun h => { h with probes := dropProbe a h.probes }).suspectEvent a 3 := by
    simp only [probeTimeoutEff, owed]
    exact if_neg due.not_gt
  exact congrArg s.outcome noted

theorem exec_probeTimeout_early {s : State} {a : FabAddr} {b : Nat}
    (owed : (s.health.probes.find? fun x => x.1 == a) = some (a, b)) (early : s.beatIx < b + 64) :
    exec (.probeTimeout a) s = .next s := by
  have waits : probeTimeoutEff a s = s := by
    simp only [probeTimeoutEff, owed]
    exact if_pos early
  exact congrArg s.outcome waits

/-- R316: probes that are due go to every tree neighbour, where none is marked DEAD. -/
theorem exec_probeSend_due {j : JobSlot} {s : State} (active : s.jsState j = 2) (running : s.superseded = false)
    (due : s.probeDue j = true)
    (alive : ∀ e ∈ s.probeEntries j, ∀ kv, s.health.entryOf (BitVec.ofNat 24 (entryAddrOf e)) = some kv → kv.2.dead = false) :
    ∃ t, exec (.probeSend j) s = .next t ∧ sameWork s t ∧ t.health.probes =
      s.health.probes ++ (s.probeEntries j).map fun e => (BitVec.ofNat 24 (entryAddrOf e), s.beatIx) := by
  obtain ⟨owed, work⟩ := probeSendEff_spec active running due
  rw [State.probesTo_eq_map fun e mem => ?_] at owed
  · exact ⟨_, rfl, work, owed⟩
  · cases row : s.health.entryOf (BitVec.ofNat 24 (entryAddrOf e)) with
    | none => simp [HealthSt.isDead, row]
    | some kv => simpa [HealthSt.isDead, row] using alive e mem kv row

theorem exec_probeSend_early {j : JobSlot} {s : State} (early : s.probeDue j = false) : exec (.probeSend j) s = .next s :=
  congrArg s.outcome (probeSendEff_of_not_due (.inr (.inl early)))

/-- R316: an ask is answered with its sequence number. -/
theorem exec_probe_ask {pkt : Packet} {s : State} (ask : pkt.target = 0) (ready : s.jobReady = true) :
    exec (.probe pkt) s = .next ((s.inject 0
      { probePacket pkt.src pkt.jobId.toNat pkt.ctxId.toNat true with seq := pkt.seq }).withQueue s) := by
  have answers : probeEff pkt s = s.inject 0
      { probePacket pkt.src pkt.jobId.toNat pkt.ctxId.toNat true with seq := pkt.seq } := by
    rw [probeEff, if_pos ask, if_pos ready]
  exact congrArg s.outcome answers

/-- R316: an answer ends the wait for it. -/
theorem exec_probe_answer {pkt : Packet} {s : State} (answer : pkt.target ≠ 0) :
    exec (.probe pkt) s = .next (s.modHealth fun h => { h with probes := dropProbe pkt.src h.probes }) :=
  congrArg s.outcome (if_neg answer)

/-- R317: TRUST clears the row of the address and has its events ignored for SUSPECT_WINDOW beats. -/
theorem exec_trust_spec {via : Via} {s : State} (a : FabAddr) (reached : s.reaches via 0x2400 0x16 = true) :
    ∃ t, exec (.trust via a) s = .next t ∧ t.health.entryOf a = none ∧ (a, s.beatIx + s.rdN (hKey 0x1A)) ∈ t.health.trusted ∧
      t.obj = s.obj ∧ t.fab = s.fab ∧ t.coll = s.coll ∧ sameWork s t := by
  refine ⟨_, congrArg s.outcome (s.objWrite_ok reached _), ?_, List.mem_cons_self, rfl, rfl, rfl, sameWork_refl s⟩
  exact List.find?_eq_none.2 fun kv mem => by simpa using (List.mem_filter.1 mem).2

/-- R317: DEAD marks the row of the address, and no answer of it is owed. -/
theorem exec_dead_spec {via : Via} {s : State} (a : FabAddr) (reached : s.reaches via 0x2400 0x16 = true) :
    ∃ t, exec (.dead via a) s = .next t ∧ (∃ kv ∈ t.health.suspects, kv.2.addr = a ∧ kv.2.dead = true) ∧
      t.health.isDead a = true ∧ (∀ q ∈ t.health.probes, q.1 ≠ a) ∧
      t.obj = s.obj ∧ t.fab = s.fab ∧ t.coll = s.coll ∧ sameWork s t := by
  let row := s.suspectRow a 0
  let x := { row.2 with dead := true }
  let marked : State := s.modHealth fun h => { h with
    suspects := mins x h.suspects row.1, probes := h.probes.filter fun q => q.1 != a }
  have written : deadW s a = .ok marked := by
    unfold deadW
    simp only [marked, x, row, State.suspectRow]
    cases s.health.entryOf a <;> rfl
  have dead : deadEff via a s = marked := by rw [deadEff, written, s.objWrite_ok reached]
  have addr : x.addr = a := s.suspectRow_addr a 0
  have found : marked.health.entryOf a = some (row.1, x) := s.entryOf_mins_suspectRow a 0 addr rfl
  refine ⟨_, congrArg s.outcome dead, ⟨_, mem_mins_self _ _ _, addr, rfl⟩, ?_, fun q mem => ?_, rfl, rfl, rfl, sameWork_refl s⟩
  · exact congrArg (Option.any fun kv => kv.2.dead) found
  · simpa using (List.mem_filter.1 mem).2

/-! ## Scores and recommendations (R321 to R323) -/

/-- A table set at each key of a list reads as what was set there, and elsewhere as before. -/
theorem mget_foldl_mset {α : Type} [DecidableEq α] (d : α) (f : Nat → α) (l : List Nat) (m : SMap α) (k : Nat) :
    mget d (l.foldl (fun m c => mset d m c (f c)) m) k = if k ∈ l then f k else mget d m k := by
  induction l generalizing m with
  | nil => simp
  | cons c l ih =>
    rw [List.foldl_cons, ih, mget_mset]
    by_cases later : k ∈ l
    · simp [later]
    · by_cases here : k = c <;> simp [later, here]

/-- The least value along a list, with the key that first has it. -/
theorem foldl_least_spec (f : Nat → Nat) (l : List Nat) (b : Nat × Nat) :
    (l.foldl (fun (b : Nat × Nat) c => if f c < b.1 then (f c, c) else b) b).1 ≤ b.1 ∧
    (∀ c ∈ l, (l.foldl (fun (b : Nat × Nat) c => if f c < b.1 then (f c, c) else b) b).1 ≤ f c) ∧
    (l.foldl (fun (b : Nat × Nat) c => if f c < b.1 then (f c, c) else b) b = b ∨
      ∃ c ∈ l, l.foldl (fun (b : Nat × Nat) c => if f c < b.1 then (f c, c) else b) b = (f c, c)) := by
  induction l generalizing b with
  | nil => simp
  | cons c l ih =>
    rw [List.foldl_cons]
    by_cases less : f c < b.1
    · rw [if_pos less]
      obtain ⟨head, tail, source⟩ := ih (f c, c)
      refine ⟨head.trans less.le, List.forall_mem_cons.2 ⟨head, tail⟩, .inr ?_⟩
      obtain same | ⟨k, mem, least⟩ := source
      · exact ⟨c, List.mem_cons_self, same⟩
      · exact ⟨k, List.mem_cons_of_mem _ mem, least⟩
    · rw [if_neg less]
      obtain ⟨head, tail, source⟩ := ih b
      refine ⟨head, List.forall_mem_cons.2 ⟨head.trans (not_lt.1 less), tail⟩, source.imp_right ?_⟩
      rintro ⟨k, mem, least⟩
      exact ⟨k, List.mem_cons_of_mem _ mem, least⟩

/-- The lowest score is a part's, and no part's is lower. -/
theorem HealthSt.worst_spec (h : HealthSt) :
    (∀ c ∈ partCodes, h.worst.1 ≤ h.score c) ∧ ∃ c ∈ partCodes, h.worst = (h.score c, c) := by
  obtain ⟨-, least, source⟩ := foldl_least_spec h.score partCodes (h.score 0, 0)
  refine ⟨least, ?_⟩
  obtain first | found := source
  · exact ⟨0, List.mem_cons_self, first⟩
  · exact found

theorem HealthSt.scoreNow_le (h : HealthSt) (code : Nat) : h.scoreNow code ≤ 1000 := Nat.sub_le _ _

theorem lt_of_mem_partCodes {c : Nat} (mem : c ∈ partCodes) : c < 0x310 := by
  revert c
  decide

/-- What a recommendation leaves alone: all but what it reports, with HEALTH_LOWEST and HEALTH_LOWEST_PART. -/
def State.scored (s : State) : State × Word × Word := (s.unreported, s.rd (hKey 1), s.rd (hKey 2))

theorem State.recommend_unreported (s : State) (code kind : Nat) : (s.recommend code kind).unreported = s.unreported := by
  rw [State.recommend, State.healthEvent_unreported, State.wrN_eq, State.wr_unreported]

theorem State.recommend_rd (s : State) (code kind : Nat) {k : Nat} (other : k ≠ hKey 6) : (s.recommend code kind).rd k = s.rd k := by
  rw [State.recommend, State.healthEvent_rd, State.wrN_eq, State.rd_wr, if_neg other]

@[simp] theorem State.recommend_scored (s : State) (code kind : Nat) : (s.recommend code kind).scored = s.scored := by
  rw [State.scored, s.recommend_unreported, s.recommend_rd _ _ (by decide), s.recommend_rd _ _ (by decide), State.scored]

@[simp] theorem State.count32Sat_scored (s : State) (n : Nat) : (s.count32Sat (hKey 0x0B) n).scored = s.scored := by
  have lowest (k : Nat) (other : k ≠ hKey 0x0B) : (s.count32Sat (hKey 0x0B) n).rd k = s.rd k :=
    (State.rd_wr _ _ _ _).trans (if_neg other)
  rw [State.scored, State.count32Sat_unreported, lowest _ (by decide), lowest _ (by decide), State.scored]

@[simp] theorem recommendPart_scored (code : Nat) (s : State) : (recommendPart code s).scored = s.scored := by
  have noted (t : State) (r : Nat) :
      (t.modHealth fun h => { h with recs := mset 0 h.recs code r }).scored = t.scored := rfl
  have expelled (t : State) (b : Nat) : (t.modHealth fun h => { h with lastExpel := some b }).scored = t.scored := rfl
  unfold recommendPart
  simp only [apply_ite State.scored, noted, expelled, State.recommend_scored, State.count32Sat_scored, ite_self]

/-! ## The commands of the health scores (R321 to R324) -/

/-- The state with every part's score as of now, at the start of a sub-window (R321). -/
def State.subwindowScored (s : State) : State :=
  s.modHealth fun h => { h with
    scores := partCodes.foldl (fun m c => mset 1000 m c (s.health.scoreNow c)) [],
    snaps := (h.shadow :: h.snaps).take 60, spotCycles := [], subStart := s.mgmt.ns }

theorem State.subwindowScored_score (s : State) {c : Nat} (mem : c ∈ partCodes) :
    s.subwindowScored.health.score c = s.health.scoreNow c :=
  (mget_foldl_mset 1000 s.health.scoreNow partCodes [] c).trans (if_pos mem)

/-- R321: the lowest score of all parts and a part that has it. -/
theorem State.subwindowScored_worst (s : State) :
    ∃ c ∈ partCodes, s.subwindowScored.health.worst = (s.health.scoreNow c, c) ∧
      ∀ k ∈ partCodes, s.health.scoreNow c ≤ s.health.scoreNow k := by
  obtain ⟨least, c, mem, worst⟩ := s.subwindowScored.health.worst_spec
  rw [s.subwindowScored_score mem] at worst
  rw [worst] at least
  exact ⟨c, mem, worst, fun k part => s.subwindowScored_score part ▸ least k part⟩

/-- R321, R323: at a sub-window's end the scores are formed, the lowest is named and each part may be recommended. -/
theorem healthSubwindowEndEff_of_due {s : State} (due : s.health.subStart + s.subWindow ≤ s.mgmt.ns) {low code : Nat}
    (worst : s.subwindowScored.health.worst = (low, code)) :
    healthSubwindowEndEff s = partCodes.foldl (fun t c => recommendPart c t)
      ((s.subwindowScored.wrN (hKey 1) low).wrN (hKey 2) code) := by
  unfold healthSubwindowEndEff
  extract_lets health scores t
  have named : t.health.worst = (low, code) := worst
  rw [if_neg due.not_gt, named]
  rfl

/-- R321: the end of a sub-window names a lowest score and a part that has it, and recommendations leave that alone. -/
theorem healthSubwindowEndEff_scored {s : State} (due : s.health.subStart + s.subWindow ≤ s.mgmt.ns) :
    ∃ c ∈ partCodes, (∀ k ∈ partCodes, s.health.scoreNow c ≤ s.health.scoreNow k) ∧
      ∃ t, healthSubwindowEndEff s = t ∧
        t.scored = (s.subwindowScored.unreported, BitVec.ofNat 64 (s.health.scoreNow c), BitVec.ofNat 64 c) := by
  obtain ⟨c, mem, worst, least⟩ := s.subwindowScored_worst
  refine ⟨c, mem, least, _, healthSubwindowEndEff_of_due due worst, ?_⟩
  rw [foldl_keeps State.scored fun t c => recommendPart_scored c t]
  simp only [State.scored, State.wrN_eq, State.wr_unreported, State.rd_wr, if_true, if_neg (show hKey 1 ≠ hKey 2 by decide)]

/-- What a state with the scores of now and the lowest of them shows. -/
theorem State.scores_of_scored_eq {s t : State} {c : Nat} (mem : c ∈ partCodes)
    (scored : t.scored = (s.subwindowScored.unreported, BitVec.ofNat 64 (s.health.scoreNow c), BitVec.ofNat 64 c)) :
    sameWork s t ∧ t.health.subStart = s.mgmt.ns ∧ (∀ k ∈ partCodes, t.health.score k = s.health.scoreNow k) ∧
      t.rdN (hKey 1) = s.health.scoreNow c ∧ t.rdN (hKey 2) = c := by
  obtain ⟨kept, named⟩ := Prod.mk.inj scored
  obtain ⟨score, part⟩ := Prod.mk.inj named
  obtain ⟨start, scores⟩ := State.scores_of_unreported_eq kept
  have bound := s.health.scoreNow_le c
  have small := lt_of_mem_partCodes mem
  refine ⟨(sameWork_of_unreported_eq kept :), start, fun k part => (congrFun scores k).trans (s.subwindowScored_score part), ?_, ?_⟩
  · rw [State.rdN, score, BitVec.toNat_ofNat]
    omega
  · rw [State.rdN, part, BitVec.toNat_ofNat]
    omega

theorem exec_healthSubwindowEnd_due {s : State} (due : s.health.subStart + s.subWindow ≤ s.mgmt.ns) :
    ∃ t, exec .healthSubwindowEnd s = .next t ∧ sameWork s t ∧ t.health.subStart = s.mgmt.ns ∧
      (∀ code ∈ partCodes, t.health.score code = s.health.scoreNow code ∧ t.rdN (hKey 1) ≤ s.health.scoreNow code) ∧
      ∃ code ∈ partCodes, t.rdN (hKey 1) = s.health.scoreNow code ∧ t.rdN (hKey 2) = code := by
  obtain ⟨c, mem, least, t, ended, scored⟩ := healthSubwindowEndEff_scored due
  obtain ⟨work, start, scores, lowest, part⟩ := State.scores_of_scored_eq mem scored
  exact ⟨t.withQueue s, congrArg s.outcome ended, work, start,
    fun k mem => ⟨scores k mem, lowest.trans_le (least k mem)⟩, c, mem, lowest, part⟩

theorem exec_healthSubwindowEnd_early {s : State} (early : s.mgmt.ns < s.health.subStart + s.subWindow) :
    exec .healthSubwindowEnd s = .next s := by
  have waits : healthSubwindowEndEff s = s := by
    unfold healthSubwindowEndEff
    extract_lets health
    rw [if_pos early]
  exact congrArg s.outcome waits

/-- R324: 1 puts the selected part in probation and 0 takes it out. -/
theorem exec_healthPartStateWrite_spec {via : Via} {v : Word} {s : State} (reached : s.reaches via 0x2400 5 = true)
    (small : v.toNat ≤ 1) :
    ∃ t, exec (.healthPartStateWrite via v) s = .next t ∧
      (∀ c, mget false t.health.probation c =
        if c = s.rdN (hKey 3) then v.toNat == 1 else mget false s.health.probation c) ∧ t.obj = s.obj ∧ sameWork s t := by
  have taken : healthPartStateWriteEff via v s = s.modHealth fun h => { h with
      probation := mset false h.probation (s.rdN (hKey 3)) (v.toNat == 1), recs := mset 0 h.recs (s.rdN (hKey 3)) 0 } := by
    rw [healthPartStateWriteEff, healthPartStateW, guardW, if_pos (decide_eq_true small), s.objWrite_ok reached]
  exact ⟨_, congrArg s.outcome taken, fun c => mget_mset .., rfl, sameWork_refl s⟩

/-- R324: any other value is refused. -/
theorem exec_healthPartStateWrite_refused {via : Via} {v : Word} {s : State} (large : 1 < v.toNat) :
    ∃ h, exec (.healthPartStateWrite via v) s = .next { s with host := h } := by
  obtain ⟨h, refused⟩ := s.objWrite_error_frame via 0x2400 5 .range
  have same : healthPartStateWriteEff via v s = { s with host := h } := by
    rw [healthPartStateWriteEff, healthPartStateW, guardW, if_neg (by simpa using large), refused]
  exact ⟨h, congrArg s.outcome same⟩

/-- R322: the compare of a sampled tile is counted, and a difference as a mismatch. -/
theorem spotCheckCompareEff_sampled {c : Core} (a b : Word) {s : State} (sampled : (s.core c).run.checked = true) :
    (spotCheckCompareEff c a b s).rd (hKey 0x10) = s.rd (hKey 0x10) + 1#64 ∧
    (spotCheckCompareEff c a b s).rd (hKey 0x11) = (if a = b then s.rd (hKey 0x11) else s.rd (hKey 0x11) + 1#64) ∧
    (spotCheckCompareEff c a b s).unreported =
      (s.modCore c fun x => { x with run := { x.run with checked := false } }).unreported := by
  unfold spotCheckCompareEff
  rw [if_neg (by simp [sampled])]
  extract_lets compared
  have samples : compared.rd (hKey 0x10) = s.rd (hKey 0x10) + 1#64 := (State.rd_count ..).trans (if_pos rfl)
  have mismatches : compared.rd (hKey 0x11) = s.rd (hKey 0x11) := (State.rd_count ..).trans (if_neg (by decide))
  have rest := State.count_unreported (s.modCore c fun x => { x with run := { x.run with checked := false } }) (hKey 0x10) 1
  split
  · exact ⟨samples, mismatches, rest⟩
  · have followed (t : State) (k n : Nat) : (t.shadowAdd k n).unreported = t.unreported := rfl
    refine ⟨?_, ?_, ?_⟩
    · exact ((compared.rd_count _ _ _).trans (if_neg (by decide))).trans samples
    · exact ((compared.rd_count _ _ _).trans (if_pos rfl)).trans (congrArg (· + 1#64) mismatches)
    · rw [followed, State.count_unreported, rest]

theorem exec_spotCheckCompare_sampled {c : Core} (a b : Word) {s : State} (sampled : (s.core c).run.checked = true) :
    ∃ t, exec (.spotCheckCompare c a b) s = .next t ∧ t.rd (hKey 0x10) = s.rd (hKey 0x10) + 1#64 ∧
      t.rd (hKey 0x11) = (if a = b then s.rd (hKey 0x11) else s.rd (hKey 0x11) + 1#64) ∧ (t.core c).run.checked = false ∧
      (∀ d, d ≠ c.val → t.core d = s.core d) ∧ t.mem = s.mem := by
  obtain ⟨samples, mismatches, rest⟩ := spotCheckCompareEff_sampled a b sampled
  obtain ⟨cores, mem, -⟩ := sameWork_of_unreported_eq rest
  refine ⟨_, rfl, samples, mismatches, ?_, fun d other => ?_, mem⟩
  · rw [State.withQueue_core, State.core_of_cores cores, State.core_modCore, if_pos rfl]
  · rw [State.withQueue_core, State.core_of_cores cores, State.core_modCore, if_neg other]

theorem exec_spotCheckCompare_unsampled {c : Core} (a b : Word) {s : State} (unsampled : (s.core c).run.checked = false) :
    exec (.spotCheckCompare c a b) s = .next s :=
  congrArg s.outcome (if_pos unsampled)

/-- Settles O43: an event lists one row of the suspect table, probes leave that table alone, and recommendations leave the scores
and the lowest of them alone. -/
theorem detectorAndHealth : Obligations.DetectorAndHealth := by
  refine ⟨⟨State.suspectEvent_enters, fun s a cause => ?_, fun s a partner => ⟨fun due => ?_, exec_partnerSilent_early partner⟩,
    fun j s active running => ⟨exec_probeSend_early, exec_probeSend_due active running⟩,
    fun pkt s => ⟨exec_probe_ask, fun answer => ⟨_, exec_probe_answer answer, rfl, rfl, sameWork_refl s⟩⟩,
    fun a s b owed => ⟨fun due => ?_, exec_probeTimeout_early owed⟩, fun via a s reached => ⟨?_, ?_⟩⟩,
    fun s => exec_healthSubwindowEnd_early, fun s => exec_healthSubwindowEnd_due,
    fun via v s reached => ⟨fun small => ?_, fun large => ?_⟩,
    fun c a b s => ⟨exec_spotCheckCompare_sampled a b, exec_spotCheckCompare_unsampled a b⟩⟩
  · obtain ⟨h, m, o, l, e⟩ := s.suspectEvent_frame a cause
    rw [e]
    exact ⟨rfl, rfl, rfl, sameWork_refl s⟩
  · obtain ⟨⟨l, health⟩, rest⟩ := s.suspectEvent_modHealth_spec (fun h => { h with lastTango := s.beatIx }) a 1 rfl
    exact ⟨_, exec_partnerSilent_due partner due, (congrArg HealthSt.lastTango health :), rest⟩
  · obtain ⟨⟨l, health⟩, rest⟩ := s.suspectEvent_modHealth_spec (fun h => { h with probes := dropProbe a h.probes }) a 3 rfl
    exact ⟨_, exec_probeTimeout_due owed due, (congrArg HealthSt.probes health :), rest⟩
  · obtain ⟨t, next, cleared, mem, rest⟩ := exec_trust_spec a reached
    exact ⟨t, next, cleared, mem, fun u cause same before => u.suspectEvent_of_trusted a cause (same ▸ mem) before, rest⟩
  · obtain ⟨t, next, marked, dead, none_owed, rest⟩ := exec_dead_spec a reached
    refine ⟨t, next, marked, none_owed, fun u w j same sent => ?_, rest⟩
    obtain rfl : (probeSendEff j u).withQueue u = w := Host.Outcome.next.inj sent
    exact probeSendEff_keeps_unprobed (same ▸ dead) (same ▸ none_owed)
  · obtain ⟨t, next, probation, obj, work⟩ := exec_healthPartStateWrite_spec reached small
    refine ⟨t, next, ?_, fun c other => (probation c).trans (if_neg other), obj, work⟩
    rw [probation, if_pos rfl, beq_iff_eq]
    exact ⟨fun one => BitVec.eq_of_toNat_eq one, congrArg BitVec.toNat⟩
  · obtain ⟨h, next⟩ := exec_healthPartStateWrite_refused large
    exact ⟨_, next, rfl, rfl, sameWork_refl s⟩

end Sys2Proof.Machine
end

section
/-! PROOFS. The management controller's CAN node (R371 to R391): what a count, a frame sent and an event leave alone, which
requests the node takes up and what it answers, and from these O49. -/

namespace Sys2Proof.Machine

/-! ## Counts -/

theorem sameWork_trans {s t u : State} (h : sameWork s t) (g : sameWork t u) : sameWork s u := by
  obtain ⟨h1, h2, h3, h4, h5, h6, h7, h8, h9⟩ := h
  obtain ⟨g1, g2, g3, g4, g5, g6, g7, g8, g9⟩ := g
  exact ⟨g1.trans h1, g2.trans h2, g3.trans h3, g4.trans h4, g5.trans h5, g6.trans h6, g7.trans h7, g8.trans h8, g9.trans h9⟩

@[simp] theorem State.count_mgmt (s : State) (k n : Nat) : (s.count k n).mgmt = s.mgmt := by
  obtain ⟨o, h, e⟩ := s.count_frame k n
  rw [e]

@[simp] theorem State.count_out (s : State) (k n : Nat) : (s.count k n).out = s.out := by
  obtain ⟨o, h, e⟩ := s.count_frame k n
  rw [e]

@[simp] theorem State.count_pow (s : State) (k n : Nat) : (s.count k n).pow = s.pow := by
  obtain ⟨o, h, e⟩ := s.count_frame k n
  rw [e]

@[simp] theorem State.count32Sat_mgmt (s : State) (k n : Nat) : (s.count32Sat k n).mgmt = s.mgmt := by
  unfold State.count32Sat State.countSat State.shadowOf
  split <;> rfl

/-- A saturating counter that has counted `n` more. -/
theorem State.rdN_count32Sat (s : State) (k n : Nat) : (s.count32Sat k n).rdN k = min (s.rdN k + n) (2 ^ 32 - 1) := by
  unfold State.count32Sat State.countSat
  have fits : min (s.rdN k + n) (2 ^ 32 - 1) < 2 ^ 64 := by omega
  rw [State.wrN_eq, State.rdN_eq, State.rd_wr, if_pos rfl, BitVec.toNat_ofNat, Nat.mod_eq_of_lt fits]

/-! ## Events (R365 to R367, R391) -/

theorem State.sendMsix_frame (s : State) (f v : Nat) : ∃ h o, s.sendMsix f v = { s with host := h, out := o } := by
  unfold State.sendMsix
  simp only []
  split
  · exact ⟨_, s.out, rfl⟩
  · exact ⟨_, _, rfl⟩

theorem State.signalPf_frame (s : State) (v : Nat) : ∃ h o, s.signalPf v = { s with host := h, out := o } := by
  unfold State.signalPf
  split
  · exact s.sendMsix_frame 0 v
  · exact ⟨s.host, _, rfl⟩

theorem State.signalPart_frame (s : State) (p k : Nat) : ∃ h o, s.signalPart p k = { s with host := h, out := o } := by
  unfold State.signalPart
  split
  · exact s.sendMsix_frame (p + 1) k
  split
  · exact s.sendMsix_frame 0 (16 + 8 * p + k)
  · exact ⟨s.host, _, rfl⟩

/-- A management event is its entry in the log, and the signal to the host. -/
theorem State.mgmtEvent_frame (s : State) (code : Nat) :
    ∃ h o, s.mgmtEvent code = { s.logEvent 4 0xFF code with host := h, out := o } :=
  State.signalPf_frame _ 2

/-- A partition's event is its entry in the log, and the signal to the host. -/
theorem State.event_logEvent (s : State) (p k : Nat) : ∃ h o, s.event p k = { s.logEvent 3 p k with host := h, out := o } :=
  State.signalPart_frame _ p k

/-- An event is queued where fewer than 32 wait. -/
theorem State.logEvent_evQueue_of_lt (s : State) (cls part code : Nat) (room : s.mgmt.evQueue.length < 32) :
    (s.logEvent cls part code).mgmt.evQueue = s.mgmt.evQueue ++ [⟨cls, part, code, s.mgmt.evSeq, s.beat⟩] :=
  if_neg (by simpa using room)

/-- An event that finds 32 waiting is lost, and noted as lost. -/
theorem State.logEvent_evQueue_of_le (s : State) (cls part code : Nat) (full : 32 ≤ s.mgmt.evQueue.length) :
    (s.logEvent cls part code).mgmt.evQueue = s.mgmt.evQueue ∧ (s.logEvent cls part code).mgmt.evLost = true :=
  ⟨if_pos (by simpa using full), by simp [State.logEvent, full]⟩

/-! ## Frames sent and received -/

@[simp] theorem State.sendCan_out (s : State) (id : Nat) (bytes : List Byte) :
    (s.sendCan id bytes).out = s.out ++ [.can id bytes] := State.count_out _ _ _

@[simp] theorem State.sendCan_mgmt (s : State) (id : Nat) (bytes : List Byte) : (s.sendCan id bytes).mgmt = s.mgmt :=
  State.count_mgmt _ _ _

@[simp] theorem State.sendCan_unreported (s : State) (id : Nat) (bytes : List Byte) :
    (s.sendCan id bytes).unreported = s.unreported := State.count_unreported _ _ _

theorem State.sendCan_rd (s : State) (id : Nat) (bytes : List Byte) (k : Nat) :
    (s.sendCan id bytes).rd k = if k = idKey 0x16 then s.rd (idKey 0x16) + 1#64 else s.rd k := State.rd_count _ _ _ _

/-- A response changes what leaves the device, and with it the count of frames sent (R375). -/
theorem State.respond_spec (s : State) (bytes : List Byte) :
    (s.respond bytes).out = (if s.maySend then s.out ++ [.can (0x200 + s.nodeId) bytes] else s.out) ∧
    (s.respond bytes).mgmt = s.mgmt ∧ (∀ k, k ≠ idKey 0x16 → (s.respond bytes).rd k = s.rd k) ∧
    sameWork s (s.respond bytes) := by
  unfold State.respond
  split
  · exact ⟨s.sendCan_out _ _, s.sendCan_mgmt _ _, fun k other => (s.sendCan_rd _ _ k).trans (if_neg other),
      sameWork_of_unreported_eq (s.sendCan_unreported _ _)⟩
  · exact ⟨rfl, rfl, fun _ _ => rfl, sameWork_refl s⟩

/-- The controller's records, and the queue of commands, are no part of the work. -/
theorem sameWork_modMgmt {s t : State} (h : sameWork s t) (f : MgmtSt → MgmtSt) : sameWork s (t.modMgmt f) := h

theorem sameWork_withQueue {s t : State} (h : sameWork s t) (u : State) : sameWork s (t.withQueue u) := h

@[simp] theorem State.modMgmt_mgmt (s : State) (f : MgmtSt → MgmtSt) : (s.modMgmt f).mgmt = f s.mgmt := rfl

/-- The state in which a request is answered that arrives with none waiting (R376): it has been counted. -/
def State.received (s : State) : State := s.rxCan.modMgmt fun m => { m with queue := [] }

theorem State.received_rd (s : State) (k : Nat) :
    s.received.rd k = if k = idKey 0x15 then s.rd (idKey 0x15) + 1#64 else s.rd k := State.rd_count _ _ _ _

@[simp] theorem State.received_mgmt (s : State) : s.received.mgmt = { s.mgmt with queue := [] } := by
  simp [State.received, State.rxCan, State.modMgmt]

@[simp] theorem State.received_out (s : State) : s.received.out = s.out := State.count_out _ _ _

theorem State.received_sameWork (s : State) : sameWork s s.received := sameWork_of_unreported_eq (State.count_unreported _ _ _)

@[simp] theorem State.received_nodeId (s : State) : s.received.nodeId = s.nodeId := by
  simp [State.nodeId, State.received_rd, idKey, objKey]

@[simp] theorem State.received_maySend (s : State) : s.received.maySend = s.maySend := by
  have powered : s.received.pow = s.pow := State.count_pow _ _ _
  simp [State.maySend, State.onBus, powered]

/-! ## Which requests are taken up (R374, R376, R379) -/

/-- A request to another node, or to a node that is off the bus or has no ID, does nothing. -/
theorem State.canFrame_of_not_addressed {s : State} {r : CanRequest}
    (h : s.onBus = false ∨ s.nodeId = 0 ∨ (r.node.toNat ≠ 0 ∧ r.node.toNat ≠ s.nodeId)) : s.canFrame r = s := if_pos h

/-- A broadcast other than a WRITE is counted as ignored. -/
theorem State.canFrame_of_broadcast {s : State} {r : CanRequest} (on : s.onBus = true) (named : s.nodeId ≠ 0)
    (broadcast : r.node = 0#7) (other : r.cmd.toNat ≠ 2) : s.canFrame r = s.ignoreCan := by
  rw [State.canFrame, if_neg (by simp [on, named, broadcast]), if_pos ⟨broadcast, other⟩]

/-- A request that names a node with an ID is no broadcast. -/
theorem node_ne_zero_of_named {s : State} {r : CanRequest} (named : s.nodeId ≠ 0) (mine : r.node.toNat = s.nodeId) : r.node ≠ 0 :=
  fun broadcast => named (by rw [← mine, broadcast]; rfl)

/-- A request for the node that finds none waiting is answered at once. -/
theorem State.canFrame_eq_answer {s : State} {r : CanRequest} (on : s.onBus = true) (named : s.nodeId ≠ 0)
    (idle : s.mgmt.queue = []) (mine : r.node.toNat = s.nodeId ∨ r.node = 0#7 ∧ r.cmd.toNat = 2) :
    s.canFrame r = s.received.answer r := by
  have addressed : ¬(s.onBus = false ∨ s.nodeId = 0 ∨ (r.node.toNat ≠ 0 ∧ r.node.toNat ≠ s.nodeId)) := by
    rcases mine with mine | ⟨broadcast, -⟩
    · simp [on, named, mine]
    · simp [on, named, broadcast]
  have heeded : ¬(r.node = 0 ∧ r.cmd.toNat ≠ 2) := by
    rintro ⟨broadcast, other⟩
    rcases mine with mine | ⟨-, write⟩
    · exact node_ne_zero_of_named named mine broadcast
    · exact other write
  rw [State.canFrame, if_neg addressed, if_neg heeded, if_neg (by simp [idle]), idle]
  rfl

theorem State.answer_of_cmd_eq_one {r : CanRequest} (h : r.cmd.toNat = 1) (s : State) : s.answer r = s.answerRead r := by
  simp only [State.answer, h]

theorem State.answer_of_cmd_eq_two {r : CanRequest} (h : r.cmd.toNat = 2) (s : State) : s.answer r = s.answerWrite r := by
  simp only [State.answer, h]

theorem State.answer_of_cmd_eq_three {r : CanRequest} (h : r.cmd.toNat = 3) (s : State) : s.answer r = s.answerReadSeg r := by
  simp only [State.answer, h]

theorem State.answer_of_cmd_eq_four {r : CanRequest} (h : r.cmd.toNat = 4) (s : State) : s.answer r = s.answerWriteSeg r := by
  simp only [State.answer, h]

/-- The state after a request that does nothing, by whichever of the four commands it comes. -/
theorem exec_request_of_canFrame_self {r : CanRequest} {s : State} (h : s.canFrame r = s) :
    exec (.canRead r) s = .next s ∧ exec (.canWrite r) s = .next s ∧ exec (.canReadSeg r) s = .next s ∧
      exec (.canWriteSeg r) s = .next s := by
  have next {eff : State} (self : eff = s) : s.outcome eff = .next s := by rw [self]; rfl
  refine ⟨next ?_, next ?_, next ?_, next ?_⟩
  · rw [canReadEff, h, ite_self]
  · rw [canWriteEff, h, ite_self]
  · rw [canReadSegEff, h, ite_self]
  · rw [canWriteSegEff, h, ite_self]

/-! ## READ and READ_SEG (R375, R377, R378) -/

theorem exec_canRead_of_cmd {r : CanRequest} (read : r.cmd.toNat = 1) (s : State) :
    exec (.canRead r) s = .next ((s.canFrame r).withQueue s) := by
  show s.outcome (canReadEff r s) = _
  rw [canReadEff, if_neg (by omega)]
  rfl

theorem exec_canReadSeg_of_cmd {r : CanRequest} (read : r.cmd.toNat = 3) (s : State) :
    exec (.canReadSeg r) s = .next ((s.canFrame r).withQueue s) := by
  show s.outcome (canReadSegEff r s) = _
  rw [canReadSegEff, if_pos read]
  rfl

/-- The state with the serial of free values at `n`. -/
def State.atSerial (s : State) (n : Nat) : State := { s with freeCtr := n }

/-- Reading an object moves the serial of free values at most. -/
theorem State.objValue_frame (s : State) (o : ObjSpec) (index sub : Nat) :
    ∃ n, (s.objValue o index sub).2 = s.atSerial n := by
  unfold State.objValue
  split
  · exact ⟨s.freeCtr, rfl⟩
  split
  · exact ⟨_, rfl⟩
  · exact ⟨s.freeCtr, rfl⟩

theorem State.answerRead_of_num {s : State} {r : CanRequest} {o : ObjSpec} (found : objSpec r.index.toNat r.sub.toNat = some o)
    (readable : o.acc ≠ .wo) (num : o.kind = .num) (opened : s.objOpen r.index.toNat r.sub.toNat false = true) :
    s.answerRead r = (s.objValue o r.index.toNat r.sub.toNat).2.respond
      (respHead r .ok o.size ++ leBytes 8 (s.objValue o r.index.toNat r.sub.toNat).1) := by
  simp only [State.answerRead, found, if_neg readable, opened, if_pos num, Bool.true_eq_false, if_false]

theorem State.answerReadSeg_of_fits {s : State} {r : CanRequest} {o : ObjSpec} {n : Nat} {byte : Nat → Byte}
    (found : objSpec r.index.toNat r.sub.toNat = some o) (domain : s.domain r.index.toNat r.sub.toNat = some (n, byte))
    (opened : s.objOpen r.index.toNat r.sub.toNat false = true) (fits : segFits r n = true) :
    s.answerReadSeg r =
      s.respond (respSeg r .ok true ((List.range (segCountOf r)).map fun i => byte (segOffset r + i))) := by
  simp only [State.answerReadSeg, found, domain, opened, fits, Bool.true_eq_false, if_false]

/-- A request that is answered without any other effect is counted, and its response goes out unless the node is in conflict. -/
theorem State.received_respond_spec {s : State} (on : s.onBus = true) (named : s.nodeId ≠ 0) (n : Nat) (bytes : List Byte) :
    let t := (s.received.atSerial n).respond bytes
    t.rd (idKey 0x15) = s.rd (idKey 0x15) + 1#64 ∧ t.mgmt.queue = [] ∧ sameWork s t ∧
      (s.mgmt.conflict = false → t.out = s.out ++ [.can (0x200 + s.nodeId) bytes]) ∧
      (s.mgmt.conflict = true → t.out = s.out) := by
  obtain ⟨out, mgmt, rd, work⟩ := (s.received.atSerial n).respond_spec bytes
  have speaks : (s.received.atSerial n).maySend = !s.mgmt.conflict :=
    s.received_maySend.trans (by simp [State.maySend, on, named])
  have id : (s.received.atSerial n).nodeId = s.nodeId := s.received_nodeId
  refine ⟨(rd _ (by decide)).trans ((s.received_rd _).trans (if_pos rfl)), ?_, sameWork_trans s.received_sameWork work,
    fun quiet => ?_, fun conflict => ?_⟩
  · rw [mgmt]
    exact congrArg MgmtSt.queue s.received_mgmt
  · rw [out, speaks, quiet, id]
    exact congrArg (· ++ _) s.received_out
  · rw [out, speaks, conflict]
    exact s.received_out

/-! ## WRITE and WRITE_SEG (R375, R377 to R379) -/

theorem exec_canWrite_of_cmd {r : CanRequest} (write : r.cmd.toNat = 2) (s : State) :
    exec (.canWrite r) s = .next ((s.canFrame r).withQueue s) := by
  show s.outcome (canWriteEff r s) = _
  rw [canWriteEff, if_pos write]
  rfl

theorem exec_canWriteSeg_of_cmd {r : CanRequest} (write : r.cmd.toNat = 4) (s : State) :
    exec (.canWriteSeg r) s = .next ((s.canFrame r).withQueue s) := by
  show s.outcome (canWriteSegEff r s) = _
  rw [canWriteSegEff, if_pos write]
  rfl

theorem WStatus.code_le (e : WStatus) : e.code ≤ 6 := by
  cases e <;> decide

/-- The word that records a refused broadcast (R379). -/
def refusedWord (r : CanRequest) (e : WStatus) : Nat := 2 ^ 31 + e.code * 2 ^ 24 + r.index.toNat * 2 ^ 8 + r.sub.toNat

theorem refusedWord_bounds (r : CanRequest) (e : WStatus) : 2 ^ 31 ≤ refusedWord r e ∧ refusedWord r e < 2 ^ 32 := by
  have code := e.code_le
  have index := r.index.isLt
  have sub := r.sub.isLt
  unfold refusedWord
  omega

/-- A word between 2^31 and 2^32 has its bit 31 set. -/
theorem bit_31_of_bounds {v : Nat} (lo : 2 ^ 31 ≤ v) (hi : v < 2 ^ 32) : bit (BitVec.ofNat 64 v) 31 = true := by
  rw [bit, BitVec.getLsbD_ofNat, Nat.testBit_eq_decide_div_mod_eq]
  simp only [Bool.and_eq_true, decide_eq_true_eq]
  omega

/-- A broadcast that is refused while one is recorded leaves the record as it is. -/
theorem State.noteBroadcast_of_recorded {s : State} (r : CanRequest) (e : WStatus) (recorded : bit (s.rd (idKey 0x1C)) 31 = true) :
    s.noteBroadcast r e = s := if_pos recorded

/-- The first refused broadcast is recorded. -/
theorem State.noteBroadcast_of_clear {s : State} (r : CanRequest) (e : WStatus) (clear : bit (s.rd (idKey 0x1C)) 31 = false) :
    s.noteBroadcast r e = s.wr (idKey 0x1C) (BitVec.ofNat 64 (refusedWord r e)) := if_neg (by simp [clear])

/-- R379: after a refused broadcast one is recorded, and it is this one where none was. -/
theorem State.noteBroadcast_spec (s : State) (r : CanRequest) (e : WStatus) :
    (s.noteBroadcast r e).out = s.out ∧ sameWork s (s.noteBroadcast r e) ∧ bit ((s.noteBroadcast r e).rd (idKey 0x1C)) 31 = true ∧
      (bit (s.rd (idKey 0x1C)) 31 = false → (s.noteBroadcast r e).rdN (idKey 0x1C) = refusedWord r e) ∧
      ∀ k, k ≠ idKey 0x1C → (s.noteBroadcast r e).rd k = s.rd k := by
  obtain ⟨lo, hi⟩ := refusedWord_bounds r e
  cases recorded : bit (s.rd (idKey 0x1C)) 31 with
  | true =>
    rw [State.noteBroadcast_of_recorded r e recorded]
    exact ⟨rfl, sameWork_refl s, recorded, fun clear => Bool.noConfusion clear, fun _ _ => rfl⟩
  | false =>
    rw [State.noteBroadcast_of_clear r e recorded, State.rdN_eq, State.rd_wr, if_pos rfl]
    refine ⟨s.wr_out _ _, sameWork_of_unreported_eq (s.wr_unreported _ _), bit_31_of_bounds lo hi, fun _ => ?_,
      fun k other => (State.rd_wr _ _ _ _).trans (if_neg other)⟩
    exact (BitVec.toNat_ofNat _ _).trans (Nat.mod_eq_of_lt (hi.trans (by decide)))

/-! ## Requests that name the node -/

section Named
variable {r : CanRequest} {s : State} (on : s.onBus = true) (named : s.nodeId ≠ 0) (idle : s.mgmt.queue = [])
  (mine : r.node.toNat = s.nodeId)
include on named idle mine

theorem exec_canRead_spec {o : ObjSpec} (read : r.cmd.toNat = 1) (found : objSpec r.index.toNat r.sub.toNat = some o)
    (readable : o.acc ≠ .wo) (num : o.kind = .num) (opened : s.received.objOpen r.index.toNat r.sub.toNat false = true) :
    ∃ t, exec (.canRead r) s = .next t ∧ t.rd (idKey 0x15) = s.rd (idKey 0x15) + 1#64 ∧ t.mgmt.queue = [] ∧ sameWork s t ∧
      (s.mgmt.conflict = false → t.out = s.out ++ [.can (0x200 + s.nodeId)
        (respHead r .ok o.size ++ leBytes 8 (s.received.objValue o r.index.toNat r.sub.toNat).1)]) ∧
      (s.mgmt.conflict = true → t.out = s.out) := by
  obtain ⟨n, valued⟩ := s.received.objValue_frame o r.index.toNat r.sub.toNat
  refine ⟨_, exec_canRead_of_cmd read s, ?_⟩
  rw [State.canFrame_eq_answer on named idle (.inl mine), State.answer_of_cmd_eq_one read,
    State.answerRead_of_num found readable num opened, valued]
  exact State.received_respond_spec on named n _

theorem exec_canReadSeg_spec {o : ObjSpec} {n : Nat} {byte : Nat → Byte} (read : r.cmd.toNat = 3)
    (found : objSpec r.index.toNat r.sub.toNat = some o) (domain : s.received.domain r.index.toNat r.sub.toNat = some (n, byte))
    (opened : s.received.objOpen r.index.toNat r.sub.toNat false = true) (fits : segFits r n = true) :
    ∃ t, exec (.canReadSeg r) s = .next t ∧ t.rd (idKey 0x15) = s.rd (idKey 0x15) + 1#64 ∧ t.mgmt.queue = [] ∧ sameWork s t ∧
      (s.mgmt.conflict = false → t.out = s.out ++ [.can (0x200 + s.nodeId) (respSeg r .ok true
        ((List.range (segCountOf r)).map fun i => byte (segOffset r + i)))]) ∧
      (s.mgmt.conflict = true → t.out = s.out) := by
  refine ⟨_, exec_canReadSeg_of_cmd read s, ?_⟩
  rw [State.canFrame_eq_answer on named idle (.inl mine), State.answer_of_cmd_eq_three read,
    State.answerReadSeg_of_fits found domain opened fits]
  exact State.received_respond_spec on named s.received.freeCtr _

theorem exec_canWrite_ok {t : State} (write : r.cmd.toNat = 2) (taken : s.received.writeOutcome r = .ok t) :
    exec (.canWrite r) s = .next ((t.respond (respHead r .ok 0 ++ leBytes 8 0)).withQueue s) := by
  rw [exec_canWrite_of_cmd write, State.canFrame_eq_answer on named idle (.inl mine), State.answer_of_cmd_eq_two write,
    State.answerWrite, taken]
  simp only [if_neg (node_ne_zero_of_named named mine)]

theorem exec_canWrite_error {e : WStatus} (write : r.cmd.toNat = 2) (refused : s.received.writeOutcome r = .error e) :
    ∃ t, exec (.canWrite r) s = .next t ∧ sameWork s t ∧ ∀ k, k ≠ idKey 0x15 → k ≠ idKey 0x16 → t.rd k = s.rd k := by
  obtain ⟨-, -, rd, work⟩ := s.received.respond_spec (respHead r e 0 ++ leBytes 8 0)
  refine ⟨_, exec_canWrite_of_cmd write s, ?_⟩
  rw [State.canFrame_eq_answer on named idle (.inl mine), State.answer_of_cmd_eq_two write, State.answerWrite, refused]
  simp only [if_neg (node_ne_zero_of_named named mine)]
  exact ⟨sameWork_trans s.received_sameWork work,
    fun k uncounted unsent => (rd k unsent).trans ((s.received_rd k).trans (if_neg uncounted))⟩

theorem exec_canWriteSeg_ok {t : State} (write : r.cmd.toNat = 4) (taken : s.received.segOutcome r = .ok t) :
    exec (.canWriteSeg r) s = .next ((t.respond (respSeg r .ok false [])).withQueue s) := by
  rw [exec_canWriteSeg_of_cmd write, State.canFrame_eq_answer on named idle (.inl mine), State.answer_of_cmd_eq_four write,
    State.answerWriteSeg, taken]

theorem exec_canWriteSeg_error {e : WStatus} (write : r.cmd.toNat = 4) (refused : s.received.segOutcome r = .error e) :
    ∃ t, exec (.canWriteSeg r) s = .next t ∧ t.mgmt.staging = s.mgmt.staging ∧ sameWork s t := by
  obtain ⟨-, mgmt, -, work⟩ := s.received.respond_spec (respSeg r e false [])
  refine ⟨_, exec_canWriteSeg_of_cmd write s, ?_⟩
  rw [State.canFrame_eq_answer on named idle (.inl mine), State.answer_of_cmd_eq_four write, State.answerWriteSeg, refused]
  refine ⟨?_, sameWork_trans s.received_sameWork work⟩
  show (s.received.respond _).mgmt.staging = _
  rw [mgmt, State.received_mgmt]

end Named

/-! ## Broadcasts (R379) -/

section Broadcast
variable {r : CanRequest} {s : State} (on : s.onBus = true) (named : s.nodeId ≠ 0) (broadcast : r.node = 0#7)
include on named broadcast

theorem exec_broadcast_ignored :
    (r.cmd = 1 → exec (.canRead r) s = .next ((s.count (idKey 0x17) 1).withQueue s)) ∧
    (r.cmd = 3 → exec (.canReadSeg r) s = .next ((s.count (idKey 0x17) 1).withQueue s)) ∧
    (r.cmd = 4 → exec (.canWriteSeg r) s = .next ((s.count (idKey 0x17) 1).withQueue s)) := by
  have ignored (other : r.cmd.toNat ≠ 2) : s.canFrame r = s.count (idKey 0x17) 1 :=
    State.canFrame_of_broadcast on named broadcast other
  refine ⟨fun h => ?_, fun h => ?_, fun h => ?_⟩
  · rw [exec_canRead_of_cmd (by rw [h]; rfl), ignored (by rw [h]; decide)]
  · rw [exec_canReadSeg_of_cmd (by rw [h]; rfl), ignored (by rw [h]; decide)]
  · rw [exec_canWriteSeg_of_cmd (by rw [h]; rfl), ignored (by rw [h]; decide)]

variable (idle : s.mgmt.queue = [])
include idle

theorem exec_canWrite_broadcast_ok {t : State} (write : r.cmd.toNat = 2) (taken : s.received.writeOutcome r = .ok t) :
    exec (.canWrite r) s = .next (t.withQueue s) := by
  rw [exec_canWrite_of_cmd write, State.canFrame_eq_answer on named idle (.inr ⟨broadcast, write⟩),
    State.answer_of_cmd_eq_two write, State.answerWrite, taken]
  exact congrArg (fun u : State => Host.Outcome.next (u.withQueue s)) (if_pos broadcast)

theorem exec_canWrite_broadcast_error {e : WStatus} (write : r.cmd.toNat = 2) (refused : s.received.writeOutcome r = .error e) :
    ∃ t, exec (.canWrite r) s = .next t ∧ t.out = s.out ∧ sameWork s t ∧ bit (t.rd (idKey 0x1C)) 31 = true ∧
      (bit (s.rd (idKey 0x1C)) 31 = false →
        t.rdN (idKey 0x1C) = 2 ^ 31 + e.code * 2 ^ 24 + r.index.toNat * 2 ^ 8 + r.sub.toNat) ∧
      ∀ k, k ≠ idKey 0x15 → k ≠ idKey 0x1C → t.rd k = s.rd k := by
  have noted : s.canFrame r = s.received.noteBroadcast r e := by
    rw [State.canFrame_eq_answer on named idle (.inr ⟨broadcast, write⟩), State.answer_of_cmd_eq_two write, State.answerWrite,
      refused]
    exact if_pos broadcast
  have uncounted {k : Nat} (h : k ≠ idKey 0x15) : s.received.rd k = s.rd k := (s.received_rd k).trans (if_neg h)
  obtain ⟨out, work, valid, value, rd⟩ := s.received.noteBroadcast_spec r e
  refine ⟨_, exec_canWrite_of_cmd write s, ?_⟩
  rw [noted]
  refine ⟨out.trans s.received_out, sameWork_trans s.received_sameWork work, valid,
    fun clear => value ?_, fun k notRx notNote => (rd k notNote).trans (uncounted notRx)⟩
  rw [uncounted (by decide), clear]

end Broadcast

/-! ## Heartbeats and events (R382, R387 to R391) -/

theorem exec_canFrameIgnored_spec (w : IgnoredFrame) {s : State} (on : s.onBus = true) :
    ∃ t, exec (.canFrameIgnored w) s = .next t ∧ t.rd (idKey 0x17) = s.rd (idKey 0x17) + 1#64 ∧
      (∀ k, k ≠ idKey 0x17 → t.rd k = s.rd k) ∧ t.out = s.out ∧ t.mgmt = s.mgmt ∧ sameWork s t := by
  have ignored : canFrameIgnoredEff w s = s.count (idKey 0x17) 1 := if_pos on
  refine ⟨_, rfl, ?_⟩
  rw [ignored]
  exact ⟨by simp [State.rd_count], fun k other => by simp [State.rd_count, other], by simp, by simp,
    sameWork_withQueue (sameWork_of_unreported_eq (s.count_unreported _ _)) s⟩

theorem exec_heartbeatSend_due {s : State} (may : s.maySend = true) (period : s.rdN (idKey 0x19) ≠ 0)
    (due : s.mgmt.hbAt + s.rdN (idKey 0x19) * 10 ^ 6 ≤ s.mgmt.ns) :
    ∃ t, exec .heartbeatSend s = .next t ∧ t.out = s.out ++ [.can (0x700 + s.nodeId) s.heartbeat] ∧
      t.mgmt.hbCount = s.mgmt.hbCount + 1#8 ∧ t.mgmt.hbAt = s.mgmt.ns ∧ t.rd (idKey 0x16) = s.rd (idKey 0x16) + 1#64 ∧
      sameWork s t := by
  have sent : heartbeatSendEff s = (s.sendCan (0x700 + s.nodeId) s.heartbeat).modMgmt fun m =>
      { m with hbCount := m.hbCount + 1, hbAt := m.ns } :=
    if_neg (by simp only [may, Bool.true_eq_false, false_or]; omega)
  refine ⟨_, rfl, ?_⟩
  rw [sent]
  exact ⟨by simp, by simp, by simp, by simp [State.sendCan_rd],
    sameWork_withQueue (sameWork_modMgmt (sameWork_of_unreported_eq (s.sendCan_unreported _ _)) _) s⟩

theorem exec_heartbeatSend_silent {s : State} (silent : s.maySend = false) : exec .heartbeatSend s = .next s :=
  congrArg s.outcome (show heartbeatSendEff s = s from if_pos (.inl silent))

theorem eventFrameSendEff_of_silent {s : State} (silent : s.maySend = false) : eventFrameSendEff s = s := by
  unfold eventFrameSendEff
  simp only [silent, true_or, if_true]
  cases s.mgmt.evQueue <;> rfl

theorem exec_eventFrameSend_silent {s : State} (silent : s.maySend = false) : exec .eventFrameSend s = .next s :=
  congrArg s.outcome (eventFrameSendEff_of_silent silent)

theorem eventFrameSendEff_of_due {s : State} {e : EventEntry} {es : List EventEntry} (queued : s.mgmt.evQueue = e :: es)
    (may : s.maySend = true) (due : ∀ t0, s.mgmt.evAt = some t0 → t0 + s.rdN (idKey 0x1B) * 10 ^ 6 ≤ s.mgmt.ns) :
    eventFrameSendEff s = (s.sendCan (0x080 + s.nodeId) (eventBytes e s.mgmt.evLost)).modMgmt fun m =>
      { m with evQueue := es, evLost := false, evAt := some m.ns } := by
  unfold eventFrameSendEff
  simp only [queued]
  cases last : s.mgmt.evAt with
  | none => exact if_neg (by simp [may])
  | some t0 =>
    have late := due t0 last
    exact if_neg (by simpa only [may, decide_eq_true_eq, Bool.true_eq_false, false_or, not_lt] using late)

theorem exec_eventFrameSend_due {s : State} {e : EventEntry} {es : List EventEntry} (queued : s.mgmt.evQueue = e :: es)
    (may : s.maySend = true) (due : ∀ t0, s.mgmt.evAt = some t0 → t0 + s.rdN (idKey 0x1B) * 10 ^ 6 ≤ s.mgmt.ns) :
    ∃ t, exec .eventFrameSend s = .next t ∧ t.mgmt.evQueue = es ∧ t.mgmt.evLost = false ∧
      t.out = s.out ++ [.can (0x080 + s.nodeId) (eventBytes e s.mgmt.evLost)] ∧ sameWork s t := by
  refine ⟨_, rfl, ?_⟩
  rw [eventFrameSendEff_of_due queued may due]
  exact ⟨by simp, by simp, by simp,
    sameWork_withQueue (sameWork_modMgmt (sameWork_of_unreported_eq (s.sendCan_unreported _ _)) _) s⟩

theorem exec_controllerHeartbeat_spec {s : State} (on : s.onBus = true) (named : s.nodeId ≠ 0) :
    ∃ t, exec .controllerHeartbeat s = .next t ∧ t.mgmt.ctrlLost = false ∧ t.mgmt.ctrlHbAt = s.mgmt.ns ∧ sameWork s t := by
  have heard : controllerHeartbeatEff s = s.rxCan.modMgmt fun m => { m with ctrlHbAt := m.ns, ctrlLost := false } :=
    if_neg (by simp [on, named])
  refine ⟨_, rfl, ?_⟩
  rw [heard]
  exact ⟨by simp, by simp [State.rxCan],
    sameWork_withQueue (sameWork_modMgmt (sameWork_of_unreported_eq (s.count_unreported _ _)) _) s⟩

theorem exec_ctrlHbTimeout_due {s : State} (powered : s.pow.mode ≠ .off) (running : s.mgmt.restarting = false)
    (period : s.rdN (idKey 0x1A) ≠ 0) (heard : s.mgmt.ctrlLost = false)
    (due : s.mgmt.ctrlHbAt + s.rdN (idKey 0x1A) * 10 ^ 6 ≤ s.mgmt.ns) :
    ∃ t, exec .ctrlHbTimeout s = .next t ∧ t.mgmt.ctrlLost = true ∧
      t.mgmt.log.head? = some ⟨4, 0xFF, 2, s.mgmt.evSeq, s.beat⟩ ∧ sameWork s t ∧ t.obj = s.obj ∧
      t = { s with mgmt := t.mgmt, host := t.host, out := t.out } := by
  have lost : ctrlHbTimeoutEff s = State.mgmtEvent (s.modMgmt fun m => { m with ctrlLost := true }) 2 :=
    if_neg (by simp only [powered, running, heard, Bool.false_eq_true, false_or]; omega)
  obtain ⟨h, o, event⟩ := (s.modMgmt fun m => { m with ctrlLost := true }).mgmtEvent_frame 2
  refine ⟨_, rfl, ?_⟩
  rw [lost, event]
  exact ⟨rfl, rfl, sameWork_refl s, rfl, rfl⟩

theorem exec_ctrlHbTimeout_lost {s : State} (lost : s.mgmt.ctrlLost = true) : exec .ctrlHbTimeout s = .next s :=
  congrArg s.outcome (show ctrlHbTimeoutEff s = s from if_pos (.inr (.inr (.inr (.inl lost)))))

theorem exec_barzarEvent_part (p : Part) {code : Nat} {s : State} (powered : s.pow.mode ≠ .off)
    (running : s.mgmt.restarting = false) (defined : code < 8) :
    ∃ t, exec (.barzarEvent 3 (some p) code) s = .next t ∧ t.mgmt.log.head? = some ⟨3, p, code, s.mgmt.evSeq, s.beat⟩ ∧
      t.mgmt.evSeq = s.mgmt.evSeq + 1#32 ∧
      (s.mgmt.evQueue.length < 32 → t.mgmt.evQueue.length = s.mgmt.evQueue.length + 1) ∧
      (32 ≤ s.mgmt.evQueue.length → t.mgmt.evQueue = s.mgmt.evQueue ∧ t.mgmt.evLost = true) ∧ t.obj = s.obj ∧ sameWork s t := by
  have raised : barzarEventEff 3 (some p) code s = s.event p code := by
    unfold barzarEventEff
    rw [if_neg (by simp [powered, running])]
    exact if_pos defined
  obtain ⟨h, o, event⟩ := s.event_logEvent p code
  refine ⟨_, rfl, ?_⟩
  rw [raised, event]
  refine ⟨rfl, rfl, fun room => ?_, s.logEvent_evQueue_of_le 3 p code, rfl, sameWork_refl s⟩
  exact (congrArg List.length (s.logEvent_evQueue_of_lt 3 p code room)).trans List.length_append

/-! ## Error states and saves (R371, R382) -/

theorem exec_canBusError_tx_of_le {n : Nat} {s : State} (on : s.onBus = true) (few : s.mgmt.txErr + n ≤ 255) :
    ∃ t, exec (.canBusError (.tx n)) s = .next t ∧ t.mgmt.txErr = s.mgmt.txErr + n ∧ t.mgmt.busOff = false ∧ t.obj = s.obj ∧
      sameWork s t := by
  have counted : canBusErrorEff (.tx n) s = s.modMgmt fun m =>
      { m with txErr := min (s.mgmt.txErr + n) 255, busOff := decide (255 < s.mgmt.txErr + n) } := by
    rw [canBusErrorEff, if_neg (by simp [on])]
    exact if_neg (by omega)
  refine ⟨_, rfl, ?_⟩
  rw [counted]
  exact ⟨Nat.min_eq_left few, decide_eq_false (by omega), rfl, sameWork_refl s⟩

theorem exec_canBusError_tx_of_lt {n : Nat} {s : State} (on : s.onBus = true) (many : 255 < s.mgmt.txErr + n) :
    ∃ t, exec (.canBusError (.tx n)) s = .next t ∧ t.mgmt.busOff = true ∧
      t.rdN (idKey 0x18) = min (s.rdN (idKey 0x18) + 1) (2 ^ 32 - 1) ∧ sameWork s t := by
  have off : canBusErrorEff (.tx n) s = (s.modMgmt fun m =>
      { m with txErr := min (s.mgmt.txErr + n) 255, busOff := decide (255 < s.mgmt.txErr + n) }).count32Sat (idKey 0x18) 1 := by
    rw [canBusErrorEff, if_neg (by simp [on])]
    exact if_pos many
  refine ⟨_, rfl, ?_⟩
  rw [off]
  refine ⟨?_, State.rdN_count32Sat _ _ 1, (sameWork_of_unreported_eq (State.count32Sat_unreported _ _ _) :)⟩
  exact (congrArg MgmtSt.busOff (State.count32Sat_mgmt _ _ _)).trans (decide_eq_true many)

theorem exec_busOffRecovery_spec {s : State} (off : s.mgmt.busOff = true) (powered : s.pow.mode ≠ .off) :
    ∃ t, exec .busOffRecovery s = .next t ∧ t.mgmt.busOff = false ∧ t.mgmt.txErr = 0 ∧ t.mgmt.rxErr = 0 ∧ t.obj = s.obj ∧
      sameWork s t := by
  have recovered : busOffRecoveryEff s =
      State.mgmtEvent (s.modMgmt fun m => { m with busOff := false, txErr := 0, rxErr := 0 }) 8 := if_pos ⟨off, powered⟩
  obtain ⟨h, o, event⟩ := (s.modMgmt fun m => { m with busOff := false, txErr := 0, rxErr := 0 }).mgmtEvent_frame 8
  refine ⟨_, rfl, ?_⟩
  rw [recovered, event]
  exact ⟨rfl, rfl, rfl, rfl, sameWork_refl s⟩

/-- The state in which the oldest save, of value `v` to object `k`, has ended. -/
def State.saveEnded (s : State) (ok : Bool) (k : Nat) (v : Word) (rest : List (Nat × Word)) : State :=
  s.modMgmt fun m => { m with
    saves := rest, flash := if ok then mins v m.flash k else m.flash,
    unsaved := if ok then mdel m.unsaved k else mins v m.unsaved k }

theorem rwsSaveDoneEff_eq {ok : Bool} {s : State} {k : Nat} {v : Word} {rest : List (Nat × Word)}
    (oldest : s.mgmt.saves = (k, v) :: rest) :
    rwsSaveDoneEff ok s = if ok then s.saveEnded ok k v rest
      else ((s.saveEnded ok k v rest).count32Sat (idKey 0x21) 1).mgmtEvent 1 := by
  rw [rwsSaveDoneEff, oldest]
  rfl

theorem exec_rwsSaveDone_saved {s : State} {k : Nat} {v : Word} {rest : List (Nat × Word)}
    (oldest : s.mgmt.saves = (k, v) :: rest) :
    ∃ t, exec (.rwsSaveDone true) s = .next t ∧ t.mgmt.saves = rest ∧ t.mgmt.flash = mins v s.mgmt.flash k ∧ t.obj = s.obj ∧
      sameWork s t := by
  refine ⟨_, rfl, ?_⟩
  rw [rwsSaveDoneEff_eq oldest]
  exact ⟨rfl, rfl, rfl, sameWork_refl s⟩

theorem exec_rwsSaveDone_lost {s : State} {k : Nat} {v : Word} {rest : List (Nat × Word)}
    (oldest : s.mgmt.saves = (k, v) :: rest) :
    ∃ t, exec (.rwsSaveDone false) s = .next t ∧ t.mgmt.saves = rest ∧ t.mgmt.flash = s.mgmt.flash ∧
      t.rdN (idKey 0x21) = min (s.rdN (idKey 0x21) + 1) (2 ^ 32 - 1) ∧ sameWork s t := by
  have mgmt : ((s.saveEnded false k v rest).count32Sat (idKey 0x21) 1).mgmt = (s.saveEnded false k v rest).mgmt :=
    State.count32Sat_mgmt _ _ _
  obtain ⟨h, o, event⟩ := ((s.saveEnded false k v rest).count32Sat (idKey 0x21) 1).mgmtEvent_frame 1
  refine ⟨_, rfl, ?_⟩
  rw [rwsSaveDoneEff_eq oldest, if_neg (by decide), event]
  exact ⟨(congrArg MgmtSt.saves mgmt :), (congrArg MgmtSt.flash mgmt :), (State.rdN_count32Sat (s.saveEnded false k v rest) _ 1 :),
    (sameWork_of_unreported_eq ((s.saveEnded false k v rest).count32Sat_unreported (idKey 0x21) 1) :)⟩

/-- Settles O49: a request that the node takes up is counted and answered in one step, a broadcast WRITE is applied or noted, and
heartbeats, events, bus errors and saves change the controller's own records, one counter each and what leaves the device. -/
theorem requestsAndEvents : Obligations.RequestsAndEvents := by
  refine ⟨⟨fun r s on named idle mine => ⟨fun o read found readable num opened => ?_,
      fun write => ⟨fun t taken => ?_, fun e refused => ?_⟩, fun read n byte o found domain opened fits => ?_, fun write => ⟨fun t taken => ?_, fun e refused => ?_⟩⟩,
    fun r s addressed other => ?_, fun r s on broadcast => ⟨fun unnamed => ?_, fun named => ?_⟩, fun w s on => ?_⟩, fun s => ?_⟩
  · exact exec_canRead_spec on named idle mine read found readable num opened
  · exact exec_canWrite_ok on named idle mine write taken
  · exact exec_canWrite_error on named idle mine write refused
  · exact exec_canReadSeg_spec on named idle mine read found domain opened fits
  · exact exec_canWriteSeg_ok on named idle mine write taken
  · exact exec_canWriteSeg_error on named idle mine write refused
  · exact exec_request_of_canFrame_self (State.canFrame_of_not_addressed (.inr (.inr ⟨addressed, other⟩)))
  · exact exec_request_of_canFrame_self (State.canFrame_of_not_addressed (.inr (.inl unnamed)))
  · obtain ⟨read, readSeg, writeSeg⟩ := exec_broadcast_ignored on named broadcast
    refine ⟨read, readSeg, writeSeg, fun write idle => ⟨fun t taken => ?_, fun e refused => ?_⟩⟩
    · exact exec_canWrite_broadcast_ok on named broadcast idle (by rw [write]; rfl) taken
    · exact exec_canWrite_broadcast_error on named broadcast idle (by rw [write]; rfl) refused
  · exact exec_canFrameIgnored_spec w on
  · exact ⟨exec_heartbeatSend_due, fun silent => ⟨exec_heartbeatSend_silent silent, exec_eventFrameSend_silent silent⟩,
      exec_controllerHeartbeat_spec,
      fun powered running period => ⟨exec_ctrlHbTimeout_due powered running period, exec_ctrlHbTimeout_lost⟩,
      fun p _ => exec_barzarEvent_part p, fun _ _ => exec_eventFrameSend_due,
      fun _ on => ⟨exec_canBusError_tx_of_le on, exec_canBusError_tx_of_lt on⟩, exec_busOffRecovery_spec,
      fun _ _ _ oldest => ⟨exec_rwsSaveDone_saved oldest, exec_rwsSaveDone_lost oldest⟩⟩

end Sys2Proof.Machine
end

section
/-! PROOFS. The queue, the state after a chip reset and memory by bytes: O1, O2, O3, O4, O6 and O56. -/

namespace Sys2Proof.Machine

/-! ## The queue -/

/-- Settles O1: it is how `step` takes a waiting command. -/
theorem frontCommandRuns : Obligations.FrontCommandRuns := by
  intro c rest s h
  simp only [step, h]

/-- Settles O2, by the three branches of `State.tick`. -/
theorem emptyQueuePassesABeat : Obligations.EmptyQueuePassesABeat := by
  intro s h
  have step_eq : step s = s.outcome s.tick := by simp only [step, h]
  refine ⟨fun off => ?_, fun on idle => ?_, fun on run => ?_⟩
  · exact step_eq.trans (congrArg s.outcome (if_pos off))
  · exact step_eq.trans (congrArg s.outcome ((if_neg on).trans (if_neg idle)))
  · exact step_eq.trans (congrArg s.outcome ((if_neg (by simp [on])).trans (if_pos ⟨on, run⟩)))

/-- Settles O3: the answer of every command is a state with the queue of the one before. -/
theorem everyCommandGoesOn : Obligations.EveryCommandGoesOn :=
  fun c s => ⟨afterwards c s, exec_next c s, afterwards_pending c s⟩

/-- Running as many steps as commands wait, from a state whose queue is the list. -/
theorem run_pending : ∀ (cs : List Instr) (s : State), s.pending = cs →
    run cs.length s = .next (applyAll cs s) ∧ (applyAll cs s).pending = []
  | [], _, h => ⟨rfl, h⟩
  | c :: cs, s, h => by
    have front : step s = .next (afterwards c { s with pending := cs }) := by
      rw [frontCommandRuns c cs s h, exec_next]
    simpa only [List.length_cons, run, front, applyAll] using run_pending cs _ (afterwards_pending c _)

/-- Settles O4, by induction on the waiting commands. -/
theorem queueDrainsInOrder : Obligations.QueueDrainsInOrder := fun s => run_pending s.pending s rfl

/-! ## After a chip reset -/

/-- Settles O6: every table of the reset state is empty, so each entry is its default. -/
theorem resetLeaves : Obligations.ResetLeaves := by
  refine ⟨rfl, rfl, rfl, rfl, Mem.empty_wf, rfl, fun c hc => ?_, fun _ => rfl, fun _ _ => rfl, fun _ _ => rfl,
    fun _ _ i => ?_, fun _ => rfl, fun _ => rfl, fun _ => rfl⟩
  · exact absurd hc List.not_mem_nil
  · exact (apply_ite VSlot.state _ _ _).trans (ite_self _)

/-! ## Memory by bytes -/

/-- Digit `i` of a number to the base 256, as its bytes give it (R9). -/
theorem leBytes_getD : ∀ (n v i : Nat), i < n → ((leBytes n v).getD i 0#8).toNat = v / 256 ^ i % 256
  | 0, _, _, h => absurd h (Nat.not_lt_zero _)
  | n + 1, v, 0, _ => by simp [leBytes]
  | n + 1, v, i + 1, h => by
    rw [leBytes, List.getD_cons_succ, leBytes_getD n (v / 256) i (by omega), Nat.div_div_eq_div_mul, Nat.pow_succ']

/-- Settles O56: a written range reads back, and byte `i` of a number is its digit to the base 256. -/
theorem memoryReadsBack : Obligations.MemoryReadsBack := by
  refine fun m a => ⟨fun bs => ⟨Mem.readBytes_writeBytes m a bs, fun x out => Mem.read_writeBytes_out m a x bs out,
    Mem.writeBytes_wf bs m a⟩, fun n v fits => ⟨Mem.readLE_writeLE m a n v fits, fun i hi => ?_⟩,
    fun n x => Mem.read_zero m a n x, fun n => Mem.zero_wf m a n⟩
  rw [Mem.writeLE, Mem.read_writeBytes, leBytes_length, if_pos (by omega), Nat.add_sub_cancel_left,
    leBytes_getD n v i hi]

end Sys2Proof.Machine
end

section
/-! PROOFS. What leaves memory alone: one rule for each operation of the model that does not write memory, in the order of
the definitions. Statements about memory, and the canonical form of it, go through them. -/

namespace Sys2Proof.Machine

/-! ## Shared shapes -/

@[simp] theorem foldl_mem {β : Type} {f : State → β → State} (h : ∀ s b, (f s b).mem = s.mem) (l : List β) (s : State) :
    (l.foldl f s).mem = s.mem := foldl_keeps State.mem h l s

@[simp] theorem State.enqueue_mem (s : State) (n : Nat) (inp : Nat) (inCls : Fin 2) (p : Packet) :
    (s.enqueue n inp inCls p).mem = s.mem := rfl

@[simp] theorem State.logEvent_mem (s : State) (cls : Nat) (part : Nat) (code : Nat) :
    (s.logEvent cls part code).mem = s.mem := rfl

@[simp] theorem State.sendMsix_mem (s : State) (f : Nat) (v : Nat) :
    (s.sendMsix f v).mem = s.mem := by
  simp only [State.sendMsix, State.setFunc_mem, State.emit_mem, apply_ite State.mem, ite_self]

@[simp] theorem State.signalPf_mem (s : State) (v : Nat) :
    (s.signalPf v).mem = s.mem := by
  simp only [State.signalPf, State.sendMsix_mem, State.emit_mem, apply_ite State.mem, ite_self]

@[simp] theorem State.fabricEvent_mem (s : State) :
    s.fabricEvent.mem = s.mem := by
  simp only [State.fabricEvent, State.signalPf_mem, State.logEvent_mem]

@[simp] theorem State.shadowAdd_mem (s : State) (key : Nat) (n : Nat) :
    (s.shadowAdd key n).mem = s.mem := rfl

@[simp] theorem State.shadowOf_mem (s : State) (key : Nat) (n : Nat) :
    (s.shadowOf key n).mem = s.mem := by
  simp only [State.shadowOf, State.shadowAdd_mem, apply_ite State.mem, ite_self]

@[simp] theorem State.count_mem (s : State) (key : Nat) (n : Nat) :
    (s.count key n).mem = s.mem := by
  simp only [State.count, State.wr_mem, State.shadowOf_mem]

@[simp] theorem State.pCount_mem (s : State) (p : Nat) (sub : Nat) (n : Nat) :
    (s.pCount p sub n).mem = s.mem := by
  simp only [State.pCount, State.count_mem]

@[simp] theorem State.eccCount_mem (s : State) (src : EccSource) (part : Nat) (addr : Nat) (ue : Bool) :
    (s.eccCount src part addr ue).mem = s.mem := by
  fun_cases s.eccCount src part addr ue <;> simp only [State.pCount_mem, State.count_mem]

@[simp] theorem State.wrN_mem (s : State) (key : Nat) (v : Nat) :
    (s.wrN key v).mem = s.mem := rfl

@[simp] theorem State.countSat_mem (s : State) (key : Nat) (n : Nat) (top : Nat) :
    (s.countSat key n top).mem = s.mem := by
  simp only [State.countSat, State.wrN_mem, State.shadowOf_mem]

@[simp] theorem State.count32Sat_mem (s : State) (key : Nat) (n : Nat) :
    (s.count32Sat key n).mem = s.mem := by
  simp only [State.count32Sat, State.countSat_mem]

@[simp] theorem State.count32_mem (s : State) (key : Nat) (n : Nat) :
    (s.count32 key n).mem = s.mem := by
  simp only [State.count32, State.wrN_mem, State.shadowOf_mem]

@[simp] theorem State.eccLogAdd_mem (s : State) (e : EccEntry) :
    (s.eccLogAdd e).mem = s.mem := by
  simp only [State.eccLogAdd, State.count32_mem, State.count32Sat_mem, apply_ite State.mem, ite_self]

@[simp] theorem State.eccNote_mem (s : State) (src : EccSource) (part : Nat) (unit : Nat) (addr : Nat) (o : ShellOutcome) :
    (s.eccNote src part unit addr o).mem = s.mem := by
  unfold State.eccNote
  simp only []
  split <;> simp only [State.eccLogAdd_mem, State.eccCount_mem]

@[simp] theorem State.portShell_mem (s : State) (n : Nat) (os : List ShellOutcome) :
    (s.portShell n os).1.mem = s.mem := by
  unfold State.portShell
  split <;> simp only [State.eccNote_mem, State.count_mem, State.fabricEvent_mem, foldl_mem, implies_true, apply_ite State.mem,
    ite_self]

@[simp] theorem State.dropUnreachable_mem (s : State) :
    s.dropUnreachable.mem = s.mem := rfl

@[simp] theorem State.leaveInput_mem (s : State) (inp : Nat) (vc : Fin 4) (cls : Fin 2) (units : Nat) :
    (s.leaveInput inp vc cls units).mem = s.mem := by
  simp only [State.leaveInput, State.setPort_mem, apply_ite State.mem, ite_self]

@[simp] theorem State.routeFrom_mem (s : State) (die : Nat) (inp : Nat) (p : Packet) (os : List ShellOutcome) :
    (s.routeFrom die inp p os).mem = s.mem := by
  unfold State.routeFrom
  simp only [State.leaveInput_mem, State.dropUnreachable_mem, State.portShell_mem, State.emit_mem, apply_ite State.mem, ite_self]
  repeat' split
  all_goals simp only [State.leaveInput_mem, State.dropUnreachable_mem, State.portShell_mem, State.enqueue_mem]

@[simp] theorem State.injectWith_mem (s : State) (die : Nat) (p : Packet) (os : List ShellOutcome) :
    (s.injectWith die p os).mem = s.mem := by
  simp only [State.injectWith, State.routeFrom_mem, apply_ite State.mem, ite_self]

@[simp] theorem State.inject_mem (s : State) (die : Nat) (p : Packet) :
    (s.inject die p).mem = s.mem := by
  simp only [State.inject, State.injectWith_mem]

@[simp] theorem State.modLoader_mem (s : State) (p : Nat) (f : LoaderSt → LoaderSt) :
    (s.modLoader p f).mem = s.mem := rfl

@[simp] theorem State.modShard_mem (s : State) (p : Nat) (i : Nat) (f : Shard → Shard) :
    (s.modShard p i f).mem = s.mem := rfl

@[simp] theorem State.sendFetch_mem (s : State) (p : Nat) (i : Nat) :
    (s.sendFetch p i).mem = s.mem := by
  unfold State.sendFetch
  simp only []
  repeat' split
  all_goals simp only [State.modLoader_mem, State.modShard_mem, State.inject_mem]

@[simp] theorem State.modSlot_mem (s : State) (p : Nat) (r : Nat) (i : Nat) (f : VSlot → VSlot) :
    (s.modSlot p r i f).mem = s.mem := rfl

@[simp] theorem State.modCore_mem (s : State) (c : Nat) (f : CoreSt → CoreSt) :
    (s.modCore c f).mem = s.mem := rfl

@[simp] theorem State.loadStray_mem (s : State) (p : Nat) :
    (s.loadStray p).mem = s.mem := by
  simp only [State.loadStray, State.pCount_mem]

@[simp] theorem State.collDrop_mem (s : State) :
    s.collDrop.mem = s.mem := rfl

@[simp] theorem State.modCs_mem (s : State) (j : Nat) (f : CollSlot → CollSlot) :
    (s.modCs j f).mem = s.mem := rfl

@[simp] theorem State.collEnded_mem (s : State) (j : Nat) (r : CollRecord) :
    (s.collEnded j r).mem = s.mem := rfl

@[simp] theorem State.bindSlot_mem (s : State) (p : Nat) (r : Nat) (i : Nat) :
    (s.bindSlot p r i).mem = s.mem := rfl

@[simp] theorem bindWants_mem (p : Nat) (t : Tag) (x1 : List Nat) (x2 : State) (x3 : List (Nat × Nat)) (x4 : List Nat) :
    (bindWants p t x1 x2 x3 x4).1.mem = x2.mem := by
  fun_induction bindWants p t x1 x2 x3 x4 <;> simp only [*, State.bindSlot_mem]

@[simp] theorem State.collInject_mem (s : State) (j : Nat) (p : Packet) :
    (s.collInject j p).mem = s.mem := by
  simp only [State.collInject, State.inject_mem]

@[simp] theorem State.consume_mem (s : State) (j : Nat) (k : Nat) (entry : Nat) (n : Nat) (b : Tag × BitVec 16) (last : Bool) :
    (s.consume j k entry n b last).mem = s.mem := by
  simp only [State.consume, State.collInject_mem, State.modCs_mem, apply_ite State.mem, ite_self]

@[simp] theorem State.consumeOn_mem (s : State) (j : Nat) (stream : Nat) (n : Nat) (b : Tag × BitVec 16) (last : Bool) :
    (s.consumeOn j stream n b last).mem = s.mem := by
  simp only [State.consumeOn, State.consume_mem]

@[simp] theorem consumeReel_mem (j : Nat) (r : ReelSt) (s : State) :
    (consumeReel j r s).mem = s.mem := by
  simp only [consumeReel, State.consumeOn_mem, foldl_mem, implies_true]

@[simp] theorem State.setReel_mem (s : State) (j : Nat) (r : ReelSt) :
    (s.setReel j r).mem = s.mem := rfl

@[simp] theorem reelRegion_mem (seq : Nat) (ok : Bool) (r : ReelRegion) (s : State) :
    (reelRegion seq ok r s).mem = s.mem := by
  simp only [reelRegion, State.modSlot_mem, apply_ite State.mem, ite_self]

@[simp] theorem State.consumePkt_mem (s : State) (j : Nat) (p : Packet) :
    (s.consumePkt j p).mem = s.mem := by
  simp only [State.consumePkt, State.consumeOn_mem]

@[simp] theorem State.setBeat_mem (s : State) (st : Nat) (hops : Nat) (src : Nat) (master : FabAddr) :
    (s.setBeat st hops src master).mem = s.mem := rfl

@[simp] theorem State.followPort_mem (s : State) (m : MasterAnn) (n : Nat) (h : Nat) :
    (s.followPort m n h).mem = s.mem := by
  simp only [State.followPort, State.wrN_mem, State.modFab_mem, State.setBeat_mem, apply_ite State.mem, ite_self]

@[simp] theorem State.ownBeat_mem (s : State) (st : Nat) :
    (s.ownBeat st).mem = s.mem := rfl

@[simp] theorem State.enterHoldover_mem (s : State) :
    s.enterHoldover.mem = s.mem := rfl

@[simp] theorem State.reselect_mem (s : State) (forgotten : Bool) :
    (s.reselect forgotten).mem = s.mem := by
  fun_cases s.reselect forgotten <;> simp only [State.enterHoldover_mem, State.ownBeat_mem, State.followPort_mem]

@[simp] theorem State.leaveAll_mem (s : State) (qs : List OutPkt) :
    (s.leaveAll qs).mem = s.mem := by
  simp only [State.leaveAll, State.leaveInput_mem, foldl_mem, implies_true]

@[simp] theorem State.toPState_mem (s : State) (n : Nat) (st : PState) :
    (s.toPState n st).mem = s.mem := by
  unfold State.toPState
  simp only []
  split <;> simp only [State.leaveAll_mem, State.setPort_mem, State.reselect_mem, State.emit_mem, State.count32Sat_mem, apply_ite
    State.mem, ite_self]

@[simp] theorem State.failPort_mem (s : State) (n : Nat) (cause : Nat) :
    (s.failPort n cause).mem = s.mem := by
  simp only [State.failPort, State.toPState_mem, State.setPort_mem]

@[simp] theorem State.fatalPort_mem (s : State) (n : Nat) (cause : Nat) :
    (s.fatalPort n cause).mem = s.mem := by
  simp only [State.fatalPort, State.fabricEvent_mem, State.count32Sat_mem, State.failPort_mem]

@[simp] theorem State.fresh_mem (s : State) :
    (s.fresh).2.mem = s.mem := rfl

@[simp] theorem State.toTango_mem (s : State) (st : Nat) :
    (s.toTango st).mem = s.mem := rfl

@[simp] theorem State.sendTango_mem (s : State) (n : Nat) (p : Packet) :
    (s.sendTango n p).mem = s.mem := by
  simp only [State.sendTango, State.enqueue_mem, apply_ite State.mem, ite_self]

@[simp] theorem State.sendPair_mem (s : State) (tag : Tag) (kind : Nat) (bank : Nat) (count : Nat) (bytes : Nat) :
    (s.sendPair tag kind bank count bytes).mem = s.mem := by
  unfold State.sendPair
  split <;> simp only [State.sendTango_mem]

@[simp] theorem State.unbindSlot_mem (s : State) (p : Nat) (r : Nat) (i : Nat) :
    (s.unbindSlot p r i).mem = s.mem := rfl

@[simp] theorem State.advanceBeat_mem (s : State) (ns : Nat) :
    (s.advanceBeat ns).mem = s.mem := by
  simp only [State.advanceBeat, apply_ite State.mem, ite_self]

@[simp] theorem State.announce_mem (s : State) (a : FabAddr) (e : Epoch) (hops : Nat) (notOn : Option Nat) :
    (s.announce a e hops notOn).mem = s.mem := by
  simp only [State.announce, State.emit_mem, foldl_mem, implies_true, apply_ite State.mem, ite_self]

@[simp] theorem State.sendCan_mem (s : State) (id : Nat) (bytes : List Byte) :
    (s.sendCan id bytes).mem = s.mem := rfl

@[simp] theorem State.respond_mem (s : State) (bytes : List Byte) :
    (s.respond bytes).mem = s.mem := by
  simp only [State.respond, State.sendCan_mem, apply_ite State.mem, ite_self]

@[simp] theorem State.answerReadSeg_mem (s : State) (r : CanRequest) :
    (s.answerReadSeg r).mem = s.mem := by
  unfold State.answerReadSeg
  simp only []
  repeat' split
  all_goals simp only [State.respond_mem]

@[simp] theorem State.saveObj_mem (s : State) (key : Nat) (v : Word) :
    (s.saveObj key v).mem = s.mem := rfl

@[simp] theorem State.bistFlag_mem (s : State) :
    s.bistFlag.mem = s.mem := rfl

@[simp] theorem State.pWr_mem (s : State) (p : Nat) (sub : Nat) (v : Word) :
    (s.pWr p sub v).mem = s.mem := rfl

@[simp] theorem State.wakeGroup_mem (s : State) (p : Nat) :
    (s.wakeGroup p).mem = s.mem := by
  simp only [State.wakeGroup, State.pCount_mem, State.pWr_mem, foldl_mem, implies_true, apply_ite State.mem, ite_self]

@[simp] theorem State.bistStart_mem (s : State) (p : Nat) (hbm : Bool) (boot : Bool) :
    (s.bistStart p hbm boot).mem = s.mem := by
  simp only [State.bistStart, State.wakeGroup_mem, State.modHang_mem, State.bistFlag_mem, State.pWr_mem, apply_ite State.mem,
    ite_self]

@[simp] theorem ackQuiet_mem (x1 : List Quiet) (x2 : State) (x3 : List Quiet) :
    (ackQuiet x1 x2 x3).mem = x2.mem := by
  fun_induction ackQuiet x1 x2 x3 <;> simp only [*, State.inject_mem]

@[simp] theorem State.pumpQuiet_mem (s : State) :
    s.pumpQuiet.mem = s.mem := by
  simp only [State.pumpQuiet, ackQuiet_mem]

@[simp] theorem State.suspendMirror_mem (s : State) :
    s.suspendMirror.mem = s.mem := by
  simp only [State.suspendMirror, State.modTango_mem, State.toTango_mem, apply_ite State.mem, ite_self]

@[simp] theorem State.dropTables_mem (s : State) (p : Nat) (keep : Ctx → Bool) :
    (s.dropTables p keep).mem = s.mem := rfl

@[simp] theorem State.setCtx_mem (s : State) (j : Nat) (c : CollCtx) :
    (s.setCtx j c).mem = s.mem := rfl

@[simp] theorem State.hangLog_mem (s : State) (e : HangEntry) :
    (s.hangLog e).mem = s.mem := rfl

@[simp] theorem State.setPartReady_mem (s : State) (p : Nat) (ready : Bool) :
    (s.setPartReady p ready).mem = s.mem := rfl

@[simp] theorem State.memNote_mem (s : State) (a : Nat) (o : ShellOutcome) :
    (s.memNote a o).mem = s.mem := by
  unfold State.memNote
  split <;> simp only [State.eccNote_mem]

@[simp] theorem State.assignUnits_mem (s : State) (p : Nat) :
    (s.assignUnits p).mem = s.mem := rfl

@[simp] theorem State.signalPart_mem (s : State) (p : Nat) (k : Nat) :
    (s.signalPart p k).mem = s.mem := by
  simp only [State.signalPart, State.sendMsix_mem, State.emit_mem, apply_ite State.mem, ite_self]

@[simp] theorem State.event_mem (s : State) (p : Nat) (k : Nat) :
    (s.event p k).mem = s.mem := by
  simp only [State.event, State.signalPart_mem, State.logEvent_mem]

@[simp] theorem State.failShard_mem (s : State) (p : Nat) (i : Nat) (cause : Nat) :
    (s.failShard p i cause).mem = s.mem := by
  unfold State.failShard
  simp only []
  split <;> simp only [State.pCount_mem, State.modShard_mem, State.event_mem, State.modLoader_mem, State.sendFetch_mem,
    State.assignUnits_mem, apply_ite State.mem, ite_self]

@[simp] theorem State.partFault_mem (s : State) (p : Nat) :
    (s.partFault p).mem = s.mem := by
  simp only [State.partFault, State.event_mem]

@[simp] theorem State.memMeets_mem (s : State) (a : Nat) (o : ShellOutcome) :
    (s.memMeets a o).mem = s.mem := by
  unfold State.memMeets
  split <;> simp only [State.memNote_mem, State.partFault_mem]

@[simp] theorem State.manifestFailed_mem (s : State) (p : Nat) (l : LoaderSt) (shard : Nat) :
    (s.manifestFailed p l shard).mem = s.mem := by
  simp only [State.manifestFailed, State.event_mem, State.setLoader_mem]

@[simp] theorem freeHeld_mem (p : Nat) (x1 : List (Nat × Nat)) (x2 : State) :
    (freeHeld p x1 x2).mem = x2.mem := by
  fun_induction freeHeld p x1 x2 <;> simp only [*, State.modSlot_mem]

@[simp] theorem State.cancelLoad_mem (s : State) (p : Nat) :
    (s.cancelLoad p).mem = s.mem := by
  simp only [State.cancelLoad, State.setLoader_mem, freeHeld_mem, apply_ite State.mem, ite_self]

@[simp] theorem State.manifestRead_mem (s : State) (p : Nat) (o : ShellOutcome) :
    (s.manifestRead p o).1.mem = s.mem := by
  fun_cases s.manifestRead p o <;> simp only [State.memMeets_mem, State.partFault_mem]

@[simp] theorem State.clearObjs_mem (s : State) (index : Nat) (sub : Nat) (x1 : Nat) :
    (s.clearObjs index sub x1).mem = s.mem := by
  fun_induction s.clearObjs index sub x1 <;> simp only [*, State.wr_mem]

@[simp] theorem State.sendPairWord_mem (s : State) (n : Nat) :
    (s.sendPairWord n).mem = s.mem := by
  simp only [State.sendPairWord, State.modTango_mem, State.sendTango_mem]

@[simp] theorem State.submitLoss_mem (s : State) (p : Nat) (loss : Word32) :
    (s.submitLoss p loss).mem = s.mem := by
  simp only [State.submitLoss, State.pWr_mem, State.event_mem, State.wrN_mem, apply_ite State.mem, ite_self]

@[simp] theorem State.clearFlags_mem (s : State) (c : Nat) (m : Word32) :
    (s.clearFlags c m).mem = s.mem := by
  unfold State.clearFlags
  simp only [State.setCore_mem]
  repeat' split
  all_goals simp only [State.setLaunch_mem]

@[simp] theorem State.newKey_mem (s : State) (p : Nat) :
    (s.newKey p).mem = s.mem := by
  simp only [State.newKey, State.count32_mem]

@[simp] theorem State.takeMasks_mem (s : State) (p : Nat) :
    (s.takeMasks p).mem = s.mem := rfl

@[simp] theorem State.mgmtEvent_mem (s : State) (code : Nat) :
    (s.mgmtEvent code).mem = s.mem := by
  simp only [State.mgmtEvent, State.signalPf_mem, State.logEvent_mem]

@[simp] theorem State.cycleRequest_mem (s : State) (on : Bool) :
    (s.cycleRequest on).mem = s.mem := rfl

@[simp] theorem State.setReadiness_mem (s : State) (r : Nat) :
    (s.setReadiness r).mem = s.mem := by
  simp only [State.setReadiness, State.mgmtEvent_mem, State.wrN_mem, apply_ite State.mem, ite_self]

@[simp] theorem State.healthEvent_mem (s : State) :
    s.healthEvent.mem = s.mem := by
  simp only [State.healthEvent, State.signalPf_mem, State.logEvent_mem]

@[simp] theorem State.reportRung_mem (s : State) (e : HangEntry) :
    (s.reportRung e).mem = s.mem := by
  simp only [State.reportRung, State.healthEvent_mem, State.hangLog_mem]

@[simp] theorem State.rung5_mem (s : State) (cause : Nat) (escalated : Bool) :
    (s.rung5 cause escalated).mem = s.mem := by
  simp only [State.rung5, State.cycleRequest_mem, State.hangLog_mem, State.reportRung_mem, apply_ite State.mem, ite_self]

@[simp] theorem State.modCluster_mem (s : State) (p : Nat) (f : ClusterClk → ClusterClk) :
    (s.modCluster p f).mem = s.mem := rfl

@[simp] theorem State.thermalFlags_mem (s : State) :
    s.thermalFlags.mem = s.mem := rfl

@[simp] theorem State.clearEccLog_mem (s : State) :
    s.clearEccLog.mem = s.mem := rfl

@[simp] theorem State.rollbackRegion_mem (s : State) (t : Tag) (p : Nat) (r : Nat) :
    (s.rollbackRegion t p r).mem = s.mem := by
  fun_cases s.rollbackRegion t p r <;> simp only [State.modSlot_mem]

@[simp] theorem State.sendResume_mem (s : State) :
    s.sendResume.mem = s.mem := by
  unfold State.sendResume
  split <;> simp only [State.modTango_mem, State.sendPair_mem]

@[simp] theorem sendQueue_mem (j : Nat) (k : Nat) (w : Nat) (x1 : List Packet) (x2 : State) :
    (sendQueue j k w x1 x2).mem = x2.mem := by
  fun_induction sendQueue j k w x1 x2 <;> simp only [*, State.modCs_mem, State.collInject_mem]

@[simp] theorem State.pushOut_mem (s : State) (j : Nat) (p : Packet) :
    (s.pushOut j p).mem = s.mem := by
  simp only [State.pushOut, sendQueue_mem]

@[simp] theorem horaPoll_mem (j : Nat) (k : Nat) (x1 : Nat) (x2 : State) :
    (horaPoll j k x1 x2).mem = x2.mem := by
  fun_induction horaPoll j k x1 x2 <;> simp_all only [State.collInject_mem, State.setCtx_mem, State.pushOut_mem]

@[simp] theorem State.pollHora_mem (s : State) (j : Nat) (k : Nat) (c : CollCtx) (d : CollDesc) :
    (s.pollHora j k c d).mem = s.mem := by
  simp only [State.pollHora, horaPoll_mem]

@[simp] theorem State.gatherOn_mem (s : State) (j : Nat) (c : CollCtx) (d : CollDesc) (off : Nat) (body : List Byte) :
    (s.gatherOn j c d off body).mem = s.mem := by
  simp only [State.gatherOn, State.pushOut_mem, apply_ite State.mem, ite_self]

@[simp] theorem State.lateDrop_mem (s : State) (j : Nat) (p : Packet) :
    (s.lateDrop j p).mem = s.mem := by
  simp only [State.lateDrop, State.consumePkt_mem, State.count_mem]

@[simp] theorem State.modCtx_mem (s : State) (j : Nat) (k : Nat) (f : CollCtx → CollCtx) :
    (s.modCtx j k f).mem = s.mem := by
  unfold State.modCtx
  split <;> simp only [State.setCtx_mem]

@[simp] theorem State.sinkPut_mem (s : State) (j : Nat) (c : CollCtx) (i : Nat) (m : Made) :
    (s.sinkPut j c i m).1.mem = s.mem := by
  fun_cases s.sinkPut j c i m <;> simp only [State.pushOut_mem]

@[simp] theorem State.routerFlags_mem (s : State) (j : Nat) (f : Flg) :
    (s.routerFlags j f).mem = s.mem := rfl

@[simp] theorem State.producerNext_mem (s : State) (j : Nat) (c : CollCtx) (i : Nat) (m : Made) :
    (s.producerNext j c i m).1.mem = s.mem := by
  unfold State.producerNext
  simp only []
  repeat' split
  all_goals simp only [State.count_mem, State.routerFlags_mem, State.consume_mem]

@[simp] theorem State.noteUpDone_mem (s : State) (j : Nat) (k : Nat) :
    (s.noteUpDone j k).mem = s.mem := by
  unfold State.noteUpDone
  split <;> simp only [State.setCtx_mem, apply_ite State.mem, ite_self]

@[simp] theorem reelSend_mem (j : Nat) (d : CollDesc) (m : ReelMove) (x1 : Nat) (x2 : Nat) (x3 : State) :
    (reelSend j d m x1 x2 x3).mem = x3.mem := by
  fun_induction reelSend j d m x1 x2 x3 <;> simp only [*, State.pushOut_mem]

@[simp] theorem State.nameDeadline_mem (s : State) (j : Nat) (step : Nat) (beat : Nat) :
    (s.nameDeadline j step beat).mem = s.mem := rfl

@[simp] theorem State.clearPort_mem (s : State) (n : Nat) :
    (s.clearPort n).mem = s.mem := by
  simp only [State.clearPort, State.clearObjs_mem]

@[simp] theorem State.sendFlit_mem (s : State) (n : Nat) (type : Nat) (vc : Fin 4) (cls : Fin 2) (body : List Byte) :
    (s.sendFlit n type vc cls body).mem = s.mem := rfl

@[simp] theorem State.sendOpaque_mem (s : State) (n : Nat) (type : Nat) :
    (s.sendOpaque n type).mem = s.mem := rfl

@[simp] theorem State.clearFabric_mem (s : State) :
    s.clearFabric.mem = s.mem := rfl

@[simp] theorem State.supersede_mem (s : State) :
    s.supersede.mem = s.mem := by
  simp only [State.supersede, State.fabricEvent_mem, State.wrN_mem]

@[simp] theorem State.setEpoch_mem (s : State) (a : FabAddr) (e : Epoch) :
    (s.setEpoch a e).mem = s.mem := rfl

@[simp] theorem State.raiseEntry_mem (s : State) (a : FabAddr) (e : Epoch) :
    (s.raiseEntry a e).1.mem = s.mem := by
  fun_cases s.raiseEntry a e <;> simp only [State.setEpoch_mem]

@[simp] theorem State.learnEpoch_mem (s : State) (a : FabAddr) (e : Epoch) :
    (s.learnEpoch a e).1.mem = s.mem := by
  unfold State.learnEpoch
  simp only []
  split <;> simp only [State.raiseEntry_mem, State.supersede_mem]

@[simp] theorem State.exchangeBanks_mem (s : State) :
    s.exchangeBanks.mem = s.mem := rfl

@[simp] theorem State.partAwake_mem (s : State) (p : Nat) :
    (s.partAwake p).mem = s.mem := rfl

@[simp] theorem State.dropPartObjs_mem (s : State) (p : Nat) (f : Nat → Bool) :
    (s.dropPartObjs p f).mem = s.mem := rfl

@[simp] theorem State.objValue_mem (s : State) (o : ObjSpec) (index : Nat) (sub : Nat) :
    (s.objValue o index sub).2.mem = s.mem := by
  unfold State.objValue
  simp only []
  repeat' split
  all_goals simp only [State.fresh_mem]

@[simp] theorem State.answerRead_mem (s : State) (r : CanRequest) :
    (s.answerRead r).mem = s.mem := by
  unfold State.answerRead
  simp only []
  split <;> simp only [State.respond_mem, State.objValue_mem, apply_ite State.mem, ite_self]

@[simp] theorem State.applyCut_mem (s : State) :
    s.applyCut.mem = s.mem := by
  simp only [State.applyCut, State.modPow_mem, State.count_mem, State.wrN_mem, apply_ite State.mem, ite_self]

@[simp] theorem State.recordRefuse_mem (s : State) (f : Nat) (bar : Fin 4) (off : Nat) (poisoned : Bool) :
    (s.recordRefuse f bar off poisoned).mem = s.mem := rfl

@[simp] theorem State.attemptDone_mem (s : State) (n : Nat) (ok : Bool) :
    (s.attemptDone n ok).mem = s.mem := by
  simp only [State.attemptDone, State.toPState_mem, State.failPort_mem, State.setPort_mem, apply_ite State.mem, ite_self]

@[simp] theorem State.bar4Note_mem (s : State) (a : Nat) (o : ShellOutcome) :
    (s.bar4Note a o).mem = s.mem := by
  simp only [State.bar4Note, State.eccNote_mem, State.event_mem, apply_ite State.mem, ite_self]

@[simp] theorem State.complete_mem (s : State) (f : Nat) (status : Nat) (data : List Byte) :
    (s.complete f status data).mem = s.mem := rfl

@[simp] theorem State.bar4Read_mem (s : State) (f : Nat) (a : Nat) (n : Nat) (sh : ShellOutcome) :
    (s.bar4Read f a n sh).mem = s.mem := by
  simp only [State.bar4Read, State.bar4Note_mem, State.complete_mem, apply_ite State.mem, ite_self]

@[simp] theorem State.bootBist_mem (s : State) :
    s.bootBist.mem = s.mem := by
  unfold State.bootBist
  split <;> simp only [State.bistStart_mem, foldl_mem, implies_true, apply_ite State.mem, ite_self]

@[simp] theorem State.rxCan_mem (s : State) :
    s.rxCan.mem = s.mem := rfl

@[simp] theorem State.ignoreCan_mem (s : State) :
    s.ignoreCan.mem = s.mem := rfl

@[simp] theorem State.chargeOverrun_mem (s : State) (c : Nat) (k : Nat) (issued : Nat) (l : Launch) :
    (s.chargeOverrun c k issued l).mem = s.mem := by
  simp only [State.chargeOverrun, State.setLaunch_mem, State.pCount_mem, State.setCtxE_mem]

@[simp] theorem State.confirm_mem (s : State) (p : Nat) (fixed : Bool) :
    (s.confirm p fixed).mem = s.mem := rfl

@[simp] theorem State.copyAmax_mem (s : State) (c : Nat) (d : Desc) (rows : List (List Word)) :
    (s.copyAmax c d rows).mem = s.mem := rfl

@[simp] theorem State.tryEvict_mem (s : State) (k : Nat) :
    (s.tryEvict k).mem = s.mem := by
  simp only [State.tryEvict, State.setCtxE_mem, apply_ite State.mem, ite_self]

@[simp] theorem State.coreEvicts_mem (s : State) (c : Nat) :
    (s.coreEvicts c).mem = s.mem := by
  fun_cases s.coreEvicts c <;> simp only [State.tryEvict_mem]

@[simp] theorem State.correct_mem (s : State) (off : ℤ) (hops : Nat) :
    (s.correct off hops).mem = s.mem := by
  simp only [State.correct, State.wr_mem, State.wrN_mem, State.modFab_mem, State.count32Sat_mem, apply_ite State.mem, ite_self]

@[simp] theorem State.countClass_mem (s : State) (p : Nat) (tag : Nat) (ws : List Word32) :
    (s.countClass p tag ws).mem = s.mem := by
  simp only [State.countClass, State.pCount_mem]

@[simp] theorem State.countRest_mem (s : State) :
    s.countRest.mem = s.mem := rfl

@[simp] theorem State.ctxDrop_mem (s : State) (pkt : Packet) :
    (s.ctxDrop pkt).mem = s.mem := by
  simp only [State.ctxDrop, State.pCount_mem, apply_ite State.mem, ite_self]

@[simp] theorem State.modChan_mem (s : State) (k : Nat) (f : DmaCh → DmaCh) :
    (s.modChan k f).mem = s.mem := rfl

@[simp] theorem State.dmaIrq_mem (s : State) (k : Nat) (on : Bool) :
    (s.dmaIrq k on).mem = s.mem := by
  simp only [State.dmaIrq, State.event_mem, apply_ite State.mem, ite_self]

@[simp] theorem State.dmaArrived_mem (s : State) (k : Nat) (irq : Bool) :
    (s.dmaArrived k irq).mem = s.mem := by
  simp only [State.dmaArrived, State.dmaIrq_mem, State.modChan_mem]

@[simp] theorem State.dmaEnd_mem (s : State) (k : Nat) (code : Nat) :
    (s.dmaEnd k code).mem = s.mem := rfl

@[simp] theorem State.dmaHalt_mem (s : State) (k : Nat) (code : Nat) (fault : Bool) :
    (s.dmaHalt k code fault).mem = s.mem := by
  simp only [State.dmaHalt, State.modChan_mem, State.count32Sat_mem, State.partFault_mem, apply_ite State.mem, ite_self]

@[simp] theorem State.dmaDataError_mem (s : State) (k : Nat) :
    (s.dmaDataError k).mem = s.mem := by
  simp only [State.dmaDataError, State.modChan_mem, State.dmaHalt_mem]

@[simp] theorem State.hostTouch_mem (s : State) (fn : Nat) (a : Nat) :
    (s.hostTouch fn a).mem = s.mem := by
  simp only [State.hostTouch, apply_ite State.mem, ite_self]

@[simp] theorem State.dmaFenceEnd_mem (s : State) (k : Nat) (code : Nat) :
    (s.dmaFenceEnd k code).mem = s.mem := by
  unfold State.dmaFenceEnd
  simp only []
  split <;> simp only [State.dmaArrived_mem, State.setChan_mem, State.modChan_mem, State.dmaHalt_mem, apply_ite State.mem, ite_self]

@[simp] theorem State.dmaRead_mem (s : State) (k : Nat) (env : BurstEnv) :
    (s.dmaRead k env).mem = s.mem := by
  simp only [State.dmaRead, State.memMeets_mem, State.dmaHalt_mem, State.dmaDataError_mem, State.hostTouch_mem, State.modChan_mem,
    State.pCount_mem, apply_ite State.mem, ite_self]

@[simp] theorem dmaHostFences_mem (k : Nat) (fn : Nat) (x1 : Nat) (x2 : State) :
    (dmaHostFences k fn x1 x2).mem = x2.mem := by
  fun_induction dmaHostFences k fn x1 x2 <;> simp only [*, State.dmaFenceEnd_mem]

@[simp] theorem State.dmaNoBus_mem (s : State) (fn : Nat) :
    (s.dmaNoBus fn).mem = s.mem := by
  simp only [State.dmaNoBus, dmaHostFences_mem, State.dmaHalt_mem, foldl_mem, implies_true, apply_ite State.mem, ite_self]

@[simp] theorem State.dmaTear_mem (s : State) (k : Nat) :
    (s.dmaTear k).mem = s.mem := rfl

@[simp] theorem State.dmaRetire_mem (s : State) (members : List Nat) (ctx : Nat) :
    (s.dmaRetire members ctx).mem = s.mem := by
  simp only [State.dmaRetire, State.setChan_mem, State.dmaTear_mem, foldl_mem, implies_true, apply_ite State.mem, ite_self]

@[simp] theorem State.endLaunch_mem (s : State) (k : Nat) (e : LaunchEnd) :
    (s.endLaunch k e).mem = s.mem := by
  unfold State.endLaunch
  split <;> simp only [State.setLaunch_mem, apply_ite State.mem, ite_self]

@[simp] theorem State.opFailAt_mem (s : State) (c : Nat) (code : Nat) (tile : Nat) :
    (s.opFailAt c code tile).mem = s.mem := by
  unfold State.opFailAt
  simp only [State.partFault_mem, apply_ite State.mem, ite_self]
  split <;> simp only [State.setCore_mem, State.coreEvicts_mem, State.endLaunch_mem]

@[simp] theorem State.opFail_mem (s : State) (c : Nat) (code : Nat) :
    (s.opFail c code).mem = s.mem := by
  simp only [State.opFail, State.opFailAt_mem]

@[simp] theorem State.opMeets_mem (s : State) (src : EccSource) (c : Nat) (addr : Nat) (reads : Bool) (o : ShellOutcome) :
    (s.opMeets src c addr reads o).1.mem = s.mem := by
  unfold State.opMeets
  simp only []
  repeat' split
  all_goals simp only [State.eccNote_mem, State.opFail_mem]

@[simp] theorem State.opReadWalnut_mem (s : State) (c : Nat) (o : ShellOutcome) :
    (s.opReadWalnut c o).1.mem = s.mem := by
  simp only [State.opReadWalnut, State.opMeets_mem]

@[simp] theorem State.opRead_mem (s : State) (c : Nat) (reads : Bool) (o : ShellOutcome) :
    (s.opRead c reads o).1.mem = s.mem := by
  simp only [State.opRead, State.opMeets_mem]

@[simp] theorem State.drainMeets_mem (s : State) (c : Nat) (op : Drain) (shell : ShellOutcome) :
    (s.drainMeets c op shell).1.mem = s.mem := by
  unfold State.drainMeets
  split <;> simp only [State.opRead_mem, State.opReadWalnut_mem]

@[simp] theorem State.modEngine_mem (s : State) (c : Nat) (e : Nat) (f : Engine → Engine) :
    (s.modEngine c e f).mem = s.mem := rfl

@[simp] theorem State.emptyBank_mem (s : State) (c : Nat) (e : Nat) (b : Fin 2) :
    (s.emptyBank c e b).mem = s.mem := rfl

@[simp] theorem State.openRegion_mem (s : State) (c : Nat) (r : WRegion) :
    (s.openRegion c r).mem = s.mem := rfl

@[simp] theorem State.raiseFlags_mem (s : State) (c : Nat) (g : FlagGroup) (f : Flg) :
    (s.raiseFlags c g f).mem = s.mem := rfl

@[simp] theorem State.waitsAt_mem (s : State) (key : Nat) :
    (s.waitsAt key).mem = s.mem := by
  simp only [State.waitsAt, State.fresh_mem, State.wrFree_mem, State.shadowOf_mem]

@[simp] theorem State.waits_mem (s : State) (p : Nat) (sub : Nat) :
    (s.waits p sub).mem = s.mem := by
  simp only [State.waits, State.waitsAt_mem]

@[simp] theorem State.dropBucketRoom_mem (s : State) (c : Nat) (b : BucketDest) :
    (s.dropBucketRoom c b).mem = s.mem := rfl

@[simp] theorem State.dropVf_mem (s : State) (v : Nat) :
    (s.dropVf v).mem = s.mem := by
  simp only [State.dropVf, State.setFunc_mem, State.dmaNoBus_mem, State.sendMsix_mem, State.emit_mem, foldl_mem, implies_true,
    apply_ite State.mem, ite_self]

@[simp] theorem State.sendNotice_mem (s : State) (p : Nat) (r : FetchReq) (code : Nat) :
    (s.sendNotice p r code).mem = s.mem := by
  simp only [State.sendNotice, State.inject_mem, State.modLoader_mem]

@[simp] theorem State.progFree_mem (s : State) (p : Nat) (n : Nat) :
    (s.progFree p n).mem = s.mem := rfl

@[simp] theorem State.settleProg_mem (s : State) (p : Nat) (h : Nat) :
    (s.settleProg p h).mem = s.mem := by
  simp only [State.settleProg, State.progFree_mem, apply_ite State.mem, ite_self]

@[simp] theorem State.modFunc_mem (s : State) (f : Nat) (g : FuncSt → FuncSt) :
    (s.modFunc f g).mem = s.mem := rfl

@[simp] theorem State.funcWrite_mem (s : State) (via : Via) (g : FuncSt → FuncSt) :
    (s.funcWrite via g).mem = s.mem := by
  unfold State.funcWrite
  split <;> simp only [State.modFunc_mem]

@[simp] theorem State.settleCore_mem (s : State) (c : Nat) :
    (s.settleCore c).mem = s.mem := by
  simp only [State.settleCore, State.setCore_mem, apply_ite State.mem, ite_self]

@[simp] theorem State.gotoItem_mem (s : State) (c : Nat) (i : Nat) :
    (s.gotoItem c i).mem = s.mem := by
  simp only [State.gotoItem, State.settleCore_mem, State.modCore_mem]

@[simp] theorem loadConvert_mem (s : State) (c : Nat) (d : Desc) (fmt : Format) (k : Nat) (cvs : List (Word × Num)) :
    (loadConvert s c d fmt k cvs).2.mem = s.mem := by
  unfold loadConvert
  split <;> simp only [State.modCore_mem, State.setCore_mem]

@[simp] theorem State.ingress_mem (s : State) (src : FabAddr) (srcEpoch : Epoch) :
    (s.ingress src srcEpoch).1.mem = s.mem := by
  fun_cases s.ingress src srcEpoch <;> simp only [State.count_mem, State.learnEpoch_mem]

@[simp] theorem State.inputFault_mem (s : State) (b : Nat) :
    (s.inputFault b).mem = s.mem := rfl

@[simp] theorem State.lateMirror_mem (s : State) :
    s.lateMirror.mem = s.mem := by
  simp only [State.lateMirror, State.healthEvent_mem, State.count32Sat_mem]

@[simp] theorem State.loaderAck_mem (s : State) (p : Nat) (pkt : Packet) (refused : Bool) :
    (s.loaderAck p pkt refused).mem = s.mem := by
  fun_cases s.loaderAck p pkt refused <;> simp only [State.failShard_mem, State.modShard_mem, State.modLoader_mem]

@[simp] theorem State.markDraining_mem (s : State) (c : Nat) (r : WRegion) (k : Nat) :
    (s.markDraining c r k).mem = s.mem := rfl

@[simp] theorem State.modCtxE_mem (s : State) (k : Nat) (f : Ctx → Ctx) :
    (s.modCtxE k f).mem = s.mem := rfl

@[simp] theorem State.newKeys_mem (s : State) :
    s.newKeys.mem = s.mem := by
  simp only [State.newKeys, State.count32_mem, State.newKey_mem, foldl_mem, implies_true]

@[simp] theorem State.noteCtx_mem (s : State) (k : Nat) :
    (s.noteCtx k).mem = s.mem := by
  simp only [State.noteCtx, State.setCtxE_mem, apply_ite State.mem, ite_self]

@[simp] theorem State.noteCtxs_mem (s : State) (p : Nat) :
    (s.noteCtxs p).mem = s.mem := by
  simp only [State.noteCtxs, State.noteCtx_mem, foldl_mem, implies_true]

@[simp] theorem State.noteLate_mem (s : State) (p : Nat) (n : Nat) :
    (s.noteLate p n).mem = s.mem := by
  simp only [State.noteLate, State.pCount_mem, apply_ite State.mem, ite_self]

@[simp] theorem State.noteMaster_mem (s : State) (m : MasterAnn) (off : ℤ) :
    (s.noteMaster m off).mem = s.mem := by
  simp only [State.noteMaster, State.fabricEvent_mem, State.count32Sat_mem, State.modFab_mem, apply_ite State.mem, ite_self]

@[simp] theorem State.opReadBoth_mem (s : State) (c : Nat) (walnut : Bool) (o : ShellOutcome) :
    (s.opReadBoth c walnut o).1.mem = s.mem := by
  unfold State.opReadBoth
  split <;> simp only [State.opReadWalnut_mem, State.opRead_mem]

@[simp] theorem State.peerAccept_mem (s : State) (p : Nat) (pkt : Packet) :
    (s.peerAccept p pkt).mem = s.mem := by
  simp only [State.peerAccept, State.inject_mem]

@[simp] theorem State.peerRefuse_mem (s : State) (p : Nat) (pkt : Packet) :
    (s.peerRefuse p pkt).mem = s.mem := by
  simp only [State.peerRefuse, State.inject_mem, State.pCount_mem]

@[simp] theorem State.pumpOut_mem (s : State) (j : Nat) (k : Nat) :
    (s.pumpOut j k).mem = s.mem := by
  simp only [State.pumpOut, sendQueue_mem]

@[simp] theorem State.rebase_mem (s : State) :
    s.rebase.mem = s.mem := rfl

@[simp] theorem State.refuseFlit_mem (s : State) (n : Nat) (broken : Bool) :
    (s.refuseFlit n broken).mem = s.mem := by
  simp only [State.refuseFlit, State.setPort_mem, State.sendFlit_mem, apply_ite State.mem, ite_self]

@[simp] theorem State.releaseVector_mem (s : State) (f : Nat) (v : Nat) :
    (s.releaseVector f v).mem = s.mem := by
  simp only [State.releaseVector, State.emit_mem, State.setFunc_mem, apply_ite State.mem, ite_self]

@[simp] theorem State.requestEvict_mem (s : State) (k : Nat) (counts : Bool) :
    (s.requestEvict k counts).mem = s.mem := by
  simp only [State.requestEvict, State.setCtxE_mem, State.pCount_mem, State.tryEvict_mem, apply_ite State.mem, ite_self]

@[simp] theorem State.restoreAck_mem (s : State) (n : Nat) (refused : Bool) :
    (s.restoreAck n refused).mem = s.mem := by
  unfold State.restoreAck
  split <;> simp only [State.count_mem]

@[simp] theorem State.watchSlot_mem (s : State) (k : Nat) :
    (s.watchSlot k).mem = s.mem := rfl

@[simp] theorem State.watchCore_mem (s : State) (c : Nat) :
    (s.watchCore c).mem = s.mem := by
  unfold State.watchCore
  split <;> simp only [State.modCore_mem, apply_ite State.mem, ite_self]

@[simp] theorem State.watch_mem (s : State) :
    s.watch.mem = s.mem := by
  simp only [State.watch, State.watchCore_mem, State.watchSlot_mem, foldl_mem, implies_true, apply_ite State.mem, ite_self]

@[simp] theorem sendQuiet_mem (job : Nat) (k : Nat) (x1 : List Nat) (x2 : Nat) (x3 : State) :
    (sendQuiet job k x1 x2 x3).mem = x3.mem := by
  fun_induction sendQuiet job k x1 x2 x3 <;> simp only [*, State.inject_mem]

@[simp] theorem State.sampleStraps_mem (s : State) (pins : BitVec 12) (powerUp : Bool) :
    (s.sampleStraps pins powerUp).mem = s.mem := by
  simp only [State.sampleStraps, State.wrN_mem, State.modMgmt_mem, State.mgmtEvent_mem, apply_ite State.mem, ite_self]

@[simp] theorem State.scrubNote_mem (s : State) (hbm : Bool) (o : Nat) (out : ShellOutcome) :
    (s.scrubNote hbm o out).mem = s.mem := by
  simp only [State.scrubNote, State.eccNote_mem, State.event_mem, apply_ite State.mem, ite_self]

@[simp] theorem State.setScrub_mem (s : State) (hbm : Bool) (x : Scrub) :
    (s.setScrub hbm x).mem = s.mem := rfl

@[simp] theorem State.scrubOn_mem (s : State) (hbm : Bool) (o : Nat) :
    (s.scrubOn hbm o).mem = s.mem := by
  unfold State.scrubOn
  split <;> simp only [State.setScrub_mem, State.count32_mem]

@[simp] theorem State.sendBody_mem (s : State) (n : Nat) (rs : List OutPkt) (q : OutPkt) :
    (s.sendBody n rs q).mem = s.mem := by
  simp only [State.sendBody, State.setPort_mem, State.count_mem, State.sendFlit_mem, State.leaveInput_mem, State.emit_mem,
    foldl_mem, implies_true, apply_ite State.mem, ite_self]

@[simp] theorem State.setInactive_mem (s : State) (i : ImgInfo) :
    (s.setInactive i).mem = s.mem := by
  simp only [State.setInactive, State.modSec_mem, apply_ite State.mem, ite_self]

@[simp] theorem State.spotSample_mem (s : State) (p : Nat) :
    (s.spotSample p).1.mem = s.mem := rfl

@[simp] theorem State.spotAfter_mem (s : State) (c : Nat) (cycles : Nat) :
    (s.spotAfter c cycles).mem = s.mem := by
  simp only [State.spotAfter, State.spotSample_mem, State.modCore_mem, State.count_mem, apply_ite State.mem, ite_self]

@[simp] theorem State.stackReports_mem (s : State) (n : Nat) :
    (s.stackReports n).mem = s.mem := by
  simp only [State.stackReports, State.fresh_mem, State.wrFree_mem, State.shadowOf_mem]

@[simp] theorem State.stagedSend_mem (s : State) (j : Nat) (c : CollCtx) (d : CollDesc) :
    (s.stagedSend j c d).mem = s.mem := by
  unfold State.stagedSend
  simp only []
  split <;> simp only [State.setCtx_mem, State.count_mem, State.modCs_mem, apply_ite State.mem, ite_self]

@[simp] theorem State.suspectEvent_mem (s : State) (a : FabAddr) (cause : Nat) :
    (s.suspectEvent a cause).mem = s.mem := by
  simp only [State.suspectEvent, State.modHealth_mem, State.healthEvent_mem, apply_ite State.mem, ite_self]

@[simp] theorem State.swap_mem (s : State) (p : Nat) :
    (s.swap p).mem = s.mem := by
  unfold State.swap
  simp only []
  repeat' split
  all_goals simp only [State.noteCtxs_mem, State.modCtxE_mem, State.requestEvict_mem, foldl_mem, implies_true]

@[simp] theorem State.takeAnnouncement_mem (s : State) (inPort : Nat) (addr : FabAddr) (epoch : Epoch) (hops : Nat) :
    (s.takeAnnouncement inPort addr epoch hops).mem = s.mem := by
  simp only [State.takeAnnouncement, State.learnEpoch_mem, State.announce_mem, State.count32Sat_mem, apply_ite State.mem, ite_self]

@[simp] theorem State.takeId_mem (s : State) (n : Nat) :
    (s.takeId n).mem = s.mem := by
  simp only [State.takeId, State.modMgmt_mem, State.wrN_mem, State.mgmtEvent_mem, apply_ite State.mem, ite_self]

@[simp] theorem State.takeNotice_mem (s : State) (p : Nat) (i : Nat) (attempt : Nat) (code : Nat) :
    (s.takeNotice p i attempt code).mem = s.mem := by
  unfold State.takeNotice
  split <;> simp only [State.assignUnits_mem, State.modShard_mem, State.failShard_mem, apply_ite State.mem, ite_self]

@[simp] theorem State.toConga_mem (s : State) (n : Nat) :
    (s.toConga n).mem = s.mem := rfl

@[simp] theorem State.tookFallback_mem (s : State) (p : Nat) (n : Nat) (fb : Bool) :
    (s.tookFallback p n fb).mem = s.mem := by
  simp only [State.tookFallback, State.setSlot_mem, State.pCount_mem, apply_ite State.mem, ite_self]

@[simp] theorem State.trainPcie_mem (s : State) (l : PcieLink) :
    (s.trainPcie l).mem = s.mem := rfl

@[simp] theorem State.vecMeets_mem (s : State) (c : Nat) (spad : Bool) (o : ShellOutcome) :
    (s.vecMeets c spad o).1.mem = s.mem := by
  simp only [State.vecMeets, State.opRead_mem, State.waits_mem, apply_ite State.mem, ite_self]

@[simp] theorem absentAll_mem (x1 : List FabAddr) (x2 : State) :
    (absentAll x1 x2).mem = x2.mem := by
  fun_induction absentAll x1 x2 <;> simp only [*, State.suspectEvent_mem]

@[simp] theorem canFrameIgnoredEff_mem (x1 : IgnoredFrame) (s : State) :
    (canFrameIgnoredEff x1 s).mem = s.mem := by
  simp only [canFrameIgnoredEff, State.ignoreCan_mem, apply_ite State.mem, ite_self]

@[simp] theorem canBusErrorEff_mem (e : CanError) (s : State) :
    (canBusErrorEff e s).mem = s.mem := by
  unfold canBusErrorEff
  simp only [apply_ite State.mem]
  repeat' split
  all_goals simp only [State.modMgmt_mem, State.count32Sat_mem]

@[simp] theorem pcieReferenceChangeEff_mem (present : Bool) (link : PcieLink) (s : State) :
    (pcieReferenceChangeEff present link s).mem = s.mem := rfl

@[simp] theorem timePpsLossEff_mem (s : State) :
    (timePpsLossEff s).mem = s.mem := by
  simp only [timePpsLossEff, State.modFab_mem, apply_ite State.mem, ite_self]

@[simp] theorem thermalHoldExitEff_mem (s : State) :
    (thermalHoldExitEff s).mem = s.mem := by
  simp only [thermalHoldExitEff, State.setReadiness_mem, State.count32Sat_mem, State.modPow_mem, apply_ite State.mem, ite_self]

@[simp] theorem channelSelfRefreshReturnEff_mem (n : Fin 384) (s : State) :
    (channelSelfRefreshReturnEff n s).mem = s.mem := rfl

@[simp] theorem mcRestartDoneEff_mem (s : State) :
    (mcRestartDoneEff s).mem = s.mem := by
  simp only [mcRestartDoneEff, State.mgmtEvent_mem, apply_ite State.mem, ite_self]

@[simp] theorem engineResetDoneEff_mem (p : Part) (s : State) :
    (engineResetDoneEff p s).mem = s.mem := rfl

@[simp] theorem completionTimeoutEff_mem (ch : ChanId) (fence : Bool) (s : State) :
    (completionTimeoutEff ch fence s).mem = s.mem := by
  fun_cases completionTimeoutEff ch fence s <;> simp only [State.dmaFenceEnd_mem, State.dmaHalt_mem]

@[simp] theorem serdesReferenceReturnEff_mem (s : State) :
    (serdesReferenceReturnEff s).mem = s.mem := rfl

@[simp] theorem clusterClockChangeEff_mem (p : Part) (s : State) :
    (clusterClockChangeEff p s).mem = s.mem := by
  simp only [clusterClockChangeEff, State.wrN_mem, apply_ite State.mem, ite_self]

@[simp] theorem avfsTrimEff_mem (p : Part) (mv : Nat) (requestMhz : Nat) (s : State) :
    (avfsTrimEff p mv requestMhz s).mem = s.mem := by
  simp only [avfsTrimEff, State.modCluster_mem, State.wrN_mem, apply_ite State.mem, ite_self]

@[simp] theorem fastCutEff_mem (s : State) :
    (fastCutEff s).mem = s.mem := by
  simp only [fastCutEff, State.applyCut_mem, apply_ite State.mem, ite_self]

@[simp] theorem powerCapSampleEff_mem (m : PowerSample) (s : State) :
    (powerCapSampleEff m s).mem = s.mem := by
  simp only [powerCapSampleEff, State.fresh_mem, State.modPow_mem, State.count_mem, State.wrN_mem, State.wrFree_mem, State.wr_mem,
    apply_ite State.mem, ite_self]

@[simp] theorem prewakeEff_mem (p : Part) (n : Fin 256) (s : State) :
    (prewakeEff p n s).mem = s.mem := by
  simp only [prewakeEff, State.wakeGroup_mem, State.setSlot_mem, apply_ite State.mem, ite_self]

@[simp] theorem clusterSleepExpiryEff_mem (p : Part) (s : State) :
    (clusterSleepExpiryEff p s).mem = s.mem := by
  simp only [clusterSleepExpiryEff, State.modCluster_mem, apply_ite State.mem, ite_self]

@[simp] theorem wakeDoneEff_mem (t : WakeTarget) (s : State) :
    (wakeDoneEff t s).mem = s.mem := by
  fun_cases wakeDoneEff t s <;> simp only [State.modCluster_mem, State.modPow_mem, State.partAwake_mem, foldl_mem, implies_true,
    apply_ite State.mem, ite_self]

@[simp] theorem wakeDemandEff_mem (t : WakeTarget) (s : State) :
    (wakeDemandEff t s).mem = s.mem := by
  fun_cases wakeDemandEff t s <;> simp only [State.pCount_mem, State.modCluster_mem, State.modPow_mem, State.wakeGroup_mem]

@[simp] theorem calibrationStagingTimeoutEff_mem (s : State) :
    (calibrationStagingTimeoutEff s).mem = s.mem := by
  simp only [calibrationStagingTimeoutEff, State.modMgmt_mem, apply_ite State.mem, ite_self]

@[simp] theorem rwsSaveDoneEff_mem (ok : Bool) (s : State) :
    (rwsSaveDoneEff ok s).mem = s.mem := by
  unfold rwsSaveDoneEff
  split <;> simp only [State.modMgmt_mem, State.mgmtEvent_mem, State.count32Sat_mem, apply_ite State.mem, ite_self]

@[simp] theorem busOffRecoveryEff_mem (s : State) :
    (busOffRecoveryEff s).mem = s.mem := by
  simp only [busOffRecoveryEff, State.mgmtEvent_mem, State.modMgmt_mem, apply_ite State.mem, ite_self]

@[simp] theorem nodeIdConflictEff_mem (s : State) :
    (nodeIdConflictEff s).mem = s.mem := by
  simp only [nodeIdConflictEff, State.mgmtEvent_mem, State.toConga_mem, State.modMgmt_mem, apply_ite State.mem, ite_self]

@[simp] theorem congaInChangeEff_mem (level : Bool) (heldUs : Nat) (s : State) :
    (congaInChangeEff level heldUs s).mem = s.mem := by
  simp only [congaInChangeEff, State.modMgmt_mem, State.toConga_mem, apply_ite State.mem, ite_self]

@[simp] theorem restartEff_mem (s : State) :
    (restartEff s).mem = s.mem := by
  simp only [restartEff, State.modMgmt_mem, State.rxCan_mem, State.takeId_mem, State.wrN_mem, State.toConga_mem, apply_ite
    State.mem, ite_self]

@[simp] theorem assignEff_mem (position : Nat) (s : State) :
    (assignEff position s).mem = s.mem := by
  simp only [assignEff, State.confirm_mem, State.takeId_mem, State.toConga_mem, State.wrN_mem, State.rxCan_mem,
    State.mgmtEvent_mem, apply_ite State.mem, ite_self]

@[simp] theorem eventFrameSendEff_mem (s : State) :
    (eventFrameSendEff s).mem = s.mem := by
  fun_cases eventFrameSendEff s <;> simp only [State.modMgmt_mem, State.sendCan_mem]

@[simp] theorem barzarEventEff_mem (cls : Fin 5) (part : Option Part) (code : Nat) (s : State) :
    (barzarEventEff cls part code s).mem = s.mem := by
  fun_cases barzarEventEff cls part code s <;> simp only [State.healthEvent_mem, State.fabricEvent_mem, State.event_mem,
    State.mgmtEvent_mem]

@[simp] theorem ctrlHbTimeoutEff_mem (s : State) :
    (ctrlHbTimeoutEff s).mem = s.mem := by
  simp only [ctrlHbTimeoutEff, State.mgmtEvent_mem, State.modMgmt_mem, apply_ite State.mem, ite_self]

@[simp] theorem controllerHeartbeatEff_mem (s : State) :
    (controllerHeartbeatEff s).mem = s.mem := by
  simp only [controllerHeartbeatEff, State.modMgmt_mem, State.rxCan_mem, apply_ite State.mem, ite_self]

@[simp] theorem heartbeatSendEff_mem (s : State) :
    (heartbeatSendEff s).mem = s.mem := by
  simp only [heartbeatSendEff, State.modMgmt_mem, State.sendCan_mem, apply_ite State.mem, ite_self]

@[simp] theorem atsInvalidationEff_mem (f : Func) (page : Nat) (size : Nat) (s : State) :
    (atsInvalidationEff f page size s).mem = s.mem := by
  simp only [atsInvalidationEff, State.emit_mem, apply_ite State.mem, ite_self]

@[simp] theorem msixVectorReleaseEff_mem (f : Func) (vector : Nat) (s : State) :
    (msixVectorReleaseEff f vector s).mem = s.mem := by
  simp only [msixVectorReleaseEff, State.releaseVector_mem, apply_ite State.mem, ite_self]

@[simp] theorem vfEnableChangeEff_mem (enable : Bool) (numVfs : Nat) (s : State) :
    (vfEnableChangeEff enable numVfs s).mem = s.mem := by
  simp only [vfEnableChangeEff, State.dropVf_mem, foldl_mem, implies_true, apply_ite State.mem, ite_self]

@[simp] theorem d3hotEntryEff_mem (f : Func) (s : State) :
    (d3hotEntryEff f s).mem = s.mem := by
  simp only [d3hotEntryEff, State.modFunc_mem, apply_ite State.mem, ite_self]

@[simp] theorem busMasterDisableEff_mem (f : Func) (s : State) :
    (busMasterDisableEff f s).mem = s.mem := by
  simp only [busMasterDisableEff, State.dmaNoBus_mem, State.modFunc_mem, apply_ite State.mem, ite_self]

@[simp] theorem bistDeferredStartEff_mem (p : Part) (s : State) :
    (bistDeferredStartEff p s).mem = s.mem := by
  simp only [bistDeferredStartEff, State.pWr_mem, apply_ite State.mem, ite_self]

@[simp] theorem spotCheckCompareEff_mem (c : Core) (first : Word) (second : Word) (s : State) :
    (spotCheckCompareEff c first second s).mem = s.mem := by
  simp only [spotCheckCompareEff, State.count_mem, State.modCore_mem, State.shadowAdd_mem, apply_ite State.mem, ite_self]

@[simp] theorem probeTimeoutEff_mem (addr : FabAddr) (s : State) :
    (probeTimeoutEff addr s).mem = s.mem := by
  unfold probeTimeoutEff
  split <;> simp only [State.suspectEvent_mem, State.modHealth_mem, apply_ite State.mem, ite_self]

@[simp] theorem probeEff_mem (pkt : Packet) (s : State) :
    (probeEff pkt s).mem = s.mem := by
  simp only [probeEff, State.inject_mem, State.modHealth_mem, apply_ite State.mem, ite_self]

@[simp] theorem partnerSilentEff_mem (s : State) :
    (partnerSilentEff s).mem = s.mem := by
  unfold partnerSilentEff
  split <;> simp only [State.suspectEvent_mem, State.modHealth_mem, apply_ite State.mem, ite_self]

@[simp] theorem mirrorLateEff_mem (s : State) :
    (mirrorLateEff s).mem = s.mem := by
  unfold mirrorLateEff
  simp only [apply_ite State.mem]
  repeat' split
  all_goals simp only [State.lateMirror_mem, State.modTango_mem]

@[simp] theorem tangoResumeEff_mem (pkt : Packet) (s : State) :
    (tangoResumeEff pkt s).mem = s.mem := by
  simp only [tangoResumeEff, State.sendPair_mem, State.modTango_mem, apply_ite State.mem, ite_self]

@[simp] theorem tangoCompleteEff_mem (pkt : Packet) (s : State) :
    (tangoCompleteEff pkt s).mem = s.mem := by
  simp only [tangoCompleteEff, State.modTango_mem, apply_ite State.mem, ite_self]

@[simp] theorem tangoBeginEff_mem (pkt : Packet) (s : State) :
    (tangoBeginEff pkt s).mem = s.mem := by
  simp only [tangoBeginEff, State.modTango_mem, apply_ite State.mem, ite_self]

@[simp] theorem serveRequestReceiveEff_mem (p : Part) (pkt : Packet) (s : State) :
    (serveRequestReceiveEff p pkt s).mem = s.mem := by
  simp only [serveRequestReceiveEff, State.ctxDrop_mem, State.peerRefuse_mem, State.peerAccept_mem, State.modLoader_mem, apply_ite
    State.mem, ite_self]

@[simp] theorem fetchNoticeEff_mem (p : Part) (pkt : Packet) (s : State) :
    (fetchNoticeEff p pkt s).mem = s.mem := by
  simp only [fetchNoticeEff, State.ctxDrop_mem, State.peerRefuse_mem, State.takeNotice_mem, State.peerAccept_mem, apply_ite
    State.mem, ite_self]

@[simp] theorem fetchDeadlineEff_mem (p : Part) (shard : Nat) (s : State) :
    (fetchDeadlineEff p shard s).mem = s.mem := by
  unfold fetchDeadlineEff
  split <;> simp only [State.failShard_mem, apply_ite State.mem, ite_self]

@[simp] theorem digestDoneEff_mem (p : Part) (shard : Nat) (o : ShellOutcome) (s : State) :
    (digestDoneEff p shard o s).mem = s.mem := by
  unfold digestDoneEff
  simp only []
  split <;> simp only [State.memNote_mem, State.modShard_mem, State.assignUnits_mem, State.pCount_mem, State.modLoader_mem,
    State.failShard_mem, apply_ite State.mem, ite_self]

@[simp] theorem expectBeatEff_mem (p : Part) (s : State) :
    (expectBeatEff p s).mem = s.mem := by
  simp only [expectBeatEff, State.assignUnits_mem, State.modLoader_mem, apply_ite State.mem, ite_self]

@[simp] theorem horaBufferReleaseEff_mem (c : Core) (j : JobSlot) (step : Tag) (bucket : BitVec 16) (s : State) :
    (horaBufferReleaseEff c j step bucket s).mem = s.mem := by
  fun_cases horaBufferReleaseEff c j step bucket s <;> simp only [State.pollHora_mem, State.setCtx_mem]

@[simp] theorem slotReleaseDoneEff_mem (j : JobSlot) (s : State) :
    (slotReleaseDoneEff j s).mem = s.mem := by
  simp only [slotReleaseDoneEff, State.wrN_mem, State.setCs_mem, apply_ite State.mem, ite_self]

@[simp] theorem timePpsEdgeEff_mem (s : State) :
    (timePpsEdgeEff s).mem = s.mem := by
  simp only [timePpsEdgeEff, State.modFab_mem, apply_ite State.mem, ite_self]

@[simp] theorem holdoverEntryEff_mem (s : State) :
    (holdoverEntryEff s).mem = s.mem := by
  fun_cases holdoverEntryEff s <;> simp only [State.enterHoldover_mem, State.reselect_mem, State.modFab_mem]

@[simp] theorem masterAnnouncementTimeoutEff_mem (addr : FabAddr) (serial : Word) (s : State) :
    (masterAnnouncementTimeoutEff addr serial s).mem = s.mem := by
  simp only [masterAnnouncementTimeoutEff, State.modFab_mem, State.reselect_mem, apply_ite State.mem, ite_self]

@[simp] theorem tempoReceiveEff_mem (n : Port) (t : TempoRx) (s : State) :
    (tempoReceiveEff n t s).mem = s.mem := by
  unfold tempoReceiveEff
  simp only [State.setPort_mem, State.wrN_mem, State.reselect_mem, State.correct_mem, apply_ite State.mem, ite_self]
  repeat' split
  all_goals simp only [State.setPort_mem, State.wrN_mem, State.noteMaster_mem, State.modFab_mem]

@[simp] theorem tempoSendEff_mem (n : Port) (s : State) :
    (tempoSendEff n s).mem = s.mem := by
  simp only [tempoSendEff, State.sendOpaque_mem, State.emit_mem, apply_ite State.mem, ite_self]

@[simp] theorem routeCopyDoneEff_mem (s : State) :
    (routeCopyDoneEff s).mem = s.mem := by
  simp only [routeCopyDoneEff, State.modFab_mem, apply_ite State.mem, ite_self]

@[simp] theorem routeBankExchangeEff_mem (s : State) :
    (routeBankExchangeEff s).mem = s.mem := by
  simp only [routeBankExchangeEff, State.exchangeBanks_mem, apply_ite State.mem, ite_self]

@[simp] theorem epochAnnounceEff_mem (inPort : Port) (addr : FabAddr) (epoch : Epoch) (hops : Fin 16) (src : FabAddr)
    (srcEpoch : Epoch) (s : State) :
    (epochAnnounceEff inPort addr epoch hops src srcEpoch s).mem = s.mem := by
  simp only [epochAnnounceEff, State.ingress_mem, State.takeAnnouncement_mem, apply_ite State.mem, ite_self]

@[simp] theorem packetRouteEff_mem (die : Die) (inPort : Option Port) (pkt : Packet) (shells : List ShellOutcome) (s : State) :
    (packetRouteEff die inPort pkt shells s).mem = s.mem := by
  unfold packetRouteEff
  split <;> simp only [State.injectWith_mem, State.ingress_mem, State.leaveInput_mem, State.dropUnreachable_mem,
    State.routeFrom_mem, apply_ite State.mem, ite_self]

@[simp] theorem fatalLinkFailureEff_mem (n : Port) (cause : LinkFail) (s : State) :
    (fatalLinkFailureEff n cause s).mem = s.mem := by
  unfold fatalLinkFailureEff
  split <;> simp only [State.fatalPort_mem, apply_ite State.mem, ite_self]

@[simp] theorem recalDoneEff_mem (n : Port) (ok : Bool) (s : State) :
    (recalDoneEff n ok s).mem = s.mem := by
  simp only [recalDoneEff, State.attemptDone_mem, apply_ite State.mem, ite_self]

@[simp] theorem drainDoneEff_mem (n : Port) (after100us : Bool) (s : State) :
    (drainDoneEff n after100us s).mem = s.mem := by
  simp only [drainDoneEff, State.toPState_mem, apply_ite State.mem, ite_self]

@[simp] theorem learnAll_mem (x1 : List (FabAddr × Epoch)) (x2 : State) :
    (learnAll x1 x2).mem = x2.mem := by
  fun_induction learnAll x1 x2 <;> simp only [*, State.learnEpoch_mem]

@[simp] theorem trainDoneEff_mem (n : Port) (ok : Bool) (s : State) :
    (trainDoneEff n ok s).mem = s.mem := by
  simp only [trainDoneEff, State.attemptDone_mem, apply_ite State.mem, ite_self]

@[simp] theorem signalDetectEff_mem (n : Port) (s : State) :
    (signalDetectEff n s).mem = s.mem := by
  simp only [signalDetectEff, State.toPState_mem, apply_ite State.mem, ite_self]

@[simp] theorem patrolScrubReadEff_mem (hbm : Bool) (o : ShellOutcome) (s : State) :
    (patrolScrubReadEff hbm o s).mem = s.mem := by
  fun_cases patrolScrubReadEff hbm o s <;> simp only [State.scrubOn_mem, State.scrubNote_mem]

@[simp] theorem peerAckEff_mem (ch : ChanId) (pkt : Packet) (answer : PeerAnswer) (s : State) :
    (peerAckEff ch pkt answer s).mem = s.mem := by
  simp only [peerAckEff, State.pumpQuiet_mem, State.modChan_mem, State.restoreAck_mem, State.loaderAck_mem, apply_ite State.mem,
    ite_self]

@[simp] theorem retireHoldExpiryEff_mem (p : Part) (i : Fin 16) (s : State) :
    (retireHoldExpiryEff p i s).mem = s.mem := by
  simp only [retireHoldExpiryEff, State.setCtxE_mem, apply_ite State.mem, ite_self]

@[simp] theorem quietAckEff_mem (pkt : Packet) (s : State) :
    (quietAckEff pkt s).mem = s.mem := by
  simp only [quietAckEff, State.setCtxE_mem, apply_ite State.mem, ite_self]

@[simp] theorem quietReqEff_mem (pkt : Packet) (s : State) :
    (quietReqEff pkt s).mem = s.mem := by
  simp only [quietReqEff, State.pumpQuiet_mem, apply_ite State.mem, ite_self]

@[simp] theorem sliceExpiryEff_mem (p : Part) (i : Fin 16) (s : State) :
    (sliceExpiryEff p i s).mem = s.mem := by
  unfold sliceExpiryEff
  simp only []
  split <;> simp only [State.setCtxE_mem, State.swap_mem, State.modCtxE_mem, apply_ite State.mem, ite_self]

@[simp] theorem swapperEvaluateEff_mem (p : Part) (s : State) :
    (swapperEvaluateEff p s).mem = s.mem := by
  simp only [swapperEvaluateEff, State.swap_mem, apply_ite State.mem, ite_self]

@[simp] theorem imageValidationDoneEff_mem (p : Part) (n : Fin 1024) (img : Image) (s : State) :
    (imageValidationDoneEff p n img s).mem = s.mem := by
  unfold imageValidationDoneEff
  simp only [apply_ite State.mem]
  repeat' split
  all_goals simp only [State.setProg_mem, State.partFault_mem]

@[simp] theorem regionMarkWrittenEff_mem (c : Core) (r : Region) (s : State) :
    (regionMarkWrittenEff c r s).mem = s.mem := by
  fun_cases regionMarkWrittenEff c r s <;> simp only [State.modSlot_mem]

@[simp] theorem optimizerWriteEff_mem (c : Core) (r : Region) (s : State) :
    (optimizerWriteEff c r s).mem = s.mem := by
  fun_cases optimizerWriteEff c r s <;> simp only [State.opFail_mem, State.modSlot_mem]

@[simp] theorem reserveGate_mem (c : Nat) (k : Nat) (g : Gate) (s : State) :
    (reserveGate c k g s).mem = s.mem := by
  unfold reserveGate
  split <;> simp only [State.modCore_mem, State.setLaunch_mem]

@[simp] theorem reserveGates_mem (c : Nat) (k : Nat) (gs : List Gate) (s : State) :
    (reserveGates c k gs s).mem = s.mem := by
  simp only [reserveGates, reserveGate_mem, foldl_mem, implies_true]

@[simp] theorem issueTile_mem (c : Core) (s : State) :
    (issueTile c s).mem = s.mem := by
  unfold issueTile
  split <;> simp only [State.endLaunch_mem, State.setLaunch_mem, reserveGates_mem, State.modCore_mem, apply_ite State.mem, ite_self]

@[simp] theorem tileIssueEff_mem (c : Core) (s : State) :
    (tileIssueEff c s).mem = s.mem := by
  simp only [tileIssueEff, State.noteCtxs_mem, issueTile_mem]

@[simp] theorem loopEndEff_mem (c : Core) (level : Fin 4) (s : State) :
    (loopEndEff c level s).mem = s.mem := by
  simp only [loopEndEff, State.modCore_mem, State.gotoItem_mem, apply_ite State.mem, ite_self]

@[simp] theorem loopEnterEff_mem (c : Core) (level : Fin 4) (src : LoopSrc) (s : State) :
    (loopEnterEff c level src s).mem = s.mem := by
  simp only [loopEnterEff, State.modCore_mem, State.opFailAt_mem, State.gotoItem_mem, State.opFail_mem, apply_ite State.mem,
    ite_self]

@[simp] theorem flagClearEff_mem (c : Core) (mask : Word32) (s : State) :
    (flagClearEff c mask s).mem = s.mem := by
  simp only [flagClearEff, State.clearFlags_mem, apply_ite State.mem, ite_self]

@[simp] theorem amaxSlotReadEff_mem (c : Core) (slot : Fin 32) (dst : Fin 32) (s : State) :
    (amaxSlotReadEff c slot dst s).mem = s.mem := by
  simp only [amaxSlotReadEff, State.modCore_mem, apply_ite State.mem, ite_self]

@[simp] theorem amaxSlotClearEff_mem (c : Core) (slot : Fin 32) (s : State) :
    (amaxSlotClearEff c slot s).mem = s.mem := by
  simp only [amaxSlotClearEff, State.modCore_mem, apply_ite State.mem, ite_self]

@[simp] theorem paramWriteEff_mem (c : Core) (dst : ParamDst) (src : ParamSrc) (s : State) :
    (paramWriteEff c dst src s).mem = s.mem := by
  simp only [paramWriteEff, State.modCore_mem, apply_ite State.mem, ite_self]

@[simp] theorem holdFree_mem (p : Nat) (rs : List Nat) (s : State) : (holdFree p rs s).mem = s.mem := by
  induction rs generalizing s with
  | nil => rfl
  | cons r rs ih =>
    rw [holdFree, ih]
    split
    · rfl
    · split <;> rfl

@[simp] theorem State.forMembers_mem (s : State) (p : Nat) (f : Nat → State → State) (h : ∀ q s, (f q s).mem = s.mem) :
    (s.forMembers p f).mem = s.mem :=
  foldl_mem (fun s q => h q s) _ s

@[simp] theorem bindAllWaiting_mem (p : Nat) (ms : List MicroBatch) (s : State) : (bindAllWaiting p ms s).2.mem = s.mem := by
  induction ms generalizing s with
  | nil => rfl
  | cons m ms ih =>
    rw [bindAllWaiting, ih]
    split
    · rfl
    · simp only [bindWants_mem]

@[simp] theorem bindRelease_mem (t : Tag) (rs : List (Nat × Nat)) (s : State) : (bindRelease t rs s).mem = s.mem := by
  induction rs generalizing s with
  | nil => rfl
  | cons r rs ih =>
    obtain ⟨p, r⟩ := r
    rw [bindRelease, ih]
    split
    · split <;> rfl
    · rfl

@[simp] theorem State.relSync_mem (s : State) : s.relSync.mem = s.mem := by
  unfold State.relSync
  split
  · exact bindRelease_mem ..
  · rfl

@[simp] theorem consumeHeld_mem (j : Nat) (c : CollCtx) (s : State) : (consumeHeld j c s).mem = s.mem := by
  unfold consumeHeld
  simp only [foldl_mem, State.consumePkt_mem, State.consumeOn_mem, implies_true]
  refine foldl_mem (fun s l => ?_) _ s
  split
  · rfl
  · exact State.consume_mem ..

@[simp] theorem State.takeNak_mem (s : State) (n next : Nat) : (s.takeNak n next).mem = s.mem := by
  unfold State.takeNak
  extract_lets x again t
  split
  · exact State.fatalPort_mem ..
  · refine (foldl_mem (fun _ _ => ?_) _ _).trans (State.count_mem ..)
    rfl

@[simp] theorem State.bindWaiting_mem (s : State) (p : Nat) :
    (s.bindWaiting p).mem = s.mem := by
  simp only [State.bindWaiting, bindAllWaiting_mem, State.setMicroBatches_mem]

@[simp] theorem State.endCtx_mem (s : State) (j : Nat) (c : CollCtx) (purge : Bool) :
    (s.endCtx j c purge).mem = s.mem := by
  simp -implicitDefEqProofs only [State.endCtx, consumeHeld_mem, State.modCs_mem]

@[simp] theorem State.acceptFlit_mem (s : State) (n : Nat) (f : FlitRx) :
    (s.acceptFlit n f).mem = s.mem := by
  unfold State.acceptFlit
  simp only []
  repeat' split
  all_goals simp only [State.setPort_mem, State.count_mem, State.fresh_mem, State.wrFree_mem, State.takeNak_mem, State.toPState_mem]

@[simp] theorem retryShards_mem (p : Nat) (manifest : Nat) (nr : Nat) (x1 : List Nat) (x2 : State) :
    (retryShards p manifest nr x1 x2).mem = x2.mem := by
  induction x1 generalizing p manifest nr x2 with
  | nil => rfl
  | cons a l ih => simp only [retryShards, ih, State.modShard_mem, State.failShard_mem, State.sendFetch_mem, apply_ite State.mem,
    ite_self]

@[simp] theorem commitHeld_mem (p : Nat) (t : Tag) (x1 : List (Nat × Nat)) (x2 : State) :
    (commitHeld p t x1 x2).mem = x2.mem := by
  induction x1 generalizing p t x2 with
  | nil => rfl
  | cons a l ih => simp only [commitHeld, ih, State.modSlot_mem]

@[simp] theorem State.enterOff_mem (s : State) (p : Nat) :
    (s.enterOff p).mem = s.mem := by
  simp -implicitDefEqProofs only [State.enterOff, State.pWr_mem, State.takeMasks_mem, foldl_mem, implies_true]

@[simp] theorem loadSaved_mem (x1 : List (Nat × Word)) (x2 : State) :
    (loadSaved x1 x2).mem = x2.mem := by
  induction x1 generalizing x2 with
  | nil => rfl
  | cons a l ih => simp only [loadSaved, ih, State.modHealth_mem, State.wr_mem, apply_ite State.mem, ite_self]

@[simp] theorem State.loadCalibration_mem (s : State) :
    s.loadCalibration.mem = s.mem := by
  simp -implicitDefEqProofs only [State.loadCalibration, State.wrN_mem, State.modMgmt_mem, State.thermalFlags_mem,
    State.modCluster_mem, foldl_mem, implies_true, apply_ite State.mem, ite_self]

@[simp] theorem reelPend_mem (x1 : List ReelRegion) (x2 : State) :
    (reelPend x1 x2).mem = x2.mem := by
  induction x1 generalizing x2 with
  | nil => rfl
  | cons a l ih => simp only [reelPend, ih, State.setRegion_mem, State.modSlot_mem, apply_ite State.mem, ite_self]

@[simp] theorem State.enterRetention_mem (s : State) (estimate : Nat) :
    (s.enterRetention estimate).mem = s.mem := by
  simp -implicitDefEqProofs only [State.enterRetention, State.pWr_mem, State.takeMasks_mem, State.toPState_mem, State.modPow_mem,
    State.wr_mem, State.wrN_mem, State.setReadiness_mem, foldl_mem, implies_true, apply_ite State.mem, ite_self]

@[simp] theorem State.becomeReady_mem (s : State) (microseconds : Nat) :
    (s.becomeReady microseconds).mem = s.mem := by
  simp -implicitDefEqProofs only [State.becomeReady, State.wrN_mem, State.setReadiness_mem]

@[simp] theorem State.bindAll_mem (s : State) (p : Nat) (l : List (Nat × Nat)) :
    (s.bindAll p l).mem = s.mem := by
  simp -implicitDefEqProofs only [State.bindAll, State.bindSlot_mem, foldl_mem, implies_true]

@[simp] theorem State.dmaIssueFence_mem (s : State) (k : Nat) (irq : Bool) (own : Bool) :
    (s.dmaIssueFence k irq own).mem = s.mem := by
  simp -implicitDefEqProofs only [State.dmaIssueFence, State.setChan_mem, State.emit_mem, foldl_mem, implies_true]

@[simp] theorem State.dmaOwnFence_mem (s : State) (k : Nat) (empty : Bool) :
    (s.dmaOwnFence k empty).mem = s.mem := by
  simp only [State.dmaOwnFence, State.dmaArrived_mem, State.dmaIssueFence_mem, apply_ite State.mem, ite_self]

@[simp] theorem State.dmaHalf_mem (s : State) (k : Nat) (empty : Bool) :
    (s.dmaHalf k empty).mem = s.mem := by
  simp only [State.dmaHalf, State.dmaIrq_mem, State.modChan_mem, State.dmaOwnFence_mem, apply_ite State.mem, ite_self]

@[simp] theorem State.dmaFull_mem (s : State) (k : Nat) (empty : Bool) :
    (s.dmaFull k empty).mem = s.mem := by
  simp only [State.dmaFull, State.dmaIrq_mem, State.modChan_mem, State.dmaOwnFence_mem, State.dmaEnd_mem, apply_ite State.mem,
    ite_self]

@[simp] theorem State.dmaEmptyPass_mem (s : State) (k : Nat) :
    (s.dmaEmptyPass k).mem = s.mem := by
  simp only [State.dmaEmptyPass, State.dmaFull_mem, State.dmaHalf_mem]

@[simp] theorem State.dmaPromote_mem (s : State) (k : Nat) :
    (s.dmaPromote k).mem = s.mem := by
  unfold State.dmaPromote
  simp only []
  repeat' split
  all_goals simp only [State.setChan_mem, State.dmaHalt_mem, State.dmaEmptyPass_mem]

@[simp] theorem State.dmaPoints_mem (s : State) (k : Nat) :
    (s.dmaPoints k).mem = s.mem := by
  simp only [State.dmaPoints, State.dmaHalf_mem, State.dmaEnd_mem, State.dmaFull_mem, apply_ite State.mem, ite_self]

@[simp] theorem State.dmaTake_mem (s : State) (p : Nat) (e : Nat) (c : Nat) :
    (s.dmaTake p e c).mem = s.mem := by
  simp -implicitDefEqProofs only [State.dmaTake, State.modChan_mem, State.pCount_mem, foldl_mem, implies_true]

@[simp] theorem returnReserved_mem (c : Nat) (k : Nat) (x1 : List (Nat × Nat)) (x2 : Bool) (x3 : State) :
    (returnReserved c k x1 x2 x3).mem = x3.mem := by
  induction x1 generalizing c k x2 x3 with
  | nil => rfl
  | cons a l ih =>
    rw [returnReserved, ih]
    split <;> simp only [State.setLaunch_mem]

@[simp] theorem State.leaveTile_mem (s : State) (c : Nat) :
    (s.leaveTile c).mem = s.mem := by
  unfold State.leaveTile
  simp only [State.modCore_mem]
  repeat' split
  all_goals simp only [returnReserved_mem]

@[simp] theorem autoOffExpiryEff_mem (p : Part) (s : State) :
    (autoOffExpiryEff p s).mem = s.mem := by
  simp only [autoOffExpiryEff, State.enterOff_mem, apply_ite State.mem, ite_self]

@[simp] theorem jobReadyEff_mem (microseconds : Nat) (s : State) :
    (jobReadyEff microseconds s).mem = s.mem := by
  simp only [jobReadyEff, State.modHang_mem, State.wrN_mem, State.bootBist_mem, State.becomeReady_mem, apply_ite State.mem,
    ite_self]

@[simp] theorem powerUpEff_mem (s : State) :
    (powerUpEff s).mem = s.mem := by
  simp only [powerUpEff, loadSaved_mem, State.modPow_mem, State.modMgmt_mem, State.wrN_mem, apply_ite State.mem, ite_self]

@[simp] theorem mcWatchdogExpiryEff_mem (s : State) :
    (mcWatchdogExpiryEff s).mem = s.mem := by
  simp -implicitDefEqProofs only [mcWatchdogExpiryEff, State.rung5_mem, State.modHang_mem, State.wr_mem, foldl_mem, implies_true,
    apply_ite State.mem, ite_self]

@[simp] theorem sendProbes_mem (j : Nat) (x1 : List Nat) (x2 : State) :
    (sendProbes j x1 x2).mem = x2.mem := by
  induction x1 generalizing j x2 with
  | nil => rfl
  | cons a l ih => simp only [sendProbes, ih, State.collInject_mem, State.modHealth_mem, apply_ite State.mem, ite_self]

@[simp] theorem probeSendEff_mem (j : JobSlot) (s : State) :
    (probeSendEff j s).mem = s.mem := by
  simp only [probeSendEff, sendProbes_mem, State.modHealth_mem, apply_ite State.mem, ite_self]

@[simp] theorem pollHoras_mem (j : Nat) (x1 : List (Nat × CollCtx)) (x2 : State) :
    (pollHoras j x1 x2).mem = x2.mem := by
  induction x1 generalizing j x2 with
  | nil => rfl
  | cons a l ih =>
    rw [pollHoras, ih]
    split <;> simp only [State.pollHora_mem, apply_ite State.mem, ite_self]

@[simp] theorem nakEff_mem (n : Port) (next : Nat) (s : State) :
    (nakEff n next s).mem = s.mem := by
  simp only [nakEff, State.takeNak_mem, apply_ite State.mem, ite_self]

@[simp] theorem flitReceiveEff_mem (n : Port) (f : FlitRx) (s : State) :
    (flitReceiveEff n f s).mem = s.mem := by
  simp only [flitReceiveEff, State.count_mem, State.refuseFlit_mem, State.acceptFlit_mem, apply_ite State.mem, ite_self]

@[simp] theorem dmaPromotionEff_mem (ch : ChanId) (s : State) :
    (dmaPromotionEff ch s).mem = s.mem := by
  simp only [dmaPromotionEff, State.dmaPromote_mem, apply_ite State.mem, ite_self]

@[simp] theorem commitStep_mem (p : Nat) (t : Tag) (x1 : List (Nat × Nat)) (x2 : State) :
    (commitStep p t x1 x2).mem = x2.mem := by
  induction x1 generalizing p t x2 with
  | nil => rfl
  | cons a l ih => simp only [commitStep, ih, State.modSlot_mem]

@[simp] theorem microBatchAdmitEff_mem (p : Part) (mb : Nat) (regions : List Region) (b : Binding) (trains : Nat) (acorns : List
    (Fin 32)) (s : State) :
    (microBatchAdmitEff p mb regions b trains acorns s).mem = s.mem := by
  unfold microBatchAdmitEff
  simp only [apply_ite State.mem]
  repeat' split
  all_goals simp only [State.setMicroBatches_mem, State.bindAll_mem, bindWants_mem]

@[simp] theorem stepBeginEff_mem (c : Core) (step : Nat) (mbs : Nat) (fenceBeat : Nat) (deadline : Option (JobSlot × Nat))
    (reseed : Bool) (s : State) :
    (stepBeginEff c step mbs fenceBeat deadline reseed s).mem = s.mem := by
  unfold stepBeginEff
  repeat' split
  all_goals simp -implicitDefEqProofs only [State.setFence_mem, State.nameDeadline_mem, State.pWr_mem, State.modCore_mem,
    foldl_mem, implies_true, apply_ite State.mem, ite_self]

@[simp] theorem tileCompleteEff_mem (c : Core) (cycles : Nat) (s : State) :
    (tileCompleteEff c cycles s).mem = s.mem := by
  unfold tileCompleteEff
  simp only []
  repeat' split
  all_goals simp only [State.pCount_mem, State.chargeOverrun_mem, State.settleCore_mem, State.leaveTile_mem, State.spotAfter_mem,
    State.noteCtx_mem, State.tryEvict_mem]

@[simp] theorem State.enterLoading_mem (s : State) (p : Nat) : (s.enterLoading p).mem = s.mem := by
  refine (foldl_mem (fun s i => ?_) _ _).trans (State.modLoader_mem ..)
  split
  · split
    · rfl
    · exact State.sendFetch_mem ..
  · rfl

@[simp] theorem State.pollLoader_mem (s : State) (p : Nat) : (s.pollLoader p).mem = s.mem := by
  unfold State.pollLoader
  split
  · rfl
  · simp only [apply_ite State.mem, State.enterLoading_mem, holdFree_mem, ite_self]

@[simp] theorem State.tangoUnbind_mem (s : State) (p r i : Nat) : (s.tangoUnbind p r i).mem = s.mem :=
  State.pollLoader_mem ..

@[simp] theorem State.dropAcked_mem (s : State) : s.dropAcked.mem = s.mem := by
  unfold State.dropAcked
  split
  · rfl
  · refine (State.modTango_mem ..).trans (foldl_mem (fun s x => ?_) _ _)
    simp only [apply_ite State.mem, State.tangoUnbind_mem, ite_self]

@[simp] theorem State.dropMirrorBinds_mem (s : State) : s.dropMirrorBinds.mem = s.mem := by
  unfold State.dropMirrorBinds
  split
  · rfl
  · refine (State.modTango_mem ..).trans (foldl_mem (fun s x => ?_) _ _)
    simp only [apply_ite State.mem, State.tangoUnbind_mem, ite_self]

@[simp] theorem State.dropRelease_mem (s : State) : s.dropRelease.mem = s.mem :=
  (State.modTango_mem ..).trans (foldl_mem (fun _ _ => State.tangoUnbind_mem ..) _ _)

@[simp] theorem State.listTakes_mem (s : State) : s.listTakes.mem = s.mem :=
  (State.relSync_mem _).trans ((State.modTango_mem ..).trans (foldl_mem (fun _ _ => State.tangoUnbind_mem ..) _ _))

@[simp] theorem State.noteBroadcast_mem (s : State) (r : CanRequest) (e : WStatus) : (s.noteBroadcast r e).mem = s.mem := by
  unfold State.noteBroadcast
  extract_lets k
  split
  · rfl
  · exact State.wrN_mem ..

@[simp] theorem State.endRestore_mem (s : State) (code : Nat) : (s.endRestore code).mem = s.mem := by
  unfold State.endRestore
  split
  · rfl
  · rw [State.wrN_mem, State.wrN_mem, State.modTango_mem]

@[simp] theorem State.tangoPartReset_mem (s : State) (p : Nat) (halts : Bool) : (s.tangoPartReset p halts).mem = s.mem := by
  unfold State.tangoPartReset
  simp only [apply_ite State.mem, State.endRestore_mem, State.suspendMirror_mem, State.modTango_mem, ite_self]

@[simp] theorem State.failBringup_mem (s : State) (step : Nat) : (s.failBringup step).mem = s.mem := by
  rw [State.failBringup, State.rung5_mem, State.setReadiness_mem, State.wrN_mem, State.modHang_mem, State.modSec_mem]

@[simp] theorem State.beginBringup_mem (s : State) (kind : Nat) : (s.beginBringup kind).mem = s.mem := State.wrN_mem ..

@[simp] theorem State.stepsFourFive_mem (s : State) (obs : BringupObs) : (s.stepsFourFive obs).mem = s.mem := by
  unfold State.stepsFourFive
  extract_lets calibrated counted ports reached
  have ports_mem : ports.mem = s.mem := by
    refine (foldl_mem (fun s n => ?_) _ _).trans ((State.wrN_mem ..).trans (State.loadCalibration_mem s))
    simp only [apply_ite State.mem, State.toPState_mem, ite_self]
  split
  · rw [State.failBringup_mem, ports_mem]
  · refine (State.modSec_mem ..).trans ((foldl_mem (fun s p => ?_) _ _).trans ports_mem)
    simp only [apply_ite State.mem, State.pWr_mem, ite_self]

@[simp] theorem State.sendDown_mem (s : State) (j : Nat) (c : CollCtx) (target : Nat) (body : List Byte) (now : Bool) :
    (s.sendDown j c target body now).mem = s.mem := by
  unfold State.sendDown
  refine foldl_mem (fun s l => ?_) _ _
  split
  · rfl
  · split
    · rfl
    · simp only [apply_ite State.mem, State.collInject_mem, State.pushOut_mem, ite_self]

@[simp] theorem State.applyPatches_mem (s : State) (p start : Nat) (cores : List Nat) (ts : List Patch) :
    (s.applyPatches p start cores ts).mem = s.mem := by
  induction ts generalizing s with
  | nil => rfl
  | cons t ts ih =>
    rw [State.applyPatches, ih]
    refine foldl_mem (fun s g => ?_) _ s
    split <;> rfl

@[simp] theorem State.checkQueue_mem (s : State) (n i : Nat) (qs : List OutPkt) (checks : List (Nat × ShellOutcome)) :
    (s.checkQueue n i qs checks).1.mem = s.mem := by
  induction qs generalizing s i with
  | nil => rfl
  | cons q qs ih =>
    simp only [State.checkQueue, ih, apply_ite State.mem, State.leaveInput_mem, State.portShell_mem, ite_self]

@[simp] theorem State.countCycles_mem (s : State) (cyc : Nat → Nat) : (s.countCycles cyc).mem = s.mem := by
  refine (foldl_mem (fun t c => State.setCore_mem ..) _ _).trans (foldl_mem (fun t kv => ?_) _ s)
  split <;> rfl

@[simp] theorem State.endServe_mem (s : State) (p : Nat) (sv : Serve) (ok : Bool) : (s.endServe p sv ok).mem = s.mem := by
  simp only [State.endServe, State.pollLoader_mem, State.sendNotice_mem, apply_ite State.mem, State.pCount_mem,
    State.modLoader_mem, State.unbindSlot_mem, ite_self]

@[simp] theorem State.serveFence_mem (s : State) (p : Nat) : (s.serveFence p).mem = s.mem := by
  unfold State.serveFence
  split
  · simp only [apply_ite State.mem, State.endServe_mem, ite_self]
  · rfl

@[simp] theorem State.serveTimeout_mem (s : State) (p : Nat) : (s.serveTimeout p).mem = s.mem := by
  unfold State.serveTimeout
  extract_lets late l t
  have t_mem : t.mem = s.mem := by
    refine foldl_mem (fun s i => ?_) _ s
    split
    · simp only [apply_ite State.mem, State.failShard_mem, ite_self]
    · rfl
  split
  · simp only [apply_ite State.mem, State.endServe_mem, t_mem, ite_self]
  · exact t_mem

@[simp] theorem State.loaderTeardown_mem (s : State) (p k : Nat) : (s.loaderTeardown p k).mem = s.mem := by
  unfold State.loaderTeardown
  extract_lets cancelled t
  have t_mem : t.mem = s.mem := by
    simp only [t, cancelled, State.modLoader_mem, apply_ite State.mem, State.cancelLoad_mem, ite_self]
  split
  · simp only [apply_ite State.mem, State.pollLoader_mem, State.modLoader_mem, State.unbindSlot_mem, t_mem, ite_self]
  · exact t_mem

@[simp] theorem State.startLaunch_mem (s : State) (p n h : Nat) (img : Image) : (s.startLaunch p n h img).mem = s.mem := by
  unfold State.startLaunch
  refine (foldl_mem (fun s g => ?_) _ _).trans
    ((State.setSlot_mem ..).trans ((State.setLaunch_mem ..).trans (State.applyPatches_mem ..)))
  split
  · simp only [State.settleCore_mem, State.modCore_mem]
  · rfl

@[simp] theorem restoreSend_mem (b job ctx left off a n : Nat) (s : State) :
    (restoreSend b job ctx left off a n s).mem = s.mem := by
  induction left generalizing off a n s with
  | zero => rfl
  | succ left ih =>
    rw [restoreSend]
    split
    · rfl
    · simp only [apply_ite State.mem, ih, State.modTango_mem, State.inject_mem, ite_self]

@[simp] theorem sendPackets_mem (m : Mirror) (dest : FabAddr) (ports : List Nat) (k left off : Nat) (s : State) :
    (sendPackets m dest ports k left off s).mem = s.mem := by
  induction left generalizing off s with
  | zero => rfl
  | succ left ih =>
    rw [sendPackets]
    split
    · rfl
    · rw [ih]
      split
      · exact State.sendTango_mem ..
      · rfl

@[simp] theorem sendAcks_mem (n b : Nat) (s : State) : (sendAcks n b s).mem = s.mem := by
  induction n generalizing s with
  | zero => rfl
  | succ n ih =>
    simp only [sendAcks, apply_ite State.mem, ih, State.sendPair_mem, State.modTango_mem, ite_self]

@[simp] theorem serdesReferenceLossEff_mem (us : Nat) (s : State) : (serdesReferenceLossEff us s).mem = s.mem := by
  unfold serdesReferenceLossEff
  split
  · rfl
  · refine (foldl_mem (fun s n => ?_) _ _).trans ((State.wrN_mem ..).trans (State.rebase_mem s))
    split
    iterate 3 rfl
    exact State.fatalPort_mem ..

end Sys2Proof.Machine
end

section
/-! PROOFS. What writes memory keeps its canonical form (log entry 10), and so O57: one rule for each operation of the model that
may write memory, from the byte up to the command. A register write is treated with the state it would store (`WR.Wf`). -/

namespace Sys2Proof.Machine

/-! ## The canonical form of memory: shapes of effects -/

/-- What a write through a path may store leaves memory in its canonical form. -/
def WR.Wf (r : WR) : Prop := ∀ t, r = .ok t → t.mem.wf

@[simp] theorem WR.wf_ok (t : State) : WR.Wf (.ok t) ↔ t.mem.wf :=
  ⟨fun h => h t rfl, fun h _ e => Except.ok.inj e ▸ h⟩

@[simp] theorem WR.wf_error (e : WStatus) : WR.Wf (.error e) := fun _ h => nomatch h

@[simp] theorem WR.wf_bind {r : WR} {f : State → WR} (hr : r.Wf) (hf : ∀ t : State, t.mem.wf → (f t).Wf) : WR.Wf (r >>= f) := by
  intro u h
  cases r with
  | error e => nomatch h
  | ok t => exact hf t (hr t rfl) u h

@[simp] theorem WR.wf_ite {c : Prop} [Decidable c] {a b : WR} (ha : a.Wf) (hb : b.Wf) : WR.Wf (if c then a else b) := by
  split <;> assumption

@[simp] theorem guardW_wf {b : Bool} {e : WStatus} {r : WR} (h : r.Wf) : (guardW b e r).Wf := by
  cases b
  · exact WR.wf_error e
  · exact h

@[simp] theorem ite_wf {c : Prop} [Decidable c] {a b : State} (ha : a.mem.wf) (hb : b.mem.wf) :
    (if c then a else b).mem.wf := by
  split <;> assumption

@[simp] theorem foldl_wf {β : Type} {f : State → β → State} {s : State} (l : List β) (h : s.mem.wf)
    (hf : ∀ (t : State) (b : β), t.mem.wf → (f t b).mem.wf) : (l.foldl f s).mem.wf :=
  List.foldlRecOn (motive := fun t : State => t.mem.wf) l f h fun t ht b _ => hf t b ht

@[simp] theorem State.writeBytes_wf {s : State} (h : s.mem.wf) (a : Nat) (bs : List Byte) : (s.writeBytes a bs).mem.wf :=
  Mem.writeBytes_wf bs _ a h

@[simp] theorem State.writeLE_wf {s : State} (h : s.mem.wf) (a n v : Nat) : (s.writeLE a n v).mem.wf := Mem.writeLE_wf _ a n v h

@[simp] theorem State.zeroMem_wf {s : State} (h : s.mem.wf) (a n : Nat) : (s.zeroMem a n).mem.wf := Mem.zero_wf _ a n h

@[simp] theorem State.freeMem_wf {s : State} (h : s.mem.wf) (a n : Nat) : (s.freeMem a n).mem.wf := Mem.fill_wf _ a n _ h

/-- Memory as it was is as canonical as it was. -/
theorem wf_of_mem {m n : Mem} (e : m = n) (h : n.wf) : m.wf := e ▸ h

theorem wf_of_fst {α : Type} {p : State × α} {s : State} {a : α} (h : p = (s, a)) (w : p.1.mem.wf) : s.mem.wf := by
  rw [h] at w; exact w

theorem wf_of_snd {α : Type} {p : α × State} {s : State} {a : α} (h : p = (a, s)) (w : p.2.mem.wf) : s.mem.wf := by
  rw [h] at w; exact w

@[simp] theorem State.closeRegion_wf (s : State) (c : Nat) (r : WRegion) (h1 : s.mem.wf) :
    (s.closeRegion c r).mem.wf := by
  simp only [State.closeRegion, State.modCore_mem, State.zeroMem_wf, Mem.wf, *]

@[simp] theorem State.discardOpen_wf (s : State) (c : Nat) (h1 : s.mem.wf) :
    (s.discardOpen c).mem.wf := by
  simp +contextual only [State.discardOpen, State.closeRegion_wf, foldl_wf, Mem.wf, implies_true, *]

@[simp] theorem State.abortFence_wf (s : State) (p : Nat) (h1 : s.mem.wf) :
    (s.abortFence p).mem.wf := by
  unfold State.abortFence
  simp +contextual only [Mem.wf, *]
  repeat' split
  all_goals simp +contextual only [State.modSlot_mem, State.discardOpen_wf, State.pollLoader_mem, State.setFence_mem, foldl_wf,
    Mem.wf, implies_true, *]

@[simp] theorem State.collPut_wf (s : State) (j : Nat) (a : Nat) (bs : List Byte) (x : Ctx) (h1 : s.mem.wf) :
    (s.collPut j a bs x).1.mem.wf := by
  fun_cases s.collPut j a bs x <;> simp only [State.collDrop_mem, State.loadStray_mem, State.writeBytes_wf, Mem.wf, *]

@[simp] theorem State.collStatus_wf (s : State) (j : Nat) (r : CollRecord) (h1 : s.mem.wf) :
    (s.collStatus j r).mem.wf := by
  simp only [State.collStatus, State.modCs_mem, State.collEnded_mem, State.collPut_wf, Mem.wf, ite_wf, *]

@[simp] theorem State.reelState_wf (s : State) (j : Nat) (r : ReelSt) (st : Nat) (h1 : s.mem.wf) :
    (s.reelState j r st).mem.wf := by
  unfold State.reelState
  split <;> simp only [State.writeBytes_wf, State.setReel_mem, State.wrN_mem, Mem.wf, ite_wf, *]

@[simp] theorem State.reelOutcome_wf (s : State) (j : Nat) (step : Tag) (ok : Bool) (code : Nat) (count : Nat) (h1 : s.mem.wf) :
    (s.reelOutcome j step ok code count).mem.wf := by
  unfold State.reelOutcome
  repeat' split
  all_goals simp +contextual only [State.reelState_wf, reelRegion_mem, State.setReel_mem, consumeReel_mem, State.relSync_mem,
    State.forMembers_mem, State.pollLoader_mem, State.bindWaiting_mem, State.collStatus_wf, Mem.wf, foldl_mem, implies_true, *]

@[simp] theorem State.finishCtx_wf (s : State) (j : Nat) (c : CollCtx) (code : Nat) (h1 : s.mem.wf) :
    (s.finishCtx j c code).mem.wf := by
  unfold State.finishCtx
  repeat' split
  all_goals simp only [State.count_mem, State.endCtx_mem, State.modCs_mem, State.collStatus_wf, Mem.wf, ite_wf, *]

@[simp] theorem State.ackTo_wf (s : State) (k : Nat) (h1 : s.mem.wf) :
    (s.ackTo k).mem.wf := by
  unfold State.ackTo
  split <;> simp only [State.count_mem, State.wrN_mem, State.modTango_mem, State.dropAcked_mem, State.sendPair_mem,
    State.toTango_mem, Mem.wf, ite_wf, *]

@[simp] theorem domainW_wf (s : State) (index : Nat) (sub : Nat) (off : Nat) (bs : List Byte) (h1 : s.mem.wf) :
    (domainW s index sub off bs).Wf := by
  fun_cases domainW s index sub off bs <;> simp +contextual only [Mem.wf, WR.wf_ok, WR.wf_error, *]

@[simp] theorem State.segOutcome_wf (s : State) (r : CanRequest) (h1 : s.mem.wf) :
    (s.segOutcome r).Wf := by
  fun_cases s.segOutcome r <;> simp only [domainW_wf, Mem.wf, WR.wf_error, *]

@[simp] theorem storeW_wf (s : State) (o : ObjSpec) (index : Nat) (sub : Nat) (v : Word) (h1 : s.mem.wf) :
    (storeW s o index sub v).Wf := by
  unfold storeW
  split <;> simp only [State.saveObj_mem, State.wr_mem, Mem.wf, WR.wf_ok, *]

@[simp] theorem ctlAct_wf (v : Word) (i : Nat) (f : State → WR) (s : State) (h1 : ∀ y1, y1.mem.wf → (f y1).Wf) (h2 : s.mem.wf) :
    (ctlAct v i f s).Wf := by
  simp only [ctlAct, Mem.wf, WR.wf_ok, WR.wf_ite, *]

@[simp] theorem State.collTorn_wf (s : State) (j : Nat) (r : CollRecord) (h1 : s.mem.wf) :
    (s.collTorn j r).mem.wf := by
  simp only [State.collTorn, State.collEnded_mem, State.writeBytes_wf, Mem.wf, ite_wf, *]

@[simp] theorem detachReel_wf (j : Nat) (torn : Bool) (r : ReelSt) (s : State) (h1 : s.mem.wf) :
    (detachReel j torn r s).mem.wf := by
  unfold detachReel
  repeat' split
  all_goals simp +contextual only [State.collTorn_wf, consumeReel_mem, State.collDrop_mem, State.setReel_mem, foldl_wf, Mem.wf,
    implies_true, *]

@[simp] theorem detachCtx_wf (j : Nat) (torn : Bool) (c : CollCtx) (s : State) (h1 : s.mem.wf) :
    (detachCtx j torn c s).mem.wf := by
  unfold detachCtx
  repeat' split
  all_goals simp +contextual only [State.collTorn_wf, State.count_mem, State.consumeOn_mem, State.collDrop_mem, State.modCs_mem,
    State.setCtx_mem, State.endCtx_mem, Mem.wf, foldl_mem, ite_wf, implies_true, *]

@[simp] theorem acornW_wf (s : State) (p : Nat) (v : Word) (h1 : s.mem.wf) :
    (acornW s p v).Wf := by
  unfold acornW
  split <;> simp only [Mem.wf, WR.wf_ok, WR.wf_error, WR.wf_ite, *]

@[simp] theorem serveEnableW_wf (s : State) (p : Nat) (v : Word) (h1 : s.mem.wf) :
    (serveEnableW s p v).Wf := by
  simp only [serveEnableW, State.pWr_mem, Mem.wf, WR.wf_ok, WR.wf_error, WR.wf_ite, *]

@[simp] theorem loadRetryW_wf (s : State) (p : Nat) (o : ShellOutcome) (h1 : s.mem.wf) :
    (loadRetryW s p o).Wf := by
  unfold loadRetryW
  split <;> simp only [State.manifestFailed_mem, State.memMeets_mem, retryShards_mem, State.setLoader_mem, State.memNote_mem,
    Mem.wf, WR.wf_ok, WR.wf_error, WR.wf_ite, *]

@[simp] theorem loadCancelW_wf (s : State) (p : Nat) (h1 : s.mem.wf) :
    (loadCancelW s p).Wf := by
  simp only [loadCancelW, State.cancelLoad_mem, Mem.wf, WR.wf_ok, WR.wf_error, WR.wf_ite, *]

@[simp] theorem loadCommitW_wf (s : State) (p : Nat) (h1 : s.mem.wf) :
    (loadCommitW s p).Wf := by
  simp only [loadCommitW, commitHeld_mem, State.bindWaiting_mem, State.setLoader_mem, Mem.wf, WR.wf_ok, WR.wf_error, WR.wf_ite, *]

@[simp] theorem loadStartW_wf (s : State) (p : Nat) (o : ShellOutcome) (h1 : s.mem.wf) :
    (loadStartW s p o).Wf := by
  unfold loadStartW
  simp only [WR.wf_error, *]
  repeat' split
  all_goals simp only [State.manifestRead_mem, State.manifestFailed_mem, freeHeld_mem, State.pollLoader_mem, State.setLoader_mem,
    Mem.wf, WR.wf_ok, WR.wf_error, *]

@[simp] theorem storeIf_wf (ok : Bool) (s : State) (o : ObjSpec) (index : Nat) (sub : Nat) (v : Word) (h1 : s.mem.wf) :
    (storeIf ok s o index sub v).Wf := by
  simp only [storeIf, guardW_wf, storeW_wf, Mem.wf, guardW_wf, *]

@[simp] theorem clearRegionW_wf (s : State) (p : Nat) (h1 : s.mem.wf) :
    (clearRegionW s p).Wf := by
  simp only [clearRegionW, State.setRegion_mem, Mem.wf, WR.wf_ok, WR.wf_error, WR.wf_ite, *]

@[simp] theorem installW_wf (s : State) (p : Nat) (slot : Nat) (t : Tag) (h1 : s.mem.wf) :
    (installW s p slot t).Wf := by
  simp only [installW, State.relSync_mem, State.bindWaiting_mem, State.modSlot_mem, Mem.wf, WR.wf_ok, WR.wf_error, WR.wf_ite, *]

@[simp] theorem defineSingleW_wf (s : State) (p : Nat) (t : Tag) (h1 : s.mem.wf) :
    (defineSingleW s p t).Wf := by
  simp only [defineSingleW, State.bindWaiting_mem, State.setRegion_mem, Mem.wf, WR.wf_ok, WR.wf_error, WR.wf_ite, *]

@[simp] theorem defineW_wf (s : State) (p : Nat) (h1 : s.mem.wf) :
    (defineW s p).Wf := by
  simp only [defineW, State.setRegion_mem, Mem.wf, WR.wf_ok, WR.wf_error, WR.wf_ite, *]

@[simp] theorem versionControlW_wf (s : State) (p : Nat) (v : Word) (h1 : s.mem.wf) :
    (versionControlW s p v).Wf := by
  unfold versionControlW
  split <;> simp only [defineW_wf, defineSingleW_wf, installW_wf, clearRegionW_wf, Mem.wf, WR.wf_error, *]

@[simp] theorem versionSizeW_wf (s : State) (p : Nat) (v : Word) (h1 : s.mem.wf) :
    (versionSizeW s p v).Wf := by
  unfold versionSizeW
  split <;> simp only [State.setRegion_mem, Mem.wf, WR.wf_ok, WR.wf_error, WR.wf_ite, *]

@[simp] theorem versionBaseW_wf (s : State) (p : Nat) (slot : Nat) (v : Word) (h1 : s.mem.wf) :
    (versionBaseW s p slot v).Wf := by
  simp only [versionBaseW, State.modSlot_mem, Mem.wf, WR.wf_ok, WR.wf_error, WR.wf_ite, *]

@[simp] theorem groupLeadW_wf (s : State) (via : Via) (q : Nat) (v : Word) (h1 : s.mem.wf) :
    (groupLeadW s via q v).Wf := by
  fun_cases groupLeadW s via q v <;> simp only [State.pWr_mem, Mem.wf, WR.wf_ok, WR.wf_error, *]

@[simp] theorem State.dropMirror_wf (s : State) (h1 : s.mem.wf) :
    s.dropMirror.mem.wf := by
  simp only [State.dropMirror, State.modTango_mem, State.dropMirrorBinds_mem, Mem.wf, *]

@[simp] theorem State.rePair_wf (s : State) (h1 : s.mem.wf) :
    s.rePair.mem.wf := by
  unfold State.rePair
  simp only [Mem.wf, *]
  repeat' split
  all_goals simp only [State.modTango_mem, State.dropMirror_wf, State.sendPairWord_mem, State.toTango_mem, Mem.wf, *]

@[simp] theorem tangoReserveW_wf (s : State) (via : Via) (p : Nat) (v : Word) (h1 : s.mem.wf) :
    (tangoReserveW s via p v).Wf := by
  unfold tangoReserveW
  simp only [WR.wf_error, *]
  repeat' split
  all_goals simp only [State.freeMem_wf, State.modTango_mem, State.pWr_mem, State.rePair_wf, Mem.wf, WR.wf_ok, WR.wf_error, *]

@[simp] theorem retainMaskW_wf (s : State) (via : Via) (p : Nat) (v : Word) (h1 : s.mem.wf) :
    (retainMaskW s via p v).Wf := by
  unfold retainMaskW
  split <;> simp +contextual only [Mem.wf, WR.wf_ok, WR.wf_error, WR.wf_ite, *]

@[simp] theorem idleCoreSelectW_wf (s : State) (p : Nat) (v : Word) (h1 : s.mem.wf) :
    (idleCoreSelectW s p v).Wf := by
  simp +contextual only [idleCoreSelectW, State.pWr_mem, foldl_wf, Mem.wf, WR.wf_ok, WR.wf_error, WR.wf_ite, implies_true, *]

@[simp] theorem clearW_wf (s : State) (v : Word) (t : State) (h1 : s.mem.wf) (h2 : t.mem.wf) :
    (clearW s v t).Wf := by
  simp only [clearW, Mem.wf, ite_wf, WR.wf_ok, *]

@[simp] theorem nonfiniteClearW_wf (s : State) (p : Nat) (v : Word) (h1 : s.mem.wf) :
    (nonfiniteClearW s p v).Wf := by
  simp +contextual only [nonfiniteClearW, State.pWr_mem, foldl_wf, Mem.wf, ite_wf, WR.wf_ok, implies_true, *]

@[simp] theorem fenceAbortW_wf (s : State) (p : Nat) (v : Word) (h1 : s.mem.wf) :
    (fenceAbortW s p v).Wf := by
  simp only [fenceAbortW, State.abortFence_wf, Mem.wf, ite_wf, WR.wf_ok, *]

@[simp] theorem arithFlagsClearW_wf (s : State) (p : Nat) (v : Word) (h1 : s.mem.wf) :
    (arithFlagsClearW s p v).Wf := by
  simp +contextual only [arithFlagsClearW, State.clearFlags_mem, Mem.wf, foldl_mem, WR.wf_ok, implies_true, *]

@[simp] theorem State.newHbmKey_wf (s : State) (q : Nat) (h1 : s.mem.wf) :
    (s.newHbmKey q).mem.wf := by
  simp only [State.newHbmKey, State.freeMem_wf, State.newKey_mem, Mem.wf, *]

@[simp] theorem reclaimW_wf (s : State) (via : Via) (p : Nat) (v : Word) (h1 : s.mem.wf) :
    (reclaimW s via p v).Wf := by
  fun_cases reclaimW s via p v <;> simp +contextual only [State.pWr_mem, State.newHbmKey_wf, State.wakeGroup_mem, foldl_wf, Mem.wf,
    WR.wf_ok, WR.wf_error, implies_true, *]

@[simp] theorem attestW_wf (s : State) (p : Nat) (v : Word) (h1 : s.mem.wf) :
    (attestW s p v).Wf := by
  unfold attestW
  split <;> simp only [State.pWr_mem, State.modSec_mem, Mem.wf, WR.wf_ok, WR.wf_error, WR.wf_ite, *]

@[simp] theorem partPowerW_wf (s : State) (p : Nat) (v : Word) (h1 : s.mem.wf) :
    (partPowerW s p v).Wf := by
  unfold partPowerW
  split <;> simp only [guardW_wf, State.enterOff_mem, State.wakeGroup_mem, Mem.wf, guardW_wf, WR.wf_ok, WR.wf_error, WR.wf_ite, *]

@[simp] theorem partLowW_wf (s : State) (via : Via) (p : Nat) (o : ObjSpec) (sub : Nat) (v : Word) (h1 : s.mem.wf) :
    (partLowW s via p o sub v).Wf := by
  unfold partLowW
  split <;> simp only [partPowerW_wf, storeIf_wf, attestW_wf, guardW_wf, storeW_wf, reclaimW_wf, arithFlagsClearW_wf, clearW_wf,
    State.clearObjs_mem, State.submitLoss_mem, fenceAbortW_wf, nonfiniteClearW_wf, Mem.wf, guardW_wf, WR.wf_ok, *]

@[simp] theorem calLockW_wf (s : State) (h1 : s.mem.wf) :
    (calLockW s).Wf := by
  simp only [calLockW, State.modMgmt_mem, Mem.wf, WR.wf_ok, WR.wf_error, WR.wf_ite, *]

@[simp] theorem calCommitW_wf (s : State) (signatureOk : Bool) (h1 : s.mem.wf) :
    (calCommitW s signatureOk).Wf := by
  simp only [calCommitW, State.modMgmt_mem, State.mgmtEvent_mem, Mem.wf, WR.wf_ok, WR.wf_error, WR.wf_ite, *]

@[simp] theorem calUnlockW_wf (s : State) (v : Word) (h1 : s.mem.wf) :
    (calUnlockW s v).Wf := by
  simp only [calUnlockW, State.modMgmt_mem, Mem.wf, WR.wf_ok, WR.wf_error, WR.wf_ite, *]

@[simp] theorem svnAdvanceW_wf (s : State) (via : Via) (v : Word) (h1 : s.mem.wf) :
    (svnAdvanceW s via v).Wf := by
  fun_cases svnAdvanceW s via v <;> simp only [State.wrN_mem, Mem.wf, WR.wf_ok, WR.wf_error, *]

@[simp] theorem State.goOn_wf (s : State) (h1 : s.mem.wf) :
    s.goOn.mem.wf := by
  unfold State.goOn
  split <;> simp only [State.stepsFourFive_mem, Mem.wf, ite_wf, *]

@[simp] theorem State.startFirmware_wf (s : State) (i : ImgInfo) (h1 : s.mem.wf) :
    (s.startFirmware i).mem.wf := by
  simp only [State.startFirmware, State.wrN_mem, State.modSec_mem, State.zeroMem_wf, State.wr_mem, State.goOn_wf,
    State.setReadiness_mem, Mem.wf, *]

@[simp] theorem fwLoadW_wf (s : State) (via : Via) (v : Word) (chk : ImageCheck) (h1 : s.mem.wf) :
    (fwLoadW s via v chk).Wf := by
  fun_cases fwLoadW s via v chk <;> simp only [State.startFirmware_wf, State.wrN_mem, Mem.wf, WR.wf_ok, WR.wf_error, *]

@[simp] theorem fwUpdateW_wf (s : State) (via : Via) (v : Word) (h1 : s.mem.wf) :
    (fwUpdateW s via v).Wf := by
  unfold fwUpdateW
  split <;> simp only [State.wrN_mem, State.modSec_mem, Mem.wf, WR.wf_ok, WR.wf_error, WR.wf_ite, *]

@[simp] theorem fwUpdateAddrW_wf (s : State) (via : Via) (v : Word) (h1 : s.mem.wf) :
    (fwUpdateAddrW s via v).Wf := by
  simp only [fwUpdateAddrW, guardW_wf, State.wr_mem, Mem.wf, guardW_wf, WR.wf_ok, WR.wf_error, WR.wf_ite, *]

@[simp] theorem securityW_wf (s : State) (via : Via) (o : ObjSpec) (sub : Nat) (v : Word) (h1 : s.mem.wf) :
    (securityW s via o sub v).Wf := by
  unfold securityW
  split <;> simp only [fwUpdateAddrW_wf, fwUpdateW_wf, State.fresh_mem, fwLoadW_wf, svnAdvanceW_wf, storeW_wf, Mem.wf, *]

@[simp] theorem releaseTagW_wf (s : State) (v : Word) (h1 : s.mem.wf) :
    (releaseTagW s v).Wf := by
  fun_cases releaseTagW s v <;> simp only [State.wr_mem, State.dropRelease_mem, State.relSync_mem, Mem.wf, WR.wf_ok, WR.wf_error, *]

@[simp] theorem listEntryW_wf (s : State) (v : Word) (h1 : s.mem.wf) :
    (listEntryW s v).Wf := by
  simp only [listEntryW, State.modTango_mem, Mem.wf, WR.wf_ok, WR.wf_error, WR.wf_ite, *]

@[simp] theorem tangoBanksW_wf (s : State) (v : Word) (h1 : s.mem.wf) :
    (tangoBanksW s v).Wf := by
  unfold tangoBanksW
  simp only [WR.wf_error, *]
  repeat' split
  all_goals simp only [State.wr_mem, State.rePair_wf, Mem.wf, WR.wf_ok, WR.wf_error, *]

@[simp] theorem restoreAbortW_wf (s : State) (h1 : s.mem.wf) :
    (restoreAbortW s).Wf := by
  simp only [restoreAbortW, State.endRestore_mem, Mem.wf, WR.wf_ok, *]

@[simp] theorem tangoRestoreW_wf (s : State) (o : ShellOutcome) (h1 : s.mem.wf) :
    (tangoRestoreW s o).Wf := by
  simp only [tangoRestoreW, State.modTango_mem, State.memMeets_mem, State.wrN_mem, State.endRestore_mem, Mem.wf, ite_wf, WR.wf_ok,
    WR.wf_error, WR.wf_ite, *]

@[simp] theorem rollbackW_wf (s : State) (h1 : s.mem.wf) :
    (rollbackW s).Wf := by
  unfold rollbackW
  simp +contextual only [*]
  repeat' split
  all_goals simp +contextual only [State.modTango_mem, State.dropMirror_wf, State.toTango_mem, State.rollbackRegion_mem,
    State.pollLoader_mem, State.bindWaiting_mem, Mem.wf, foldl_mem, WR.wf_ok, WR.wf_error, implies_true, *]

@[simp] theorem tangoUnfreezeW_wf (s : State) (h1 : s.mem.wf) :
    (tangoUnfreezeW s).Wf := by
  simp only [tangoUnfreezeW, State.modTango_mem, State.rePair_wf, Mem.wf, ite_wf, WR.wf_ok, *]

@[simp] theorem tangoFreezeW_wf (s : State) (h1 : s.mem.wf) :
    (tangoFreezeW s).Wf := by
  simp only [tangoFreezeW, State.modTango_mem, Mem.wf, WR.wf_ok, *]

@[simp] theorem State.unpair_wf (s : State) (h1 : s.mem.wf) :
    s.unpair.mem.wf := by
  simp only [State.unpair, State.modTango_mem, State.toTango_mem, State.dropMirror_wf, Mem.wf, *]

@[simp] theorem tangoUnpairW_wf (s : State) (h1 : s.mem.wf) :
    (tangoUnpairW s).Wf := by
  simp only [tangoUnpairW, State.modTango_mem, State.unpair_wf, Mem.wf, WR.wf_ok, *]

@[simp] theorem tangoPauseW_wf (s : State) (h1 : s.mem.wf) :
    (tangoPauseW s).Wf := by
  simp only [tangoPauseW, State.modTango_mem, State.suspendMirror_mem, Mem.wf, ite_wf, WR.wf_ok, *]

@[simp] theorem tangoStopW_wf (s : State) (h1 : s.mem.wf) :
    (tangoStopW s).Wf := by
  simp only [tangoStopW, State.toTango_mem, State.modTango_mem, State.dropMirrorBinds_mem, Mem.wf, WR.wf_ok, *]

@[simp] theorem tangoStartW_wf (s : State) (h1 : s.mem.wf) :
    (tangoStartW s).Wf := by
  unfold tangoStartW
  repeat' split
  all_goals simp only [State.toTango_mem, State.sendResume_mem, Mem.wf, ite_wf, WR.wf_ok, WR.wf_error, WR.wf_ite, *]

@[simp] theorem tangoRoleW_wf (s : State) (v : Word) (h1 : s.mem.wf) :
    (tangoRoleW s v).Wf := by
  unfold tangoRoleW
  split <;> simp only [State.wr_mem, State.rePair_wf, Mem.wf, ite_wf, WR.wf_ok, WR.wf_error, *]

@[simp] theorem State.performSeg_wf (s : State) (j : Nat) (k : Nat) (off : Nat) (body : List Byte) (src : Nat) (h1 : s.mem.wf) :
    (s.performSeg j k off body src).mem.wf := by
  unfold State.performSeg
  simp only [Mem.wf, *]
  repeat' split
  all_goals simp only [State.consumeOn_mem, State.collDrop_mem, State.setCtx_mem, State.collPut_wf, Mem.wf, *]

@[simp] theorem State.takeSegment_wf (s : State) (j : Nat) (c : CollCtx) (d : CollDesc) (p : Packet) (forwarded : Bool)
    (h1 : s.mem.wf) :
    (s.takeSegment j c d p forwarded).mem.wf := by
  unfold State.takeSegment
  repeat' split
  all_goals simp only [State.lateDrop_mem, State.collDrop_mem, State.sendDown_mem, State.performSeg_wf, State.gatherOn_mem,
    State.setCtx_mem, State.pollHora_mem, State.consumePkt_mem, Mem.wf, ite_wf, *]

@[simp] theorem State.takeResult_wf (s : State) (j : Nat) (c : CollCtx) (p : Packet) (forwarded : Bool) (h1 : s.mem.wf) :
    (s.takeResult j c p forwarded).mem.wf := by
  unfold State.takeResult
  split <;> simp only [State.collDrop_mem, State.setCtx_mem, State.sendDown_mem, Mem.wf, ite_wf, *]

@[simp] theorem replayRaw_wf (j : Nat) (k : Nat) (d : CollDesc) (x1 : List (Packet × Bool)) (x2 : State) (h1 : x2.mem.wf) :
    (replayRaw j k d x1 x2).mem.wf := by
  induction x1 generalizing j k d x2 with
  | nil => exact h1
  | cons a l ih =>
    rw [replayRaw]
    repeat' split
    all_goals simp only [State.takeResult_wf, State.takeSegment_wf, Mem.wf, *]

@[simp] theorem rootSegs_wf (j : Nat) (k : Nat) (count : Nat) (mean : Bool) (x1 : List (Nat × List Word32)) (x2 : State)
    (h1 : x2.mem.wf) :
    (rootSegs j k count mean x1 x2).mem.wf := by
  induction x1 generalizing j k count mean x2 with
  | nil => exact h1
  | cons a l ih =>
    rw [rootSegs]
    repeat' split
    all_goals simp only [State.sendDown_mem, State.performSeg_wf, Mem.wf, *]

@[simp] theorem State.rootResult_wf (s : State) (j : Nat) (k : Nat) (h1 : s.mem.wf) :
    (s.rootResult j k).mem.wf := by
  unfold State.rootResult
  repeat' split
  all_goals simp +contextual only [State.routerFlags_mem, State.sendDown_mem, State.setCtx_mem, rootSegs_wf, Mem.wf, *]

@[simp] theorem gatherSends_wf (j : Nat) (k : Nat) (d : CollDesc) (lo : Nat) (n : Nat) (x1 : Nat) (x2 : Nat) (x3 : State)
    (h1 : x3.mem.wf) :
    (gatherSends j k d lo n x1 x2 x3).mem.wf := by
  fun_induction gatherSends j k d lo n x1 x2 x3 <;> simp only [*, State.performSeg_wf, State.gatherOn_mem, Mem.wf]

@[simp] theorem rootSends_wf (j : Nat) (k : Nat) (d : CollDesc) (x1 : Nat) (x2 : Nat) (x3 : State) (h1 : x3.mem.wf) :
    (rootSends j k d x1 x2 x3).mem.wf := by
  fun_induction rootSends j k d x1 x2 x3 <;> simp only [*, State.performSeg_wf, State.sendDown_mem, Mem.wf]

@[simp] theorem State.startReel_wf (s : State) (lead : Nat) (j : Nat) (d : CollDesc) (h1 : s.mem.wf) :
    (s.startReel lead j d).mem.wf := by
  simp +contextual only [State.startReel, reelPend_mem, State.reelState_wf, State.modCs_mem, reelSend_mem, foldl_wf, Mem.wf,
    ite_wf, implies_true, *]

@[simp] theorem State.collRefuse_wf (s : State) (lead : Nat) (who : Nat) (d : CollDesc) (acc : Bool) (h1 : s.mem.wf) :
    (s.collRefuse lead who d acc).mem.wf := by
  unfold State.collRefuse
  simp only [Mem.wf, *]
  repeat' split
  all_goals simp only [State.partFault_mem, State.collStatus_wf, State.collEnded_mem, State.writeBytes_wf, State.modCs_mem, Mem.wf,
    *]

@[simp] theorem dlBeatW_wf (s : State) (j : Nat) (v : Word) (h1 : s.mem.wf) :
    (dlBeatW s j v).Wf := by
  simp only [dlBeatW, State.nameDeadline_mem, Mem.wf, WR.wf_ok, *]

@[simp] theorem modeW_wf (s : State) (j : Nat) (v : Word) (h1 : s.mem.wf) :
    (modeW s j v).Wf := by
  simp only [modeW, State.wr_mem, Mem.wf, WR.wf_ok, WR.wf_error, WR.wf_ite, *]

@[simp] theorem endAll_wf (j : Nat) (code : Nat) (x1 : List CollCtx) (x2 : State) (h1 : x2.mem.wf) :
    (endAll j code x1 x2).mem.wf := by
  induction x1 generalizing j code x2 with
  | nil => exact h1
  | cons a l ih => simp only [endAll, State.finishCtx_wf, Mem.wf, *]

@[simp] theorem endReels_wf (j : Nat) (x1 : List ReelSt) (x2 : State) (h1 : x2.mem.wf) :
    (endReels j x1 x2).mem.wf := by
  induction x1 generalizing j x2 with
  | nil => exact h1
  | cons a l ih => simp only [endReels, State.reelOutcome_wf, Mem.wf, *]

@[simp] theorem slotEnableW_wf (s : State) (j : Nat) (h1 : s.mem.wf) :
    (slotEnableW s j).Wf := by
  simp only [slotEnableW, State.wrN_mem, State.setCs_mem, Mem.wf, WR.wf_ok, WR.wf_error, WR.wf_ite, *]

@[simp] theorem jobIdW_wf (s : State) (via : Via) (j : Nat) (v : Word) (h1 : s.mem.wf) :
    (jobIdW s via j v).Wf := by
  unfold jobIdW
  split <;> simp only [State.wrN_mem, Mem.wf, WR.wf_ok, WR.wf_error, WR.wf_ite, *]

@[simp] theorem disableW_wf (s : State) (n : Nat) (h1 : s.mem.wf) :
    (disableW s n).Wf := by
  simp only [disableW, State.toPState_mem, Mem.wf, WR.wf_ok, *]

@[simp] theorem recalW_wf (s : State) (n : Nat) (force : Bool) (h1 : s.mem.wf) :
    (recalW s n force).Wf := by
  simp only [recalW, State.emit_mem, State.sendOpaque_mem, State.toPState_mem, Mem.wf, WR.wf_ok, WR.wf_error, WR.wf_ite, *]

@[simp] theorem retrainW_wf (s : State) (n : Nat) (h1 : s.mem.wf) :
    (retrainW s n).Wf := by
  simp only [retrainW, State.toPState_mem, Mem.wf, WR.wf_ok, WR.wf_error, WR.wf_ite, *]

@[simp] theorem roleW_wf (s : State) (n : Nat) (v : Word) (h1 : s.mem.wf) :
    (roleW s n v).Wf := by
  unfold roleW
  split <;> simp only [State.saveObj_mem, State.toPState_mem, Mem.wf, ite_wf, WR.wf_ok, WR.wf_error, WR.wf_ite, *]

@[simp] theorem epochWriteW_wf (s : State) (v : Word) (h1 : s.mem.wf) :
    (epochWriteW s v).Wf := by
  simp only [epochWriteW, State.learnEpoch_mem, State.count32Sat_mem, State.announce_mem, Mem.wf, ite_wf, WR.wf_ok, *]

@[simp] theorem commitBeatW_wf (s : State) (v : Word) (h1 : s.mem.wf) :
    (commitBeatW s v).Wf := by
  simp only [commitBeatW, State.wr_mem, State.exchangeBanks_mem, Mem.wf, WR.wf_ok, WR.wf_ite, *]

@[simp] theorem routeEntryW_wf (s : State) (v : Word) (h1 : s.mem.wf) :
    (routeEntryW s v).Wf := by
  simp only [routeEntryW, State.modFab_mem, Mem.wf, WR.wf_ok, WR.wf_error, WR.wf_ite, *]

@[simp] theorem fabricEpochW_wf (s : State) (v : Word) (h1 : s.mem.wf) :
    (fabricEpochW s v).Wf := by
  simp only [fabricEpochW, State.modFab_mem, State.wr_mem, State.raiseEntry_mem, State.announce_mem, Mem.wf, WR.wf_ok, WR.wf_error,
    WR.wf_ite, *]

@[simp] theorem fabricAddrW_wf (s : State) (v : Word) (h1 : s.mem.wf) :
    (fabricAddrW s v).Wf := by
  unfold fabricAddrW
  split <;> simp only [State.wr_mem, State.rePair_wf, Mem.wf, ite_wf, WR.wf_ok, WR.wf_error, *]

@[simp] theorem fabricW_wf (s : State) (o : ObjSpec) (sub : Nat) (v : Word) (h1 : s.mem.wf) :
    (fabricW s o sub v).Wf := by
  unfold fabricW
  split <;> simp only [fabricAddrW_wf, fabricEpochW_wf, storeIf_wf, routeEntryW_wf, commitBeatW_wf, epochWriteW_wf,
    State.reselect_mem, State.wr_mem, State.modFab_mem, clearW_wf, State.clearFabric_mem, storeW_wf, Mem.wf, WR.wf_ok, *]

@[simp] theorem deadW_wf (s : State) (a : FabAddr) (h1 : s.mem.wf) :
    (deadW s a).Wf := by
  simp only [deadW, State.modHealth_mem, Mem.wf, WR.wf_ok, *]

@[simp] theorem trustW_wf (s : State) (a : FabAddr) (h1 : s.mem.wf) :
    (trustW s a).Wf := by
  simp only [trustW, State.modHealth_mem, Mem.wf, WR.wf_ok, *]

@[simp] theorem detectorW_wf (s : State) (v : Word) (h1 : s.mem.wf) :
    (detectorW s v).Wf := by
  unfold detectorW
  split <;> simp only [trustW_wf, deadW_wf, Mem.wf, WR.wf_error, *]

@[simp] theorem healthInputW_wf (s : State) (v : Word) (h1 : s.mem.wf) :
    (healthInputW s v).Wf := by
  simp only [healthInputW, State.modHealth_mem, Mem.wf, WR.wf_ok, WR.wf_error, WR.wf_ite, *]

@[simp] theorem healthPartStateW_wf (s : State) (v : Word) (h1 : s.mem.wf) :
    (healthPartStateW s v).Wf := by
  simp only [healthPartStateW, guardW_wf, State.modHealth_mem, Mem.wf, guardW_wf, WR.wf_ok, *]

@[simp] theorem partSelectW_wf (s : State) (v : Word) (h1 : s.mem.wf) :
    (partSelectW s v).Wf := by
  simp only [partSelectW, guardW_wf, State.wr_mem, Mem.wf, guardW_wf, WR.wf_ok, *]

@[simp] theorem healthW_wf (s : State) (o : ObjSpec) (sub : Nat) (v : Word) (h1 : s.mem.wf) :
    (healthW s o sub v).Wf := by
  unfold healthW
  split <;> simp only [partSelectW_wf, healthPartStateW_wf, storeIf_wf, healthInputW_wf, detectorW_wf, storeW_wf, Mem.wf, *]

@[simp] theorem State.clearTables_wf (s : State) (p : Nat) (keep : Ctx → Bool) (h1 : s.mem.wf) :
    (s.clearTables p keep).mem.wf := by
  simp only [State.clearTables, State.zeroMem_wf, State.dropTables_mem, Mem.wf, *]

@[simp] theorem State.leaveRetention_wf (s : State) (h1 : s.mem.wf) :
    s.leaveRetention.mem.wf := by
  simp +contextual only [State.leaveRetention, State.dropPartObjs_mem, State.partAwake_mem, State.toTango_mem, State.setBeat_mem,
    State.toPState_mem, foldl_wf, Mem.wf, ite_wf, implies_true, *]

@[simp] theorem congaW_wf (s : State) (o : ObjSpec) (sub : Nat) (v : Word) (h1 : s.mem.wf) :
    (congaW s o sub v).Wf := by
  unfold congaW
  split <;> simp only [storeIf_wf, storeW_wf, Mem.wf, *]

@[simp] theorem identW_wf (s : State) (via : Via) (o : ObjSpec) (sub : Nat) (v : Word) (h1 : s.mem.wf) :
    (identW s via o sub v).Wf := by
  fun_cases identW s via o sub v <;> simp only [storeIf_wf, storeW_wf, Mem.wf, WR.wf_error, *]

@[simp] theorem State.bar4Write_wf (s : State) (f : Nat) (o : Nat) (a : Nat) (bs : List Byte) (sh : ShellOutcome) (h1 : s.mem.wf) :
    (s.bar4Write f o a bs sh).mem.wf := by
  unfold State.bar4Write
  split <;> simp only [State.bar4Note_mem, State.recordRefuse_mem, State.writeBytes_wf, Mem.wf, ite_wf, *]

@[simp] theorem State.boot_wf (s : State) (obs : BringupObs) (h1 : s.mem.wf) :
    (s.boot obs).mem.wf := by
  unfold State.boot
  simp only [State.wrN_mem, State.modSec_mem, State.setReadiness_mem, Mem.wf, *]
  repeat' split
  all_goals simp only [State.wrN_mem, State.modSec_mem, State.setReadiness_mem, State.startFirmware_wf, Mem.wf, *]

@[simp] theorem State.carryOut_wf (s : State) (j : Nat) (c : CollCtx) (h1 : s.mem.wf) :
    (s.carryOut j c).1.mem.wf := by
  unfold State.carryOut
  repeat' split
  all_goals simp only [State.count_mem, State.writeBytes_wf, State.modCs_mem, Mem.wf, *]

@[simp] theorem State.dmaClearW_wf (s : State) (k : Nat) (h1 : s.mem.wf) :
    (s.dmaClearW k).Wf := by
  simp only [State.dmaClearW, State.setChan_mem, Mem.wf, ite_wf, WR.wf_ok, *]

@[simp] theorem State.dmaResumeW_wf (s : State) (k : Nat) (h1 : s.mem.wf) :
    (s.dmaResumeW k).Wf := by
  simp only [State.dmaResumeW, State.dmaPromote_mem, State.setChan_mem, Mem.wf, ite_wf, WR.wf_ok, *]

@[simp] theorem State.dmaStopW_wf (s : State) (k : Nat) (h1 : s.mem.wf) :
    (s.dmaStopW k).Wf := by
  simp only [State.dmaStopW, State.dmaEnd_mem, State.modChan_mem, Mem.wf, ite_wf, WR.wf_ok, *]

@[simp] theorem dmaArmW_wf (s : State) (fn : Nat) (k : Nat) (h1 : s.mem.wf) :
    (dmaArmW s fn k).Wf := by
  simp only [dmaArmW, State.setChan_mem, Mem.wf, WR.wf_ok, WR.wf_error, WR.wf_ite, *]

@[simp] theorem State.dmaDeliver_wf (s : State) (k : Nat) (da : Nat) (bytes : List Byte) (h1 : s.mem.wf) :
    (s.dmaDeliver k da bytes).mem.wf := by
  simp only [State.dmaDeliver, State.writeBytes_wf, State.modChan_mem, State.emit_mem, State.hostTouch_mem, State.setChan_mem,
    State.inject_mem, Mem.wf, ite_wf, *]

@[simp] theorem State.dmaWrite_wf (s : State) (k : Nat) (env : BurstEnv) (h1 : s.mem.wf) :
    (s.dmaWrite k env).mem.wf := by
  unfold State.dmaWrite
  simp only [Mem.wf, *]
  repeat' split
  all_goals simp only [State.memMeets_mem, State.dmaHalt_mem, State.dmaDataError_mem, State.pCount_mem, State.dmaDeliver_wf,
    State.dmaPoints_mem, State.modChan_mem, Mem.wf, *]

@[simp] theorem State.dmaMove_wf (s : State) (k : Nat) (env : BurstEnv) (h1 : s.mem.wf) :
    (s.dmaMove k env).mem.wf := by
  unfold State.dmaMove
  simp only [Mem.wf, *]
  repeat' split
  all_goals simp only [State.dmaRead_mem, State.dmaWrite_wf, Mem.wf, *]

@[simp] theorem State.dmaShadowW_wf (s : State) (k : Nat) (off : Nat) (v : Word) (h1 : s.mem.wf) :
    (s.dmaShadowW k off v).Wf := by
  simp only [State.dmaShadowW, State.setChan_mem, Mem.wf, WR.wf_ok, WR.wf_error, WR.wf_ite, *]

@[simp] theorem State.dmaStatusW_wf (s : State) (k : Nat) (v : Word) (h1 : s.mem.wf) :
    (s.dmaStatusW k v).Wf := by
  simp only [State.dmaStatusW, State.modChan_mem, Mem.wf, WR.wf_ok, *]

@[simp] theorem State.setEntry_wf (s : State) (c : Nat) (i : Nat) (v : Word32) (h1 : s.mem.wf) :
    (s.setEntry c i v).mem.wf := by
  simp only [State.setEntry, State.writeLE_wf, Mem.wf, *]

@[simp] theorem addEntries_wf (c : Nat) (ftz : Bool) (x1 : Nat) (x2 : List Num) (x3 : State) (x4 : Flg) (h1 : x3.mem.wf) :
    (addEntries c ftz x1 x2 x3 x4).1.mem.wf := by
  induction x2 generalizing c ftz x1 x3 x4 with
  | nil => exact h1
  | cons a l ih => simp only [addEntries, State.setEntry_wf, Mem.wf, *]

@[simp] theorem State.tryCarry_wf (s : State) (j : Nat) (c : CollCtx) (h1 : s.mem.wf) :
    (s.tryCarry j c).mem.wf := by
  simp only [State.tryCarry, State.carryOut_wf, State.setCtx_mem, Mem.wf, ite_wf, *]

@[simp] theorem State.excludeOwn_wf (s : State) (j : Nat) (k : Nat) (h1 : s.mem.wf) :
    (s.excludeOwn j k).mem.wf := by
  unfold State.excludeOwn
  split <;> simp only [State.tryCarry_wf, State.setCtx_mem, Mem.wf, *]

@[simp] theorem State.writeRecord_wf (s : State) (p : Nat) (n : Nat) (handle : Nat) (e : LaunchEnd) (flags : Nat) (start : Nat)
    (cycles : Nat → Nat) (overrun : Nat) (deadline : Nat) (h1 : s.mem.wf) :
    (s.writeRecord p n handle e flags start cycles overrun deadline).mem.wf := by
  unfold State.writeRecord
  simp only [Mem.wf, *]
  repeat' split
  all_goals simp only [State.wrN_mem, State.writeBytes_wf, State.event_mem, State.partFault_mem, State.pCount_mem, Mem.wf, *]

@[simp] theorem State.finishLaunch_wf (s : State) (k : Nat) (l : Launch) (e : LaunchEnd) (h1 : s.mem.wf) :
    (s.finishLaunch k l e).mem.wf := by
  simp +contextual only [State.finishLaunch, State.writeRecord_wf, State.modCore_mem, State.setSlot_mem, State.settleProg_mem,
    foldl_wf, Mem.wf, implies_true, *]

@[simp] theorem State.reelPut_wf (s : State) (j : Nat) (r : ReelSt) (region : Nat) (off : Nat) (a : Nat) (body : List Byte)
    (src : Nat) (h1 : s.mem.wf) :
    (s.reelPut j r region off a body src).mem.wf := by
  simp only [State.reelPut, State.collPut_wf, State.setReel_mem, State.consumeOn_mem, Mem.wf, ite_wf, *]

@[simp] theorem flushReel_wf (j : Nat) (step : Tag) (x1 : SMap (Nat × Nat × List Byte × Nat)) (x2 : State) (h1 : x2.mem.wf) :
    (flushReel j step x1 x2).mem.wf := by
  induction x1 generalizing j step x2 with
  | nil => exact h1
  | cons a l ih =>
    rw [flushReel]
    split <;> simp only [State.reelPut_wf, State.setReel_mem, Mem.wf, *]

@[simp] theorem flushReels_wf (j : Nat) (x1 : List ReelSt) (x2 : State) (h1 : x2.mem.wf) :
    (flushReels j x1 x2).mem.wf := by
  induction x1 generalizing j x2 with
  | nil => exact h1
  | cons a l ih => simp only [flushReels, flushReel_wf, Mem.wf, *]

@[simp] theorem State.passSegment_wf (s : State) (j : Nat) (c : CollCtx) (p : Packet) (h1 : s.mem.wf) :
    (s.passSegment j c p).mem.wf := by
  unfold State.passSegment
  repeat' split
  all_goals simp only [State.collDrop_mem, State.lateDrop_mem, State.sendDown_mem, State.setCtx_mem, State.consumePkt_mem, Mem.wf,
    ite_wf, *]

@[simp] theorem State.reelData_wf (s : State) (j : Nat) (r : ReelSt) (p : Packet) (h1 : s.mem.wf) :
    (s.reelData j r p).mem.wf := by
  fun_cases s.reelData j r p <;> simp only [State.lateDrop_mem, State.consumePkt_mem, State.collDrop_mem, State.setReel_mem,
    State.reelPut_wf, Mem.wf, *]

@[simp] theorem gradCells_wf (c : Nat) (p : Pair) (fx : Format) (fd : Format) (ftz : Bool) (nt : Nat) (base : Nat) (rows : List
    (List Word × List Word)) (x1 : Nat) (x2 : Nat) (x3 : State) (x4 : Flg) (h1 : x3.mem.wf) :
    (gradCells c p fx fd ftz nt base rows x1 x2 x3 x4).1.mem.wf := by
  fun_induction gradCells c p fx fd ftz nt base rows x1 x2 x3 x4 <;> simp only [*, State.setEntry_wf, Mem.wf]

@[simp] theorem State.laneAdd_wf (s : State) (c : Core) (r : WRegion) (offset : Nat) (vreg : Fin 32) (n : Nat) (h1 : s.mem.wf) :
    (s.laneAdd c r offset vreg n).mem.wf := by
  simp only [State.laneAdd, State.openRegion_mem, addEntries_wf, State.waits_mem, State.raiseFlags_mem, Mem.wf, ite_wf, *]

@[simp] theorem State.mirrorFence_wf (s : State) (t : Tag) (h1 : s.mem.wf) :
    (s.mirrorFence t).mem.wf := by
  unfold State.mirrorFence
  simp only [Mem.wf, *]
  repeat' split
  all_goals simp only [State.listTakes_mem, State.modTango_mem, State.count_mem, State.toTango_mem, *]

@[simp] theorem VOpen.codes_wf (v : VOpen) (s : State) (c : Nat) (n : Nat) (h1 : s.mem.wf) :
    (v.codes s c n).2.mem.wf := by
  unfold VOpen.codes
  split <;> simp only [loadConvert_mem, Mem.wf, *]

@[simp] theorem State.pairConflict_wf (s : State) (cause : Nat) (h1 : s.mem.wf) :
    (s.pairConflict cause).mem.wf := by
  simp only [State.pairConflict, State.wrN_mem, State.toTango_mem, State.dropMirror_wf, Mem.wf, *]

@[simp] theorem State.peerPerform_wf (s : State) (p : Nat) (pkt : Packet) (o : ShellOutcome) (h1 : s.mem.wf) :
    (s.peerPerform p pkt o).mem.wf := by
  unfold State.peerPerform
  simp only [State.memMeets_mem, Mem.wf, ite_wf, *]
  repeat' split
  all_goals simp only [State.memMeets_mem, State.peerAccept_mem, State.writeBytes_wf, Mem.wf, *]

@[simp] theorem State.reclaimMember_wf (s : State) (q : Nat) (h1 : s.mem.wf) :
    (s.reclaimMember q).mem.wf := by
  simp only [State.reclaimMember, State.tangoPartReset_mem, State.partAwake_mem, State.clearTables_wf, State.dropPartObjs_mem,
    State.pWr_mem, State.event_mem, State.count32Sat_mem, Mem.wf, *]

@[simp] theorem State.stepRestore_wf (s : State) (h1 : s.mem.wf) :
    s.stepRestore.mem.wf := by
  unfold State.stepRestore
  repeat' split
  all_goals simp only [State.modTango_mem, restoreSend_mem, Mem.wf, *]

@[simp] theorem State.sendChunk_wf (s : State) (h1 : s.mem.wf) :
    s.sendChunk.mem.wf := by
  unfold State.sendChunk
  split <;> simp only [sendPackets_mem, State.modTango_mem, Mem.wf, ite_wf, *]

@[simp] theorem State.tryFinish_wf (s : State) (k : Nat) (h1 : s.mem.wf) :
    (s.tryFinish k).mem.wf := by
  fun_cases s.tryFinish k <;> simp only [State.finishLaunch_wf, Mem.wf, *]

@[simp] theorem State.rung1_wf (s : State) (c : Nat) (k : Nat) (l : Launch) (cause : Nat) (tile : Nat) (h1 : s.mem.wf) :
    (s.rung1 c k l cause tile).mem.wf := by
  unfold State.rung1
  split <;> simp only [State.count32Sat_mem, State.hangLog_mem, State.modHang_mem, State.tryFinish_wf, State.endLaunch_mem,
    State.reportRung_mem, Mem.wf, ite_wf, *]

@[simp] theorem State.slotEnd_wf (s : State) (p : Nat) (n : Nat) (handle : Nat) (code : Nat) (h1 : s.mem.wf) :
    (s.slotEnd p n handle code).mem.wf := by
  simp only [State.slotEnd, State.writeRecord_wf, State.setSlot_mem, Mem.wf, *]

@[simp] theorem State.stageFree_wf (s : State) (j : Nat) (h1 : s.mem.wf) :
    (s.stageFree j).mem.wf := by
  simp only [State.stageFree, State.freeMem_wf, Mem.wf, *]

@[simp] theorem State.tangoIn_wf (s : State) (pkt : Packet) (f : State → State) (h1 : s.mem.wf) (h2 : ∀ y1, y1.mem.wf →
    (f y1).mem.wf) :
    (s.tangoIn pkt f).mem.wf := by
  simp only [State.tangoIn, State.ingress_mem, Mem.wf, ite_wf, *]

@[simp] theorem State.zeroLines_wf (s : State) (c : Nat) (r : WRegion) (lines : List Nat) (h1 : s.mem.wf) :
    (s.zeroLines c r lines).mem.wf := by
  simp +contextual only [State.zeroLines, State.zeroMem_wf, foldl_wf, Mem.wf, implies_true, *]

@[simp] theorem State.withSlot_wf (s : State) (p : Packet) (f : Nat → State) (h1 : s.mem.wf) (h2 : ∀ y1, (f y1).mem.wf) :
    (s.withSlot p f).mem.wf := by
  fun_cases s.withSlot p f <;> simp only [State.ctxDrop_mem, State.collDrop_mem, Mem.wf, *]

@[simp] theorem State.withCtl_wf (s : State) (p : Packet) (kind : Nat) (f : Nat → Ctl → State) (h1 : s.mem.wf) (h2 : ∀ y1 y2,
    (f y1 y2).mem.wf) :
    (s.withCtl p kind f).mem.wf := by
  simp only [State.withCtl, State.withSlot_wf, Mem.wf, ite_wf, implies_true, *]

@[simp] theorem attestReportDoneEff_wf (p : Part) (signature : List Byte) (s : State) (h1 : s.mem.wf) :
    (attestReportDoneEff p signature s).mem.wf := by
  unfold attestReportDoneEff
  split <;> simp only [State.modSec_mem, State.writeBytes_wf, State.pWr_mem, Mem.wf, ite_wf, *]

@[simp] theorem wireFlitSendEff_wf (n : Port) (checks : List (Nat × ShellOutcome)) (s : State) (h1 : s.mem.wf) :
    (wireFlitSendEff n checks s).mem.wf := by
  unfold wireFlitSendEff
  simp only [Mem.wf, *]
  repeat' split
  all_goals simp only [State.checkQueue_mem, State.setPort_mem, State.sendFlit_mem, State.waitsAt_mem, State.sendBody_mem, *]

@[simp] theorem brownOutEff_wf (s : State) (h1 : s.mem.wf) :
    (brownOutEff s).mem.wf := by
  unfold brownOutEff
  split <;> simp +contextual only [State.zeroMem_wf, State.newKey_mem, State.healthEvent_mem, State.count32Sat_mem,
    State.modPow_mem, foldl_wf, Mem.wf, implies_true, *]

@[simp] theorem resetReleaseEff_wf (obs : BringupObs) (s : State) (h1 : s.mem.wf) :
    (resetReleaseEff obs s).mem.wf := by
  unfold resetReleaseEff
  simp only [Mem.wf, *]
  repeat' split
  all_goals simp only [State.beginBringup_mem, State.setBeat_mem, State.sampleStraps_mem, State.wrN_mem, State.trainPcie_mem,
    State.setReadiness_mem, State.modSec_mem, State.failBringup_mem, State.newKeys_mem, State.boot_wf, Mem.wf, *]

@[simp] theorem calibrationCommitDoneEff_wf (ok : Bool) (s : State) (h1 : s.mem.wf) :
    (calibrationCommitDoneEff ok s).mem.wf := by
  unfold calibrationCommitDoneEff
  split <;> simp only [State.mgmtEvent_mem, State.count32Sat_mem, State.modMgmt_mem, State.goOn_wf, Mem.wf, ite_wf, *]

@[simp] theorem bar4AccessEff_wf (f : Func) (offset : Nat) (wr : Option (List Byte)) (len : Nat) (shell : ShellOutcome)
    (s : State) (h1 : s.mem.wf) :
    (bar4AccessEff f offset wr len shell s).mem.wf := by
  fun_cases bar4AccessEff f offset wr len shell s <;> simp only [State.writeBytes_wf, State.complete_mem, State.bar4Write_wf,
    State.bar4Read_mem, State.recordRefuse_mem, Mem.wf, *]

@[simp] theorem gateWatchdogExpiryEff_wf (c : Core) (s : State) (h1 : s.mem.wf) :
    (gateWatchdogExpiryEff c s).mem.wf := by
  unfold gateWatchdogExpiryEff
  split <;> simp only [State.rung1_wf, Mem.wf, ite_wf, *]

@[simp] theorem tileWatchdogExpiryEff_wf (c : Core) (s : State) (h1 : s.mem.wf) :
    (tileWatchdogExpiryEff c s).mem.wf := by
  unfold tileWatchdogExpiryEff
  split <;> simp only [State.rung1_wf, Mem.wf, ite_wf, *]

@[simp] theorem tangoRestoreDoneEff_wf (code : Fin 10) (s : State) (h1 : s.mem.wf) :
    (tangoRestoreDoneEff code s).mem.wf := by
  unfold tangoRestoreDoneEff
  split <;> simp only [State.endRestore_mem, Mem.wf, ite_wf, *]

@[simp] theorem tangoInterruptEff_wf (s : State) (h1 : s.mem.wf) :
    (tangoInterruptEff s).mem.wf := by
  fun_cases tangoInterruptEff s <;> simp only [State.unpair_wf, State.suspendMirror_mem, State.toTango_mem, Mem.wf, *]

@[simp] theorem tangoAckEff_wf (pkt : Packet) (s : State) (h1 : s.mem.wf) :
    (tangoAckEff pkt s).mem.wf := by
  unfold tangoAckEff
  split <;> simp only [State.ackTo_wf, Mem.wf, ite_wf, *]

@[simp] theorem mirrorBeginEff_wf (shell : ShellOutcome) (s : State) (h1 : s.mem.wf) :
    (mirrorBeginEff shell s).mem.wf := by
  unfold mirrorBeginEff
  simp +contextual only [Mem.wf, *]
  repeat' split
  all_goals simp +contextual only [State.pairConflict_wf, State.memMeets_mem, State.memNote_mem, State.bindSlot_mem,
    State.modTango_mem, State.wrN_mem, State.toTango_mem, State.sendChunk_wf, State.sendPair_mem, foldl_wf, Mem.wf, implies_true, *]

@[simp] theorem tangoPairingStartEff_wf (n : Port) (s : State) (h1 : s.mem.wf) :
    (tangoPairingStartEff n s).mem.wf := by
  unfold tangoPairingStartEff
  simp only [Mem.wf, *]
  repeat' split
  all_goals simp only [State.modTango_mem, State.count32Sat_mem, State.sendResume_mem, State.pairConflict_wf, State.toTango_mem,
    State.sendPairWord_mem, Mem.wf, *]

@[simp] theorem reelReadyEff_wf (j : JobSlot) (s : State) (h1 : s.mem.wf) :
    (reelReadyEff j s).mem.wf := by
  unfold reelReadyEff
  split <;> simp only [State.reelState_wf, Mem.wf, *]

@[simp] theorem peerWriteEff_wf (pkt : Packet) (shell : ShellOutcome) (s : State) (h1 : s.mem.wf) :
    (peerWriteEff pkt shell s).mem.wf := by
  fun_cases peerWriteEff pkt shell s <;> simp only [State.ctxDrop_mem, serveRequestReceiveEff_mem, fetchNoticeEff_mem,
    State.peerRefuse_mem, State.peerPerform_wf, State.loadStray_mem, Mem.wf, *]

@[simp] theorem arrivalTimeoutEff_wf (ch : ChanId) (s : State) (h1 : s.mem.wf) :
    (arrivalTimeoutEff ch s).mem.wf := by
  fun_cases arrivalTimeoutEff ch s <;> simp only [State.serveTimeout_mem, State.dmaFenceEnd_mem, Mem.wf, *]

@[simp] theorem arrivalFenceCompleteEff_wf (ch : ChanId) (host : HostEnd) (s : State) (h1 : s.mem.wf) :
    (arrivalFenceCompleteEff ch host s).mem.wf := by
  fun_cases arrivalFenceCompleteEff ch host s <;> simp only [State.serveFence_mem, State.dmaFenceEnd_mem, Mem.wf, *]

@[simp] theorem dmaBurstEff_wf (p : Part) (e : Fin 2) (env : BurstEnv) (s : State) (h1 : s.mem.wf) :
    (dmaBurstEff p e env s).mem.wf := by
  unfold dmaBurstEff
  simp only [Mem.wf, *]
  repeat' split
  all_goals simp only [State.dmaTake_mem, State.dmaEmptyPass_mem, State.dmaMove_wf, Mem.wf, *]

@[simp] theorem flushRecords_wf (j : Nat) (x1 : List CollRecord) (x2 : State) (h1 : x2.mem.wf) :
    (flushRecords j x1 x2).mem.wf := by
  induction x1 generalizing j x2 with
  | nil => exact h1
  | cons a l ih => simp only [flushRecords, State.collStatus_wf, Mem.wf, *]

@[simp] theorem contextEvictW_wf (s : State) (p : Nat) (i : Nat) (h1 : s.mem.wf) :
    (contextEvictW s p i).Wf := by
  simp only [contextEvictW, State.requestEvict_mem, Mem.wf, WR.wf_ok, *]

@[simp] theorem contextCreateW_wf (s : State) (p : Nat) (i : Nat) (h1 : s.mem.wf) :
    (contextCreateW s p i).Wf := by
  simp only [contextCreateW, State.setCtxE_mem, Mem.wf, WR.wf_ok, WR.wf_error, WR.wf_ite, *]

@[simp] theorem launchCompleteEff_wf (p : Part) (n : Fin 256) (s : State) (h1 : s.mem.wf) :
    (launchCompleteEff p n s).mem.wf := by
  simp only [launchCompleteEff, State.tryFinish_wf, Mem.wf, *]

@[simp] theorem slotAbortW_wf (s : State) (p : Nat) (n : Nat) (h1 : s.mem.wf) :
    (slotAbortW s p n).Wf := by
  unfold slotAbortW
  simp only [Mem.wf, WR.wf_ok, *]
  repeat' split
  all_goals simp only [State.setSlot_mem, State.endLaunch_mem, *]

@[simp] theorem slotArmW_wf (s : State) (p : Nat) (n : Nat) (h1 : s.mem.wf) :
    (slotArmW s p n).Wf := by
  unfold slotArmW
  split <;> simp only [State.setSlot_mem, Mem.wf, WR.wf_ok, WR.wf_error, WR.wf_ite, *]

@[simp] theorem progReleaseW_wf (s : State) (p : Nat) (n : Nat) (h1 : s.mem.wf) :
    (progReleaseW s p n).Wf := by
  simp only [progReleaseW, State.setProg_mem, State.progFree_mem, Mem.wf, WR.wf_ok, WR.wf_ite, *]

@[simp] theorem progValidateW_wf (s : State) (p : Nat) (n : Nat) (h1 : s.mem.wf) :
    (progValidateW s p n).Wf := by
  simp only [progValidateW, State.setProg_mem, Mem.wf, WR.wf_ok, WR.wf_error, WR.wf_ite, *]

@[simp] theorem progLengthW_wf (s : State) (p : Nat) (n : Nat) (len : Nat) (h1 : s.mem.wf) :
    (progLengthW s p n len).Wf := by
  unfold progLengthW
  split <;> simp only [State.setProg_mem, Mem.wf, WR.wf_ok, WR.wf_error, WR.wf_ite, *]

@[simp] theorem progAddressW_wf (s : State) (p : Nat) (n : Nat) (a : Nat) (h1 : s.mem.wf) :
    (progAddressW s p n a).Wf := by
  unfold progAddressW
  split <;> simp only [State.setProg_mem, Mem.wf, WR.wf_ok, WR.wf_error, WR.wf_ite, *]

@[simp] theorem stepFenceCommitEff_wf (p : Part) (s : State) (h1 : s.mem.wf) :
    (stepFenceCommitEff p s).mem.wf := by
  simp only [stepFenceCommitEff, commitStep_mem, State.setFence_mem, State.pollLoader_mem, State.bindWaiting_mem, Mem.wf, ite_wf, *]

@[simp] theorem stepFenceMirrorEff_wf (p : Part) (s : State) (h1 : s.mem.wf) :
    (stepFenceMirrorEff p s).mem.wf := by
  unfold stepFenceMirrorEff
  simp only [Mem.wf, *]
  repeat' split
  all_goals simp only [stepFenceCommitEff_wf, State.mirrorFence_wf, Mem.wf, *]

@[simp] theorem microBatchRetireEff_wf (p : Part) (mb : Nat) (s : State) (h1 : s.mem.wf) :
    (microBatchRetireEff p mb s).mem.wf := by
  unfold microBatchRetireEff
  split <;> simp +contextual only [State.unbindSlot_mem, State.setMicroBatches_mem, State.setFence_mem, State.pollLoader_mem,
    State.bindWaiting_mem, foldl_wf, Mem.wf, ite_wf, implies_true, *]

@[simp] theorem walnutVectorAddEff_wf (c : Core) (r : WRegion) (offset : Nat) (vreg : Fin 32) (n : Nat) (shell : ShellOutcome)
    (s : State) (h1 : s.mem.wf) :
    (walnutVectorAddEff c r offset vreg n shell s).mem.wf := by
  unfold walnutVectorAddEff
  simp only [Mem.wf, *]
  repeat' split
  all_goals simp only [State.opFail_mem, State.opReadWalnut_mem, State.laneAdd_wf, Mem.wf, *]

@[simp] theorem walnutDiscardEff_wf (c : Core) (r : WRegion) (s : State) (h1 : s.mem.wf) :
    (walnutDiscardEff c r s).mem.wf := by
  unfold walnutDiscardEff
  split <;> simp only [State.opFail_mem, State.closeRegion_wf, Mem.wf, ite_wf, *]

@[simp] theorem progDwordW_wf (s : State) (p : Nat) (n : Nat) (off : Nat) (v : Nat) (h1 : s.mem.wf) :
    (progDwordW s p n off v).Wf := by
  fun_cases progDwordW s p n off v <;> simp only [progAddressW_wf, progLengthW_wf, progReleaseW_wf, progValidateW_wf, Mem.wf,
    WR.wf_error, *]

/-! ## Memory operations beyond a run of bytes -/

theorem Mem.writeAt_wf (l : List (Nat × Byte)) (m : Mem) (h : m.wf) : (m.writeAt l).wf := by
  induction l generalizing m with
  | nil => exact h
  | cons x l ih => exact ih _ (Mem.write_wf m x.1 x.2 h)

theorem Mem.writeCode_wf (m : Mem) (f : Format) (a i : Nat) (v : Word) (h : m.wf) : (m.writeCode f a i v).wf := by
  unfold Mem.writeCode
  split
  · exact Mem.write_wf _ _ _ h
  · exact Mem.writeLE_wf _ _ _ _ h

theorem zeroBank_wf (dst off size bank n : Nat) (m : Mem) (h : m.wf) : (zeroBank dst off size bank n m).wf := by
  induction n with
  | zero => exact h
  | succ n ih =>
    rw [zeroBank]
    split
    · exact Mem.zero_wf _ _ _ ih
    · exact ih

/-! ## The store converter -/

theorem storeRowPlain_wf (c o : Nat) (d : Desc) (ftz : Bool) (r i : Nat) (vs : List Num) (a : StoreAcc) (h : a.mem.wf) :
    (storeRowPlain c o d ftz r i vs a).mem.wf := by
  induction vs generalizing i a with
  | nil => exact h
  | cons v vs ih => exact ih _ _ (Mem.writeCode_wf _ _ _ _ _ h)

theorem storeCodes_wf (c o : Nat) (d : Desc) (r : Nat) (nan : Bool) (i : Nat) (ws : List Word) (a : StoreAcc) (h : a.mem.wf) :
    (storeCodes c o d r nan i ws a).mem.wf := by
  induction ws generalizing i a with
  | nil => exact h
  | cons w ws ih => exact ih _ _ (Mem.writeCode_wf _ _ _ _ _ h)

theorem storeRowMx_wf (c o : Nat) (d : Desc) (r n b : Nat) (vs : List Num) (a : StoreAcc) (h : a.mem.wf) :
    (storeRowMx c o d r n b vs a).mem.wf := by
  induction n generalizing b vs a with
  | zero => exact h
  | succ n ih => exact ih _ _ _ (storeCodes_wf _ _ _ _ _ _ _ _ (Mem.write_wf _ _ _ h))

theorem storeRows_wf (c o : Nat) (d : Desc) (ftz : Bool) (r : Nat) (rows : List (List Num)) (a : StoreAcc) (h : a.mem.wf) :
    (storeRows c o d ftz r rows a).mem.wf := by
  induction rows generalizing r a with
  | nil => exact h
  | cons vs rows ih =>
    rw [storeRows]
    apply ih
    split
    · exact storeRowMx_wf _ _ _ _ _ _ _ _ h
    · exact storeRowPlain_wf _ _ _ _ _ _ _ _ h

@[simp] theorem storeTensor_wf (s : State) (c o : Nat) (d : Desc) (rows : List (List Num)) (h : s.mem.wf) :
    (storeTensor s c o d rows).mem.wf := by
  simp only [storeTensor, State.pCount_mem, State.setCore_mem]
  exact storeRows_wf _ _ _ _ _ _ _ h

@[simp] theorem State.streamPut_wf (s : State) (c i : Nat) (bytes : List Byte) (h : s.mem.wf) :
    (s.streamPut c i bytes).mem.wf := by
  unfold State.streamPut
  split
  · exact h
  · exact Mem.writeAt_wf _ _ h

@[simp] theorem storeDst_wf (s : State) (c : Nat) (d : Desc) (rows : List (List Num)) (h : s.mem.wf) :
    (storeDst s c d rows).mem.wf := by
  unfold storeDst
  split
  · split
    · exact h
    · exact storeTensor_wf _ _ _ _ _ h
  · exact State.streamPut_wf _ _ _ _ (Mem.writeBytes_wf _ _ _ h)

@[simp] theorem copyCodes_wf (s : State) (c o : Nat) (d : Desc) (r i : Nat) (ws : List Word) (h : s.mem.wf) :
    (copyCodes s c o d r i ws).mem.wf := by
  induction ws generalizing s i with
  | nil => exact h
  | cons w ws ih => exact ih _ _ (Mem.writeCode_wf _ _ _ _ _ h)

@[simp] theorem copyDst_wf (s : State) (c : Nat) (d : Desc) (rows : List (List Word)) (h : s.mem.wf) :
    (copyDst s c d rows).mem.wf := by
  unfold copyDst
  split
  · split
    · exact h
    · rw [State.copyAmax_mem]
      exact foldl_wf _ h fun t row ht => copyCodes_wf t c _ d _ _ _ ht
  · rw [State.copyAmax_mem]
    exact State.streamPut_wf _ _ _ _ h

@[simp] theorem storeV_wf (s : State) (c : Nat) (v : VDst) (codes : List Word32) (h : s.mem.wf) :
    (storeV s c v codes).mem.wf := by
  cases v with
  | reg r => exact h
  | mem d => exact storeDst_wf _ _ _ _ h

@[simp] theorem storeV64_wf (s : State) (c : Nat) (v : VDst) (codes : List Word) (h : s.mem.wf) :
    (storeV64 s c v codes).mem.wf := by
  cases v with
  | reg r => exact h
  | mem d => exact storeDst_wf _ _ _ _ h

/-! ## Opening operands -/

theorem streamTake_mem {s : State} {c i n : Nat} {r : List Byte × State} (h : s.streamTake c i n = .ok r) : r.2.mem = s.mem := by
  unfold State.streamTake at h
  split at h
  · cases h
  · simp only at h
    split at h
    · cases h
    · injection h with h
      subst h
      rfl

theorem openSrc_mem {s : State} {c : Nat} {d : Desc} {fmt : Format} {r : State × Src} (h : openSrc s c d fmt = .ok r) :
    r.1.mem = s.mem := by
  unfold openSrc at h
  split at h
  · cases h
  · split at h
    · split at h
      · cases h
      · injection h with h
        subst h
        rfl
    · split at h
      · cases h
      · split at h
        · cases h
        next e =>
          injection h with h
          subst h
          exact streamTake_mem e

theorem openV_mem {s : State} {c n : Nat} {fmt : Format} {v : VSrc} {r : State × VOpen} (h : openV s c n fmt v = .ok r) :
    r.1.mem = s.mem := by
  unfold openV at h
  split at h
  · injection h with h; subst h; rfl
  · injection h with h; subst h; rfl
  · split at h
    · cases h
    · split at h
      · cases h
      next e =>
        injection h with h
        subst h
        exact openSrc_mem e

theorem preOpen_mem {s : State} {c : Nat} {t : TotFmt} {w rows : Nat} {p : Preload} {r : State × PreSrc}
    (h : preOpen s c t w rows p = .ok r) : r.1.mem = s.mem := by
  have opened (d : Desc) (n : Nat) (bias : Bool)
      (h : (if preSrcOk t d.fmt = false ∨ d.n0 ≠ w ∨ descRows d ≠ n then Except.error stOperandLayout
        else match openSrc s c d (preFmt t d) with
          | .error e => .error e
          | .ok (s, src) => .ok (s, PreSrc.rows src bias)) = .ok r) : r.1.mem = s.mem := by
    split at h
    · cases h
    · split at h
      · cases h
      next e =>
        injection h with h
        subst h
        exact openSrc_mem e
  unfold preOpen at h
  cases p with
  | keep => injection h with h; subst h; rfl
  | zero => injection h with h; subst h; rfl
  | residual d => exact opened d rows false h
  | bias d => exact opened d 1 true h

/-- A block's rows are read and converted; memory is not written. -/
@[simp] theorem loadBlockRows_mem (s : State) (c : Nat) (src : Src) (fmt : Format) :
    (loadBlockRows s c src fmt).2.mem = s.mem :=
  List.foldlRecOn (motive := fun acc : List (List Word) × State => acc.2.mem = s.mem) _ _ rfl
    fun acc h r _ => (loadConvert_mem ..).trans h

@[simp] theorem passStream_mem (s : State) (c : Nat) (op : BlockPass) (src : Src) : (passStream s c op src).2.mem = s.mem :=
  loadBlockRows_mem ..

@[simp] theorem preVals_mem (s : State) (c : Nat) (t : TotFmt) (w rows : Nat) (p : PreSrc) :
    (preVals s c t w rows p).2.mem = s.mem := by
  cases p with
  | keep => rfl
  | zero => rfl
  | rows src bias => exact loadBlockRows_mem ..

/-! ## Paths to registers -/

@[simp] theorem State.applyW_wf (s : State) (via : Via) (bar : Fin 4) (off : Nat) (r : WR) (h : s.mem.wf) (hr : r.Wf) :
    (s.applyW via bar off r).mem.wf := by
  cases r with
  | ok t => exact hr t rfl
  | error e =>
    cases via with
    | pf => exact (State.recordRefuse_mem ..).symm ▸ h
    | vf p => exact (State.recordRefuse_mem ..).symm ▸ h
    | barzar => exact h

@[simp] theorem State.objWrite_wf (s : State) (via : Via) (index sub : Nat) (r : WR) (h : s.mem.wf) (hr : r.Wf) :
    (s.objWrite via index sub r).mem.wf := by
  unfold State.objWrite
  split
  · exact h
  · split
    · exact h
    · exact State.applyW_wf _ _ _ _ _ h (WR.wf_ite (WR.wf_error _) (WR.wf_ite (WR.wf_error _) hr))

@[simp] theorem State.partWrite_wf (s : State) (via : Via) (p sub : Nat) (r : WR) (h : s.mem.wf) (hr : r.Wf) :
    (s.partWrite via p sub r).mem.wf := State.objWrite_wf _ _ _ _ _ h hr

@[simp] theorem State.blockWrite_wf (s : State) (via : Via) (p off : Nat) (r : WR) (h : s.mem.wf) (hr : r.Wf) :
    (s.blockWrite via p off r).mem.wf := by
  unfold State.blockWrite
  split
  · exact h
  · cases via with
    | pf => exact State.applyW_wf _ _ _ _ _ h (WR.wf_ite hr (WR.wf_error _))
    | vf q => exact State.applyW_wf _ _ _ _ _ h (WR.wf_ite hr (WR.wf_error _))
    | barzar => exact h

/-- Action bits keep the canonical form when each action does. -/
@[simp] theorem ctlActs_wf (v : Word) (i : Nat) (fs : List (State → WR)) (s : State) (h : s.mem.wf)
    (hf : ∀ f ∈ fs, ∀ t : State, t.mem.wf → (f t).Wf) : (ctlActs v i fs s).Wf := by
  induction fs generalizing i s with
  | nil => exact (WR.wf_ok s).2 h
  | cons f fs ih =>
    refine WR.wf_bind (ctlAct_wf v i f s (fun t ht => hf f (List.mem_cons_self ..) t ht) h) fun t ht => ?_
    exact ih (i + 1) t ht fun g hg => hf g (List.mem_cons_of_mem _ hg)

@[simp] theorem State.forMembers_wf (s : State) (p : Nat) (f : Nat → State → State) (h : s.mem.wf)
    (hf : ∀ q (t : State), t.mem.wf → (f q t).mem.wf) : (s.forMembers p f).mem.wf :=
  foldl_wf _ h fun t q ht => hf q t ht

/-! ## Collectives -/

@[simp] theorem State.endStep_wf (s : State) (j : Nat) (h : s.mem.wf) : (s.endStep j).mem.wf :=
  State.forMembers_wf _ _ _ h fun q t ht => State.abortFence_wf t q ht

@[simp] theorem State.abortCtx_wf (s : State) (j : Nat) (c : CollCtx) (code : Nat) (h1 : s.mem.wf) :
    (s.abortCtx j c code).mem.wf := by
  unfold State.abortCtx
  exact ite_wf (State.reelOutcome_wf _ _ _ _ _ _ (State.finishCtx_wf _ _ _ _ h1)) (ite_wf (State.finishCtx_wf _ _ _ _ h1)
    (State.endStep_wf _ _ (State.finishCtx_wf _ _ _ _ h1)))

@[simp] theorem voteCheck_wf (j : Nat) (cs : List CollCtx) (s : State) (h : s.mem.wf) : (voteCheck j cs s).mem.wf := by
  induction cs generalizing s with
  | nil => exact h
  | cons c cs ih =>
    rw [voteCheck]
    apply ih
    split
    · exact ite_wf
        (wf_of_mem (State.endCtx_mem ..) (ite_wf h (wf_of_mem (State.modCtx_mem ..) (State.reelOutcome_wf _ _ _ _ _ _ h))))
        (ite_wf h (wf_of_mem (State.modCtx_mem ..) (State.reelOutcome_wf _ _ _ _ _ _ h)))
    · exact h

theorem State.produce_mem {s t : State} {j : Nat} {c : CollCtx} {i : Nat} (h : s.produce j c i = some t) : t.mem = s.mem := by
  unfold State.produce at h
  extract_lets cutOff at h
  split at h
  · cases h
  · split at h
    · cases h
    · split at h
      · injection h with h
        exact h ▸ (State.setCtx_mem ..).trans ((State.sinkPut_mem ..).trans (State.producerNext_mem ..))
      · cases h

theorem State.produceAny_mem {s t : State} {j : Nat} {c : CollCtx} {is : List Nat} (h : s.produceAny j c is = some t) :
    t.mem = s.mem := by
  induction is with
  | nil => cases h
  | cons i is ih =>
    rw [State.produceAny] at h
    split at h
    next e =>
      injection h with h
      exact h ▸ State.produce_mem e
    · exact ih h

@[simp] theorem settleUp_mem (j k n : Nat) (s : State) : (settleUp j k n s).mem = s.mem := by
  induction n generalizing s with
  | zero => rfl
  | succ n ih =>
    rw [settleUp]
    split
    · rfl
    · split
      next e => exact (ih _).trans (State.produceAny_mem e)
      · rfl

@[simp] theorem pollCtxs_wf (j : Nat) (ks : List Nat) (s : State) (h : s.mem.wf) : (pollCtxs j ks s).mem.wf := by
  induction ks generalizing s with
  | nil => exact h
  | cons k ks ih =>
    rw [pollCtxs]
    apply ih
    rw [State.noteUpDone_mem]
    exact State.rootResult_wf _ _ _ ((settleUp_mem ..).symm ▸ h)

@[simp] theorem pollRounds_wf (j n : Nat) (s : State) (h : s.mem.wf) : (pollRounds j n s).mem.wf := by
  induction n generalizing s with
  | zero => exact h
  | succ n ih => exact ih _ (pollCtxs_wf _ _ _ h)

@[simp] theorem State.collPoll_wf (s : State) (j : Nat) (h : s.mem.wf) : (s.collPoll j).mem.wf := pollRounds_wf _ _ _ h

@[simp] theorem State.pollSlot_wf (s : State) (j : Nat) (h : s.mem.wf) : (s.pollSlot j).mem.wf :=
  voteCheck_wf _ _ _ (State.collPoll_wf _ _ h)

@[simp] theorem State.startOp_wf (s : State) (j : Nat) (d : CollDesc) (h1 : s.mem.wf) :
    (s.startOp j d).mem.wf := by
  unfold State.startOp
  exact State.pollSlot_wf _ _ (replayRaw_wf _ _ _ _ _ (ite_wf (rootSends_wf _ _ _ _ _ _ (wf_of_mem (State.sendDown_mem ..)
    (wf_of_mem (State.setCtx_mem ..) (wf_of_mem (State.modCs_mem ..) (wf_of_mem (State.setCtx_mem ..) h1))))) (ite_wf
    (gatherSends_wf _ _ _ _ _ _ _ _ (wf_of_mem (State.modCs_mem ..) (wf_of_mem (State.setCtx_mem ..) h1))) (ite_wf (wf_of_mem
    (State.pollHora_mem ..) (wf_of_mem (State.modCs_mem ..) (wf_of_mem (State.setCtx_mem ..) h1))) (wf_of_mem (State.modCs_mem
    ..) (wf_of_mem (State.setCtx_mem ..) h1))))))

@[simp] theorem State.beginColl_wf (s : State) (core : Option Nat) (d : CollDesc) (h : s.mem.wf) : (s.beginColl core d).mem.wf :=
  by
  unfold State.beginColl
  extract_lets j k
  split
  · exact State.collStatus_wf _ _ _ h
  · exact ite_wf h (State.startOp_wf _ _ _ h)

@[simp] theorem State.takeDesc_wf (s : State) (lead who : Nat) (core : Option Nat) (d : CollDesc) (h : s.mem.wf) :
    (s.takeDesc lead who core d).mem.wf := by
  have refused (t : State) (hard : Bool) (ht : t.mem.wf) : (t.collRefuse lead who d hard).mem.wf := State.collRefuse_wf _ _ _ _ _
    ht
  have cleared : (s.modCs d.slot fun x => { x with
      refusals := x.refusals.filter (· != (lead, d.step * 65536 + d.bucket)) }).mem.wf := h
  unfold State.takeDesc
  iterate 4 refine ite_wf (refused _ _ h) ?_
  refine ite_wf (ite_wf (refused _ _ cleared) (ite_wf (refused _ _ cleared) (State.startReel_wf _ _ _ _ cleared))) ?_
  exact ite_wf (refused _ _ cleared) (ite_wf (refused _ _ cleared) (State.beginColl_wf _ _ _ cleared))

@[simp] theorem startWaits_wf (j n : Nat) (s : State) (h : s.mem.wf) : (startWaits j n s).mem.wf := by
  induction n generalizing s with
  | zero => exact h
  | succ n ih =>
    rw [startWaits]
    split
    · exact h
    · exact ite_wf h (ih _ (State.beginColl_wf _ _ _ h))

@[simp] theorem State.settle_wf (s : State) (j : Nat) (h : s.mem.wf) : (s.settle j).mem.wf :=
  startWaits_wf _ _ _ (State.pollSlot_wf _ _ h)

@[simp] theorem State.detachSlot_wf (s : State) (j : Nat) (torn : Bool) (h : s.mem.wf) : (s.detachSlot j torn).mem.wf := by
  unfold State.detachSlot
  rw [State.modCs_mem]
  have ended := foldl_wf (s.cs j).reels
    (foldl_wf (s.cs j).ctxs h fun t c ht => detachCtx_wf j torn c.2 t ht) fun t r ht => detachReel_wf j torn r.2 t ht
  exact ite_wf (foldl_wf _ ended fun t w ht => State.collTorn_wf _ _ _ ht) ended

@[simp] theorem State.detachColl_wf (s : State) (lead : Nat) (torn : Bool) (only : Nat → Bool) (h : s.mem.wf) :
    (s.detachColl lead torn only).mem.wf :=
  foldl_wf _ h fun t j ht => ite_wf (State.detachSlot_wf t j torn ht) ht

@[simp] theorem State.releaseSlot_wf (s : State) (j : Nat) (h : s.mem.wf) : (s.releaseSlot j).mem.wf := by
  unfold State.releaseSlot
  rw [State.modCs_mem]
  exact foldl_wf _ (endReels_wf _ _ _ (endAll_wf _ _ _ _ h)) fun t w ht => State.collStatus_wf _ _ _ ht

@[simp] theorem State.excludeSpan_wf (s : State) (j k v : Nat) (h : s.mem.wf) : (s.excludeSpan j k v).mem.wf := by
  unfold State.excludeSpan
  split
  · exact h
  · refine State.excludeOwn_wf _ _ _ (foldl_wf _ h fun t l ht => ?_)
    split
    · exact ht
    · simpa only [State.consume_mem, State.count_mem, State.collInject_mem] using ht

@[simp] theorem flushSegs_wf (j k : Nat) (l : SMap (Nat × List Byte × Nat)) (s : State) (h : s.mem.wf) :
    (flushSegs j k l s).mem.wf := by
  induction l generalizing s with
  | nil => exact h
  | cons x l ih =>
    rw [flushSegs.eq_def]
    dsimp only
    split
    · exact h
    · exact ih _ (by simp only [Mem.wf, ite_wf, State.consumeOn_mem, State.setCtx_mem, State.collPut_wf, h])

@[simp] theorem flushCtxs_wf (j : Nat) (l : List (Nat × CollCtx)) (s : State) (h : s.mem.wf) : (flushCtxs j l s).mem.wf := by
  induction l generalizing s with
  | nil => exact h
  | cons x l ih => exact ih _ (flushSegs_wf _ _ _ _ h)

@[simp] theorem State.fromAbove_wf (s : State) (j : Nat) (p : Packet) (h : s.mem.wf) : (s.fromAbove j p).mem.wf := by
  unfold State.fromAbove
  split
  · exact State.reelData_wf _ _ _ _ h
  · split
    · exact (State.lateDrop_mem ..).symm ▸ h
    · split
      · exact (State.collDrop_mem ..).symm ▸ h
      · refine State.settle_wf _ _ ?_
        split
        · exact State.takeSegment_wf _ _ _ _ _ _ h
        · exact State.passSegment_wf _ _ _ _ h

@[simp] theorem State.fromChild_wf (s : State) (j : Nat) (p : Packet) (f : Child → Child) (h : s.mem.wf) :
    (s.fromChild j p f).mem.wf := by
  have dropped : s.collDrop.mem.wf := (State.collDrop_mem ..).symm ▸ h
  have late : (s.lateDrop j p).mem.wf := (State.lateDrop_mem ..).symm ▸ h
  unfold State.fromChild
  refine ite_wf late (ite_wf dropped ?_)
  extract_lets c isOther
  split
  · exact dropped
  · exact ite_wf dropped (ite_wf late (State.settle_wf _ _ h))

@[simp] theorem State.startColl_wf (s : State) (by_ : CollBy) (addr op : Nat) (h : s.mem.wf) :
    (s.startColl by_ addr op).mem.wf := by
  unfold State.startColl
  extract_lets d
  refine ite_wf h ?_
  cases by_ with
  | program c => exact ite_wf h (ite_wf ((State.opFail_mem ..).symm ▸ h) (State.takeDesc_wf _ _ _ _ _ h))
  | driver v =>
    exact State.objWrite_wf _ _ _ _ _ h (WR.wf_ite ((WR.wf_ok _).2 (State.takeDesc_wf _ _ _ _ _ h)) (WR.wf_error _))

/-! ## Resets, contexts and power -/

@[simp] theorem State.cancelBist_wf (s : State) (p : Nat) (h1 : s.mem.wf) :
    (s.cancelBist p).mem.wf := by
  unfold State.cancelBist
  split
  · exact h1
  · exact ite_wf (ite_wf (State.freeMem_wf (State.zeroMem_wf (State.zeroMem_wf (wf_of_mem (State.wrN_mem ..) (wf_of_mem
      (State.modHang_mem ..) h1)) _ _) _ _) _ _) (State.zeroMem_wf (State.zeroMem_wf (wf_of_mem (State.wrN_mem ..) (wf_of_mem
      (State.modHang_mem ..) h1)) _ _) _ _)) (wf_of_mem (State.wrN_mem ..) (wf_of_mem (State.modHang_mem ..) h1))

@[simp] theorem haltMember_wf (q : Nat) (s : State) (h : s.mem.wf) : (haltMember q s).mem.wf := by
  simp only [haltMember, State.pWr_mem, State.dropTables_mem, State.tangoPartReset_mem, Mem.wf, State.cancelBist_wf, h]

@[simp] theorem State.startReset_wf (s : State) (p : Nat) (sample : Bool) (entry : HangEntry) (h1 : s.mem.wf) :
    (s.startReset p sample entry).mem.wf := by
  unfold State.startReset
  exact ite_wf h1 (ite_wf (ite_wf (wf_of_mem (State.modHang_mem ..) h1) h1) (wf_of_mem (State.pumpQuiet_mem ..) (wf_of_mem
    (State.modHang_mem ..) (foldl_wf _ (State.detachColl_wf _ _ _ _ (foldl_wf _ h1 fun _ _ fh => wf_of_mem
    (State.setPartReady_mem ..) (wf_of_mem (State.pWr_mem ..) (wf_of_mem (State.count32Sat_mem ..) (wf_of_mem (State.hangLog_mem
    ..) fh))))) fun _ _ fh => haltMember_wf _ _ fh))))

@[simp] theorem State.takeSample_wf (s : State) (p : Nat) (h : s.mem.wf) : (s.takeSample p).mem.wf := by
  unfold State.takeSample
  extract_lets a before t mem
  refine ite_wf h ?_
  refine List.foldlRecOn (motive := fun m : Mem => m.wf) _ _ (State.freeMem_wf h _ _) fun m hm l _ => ?_
  exact Mem.put_wf _ _ _ _ hm

@[simp] theorem enterPhase_wf (phase q : Nat) (s : State) (h : s.mem.wf) : (enterPhase phase q s).mem.wf := by
  unfold enterPhase
  rw [State.pWr_mem]
  split
  · exact State.takeSample_wf _ _ h
  · exact (State.partAwake_mem ..).symm ▸ h
  · rw [State.dropPartObjs_mem]
    exact State.clearTables_wf _ _ _ h
  · exact h

@[simp] theorem State.resetPhase_wf (s : State) (lead : Nat) (h : s.mem.wf) : (s.resetPhase lead).mem.wf := by
  unfold State.resetPhase
  split
  · exact h
  · exact ite_wf (foldl_wf _ h fun t q ht => enterPhase_wf _ _ _ ht) h

@[simp] theorem State.resetPhases_wf (s : State) (h : s.mem.wf) : s.resetPhases.mem.wf :=
  foldl_wf _ h fun t kv ht => State.resetPhase_wf t kv.1 ht

@[simp] theorem State.sampleDead_wf (s : State) (p : Nat) (dead : List (LocalCore × Fin 64)) (h : s.mem.wf) :
    (s.sampleDead p dead).mem.wf := by
  unfold State.sampleDead
  refine ite_wf h ?_
  exact List.foldlRecOn (motive := fun m : Mem => m.wf) _ _ h fun m hm d _ => zeroBank_wf _ _ _ _ _ _ hm

@[simp] theorem State.restoreCore_wf (s : State) (x : Ctx) (kept : List (Nat × SavedCore)) (c : Nat) (h1 : s.mem.wf) :
    (s.restoreCore x kept c).mem.wf := by
  unfold State.restoreCore
  split
  · split
    · exact wf_of_mem (State.modCore_mem ..) (Mem.put_wf _ _ _ _ (Mem.put_wf _ _ _ _ (ite_wf (State.freeMem_wf (ite_wf
        (State.freeMem_wf h1 _ _) h1) _ _) (ite_wf (State.freeMem_wf h1 _ _) h1))))
    · exact wf_of_mem (State.modCore_mem ..) (State.zeroMem_wf (State.zeroMem_wf (ite_wf (State.freeMem_wf (ite_wf
        (State.freeMem_wf h1 _ _) h1) _ _) (ite_wf (State.freeMem_wf h1 _ _) h1)) _ _) _ _)

@[simp] theorem State.endTeardown_wf (s : State) (k : Nat) (timedOut : Bool) (h1 : s.mem.wf) :
    (s.endTeardown k timedOut).mem.wf := by
  unfold State.endTeardown
  exact ite_wf (wf_of_mem (State.count32Sat_mem ..) (wf_of_mem (State.setCtxE_mem ..) (foldl_wf _ h1 fun _ _ fh => wf_of_mem
    (State.modCore_mem ..) (State.zeroMem_wf (State.zeroMem_wf fh _ _) _ _)))) (wf_of_mem (State.setCtxE_mem ..) (foldl_wf _ h1
    fun _ _ fh => wf_of_mem (State.modCore_mem ..) (State.zeroMem_wf (State.zeroMem_wf fh _ _) _ _)))

@[simp] theorem State.teardown_wf (s : State) (k : Nat) (h : s.mem.wf) : (s.teardown k).mem.wf := by
  unfold State.teardown
  extract_lets x p begun stopped disarmed freed idled unsaved retired loaders detached peers counted
  refine ite_wf h ?_
  rw [sendQuiet_mem, State.modCtxE_mem]
  have stopped_wf : stopped.mem.wf := foldl_wf _ h fun t l ht =>
    State.tryFinish_wf _ _ ((State.endLaunch_mem ..).symm ▸ ht)
  have disarmed_wf : disarmed.mem.wf := foldl_wf _ stopped_wf fun t n ht => State.slotEnd_wf _ _ _ _ _ ht
  have freed_wf : freed.mem.wf := ite_wf (State.freeMem_wf disarmed_wf _ _) disarmed_wf
  have idled_wf : idled.mem.wf := ite_wf (foldl_wf _ freed_wf fun t c ht => ht) freed_wf
  have loaders_wf : loaders.mem.wf := foldl_wf _ ((State.dmaRetire_mem ..).symm ▸ idled_wf : retired.mem.wf) fun t q ht =>
    (State.loaderTeardown_mem ..).symm ▸ ht
  exact ite_wf loaders_wf (State.detachColl_wf _ _ _ _ loaders_wf)

@[simp] theorem State.loseBanks_wf (s : State) (c : Nat) (h : s.mem.wf) : (s.loseBanks c).mem.wf :=
  State.zeroMem_wf (foldl_wf _ h fun t b ht => ite_wf ht (State.zeroMem_wf ht _ _)) _ _

@[simp] theorem State.losePart_wf (s : State) (p : Nat) (h : s.mem.wf) : (s.losePart p).mem.wf :=
  foldl_wf _ h fun t l ht => State.loseBanks_wf t (16 * p + l) ht

theorem loadSaved_wf (l : List (Nat × Word)) (t : State) (h : t.mem = Mem.empty) : (loadSaved l t).mem.wf := by
  rw [loadSaved_mem, h]
  exact Mem.empty_wf

@[simp] theorem State.deviceReset_wf (s : State) : s.deviceReset.mem.wf := by
  unfold State.deviceReset
  extract_lets m committing m' t
  have fresh : t.mem = Mem.empty := rfl
  clear_value t
  exact loadSaved_wf _ _ fresh

/-! ## Tango -/

/-- One byte of a bank, where it has an address. -/
theorem bankByte_wf (s : State) (b t : Nat) (x : Byte × Nat) (h : s.mem.wf) :
    (match s.reserveAddr 0 16 (s.bankOff b (t + x.2)) with
      | some a => s.writeBytes a [x.1]
      | none => s).mem.wf := by
  generalize s.reserveAddr 0 16 _ = o
  cases o with
  | none => exact h
  | some a => exact State.writeBytes_wf h _ _

@[simp] theorem State.bankWrite_wf (s : State) (b t : Nat) (bs : List Byte) (h : s.mem.wf) : (s.bankWrite b t bs).mem.wf := by
  unfold State.bankWrite
  generalize bs.zipIdx = l
  induction l generalizing s with
  | nil => exact h
  | cons x l ih =>
    rw [List.foldl_cons]
    exact ih _ (bankByte_wf s b t x h)

@[simp] theorem State.takeTangoData_wf (s : State) (pkt : Packet) (h : s.mem.wf) : (s.takeTangoData pkt).mem.wf := by
  unfold State.takeTangoData
  extract_lets n
  split
  · exact ite_wf (by simp only [sendAcks_mem, State.modTango_mem, Mem.wf, State.bankWrite_wf, h])
      ((State.count_mem ..).symm ▸ h)
  · exact (State.count_mem ..).symm ▸ h

/-! ## The management bus -/

@[simp] theorem State.answerWriteSeg_wf (s : State) (r : CanRequest) (h : s.mem.wf) : (s.answerWriteSeg r).mem.wf := by
  have outcome := State.segOutcome_wf s r h
  unfold State.answerWriteSeg
  split
  next e => exact (State.respond_mem ..).symm ▸ outcome _ e
  · exact (State.respond_mem ..).symm ▸ h

@[simp] theorem bistControlW_wf (s : State) (p : Nat) (v : Word) (h1 : s.mem.wf) :
    (bistControlW s p v).Wf := by
  unfold bistControlW
  exact ctlActs_wf _ _ _ _ h1 (List.forall_mem_cons.2 ⟨fun t h => guardW_wf ((WR.wf_ok _).2 (wf_of_mem (State.bistStart_mem ..)
    h)), List.forall_mem_cons.2 ⟨fun t h => (WR.wf_ok _).2 (wf_of_mem (State.bistFlag_mem ..) (State.cancelBist_wf _ _ h)),
    List.forall_mem_nil _⟩⟩)

@[simp] theorem partResetW_wf (s : State) (p : Nat) (v : Word) (h1 : s.mem.wf) :
    (partResetW s p v).Wf := by
  unfold partResetW
  exact WR.wf_ite ((WR.wf_ok _).2 h1) (guardW_wf ((WR.wf_ok _).2 (State.startReset_wf _ _ _ _ h1)))

@[simp] theorem loadControlW_wf (s : State) (p : Nat) (v : Word) (h1 : s.mem.wf) :
    (loadControlW s p v).Wf := by
  unfold loadControlW
  exact ctlActs_wf _ _ _ _ h1 (List.forall_mem_cons.2 ⟨fun t h => loadStartW_wf _ _ _ h, List.forall_mem_cons.2 ⟨fun t h =>
    loadCommitW_wf _ _ h, List.forall_mem_cons.2 ⟨fun t h => loadCancelW_wf _ _ h, List.forall_mem_cons.2 ⟨fun t h =>
    loadRetryW_wf _ _ _ h, List.forall_mem_nil _⟩⟩⟩⟩)

@[simp] theorem partHighW_wf (s : State) (via : Via) (p : Nat) (o : ObjSpec) (sub : Nat) (v : Word) (h1 : s.mem.wf) :
    (partHighW s via p o sub v).Wf := by
  unfold partHighW
  split
  · exact clearW_wf _ _ _ h1 (foldl_wf _ h1 fun _ _ fh => wf_of_mem (State.modCore_mem ..) fh)
  · exact idleCoreSelectW_wf _ _ _ h1
  · exact retainMaskW_wf _ _ _ _ h1
  · exact tangoReserveW_wf _ _ _ _ h1
  · exact clearW_wf _ _ _ h1 (wf_of_mem (State.clearObjs_mem ..) h1)
  · exact clearW_wf _ _ _ h1 (wf_of_mem (State.clearObjs_mem ..) h1)
  · exact groupLeadW_wf _ _ _ _ h1
  · exact clearW_wf _ _ _ h1 (wf_of_mem (State.clearObjs_mem ..) h1)
  · exact versionBaseW_wf _ _ _ _ h1
  · exact versionBaseW_wf _ _ _ _ h1
  · exact versionSizeW_wf _ _ _ h1
  · exact versionControlW_wf _ _ _ h1
  · exact storeIf_wf _ _ _ _ _ _ h1
  · exact loadControlW_wf _ _ _ h1
  · exact storeIf_wf _ _ _ _ _ _ h1
  · exact serveEnableW_wf _ _ _ h1
  · exact acornW_wf _ _ _ h1
  · exact clearW_wf _ _ _ h1 (wf_of_mem (State.clearObjs_mem ..) h1)
  · exact partResetW_wf _ _ _ h1
  · exact storeIf_wf _ _ _ _ _ _ h1
  · exact storeIf_wf _ _ _ _ _ _ h1
  · exact storeIf_wf _ _ _ _ _ _ h1
  · exact bistControlW_wf _ _ _ h1
  · exact storeW_wf _ _ _ _ _ h1

@[simp] theorem calControlW_wf (s : State) (via : Via) (v : Word) (signatureOk : Bool) (h1 : s.mem.wf) :
    (calControlW s via v signatureOk).Wf := by
  unfold calControlW
  exact WR.wf_ite (WR.wf_error _) (WR.wf_ite (ctlActs_wf _ _ _ _ h1 (List.forall_mem_cons.2 ⟨fun t h => calUnlockW_wf _ _ h,
    List.forall_mem_cons.2 ⟨fun t h => calCommitW_wf _ _ h, List.forall_mem_cons.2 ⟨fun t h => calLockW_wf _ h,
    List.forall_mem_nil _⟩⟩⟩)) ((WR.wf_ok _).2 (ite_wf (wf_of_mem (State.modMgmt_mem ..) h1) h1)))

@[simp] theorem calW_wf (s : State) (via : Via) (v : Word) (h1 : s.mem.wf) :
    (calW s via v).Wf := by
  unfold calW
  exact calControlW_wf _ _ _ _ h1

@[simp] theorem State.chipReset_wf (s : State) (cause : Nat) (e : HangEntry) (h1 : s.mem.wf) :
    (s.chipReset cause e).mem.wf := by
  unfold State.chipReset
  exact ite_wf h1 (ite_wf (wf_of_mem (State.wrN_mem ..) (wf_of_mem (State.wrN_mem ..) (wf_of_mem (State.count32Sat_mem ..)
    (wf_of_mem (State.wrN_mem ..) (ite_wf (State.deviceReset_wf ..) (State.deviceReset_wf ..)))))) (wf_of_mem
    (State.setReadiness_mem ..) (wf_of_mem (State.wrN_mem ..) (wf_of_mem (State.wrN_mem ..) (wf_of_mem (State.count32Sat_mem ..)
    (wf_of_mem (State.wrN_mem ..) (ite_wf (State.deviceReset_wf ..) (State.deviceReset_wf ..))))))))

@[simp] theorem resetControlW_wf (s : State) (via : Via) (v : Word) (h1 : s.mem.wf) :
    (resetControlW s via v).Wf := by
  unfold resetControlW
  exact WR.wf_ite (WR.wf_error _) (WR.wf_ite (WR.wf_error _) (ctlActs_wf _ _ _ _ h1 (List.forall_mem_cons.2 ⟨fun t h => (WR.wf_ok
    _).2 (State.chipReset_wf _ _ _ h), List.forall_mem_cons.2 ⟨fun t h => (WR.wf_ok _).2 (wf_of_mem (State.cycleRequest_mem ..)
    (wf_of_mem (State.hangLog_mem ..) h)), List.forall_mem_cons.2 ⟨fun t h => (WR.wf_ok _).2 (wf_of_mem (State.cycleRequest_mem
    ..) h), List.forall_mem_nil _⟩⟩⟩)))

@[simp] theorem hangW_wf (s : State) (via : Via) (o : ObjSpec) (sub : Nat) (v : Word) (h1 : s.mem.wf) :
    (hangW s via o sub v).Wf := by
  unfold hangW
  split
  · exact resetControlW_wf _ _ _ h1
  · exact guardW_wf (storeW_wf _ _ _ _ _ h1)
  · exact guardW_wf (storeW_wf _ _ _ _ _ h1)
  · exact storeW_wf _ _ _ _ _ h1

@[simp] theorem tangoControlW_wf (s : State) (v : Word) (h1 : s.mem.wf) :
    (tangoControlW s v).Wf := by
  unfold tangoControlW
  exact ctlActs_wf _ _ _ _ h1 (List.forall_mem_cons.2 ⟨fun t h => tangoStartW_wf _ h, List.forall_mem_cons.2 ⟨fun t h =>
    tangoStopW_wf _ h, List.forall_mem_cons.2 ⟨fun t h => tangoPauseW_wf _ h, List.forall_mem_cons.2 ⟨fun t h => tangoUnpairW_wf
    _ h, List.forall_mem_cons.2 ⟨fun t h => tangoFreezeW_wf _ h, List.forall_mem_cons.2 ⟨fun t h => tangoUnfreezeW_wf _ h,
    List.forall_mem_cons.2 ⟨fun t h => rollbackW_wf _ h, List.forall_mem_cons.2 ⟨fun t h => tangoRestoreW_wf _ _ h,
    List.forall_mem_cons.2 ⟨fun t h => restoreAbortW_wf _ h, List.forall_mem_nil _⟩⟩⟩⟩⟩⟩⟩⟩⟩)

@[simp] theorem tangoW_wf (s : State) (o : ObjSpec) (sub : Nat) (v : Word) (h1 : s.mem.wf) :
    (tangoW s o sub v).Wf := by
  unfold tangoW
  split
  · exact tangoRoleW_wf _ _ h1
  · exact tangoControlW_wf _ _ h1
  · exact tangoBanksW_wf _ _ h1
  · exact listEntryW_wf _ _ h1
  · exact releaseTagW_wf _ _ h1
  · exact storeIf_wf _ _ _ _ _ _ h1
  · exact storeW_wf _ _ _ _ _ h1

@[simp] theorem slotStartW_wf (s : State) (j : Nat) (v : Word) (h1 : s.mem.wf) :
    (slotStartW s j v).Wf := by
  unfold slotStartW
  exact WR.wf_ite ((WR.wf_ok _).2 (State.takeDesc_wf _ _ _ _ _ h1)) (WR.wf_error _)

@[simp] theorem slotReleaseW_wf (s : State) (j : Nat) (h1 : s.mem.wf) :
    (slotReleaseW s j).Wf := by
  unfold slotReleaseW
  exact WR.wf_ite (WR.wf_error _) ((WR.wf_ok _).2 (wf_of_mem (State.wrN_mem ..) (State.releaseSlot_wf _ _ h1)))

@[simp] theorem slotControlW_wf (s : State) (j : Nat) (v : Word) (h1 : s.mem.wf) :
    (slotControlW s j v).Wf := by
  unfold slotControlW
  exact ctlActs_wf _ _ _ _ h1 (List.forall_mem_cons.2 ⟨fun t h => slotEnableW_wf _ _ h, List.forall_mem_cons.2 ⟨fun t h =>
    slotReleaseW_wf _ _ h, List.forall_mem_nil _⟩⟩)

@[simp] theorem jobSlotW_wf (s : State) (via : Via) (j : Nat) (o : ObjSpec) (sub : Nat) (v : Word) (h1 : s.mem.wf) :
    (jobSlotW s via j o sub v).Wf := by
  unfold jobSlotW
  refine WR.wf_ite (WR.wf_error _) ?_
  split
  · exact clearW_wf _ _ _ h1 (wf_of_mem (State.clearObjs_mem ..) h1)
  · exact jobIdW_wf _ _ _ _ h1
  · exact guardW_wf (storeW_wf _ _ _ _ _ h1)
  · exact slotControlW_wf _ _ _ h1
  · exact modeW_wf _ _ _ h1
  · exact storeIf_wf _ _ _ _ _ _ h1
  · exact storeIf_wf _ _ _ _ _ _ h1
  · exact storeIf_wf _ _ _ _ _ _ h1
  · exact storeIf_wf _ _ _ _ _ _ h1
  · exact dlBeatW_wf _ _ _ h1
  · exact storeIf_wf _ _ _ _ _ _ h1
  · exact slotStartW_wf _ _ _ h1
  · exact storeW_wf _ _ _ _ _ h1

@[simp] theorem portControlW_wf (s : State) (n : Nat) (v : Word) (h1 : s.mem.wf) :
    (portControlW s n v).Wf := by
  unfold portControlW
  exact ctlActs_wf _ _ _ _ h1 (List.forall_mem_cons.2 ⟨fun t h => retrainW_wf _ _ h, List.forall_mem_cons.2 ⟨fun t h => recalW_wf
    _ _ _ h, List.forall_mem_cons.2 ⟨fun t h => disableW_wf _ _ h, List.forall_mem_nil _⟩⟩⟩)

@[simp] theorem portW_wf (s : State) (n : Nat) (o : ObjSpec) (sub : Nat) (v : Word) (h1 : s.mem.wf) :
    (portW s n o sub v).Wf := by
  unfold portW
  split
  · exact roleW_wf _ _ _ h1
  · exact portControlW_wf _ _ _ h1
  · exact guardW_wf (storeW_wf _ _ _ _ _ h1)
  · exact clearW_wf _ _ _ h1 (wf_of_mem (State.clearPort_mem ..) h1)
  · exact storeW_wf _ _ _ _ _ h1

@[simp] theorem devicePowerW_wf (s : State) (via : Via) (v : Word) (estimate : Nat) (h1 : s.mem.wf) :
    (devicePowerW s via v estimate).Wf := by
  unfold devicePowerW
  refine WR.wf_ite (WR.wf_error _) ?_
  split
  · exact WR.wf_ite ((WR.wf_ok _).2 h1) (WR.wf_ite (WR.wf_error _) (WR.wf_ite ((WR.wf_ok _).2 (State.chipReset_wf _ _ _ h1))
      ((WR.wf_ok _).2 (wf_of_mem (State.beginBringup_mem ..) (wf_of_mem (State.wrN_mem ..) (State.leaveRetention_wf _ h1))))))
  · exact WR.wf_ite (guardW_wf ((WR.wf_ok _).2 (wf_of_mem (State.enterRetention_mem ..) h1))) (WR.wf_ite (WR.wf_error _)
      ((WR.wf_ok _).2 h1))
  · exact WR.wf_error _

@[simp] theorem powerW_wf (s : State) (via : Via) (o : ObjSpec) (sub : Nat) (v : Word) (h1 : s.mem.wf) :
    (powerW s via o sub v).Wf := by
  unfold powerW
  split
  · exact guardW_wf (storeW_wf _ _ _ _ _ h1)
  · exact devicePowerW_wf _ _ _ _ h1
  · exact clearW_wf _ _ _ h1 (wf_of_mem (State.clearObjs_mem ..) h1)
  · exact storeW_wf _ _ _ _ _ h1

@[simp] theorem objEffW_wf (s : State) (via : Via) (o : ObjSpec) (index : Nat) (sub : Nat) (v : Word) (h1 : s.mem.wf) :
    (objEffW s via o index sub v).Wf := by
  unfold objEffW
  exact WR.wf_ite (identW_wf _ _ _ _ _ h1) (WR.wf_ite (congaW_wf _ _ _ _ h1) (WR.wf_ite (powerW_wf _ _ _ _ _ h1) (WR.wf_ite
    (healthW_wf _ _ _ _ h1) (WR.wf_ite (fabricW_wf _ _ _ _ h1) (WR.wf_ite (portW_wf _ _ _ _ _ h1) (WR.wf_ite (WR.wf_ite
    (clearW_wf _ _ _ h1 (wf_of_mem (State.clearObjs_mem ..) h1)) (storeW_wf _ _ _ _ _ h1)) (WR.wf_ite (jobSlotW_wf _ _ _ _ _ _
    h1) (WR.wf_ite (tangoW_wf _ _ _ _ h1) (WR.wf_ite (WR.wf_ite (clearW_wf _ _ _ h1 (wf_of_mem (State.clearEccLog_mem ..) h1))
    (storeW_wf _ _ _ _ _ h1)) (WR.wf_ite (securityW_wf _ _ _ _ _ h1) (WR.wf_ite (hangW_wf _ _ _ _ _ h1) (WR.wf_ite (calW_wf _ _ _
    h1) (WR.wf_ite (WR.wf_ite (partLowW_wf _ _ _ _ _ _ h1) (partHighW_wf _ _ _ _ _ _ h1)) (storeW_wf _ _ _ _ _ h1))))))))))))))

@[simp] theorem objW_wf (s : State) (via : Via) (index : Nat) (sub : Nat) (v : Word) (h1 : s.mem.wf) :
    (objW s via index sub v).Wf := by
  unfold objW
  split
  · exact WR.wf_error _
  · exact WR.wf_ite (WR.wf_error _) (WR.wf_ite (WR.wf_error _) (WR.wf_ite (WR.wf_error _) (objEffW_wf _ _ _ _ _ _ h1)))

@[simp] theorem State.writeOutcome_wf (s : State) (r : CanRequest) (h1 : s.mem.wf) :
    (s.writeOutcome r).Wf := by
  unfold State.writeOutcome
  dsimp only
  split
  · exact WR.wf_error _
  · exact WR.wf_ite (WR.wf_error _) (WR.wf_ite (WR.wf_error _) (WR.wf_ite (WR.wf_error _) (WR.wf_ite (WR.wf_error _) (objW_wf _ _
      _ _ _ h1))))

@[simp] theorem State.answerWrite_wf (s : State) (r : CanRequest) (h1 : s.mem.wf) :
    (s.answerWrite r).mem.wf := by
  unfold State.answerWrite
  split
  · exact ite_wf ((State.writeOutcome_wf _ _ h1) _ ‹_›) (wf_of_mem (State.respond_mem ..) ((State.writeOutcome_wf _ _ h1) _ ‹_›))
  · exact ite_wf (wf_of_mem (State.noteBroadcast_mem ..) h1) (wf_of_mem (State.respond_mem ..) h1)

@[simp] theorem State.answer_wf (s : State) (r : CanRequest) (h1 : s.mem.wf) :
    (s.answer r).mem.wf := by
  unfold State.answer
  split
  · exact wf_of_mem (State.answerRead_mem ..) h1
  · exact State.answerWrite_wf _ _ h1
  · exact wf_of_mem (State.answerReadSeg_mem ..) h1
  · exact State.answerWriteSeg_wf _ _ h1
  · exact wf_of_mem (State.respond_mem ..) h1

@[simp] theorem State.dmaControlW_wf (s : State) (fn : Nat) (k : Nat) (v : Word) (h1 : s.mem.wf) :
    (s.dmaControlW fn k v).Wf := by
  unfold State.dmaControlW
  exact WR.wf_bind (guardW_wf ((WR.wf_ok _).2 (wf_of_mem (State.setChan_mem ..) h1))) fun u hu => WR.wf_bind (ctlAct_wf _ _ _ _
    (fun t h => dmaArmW_wf _ _ _ h) hu) fun u1 hu1 => WR.wf_bind (ctlAct_wf _ _ _ _ (fun t h => State.dmaStopW_wf _ _ h) hu1) fun
    u2 hu2 => WR.wf_bind (ctlAct_wf _ _ _ _ (fun t h => (WR.wf_ok _).2 (wf_of_mem (State.dmaIssueFence_mem ..) h)) hu2) fun u3
    hu3 => WR.wf_bind (ctlAct_wf _ _ _ _ (fun t h => State.dmaResumeW_wf _ _ h) hu3) fun u4 hu4 => ctlAct_wf _ _ _ _ (fun t h =>
    State.dmaClearW_wf _ _ h) hu4

@[simp] theorem State.drainRun_wf (s : State) (c : Core) (e : Eng) (op : Drain) (bk : Bank) (t : TotFmt) (w : Nat) (h1 : s.mem.wf) :
    (s.drainRun c e op bk t w).mem.wf := by
  unfold State.drainRun
  refine wf_of_mem (State.emptyBank_mem ..) ?_
  split
  · exact ite_wf (copyDst_wf _ _ _ _ (wf_of_mem (State.waits_mem ..) (wf_of_mem (State.waits_mem ..) (wf_of_mem
      (State.raiseFlags_mem ..) h1)))) (storeDst_wf _ _ _ _ (wf_of_mem (State.waits_mem ..) (wf_of_mem (State.waits_mem ..)
      (wf_of_mem (State.raiseFlags_mem ..) h1))))
  · exact wf_of_mem (State.waits_mem ..) (wf_of_mem (State.raiseFlags_mem ..) (wf_of_mem (State.countClass_mem ..) (addEntries_wf
      _ _ _ _ _ _ (ite_wf (wf_of_mem (State.waits_mem ..) (wf_of_mem (State.waits_mem ..) (wf_of_mem (State.raiseFlags_mem ..)
      h1))) (wf_of_mem (State.openRegion_mem ..) (wf_of_mem (State.waits_mem ..) (wf_of_mem (State.waits_mem ..) (wf_of_mem
      (State.raiseFlags_mem ..) h1))))))))
  · exact wf_of_mem (State.raiseFlags_mem ..) (wf_of_mem (State.modCore_mem ..) (wf_of_mem (State.waits_mem ..) (wf_of_mem
      (State.waits_mem ..) (wf_of_mem (State.raiseFlags_mem ..) h1))))

@[simp] theorem State.flushHeld_wf (s : State) (j : Nat) (h1 : s.mem.wf) :
    (s.flushHeld j).mem.wf := by
  unfold State.flushHeld
  exact flushReels_wf _ _ _ (flushCtxs_wf _ _ _ h1)

@[simp] theorem State.normBackRun_wf (s : State) (c : Core) (op : NormBwd) (vx : VOpen) (vd : VOpen) (vg : VOpen) (h1 : s.mem.wf) :
    (s.normBackRun c op vx vd vg).mem.wf := by
  unfold State.normBackRun
  refine storeV_wf _ _ _ _ (wf_of_mem (State.raiseFlags_mem ..) ?_)
  split
  · split
    · split
      · exact h1
      · exact h1
      · split
        · exact wf_of_snd ‹_› (wf_of_mem (loadConvert_mem ..) h1)
    · split
      · exact h1
      · exact h1
      · split
        · exact wf_of_snd ‹_› (wf_of_mem (loadConvert_mem ..) h1)
    · split
      · refine wf_of_snd ‹_› (wf_of_mem (loadConvert_mem ..) ?_)
        split
        · exact h1
        · exact h1
        · split
          · exact wf_of_snd ‹_› (wf_of_mem (loadConvert_mem ..) h1)
  · split
    · split
      · exact h1
      · exact h1
      · split
        · exact wf_of_snd ‹_› (wf_of_mem (loadConvert_mem ..) h1)
    · split
      · exact h1
      · exact h1
      · split
        · exact wf_of_snd ‹_› (wf_of_mem (loadConvert_mem ..) h1)
    · split
      · refine wf_of_snd ‹_› (wf_of_mem (loadConvert_mem ..) ?_)
        split
        · exact h1
        · exact h1
        · split
          · exact wf_of_snd ‹_› (wf_of_mem (loadConvert_mem ..) h1)
  · split
    · refine wf_of_snd ‹_› (wf_of_mem (loadConvert_mem ..) ?_)
      split
      · split
        · exact h1
        · exact h1
        · split
          · exact wf_of_snd ‹_› (wf_of_mem (loadConvert_mem ..) h1)
      · split
        · exact h1
        · exact h1
        · split
          · exact wf_of_snd ‹_› (wf_of_mem (loadConvert_mem ..) h1)
      · split
        · refine wf_of_snd ‹_› (wf_of_mem (loadConvert_mem ..) ?_)
          split
          · exact h1
          · exact h1
          · split
            · exact wf_of_snd ‹_› (wf_of_mem (loadConvert_mem ..) h1)

@[simp] theorem State.pairWith_wf (s : State) (n : Nat) (pkt : Packet) (h1 : s.mem.wf) :
    (s.pairWith n pkt).mem.wf := by
  unfold State.pairWith
  split
  · dsimp only
    split
    · exact ite_wf (wf_of_mem (State.toTango_mem ..) (wf_of_mem (State.modTango_mem ..) (wf_of_mem (State.modTango_mem ..)
        (ite_wf (wf_of_mem (State.sendPairWord_mem ..) (wf_of_mem (State.wrN_mem ..) (wf_of_mem (State.wrN_mem ..) (wf_of_mem
        (State.modTango_mem ..) (State.dropMirror_wf _ h1))))) (wf_of_mem (State.wrN_mem ..) (wf_of_mem (State.wrN_mem ..)
        (wf_of_mem (State.modTango_mem ..) (State.dropMirror_wf _ h1)))))))) (wf_of_mem (State.toTango_mem ..) (wf_of_mem
        (State.modTango_mem ..) (ite_wf (wf_of_mem (State.sendPairWord_mem ..) (wf_of_mem (State.wrN_mem ..) (wf_of_mem
        (State.wrN_mem ..) (wf_of_mem (State.modTango_mem ..) (State.dropMirror_wf _ h1))))) (wf_of_mem (State.wrN_mem ..)
        (wf_of_mem (State.wrN_mem ..) (wf_of_mem (State.modTango_mem ..) (State.dropMirror_wf _ h1)))))))
    · exact wf_of_mem (State.toTango_mem ..) (wf_of_mem (State.modTango_mem ..) (ite_wf (wf_of_mem (State.sendPairWord_mem ..)
        (wf_of_mem (State.wrN_mem ..) (wf_of_mem (State.wrN_mem ..) (wf_of_mem (State.modTango_mem ..) (State.dropMirror_wf _
        h1))))) (wf_of_mem (State.wrN_mem ..) (wf_of_mem (State.wrN_mem ..) (wf_of_mem (State.modTango_mem ..)
        (State.dropMirror_wf _ h1))))))
  · dsimp only
    split
    · exact ite_wf (wf_of_mem (State.toTango_mem ..) (wf_of_mem (State.modTango_mem ..) (wf_of_mem (State.modTango_mem ..)
        (ite_wf (wf_of_mem (State.sendPairWord_mem ..) (wf_of_mem (State.wrN_mem ..) (wf_of_mem (State.wrN_mem ..) (wf_of_mem
        (State.modTango_mem ..) (State.dropMirror_wf _ h1))))) (wf_of_mem (State.wrN_mem ..) (wf_of_mem (State.wrN_mem ..)
        (wf_of_mem (State.modTango_mem ..) (State.dropMirror_wf _ h1)))))))) (wf_of_mem (State.toTango_mem ..) (wf_of_mem
        (State.modTango_mem ..) (ite_wf (wf_of_mem (State.sendPairWord_mem ..) (wf_of_mem (State.wrN_mem ..) (wf_of_mem
        (State.wrN_mem ..) (wf_of_mem (State.modTango_mem ..) (State.dropMirror_wf _ h1))))) (wf_of_mem (State.wrN_mem ..)
        (wf_of_mem (State.wrN_mem ..) (wf_of_mem (State.modTango_mem ..) (State.dropMirror_wf _ h1)))))))
    · exact wf_of_mem (State.toTango_mem ..) (wf_of_mem (State.modTango_mem ..) (ite_wf (wf_of_mem (State.sendPairWord_mem ..)
        (wf_of_mem (State.wrN_mem ..) (wf_of_mem (State.wrN_mem ..) (wf_of_mem (State.modTango_mem ..) (State.dropMirror_wf _
        h1))))) (wf_of_mem (State.wrN_mem ..) (wf_of_mem (State.wrN_mem ..) (wf_of_mem (State.modTango_mem ..)
        (State.dropMirror_wf _ h1))))))

@[simp] theorem State.recommend_wf (s : State) (code : Nat) (kind : Nat) (h1 : s.mem.wf) :
    (s.recommend code kind).mem.wf := by
  unfold State.recommend
  exact wf_of_mem (State.healthEvent_mem ..) (wf_of_mem (State.wrN_mem ..) h1)

@[simp] theorem State.reductionRun_wf (s : State) (c : Core) (op : RowRed) (v : VOpen) (h1 : s.mem.wf) :
    (s.reductionRun c op v).mem.wf := by
  unfold State.reductionRun
  split
  · split
    · exact storeDst_wf _ _ _ _ (wf_of_mem (State.raiseFlags_mem ..) (wf_of_snd ‹_› (VOpen.codes_wf _ _ _ _ h1)))
    · exact storeV_wf _ _ _ _ (wf_of_mem (State.raiseFlags_mem ..) (wf_of_snd ‹_› (VOpen.codes_wf _ _ _ _ h1)))

@[simp] theorem State.runBeat_wf (s : State) (h1 : s.mem.wf) :
    s.runBeat.mem.wf := by
  unfold State.runBeat
  exact State.stepRestore_wf _ (ite_wf (State.sendChunk_wf _ (State.resetPhases_wf _ (foldl_wf _ (wf_of_mem
    (State.advanceBeat_mem ..) (wf_of_mem (State.countRest_mem ..) (wf_of_mem (State.watch_mem ..) (wf_of_mem
    (State.countCycles_mem ..) h1)))) fun _ _ fh => ite_wf (wf_of_mem (State.noteCtxs_mem ..) fh) fh))) (State.resetPhases_wf _
    (foldl_wf _ (wf_of_mem (State.advanceBeat_mem ..) (wf_of_mem (State.countRest_mem ..) (wf_of_mem (State.watch_mem ..)
    (wf_of_mem (State.countCycles_mem ..) h1)))) fun _ _ fh => ite_wf (wf_of_mem (State.noteCtxs_mem ..) fh) fh)))

@[simp] theorem State.rung2_wf (s : State) (r : RungSt) (stuck : List Nat) (h1 : s.mem.wf) :
    (s.rung2 r stuck).mem.wf := by
  unfold State.rung2
  exact ite_wf (State.teardown_wf _ _ (State.tryFinish_wf _ _ (wf_of_mem (State.modHang_mem ..) (foldl_wf _ (wf_of_mem
    (State.count32Sat_mem ..) (wf_of_mem (State.hangLog_mem ..) h1)) fun _ _ fh => State.zeroMem_wf (wf_of_mem (State.modCore_mem
    ..) (wf_of_mem (State.leaveTile_mem ..) fh)) _ _)))) (wf_of_mem (State.modHang_mem ..) (wf_of_mem (State.reportRung_mem ..)
    h1))

@[simp] theorem State.rung3_wf (s : State) (e : HangEntry) (h1 : s.mem.wf) :
    (s.rung3 e).mem.wf := by
  unfold State.rung3
  exact ite_wf (State.startReset_wf _ _ _ _ h1) (wf_of_mem (State.reportRung_mem ..) h1)

@[simp] theorem State.rung4_wf (s : State) (cause : Nat) (escalated : Bool) (h1 : s.mem.wf) :
    (s.rung4 cause escalated).mem.wf := by
  unfold State.rung4
  exact ite_wf (wf_of_mem (State.modHang_mem ..) (State.chipReset_wf _ _ _ h1)) (wf_of_mem (State.reportRung_mem ..) h1)

@[simp] theorem State.takePair_wf (s : State) (n : Port) (pkt : Packet) (h1 : s.mem.wf) :
    (s.takePair n pkt).mem.wf := by
  unfold State.takePair
  exact ite_wf h1 (ite_wf (State.pairConflict_wf _ _ (wf_of_mem (State.wrN_mem ..) h1)) (ite_wf (State.pairConflict_wf _ _
    (wf_of_mem (State.wrN_mem ..) h1)) (ite_wf (ite_wf (State.pairWith_wf _ _ _ (wf_of_mem (State.count32Sat_mem ..) (wf_of_mem
    (State.wrN_mem ..) h1))) (State.pairConflict_wf _ _ (wf_of_mem (State.wrN_mem ..) h1))) (ite_wf (State.pairConflict_wf _ _
    (wf_of_mem (State.wrN_mem ..) h1)) (State.pairWith_wf _ _ _ (wf_of_mem (State.wrN_mem ..) h1))))))

@[simp] theorem State.tick_wf (s : State) (h1 : s.mem.wf) :
    s.tick.mem.wf := by
  unfold State.tick
  exact ite_wf h1 (ite_wf (State.runBeat_wf _ h1) h1)

@[simp] theorem State.vectorRun32_wf (s : State) (c : Core) (op : VecOp) (rs : List VRes) (h1 : s.mem.wf) :
    (s.vectorRun32 c op rs).mem.wf := by
  unfold State.vectorRun32
  split
  · exact ite_wf (storeDst_wf _ _ _ _ h1) (storeDst_wf _ _ _ _ (wf_of_mem (State.raiseFlags_mem ..) h1))
  · exact storeV_wf _ _ _ _ (wf_of_mem (State.raiseFlags_mem ..) h1)

@[simp] theorem State.vectorRun64_wf (s : State) (c : Core) (op : VecOp) (ts : List (Word × Word × Word)) (h1 : s.mem.wf) :
    (s.vectorRun64 c op ts).mem.wf := by
  unfold State.vectorRun64
  split
  · exact storeDst_wf _ _ _ _ (wf_of_mem (State.raiseFlags_mem ..) h1)
  · exact storeV64_wf _ _ _ _ (wf_of_mem (State.raiseFlags_mem ..) h1)

@[simp] theorem State.vectorRun_wf (s : State) (c : Core) (op : VecOp) (va : VOpen) (vb : VOpen) (vc : VOpen) (h1 : s.mem.wf) :
    (s.vectorRun c op va vb vc).mem.wf := by
  unfold State.vectorRun
  refine ite_wf (storeV64_wf _ _ _ _ (wf_of_mem (State.setCore_mem ..) h1)) (ite_wf (storeV_wf _ _ _ _ (wf_of_mem
    (State.setCore_mem ..) h1)) (ite_wf (State.vectorRun64_wf _ _ _ _ ?_) (State.vectorRun32_wf _ _ _ _ ?_)))
  · split
    · split
      · split
        · exact h1
        · exact h1
        · exact wf_of_mem (loadConvert_mem ..) h1
      · split
        · exact h1
        · exact h1
        · exact wf_of_mem (loadConvert_mem ..) h1
      · refine wf_of_mem (loadConvert_mem ..) ?_
        split
        · exact h1
        · exact h1
        · exact wf_of_mem (loadConvert_mem ..) h1
    · split
      · split
        · exact h1
        · exact h1
        · exact wf_of_mem (loadConvert_mem ..) h1
      · split
        · exact h1
        · exact h1
        · exact wf_of_mem (loadConvert_mem ..) h1
      · refine wf_of_mem (loadConvert_mem ..) ?_
        split
        · exact h1
        · exact h1
        · exact wf_of_mem (loadConvert_mem ..) h1
    · refine wf_of_mem (loadConvert_mem ..) ?_
      split
      · split
        · exact h1
        · exact h1
        · exact wf_of_mem (loadConvert_mem ..) h1
      · split
        · exact h1
        · exact h1
        · exact wf_of_mem (loadConvert_mem ..) h1
      · refine wf_of_mem (loadConvert_mem ..) ?_
        split
        · exact h1
        · exact h1
        · exact wf_of_mem (loadConvert_mem ..) h1
  · split
    · split
      · split
        · exact h1
        · exact h1
        · split
          · exact wf_of_snd ‹_› (wf_of_mem (loadConvert_mem ..) h1)
      · split
        · exact h1
        · exact h1
        · split
          · exact wf_of_snd ‹_› (wf_of_mem (loadConvert_mem ..) h1)
      · split
        · refine wf_of_snd ‹_› (wf_of_mem (loadConvert_mem ..) ?_)
          split
          · exact h1
          · exact h1
          · split
            · exact wf_of_snd ‹_› (wf_of_mem (loadConvert_mem ..) h1)
    · split
      · split
        · exact h1
        · exact h1
        · split
          · exact wf_of_snd ‹_› (wf_of_mem (loadConvert_mem ..) h1)
      · split
        · exact h1
        · exact h1
        · split
          · exact wf_of_snd ‹_› (wf_of_mem (loadConvert_mem ..) h1)
      · split
        · refine wf_of_snd ‹_› (wf_of_mem (loadConvert_mem ..) ?_)
          split
          · exact h1
          · exact h1
          · split
            · exact wf_of_snd ‹_› (wf_of_mem (loadConvert_mem ..) h1)
    · split
      · refine wf_of_snd ‹_› (wf_of_mem (loadConvert_mem ..) ?_)
        split
        · split
          · exact h1
          · exact h1
          · split
            · exact wf_of_snd ‹_› (wf_of_mem (loadConvert_mem ..) h1)
        · split
          · exact h1
          · exact h1
          · split
            · exact wf_of_snd ‹_› (wf_of_mem (loadConvert_mem ..) h1)
        · split
          · refine wf_of_snd ‹_› (wf_of_mem (loadConvert_mem ..) ?_)
            split
            · exact h1
            · exact h1
            · split
              · exact wf_of_snd ‹_› (wf_of_mem (loadConvert_mem ..) h1)

@[simp] theorem abortPacketEff_wf (p : Packet) (s : State) (h1 : s.mem.wf) :
    (abortPacketEff p s).mem.wf := by
  unfold abortPacketEff
  exact State.withCtl_wf _ _ _ _ h1 (fun y1 y2 => ite_wf (wf_of_mem (State.lateDrop_mem ..) h1) (ite_wf (wf_of_mem
    (State.collDrop_mem ..) h1) (State.settle_wf _ _ (State.abortCtx_wf _ _ _ _ (wf_of_mem (State.sendDown_mem ..) h1)))))

@[simp] theorem acornEntryWriteEff_wf (via : Via) (p : Part) (value : Word) (s : State) (h1 : s.mem.wf) :
    (acornEntryWriteEff via p value s).mem.wf := by
  unfold acornEntryWriteEff
  exact State.partWrite_wf _ _ _ _ _ h1 (acornW_wf _ _ _ h1)

@[simp] theorem adaptationMonitorRequestEff_wf (n : Port) (ber : Word32) (pinned : Bool) (s : State) (h1 : s.mem.wf) :
    (adaptationMonitorRequestEff n ber pinned s).mem.wf := by
  unfold adaptationMonitorRequestEff
  refine ite_wf ?_ (wf_of_mem (State.wrN_mem ..) h1)
  split
  · exact (recalW_wf _ _ _ (wf_of_mem (State.wrN_mem ..) h1)) _ ‹_›
  · exact wf_of_mem (State.wrN_mem ..) h1

@[simp] theorem retCurrentWarningEff_wf (milliA : Nat) (s : State) (h1 : s.mem.wf) :
    (retCurrentWarningEff milliA s).mem.wf := by
  unfold retCurrentWarningEff
  exact ite_wf h1 (ite_wf (wf_of_mem (State.healthEvent_mem ..) (wf_of_mem (State.modPow_mem ..) (wf_of_mem (State.wr_mem ..)
    (wf_of_mem (State.wr_mem ..) h1)))) (wf_of_mem (State.wr_mem ..) (wf_of_mem (State.wr_mem ..) h1)))

@[simp] theorem retentionEntryDoneEff_wf (s : State) (h1 : s.mem.wf) :
    (retentionEntryDoneEff s).mem.wf := by
  unfold retentionEntryDoneEff
  exact ite_wf h1 (wf_of_mem (State.wr_mem ..) (wf_of_mem (State.wrN_mem ..) (foldl_wf _ (foldl_wf _ h1 fun _ _ fh => wf_of_mem
    (State.pWr_mem ..) (State.losePart_wf _ _ fh)) fun _ _ fh => wf_of_mem (State.toPState_mem ..) fh)))

@[simp] theorem partitionOffEntryDoneEff_wf (p : Part) (s : State) (h1 : s.mem.wf) :
    (partitionOffEntryDoneEff p s).mem.wf := by
  unfold partitionOffEntryDoneEff
  exact ite_wf h1 (foldl_wf _ h1 fun _ _ fh => ite_wf (wf_of_mem (State.pWr_mem ..) (State.losePart_wf _ _ fh)) fh)

@[simp] theorem powerCounterClearEff_wf (via : Via) (value : Word) (s : State) (h1 : s.mem.wf) :
    (powerCounterClearEff via value s).mem.wf := by
  unfold powerCounterClearEff
  exact State.objWrite_wf _ _ _ _ _ h1 (clearW_wf _ _ _ h1 (wf_of_mem (State.clearObjs_mem ..) h1))

@[simp] theorem thermalTripEff_wf (s : State) (h1 : s.mem.wf) :
    (thermalTripEff s).mem.wf := by
  unfold thermalTripEff
  exact ite_wf h1 (wf_of_mem (State.setReadiness_mem ..) (wf_of_mem (State.healthEvent_mem ..) (wf_of_mem (State.count32Sat_mem
    ..) (wf_of_mem (State.wrN_mem ..) (wf_of_mem (State.wrN_mem ..) (wf_of_mem (State.modPow_mem ..) (State.deviceReset_wf
    ..)))))))

@[simp] theorem thermalThrottleTickEff_wf (t : ThermalSensor) (s : State) (h1 : s.mem.wf) :
    (thermalThrottleTickEff t s).mem.wf := by
  unfold thermalThrottleTickEff
  split
  · exact ite_wf (wf_of_mem (State.count_mem ..) (wf_of_mem (State.thermalFlags_mem ..) (wf_of_mem (State.modCluster_mem ..)
      (wf_of_mem (State.wr_mem ..) h1)))) (wf_of_mem (State.thermalFlags_mem ..) (wf_of_mem (State.modCluster_mem ..) (wf_of_mem
      (State.wr_mem ..) h1)))
  · exact ite_wf (wf_of_mem (State.count_mem ..) (wf_of_mem (State.stackReports_mem ..) (wf_of_mem (State.thermalFlags_mem ..)
      (wf_of_mem (State.wr_mem ..) (wf_of_mem (State.modPow_mem ..) h1))))) (wf_of_mem (State.stackReports_mem ..) (wf_of_mem
      (State.thermalFlags_mem ..) (wf_of_mem (State.wr_mem ..) (wf_of_mem (State.modPow_mem ..) h1))))
  · exact wf_of_mem (State.modPow_mem ..) (wf_of_mem (State.wr_mem ..) h1)
  · exact wf_of_mem (State.wr_mem ..) h1
  · exact wf_of_mem (State.modPow_mem ..) h1

@[simp] theorem partPowerOnEff_wf (via : Via) (p : Part) (value : Word) (s : State) (h1 : s.mem.wf) :
    (partPowerOnEff via p value s).mem.wf := by
  unfold partPowerOnEff
  exact State.partWrite_wf _ _ _ _ _ h1 (partPowerW_wf _ _ _ h1)

@[simp] theorem partPowerOffEff_wf (via : Via) (p : Part) (value : Word) (s : State) (h1 : s.mem.wf) :
    (partPowerOffEff via p value s).mem.wf := by
  unfold partPowerOffEff
  exact State.partWrite_wf _ _ _ _ _ h1 (partPowerW_wf _ _ _ h1)

@[simp] theorem retentionExitEff_wf (via : Via) (value : Word) (s : State) (h1 : s.mem.wf) :
    (retentionExitEff via value s).mem.wf := by
  unfold retentionExitEff
  exact State.objWrite_wf _ _ _ _ _ h1 (devicePowerW_wf _ _ _ _ h1)

@[simp] theorem retentionEntryEff_wf (via : Via) (value : Word) (milliC : ℤ) (s : State) (h1 : s.mem.wf) :
    (retentionEntryEff via value milliC s).mem.wf := by
  unfold retentionEntryEff
  exact State.objWrite_wf _ _ _ _ _ h1 (devicePowerW_wf _ _ _ _ h1)

@[simp] theorem reclaimEff_wf (via : Via) (p : Part) (value : Word) (s : State) (h1 : s.mem.wf) :
    (reclaimEff via p value s).mem.wf := by
  unfold reclaimEff
  exact State.partWrite_wf _ _ _ _ _ h1 (reclaimW_wf _ _ _ _ h1)

@[simp] theorem attestRequestEff_wf (via : Via) (p : Part) (value : Word) (s : State) (h1 : s.mem.wf) :
    (attestRequestEff via p value s).mem.wf := by
  unfold attestRequestEff
  exact State.partWrite_wf _ _ _ _ _ h1 (attestW_wf _ _ _ h1)

@[simp] theorem svnAdvanceEff_wf (via : Via) (value : Word) (s : State) (h1 : s.mem.wf) :
    (svnAdvanceEff via value s).mem.wf := by
  unfold svnAdvanceEff
  exact State.objWrite_wf _ _ _ _ _ h1 (svnAdvanceW_wf _ _ _ h1)

@[simp] theorem fwUpdateDoneEff_wf (chk : ImageCheck) (flashOk : Bool) (s : State) (h1 : s.mem.wf) :
    (fwUpdateDoneEff chk flashOk s).mem.wf := by
  unfold fwUpdateDoneEff
  split
  · exact h1
  · exact ite_wf (wf_of_mem (State.wrN_mem ..) (wf_of_mem (State.modSec_mem ..) h1)) (ite_wf (wf_of_mem (State.wrN_mem ..)
      (wf_of_mem (State.setInactive_mem ..) (wf_of_mem (State.modSec_mem ..) h1))) (wf_of_mem (State.wrN_mem ..) (wf_of_mem
      (State.modSec_mem ..) (wf_of_mem (State.setInactive_mem ..) (wf_of_mem (State.modSec_mem ..) h1)))))

@[simp] theorem fwUpdateStartEff_wf (via : Via) (value : Word) (s : State) (h1 : s.mem.wf) :
    (fwUpdateStartEff via value s).mem.wf := by
  unfold fwUpdateStartEff
  exact State.objWrite_wf _ _ _ _ _ h1 (fwUpdateW_wf _ _ _ h1)

@[simp] theorem fwLoadEff_wf (via : Via) (value : Word) (chk : ImageCheck) (s : State) (h1 : s.mem.wf) :
    (fwLoadEff via value chk s).mem.wf := by
  unfold fwLoadEff
  exact State.objWrite_wf _ _ _ _ _ h1 (fwLoadW_wf _ _ _ _ h1)

@[simp] theorem lockEff_wf (via : Via) (value : Word) (s : State) (h1 : s.mem.wf) :
    (lockEff via value s).mem.wf := by
  unfold lockEff
  exact State.objWrite_wf _ _ _ _ _ h1 (calControlW_wf _ _ _ _ h1)

@[simp] theorem commitEff_wf (via : Via) (value : Word) (signatureOk : Bool) (s : State) (h1 : s.mem.wf) :
    (commitEff via value signatureOk s).mem.wf := by
  unfold commitEff
  exact State.objWrite_wf _ _ _ _ _ h1 (calControlW_wf _ _ _ _ h1)

@[simp] theorem unlockEff_wf (via : Via) (value : Word) (s : State) (h1 : s.mem.wf) :
    (unlockEff via value s).mem.wf := by
  unfold unlockEff
  exact State.objWrite_wf _ _ _ _ _ h1 (calControlW_wf _ _ _ _ h1)

@[simp] theorem domainWindowAccessEff_wf (offset : Nat) (wr : Option (List Byte)) (len : Nat) (s : State) (h1 : s.mem.wf) :
    (domainWindowAccessEff offset wr len s).mem.wf := by
  unfold domainWindowAccessEff
  refine ite_wf h1 ?_
  split
  · exact State.applyW_wf _ _ _ _ _ h1 (WR.wf_ite (WR.wf_error _) (WR.wf_ite (WR.wf_error _) (domainW_wf _ _ _ _ _ h1)))
  · split
    · exact ite_wf (wf_of_mem (State.complete_mem ..) h1) (wf_of_mem (State.complete_mem ..) h1)
    · exact wf_of_mem (State.complete_mem ..) h1

@[simp] theorem bistDoneEff_wf (p : Part) (obs : BistObs) (s : State) (h1 : s.mem.wf) :
    (bistDoneEff p obs s).mem.wf := by
  unfold bistDoneEff
  split
  · exact h1
  · exact ite_wf h1 (ite_wf (wf_of_mem (State.healthEvent_mem ..) (wf_of_mem (State.event_mem ..) (wf_of_mem (State.pWr_mem ..)
      (wf_of_mem (State.pWr_mem ..) (wf_of_mem (State.bistFlag_mem ..) (wf_of_mem (State.modHang_mem ..) (ite_wf
      (State.zeroMem_wf (State.zeroMem_wf (State.zeroMem_wf h1 _ _) _ _) _ _) (State.zeroMem_wf (State.zeroMem_wf h1 _ _) _
      _)))))))) (wf_of_mem (State.event_mem ..) (wf_of_mem (State.pWr_mem ..) (wf_of_mem (State.pWr_mem ..) (wf_of_mem
      (State.bistFlag_mem ..) (wf_of_mem (State.modHang_mem ..) (ite_wf (State.zeroMem_wf (State.zeroMem_wf (State.zeroMem_wf h1
      _ _) _ _) _ _) (State.zeroMem_wf (State.zeroMem_wf h1 _ _) _ _))))))))

@[simp] theorem bistCancelEff_wf (via : Via) (p : Part) (value : Word) (s : State) (h1 : s.mem.wf) :
    (bistCancelEff via p value s).mem.wf := by
  unfold bistCancelEff
  exact State.partWrite_wf _ _ _ _ _ h1 (bistControlW_wf _ _ _ h1)

@[simp] theorem bistRequestEff_wf (via : Via) (p : Part) (value : Word) (s : State) (h1 : s.mem.wf) :
    (bistRequestEff via p value s).mem.wf := by
  unfold bistRequestEff
  exact State.partWrite_wf _ _ _ _ _ h1 (bistControlW_wf _ _ _ h1)

@[simp] theorem powerCycleCancelEff_wf (via : Via) (value : Word) (s : State) (h1 : s.mem.wf) :
    (powerCycleCancelEff via value s).mem.wf := by
  unfold powerCycleCancelEff
  exact State.objWrite_wf _ _ _ _ _ h1 (resetControlW_wf _ _ _ h1)

@[simp] theorem powerCycleEff_wf (via : Via) (value : Word) (s : State) (h1 : s.mem.wf) :
    (powerCycleEff via value s).mem.wf := by
  unfold powerCycleEff
  exact State.objWrite_wf _ _ _ _ _ h1 (resetControlW_wf _ _ _ h1)

@[simp] theorem perstAssertEff_wf (s : State) (h1 : s.mem.wf) :
    (perstAssertEff s).mem.wf := by
  unfold perstAssertEff
  exact State.chipReset_wf _ _ _ h1

@[simp] theorem chipResetEff_wf (via : Option Via) (value : Word) (s : State) (h1 : s.mem.wf) :
    (chipResetEff via value s).mem.wf := by
  unfold chipResetEff
  split
  · exact State.objWrite_wf _ _ _ _ _ h1 (resetControlW_wf _ _ _ h1)
  · exact ite_wf (State.chipReset_wf _ _ _ h1) h1

@[simp] theorem vfFlrEff_wf (p : Part) (s : State) (h1 : s.mem.wf) :
    (vfFlrEff p s).mem.wf := by
  unfold vfFlrEff
  exact ite_wf h1 (ite_wf (State.startReset_wf _ _ _ _ (wf_of_mem (State.setFunc_mem ..) h1)) (wf_of_mem (State.setFunc_mem ..)
    h1))

@[simp] theorem partitionResetReadyEff_wf (p : Part) (obs : ResetObs) (s : State) (h1 : s.mem.wf) :
    (partitionResetReadyEff p obs s).mem.wf := by
  unfold partitionResetReadyEff
  split
  · dsimp only
    split
    · exact h1
    · exact h1
  · split
    · dsimp only
      split
      · exact h1
      · exact foldl_wf _ (wf_of_mem (State.modHang_mem ..) (foldl_wf _ (ite_wf (State.sampleDead_wf _ _ _ (foldl_wf _ h1 fun _ _
          fh => State.resetPhase_wf _ _ fh)) (foldl_wf _ h1 fun _ _ fh => State.resetPhase_wf _ _ fh)) fun _ _ fh => wf_of_mem
          (State.setPartReady_mem ..) (wf_of_mem (State.pWr_mem ..) (wf_of_mem (State.dropPartObjs_mem ..) fh)))) fun _ _ fh =>
          wf_of_mem (State.event_mem ..) fh
    · dsimp only
      split
      · exact h1
      · exact foldl_wf _ (ite_wf (State.sampleDead_wf _ _ _ (foldl_wf _ h1 fun _ _ fh => State.resetPhase_wf _ _ fh)) (foldl_wf _
          h1 fun _ _ fh => State.resetPhase_wf _ _ fh)) fun _ _ fh => wf_of_mem (State.pWr_mem ..) fh

@[simp] theorem partResetEff_wf (via : Via) (p : Part) (value : Word) (s : State) (h1 : s.mem.wf) :
    (partResetEff via p value s).mem.wf := by
  unfold partResetEff
  exact State.partWrite_wf _ _ _ _ _ h1 (partResetW_wf _ _ _ h1)

@[simp] theorem arbiterWatchdogExpiryEff_wf (o : ArbiterOwner) (s : State) (h1 : s.mem.wf) :
    (arbiterWatchdogExpiryEff o s).mem.wf := by
  unfold arbiterWatchdogExpiryEff
  split
  · exact ite_wf (State.rung3_wf _ _ h1) h1
  · exact ite_wf (State.rung4_wf _ _ _ h1) h1

@[simp] theorem scanWatchdogExpiryEff_wf (p : Part) (w : ScanStuck) (s : State) (h1 : s.mem.wf) :
    (scanWatchdogExpiryEff p w s).mem.wf := by
  unfold scanWatchdogExpiryEff
  exact ite_wf h1 (State.rung3_wf _ _ h1)

@[simp] theorem healthPartStateWriteEff_wf (via : Via) (value : Word) (s : State) (h1 : s.mem.wf) :
    (healthPartStateWriteEff via value s).mem.wf := by
  unfold healthPartStateWriteEff
  exact State.objWrite_wf _ _ _ _ _ h1 (healthPartStateW_wf _ _ h1)

@[simp] theorem recommendPart_wf (code : Nat) (s : State) (h1 : s.mem.wf) :
    (recommendPart code s).mem.wf := by
  unfold recommendPart
  exact ite_wf (wf_of_mem (State.modHealth_mem ..) h1) (ite_wf (ite_wf h1 (ite_wf (State.recommend_wf _ _ _ (wf_of_mem
    (State.modHealth_mem ..) (wf_of_mem (State.modHealth_mem ..) h1))) (ite_wf h1 (ite_wf (State.recommend_wf _ _ _ (wf_of_mem
    (State.count32Sat_mem ..) (wf_of_mem (State.modHealth_mem ..) h1))) (wf_of_mem (State.count32Sat_mem ..) (wf_of_mem
    (State.modHealth_mem ..) h1)))))) (ite_wf (State.recommend_wf _ _ _ (wf_of_mem (State.modHealth_mem ..) h1)) h1))

@[simp] theorem deadEff_wf (via : Via) (addr : FabAddr) (s : State) (h1 : s.mem.wf) :
    (deadEff via addr s).mem.wf := by
  unfold deadEff
  exact State.objWrite_wf _ _ _ _ _ h1 (deadW_wf _ _ h1)

@[simp] theorem trustEff_wf (via : Via) (addr : FabAddr) (s : State) (h1 : s.mem.wf) :
    (trustEff via addr s).mem.wf := by
  unfold trustEff
  exact State.objWrite_wf _ _ _ _ _ h1 (trustW_wf _ _ h1)

@[simp] theorem tangoRestoreAbortEff_wf (via : Via) (s : State) (h1 : s.mem.wf) :
    (tangoRestoreAbortEff via s).mem.wf := by
  unfold tangoRestoreAbortEff
  exact State.objWrite_wf _ _ _ _ _ h1 (restoreAbortW_wf _ h1)

@[simp] theorem tangoRestoreEff_wf (via : Via) (shell : ShellOutcome) (s : State) (h1 : s.mem.wf) :
    (tangoRestoreEff via shell s).mem.wf := by
  unfold tangoRestoreEff
  exact State.objWrite_wf _ _ _ _ _ h1 (tangoRestoreW_wf _ _ h1)

@[simp] theorem tangoRollbackEff_wf (via : Via) (s : State) (h1 : s.mem.wf) :
    (tangoRollbackEff via s).mem.wf := by
  unfold tangoRollbackEff
  exact State.objWrite_wf _ _ _ _ _ h1 (rollbackW_wf _ h1)

@[simp] theorem tangoUnfreezeEff_wf (via : Via) (s : State) (h1 : s.mem.wf) :
    (tangoUnfreezeEff via s).mem.wf := by
  unfold tangoUnfreezeEff
  exact State.objWrite_wf _ _ _ _ _ h1 (tangoUnfreezeW_wf _ h1)

@[simp] theorem tangoFreezeEff_wf (via : Via) (s : State) (h1 : s.mem.wf) :
    (tangoFreezeEff via s).mem.wf := by
  unfold tangoFreezeEff
  exact State.objWrite_wf _ _ _ _ _ h1 (tangoFreezeW_wf _ h1)

@[simp] theorem tangoUnpairEff_wf (via : Via) (s : State) (h1 : s.mem.wf) :
    (tangoUnpairEff via s).mem.wf := by
  unfold tangoUnpairEff
  exact State.objWrite_wf _ _ _ _ _ h1 (tangoUnpairW_wf _ h1)

@[simp] theorem tangoPauseEff_wf (via : Via) (s : State) (h1 : s.mem.wf) :
    (tangoPauseEff via s).mem.wf := by
  unfold tangoPauseEff
  exact State.objWrite_wf _ _ _ _ _ h1 (tangoPauseW_wf _ h1)

@[simp] theorem tangoStopEff_wf (via : Via) (s : State) (h1 : s.mem.wf) :
    (tangoStopEff via s).mem.wf := by
  unfold tangoStopEff
  exact State.objWrite_wf _ _ _ _ _ h1 (tangoStopW_wf _ h1)

@[simp] theorem tangoStartEff_wf (via : Via) (s : State) (h1 : s.mem.wf) :
    (tangoStartEff via s).mem.wf := by
  unfold tangoStartEff
  exact State.objWrite_wf _ _ _ _ _ h1 (tangoStartW_wf _ h1)

@[simp] theorem tangoReleaseTagWriteEff_wf (via : Via) (value : Word) (s : State) (h1 : s.mem.wf) :
    (tangoReleaseTagWriteEff via value s).mem.wf := by
  unfold tangoReleaseTagWriteEff
  exact State.objWrite_wf _ _ _ _ _ h1 (releaseTagW_wf _ _ h1)

@[simp] theorem resumeReplyEff_wf (pkt : Packet) (s : State) (h1 : s.mem.wf) :
    (resumeReplyEff pkt s).mem.wf := by
  unfold resumeReplyEff
  refine ite_wf h1 ?_
  split
  · exact wf_of_mem (State.modTango_mem ..) h1
  · dsimp only
    split
    · exact State.sendChunk_wf _ (State.ackTo_wf _ _ (wf_of_mem (State.toTango_mem ..) (wf_of_mem (State.modTango_mem ..)
        (foldl_wf _ (wf_of_mem (State.count32Sat_mem ..) (wf_of_mem (State.modTango_mem ..) h1)) fun _ _ fh => ite_wf fh
        (wf_of_mem (State.bindSlot_mem ..) fh)))))
    · split
      · exact wf_of_mem (State.toTango_mem ..) (State.dropMirror_wf _ (wf_of_mem (State.count32Sat_mem ..) (wf_of_mem
          (State.modTango_mem ..) h1)))
      · exact wf_of_mem (State.toTango_mem ..) (wf_of_mem (State.modTango_mem ..) (State.dropMirror_wf _ (wf_of_mem
          (State.count32Sat_mem ..) (wf_of_mem (State.modTango_mem ..) h1))))
      · exact wf_of_mem (State.toTango_mem ..) (State.dropMirror_wf _ (wf_of_mem (State.count32Sat_mem ..) (wf_of_mem
          (State.modTango_mem ..) h1)))

@[simp] theorem tangoDataEff_wf (pkt : Packet) (s : State) (h1 : s.mem.wf) :
    (tangoDataEff pkt s).mem.wf := by
  unfold tangoDataEff
  exact State.tangoIn_wf _ _ _ h1 (fun t h => State.takeTangoData_wf _ _ h)

@[simp] theorem tangoListEntryWriteEff_wf (via : Via) (value : Word) (s : State) (h1 : s.mem.wf) :
    (tangoListEntryWriteEff via value s).mem.wf := by
  unfold tangoListEntryWriteEff
  exact State.objWrite_wf _ _ _ _ _ h1 (listEntryW_wf _ _ h1)

@[simp] theorem pairEff_wf (n : Port) (pkt : Packet) (s : State) (h1 : s.mem.wf) :
    (pairEff n pkt s).mem.wf := by
  unfold pairEff
  exact State.tangoIn_wf _ _ _ h1 (fun t h => State.takePair_wf _ _ _ h)

@[simp] theorem weightCounterClearEff_wf (via : Via) (p : Part) (value : Word) (s : State) (h1 : s.mem.wf) :
    (weightCounterClearEff via p value s).mem.wf := by
  unfold weightCounterClearEff
  exact State.partWrite_wf _ _ _ _ _ h1 (clearW_wf _ _ _ h1 (wf_of_mem (State.clearObjs_mem ..) h1))

@[simp] theorem serveEnableEff_wf (via : Via) (p : Part) (value : Word) (s : State) (h1 : s.mem.wf) :
    (serveEnableEff via p value s).mem.wf := by
  unfold serveEnableEff
  exact State.partWrite_wf _ _ _ _ _ h1 (serveEnableW_wf _ _ _ h1)

@[simp] theorem loadRetryEff_wf (via : Via) (p : Part) (shell : ShellOutcome) (s : State) (h1 : s.mem.wf) :
    (loadRetryEff via p shell s).mem.wf := by
  unfold loadRetryEff
  exact State.partWrite_wf _ _ _ _ _ h1 (loadRetryW_wf _ _ _ h1)

@[simp] theorem loadCancelEff_wf (via : Via) (p : Part) (s : State) (h1 : s.mem.wf) :
    (loadCancelEff via p s).mem.wf := by
  unfold loadCancelEff
  exact State.partWrite_wf _ _ _ _ _ h1 (loadCancelW_wf _ _ h1)

@[simp] theorem loadCommitEff_wf (via : Via) (p : Part) (s : State) (h1 : s.mem.wf) :
    (loadCommitEff via p s).mem.wf := by
  unfold loadCommitEff
  exact State.partWrite_wf _ _ _ _ _ h1 (loadCommitW_wf _ _ h1)

@[simp] theorem loadStartEff_wf (via : Via) (p : Part) (shell : ShellOutcome) (s : State) (h1 : s.mem.wf) :
    (loadStartEff via p shell s).mem.wf := by
  unfold loadStartEff
  exact State.partWrite_wf _ _ _ _ _ h1 (loadStartW_wf _ _ _ h1)

@[simp] theorem clearEff_wf (via : Via) (p : Part) (s : State) (h1 : s.mem.wf) :
    (clearEff via p s).mem.wf := by
  unfold clearEff
  exact State.partWrite_wf _ _ _ _ _ h1 (clearRegionW_wf _ _ h1)

@[simp] theorem installEff_wf (via : Via) (p : Part) (slot : Fin 2) (tag : Tag) (s : State) (h1 : s.mem.wf) :
    (installEff via p slot tag s).mem.wf := by
  unfold installEff
  exact State.partWrite_wf _ _ _ _ _ h1 (installW_wf _ _ _ _ h1)

@[simp] theorem defineSingleEff_wf (via : Via) (p : Part) (tag : Tag) (s : State) (h1 : s.mem.wf) :
    (defineSingleEff via p tag s).mem.wf := by
  unfold defineSingleEff
  exact State.partWrite_wf _ _ _ _ _ h1 (defineSingleW_wf _ _ _ h1)

@[simp] theorem defineEff_wf (via : Via) (p : Part) (s : State) (h1 : s.mem.wf) :
    (defineEff via p s).mem.wf := by
  unfold defineEff
  exact State.partWrite_wf _ _ _ _ _ h1 (defineW_wf _ _ h1)

@[simp] theorem slotCounterClearEff_wf (via : Via) (j : JobSlot) (value : Word) (s : State) (h1 : s.mem.wf) :
    (slotCounterClearEff via j value s).mem.wf := by
  unfold slotCounterClearEff
  exact State.objWrite_wf _ _ _ _ _ h1 (clearW_wf _ _ _ h1 (wf_of_mem (State.clearObjs_mem ..) h1))

@[simp] theorem collCounterClearEff_wf (via : Via) (value : Word) (s : State) (h1 : s.mem.wf) :
    (collCounterClearEff via value s).mem.wf := by
  unfold collCounterClearEff
  exact State.objWrite_wf _ _ _ _ _ h1 (clearW_wf _ _ _ h1 (wf_of_mem (State.clearObjs_mem ..) h1))

@[simp] theorem reelVoteEff_wf (j : JobSlot) (s : State) (h1 : s.mem.wf) :
    (reelVoteEff j s).mem.wf := by
  unfold reelVoteEff
  split
  · exact h1
  · exact State.settle_wf _ _ (wf_of_mem (State.setCtx_mem ..) (State.reelState_wf _ _ _ _ h1))

@[simp] theorem collectiveDeadlineEff_wf (j : JobSlot) (step : Tag) (bucket : BitVec 16) (s : State) (h1 : s.mem.wf) :
    (collectiveDeadlineEff j step bucket s).mem.wf := by
  unfold collectiveDeadlineEff
  split
  · exact h1
  · split
    · exact h1
    · exact ite_wf h1 (State.settle_wf _ _ (ite_wf (wf_of_mem (State.endCtx_mem ..) h1) (State.finishCtx_wf _ _ _ _ h1)))

@[simp] theorem bucketDoneEff_wf (j : JobSlot) (step : Tag) (bucket : BitVec 16) (s : State) (h1 : s.mem.wf) :
    (bucketDoneEff j step bucket s).mem.wf := by
  unfold bucketDoneEff
  split
  · exact h1
  · split
    · exact h1
    · exact ite_wf h1 (ite_wf (ite_wf (State.settle_wf _ _ (wf_of_mem (State.endCtx_mem ..) h1)) h1) (ite_wf h1 (State.settle_wf
        _ _ (ite_wf (wf_of_mem (State.event_mem ..) (State.finishCtx_wf _ _ _ _ h1)) (State.finishCtx_wf _ _ _ _ h1)))))

@[simp] theorem orphanDeadlineEff_wf (j : JobSlot) (step : Tag) (bucket : BitVec 16) (s : State) (h1 : s.mem.wf) :
    (orphanDeadlineEff j step bucket s).mem.wf := by
  unfold orphanDeadlineEff
  split
  · exact h1
  · split
    · exact h1
    · exact ite_wf h1 (State.settle_wf _ _ (State.abortCtx_wf _ _ _ _ h1))

@[simp] theorem hardDeadlineEff_wf (j : JobSlot) (step : Tag) (bucket : BitVec 16) (s : State) (h1 : s.mem.wf) :
    (hardDeadlineEff j step bucket s).mem.wf := by
  unfold hardDeadlineEff
  split
  · exact h1
  · split
    · exact h1
    · exact ite_wf h1 (State.settle_wf _ _ (State.abortCtx_wf _ _ _ _ (wf_of_mem (State.sendDown_mem ..) h1)))

@[simp] theorem hardDeadlineAllEff_wf (j : JobSlot) (step : Tag) (bucket : BitVec 16) (s : State) (h1 : s.mem.wf) :
    (hardDeadlineAllEff j step bucket s).mem.wf := by
  unfold hardDeadlineAllEff
  split
  · exact hardDeadlineEff_wf _ _ _ _ h1
  · split
    · exact hardDeadlineEff_wf _ _ _ _ h1
    · exact ite_wf (hardDeadlineEff_wf _ _ _ _ h1) (wf_of_mem (absentAll_mem ..) (hardDeadlineEff_wf _ _ _ _ h1))

@[simp] theorem softDeadlineEff_wf (j : JobSlot) (step : Tag) (bucket : BitVec 16) (level : Nat) (s : State) (h1 : s.mem.wf) :
    (softDeadlineEff j step bucket level s).mem.wf := by
  unfold softDeadlineEff
  dsimp only
  split
  · refine ite_wf h1 (State.settle_wf _ _ (ite_wf (State.excludeSpan_wf _ _ _ _ ?_) ?_))
    · split
      · exact ite_wf (wf_of_mem (State.collInject_mem ..) (wf_of_mem (State.count_mem ..) (wf_of_mem (State.setCtx_mem ..) h1)))
          (wf_of_mem (State.count_mem ..) (wf_of_mem (State.setCtx_mem ..) h1))
      · exact wf_of_mem (State.count_mem ..) (wf_of_mem (State.setCtx_mem ..) h1)
    · split
      · exact ite_wf (wf_of_mem (State.collInject_mem ..) (wf_of_mem (State.count_mem ..) (wf_of_mem (State.setCtx_mem ..) h1)))
          (wf_of_mem (State.count_mem ..) (wf_of_mem (State.setCtx_mem ..) h1))
      · exact wf_of_mem (State.count_mem ..) (wf_of_mem (State.setCtx_mem ..) h1)
  · exact h1

@[simp] theorem softDeadlineAllEff_wf (j : JobSlot) (step : Tag) (bucket : BitVec 16) (level : Nat) (s : State) (h1 : s.mem.wf) :
    (softDeadlineAllEff j step bucket level s).mem.wf := by
  unfold softDeadlineAllEff
  split
  · exact softDeadlineEff_wf _ _ _ _ _ h1
  · exact ite_wf (softDeadlineEff_wf _ _ _ _ _ h1) (wf_of_mem (absentAll_mem ..) (softDeadlineEff_wf _ _ _ _ _ h1))

@[simp] theorem horaFreeEff_wf (p : Packet) (s : State) (h1 : s.mem.wf) :
    (horaFreeEff p s).mem.wf := by
  unfold horaFreeEff
  refine State.withCtl_wf _ _ _ _ h1 (fun y1 y2 => ?_)
  dsimp only
  split
  · exact wf_of_mem (State.collDrop_mem ..) h1
  · split
    · exact wf_of_mem (State.collDrop_mem ..) h1
    · exact ite_wf (wf_of_mem (State.collDrop_mem ..) h1) (wf_of_mem (State.pollHora_mem ..) (wf_of_mem (State.setCtx_mem ..) h1))

@[simp] theorem resultPacketEff_wf (p : Packet) (s : State) (h1 : s.mem.wf) :
    (resultPacketEff p s).mem.wf := by
  unfold resultPacketEff
  exact State.withCtl_wf _ _ _ _ h1 (fun y1 y2 => ite_wf (wf_of_mem (State.lateDrop_mem ..) h1) (ite_wf (wf_of_mem
    (State.collDrop_mem ..) h1) (ite_wf (State.settle_wf _ _ (State.takeResult_wf _ _ _ _ _ h1)) (ite_wf (wf_of_mem
    (State.collDrop_mem ..) h1) (wf_of_mem (State.setCtx_mem ..) (ite_wf (wf_of_mem (State.sendDown_mem ..) h1) h1))))))

@[simp] theorem excludedPacketEff_wf (p : Packet) (s : State) (h1 : s.mem.wf) :
    (excludedPacketEff p s).mem.wf := by
  unfold excludedPacketEff
  exact State.withCtl_wf _ _ _ _ h1 (fun y1 y2 => ite_wf (wf_of_mem (State.lateDrop_mem ..) h1) (ite_wf (wf_of_mem
    (State.collDrop_mem ..) h1) (ite_wf (wf_of_mem (State.collDrop_mem ..) h1) (State.settle_wf _ _ (State.excludeSpan_wf _ _ _ _
    (wf_of_mem (State.setCtx_mem ..) h1))))))

@[simp] theorem windowPacketEff_wf (p : Packet) (s : State) (h1 : s.mem.wf) :
    (windowPacketEff p s).mem.wf := by
  unfold windowPacketEff
  exact State.withCtl_wf _ _ _ _ h1 (fun y1 y2 => ite_wf (wf_of_mem (State.collDrop_mem ..) h1) (wf_of_mem (pollHoras_mem ..)
    (State.settle_wf _ _ (wf_of_mem (State.pumpOut_mem ..) (wf_of_mem (State.modCs_mem ..) h1)))))

@[simp] theorem openPacketEff_wf (p : Packet) (s : State) (h1 : s.mem.wf) :
    (openPacketEff p s).mem.wf := by
  unfold openPacketEff
  exact State.withCtl_wf _ _ _ _ h1 (fun y1 y2 => State.fromChild_wf _ _ _ _ h1)

@[simp] theorem collDataSegmentEff_wf (p : Packet) (s : State) (h1 : s.mem.wf) :
    (collDataSegmentEff p s).mem.wf := by
  unfold collDataSegmentEff
  refine State.withSlot_wf _ _ _ h1 (fun y1 => ite_wf (ite_wf (wf_of_mem (State.collDrop_mem ..) h1) h1) ?_)
  split
  · exact State.fromChild_wf _ _ _ _ h1
  · exact State.fromAbove_wf _ _ _ h1
  · exact State.fromAbove_wf _ _ _ h1
  · exact h1

@[simp] theorem stagingCompleteEff_wf (j : JobSlot) (step : Tag) (bucket : BitVec 16) (s : State) (h1 : s.mem.wf) :
    (stagingCompleteEff j step bucket s).mem.wf := by
  unfold stagingCompleteEff
  dsimp only
  split
  · split
    · exact h1
    · exact ite_wf h1 (ite_wf (State.tryCarry_wf _ _ _ (wf_of_mem (State.setCtx_mem ..) (State.stageFree_wf _ _ h1)))
        (State.settle_wf _ _ (wf_of_mem (State.stagedSend_mem ..) (wf_of_mem (State.setCtx_mem ..) (State.stageFree_wf _ _ h1)))))
  · split
    · exact h1
    · exact ite_wf h1 (wf_of_mem (State.modCs_mem ..) (State.carryOut_wf _ _ _ (State.stageFree_wf _ _ h1)))
  · exact h1

@[simp] theorem horaEff_wf (by_ : CollBy) (addr : Nat) (s : State) (h1 : s.mem.wf) :
    (horaEff by_ addr s).mem.wf := by
  unfold horaEff
  exact State.startColl_wf _ _ _ _ h1

@[simp] theorem reelEff_wf (by_ : CollBy) (addr : Nat) (s : State) (h1 : s.mem.wf) :
    (reelEff by_ addr s).mem.wf := by
  unfold reelEff
  exact State.startColl_wf _ _ _ _ h1

@[simp] theorem allGatherEff_wf (by_ : CollBy) (addr : Nat) (s : State) (h1 : s.mem.wf) :
    (allGatherEff by_ addr s).mem.wf := by
  unfold allGatherEff
  exact State.startColl_wf _ _ _ _ h1

@[simp] theorem broadcastEff_wf (by_ : CollBy) (addr : Nat) (s : State) (h1 : s.mem.wf) :
    (broadcastEff by_ addr s).mem.wf := by
  unfold broadcastEff
  exact State.startColl_wf _ _ _ _ h1

@[simp] theorem allReduceEff_wf (by_ : CollBy) (addr : Nat) (s : State) (h1 : s.mem.wf) :
    (allReduceEff by_ addr s).mem.wf := by
  unfold allReduceEff
  exact State.startColl_wf _ _ _ _ h1

@[simp] theorem slotReleaseEff_wf (via : Via) (j : JobSlot) (s : State) (h1 : s.mem.wf) :
    (slotReleaseEff via j s).mem.wf := by
  unfold slotReleaseEff
  exact State.objWrite_wf _ _ _ _ _ h1 (slotReleaseW_wf _ _ h1)

@[simp] theorem slotEnableEff_wf (via : Via) (j : JobSlot) (s : State) (h1 : s.mem.wf) :
    (slotEnableEff via j s).mem.wf := by
  unfold slotEnableEff
  exact State.objWrite_wf _ _ _ _ _ h1 (slotEnableW_wf _ _ h1)

@[simp] theorem jobSlotAssignEff_wf (via : Via) (j : JobSlot) (value : Word) (s : State) (h1 : s.mem.wf) :
    (jobSlotAssignEff via j value s).mem.wf := by
  unfold jobSlotAssignEff
  exact State.objWrite_wf _ _ _ _ _ h1 (jobIdW_wf _ _ _ _ h1)

@[simp] theorem portCounterClearEff_wf (via : Via) (n : Port) (value : Word) (s : State) (h1 : s.mem.wf) :
    (portCounterClearEff via n value s).mem.wf := by
  unfold portCounterClearEff
  exact State.objWrite_wf _ _ _ _ _ h1 (clearW_wf _ _ _ h1 (wf_of_mem (State.clearPort_mem ..) h1))

@[simp] theorem fabricCounterClearEff_wf (via : Via) (value : Word) (s : State) (h1 : s.mem.wf) :
    (fabricCounterClearEff via value s).mem.wf := by
  unfold fabricCounterClearEff
  exact State.objWrite_wf _ _ _ _ _ h1 (clearW_wf _ _ _ h1 (wf_of_mem (State.clearFabric_mem ..) h1))

@[simp] theorem routeCommitBeatWriteEff_wf (via : Via) (value : Word) (s : State) (h1 : s.mem.wf) :
    (routeCommitBeatWriteEff via value s).mem.wf := by
  unfold routeCommitBeatWriteEff
  exact State.objWrite_wf _ _ _ _ _ h1 (commitBeatW_wf _ _ h1)

@[simp] theorem epochWriteEff_wf (via : Via) (value : Word) (s : State) (h1 : s.mem.wf) :
    (epochWriteEff via value s).mem.wf := by
  unfold epochWriteEff
  exact State.objWrite_wf _ _ _ _ _ h1 (epochWriteW_wf _ _ h1)

@[simp] theorem fabricEpochWriteEff_wf (via : Via) (value : Word) (s : State) (h1 : s.mem.wf) :
    (fabricEpochWriteEff via value s).mem.wf := by
  unfold fabricEpochWriteEff
  exact State.objWrite_wf _ _ _ _ _ h1 (fabricEpochW_wf _ _ h1)

@[simp] theorem checkExchangeEff_wf (n : Port) (info : CheckInfo) (s : State) (h1 : s.mem.wf) :
    (checkExchangeEff n info s).mem.wf := by
  unfold checkExchangeEff
  refine ite_wf h1 (ite_wf (wf_of_mem (State.failPort_mem ..) (wf_of_mem (State.wrN_mem ..) (wf_of_mem (State.wrN_mem ..) h1)))
    (wf_of_mem (State.reselect_mem ..) (wf_of_mem (learnAll_mem ..) (wf_of_mem (State.toPState_mem ..) (foldl_wf _ (wf_of_mem
    (State.wrN_mem ..) (wf_of_mem (State.wrN_mem ..) h1)) fun _ _ fh => ?_)))))
  split
  · exact wf_of_mem (State.emit_mem ..) fh
  · exact fh

@[simp] theorem portRoleWriteEff_wf (via : Via) (n : Port) (value : Word) (s : State) (h1 : s.mem.wf) :
    (portRoleWriteEff via n value s).mem.wf := by
  unfold portRoleWriteEff
  exact State.objWrite_wf _ _ _ _ _ h1 (roleW_wf _ _ _ h1)

@[simp] theorem portRecalEff_wf (via : Via) (n : Port) (force : Bool) (s : State) (h1 : s.mem.wf) :
    (portRecalEff via n force s).mem.wf := by
  unfold portRecalEff
  exact State.objWrite_wf _ _ _ _ _ h1 (recalW_wf _ _ _ h1)

@[simp] theorem portDisableEff_wf (via : Via) (n : Port) (s : State) (h1 : s.mem.wf) :
    (portDisableEff via n s).mem.wf := by
  unfold portDisableEff
  exact State.objWrite_wf _ _ _ _ _ h1 (disableW_wf _ _ h1)

@[simp] theorem portRetrainEff_wf (via : Via) (n : Port) (s : State) (h1 : s.mem.wf) :
    (portRetrainEff via n s).mem.wf := by
  unfold portRetrainEff
  exact State.objWrite_wf _ _ _ _ _ h1 (retrainW_wf _ _ h1)

@[simp] theorem memCounterClearEff_wf (via : Via) (p : Part) (value : Word) (s : State) (h1 : s.mem.wf) :
    (memCounterClearEff via p value s).mem.wf := by
  unfold memCounterClearEff
  exact State.partWrite_wf _ _ _ _ _ h1 (clearW_wf _ _ _ h1 (wf_of_mem (State.clearObjs_mem ..) h1))

@[simp] theorem eccLogClearEff_wf (via : Via) (value : Word) (s : State) (h1 : s.mem.wf) :
    (eccLogClearEff via value s).mem.wf := by
  unfold eccLogClearEff
  exact State.objWrite_wf _ _ _ _ _ h1 (clearW_wf _ _ _ h1 (wf_of_mem (State.clearEccLog_mem ..) h1))

@[simp] theorem tangoReserveWriteEff_wf (via : Via) (p : Part) (value : Word) (s : State) (h1 : s.mem.wf) :
    (tangoReserveWriteEff via p value s).mem.wf := by
  unfold tangoReserveWriteEff
  exact State.partWrite_wf _ _ _ _ _ h1 (tangoReserveW_wf _ _ _ _ h1)

@[simp] theorem retainMaskWriteEff_wf (via : Via) (p : Part) (value : Word) (s : State) (h1 : s.mem.wf) :
    (retainMaskWriteEff via p value s).mem.wf := by
  unfold retainMaskWriteEff
  exact State.partWrite_wf _ _ _ _ _ h1 (retainMaskW_wf _ _ _ _ h1)

@[simp] theorem dmaCounterClearEff_wf (via : Via) (p : Part) (value : Word) (s : State) (h1 : s.mem.wf) :
    (dmaCounterClearEff via p value s).mem.wf := by
  unfold dmaCounterClearEff
  exact State.partWrite_wf _ _ _ _ _ h1 (clearW_wf _ _ _ h1 (wf_of_mem (State.clearObjs_mem ..) h1))

@[simp] theorem dmaClearEff_wf (via : Via) (ch : ChanId) (s : State) (h1 : s.mem.wf) :
    (dmaClearEff via ch s).mem.wf := by
  unfold dmaClearEff
  exact State.blockWrite_wf _ _ _ _ _ h1 (State.dmaClearW_wf _ _ h1)

@[simp] theorem dmaResumeEff_wf (via : Via) (ch : ChanId) (s : State) (h1 : s.mem.wf) :
    (dmaResumeEff via ch s).mem.wf := by
  unfold dmaResumeEff
  exact State.blockWrite_wf _ _ _ _ _ h1 (State.dmaResumeW_wf _ _ h1)

@[simp] theorem dmaStopEff_wf (via : Via) (ch : ChanId) (s : State) (h1 : s.mem.wf) :
    (dmaStopEff via ch s).mem.wf := by
  unfold dmaStopEff
  exact State.blockWrite_wf _ _ _ _ _ h1 (State.dmaStopW_wf _ _ h1)

@[simp] theorem dmaFenceEff_wf (via : Option Via) (ch : ChanId) (s : State) (h1 : s.mem.wf) :
    (dmaFenceEff via ch s).mem.wf := by
  unfold dmaFenceEff
  split
  · exact State.blockWrite_wf _ _ _ _ _ h1 ((WR.wf_ok _).2 (wf_of_mem (State.dmaIssueFence_mem ..) h1))
  · exact wf_of_mem (State.dmaIssueFence_mem ..) h1

@[simp] theorem dmaArmEff_wf (via : Via) (ch : ChanId) (s : State) (h1 : s.mem.wf) :
    (dmaArmEff via ch s).mem.wf := by
  unfold dmaArmEff
  exact State.blockWrite_wf _ _ _ _ _ h1 (dmaArmW_wf _ _ _ h1)

@[simp] theorem dmaStartEff_wf (c : Core) (eng : Fin 2) (ch : Fin 16) (desc : BitVec 512) (srcP : Option Param) (dstP : Option
  Param) (lenP : Option Param) (rowsP : Option Param) (s : State) (h1 : s.mem.wf) :
    (dmaStartEff c eng ch desc srcP dstP lenP rowsP s).mem.wf := by
  unfold dmaStartEff
  refine ite_wf h1 ?_
  dsimp only
  split
  · exact wf_of_mem (State.opFail_mem ..) h1
  · exact ite_wf (wf_of_mem (State.opFail_mem ..) h1) (wf_of_mem (State.setChan_mem ..) h1)

@[simp] theorem schedCounterClearEff_wf (via : Via) (p : Part) (value : Word) (s : State) (h1 : s.mem.wf) :
    (schedCounterClearEff via p value s).mem.wf := by
  unfold schedCounterClearEff
  exact State.partWrite_wf _ _ _ _ _ h1 (clearW_wf _ _ _ h1 (wf_of_mem (State.clearObjs_mem ..) h1))

@[simp] theorem groupLeadWriteEff_wf (via : Via) (p : Part) (value : Word) (s : State) (h1 : s.mem.wf) :
    (groupLeadWriteEff via p value s).mem.wf := by
  unfold groupLeadWriteEff
  exact State.partWrite_wf _ _ _ _ _ h1 (groupLeadW_wf _ _ _ _ h1)

@[simp] theorem teardownDeadlineEff_wf (p : Part) (i : Fin 16) (s : State) (h1 : s.mem.wf) :
    (teardownDeadlineEff p i s).mem.wf := by
  unfold teardownDeadlineEff
  exact ite_wf (wf_of_mem (State.swap_mem ..) (State.endTeardown_wf _ _ _ (foldl_wf _ h1 fun _ _ fh => State.tryFinish_wf _ _
    (foldl_wf _ fh fun _ _ fh1 => wf_of_mem (State.leaveTile_mem ..) fh1)))) h1

@[simp] theorem teardownCompleteEff_wf (p : Part) (i : Fin 16) (s : State) (h1 : s.mem.wf) :
    (teardownCompleteEff p i s).mem.wf := by
  unfold teardownCompleteEff
  exact ite_wf (wf_of_mem (State.swap_mem ..) (State.endTeardown_wf _ _ _ h1)) h1

@[simp] theorem heldDeliveryFlushEff_wf (j : JobSlot) (s : State) (h1 : s.mem.wf) :
    (heldDeliveryFlushEff j s).mem.wf := by
  unfold heldDeliveryFlushEff
  exact State.settle_wf _ _ (wf_of_mem (pollHoras_mem ..) (flushRecords_wf _ _ _ (wf_of_mem (State.modCs_mem ..) (ite_wf
    (State.flushHeld_wf _ _ h1) h1))))

@[simp] theorem contextRestoreDoneEff_wf (p : Part) (i : Fin 16) (s : State) (h1 : s.mem.wf) :
    (contextRestoreDoneEff p i s).mem.wf := by
  unfold contextRestoreDoneEff
  exact ite_wf h1 (wf_of_mem (State.noteCtxs_mem ..) (wf_of_mem (State.pCount_mem ..) (wf_of_mem (State.pCount_mem ..) (wf_of_mem
    (State.setCtxE_mem ..) (foldl_wf _ h1 fun _ _ fh => State.restoreCore_wf _ _ _ _ fh)))))

@[simp] theorem contextEvictDoneEff_wf (p : Part) (i : Fin 16) (lost : List Nat) (s : State) (h1 : s.mem.wf) :
    (contextEvictDoneEff p i lost s).mem.wf := by
  unfold contextEvictDoneEff
  refine ite_wf h1 (wf_of_mem (State.swap_mem ..) (wf_of_mem (State.pCount_mem ..) (wf_of_mem (State.pCount_mem ..) (wf_of_mem
    (State.setCtxE_mem ..) (foldl_wf _ (State.freeMem_wf (foldl_wf _ h1 fun _ _ fh => ?_) _ _) fun _ _ fh => wf_of_mem
    (State.modCore_mem ..) fh)))))
  split
  · exact wf_of_mem (State.partFault_mem ..) (wf_of_mem (State.eccNote_mem ..) fh)
  · exact fh

@[simp] theorem contextTeardownW_wf (s : State) (p : Nat) (i : Nat) (h1 : s.mem.wf) :
    (contextTeardownW s p i).Wf := by
  unfold contextTeardownW
  exact (WR.wf_ok _).2 (State.teardown_wf _ _ h1)

@[simp] theorem contextTeardownEff_wf (via : Via) (p : Part) (i : Fin 16) (s : State) (h1 : s.mem.wf) :
    (contextTeardownEff via p i s).mem.wf := by
  unfold contextTeardownEff
  exact State.blockWrite_wf _ _ _ _ _ h1 (contextTeardownW_wf _ _ _ h1)

@[simp] theorem contextEvictEff_wf (via : Via) (p : Part) (i : Fin 16) (s : State) (h1 : s.mem.wf) :
    (contextEvictEff via p i s).mem.wf := by
  unfold contextEvictEff
  exact State.blockWrite_wf _ _ _ _ _ h1 (contextEvictW_wf _ _ _ h1)

@[simp] theorem contextCreateEff_wf (via : Via) (p : Part) (i : Fin 16) (s : State) (h1 : s.mem.wf) :
    (contextCreateEff via p i s).mem.wf := by
  unfold contextCreateEff
  exact State.blockWrite_wf _ _ _ _ _ h1 (contextCreateW_wf _ _ _ h1)

@[simp] theorem slotStart_wf (p : Part) (n : Fin 256) (s : State) (h1 : s.mem.wf) :
    (slotStart p n s).mem.wf := by
  unfold slotStart
  refine ite_wf h1 (ite_wf (State.slotEnd_wf _ _ _ _ _ (wf_of_mem (State.tookFallback_mem ..) h1)) (ite_wf (State.slotEnd_wf _ _
    _ _ _ (wf_of_mem (State.tookFallback_mem ..) h1)) (ite_wf (State.slotEnd_wf _ _ _ _ _ (wf_of_mem (State.tookFallback_mem ..)
    h1)) (ite_wf h1 ?_))))
  split
  · split
    · exact State.slotEnd_wf _ _ _ _ _ (wf_of_mem (State.tookFallback_mem ..) h1)
    · exact ite_wf (State.slotEnd_wf _ _ _ _ _ (wf_of_mem (State.tookFallback_mem ..) h1)) (ite_wf h1 (ite_wf (wf_of_mem
        (State.startLaunch_mem ..) (wf_of_mem (State.noteLate_mem ..) (wf_of_mem (State.tookFallback_mem ..) h1)))
        (State.slotEnd_wf _ _ _ _ _ (wf_of_mem (State.noteLate_mem ..) (wf_of_mem (State.tookFallback_mem ..) h1)))))

@[simp] theorem launchSlotStartEff_wf (p : Part) (n : Fin 256) (s : State) (h1 : s.mem.wf) :
    (launchSlotStartEff p n s).mem.wf := by
  unfold launchSlotStartEff
  exact wf_of_mem (State.noteCtxs_mem ..) (slotStart_wf _ _ _ h1)

@[simp] theorem slotAbortEff_wf (via : Via) (p : Part) (n : Fin 256) (s : State) (h1 : s.mem.wf) :
    (slotAbortEff via p n s).mem.wf := by
  unfold slotAbortEff
  exact State.blockWrite_wf _ _ _ _ _ h1 (slotAbortW_wf _ _ _ h1)

@[simp] theorem slotArmEff_wf (via : Via) (p : Part) (n : Fin 256) (s : State) (h1 : s.mem.wf) :
    (slotArmEff via p n s).mem.wf := by
  unfold slotArmEff
  exact State.blockWrite_wf _ _ _ _ _ h1 (slotArmW_wf _ _ _ h1)

@[simp] theorem programReleaseEff_wf (via : Via) (p : Part) (n : Fin 1024) (s : State) (h1 : s.mem.wf) :
    (programReleaseEff via p n s).mem.wf := by
  unfold programReleaseEff
  exact State.blockWrite_wf _ _ _ _ _ h1 (progReleaseW_wf _ _ _ h1)

@[simp] theorem programRegisterEff_wf (via : Via) (p : Part) (n : Fin 1024) (address : Nat) (lengthKiB : Nat) (s : State)
    (h1 : s.mem.wf) :
    (programRegisterEff via p n address lengthKiB s).mem.wf := by
  unfold programRegisterEff
  refine State.blockWrite_wf _ _ _ _ _ h1 ?_
  split
  · exact WR.wf_error _
  · split
    · exact WR.wf_error _
    · exact progValidateW_wf _ _ _ ((progLengthW_wf _ _ _ _ ((progAddressW_wf _ _ _ _ h1) _ ‹_›)) _ ‹_›)

@[simp] theorem idleCounterClearEff_wf (via : Via) (p : Part) (value : Word) (s : State) (h1 : s.mem.wf) :
    (idleCounterClearEff via p value s).mem.wf := by
  unfold idleCounterClearEff
  exact State.partWrite_wf _ _ _ _ _ h1 (clearW_wf _ _ _ h1 (foldl_wf _ h1 fun _ _ fh => wf_of_mem (State.modCore_mem ..) fh))

@[simp] theorem idleCoreSelectEff_wf (via : Via) (p : Part) (value : Word) (s : State) (h1 : s.mem.wf) :
    (idleCoreSelectEff via p value s).mem.wf := by
  unfold idleCoreSelectEff
  exact State.partWrite_wf _ _ _ _ _ h1 (idleCoreSelectW_wf _ _ _ h1)

@[simp] theorem nonfiniteClearEff_wf (via : Via) (p : Part) (value : Word) (s : State) (h1 : s.mem.wf) :
    (nonfiniteClearEff via p value s).mem.wf := by
  unfold nonfiniteClearEff
  exact State.partWrite_wf _ _ _ _ _ h1 (nonfiniteClearW_wf _ _ _ h1)

@[simp] theorem walnutCounterClearEff_wf (via : Via) (p : Part) (value : Word) (s : State) (h1 : s.mem.wf) :
    (walnutCounterClearEff via p value s).mem.wf := by
  unfold walnutCounterClearEff
  exact State.partWrite_wf _ _ _ _ _ h1 (clearW_wf _ _ _ h1 (wf_of_mem (State.clearObjs_mem ..) h1))

@[simp] theorem engCounterClearEff_wf (via : Via) (p : Part) (value : Word) (s : State) (h1 : s.mem.wf) :
    (engCounterClearEff via p value s).mem.wf := by
  unfold engCounterClearEff
  exact State.partWrite_wf _ _ _ _ _ h1 (clearW_wf _ _ _ h1 (wf_of_mem (State.clearObjs_mem ..) h1))

@[simp] theorem arithFlagsClearEff_wf (via : Via) (p : Part) (value : Word) (s : State) (h1 : s.mem.wf) :
    (arithFlagsClearEff via p value s).mem.wf := by
  unfold arithFlagsClearEff
  exact State.partWrite_wf _ _ _ _ _ h1 (arithFlagsClearW_wf _ _ _ h1)

@[simp] theorem lossSubmitEff_wf (via : Option Via) (p : Part) (loss : Word32) (s : State) (h1 : s.mem.wf) :
    (lossSubmitEff via p loss s).mem.wf := by
  unfold lossSubmitEff
  split
  · exact wf_of_mem (State.submitLoss_mem ..) h1
  · exact State.partWrite_wf _ _ _ _ _ h1 ((WR.wf_ok _).2 (wf_of_mem (State.submitLoss_mem ..) h1))

@[simp] theorem fenceAbortEff_wf (via : Via) (p : Part) (value : Word) (s : State) (h1 : s.mem.wf) :
    (fenceAbortEff via p value s).mem.wf := by
  unfold fenceAbortEff
  exact State.partWrite_wf _ _ _ _ _ h1 (fenceAbortW_wf _ _ _ h1)

@[simp] theorem bankDrainEff_wf (c : Core) (e : Eng) (op : Drain) (shell : ShellOutcome) (s : State) (h1 : s.mem.wf) :
    (bankDrainEff c e op shell s).mem.wf := by
  unfold bankDrainEff
  refine ite_wf h1 ?_
  split
  · split
    · dsimp only
      split
      · exact wf_of_mem (State.opFail_mem ..) h1
      · exact wf_of_fst ‹_› (wf_of_mem (State.drainMeets_mem ..) h1)
    · dsimp only
      split
      · exact wf_of_mem (State.opFail_mem ..) h1
      · split
        · exact wf_of_fst ‹_› (wf_of_mem (State.drainMeets_mem ..) h1)
        · exact State.drainRun_wf _ _ _ _ _ _ _ (wf_of_fst ‹_› (wf_of_mem (State.drainMeets_mem ..) h1))

@[simp] theorem ctxDwordW_wf (s : State) (p : Nat) (i : Nat) (off : Nat) (v : Nat) (h1 : s.mem.wf) :
    (ctxDwordW s p i off v).Wf := by
  unfold ctxDwordW
  exact WR.wf_ite (WR.wf_ite (WR.wf_error _) (WR.wf_ite ((WR.wf_ok _).2 (wf_of_mem (State.setCtxE_mem ..) h1)) (WR.wf_error _)))
    (WR.wf_ite (WR.wf_ite (WR.wf_error _) (WR.wf_ite ((WR.wf_ok _).2 (wf_of_mem (State.setCtxE_mem ..) h1)) (WR.wf_error _)))
    (WR.wf_ite (WR.wf_ite (WR.wf_error _) (WR.wf_ite ((WR.wf_ok _).2 (wf_of_mem (State.setCtxE_mem ..) h1)) (WR.wf_error _)))
    (WR.wf_ite (WR.wf_ite (WR.wf_error _) (WR.wf_ite ((WR.wf_ok _).2 (wf_of_mem (State.setCtxE_mem ..) h1)) (WR.wf_error _)))
    (WR.wf_ite (WR.wf_ite (WR.wf_error _) (WR.wf_ite ((WR.wf_ok _).2 (wf_of_mem (State.setCtxE_mem ..) h1)) (WR.wf_error _)))
    (WR.wf_ite (WR.wf_ite (WR.wf_error _) (WR.wf_ite ((WR.wf_ok _).2 (wf_of_mem (State.setCtxE_mem ..) h1)) (WR.wf_error _)))
    (WR.wf_ite (WR.wf_ite (WR.wf_error _) (WR.wf_ite ((WR.wf_ok _).2 (wf_of_mem (State.setCtxE_mem ..) h1)) (WR.wf_error _)))
    (WR.wf_ite (ctlActs_wf _ _ _ _ h1 (List.forall_mem_cons.2 ⟨fun t h => contextCreateW_wf _ _ _ h, List.forall_mem_cons.2 ⟨fun
    t h => contextEvictW_wf _ _ _ h, List.forall_mem_cons.2 ⟨fun t h => contextTeardownW_wf _ _ _ h, List.forall_mem_nil _⟩⟩⟩))
    ((WR.wf_ok _).2 h1))))))))

@[simp] theorem slotDwordW_wf (s : State) (p : Nat) (n : Nat) (off : Nat) (v : Nat) (h1 : s.mem.wf) :
    (slotDwordW s p n off v).Wf := by
  unfold slotDwordW
  exact WR.wf_ite (WR.wf_ite ((WR.wf_ok _).2 (wf_of_mem (State.setSlot_mem ..) h1)) (WR.wf_error _)) (WR.wf_ite (WR.wf_ite
    ((WR.wf_ok _).2 (wf_of_mem (State.setSlot_mem ..) h1)) (WR.wf_error _)) (WR.wf_ite (WR.wf_ite ((WR.wf_ok _).2 (wf_of_mem
    (State.setSlot_mem ..) h1)) (WR.wf_error _)) (WR.wf_ite (WR.wf_ite ((WR.wf_ok _).2 (wf_of_mem (State.setSlot_mem ..) h1))
    (WR.wf_error _)) (WR.wf_ite (WR.wf_ite ((WR.wf_ok _).2 (wf_of_mem (State.setSlot_mem ..) h1)) (WR.wf_error _)) (WR.wf_ite
    (WR.wf_ite ((WR.wf_ok _).2 (wf_of_mem (State.setSlot_mem ..) h1)) (WR.wf_error _)) (WR.wf_ite (WR.wf_ite ((WR.wf_ok _).2
    (wf_of_mem (State.setSlot_mem ..) h1)) (WR.wf_error _)) (WR.wf_ite (WR.wf_ite ((WR.wf_ok _).2 (wf_of_mem (State.setSlot_mem
    ..) h1)) (WR.wf_error _)) (WR.wf_ite (WR.wf_ite ((WR.wf_ok _).2 (wf_of_mem (State.setSlot_mem ..) h1)) (WR.wf_error _))
    (WR.wf_ite (ctlActs_wf _ _ _ _ (wf_of_mem (State.setSlot_mem ..) h1) (List.forall_mem_cons.2 ⟨fun t h => slotArmW_wf _ _ _ h,
    List.forall_mem_cons.2 ⟨fun t h => slotAbortW_wf _ _ _ h, List.forall_mem_nil _⟩⟩)) ((WR.wf_ok _).2 h1))))))))))

@[simp] theorem blockDwordW_wf (s : State) (via : Via) (p : Nat) (off : Nat) (v : Nat) (h1 : s.mem.wf) :
    (blockDwordW s via p off v).Wf := by
  unfold blockDwordW
  exact WR.wf_ite (slotDwordW_wf _ _ _ _ _ h1) (WR.wf_ite (progDwordW_wf _ _ _ _ _ h1) (WR.wf_ite (WR.wf_ite (State.dmaShadowW_wf
    _ _ _ _ h1) (WR.wf_ite (State.dmaControlW_wf _ _ _ _ h1) (WR.wf_ite (State.dmaStatusW_wf _ _ _ h1) ((WR.wf_ok _).2 h1))))
    (WR.wf_ite (ctxDwordW_wf _ _ _ _ _ h1) (WR.wf_error _))))

@[simp] theorem objSizedW_wf (s : State) (via : Via) (index : Nat) (sub : Nat) (size : Nat) (v : Word) (h1 : s.mem.wf) :
    (objSizedW s via index sub size v).Wf := by
  unfold objSizedW
  split
  · exact WR.wf_error _
  · exact WR.wf_ite (WR.wf_error _) (objW_wf _ _ _ _ _ h1)

/-! ## Recursions -/

@[simp] theorem answerAll_wf (rs : List CanRequest) (s : State) (h : s.mem.wf) : (answerAll rs s).mem.wf := by
  induction rs generalizing s with
  | nil => exact h
  | cons r rs ih => exact ih _ (State.answer_wf _ _ h)

@[simp] theorem startWaiting_wf (ws : List WaitReset) (s : State) (h : s.mem.wf) : (startWaiting ws s).mem.wf := by
  induction ws generalizing s with
  | nil => exact h
  | cons w ws ih => exact ih _ (State.startReset_wf _ _ _ _ h)

@[simp] theorem climbRungs_wf (l : List (Nat × Option RungSt)) (s : State) (h : s.mem.wf) : (climbRungs l s).mem.wf := by
  induction l generalizing s with
  | nil => exact h
  | cons x l ih =>
    obtain ⟨k, r⟩ := x
    cases r with
    | none => exact ih s h
    | some r =>
      exact ih _ (ite_wf (ite_wf h (ite_wf (wf_of_mem (State.modHang_mem ..) h) (State.rung2_wf _ _ _ h)))
        (ite_wf h (State.rung3_wf _ _ (wf_of_mem (State.modHang_mem ..) h))))

@[simp] theorem serveCopy_mem (p : Nat) (r : FetchReq) (a seq n off : Nat) (s : State) :
    (serveCopy p r a seq n off s).mem = s.mem := by
  induction n generalizing off s with
  | zero => rfl
  | succ n ih => exact (ih _ _).trans (State.inject_mem ..)

/-- A device that goes off keeps nothing in its memory. -/
@[simp] theorem State.powerOff_wf (s : State) : s.powerOff.mem.wf := Mem.empty_wf

/-- What a bucket takes keeps the canonical form. -/
theorem State.bucketDeliver_wf {s t : State} {b : BucketDest} {bs : List Byte} (h : s.bucketDeliver b bs = some t)
    (hs : s.mem.wf) : t.mem.wf := by
  unfold State.bucketDeliver at h
  extract_lets j k f s' c at h
  split at h
  · injection h with h
    exact wf_of_mem (h ▸ State.collDrop_mem ..) hs
  split at h
  · injection h with h
    exact wf_of_mem (h ▸ State.modCs_mem ..) (hs : s'.mem.wf)
  split at h
  · cases h
  split at h
  · injection h with h
    exact h ▸ hs
  split at h
  · injection h with h
    exact wf_of_mem (h ▸ State.collDrop_mem ..) hs
  split at h
  · cases h
  · injection h with h
    exact h ▸ State.settle_wf _ _ (wf_of_mem (State.setCtx_mem ..) (hs : s'.mem.wf))

/-! ## Health -/

theorem recommendAll_wf (l : List Nat) (s : State) (h : s.mem.wf) : (l.foldl (fun s c => recommendPart c s) s).mem.wf :=
  foldl_wf l h fun t b ht => recommendPart_wf b t ht

@[simp] theorem healthSubwindowEndEff_wf (s : State) (h : s.mem.wf) : (healthSubwindowEndEff s).mem.wf := by
  rw [healthSubwindowEndEff]
  dsimp only
  split
  · exact h
  · apply recommendAll_wf
    rw [State.wrN_mem, State.wrN_mem, State.modHealth_mem]
    exact h

@[simp] theorem State.canFrame_wf (s : State) (r : CanRequest) (h1 : s.mem.wf) :
    (s.canFrame r).mem.wf := by
  unfold State.canFrame
  exact ite_wf h1 (ite_wf (wf_of_mem (State.ignoreCan_mem ..) h1) (ite_wf (wf_of_mem (State.respond_mem ..) (wf_of_mem
    (State.rxCan_mem ..) h1)) (answerAll_wf _ _ (wf_of_mem (State.modMgmt_mem ..) (wf_of_mem (State.rxCan_mem ..) h1)))))

@[simp] theorem State.gradRun_wf (s : State) (c : Core) (e : Eng) (op : GradPass) (sx : Src) (sd : Src) (h1 : s.mem.wf) :
    (s.gradRun c e op sx sd).mem.wf := by
  unfold State.gradRun
  exact wf_of_mem (State.waits_mem ..) (wf_of_mem (State.waits_mem ..) (wf_of_mem (State.pCount_mem ..) (wf_of_mem
    (State.pCount_mem ..) (wf_of_mem (State.raiseFlags_mem ..) (gradCells_wf _ _ _ _ _ _ _ _ _ _ _ _ (ite_wf (wf_of_mem
    (loadBlockRows_mem ..) (wf_of_mem (loadBlockRows_mem ..) h1)) (wf_of_mem (State.openRegion_mem ..) (wf_of_mem
    (loadBlockRows_mem ..) (wf_of_mem (loadBlockRows_mem ..) h1)))))))))

@[simp] theorem State.loadRun_wf (s : State) (c : Core) (e : Eng) (op : BlockLoad) (src : Src) (h1 : s.mem.wf) :
    (s.loadRun c e op src).mem.wf := by
  unfold State.loadRun
  exact wf_of_mem (State.modEngine_mem ..) (wf_of_mem (State.waits_mem ..) (wf_of_mem (State.pCount_mem ..) (wf_of_mem
    (loadBlockRows_mem ..) h1)))

@[simp] theorem State.normRun_wf (s : State) (c : Core) (op : NormFwd) (vx : VOpen) (vg : VOpen) (h1 : s.mem.wf) :
    (s.normRun c op vx vg).mem.wf := by
  unfold State.normRun
  refine storeV_wf _ _ _ _ ?_
  split
  · refine wf_of_mem (State.raiseFlags_mem ..) ?_
    split
    · split
      · exact h1
      · exact h1
      · split
        · exact wf_of_snd ‹_› (wf_of_mem (loadConvert_mem ..) h1)
    · split
      · exact h1
      · exact h1
      · split
        · exact wf_of_snd ‹_› (wf_of_mem (loadConvert_mem ..) h1)
    · split
      · refine wf_of_snd ‹_› (wf_of_mem (loadConvert_mem ..) ?_)
        split
        · exact h1
        · exact h1
        · split
          · exact wf_of_snd ‹_› (wf_of_mem (loadConvert_mem ..) h1)
  · refine State.writeLE_wf (State.writeLE_wf (wf_of_mem (State.raiseFlags_mem ..) ?_) _ _ _) _ _ _
    split
    · split
      · exact h1
      · exact h1
      · split
        · exact wf_of_snd ‹_› (wf_of_mem (loadConvert_mem ..) h1)
    · split
      · exact h1
      · exact h1
      · split
        · exact wf_of_snd ‹_› (wf_of_mem (loadConvert_mem ..) h1)
    · split
      · refine wf_of_snd ‹_› (wf_of_mem (loadConvert_mem ..) ?_)
        split
        · exact h1
        · exact h1
        · split
          · exact wf_of_snd ‹_› (wf_of_mem (loadConvert_mem ..) h1)

@[simp] theorem State.passRun_wf (s : State) (c : Core) (e : Eng) (op : BlockPass) (src : Src) (g : Engine) (pre : PreSrc)
    (h1 : s.mem.wf) :
    (s.passRun c e op src g pre).mem.wf := by
  unfold State.passRun
  exact wf_of_mem (State.modEngine_mem ..) (wf_of_mem (State.waits_mem ..) (wf_of_mem (State.waits_mem ..) (wf_of_mem
    (State.pCount_mem ..) (wf_of_mem (State.pCount_mem ..) (wf_of_mem (State.raiseFlags_mem ..) (wf_of_mem (passStream_mem ..)
    (wf_of_mem (preVals_mem ..) h1)))))))

@[simp] theorem State.wdrainBucket_wf (s : State) (c : Core) (op : WDrain) (b : BucketDest) (lines : List Nat) (h1 : s.mem.wf) :
    (s.wdrainBucket c op b lines).mem.wf := by
  unfold State.wdrainBucket
  dsimp only
  split
  · exact wf_of_mem (State.markDraining_mem ..) h1
  · exact ite_wf (wf_of_mem (State.markDraining_mem ..) (State.zeroLines_wf _ _ _ _ (wf_of_mem (State.waits_mem ..) (wf_of_mem
      (State.countClass_mem ..) (wf_of_mem (State.raiseFlags_mem ..) (State.bucketDeliver_wf ‹_› h1)))))) (wf_of_mem
      (State.dropBucketRoom_mem ..) (State.closeRegion_wf _ _ _ (wf_of_mem (State.waits_mem ..) (wf_of_mem (State.countClass_mem
      ..) (wf_of_mem (State.raiseFlags_mem ..) (State.bucketDeliver_wf ‹_› h1))))))

@[simp] theorem State.wdrainRun_wf (s : State) (c : Core) (op : WDrain) (lines : List Nat) (h1 : s.mem.wf) :
    (s.wdrainRun c op lines).mem.wf := by
  unfold State.wdrainRun
  split
  · exact State.wdrainBucket_wf _ _ _ _ _ h1
  · exact State.closeRegion_wf _ _ _ (storeDst_wf _ _ _ _ (wf_of_mem (State.waits_mem ..) (wf_of_mem (State.raiseFlags_mem ..)
      h1)))
  · exact State.closeRegion_wf _ _ _ (wf_of_mem (State.modCore_mem ..) (wf_of_mem (State.waits_mem ..) (wf_of_mem
      (State.raiseFlags_mem ..) h1)))

@[simp] theorem reclaimDoneEff_wf (p : Part) (s : State) (h1 : s.mem.wf) :
    (reclaimDoneEff p s).mem.wf := by
  unfold reclaimDoneEff
  exact ite_wf h1 (startWaiting_wf _ _ (wf_of_mem (State.modSec_mem ..) (foldl_wf _ h1 fun _ _ fh => State.reclaimMember_wf _ _
    fh)))

@[simp] theorem inputOvervoltageEff_wf (milliV : Nat) (us : Nat) (s : State) (h1 : s.mem.wf) :
    (inputOvervoltageEff milliV us s).mem.wf := by
  unfold inputOvervoltageEff
  exact ite_wf h1 (ite_wf (wf_of_mem (State.inputFault_mem ..) h1) (State.powerOff_wf ..))

@[simp] theorem inputUndervoltageEff_wf (milliV : Nat) (us : Nat) (s : State) (h1 : s.mem.wf) :
    (inputUndervoltageEff milliV us s).mem.wf := by
  unfold inputUndervoltageEff
  exact ite_wf h1 (ite_wf (ite_wf (wf_of_mem (State.modPow_mem ..) (wf_of_mem (State.inputFault_mem ..) (wf_of_mem
    (State.cycleRequest_mem ..) h1))) (wf_of_mem (State.inputFault_mem ..) (wf_of_mem (State.cycleRequest_mem ..) h1))) (ite_wf
    (wf_of_mem (State.applyCut_mem ..) (wf_of_mem (State.inputFault_mem ..) (wf_of_mem (State.cycleRequest_mem ..) h1)))
    (State.powerOff_wf ..)))

@[simp] theorem canWriteSegEff_wf (r : CanRequest) (s : State) (h1 : s.mem.wf) :
    (canWriteSegEff r s).mem.wf := by
  unfold canWriteSegEff
  exact ite_wf (State.canFrame_wf _ _ h1) h1

@[simp] theorem canReadSegEff_wf (r : CanRequest) (s : State) (h1 : s.mem.wf) :
    (canReadSegEff r s).mem.wf := by
  unfold canReadSegEff
  exact ite_wf (State.canFrame_wf _ _ h1) h1

@[simp] theorem canWriteEff_wf (r : CanRequest) (s : State) (h1 : s.mem.wf) :
    (canWriteEff r s).mem.wf := by
  unfold canWriteEff
  exact ite_wf (State.canFrame_wf _ _ h1) h1

@[simp] theorem canReadEff_wf (r : CanRequest) (s : State) (h1 : s.mem.wf) :
    (canReadEff r s).mem.wf := by
  unfold canReadEff
  exact ite_wf h1 (State.canFrame_wf _ _ h1)

@[simp] theorem rungTimeoutEff_wf (p : Part) (s : State) (h1 : s.mem.wf) :
    (rungTimeoutEff p s).mem.wf := by
  unfold rungTimeoutEff
  split
  · split
    · dsimp only
      split
      · exact wf_of_mem (State.modHang_mem ..) h1
      · exact ite_wf h1 (State.rung4_wf _ _ _ (foldl_wf _ (wf_of_mem (State.modHang_mem ..) h1) fun _ _ fh => wf_of_mem
          (State.pWr_mem ..) fh))
      · exact h1
    · dsimp only
      split
      · exact wf_of_mem (State.modHang_mem ..) h1
      · exact ite_wf h1 (State.rung4_wf _ _ _ (foldl_wf _ (wf_of_mem (State.modHang_mem ..) h1) fun _ _ fh => wf_of_mem
          (State.pWr_mem ..) fh))
      · exact climbRungs_wf _ _ h1
  · split
    · dsimp only
      split
      · exact ite_wf h1 (wf_of_mem (State.rung5_mem ..) (wf_of_mem (State.modHang_mem ..) h1))
      · exact ite_wf h1 (State.rung4_wf _ _ _ (foldl_wf _ (wf_of_mem (State.modHang_mem ..) h1) fun _ _ fh => wf_of_mem
          (State.pWr_mem ..) fh))
      · exact h1
    · dsimp only
      split
      · exact ite_wf h1 (wf_of_mem (State.rung5_mem ..) (wf_of_mem (State.modHang_mem ..) h1))
      · exact ite_wf h1 (State.rung4_wf _ _ _ (foldl_wf _ (wf_of_mem (State.modHang_mem ..) h1) fun _ _ fh => wf_of_mem
          (State.pWr_mem ..) fh))
      · exact climbRungs_wf _ _ h1

@[simp] theorem serveRequestProcessEff_wf (p : Part) (shell : ShellOutcome) (s : State) (h1 : s.mem.wf) :
    (serveRequestProcessEff p shell s).mem.wf := by
  unfold serveRequestProcessEff
  split
  · dsimp only
    split
    · exact h1
    · exact h1
  · split
    · dsimp only
      split
      · split
        · exact wf_of_mem (State.sendNotice_mem ..) (wf_of_mem (State.setLoader_mem ..) h1)
        · exact ite_wf (wf_of_mem (State.sendNotice_mem ..) (wf_of_mem (State.setLoader_mem ..) h1)) (ite_wf h1 (wf_of_mem
            (State.sendNotice_mem ..) (wf_of_mem (State.memMeets_mem ..) (wf_of_mem (State.setLoader_mem ..) h1))))
      · exact h1
    · dsimp only
      split
      · split
        · exact wf_of_mem (State.sendNotice_mem ..) (wf_of_mem (State.setLoader_mem ..) h1)
        · exact ite_wf (wf_of_mem (State.sendNotice_mem ..) (wf_of_mem (State.setLoader_mem ..) h1)) (ite_wf h1 (wf_of_mem
            (serveCopy_mem ..) (wf_of_mem (State.modLoader_mem ..) (wf_of_mem (State.bindSlot_mem ..) (wf_of_mem
            (State.memNote_mem ..) (wf_of_mem (State.setLoader_mem ..) h1))))))
      · exact h1

@[simp] theorem walnutDrainEff_wf (c : Core) (op : WDrain) (shell : ShellOutcome) (s : State) (h1 : s.mem.wf) :
    (walnutDrainEff c op shell s).mem.wf := by
  unfold walnutDrainEff
  refine ite_wf h1 (ite_wf (wf_of_mem (State.opFail_mem ..) h1) ?_)
  split
  · exact wf_of_mem (State.opFail_mem ..) h1
  · split
    · split
      · dsimp only
        split
        · exact wf_of_mem (State.opFail_mem ..) h1
        · exact wf_of_fst ‹_› (wf_of_mem (State.opReadWalnut_mem ..) h1)
      · dsimp only
        split
        · exact wf_of_mem (State.opFail_mem ..) h1
        · exact State.wdrainRun_wf _ _ _ _ (wf_of_fst ‹_› (wf_of_mem (State.opReadWalnut_mem ..) h1))

/-! ## Operations of a core on opened operands -/

/-- A transfer of what an operation reads, then the operation, where nothing stops it. -/
theorem opGoes_wf {p : State × Bool} {s : State} {f : State → State} (hp : p.1.mem = s.mem) (h : s.mem.wf)
    (hf : ∀ t : State, t.mem.wf → (f t).mem.wf) : (if p.2 = false then p.1 else f p.1).mem.wf :=
  ite_wf (wf_of_mem hp h) (hf _ (wf_of_mem hp h))

@[simp] theorem stationaryLoadEff_wf (c : Core) (e : Eng) (op : BlockLoad) (shell : ShellOutcome) (s : State) (h : s.mem.wf) :
    (stationaryLoadEff c e op shell s).mem.wf := by
  have failed (code : Nat) : (s.opFail c code).mem.wf := wf_of_mem (State.opFail_mem ..) h
  unfold stationaryLoadEff
  refine ite_wf h ?_
  split
  · exact failed _
  next s' src opened =>
    have h' : s'.mem.wf := wf_of_mem (openSrc_mem opened) h
    exact ite_wf (failed _) (opGoes_wf (State.opRead_mem ..) h' fun t ht => State.loadRun_wf _ _ _ _ _ ht)

@[simp] theorem blockPassEff_wf (c : Core) (e : Eng) (op : BlockPass) (shell : ShellOutcome) (s : State) (h : s.mem.wf) :
    (blockPassEff c e op shell s).mem.wf := by
  have failed (code : Nat) : (s.opFail c code).mem.wf := wf_of_mem (State.opFail_mem ..) h
  unfold blockPassEff
  refine ite_wf h ?_
  dsimp only
  split
  · exact failed _
  next s1 src opened =>
    have h1 : s1.mem.wf := wf_of_mem (openSrc_mem opened) h
    refine ite_wf (failed _) ?_
    split
    · exact failed _
    next s2 pre opened2 =>
      have h2 : s2.mem.wf := wf_of_mem (preOpen_mem opened2) h1
      exact opGoes_wf (State.opRead_mem ..) h2 fun t ht => State.passRun_wf _ _ _ _ _ _ _ ht

@[simp] theorem gradientPassEff_wf (c : Core) (e : Eng) (op : GradPass) (inWalnut : Bool) (shell : ShellOutcome) (s : State)
    (h : s.mem.wf) : (gradientPassEff c e op inWalnut shell s).mem.wf := by
  have failed (code : Nat) : (s.opFail c code).mem.wf := wf_of_mem (State.opFail_mem ..) h
  unfold gradientPassEff
  refine ite_wf h ?_
  split
  · exact failed _
  next s1 sx opened =>
    have h1 : s1.mem.wf := wf_of_mem (openSrc_mem opened) h
    split
    · exact failed _
    next s2 sd opened2 =>
      have h2 : s2.mem.wf := wf_of_mem (openSrc_mem opened2) h1
      exact ite_wf (failed _) (opGoes_wf (State.opReadBoth_mem ..) h2 fun t ht => State.gradRun_wf _ _ _ _ _ _ ht)

@[simp] theorem vectorOperationEff_wf (c : Core) (op : VecOp) (shell : ShellOutcome) (s : State) (h : s.mem.wf) :
    (vectorOperationEff c op shell s).mem.wf := by
  have failed (code : Nat) : (s.opFail c code).mem.wf := wf_of_mem (State.opFail_mem ..) h
  unfold vectorOperationEff
  refine ite_wf h (ite_wf (failed _) ?_)
  split
  · exact failed _
  split
  · exact failed _
  next s1 va opened =>
    have h1 : s1.mem.wf := wf_of_mem (openV_mem opened) h
    split
    · exact failed _
    next s2 vb opened2 =>
      have h2 : s2.mem.wf := wf_of_mem (openV_mem opened2) h1
      split
      · exact failed _
      next s3 vc opened3 =>
        have h3 : s3.mem.wf := wf_of_mem (openV_mem opened3) h2
        exact opGoes_wf (State.vecMeets_mem ..) h3 fun t ht => State.vectorRun_wf _ _ _ _ _ _ ht

@[simp] theorem rowReductionEff_wf (c : Core) (op : RowRed) (shell : ShellOutcome) (s : State) (h : s.mem.wf) :
    (rowReductionEff c op shell s).mem.wf := by
  have failed (code : Nat) : (s.opFail c code).mem.wf := wf_of_mem (State.opFail_mem ..) h
  unfold rowReductionEff
  refine ite_wf h (ite_wf (failed _) ?_)
  split
  · exact failed _
  · exact failed _
  next s' v _ opened =>
    have h' : s'.mem.wf := wf_of_mem (openV_mem opened) h
    exact opGoes_wf (State.vecMeets_mem ..) h' fun t ht => State.reductionRun_wf _ _ _ _ ht

@[simp] theorem rowNormalisationEff_wf (c : Core) (op : NormFwd) (shell : ShellOutcome) (s : State) (h : s.mem.wf) :
    (rowNormalisationEff c op shell s).mem.wf := by
  have failed (code : Nat) : (s.opFail c code).mem.wf := wf_of_mem (State.opFail_mem ..) h
  unfold rowNormalisationEff
  refine ite_wf h (ite_wf (failed _) ?_)
  split
  · exact failed _
  · exact failed _
  split
  · exact failed _
  next s1 vx opened =>
    have h1 : s1.mem.wf := wf_of_mem (openV_mem opened) h
    split
    · exact failed _
    next s2 vg opened2 =>
      have h2 : s2.mem.wf := wf_of_mem (openV_mem opened2) h1
      exact opGoes_wf (State.vecMeets_mem ..) h2 fun t ht => State.normRun_wf _ _ _ _ _ ht

@[simp] theorem normBackwardEff_wf (c : Core) (op : NormBwd) (shell : ShellOutcome) (s : State) (h : s.mem.wf) :
    (normBackwardEff c op shell s).mem.wf := by
  have failed (code : Nat) : (s.opFail c code).mem.wf := wf_of_mem (State.opFail_mem ..) h
  unfold normBackwardEff
  refine ite_wf h (ite_wf (failed _) ?_)
  split
  · exact failed _
  · exact failed _
  split
  · exact failed _
  next s1 vx opened =>
    have h1 : s1.mem.wf := wf_of_mem (openV_mem opened) h
    split
    · exact failed _
    next s2 vd opened2 =>
      have h2 : s2.mem.wf := wf_of_mem (openV_mem opened2) h1
      split
      · exact failed _
      next s3 vg opened3 =>
        have h3 : s3.mem.wf := wf_of_mem (openV_mem opened3) h2
        exact opGoes_wf (State.vecMeets_mem ..) h3 fun t ht => State.normBackRun_wf _ _ _ _ _ _ ht

/-! ## Writes through a command block -/

@[simp] theorem blockW_wf (s : State) (via : Via) (p off size : Nat) (v : Word) (h : s.mem.wf) :
    (blockW s via p off size v).Wf := by
  unfold blockW
  refine WR.wf_ite (blockDwordW_wf _ _ _ _ _ h) (WR.wf_ite (WR.wf_ite ?_ ?_) (WR.wf_error _))
  · exact WR.wf_bind (blockDwordW_wf _ _ _ _ _ h) fun t ht => blockDwordW_wf _ _ _ _ _ ht
  · exact WR.wf_bind (blockDwordW_wf _ _ _ _ _ h) fun t ht => blockDwordW_wf _ _ _ _ _ ht

@[simp] theorem registerWriteEff_wf (via : Via) (reg : RegAddr) (size : Nat) (value : Word) (s : State) (h1 : s.mem.wf) :
    (registerWriteEff via reg size value s).mem.wf := by
  unfold registerWriteEff
  split
  · exact State.objWrite_wf _ _ _ _ _ h1 (objSizedW_wf _ _ _ _ _ _ h1)
  · exact State.blockWrite_wf _ _ _ _ _ h1 (blockW_wf _ _ _ _ _ _ h1)
  · split
    · exact ite_wf (wf_of_mem (State.modFunc_mem ..) h1) h1
    · exact h1
  · exact ite_wf (wf_of_mem (State.funcWrite_mem ..) h1) h1
  · exact ite_wf h1 h1
  · exact ite_wf (State.applyW_wf _ _ _ _ _ h1 (WR.wf_ite ((WR.wf_ok _).2 h1) (WR.wf_error _))) h1
  · split
    · exact ite_wf (ite_wf (wf_of_mem (State.dmaNoBus_mem ..) (wf_of_mem (State.modFunc_mem ..) h1)) (wf_of_mem
        (State.modFunc_mem ..) h1)) h1
    · exact h1
  · split
    · exact ite_wf (wf_of_mem (State.emit_mem ..) (wf_of_mem (State.recordRefuse_mem ..) h1)) h1
    · exact h1

/-! ## Every command -/

/-- What a command answers has the memory of its effect. -/
theorem outcome_wf {s t u : State} (hu : u.mem.wf) (e : s.outcome u = .next t) : t.mem.wf := by
  injection e with e
  exact e ▸ hu

/-- Every command keeps the canonical form of memory. -/
theorem exec_wf (c : Instr) (s t : State) (h : s.mem.wf) (e : exec c s = .next t) : t.mem.wf := by
  cases c with
  | registerWrite => exact outcome_wf (registerWriteEff_wf _ _ _ _ _ h) e
  | stationaryLoad => exact outcome_wf (stationaryLoadEff_wf _ _ _ _ _ h) e
  | blockPass => exact outcome_wf (blockPassEff_wf _ _ _ _ _ h) e
  | gradientPass => exact outcome_wf (gradientPassEff_wf _ _ _ _ _ _ h) e
  | bankDrain => exact outcome_wf (bankDrainEff_wf _ _ _ _ _ h) e
  | walnutDrain => exact outcome_wf (walnutDrainEff_wf _ _ _ _ h) e
  | walnutDiscard => exact outcome_wf (walnutDiscardEff_wf _ _ _ h) e
  | vectorOperation => exact outcome_wf (vectorOperationEff_wf _ _ _ _ h) e
  | rowReduction => exact outcome_wf (rowReductionEff_wf _ _ _ _ h) e
  | rowNormalisation => exact outcome_wf (rowNormalisationEff_wf _ _ _ _ h) e
  | normBackward => exact outcome_wf (normBackwardEff_wf _ _ _ _ h) e
  | walnutVectorAdd => exact outcome_wf (walnutVectorAddEff_wf _ _ _ _ _ _ _ h) e
  | paramWrite => exact outcome_wf (wf_of_mem (paramWriteEff_mem ..) h) e
  | amaxSlotClear => exact outcome_wf (wf_of_mem (amaxSlotClearEff_mem ..) h) e
  | amaxSlotRead => exact outcome_wf (wf_of_mem (amaxSlotReadEff_mem ..) h) e
  | flagClear => exact outcome_wf (wf_of_mem (flagClearEff_mem ..) h) e
  | loopEnter => exact outcome_wf (wf_of_mem (loopEnterEff_mem ..) h) e
  | loopEnd => exact outcome_wf (wf_of_mem (loopEndEff_mem ..) h) e
  | tileIssue => exact outcome_wf (wf_of_mem (tileIssueEff_mem ..) h) e
  | tileComplete => exact outcome_wf (wf_of_mem (tileCompleteEff_mem ..) h) e
  | stepBegin => exact outcome_wf (wf_of_mem (stepBeginEff_mem ..) h) e
  | microBatchAdmit => exact outcome_wf (wf_of_mem (microBatchAdmitEff_mem ..) h) e
  | microBatchRetire => exact outcome_wf (microBatchRetireEff_wf _ _ _ h) e
  | optimizerWrite => exact outcome_wf (wf_of_mem (optimizerWriteEff_mem ..) h) e
  | regionMarkWritten => exact outcome_wf (wf_of_mem (regionMarkWrittenEff_mem ..) h) e
  | stepFenceCommit => exact outcome_wf (stepFenceMirrorEff_wf _ _ h) e
  | fenceAbort => exact outcome_wf (fenceAbortEff_wf _ _ _ _ h) e
  | lossSubmit => exact outcome_wf (lossSubmitEff_wf _ _ _ _ h) e
  | arithFlagsClear => exact outcome_wf (arithFlagsClearEff_wf _ _ _ _ h) e
  | engCounterClear => exact outcome_wf (engCounterClearEff_wf _ _ _ _ h) e
  | walnutCounterClear => exact outcome_wf (walnutCounterClearEff_wf _ _ _ _ h) e
  | nonfiniteClear => exact outcome_wf (nonfiniteClearEff_wf _ _ _ _ h) e
  | idleCoreSelect => exact outcome_wf (idleCoreSelectEff_wf _ _ _ _ h) e
  | idleCounterClear => exact outcome_wf (idleCounterClearEff_wf _ _ _ _ h) e
  | programRegister => exact outcome_wf (programRegisterEff_wf _ _ _ _ _ _ h) e
  | imageValidationDone => exact outcome_wf (wf_of_mem (imageValidationDoneEff_mem ..) h) e
  | programRelease => exact outcome_wf (programReleaseEff_wf _ _ _ _ h) e
  | slotArm => exact outcome_wf (slotArmEff_wf _ _ _ _ h) e
  | slotAbort => exact outcome_wf (slotAbortEff_wf _ _ _ _ h) e
  | launchSlotStart => exact outcome_wf (launchSlotStartEff_wf _ _ _ h) e
  | launchComplete => exact outcome_wf (launchCompleteEff_wf _ _ _ h) e
  | contextCreate => exact outcome_wf (contextCreateEff_wf _ _ _ _ h) e
  | contextEvict => exact outcome_wf (contextEvictEff_wf _ _ _ _ h) e
  | contextTeardown => exact outcome_wf (contextTeardownEff_wf _ _ _ _ h) e
  | swapperEvaluate => exact outcome_wf (wf_of_mem (swapperEvaluateEff_mem ..) h) e
  | contextEvictDone => exact outcome_wf (contextEvictDoneEff_wf _ _ _ _ h) e
  | contextRestoreDone => exact outcome_wf (contextRestoreDoneEff_wf _ _ _ h) e
  | heldDeliveryFlush => exact outcome_wf (heldDeliveryFlushEff_wf _ _ h) e
  | sliceExpiry => exact outcome_wf (wf_of_mem (sliceExpiryEff_mem ..) h) e
  | quietReq => exact outcome_wf (wf_of_mem (quietReqEff_mem ..) h) e
  | quietAck => exact outcome_wf (wf_of_mem (quietAckEff_mem ..) h) e
  | teardownComplete => exact outcome_wf (teardownCompleteEff_wf _ _ _ h) e
  | teardownDeadline => exact outcome_wf (teardownDeadlineEff_wf _ _ _ h) e
  | retireHoldExpiry => exact outcome_wf (wf_of_mem (retireHoldExpiryEff_mem ..) h) e
  | groupLeadWrite => exact outcome_wf (groupLeadWriteEff_wf _ _ _ _ h) e
  | schedCounterClear => exact outcome_wf (schedCounterClearEff_wf _ _ _ _ h) e
  | dmaStart => exact outcome_wf (dmaStartEff_wf _ _ _ _ _ _ _ _ _ h) e
  | dmaArm => exact outcome_wf (dmaArmEff_wf _ _ _ h) e
  | dmaPromotion => exact outcome_wf (wf_of_mem (dmaPromotionEff_mem ..) h) e
  | dmaBurst => exact outcome_wf (dmaBurstEff_wf _ _ _ _ h) e
  | dmaFence => exact outcome_wf (dmaFenceEff_wf _ _ _ h) e
  | arrivalFenceComplete => exact outcome_wf (arrivalFenceCompleteEff_wf _ _ _ h) e
  | arrivalTimeout => exact outcome_wf (arrivalTimeoutEff_wf _ _ h) e
  | dmaStop => exact outcome_wf (dmaStopEff_wf _ _ _ h) e
  | dmaResume => exact outcome_wf (dmaResumeEff_wf _ _ _ h) e
  | dmaClear => exact outcome_wf (dmaClearEff_wf _ _ _ h) e
  | dmaCounterClear => exact outcome_wf (dmaCounterClearEff_wf _ _ _ _ h) e
  | peerWrite => exact outcome_wf (peerWriteEff_wf _ _ _ h) e
  | peerAck => exact outcome_wf (wf_of_mem (peerAckEff_mem ..) h) e
  | retainMaskWrite => exact outcome_wf (retainMaskWriteEff_wf _ _ _ _ h) e
  | tangoReserveWrite => exact outcome_wf (tangoReserveWriteEff_wf _ _ _ _ h) e
  | patrolScrubRead => exact outcome_wf (wf_of_mem (patrolScrubReadEff_mem ..) h) e
  | eccLogClear => exact outcome_wf (eccLogClearEff_wf _ _ _ h) e
  | memCounterClear => exact outcome_wf (memCounterClearEff_wf _ _ _ _ h) e
  | portRetrain => exact outcome_wf (portRetrainEff_wf _ _ _ h) e
  | portDisable => exact outcome_wf (portDisableEff_wf _ _ _ h) e
  | portRecal => exact outcome_wf (portRecalEff_wf _ _ _ _ h) e
  | adaptationMonitorRequest => exact outcome_wf (adaptationMonitorRequestEff_wf _ _ _ _ h) e
  | portRoleWrite => exact outcome_wf (portRoleWriteEff_wf _ _ _ _ h) e
  | signalDetect => exact outcome_wf (wf_of_mem (signalDetectEff_mem ..) h) e
  | trainDone => exact outcome_wf (wf_of_mem (trainDoneEff_mem ..) h) e
  | checkExchange => exact outcome_wf (checkExchangeEff_wf _ _ _ h) e
  | drainDone => exact outcome_wf (wf_of_mem (drainDoneEff_mem ..) h) e
  | recalDone => exact outcome_wf (wf_of_mem (recalDoneEff_mem ..) h) e
  | fatalLinkFailure => exact outcome_wf (wf_of_mem (fatalLinkFailureEff_mem ..) h) e
  | flitReceive => exact outcome_wf (wf_of_mem (flitReceiveEff_mem ..) h) e
  | nak => exact outcome_wf (wf_of_mem (nakEff_mem ..) h) e
  | packetRoute => exact outcome_wf (wf_of_mem (packetRouteEff_mem ..) h) e
  | epochAnnounce => exact outcome_wf (wf_of_mem (epochAnnounceEff_mem ..) h) e
  | fabricEpochWrite => exact outcome_wf (fabricEpochWriteEff_wf _ _ _ h) e
  | epochWrite => exact outcome_wf (epochWriteEff_wf _ _ _ h) e
  | routeCommitBeatWrite => exact outcome_wf (routeCommitBeatWriteEff_wf _ _ _ h) e
  | routeBankExchange => exact outcome_wf (wf_of_mem (routeBankExchangeEff_mem ..) h) e
  | routeCopyDone => exact outcome_wf (wf_of_mem (routeCopyDoneEff_mem ..) h) e
  | fabricCounterClear => exact outcome_wf (fabricCounterClearEff_wf _ _ _ h) e
  | portCounterClear => exact outcome_wf (portCounterClearEff_wf _ _ _ _ h) e
  | tempoSend => exact outcome_wf (wf_of_mem (tempoSendEff_mem ..) h) e
  | tempoReceive => exact outcome_wf (wf_of_mem (tempoReceiveEff_mem ..) h) e
  | masterAnnouncementTimeout => exact outcome_wf (wf_of_mem (masterAnnouncementTimeoutEff_mem ..) h) e
  | holdoverEntry => exact outcome_wf (wf_of_mem (holdoverEntryEff_mem ..) h) e
  | timePpsEdge => exact outcome_wf (wf_of_mem (timePpsEdgeEff_mem ..) h) e
  | jobSlotAssign => exact outcome_wf (jobSlotAssignEff_wf _ _ _ _ h) e
  | slotEnable => exact outcome_wf (slotEnableEff_wf _ _ _ h) e
  | slotRelease => exact outcome_wf (slotReleaseEff_wf _ _ _ h) e
  | slotReleaseDone => exact outcome_wf (wf_of_mem (slotReleaseDoneEff_mem ..) h) e
  | allReduce => exact outcome_wf (allReduceEff_wf _ _ _ h) e
  | broadcast => exact outcome_wf (broadcastEff_wf _ _ _ h) e
  | allGather => exact outcome_wf (allGatherEff_wf _ _ _ h) e
  | reel => exact outcome_wf (reelEff_wf _ _ _ h) e
  | hora => exact outcome_wf (horaEff_wf _ _ _ h) e
  | stagingComplete => exact outcome_wf (stagingCompleteEff_wf _ _ _ _ h) e
  | collDataSegment => exact outcome_wf (collDataSegmentEff_wf _ _ h) e
  | openPacket => exact outcome_wf (openPacketEff_wf _ _ h) e
  | windowPacket => exact outcome_wf (windowPacketEff_wf _ _ h) e
  | excludedPacket => exact outcome_wf (excludedPacketEff_wf _ _ h) e
  | abortPacket => exact outcome_wf (abortPacketEff_wf _ _ h) e
  | resultPacket => exact outcome_wf (resultPacketEff_wf _ _ h) e
  | horaFree => exact outcome_wf (horaFreeEff_wf _ _ h) e
  | horaBufferRelease => exact outcome_wf (wf_of_mem (horaBufferReleaseEff_mem ..) h) e
  | softDeadline => exact outcome_wf (softDeadlineAllEff_wf _ _ _ _ _ h) e
  | hardDeadline => exact outcome_wf (hardDeadlineAllEff_wf _ _ _ _ h) e
  | orphanDeadline => exact outcome_wf (orphanDeadlineEff_wf _ _ _ _ h) e
  | bucketDone => exact outcome_wf (bucketDoneEff_wf _ _ _ _ h) e
  | collectiveDeadline => exact outcome_wf (collectiveDeadlineEff_wf _ _ _ _ h) e
  | reelReady => exact outcome_wf (reelReadyEff_wf _ _ h) e
  | reelVote => exact outcome_wf (reelVoteEff_wf _ _ h) e
  | collCounterClear => exact outcome_wf (collCounterClearEff_wf _ _ _ h) e
  | slotCounterClear => exact outcome_wf (slotCounterClearEff_wf _ _ _ _ h) e
  | define => exact outcome_wf (defineEff_wf _ _ _ h) e
  | defineSingle => exact outcome_wf (defineSingleEff_wf _ _ _ _ h) e
  | install => exact outcome_wf (installEff_wf _ _ _ _ _ h) e
  | clear => exact outcome_wf (clearEff_wf _ _ _ h) e
  | loadStart => exact outcome_wf (loadStartEff_wf _ _ _ _ h) e
  | loadCommit => exact outcome_wf (loadCommitEff_wf _ _ _ h) e
  | loadCancel => exact outcome_wf (loadCancelEff_wf _ _ _ h) e
  | loadRetry => exact outcome_wf (loadRetryEff_wf _ _ _ _ h) e
  | expectBeat => exact outcome_wf (wf_of_mem (expectBeatEff_mem ..) h) e
  | digestDone => exact outcome_wf (wf_of_mem (digestDoneEff_mem ..) h) e
  | fetchDeadline => exact outcome_wf (wf_of_mem (fetchDeadlineEff_mem ..) h) e
  | fetchNotice => exact outcome_wf (wf_of_mem (fetchNoticeEff_mem ..) h) e
  | serveEnable => exact outcome_wf (serveEnableEff_wf _ _ _ _ h) e
  | serveRequestReceive => exact outcome_wf (wf_of_mem (serveRequestReceiveEff_mem ..) h) e
  | serveRequestProcess => exact outcome_wf (serveRequestProcessEff_wf _ _ _ h) e
  | acornEntryWrite => exact outcome_wf (acornEntryWriteEff_wf _ _ _ _ h) e
  | weightCounterClear => exact outcome_wf (weightCounterClearEff_wf _ _ _ _ h) e
  | pair => exact outcome_wf (pairEff_wf _ _ _ h) e
  | tangoPairingStart => exact outcome_wf (tangoPairingStartEff_wf _ _ h) e
  | tangoListEntryWrite => exact outcome_wf (tangoListEntryWriteEff_wf _ _ _ h) e
  | mirrorBegin => exact outcome_wf (mirrorBeginEff_wf _ _ h) e
  | tangoBegin => exact outcome_wf (wf_of_mem (tangoBeginEff_mem ..) h) e
  | tangoData => exact outcome_wf (tangoDataEff_wf _ _ h) e
  | tangoAck => exact outcome_wf (tangoAckEff_wf _ _ h) e
  | tangoComplete => exact outcome_wf (wf_of_mem (tangoCompleteEff_mem ..) h) e
  | tangoResume => exact outcome_wf (wf_of_mem (tangoResumeEff_mem ..) h) e
  | tangoResumeReply => exact outcome_wf (resumeReplyEff_wf _ _ h) e
  | mirrorLate => exact outcome_wf (wf_of_mem (mirrorLateEff_mem ..) h) e
  | tangoInterrupt => exact outcome_wf (tangoInterruptEff_wf _ h) e
  | tangoReleaseTagWrite => exact outcome_wf (tangoReleaseTagWriteEff_wf _ _ _ h) e
  | tangoStart => exact outcome_wf (tangoStartEff_wf _ _ h) e
  | tangoStop => exact outcome_wf (tangoStopEff_wf _ _ h) e
  | tangoPause => exact outcome_wf (tangoPauseEff_wf _ _ h) e
  | tangoUnpair => exact outcome_wf (tangoUnpairEff_wf _ _ h) e
  | tangoFreeze => exact outcome_wf (tangoFreezeEff_wf _ _ h) e
  | tangoUnfreeze => exact outcome_wf (tangoUnfreezeEff_wf _ _ h) e
  | tangoRollback => exact outcome_wf (tangoRollbackEff_wf _ _ h) e
  | tangoRestore => exact outcome_wf (tangoRestoreEff_wf _ _ _ h) e
  | tangoRestoreAbort => exact outcome_wf (tangoRestoreAbortEff_wf _ _ h) e
  | tangoRestoreDone => exact outcome_wf (tangoRestoreDoneEff_wf _ _ h) e
  | partnerSilent => exact outcome_wf (wf_of_mem (partnerSilentEff_mem ..) h) e
  | probeSend => exact outcome_wf (wf_of_mem (probeSendEff_mem ..) h) e
  | probe => exact outcome_wf (wf_of_mem (probeEff_mem ..) h) e
  | probeTimeout => exact outcome_wf (wf_of_mem (probeTimeoutEff_mem ..) h) e
  | trust => exact outcome_wf (trustEff_wf _ _ _ h) e
  | dead => exact outcome_wf (deadEff_wf _ _ _ h) e
  | healthSubwindowEnd => exact outcome_wf (healthSubwindowEndEff_wf _ h) e
  | healthPartStateWrite => exact outcome_wf (healthPartStateWriteEff_wf _ _ _ h) e
  | spotCheckCompare => exact outcome_wf (wf_of_mem (spotCheckCompareEff_mem ..) h) e
  | tileWatchdogExpiry => exact outcome_wf (tileWatchdogExpiryEff_wf _ _ h) e
  | gateWatchdogExpiry => exact outcome_wf (gateWatchdogExpiryEff_wf _ _ h) e
  | scanWatchdogExpiry => exact outcome_wf (scanWatchdogExpiryEff_wf _ _ _ h) e
  | arbiterWatchdogExpiry => exact outcome_wf (arbiterWatchdogExpiryEff_wf _ _ h) e
  | mcWatchdogExpiry => exact outcome_wf (wf_of_mem (mcWatchdogExpiryEff_mem ..) h) e
  | rungTimeout => exact outcome_wf (rungTimeoutEff_wf _ _ h) e
  | partReset => exact outcome_wf (partResetEff_wf _ _ _ _ h) e
  | partitionResetReady => exact outcome_wf (partitionResetReadyEff_wf _ _ _ h) e
  | vfFlr => exact outcome_wf (vfFlrEff_wf _ _ h) e
  | chipReset => exact outcome_wf (chipResetEff_wf _ _ _ h) e
  | perstAssert => exact outcome_wf (perstAssertEff_wf _ h) e
  | powerCycle => exact outcome_wf (powerCycleEff_wf _ _ _ h) e
  | powerCycleCancel => exact outcome_wf (powerCycleCancelEff_wf _ _ _ h) e
  | bistRequest => exact outcome_wf (bistRequestEff_wf _ _ _ _ h) e
  | bistDeferredStart => exact outcome_wf (wf_of_mem (bistDeferredStartEff_mem ..) h) e
  | bistCancel => exact outcome_wf (bistCancelEff_wf _ _ _ _ h) e
  | bistDone => exact outcome_wf (bistDoneEff_wf _ _ _ h) e
  | busMasterDisable => exact outcome_wf (wf_of_mem (busMasterDisableEff_mem ..) h) e
  | d3hotEntry => exact outcome_wf (wf_of_mem (d3hotEntryEff_mem ..) h) e
  | vfEnableChange => exact outcome_wf (wf_of_mem (vfEnableChangeEff_mem ..) h) e
  | msixVectorRelease => exact outcome_wf (wf_of_mem (msixVectorReleaseEff_mem ..) h) e
  | bar4Access => exact outcome_wf (bar4AccessEff_wf _ _ _ _ _ _ h) e
  | domainWindowAccess => exact outcome_wf (domainWindowAccessEff_wf _ _ _ _ h) e
  | atsInvalidation => exact outcome_wf (wf_of_mem (atsInvalidationEff_mem ..) h) e
  | canRead => exact outcome_wf (canReadEff_wf _ _ h) e
  | canWrite => exact outcome_wf (canWriteEff_wf _ _ h) e
  | canReadSeg => exact outcome_wf (canReadSegEff_wf _ _ h) e
  | canWriteSeg => exact outcome_wf (canWriteSegEff_wf _ _ h) e
  | heartbeatSend => exact outcome_wf (wf_of_mem (heartbeatSendEff_mem ..) h) e
  | controllerHeartbeat => exact outcome_wf (wf_of_mem (controllerHeartbeatEff_mem ..) h) e
  | ctrlHbTimeout => exact outcome_wf (wf_of_mem (ctrlHbTimeoutEff_mem ..) h) e
  | barzarEvent => exact outcome_wf (wf_of_mem (barzarEventEff_mem ..) h) e
  | eventFrameSend => exact outcome_wf (wf_of_mem (eventFrameSendEff_mem ..) h) e
  | assign => exact outcome_wf (wf_of_mem (assignEff_mem ..) h) e
  | restart => exact outcome_wf (wf_of_mem (restartEff_mem ..) h) e
  | congaInChange => exact outcome_wf (wf_of_mem (congaInChangeEff_mem ..) h) e
  | nodeIdConflict => exact outcome_wf (wf_of_mem (nodeIdConflictEff_mem ..) h) e
  | busOffRecovery => exact outcome_wf (wf_of_mem (busOffRecoveryEff_mem ..) h) e
  | rwsSaveDone => exact outcome_wf (wf_of_mem (rwsSaveDoneEff_mem ..) h) e
  | unlock => exact outcome_wf (unlockEff_wf _ _ _ h) e
  | commit => exact outcome_wf (commitEff_wf _ _ _ _ h) e
  | lock => exact outcome_wf (lockEff_wf _ _ _ h) e
  | calibrationCommitDone => exact outcome_wf (calibrationCommitDoneEff_wf _ _ h) e
  | calibrationStagingTimeout => exact outcome_wf (wf_of_mem (calibrationStagingTimeoutEff_mem ..) h) e
  | powerUp => exact outcome_wf (wf_of_mem (powerUpEff_mem ..) h) e
  | resetRelease => exact outcome_wf (resetReleaseEff_wf _ _ h) e
  | jobReady => exact outcome_wf (wf_of_mem (jobReadyEff_mem ..) h) e
  | fwLoad => exact outcome_wf (fwLoadEff_wf _ _ _ _ h) e
  | fwUpdateStart => exact outcome_wf (fwUpdateStartEff_wf _ _ _ h) e
  | fwUpdateDone => exact outcome_wf (fwUpdateDoneEff_wf _ _ _ h) e
  | svnAdvance => exact outcome_wf (svnAdvanceEff_wf _ _ _ h) e
  | attestRequest => exact outcome_wf (attestRequestEff_wf _ _ _ _ h) e
  | reclaim => exact outcome_wf (reclaimEff_wf _ _ _ _ h) e
  | retentionEntry => exact outcome_wf (retentionEntryEff_wf _ _ _ _ h) e
  | retentionExit => exact outcome_wf (retentionExitEff_wf _ _ _ h) e
  | brownOut => exact outcome_wf (brownOutEff_wf _ h) e
  | partPowerOff => exact outcome_wf (partPowerOffEff_wf _ _ _ _ h) e
  | partPowerOn => exact outcome_wf (partPowerOnEff_wf _ _ _ _ h) e
  | wakeDemand => exact outcome_wf (wf_of_mem (wakeDemandEff_mem ..) h) e
  | wakeDone => exact outcome_wf (wf_of_mem (wakeDoneEff_mem ..) h) e
  | clusterSleepExpiry => exact outcome_wf (wf_of_mem (clusterSleepExpiryEff_mem ..) h) e
  | autoOffExpiry => exact outcome_wf (wf_of_mem (autoOffExpiryEff_mem ..) h) e
  | prewake => exact outcome_wf (wf_of_mem (prewakeEff_mem ..) h) e
  | powerCapSample => exact outcome_wf (wf_of_mem (powerCapSampleEff_mem ..) h) e
  | fastCut => exact outcome_wf (wf_of_mem (fastCutEff_mem ..) h) e
  | avfsTrim => exact outcome_wf (wf_of_mem (avfsTrimEff_mem ..) h) e
  | thermalThrottleTick => exact outcome_wf (thermalThrottleTickEff_wf _ _ h) e
  | clusterClockChange => exact outcome_wf (wf_of_mem (clusterClockChangeEff_mem ..) h) e
  | thermalTrip => exact outcome_wf (thermalTripEff_wf _ h) e
  | inputUndervoltage => exact outcome_wf (inputUndervoltageEff_wf _ _ _ h) e
  | inputOvervoltage => exact outcome_wf (inputOvervoltageEff_wf _ _ _ h) e
  | serdesReferenceLoss => exact outcome_wf (wf_of_mem (serdesReferenceLossEff_mem ..) h) e
  | serdesReferenceReturn => exact outcome_wf (wf_of_mem (serdesReferenceReturnEff_mem ..) h) e
  | powerCounterClear => exact outcome_wf (powerCounterClearEff_wf _ _ _ h) e
  | wireFlitSend => exact outcome_wf (wireFlitSendEff_wf _ _ _ h) e
  | completionTimeout => exact outcome_wf (wf_of_mem (completionTimeoutEff_mem ..) h) e
  | engineResetDone => exact outcome_wf (wf_of_mem (engineResetDoneEff_mem ..) h) e
  | mcRestartDone => exact outcome_wf (wf_of_mem (mcRestartDoneEff_mem ..) h) e
  | channelSelfRefreshReturn => exact outcome_wf (wf_of_mem (channelSelfRefreshReturnEff_mem ..) h) e
  | partitionOffEntryDone => exact outcome_wf (partitionOffEntryDoneEff_wf _ _ h) e
  | retentionEntryDone => exact outcome_wf (retentionEntryDoneEff_wf _ h) e
  | retCurrentWarning => exact outcome_wf (retCurrentWarningEff_wf _ _ h) e
  | thermalHoldExit => exact outcome_wf (wf_of_mem (thermalHoldExitEff_mem ..) h) e
  | timePpsLoss => exact outcome_wf (wf_of_mem (timePpsLossEff_mem ..) h) e
  | pcieReferenceChange => exact outcome_wf (wf_of_mem (pcieReferenceChangeEff_mem ..) h) e
  | canBusError => exact outcome_wf (wf_of_mem (canBusErrorEff_mem ..) h) e
  | canFrameIgnored => exact outcome_wf (wf_of_mem (canFrameIgnoredEff_mem ..) h) e
  | attestReportDone => exact outcome_wf (attestReportDoneEff_wf _ _ _ h) e
  | reclaimDone => exact outcome_wf (reclaimDoneEff_wf _ _ h) e
/-- Settles O57: a step is a waiting command or a beat, and each keeps the canonical form. -/
theorem memoryStaysCanonical : Obligations.MemoryStaysCanonical := by
  intro s t h e
  rw [step] at e
  split at e
  · refine exec_wf _ _ _ ?_ e
    exact h
  · exact outcome_wf (State.tick_wf _ h) e

end Sys2Proof.Machine
end

section
/-! PROOFS. The operations on a core's own registers: O12. -/

namespace Sys2Proof.Machine

/-! ## The registers of a core after an update, and the launch table -/

section
variable (x : CoreSt) (s : State)

@[simp] theorem CoreSt.param_setParam (k j : Nat) (v : Word) :
    (x.setParam k v).param j = if j = k then v else x.param j := by simp [CoreSt.param, CoreSt.setParam]

@[simp] theorem CoreSt.amaxSlot_setAmax (k j : Nat) (v : Word32) :
    (x.setAmax k v).amaxSlot j = if j = k then v else x.amaxSlot j := by simp [CoreSt.amaxSlot, CoreSt.setAmax]

@[simp] theorem CoreSt.vreg_setVreg_self (r i : Nat) (v : Word32) : (x.setVreg r i v).vreg r i = v := by
  simp [CoreSt.vreg, CoreSt.setVreg]

/-- A key's entry after an insertion. -/
theorem mfind_mins {α : Type} (v : α) (k j : Nat) : ∀ m : SMap α,
    mfind (mins v m k) j = if j = k then some v else mfind m j
  | [] => by simp only [mins, mfind, eq_comm]
  | (k', v') :: m => by
    have ih := mfind_mins v k j m
    rw [mins]
    by_cases hj : j = k
    · subst hj
      split
      · simp [mfind]
      · split
        · simp [mfind]
        next _ other => simp [mfind, ih, other]
    · split
      · simp [mfind, Ne.symm hj]
      · split
        next _ same => subst same; simp [mfind, Ne.symm hj]
        · simp [mfind, ih, hj]

/-- A launch is the entry of its number. -/
theorem State.launch_eq_mfind (k : Nat) : s.launch k = mfind s.launches k := by
  unfold State.launch
  induction s.launches with
  | nil => rfl
  | cons kv m ih =>
    obtain ⟨k', l⟩ := kv
    rw [mfind, ← ih, List.find?_cons]
    by_cases h : k' = k
    · simp [h]
    · simp [h, beq_false_of_ne h]

/-- A launch after another, or the same, is set. -/
@[simp] theorem State.launch_setLaunch (k j : Nat) (l : Launch) :
    (s.setLaunch k l).launch j = if j = k then some l else s.launch j := by
  rw [State.launch_eq_mfind, State.setLaunch, mfind_mins, State.launch_eq_mfind]

end

/-! ## Clearing flags -/

/-- The flags of a core after a clear, its parameters, and everything that is not of the core or its launch. -/
theorem State.clearFlags_frame (s : State) (c : Nat) (m : Word32) :
    (s.clearFlags c m).core c = (s.core c).clearFlags m ∧ (∀ d, d ≠ c → (s.clearFlags c m).core d = s.core d) ∧
    (s.clearFlags c m).mem = s.mem ∧ (s.clearFlags c m).obj = s.obj := by
  unfold State.clearFlags
  refine ⟨by simp, fun d hd => ?_, ?_, ?_⟩
  · dsimp only
    split
    · split <;> simp [hd]
    · simp [hd]
  all_goals
    dsimp only
    split
    · split <;> rfl
    · rfl

/-- A launch that the core does not run keeps its flags. -/
theorem State.clearFlags_launch_other (s : State) {c k : Nat} (m : Word32) (h : (s.core c).run.launch ≠ some k) :
    (s.clearFlags c m).launch k = s.launch k := by
  unfold State.clearFlags
  dsimp only
  split
  · rename_i j hj
    have : k ≠ j := fun e => h (e ▸ hj)
    split <;> simp [this]
  · simp

/-- The launch that the core runs keeps, for its record, what is cleared (R51). -/
theorem State.clearFlags_launch_own (s : State) {c k : Nat} {l : Launch} (m : Word32)
    (h : (s.core c).run.launch = some k) (hl : s.launch k = some l) :
    (s.clearFlags c m).launch k = some { l with flags := l.flags ||| arithOf (s.core c).flags } := by
  simp [State.clearFlags, h, hl]

/-- Settles O12: each operation is one change of the core that runs. -/
theorem coreRegisterOperations : Obligations.CoreRegisterOperations := by
  intro c s runs
  have runs' : ¬ s.coreRuns c = false := by simp [runs]
  refine ⟨fun dst src => ⟨_, congrArg s.outcome (if_neg runs'), ⟨fun k h => ?_, fun k h => ?_⟩, fun d hd => ?_, rfl, rfl, rfl⟩,
    fun slot => ⟨_, congrArg s.outcome (if_neg runs'), ?_, fun j hj => ?_, fun d hd => ?_, rfl, rfl, rfl⟩,
    fun slot dst => ⟨_, congrArg s.outcome (if_neg runs'), ?_, ?_, fun d hd => ?_, rfl, rfl, rfl⟩,
    fun mask => ⟨_, congrArg s.outcome (if_neg runs'), ?_⟩⟩
  · subst h
    refine ⟨?_, by simp only [State.withQueue_core, State.core_modCore, if_true]; rfl, fun j hj => ?_⟩
    · cases src <;> simp [paramRead]
    · simp [Fin.val_ne_of_ne hj]
  · subst h
    refine ⟨?_, by simp only [State.withQueue_core, State.core_modCore, if_true]; rfl, fun j hj => ?_⟩
    · cases src <;> simp [paramRead]
    · simp [Fin.val_ne_of_ne hj]
  · simp [hd]
  · simp
  · simp [Fin.val_ne_of_ne hj]
  · simp [hd]
  · simp
  · simp only [State.withQueue_core, State.core_modCore, if_true]; rfl
  · simp [hd]
  · obtain ⟨own, others, mem, obj⟩ := s.clearFlags_frame c mask
    simp only [State.withQueue_core, State.withQueue_launch, own]
    exact ⟨rfl, rfl, others, mem, obj, fun k h => s.clearFlags_launch_other mask h,
      fun k l h hl => s.clearFlags_launch_own mask h hl⟩

end Sys2Proof.Machine
end

section
/-! PROOFS. Loops inside a tile and over whole tiles (R124, R125): O13. -/

namespace Sys2Proof.Machine

/-- What an entry or an end of a loop leaves of a core: everything but its loops. -/
theorem loopSource_run (x : CoreSt) (level : Nat) (src : LoopSrc) : (loopSource x level src).run = x.run := by
  cases src <;> rfl

/-- The launch of a core does not depend on its loops. -/
theorem State.launchOf_modCore (s : State) (c : Nat) (f : CoreSt → CoreSt) (h : (f (s.core c)).run = (s.core c).run) :
    (s.modCore c f).launchOf c = s.launchOf c := by
  simp only [State.launchOf, State.core_modCore, if_true, h]
  rfl

/-- The running tile of a core does not depend on its loops. -/
theorem State.runningTile_modCore (s : State) (c : Nat) (f : CoreSt → CoreSt) (h : (f (s.core c)).run = (s.core c).run) :
    (s.modCore c f).runningTile c = s.runningTile c := by
  have items : (s.modCore c f).items c = s.items c := by
    simp only [State.items, s.launchOf_modCore c f h]
    rfl
  simp only [State.runningTile, items, State.core_modCore, if_true, h]

/-- A loop level inside a tile starts where its count is neither 0 nor above a limit. -/
theorem loopEnterEff_starts {c : Core} {level : Fin 4} {src : LoopSrc} {s : State} (runs : s.coreRuns c = true)
    (inside : s.atBoundary c = false)
    (pos : 0 < (((s.modCore c fun x => loopSource x level src).core c).loop level).cnt.toNat)
    (small : (((s.modCore c fun x => loopSource x level src).core c).loop level).cnt.toNat ≤ loopMax)
    (within : ∀ t, s.runningTile c = some t → ∀ l ∈ t.inner, l.level = level →
      (((s.modCore c fun x => loopSource x level src).core c).loop level).cnt.toNat ≤ l.limit) :
    loopEnterEff c level src s = (s.modCore c fun x => loopSource x level src).modCore c fun x =>
      loopStart x level (((s.modCore c fun x => loopSource x level src).core c).loop level).cnt.toNat := by
  rw [loopEnterEff, if_neg (by simp [runs]), if_neg (by simp [inside])]
  refine (if_neg (by omega)).trans ((if_neg (by omega)).trans (if_neg ?_))
  rw [State.runningTile_modCore _ _ _ (loopSource_run _ _ _), Nat.not_lt]
  split
  next tile running =>
    split
    next l found => exact within tile running l (List.mem_of_find?_eq_some found) (by simpa using List.find?_some found)
    · exact small
  · exact small

/-- Settles O13, by the branches of the entry and of the end. -/
theorem loopsRepeatTiles : Obligations.LoopsRepeatTiles := by
  refine ⟨fun c level s runs inside => ⟨fun src => ⟨fun big => ?_, fun zero => ?_, fun pos small within => ?_⟩, fun active => ?_⟩,
    fun c level s runs boundary => ⟨fun src item => ⟨fun zero => ?_, fun pos small => ?_, fun big => ?_⟩, fun item active => ?_⟩⟩
  all_goals
    have runs' : ¬ s.coreRuns c = false := by simp [runs]
  · refine congrArg s.outcome ?_
    rw [loopEnterEff, if_neg runs', if_neg (by simp [inside])]
    exact if_pos big
  · refine (congrArg s.outcome ?_).trans
      (rfl : s.outcome (s.modCore c fun x => loopSource x level src) = .next (s.modCore c fun x => loopSource x level src))
    rw [loopEnterEff, if_neg runs', if_neg (by simp [inside])]
    exact (if_neg (by rw [zero]; decide)).trans (if_pos zero)
  · exact ⟨_, congrArg s.outcome (loopEnterEff_starts runs inside pos small within), by simp [loopStart]⟩
  · refine ⟨_, congrArg s.outcome ((if_neg runs').trans (if_neg (by simp [inside]))), ?_⟩
    simp
  · refine congrArg s.outcome ?_
    rw [loopEnterEff, if_neg runs', if_pos (by simp [boundary]), if_neg (by simp [item])]
    exact (if_neg (by rw [zero]; decide)).trans (if_pos zero)
  · refine congrArg s.outcome ?_
    rw [loopEnterEff, if_neg runs', if_pos (by simp [boundary]), if_neg (by simp [item])]
    exact (if_neg (by omega)).trans (if_neg (by omega))
  · refine congrArg s.outcome ?_
    rw [loopEnterEff, if_neg runs', if_pos (by simp [boundary]), if_neg (by simp [item])]
    exact if_pos big
  · refine congrArg s.outcome ?_
    rw [loopEndEff, if_neg runs', if_pos (by simp [boundary]), if_neg (by simp [item])]
    split <;> rfl

end Sys2Proof.Machine
end

section
/-! PROOFS. A tile behind a void gate (R118, R129): O14 fails, since the command also notes which contexts are blocked (R186). -/

namespace Sys2Proof.Machine

/-- A tile whose one gate waits for the version of a step that was aborted. -/
def voidTile : Tile := ⟨[.version 0 (.step 0)], false, false, []⟩

/-- A launch of context 0 whose core 0 comes to that tile. -/
def voidLaunch : Launch :=
  { ctx := 0, handle := 0, img := ⟨true, [(0, [.tile voidTile])], []⟩, startBeat := 0, recordAddr := 0, deadline := 0,
    irq := false, ftz := [], flags := 0, startNs := none, ending := none, cycles := [], overrun := 0, streams := [] }

/-- Core 0 stands before that tile; context 1 is RESIDENT with nothing due and has not been noted as blocked yet. -/
def voidState : State :=
  { State.reset with
    cores := [(0, { CoreSt.reset with run := { CoreRun.idle with launch := some 0 } })]
    launches := [(0, voidLaunch)]
    ctxs := [(0, { Ctx.reset with state := .resident }), (1, { Ctx.reset with state := .resident })]
    fences := [(0, { StepFence.reset with voided := some 0 })] }

/-- Telling a launch to end leaves the contexts. -/
theorem State.endLaunch_ctxs (s : State) (k : Nat) (e : LaunchEnd) : (s.endLaunch k e).ctxs = s.ctxs := by
  unfold State.endLaunch
  split
  · rfl
  · split <;> rfl

/-- Refutes O14: where the next tile has a void gate, the command tells the launch to end and then notes the contexts of the
group, so that it answers another state than the launch's end alone: context 1 is blocked since this beat. -/
theorem not_tilesIssueAndComplete : ¬ Obligations.TilesIssueAndComplete := by
  intro h
  obtain ⟨issue, -⟩ := h
  obtain ⟨-, -, void⟩ := issue 0 voidState 0 voidLaunch voidTile (by decide) (by decide) (by decide)
  have answer : (tileIssueEff 0 voidState).withQueue voidState =
      (voidState.endLaunch 0 (outsideEnd stFenceAborted)).withQueue voidState :=
    Host.Outcome.next.inj (void (by decide))
  have noted : ((tileIssueEff 0 voidState).ctx 1).blockedSince = 1 := by decide +kernel
  have kept : ((tileIssueEff 0 voidState).ctx 1).blockedSince = (voidState.ctx 1).blockedSince := by
    have ctxs := congrArg State.ctxs answer
    simp only [State.withQueue, State.endLaunch_ctxs] at ctxs
    rw [State.ctx, ctxs, State.ctx]
  rw [noted] at kept
  exact absurd kept (by decide)

end Sys2Proof.Machine
end

section
/-! PROOFS. What leaves every core as it was: the operations that work beside the cores. -/

namespace Sys2Proof.Machine

theorem ite_cores {p : Prop} [Decidable p] {a b s : State} (ha : a.cores = s.cores) (hb : b.cores = s.cores) :
    (if p then a else b).cores = s.cores := by
  split <;> assumption

theorem foldl_cores {β : Type} {f : State → β → State} (h : ∀ s b, (f s b).cores = s.cores) (l : List β) (s : State) :
    (l.foldl f s).cores = s.cores := foldl_keeps State.cores h l s

@[simp] theorem State.enqueue_cores (s : State) (n : Nat) (inp : Nat) (inCls : Fin 2) (p : Packet) :
    (s.enqueue n inp inCls p).cores = s.cores := by
  unfold State.enqueue
  exact State.setPort_cores ..

@[simp] theorem State.logEvent_cores (s : State) (cls : Nat) (part : Nat) (code : Nat) :
    (s.logEvent cls part code).cores = s.cores := rfl

@[simp] theorem State.sendMsix_cores (s : State) (f : Nat) (v : Nat) : (s.sendMsix f v).cores = s.cores := by
  unfold State.sendMsix
  exact ite_cores (State.setFunc_cores ..) ((State.emit_cores ..).trans (State.setFunc_cores ..))

@[simp] theorem State.signalPf_cores (s : State) (v : Nat) : (s.signalPf v).cores = s.cores := by
  unfold State.signalPf
  exact ite_cores (State.sendMsix_cores ..) (State.emit_cores ..)

@[simp] theorem State.fabricEvent_cores (s : State) : (s.fabricEvent).cores = s.cores := by
  unfold State.fabricEvent
  exact (State.signalPf_cores ..).trans (State.logEvent_cores ..)

@[simp] theorem State.shadowAdd_cores (s : State) (key : Nat) (n : Nat) : (s.shadowAdd key n).cores = s.cores := rfl

@[simp] theorem State.shadowOf_cores (s : State) (key : Nat) (n : Nat) : (s.shadowOf key n).cores = s.cores := by
  unfold State.shadowOf
  exact ite_cores (State.shadowAdd_cores ..) rfl

@[simp] theorem State.count_cores (s : State) (key : Nat) (n : Nat) : (s.count key n).cores = s.cores := by
  unfold State.count
  exact (State.wr_cores ..).trans (State.shadowOf_cores ..)

@[simp] theorem State.pCount_cores (s : State) (p : Nat) (sub : Nat) (n : Nat) : (s.pCount p sub n).cores = s.cores := by
  unfold State.pCount
  exact State.count_cores ..

@[simp] theorem State.eccCount_cores (s : State) (src : EccSource) (part : Nat) (addr : Nat) (ue : Bool) :
    (s.eccCount src part addr ue).cores = s.cores := by
  unfold State.eccCount
  split
  · split
    · exact State.pCount_cores ..
    · exact State.pCount_cores ..
    · exact State.pCount_cores ..
    · exact (State.count_cores ..).trans (State.pCount_cores ..)
    · exact (State.count_cores ..).trans (State.pCount_cores ..)
    · exact State.count_cores ..
  · split
    · exact State.pCount_cores ..
    · exact State.pCount_cores ..
    · exact State.pCount_cores ..
    · exact (State.count_cores ..).trans (State.pCount_cores ..)
    · exact (State.count_cores ..).trans (State.pCount_cores ..)
    · exact State.count_cores ..

@[simp] theorem State.wrN_cores (s : State) (key : Nat) (v : Nat) : (s.wrN key v).cores = s.cores := by
  unfold State.wrN
  exact State.wr_cores ..

@[simp] theorem State.countSat_cores (s : State) (key : Nat) (n : Nat) (top : Nat) :
    (s.countSat key n top).cores = s.cores := by
  unfold State.countSat
  exact (State.wrN_cores ..).trans (State.shadowOf_cores ..)

@[simp] theorem State.count32Sat_cores (s : State) (key : Nat) (n : Nat) : (s.count32Sat key n).cores = s.cores := by
  unfold State.count32Sat
  exact State.countSat_cores ..

@[simp] theorem State.count32_cores (s : State) (key : Nat) (n : Nat) : (s.count32 key n).cores = s.cores := by
  unfold State.count32
  exact (State.wrN_cores ..).trans (State.shadowOf_cores ..)

@[simp] theorem State.eccLogAdd_cores (s : State) (e : EccEntry) : (s.eccLogAdd e).cores = s.cores := by
  unfold State.eccLogAdd
  exact ite_cores (State.count32_cores ..) (ite_cores (State.count32_cores ..) (ite_cores (State.count32Sat_cores ..)
    (State.count32_cores ..)))

@[simp] theorem State.eccNote_cores (s : State) (src : EccSource) (part : Nat) (unit : Nat) (addr : Nat) (o : ShellOutcome) :
    (s.eccNote src part unit addr o).cores = s.cores := by
  unfold State.eccNote
  split
  · split
    · rfl
    · exact (State.eccLogAdd_cores ..).trans (State.eccCount_cores ..)
    · exact (State.eccLogAdd_cores ..).trans (State.eccCount_cores ..)
    · exact (State.eccLogAdd_cores ..).trans (State.eccCount_cores ..)
    · exact (State.eccLogAdd_cores ..).trans (State.eccCount_cores ..)
  · split
    · rfl
    · exact (State.eccLogAdd_cores ..).trans (State.eccCount_cores ..)
    · exact (State.eccLogAdd_cores ..).trans (State.eccCount_cores ..)
    · exact (State.eccLogAdd_cores ..).trans (State.eccCount_cores ..)
    · exact (State.eccLogAdd_cores ..).trans (State.eccCount_cores ..)

@[simp] theorem State.portShell_cores (s : State) (n : Nat) (os : List ShellOutcome) :
    (s.portShell n os).1.cores = s.cores := by
  unfold State.portShell
  split
  · exact (State.fabricEvent_cores ..).trans (ite_cores ((State.count_cores ..).trans (foldl_cores (fun ft fb => ite_cores
      ((State.count_cores ..).trans (State.eccNote_cores ..)) (State.eccNote_cores ..)) _ _)) (foldl_cores
      (fun ft fb => ite_cores ((State.count_cores ..).trans (State.eccNote_cores ..)) (State.eccNote_cores ..)) _ _))
  · exact foldl_cores (fun ft fb => ite_cores ((State.count_cores ..).trans (State.eccNote_cores ..))
      (State.eccNote_cores ..)) _ _

@[simp] theorem State.dropUnreachable_cores (s : State) : (s.dropUnreachable).cores = s.cores := by
  unfold State.dropUnreachable
  exact State.count_cores ..

@[simp] theorem State.leaveInput_cores (s : State) (inp : Nat) (vc : Fin 4) (cls : Fin 2) (units : Nat) :
    (s.leaveInput inp vc cls units).cores = s.cores := by
  unfold State.leaveInput
  exact ite_cores (State.setPort_cores ..) rfl

@[simp] theorem State.routeFrom_cores (s : State) (die : Nat) (inp : Nat) (p : Packet) (os : List ShellOutcome) :
    (s.routeFrom die inp p os).cores = s.cores := by
  unfold State.routeFrom
  refine ite_cores rfl (ite_cores ((State.leaveInput_cores ..).trans (State.dropUnreachable_cores ..)) (ite_cores
    ((State.leaveInput_cores ..).trans (ite_cores ((State.emit_cores ..).trans (State.portShell_cores ..))
    (State.portShell_cores ..))) (ite_cores ((State.leaveInput_cores ..).trans (State.dropUnreachable_cores ..)) ?_)))
  split
  · exact (State.leaveInput_cores ..).trans (State.dropUnreachable_cores ..)
  · exact ite_cores ((State.leaveInput_cores ..).trans (State.dropUnreachable_cores ..)) (ite_cores
      ((State.enqueue_cores ..).trans (State.portShell_cores ..)) ((State.leaveInput_cores ..).trans (State.portShell_cores ..)))

@[simp] theorem State.injectWith_cores (s : State) (die : Nat) (p : Packet) (os : List ShellOutcome) :
    (s.injectWith die p os).cores = s.cores := by
  unfold State.injectWith
  exact ite_cores rfl (ite_cores rfl (State.routeFrom_cores ..))

@[simp] theorem State.inject_cores (s : State) (die : Nat) (p : Packet) : (s.inject die p).cores = s.cores := by
  unfold State.inject
  exact State.injectWith_cores ..

@[simp] theorem State.modLoader_cores (s : State) (p : Nat) (f : LoaderSt → LoaderSt) : (s.modLoader p f).cores = s.cores := by
  unfold State.modLoader
  exact State.setLoader_cores ..

@[simp] theorem State.modShard_cores (s : State) (p : Nat) (i : Nat) (f : Shard → Shard) :
    (s.modShard p i f).cores = s.cores := by
  unfold State.modShard
  exact State.modLoader_cores ..

@[simp] theorem State.sendFetch_cores (s : State) (p : Nat) (i : Nat) : (s.sendFetch p i).cores = s.cores := by
  unfold State.sendFetch
  dsimp only
  split
  · rfl
  · split
    · rfl
    · exact (State.inject_cores ..).trans ((State.modShard_cores ..).trans (State.modLoader_cores ..))

@[simp] theorem State.enterLoading_cores (s : State) (p : Nat) : (s.enterLoading p).cores = s.cores := by
  unfold State.enterLoading
  refine (foldl_cores (fun ft fb => ?_) _ _).trans (State.modLoader_cores ..)
  split
  · exact ite_cores rfl (State.sendFetch_cores ..)
  · rfl

@[simp] theorem State.modSlot_cores (s : State) (p : Nat) (r : Nat) (i : Nat) (f : VSlot → VSlot) :
    (s.modSlot p r i f).cores = s.cores := by
  unfold State.modSlot
  exact State.setRegion_cores ..

@[simp] theorem holdFree_cores (p : Nat) (x1 : List Nat) (x2 : State) : (holdFree p x1 x2).cores = x2.cores := by
  induction x1 generalizing p x2 with
  | nil => rfl
  | cons a l ih =>
    rw [holdFree]
    refine (ih ..).trans (ite_cores rfl ?_)
    split
    · rfl
    · exact (State.modLoader_cores ..).trans (State.modSlot_cores ..)

@[simp] theorem State.pollLoader_cores (s : State) (p : Nat) : (s.pollLoader p).cores = s.cores := by
  unfold State.pollLoader
  exact ite_cores rfl (ite_cores ((State.enterLoading_cores ..).trans (holdFree_cores ..)) (holdFree_cores ..))

@[simp] theorem State.zeroMem_cores (s : State) (a : Nat) (n : Nat) : (s.zeroMem a n).cores = s.cores := rfl

@[simp] theorem State.loadStray_cores (s : State) (p : Nat) : (s.loadStray p).cores = s.cores := by
  unfold State.loadStray
  exact State.pCount_cores ..

@[simp] theorem State.bindSlot_cores (s : State) (p : Nat) (r : Nat) (i : Nat) : (s.bindSlot p r i).cores = s.cores := by
  unfold State.bindSlot
  exact State.modSlot_cores ..

@[simp] theorem bindWants_cores (p : Nat) (t : Tag) (x1 : List Nat) (x2 : State) (x3 : List (Nat × Nat)) (x4 : List Nat) :
    (bindWants p t x1 x2 x3 x4).1.cores = x2.cores := by
  induction x1 generalizing p t x2 x3 x4 with
  | nil => rfl
  | cons a l ih =>
    rw [bindWants]
    split
    · split
      · exact (ih ..).trans (State.bindSlot_cores ..)
      · exact ih ..
    · exact ih ..

@[simp] theorem bindAllWaiting_cores (p : Nat) (x1 : List MicroBatch) (x2 : State) :
    (bindAllWaiting p x1 x2).2.cores = x2.cores := by
  induction x1 generalizing p x2 with
  | nil => rfl
  | cons a l ih =>
    rw [bindAllWaiting]
    refine (ih ..).trans ?_
    split
    · rfl
    · exact bindWants_cores ..

@[simp] theorem State.bindWaiting_cores (s : State) (p : Nat) : (s.bindWaiting p).cores = s.cores := by
  unfold State.bindWaiting
  exact (State.setMicroBatches_cores ..).trans (bindAllWaiting_cores ..)

@[simp] theorem State.fresh_cores (s : State) : (s.fresh).2.cores = s.cores := rfl

@[simp] theorem State.signalPart_cores (s : State) (p : Nat) (k : Nat) : (s.signalPart p k).cores = s.cores := by
  unfold State.signalPart
  exact ite_cores (State.sendMsix_cores ..) (ite_cores (State.sendMsix_cores ..) (State.emit_cores ..))

@[simp] theorem State.event_cores (s : State) (p : Nat) (k : Nat) : (s.event p k).cores = s.cores := by
  unfold State.event
  exact (State.signalPart_cores ..).trans (State.logEvent_cores ..)

@[simp] theorem State.partFault_cores (s : State) (p : Nat) : (s.partFault p).cores = s.cores := by
  unfold State.partFault
  exact State.event_cores ..

@[simp] theorem State.tryEvict_cores (s : State) (k : Nat) : (s.tryEvict k).cores = s.cores := by
  unfold State.tryEvict
  exact ite_cores (State.setCtxE_cores ..) rfl

@[simp] theorem State.endLaunch_cores (s : State) (k : Nat) (e : LaunchEnd) : (s.endLaunch k e).cores = s.cores := by
  unfold State.endLaunch
  split
  · rfl
  · exact ite_cores rfl (State.setLaunch_cores ..)

@[simp] theorem State.waitsAt_cores (s : State) (key : Nat) : (s.waitsAt key).cores = s.cores := by
  unfold State.waitsAt
  exact (State.wrFree_cores ..).trans ((State.shadowOf_cores ..).trans (State.fresh_cores ..))

@[simp] theorem State.waits_cores (s : State) (p : Nat) (sub : Nat) : (s.waits p sub).cores = s.cores := by
  unfold State.waits
  exact State.waitsAt_cores ..

end Sys2Proof.Machine

end

section
/-! PROOFS. What conversions, stores and streams leave of the cores: the view beside the registers of one core. -/

namespace Sys2Proof.Machine

/-! ## What conversions, draws and captures leave of a core -/

/-- Of a core, what the converters, the Poppy lanes, amax capture, flags and vector registers have no part in. -/
def CoreSt.beside (x : CoreSt) : SMap Engine × Bool := (x.engines, x.run.failed)

@[simp] theorem CoreSt.amaxUpdate_beside (x : CoreSt) (i : Nat) (v : Num) : (x.amaxUpdate i v).beside = x.beside := by
  unfold CoreSt.amaxUpdate
  split <;> rfl

@[simp] theorem CoreSt.amaxAll_beside (x : CoreSt) (slot : Option (Fin 32)) (vs : List Num) :
    (x.amaxAll slot vs).beside = x.beside := by
  cases slot with
  | none => rfl
  | some i =>
    exact List.foldlRecOn (motive := fun y : CoreSt => y.beside = x.beside) vs _ rfl fun y hy v _ =>
      (CoreSt.amaxUpdate_beside ..).trans hy

@[simp] theorem CoreSt.roundFor_beside (x : CoreSt) (c i : Nat) (r : Rounding) : (x.roundFor c i r).2.beside = x.beside := by
  cases r <;> rfl

@[simp] theorem convElems_beside (c : Nat) (d : Desc) (fmt : Format) (ftz : Bool) (k : Nat) (cvs : List (Word × Num))
    (x : CoreSt) : (convElems c d fmt ftz k cvs x).2.beside = x.beside := by
  induction cvs generalizing k x with
  | nil => rfl
  | cons cv rest ih => exact (ih _ _).trans (CoreSt.roundFor_beside ..)

/-! ## What they leave of the machine's cores -/

/-- The other cores, and of core `c` its engines and whether it still runs. -/
def State.beside (s : State) (c : Nat) : (Nat → CoreSt) × SMap Engine × Bool :=
  (fun d => if d = c then CoreSt.reset else s.core d, (s.core c).beside)

theorem State.beside_iff {s t : State} {c : Nat} : t.beside c = s.beside c ↔
    (∀ d, d ≠ c → t.core d = s.core d) ∧ (t.core c).engines = (s.core c).engines ∧ t.coreRuns c = s.coreRuns c := by
  simp only [State.beside, CoreSt.beside, Prod.mk.injEq, funext_iff, State.coreRuns]
  refine and_congr (forall_congr' fun d => ?_) (and_congr Iff.rfl ?_)
  · by_cases h : d = c <;> simp [h]
  · simp

theorem State.beside_of_cores {s t : State} {c : Nat} (h : t.cores = s.cores) : t.beside c = s.beside c := by
  simp only [State.beside, State.core, h]

theorem State.setCore_beside {s : State} {c : Nat} {x : CoreSt} (h : x.beside = (s.core c).beside) :
    (s.setCore c x).beside c = s.beside c := by
  simp only [State.beside, State.core_setCore, if_true, h]
  congr 1
  funext d
  by_cases hd : d = c <;> simp [hd]

theorem State.modCore_beside {s : State} {c : Nat} {f : CoreSt → CoreSt} (h : (f (s.core c)).beside = (s.core c).beside) :
    (s.modCore c f).beside c = s.beside c := State.setCore_beside h

theorem beside_of_snd {α : Type} {p : α × State} {s t : State} {a : α} {c : Nat} (h : p = (a, s))
    (w : p.2.beside c = t.beside c) : s.beside c = t.beside c := by
  rw [h] at w; exact w

@[simp] theorem loadConvert_beside (s : State) (c : Nat) (d : Desc) (fmt : Format) (k : Nat) (cvs : List (Word × Num)) :
    (loadConvert s c d fmt k cvs).2.beside c = s.beside c := by
  unfold loadConvert
  split
  · exact State.modCore_beside (CoreSt.amaxAll_beside ..)
  · exact State.setCore_beside ((CoreSt.amaxAll_beside ..).trans (convElems_beside ..))

@[simp] theorem loadBlockRows_beside (s : State) (c : Nat) (src : Src) (fmt : Format) :
    (loadBlockRows s c src fmt).2.beside c = s.beside c :=
  List.foldlRecOn (motive := fun acc : List (List Word) × State => acc.2.beside c = s.beside c) _ _ rfl
    fun _ h _ _ => (loadConvert_beside ..).trans h

end Sys2Proof.Machine

end

section
/-! PROOFS. The same view, for the drains, gradient passes and vector operations. -/

namespace Sys2Proof.Machine

@[simp] theorem VOpen.codes_beside (v : VOpen) (s : State) (c : Nat) (n : Nat) : (v.codes s c n).2.beside c = s.beside c := by
  unfold VOpen.codes
  split
  · rfl
  · rfl
  · split
    · dsimp only
      exact beside_of_snd ‹_› (loadConvert_beside ..)

end Sys2Proof.Machine

end

section
/-! PROOFS. STATIONARY_LOAD (R55 to R58), obligation O8. -/

namespace Sys2Proof.Machine

/-! ## Opening operands and meeting Shell -/

theorem State.openSrc_of_readable {s : State} {c : Nat} {d : Desc} {fmt : Format} (h : s.readable c d fmt = true) :
    openSrc s c d fmt = .ok (s.taken c d fmt) := by
  unfold State.readable at h
  unfold State.taken
  cases e : openSrc s c d fmt with
  | ok r => rfl
  | error _ => simp [e, Except.isOk, Except.toBool] at h

theorem streamTake_beside {s : State} {c i n : Nat} {r : List Byte × State} (h : s.streamTake c i n = .ok r) :
    r.2.beside c = s.beside c := by
  unfold State.streamTake at h
  split at h
  · cases h
  · dsimp only at h
    split at h
    · cases h
    · cases h
      exact (State.setCore_beside (by rfl)).trans (by rfl)

theorem openSrc_beside {s : State} {c : Nat} {d : Desc} {fmt : Format} {r : State × Src} (h : openSrc s c d fmt = .ok r) :
    r.1.beside c = s.beside c := by
  unfold openSrc at h
  split at h
  · cases h
  split at h
  · split at h
    · cases h
    · cases h; rfl
  split at h
  · cases h
  split at h
  · cases h
  next e => cases h; exact streamTake_beside e

@[simp] theorem State.taken_beside (s : State) (c : Nat) (d : Desc) (fmt : Format) :
    (s.taken c d fmt).1.beside c = s.beside c := by
  unfold State.taken
  split
  next e => exact openSrc_beside e
  · rfl

/-- A dense operand is read where it lies. -/
theorem State.taken_dense {s : State} {c : Nat} {d : Desc} {fmt : Format} (h : s.readable c d fmt = true)
    (dense : d.chan = none) : s.taken c d fmt = (s, ⟨s.mem, s.offsetOf c d, d⟩) := by
  have opened := State.openSrc_of_readable h
  unfold openSrc at opened
  split at opened
  · cases opened
  rw [dense] at opened
  dsimp only at opened
  split at opened
  · cases opened
  next o e =>
    exact (Except.ok.inj opened).symm.trans (by simp [State.offsetOf, e])

/-- What Shell corrects, or need not correct, lets an operation go on; it is noted outside the cores and memory. -/
theorem State.opMeets_good (s : State) (src : EccSource) (c a : Nat) (reads : Bool) {o : ShellOutcome} (h : o.bad = false) :
    (s.opMeets src c a reads o).2 = true ∧ (s.opMeets src c a reads o).1.cores = s.cores := by
  unfold State.opMeets
  rw [h]
  split
  · exact ⟨rfl, State.eccNote_cores ..⟩
  · exact ⟨rfl, rfl⟩

/-! ## The stationary load -/

/-- The codes of an opened row do not depend on the state that asks for them. -/
theorem Src.elems_codes (src : Src) (s : State) (c r : Nat) :
    (src.elems s c r).map Prod.fst = loadRowCodes { s with mem := src.mem } c src.off src.desc r := by
  rw [Src.elems, List.map_fst_zip (by simp [Src.codes, Src.vals, loadRowCodes])]
  rfl

/-- The rows of a block whose codes nothing converts are the codes as they lie. -/
theorem loadBlockRows_same (s : State) (c : Nat) (src : Src) :
    (loadBlockRows s c src src.desc.fmt).1 =
      (List.range (descRows src.desc)).map fun i => loadRowCodes { s with mem := src.mem } c src.off src.desc i := by
  have rows (l : List Nat) (acc : List (List Word) × State) :
      (l.foldl (fun acc r =>
        let (codes, s) := loadConvert acc.2 c src.desc src.desc.fmt (r * src.desc.n0) (src.elems acc.2 c r)
        (acc.1 ++ [codes], s)) acc).1 =
      acc.1 ++ l.map fun i => loadRowCodes { s with mem := src.mem } c src.off src.desc i := by
    induction l generalizing acc with
    | nil => simp
    | cons r l ih =>
      rw [List.foldl_cons, ih]
      simp only [loadConvert, if_true, List.map_cons, Src.elems_codes, List.append_assoc, List.cons_append, List.nil_append]
      rfl
  exact (rows _ _).trans (List.nil_append _)

/-- A load is a change of its engine on a state that agrees with the one before beside the core's registers. -/
theorem State.loadRun_shape (s : State) (c : Core) (e : Eng) (op : BlockLoad) (src : Src) :
    ∃ (t : State) (scales : List Byte), t.beside c = s.beside c ∧ t.mem = s.mem ∧ s.loadRun c e op src = t.modEngine c e fun g =>
      { g with
        shadow := ⟨op.pair, pairFmt op.pair op.e5, op.w.axis, (loadBlockRows s c src (pairFmt op.pair op.e5)).1, scales,
          (blockShape op.w).1, (blockShape op.w).2⟩
        lastRows := none } := by
  unfold State.loadRun
  dsimp only
  refine ⟨_, _, ?_, ?_, rfl⟩
  · exact (State.beside_of_cores ((State.waits_cores ..).trans (State.pCount_cores ..)))
      |>.trans (loadBlockRows_beside ..)
  · exact (State.waits_mem ..).trans ((State.pCount_mem ..).trans (loadBlockRows_mem ..))

/-- The engines of a core, by the view. -/
theorem State.engine_of_beside {s t : State} {c : Nat} (h : t.beside c = s.beside c) (e : Nat) :
    (t.core c).engine e = (s.core c).engine e := by
  rw [CoreSt.engine, (State.beside_iff.1 h).2.1, CoreSt.engine]

theorem opDone_withQueue {s t : State} {c : Nat} (q : State) (h : opDone s t c) : opDone s (t.withQueue q) c := h

/-- A change of an engine on a state that agrees with `s` beside the registers of core `c`. -/
theorem opDone_modEngine {s t : State} {c e : Nat} (f : Engine → Engine) (h : t.beside c = s.beside c)
    (runs : s.coreRuns c = true) : opDone s (t.modEngine c e f) c := by
  obtain ⟨others, -, same⟩ := State.beside_iff.1 h
  refine ⟨?_, fun d hd => ?_⟩
  · rw [← runs, ← same]
    simp [State.coreRuns, State.modEngine, CoreSt.setEngine]
  · rw [← others d hd]
    simp [State.modEngine, hd]

theorem oversize_not_fits {op : BlockLoad}
    (h : (pairShape op.pair).1 < (blockShape op.w).1 ∨ (pairShape op.pair).2 < (blockShape op.w).2) : loadFits op = false := by
  rcases h with h | h <;> simp [loadFits, Nat.not_le.mpr h]

/-- Settles O8: the load writes the shadow of its engine and leaves, beside it, what the converter leaves. -/
theorem blocksAreLoaded : Obligations.BlocksAreLoaded := by
  refine ⟨fun c e op shell s runs readable fits good => ?_, fun c e op shell s runs readable big => ?_⟩
  · have opened := State.openSrc_of_readable readable
    have taken := s.taken_beside c op.w (pairFmt op.pair op.e5)
    obtain ⟨goes, cores⟩ := (s.taken c op.w (pairFmt op.pair op.e5)).1.opMeets_good .spadRead c (spadBase c) op.w.chan.isNone good
    obtain ⟨t, scales, beside, mem, run⟩ := ((s.taken c op.w (pairFmt op.pair op.e5)).1.opRead c op.w.chan.isNone shell).1.loadRun_shape c e op
      (s.taken c op.w (pairFmt op.pair op.e5)).2
    have eff : stationaryLoadEff c e op shell s =
        ((s.taken c op.w (pairFmt op.pair op.e5)).1.opRead c op.w.chan.isNone shell).1.loadRun c e op
          (s.taken c op.w (pairFmt op.pair op.e5)).2 := by
      rw [stationaryLoadEff, if_neg (by simp [runs]), opened]
      exact (if_neg (by simp [fits])).trans (if_neg fun stops => Bool.noConfusion (goes.symm.trans stops))
    have before : t.beside c = s.beside c := beside.trans ((State.beside_of_cores cores).trans taken)
    refine ⟨_, congrArg s.outcome (eff.trans run), opDone_withQueue _ (opDone_modEngine _ before runs), ?_, ?_⟩
    · exact mem.trans ((State.opRead_mem ..).trans (openSrc_mem opened))
    · simp only [State.withQueue_core, State.engine_modEngine, State.engine_of_beside before, true_and, and_true]
      intro dense same
      rw [State.taken_dense readable dense, ← same]
      exact loadBlockRows_same _ _ _
  · refine congrArg s.outcome ?_
    rw [stationaryLoadEff, if_neg (by simp [runs]), State.openSrc_of_readable readable]
    exact if_pos (oversize_not_fits big)

end Sys2Proof.Machine

end

section
/-! PROOFS. What the loader, its packets and bindings leave of the machine. -/

namespace Sys2Proof.Machine

/-- The machine without what the loader and its packets write. -/
def State.unloaded (s : State) : State := { s.unreported with loaders := [], versions := [] }

theorem State.unloaded_of_unreported {s t : State} (h : t.unreported = s.unreported) : t.unloaded = s.unloaded :=
  congrArg (fun u : State => { u with loaders := [], versions := [] }) h

theorem ite_unloaded {p : Prop} [Decidable p] {a b s : State} (ha : a.unloaded = s.unloaded) (hb : b.unloaded = s.unloaded) :
    (if p then a else b).unloaded = s.unloaded := by
  split <;> assumption

theorem foldl_unloaded {β : Type} {f : State → β → State} (h : ∀ s b, (f s b).unloaded = s.unloaded) (l : List β) (s : State) :
    (l.foldl f s).unloaded = s.unloaded := foldl_keeps State.unloaded h l s

@[simp] theorem State.setLoader_unloaded (s : State) (p : Nat) (x : LoaderSt) : (s.setLoader p x).unloaded = s.unloaded := rfl

@[simp] theorem State.modLoader_unloaded (s : State) (p : Nat) (f : LoaderSt → LoaderSt) :
    (s.modLoader p f).unloaded = s.unloaded := by
  unfold State.modLoader
  exact State.setLoader_unloaded ..

@[simp] theorem State.modShard_unloaded (s : State) (p : Nat) (i : Nat) (f : Shard → Shard) :
    (s.modShard p i f).unloaded = s.unloaded := by
  unfold State.modShard
  exact State.modLoader_unloaded ..

@[simp] theorem State.sendFetch_unloaded (s : State) (p : Nat) (i : Nat) : (s.sendFetch p i).unloaded = s.unloaded := by
  unfold State.sendFetch
  dsimp only
  split
  · rfl
  · split
    · rfl
    · exact (State.unloaded_of_unreported (State.inject_unreported ..)).trans ((State.modShard_unloaded ..).trans
        (State.modLoader_unloaded ..))

@[simp] theorem State.enterLoading_unloaded (s : State) (p : Nat) : (s.enterLoading p).unloaded = s.unloaded := by
  unfold State.enterLoading
  refine (foldl_unloaded (fun ft fb => ?_) _ _).trans (State.modLoader_unloaded ..)
  split
  · exact ite_unloaded rfl (State.sendFetch_unloaded ..)
  · rfl

@[simp] theorem State.setRegion_unloaded (s : State) (p : Nat) (r : Nat) (e : VEntry) :
    (s.setRegion p r e).unloaded = s.unloaded := rfl

@[simp] theorem State.modSlot_unloaded (s : State) (p : Nat) (r : Nat) (i : Nat) (f : VSlot → VSlot) :
    (s.modSlot p r i f).unloaded = s.unloaded := by
  unfold State.modSlot
  exact State.setRegion_unloaded ..

@[simp] theorem holdFree_unloaded (p : Nat) (x1 : List Nat) (x2 : State) : (holdFree p x1 x2).unloaded = x2.unloaded := by
  induction x1 generalizing p x2 with
  | nil => rfl
  | cons a l ih =>
    rw [holdFree]
    refine (ih ..).trans (ite_unloaded rfl ?_)
    split
    · rfl
    · exact (State.modLoader_unloaded ..).trans (State.modSlot_unloaded ..)

@[simp] theorem State.pollLoader_unloaded (s : State) (p : Nat) : (s.pollLoader p).unloaded = s.unloaded := by
  unfold State.pollLoader
  exact ite_unloaded rfl (ite_unloaded ((State.enterLoading_unloaded ..).trans (holdFree_unloaded ..)) (holdFree_unloaded ..))

@[simp] theorem State.bindSlot_unloaded (s : State) (p : Nat) (r : Nat) (i : Nat) :
    (s.bindSlot p r i).unloaded = s.unloaded := by
  unfold State.bindSlot
  exact State.modSlot_unloaded ..

@[simp] theorem bindWants_unloaded (p : Nat) (t : Tag) (x1 : List Nat) (x2 : State) (x3 : List (Nat × Nat)) (x4 : List Nat) :
    (bindWants p t x1 x2 x3 x4).1.unloaded = x2.unloaded := by
  induction x1 generalizing p t x2 x3 x4 with
  | nil => rfl
  | cons a l ih =>
    rw [bindWants]
    split
    · split
      · exact (ih ..).trans (State.bindSlot_unloaded ..)
      · exact ih ..
    · exact ih ..

@[simp] theorem bindAllWaiting_unloaded (p : Nat) (x1 : List MicroBatch) (x2 : State) :
    (bindAllWaiting p x1 x2).2.unloaded = x2.unloaded := by
  induction x1 generalizing p x2 with
  | nil => rfl
  | cons a l ih =>
    rw [bindAllWaiting]
    refine (ih ..).trans ?_
    split
    · rfl
    · exact bindWants_unloaded ..

@[simp] theorem State.unbindSlot_unloaded (s : State) (p : Nat) (r : Nat) (i : Nat) :
    (s.unbindSlot p r i).unloaded = s.unloaded := by
  unfold State.unbindSlot
  exact State.modSlot_unloaded ..

@[simp] theorem State.bindAll_unloaded (s : State) (p : Nat) (l : List (Nat × Nat)) :
    (s.bindAll p l).unloaded = s.unloaded := by
  unfold State.bindAll
  exact foldl_unloaded (fun ft fb => State.bindSlot_unloaded ..) _ _

end Sys2Proof.Machine

end

section
/-! PROOFS. STEP_BEGIN, MICRO_BATCH_ADMIT and MICRO_BATCH_RETIRE (R94, R102, R103, R298), obligation O15. -/

namespace Sys2Proof.Machine

/-! ## Slots of the version table -/

@[simp] theorem VEntry.slot_setSlot_self (e : VEntry) (i : Nat) (v : VSlot) : (e.setSlot i v).slot i = v := by
  by_cases h : i = 0 <;> simp [VEntry.slot, VEntry.setSlot, h]

/-- What a slot is found for holds of it, and it is one of the two. -/
theorem VEntry.find_spec {e : VEntry} {q : VSlot → Bool} {i : Nat} (h : e.find q = some i) : q (e.slot i) = true ∧ i < 2 := by
  unfold VEntry.find at h
  split at h
  · cases h; exact ⟨‹_›, by decide⟩
  · split at h
    next both => cases h; exact ⟨(Bool.and_eq_true _ _ ▸ both).2, by decide⟩
    · cases h

theorem VEntry.current_committed {e : VEntry} {i : Nat} (h : e.current = some i) : (e.slot i).state = .committed := by
  simpa using (VEntry.find_spec h).1

theorem State.region_modSlot (s : State) (p r i : Nat) (f : VSlot → VSlot) (q : Nat) :
    (s.modSlot p r i f).region p q = if q = r then (s.region p r).setSlot i (f ((s.region p r).slot i)) else s.region p q := by
  simp [State.modSlot]

/-! ## Binding the slots of a micro-batch -/

/-- A list without its duplicates has none. -/
theorem nodup_eraseDups {α : Type} [BEq α] [LawfulBEq α] (l : List α) : l.eraseDups.Nodup := by
  match l with
  | [] => simp
  | a :: l =>
    have shorter := List.length_filter_le (fun b => !b == a) l
    rw [List.eraseDups_cons, List.nodup_cons]
    exact ⟨by simp, nodup_eraseDups _⟩
termination_by l.length
decreasing_by simp; omega

/-- The current slots that are bound: one of each region, in the order of the regions. -/
theorem bindCurrent_spec {s : State} {p : Nat} {rs : List Region} {l : List (Nat × Nat)} (h : bindCurrent s p rs = some l) :
    l.map Prod.fst = rs.map Fin.val ∧ ∀ b ∈ l, (s.region p b.1).current = some b.2 := by
  induction rs generalizing l with
  | nil => cases h; exact ⟨rfl, by simp⟩
  | cons r rs ih =>
    rw [bindCurrent] at h
    split at h
    · cases h
    next i here =>
      split at h
      · cases h
      · obtain ⟨m, rest, rfl⟩ := Option.map_eq_some_iff.1 h
        obtain ⟨names, slots⟩ := ih rest
        exact ⟨by simp [names], fun b hb => (List.mem_cons.1 hb).elim (fun e => e ▸ here) (slots b)⟩

theorem State.region_bindAll_of_not_mem {p q : Nat} {l : List (Nat × Nat)} (h : q ∉ l.map Prod.fst) (s : State) :
    (s.bindAll p l).region p q = s.region p q := by
  induction l generalizing s with
  | nil => rfl
  | cons b l ih =>
    obtain ⟨here, rest⟩ := not_or.1 (List.mem_cons.not.1 h)
    exact (ih rest _).trans ((State.region_modSlot ..).trans (if_neg here))

/-- Each bound slot counts one bind more and keeps its state. -/
theorem State.slot_bindAll {p : Nat} {l : List (Nat × Nat)} (once : (l.map Prod.fst).Nodup) (s : State) :
    ∀ b ∈ l, ((s.bindAll p l).region p b.1).slot b.2 =
      { (s.region p b.1).slot b.2 with bind := ((s.region p b.1).slot b.2).bind + 1 } := by
  induction l generalizing s with
  | nil => simp
  | cons a l ih =>
    obtain ⟨new, rest⟩ := List.nodup_cons.1 once
    intro b hb
    change (((s.bindSlot p a.1 a.2).bindAll p l).region p b.1).slot b.2 = _
    rcases List.mem_cons.1 hb with rfl | hb
    · rw [State.region_bindAll_of_not_mem new, State.bindSlot, State.region_modSlot, if_pos rfl, VEntry.slot_setSlot_self]
    · have other : b.1 ≠ a.1 := fun e => new (e ▸ List.mem_map_of_mem hb)
      rw [ih rest _ b hb, State.bindSlot, State.region_modSlot, if_neg other]

@[simp] theorem State.bindAll_cores (s : State) (p : Nat) (l : List (Nat × Nat)) : (s.bindAll p l).cores = s.cores :=
  (congrArg State.cores (State.bindAll_unloaded s p l) : (s.bindAll p l).unloaded.cores = s.unloaded.cores)

/-- Every region that is asked for is bound or still wanted. -/
theorem bindWants_covers (p : Nat) (t : Tag) (rs : List Nat) (s : State) (binds : List (Nat × Nat)) (wants : List Nat) (r : Nat)
    (h : r ∈ rs ∨ r ∈ wants ∨ r ∈ binds.map Prod.fst) :
    r ∈ (bindWants p t rs s binds wants).2.2 ∨ r ∈ (bindWants p t rs s binds wants).2.1.map Prod.fst := by
  induction rs generalizing s binds wants with
  | nil => exact h.resolve_left (by simp)
  | cons a rs ih =>
    have known : r ∈ rs ∨ r = a ∨ r ∈ wants ∨ r ∈ binds.map Prod.fst := by
      rcases h with h | h
      · exact (List.mem_cons.1 h).elim (fun e => .inr (.inl e)) .inl
      · exact .inr (.inr h)
    have bound (i : Nat) : r ∈ rs ∨ r ∈ wants ∨ r ∈ (binds ++ [(a, i)]).map Prod.fst := by
      simp only [List.map_append, List.map_cons, List.map_nil, List.mem_append, List.mem_singleton]; tauto
    have wanted : r ∈ rs ∨ r ∈ wants ++ [a] ∨ r ∈ binds.map Prod.fst := by
      simp only [List.mem_append, List.mem_singleton]; tauto
    rw [bindWants]
    split
    next i _ =>
      split
      · exact ih _ _ _ (bound i)
      · exact ih _ _ _ wanted
    · exact ih _ _ _ wanted

/-- Waiting micro-batches keep their numbers while they bind. -/
theorem bindAllWaiting_numbers (p : Nat) (ms : List MicroBatch) (s : State) :
    (bindAllWaiting p ms s).1.map MicroBatch.mb = ms.map MicroBatch.mb := by
  induction ms generalizing s with
  | nil => rfl
  | cons m ms ih =>
    rw [bindAllWaiting]
    dsimp only
    rw [List.map_cons, List.map_cons, ih]
    split <;> rfl

theorem State.fence_of_unloaded {s t : State} (h : t.unloaded = s.unloaded) (p : Nat) : t.fence p = s.fence p :=
  congrArg (fun m => mget StepFence.reset m p) (congrArg State.fences h : t.unloaded.fences = s.unloaded.fences)

theorem State.microBatches_of_unloaded {s t : State} (h : t.unloaded = s.unloaded) (p : Nat) :
    t.microBatches p = s.microBatches p := congrArg (fun m => mget [] m p) (congrArg State.mbs h : t.unloaded.mbs = s.unloaded.mbs)

/-- After a partition's waiting bindings the same micro-batches are admitted. -/
theorem State.bindWaiting_numbers (s : State) (p : Nat) :
    ((s.bindWaiting p).microBatches p).map MicroBatch.mb = (s.microBatches p).map MicroBatch.mb := by
  rw [State.bindWaiting]
  dsimp only
  rw [State.microBatches_set, if_pos rfl, bindAllWaiting_numbers]

theorem State.bindWaiting_fence (s : State) (p q : Nat) : (s.bindWaiting p).fence q = s.fence q := by
  rw [State.bindWaiting]
  exact State.fence_of_unloaded (bindAllWaiting_unloaded p (s.microBatches p) s) q

/-! ## STEP_BEGIN -/

theorem State.nameDeadline_head (s : State) (j step b : Nat) :
    ((s.nameDeadline j step b).cs j).deadlines.head? = some (step % 65536, b) := by
  simp [State.nameDeadline, State.modCs]

/-- Changes of cores, one after another, change the cores. -/
theorem foldl_modCore_eq (f : State → Nat → CoreSt → CoreSt) (l : List Nat) (s : State) :
    ∃ xs, l.foldl (fun s q => s.modCore q (f s q)) s = { s with cores := xs } := by
  induction l generalizing s with
  | nil => exact ⟨s.cores, rfl⟩
  | cons q l ih =>
    obtain ⟨xs, h⟩ := ih (s.modCore q (f s q))
    exact ⟨xs, h⟩

/-- The fence that a begin leaves: the one that is armed for the step, or a new one. -/
def State.begunFence (s : State) (c : Core) (step mbs fb : Nat) : StepFence :=
  if (s.fence (c / 16)).state = .armed ∧ (s.fence (c / 16)).step = step then s.fence (c / 16)
  else ⟨.armed, step, mbs, 0, fb, s.ctxOf c, none⟩

/-- A begin before the lanes are seeded: the fence, the deadline and STEP. -/
def State.begun (s : State) (c : Core) (step mbs fb : Nat) (dl : Option (JobSlot × Nat)) : State :=
  let t := if (s.fence (c / 16)).state = .armed ∧ (s.fence (c / 16)).step = step then s
    else s.setFence (c / 16) (s.begunFence c step mbs fb)
  (match dl with
    | some (j, b) => t.nameDeadline j step b
    | none => t).pWr (c / 16) 0x51 (BitVec.ofNat 64 step)

theorem stepBeginEff_eq (c : Core) (step mbs fb : Nat) (dl : Option (JobSlot × Nat)) (reseed : Bool) {s : State}
    (runs : s.coreRuns c = true) : ∃ xs, stepBeginEff c step mbs fb dl reseed s = { s.begun c step mbs fb dl with cores := xs } := by
  rw [stepBeginEff, if_neg (by simp [runs])]
  have fence : (if (s.fence (c / 16)).state = .armed ∧ (s.fence (c / 16)).step = step then s
      else s.setFence (c / 16) { s.fence (c / 16) with
        state := .armed, step := step, mbs := mbs, retired := 0, beat := fb, ctx := s.ctxOf c, voided := none }) =
      if (s.fence (c / 16)).state = .armed ∧ (s.fence (c / 16)).step = step then s
      else s.setFence (c / 16) (s.begunFence c step mbs fb) := by
    split
    · rfl
    next other => rw [State.begunFence, if_neg other]
  dsimp only
  rw [fence]
  cases reseed
  · exact ⟨_, rfl⟩
  · exact foldl_modCore_eq ..

theorem State.begun_fence (s : State) (c : Core) (step mbs fb : Nat) (dl : Option (JobSlot × Nat)) (q : Nat) :
    (s.begun c step mbs fb dl).fence q = if q = c / 16 then s.begunFence c step mbs fb else s.fence q := by
  have named : (s.begun c step mbs fb dl).fence q = (if (s.fence (c / 16)).state = .armed ∧ (s.fence (c / 16)).step = step then s
      else s.setFence (c / 16) (s.begunFence c step mbs fb)).fence q := by
    cases dl <;> rfl
  rw [named]
  split
  next same =>
    split
    next e => rw [e, State.begunFence, if_pos same]
    · rfl
  · exact State.fence_setFence ..

theorem State.begun_frame (s : State) (c : Core) (step mbs fb : Nat) (dl : Option (JobSlot × Nat)) :
    (s.begun c step mbs fb dl).versions = s.versions ∧ (s.begun c step mbs fb dl).mem = s.mem := by
  by_cases same : (s.fence (c / 16)).state = .armed ∧ (s.fence (c / 16)).step = step
  · simp only [State.begun, if_pos same]
    cases dl <;> exact ⟨rfl, rfl⟩
  · simp only [State.begun, if_neg same]
    cases dl <;> exact ⟨rfl, rfl⟩

theorem exec_stepBegin_spec (c : Core) (step mbs fb : Nat) (dl : Option (JobSlot × Nat)) (reseed : Bool) {s : State}
    (runs : s.coreRuns c = true) :
    ∃ t, exec (.stepBegin c step mbs fb dl reseed) s = .next t ∧ t.fence (c / 16) = s.begunFence c step mbs fb ∧
      t.pRd (c / 16) 0x51 = BitVec.ofNat 64 step ∧ (∀ q, q ≠ c.val / 16 → t.fence q = s.fence q) ∧
      t.versions = s.versions ∧ t.mem = s.mem ∧
      ∀ j b, dl = some (j, b) → (t.cs j).deadlines.head? = some (step % 65536, b) := by
  obtain ⟨xs, eff⟩ := stepBeginEff_eq c step mbs fb dl reseed runs
  obtain ⟨versions, mem⟩ := s.begun_frame c step mbs fb dl
  refine ⟨_, congrArg s.outcome eff, ?_, ?_, fun q hq => ?_, versions, mem, ?_⟩
  · exact (s.begun_fence c step mbs fb dl _).trans (if_pos rfl)
  · exact (State.rd_wr ..).trans (if_pos rfl)
  · exact (s.begun_fence c step mbs fb dl q).trans (if_neg hq)
  · rintro j b rfl
    exact State.nameDeadline_head ..

/-! ## MICRO_BATCH_ADMIT and MICRO_BATCH_RETIRE -/

section
variable {p : Part} {mb trains : Nat} {rs : List Region} {acorns : List (Fin 32)} {s : State}

/-- Nothing keeps a new micro-batch with VALID acorns from being bound. -/
theorem not_microBatch_refused (new : ((s.microBatches p).any fun m => m.mb == mb) = false)
    (valid : ∀ i ∈ acorns, bit (s.acorn p i) 63 = true) :
    ¬((s.microBatches p).any (fun m => m.mb == mb) || acorns.any fun i => !bit (s.acorn p i) 63) = true := by
  simp only [new, Bool.false_or, List.any_eq_true, not_exists, not_and]
  intro i hi
  simp [valid i hi]

theorem exec_admit_current {l : List (Nat × Nat)} (new : ((s.microBatches p).any fun m => m.mb == mb) = false)
    (valid : ∀ i ∈ acorns, bit (s.acorn p i) 63 = true) (bound : bindCurrent s p (s.admitRegions p rs acorns) = some l) :
    ∃ t, exec (.microBatchAdmit p mb rs .current trains acorns) s = .next t ∧
      t.microBatches p = s.microBatches p ++ [⟨mb, trains, acorns.map Fin.val, none, l, []⟩] ∧
      (∀ r ∈ rs, r.val ∈ l.map Prod.fst) ∧
      (∀ b ∈ l, ((t.region p b.1).slot b.2).bind = ((s.region p b.1).slot b.2).bind + 1 ∧
        ((s.region p b.1).slot b.2).state = .committed) ∧ t.mem = s.mem ∧ t.cores = s.cores := by
  obtain ⟨names, slots⟩ := bindCurrent_spec bound
  have once : (l.map Prod.fst).Nodup := names ▸ List.Nodup.map Fin.val_injective (nodup_eraseDups _)
  have eff : microBatchAdmitEff p mb rs .current trains acorns s =
      (s.bindAll p l).setMicroBatches p (s.microBatches p ++ [⟨mb, trains, acorns.map Fin.val, none, l, []⟩]) := by
    rw [microBatchAdmitEff, bound]
    exact if_neg (not_microBatch_refused new valid)
  refine ⟨_, congrArg s.outcome eff, ?_, fun r hr => ?_, fun b hb => ⟨?_, ?_⟩, ?_, ?_⟩
  · exact (State.microBatches_set ..).trans (if_pos rfl)
  · rw [names, State.admitRegions]
    exact List.mem_map_of_mem (by simp [hr])
  · exact congrArg VSlot.bind (State.slot_bindAll once s b hb)
  · exact VEntry.current_committed (slots b hb)
  · exact State.bindAll_mem ..
  · exact State.bindAll_cores ..

theorem exec_admit_waits (waits : bindCurrent s p (s.admitRegions p rs acorns) = none) :
    exec (.microBatchAdmit p mb rs .current trains acorns) s = .next s := by
  refine congrArg s.outcome ?_
  rw [microBatchAdmitEff, waits]
  exact ite_self s

/-- No slot that a region holds of the step is full. -/
theorem not_stepSlot_full {n : Nat} {l : List Region} (room : ∀ r ∈ l, ∀ i, (s.region p r).stepSlot (BitVec.ofNat 16 n) = some i →
    ((s.region p r).slot i).bind < 255) :
    ¬(l.any fun r => match (s.region p r).stepSlot (BitVec.ofNat 16 n) with
        | some i => decide (255 ≤ ((s.region p r).slot i).bind)
        | none => false) = true := by
  simp only [List.any_eq_true, not_exists, not_and]
  intro r hr
  split
  next i here => simp [room r hr i here]
  · simp

theorem exec_admit_step {n : Nat} (new : ((s.microBatches p).any fun m => m.mb == mb) = false)
    (valid : ∀ i ∈ acorns, bit (s.acorn p i) 63 = true)
    (room : ∀ r ∈ s.admitRegions p rs acorns, ∀ i, (s.region p r).stepSlot (BitVec.ofNat 16 n) = some i →
      ((s.region p r).slot i).bind < 255) :
    ∃ t l w, exec (.microBatchAdmit p mb rs (.step n) trains acorns) s = .next t ∧
      t.microBatches p = s.microBatches p ++ [⟨mb, trains, acorns.map Fin.val, some n, l, w⟩] ∧
      ∀ r ∈ s.admitRegions p rs acorns, r.val ∈ w ∨ r.val ∈ l.map Prod.fst := by
  have same := State.microBatches_of_unloaded
    (bindWants_unloaded p (BitVec.ofNat 16 n) ((s.admitRegions p rs acorns).map Fin.val) s [] []) p
  have eff : microBatchAdmitEff p mb rs (.step n) trains acorns s =
      let r := bindWants p (BitVec.ofNat 16 n) ((s.admitRegions p rs acorns).map Fin.val) s [] []
      r.1.setMicroBatches p (r.1.microBatches p ++ [⟨mb, trains, acorns.map Fin.val, some n, r.2.1, r.2.2⟩]) := by
    rw [microBatchAdmitEff]
    exact (if_neg (not_microBatch_refused new valid)).trans (if_neg (not_stepSlot_full room))
  refine ⟨_, _, _, congrArg s.outcome eff, ?_, fun r hr => bindWants_covers p (BitVec.ofNat 16 n)
    ((s.admitRegions p rs acorns).map Fin.val) s [] [] r (.inl (List.mem_map_of_mem hr))⟩
  refine ((State.microBatches_set ..).trans (if_pos rfl)).trans ?_
  rw [same]

theorem State.fence_countRetired (t : State) (q : Nat) (m : MicroBatch) :
    ((if (t.fence q).state = .armed ∧ (t.fence q).step = m.trains then
      t.setFence q { t.fence q with retired := (t.fence q).retired + 1 } else t).fence q).retired =
      (t.fence q).retired + if (t.fence q).state = .armed ∧ (t.fence q).step = m.trains then 1 else 0 := by
  split <;> simp

/-- A retirement: the bindings given back, the micro-batch struck off, and the fence counting it. -/
theorem microBatchRetireEff_shape {m : MicroBatch} (here : (s.microBatches p).find? (fun m => m.mb == mb) = some m) :
    ∃ u : State, microBatchRetireEff p mb s = (u.bindWaiting p).pollLoader p ∧
      u.microBatches p = (s.microBatches p).filter (fun x => x.mb != mb) ∧
      (u.fence p).retired = (s.fence p).retired +
        (if (s.fence p).state = .armed ∧ (s.fence p).step = m.trains then 1 else 0) := by
  have given : (m.binds.foldl (fun s b => s.unbindSlot p b.1 b.2) s).unloaded = s.unloaded :=
    foldl_unloaded (fun s b => State.unbindSlot_unloaded ..) _ _
  have batches := State.microBatches_of_unloaded given p
  have fence := State.fence_of_unloaded given p
  rw [microBatchRetireEff, here]
  refine ⟨_, rfl, ?_, ?_⟩
  · rw [← batches]
    split <;> exact (State.microBatches_set ..).trans (if_pos rfl)
  · rw [← fence]
    exact State.fence_countRetired ..

theorem exec_retire_spec {m : MicroBatch} (here : (s.microBatches p).find? (fun m => m.mb == mb) = some m) :
    ∃ t, exec (.microBatchRetire p mb) s = .next t ∧ (∀ x ∈ t.microBatches p, x.mb ≠ mb) ∧
      (t.fence p).retired = (s.fence p).retired +
        (if (s.fence p).state = .armed ∧ (s.fence p).step = m.trains then 1 else 0) := by
  obtain ⟨u, eff, batches, fence⟩ := microBatchRetireEff_shape here
  have polled := State.pollLoader_unloaded (u.bindWaiting p) p
  refine ⟨_, congrArg s.outcome eff, fun x hx => ?_, ?_⟩
  · have named := List.mem_map_of_mem (f := MicroBatch.mb) ((State.microBatches_of_unloaded polled p) ▸ hx)
    rw [State.bindWaiting_numbers, batches] at named
    obtain ⟨y, hy, e⟩ := List.mem_map.1 named
    exact e ▸ bne_iff_ne.1 (List.mem_filter.1 hy).2
  · exact (congrArg StepFence.retired ((State.fence_of_unloaded polled p).trans (State.bindWaiting_fence ..))).trans fence

end

/-- Settles O15: the effects of the three commands, each in turn. -/
theorem stepsAndMicroBatchesBegin : Obligations.StepsAndMicroBatchesBegin :=
  ⟨fun c step mbs fb dl reseed _ runs => exec_stepBegin_spec c step mbs fb dl reseed runs,
    fun _ _ _ _ _ _ new valid => ⟨fun _ => exec_admit_current new valid, exec_admit_waits, fun _ => exec_admit_step new valid⟩,
    fun _ _ _ _ => exec_retire_spec⟩

end Sys2Proof.Machine

end

section
/-! PROOFS. What leaves the version table as it was. -/

namespace Sys2Proof.Machine

theorem State.versions_of_unreported {s t : State} (h : t.unreported = s.unreported) : t.versions = s.versions :=
  (congrArg State.versions h : t.unreported.versions = s.unreported.versions)

theorem ite_versions {p : Prop} [Decidable p] {a b s : State} (ha : a.versions = s.versions) (hb : b.versions = s.versions) :
    (if p then a else b).versions = s.versions := by
  split <;> assumption

theorem foldl_versions {β : Type} {f : State → β → State} (h : ∀ s b, (f s b).versions = s.versions) (l : List β) (s : State) :
    (l.foldl f s).versions = s.versions := foldl_keeps State.versions h l s

@[simp] theorem State.shadowAdd_versions (s : State) (key : Nat) (n : Nat) : (s.shadowAdd key n).versions = s.versions := rfl

@[simp] theorem State.shadowOf_versions (s : State) (key : Nat) (n : Nat) : (s.shadowOf key n).versions = s.versions := by
  unfold State.shadowOf
  exact ite_versions (State.shadowAdd_versions ..) rfl

@[simp] theorem State.count_versions (s : State) (key : Nat) (n : Nat) : (s.count key n).versions = s.versions := by
  unfold State.count
  exact (State.wr_versions ..).trans (State.shadowOf_versions ..)

@[simp] theorem State.wrN_versions (s : State) (key : Nat) (v : Nat) : (s.wrN key v).versions = s.versions := by
  unfold State.wrN
  exact State.wr_versions ..

@[simp] theorem State.modLoader_versions (s : State) (p : Nat) (f : LoaderSt → LoaderSt) :
    (s.modLoader p f).versions = s.versions := by
  unfold State.modLoader
  exact State.setLoader_versions ..

@[simp] theorem State.modShard_versions (s : State) (p : Nat) (i : Nat) (f : Shard → Shard) :
    (s.modShard p i f).versions = s.versions := by
  unfold State.modShard
  exact State.modLoader_versions ..

@[simp] theorem State.sendFetch_versions (s : State) (p : Nat) (i : Nat) : (s.sendFetch p i).versions = s.versions := by
  unfold State.sendFetch
  dsimp only
  split
  · rfl
  · split
    · rfl
    · exact (State.versions_of_unreported (State.inject_unreported ..)).trans ((State.modShard_versions ..).trans
        (State.modLoader_versions ..))

@[simp] theorem State.enterLoading_versions (s : State) (p : Nat) : (s.enterLoading p).versions = s.versions := by
  unfold State.enterLoading
  refine (foldl_versions (fun ft fb => ?_) _ _).trans (State.modLoader_versions ..)
  split
  · exact ite_versions rfl (State.sendFetch_versions ..)
  · rfl

@[simp] theorem State.zeroMem_versions (s : State) (a : Nat) (n : Nat) : (s.zeroMem a n).versions = s.versions := rfl

@[simp] theorem State.modCore_versions (s : State) (c : Nat) (f : CoreSt → CoreSt) : (s.modCore c f).versions = s.versions := by
  unfold State.modCore
  exact State.setCore_versions ..

@[simp] theorem State.closeRegion_versions (s : State) (c : Nat) (r : WRegion) : (s.closeRegion c r).versions = s.versions := by
  unfold State.closeRegion
  exact (State.modCore_versions ..).trans (State.zeroMem_versions ..)

@[simp] theorem State.discardOpen_versions (s : State) (c : Nat) : (s.discardOpen c).versions = s.versions := by
  unfold State.discardOpen
  exact foldl_versions (fun ft fb => State.closeRegion_versions ..) _ _

@[simp] theorem State.toTango_versions (s : State) (st : Nat) : (s.toTango st).versions = s.versions := by
  unfold State.toTango
  exact State.wrN_versions ..

end Sys2Proof.Machine

end

section
/-! PROOFS. What leaves the step fences as they were. -/

namespace Sys2Proof.Machine

theorem State.fences_of_unreported {s t : State} (h : t.unreported = s.unreported) : t.fences = s.fences :=
  (congrArg State.fences h : t.unreported.fences = s.unreported.fences)

theorem ite_fences {p : Prop} [Decidable p] {a b s : State} (ha : a.fences = s.fences) (hb : b.fences = s.fences) :
    (if p then a else b).fences = s.fences := by
  split <;> assumption

theorem foldl_fences {β : Type} {f : State → β → State} (h : ∀ s b, (f s b).fences = s.fences) (l : List β) (s : State) :
    (l.foldl f s).fences = s.fences := foldl_keeps State.fences h l s

@[simp] theorem bindRelease_fences (t : Tag) (l : List (Nat × Nat)) (s : State) : (bindRelease t l s).fences = s.fences := by
  induction l generalizing s with
  | nil => rfl
  | cons x l ih =>
    rw [bindRelease]
    refine (ih _).trans ?_
    dsimp only
    split
    · split <;> rfl
    · rfl

@[simp] theorem State.shadowAdd_fences (s : State) (key : Nat) (n : Nat) : (s.shadowAdd key n).fences = s.fences := rfl

@[simp] theorem State.shadowOf_fences (s : State) (key : Nat) (n : Nat) : (s.shadowOf key n).fences = s.fences := by
  unfold State.shadowOf
  exact ite_fences (State.shadowAdd_fences ..) rfl

@[simp] theorem State.count_fences (s : State) (key : Nat) (n : Nat) : (s.count key n).fences = s.fences := by
  unfold State.count
  exact (State.wr_fences ..).trans (State.shadowOf_fences ..)

@[simp] theorem State.wrN_fences (s : State) (key : Nat) (v : Nat) : (s.wrN key v).fences = s.fences := by
  unfold State.wrN
  exact State.wr_fences ..

@[simp] theorem State.modLoader_fences (s : State) (p : Nat) (f : LoaderSt → LoaderSt) :
    (s.modLoader p f).fences = s.fences := by
  unfold State.modLoader
  exact State.setLoader_fences ..

@[simp] theorem State.modShard_fences (s : State) (p : Nat) (i : Nat) (f : Shard → Shard) :
    (s.modShard p i f).fences = s.fences := by
  unfold State.modShard
  exact State.modLoader_fences ..

@[simp] theorem State.sendFetch_fences (s : State) (p : Nat) (i : Nat) : (s.sendFetch p i).fences = s.fences := by
  unfold State.sendFetch
  dsimp only
  split
  · rfl
  · split
    · rfl
    · exact (State.fences_of_unreported (State.inject_unreported ..)).trans ((State.modShard_fences ..).trans
        (State.modLoader_fences ..))

@[simp] theorem State.enterLoading_fences (s : State) (p : Nat) : (s.enterLoading p).fences = s.fences := by
  unfold State.enterLoading
  refine (foldl_fences (fun ft fb => ?_) _ _).trans (State.modLoader_fences ..)
  split
  · exact ite_fences rfl (State.sendFetch_fences ..)
  · rfl

@[simp] theorem State.modSlot_fences (s : State) (p : Nat) (r : Nat) (i : Nat) (f : VSlot → VSlot) :
    (s.modSlot p r i f).fences = s.fences := by
  unfold State.modSlot
  exact State.setRegion_fences ..

@[simp] theorem holdFree_fences (p : Nat) (x1 : List Nat) (x2 : State) : (holdFree p x1 x2).fences = x2.fences := by
  induction x1 generalizing p x2 with
  | nil => rfl
  | cons a l ih =>
    rw [holdFree]
    refine (ih ..).trans (ite_fences rfl ?_)
    split
    · rfl
    · exact (State.modLoader_fences ..).trans (State.modSlot_fences ..)

@[simp] theorem State.pollLoader_fences (s : State) (p : Nat) : (s.pollLoader p).fences = s.fences := by
  unfold State.pollLoader
  exact ite_fences rfl (ite_fences ((State.enterLoading_fences ..).trans (holdFree_fences ..)) (holdFree_fences ..))

@[simp] theorem State.zeroMem_fences (s : State) (a : Nat) (n : Nat) : (s.zeroMem a n).fences = s.fences := rfl

@[simp] theorem State.modCore_fences (s : State) (c : Nat) (f : CoreSt → CoreSt) : (s.modCore c f).fences = s.fences := by
  unfold State.modCore
  exact State.setCore_fences ..

@[simp] theorem State.bindSlot_fences (s : State) (p : Nat) (r : Nat) (i : Nat) : (s.bindSlot p r i).fences = s.fences := by
  unfold State.bindSlot
  exact State.modSlot_fences ..

@[simp] theorem State.relSync_fences (s : State) : (s.relSync).fences = s.fences := by
  unfold State.relSync
  split
  · exact bindRelease_fences ..
  · rfl

@[simp] theorem State.toTango_fences (s : State) (st : Nat) : (s.toTango st).fences = s.fences := by
  unfold State.toTango
  exact State.wrN_fences ..

@[simp] theorem State.unbindSlot_fences (s : State) (p : Nat) (r : Nat) (i : Nat) : (s.unbindSlot p r i).fences = s.fences := by
  unfold State.unbindSlot
  exact State.modSlot_fences ..

@[simp] theorem State.tangoUnbind_fences (s : State) (p : Nat) (r : Nat) (i : Nat) :
    (s.tangoUnbind p r i).fences = s.fences := by
  unfold State.tangoUnbind
  exact (State.pollLoader_fences ..).trans (State.unbindSlot_fences ..)

@[simp] theorem State.listTakes_fences (s : State) : (s.listTakes).fences = s.fences := by
  unfold State.listTakes
  exact (State.relSync_fences ..).trans ((State.modTango_fences ..).trans (foldl_fences
    (fun ft fb => State.tangoUnbind_fences ..) _ _))

@[simp] theorem State.mirrorFence_fences (s : State) (t : Tag) : (s.mirrorFence t).fences = s.fences := by
  unfold State.mirrorFence
  exact ite_fences rfl (ite_fences (ite_fences ((State.toTango_fences ..).trans ((State.modTango_fences ..).trans (ite_fences
    ((State.count_fences ..).trans ((State.listTakes_fences ..).trans (State.modTango_fences ..)))
    ((State.listTakes_fences ..).trans (State.modTango_fences ..))))) ((State.modTango_fences ..).trans (ite_fences
    ((State.count_fences ..).trans ((State.listTakes_fences ..).trans (State.modTango_fences ..)))
    ((State.listTakes_fences ..).trans (State.modTango_fences ..))))) ((State.listTakes_fences ..).trans
    (State.modTango_fences ..)))

end Sys2Proof.Machine

end

section
/-! PROOFS. OPTIMIZER_WRITE, REGION_MARK_WRITTEN, STEP_FENCE_COMMIT and FENCE_ABORT (R101 to R104), obligation O16. -/

namespace Sys2Proof.Machine

/-! ## Predicates of one slot that the operations on the version table keep -/

theorem VEntry.slot_setSlot (e : VEntry) (j i : Nat) (v : VSlot) :
    (e.setSlot j v).slot i = if i = 0 ↔ j = 0 then v else e.slot i := by
  by_cases hi : i = 0 <;> by_cases hj : j = 0 <;> simp [VEntry.slot, VEntry.setSlot, hi, hj]

theorem VEntry.slot_congr (e : VEntry) {i j : Nat} (h : i = 0 ↔ j = 0) : e.slot i = e.slot j := by
  simp only [VEntry.slot, h]

theorem State.region_modSlot_key (s : State) (p r i : Nat) (f : VSlot → VSlot) (p' q : Nat) :
    (s.modSlot p r i f).region p' q =
      if 256 * p' + q = 256 * p + r then (s.region p r).setSlot i (f ((s.region p r).slot i)) else s.region p' q := by
  simp [State.modSlot, State.setRegion, State.region]

/-- A change of a slot that keeps a predicate there keeps it of every slot. -/
theorem State.modSlot_keeps {Q : VSlot → Prop} {s : State} {p r j p' q i : Nat} {f : VSlot → VSlot}
    (keeps : Q ((s.region p r).slot j) → Q (f ((s.region p r).slot j))) (h : Q ((s.region p' q).slot i)) :
    Q (((s.modSlot p r j f).region p' q).slot i) := by
  rw [State.region_modSlot_key]
  split
  next same =>
    have region : s.region p' q = s.region p r := congrArg (mget VEntry.reset s.versions) same
    rw [VEntry.slot_setSlot]
    split
    next side => exact keeps (VEntry.slot_congr _ side ▸ region ▸ h)
    · exact region ▸ h
  · exact h

/-- A slot that the loader may take only while it is FREE, and that binds do not touch. -/
structure Stays (Q : VSlot → Prop) : Prop where
  bound : ∀ v, Q v → Q { v with bind := v.bind + 1 }
  unbound : ∀ v, Q v → Q (let v := { v with bind := v.bind - 1 }; if v.state = .retiring ∧ v.bind = 0 then v.freed else v)
  taken : ∀ v, Q v → v.state = .free → Q { v with state := .pending, holder := .load, bind := 0 }

section
variable {Q : VSlot → Prop} {p q i : Nat}

theorem bindWants_keeps (stays : Stays Q) (o : Nat) (t : Tag) (rs : List Nat) (s : State) (b : List (Nat × Nat)) (w : List Nat)
    (h : Q ((s.region p q).slot i)) : Q (((bindWants o t rs s b w).1.region p q).slot i) := by
  induction rs generalizing s b w with
  | nil => exact h
  | cons r rs ih =>
    rw [bindWants]
    split
    · split
      · exact ih _ _ _ (State.modSlot_keeps (stays.bound _) h)
      · exact ih _ _ _ h
    · exact ih _ _ _ h

theorem bindAllWaiting_keeps (stays : Stays Q) (o : Nat) (ms : List MicroBatch) (s : State) (h : Q ((s.region p q).slot i)) :
    Q (((bindAllWaiting o ms s).2.region p q).slot i) := by
  induction ms generalizing s with
  | nil => exact h
  | cons m ms ih =>
    rw [bindAllWaiting]
    refine ih _ ?_
    split
    · exact h
    · exact bindWants_keeps stays _ _ _ _ _ _ h

theorem State.bindWaiting_keeps (stays : Stays Q) (s : State) (o : Nat) (h : Q ((s.region p q).slot i)) :
    Q (((s.bindWaiting o).region p q).slot i) := bindAllWaiting_keeps stays o _ s h

theorem holdFree_keeps (stays : Stays Q) (o : Nat) (rs : List Nat) (s : State) (h : Q ((s.region p q).slot i)) :
    Q (((holdFree o rs s).region p q).slot i) := by
  induction rs generalizing s with
  | nil => exact h
  | cons r rs ih =>
    rw [holdFree]
    refine ih _ ?_
    split
    · exact h
    · split
      · exact h
      next j found =>
        have free : ((s.region o r).slot j).state = .free := by simpa using (VEntry.find_spec found).1
        exact State.modSlot_keeps (p := o) (r := r) (j := j)
          (f := fun v => { v with state := .pending, holder := .load, bind := 0 }) (fun hv => stays.taken _ hv free) h

theorem State.pollLoader_keeps (stays : Stays Q) (s : State) (o : Nat) (h : Q ((s.region p q).slot i)) :
    Q (((s.pollLoader o).region p q).slot i) := by
  have held := holdFree_keeps stays o (s.loader o).regions s h
  rw [State.pollLoader]
  split
  · exact h
  · dsimp only
    split
    · rw [State.region, State.enterLoading_versions]
      exact held
    · exact held

theorem bindRelease_keeps (stays : Stays Q) (t : Tag) (l : List (Nat × Nat)) (s : State) (h : Q ((s.region p q).slot i)) :
    Q (((bindRelease t l s).region p q).slot i) := by
  induction l generalizing s with
  | nil => exact h
  | cons x l ih =>
    rw [bindRelease]
    refine ih _ ?_
    dsimp only
    split
    · split
      · exact State.modSlot_keeps (f := fun v => { v with bind := v.bind + 1 }) (stays.bound _) h
      · exact h
    · exact h

/-- A mirror's fence gives up binds of regions that have left the list and binds the released tag. -/
theorem State.listTakes_keeps (stays : Stays Q) (s : State) (h : Q ((s.region p q).slot i)) :
    Q ((s.listTakes.region p q).slot i) := by
  have given (l : List (Nat × Nat × Nat)) : Q (((l.foldl (fun s b => s.tangoUnbind b.1 b.2.1 b.2.2) s).region p q).slot i) :=
    List.foldlRecOn (motive := fun t : State => Q ((t.region p q).slot i)) l _ h fun t ht b _ =>
      State.pollLoader_keeps stays _ _ (State.modSlot_keeps (stays.unbound _) ht)
  rw [State.listTakes, State.relSync]
  split
  · exact bindRelease_keeps stays _ _ _ (given _)
  · exact given _

theorem State.mirrorFence_keeps (stays : Stays Q) (s : State) (t : Tag) (h : Q ((s.region p q).slot i)) :
    Q (((s.mirrorFence t).region p q).slot i) := by
  have taken := State.listTakes_keeps stays (s.modTango fun x => { x with lastFence := some t }) h
  have versions : (s.mirrorFence t).versions = s.versions ∨
      (s.mirrorFence t).versions = (s.modTango fun x => { x with lastFence := some t }).listTakes.versions := by
    rw [State.mirrorFence]
    split
    · exact .inl rfl
    · have waits : ∀ u : State, ∀ f, ((if u.tango.waiting.isSome then u.count (tKey 0x10) 1 else u).modTango f).versions = u.versions :=
        fun u f => (State.modTango_versions ..).trans (ite_versions (State.count_versions ..) rfl)
      exact .inr (ite_versions (ite_versions ((State.toTango_versions ..).trans (waits ..)) (waits ..)) rfl)
  rcases versions with e | e <;> rw [State.region, e]
  · exact h
  · exact taken

end

/-! ## The slots that a step has pending -/

theorem mem_stepPending {s : State} {p : Nat} {x : Nat × Nat} (h : x ∈ s.stepPending p) :
    (s.region p x.1).find (fun v => v.state == .pending && v.holder == .step) = some x.2 := by
  obtain ⟨r, -, e⟩ := List.mem_filterMap.1 h
  obtain ⟨i, found, rfl⟩ := Option.map_eq_some_iff.1 e
  exact found

/-- A region has one slot pending for the step at most. -/
theorem State.stepPending_nodup (s : State) (p : Nat) : ((s.stepPending p).map Prod.fst).Nodup := by
  rw [State.stepPending, List.map_filterMap]
  refine List.Nodup.filterMap (fun a b c ha hb => ?_) List.nodup_range
  simp only [Option.map_map, Option.mem_def, Option.map_eq_some_iff, Function.comp_apply] at ha hb
  obtain ⟨_, _, rfl⟩ := ha
  obtain ⟨_, _, e⟩ := hb
  exact e.symm

/-! ## OPTIMIZER_WRITE and REGION_MARK_WRITTEN -/

section
variable {c : Core} {r : Region} {s : State}

theorem exec_optimizerWrite_free (runs : s.coreRuns c = true) {k : Nat} (valid : (s.region (c / 16) r).valid = true)
    (double : (s.region (c / 16) r).single = false) (here : (s.region (c / 16) r).current = some k)
    (free : ((s.region (c / 16) r).slot (1 - k)).state = .free) :
    ∃ t, exec (.optimizerWrite c r) s = .next t ∧ ((t.region (c / 16) r).slot (1 - k)).state = .pending ∧
      ((t.region (c / 16) r).slot (1 - k)).holder = .step ∧ ((t.region (c / 16) r).slot (1 - k)).written = false ∧
      (∀ q, q ≠ r.val → t.region (c / 16) q = s.region (c / 16) q) ∧ t.mem = s.mem ∧ t.cores = s.cores := by
  have eff : optimizerWriteEff c r s = s.modSlot (c / 16) r (1 - k) fun v =>
      { v with state := .pending, holder := .step, written := false } := by
    rw [optimizerWriteEff, if_neg (by simp [runs])]
    refine (if_neg (by simp [valid, double])).trans ?_
    rw [here]
    dsimp only
    rw [free]
  have slot : (((s.modSlot (c / 16) r (1 - k) fun v => { v with state := .pending, holder := .step, written := false }).region
      (c / 16) r).slot (1 - k)) = { (s.region (c / 16) r).slot (1 - k) with state := .pending, holder := .step, written := false } := by
    rw [State.region_modSlot, if_pos rfl, VEntry.slot_setSlot_self]
  exact ⟨_, congrArg s.outcome eff, congrArg VSlot.state slot, congrArg VSlot.holder slot, congrArg VSlot.written slot,
    fun q hq => by rw [State.withQueue_region, State.region_modSlot, if_neg hq], rfl, rfl⟩

theorem exec_optimizerWrite_retiring (runs : s.coreRuns c = true) {k : Nat} (valid : (s.region (c / 16) r).valid = true)
    (double : (s.region (c / 16) r).single = false) (here : (s.region (c / 16) r).current = some k)
    (retiring : ((s.region (c / 16) r).slot (1 - k)).state = .retiring) : exec (.optimizerWrite c r) s = .next s := by
  refine congrArg s.outcome ?_
  rw [optimizerWriteEff, if_neg (by simp [runs])]
  refine (if_neg (by simp [valid, double])).trans ?_
  rw [here]
  dsimp only
  rw [retiring]

theorem exec_optimizerWrite_refused (runs : s.coreRuns c = true)
    (h : (s.region (c / 16) r).valid = false ∨ (s.region (c / 16) r).single = true) :
    exec (.optimizerWrite c r) s = .next ((s.opFail c stOperandLayout).withQueue s) := by
  refine congrArg s.outcome ?_
  rw [optimizerWriteEff, if_neg (by simp [runs])]
  exact if_pos h

theorem exec_regionMarkWritten_spec (runs : s.coreRuns c = true) {i : Nat}
    (found : (s.region (c / 16) r).find (fun v => v.state == .pending && v.holder == .step) = some i) :
    ∃ t, exec (.regionMarkWritten c r) s = .next t ∧ ((t.region (c / 16) r).slot i).written = true ∧
      ((t.region (c / 16) r).slot i).state = .pending ∧ (∀ q, q ≠ r.val → t.region (c / 16) q = s.region (c / 16) q) ∧
      t.mem = s.mem ∧ t.cores = s.cores := by
  have pending : ((s.region (c / 16) r).slot i).state = .pending ∧ ((s.region (c / 16) r).slot i).holder = .step := by
    simpa using (VEntry.find_spec found).1
  have eff : regionMarkWrittenEff c r s = s.modSlot (c / 16) r i fun v => { v with written := true } := by
    rw [regionMarkWrittenEff, if_neg (by simp [runs])]
    dsimp only
    rw [found]
  have slot : ((s.modSlot (c / 16) r i fun v => { v with written := true }).region (c / 16) r).slot i =
      { (s.region (c / 16) r).slot i with written := true } := by
    rw [State.region_modSlot, if_pos rfl, VEntry.slot_setSlot_self]
  exact ⟨_, congrArg s.outcome eff, congrArg VSlot.written slot, (congrArg VSlot.state slot).trans pending.1,
    fun q hq => by rw [State.withQueue_region, State.region_modSlot, if_neg hq], rfl, rfl⟩

end

/-! ## STEP_FENCE_COMMIT -/

/-- COMMITTED under a tag. -/
def committedUnder (t : Tag) (v : VSlot) : Prop := v.state = .committed ∧ v.tag = t

theorem committedUnder_stays (t : Tag) : Stays (committedUnder t) where
  bound _ h := h
  unbound v h := by
    dsimp only
    rw [if_neg (by simp [h.1])]
    exact h
  taken _ h free := VState.noConfusion (h.1.symm.trans free)

theorem commitStep_region_of_not_mem {p q : Nat} {t : Tag} {l : List (Nat × Nat)} (h : q ∉ l.map Prod.fst) (s : State) :
    (commitStep p t l s).region p q = s.region p q := by
  induction l generalizing s with
  | nil => rfl
  | cons x l ih =>
    obtain ⟨here, rest⟩ := not_or.1 (List.mem_cons.not.1 h)
    rw [commitStep, ih rest, State.region_modSlot, if_neg here, State.region_modSlot, if_neg here]

/-- Each slot of the list, one a region, is COMMITTED under the tag. -/
theorem commitStep_commits {p : Nat} {t : Tag} {l : List (Nat × Nat)} (once : (l.map Prod.fst).Nodup) (s : State) :
    ∀ x ∈ l, committedUnder t (((commitStep p t l s).region p x.1).slot x.2) := by
  induction l generalizing s with
  | nil => simp
  | cons a l ih =>
    obtain ⟨new, rest⟩ := List.nodup_cons.1 once
    intro x hx
    rw [commitStep]
    rcases List.mem_cons.1 hx with rfl | hx
    · rw [commitStep_region_of_not_mem new, State.region_modSlot, if_pos rfl, VEntry.slot_setSlot_self]
      exact ⟨rfl, rfl⟩
    · exact ih rest _ x hx

theorem commitStep_fences (p : Nat) (t : Tag) (l : List (Nat × Nat)) (s : State) : (commitStep p t l s).fences = s.fences := by
  induction l generalizing s with
  | nil => rfl
  | cons x l ih => exact ih _

theorem exec_stepFenceCommit_due {p : Part} {s : State} (armed : (s.fence p).state = .armed)
    (retired : (s.fence p).mbs ≤ (s.fence p).retired) (written : s.unwritten p = 0) (due : (s.fence p).beat ≤ s.beatIx) :
    ∃ t, exec (.stepFenceCommit p) s = .next t ∧ (t.fence p).state = .committed ∧ (t.fence p).step = (s.fence p).step ∧
      ∀ x ∈ s.stepPending p, ((t.region p x.1).slot x.2).state = .committed ∧
        ((t.region p x.1).slot x.2).tag = BitVec.ofNat 16 ((s.fence p).step + 1) := by
  obtain ⟨u, hu⟩ : ∃ u, u = (commitStep p (BitVec.ofNat 16 ((s.fence p).step + 1)) (s.stepPending p) s).setFence p
    { s.fence p with state := .committed } := ⟨_, rfl⟩
  have commit : stepFenceCommitEff p s = (u.bindWaiting p).pollLoader p :=
    hu ▸ if_pos ⟨armed, retired, written, due⟩
  have fence : ((u.bindWaiting p).pollLoader p).fence p = { s.fence p with state := .committed } := by
    rw [State.fence_of_unloaded (State.pollLoader_unloaded ..), State.bindWaiting_fence, hu, State.fence_setFence, if_pos rfl]
  have eff : stepFenceMirrorEff p s = ((u.bindWaiting p).pollLoader p).mirrorFence (BitVec.ofNat 16 ((s.fence p).step + 1)) := by
    rw [stepFenceMirrorEff, commit]
    exact if_pos ⟨armed, congrArg StepFence.state fence⟩
  have last := (congrArg (mget StepFence.reset · p.val) (State.mirrorFence_fences _ (BitVec.ofNat 16 ((s.fence p).step + 1)))).trans fence
  have step := congrArg StepFence.step last
  refine ⟨_, congrArg s.outcome eff, congrArg StepFence.state last, step, fun x hx => ?_⟩
  have done := commitStep_commits (p := p) (t := BitVec.ofNat 16 ((s.fence p).step + 1)) (s.stepPending_nodup p) s x hx
  have stays := committedUnder_stays (BitVec.ofNat 16 ((s.fence p).step + 1))
  exact State.mirrorFence_keeps stays _ _ (State.pollLoader_keeps stays _ _ (State.bindWaiting_keeps stays u _ (hu ▸ done)))

theorem exec_stepFenceCommit_early {p : Part} {s : State} (h : (s.fence p).state ≠ .armed ∨ (s.fence p).retired < (s.fence p).mbs ∨
    0 < s.unwritten p ∨ s.beatIx < (s.fence p).beat) : exec (.stepFenceCommit p) s = .next s := by
  have waits : stepFenceCommitEff p s = s := by
    refine if_neg ?_
    rintro ⟨armed, retired, written, due⟩
    rcases h with h | h | h | h
    · exact h armed
    all_goals omega
  refine congrArg s.outcome ?_
  rw [stepFenceMirrorEff, waits]
  exact if_neg fun both => FenceState.noConfusion (both.1.symm.trans both.2)

/-! ## FENCE_ABORT -/

/-- Given up: FREE, or taken by a waiting load. -/
def givenUp (v : VSlot) : Prop := v.state = .free ∨ v.holder = .load

theorem givenUp_stays : Stays givenUp where
  bound _ h := h
  unbound v h := by
    dsimp only
    split
    · exact .inl rfl
    · exact h
  taken _ _ _ := .inr rfl

/-- Slots given up, one after another, are FREE. -/
theorem foldl_freed_free {p q i : Nat} (l : List (Nat × Nat)) (s : State)
    (h : ((s.region p q).slot i).state = .free ∨ (q, i) ∈ l) :
    (((l.foldl (fun s x => s.modSlot p x.1 x.2 VSlot.freed) s).region p q).slot i).state = .free := by
  induction l generalizing s with
  | nil => exact h.resolve_right (by simp)
  | cons x l ih =>
    refine ih _ ?_
    rcases h with h | h
    · exact .inl (State.modSlot_keeps (Q := fun v => v.state = .free) (fun _ => rfl) h)
    · rcases List.mem_cons.1 h with rfl | h
      · exact .inl (by rw [State.region_modSlot, if_pos rfl, VEntry.slot_setSlot_self]; rfl)
      · exact .inr h

/-- The walnut regions that an aborted step left open, discarded: in the cores, or in what is saved of them. -/
def State.discardStep (s : State) (p : Nat) (ctx : Option Nat) : State :=
  match ctx with
  | none => (s.stepCores p none).foldl State.discardOpen s
  | some k =>
    match (mget Ctx.reset s.ctxs k).state with
    | .swapped | .loading =>
      { s with saved := s.saved.map fun (e : Nat × List (Nat × SavedCore)) =>
          if e.1 = k then (e.1, e.2.map fun (c : Nat × SavedCore) => (c.1, c.2.discardOpen c.1)) else e }
    | _ => (s.ctxCores k).foldl State.discardOpen s

theorem State.discardStep_versions (s : State) (p : Nat) (ctx : Option Nat) : (s.discardStep p ctx).versions = s.versions := by
  unfold State.discardStep
  split
  · exact foldl_versions (fun s b => State.discardOpen_versions ..) _ _
  · split
    · rfl
    · rfl
    · exact foldl_versions (fun s b => State.discardOpen_versions ..) _ _

theorem State.abortFence_of_armed {s : State} {p : Nat} (armed : (s.fence p).state = .armed) :
    s.abortFence p = ((((s.stepPending p).foldl (fun s x => s.modSlot p x.1 x.2 VSlot.freed) s).discardStep p
      (s.fence p).ctx).setFence p
        { s.fence p with state := .aborted, voided := some (BitVec.ofNat 16 ((s.fence p).step + 1)) }).pollLoader p := by
  rw [State.abortFence]
  exact if_neg (by simp [armed])

theorem exec_fenceAbort_armed {via : Via} {p : Part} {v : Word} {s : State} (reached : s.reaches via (partIx p) 0x5F = true)
    (asked : bit v 0 = true) (armed : (s.fence p).state = .armed) :
    ∃ t, exec (.fenceAbort via p v) s = .next t ∧ (t.fence p).state = .aborted ∧
      (t.fence p).voided = some (BitVec.ofNat 16 ((s.fence p).step + 1)) ∧
      ∀ x ∈ s.stepPending p, ((t.region p x.1).slot x.2).state = .free ∨ ((t.region p x.1).slot x.2).holder = .load := by
  have eff : fenceAbortEff via p v s = s.abortFence p := by
    rw [fenceAbortEff, fenceAbortW, if_pos asked]
    exact State.objWrite_ok _ reached _
  have fence : (s.abortFence p).fence p =
      { s.fence p with state := .aborted, voided := some (BitVec.ofNat 16 ((s.fence p).step + 1)) } := by
    rw [State.abortFence_of_armed armed, State.fence_of_unloaded (State.pollLoader_unloaded ..), State.fence_setFence, if_pos rfl]
  refine ⟨_, congrArg s.outcome eff, congrArg StepFence.state fence, congrArg StepFence.voided fence, fun x hx => ?_⟩
  have freed := foldl_freed_free (p := p) (s.stepPending p) s (.inr hx)
  rw [State.withQueue_region, State.abortFence_of_armed armed]
  refine State.pollLoader_keeps givenUp_stays _ _ (.inl ?_)
  rw [State.region] at freed ⊢
  rw [State.setFence_versions, State.discardStep_versions]
  exact freed

theorem exec_fenceAbort_other {via : Via} {p : Part} {v : Word} {s : State} (reached : s.reaches via (partIx p) 0x5F = true)
    (other : (s.fence p).state ≠ .armed) : exec (.fenceAbort via p v) s = .next s := by
  refine congrArg s.outcome ((State.objWrite_ok _ reached _).trans ?_)
  rw [State.abortFence, if_pos other, ite_self]

/-- Settles O16: the effects of the four commands, each in turn. -/
theorem fencesCommitOrAbort : Obligations.FencesCommitOrAbort :=
  ⟨fun _ _ _ runs => ⟨fun _ => exec_optimizerWrite_free runs, fun _ => exec_optimizerWrite_retiring runs,
      exec_optimizerWrite_refused runs, fun _ => exec_regionMarkWritten_spec runs⟩,
    fun _ _ => ⟨exec_stepFenceCommit_due, exec_stepFenceCommit_early⟩,
    fun _ _ _ _ reached asked => ⟨exec_fenceAbort_armed reached asked, exec_fenceAbort_other reached⟩⟩

end Sys2Proof.Machine

end

section
/-! PROOFS. LOSS_SUBMIT, the clears of counters, flags and idle counters (R11, R52, R99, R100, R132), obligation O17. -/

namespace Sys2Proof.Machine

/-! ## The reset values of counters -/

/-- The reset value of an object of a table, but for GROUP_LEAD and the roles of ports. -/
def tableReset (os : List ObjSpec) (sub : Nat) : Word :=
  match objFind os sub with
  | some o => BitVec.ofNat 64 o.reset
  | none => 0#64

theorem objKey_div (index : Nat) {sub : Nat} (small : sub < 256) : objKey index sub / 256 = index := by
  rw [objKey]; omega

theorem objKey_mod (index : Nat) {sub : Nat} (small : sub < 256) : objKey index sub % 256 = sub := by
  rw [objKey]; omega

theorem objDefault_objKey (index : Nat) {sub : Nat} (small : sub < 256) (lead : sub ≠ 0xB0) (role : sub ≠ 1) :
    objDefault (objKey index sub) = tableReset (objTable index) sub := by
  rw [objDefault, objKey_div index small, objKey_mod index small, if_neg (fun h => lead h.1), if_neg (fun h => role h.1)]
  rfl

theorem objTable_partIx (p : Part) : objTable (partIx p) = partObjs := by
  have := p.isLt
  simp (disch := (simp only [partIx]; omega)) only [objTable, if_neg, if_pos]

theorem objTable_port (n : Port) : objTable (0x2510 + n) = portObjs := by
  have := n.isLt
  simp (disch := omega) only [objTable, if_neg, if_pos]

theorem objTable_jsIx (j : JobSlot) : objTable (jsIx j) = slotObjs := by
  have := j.isLt
  simp (disch := (simp only [jsIx]; omega)) only [objTable, if_neg, if_pos]

/-- Counters of a table that reset to 0. -/
def resetZero (os : List ObjSpec) (subs : List Nat) : Bool :=
  subs.all fun sub => decide (sub < 256) && sub != 0xB0 && sub != 1 && tableReset os sub == 0#64

theorem objDefault_of_resetZero {os : List ObjSpec} {index : Nat} {subs : List Nat} (table : objTable index = os)
    (zero : resetZero os subs = true) : ∀ sub ∈ subs, objDefault (objKey index sub) = 0#64 := by
  intro sub hs
  have row := List.all_eq_true.1 zero sub hs
  simp only [Bool.and_eq_true, decide_eq_true_eq, bne_iff_ne, beq_iff_eq] at row
  obtain ⟨⟨⟨small, lead⟩, role⟩, value⟩ := row
  rw [objDefault_objKey index small lead role, table, value]

/-! ## Clears of runs of counters (R11) -/

/-- A cleared run of counters that reset to 0. -/
theorem clearObjs_clearedTo {index sub n : Nat} (zero : ∀ x ∈ List.range' sub n, objDefault (objKey index x) = 0#64) (s : State) :
    clearedTo s (s.clearObjs index sub n) index (List.range' sub n) := by
  obtain ⟨reads, o, shape⟩ := State.clearObjs_spec index n sub s
  have mem (x : Nat) : x ∈ List.range' sub n ↔ ∃ i, i < n ∧ x = sub + i := by
    rw [List.mem_range']
    exact exists_congr fun i => by rw [Nat.one_mul]
  refine ⟨fun x hx => ?_, fun k hk => ?_, ?_⟩
  · obtain ⟨i, hi, rfl⟩ := (mem x).1 hx
    rw [reads, if_pos ⟨i, hi, rfl⟩, zero _ hx]
  · rw [reads, if_neg]
    rintro ⟨i, hi, rfl⟩
    exact hk _ ((mem _).2 ⟨i, hi, rfl⟩) rfl
  · rw [shape]
    exact ⟨rfl, rfl, rfl, rfl, rfl, rfl, rfl, rfl, rfl⟩

theorem clearedTo_trans {s t u : State} {index : Nat} {l m : List Nat} (h : clearedTo s t index l) (g : clearedTo t u index m) :
    clearedTo s u index (l ++ m) := by
  obtain ⟨hz, hr, h1, h2, h3, h4, h5, h6, h7, h8, h9⟩ := h
  obtain ⟨gz, gr, g1, g2, g3, g4, g5, g6, g7, g8, g9⟩ := g
  refine ⟨fun x hx => ?_, fun k hk => ?_, g1.trans h1, g2.trans h2, g3.trans h3, g4.trans h4, g5.trans h5, g6.trans h6,
    g7.trans h7, g8.trans h8, g9.trans h9⟩
  · by_cases again : ∃ y ∈ m, objKey index x = objKey index y
    · obtain ⟨y, hy, e⟩ := again
      rw [e, gz y hy]
    · rw [gr _ fun y hy e => again ⟨y, hy, e⟩]
      exact (List.mem_append.1 hx).elim (hz x) fun late => absurd ⟨x, late, rfl⟩ again
  · rw [gr k fun y hy => hk y (List.mem_append_right _ hy), hr k fun y hy => hk y (List.mem_append_left _ hy)]

/-- A clear that arrives: its counters are 0 when bit 0 of the value is set, and nothing happens when it is not. -/
theorem exec_clear_spec {i : Instr} {s u : State} {via : Via} {at_ sub index : Nat} {v : Word} {subs : List Nat}
    (reached : s.reaches via at_ sub = true) (clears : clearedTo s u index subs)
    (eff : exec i s = s.outcome (s.objWrite via at_ sub (clearW s v u)) := by rfl) :
    (bit v 0 = true → ∃ t, exec i s = .next t ∧ clearedTo s t index subs) ∧ (bit v 0 = false → exec i s = .next s) := by
  rw [eff, clearW, State.objWrite_ok s reached]
  exact ⟨fun set => ⟨_, congrArg s.outcome (if_pos set), clears⟩,
    fun clear => congrArg s.outcome (if_neg (by rw [clear]; exact Bool.false_ne_true))⟩

theorem part_clearedTo (p : Part) {sub n : Nat} (zero : resetZero partObjs (List.range' sub n) = true) (s : State) :
    clearedTo s (s.clearObjs (partIx p) sub n) (partIx p) (List.range' sub n) :=
  clearObjs_clearedTo (objDefault_of_resetZero (objTable_partIx p) zero) s

theorem port_clearedTo (n : Port) (s : State) :
    clearedTo s (s.clearPort n) (0x2510 + n) (List.range' 6 6 ++ List.range' 0x0E 3) :=
  clearedTo_trans (clearObjs_clearedTo (objDefault_of_resetZero (objTable_port n) (by decide)) s)
    (clearObjs_clearedTo (objDefault_of_resetZero (objTable_port n) (by decide)) _)

theorem fabric_clearedTo (s : State) : clearedTo s s.clearFabric 0x2500 (List.range' 0x0C 3 ++ List.range' 0x1A 2) :=
  clearedTo_trans (clearObjs_clearedTo (objDefault_of_resetZero (os := fabricObjs) (by decide) (by decide)) s)
    (clearObjs_clearedTo (objDefault_of_resetZero (os := fabricObjs) (by decide) (by decide)) _)

theorem eccLog_clearedTo (s : State) : clearedTo s s.clearEccLog 0x2800 [0x0E] := by
  refine ⟨fun x hx => ?_, fun k hk => ?_, rfl, rfl, rfl, rfl, rfl, rfl, rfl, rfl, rfl⟩
  · rw [List.mem_singleton.1 hx, State.clearEccLog, State.rd_wr, if_pos rfl]
    rfl
  · rw [State.clearEccLog, State.rd_wr, if_neg (hk _ (List.mem_singleton.2 rfl))]
    rfl

theorem exec_eccLogClear_spec {via : Via} {v : Word} {s : State} (reached : s.reaches via 0x2800 0x0F = true) :
    (bit v 0 = true → ∃ t, exec (.eccLogClear via v) s = .next t ∧ t.eccLog = [] ∧ clearedTo s t 0x2800 [0x0E]) ∧
    (bit v 0 = false → exec (.eccLogClear via v) s = .next s) := by
  have eff : eccLogClearEff via v s = if bit v 0 then s.clearEccLog else s := State.objWrite_ok s reached _
  exact ⟨fun set => ⟨_, congrArg s.outcome (eff.trans (if_pos set)), rfl, eccLog_clearedTo s⟩,
    fun clear => congrArg s.outcome (eff.trans (if_neg (by rw [clear]; exact Bool.false_ne_true)))⟩

/-! ## LOSS_SUBMIT (R99) -/

@[simp] theorem State.event_rd (s : State) (p k j : Nat) : (s.event p k).rd j = s.rd j := by
  obtain ⟨h, o, e⟩ := State.event_logEvent s p k
  rw [e]
  rfl

theorem pKey_ne (p : Nat) {a b : Nat} (h : a ≠ b) : pKey p a ≠ pKey p b := fun e => h (Nat.add_left_cancel e)

theorem exec_lossSubmit_eq {via : Option Via} {p : Part} {loss : Word32} {s : State}
    (reached : ∀ v, via = some v → s.reaches v (partIx p) 0x56 = true) :
    exec (.lossSubmit via p loss) s = .next ((s.submitLoss p loss).withQueue s) := by
  cases via with
  | none => rfl
  | some v => exact congrArg s.outcome (State.objWrite_ok s (reached v rfl) _)

/-- A loss that is not finite sets bit 1 of the status. -/
theorem State.submitLoss_not_finite {s : State} {p : Part} {loss : Word32} (h : ((v32 loss).isNan || (v32 loss).isInf) = true) :
    s.submitLoss p loss = (s.wrN (pKey p 0x59) (s.pN p 0x59 ||| 2)).event (s.lead p) 2 := by
  rw [State.submitLoss]
  exact if_pos h

/-- The first accepted loss is the mean. -/
theorem State.submitLoss_first {s : State} {p : Part} {loss : Word32} (h : ((v32 loss).isNan || (v32 loss).isInf) = false)
    (none_yet : s.pN p 0x5B = 0) (warm : 0 < s.pN p 0x5A) :
    s.submitLoss p loss = (((s.pWr p 0x57 (loss.zeroExtend 64)).pWr p 0x58 ((0#32).zeroExtend 64)).wrN (pKey p 0x5B)
      (min (0 + 1) (2 ^ 32 - 1))) := by
  rw [State.submitLoss]
  refine (if_neg (by rw [h]; exact Bool.false_ne_true)).trans ?_
  rw [none_yet]
  exact (if_neg fun both => Nat.not_le.2 warm both.1).trans rfl

theorem exec_lossSubmit_not_finite {via : Option Via} {p : Part} {loss : Word32} {s : State}
    (reached : ∀ v, via = some v → s.reaches v (partIx p) 0x56 = true)
    (h : ((v32 loss).isNan || (v32 loss).isInf) = true) : ∃ t, exec (.lossSubmit via p loss) s = .next t ∧
      bit (t.pRd p 0x59) 1 = true ∧ t.pRd p 0x5B = s.pRd p 0x5B ∧ t.pRd p 0x57 = s.pRd p 0x57 ∧
      t.pRd p 0x58 = s.pRd p 0x58 ∧ t.mem = s.mem := by
  have reads (sub : Nat) : (s.submitLoss p loss).pRd p sub =
      if pKey p sub = pKey p 0x59 then BitVec.ofNat 64 (s.pN p 0x59 ||| 2) else s.pRd p sub := by
    rw [State.submitLoss_not_finite h]
    exact (State.event_rd ..).trans (State.rd_wr ..)
  have kept {sub : Nat} (other : sub ≠ 0x59) : (s.submitLoss p loss).pRd p sub = s.pRd p sub :=
    (reads sub).trans (if_neg (pKey_ne p other))
  refine ⟨_, exec_lossSubmit_eq reached, ?_, kept (by decide), kept (by decide), kept (by decide), ?_⟩
  · refine (congrArg (bit · 1) ((reads 0x59).trans (if_pos rfl))).trans ?_
    simp [bit]
  · exact State.submitLoss_mem ..

theorem exec_lossSubmit_first {via : Option Via} {p : Part} {loss : Word32} {s : State}
    (reached : ∀ v, via = some v → s.reaches v (partIx p) 0x56 = true)
    (h : ((v32 loss).isNan || (v32 loss).isInf) = false) (none_yet : s.pN p 0x5B = 0) (warm : 0 < s.pN p 0x5A) :
    ∃ t, exec (.lossSubmit via p loss) s = .next t ∧ t.pRd p 0x57 = loss.zeroExtend 64 ∧ t.pRd p 0x58 = 0#64 ∧
      t.pRd p 0x5B = 1#64 ∧ t.pRd p 0x59 = s.pRd p 0x59 ∧ t.mem = s.mem := by
  have reads (sub : Nat) : (s.submitLoss p loss).pRd p sub =
      if pKey p sub = pKey p 0x5B then BitVec.ofNat 64 (min (0 + 1) (2 ^ 32 - 1))
      else if pKey p sub = pKey p 0x58 then (0#32).zeroExtend 64
      else if pKey p sub = pKey p 0x57 then loss.zeroExtend 64 else s.pRd p sub := by
    rw [State.submitLoss_first h none_yet warm]
    refine (State.rd_wr ..).trans (ite_congr rfl (fun _ => rfl) fun _ => (State.rd_wr ..).trans (ite_congr rfl (fun _ => rfl) fun _ => ?_))
    exact State.rd_wr ..
  have ne {a b : Nat} (other : a ≠ b) := pKey_ne p other
  refine ⟨_, exec_lossSubmit_eq reached, ?_, ?_, ?_, ?_, State.submitLoss_mem ..⟩
  · exact (reads 0x57).trans (by rw [if_neg (ne (by decide)), if_neg (ne (by decide)), if_pos rfl])
  · exact (reads 0x58).trans (by rw [if_neg (ne (by decide)), if_pos rfl]; rfl)
  · exact (reads 0x5B).trans (if_pos rfl)
  · exact (reads 0x59).trans (by rw [if_neg (ne (by decide)), if_neg (ne (by decide)), if_neg (ne (by decide))])

/-! ## Flags, non-finite counters and idle counters (R52, R100, R132) -/

theorem mem_part_cores (p d : Nat) : d ∈ (List.range 16).map (fun q => 16 * p + q) ↔ d / 16 = p := by
  simp only [List.mem_map, List.mem_range]
  exact ⟨fun ⟨q, hq, e⟩ => by omega, fun h => ⟨d % 16, by omega, by omega⟩⟩

theorem foldl_clearFlags_flags (p d : Nat) (m : Word32) (l : List Nat) (s : State) :
    ((l.foldl (fun s q => s.clearFlags (16 * p + q) m) s).core d).flags =
      if d ∈ l.map (fun q => 16 * p + q) then (s.core d).flags &&& ~~~m else (s.core d).flags := by
  induction l generalizing s with
  | nil => rfl
  | cons q l ih =>
    obtain ⟨self, other, -, -⟩ := s.clearFlags_frame (16 * p + q) m
    rw [List.foldl_cons, ih]
    by_cases here : d = 16 * p + q
    · rw [here, self]
      simp [CoreSt.clearFlags, BitVec.and_assoc]
    · rw [other d here]
      simp [here]

theorem foldl_clearFlags_frame (p : Nat) (m : Word32) (l : List Nat) (s : State) :
    (l.foldl (fun s q => s.clearFlags (16 * p + q) m) s).obj = s.obj ∧
      (l.foldl (fun s q => s.clearFlags (16 * p + q) m) s).mem = s.mem :=
  ⟨foldl_keeps State.obj (fun s q => (s.clearFlags_frame (16 * p + q) m).2.2.2) l s,
    foldl_keeps State.mem (fun s q => (s.clearFlags_frame (16 * p + q) m).2.2.1) l s⟩

section
variable {via : Via} {p : Part} {v : Word} {s : State}

theorem exec_arithFlagsClear_spec (reached : s.reaches via (partIx p) 0x41 = true) :
    ∃ t, exec (.arithFlagsClear via p v) s = .next t ∧
      (∀ d, (t.core d).flags = if d / 16 = p.val then (s.core d).flags &&& ~~~clearMask v.toNat else (s.core d).flags) ∧
      t.obj = s.obj ∧ t.mem = s.mem := by
  have eff : arithFlagsClearEff via p v s = (List.range 16).foldl (fun s q => s.clearFlags (16 * p + q) (clearMask v.toNat)) s := by
    rw [arithFlagsClearEff, arithFlagsClearW]
    exact State.objWrite_ok s reached _
  obtain ⟨obj, mem⟩ := foldl_clearFlags_frame p (clearMask v.toNat) (List.range 16) s
  refine ⟨_, congrArg s.outcome eff, fun d => ?_, (State.withQueue_obj ..).trans obj, (State.withQueue_mem ..).trans mem⟩
  rw [State.withQueue_core]
  refine (foldl_clearFlags_flags p d (clearMask v.toNat) (List.range 16) s).trans ?_
  simp only [mem_part_cores]

/-- The counters of the classes of a mask, in the order of the classes. -/
def clearClass (p : Nat) (v : Word) (s : State) (i : Nat) : State :=
  if bit v i then (s.pWr p (0x60 + i) 0).pWr p (0x68 + i) 0 else s

theorem clearClass_rd (p : Nat) (v : Word) (s : State) (i k : Nat) : (clearClass p v s i).rd k =
    if bit v i = true ∧ (k = pKey p (0x60 + i) ∨ k = pKey p (0x68 + i)) then 0 else s.rd k := by
  unfold clearClass
  by_cases h : bit v i = true
  · rw [if_pos h, State.pWr, State.pWr, State.rd_wr, State.rd_wr]
    by_cases a : k = pKey p (0x68 + i) <;> by_cases b : k = pKey p (0x60 + i) <;> simp [h, a, b]
  · simp [h]

theorem foldl_clearClass_rd (p : Nat) (v : Word) (k : Nat) (l : List Nat) (s : State) : (l.foldl (clearClass p v) s).rd k =
    if ∃ i ∈ l, bit v i = true ∧ (k = pKey p (0x60 + i) ∨ k = pKey p (0x68 + i)) then 0 else s.rd k := by
  induction l generalizing s with
  | nil => simp
  | cons i l ih =>
    rw [List.foldl_cons, ih, clearClass_rd]
    by_cases later : ∃ i ∈ l, bit v i = true ∧ (k = pKey p (0x60 + i) ∨ k = pKey p (0x68 + i))
    · rw [if_pos later, if_pos]
      obtain ⟨j, hj, h⟩ := later
      exact ⟨j, List.mem_cons_of_mem _ hj, h⟩
    · rw [if_neg later]
      simp only [List.mem_cons, exists_eq_or_imp, later, or_false]

theorem foldl_clearClass_frame (p : Nat) (v : Word) (l : List Nat) (s : State) :
    (l.foldl (clearClass p v) s).cores = s.cores ∧ (l.foldl (clearClass p v) s).mem = s.mem := by
  have frame (s : State) (i : Nat) : (clearClass p v s i).cores = s.cores ∧ (clearClass p v s i).mem = s.mem := by
    unfold clearClass
    split <;> exact ⟨rfl, rfl⟩
  exact ⟨foldl_keeps State.cores (fun s i => (frame s i).1) l s, foldl_keeps State.mem (fun s i => (frame s i).2) l s⟩

theorem exec_nonfiniteClear_spec (reached : s.reaches via (partIx p) 0x70 = true) :
    ∃ t, exec (.nonfiniteClear via p v) s = .next t ∧
      (∀ i, i < 8 → t.pRd p (0x60 + i) = (if bit v i then 0 else s.pRd p (0x60 + i)) ∧
        t.pRd p (0x68 + i) = (if bit v i then 0 else s.pRd p (0x68 + i))) ∧ t.cores = s.cores ∧ t.mem = s.mem := by
  have eff : nonfiniteClearEff via p v s = (List.range 8).foldl (clearClass p v) s := by
    rw [nonfiniteClearEff, nonfiniteClearW]
    exact State.objWrite_ok s reached _
  obtain ⟨cores, mem⟩ := foldl_clearClass_frame p v (List.range 8) s
  refine ⟨_, congrArg s.outcome eff, fun i hi => ⟨?_, ?_⟩,
    (State.withQueue_cores ..).trans cores, (State.withQueue_mem ..).trans mem⟩ <;>
    refine (State.withQueue_pRd ..).trans <| (foldl_clearClass_rd p v _ (List.range 8) s).trans (if_congr ?_ rfl rfl) <;>
    simp only [List.mem_range, pKey, objKey, Nat.add_left_cancel_iff]
  · exact ⟨fun ⟨j, hj, set, e⟩ => (show j = i by omega) ▸ set, fun set => ⟨i, hi, set, .inl rfl⟩⟩
  · exact ⟨fun ⟨j, hj, set, e⟩ => (show j = i by omega) ▸ set, fun set => ⟨i, hi, set, .inr rfl⟩⟩

/-- Writing captured values, one register each: what the registers read. -/
theorem foldl_capture_pRd (p : Nat) (f : State → Nat → Word) (cores : ∀ (s : State) sub w k, f (s.pWr p sub w) k = f s k)
    (sub : Nat) (l : List Nat) (s : State) : (l.foldl (fun s k => s.pWr p (0x80 + k) (f s k)) s).pRd p sub =
      if ∃ k ∈ l, sub = 0x80 + k then f s (sub - 0x80) else s.pRd p sub := by
  induction l generalizing s with
  | nil => simp
  | cons k l ih =>
    rw [List.foldl_cons, ih, cores]
    have write : (s.pWr p (0x80 + k) (f s k)).pRd p sub = if sub = 0x80 + k then f s k else s.pRd p sub :=
      (State.rd_wr ..).trans (if_congr ⟨fun e => Nat.add_left_cancel e, fun e => e ▸ rfl⟩ rfl rfl)
    by_cases later : ∃ k ∈ l, sub = 0x80 + k
    · rw [if_pos later, if_pos]
      obtain ⟨j, hj, h⟩ := later
      exact ⟨j, List.mem_cons_of_mem _ hj, h⟩
    · rw [if_neg later, write]
      simp only [List.mem_cons, exists_eq_or_imp, later, or_false]
      split
      next e => rw [e, Nat.add_sub_cancel_left]
      · rfl

theorem foldl_capture_frame (p : Nat) (f : State → Nat → Word) (l : List Nat) (s : State) :
    (l.foldl (fun s k => s.pWr p (0x80 + k) (f s k)) s).cores = s.cores ∧
      (l.foldl (fun s k => s.pWr p (0x80 + k) (f s k)) s).mem = s.mem :=
  ⟨foldl_keeps State.cores (fun _ _ => State.wr_cores ..) l s, foldl_keeps State.mem (fun _ _ => State.wr_mem ..) l s⟩

/-- What IDLE_CORE_SELECT captures: a core's counter, or the sum over the partition. -/
def idleCapture (p : Nat) (v : Word) (s : State) (k : Nat) : Word :=
  if v.toNat = 0xFF then (List.range 16).foldl (fun a q => a + s.idleOf (16 * p + q) k) 0#64
  else s.idleOf (16 * p + v.toNat) k

theorem exec_idleCoreSelect_spec (reached : s.reaches via (partIx p) 0x8A = true) (named : v.toNat ≤ 15 ∨ v.toNat = 0xFF) :
    ∃ t, exec (.idleCoreSelect via p v) s = .next t ∧ t.pRd p 0x8A = v ∧
      (∀ k, k < 9 → t.pRd p (0x80 + k) = idleCapture p v s k) ∧ t.cores = s.cores ∧ t.mem = s.mem := by
  have eff : idleCoreSelectEff via p v s =
      (List.range 9).foldl (fun s k => s.pWr p (0x80 + k) (idleCapture p v s k)) (s.pWr p 0x8A v) := by
    rw [idleCoreSelectEff, idleCoreSelectW, if_pos named]
    exact State.objWrite_ok s reached _
  have reads (sub : Nat) := foldl_capture_pRd p (idleCapture p v) (fun _ _ _ _ => rfl) sub (List.range 9) (s.pWr p 0x8A v)
  obtain ⟨cores, mem⟩ := foldl_capture_frame p (idleCapture p v) (List.range 9) (s.pWr p 0x8A v)
  refine ⟨_, congrArg s.outcome eff, ?_, fun k hk => ?_, (State.withQueue_cores ..).trans cores, (State.withQueue_mem ..).trans mem⟩ <;>
    rw [State.withQueue_pRd, reads]
  · rw [if_neg]
    · exact (State.rd_wr ..).trans (if_pos rfl)
    · rintro ⟨k, hk, e⟩
      rw [List.mem_range] at hk
      omega
  · rw [if_pos ⟨k, List.mem_range.2 hk, rfl⟩, Nat.add_sub_cancel_left]
    rfl

theorem foldl_idle_cleared (p d k : Nat) (l : List Nat) (s : State) :
    (l.foldl (fun s q => s.modCore (16 * p + q) fun x => { x with idle := [] }) s).idleOf d k =
      if d ∈ l.map (fun q => 16 * p + q) then 0#64 else s.idleOf d k := by
  induction l generalizing s with
  | nil => rfl
  | cons q l ih =>
    rw [List.foldl_cons, ih, State.idleOf, State.core_modCore]
    by_cases here : d = 16 * p + q <;> simp [here, State.idleOf]

theorem foldl_idle_frame (p : Nat) (l : List Nat) (s : State) :
    (l.foldl (fun s q => s.modCore (16 * p + q) fun x => { x with idle := [] }) s).obj = s.obj ∧
      (l.foldl (fun s q => s.modCore (16 * p + q) fun x => { x with idle := [] }) s).mem = s.mem :=
  ⟨foldl_keeps State.obj (fun _ _ => State.setCore_obj ..) l s, foldl_keeps State.mem (fun _ _ => State.setCore_mem ..) l s⟩

theorem exec_idleCounterClear_spec (reached : s.reaches via (partIx p) 0x89 = true) (set : bit v 0 = true) :
    ∃ t, exec (.idleCounterClear via p v) s = .next t ∧
      (∀ d k, t.idleOf d k = if d / 16 = p.val then 0#64 else s.idleOf d k) ∧ t.obj = s.obj ∧ t.mem = s.mem := by
  have eff : idleCounterClearEff via p v s = (List.range 16).foldl (fun s q => s.modCore (16 * p + q) fun x => { x with idle := [] }) s := by
    rw [idleCounterClearEff, clearW, if_pos set]
    exact State.objWrite_ok s reached _
  obtain ⟨obj, mem⟩ := foldl_idle_frame p (List.range 16) s
  refine ⟨_, congrArg s.outcome eff, fun d k => ?_, (State.withQueue_obj ..).trans obj, (State.withQueue_mem ..).trans mem⟩
  have cleared := foldl_idle_cleared p d k (List.range 16) s
  simp only [mem_part_cores] at cleared
  rw [State.idleOf] at cleared
  rw [State.idleOf, State.withQueue_core, cleared]

end

/-- Settles O17: LOSS_SUBMIT, each clear of a group of counters by the run of objects that it clears, and the rest in turn. -/
theorem lossAndCountersAreKept : Obligations.LossAndCountersAreKept := by
  refine ⟨fun via p loss s reached => ⟨exec_lossSubmit_eq reached, exec_lossSubmit_not_finite reached, exec_lossSubmit_first reached⟩,
    fun via v s => ⟨fun p r => exec_clear_spec r (part_clearedTo p (sub := 0x44) (n := 4) (by decide) s),
      fun p r => exec_clear_spec r (part_clearedTo p (sub := 0x49) (n := 1) (by decide) s),
      fun p r => exec_clear_spec r (part_clearedTo p (sub := 0xB3) (n := 9) (by decide) s),
      fun p r => exec_clear_spec r (part_clearedTo p (sub := 0xA1) (n := 5) (by decide) s),
      fun p r => exec_clear_spec r (part_clearedTo p (sub := 0x94) (n := 6) (by decide) s),
      fun p r => exec_clear_spec r (part_clearedTo p (sub := 0xCB) (n := 5) (by decide) s),
      fun r => exec_clear_spec r (fabric_clearedTo s),
      fun r => exec_clear_spec r (clearObjs_clearedTo (sub := 3) (n := 1)
        (objDefault_of_resetZero (index := 0x2600) (os := collObjs) (by decide) (by decide)) s),
      fun r => exec_clear_spec r (clearObjs_clearedTo (sub := 9) (n := 1)
        (objDefault_of_resetZero (index := 0x2000) (os := powerObjs) (by decide) (by decide)) s),
      fun n r => exec_clear_spec r (port_clearedTo n s),
      fun j r => exec_clear_spec r (clearObjs_clearedTo (sub := 0x15) (n := 7)
        (objDefault_of_resetZero (objTable_jsIx j) (by decide)) s),
      exec_eccLogClear_spec⟩,
    fun via p v s => ⟨exec_arithFlagsClear_spec, exec_nonfiniteClear_spec, fun r => ⟨fun small => ?_, fun all => ?_⟩,
      exec_idleCounterClear_spec⟩⟩
  · obtain ⟨t, ran, select, captured, cores, mem⟩ := exec_idleCoreSelect_spec r (.inl small)
    refine ⟨t, ran, select, fun k hk => (captured k hk).trans (if_neg ?_), cores, mem⟩
    omega
  · obtain ⟨t, ran, select, captured, cores, -⟩ := exec_idleCoreSelect_spec r (.inr all)
    exact ⟨t, ran, select, fun k hk => (captured k hk).trans (if_pos all), cores⟩

end Sys2Proof.Machine

end

section
/-! PROOFS. PROGRAM_REGISTER, IMAGE_VALIDATION_DONE, PROGRAM_RELEASE, SLOT_ARM and SLOT_ABORT (R107, R108, R187, R188), obligation O18. -/

namespace Sys2Proof.Machine

/-! ## PROGRAM_REGISTER, IMAGE_VALIDATION_DONE and PROGRAM_RELEASE -/

/-- One program entry is `x` now, and nothing else of programs, cores, memory and objects has changed. -/
def progBecomes (s t : State) (p n : Nat) (x : Prog) : Prop :=
  t.prog p n = x ∧ (∀ m : Nat, m ≠ n → t.prog p m = s.prog p m) ∧ t.cores = s.cores ∧ t.mem = s.mem ∧ t.obj = s.obj

theorem setProg_becomes (s : State) (p n : Nat) (x : Prog) : progBecomes s (s.setProg p n x) p n x :=
  ⟨(State.prog_setProg ..).trans (if_pos rfl), fun _ hm => (State.prog_setProg ..).trans (if_neg hm), rfl, rfl, rfl⟩

theorem progBecomes_trans {s t u : State} {p n : Nat} {x y : Prog} (h : progBecomes s t p n x) (g : progBecomes t u p n y) :
    progBecomes s u p n y := by
  obtain ⟨-, hm, hc, hmem, ho⟩ := h
  obtain ⟨gn, gm, gc, gmem, go⟩ := g
  exact ⟨gn, fun m other => (gm m other).trans (hm m other), gc.trans hc, gmem.trans hmem, go.trans ho⟩

section
variable {via : Via} {p : Part} {n : Fin 1024} {s : State}

theorem exec_programRegister_spec {a len : Nat} (reached : s.reachesBlock via p = true) (free : (s.prog p n).state = .free)
    (kept : (s.prog p n).releasing = false) (aligned : a % 4096 = 0) (some_ : 1 ≤ len) (fits : len ≤ 65536) :
    ∃ t, exec (.programRegister via p n a len) s = .next t ∧
      progBecomes s t p n { s.prog p n with state := .validating, refuse := 0, address := a, length := len } := by
  obtain ⟨s1, h1⟩ : ∃ t, t = s.setProg p n { s.prog p n with address := a } := ⟨_, rfl⟩
  have address : progAddressW s p n a = .ok s1 := by
    rw [progAddressW]
    exact (if_neg (by simp [aligned])).trans ((if_pos ⟨free, kept⟩).trans (by rw [h1]))
  have b1 : progBecomes s s1 p n _ := h1 ▸ setProg_becomes ..
  obtain ⟨s2, h2⟩ : ∃ t, t = s1.setProg p n { s1.prog p n with length := len } := ⟨_, rfl⟩
  have length : progLengthW s1 p n len = .ok s2 := by
    rw [progLengthW]
    refine (if_neg (by omega)).trans ((if_pos ?_).trans (by rw [h2]))
    rw [b1.1]
    exact ⟨free, kept⟩
  have b2 : progBecomes s1 s2 p n _ := h2 ▸ setProg_becomes ..
  have validate : progValidateW s2 p n = .ok (s2.setProg p n { s2.prog p n with state := .validating, refuse := 0 }) := by
    rw [progValidateW]
    refine if_pos ?_
    rw [b2.1, b1.1]
    exact ⟨free, kept⟩
  have eff : programRegisterEff via p n a len s = s2.setProg p n { s2.prog p n with state := .validating, refuse := 0 } := by
    rw [programRegisterEff, address]
    dsimp only
    rw [length]
    dsimp only
    rw [validate]
    exact State.blockWrite_ok s reached _ _
  refine ⟨_, congrArg s.outcome eff, progBecomes_trans (progBecomes_trans b1 b2) ?_⟩
  have last := setProg_becomes s2 p n { s2.prog p n with state := .validating, refuse := 0 }
  rw [b2.1, b1.1] at last ⊢
  exact last

theorem exec_imageValidationDone_spec {img : Image} (validating : (s.prog p n).state = .validating) :
    ∃ t, exec (.imageValidationDone p n img) s = .next t ∧
      t.prog p n = (if s.imageCheck p (s.prog p n) img = 0 then { s.prog p n with state := .ready, img := some img }
        else { s.prog p n with state := .refused, refuse := s.imageCheck p (s.prog p n) img }) ∧
      (∀ m : Nat, m ≠ n.val → t.prog p m = s.prog p m) ∧ t.cores = s.cores ∧ t.mem = s.mem ∧
      (s.channelLeaves p img = false → t.obj = s.obj) := by
  have start : imageValidationDoneEff p n img s = match s.imageCheck p (s.prog p n) img with
      | 0 => s.setProg p n { s.prog p n with state := .ready, img := some img }
      | k => if (s.setProg p n { s.prog p n with state := .refused, refuse := k }).channelLeaves p img
        then (s.setProg p n { s.prog p n with state := .refused, refuse := k }).partFault p
        else s.setProg p n { s.prog p n with state := .refused, refuse := k } := if_neg (by simp [validating])
  by_cases good : s.imageCheck p (s.prog p n) img = 0
  · rw [good] at start ⊢
    obtain ⟨entry, others, cores, mem, obj⟩ := setProg_becomes s p n { s.prog p n with state := .ready, img := some img }
    exact ⟨_, congrArg s.outcome start, entry.trans (if_pos rfl).symm, others, cores, mem, fun _ => obj⟩
  · obtain ⟨u, hu⟩ : ∃ u, u = s.setProg p n { s.prog p n with state := .refused, refuse := s.imageCheck p (s.prog p n) img } := ⟨_, rfl⟩
    have eff : imageValidationDoneEff p n img s = if u.channelLeaves p img then u.partFault p else u := by
      rw [start]
      split
      next zero => exact absurd zero good
      · rw [hu]
    obtain ⟨entry, others, cores, mem, obj⟩ := hu ▸ setProg_becomes s p n
      { s.prog p n with state := .refused, refuse := s.imageCheck p (s.prog p n) img }
    obtain ⟨h, m, o, event⟩ := u.event_frame p 7
    refine ⟨_, congrArg s.outcome eff, ?_⟩
    rw [if_neg good]
    split
    next leaves =>
      have same : s.channelLeaves p img = true := by rw [hu] at leaves; exact leaves
      rw [State.partFault, event]
      exact ⟨entry, others, cores, mem, fun stays => Bool.noConfusion (stays.symm.trans same)⟩
    · exact ⟨entry, others, cores, mem, fun _ => obj⟩

theorem exec_programRelease_spec (reached : s.reachesBlock via p = true) (taken : (s.prog p n).state ≠ .free) :
    ∃ t, exec (.programRelease via p n) s = .next t ∧
      progBecomes s t p n (if (s.prog p n).state = .ready ∧ s.handleRuns p ((s.prog p n).handle n) = true
        then { s.prog p n with releasing := true }
        else { s.prog p n with state := .free, releasing := false, gen := (s.prog p n).gen + 1, refuse := 0, img := none }) := by
  by_cases runs : (s.prog p n).state = .ready ∧ s.handleRuns p ((s.prog p n).handle n) = true
  · have eff : programReleaseEff via p n s = s.setProg p n { s.prog p n with releasing := true } := by
      rw [programReleaseEff, progReleaseW, if_neg taken, if_pos runs]
      exact State.blockWrite_ok s reached _ _
    exact ⟨_, congrArg s.outcome eff, (if_pos runs).symm ▸ setProg_becomes ..⟩
  · have eff : programReleaseEff via p n s = s.progFree p n := by
      rw [programReleaseEff, progReleaseW, if_neg taken, if_neg runs]
      exact State.blockWrite_ok s reached _ _
    exact ⟨_, congrArg s.outcome eff, (if_neg runs).symm ▸ setProg_becomes ..⟩

end

/-! ## SLOT_ARM and SLOT_ABORT -/

section
variable {via : Via} {p : Part} {n : Fin 256} {s : State}

theorem exec_slotArm_spec (reached : s.reachesBlock via p = true) (idle : (s.slot p n).state = .empty ∨ (s.slot p n).state = .done)
    (lead : s.isLead p = true) (aligned : (s.slot p n).recordAddr % 128 = 0)
    (inside : s.inGroupHbm p (s.slot p n).recordAddr 128 = true) :
    ∃ t, exec (.slotArm via p n) s = .next t ∧ (t.slot p n).state = .armed ∧ (t.slot p n).armedAt = s.beat ∧
      (t.slot p n).coreSet = s.handleCores p (s.slot p n).handle ++
        (if (s.slot p n).monitored then s.handleCores p (s.slot p n).fallback else []) ∧
      (t.slot p n).recordAddr = (s.slot p n).recordAddr ∧ (∀ m : Nat, m ≠ n.val → t.slot p m = s.slot p m) ∧
      t.cores = s.cores ∧ t.mem = s.mem ∧ t.obj = s.obj := by
  have notBusy : ¬((s.slot p n).state = .armed ∨ (s.slot p n).state = .running) := by
    rcases idle with h | h <;> simp [h]
  have eff : slotArmEff via p n s = s.setSlot p n { s.slot p n with
      state := .armed, armedAt := s.beat, prewoken := false, readyBeats := 0,
      coreSet := s.handleCores p (s.slot p n).handle ++
        (if (s.slot p n).monitored then s.handleCores p (s.slot p n).fallback else []) } := by
    rw [slotArmEff, slotArmW]
    dsimp only
    rw [if_neg notBusy, if_neg (by simp [lead]), if_neg (by simp [aligned, inside])]
    exact State.blockWrite_ok s reached _ _
  have slot := State.slot_setSlot s p n n { s.slot p n with
      state := .armed, armedAt := s.beat, prewoken := false, readyBeats := 0,
      coreSet := s.handleCores p (s.slot p n).handle ++
        (if (s.slot p n).monitored then s.handleCores p (s.slot p n).fallback else []) }
  rw [if_pos rfl] at slot
  have recordAddr := congrArg LSlot.recordAddr slot
  exact ⟨_, congrArg s.outcome eff, congrArg LSlot.state slot, congrArg LSlot.armedAt slot, congrArg LSlot.coreSet slot,
    recordAddr, fun m hm => (State.slot_setSlot s p n m _).trans (if_neg hm), rfl, rfl, rfl⟩

theorem exec_slotAbort_armed (reached : s.reachesBlock via p = true) (armed : (s.slot p n).state = .armed) :
    ∃ t, exec (.slotAbort via p n) s = .next t ∧ (t.slot p n).state = .empty ∧
      (∀ m : Nat, m ≠ n.val → t.slot p m = s.slot p m) ∧ t.cores = s.cores ∧ t.mem = s.mem ∧ t.obj = s.obj := by
  have eff : slotAbortEff via p n s = s.setSlot p n { s.slot p n with state := .empty } := by
    rw [slotAbortEff, slotAbortW, armed]
    exact State.blockWrite_ok s reached _ _
  have slot := (State.slot_setSlot s p n n { s.slot p n with state := .empty }).trans (if_pos rfl)
  exact ⟨_, congrArg s.outcome eff, congrArg LSlot.state slot, fun m hm => (State.slot_setSlot s p n m _).trans (if_neg hm),
    rfl, rfl, rfl⟩

theorem exec_slotAbort_running (reached : s.reachesBlock via p = true) (runs : (s.slot p n).state = .running) :
    exec (.slotAbort via p n) s = .next ((s.endLaunch (256 * p.val + n.val) (outsideEnd stAborted)).withQueue s) := by
  refine congrArg s.outcome ?_
  rw [slotAbortEff, slotAbortW, runs]
  exact State.blockWrite_ok s reached _ _

theorem exec_slotAbort_idle (reached : s.reachesBlock via p = true)
    (idle : (s.slot p n).state = .empty ∨ (s.slot p n).state = .done) : exec (.slotAbort via p n) s = .next s := by
  refine congrArg s.outcome ?_
  rw [slotAbortEff, slotAbortW]
  rcases idle with h | h <;> rw [h] <;> exact State.blockWrite_ok s reached _ _

end

/-- Settles O18: the effects of the five commands, each in turn. -/
theorem programsAndSlots : Obligations.ProgramsAndSlots :=
  ⟨fun _ _ _ => ⟨fun _ _ _ => exec_programRegister_spec, fun _ => exec_imageValidationDone_spec, fun _ => exec_programRelease_spec⟩,
    fun _ _ _ _ reached => ⟨exec_slotArm_spec reached, exec_slotAbort_armed reached, exec_slotAbort_running reached,
      exec_slotAbort_idle reached⟩⟩

end Sys2Proof.Machine

end

section
/-! PROOFS. What counts, notes, signals and packets leave of the machine. -/

namespace Sys2Proof.Machine

theorem ite_unreported {p : Prop} [Decidable p] {a b s : State} (ha : a.unreported = s.unreported) (hb : b.unreported = s.unreported) :
    (if p then a else b).unreported = s.unreported := by
  split <;> assumption

theorem foldl_unreported {β : Type} {f : State → β → State} (h : ∀ s b, (f s b).unreported = s.unreported) (l : List β) (s : State) :
    (l.foldl f s).unreported = s.unreported := foldl_keeps State.unreported h l s

theorem unreported_of_fst {α : Type} {p : State × α} {s t : State} {a : α} (h : p = (s, a)) (w : p.1.unreported = t.unreported) :
    s.unreported = t.unreported := by
  rw [h] at w; exact w

theorem State.mem_of_unreported {s t : State} (h : t.unreported = s.unreported) : t.mem = s.mem :=
  (congrArg State.mem h : t.unreported.mem = s.unreported.mem)

theorem State.beat_of_unreported {s t : State} (h : t.unreported = s.unreported) : t.beat = s.beat :=
  (congrArg State.beat h : t.unreported.beat = s.unreported.beat)

theorem State.cores_of_unreported {s t : State} (h : t.unreported = s.unreported) : t.cores = s.cores :=
  (congrArg State.cores h : t.unreported.cores = s.unreported.cores)

theorem State.retain_of_unreported {s t : State} (h : t.unreported = s.unreported) : t.retain = s.retain :=
  (congrArg State.retain h : t.unreported.retain = s.unreported.retain)

theorem State.progs_of_unreported {s t : State} (h : t.unreported = s.unreported) : t.progs = s.progs :=
  (congrArg State.progs h : t.unreported.progs = s.unreported.progs)

theorem State.ctxs_of_unreported {s t : State} (h : t.unreported = s.unreported) : t.ctxs = s.ctxs :=
  (congrArg State.ctxs h : t.unreported.ctxs = s.unreported.ctxs)

theorem State.slots_of_unreported {s t : State} (h : t.unreported = s.unreported) : t.slots = s.slots :=
  (congrArg State.slots h : t.unreported.slots = s.unreported.slots)

theorem State.launches_of_unreported {s t : State} (h : t.unreported = s.unreported) : t.launches = s.launches :=
  (congrArg State.launches h : t.unreported.launches = s.unreported.launches)

theorem State.saved_of_unreported {s t : State} (h : t.unreported = s.unreported) : t.saved = s.saved :=
  (congrArg State.saved h : t.unreported.saved = s.unreported.saved)

theorem State.dma_of_unreported {s t : State} (h : t.unreported = s.unreported) : t.dma = s.dma :=
  (congrArg State.dma h : t.unreported.dma = s.unreported.dma)

theorem State.loaders_of_unreported {s t : State} (h : t.unreported = s.unreported) : t.loaders = s.loaders :=
  (congrArg State.loaders h : t.unreported.loaders = s.unreported.loaders)

theorem State.coll_of_unreported {s t : State} (h : t.unreported = s.unreported) : t.coll = s.coll :=
  (congrArg State.coll h : t.unreported.coll = s.unreported.coll)

theorem State.pow_of_unreported {s t : State} (h : t.unreported = s.unreported) : t.pow = s.pow :=
  (congrArg State.pow h : t.unreported.pow = s.unreported.pow)

theorem State.sec_of_unreported {s t : State} (h : t.unreported = s.unreported) : t.sec = s.sec :=
  (congrArg State.sec h : t.unreported.sec = s.unreported.sec)

theorem State.hang_of_unreported {s t : State} (h : t.unreported = s.unreported) : t.hang = s.hang :=
  (congrArg State.hang h : t.unreported.hang = s.unreported.hang)

theorem State.tango_of_unreported {s t : State} (h : t.unreported = s.unreported) : t.tango = s.tango :=
  (congrArg State.tango h : t.unreported.tango = s.unreported.tango)

@[simp] theorem State.setPort_unreported (s : State) (n : Nat) (x : PortSt) : (s.setPort n x).unreported = s.unreported := rfl

@[simp] theorem State.enqueue_unreported (s : State) (n : Nat) (inp : Nat) (inCls : Fin 2) (p : Packet) :
    (s.enqueue n inp inCls p).unreported = s.unreported := by
  unfold State.enqueue
  exact State.setPort_unreported ..

@[simp] theorem State.emit_unreported (s : State) (o : Out) : (s.emit o).unreported = s.unreported := rfl

@[simp] theorem State.logEvent_unreported (s : State) (cls : Nat) (part : Nat) (code : Nat) :
    (s.logEvent cls part code).unreported = s.unreported := rfl

@[simp] theorem State.setFunc_unreported (s : State) (f : Nat) (x : FuncSt) : (s.setFunc f x).unreported = s.unreported := rfl

@[simp] theorem State.sendMsix_unreported (s : State) (f : Nat) (v : Nat) : (s.sendMsix f v).unreported = s.unreported := by
  unfold State.sendMsix
  exact ite_unreported (State.setFunc_unreported ..) ((State.emit_unreported ..).trans (State.setFunc_unreported ..))

@[simp] theorem State.signalPf_unreported (s : State) (v : Nat) : (s.signalPf v).unreported = s.unreported := by
  unfold State.signalPf
  exact ite_unreported (State.sendMsix_unreported ..) (State.emit_unreported ..)

@[simp] theorem State.fabricEvent_unreported (s : State) : (s.fabricEvent).unreported = s.unreported := by
  unfold State.fabricEvent
  exact (State.signalPf_unreported ..).trans (State.logEvent_unreported ..)

@[simp] theorem State.shadowAdd_unreported (s : State) (key : Nat) (n : Nat) :
    (s.shadowAdd key n).unreported = s.unreported := rfl

@[simp] theorem State.shadowOf_unreported (s : State) (key : Nat) (n : Nat) : (s.shadowOf key n).unreported = s.unreported := by
  unfold State.shadowOf
  exact ite_unreported (State.shadowAdd_unreported ..) rfl

@[simp] theorem State.pCount_unreported (s : State) (p : Nat) (sub : Nat) (n : Nat) :
    (s.pCount p sub n).unreported = s.unreported := by
  unfold State.pCount
  exact State.count_unreported ..

@[simp] theorem State.eccCount_unreported (s : State) (src : EccSource) (part : Nat) (addr : Nat) (ue : Bool) :
    (s.eccCount src part addr ue).unreported = s.unreported := by
  unfold State.eccCount
  split
  · split
    · exact State.pCount_unreported ..
    · exact State.pCount_unreported ..
    · exact State.pCount_unreported ..
    · exact (State.count_unreported ..).trans (State.pCount_unreported ..)
    · exact (State.count_unreported ..).trans (State.pCount_unreported ..)
    · exact State.count_unreported ..
  · split
    · exact State.pCount_unreported ..
    · exact State.pCount_unreported ..
    · exact State.pCount_unreported ..
    · exact (State.count_unreported ..).trans (State.pCount_unreported ..)
    · exact (State.count_unreported ..).trans (State.pCount_unreported ..)
    · exact State.count_unreported ..

@[simp] theorem State.wrN_unreported (s : State) (key : Nat) (v : Nat) : (s.wrN key v).unreported = s.unreported := by
  unfold State.wrN
  exact State.wr_unreported ..

@[simp] theorem State.count32_unreported (s : State) (key : Nat) (n : Nat) : (s.count32 key n).unreported = s.unreported := by
  unfold State.count32
  exact (State.wrN_unreported ..).trans (State.shadowOf_unreported ..)

@[simp] theorem State.dropUnreachable_unreported (s : State) : (s.dropUnreachable).unreported = s.unreported := by
  unfold State.dropUnreachable
  exact State.count_unreported ..

@[simp] theorem State.leaveInput_unreported (s : State) (inp : Nat) (vc : Fin 4) (cls : Fin 2) (units : Nat) :
    (s.leaveInput inp vc cls units).unreported = s.unreported := by
  unfold State.leaveInput
  exact ite_unreported (State.setPort_unreported ..) rfl

@[simp] theorem State.loadStray_unreported (s : State) (p : Nat) : (s.loadStray p).unreported = s.unreported := by
  unfold State.loadStray
  exact State.pCount_unreported ..

@[simp] theorem State.setBeat_unreported (s : State) (st : Nat) (hops : Nat) (src : Nat) (master : FabAddr) :
    (s.setBeat st hops src master).unreported = s.unreported := by
  unfold State.setBeat
  exact (State.wrN_unreported ..).trans ((State.wrN_unreported ..).trans ((State.wrN_unreported ..).trans
    (State.wrN_unreported ..)))

@[simp] theorem State.modFab_unreported (s : State) (f : FabricSt → FabricSt) : (s.modFab f).unreported = s.unreported := rfl

@[simp] theorem State.followPort_unreported (s : State) (m : MasterAnn) (n : Nat) (h : Nat) :
    (s.followPort m n h).unreported = s.unreported := by
  unfold State.followPort
  exact ite_unreported (State.wrN_unreported ..) ((State.modFab_unreported ..).trans (State.setBeat_unreported ..))

@[simp] theorem State.ownBeat_unreported (s : State) (st : Nat) : (s.ownBeat st).unreported = s.unreported := by
  unfold State.ownBeat
  exact (State.modFab_unreported ..).trans ((State.wrN_unreported ..).trans (State.setBeat_unreported ..))

@[simp] theorem State.enterHoldover_unreported (s : State) : (s.enterHoldover).unreported = s.unreported := by
  unfold State.enterHoldover
  exact (State.modFab_unreported ..).trans ((State.wrN_unreported ..).trans (State.shadowAdd_unreported ..))

@[simp] theorem State.reselect_unreported (s : State) (forgotten : Bool) :
    (s.reselect forgotten).unreported = s.unreported := by
  unfold State.reselect
  refine ite_unreported (ite_unreported (ite_unreported (State.enterHoldover_unreported ..) rfl) (State.ownBeat_unreported ..)) ?_
  split
  · exact ite_unreported (State.ownBeat_unreported ..) (ite_unreported (ite_unreported (State.enterHoldover_unreported ..) rfl)
      (ite_unreported rfl (State.ownBeat_unreported ..)))
  · refine ite_unreported (State.ownBeat_unreported ..) ?_
    split
    · exact State.followPort_unreported ..
    · rfl

@[simp] theorem State.leaveAll_unreported (s : State) (qs : List OutPkt) : (s.leaveAll qs).unreported = s.unreported := by
  unfold State.leaveAll
  exact foldl_unreported (fun ft fb => State.leaveInput_unreported ..) _ _

@[simp] theorem State.toPState_unreported (s : State) (n : Nat) (st : PState) :
    (s.toPState n st).unreported = s.unreported := by
  unfold State.toPState
  split
  · split
    · exact State.setPort_unreported ..
    · exact (State.reselect_unreported ..).trans (State.setPort_unreported ..)
    · exact (State.emit_unreported ..).trans (State.setPort_unreported ..)
    · exact State.setPort_unreported ..
    · exact ite_unreported ((State.count32Sat_unreported ..).trans (State.setPort_unreported ..)) (State.setPort_unreported ..)
    · exact ite_unreported ((State.count32Sat_unreported ..).trans (State.setPort_unreported ..)) (State.setPort_unreported ..)
    · exact (State.reselect_unreported ..).trans (State.setPort_unreported ..)
    · exact (State.reselect_unreported ..).trans (State.setPort_unreported ..)
  · split
    · exact (State.setPort_unreported ..).trans (State.leaveAll_unreported ..)
    · exact (State.reselect_unreported ..).trans ((State.setPort_unreported ..).trans (State.leaveAll_unreported ..))
    · exact (State.emit_unreported ..).trans ((State.setPort_unreported ..).trans (State.leaveAll_unreported ..))
    · exact (State.setPort_unreported ..).trans (State.leaveAll_unreported ..)
    · exact ite_unreported ((State.count32Sat_unreported ..).trans ((State.setPort_unreported ..).trans
        (State.leaveAll_unreported ..))) ((State.setPort_unreported ..).trans (State.leaveAll_unreported ..))
    · exact ite_unreported ((State.count32Sat_unreported ..).trans ((State.setPort_unreported ..).trans
        (State.leaveAll_unreported ..))) ((State.setPort_unreported ..).trans (State.leaveAll_unreported ..))
    · exact (State.reselect_unreported ..).trans ((State.setPort_unreported ..).trans (State.leaveAll_unreported ..))
    · exact (State.reselect_unreported ..).trans ((State.setPort_unreported ..).trans (State.leaveAll_unreported ..))

@[simp] theorem State.failPort_unreported (s : State) (n : Nat) (cause : Nat) :
    (s.failPort n cause).unreported = s.unreported := by
  unfold State.failPort
  exact (State.toPState_unreported ..).trans (State.setPort_unreported ..)

@[simp] theorem State.fatalPort_unreported (s : State) (n : Nat) (cause : Nat) :
    (s.fatalPort n cause).unreported = s.unreported := by
  unfold State.fatalPort
  exact (State.fabricEvent_unreported ..).trans ((State.count32Sat_unreported ..).trans (State.failPort_unreported ..))

@[simp] theorem State.wrFree_unreported (s : State) (key : Nat) (v : Word) : (s.wrFree key v).unreported = s.unreported := rfl

@[simp] theorem State.toTango_unreported (s : State) (st : Nat) : (s.toTango st).unreported = s.unreported := by
  unfold State.toTango
  exact State.wrN_unreported ..

@[simp] theorem State.sendTango_unreported (s : State) (n : Nat) (p : Packet) :
    (s.sendTango n p).unreported = s.unreported := by
  unfold State.sendTango
  exact ite_unreported rfl (State.enqueue_unreported ..)

@[simp] theorem State.sendPair_unreported (s : State) (tag : Tag) (kind : Nat) (bank : Nat) (count : Nat) (bytes : Nat) :
    (s.sendPair tag kind bank count bytes).unreported = s.unreported := by
  unfold State.sendPair
  split
  · exact State.sendTango_unreported ..
  · rfl

@[simp] theorem State.announce_unreported (s : State) (a : FabAddr) (e : Epoch) (hops : Nat) (notOn : Option Nat) :
    (s.announce a e hops notOn).unreported = s.unreported := by
  unfold State.announce
  exact foldl_unreported (fun ft fb => ite_unreported rfl (State.emit_unreported ..)) _ _

@[simp] theorem State.bistFlag_unreported (s : State) : (s.bistFlag).unreported = s.unreported := by
  unfold State.bistFlag
  exact State.wrN_unreported ..

@[simp] theorem State.pWr_unreported (s : State) (p : Nat) (sub : Nat) (v : Word) :
    (s.pWr p sub v).unreported = s.unreported := by
  unfold State.pWr
  exact State.wr_unreported ..

@[simp] theorem State.wakeGroup_unreported (s : State) (p : Nat) : (s.wakeGroup p).unreported = s.unreported := by
  unfold State.wakeGroup
  exact foldl_unreported (fun ft fb => ite_unreported ((State.pCount_unreported ..).trans (State.pWr_unreported ..)) rfl) _ _

@[simp] theorem State.signalPart_unreported (s : State) (p : Nat) (k : Nat) : (s.signalPart p k).unreported = s.unreported := by
  unfold State.signalPart
  exact ite_unreported (State.sendMsix_unreported ..) (ite_unreported (State.sendMsix_unreported ..) (State.emit_unreported ..))

@[simp] theorem State.event_unreported (s : State) (p : Nat) (k : Nat) : (s.event p k).unreported = s.unreported := by
  unfold State.event
  exact (State.signalPart_unreported ..).trans (State.logEvent_unreported ..)

@[simp] theorem State.partFault_unreported (s : State) (p : Nat) : (s.partFault p).unreported = s.unreported := by
  unfold State.partFault
  exact State.event_unreported ..

@[simp] theorem State.submitLoss_unreported (s : State) (p : Nat) (loss : Word32) :
    (s.submitLoss p loss).unreported = s.unreported := by
  unfold State.submitLoss
  exact ite_unreported ((State.event_unreported ..).trans (State.wrN_unreported ..)) (ite_unreported
    ((State.event_unreported ..).trans (State.wrN_unreported ..)) ((State.wrN_unreported ..).trans (ite_unreported
    ((State.pWr_unreported ..).trans (State.pWr_unreported ..)) ((State.pWr_unreported ..).trans (State.pWr_unreported ..)))))

@[simp] theorem State.newKey_unreported (s : State) (p : Nat) : (s.newKey p).unreported = s.unreported := by
  unfold State.newKey
  exact State.count32_unreported ..

@[simp] theorem State.modMgmt_unreported (s : State) (f : MgmtSt → MgmtSt) : (s.modMgmt f).unreported = s.unreported := rfl

@[simp] theorem State.mgmtEvent_unreported (s : State) (code : Nat) : (s.mgmtEvent code).unreported = s.unreported := by
  unfold State.mgmtEvent
  exact (State.signalPf_unreported ..).trans (State.logEvent_unreported ..)

@[simp] theorem State.setReadiness_unreported (s : State) (r : Nat) : (s.setReadiness r).unreported = s.unreported := by
  unfold State.setReadiness
  exact ite_unreported rfl ((State.mgmtEvent_unreported ..).trans (State.wrN_unreported ..))

@[simp] theorem State.thermalFlags_unreported (s : State) : (s.thermalFlags).unreported = s.unreported := by
  unfold State.thermalFlags
  exact State.wrN_unreported ..

@[simp] theorem State.sendFlit_unreported (s : State) (n : Nat) (type : Nat) (vc : Fin 4) (cls : Fin 2) (body : List Byte) :
    (s.sendFlit n type vc cls body).unreported = s.unreported := by
  unfold State.sendFlit
  exact (State.emit_unreported ..).trans (State.setPort_unreported ..)

@[simp] theorem State.supersede_unreported (s : State) : (s.supersede).unreported = s.unreported := by
  unfold State.supersede
  exact (State.fabricEvent_unreported ..).trans (State.wrN_unreported ..)

@[simp] theorem State.setEpoch_unreported (s : State) (a : FabAddr) (e : Epoch) :
    (s.setEpoch a e).unreported = s.unreported := by
  unfold State.setEpoch
  exact State.modFab_unreported ..

@[simp] theorem State.raiseEntry_unreported (s : State) (a : FabAddr) (e : Epoch) :
    (s.raiseEntry a e).1.unreported = s.unreported := by
  unfold State.raiseEntry
  split
  · split
    · dsimp only
      exact State.setEpoch_unreported ..
    · rfl
  · split
    · dsimp only
      exact State.setEpoch_unreported ..
    · rfl

@[simp] theorem State.learnEpoch_unreported (s : State) (a : FabAddr) (e : Epoch) :
    (s.learnEpoch a e).1.unreported = s.unreported := by
  unfold State.learnEpoch
  split
  · split
    · dsimp only
      exact (State.supersede_unreported ..).trans (unreported_of_fst ‹_› (State.raiseEntry_unreported ..))
    · dsimp only
      exact unreported_of_fst ‹_› (State.raiseEntry_unreported ..)

@[simp] theorem State.beginBringup_unreported (s : State) (kind : Nat) : (s.beginBringup kind).unreported = s.unreported := by
  unfold State.beginBringup
  exact State.wrN_unreported ..

@[simp] theorem State.complete_unreported (s : State) (f : Nat) (status : Nat) (data : List Byte) :
    (s.complete f status data).unreported = s.unreported := by
  unfold State.complete
  exact State.emit_unreported ..

@[simp] theorem State.rxCan_unreported (s : State) : (s.rxCan).unreported = s.unreported := by
  unfold State.rxCan
  exact State.count_unreported ..

@[simp] theorem State.confirm_unreported (s : State) (p : Nat) (fixed : Bool) :
    (s.confirm p fixed).unreported = s.unreported := by
  unfold State.confirm
  exact (State.modMgmt_unreported ..).trans (State.sendCan_unreported ..)

@[simp] theorem State.ingress_unreported (s : State) (src : FabAddr) (srcEpoch : Epoch) :
    (s.ingress src srcEpoch).1.unreported = s.unreported := by
  unfold State.ingress
  split
  · rfl
  · split
    · dsimp only
      exact State.count_unreported ..
    · split
      · dsimp only
        exact State.learnEpoch_unreported ..
      · rfl

@[simp] theorem State.inputFault_unreported (s : State) (b : Nat) : (s.inputFault b).unreported = s.unreported := by
  unfold State.inputFault
  exact State.wrN_unreported ..

@[simp] theorem State.lateMirror_unreported (s : State) : (s.lateMirror).unreported = s.unreported := by
  unfold State.lateMirror
  exact (State.healthEvent_unreported ..).trans (State.count32Sat_unreported ..)

@[simp] theorem State.noteMaster_unreported (s : State) (m : MasterAnn) (off : ℤ) :
    (s.noteMaster m off).unreported = s.unreported := by
  unfold State.noteMaster
  exact ite_unreported (ite_unreported rfl (ite_unreported rfl ((State.fabricEvent_unreported ..).trans
    ((State.count32Sat_unreported ..).trans (State.modFab_unreported ..))))) (State.modFab_unreported ..)

@[simp] theorem State.rebase_unreported (s : State) : (s.rebase).unreported = s.unreported := by
  unfold State.rebase
  exact State.modFab_unreported ..

@[simp] theorem State.refuseFlit_unreported (s : State) (n : Nat) (broken : Bool) :
    (s.refuseFlit n broken).unreported = s.unreported := by
  unfold State.refuseFlit
  exact ite_unreported ((State.sendFlit_unreported ..).trans (State.setPort_unreported ..)) (State.setPort_unreported ..)

@[simp] theorem sendPackets_unreported (m : Mirror) (dest : FabAddr) (ports : List Nat) (k : Nat) (x1 : Nat) (x2 : Nat)
    (x3 : State) :
    (sendPackets m dest ports k x1 x2 x3).unreported = x3.unreported := by
  induction x1 generalizing m dest ports k x2 x3 with
  | zero => rfl
  | succ n ih =>
    rw [sendPackets]
    refine ite_unreported rfl ((ih ..).trans ?_)
    split
    · exact State.sendTango_unreported ..
    · rfl

@[simp] theorem State.sendBody_unreported (s : State) (n : Nat) (rs : List OutPkt) (q : OutPkt) :
    (s.sendBody n rs q).unreported = s.unreported := by
  unfold State.sendBody
  exact (foldl_unreported (fun ft fb => ite_unreported ((State.emit_unreported ..).trans (State.leaveInput_unreported ..))
    (State.leaveInput_unreported ..)) _ _).trans ((State.count_unreported ..).trans ((State.sendFlit_unreported ..).trans
    (State.setPort_unreported ..)))

@[simp] theorem State.takeAnnouncement_unreported (s : State) (inPort : Nat) (addr : FabAddr) (epoch : Epoch) (hops : Nat) :
    (s.takeAnnouncement inPort addr epoch hops).unreported = s.unreported := by
  unfold State.takeAnnouncement
  exact ite_unreported ((State.announce_unreported ..).trans (State.learnEpoch_unreported ..)) (ite_unreported (ite_unreported
    ((State.count32Sat_unreported ..).trans (State.learnEpoch_unreported ..)) ((State.announce_unreported ..).trans
    ((State.count32Sat_unreported ..).trans (State.learnEpoch_unreported ..)))) (State.learnEpoch_unreported ..))

@[simp] theorem State.takeId_unreported (s : State) (n : Nat) : (s.takeId n).unreported = s.unreported := by
  unfold State.takeId
  exact ite_unreported ((State.mgmtEvent_unreported ..).trans ((State.modMgmt_unreported ..).trans (ite_unreported rfl
    ((State.modMgmt_unreported ..).trans (State.wrN_unreported ..))))) (ite_unreported rfl ((State.modMgmt_unreported ..).trans
    (State.wrN_unreported ..)))

@[simp] theorem State.tangoIn_unreported (s : State) (pkt : Packet) (f : State → State) (h2 : ∀ y1,
    (f y1).unreported = y1.unreported) :
    (s.tangoIn pkt f).unreported = s.unreported := by
  unfold State.tangoIn
  exact ite_unreported ((h2 ..).trans (State.ingress_unreported ..)) (State.ingress_unreported ..)

@[simp] theorem State.toConga_unreported (s : State) (n : Nat) : (s.toConga n).unreported = s.unreported := by
  unfold State.toConga
  exact State.wrN_unreported ..

@[simp] theorem State.trainPcie_unreported (s : State) (l : PcieLink) : (s.trainPcie l).unreported = s.unreported := rfl

@[simp] theorem pcieReferenceChangeEff_unreported (present : Bool) (link : PcieLink) (s : State) :
    (pcieReferenceChangeEff present link s).unreported = s.unreported := by
  unfold pcieReferenceChangeEff
  exact (State.trainPcie_unreported ..).trans (State.wrN_unreported ..)

@[simp] theorem serdesReferenceReturnEff_unreported (s : State) : (serdesReferenceReturnEff s).unreported = s.unreported := by
  unfold serdesReferenceReturnEff
  exact (State.wrN_unreported ..).trans (State.rebase_unreported ..)

@[simp] theorem serdesReferenceLossEff_unreported (us : Nat) (s : State) :
    (serdesReferenceLossEff us s).unreported = s.unreported := by
  unfold serdesReferenceLossEff
  refine ite_unreported rfl ((foldl_unreported (fun ft fb => ?_) _ _).trans ((State.wrN_unreported ..).trans
    (State.rebase_unreported ..)))
  split
  · rfl
  · rfl
  · rfl
  · exact State.fatalPort_unreported ..

@[simp] theorem clusterClockChangeEff_unreported (p : Part) (s : State) :
    (clusterClockChangeEff p s).unreported = s.unreported := by
  unfold clusterClockChangeEff
  exact ite_unreported rfl (ite_unreported (State.wrN_unreported ..) (ite_unreported (State.wrN_unreported ..) rfl))

@[simp] theorem nodeIdConflictEff_unreported (s : State) : (nodeIdConflictEff s).unreported = s.unreported := by
  unfold nodeIdConflictEff
  exact ite_unreported rfl ((State.mgmtEvent_unreported ..).trans ((State.toConga_unreported ..).trans
    (State.modMgmt_unreported ..)))

@[simp] theorem restartEff_unreported (s : State) : (restartEff s).unreported = s.unreported := by
  unfold restartEff
  exact ite_unreported rfl ((State.toConga_unreported ..).trans ((State.takeId_unreported ..).trans
    ((State.wrN_unreported ..).trans ((State.modMgmt_unreported ..).trans (State.rxCan_unreported ..)))))

@[simp] theorem assignEff_unreported (position : Nat) (s : State) : (assignEff position s).unreported = s.unreported := by
  unfold assignEff
  exact ite_unreported rfl (ite_unreported (ite_unreported ((State.confirm_unreported ..).trans
    ((State.takeId_unreported ..).trans ((State.toConga_unreported ..).trans ((State.wrN_unreported ..).trans
    (State.rxCan_unreported ..))))) ((State.mgmtEvent_unreported ..).trans ((State.toConga_unreported ..).trans
    (State.rxCan_unreported ..)))) (ite_unreported ((State.confirm_unreported ..).trans ((State.wrN_unreported ..).trans
    (State.rxCan_unreported ..))) rfl))

@[simp] theorem timePpsEdgeEff_unreported (s : State) : (timePpsEdgeEff s).unreported = s.unreported := by
  unfold timePpsEdgeEff
  exact ite_unreported rfl (ite_unreported (State.modFab_unreported ..) rfl)

@[simp] theorem holdoverEntryEff_unreported (s : State) : (holdoverEntryEff s).unreported = s.unreported := by
  unfold holdoverEntryEff
  split
  · rfl
  · refine ite_unreported ?_ rfl
    split
    · exact State.enterHoldover_unreported ..
    · exact (State.reselect_unreported ..).trans (State.modFab_unreported ..)

@[simp] theorem masterAnnouncementTimeoutEff_unreported (addr : FabAddr) (serial : Word) (s : State) :
    (masterAnnouncementTimeoutEff addr serial s).unreported = s.unreported := by
  unfold masterAnnouncementTimeoutEff
  exact ite_unreported rfl ((State.reselect_unreported ..).trans (State.modFab_unreported ..))

@[simp] theorem epochAnnounceEff_unreported (inPort : Port) (addr : FabAddr) (epoch : Epoch) (hops : Fin 16) (src : FabAddr)
    (srcEpoch : Epoch) (s : State) :
    (epochAnnounceEff inPort addr epoch hops src srcEpoch s).unreported = s.unreported := by
  unfold epochAnnounceEff
  exact ite_unreported ((State.takeAnnouncement_unreported ..).trans (State.ingress_unreported ..)) (State.ingress_unreported ..)

@[simp] theorem fatalLinkFailureEff_unreported (n : Port) (cause : LinkFail) (s : State) :
    (fatalLinkFailureEff n cause s).unreported = s.unreported := by
  unfold fatalLinkFailureEff
  refine ite_unreported rfl ?_
  split
  · exact State.fatalPort_unreported ..
  · exact State.fatalPort_unreported ..
  · exact State.fatalPort_unreported ..

@[simp] theorem learnAll_unreported (x1 : List (FabAddr × Epoch)) (x2 : State) :
    (learnAll x1 x2).unreported = x2.unreported := by
  induction x1 generalizing x2 with
  | nil => rfl
  | cons a l ih =>
    rw [learnAll]
    exact (ih ..).trans (State.learnEpoch_unreported ..)

end Sys2Proof.Machine

end

section
/-! PROOFS. LAUNCH_SLOT_START and LAUNCH_COMPLETE (R109, R110, R128 to R130, R189 to R191), obligation O19. -/

namespace Sys2Proof.Machine

/-! ## Objects beside the counters -/

theorem pKey_ne_of_ne (p q : Nat) {a b : Nat} (h : a % 256 ≠ b % 256) : pKey q a ≠ pKey p b := by
  simp only [pKey, objKey]
  omega

theorem State.pCount_pRd (s : State) (p q : Nat) {sub other : Nat} (n : Nat) (h : other % 256 ≠ sub % 256) :
    (s.pCount p sub n).pRd q other = s.pRd q other :=
  (State.rd_count ..).trans (if_neg (pKey_ne_of_ne p q h))

/-- What of the objects says how the groups are made up, and the flush-to-zero mode of each partition. -/
def State.setup (s : State) : (Nat → Word) × (Nat → Word) := (fun q => s.pRd q 0xB0, fun q => s.pRd q 0x42)

theorem State.members_of_setup {s t : State} (h : t.setup = s.setup) (p : Nat) : t.members p = s.members p := by
  have lead (q : Nat) : t.lead q = s.lead q := congrArg BitVec.toNat (congrFun (congrArg Prod.fst h) q)
  simp only [State.members, lead]

theorem State.groupCore_of_setup {s t : State} (h : t.setup = s.setup) (p g : Nat) : t.groupCore p g = s.groupCore p g := by
  simp only [State.groupCore, State.members_of_setup h]

theorem State.pCount_setup (s : State) (p : Nat) {sub : Nat} (n : Nat) (lead : 0xB0 ≠ sub % 256) (ftz : 0x42 ≠ sub % 256) :
    (s.pCount p sub n).setup = s.setup :=
  Prod.ext (funext fun _ => State.pCount_pRd s p _ n lead) (funext fun _ => State.pCount_pRd s p _ n ftz)

/-! ## Notes of contexts -/

theorem State.noteCtx_eq (s : State) (k : Nat) : ∃ cs, s.noteCtx k = { s with ctxs := cs } := by
  unfold State.noteCtx
  dsimp only
  split
  · exact ⟨s.ctxs, rfl⟩
  · exact ⟨_, rfl⟩

/-- Noting which contexts are blocked or runnable changes the contexts only. -/
theorem State.noteCtxs_eq (s : State) (p : Nat) : ∃ cs, s.noteCtxs p = { s with ctxs := cs } := by
  unfold State.noteCtxs
  generalize ctxIds (s.lead p) = ks
  induction ks generalizing s with
  | nil => exact ⟨s.ctxs, rfl⟩
  | cons k ks ih =>
    obtain ⟨cs, h⟩ := s.noteCtx_eq k
    obtain ⟨cs', h'⟩ := ih { s with ctxs := cs }
    exact ⟨cs', by rw [List.foldl_cons, h]; exact h'⟩

/-! ## The start of a launch -/

/-- A core at the head of its stream. -/
def startedCore (k : Nat) (x : CoreSt) : CoreSt :=
  { x with
    loops := (List.range 4).foldl (fun m j => mset Loop.empty m j { mget Loop.empty x.loops j with active := false }) x.loops,
    run := { CoreRun.idle with launch := some k } }

/-- What a start leaves of a core: the launch, the first item, no tile and no active loop. -/
def atHead (k : Nat) (x : CoreSt) : Prop :=
  x.run.launch = some k ∧ x.run.item = 0 ∧ x.run.tile = none ∧ ∀ j < 4, (x.loop j).active = false

theorem startedCore_atHead (k : Nat) (x : CoreSt) : atHead k (startedCore k x) := by
  refine ⟨rfl, rfl, rfl, fun j hj => ?_⟩
  simp only [CoreSt.loop, startedCore, List.range, List.range.loop, List.foldl, mget_mset]
  rcases (by omega : j = 0 ∨ j = 1 ∨ j = 2 ∨ j = 3) with rfl | rfl | rfl | rfl <;> rfl

/-- A core whose stream has no item is finished at once; nothing else of the cores changes. -/
theorem State.settleCore_core (s : State) (c d : Nat) :
    (s.settleCore c).core d = s.core d ∨
      (d = c ∧ (s.settleCore c).core d = { s.core c with run := { (s.core c).run with finished := true } }) := by
  unfold State.settleCore
  dsimp only
  split
  · by_cases h : d = c
    · exact .inr ⟨h, by simp [h]⟩
    · exact .inl (by simp [h])
  · exact .inl rfl

theorem State.settleCore_eq (s : State) (c : Nat) : ∃ xs, s.settleCore c = { s with cores := xs } := by
  unfold State.settleCore
  dsimp only
  split
  · exact ⟨_, rfl⟩
  · exact ⟨s.cores, rfl⟩

/-- The start of one core of a launch's image. -/
def startCore (p k : Nat) (s : State) (g : Nat) : State :=
  match s.groupCore p g with
  | some c => (s.modCore c (startedCore k)).settleCore c
  | none => s

theorem startCore_eq (p k : Nat) (s : State) (g : Nat) : ∃ xs, startCore p k s g = { s with cores := xs } := by
  unfold startCore
  split
  · obtain ⟨xs, h⟩ := (s.modCore _ (startedCore k)).settleCore_eq _
    exact ⟨xs, h⟩
  · exact ⟨s.cores, rfl⟩

theorem startCore_core (p k : Nat) (s : State) (g d : Nat) :
    (s.groupCore p g = some d → atHead k ((startCore p k s g).core d)) ∧
    (atHead k (s.core d) → atHead k ((startCore p k s g).core d)) ∧
    ((startCore p k s g).core d).params = (s.core d).params := by
  unfold startCore
  split
  next c here =>
    have head : d = c → atHead k (((s.modCore c (startedCore k)).settleCore c).core d) := by
      rintro rfl
      have started : atHead k ((s.modCore d (startedCore k)).core d) := by
        rw [State.core_modCore, if_pos rfl]
        exact startedCore_atHead k _
      rcases (s.modCore d (startedCore k)).settleCore_core d d with e | ⟨-, e⟩ <;> rw [e] <;> exact started
    have params : (((s.modCore c (startedCore k)).settleCore c).core d).params = (s.core d).params := by
      rcases (s.modCore c (startedCore k)).settleCore_core c d with e | ⟨rfl, e⟩ <;> rw [e, State.core_modCore]
      · split
        next same => rw [same]; rfl
        · rfl
      · rw [if_pos rfl]; rfl
    refine ⟨fun e => head (Option.some.inj (e.symm.trans here)), fun h => ?_, params⟩
    by_cases same : d = c
    · exact head same
    · rcases (s.modCore c (startedCore k)).settleCore_core c d with e | ⟨same', -⟩
      · rw [e, State.core_modCore, if_neg same]
        exact h
      · exact absurd same' same
  next outside => exact ⟨fun e => absurd (outside.symm.trans e) (by simp), id, rfl⟩

/-- The cores of an image, started one after another. -/
theorem foldl_startCore_spec (p k : Nat) (l : List Nat) (s : State) :
    (∃ xs, l.foldl (startCore p k) s = { s with cores := xs }) ∧
    (∀ g ∈ l, ∀ d, s.groupCore p g = some d → atHead k ((l.foldl (startCore p k) s).core d)) ∧
    (∀ d, atHead k (s.core d) → atHead k ((l.foldl (startCore p k) s).core d)) ∧
    ∀ d, ((l.foldl (startCore p k) s).core d).params = (s.core d).params := by
  induction l generalizing s with
  | nil => exact ⟨⟨s.cores, rfl⟩, fun _ hg => absurd hg List.not_mem_nil, fun _ h => h, fun _ => rfl⟩
  | cons g l ih =>
    obtain ⟨xs, first⟩ := startCore_eq p k s g
    have core := startCore_core p k s g
    rw [first] at core
    obtain ⟨⟨ys, rest⟩, heads, keeps, params⟩ := ih { s with cores := xs }
    rw [List.foldl_cons, first]
    refine ⟨⟨ys, rest⟩, fun g' hg d here => ?_, fun d h => keeps d ((core d).2.1 h), fun d => (params d).trans (core d).2.2⟩
    rcases List.mem_cons.1 hg with rfl | hg
    · exact keeps d ((core d).1 here)
    · exact heads g' hg d here

/-- The launch that a slot starts. -/
def State.newLaunch (s : State) (p n h : Nat) (img : Image) : Launch :=
  { ctx := (s.slot p n).ctxId, handle := h, img := img, startBeat := (s.slot p n).startBeat,
    recordAddr := (s.slot p n).recordAddr, deadline := (s.slot p n).deadline, irq := (s.slot p n).irq,
    ftz := (s.members p).filter fun q => bit (s.pRd q 0x42) 0, flags := 0, startNs := none, ending := none, cycles := [],
    overrun := 0, streams := [] }

theorem State.startLaunch_of_unpatched {s : State} {p n : Nat} (h : Nat) (img : Image) (bare : (s.slot p n).patchCount = 0) :
    s.startLaunch p n h img = (imgCores img).foldl (startCore p (256 * p + n))
      ((s.setLaunch (256 * p + n) (s.newLaunch p n h img)).setSlot p n { s.slot p n with state := .running }) := by
  unfold State.startLaunch
  dsimp only
  rw [if_pos bare]
  rfl

/-- A slot that starts on time or late, with its program or its fallback. -/
def State.taking (s : State) (p n : Nat) (fb : Bool) : State := (s.tookFallback p n fb).noteLate p n

theorem State.tookFallback_spec (s : State) (p n : Nat) (fb : Bool) :
    (s.tookFallback p n fb).slot p n = { s.slot p n with ranFallback := fb } ∧ (s.tookFallback p n fb).setup = s.setup ∧
    (s.tookFallback p n fb).launches = s.launches ∧ (s.tookFallback p n fb).cores = s.cores ∧
    (s.tookFallback p n fb).mem = s.mem := by
  have slot : (s.setSlot p n { s.slot p n with ranFallback := fb }).slot p n = { s.slot p n with ranFallback := fb } :=
    (State.slot_setSlot ..).trans (if_pos rfl)
  unfold State.tookFallback
  dsimp only
  split
  · exact ⟨(congrArg (mget LSlot.reset · _) (State.slots_of_unreported (State.pCount_unreported ..))).trans slot, State.pCount_setup _ _ _ (by decide) (by decide),
      (State.launches_of_unreported (State.pCount_unreported ..)).trans rfl,
      (State.cores_of_unreported (State.pCount_unreported ..)).trans rfl, State.pCount_mem ..⟩
  · exact ⟨slot, rfl, rfl, rfl, rfl⟩

theorem State.noteLate_spec (s : State) (p n : Nat) :
    (s.noteLate p n).unreported = s.unreported ∧ (s.noteLate p n).setup = s.setup := by
  unfold State.noteLate
  split
  · exact ⟨State.pCount_unreported .., State.pCount_setup _ _ _ (by decide) (by decide)⟩
  · exact ⟨rfl, rfl⟩

/-- What the start of a launch on the state before leaves: the slot, the launch and the cores, and nothing else but counts. -/
theorem State.startLaunch_spec {s : State} {p n : Nat} (h : Nat) (img : Image) (fb : Bool) (bare : (s.slot p n).patchCount = 0) :
    ((s.taking p n fb).startLaunch p n h img).slot p n = { s.slot p n with ranFallback := fb, state := .running } ∧
    ((s.taking p n fb).startLaunch p n h img).launch (256 * p + n) = some (s.newLaunch p n h img) ∧
    (∀ g ∈ imgCores img, ∀ d, s.groupCore p g = some d →
      atHead (256 * p + n) (((s.taking p n fb).startLaunch p n h img).core d)) ∧
    (∀ d, (((s.taking p n fb).startLaunch p n h img).core d).params = (s.core d).params) ∧
    ((s.taking p n fb).startLaunch p n h img).mem = s.mem := by
  obtain ⟨slot, setup, launches, cores, mem⟩ := s.tookFallback_spec p n fb
  obtain ⟨late, late_setup⟩ := (s.tookFallback p n fb).noteLate_spec p n
  have slot' : (s.taking p n fb).slot p n = { s.slot p n with ranFallback := fb } :=
    (congrArg (mget LSlot.reset · _) (State.slots_of_unreported late)).trans slot
  have setup' : (s.taking p n fb).setup = s.setup := late_setup.trans setup
  have launch : (s.taking p n fb).newLaunch p n h img = s.newLaunch p n h img := by
    have ftz (q : Nat) : (s.taking p n fb).pRd q 0x42 = s.pRd q 0x42 := congrFun (congrArg Prod.snd setup') q
    simp only [State.newLaunch, slot', State.members_of_setup setup', ftz]
  have cores' : (s.taking p n fb).cores = s.cores := (State.cores_of_unreported late).trans cores
  rw [State.startLaunch_of_unpatched h img (by rw [slot']; exact bare), launch, slot']
  obtain ⟨⟨xs, shape⟩, heads, -, params⟩ := foldl_startCore_spec p (256 * p + n) (imgCores img)
    (((s.taking p n fb).setLaunch (256 * p + n) (s.newLaunch p n h img)).setSlot p n
      { s.slot p n with ranFallback := fb, state := .running })
  refine ⟨?_, ?_, fun g hg d here => heads g hg d ?_, fun d => (params d).trans ?_, ?_⟩
  · rw [shape]
    exact (State.slot_setSlot ..).trans (if_pos rfl)
  · rw [shape]
    exact (State.launch_setLaunch ..).trans (if_pos rfl)
  · exact (State.groupCore_of_setup setup' p g).trans here
  · exact congrArg (fun m => (mget CoreSt.reset m d).params) cores'
  · rw [shape]
    exact (State.mem_of_unreported late).trans mem

/-! ## Completion records (R128) -/

/-- The machine without what a record writes: its bytes, its counts and its events. -/
def State.unrecorded (s : State) : State := { s.unreported with mem := ⟨[], []⟩ }

theorem State.unrecorded_of_unreported {s t : State} (h : t.unreported = s.unreported) : t.unrecorded = s.unrecorded :=
  congrArg (fun u : State => { u with mem := ⟨[], []⟩ }) h

theorem recordBytes_length (status flags slot handle tile start end_ : Nat) (cycles : Nat → Nat) (overrun seq : Nat) :
    (recordBytes status flags slot handle tile start end_ cycles overrun seq).length = 128 := by
  simp [recordBytes, List.length_flatMap]

/-- The first four bytes written spell the number. -/
theorem Mem.readLE_writeBytes_append (m : Mem) (a : Nat) {n v : Nat} (bs : List Byte) (small : v < 256 ^ n) :
    (m.writeBytes a (leBytes n v ++ bs)).readLE a n = v := by
  have same : (m.writeBytes a (leBytes n v ++ bs)).readBytes a n = (m.writeBytes a (leBytes n v)).readBytes a n := by
    refine Mem.readBytes_eq _ _ n a fun i hi => ?_
    rw [Mem.read_writeBytes, Mem.read_writeBytes, if_pos (by simp; omega), if_pos (by simp; omega), Nat.add_sub_cancel_left,
      List.getD_append _ _ _ _ (by simp; exact hi)]
  rw [Mem.readLE, same]
  exact Mem.readLE_writeLE m a n v small

/-- The status word of a record (R130). -/
def recordStatus (e : LaunchEnd) : Nat :=
  2 ^ 31 + (if e.code == 0 || (decide (8 ≤ e.code) && decide (e.code ≤ 11)) || e.core == 0xFF then 0xFF else e.core) % 256 * 256 + e.code

/-- A record whose 128 bytes lie in the group's memory is written there; what else it does is counted and signalled. -/
theorem State.writeRecord_of_inside {s : State} {p n : Nat} (handle : Nat) (e : LaunchEnd) (flags start : Nat) (cycles : Nat → Nat)
    (overrun deadline : Nat) (inside : s.inGroupHbm p (s.slot p n).recordAddr 128 = true) :
    ∃ bytes, bytes.length = 124 ∧ (s.writeRecord p n handle e flags start cycles overrun deadline).unreported =
      (s.writeBytes (s.slot p n).recordAddr (leBytes 4 (recordStatus e) ++ bytes)).unreported := by
  have missed (t : State) (miss : Bool) :
      (if miss then (t.pCount p 0xB9 1).event p 3 else t).unreported = t.unreported :=
    ite_unreported ((State.event_unreported ..).trans (State.pCount_unreported ..)) rfl
  have signalled (t : State) (irq : Bool) (seq : Nat) :
      (if irq then (t.wrN (pKey p 0x8B) seq).event p 0 else t.wrN (pKey p 0x8B) seq).unreported = t.unreported :=
    ite_unreported ((State.event_unreported ..).trans (State.wrN_unreported ..)) (State.wrN_unreported ..)
  unfold State.writeRecord
  dsimp only
  rw [if_pos inside, missed, signalled]
  obtain ⟨bytes, split⟩ : ∃ bytes, recordBytes (recordStatus e) flags n handle
      (if e.code == 0 || (decide (8 ≤ e.code) && decide (e.code ≤ 11)) || e.core == 0xFF then 0xFFFFFFFF else e.tile) start s.beat
      cycles overrun (s.pRd p 0x8B + 1#64).toNat = leBytes 4 (recordStatus e) ++ bytes := by
    simp only [recordBytes, List.append_assoc]
    exact ⟨_, rfl⟩
  refine ⟨bytes, ?_, congrArg (fun bs => (s.writeBytes (s.slot p n).recordAddr bs).unreported) split⟩
  have length := congrArg List.length split
  rw [recordBytes_length, List.length_append, leBytes_length] at length
  omega

theorem State.writeRecord_spec {s : State} {p n : Nat} (handle : Nat) (e : LaunchEnd) (flags start : Nat) (cycles : Nat → Nat)
    (overrun deadline : Nat) (inside : s.inGroupHbm p (s.slot p n).recordAddr 128 = true) (small : recordStatus e < 2 ^ 32) :
    (s.writeRecord p n handle e flags start cycles overrun deadline).unrecorded = s.unrecorded ∧
    (s.writeRecord p n handle e flags start cycles overrun deadline).mem.readLE (s.slot p n).recordAddr 4 = recordStatus e ∧
    memOutside s (s.writeRecord p n handle e flags start cycles overrun deadline) (s.slot p n).recordAddr 128 := by
  obtain ⟨bytes, length, shape⟩ := State.writeRecord_of_inside handle e flags start cycles overrun deadline inside
  refine ⟨(State.unrecorded_of_unreported shape).trans rfl, ?_, fun b hb => ?_⟩ <;> rw [State.mem_of_unreported shape]
  · exact Mem.readLE_writeBytes_append _ _ _ small
  · exact Mem.read_writeBytes_out _ _ _ _ (by simp only [List.length_append, leBytes_length, length]; omega)

/-! ## LAUNCH_SLOT_START -/

section
variable {p : Part} {n : Fin 256} {s : State}

theorem exec_launchSlotStart_runs {img : Image} (up : s.superseded = false) (due : s.due p n = true)
    (named : (s.slot p n).coreSet ≠ []) (own : (s.slot p n).ctxId / 16 = p.val)
    (resident : (s.ctx (s.slot p n).ctxId).state = .resident) (stays : (s.ctx (s.slot p n).ctxId).evictReq = false)
    (ready : s.imageOf p (s.chosen (s.slot p n)).1 = some img) (covers : (s.ctx (s.slot p n).ctxId).covers (imgCores img) = true)
    (group : s.groupRuns p = true) (bist : s.bistRuns p = false) (free : s.coresRun p (imgCores img) = false)
    (bare : (s.slot p n).patchCount = 0) :
    ∃ t, exec (.launchSlotStart p n) s = .next t ∧ (t.slot p n).state = .running ∧
      (t.slot p n).ranFallback = (s.chosen (s.slot p n)).2 ∧
      (∃ l, t.launch (256 * p.val + n.val) = some l ∧ l.img = img ∧ l.handle = (s.chosen (s.slot p n)).1 ∧
        l.ctx = (s.slot p n).ctxId ∧ l.ending = none ∧ l.startNs = none ∧ l.ftz = (s.members p).filter fun q => bit (s.pRd q 0x42) 0) ∧
      (∀ g ∈ imgCores img, ∀ d, s.groupCore p g = some d → (t.core d).run.launch = some (256 * p.val + n.val) ∧
        (t.core d).run.item = 0 ∧ (t.core d).run.tile = none ∧ (t.core d).params = (s.core d).params ∧
        (∀ j < 4, ((t.core d).loop j).active = false)) ∧
      t.mem = s.mem := by
  have taken : slotStart p n s = (s.taking p n (s.chosen (s.slot p n)).2).startLaunch p n (s.chosen (s.slot p n)).1 img := by
    unfold slotStart
    dsimp only
    rw [if_neg (by simp [up, due]), if_neg named, if_neg (by simp [own]), if_neg (by simp [resident]), if_neg (by simp [resident]),
      ready]
    dsimp only
    rw [if_neg (by simp [covers]), if_neg (by simp [resident, stays, group, bist, free])]
    exact if_pos (by simp [State.patchesOk, bare])
  obtain ⟨slot, launch, heads, params, mem⟩ := State.startLaunch_spec (s.chosen (s.slot p n)).1 img (s.chosen (s.slot p n)).2 bare
  obtain ⟨cs, noted⟩ := ((s.taking p n (s.chosen (s.slot p n)).2).startLaunch p n (s.chosen (s.slot p n)).1 img).noteCtxs_eq p
  have eff : launchSlotStartEff p n s = _ := (congrArg (State.noteCtxs · p.val) taken).trans noted
  refine ⟨_, congrArg s.outcome eff, congrArg LSlot.state slot, congrArg LSlot.ranFallback slot,
    ⟨_, launch, rfl, rfl, rfl, rfl, rfl, rfl⟩, fun g hg d here => ?_, mem⟩
  obtain ⟨runs, item, tile, loops⟩ := heads g hg d here
  exact ⟨runs, item, tile, params d, loops⟩

theorem State.cores_of_unrecorded {s t : State} (h : t.unrecorded = s.unrecorded) : t.cores = s.cores :=
  (congrArg State.cores h : t.unrecorded.cores = s.unrecorded.cores)

/-- A slot whose program cannot run is DONE, its record saying so. -/
theorem State.slotEnd_spec {s : State} {q m : Nat} (handle : Nat) {code : Nat} (inside : s.inGroupHbm q (s.slot q m).recordAddr 128 = true)
    (small : code < 2 ^ 8) :
    ((s.slotEnd q m handle code).slot q m).state = .done ∧
    (s.slotEnd q m handle code).mem.readLE (s.slot q m).recordAddr 4 = 0x8000FF00 + code ∧
    memOutside s (s.slotEnd q m handle code) (s.slot q m).recordAddr 128 ∧ (s.slotEnd q m handle code).cores = s.cores := by
  have status : recordStatus (outsideEnd code) = 0x8000FF00 + code := by
    simp [recordStatus, outsideEnd]
  obtain ⟨kept, first, outside⟩ := State.writeRecord_spec handle (outsideEnd code)
    (s.handleFlags q handle (s.slot q m).ctxId) s.beat (fun _ => 0) 0 (s.slot q m).deadline inside (by rw [status]; omega)
  refine ⟨?_, first.trans status, outside, (State.cores_of_unrecorded kept :)⟩
  exact congrArg LSlot.state ((State.slot_setSlot ..).trans (if_pos rfl))

theorem exec_launchSlotStart_invalid (up : s.superseded = false) (due : s.due p n = true) (foreign : (s.slot p n).ctxId / 16 ≠ p.val)
    (inside : s.inGroupHbm p (s.slot p n).recordAddr 128 = true) :
    ∃ t, exec (.launchSlotStart p n) s = .next t ∧ (t.slot p n).state = .done ∧
      t.mem.readLE (s.slot p n).recordAddr 4 = 0x8000FF00 + stProgramInvalid ∧
      (∀ a, ¬((s.slot p n).recordAddr ≤ a ∧ a < (s.slot p n).recordAddr + 128) → t.mem.read a = s.mem.read a) ∧ t.cores = s.cores := by
  obtain ⟨slot, -, -, cores, mem⟩ := s.tookFallback_spec p n false
  obtain ⟨u, hu⟩ : ∃ u, u = s.tookFallback p n false := ⟨_, rfl⟩
  have ended : slotStart p n s = u.slotEnd p n (s.slot p n).handle stProgramInvalid := by
    unfold slotStart
    dsimp only
    rw [if_neg (by simp [up, due]), if_pos foreign, ite_self, hu]
  rw [← hu] at slot cores mem
  have address : (u.slot p n).recordAddr = (s.slot p n).recordAddr := by rw [slot]
  have inside' : u.inGroupHbm p (u.slot p n).recordAddr 128 = true := by
    rw [address, hu]
    exact inside
  obtain ⟨state, first, outside, same⟩ := u.slotEnd_spec (s.slot p n).handle inside' (code := stProgramInvalid) (by decide)
  obtain ⟨cs, noted⟩ := (u.slotEnd p n (s.slot p n).handle stProgramInvalid).noteCtxs_eq p
  have eff : launchSlotStartEff p n s = _ := (congrArg (State.noteCtxs · p.val) ended).trans noted
  rw [address] at first outside
  refine ⟨_, congrArg s.outcome eff, state, first, fun a ha => ?_, same.trans cores⟩
  exact (outside a (by omega)).trans (congrArg (Mem.read · a) mem)

/-! ## LAUNCH_COMPLETE -/

/-- A core that runs a launch stands among the launch's cores. -/
theorem State.mem_launchCores {s : State} {c k : Nat} (h : (s.core c).run.launch = some k) : c ∈ s.launchCores k := by
  unfold State.core at h
  unfold State.launchCores
  generalize s.cores = m at h
  induction m with
  | nil => cases h
  | cons kv m ih =>
    obtain ⟨j, x⟩ := kv
    rw [mget] at h
    split at h
    next same => simp [h, same]
    next other =>
      have rest := ih h
      rw [List.filter_cons]
      split
      · exact List.mem_cons_of_mem _ rest
      · exact rest

/-- Cores that are taken from a launch run nothing; the others stay. -/
theorem foldl_idle_core (l : List Nat) (s : State) (d : Nat) :
    ((l.foldl (fun s c => s.modCore c fun x => { x with run := .idle, spot := none }) s).core d).run =
      if d ∈ l then CoreRun.idle else (s.core d).run := by
  induction l generalizing s with
  | nil => rfl
  | cons c l ih =>
    rw [List.foldl_cons, ih, State.core_modCore]
    by_cases here : d = c <;> simp [here]

theorem State.settleProg_eq (s : State) (q h : Nat) : ∃ ps, s.settleProg q h = { s with progs := ps } := by
  unfold State.settleProg
  dsimp only
  split
  · exact ⟨_, rfl⟩
  · exact ⟨s.progs, rfl⟩

theorem mfind_mdel_self {α : Type} (m : SMap α) (k : Nat) : mfind (mdel m k) k = none := by
  induction m with
  | nil => rfl
  | cons kv m ih =>
    obtain ⟨j, v⟩ := kv
    rw [mdel]
    split
    · exact ih
    next other => rw [mfind, if_neg other]; exact ih

/-- The release of a launch's cores, and of the launch itself, after its record. -/
def State.released (s : State) (k ctx : Nat) : State :=
  let t := (s.launchCores k).foldl (fun s c => s.modCore c fun x => { x with run := .idle, spot := none }) s
  { t with
    launches := mdel t.launches k,
    saved := mmod [] t.saved ctx fun v => v.map fun (c : Nat × SavedCore) =>
      if c.2.core.run.launch == some k then (c.1, { c.2 with core := { c.2.core with run := .idle } }) else c }

theorem State.released_spec (s : State) (k ctx : Nat) :
    (s.released k ctx).launch k = none ∧ (∀ c, ((s.released k ctx).core c).run.launch ≠ some k) ∧
      (s.released k ctx).mem = s.mem := by
  refine ⟨?_, fun c => ?_, ?_⟩
  · rw [State.launch_eq_mfind]
    exact mfind_mdel_self ..
  · have run := foldl_idle_core (s.launchCores k) s c
    refine fun h => ?_
    have here : ((if c ∈ s.launchCores k then CoreRun.idle else (s.core c).run)).launch = some k := run ▸ h
    split at here
    · cases here
    next out => exact out (State.mem_launchCores here)
  · exact foldl_keeps State.mem (fun _ _ => State.setCore_mem ..) (s.launchCores k) s

/-- The end of a launch that has run to its end: the record, the cores and the slot. -/
theorem State.finishLaunch_spec {k : Nat} (l : Launch) {e : LaunchEnd}
    (inside : s.inGroupHbm (k / 256) (s.slot (k / 256) (k % 256)).recordAddr 128 = true) (small : recordStatus e < 2 ^ 32) :
    ((s.finishLaunch k l e).slot (k / 256) (k % 256)).state = .done ∧ (s.finishLaunch k l e).launch k = none ∧
    (∀ c, ((s.finishLaunch k l e).core c).run.launch ≠ some k) ∧
    (s.finishLaunch k l e).mem.readLE (s.slot (k / 256) (k % 256)).recordAddr 4 = recordStatus e ∧
    memOutside s (s.finishLaunch k l e) (s.slot (k / 256) (k % 256)).recordAddr 128 := by
  obtain ⟨cycles, shape⟩ : ∃ cycles, s.finishLaunch k l e =
      let t := (s.writeRecord (k / 256) (k % 256) l.handle e (s.launchFlags k l) (l.startNs.getD s.beat) cycles l.overrun
        l.deadline).released k l.ctx
      (t.setSlot (k / 256) (k % 256) { t.slot (k / 256) (k % 256) with state := .done }).settleProg (k / 256) l.handle := ⟨_, rfl⟩
  obtain ⟨-, first, outside⟩ := State.writeRecord_spec l.handle e (s.launchFlags k l) (l.startNs.getD s.beat) cycles l.overrun
    l.deadline inside small
  obtain ⟨t, ht⟩ : ∃ t, t = (s.writeRecord (k / 256) (k % 256) l.handle e (s.launchFlags k l) (l.startNs.getD s.beat) cycles
    l.overrun l.deadline).released k l.ctx := ⟨_, rfl⟩
  obtain ⟨launch, cores, mem⟩ := ht ▸ State.released_spec _ k l.ctx
  obtain ⟨ps, settled⟩ := (t.setSlot (k / 256) (k % 256) { t.slot (k / 256) (k % 256) with state := .done }).settleProg_eq
    (k / 256) l.handle
  rw [← ht] at shape
  rw [shape.trans settled]
  refine ⟨congrArg LSlot.state ((State.slot_setSlot ..).trans (if_pos rfl)), launch, cores, ?_, fun b hb => ?_⟩
  · exact (congrArg (Mem.readLE · _ 4) mem).trans first
  · exact (congrArg (Mem.read · b) mem).trans (outside b hb)

theorem exec_launchComplete_done {l : Launch} (up : s.superseded = false) (runs : s.launch (256 * p.val + n.val) = some l)
    (going : l.ending = none) (done : s.launchDone (256 * p.val + n.val) l.ctx = true)
    (inside : s.inGroupHbm p (s.slot p n).recordAddr 128 = true) :
    ∃ t, exec (.launchComplete p n) s = .next t ∧ (t.slot p n).state = .done ∧ t.launch (256 * p.val + n.val) = none ∧
      (∀ c, (t.core c).run.launch ≠ some (256 * p.val + n.val)) ∧ t.mem.readLE (s.slot p n).recordAddr 4 = 0x8000FF00 ∧
      (∀ a, ¬((s.slot p n).recordAddr ≤ a ∧ a < (s.slot p n).recordAddr + 128) → t.mem.read a = s.mem.read a) := by
  have eff : launchCompleteEff p n s = s.finishLaunch (256 * p.val + n.val) l ⟨0, 0xFF, 0xFFFFFFFF⟩ := by
    rw [launchCompleteEff, State.tryFinish, if_neg (by simp [up]), runs]
    dsimp only
    rw [going]
    exact if_pos done
  have part : (256 * p.val + n.val) / 256 = p.val := by omega
  have slot : (256 * p.val + n.val) % 256 = n.val := by omega
  obtain ⟨state, launch, cores, first, outside⟩ := State.finishLaunch_spec (s := s) (k := 256 * p.val + n.val) l
    (e := ⟨0, 0xFF, 0xFFFFFFFF⟩) (by rw [part, slot]; exact inside) (by decide)
  rw [part, slot] at state first outside
  exact ⟨_, congrArg s.outcome eff, state, launch, cores, first.trans (by decide), fun a ha => outside a (by omega)⟩

theorem exec_launchComplete_runs {l : Launch} (up : s.superseded = false) (runs : s.launch (256 * p.val + n.val) = some l)
    (going : l.ending = none) (busy : s.launchDone (256 * p.val + n.val) l.ctx = false) :
    exec (.launchComplete p n) s = .next s := by
  refine congrArg s.outcome ?_
  rw [launchCompleteEff, State.tryFinish, if_neg (by simp [up]), runs]
  dsimp only
  rw [going]
  exact if_neg (by simp [busy])

end

/-- Settles O19: a start by its launch and its cores, and an end by its record. -/
theorem launchesRun : Obligations.LaunchesRun :=
  ⟨fun _ _ _ up due => ⟨fun _ => exec_launchSlotStart_runs up due, exec_launchSlotStart_invalid up due⟩,
    fun _ _ _ _ up runs going => ⟨exec_launchComplete_done up runs going, exec_launchComplete_runs up runs going⟩⟩

end Sys2Proof.Machine

end

section
/-! PROOFS. What the swapper leaves of the machine. -/

namespace Sys2Proof.Machine

/-- The machine without what the swapper writes: its contexts, counts and events. -/
def State.unswitched (s : State) : State := { s.unreported with ctxs := [] }

theorem State.unswitched_of_unreported {s t : State} (h : t.unreported = s.unreported) : t.unswitched = s.unswitched :=
  congrArg (fun u : State => { u with ctxs := [] }) h

theorem ite_unswitched {p : Prop} [Decidable p] {a b s : State} (ha : a.unswitched = s.unswitched) (hb : b.unswitched = s.unswitched) :
    (if p then a else b).unswitched = s.unswitched := by
  split <;> assumption

theorem foldl_unswitched {β : Type} {f : State → β → State} (h : ∀ s b, (f s b).unswitched = s.unswitched) (l : List β) (s : State) :
    (l.foldl f s).unswitched = s.unswitched := foldl_keeps State.unswitched h l s

/-- What the swapper may do after its notes: nothing, the start of a load, or requests of evictions. -/
theorem State.swap_cases (s : State) (p : Nat) : s.swap p = s.noteCtxs p ∨
    (∃ k, (s.noteCtxs p).ctxRunnable k = true ∧ s.swap p = (s.noteCtxs p).modCtxE k fun x =>
      { x with state := .loading, runnableSince := 0, since := (s.noteCtxs p).beatIx }) ∨
    ∃ l : List (Nat × Bool), s.swap p = l.foldl (fun s j => s.requestEvict j.1 j.2) (s.noteCtxs p) := by
  unfold State.swap
  extract_lets noted run top
  split
  · exact .inl rfl
  next k picked =>
    have runnable : noted.ctxRunnable k = true :=
      (List.mem_filter.1 (List.mem_of_mem_filter (leastBy_mem picked))).2
    split
    · exact .inl rfl
    split
    · exact .inr (.inl ⟨k, runnable, rfl⟩)
    split
    · exact .inl rfl
    · exact .inr (.inr ⟨_, rfl⟩)

@[simp] theorem State.setCtxE_unswitched (s : State) (k : Nat) (x : Ctx) : (s.setCtxE k x).unswitched = s.unswitched := rfl

@[simp] theorem State.tryEvict_unswitched (s : State) (k : Nat) : (s.tryEvict k).unswitched = s.unswitched := by
  unfold State.tryEvict
  exact ite_unswitched (State.setCtxE_unswitched ..) rfl

@[simp] theorem State.modCtxE_unswitched (s : State) (k : Nat) (f : Ctx → Ctx) : (s.modCtxE k f).unswitched = s.unswitched := by
  unfold State.modCtxE
  exact State.setCtxE_unswitched ..

@[simp] theorem State.noteCtx_unswitched (s : State) (k : Nat) : (s.noteCtx k).unswitched = s.unswitched := by
  unfold State.noteCtx
  exact ite_unswitched rfl (State.setCtxE_unswitched ..)

@[simp] theorem State.noteCtxs_unswitched (s : State) (p : Nat) : (s.noteCtxs p).unswitched = s.unswitched := by
  unfold State.noteCtxs
  exact foldl_unswitched (fun ft fb => State.noteCtx_unswitched ..) _ _

@[simp] theorem State.requestEvict_unswitched (s : State) (k : Nat) (counts : Bool) :
    (s.requestEvict k counts).unswitched = s.unswitched := by
  unfold State.requestEvict
  exact ite_unswitched ((State.tryEvict_unswitched ..).trans (ite_unswitched ((State.unswitched_of_unreported
    (State.pCount_unreported ..)).trans (State.setCtxE_unswitched ..)) (State.setCtxE_unswitched ..))) rfl

@[simp] theorem State.swap_unswitched (s : State) (p : Nat) : (s.swap p).unswitched = s.unswitched := by
  rcases s.swap_cases p with e | ⟨k, -, e⟩ | ⟨l, e⟩ <;> rw [e]
  · exact State.noteCtxs_unswitched ..
  · exact (State.modCtxE_unswitched ..).trans (State.noteCtxs_unswitched ..)
  · exact (foldl_unswitched (fun s j => State.requestEvict_unswitched ..) l _).trans (State.noteCtxs_unswitched ..)

end Sys2Proof.Machine

end

section
/-! PROOFS. CONTEXT_CREATE, CONTEXT_EVICT and their ends (R177 to R182), obligation O20. -/

namespace Sys2Proof.Machine

/-! ## Contexts and their saves through the swapper -/

/-- Whether something of a context is saved, and whether its save failed. -/
def Ctx.saving (x : Ctx) : Bool × Bool := (x.saved, x.saveError)

/-- How every context's save stands. -/
def State.savings (s : State) : Nat → Bool × Bool := fun k => (s.ctx k).saving

theorem State.setCtxE_savings (s : State) {k : Nat} {x : Ctx} (h : x.saving = (s.ctx k).saving) : (s.setCtxE k x).savings = s.savings := by
  funext j
  simp only [State.savings, State.ctx_setCtxE]
  split
  next e => rw [h, e]
  · rfl

theorem State.modCtxE_savings (s : State) (k : Nat) {f : Ctx → Ctx} (h : ∀ x, (f x).saving = x.saving) :
    (s.modCtxE k f).savings = s.savings := State.setCtxE_savings s (h _)

theorem State.savings_of_ctxs {s t : State} (h : t.ctxs = s.ctxs) : t.savings = s.savings := by
  unfold State.savings State.ctx
  rw [h]

theorem State.noteCtx_savings (s : State) (k : Nat) : (s.noteCtx k).savings = s.savings := by
  unfold State.noteCtx
  dsimp only
  split
  · rfl
  · exact State.setCtxE_savings s (by rfl)

theorem State.noteCtxs_savings (s : State) (p : Nat) : (s.noteCtxs p).savings = s.savings :=
  foldl_keeps State.savings (fun s k => s.noteCtx_savings k) _ s

theorem State.tryEvict_savings (s : State) (k : Nat) : (s.tryEvict k).savings = s.savings := by
  unfold State.tryEvict
  dsimp only
  split
  · exact State.setCtxE_savings s (by rfl)
  · rfl

theorem State.requestEvict_savings (s : State) (k : Nat) (counts : Bool) : (s.requestEvict k counts).savings = s.savings := by
  unfold State.requestEvict
  dsimp only
  split
  · refine (State.tryEvict_savings ..).trans ?_
    split
    · exact (State.savings_of_ctxs (State.ctxs_of_unreported (State.pCount_unreported ..))).trans (State.setCtxE_savings s (by rfl))
    · exact State.setCtxE_savings s (by rfl)
  · rfl

theorem State.swap_savings (s : State) (p : Nat) : (s.swap p).savings = s.savings := by
  have noted := s.noteCtxs_savings p
  have ways := s.swap_cases p
  generalize s.noteCtxs p = u at noted ways
  rw [← noted]
  rcases ways with e | ⟨k, -, e⟩ | ⟨l, e⟩ <;> rw [e]
  · exact State.modCtxE_savings u k fun _ => rfl
  · exact foldl_keeps State.savings (fun s (j : Nat × Bool) => s.requestEvict_savings j.1 j.2) l u

theorem State.cores_of_unswitched {s t : State} (h : t.unswitched = s.unswitched) : t.cores = s.cores :=
  (congrArg State.cores h : t.unswitched.cores = s.unswitched.cores)

theorem State.saved_of_unswitched {s t : State} (h : t.unswitched = s.unswitched) : t.saved = s.saved :=
  (congrArg State.saved h : t.unswitched.saved = s.unswitched.saved)

/-! ## CONTEXT_CREATE and CONTEXT_EVICT -/

section
variable {via : Via} {p : Part} {i : Fin 16} {s : State}

theorem exec_contextCreate_spec (reached : s.reachesBlock via p = true) (real : 16 * p.val + i.val ≠ 0xFF)
    (free : (s.ctx (16 * p.val + i.val)).state = .free) (lead : s.isLead p = true)
    (some_ : (s.ctx (16 * p.val + i.val)).coreMask ≠ 0)
    (cores : (s.ctx (16 * p.val + i.val)).coreMask.toNat / 2 ^ (16 * (s.members p).length) = 0)
    (area : s.inGroupHbm p (s.ctx (16 * p.val + i.val)).saveAddr (s.ctx (16 * p.val + i.val)).saveArea = true)
    (fits : (s.ctx (16 * p.val + i.val)).spadBase + (s.ctx (16 * p.val + i.val)).spadSize ≤ 512) :
    ∃ t, exec (.contextCreate via p i) s = .next t ∧ (t.ctx (16 * p.val + i.val)).state = .swapped ∧
      (t.ctx (16 * p.val + i.val)).saved = false ∧
      (t.ctx (16 * p.val + i.val)).coreMask = (s.ctx (16 * p.val + i.val)).coreMask ∧
      (∀ j, j ≠ 16 * p.val + i.val → t.ctx j = s.ctx j) ∧ t.cores = s.cores ∧ t.mem = s.mem ∧ t.obj = s.obj := by
  obtain ⟨u, created⟩ : ∃ u, contextCreateW s p i = .ok u ∧ ∃ x, u = s.setCtxE (16 * p.val + i.val) x ∧ x.state = .swapped ∧
      x.saved = false ∧ x.coreMask = (s.ctx (16 * p.val + i.val)).coreMask := by
    refine ⟨_, (if_neg ?_).trans (if_neg ?_), _, rfl, rfl, rfl, rfl⟩
    · simp [real, free, lead]
    · have nonzero : (s.ctx (16 * p.val + i.val)).coreMask ≠ 0#128 := some_
      simp [nonzero, cores, area, fits]
  obtain ⟨ok, x, rfl, state, saved, mask⟩ := created
  have eff : contextCreateEff via p i s = s.setCtxE (16 * p.val + i.val) x := by
    rw [contextCreateEff, ok]
    exact State.blockWrite_ok s reached _ _
  have entry := (State.ctx_setCtxE s (16 * p.val + i.val) (16 * p.val + i.val) x).trans (if_pos rfl)
  exact ⟨_, congrArg s.outcome eff, (congrArg Ctx.state entry).trans state, (congrArg Ctx.saved entry).trans saved,
    (congrArg Ctx.coreMask entry).trans mask, fun j hj => (State.ctx_setCtxE s _ j x).trans (if_neg hj), rfl, rfl, rfl⟩

theorem State.tryEvict_ctx (s : State) (k : Nat) :
    ((s.tryEvict k).ctx k = s.ctx k ∨ ∃ b, (s.tryEvict k).ctx k = { s.ctx k with state := .evicting, blockedSince := 0, since := b }) ∧
      ∀ j, j ≠ k → (s.tryEvict k).ctx j = s.ctx j := by
  unfold State.tryEvict
  dsimp only
  split
  · exact ⟨.inr ⟨_, (State.ctx_setCtxE ..).trans (if_pos rfl)⟩, fun j hj => (State.ctx_setCtxE ..).trans (if_neg hj)⟩
  · exact ⟨.inl rfl, fun _ _ => rfl⟩

theorem State.tryEvict_obj (s : State) (k : Nat) : (s.tryEvict k).obj = s.obj := by
  unfold State.tryEvict
  dsimp only
  split <;> rfl

theorem exec_contextEvict_resident (reached : s.reachesBlock via p = true)
    (resident : (s.ctx (16 * p.val + i.val)).state = .resident) (fresh : (s.ctx (16 * p.val + i.val)).evictReq = false) :
    ∃ t, exec (.contextEvict via p i) s = .next t ∧ (t.ctx (16 * p.val + i.val)).evictReq = true ∧
      ((t.ctx (16 * p.val + i.val)).state = .resident ∨ (t.ctx (16 * p.val + i.val)).state = .evicting) ∧
      t.pRd p 0xB5 = s.pRd p 0xB5 + 1#64 ∧ (∀ j, j ≠ 16 * p.val + i.val → t.ctx j = s.ctx j) ∧ t.cores = s.cores ∧ t.mem = s.mem := by
  obtain ⟨k, hk⟩ : ∃ k, k = 16 * p.val + i.val := ⟨_, rfl⟩
  have part : k / 16 = p.val := by omega
  rw [← hk] at resident fresh ⊢
  obtain ⟨u, hu⟩ : ∃ u, u = (s.setCtxE k { s.ctx k with evictReq := true, sliceStart := none, expired := none }).pCount p 0xB5 1 := ⟨_, rfl⟩
  have eff : contextEvictEff via p i s = u.tryEvict k := by
    rw [contextEvictEff, contextEvictW, ← hk, State.requestEvict, hu]
    dsimp only
    rw [if_pos ⟨resident, fresh⟩, if_pos rfl, part]
    exact State.blockWrite_ok s reached _ _
  have ctx (j : Nat) : u.ctx j = if j = k then { s.ctx k with evictReq := true, sliceStart := none, expired := none } else s.ctx j := by
    rw [hu, State.ctx_of_ctxs (State.ctxs_of_unreported (State.pCount_unreported ..)), State.ctx_setCtxE]
  obtain ⟨own, others⟩ := u.tryEvict_ctx k
  have kept := (u.tryEvict_unswitched k).trans
    ((State.unswitched_of_unreported (hu ▸ State.pCount_unreported ..)).trans (State.setCtxE_unswitched ..))
  rw [ctx k, if_pos rfl] at own
  refine ⟨_, congrArg s.outcome eff, ?_, ?_, ?_, fun j hj => ?_, ?_, ?_⟩
  · rcases own with e | ⟨b, e⟩ <;> exact congrArg Ctx.evictReq e
  · rcases own with e | ⟨b, e⟩
    · exact .inl ((congrArg Ctx.state e).trans resident)
    · exact .inr (congrArg Ctx.state e)
  · refine (congrArg (mget (objDefault (pKey p 0xB5)) · (pKey p 0xB5)) (State.tryEvict_obj ..)).trans ?_
    rw [hu]
    exact (State.rd_count ..).trans (if_pos rfl)
  · exact (others j hj).trans ((ctx j).trans (if_neg hj))
  · exact (State.cores_of_unswitched kept :)
  · exact (State.tryEvict_mem ..).trans (hu ▸ State.pCount_mem ..)

theorem exec_contextEvict_other (reached : s.reachesBlock via p = true)
    (other : (s.ctx (16 * p.val + i.val)).state ≠ .resident) : exec (.contextEvict via p i) s = .next s := by
  refine congrArg s.outcome ?_
  rw [contextEvictEff, contextEvictW, State.requestEvict]
  dsimp only
  rw [if_neg fun both => other both.1]
  exact State.blockWrite_ok s reached _ _

/-! ## CONTEXT_EVICT_DONE -/

/-- The end of an eviction that loses nothing, before the swapper runs. -/
def State.evicted (s : State) (p k : Nat) : State :=
  let x := s.ctx k
  let bytes := (s.ctxCores k).foldl (fun a c => a + s.evictBytes x c) 0
  let t := (s.ctxCores k).foldl (fun s c => s.modCore c fun y => { y with run := .idle, spot := none })
    (s.freeMem x.saveAddr x.saveArea)
  ((({ t with saved := mset [] t.saved k ((s.ctxCores k).map (s.saveCore x [])) }.setCtxE k { x with
    state := .swapped, saved := true, saveError := x.saveError || false, saveBytes := bytes, evictReq := false,
    expired := none, sliceStart := none }).pCount p 0xB3 1).pCount p 0xB4 bytes)

theorem contextEvictDoneEff_eq (up : s.superseded = false) (evicting : (s.ctx (16 * p.val + i.val)).state = .evicting) :
    contextEvictDoneEff p i [] s = (s.evicted p (16 * p.val + i.val)).swap p := by
  unfold contextEvictDoneEff
  dsimp only
  rw [if_neg (by simp [up, evicting])]
  rfl

theorem foldl_idle_core_other (l : List Nat) (s : State) (d : Nat) (h : d ∉ l) :
    (l.foldl (fun s c => s.modCore c fun x => { x with run := .idle, spot := none }) s).core d = s.core d := by
  induction l generalizing s with
  | nil => rfl
  | cons c l ih =>
    obtain ⟨here, rest⟩ := not_or.1 (List.mem_cons.not.1 h)
    rw [List.foldl_cons, ih _ rest, State.core_modCore, if_neg here]

theorem foldl_idle_eq (l : List Nat) (s : State) :
    ∃ xs, l.foldl (fun s c => s.modCore c fun x => { x with run := .idle, spot := none }) s = { s with cores := xs } :=
  foldl_modCore_eq (fun _ _ x => { x with run := .idle, spot := none }) l s

theorem State.evicted_spec (s : State) (p k : Nat) :
    ((s.evicted p k).ctx k).saving = (true, (s.ctx k).saveError) ∧
    mget [] (s.evicted p k).saved k = (s.ctxCores k).map (s.saveCore (s.ctx k) []) ∧
    (∀ c ∈ s.ctxCores k, ((s.evicted p k).core c).run = .idle) ∧
    ∀ c, c ∉ s.ctxCores k → (s.evicted p k).core c = s.core c := by
  have counted (t : State) (n m : Nat) : ((t.pCount p 0xB3 n).pCount p 0xB4 m).unreported = t.unreported :=
    (State.pCount_unreported ..).trans (State.pCount_unreported ..)
  have run := foldl_idle_core (s.ctxCores k) (s.freeMem (s.ctx k).saveAddr (s.ctx k).saveArea)
  have other := foldl_idle_core_other (s.ctxCores k) (s.freeMem (s.ctx k).saveAddr (s.ctx k).saveArea)
  unfold State.evicted
  dsimp only
  generalize (s.ctxCores k).foldl (fun a c => a + s.evictBytes (s.ctx k) c) 0 = bytes
  generalize (s.ctxCores k).foldl (fun s c => s.modCore c fun x => { x with run := .idle, spot := none })
    (s.freeMem (s.ctx k).saveAddr (s.ctx k).saveArea) = t at run other ⊢
  refine ⟨?_, ?_, fun c hc => ?_, fun c hc => ?_⟩
  · rw [State.ctx_of_ctxs (State.ctxs_of_unreported (counted ..)), State.ctx_setCtxE, if_pos rfl]
    simp [Ctx.saving]
  · rw [State.saved_of_unreported (counted ..)]
    exact (mget_mset ..).trans (if_pos rfl)
  · rw [State.core_of_cores (State.cores_of_unreported (counted ..))]
    exact (run c).trans (if_pos hc)
  · rw [State.core_of_cores (State.cores_of_unreported (counted ..))]
    exact other c hc

theorem exec_contextEvictDone_spec (up : s.superseded = false) (evicting : (s.ctx (16 * p.val + i.val)).state = .evicting) :
    ∃ t, exec (.contextEvictDone p i []) s = .next t ∧ (t.ctx (16 * p.val + i.val)).saved = true ∧
      (t.ctx (16 * p.val + i.val)).saveError = (s.ctx (16 * p.val + i.val)).saveError ∧
      mget [] t.saved (16 * p.val + i.val) =
        (s.ctxCores (16 * p.val + i.val)).map (s.saveCore (s.ctx (16 * p.val + i.val)) []) ∧
      (∀ c ∈ s.ctxCores (16 * p.val + i.val), (t.core c).run = .idle) ∧
      (∀ c, c ∉ s.ctxCores (16 * p.val + i.val) → t.core c = s.core c) := by
  obtain ⟨k, hk⟩ : ∃ k, k = 16 * p.val + i.val := ⟨_, rfl⟩
  have eff := contextEvictDoneEff_eq (p := p) (i := i) up evicting
  rw [← hk] at eff ⊢
  obtain ⟨saving, saved, run, other⟩ := s.evicted_spec p k
  have swapped := State.swap_unswitched (s.evicted p k) p
  have savings := (congrFun (State.swap_savings (s.evicted p k) p) k).trans saving
  have cores : ((s.evicted p k).swap p).cores = (s.evicted p k).cores :=
    State.cores_of_unswitched swapped
  have tables : ((s.evicted p k).swap p).saved = (s.evicted p k).saved :=
    State.saved_of_unswitched swapped
  generalize (s.evicted p k).swap p = t at eff savings cores tables
  refine ⟨_, congrArg s.outcome eff, congrArg Prod.fst savings, congrArg Prod.snd savings, ?_, fun c hc => ?_, fun c hc => ?_⟩
  · exact (congrArg (mget [] · k) tables).trans saved
  · exact (congrArg CoreSt.run (State.core_of_cores cores c)).trans (run c hc)
  · exact (State.core_of_cores cores c).trans (other c hc)

/-! ## CONTEXT_RESTORE_DONE -/

/-- A core as a restore leaves it: its saved registers, or none, and the idle counters as they were. -/
def restoredCore (kept : List (Nat × SavedCore)) (c : Nat) (y : CoreSt) : CoreSt :=
  match kept.find? fun v => v.1 == c with
  | some v => { v.2.core with idle := y.idle, run := { v.2.core.run with gateBeats := 0 } }
  | none => y.cleared

theorem restoredCore_idle (kept : List (Nat × SavedCore)) (c : Nat) (y : CoreSt) : (restoredCore kept c y).idle = y.idle := by
  unfold restoredCore
  split <;> rfl

theorem restoredCore_congr (kept : List (Nat × SavedCore)) (c : Nat) {y z : CoreSt} (h : y.idle = z.idle) :
    restoredCore kept c y = restoredCore kept c z := by
  unfold restoredCore
  split
  · rw [h]
  · rw [CoreSt.cleared, CoreSt.cleared, h]

/-- A state with two ranges freed, where they hold anything. -/
def State.freedTwo (s : State) (lo hi a n : Nat) : State :=
  let t := if lo < a then s.freeMem lo (a - lo) else s
  if a + n < hi then t.freeMem (a + n) (hi - (a + n)) else t

theorem State.freedTwo_eq (s : State) (lo hi a n : Nat) : ∃ (m : Mem) (f : Nat), s.freedTwo lo hi a n = { s with mem := m, freeCtr := f } := by
  unfold State.freedTwo
  dsimp only
  split <;> split <;> exact ⟨_, _, rfl⟩

/-- The memory of a restored core: what was saved of it, or zeros. -/
def restoredMem (kept : List (Nat × SavedCore)) (c w k a n : Nat) (m : Mem) : Mem :=
  match kept.find? fun v => v.1 == c with
  | some v => (m.put w k v.2.walnut).put a n v.2.spad
  | none => (m.zero w k).zero a n

/-- A state with one core restored. -/
def State.restoredOn (t : State) (kept : List (Nat × SavedCore)) (c w k a n : Nat) : State :=
  match kept.find? fun v => v.1 == c with
  | some v =>
    { t with mem := (t.mem.put w k v.2.walnut).put a n v.2.spad }.modCore c fun y =>
      { v.2.core with idle := y.idle, run := { v.2.core.run with gateBeats := 0 } }
  | none => ((t.zeroMem w k).zeroMem a n).modCore c CoreSt.cleared

theorem State.restoredOn_eq (t : State) (kept : List (Nat × SavedCore)) (c w k a n : Nat) :
    t.restoredOn kept c w k a n = ({ t with mem := restoredMem kept c w k a n t.mem } : State).modCore c (restoredCore kept c) := by
  have whole : restoredCore kept c = fun y => restoredCore kept c y := rfl
  rw [whole]
  unfold State.restoredOn restoredMem restoredCore
  cases kept.find? (fun v => v.1 == c) <;> rfl

theorem State.restoreCore_eq_restoredOn (s : State) (x : Ctx) (kept : List (Nat × SavedCore)) (c : Nat) :
    s.restoreCore x kept c = (s.freedTwo (spadBase c) (spadBase c + spadSize) (x.spadAt c).1 (x.spadAt c).2).restoredOn kept c
      (walnutBase c) walnutSize (x.spadAt c).1 (x.spadAt c).2 := by
  unfold State.restoreCore
  generalize x.spadAt c = range
  generalize spadBase c = lo
  generalize spadSize = size
  generalize walnutBase c = w
  generalize walnutSize = k
  obtain ⟨a, n⟩ := range
  rfl

theorem State.restoreCore_eq (s : State) (x : Ctx) (kept : List (Nat × SavedCore)) (c : Nat) : ∃ f,
    s.restoreCore x kept c = ({ s with
      mem := restoredMem kept c (walnutBase c) walnutSize (x.spadAt c).1 (x.spadAt c).2
        (s.freedTwo (spadBase c) (spadBase c + spadSize) (x.spadAt c).1 (x.spadAt c).2).mem,
      freeCtr := f } : State).modCore c (restoredCore kept c) := by
  rw [State.restoreCore_eq_restoredOn, State.restoredOn_eq]
  obtain ⟨m, f, freed⟩ := s.freedTwo_eq (spadBase c) (spadBase c + spadSize) (x.spadAt c).1 (x.spadAt c).2
  rw [freed]
  exact ⟨f, rfl⟩

theorem State.restoreCore_core (s : State) (x : Ctx) (kept : List (Nat × SavedCore)) (c d : Nat) :
    (s.restoreCore x kept c).core d = if d = c then restoredCore kept c (s.core c) else s.core d := by
  obtain ⟨f, eq⟩ := s.restoreCore_eq x kept c
  rw [eq, State.core_modCore]
  rfl

/-- The cores of a context, restored one after another. -/
theorem foldl_restoreCore_core (x : Ctx) (kept : List (Nat × SavedCore)) (l : List Nat) (s : State) (d : Nat) :
    (l.foldl (fun s c => s.restoreCore x kept c) s).core d = if d ∈ l then restoredCore kept d (s.core d) else s.core d := by
  induction l generalizing s with
  | nil => rfl
  | cons c l ih =>
    rw [List.foldl_cons, ih, State.restoreCore_core]
    by_cases here : d = c
    · subst here
      rw [if_pos rfl, if_pos (List.mem_cons_self ..), restoredCore_congr kept d (restoredCore_idle kept d (s.core d)), ite_self]
    · simp [here]

/-- A restore changes cores and memory. -/
theorem foldl_restoreCore_eq (x : Ctx) (kept : List (Nat × SavedCore)) (l : List Nat) (s : State) :
    ∃ xs m f, l.foldl (fun s c => s.restoreCore x kept c) s = { s with cores := xs, mem := m, freeCtr := f } := by
  induction l generalizing s with
  | nil => exact ⟨s.cores, s.mem, s.freeCtr, rfl⟩
  | cons c l ih =>
    obtain ⟨f, eq⟩ := s.restoreCore_eq x kept c
    obtain ⟨xs, m', f', rest⟩ := ih (s.restoreCore x kept c)
    refine ⟨xs, m', f', rest.trans ?_⟩
    rw [eq]
    rfl

/-- The end of a restore, before the contexts are noted. -/
def State.restoredCtx (s : State) (p k : Nat) : State :=
  let x := s.ctx k
  let bytes := if x.saved then (mget [] s.saved k).foldl (fun a v => a + savedBytes x v) 0 else 0
  let kept := mget [] s.saved k
  let t := (s.ctxCores k).foldl (fun t c => t.restoreCore x kept c) s
  ((({ t with saved := mset [] t.saved k [] }.setCtxE k ({ x with
    state := .resident, restored := t.beat, evictReq := false, expired := none, blockedSince := 0 }.beginSlice t.beat)).pCount
      p 0xB3 1).pCount p 0xB4 bytes)

theorem contextRestoreDoneEff_eq (up : s.superseded = false) (loading : (s.ctx (16 * p.val + i.val)).state = .loading) :
    contextRestoreDoneEff p i s = (s.restoredCtx p (16 * p.val + i.val)).noteCtxs p := by
  unfold contextRestoreDoneEff
  dsimp only
  rw [if_neg (by simp [up, loading])]
  rfl

theorem Ctx.beginSlice_state (x : Ctx) (b : Nat) : (x.beginSlice b).state = x.state ∧ (x.beginSlice b).restored = x.restored := by
  unfold Ctx.beginSlice
  split <;> exact ⟨rfl, rfl⟩

theorem State.restoredCtx_spec (s : State) (p k : Nat) :
    ((s.restoredCtx p k).ctx k).state = .resident ∧ ((s.restoredCtx p k).ctx k).restored = s.beat ∧
    mget [] (s.restoredCtx p k).saved k = [] ∧
    (∀ d, (s.restoredCtx p k).core d =
      if d ∈ s.ctxCores k then restoredCore (mget [] s.saved k) d (s.core d) else s.core d) ∧
    (s.restoredCtx p k).mem = ((s.ctxCores k).foldl (fun t c => t.restoreCore (s.ctx k) (mget [] s.saved k) c) s).mem := by
  have counted (t : State) (n m : Nat) : ((t.pCount p 0xB3 n).pCount p 0xB4 m).unreported = t.unreported :=
    (State.pCount_unreported ..).trans (State.pCount_unreported ..)
  have core := foldl_restoreCore_core (s.ctx k) (mget [] s.saved k) (s.ctxCores k) s
  obtain ⟨xs, m, f, shape⟩ := foldl_restoreCore_eq (s.ctx k) (mget [] s.saved k) (s.ctxCores k) s
  unfold State.restoredCtx
  dsimp only
  generalize (if (s.ctx k).saved then _ else _) = bytes
  rw [shape] at core ⊢
  refine ⟨?_, ?_, ?_, fun d => ?_, ?_⟩
  · rw [State.ctx_of_ctxs (State.ctxs_of_unreported (counted ..)), State.ctx_setCtxE, if_pos rfl, (Ctx.beginSlice_state ..).1]
  · rw [State.ctx_of_ctxs (State.ctxs_of_unreported (counted ..)), State.ctx_setCtxE, if_pos rfl, (Ctx.beginSlice_state ..).2]
  · rw [State.saved_of_unreported (counted ..)]
    change mget [] (mset [] s.saved k []) k = []
    rw [mget_mset, if_pos rfl]
  · rw [State.core_of_cores (State.cores_of_unreported (counted ..))]
    exact core d
  · rw [State.mem_of_unreported (counted ..)]
    rfl

theorem State.noteCtx_ctx (s : State) (k j : Nat) :
    ((s.noteCtx k).ctx j).state = (s.ctx j).state ∧ ((s.noteCtx k).ctx j).restored = (s.ctx j).restored := by
  unfold State.noteCtx
  dsimp only
  split
  · exact ⟨rfl, rfl⟩
  · rw [State.ctx_setCtxE]
    split
    next e => rw [e]; exact ⟨rfl, rfl⟩
    · exact ⟨rfl, rfl⟩

theorem State.noteCtxs_ctx (s : State) (p j : Nat) :
    ((s.noteCtxs p).ctx j).state = (s.ctx j).state ∧ ((s.noteCtxs p).ctx j).restored = (s.ctx j).restored :=
  List.foldlRecOn (motive := fun t : State => (t.ctx j).state = (s.ctx j).state ∧ (t.ctx j).restored = (s.ctx j).restored)
    (ctxIds (s.lead p)) _ ⟨rfl, rfl⟩ fun t ht k _ => ⟨(t.noteCtx_ctx k j).1.trans ht.1, (t.noteCtx_ctx k j).2.trans ht.2⟩

theorem exec_contextRestoreDone_spec (up : s.superseded = false) (loading : (s.ctx (16 * p.val + i.val)).state = .loading) :
    ∃ t, exec (.contextRestoreDone p i) s = .next t ∧ (t.ctx (16 * p.val + i.val)).state = .resident ∧
      (t.ctx (16 * p.val + i.val)).restored = s.beat ∧ mget [] t.saved (16 * p.val + i.val) = [] ∧
      (∀ d, t.core d = if d ∈ s.ctxCores (16 * p.val + i.val)
        then restoredCore (mget [] s.saved (16 * p.val + i.val)) d (s.core d) else s.core d) ∧
      t.mem = ((s.ctxCores (16 * p.val + i.val)).foldl
        (fun t c => t.restoreCore (s.ctx (16 * p.val + i.val)) (mget [] s.saved (16 * p.val + i.val)) c) s).mem := by
  obtain ⟨k, hk⟩ : ∃ k, k = 16 * p.val + i.val := ⟨_, rfl⟩
  have eff := contextRestoreDoneEff_eq (p := p) (i := i) up loading
  rw [← hk] at eff ⊢
  obtain ⟨state, restored, saved, core, mem⟩ := s.restoredCtx_spec p k
  obtain ⟨cs, noted⟩ := (s.restoredCtx p k).noteCtxs_eq p
  obtain ⟨state', restored'⟩ := (s.restoredCtx p k).noteCtxs_ctx p k
  have cores : ((s.restoredCtx p k).noteCtxs p).core = (s.restoredCtx p k).core := by rw [noted]; rfl
  have tables : ((s.restoredCtx p k).noteCtxs p).saved = (s.restoredCtx p k).saved := by rw [noted]
  have bytes : ((s.restoredCtx p k).noteCtxs p).mem = (s.restoredCtx p k).mem := by rw [noted]
  generalize (s.restoredCtx p k).noteCtxs p = t at eff state' restored' cores tables bytes
  exact ⟨_, congrArg s.outcome eff, state'.trans state, restored'.trans restored, (congrArg (mget [] · k) tables).trans saved,
    fun d => (congrFun cores d).trans (core d), bytes.trans mem⟩

end

/-- Settles O20: the effects of the four commands, each in turn. -/
theorem contextsComeAndGo : Obligations.ContextsComeAndGo := by
  refine ⟨fun via p i s reached => ⟨exec_contextCreate_spec reached, exec_contextEvict_resident reached, exec_contextEvict_other reached⟩,
    fun p i s up => ⟨exec_contextEvictDone_spec up, fun loading => ?_⟩⟩
  obtain ⟨t, ran, state, restored, saved, core, -⟩ := exec_contextRestoreDone_spec (p := p) (i := i) up loading
  exact ⟨t, ran, state, restored, saved, fun c hc => (core c).trans (if_pos hc), fun c hc => (core c).trans (if_neg hc)⟩

end Sys2Proof.Machine

end

section
/-! PROOFS. What a restore brings back (R181, R182), obligation O21. -/

namespace Sys2Proof.Machine

/-! ## Bytes taken and put back -/

theorem mget_filter_key {α : Type} (d : α) (q : Nat → Bool) (j : Nat) : ∀ m : SMap α,
    mget d (m.filter fun kv => q kv.1) j = if q j = true then mget d m j else d
  | [] => (ite_self d).symm
  | (k, v) :: m => by
    have ih := mget_filter_key d q j m
    cases hk : q k
    · rw [List.filter_cons_of_neg (by simp [hk]), ih, mget]
      by_cases hj : k = j
      · rw [← hj, hk]; rfl
      · rw [if_neg hj]
    · rw [List.filter_cons_of_pos (by exact hk), mget, mget, ih]
      by_cases hj : k = j
      · rw [if_pos hj, if_pos hj, ← hj, hk]; rfl
      · rw [if_neg hj, if_neg hj]

/-- The fills of a kept range cover its addresses as they did. -/
theorem fillOf_clip_in {base len a : Nat} (h : base ≤ a ∧ a < base + len) : ∀ fs : List Fill,
    fillOf ((fs.filter fun f => f.meets base len).map fun f => f.clip base len) a = fillOf fs a
  | [] => rfl
  | f :: fs => by
    have ih := fillOf_clip_in h fs
    by_cases meets : f.meets base len = true
    · rw [List.filter_cons_of_pos (by exact meets), List.map_cons, fillOf, fillOf, ih]
      have inside : (f.clip base len).base ≤ a ∧ a < (f.clip base len).base + (f.clip base len).len ↔
          f.base ≤ a ∧ a < f.base + f.len := by
        simp only [Fill.clip]
        omega
      exact if_congr inside rfl rfl
    · rw [List.filter_cons_of_neg (by exact meets), ih, fillOf, if_neg]
      simp only [Fill.meets, Bool.and_eq_true, decide_eq_true_eq] at meets
      omega

/-- Fills behind others show nothing where they cover nothing. -/
theorem fillOf_append_none {gs : List Fill} {a : Nat} (h : fillOf gs a = none) : ∀ fs : List Fill, fillOf (fs ++ gs) a = fillOf fs a
  | [] => h
  | f :: fs => by rw [List.cons_append, fillOf, fillOf, fillOf_append_none h fs]

theorem mget_above {α : Type} (d : α) (k : Nat) : ∀ m : SMap α, (∀ x ∈ m, k < x.1) → mget d m k = d
  | [], _ => rfl
  | x :: m, h => by
    rw [mget, if_neg (Nat.ne_of_gt (h x (List.mem_cons_self ..)))]
    exact mget_above d k m fun y hy => h y (List.mem_cons_of_mem x hy)

theorem Mem.take_cells (m : Mem) (base len a : Nat) (d : Byte) :
    mget d (m.take base len).cells a = if base ≤ a ∧ a < base + len then mget d m.cells a else d := by
  have found := mget_filter_key d (fun k => decide (base ≤ k) && decide (k < base + len)) a m.cells
  simp only [Bool.and_eq_true, decide_eq_true_eq] at found
  exact found

theorem Mem.read_take (m : Mem) {base len a : Nat} (h : base ≤ a ∧ a < base + len) : (m.take base len).read a = m.read a := by
  have covered : fillOf (m.take base len).fills a = fillOf m.fills a := fillOf_clip_in h m.fills
  rw [Mem.read, Mem.take_cells, if_pos h, Mem.background, covered]
  rfl

theorem Mem.read_writes : ∀ (l : List (Nat × Byte)) (m : Mem) (a : Nat), mrising l = true →
    (l.foldl (fun (acc : Mem) kv => acc.write kv.1 kv.2) m).read a = mget (m.read a) l a
  | [], _, _, _ => rfl
  | (k, v) :: l, m, a, rising => by
    obtain ⟨above, rising⟩ := (mrising_cons l (k, v)).1 rising
    rw [List.foldl_cons, Mem.read_writes l _ a rising, mget, Mem.read_write]
    by_cases here : k = a
    · subst here
      rw [if_pos rfl, if_pos rfl, mget_above _ _ _ above]
    · rw [if_neg here, if_neg (Ne.symm here)]

/-- What a range put back reads: inside it the bytes kept, outside it those that were. -/
theorem Mem.read_put (m kept : Mem) (base len a : Nat) (rising : mrising kept.cells = true) :
    (m.put base len kept).read a = if base ≤ a ∧ a < base + len then kept.read a else m.read a := by
  have taken : mrising (kept.take base len).cells = true := mrising_filter _ _ rising
  unfold Mem.put
  dsimp only
  rw [Mem.read_writes _ _ a taken, Mem.take_cells]
  have zeroed := Mem.fill_fillOf m base len none a
  by_cases h : base ≤ a ∧ a < base + len
  · have whole : kept.read a = mget ((kept.take base len).background a) kept.cells a :=
      (Mem.read_take kept h).symm.trans ((Mem.take_cells ..).trans (if_pos h))
    rw [if_pos h, if_pos h, whole]
    rw [if_pos h] at zeroed
    have back : ({ cells := (m.zero base len).cells, fills := (kept.take base len).fills ++ (m.zero base len).fills } : Mem).read a =
        (kept.take base len).background a := by
      rw [Mem.read, Mem.zero, Mem.fill_cells, mget_mclear, if_pos h, Mem.background, Mem.background, fillOf_append_none zeroed]
    rw [back]
  · rw [if_neg h, if_neg h]
    have outside := Mem.read_zero m base len a
    rw [if_neg h] at outside
    rw [← outside, Mem.read, Mem.read, Mem.background, Mem.background]
    rw [show fillOf ((kept.take base len).fills ++ (m.zero base len).fills) a = fillOf (m.zero base len).fills a from
      fillOf_clip_out base len a h _ _]

/-! ## The memory of a restored core -/

variable {s : State}

theorem State.freedTwo_read (s : State) {lo hi a n b : Nat} (inside : lo ≤ a ∧ a + n ≤ hi) (beside : b < lo ∨ hi ≤ b ∨ (a ≤ b ∧ b < a + n)) :
    (s.freedTwo lo hi a n).mem.read b = s.mem.read b := by
  have freed (t : State) {x k : Nat} (h : ¬(x ≤ b ∧ b < x + k)) : (t.freeMem x k).mem.read b = t.mem.read b :=
    (Mem.read_fill ..).trans (if_neg h)
  unfold State.freedTwo
  dsimp only
  split <;> split
  · rw [freed _ (by omega), freed _ (by omega)]
  · exact freed _ (by omega)
  · exact freed _ (by omega)
  · rfl

/-- A restore of a core, byte by byte: its two ranges as saved, its scratchpad else freed, and the rest as it was. -/
theorem restoredMem_read {kept : List (Nat × SavedCore)} {c : Nat} {v : Nat × SavedCore} (found : kept.find? (fun v => v.1 == c) = some v)
    (rw : mrising v.2.walnut.cells = true) (rs : mrising v.2.spad.cells = true) (w k a n : Nat) (m : Mem) (b : Nat) :
    (restoredMem kept c w k a n m).read b =
      if a ≤ b ∧ b < a + n then v.2.spad.read b else if w ≤ b ∧ b < w + k then v.2.walnut.read b else m.read b := by
  unfold restoredMem
  rw [found]
  dsimp only
  rw [Mem.read_put _ _ _ _ _ rs, Mem.read_put _ _ _ _ _ rw]

/-- The ranges of a core's restore. -/
def CoreBytes (x : Ctx) (c b : Nat) : Prop :=
  ((x.spadAt c).1 ≤ b ∧ b < (x.spadAt c).1 + (x.spadAt c).2) ∨ (walnutBase c ≤ b ∧ b < walnutBase c + walnutSize)

theorem spad_before_walnut {x : Ctx} (fits : x.spadBase + x.spadSize ≤ 512) {c d : Nat} (hc : c < 256) :
    spadBase c ≤ (x.spadAt c).1 ∧ (x.spadAt c).1 + (x.spadAt c).2 ≤ spadBase c + spadSize ∧ spadBase c + spadSize ≤ walnutBase d := by
  simp only [Ctx.spadAt, spadBase, spadSize, walnutBase, walnutSize]
  omega

theorem restoreCore_mem (t : State) (x : Ctx) (kept : List (Nat × SavedCore)) (c : Nat) : (t.restoreCore x kept c).mem =
    restoredMem kept c (walnutBase c) walnutSize (x.spadAt c).1 (x.spadAt c).2
      (t.freedTwo (spadBase c) (spadBase c + spadSize) (x.spadAt c).1 (x.spadAt c).2).mem := by
  obtain ⟨f, eq⟩ := t.restoreCore_eq x kept c
  rw [eq]
  rfl

/-- A restored core's ranges hold the bytes that were saved of it. -/
theorem restoreCore_read_own {t s : State} (wf : s.mem.wf) {x y : Ctx} {kept : List (Nat × SavedCore)} {c b : Nat} (hc : c < 256)
    (fits : x.spadBase + x.spadSize ≤ 512) (same : y.spadAt c = x.spadAt c)
    (found : kept.find? (fun v => v.1 == c) = some (s.saveCore y [] c)) (own : CoreBytes x c b) :
    (t.restoreCore x kept c).mem.read b = s.mem.read b := by
  have rising (base len : Nat) := ((Mem.wf_iff _).1 (Mem.take_wf s.mem base len wf)).1
  have order := spad_before_walnut fits (d := c) hc
  have byte := restoredMem_read found (rising _ _) (rising _ _) (walnutBase c) walnutSize (x.spadAt c).1 (x.spadAt c).2
    (t.freedTwo (spadBase c) (spadBase c + spadSize) (x.spadAt c).1 (x.spadAt c).2).mem b
  rw [restoreCore_mem, byte]
  obtain spad | walnut := own
  · rw [if_pos spad]
    exact Mem.read_take s.mem (by rw [same]; exact spad)
  · rw [if_neg (by omega), if_pos walnut]
    exact Mem.read_take s.mem walnut

/-- Another core's ranges keep their bytes. -/
theorem restoreCore_read_other {t s : State} (wf : s.mem.wf) {x y : Ctx} {kept : List (Nat × SavedCore)} {c d b : Nat} (hc : c < 256)
    (hd : d < 256) (ne : d ≠ c) (fits : x.spadBase + x.spadSize ≤ 512)
    (found : kept.find? (fun v => v.1 == c) = some (s.saveCore y [] c)) (other : CoreBytes x d b) :
    (t.restoreCore x kept c).mem.read b = t.mem.read b := by
  have rising (base len : Nat) := ((Mem.wf_iff _).1 (Mem.take_wf s.mem base len wf)).1
  have order := spad_before_walnut fits (d := c) hc
  have order' := spad_before_walnut fits (d := d) hc
  have order'' := spad_before_walnut fits (d := c) hd
  have order3 := spad_before_walnut fits (d := d) hd
  have apart : (b < spadBase c ∨ spadBase c + spadSize ≤ b) ∧ ¬(walnutBase c ≤ b ∧ b < walnutBase c + walnutSize) := by
    simp only [CoreBytes] at other
    revert other order order' order'' order3
    generalize (x.spadAt c).1 = a, (x.spadAt c).2 = n, (x.spadAt d).1 = a', (x.spadAt d).2 = n'
    simp only [spadBase, spadSize, walnutBase, walnutSize]
    omega
  have byte := restoredMem_read found (rising _ _) (rising _ _) (walnutBase c) walnutSize (x.spadAt c).1 (x.spadAt c).2
    (t.freedTwo (spadBase c) (spadBase c + spadSize) (x.spadAt c).1 (x.spadAt c).2).mem b
  rw [restoreCore_mem, byte, if_neg (by omega), if_neg apart.2, State.freedTwo_read _ ⟨order.1, order.2.1⟩ (by omega)]

/-- Once every core of a list is restored, the ranges of each hold what was saved. -/
theorem foldl_restoreCore_read {s : State} (wf : s.mem.wf) {x y : Ctx} {kept : List (Nat × SavedCore)}
    (fits : x.spadBase + x.spadSize ≤ 512) (same : ∀ c, y.spadAt c = x.spadAt c) {d b : Nat} (hd : d < 256) (at_d : CoreBytes x d b) :
    ∀ (l : List Nat) (t : State), (∀ c ∈ l, c < 256) → (∀ c ∈ l, kept.find? (fun v => v.1 == c) = some (s.saveCore y [] c)) →
      (d ∈ l ∨ t.mem.read b = s.mem.read b) → (l.foldl (fun t c => t.restoreCore x kept c) t).mem.read b = s.mem.read b
  | [], t, _, _, here => here.resolve_left (List.not_mem_nil)
  | c :: l, t, small, found, here => by
    have hc := small c (List.mem_cons_self ..)
    have fc := found c (List.mem_cons_self ..)
    refine foldl_restoreCore_read wf fits same hd at_d l _ (fun e he => small e (List.mem_cons_of_mem c he))
      (fun e he => found e (List.mem_cons_of_mem c he)) ?_
    by_cases e : d = c
    · subst e
      exact .inr (restoreCore_read_own wf hd fits (same d) fc at_d)
    · obtain inside | holds := here
      · exact .inl ((List.mem_cons.1 inside).resolve_left e)
      · exact .inr ((restoreCore_read_other wf hc hd e fits fc at_d).trans holds)

theorem find_saveCore (s : State) (y : Ctx) (c : Nat) : ∀ l : List Nat, c ∈ l →
    (l.map (s.saveCore y [])).find? (fun v => v.1 == c) = some (s.saveCore y [] c)
  | d :: l, h => by
    rw [List.map_cons]
    by_cases e : d = c
    · subst e
      exact List.find?_cons_of_pos (BEq.refl d)
    · exact (List.find?_cons_of_neg (by simpa [State.saveCore] using e)).trans
        (find_saveCore s y c l ((List.mem_cons.1 h).resolve_left (Ne.symm e)))

theorem restoredCore_saved {kept : List (Nat × SavedCore)} {s : State} {y : Ctx} {c : Nat}
    (found : kept.find? (fun v => v.1 == c) = some (s.saveCore y [] c)) (z : CoreSt) :
    restoredCore kept c z = { s.core c with idle := z.idle, run := { (s.core c).run with gateBeats := 0 } } := by
  unfold restoredCore
  rw [found]
  rfl

/-- Settles O21: the save keeps each core of the context with its two ranges, and the restore puts each back beside the others. -/
theorem evictionAndRestoreKeepTheContext : Obligations.EvictionAndRestoreKeepTheContext := by
  intro p i s t u v up_s up_u
  dsimp only
  intro evicting saved table cores loading base size fits small wf restored c hc
  obtain ⟨t', ran, -, -, kept, -, -⟩ := exec_contextEvictDone_spec up_s evicting
  obtain rfl : t' = t := Host.Outcome.next.inj (ran.symm.trans saved)
  obtain ⟨v', ran', -, -, -, core, mem⟩ := exec_contextRestoreDone_spec up_u loading
  obtain rfl : v' = v := Host.Outcome.next.inj (ran'.symm.trans restored)
  rw [table, kept] at core mem
  rw [cores] at mem core
  have same (d : Nat) : (s.ctx (16 * p.val + i.val)).spadAt d = (u.ctx (16 * p.val + i.val)).spadAt d := by
    rw [Ctx.spadAt, Ctx.spadAt, base, size]
  have found := fun d hd => find_saveCore s (s.ctx (16 * p.val + i.val)) d (s.ctxCores (16 * p.val + i.val)) hd
  have bytes (b : Nat) (own : CoreBytes (u.ctx (16 * p.val + i.val)) c b) : v'.mem.read b = s.mem.read b := by
    rw [mem]
    exact foldl_restoreCore_read wf (by rw [base, size]; exact fits) same (small c hc) own _ u small found (.inl hc)
  refine ⟨?_, fun b lo hi => bytes b (.inl ?_), fun b lo hi => bytes b (.inr ⟨lo, hi⟩)⟩
  · rw [core c, if_pos hc, restoredCore_saved (found c hc)]
  · rw [← same]
    exact ⟨lo, hi⟩

end Sys2Proof.Machine

end

section
/-! PROOFS. UNLOCK, COMMIT, LOCK and the ends of a commit (R402 to R404), obligation O51. -/

namespace Sys2Proof.Machine

variable {s : State}

/-! ## CALIBRATION_CONTROL (R402 to R404) -/

theorem acts_of_bit {v : Word} {i : Nat} (low : i < 3) (h : bit v i = true) : v.toNat &&& 7 ≠ 0 := by
  intro none
  have seven : Nat.testBit 7 i = true := by
    interval_cases i <;> rfl
  have here : Nat.testBit (v.toNat &&& 7) i = true := by
    rw [Nat.testBit_and, seven, Bool.and_true]
    exact h
  rw [none, Nat.zero_testBit] at here
  exact Bool.noConfusion here

/-- A path that reaches an object of no partition's is not a virtual function's. -/
theorem viaPriv_of_reaches {via : Via} {index sub : Nat} (h : s.reaches via index sub = true) (above : 0x268F < index)
    (below : index < 0x3000) : viaPriv via = true := by
  cases via with
  | pf => rfl
  | barzar => rfl
  | vf p =>
    have apart : viaOffset (.vf p) index sub = none := by
      have other : ¬index = partIx p := by
        unfold partIx
        omega
      unfold viaOffset
      dsimp only
      rw [if_neg other, if_neg (by omega), if_neg (by omega)]
    simp [State.reaches, apart] at h

theorem calControlW_unlock {via : Via} {v : Word} (ok : Bool) (priv : viaPriv via = true) (b0 : bit v 0 = true) (b1 : bit v 1 = false)
    (b2 : bit v 2 = false) : calControlW s via v ok = calUnlockW s v := by
  unfold calControlW
  rw [if_neg (by simp [priv]), if_pos (acts_of_bit (by decide) b0)]
  simp only [ctlActs, ctlAct, b0, b1, b2]
  cases calUnlockW s v <;> rfl

theorem calControlW_badKey {via : Via} {v : Word} (ok : Bool) (b0 : bit v 0 = true) (key : field v 31 16 ≠ 0xC41B) :
    ∃ e, calControlW s via v ok = .error e := by
  unfold calControlW
  split
  · exact ⟨_, rfl⟩
  · rw [if_pos (acts_of_bit (by decide) b0)]
    refine ⟨.range, ?_⟩
    simp only [ctlActs, ctlAct, b0, calUnlockW, if_pos key]
    rfl

theorem calControlW_commit {via : Via} {v : Word} (ok : Bool) (priv : viaPriv via = true) (b0 : bit v 0 = false) (b1 : bit v 1 = true)
    (b2 : bit v 2 = false) : calControlW s via v ok = calCommitW s ok := by
  unfold calControlW
  rw [if_neg (by simp [priv]), if_pos (acts_of_bit (by decide) b1)]
  simp only [ctlActs, ctlAct, b0, b1, b2]
  cases h : calCommitW s ok <;> simp [h, bind, Except.bind]

theorem calControlW_lock {via : Via} {v : Word} (ok : Bool) (priv : viaPriv via = true) (b0 : bit v 0 = false) (b1 : bit v 1 = false)
    (b2 : bit v 2 = true) : calControlW s via v ok = calLockW s := by
  unfold calControlW
  rw [if_neg (by simp [priv]), if_pos (acts_of_bit (by decide) b2)]
  simp only [ctlActs, ctlAct, b0, b1, b2]
  cases h : calLockW s <;> simp [h, bind, Except.bind]

/-! ## The end of a commit -/

theorem State.goOn_of_readiness (h : s.readiness ≠ 4) : s.goOn = s := by
  unfold State.goOn
  split
  · exact if_neg fun both => h both.1
  · rfl

theorem State.mgmtEvent_rd (s : State) (code k : Nat) : (s.mgmtEvent code).rd k = s.rd k := by
  obtain ⟨h, o, eq⟩ := s.mgmtEvent_frame code
  rw [eq]
  rfl

theorem State.rd_count32Sat_ne (s : State) {k j : Nat} (n : Nat) (h : j ≠ k) : (s.count32Sat k n).rd j = s.rd j := by
  unfold State.count32Sat State.countSat
  rw [State.wrN_eq, State.rd_wr, if_neg h]
  unfold State.shadowOf
  split <;> rfl

theorem State.mgmtEvent_mgmt (s : State) (code : Nat) : (s.mgmtEvent code).mgmt = (s.logEvent 4 0xFF code).mgmt := by
  obtain ⟨h, o, eq⟩ := s.mgmtEvent_frame code
  rw [eq]

theorem calibrationCommitDoneEff_spec (committing : s.mgmt.calState = .committing) (ready : s.readiness ≠ 4) :
    calibrationCommitDoneEff true s = (((s.modMgmt fun m => { m with
      cal := m.staging, calBroken := false, calState := .locked, staging := [], calPending := true }).count32Sat (calKey 4) 1).mgmtEvent 4) ∧
    calibrationCommitDoneEff false s =
      ((s.modMgmt fun m => { m with calBroken := true, calState := .locked, staging := [] }).mgmtEvent 5) := by
  have kept (t : State) (code : Nat) (h : t.rd (objKey 0x1000 0x30) = s.rd (objKey 0x1000 0x30)) :
      (t.mgmtEvent code).goOn = t.mgmtEvent code := by
    refine State.goOn_of_readiness ?_
    have same : (t.mgmtEvent code).readiness = s.readiness := congrArg BitVec.toNat ((State.mgmtEvent_rd ..).trans h)
    rw [same]
    exact ready
  unfold calibrationCommitDoneEff
  rw [if_neg (not_not.2 committing), if_neg (not_not.2 committing)]
  exact ⟨kept _ 4 (State.rd_count32Sat_ne _ _ (by decide)), kept _ 5 rfl⟩

theorem calibrationCommitDone_spec (committing : s.mgmt.calState = .committing) (ready : s.readiness ≠ 4) :
    (∃ t, exec (.calibrationCommitDone true) s = .next t ∧ t.mgmt.cal = s.mgmt.staging ∧ t.mgmt.calState = .locked ∧
      t.mgmt.calPending = true ∧ t.rdN (calKey 4) = min (s.rdN (calKey 4) + 1) (2 ^ 32 - 1)) ∧
    (∃ t, exec (.calibrationCommitDone false) s = .next t ∧ t.mgmt.cal = s.mgmt.cal ∧ t.mgmt.calBroken = true ∧
      t.mgmt.calState = .locked) := by
  obtain ⟨done, broken⟩ := calibrationCommitDoneEff_spec committing ready
  constructor
  · refine ⟨_, congrArg s.outcome done, ?_, ?_, ?_, ?_⟩
    · exact (congrArg MgmtSt.cal (State.mgmtEvent_mgmt ..)).trans (congrArg MgmtSt.cal (State.count32Sat_mgmt ..))
    · exact (congrArg MgmtSt.calState (State.mgmtEvent_mgmt ..)).trans (congrArg MgmtSt.calState (State.count32Sat_mgmt ..))
    · exact (congrArg MgmtSt.calPending (State.mgmtEvent_mgmt ..)).trans (congrArg MgmtSt.calPending (State.count32Sat_mgmt ..))
    · exact (congrArg BitVec.toNat (State.mgmtEvent_rd ..)).trans (State.rdN_count32Sat ..)
  · exact ⟨_, congrArg s.outcome broken, (congrArg MgmtSt.cal (State.mgmtEvent_mgmt ..) :), congrArg MgmtSt.calBroken (State.mgmtEvent_mgmt ..),
      congrArg MgmtSt.calState (State.mgmtEvent_mgmt ..)⟩

/-! ## UNLOCK, COMMIT and LOCK -/

theorem unlockEff_spec {via : Via} {v : Word} (reached : s.reaches via 0x2F40 1 = true) (b0 : bit v 0 = true) (b1 : bit v 1 = false)
    (b2 : bit v 2 = false) (key : field v 31 16 = 0xC41B) (idle : s.mgmt.calState ≠ .committing) :
    unlockEff via v s = s.modMgmt fun m => { m with calState := .unlocked, staging := m.cal, calAt := m.ns } := by
  unfold unlockEff
  rw [calControlW_unlock false (viaPriv_of_reaches reached (by decide) (by decide)) b0 b1 b2, calUnlockW, if_neg (not_not.2 key), if_neg idle]
  exact State.objWrite_ok s reached _

theorem commitEff_spec {via : Via} {v : Word} (ok : Bool) (reached : s.reaches via 0x2F40 1 = true) (b0 : bit v 0 = false)
    (b1 : bit v 1 = true) (b2 : bit v 2 = false) (open_ : s.mgmt.calState = .unlocked) :
    commitEff via v ok s = if s.commitRefusal ok = 0 then s.modMgmt fun m => { m with calAt := m.ns, calState := .committing }
      else (s.modMgmt fun m => { m with calAt := m.ns, calRefuse := s.commitRefusal ok }).mgmtEvent 5 := by
  unfold commitEff
  rw [calControlW_commit ok (viaPriv_of_reaches reached (by decide) (by decide)) b0 b1 b2, calCommitW, if_neg (not_not.2 open_)]
  dsimp only
  split <;> exact State.objWrite_ok s reached _

theorem lockEff_spec {via : Via} {v : Word} (reached : s.reaches via 0x2F40 1 = true) (b0 : bit v 0 = false) (b1 : bit v 1 = false)
    (b2 : bit v 2 = true) (open_ : s.mgmt.calState = .unlocked) :
    lockEff via v s = s.modMgmt fun m => { m with calState := .locked, staging := [] } := by
  unfold lockEff
  rw [calControlW_lock false (viaPriv_of_reaches reached (by decide) (by decide)) b0 b1 b2, calLockW, if_neg (not_not.2 open_)]
  exact State.objWrite_ok s reached _

/-- Settles O51: each command, in each state that it names. -/
theorem calibrationIsCommitted : Obligations.CalibrationIsCommitted := by
  refine ⟨fun via v ok s reached => ⟨fun b0 b1 b2 key idle => ?_, fun b0 key => ?_, fun b0 b1 b2 open_ => ⟨fun fine => ?_, fun bad => ?_⟩,
      fun b0 b1 b2 open_ => ?_⟩,
    fun s committing ready => calibrationCommitDone_spec committing ready, fun s idle ok => ?_, fun s => ⟨fun open_ late => ?_, fun early => ?_⟩⟩
  · exact ⟨_, congrArg s.outcome (unlockEff_spec reached b0 b1 b2 key idle), rfl, rfl, sameWork_refl s⟩
  · obtain ⟨e, refused⟩ := calControlW_badKey (s := s) (via := via) false b0 key
    obtain ⟨h, frame⟩ := State.objWrite_error_frame s via 0x2F40 1 e
    have eff : unlockEff via v s = { s with host := h } := by rw [unlockEff, refused, frame]
    exact ⟨_, congrArg s.outcome eff, rfl, rfl, sameWork_refl s⟩
  · have eff := commitEff_spec ok reached b0 b1 b2 open_
    rw [if_pos fine] at eff
    exact ⟨_, congrArg s.outcome eff, rfl, rfl, rfl, rfl, sameWork_refl s⟩
  · have eff := commitEff_spec ok reached b0 b1 b2 open_
    rw [if_neg bad] at eff
    obtain ⟨h, o, frame⟩ := State.mgmtEvent_frame (s.modMgmt fun m => { m with calAt := m.ns, calRefuse := s.commitRefusal ok }) 5
    exact ⟨_, congrArg s.outcome (eff.trans frame), open_, rfl, rfl, rfl, sameWork_refl s⟩
  · exact ⟨_, congrArg s.outcome (lockEff_spec reached b0 b1 b2 open_), rfl, rfl, sameWork_refl s⟩
  · exact congrArg s.outcome (if_pos idle : calibrationCommitDoneEff ok s = s)
  · exact ⟨_, congrArg s.outcome (if_pos ⟨open_, late⟩ : calibrationStagingTimeoutEff s = _), rfl, rfl, sameWork_refl s⟩
  · exact congrArg s.outcome (if_neg (fun both => absurd both.2 (by omega)) : calibrationStagingTimeoutEff s = s)

end Sys2Proof.Machine

end

section
/-! PROOFS. ASSIGN, RESTART, CONGA_IN_CHANGE and NODE_ID_CONFLICT (R392 to R396), obligation O50. -/

namespace Sys2Proof.Machine

variable {s : State}

theorem State.rd_count_ne (s : State) {k j : Nat} (n : Nat) (h : j ≠ k) : (s.count k n).rd j = s.rd j :=
  (State.rd_count ..).trans (if_neg h)

theorem State.rdN_wrN_ne (s : State) {k j : Nat} (v : Nat) (h : j ≠ k) : (s.wrN k v).rdN j = s.rdN j :=
  congrArg BitVec.toNat ((State.rd_wr ..).trans (if_neg h))

theorem State.rdN_wrN (s : State) {k v : Nat} (small : v < 2 ^ 64) : (s.wrN k v).rdN k = v := by
  rw [State.wrN_eq, State.rdN_eq, State.rd_wr, if_pos rfl, BitVec.toNat_ofNat, Nat.mod_eq_of_lt small]

theorem State.rdN_lt (s : State) (k : Nat) : s.rdN k < 2 ^ 64 := (s.rd k).isLt

/-! ## The node's identifier and its confirmation -/

/-- The note that the straps have changed leaves objects, queue and chain as they were. -/
theorem State.strapEvent_keeps (t : State) (c : Prop) [Decidable c] {u : State}
    (h : u = if c then State.mgmtEvent (t.modMgmt fun m => { m with strapEv := false }) 6 else t) : (∀ j, u.rdN j = t.rdN j) ∧
    u.mgmt.congaOut = t.mgmt.congaOut ∧ u.mgmt.conflict = t.mgmt.conflict ∧ u.mgmt.queue = t.mgmt.queue ∧
    u.mgmt.congaIn = t.mgmt.congaIn := by
  subst h
  split
  · exact ⟨fun j => congrArg BitVec.toNat (State.mgmtEvent_rd ..), by rw [State.mgmtEvent_mgmt]; exact ⟨rfl, rfl, rfl, rfl⟩⟩
  · exact ⟨fun j => rfl, rfl, rfl, rfl, rfl⟩

theorem State.takeId_rdN (s : State) {n : Nat} (small : n < 2 ^ 64) (j : Nat) :
    (s.takeId n).rdN j = if j = idKey 0x10 then n else s.rdN j := by
  refine ((State.strapEvent_keeps _ _ rfl).1 j).trans ?_
  split
  next same =>
    split
    next here => rw [here, same]; rfl
    next => rfl
  next =>
    split
    next here => rw [here]; exact s.rdN_wrN small
    next other => exact s.rdN_wrN_ne n other

theorem State.takeId_mgmt (s : State) (n : Nat) : (s.takeId n).mgmt.congaOut = s.mgmt.congaOut ∧
    (s.takeId n).mgmt.conflict = s.mgmt.conflict ∧ (s.mgmt.queue = [] → (s.takeId n).mgmt.queue = []) := by
  obtain ⟨-, out, conflict, queue, -⟩ := State.strapEvent_keeps
    (if n = s.nodeId then s else (s.wrN (idKey 0x10) n).modMgmt fun m => { m with queue := [] }) _ (rfl : s.takeId n = _)
  rw [out, conflict, queue]
  split
  · exact ⟨rfl, rfl, id⟩
  · exact ⟨rfl, rfl, fun _ => rfl⟩

theorem State.takeId_congaIn (s : State) (n : Nat) : (s.takeId n).mgmt.congaIn = s.mgmt.congaIn := by
  obtain ⟨-, -, -, -, cin⟩ := State.strapEvent_keeps
    (if n = s.nodeId then s else (s.wrN (idKey 0x10) n).modMgmt fun m => { m with queue := [] }) _ (rfl : s.takeId n = _)
  rw [cin]
  split <;> rfl

theorem State.confirm_congaOut (s : State) (p : Nat) (fixed : Bool) : (s.confirm p fixed).mgmt.congaOut = true := rfl

theorem State.confirm_rdN (s : State) (p : Nat) (fixed : Bool) {j : Nat} (other : j ≠ idKey 0x16) : (s.confirm p fixed).rdN j = s.rdN j :=
  congrArg BitVec.toNat (State.rd_count_ne _ 1 other)

theorem State.toConga_rdN (s : State) {n : Nat} (small : n < 2 ^ 64) (j : Nat) :
    (s.toConga n).rdN j = if j = objKey 0x1100 1 then n else s.rdN j := by
  split
  next here => rw [here]; exact s.rdN_wrN small
  next other => exact s.rdN_wrN_ne n other

theorem State.rxCan_rdN (s : State) {j : Nat} (other : j ≠ idKey 0x15) : s.rxCan.rdN j = s.rdN j :=
  congrArg BitVec.toNat (State.rd_count_ne _ 1 other)

/-! ## ASSIGN (R393, R394) -/

section
variable {pos : Nat} (bus : s.onBus = true) (low : 1 ≤ pos) (high : pos ≤ 127)
include bus low high

theorem assignEff_taken (awaits : s.congaState = 1) (lo : 1 ≤ nfield s.straps 6 4 * 16 + pos) (hi : nfield s.straps 6 4 * 16 + pos ≤ 127) :
    assignEff pos s = (((s.rxCan.wrN (objKey 0x1100 2) pos).toConga 2).takeId (nfield s.straps 6 4 * 16 + pos)).confirm pos false := by
  unfold assignEff
  rw [if_neg (by simp [bus]; omega), if_pos awaits]
  exact if_pos ⟨lo, hi⟩

theorem assignEff_fault (awaits : s.congaState = 1) (past : 127 < nfield s.straps 6 4 * 16 + pos) :
    assignEff pos s = (s.rxCan.toConga 4).mgmtEvent 9 := by
  unfold assignEff
  rw [if_neg (by simp [bus]; omega), if_pos awaits]
  exact if_neg (by omega)

theorem assignEff_fixed (fixed : s.congaState = 3) (cin : s.mgmt.congaIn = true) (out : s.mgmt.congaOut = false) :
    assignEff pos s = (s.rxCan.wrN (objKey 0x1100 2) pos).confirm pos true := by
  unfold assignEff
  rw [if_neg (by simp [bus]; omega), if_neg (by omega), if_pos ⟨fixed, cin, out⟩]

theorem assignEff_other (state : s.congaState = 0 ∨ s.congaState = 2) : assignEff pos s = s := by
  unfold assignEff
  rw [if_neg (by simp [bus]; omega), if_neg (by omega), if_neg (by omega)]

end

theorem exec_assign_taken {pos : Nat} (bus : s.onBus = true) (low : 1 ≤ pos) (high : pos ≤ 127) (awaits : s.congaState = 1)
    (lo : 1 ≤ nfield s.straps 6 4 * 16 + pos) (hi : nfield s.straps 6 4 * 16 + pos ≤ 127) :
    ∃ t, exec (.assign pos) s = .next t ∧ t.nodeId = nfield s.straps 6 4 * 16 + pos ∧ t.congaState = 2 ∧ t.mgmt.congaOut = true ∧
      t.rdN (objKey 0x1100 2) = pos ∧ sameWork s t := by
  have eff := assignEff_taken bus low high awaits lo hi
  have work : (assignEff pos s).unreported = s.unreported := by simp [eff]
  have taken (t : State) (j : Nat) := t.takeId_rdN (n := nfield s.straps 6 4 * 16 + pos) (by omega) j
  refine ⟨_, congrArg s.outcome eff, ?_, ?_, rfl, ?_, ?_⟩
  · exact (State.confirm_rdN _ _ _ (by decide)).trans ((taken ..).trans (if_pos rfl))
  · exact (State.confirm_rdN _ _ _ (by decide)).trans ((taken ..).trans ((if_neg (by decide)).trans
      ((State.toConga_rdN _ (by decide) _).trans (if_pos rfl))))
  · exact (State.confirm_rdN _ _ _ (by decide)).trans ((taken ..).trans ((if_neg (by decide)).trans
      ((State.toConga_rdN _ (by decide) _).trans ((if_neg (by decide)).trans (State.rdN_wrN _ (by omega))))))
  · rw [← eff]
    exact (sameWork_of_unreported_eq work :)

theorem exec_assign_fault {pos : Nat} (bus : s.onBus = true) (low : 1 ≤ pos) (high : pos ≤ 127) (awaits : s.congaState = 1)
    (past : 127 < nfield s.straps 6 4 * 16 + pos) : ∃ t, exec (.assign pos) s = .next t ∧ t.congaState = 4 ∧
      t.nodeId = s.nodeId ∧ t.mgmt.congaOut = s.mgmt.congaOut ∧ sameWork s t := by
  have eff := assignEff_fault bus low high awaits past
  have work : (assignEff pos s).unreported = s.unreported := by simp [eff]
  refine ⟨_, congrArg s.outcome eff, ?_, ?_, ?_, ?_⟩
  · exact (congrArg BitVec.toNat (State.mgmtEvent_rd ..)).trans ((State.toConga_rdN _ (by decide) _).trans (if_pos rfl))
  · exact (congrArg BitVec.toNat (State.mgmtEvent_rd ..)).trans ((State.toConga_rdN _ (by decide) _).trans
      ((if_neg (by decide)).trans (State.rxCan_rdN _ (by decide))))
  · exact (congrArg MgmtSt.congaOut ((State.mgmtEvent_mgmt (s.rxCan.toConga 4) 9)) :).trans
      (congrArg MgmtSt.congaOut (State.count_mgmt s (idKey 0x15) 1) :)
  · rw [← eff]
    exact (sameWork_of_unreported_eq work :)

theorem exec_assign_fixed {pos : Nat} (bus : s.onBus = true) (low : 1 ≤ pos) (high : pos ≤ 127) (fixed : s.congaState = 3)
    (cin : s.mgmt.congaIn = true) (out : s.mgmt.congaOut = false) : ∃ t, exec (.assign pos) s = .next t ∧ t.congaState = 3 ∧
      t.mgmt.congaOut = true ∧ t.nodeId = s.nodeId ∧ t.rdN (objKey 0x1100 2) = pos ∧ sameWork s t := by
  have eff := assignEff_fixed bus low high fixed cin out
  have work : (assignEff pos s).unreported = s.unreported := by simp [eff]
  have other (j : Nat) (h : j ≠ idKey 0x16) (h' : j ≠ objKey 0x1100 2) (h'' : j ≠ idKey 0x15) :
      ((s.rxCan.wrN (objKey 0x1100 2) pos).confirm pos true).rdN j = s.rdN j :=
    (State.confirm_rdN _ _ _ h).trans ((State.rdN_wrN_ne _ _ h').trans (State.rxCan_rdN _ h''))
  refine ⟨_, congrArg s.outcome eff, ?_, State.confirm_congaOut .., ?_, ?_, ?_⟩
  · have kept := other (objKey 0x1100 1) (by decide) (by decide) (by decide)
    have same : s.rdN (objKey 0x1100 1) = 3 := fixed
    rw [same] at kept
    exact kept
  · exact other (idKey 0x10) (by decide) (by decide) (by decide)
  · exact (State.confirm_rdN (s.rxCan.wrN (objKey 0x1100 2) pos) pos true (by decide)).trans (State.rdN_wrN _ (by omega))
  · rw [← eff]
    exact (sameWork_of_unreported_eq work :)

/-! ## RESTART (R395) -/

theorem exec_restart_spec (bus : s.onBus = true) : ∃ t, exec .restart s = .next t ∧ t.nodeId = s.rdN (idKey 0x11) ∧ t.mgmt.queue = [] ∧
    t.mgmt.congaOut = false ∧ t.mgmt.conflict = false ∧ t.rdN (objKey 0x1100 2) = 0 ∧
    t.congaState = (if s.rdN (idKey 0x11) ≠ 0 then 3 else b2n s.mgmt.congaIn) ∧ sameWork s t := by
  obtain ⟨u, hu⟩ : ∃ u, u = (s.rxCan.modMgmt fun m => { m with queue := [], congaOut := false, conflict := false }).wrN (objKey 0x1100 2) 0 :=
    ⟨_, rfl⟩
  have cin : (u.takeId (s.rdN (idKey 0x11))).mgmt.congaIn = s.mgmt.congaIn :=
    by
    rw [State.takeId_congaIn, hu]
    exact (congrArg MgmtSt.congaIn (State.count_mgmt s (idKey 0x15) 1) :)
  have eff : restartEff s = (u.takeId (s.rdN (idKey 0x11))).toConga (if s.rdN (idKey 0x11) ≠ 0 then 3 else b2n s.mgmt.congaIn) := by
    rw [hu]
    unfold restartEff
    rw [if_neg (by simp [bus]), ← cin, hu]
  have work : (restartEff s).unreported = s.unreported := by simp [eff, hu]
  obtain ⟨out, conflict, queue⟩ := u.takeId_mgmt (s.rdN (idKey 0x11))
  have taken := u.takeId_rdN (s.rdN_lt (idKey 0x11))
  have small : (if s.rdN (idKey 0x11) ≠ 0 then 3 else b2n s.mgmt.congaIn) < 2 ^ 64 := by
    cases s.mgmt.congaIn <;> split <;> decide
  have written : u.rdN (objKey 0x1100 2) = 0 := by rw [hu]; exact State.rdN_wrN _ (by decide)
  refine ⟨_, congrArg s.outcome eff, ?_, queue (by rw [hu]; rfl), out.trans (by rw [hu]; rfl), conflict.trans (by rw [hu]; rfl), ?_, ?_, ?_⟩
  · exact (State.toConga_rdN _ small _).trans ((if_neg (by decide)).trans ((taken _).trans (if_pos rfl)))
  · exact (State.toConga_rdN _ small _).trans ((if_neg (by decide)).trans ((taken _).trans ((if_neg (by decide)).trans written)))
  · exact (State.toConga_rdN _ small _).trans (if_pos rfl)
  · rw [← eff]
    exact (sameWork_of_unreported_eq work :)

/-! ## CONGA_IN_CHANGE and NODE_ID_CONFLICT (R392, R396) -/

theorem exec_congaInChange_spec (level : Bool) (us : Nat) (s : State) :
    (us < 100 → exec (.congaInChange level us) s = .next s) ∧
    (100 ≤ us → s.pow.mode ≠ .off → s.congaState ≤ 1 → ∃ t, exec (.congaInChange level us) s = .next t ∧ t.mgmt.congaIn = level ∧
      t.congaState = b2n level ∧ sameWork s t) ∧
    (100 ≤ us → 1 < s.congaState → ∃ t, exec (.congaInChange level us) s = .next t ∧ t.mgmt.congaIn = level ∧ t.obj = s.obj ∧ sameWork s t) := by
  refine ⟨fun short => congrArg s.outcome (if_pos short : congaInChangeEff level us s = s), fun long on low => ?_, fun long high => ?_⟩
  · have eff : congaInChangeEff level us s = (s.modMgmt fun m => { m with congaIn := level }).toConga (b2n level) := by
      unfold congaInChangeEff
      rw [if_neg (by omega)]
      exact if_neg (not_or.2 ⟨on, Nat.not_lt.2 low⟩)
    refine ⟨_, congrArg s.outcome eff, rfl, ?_, sameWork_refl s⟩
    exact (State.toConga_rdN _ (by cases level <;> decide) _).trans (if_pos rfl)
  · have eff : congaInChangeEff level us s = s.modMgmt fun m => { m with congaIn := level } := by
      unfold congaInChangeEff
      rw [if_neg (by omega)]
      exact if_pos (.inr high)
    exact ⟨_, congrArg s.outcome eff, rfl, rfl, sameWork_refl s⟩

theorem exec_nodeIdConflict_spec (bus : s.onBus = true) (named : s.nodeId ≠ 0) :
    (s.mgmt.conflict = false → ∃ t, exec .nodeIdConflict s = .next t ∧ t.mgmt.conflict = true ∧ t.congaState = 5 ∧ t.maySend = false ∧
      sameWork s t) ∧
    (s.mgmt.conflict = true → exec .nodeIdConflict s = .next s) := by
  refine ⟨fun fresh => ?_, fun known => congrArg s.outcome (if_pos (.inr (.inr known)) : nodeIdConflictEff s = s)⟩
  have eff : nodeIdConflictEff s = ((s.modMgmt fun m => { m with conflict := true }).toConga 5).mgmtEvent 3 :=
    if_neg (by simp [bus, fresh, named])
  have noted : (((s.modMgmt fun m => { m with conflict := true }).toConga 5).mgmtEvent 3).mgmt.conflict = true :=
    congrArg MgmtSt.conflict (State.mgmtEvent_mgmt ..)
  have work : (nodeIdConflictEff s).unreported = s.unreported := by simp [eff]
  refine ⟨_, congrArg s.outcome eff, noted, ?_, ?_, ?_⟩
  · exact (congrArg BitVec.toNat (State.mgmtEvent_rd ..)).trans ((State.toConga_rdN _ (by decide) _).trans (if_pos rfl))
  · have silent : ∀ t : State, t.mgmt.conflict = true → t.maySend = false := fun t h => by simp [State.maySend, h]
    exact silent _ noted
  · rw [← eff]
    exact (sameWork_of_unreported_eq work :)

/-- Settles O50: each command, in each state that it names. -/
theorem congaAssigns : Obligations.CongaAssigns :=
  ⟨fun _ _ bus low high => ⟨exec_assign_taken bus low high, exec_assign_fault bus low high, exec_assign_fixed bus low high,
      fun state => congrArg (State.outcome _) (assignEff_other bus low high state)⟩,
    fun _ bus => exec_restart_spec bus, exec_congaInChange_spec, fun _ bus named => exec_nodeIdConflict_spec bus named⟩

end Sys2Proof.Machine

end

section
/-! PROOFS. BIST_REQUEST, BIST_DEFERRED_START, BIST_CANCEL and BIST_DONE (R347, R348), obligation O47. -/

namespace Sys2Proof.Machine

variable {s : State}

/-! ## Whether a partition is drained -/

theorem State.drained_congr {t : State} (ctxs : t.ctxs = s.ctxs) (slots : t.slots = s.slots) (dma : t.dma = s.dma)
    (loaders : t.loaders = s.loaders) (lead : ∀ q, t.lead q = s.lead q) (holder : ∀ j, t.holder j = s.holder j)
    (state : ∀ j, t.jsState j = s.jsState j) (p : Nat) : t.drained p = s.drained p := by
  have members : t.members p = s.members p := by simp only [State.members, lead]
  simp only [State.drained, State.ctx, State.slot, State.chan, State.loader, ctxs, slots, dma, loaders, lead, holder, state, members]

/-- Waking a group changes the power state of its members and counts it. -/
theorem State.wakeGroup_rd (s : State) (p : Nat) {k : Nat} (h1 : k % 256 ≠ 1) (h7 : k % 256 ≠ 7) : (s.wakeGroup p).rd k = s.rd k := by
  have other (q : Nat) {sub : Nat} (h : k % 256 ≠ sub % 256) : k ≠ pKey q sub := by
    rintro rfl
    exact h (by simp only [pKey, objKey]; omega)
  refine List.foldlRecOn (motive := fun t : State => t.rd k = s.rd k) (s.members p) _ rfl fun t ht q _ => ?_
  split
  · exact ((State.rd_count ..).trans (if_neg (other q h7))).trans (((State.rd_wr ..).trans (if_neg (other q h1))).trans ht)
  · exact ht

theorem State.wakeGroup_drained (s : State) (p q : Nat) : (s.wakeGroup p).drained q = s.drained q := by
  have work := State.wakeGroup_unreported s p
  have reads (k : Nat) (h1 : k % 256 ≠ 1) (h7 : k % 256 ≠ 7) := congrArg BitVec.toNat (s.wakeGroup_rd p h1 h7)
  exact State.drained_congr (State.ctxs_of_unreported work) (State.slots_of_unreported work) (State.dma_of_unreported work)
    (State.loaders_of_unreported work)
    (fun q => reads _ (by simp only [pKey, objKey]; omega) (by simp only [pKey, objKey]; omega))
    (fun j => congrArg (· % 16) (reads _ (by simp only [jsKey, objKey]; omega) (by simp only [jsKey, objKey]; omega)))
    (fun j => reads _ (by simp only [jsKey, objKey]; omega) (by simp only [jsKey, objKey]; omega)) q

theorem State.bistFlag_rd (s : State) {k : Nat} (h : k ≠ objKey 0x1000 0x32) : s.bistFlag.rd k = s.rd k :=
  (State.rd_wr ..).trans (if_neg h)

theorem pKey_ne_flag (p sub : Nat) : pKey p sub ≠ objKey 0x1000 0x32 := by
  simp only [pKey, partIndex, objKey]
  omega

/-! ## BIST_REQUEST and BIST_CANCEL -/

section
variable {via : Via} {p : Part} {v : Word} (reached : s.reaches via (partIx p) 0xEA = true)
include reached

theorem bistRequestEff_spec (b0 : bit v 0 = true) (b1 : bit v 1 = false) (ready : s.jobReady = true) (live : s.pN p 0xE1 = 0)
    (quiet : s.pN p 0x2E ≠ 1) : bistRequestEff via p v s = s.bistStart p (bit v 2) false := by
  have act : bistControlW s p v = .ok (s.bistStart p (bit v 2) false) := by
    have allowed : (s.jobReady && s.pN p 0xE1 == 0 && s.pN p 0x2E != 1) = true := by
      simp only [ready, Bool.true_and, Bool.and_eq_true, beq_iff_eq, bne_iff_ne]
      exact ⟨live, quiet⟩
    simp only [bistControlW, ctlActs, ctlAct, b0, b1, guardW, allowed]
    rfl
  rw [bistRequestEff, act]
  exact State.objWrite_ok s reached _

theorem bistCancelEff_spec (b0 : bit v 0 = false) (b1 : bit v 1 = true) : bistCancelEff via p v s = (s.cancelBist p).bistFlag := by
  have act : bistControlW s p v = .ok (s.cancelBist p).bistFlag := by
    simp only [bistControlW, ctlActs, ctlAct, b0, b1]
    rfl
  rw [bistCancelEff, act]
  exact State.objWrite_ok s reached _

end

/-- A self-test that starts on a partition where none runs or waits. -/
theorem State.bistStart_spec {p : Nat} (h1 : s.pN p 0xEB ≠ 1) (h2 : s.pN p 0xEB ≠ 2) (hbm boot : Bool) :
    (s.bistStart p hbm boot).pN p 0xEB = (if s.drained p then 2 else 1) ∧ (s.bistStart p hbm boot).pN p 0xEC = 0 ∧
      mget none (s.bistStart p hbm boot).hang.bist p = some ⟨hbm, boot⟩ ∧ sameWork s (s.bistStart p hbm boot) := by
  obtain ⟨u, hu⟩ : ∃ u, u = (s.modHang fun h => { h with bist := mset none h.bist p (some ⟨hbm, boot⟩) }).wakeGroup p := ⟨_, rfl⟩
  have eff : s.bistStart p hbm boot = ((u.pWr p 0xEB (if u.drained p then 2 else 1)).pWr p 0xEC 0).bistFlag := by
    rw [hu]
    exact if_neg (by omega)
  have drained : u.drained p = s.drained p := by rw [hu]; exact State.wakeGroup_drained ..
  have woken : u.unreported = (s.modHang fun h => { h with bist := mset none h.bist p (some ⟨hbm, boot⟩) }).unreported := by
    rw [hu]
    exact State.wakeGroup_unreported ..
  rw [eff, drained]
  refine ⟨?_, ?_, ?_, ?_⟩
  · have read : (((u.pWr p 0xEB (if s.drained p then 2 else 1)).pWr p 0xEC 0).bistFlag).rd (pKey p 0xEB) =
        if s.drained p then 2 else 1 :=
      (State.bistFlag_rd _ (pKey_ne_flag _ _)).trans ((State.rd_wr ..).trans ((if_neg (pKey_ne p (by decide))).trans
        ((State.rd_wr ..).trans (if_pos rfl))))
    rw [State.pN_eq, read]
    split <;> rfl
  · exact congrArg BitVec.toNat ((State.bistFlag_rd _ (pKey_ne_flag _ _)).trans ((State.rd_wr ..).trans (if_pos rfl)))
  · have hang : u.hang = (s.modHang fun h => { h with bist := mset none h.bist p (some ⟨hbm, boot⟩) }).hang :=
      State.hang_of_unreported woken
    have bist := congrArg (fun h : HangSt => mget none h.bist p) hang
    refine bist.trans ?_
    change mget none (mset none s.hang.bist p (some ⟨hbm, boot⟩)) p = _
    rw [mget_mset, if_pos rfl]
  · have marked : sameWork s u := (sameWork_of_unreported_eq woken :)
    exact sameWork_trans marked (sameWork_of_unreported_eq (by simp))

/-- What a cancelled self-test leaves. -/
theorem State.cancelBist_spec {p : Nat} {b : BistRun} (found : mget none s.hang.bist p = some b) :
    (s.cancelBist p).pN p 0xEB = 5 ∧ mget none (s.cancelBist p).hang.bist p = none ∧ (s.cancelBist p).cores = s.cores ∧
      (s.pN p 0xEB ≠ 2 → (s.cancelBist p).mem = s.mem) := by
  obtain ⟨u, hu⟩ : ∃ u, u = (s.modHang fun h => { h with bist := mset none h.bist p none }).wrN (pKey p 0xEB) 5 := ⟨_, rfl⟩
  have code : u.pN p 0xEB = 5 := by rw [hu]; exact State.rdN_wrN _ (by decide)
  have gone : mget none u.hang.bist p = none := by
    rw [hu]
    change mget none (mset none s.hang.bist p none) p = none
    rw [mget_mset, if_pos rfl]
  have cores : u.cores = s.cores := by rw [hu]; rfl
  have mem : u.mem = s.mem := by rw [hu]; rfl
  unfold State.cancelBist
  rw [found]
  dsimp only
  rw [← hu]
  split
  next runs =>
    have two : s.pN p 0xEB = 2 := eq_of_beq runs
    split <;> exact ⟨code, gone, cores, fun other => absurd two other⟩
  next => exact ⟨code, gone, cores, fun _ => mem⟩

theorem exec_bistCancel_spec {via : Via} {p : Part} {v : Word} {b : BistRun} (reached : s.reaches via (partIx p) 0xEA = true)
    (b0 : bit v 0 = false) (b1 : bit v 1 = true) (found : mget none s.hang.bist p = some b) :
    ∃ t, exec (.bistCancel via p v) s = .next t ∧ t.pN p 0xEB = 5 ∧ mget none t.hang.bist p = none ∧ t.cores = s.cores ∧
      (s.pN p 0xEB ≠ 2 → t.mem = s.mem) := by
  obtain ⟨code, gone, cores, mem⟩ := State.cancelBist_spec found
  refine ⟨_, congrArg s.outcome (bistCancelEff_spec reached b0 b1), ?_, gone, cores, mem⟩
  exact (congrArg BitVec.toNat (State.bistFlag_rd _ (pKey_ne_flag _ _))).trans code

/-! ## BIST_DEFERRED_START and BIST_DONE -/

theorem exec_bistDeferredStart_spec {p : Part} (waits : s.pN p 0xEB = 1) :
    (s.drained p = true → ∃ t, exec (.bistDeferredStart p) s = .next t ∧
      t.pN p 0xEB = 2 ∧ (∀ k, k ≠ pKey p 0xEB → t.rd k = s.rd k) ∧ t.hang = s.hang ∧ sameWork s t) ∧
    (s.drained p = false → exec (.bistDeferredStart p) s = .next s) := by
  refine ⟨fun idle => ?_, fun busy => ?_⟩
  · have eff : bistDeferredStartEff p s = s.pWr p 0xEB 2 := if_pos ⟨waits, idle⟩
    have rd (k : Nat) : (s.pWr p 0xEB 2).rd k = if k = pKey p 0xEB then 2 else s.rd k := State.rd_wr ..
    have view := State.pWr_unreported s p 0xEB 2
    generalize s.pWr p 0xEB 2 = t at eff rd view
    exact ⟨_, congrArg s.outcome eff, congrArg BitVec.toNat ((rd (pKey p 0xEB)).trans (if_pos rfl)),
      fun k other => (rd k).trans (if_neg other), (State.hang_of_unreported view :), (sameWork_of_unreported_eq view :)⟩
  · have eff : bistDeferredStartEff p s = s := if_neg fun both => Bool.noConfusion (busy.symm.trans both.2)
    exact congrArg s.outcome eff

/-- The memories that a self-test leaves zero. -/
def State.tested (s : State) (p : Nat) (hbm : Bool) : State :=
  let t := (s.zeroMem (spadBase (16 * p)) (16 * spadSize)).zeroMem (walnutBase (16 * p)) (16 * walnutSize)
  if hbm then t.zeroMem (hbmBase p) (s.reserveBase p - hbmBase p) else t

theorem State.tested_frame (s : State) (p : Nat) (hbm : Bool) : ∃ m, s.tested p hbm = { s with mem := m } := by
  unfold State.tested
  dsimp only
  split <;> exact ⟨_, rfl⟩

theorem State.tested_read (s : State) {p : Nat} (hp : p < 16) (hbm : Bool) (a : Nat) :
    (spadBase (16 * p) ≤ a → a < spadBase (16 * p + 16) → (s.tested p hbm).mem.read a = 0#8) ∧
    (walnutBase (16 * p) ≤ a → a < walnutBase (16 * p + 16) → (s.tested p hbm).mem.read a = 0#8) ∧
    (hbmBase p ≤ a → a < hbmBase (p + 1) → (s.tested p hbm).mem.read a = if hbm = true ∧ a < s.reserveBase p then 0#8 else s.mem.read a) := by
  have read : (s.tested p hbm).mem.read a = if hbm = true ∧ hbmBase p ≤ a ∧ a < hbmBase p + (s.reserveBase p - hbmBase p) then 0#8
      else if walnutBase (16 * p) ≤ a ∧ a < walnutBase (16 * p) + 16 * walnutSize then 0#8
      else if spadBase (16 * p) ≤ a ∧ a < spadBase (16 * p) + 16 * spadSize then 0#8 else s.mem.read a := by
    unfold State.tested
    dsimp only
    cases hbm
    · rw [if_neg Bool.false_ne_true, if_neg (fun h => Bool.false_ne_true h.1)]
      exact (Mem.read_zero ..).trans (if_congr Iff.rfl rfl (Mem.read_zero ..))
    · rw [if_pos rfl]
      refine (Mem.read_zero ..).trans (if_congr (by simp) rfl ?_)
      exact (Mem.read_zero ..).trans (if_congr Iff.rfl rfl (Mem.read_zero ..))
  refine ⟨fun lo hi => ?_, fun lo hi => ?_, fun lo hi => ?_⟩
  · rw [read, if_pos (show spadBase (16 * p) ≤ a ∧ a < spadBase (16 * p) + 16 * spadSize by
      simp only [spadBase, spadSize] at lo hi ⊢; omega), ite_self, ite_self]
  · rw [read, if_pos (show walnutBase (16 * p) ≤ a ∧ a < walnutBase (16 * p) + 16 * walnutSize by
      simp only [walnutBase, walnutSize] at lo hi ⊢; omega), ite_self]
  · have below : a < 0x100000000000 := by simp only [hbmBase, hbmSize] at hi; omega
    rw [read, if_neg (show ¬(walnutBase (16 * p) ≤ a ∧ a < walnutBase (16 * p) + 16 * walnutSize) by simp only [walnutBase]; omega),
      if_neg (show ¬(spadBase (16 * p) ≤ a ∧ a < spadBase (16 * p) + 16 * spadSize) by simp only [spadBase]; omega)]
    exact if_congr ⟨fun h => ⟨h.1, by have := h.2; omega⟩, fun h => ⟨h.1, lo, by have := h.2; omega⟩⟩ rfl rfl

/-- Whether a self-test failed. -/
def bistBad (obs : BistObs) (hbm : Bool) : Bool := (hbm && obs.hbmFail) || obs.memFail || obs.engFail || obs.failCores != 0

/-- What a self-test reports. -/
def bistResult (obs : BistObs) (hbm : Bool) : Nat :=
  obs.failCores.toNat * 65536 + b2n (hbm && obs.hbmFail) * 4 + b2n obs.memFail * 2 + b2n obs.engFail

theorem bistResult_bounds (obs : BistObs) (hbm : Bool) : obs.failCores.toNat * 65536 ≤ bistResult obs hbm ∧
    bistResult obs hbm < obs.failCores.toNat * 65536 + 8 := by
  unfold bistResult
  have one (b : Bool) : b2n b ≤ 1 := by cases b <;> decide
  have := one (hbm && obs.hbmFail)
  have := one obs.memFail
  have := one obs.engFail
  omega

theorem bistDoneEff_eq {p : Part} {obs : BistObs} {b : BistRun} (found : mget none s.hang.bist p = some b) (runs : s.pN p 0xEB = 2) :
    bistDoneEff p obs s =
      (let u := ((s.tested p b.hbm).modHang fun h => { h with bist := mset none h.bist p none }).bistFlag
       let t := ((u.pWr p 0xEB (if bistBad obs b.hbm then 4 else 3)).pWr p 0xEC (BitVec.ofNat 64 (bistResult obs b.hbm))).event p 5
       if bistBad obs b.hbm then t.healthEvent else t) := by
  unfold bistDoneEff
  rw [found]
  dsimp only
  rw [if_neg (not_not.2 runs)]
  unfold State.tested
  generalize spadBase (16 * p) = x, walnutBase (16 * p) = y, 16 * spadSize = m, 16 * walnutSize = n
  rfl

/-- What a self-test that is done leaves of the objects, the memory and the machine. -/
theorem bistDoneEff_spec {p : Part} {obs : BistObs} {b : BistRun} (found : mget none s.hang.bist p = some b) (runs : s.pN p 0xEB = 2) :
    (bistDoneEff p obs s).unreported =
      ((s.tested p b.hbm).modHang fun h => { h with bist := mset none h.bist p none }).unreported ∧
    (bistDoneEff p obs s).rd (pKey p 0xEB) = (if bistBad obs b.hbm then 4 else 3) ∧
    (bistDoneEff p obs s).rd (pKey p 0xEC) = BitVec.ofNat 64 (bistResult obs b.hbm) := by
  have tail (t : State) (c : Bool) : (if c = true then (t.event p 5).healthEvent else t.event p 5).unreported = t.unreported ∧
      ∀ k, (if c = true then (t.event p 5).healthEvent else t.event p 5).rd k = t.rd k := by
    split
    · exact ⟨by simp, fun k => (State.healthEvent_rd ..).trans (State.event_rd ..)⟩
    · exact ⟨by simp, fun k => State.event_rd ..⟩
  rw [bistDoneEff_eq found runs]
  dsimp only
  rw [(tail _ _).1, (tail _ _).2, (tail _ _).2]
  refine ⟨by simp, ?_, (State.rd_wr ..).trans (if_pos rfl)⟩
  exact (State.rd_wr ..).trans ((if_neg (pKey_ne p (by decide))).trans ((State.rd_wr ..).trans (if_pos rfl)))

theorem exec_bistDone_spec {p : Part} {obs : BistObs} {b : BistRun} (found : mget none s.hang.bist p = some b) (runs : s.pN p 0xEB = 2) :
    ∃ t, exec (.bistDone p obs) s = .next t ∧ mget none t.hang.bist p = none ∧ t.cores = s.cores ∧
      (∀ a, spadBase (16 * p.val) ≤ a → a < spadBase (16 * p.val + 16) → t.mem.read a = 0#8) ∧
      (∀ a, walnutBase (16 * p.val) ≤ a → a < walnutBase (16 * p.val + 16) → t.mem.read a = 0#8) ∧
      (∀ a, hbmBase p ≤ a → a < hbmBase (p.val + 1) → t.mem.read a = if b.hbm ∧ a < s.reserveBase p then 0#8 else s.mem.read a) ∧
      (obs.memFail = false → obs.engFail = false → obs.failCores = 0 → (b.hbm = true → obs.hbmFail = false) →
        t.pN p 0xEB = 3 ∧ t.pN p 0xEC = 0) ∧
      (obs.memFail = true ∨ obs.engFail = true ∨ obs.failCores ≠ 0 ∨ (b.hbm = true ∧ obs.hbmFail = true) → t.pN p 0xEB = 4) ∧
      field (t.pRd p 0xEC) 31 16 = obs.failCores.toNat := by
  obtain ⟨view, code, result⟩ := bistDoneEff_spec (obs := obs) found runs
  obtain ⟨m, frame⟩ := s.tested_frame p b.hbm
  have read (a : Nat) := s.tested_read p.isLt b.hbm a
  have hang := congrArg (fun h : HangSt => mget none h.bist p) (State.hang_of_unreported view)
  have cores := State.cores_of_unreported view
  have mem : (bistDoneEff p obs s).mem = (s.tested p b.hbm).mem := (State.mem_of_unreported view :)
  have bounds := bistResult_bounds obs b.hbm
  refine ⟨_, rfl, hang.trans ?_, cores.trans ?_, fun a lo hi => ?_, fun a lo hi => ?_, fun a lo hi => ?_, fun h1 h2 h3 h4 => ?_,
    fun bad => ?_, ?_⟩
  · change mget none (mset none _ p none) p = none
    rw [mget_mset, if_pos rfl]
  · rw [frame]
    rfl
  · exact (congrArg (Mem.read · a) mem).trans ((read a).1 lo hi)
  · exact (congrArg (Mem.read · a) mem).trans ((read a).2.1 lo hi)
  · exact (congrArg (Mem.read · a) mem).trans ((read a).2.2 lo hi)
  · have passed : (b.hbm && obs.hbmFail) = false := by
      cases hb : b.hbm
      · rfl
      · rw [h4 hb]; rfl
    have good : bistBad obs b.hbm = false := by simp [bistBad, passed, h1, h2, h3]
    have zero : bistResult obs b.hbm = 0 := by simp [bistResult, passed, h1, h2, h3, b2n]
    rw [good] at code
    rw [zero] at result
    exact ⟨congrArg BitVec.toNat code, congrArg BitVec.toNat result⟩
  · have failed : bistBad obs b.hbm = true := by
      unfold bistBad
      obtain h | h | h | ⟨h, h'⟩ := bad <;> simp_all
    rw [failed] at code
    exact congrArg BitVec.toNat code
  · have word : field ((bistDoneEff p obs s).rd (pKey p 0xEC)) 31 16 = obs.failCores.toNat := by
      have small := obs.failCores.isLt
      rw [result, field, BitVec.toNat_ofNat]
      omega
    exact word

/-- Settles O47: the four commands, each in the states that it names. -/
theorem selfTestsRun : Obligations.SelfTestsRun := by
  refine ⟨fun via p v s reached => ⟨fun b0 b1 ready live quiet h1 h2 => ?_, fun b0 b1 ready live quiet busy => ?_,
      fun b b0 b1 found => exec_bistCancel_spec reached b0 b1 found⟩,
    fun p s waits => exec_bistDeferredStart_spec waits, fun p obs s b found runs => exec_bistDone_spec found runs⟩
  · obtain ⟨code, result, run, work⟩ := State.bistStart_spec h1 h2 (bit v 2) false
    exact ⟨_, congrArg s.outcome (bistRequestEff_spec reached b0 b1 ready live quiet), code, result, run, work⟩
  · have eff := bistRequestEff_spec reached b0 b1 ready live quiet
    rw [State.bistStart, if_pos busy] at eff
    exact congrArg s.outcome eff

end Sys2Proof.Machine

end

section
/-! PROOFS. The clock loops (R410 to R420) for obligation O55. -/

namespace Sys2Proof.Machine

variable {s : State}

/-! ## Bits and fields of a word -/

theorem bit_ofNat (n : Nat) {i : Nat} (small : i < 64) : bit (BitVec.ofNat 64 n) i = decide (n / 2 ^ i % 2 = 1) := by
  rw [bit, BitVec.getLsbD_ofNat, decide_eq_true small, Bool.true_and, Nat.testBit_eq_decide_div_mod_eq]

theorem bit_eq_decide (v : Word) (i : Nat) : bit v i = decide (v.toNat / 2 ^ i % 2 = 1) := by
  rw [bit, BitVec.getLsbD, Nat.testBit_eq_decide_div_mod_eq]

theorem b2n_le (b : Bool) : b2n b ≤ 1 := by cases b <;> decide

section
variable {mhz allowed : Nat} (hm : mhz < 4096) (ha : allowed < 32) (cut current power : Bool)
include hm ha in
/-- The cap register as its fields. -/
theorem capWord_fields : field (BitVec.ofNat 64 (capWord mhz allowed cut current power)) 15 4 = mhz ∧
    field (BitVec.ofNat 64 (capWord mhz allowed cut current power)) 20 16 = allowed := by
  have h1 := b2n_le cut
  have h2 := b2n_le current
  have h3 := b2n_le power
  have h4 := b2n_le (decide (mhz < 1350) || decide (allowed < 16))
  simp only [field, BitVec.toNat_ofNat, capWord]
  omega

theorem capWord_bits (mhz allowed : Nat) (cut current power : Bool) : bit (BitVec.ofNat 64 (capWord mhz allowed cut current power)) 3 = cut ∧
    bit (BitVec.ofNat 64 (capWord mhz allowed cut current power)) 1 = power ∧
    bit (BitVec.ofNat 64 (capWord mhz allowed cut current power)) 0 = (decide (mhz < 1350) || decide (allowed < 16)) := by
  have h2 := b2n_le current
  have is (b : Bool) (n : Nat) (h : n % 2 = b2n b) : decide (n % 2 = 1) = b := by cases b <;> simp [b2n] at h ⊢ <;> omega
  have h1 := b2n_le cut
  have h3 := b2n_le power
  have h4 := b2n_le (decide (mhz < 1350) || decide (allowed < 16))
  rw [bit_ofNat _ (by decide), bit_ofNat _ (by decide), bit_ofNat _ (by decide), capWord]
  exact ⟨is _ _ (by omega), is _ _ (by omega), is _ _ (by omega)⟩

end

/-- The shape of a state after its power cap is sampled. -/
theorem State.capMhz_lt (s : State) : s.capMhz < 4096 := Nat.mod_lt _ (by decide)

theorem State.capAllowed_lt (s : State) : s.capAllowed < 32 := Nat.mod_lt _ (by decide)

/-! ## POWER_CAP_SAMPLE (R412 to R416) -/

/-- What a sample makes of frequency, slots and the wait. -/
def capNext (limit : Nat) (m : PowerSample) (mhz allowed wait : Nat) : (Nat × Nat) × Nat :=
  if decide (limit < m.avgMw) || decide (limit < m.currentMa * 40) then
    (if wait % 10 = 0 then (capDown mhz allowed, 9) else ((mhz, allowed), wait % 10 - 1))
  else if m.marginHeld then (if wait = 0 then (capUp mhz allowed, 99) else ((mhz, allowed), wait - 1))
  else ((mhz, allowed), wait - 1)

/-- A state with a sample's readings and its new cap. -/
def State.sampled (s : State) (m : PowerSample) (n : (Nat × Nat) × Nat) (current power entered : Bool) : State :=
  let frac := s.pow.energyFrac + m.powerMw
  let t := s.fresh.2.modPow fun w => { w with
    capWait := n.2, energyFrac := frac % 1000000, uvGate := w.uvGate && !m.above38 }
  let t := (t.wrN (pwKey 8) (capWord n.1.1 n.1.2 false current power)).count (pwKey 5) (frac / 1000000)
  let t := ((t.wr (pwKey 4) (milliF32 m.avgMw)).wrFree (pwKey 2) (Config.freeWord s.fresh.1 2 &&& 0xFFFFFFFF#64)).wrFree (pwKey 3)
    (Config.freeWord s.fresh.1 3 &&& 0xFFFFFFFF#64)
  if entered then t.count (pwKey 9) 1 else t

theorem powerCapSampleEff_eq (m : PowerSample) (on : s.pow.mode = .on) (uncut : bit (s.rd (pwKey 8)) 3 = false) :
    ∃ cur pw ent, powerCapSampleEff m s = s.sampled m (capNext s.powerLimit m s.capMhz s.capAllowed s.pow.capWait) cur pw ent ∧
      (s.powerLimit < m.avgMw → pw = true) := by
  obtain ⟨n, hn⟩ : ∃ n, n = capNext s.powerLimit m s.capMhz s.capAllowed s.pow.capWait := ⟨_, rfl⟩
  rw [← hn]
  unfold capNext at hn
  unfold powerCapSampleEff
  dsimp only
  rw [if_neg (not_not.2 on)]
  simp only [uncut, Bool.false_and, Bool.false_eq_true, if_false]
  rw [← hn]
  refine ⟨_, _, _, rfl, fun hot => ?_⟩
  rw [decide_eq_true hot]
  rfl

theorem State.sampled_spec (s : State) (m : PowerSample) (n : (Nat × Nat) × Nat) (current power entered : Bool) :
    (s.sampled m n current power entered).rd (pwKey 8) = BitVec.ofNat 64 (capWord n.1.1 n.1.2 false current power) ∧
      (s.sampled m n current power entered).pow.capWait = n.2 ∧
      (s.sampled m n current power entered).rd (pwKey 5) = s.rd (pwKey 5) + BitVec.ofNat 64 ((s.pow.energyFrac + m.powerMw) / 1000000) ∧
      (s.sampled m n current power entered).rd (pwKey 4) = milliF32 m.avgMw ∧ sameWork s (s.sampled m n current power entered) := by
  obtain ⟨t, ht⟩ : ∃ t, t = s.fresh.2.modPow fun w => { w with
    capWait := n.2, energyFrac := (s.pow.energyFrac + m.powerMw) % 1000000, uvGate := w.uvGate && !m.above38 } := ⟨_, rfl⟩
  have wait : t.pow.capWait = n.2 := by rw [ht]; rfl
  have reads (k : Nat) : t.rd k = s.rd k := by rw [ht]; rfl
  have work : sameWork s t := by rw [ht]; exact sameWork_refl s
  unfold State.sampled
  dsimp only
  rw [← ht]
  generalize (s.pow.energyFrac + m.powerMw) / 1000000 = joules
  have last (u : State) : (∀ k, k ≠ pwKey 9 → (if entered = true then u.count (pwKey 9) 1 else u).rd k = u.rd k) ∧
      (if entered = true then u.count (pwKey 9) 1 else u).pow = u.pow ∧ (if entered = true then u.count (pwKey 9) 1 else u).unreported = u.unreported := by
    split
    · exact ⟨fun k h => State.rd_count_ne _ 1 h, State.count_pow .., State.count_unreported ..⟩
    · exact ⟨fun k _ => rfl, rfl, rfl⟩
  obtain ⟨rd, pow, view⟩ := last (((((t.wrN (pwKey 8) (capWord n.1.1 n.1.2 false current power)).count (pwKey 5) joules).wr (pwKey 4)
    (milliF32 m.avgMw)).wrFree (pwKey 2) (Config.freeWord s.fresh.1 2 &&& 0xFFFFFFFF#64)).wrFree (pwKey 3)
    (Config.freeWord s.fresh.1 3 &&& 0xFFFFFFFF#64))
  refine ⟨?_, ?_, ?_, ?_, ?_⟩
  · rw [rd _ (by decide)]
    refine (State.rd_wrFree ..).trans ((if_neg (by decide)).trans ((State.rd_wrFree ..).trans ((if_neg (by decide)).trans ((State.rd_wr ..).trans ((if_neg (by decide)).trans ((State.rd_count_ne _ _ (by decide)).trans ((State.rd_wr ..).trans (if_pos rfl))))))))
  · rw [pow, State.wrFree_pow, State.wrFree_pow, State.wr_pow, State.count_pow]
    exact wait
  · rw [rd _ (by decide)]
    refine (State.rd_wrFree ..).trans ((if_neg (by decide)).trans ((State.rd_wrFree ..).trans ((if_neg (by decide)).trans ((State.rd_wr ..).trans ((if_neg (by decide)).trans ((State.rd_count ..).trans ((if_pos rfl).trans ?_)))))))
    rw [State.wrN_eq, State.rd_wr, if_neg (by decide), reads]
  · rw [rd _ (by decide)]
    refine (State.rd_wrFree ..).trans ((if_neg (by decide)).trans ((State.rd_wrFree ..).trans ((if_neg (by decide)).trans ((State.rd_wr ..).trans (if_pos rfl)))))
  · refine sameWork_trans work (sameWork_of_unreported_eq (view.trans ?_))
    rw [State.wrFree_unreported, State.wrFree_unreported, State.wr_unreported, State.count_unreported, State.wrN_unreported]

/-- What a sample of an uncut device leaves. -/
theorem powerCapSample_spec (m : PowerSample) (on : s.pow.mode = .on) (uncut : bit (s.rd (pwKey 8)) 3 = false)
    (hm : (capNext s.powerLimit m s.capMhz s.capAllowed s.pow.capWait).1.1 < 4096)
    (ha : (capNext s.powerLimit m s.capMhz s.capAllowed s.pow.capWait).1.2 < 32) :
    (powerCapSampleEff m s).capMhz = (capNext s.powerLimit m s.capMhz s.capAllowed s.pow.capWait).1.1 ∧
    (powerCapSampleEff m s).capAllowed = (capNext s.powerLimit m s.capMhz s.capAllowed s.pow.capWait).1.2 ∧
    (powerCapSampleEff m s).pow.capWait = (capNext s.powerLimit m s.capMhz s.capAllowed s.pow.capWait).2 ∧
    bit ((powerCapSampleEff m s).rd (pwKey 8)) 0 =
      (decide ((capNext s.powerLimit m s.capMhz s.capAllowed s.pow.capWait).1.1 < 1350) ||
        decide ((capNext s.powerLimit m s.capMhz s.capAllowed s.pow.capWait).1.2 < 16)) ∧
    (s.powerLimit < m.avgMw → bit ((powerCapSampleEff m s).rd (pwKey 8)) 1 = true) ∧ sameWork s (powerCapSampleEff m s) := by
  obtain ⟨cur, pw, ent, eff, hot⟩ := powerCapSampleEff_eq m on uncut
  obtain ⟨word, wait, -, -, work⟩ := s.sampled_spec m (capNext s.powerLimit m s.capMhz s.capAllowed s.pow.capWait) cur pw ent
  obtain ⟨mhz, allowed⟩ := capWord_fields hm ha false cur pw
  obtain ⟨-, b1, b0⟩ := capWord_bits (capNext s.powerLimit m s.capMhz s.capAllowed s.pow.capWait).1.1
    (capNext s.powerLimit m s.capMhz s.capAllowed s.pow.capWait).1.2 false cur pw
  rw [← eff] at word wait work
  exact ⟨(congrArg (field · 15 4) word).trans mhz, (congrArg (field · 20 16) word).trans allowed, wait, (congrArg (bit · 0) word).trans b0,
    fun h => (congrArg (bit · 1) word).trans (b1.trans (hot h)), work⟩

theorem powerCapSample_clauses (m : PowerSample) (on : s.pow.mode = .on) (uncut : bit (s.rd (pwKey 8)) 3 = false) (low : s.capMhz ≤ 1350)
    (few : s.capAllowed ≤ 16) :
    (s.powerLimit < m.avgMw → s.pow.capWait % 10 = 0 → 800 < s.capMhz → ∃ t, exec (.powerCapSample m) s = .next t ∧
       t.capMhz = max 800 (s.capMhz - 25) ∧ t.capAllowed = s.capAllowed ∧ bit (t.rd (pwKey 8)) 0 = true ∧ bit (t.rd (pwKey 8)) 1 = true ∧
       t.pow.capWait = 9 ∧ sameWork s t) ∧
     (m.avgMw ≤ s.powerLimit → m.currentMa * 40 ≤ s.powerLimit → m.marginHeld = true → s.pow.capWait = 0 →
       ∃ t, exec (.powerCapSample m) s = .next t ∧ t.pow.capWait = 99 ∧ sameWork s t ∧
         (s.capAllowed < 16 → t.capAllowed = s.capAllowed + 1 ∧ t.capMhz = s.capMhz) ∧
         (s.capAllowed = 16 → t.capAllowed = 16 ∧ t.capMhz = min 1350 (s.capMhz + 25))) ∧
     (∃ t, exec (.powerCapSample m) s = .next t ∧
       t.rd (pwKey 5) = s.rd (pwKey 5) + BitVec.ofNat 64 ((s.pow.energyFrac + m.powerMw) / 1000000) ∧ t.rd (pwKey 4) = milliF32 m.avgMw ∧ sameWork s t) := by
  refine ⟨fun hot due fast => ?_, fun cool coolI held due => ?_, ?_⟩
  · have next : capNext s.powerLimit m s.capMhz s.capAllowed s.pow.capWait = ((max 800 (s.capMhz - 25), s.capAllowed), 9) := by
      rw [capNext, if_pos (by rw [decide_eq_true hot]; rfl), if_pos due, capDown, if_pos fast]
    have spec := powerCapSample_spec m on uncut
    rw [next] at spec
    obtain ⟨mhz, allowed, wait, b0, b1, work⟩ := spec (by dsimp only; omega) (by dsimp only; omega)
    have active : (decide (max 800 (s.capMhz - 25) < 1350) || decide (s.capAllowed < 16)) = true := by
      rw [decide_eq_true (show max 800 (s.capMhz - 25) < 1350 by omega)]
      rfl
    exact ⟨_, rfl, mhz, allowed, b0.trans active, b1 hot, wait, work⟩
  · have next : capNext s.powerLimit m s.capMhz s.capAllowed s.pow.capWait = (capUp s.capMhz s.capAllowed, 99) := by
      rw [capNext, if_neg (by simp only [Bool.or_eq_true, decide_eq_true_eq]; omega), if_pos held, if_pos due]
    have spec := powerCapSample_spec m on uncut
    rw [next] at spec
    unfold capUp at spec
    obtain more | full : s.capAllowed < 16 ∨ s.capAllowed = 16 := by omega
    · rw [if_pos more] at spec
      obtain ⟨mhz, allowed, wait, -, -, work⟩ := spec (by dsimp only; omega) (by dsimp only; omega)
      exact ⟨_, rfl, wait, work, fun _ => ⟨allowed, mhz⟩, fun full => absurd full (by omega)⟩
    · rw [if_neg (by omega)] at spec
      obtain ⟨mhz, allowed, wait, -, -, work⟩ := spec (by dsimp only; omega) (by dsimp only; omega)
      exact ⟨_, rfl, wait, work, fun more => absurd more (by omega), fun _ => ⟨allowed.trans full, mhz⟩⟩
  · obtain ⟨cur, pw, ent, eff, -⟩ := powerCapSampleEff_eq m on uncut
    obtain ⟨-, -, energy, avg, work⟩ := s.sampled_spec m (capNext s.powerLimit m s.capMhz s.capAllowed s.pow.capWait) cur pw ent
    rw [← eff] at energy avg work
    exact ⟨_, rfl, energy, avg, work⟩

/-! ## FAST_CUT (R417) -/

theorem State.applyCut_spec (s : State) (low : s.capMhz ≤ 1350) (few : s.capAllowed ≤ 16) :
    s.applyCut.capAllowed = min 8 s.capAllowed ∧ s.applyCut.capMhz = s.capMhz ∧ bit (s.applyCut.rd (pwKey 8)) 3 = true ∧
      s.applyCut.rd (pwKey 9) = s.rd (pwKey 9) + 1#64 ∧ sameWork s s.applyCut := by
  obtain ⟨u, hu⟩ : ∃ u, u = if bit (s.rd (pwKey 8)) 3 = true then s else s.modPow fun w => { w with preCut := s.capAllowed } := ⟨_, rfl⟩
  have reads (k : Nat) : u.rd k = s.rd k := by
    rw [hu]
    split <;> rfl
  have work : sameWork s u := by
    rw [hu]
    split <;> exact sameWork_refl s
  have mhz : u.capMhz = s.capMhz := by rw [State.capMhz, reads]; rfl
  have allowed : u.capAllowed = s.capAllowed := by rw [State.capAllowed, reads]; rfl
  obtain ⟨hm, ha⟩ := capWord_fields (mhz := s.capMhz) (allowed := min 8 s.capAllowed) (by omega) (by omega) true
    (bit (s.rd (pwKey 8)) 2) (bit (s.rd (pwKey 8)) 1)
  obtain ⟨b3, -, -⟩ := capWord_bits s.capMhz (min 8 s.capAllowed) true (bit (s.rd (pwKey 8)) 2) (bit (s.rd (pwKey 8)) 1)
  have eff : s.applyCut = (u.wrN (pwKey 8) (capWord s.capMhz (min 8 s.capAllowed) true (bit (s.rd (pwKey 8)) 2)
      (bit (s.rd (pwKey 8)) 1))).count (pwKey 9) 1 := by
    rw [← mhz, ← allowed, hu]
    rfl
  have word : s.applyCut.rd (pwKey 8) = BitVec.ofNat 64 (capWord s.capMhz (min 8 s.capAllowed) true (bit (s.rd (pwKey 8)) 2)
      (bit (s.rd (pwKey 8)) 1)) := by
    rw [eff, State.rd_count_ne _ _ (by decide), State.wrN_eq, State.rd_wr, if_pos rfl]
  refine ⟨by rw [State.capAllowed, word]; exact ha, by rw [State.capMhz, word]; exact hm, by rw [word]; exact b3, ?_, ?_⟩
  · rw [eff, State.rd_count, if_pos rfl, State.wrN_eq, State.rd_wr, if_neg (by decide), reads]
  · refine sameWork_trans work (sameWork_of_unreported_eq ?_)
    rw [eff, State.count_unreported, State.wrN_unreported]

/-! ## AVFS_TRIM (R418) -/

theorem State.cluster_modCluster (s : State) (p q : Nat) (f : ClusterClk → ClusterClk) :
    (s.modCluster p f).cluster q = if q = p then f (s.cluster p) else s.cluster q := mget_mmod ..

theorem exec_avfsTrim_spec {p : Part} {mv mhz : Nat} (on : s.pow.mode = .on) (free : s.rdN (pwKey 7) = 0) :
    ∃ t, exec (.avfsTrim p mv mhz) s = .next t ∧ t.rdN (ckKey (0x20 + p.val)) = max 600 (min 900 mv) ∧
     (t.cluster p).avfsMhz = max 800 (min (if s.uncalibrated then 900 else 1350) mhz) / 25 * 25 ∧
     (∀ q, q ≠ p.val → t.cluster q = s.cluster q) ∧ sameWork s t := by
  obtain ⟨u, hu⟩ : ∃ u, u = s.wrN (ckKey (0x20 + p.val)) (max 600 (min 900 mv)) := ⟨_, rfl⟩
  have eff : avfsTrimEff p mv mhz s = u.modCluster p fun c =>
      { c with avfsMhz := max 800 (min (if s.uncalibrated then 900 else 1350) mhz) / 25 * 25 } := by
    unfold avfsTrimEff
    rw [if_neg (not_or.2 ⟨not_not.2 on, not_not.2 free⟩), hu]
  have code : u.rdN (ckKey (0x20 + p.val)) = max 600 (min 900 mv) := by rw [hu]; exact s.rdN_wrN (by omega)
  have pow : u.pow = s.pow := by rw [hu]; rfl
  have work : sameWork s u := by rw [hu]; exact sameWork_of_unreported_eq (State.wrN_unreported ..)
  have same (q : Nat) : u.cluster q = s.cluster q := by rw [State.cluster, pow]; rfl
  have clusters := u.cluster_modCluster p
  refine ⟨_, congrArg s.outcome eff, code, ?_, fun q other => ?_, work⟩
  · exact congrArg ClusterClk.avfsMhz ((clusters p _).trans (if_pos rfl))
  · exact (clusters q _).trans ((if_neg other).trans (same q))

/-! ## THERMAL_THROTTLE_TICK (R419, R420) -/

/-- What a reading makes of a cluster's clock. -/
def ticked (limit milliC : Int) (c : ClusterClk) : ClusterClk :=
  if limit ≤ milliC then c.cooled
  else if milliC < limit - 3000 ∧ (decide (c.thMhz < 1350) || decide (c.thAllowed < 16)) = true then
    (if c.coolTicks < 99 then { c with coolTicks := c.coolTicks + 1 } else c.relaxed)
  else c

theorem State.thermalFlags_pow (s : State) : s.thermalFlags.pow = s.pow := by
  unfold State.thermalFlags
  rw [State.wrN_eq, State.wr_pow]

theorem State.modCluster_sameWork (s : State) (p : Nat) (f : ClusterClk → ClusterClk) : sameWork s (s.modCluster p f) := sameWork_refl s

theorem exec_thermalThrottleTick_spec (p : Part) (milliC : Int) (s : State) :
    ∃ t, exec (.thermalThrottleTick (.cluster p milliC)) s = .next t ∧
      t.cluster p = ticked (s.tempLimit (s.rdN (thKey 2))) milliC (s.cluster p) ∧
      (∀ q, q ≠ p.val → t.cluster q = s.cluster q) ∧ sameWork s t := by
  obtain ⟨c, hc⟩ : ∃ c, c = ticked (s.tempLimit (s.rdN (thKey 2))) milliC (s.cluster p) := ⟨_, rfl⟩
  obtain ⟨u, hu⟩ : ∃ u, u = (s.wr (thKey (0x10 + p)) (milliF32 milliC)).modCluster p fun _ => c := ⟨_, rfl⟩
  obtain ⟨b, eff⟩ : ∃ b : Bool, thermalThrottleTickEff (.cluster p milliC) s =
      if b = true then u.thermalFlags.count (thKey 6) 1 else u.thermalFlags := by
    rw [hu, hc]
    exact ⟨_, rfl⟩
  have pow : (thermalThrottleTickEff (.cluster p milliC) s).pow = u.pow := by
    rw [eff]
    split
    · rw [State.count_pow, State.thermalFlags_pow]
    · rw [State.thermalFlags_pow]
  have work : sameWork u (thermalThrottleTickEff (.cluster p milliC) s) := by
    rw [eff]
    split
    · exact sameWork_of_unreported_eq (by simp)
    · exact sameWork_of_unreported_eq (by simp)
  have wrote : sameWork s u := by
    rw [hu]
    exact sameWork_trans (sameWork_of_unreported_eq (State.wr_unreported ..)) (State.modCluster_sameWork ..)
  have cluster (q : Nat) : (thermalThrottleTickEff (.cluster p milliC) s).cluster q = if q = p.val then c else s.cluster q := by
    rw [State.cluster, pow, ← State.cluster, hu, State.cluster_modCluster, State.cluster, State.cluster, State.wr_pow]
  rw [← hc]
  exact ⟨_, rfl, (cluster p).trans (if_pos rfl), fun q other => (cluster q).trans (if_neg other), sameWork_trans wrote work⟩

end Sys2Proof.Machine

end

section
/-! PROOFS. Ports, their buffers and the choice of a Beat. -/

namespace Sys2Proof.Machine

variable {s : State}

/-! ## Ports and what stands in their buffers -/

/-- The state of a port and what it has queued. -/
def PortSt.line (x : PortSt) : PState × List OutPkt := (x.st, x.outQ)

theorem State.leaveInput_line (s : State) (inp : Nat) (vc : Fin 4) (cls : Fin 2) (units m : Nat) :
    ((s.leaveInput inp vc cls units).port m).line = (s.port m).line := by
  unfold State.leaveInput
  split
  · rw [State.port_setPort]
    split
    next here => rw [here]; rfl
    · rfl
  · rfl

theorem State.leaveInput_rd (s : State) (inp : Nat) (vc : Fin 4) (cls : Fin 2) (units k : Nat) :
    (s.leaveInput inp vc cls units).rd k = s.rd k := by
  unfold State.leaveInput
  split <;> rfl

theorem State.leaveAll_line (s : State) (qs : List OutPkt) (m : Nat) : ((s.leaveAll qs).port m).line = (s.port m).line :=
  List.foldlRecOn (motive := fun t : State => (t.port m).line = (s.port m).line) qs _ rfl
    fun t ht _ _ => (t.leaveInput_line ..).trans ht

theorem State.leaveAll_rd (s : State) (qs : List OutPkt) (k : Nat) : (s.leaveAll qs).rd k = s.rd k :=
  List.foldlRecOn (motive := fun t : State => t.rd k = s.rd k) qs _ rfl fun t ht _ _ => (t.leaveInput_rd ..).trans ht

theorem fabKey_div (sub : Nat) (small : sub < 256) : fabKey sub / 256 = 0x2500 := objKey_div _ small

theorem ne_fabKey {k : Nat} (h : k / 256 ≠ 0x2500) {sub : Nat} (small : sub < 256) : k ≠ fabKey sub := by
  rintro rfl
  exact h (fabKey_div sub small)

theorem State.rd_wrN_ne (s : State) {k j : Nat} (v : Nat) (h : j ≠ k) : (s.wrN k v).rd j = s.rd j := (State.rd_wr ..).trans (if_neg h)

theorem State.setBeat_rd (s : State) (st hops src : Nat) (master : FabAddr) {k : Nat} (h : k / 256 ≠ 0x2500) :
    (s.setBeat st hops src master).rd k = s.rd k := by
  unfold State.setBeat
  rw [State.rd_wrN_ne _ _ (ne_fabKey h (by decide)), State.rd_wrN_ne _ _ (ne_fabKey h (by decide)),
    State.rd_wrN_ne _ _ (ne_fabKey h (by decide)), State.rd_wrN_ne _ _ (ne_fabKey h (by decide))]

/-- What the choice of a Beat leaves of the ports and of the objects beside the fabric's. -/
def State.portsBeside (s : State) (k : Nat) : SMap PortSt × MgmtSt × Word := (s.fab.ports, s.mgmt, s.rd k)

section
variable {k : Nat} (h : k / 256 ≠ 0x2500)
include h

theorem State.ownBeat_portsBeside (s : State) (st : Nat) : (s.ownBeat st).portsBeside k = s.portsBeside k := by
  have word : (s.ownBeat st).rd k = s.rd k := (State.rd_wrN_ne _ 0 (ne_fabKey h (show 0x18 < 256 by decide))).trans (s.setBeat_rd _ _ _ _ h)
  exact Prod.ext rfl (Prod.ext rfl word)

theorem State.enterHoldover_portsBeside (s : State) : s.enterHoldover.portsBeside k = s.portsBeside k := by
  have word : s.enterHoldover.rd k = s.rd k := State.rd_wrN_ne (s.shadowAdd (fabKey 0xFE) 1) bsHoldover (ne_fabKey h (show 0x10 < 256 by decide))
  exact Prod.ext rfl (Prod.ext rfl word)

theorem State.followPort_portsBeside (s : State) (m : MasterAnn) (n hops : Nat) : (s.followPort m n hops).portsBeside k = s.portsBeside k := by
  unfold State.followPort
  split
  · exact Prod.ext rfl (Prod.ext rfl (State.rd_wrN_ne _ hops (ne_fabKey h (by decide))))
  · exact Prod.ext rfl (Prod.ext rfl (s.setBeat_rd _ _ _ _ h))

theorem State.reselect_portsBeside (s : State) (forgotten : Bool) : (s.reselect forgotten).portsBeside k = s.portsBeside k := by
  have own := s.ownBeat_portsBeside h
  have hold := s.enterHoldover_portsBeside h
  unfold State.reselect
  split
  · split
    · split
      · exact hold
      · rfl
    · exact own _
  · dsimp only
    split
    · split
      · exact own _
      · split
        · split
          · exact hold
          · rfl
        · split
          · rfl
          · exact own _
    · split
      · exact own _
      · split
        · exact s.followPort_portsBeside h ..
        · rfl

theorem State.reselect_rd (s : State) (forgotten : Bool) : (s.reselect forgotten).rd k = s.rd k :=
  congrArg (fun v => v.2.2) (s.reselect_portsBeside h forgotten)

end

theorem State.reselect_mgmt (s : State) (forgotten : Bool) : (s.reselect forgotten).mgmt = s.mgmt :=
  congrArg (fun v => v.2.1) (s.reselect_portsBeside (k := 0) (by decide) forgotten)

theorem State.leaveAll_mgmt (s : State) (qs : List OutPkt) : (s.leaveAll qs).mgmt = s.mgmt :=
  List.foldlRecOn (motive := fun t : State => t.mgmt = s.mgmt) qs _ rfl fun t ht q _ => by
    rw [← ht]
    unfold State.leaveInput
    split <;> rfl

theorem State.reselect_port (s : State) (forgotten : Bool) (m : Nat) : (s.reselect forgotten).port m = s.port m := by
  have ports : (s.reselect forgotten).fab.ports = s.fab.ports :=
    congrArg Prod.fst (s.reselect_portsBeside (k := 0) (by decide) forgotten)
  rw [State.port, ports]
  rfl

theorem State.count32Sat_port (s : State) (k n m : Nat) : (s.count32Sat k n).port m = s.port m := by
  unfold State.count32Sat State.countSat State.shadowOf
  split <;> rfl

/-- The state that a port takes, and what the others keep. -/
theorem State.toPState_line (s : State) (n : Nat) (st : PState) :
    ((s.toPState n st).port n).st = st ∧ (∀ m, m ≠ n → ((s.toPState n st).port m).line = (s.port m).line) ∧
    ((s.port n).outQ = [] → ∀ m, m ≠ n → (s.toPState n st).port m = s.port m) := by
  obtain ⟨u, hu⟩ : ∃ u, u = if st = .active ∨ st = .draining then s else s.leaveAll (s.port n).outQ := ⟨_, rfl⟩
  have line (m : Nat) : (u.port m).line = (s.port m).line := by
    rw [hu]
    split
    · rfl
    · exact s.leaveAll_line _ m
  have empty (none : (s.port n).outQ = []) : u = s := by
    rw [hu, none]
    split <;> rfl
  have done (t : State) (x : PortSt) (hx : x.st = st) (ports : ∀ m, t.port m = (u.setPort n x).port m) : (t.port n).st = st ∧
      (∀ m, m ≠ n → (t.port m).line = (s.port m).line) ∧ ((s.port n).outQ = [] → ∀ m, m ≠ n → t.port m = s.port m) := by
    refine ⟨?_, fun m other => ?_, fun none m other => ?_⟩
    · rw [ports, State.port_setPort, if_pos rfl, hx]
    · rw [ports, State.port_setPort, if_neg other, line]
    · rw [ports, State.port_setPort, if_neg other, empty none]
  unfold State.toPState
  dsimp only
  rw [← hu]
  cases st with
  | active => exact done _ _ rfl fun m => rfl
  | draining => exact done _ _ rfl fun m => State.reselect_port ..
  | check => exact done _ _ rfl fun m => rfl
  | detect => exact done _ _ rfl fun m => rfl
  | train | recal =>
    dsimp only
    split
    · refine done _ _ ?_ fun m => State.count32Sat_port ..
      rfl
    · exact done _ _ rfl fun m => rfl
  | disabled | failed => exact done _ _ rfl fun m => State.reselect_port ..

end Sys2Proof.Machine

end

section
/-! PROOFS. Trips, input faults and references (R421, R454 to R457), obligation O55. -/

namespace Sys2Proof.Machine

variable {s : State}

/-! ## CLUSTER_CLOCK_CHANGE (R410) -/

theorem exec_clusterClockChange_spec {p : Part} (on : s.pow.mode = .on) (awake : s.pN p 1 ≠ 2) :
    ∃ t, exec (.clusterClockChange p) s = .next t ∧ sameWork s t ∧
      t.rdN (ckKey (0x10 + p.val)) = (if s.rdN (ckKey (0x10 + p.val)) < s.clockTarget p
        then min (s.clockTarget p) (s.rdN (ckKey (0x10 + p.val)) + 25)
        else if s.clockTarget p < s.rdN (ckKey (0x10 + p.val)) then max (s.clockTarget p) (s.rdN (ckKey (0x10 + p.val)) - 25)
        else s.rdN (ckKey (0x10 + p.val))) := by
  have goal : s.clockTarget p < 4096 := by
    have := s.capMhz_lt
    unfold State.clockTarget
    dsimp only
    omega
  have now := s.rdN_lt (ckKey (0x10 + p.val))
  have eff : clusterClockChangeEff p s = if s.rdN (ckKey (0x10 + p.val)) < s.clockTarget p
      then s.wrN (ckKey (0x10 + p.val)) (min (s.clockTarget p) (s.rdN (ckKey (0x10 + p.val)) + 25))
      else if s.clockTarget p < s.rdN (ckKey (0x10 + p.val))
        then s.wrN (ckKey (0x10 + p.val)) (max (s.clockTarget p) (s.rdN (ckKey (0x10 + p.val)) - 25)) else s := by
    unfold clusterClockChangeEff
    exact if_neg (not_or.2 ⟨not_not.2 on, awake⟩)
  have wrote (v : Nat) := State.wrN_unreported s (ckKey (0x10 + p.val)) v
  generalize s.clockTarget p = g at *
  split at eff
  next up =>
    rw [if_pos up]
    exact ⟨_, congrArg s.outcome eff, (sameWork_of_unreported_eq (wrote _) :), s.rdN_wrN (by omega)⟩
  next level =>
    rw [if_neg level]
    split at eff
    next down =>
      rw [if_pos down]
      exact ⟨_, congrArg s.outcome eff, (sameWork_of_unreported_eq (wrote _) :), s.rdN_wrN (by omega)⟩
    next same =>
      rw [if_neg same]
      exact ⟨_, congrArg s.outcome eff, sameWork_refl s, rfl⟩

theorem thermalThrottle_clauses (p : Part) (milliC : Int) (s : State) :
     (let limit := s.tempLimit (s.rdN (thKey 2))
      let c := s.cluster p
      (limit ≤ milliC → 800 < c.thMhz → ∃ t, exec (.thermalThrottleTick (.cluster p milliC)) s = .next t ∧
        t.cluster p = { c with thMhz := max 800 (c.thMhz - 25), coolTicks := 0 } ∧ (∀ q, q ≠ p.val → t.cluster q = s.cluster q) ∧ sameWork s t) ∧
      (limit ≤ milliC → c.thMhz ≤ 800 → ∃ t, exec (.thermalThrottleTick (.cluster p milliC)) s = .next t ∧
        t.cluster p = { c with thAllowed := max 4 (c.thAllowed - 1), coolTicks := 0 } ∧ sameWork s t) ∧
      (milliC < limit - 3000 → c.thMhz < 1350 ∨ c.thAllowed < 16 → ∃ t, exec (.thermalThrottleTick (.cluster p milliC)) s = .next t ∧
        sameWork s t ∧ t.cluster p = (if c.coolTicks < 99 then { c with coolTicks := c.coolTicks + 1 }
          else if c.thAllowed < 16 then { c with thAllowed := c.thAllowed + 1, coolTicks := 0 }
          else { c with thMhz := min 1350 (c.thMhz + 25), coolTicks := 0 })) ∧
      (milliC < limit - 3000 → 1350 ≤ c.thMhz → 16 ≤ c.thAllowed → ∃ t, exec (.thermalThrottleTick (.cluster p milliC)) s = .next t ∧
        t.cluster p = c ∧ sameWork s t) ∧
      (limit - 3000 ≤ milliC → milliC < limit → ∃ t, exec (.thermalThrottleTick (.cluster p milliC)) s = .next t ∧ t.cluster p = c ∧ sameWork s t)) := by
  obtain ⟨t, ran, cluster, others, work⟩ := exec_thermalThrottleTick_spec p milliC s
  dsimp only
  generalize s.tempLimit (s.rdN (thKey 2)) = limit at *
  unfold ticked at cluster
  refine ⟨fun hot fast => ⟨t, ran, ?_, others, work⟩, fun hot slow => ⟨t, ran, ?_, work⟩, fun cool held => ⟨t, ran, work, ?_⟩,
    fun cool free all => ⟨t, ran, ?_, work⟩, fun near below => ⟨t, ran, ?_, work⟩⟩
  · rw [cluster, if_pos hot, ClusterClk.cooled, if_pos fast]
  · rw [cluster, if_pos hot, ClusterClk.cooled, if_neg (by omega)]
  · have was : (decide ((s.cluster p).thMhz < 1350) || decide ((s.cluster p).thAllowed < 16)) = true := by
      simpa only [Bool.or_eq_true, decide_eq_true_eq] using held
    rw [cluster, if_neg (by omega), if_pos ⟨cool, was⟩]
    rfl
  · have was : ¬(decide ((s.cluster p).thMhz < 1350) || decide ((s.cluster p).thAllowed < 16)) = true := by
      simp only [Bool.or_eq_true, decide_eq_true_eq]
      omega
    rw [cluster, if_neg (by omega), if_neg (fun both => was both.2)]
  · rw [cluster, if_neg (by omega), if_neg (fun both => absurd both.1 (by omega))]

/-! ## Resets of the device -/

theorem State.mgmtEvent_pow (s : State) (code : Nat) : (s.mgmtEvent code).pow = s.pow := by
  obtain ⟨h, o, eq⟩ := s.mgmtEvent_frame code
  rw [eq]
  rfl

theorem State.setReadiness_rd (s : State) {r k : Nat} (other : k ≠ objKey 0x1000 0x30) : (s.setReadiness r).rd k = s.rd k := by
  unfold State.setReadiness
  split
  · rfl
  · exact (State.mgmtEvent_rd ..).trans (State.rd_wrN_ne s r other)

theorem State.setReadiness_readiness (s : State) {r : Nat} (small : r < 2 ^ 64) : (s.setReadiness r).readiness = r := by
  unfold State.setReadiness
  split
  next here => exact here
  next => exact (congrArg BitVec.toNat (State.mgmtEvent_rd ..)).trans (s.rdN_wrN small)

/-- The values of a reset go to objects and to the inputs of the health score. -/
theorem loadSaved_frame (l : List (Nat × Word)) (t : State) : ∃ o h, loadSaved l t = { t with obj := o, health := h } := by
  induction l generalizing t with
  | nil => exact ⟨t.obj, t.health, rfl⟩
  | cons kv l ih =>
    obtain ⟨k, v⟩ := kv
    unfold loadSaved
    split
    · obtain ⟨o, h, eq⟩ := ih (t.modHealth fun h => { h with inputs := mset none h.inputs (k % 256) (some v) })
      exact ⟨o, h, eq⟩
    · obtain ⟨o, h, eq⟩ := ih (t.wr k v)
      exact ⟨o, h, eq⟩

/-- A reset of the device loads the saved values into a device at its reset values. -/
theorem State.deviceReset_loadSaved (s : State) : ∃ l m obj hang sec pow, s.deviceReset = loadSaved l { State.reset with
    pending := s.pending, freeCtr := s.freeCtr, out := s.out, beat := s.beat, mgmt := m, obj := obj, hang := hang, sec := sec, pow := pow } :=
  ⟨_, _, _, _, _, _, rfl⟩

/-- What a reset of the device leaves beside objects, management and power. -/
theorem State.deviceReset_frame (s : State) : ∃ m obj h hang sec pow, s.deviceReset = { State.reset with
    pending := s.pending, freeCtr := s.freeCtr, out := s.out, beat := s.beat, mgmt := m, obj := obj, health := h, hang := hang, sec := sec,
    pow := pow } := by
  obtain ⟨l, m, obj, hang, sec, pow, eq⟩ := s.deviceReset_loadSaved
  obtain ⟨o, h, loaded⟩ := loadSaved_frame l { State.reset with
    pending := s.pending, freeCtr := s.freeCtr, out := s.out, beat := s.beat, mgmt := m, obj := obj, hang := hang, sec := sec, pow := pow }
  exact ⟨m, o, h, hang, sec, pow, eq.trans loaded⟩

theorem exec_thermalTrip_spec (on : s.pow.mode = .on) : ∃ t, exec .thermalTrip s = .next t ∧ t.pow.mode = .tripped ∧ t.readiness = 8 ∧
    t.mem = State.reset.mem ∧ t.cores = [] ∧ t.ctxs = [] ∧ t.launches = [] ∧ t.versions = [] ∧ bit (t.rd (thKey 5)) 2 = true := by
  obtain ⟨m, obj, h, hang, sec, pow, reset⟩ := s.deviceReset_frame
  obtain ⟨u, hu⟩ : ∃ u, u = s.deviceReset.modPow fun w => { w with mode := .tripped } := ⟨_, rfl⟩
  obtain ⟨w, hw⟩ : ∃ w, w = u.wrN (objKey 0x1000 0x31) 0 := ⟨_, rfl⟩
  have eff : thermalTripEff s = ((w.wrN (thKey 5) (setField (w.rdN (thKey 5)) 2 2 1)).count32Sat (thKey 7) 1).healthEvent.setReadiness 8 := by
    rw [hw, hu]
    exact if_neg (not_not.2 on)
  have view : (thermalTripEff s).unreported = u.unreported := by simp [eff, hw]
  have flag : bit ((thermalTripEff s).rd (thKey 5)) 2 = true := by
    rw [eff, State.setReadiness_rd _ (by decide), State.healthEvent_rd, State.rd_count32Sat_ne _ _ (by decide), State.wrN_eq, State.rd_wr,
      if_pos rfl, bit_ofNat _ (by decide), setField, nfield]
    simp only [decide_eq_true_eq]
    omega
  have ready : (thermalTripEff s).readiness = 8 := by
    rw [eff]
    exact State.setReadiness_readiness _ (by decide)
  rw [hu, reset] at view
  exact ⟨_, rfl, (congrArg PowSt.mode (State.pow_of_unreported view) :), ready, (State.mem_of_unreported view :), State.cores_of_unreported view,
    (State.ctxs_of_unreported view :), (State.launches_of_unreported view :), (State.versions_of_unreported view :), flag⟩

theorem exec_thermalHoldExit_spec (tripped : s.pow.mode = .tripped) : ∃ t, exec .thermalHoldExit s = .next t ∧ t.pow.mode = .on ∧
    t.readiness = 0 ∧ t.rdN (rKey 3) = min (s.rdN (rKey 3) + 1) (2 ^ 32 - 1) ∧ sameWork s t := by
  obtain ⟨u, hu⟩ : ∃ u, u = s.modPow fun w => { w with mode := .on } := ⟨_, rfl⟩
  have eff : thermalHoldExitEff s = (u.count32Sat (rKey 3) 1).setReadiness 0 := by
    rw [hu]
    exact if_pos tripped
  have view : (thermalHoldExitEff s).unreported = u.unreported := by simp [eff]
  have counted : (thermalHoldExitEff s).rdN (rKey 3) = min (u.rdN (rKey 3) + 1) (2 ^ 32 - 1) := by
    rw [eff]
    exact (congrArg BitVec.toNat (State.setReadiness_rd _ (by decide))).trans (State.rdN_count32Sat ..)
  have ready : (thermalHoldExitEff s).readiness = 0 := by
    rw [eff]
    exact State.setReadiness_readiness _ (by decide)
  have mode : (thermalHoldExitEff s).pow.mode = .on := by
    rw [State.pow_of_unreported view, hu]
    rfl
  have work : sameWork s u := by rw [hu]; exact sameWork_refl s
  rw [hu] at counted
  exact ⟨_, rfl, mode, ready, counted, sameWork_trans work (sameWork_of_unreported_eq view :)⟩

/-! ## The input (R454, R455) -/

theorem State.inputFault_rd (s : State) (b : Nat) {k : Nat} (other : k ≠ pwKey 0x0D) : (s.inputFault b).rd k = s.rd k :=
  State.rd_wrN_ne _ _ other

theorem inputUndervoltageEff_dip {mv : Nat} (us : Nat) (on : s.pow.mode ≠ .off) (lo : 36000 ≤ mv) (hi : mv < 40000) :
    inputUndervoltageEff mv us s = if mv < 38000 then ((s.cycleRequest false).inputFault 0).modPow fun w => { w with uvGate := true }
      else (s.cycleRequest false).inputFault 0 := by
  unfold inputUndervoltageEff
  rw [if_neg (not_or.2 ⟨on, by omega⟩)]
  exact if_pos lo

theorem inputUndervoltageEff_cut {mv us : Nat} (on : s.pow.mode ≠ .off) (low : mv < 36000) (short : us < 100) :
    inputUndervoltageEff mv us s = ((s.cycleRequest false).inputFault 0).applyCut := by
  unfold inputUndervoltageEff
  rw [if_neg (not_or.2 ⟨on, by omega⟩)]
  exact (if_neg (by omega)).trans (if_pos short)

theorem inputUndervoltageEff_off {mv us : Nat} (on : s.pow.mode ≠ .off) (low : mv < 36000) (long : 100 ≤ us) :
    inputUndervoltageEff mv us s = (s.cycleRequest false).powerOff := by
  unfold inputUndervoltageEff
  rw [if_neg (not_or.2 ⟨on, by omega⟩)]
  exact (if_neg (by omega)).trans (if_neg (by omega))

theorem exec_inputUndervoltage_dip {mv : Nat} (us : Nat) (on : s.pow.mode ≠ .off) (lo : 36000 ≤ mv) (hi : mv < 40000) :
    ∃ t, exec (.inputUndervoltage mv us) s = .next t ∧ (mv < 38000 → t.pow.uvGate = true) ∧
       t.pow.mode = s.pow.mode ∧ t.pow.cycleReq = false ∧ sameWork s t := by
  have eff := inputUndervoltageEff_dip us on lo hi
  obtain ⟨u, hu⟩ : ∃ u, u = (s.cycleRequest false).inputFault 0 := ⟨_, rfl⟩
  have pow : u.pow = { s.pow with cycleReq := false } := by rw [hu]; exact State.wr_pow ..
  have work : sameWork s u := by
    rw [hu]
    have base : sameWork s (s.cycleRequest false) := sameWork_refl s
    exact sameWork_trans base (sameWork_of_unreported_eq (State.inputFault_unreported ..))
  rw [← hu] at eff
  split at eff
  next gated =>
    exact ⟨_, congrArg s.outcome eff, fun _ => rfl, (congrArg PowSt.mode pow :), (congrArg PowSt.cycleReq pow :), work⟩
  next above =>
    exact ⟨_, congrArg s.outcome eff, fun h => absurd h above, (congrArg PowSt.mode pow :), (congrArg PowSt.cycleReq pow :), work⟩

theorem exec_inputUndervoltage_cut {mv us : Nat} (on : s.pow.mode ≠ .off) (low : mv < 36000) (short : us < 100) (mhz : s.capMhz ≤ 1350)
    (few : s.capAllowed ≤ 16) : ∃ t, exec (.inputUndervoltage mv us) s = .next t ∧
       t.capAllowed = min 8 s.capAllowed ∧ bit (t.rd (pwKey 8)) 3 = true ∧ sameWork s t := by
  have eff := inputUndervoltageEff_cut on low short
  have cap : ((s.cycleRequest false).inputFault 0).rd (pwKey 8) = s.rd (pwKey 8) :=
    State.inputFault_rd (s.cycleRequest false) 0 (by decide)
  have mhz' : ((s.cycleRequest false).inputFault 0).capMhz = s.capMhz := congrArg (field · 15 4) cap
  have few' : ((s.cycleRequest false).inputFault 0).capAllowed = s.capAllowed := congrArg (field · 20 16) cap
  obtain ⟨allowed, -, flag, -, work⟩ := ((s.cycleRequest false).inputFault 0).applyCut_spec (by omega) (by omega)
  rw [few'] at allowed
  have faulted := sameWork_of_unreported_eq ((s.cycleRequest false).inputFault_unreported 0)
  have base : sameWork s (s.cycleRequest false) := sameWork_refl s
  exact ⟨_, congrArg s.outcome eff, allowed, flag, sameWork_trans (sameWork_trans base faulted) work⟩

theorem exec_inputUndervoltage_off {mv us : Nat} (on : s.pow.mode ≠ .off) (low : mv < 36000) (long : 100 ≤ us) :
    ∃ t, exec (.inputUndervoltage mv us) s = .next t ∧ t.pow.mode = .off ∧ t.mem = State.reset.mem ∧ t.cores = [] ∧
       t.ctxs = [] ∧ t.mgmt.flash = s.mgmt.flash ∧ t.mgmt.cal = s.mgmt.cal :=
  ⟨_, congrArg s.outcome (inputUndervoltageEff_off on low long), rfl, rfl, rfl, rfl, rfl, rfl⟩

theorem exec_inputOvervoltage_spec {mv us : Nat} (on : s.pow.mode ≠ .off) :
    (mv ≤ 60000 → exec (.inputOvervoltage mv us) s = .next s) ∧
    (60000 < mv → mv ≤ 64000 ∨ us < 10 → ∃ t, exec (.inputOvervoltage mv us) s = .next t ∧ t.pow.mode = s.pow.mode ∧ sameWork s t) ∧
    (64000 < mv → 10 ≤ us → ∃ t, exec (.inputOvervoltage mv us) s = .next t ∧ t.pow.mode = .off ∧ t.mem = State.reset.mem ∧ t.cores = []) := by
  refine ⟨fun low => ?_, fun high brief => ?_, fun high long => ?_⟩
  · exact congrArg s.outcome (if_pos (.inr low) : inputOvervoltageEff mv us s = s)
  · have eff : inputOvervoltageEff mv us s = s.inputFault 1 := (if_neg (not_or.2 ⟨on, by omega⟩)).trans (if_pos brief)
    have work := s.inputFault_unreported 1
    generalize s.inputFault 1 = t at eff work
    exact ⟨_, congrArg s.outcome eff, (congrArg PowSt.mode (State.pow_of_unreported work) :), (sameWork_of_unreported_eq work :)⟩
  · have eff : inputOvervoltageEff mv us s = s.powerOff := (if_neg (not_or.2 ⟨on, by omega⟩)).trans (if_neg (by omega))
    exact ⟨_, congrArg s.outcome eff, rfl, rfl, rfl⟩

/-! ## The references (R456, R457) -/

theorem State.fabricEvent_frame (s : State) : ∃ h m o, s.fabricEvent = { s with host := h, mgmt := m, out := o } := by
  obtain ⟨h, o, eq⟩ := (s.logEvent 2 0xFF 0).signalPf_frame 1
  exact ⟨h, _, o, eq⟩

theorem State.fabricEvent_port (s : State) (m : Nat) : s.fabricEvent.port m = s.port m := by
  obtain ⟨h, e, o, eq⟩ := s.fabricEvent_frame
  rw [eq]
  rfl

theorem State.fabricEvent_rd (s : State) (k : Nat) : s.fabricEvent.rd k = s.rd k := by
  obtain ⟨h, e, o, eq⟩ := s.fabricEvent_frame
  rw [eq]
  rfl

theorem State.toPState_failed_rd (s : State) (n : Nat) {k : Nat} (h : k / 256 ≠ 0x2500) : (s.toPState n .failed).rd k = s.rd k :=
  (State.reselect_rd h _ false).trans (s.leaveAll_rd _ k)

theorem State.fatalPort_states (s : State) (n cause m : Nat) :
    ((s.fatalPort n cause).port m).st = if m = n then .failed else (s.port m).st := by
  have ports : (s.fatalPort n cause).port m = (s.failPort n cause).port m := by
    rw [State.fatalPort, State.fabricEvent_port, State.count32Sat_port]
  obtain ⟨own, others, -⟩ := (s.setPort n { s.port n with cause := cause }).toPState_line n .failed
  rw [ports]
  split
  next here => rw [here]; exact own
  next other =>
    refine (congrArg Prod.fst (others m other)).trans ?_
    rw [State.port_setPort, if_neg other]
    rfl

theorem State.fatalPort_rd (s : State) (n cause : Nat) {k : Nat} (h : k / 256 ≠ 0x2500) (h' : k ≠ portKey n 9) :
    (s.fatalPort n cause).rd k = s.rd k := by
  rw [State.fatalPort, State.fabricEvent_rd, State.rd_count32Sat_ne _ _ h']
  exact (State.toPState_failed_rd _ n h).trans rfl

/-- What the loss of the SerDes reference does at one port. -/
def State.unlocked (s : State) (n : Nat) : State :=
  match (s.port n).st with
  | .disabled | .detect | .failed => s
  | _ => s.fatalPort n 3

/-- The state of a port without a reference. -/
def PState.unlocked : PState → PState
  | .disabled => .disabled
  | .detect => .detect
  | _ => .failed

theorem State.unlocked_states (s : State) (n m : Nat) :
    ((s.unlocked n).port m).st = if m = n then (s.port n).st.unlocked else (s.port m).st := by
  have fatal := s.fatalPort_states n 3 m
  have same : (s.port m).st = if m = n then (s.port n).st else (s.port m).st := by
    split
    next here => rw [here]
    next => rfl
  unfold State.unlocked
  cases st : (s.port n).st with
  | disabled | detect | failed =>
    rw [st] at same
    exact same
  | train | check | active | draining | recal => exact fatal

theorem State.unlocked_rd (s : State) (n : Nat) {k : Nat} (h : k / 256 ≠ 0x2500) (h' : k ≠ portKey n 9) : (s.unlocked n).rd k = s.rd k := by
  unfold State.unlocked
  split
  · rfl
  · rfl
  · rfl
  · exact s.fatalPort_rd n 3 h h'

theorem PState.unlocked_idem (x : PState) : PState.unlocked (PState.unlocked x) = PState.unlocked x := by
  cases x <;> rfl

theorem foldl_unlocked_states : ∀ (l : List Nat) (s : State) (m : Nat),
    ((l.foldl State.unlocked s).port m).st = if m ∈ l then PState.unlocked (s.port m).st else (s.port m).st
  | [], _, _ => rfl
  | n :: l, s, m => by
    rw [List.foldl_cons, foldl_unlocked_states l, State.unlocked_states]
    by_cases here : m = n
    · subst here
      rw [if_pos rfl, if_pos (List.mem_cons_self ..), PState.unlocked_idem, ite_self]
    · simp [here]

theorem foldl_unlocked_rd (l : List Nat) (s : State) {k : Nat} (h : k / 256 = 0x2200) : (l.foldl State.unlocked s).rd k = s.rd k := by
  refine List.foldlRecOn (motive := fun t : State => t.rd k = s.rd k) l _ rfl fun t ht n _ => (t.unlocked_rd n (by omega) ?_).trans ht
  rintro rfl
  rw [portKey, objKey_div _ (by decide)] at h
  omega

theorem setField_low (v : Nat) (x : Nat) : setField v 0 0 x = v - v % 2 + x % 2 := by
  simp only [setField, nfield]
  omega

theorem exec_serdesReferenceLoss_spec {us : Nat} (on : s.pow.mode = .on) (locked : bit (s.rd (ckKey 3)) 0 = true) (long : 10 < us) :
    ∃ t, exec (.serdesReferenceLoss us) s = .next t ∧ bit (t.rd (ckKey 3)) 0 = false ∧
       (∀ n < 32, (s.port n).st ≠ .disabled → (s.port n).st ≠ .detect → (t.port n).st = .failed) ∧
       (∀ n < 32, (s.port n).st = .disabled ∨ (s.port n).st = .detect → (t.port n).st = (s.port n).st) := by
  obtain ⟨u, hu⟩ : ∃ u, u = s.rebase.wrN (ckKey 3) (setField (s.rebase.rdN (ckKey 3)) 0 0 0) := ⟨_, rfl⟩
  have eff : serdesReferenceLossEff us s = (List.range 32).foldl State.unlocked u := by
    unfold serdesReferenceLossEff
    rw [if_neg (not_or.2 ⟨by omega, not_or.2 ⟨by simp [locked], not_not.2 on⟩⟩), hu]
    rfl
  have flag : bit (u.rd (ckKey 3)) 0 = false := by
    rw [hu, State.wrN_eq, State.rd_wr, if_pos rfl, bit_ofNat _ (by decide), setField_low]
    simp only [decide_eq_false_iff_not]
    omega
  have port (n : Nat) : u.port n = s.port n := by rw [hu]; rfl
  have states (n : Nat) (hn : n < 32) : (((List.range 32).foldl State.unlocked u).port n).st = PState.unlocked (s.port n).st := by
    rw [foldl_unlocked_states, if_pos (List.mem_range.2 hn), port]
  have kept := foldl_unlocked_rd (List.range 32) u (k := ckKey 3) (by decide)
  rw [← eff] at states kept
  refine ⟨_, rfl, (congrArg (bit · 0) kept).trans flag, fun n hn h1 h2 => (states n hn).trans ?_, fun n hn h => (states n hn).trans ?_⟩
  · cases st : (s.port n).st with
    | disabled => exact absurd st h1
    | detect => exact absurd st h2
    | train | check | active | draining | recal | failed => rfl
  · obtain st | st := h <;> rw [st] <;> rfl

theorem exec_serdesReferenceReturn_spec (s : State) : ∃ t, exec .serdesReferenceReturn s = .next t ∧ bit (t.rd (ckKey 3)) 0 = true ∧
    sameWork s t := by
  have flag : bit ((serdesReferenceReturnEff s).rd (ckKey 3)) 0 = true := by
    have small := (s.rebase.rd (ckKey 3)).isLt
    rw [serdesReferenceReturnEff, State.wrN_eq, State.rd_wr, if_pos rfl, bit_ofNat _ (by decide), setField_low]
    simp only [decide_eq_true_eq]
    omega
  have work : sameWork s.rebase (serdesReferenceReturnEff s) := sameWork_of_unreported_eq (State.wrN_unreported ..)
  have base : sameWork s s.rebase := sameWork_refl s
  exact ⟨_, rfl, flag, sameWork_trans base work⟩

theorem exec_pcieReferenceChange_spec (b : Bool) (l : PcieLink) (s : State) :
    ∃ t, exec (.pcieReferenceChange b l) s = .next t ∧ (t.pcieUp = false → t.linkStatus = 0) ∧
       (t.pcieUp = true → t.linkStatus % 16 = speedCode l.speed) ∧ bit (t.rd (ckKey 3)) 1 = b ∧ bit (t.rd (ckKey 3)) 0 = bit (s.rd (ckKey 3)) 0 ∧
       (∀ k, k ≠ ckKey 3 → t.rd k = s.rd k) ∧ sameWork s t := by
  obtain ⟨u, hu⟩ : ∃ u, u = s.wrN (ckKey 3) (setField (s.rdN (ckKey 3)) 1 1 (b2n b)) := ⟨_, rfl⟩
  obtain ⟨l', speed, eff⟩ : ∃ l', l'.speed = l.speed ∧
      pcieReferenceChangeEff b l s = { u with host := { u.host with link := if u.pcieUp then some l' else none } } := by
    rw [hu]
    refine ⟨_, ?_, rfl⟩
    split <;> rfl
  have work : sameWork s u := by rw [hu]; exact sameWork_of_unreported_eq (State.wrN_unreported ..)
  have word : u.rd (ckKey 3) = BitVec.ofNat 64 (setField (s.rdN (ckKey 3)) 1 1 (b2n b)) := by
    rw [hu, State.wrN_eq, State.rd_wr, if_pos rfl]
  have others (k : Nat) (h : k ≠ ckKey 3) : u.rd k = s.rd k := by rw [hu]; exact State.rd_wrN_ne _ _ h
  have one := b2n_le b
  have bits : bit (u.rd (ckKey 3)) 1 = b ∧ bit (u.rd (ckKey 3)) 0 = bit (s.rd (ckKey 3)) 0 := by
    rw [word, bit_ofNat _ (by decide), bit_ofNat _ (by decide), bit_eq_decide, setField, nfield, State.rdN]
    refine ⟨?_, decide_eq_decide.2 (by omega)⟩
    cases b <;> simp only [b2n, decide_eq_true_eq, decide_eq_false_iff_not, if_true, Bool.false_eq_true, if_false] <;> omega
  refine ⟨_, congrArg s.outcome eff, fun down => ?_, fun live => ?_, bits.1, bits.2, others, work⟩
  · have link : u.pcieUp = false := down
    simp [State.linkStatus, State.withQueue, link]
  · have link : u.pcieUp = true := live
    have code : speedCode l.speed < 16 := by cases l.speed <;> decide
    simp only [State.linkStatus, State.withQueue, link, if_true, speed]
    omega

/-- Settles O55: the clock loops, the thermal trip, the input's bands and the references, each in turn. -/
theorem clocksAndSupply : Obligations.ClocksAndSupply := by
  refine ⟨⟨fun m s on uncut low few => powerCapSample_clauses m on uncut low few, fun s on low few => ?_,
      fun p mv mhz s on free => exec_avfsTrim_spec on free, thermalThrottle_clauses, fun p s on awake => exec_clusterClockChange_spec on awake⟩,
    fun s => ⟨exec_thermalTrip_spec, fun off => ?_, exec_thermalHoldExit_spec, fun other => ?_⟩,
    fun mv us s on => ⟨fun high => ?_, exec_inputUndervoltage_dip us on, exec_inputUndervoltage_cut on, exec_inputUndervoltage_off on,
      exec_inputOvervoltage_spec on⟩,
    fun us s on locked => ⟨exec_serdesReferenceLoss_spec on locked, fun short => ?_⟩,
    fun b l s => ⟨exec_serdesReferenceReturn_spec s, exec_pcieReferenceChange_spec b l s⟩⟩
  · obtain ⟨allowed, mhz, flag, count, work⟩ := s.applyCut_spec low few
    exact ⟨_, congrArg s.outcome (if_pos on : fastCutEff s = s.applyCut), allowed, mhz, flag, count, work⟩
  · exact congrArg s.outcome (if_pos off : thermalTripEff s = s)
  · exact congrArg s.outcome (if_neg other : thermalHoldExitEff s = s)
  · exact congrArg s.outcome (if_pos (.inr high) : inputUndervoltageEff mv us s = s)
  · exact congrArg s.outcome (if_pos (.inl short) : serdesReferenceLossEff us s = s)

end Sys2Proof.Machine

end

section
/-! PROOFS. Port states and roles (R204 to R210), obligation O28. -/

namespace Sys2Proof.Machine

variable {s : State}

/-! ## What one port's change leaves of the others -/

/-- A step that takes port `n` to a state, and leaves the states, the queues and, where it has nothing queued, the whole of the others. -/
def PortGoes (s : State) (n : Nat) (st : PState) (t : State) : Prop :=
  (t.port n).st = st ∧ (∀ m, m ≠ n → (t.port m).st = (s.port m).st ∧ (t.port m).outQ = (s.port m).outQ) ∧
    ((s.port n).outQ = [] → ∀ m, m ≠ n → t.port m = s.port m) ∧ sameWork s t

theorem PortGoes.toPState (s : State) (n : Nat) (st : PState) : PortGoes s n st (s.toPState n st) := by
  obtain ⟨own, others, still⟩ := s.toPState_line n st
  exact ⟨own, fun m h => ⟨congrArg Prod.fst (others m h), congrArg Prod.snd (others m h)⟩, still,
    sameWork_of_unreported_eq (State.toPState_unreported ..)⟩

/-- Steps that leave every port as it was may follow. -/
theorem PortGoes.keeps {n : Nat} {st : PState} {t u : State} (h : PortGoes s n st t) (ports : ∀ m, u.port m = t.port m)
    (work : sameWork t u) : PortGoes s n st u := by
  obtain ⟨own, others, still, worked⟩ := h
  exact ⟨by rw [ports]; exact own, fun m hm => by rw [ports]; exact others m hm, fun none m hm => (ports m).trans (still none m hm),
    sameWork_trans worked work⟩

/-- So may a change of the port itself that keeps its state. -/
theorem PortGoes.setPort {n : Nat} {st : PState} {t : State} (h : PortGoes s n st t) {x : PortSt} (same : x.st = st) :
    PortGoes s n st (t.setPort n x) := by
  obtain ⟨own, others, still, worked⟩ := h
  refine ⟨by rw [State.port_setPort, if_pos rfl]; exact same, fun m hm => ?_, fun none m hm => ?_, sameWork_trans worked (sameWork_refl t)⟩
  · rw [State.port_setPort, if_neg hm]
    exact others m hm
  · rw [State.port_setPort, if_neg hm]
    exact still none m hm

theorem PortGoes.exec {c : Instr} {n : Nat} {st : PState} {t : State} (ran : exec c s = .next (t.withQueue s)) (h : PortGoes s n st t) :
    ∃ t, exec c s = .next t ∧ (t.port n).st = st ∧
      (∀ m, m ≠ n → (t.port m).st = (s.port m).st ∧ (t.port m).outQ = (s.port m).outQ) ∧
      ((s.port n).outQ = [] → ∀ m, m ≠ n → t.port m = s.port m) ∧ sameWork s t := by
  obtain ⟨own, others, still, worked⟩ := h
  exact ⟨_, ran, own, others, still, worked⟩

theorem PortGoes.failPort (s : State) (n cause : Nat) : PortGoes s n .failed (s.failPort n cause) := by
  obtain ⟨own, others, still, worked⟩ := PortGoes.toPState (s.setPort n { s.port n with cause := cause }) n .failed
  have base : sameWork s (s.setPort n { s.port n with cause := cause }) := sameWork_refl s
  have same (m : Nat) (h : m ≠ n) : (s.setPort n { s.port n with cause := cause }).port m = s.port m := by
    rw [State.port_setPort, if_neg h]
  refine ⟨own, fun m hm => ?_, fun none m hm => (still ?_ m hm).trans (same m hm), sameWork_trans base worked⟩
  · rw [← same m hm]
    exact others m hm
  · rw [State.port_setPort, if_pos rfl]
    exact none

/-! ## Requests by the host (R204, R206) -/

section
variable {via : Via} {n : Port} (reached : s.reaches via (0x2510 + n) 3 = true)
include reached

theorem portRetrain_goes (role : s.role n ≠ 2) (down : (s.port n).st = .failed ∨ (s.port n).st = .disabled) :
    exec (.portRetrain via n) s = .next ((s.toPState n .detect).withQueue s) := by
  have act : retrainW s n = .ok (s.toPState n .detect) := by rw [retrainW, if_neg role, if_pos down]
  have eff : portRetrainEff via n s = s.toPState n .detect := by
    rw [portRetrainEff, act]
    exact State.objWrite_ok s reached _
  exact congrArg s.outcome eff

theorem portRetrain_stays (role : s.role n ≠ 2) (h1 : (s.port n).st ≠ .failed) (h2 : (s.port n).st ≠ .disabled) :
    exec (.portRetrain via n) s = .next s := by
  have act : retrainW s n = .ok s := by rw [retrainW, if_neg role, if_neg (not_or.2 ⟨h1, h2⟩)]
  have eff : portRetrainEff via n s = s := by
    rw [portRetrainEff, act]
    exact State.objWrite_ok s reached _
  exact congrArg s.outcome eff

theorem portDisable_goes : exec (.portDisable via n) s = .next ((s.toPState n .disabled).withQueue s) := by
  have eff : portDisableEff via n s = s.toPState n .disabled := by
    rw [portDisableEff, disableW]
    exact State.objWrite_ok s reached _
  exact congrArg s.outcome eff

end

theorem PortSt.sent_st (x : PortSt) (w : LinkWord) (body : List Byte) : (x.sent w body).st = x.st := rfl

/-- A recalibration that may start drains the port and asks its neighbour. -/
theorem recalW_goes {n : Nat} {force : Bool} (active : (s.port n).st = .active) (die : s.dieRecals n = false)
    (free : force = true ∨ s.soleCandidate n = false) : ∃ t, recalW s n force = .ok t ∧ PortGoes s n .draining t := by
  have allowed : ((!force && s.soleCandidate n) || s.dieRecals n) = false := by
    obtain h | h := free <;> simp [h, die]
  refine ⟨((s.toPState n .draining).sendOpaque n 5).emit (.askDrain n), ?_, ?_⟩
  · unfold recalW
    rw [if_neg (not_not.2 active), allowed]
    exact if_neg Bool.false_ne_true
  · obtain ⟨u, hu⟩ : ∃ u, u = (s.toPState n .draining).fresh.2 := ⟨_, rfl⟩
    have base : PortGoes s n .draining u := by
      rw [hu]
      exact (PortGoes.toPState s n .draining).keeps (fun m => rfl) (sameWork_refl _)
    have sent := base.setPort (x := (u.port n).sent ((u.port n).nextLink 5 0 0) (freeBody (s.toPState n .draining).fresh.1))
      ((PortSt.sent_st ..).trans base.1)
    rw [hu] at sent
    exact sent.keeps (fun m => rfl) (sameWork_refl _)

theorem portRecal_goes {via : Via} {n : Port} {force : Bool} (reached : s.reaches via (0x2510 + n) 3 = true)
    (active : (s.port n).st = .active) (die : s.dieRecals n = false) (free : force = true ∨ s.soleCandidate n = false) :
    ∃ t, exec (.portRecal via n force) s = .next (t.withQueue s) ∧ PortGoes s n .draining t := by
  obtain ⟨t, act, goes⟩ := recalW_goes active die free
  have eff : portRecalEff via n force s = t := by
    rw [portRecalEff, act]
    exact State.objWrite_ok s reached _
  exact ⟨t, congrArg s.outcome eff, goes⟩

/-- A reading of the bit error rate changes its object only. -/
theorem adaptationMonitorRequest_goes {n : Port} {ber : Word32} (active : (s.port n).st = .active) (die : s.dieRecals n = false)
    (free : s.soleCandidate n = false) :
    ∃ t, exec (.adaptationMonitorRequest n ber true) s = .next (t.withQueue s) ∧ PortGoes s n .draining t := by
  obtain ⟨u, hu⟩ : ∃ u, u = s.wrN (portKey n 0x0C) ber.toNat := ⟨_, rfl⟩
  have role (m : Nat) : u.role m = s.role m := by
    rw [hu]
    refine s.rdN_wrN_ne _ fun e => ?_
    simp only [portKey, objKey] at e
    omega
  have fab : u.fab = s.fab := by rw [hu]; exact State.wr_fab ..
  have port (m : Nat) : u.port m = s.port m := by rw [State.port, fab]; rfl
  have work : sameWork s u := by rw [hu]; exact sameWork_of_unreported_eq (State.wrN_unreported ..)
  have usable (e : Word) : u.usable e = s.usable e := by simp only [State.usable, State.fabricUp, role, port]
  have die' : u.dieRecals n = false := by
    rw [← die]
    simp only [State.dieRecals, port]
  have free' : u.soleCandidate n = false := by
    rw [← free]
    simp only [State.soleCandidate, usable, fab]
  obtain ⟨t, act, own, others, still, worked⟩ := recalW_goes (force := false) (by rw [port]; exact active) die' (.inr free')
  have eff : adaptationMonitorRequestEff n ber true s = t := by
    unfold adaptationMonitorRequestEff
    dsimp only
    rw [← hu, if_pos (.inl rfl), act]
  refine ⟨t, congrArg s.outcome eff, own, fun m hm => ?_, fun none m hm => (still ?_ m hm).trans (port m), sameWork_trans work worked⟩
  · rw [← port m]
    exact others m hm
  · rw [port]
    exact none

theorem adaptationMonitorRequest_reads {n : Port} {ber : Word32} (low : ber.toNat ≤ 0x3727C5AC) :
    ∃ t, exec (.adaptationMonitorRequest n ber false) s = .next t ∧ t.rdN (portKey n 0x0C) = ber.toNat ∧ t.fab = s.fab ∧ sameWork s t := by
  have eff : adaptationMonitorRequestEff n ber false s = s.wrN (portKey n 0x0C) ber.toNat := by
    unfold adaptationMonitorRequestEff
    exact if_neg (not_or.2 ⟨Bool.false_ne_true, fun both => absurd both.1 (by omega)⟩)
  have word : (s.wrN (portKey n 0x0C) ber.toNat).rdN (portKey n 0x0C) = ber.toNat := s.rdN_wrN (by have := ber.isLt; omega)
  have work := State.wrN_unreported s (portKey n 0x0C) ber.toNat
  have fab : (s.wrN (portKey n 0x0C) ber.toNat).fab = s.fab := State.wr_fab ..
  generalize s.wrN (portKey n 0x0C) ber.toNat = t at *
  exact ⟨_, congrArg s.outcome eff, word, fab, (sameWork_of_unreported_eq work :)⟩

/-! ## Training, recalibration and failure (R206, R210) -/

theorem attemptDone_goes (s : State) (n : Nat) :
    PortGoes s n .check (s.attemptDone n true) ∧
    ((s.port n).attempts < 2 → s.attemptDone n false = s.setPort n { s.port n with attempts := (s.port n).attempts + 1 }) ∧
    (2 ≤ (s.port n).attempts → s.attemptDone n false = s.failPort n 1) :=
  ⟨PortGoes.toPState s n .check, fun few => if_neg (by omega), fun many => if_pos (by omega)⟩

theorem setPort_goes {n : Nat} {x : PortSt} {st : PState} (h : x.st = st) : PortGoes s n st (s.setPort n x) := by
  refine ⟨by rw [State.port_setPort, if_pos rfl]; exact h, fun m hm => ?_, fun _ m hm => ?_, sameWork_refl s⟩
  · rw [State.port_setPort, if_neg hm]
    exact ⟨rfl, rfl⟩
  · rw [State.port_setPort, if_neg hm]

theorem fatalPort_goes (s : State) (n cause : Nat) : PortGoes s n .failed (s.fatalPort n cause) := by
  refine (PortGoes.failPort s n cause).keeps (fun m => ?_) ?_
  · rw [State.fatalPort, State.fabricEvent_port, State.count32Sat_port]
  · refine sameWork_of_unreported_eq ?_
    rw [State.fatalPort, State.fabricEvent_unreported, State.count32Sat_unreported]

theorem toPState_failed_cause (s : State) (n : Nat) : ((s.toPState n .failed).port n).cause = (s.port n).cause := by
  have port : (s.toPState n .failed).port n = { PortSt.reset with
      st := .failed, cause := (s.port n).cause, attempts := (s.port n).attempts, trained := (s.port n).trained } :=
    (State.reselect_port ..).trans (by rw [State.port_setPort, if_pos rfl])
  rw [port]

theorem fatalPort_cause (s : State) (n cause : Nat) : ((s.fatalPort n cause).port n).cause = cause := by
  rw [State.fatalPort, State.fabricEvent_port, State.count32Sat_port, State.failPort, toPState_failed_cause, State.port_setPort, if_pos rfl]

/-- The cause that a failure of the link leaves. -/
def LinkFailCause : LinkFail → Nat
  | .lockLoss => 3
  | .replay => 4
  | .errorRate => 5

theorem fatalLinkFailureEff_eq {n : Port} (cause : LinkFail) (h1 : (s.port n).st ≠ .disabled) (h2 : (s.port n).st ≠ .failed) :
    fatalLinkFailureEff n cause s = s.fatalPort n (LinkFailCause cause) := by
  unfold fatalLinkFailureEff
  dsimp only
  rw [if_neg (not_or.2 ⟨h1, h2⟩)]
  cases cause <;> rfl

/-! ## CHECK_EXCHANGE (R206) -/

theorem State.learnEpoch_port (s : State) (a : FabAddr) (e : Epoch) (m : Nat) : (s.learnEpoch a e).1.port m = s.port m := by
  have raised : (s.raiseEntry a e).1.port m = s.port m := by
    unfold State.raiseEntry
    split
    · split <;> rfl
    · split <;> rfl
  unfold State.learnEpoch
  dsimp only
  split
  · rw [State.supersede, State.fabricEvent_port]
    exact raised
  · exact raised

theorem State.learnEpoch_rd (s : State) (a : FabAddr) (e : Epoch) {k : Nat} (h : k / 256 ≠ 0x2500) : (s.learnEpoch a e).1.rd k = s.rd k := by
  have raised : (s.raiseEntry a e).1.rd k = s.rd k := by
    unfold State.raiseEntry
    split
    · split <;> rfl
    · split <;> rfl
  unfold State.learnEpoch
  dsimp only
  split
  · rw [State.supersede, State.fabricEvent_rd, State.rd_wrN_ne _ _ (ne_fabKey h (by decide))]
    exact raised
  · exact raised

theorem learnAll_port : ∀ (l : List (FabAddr × Epoch)) (s : State) (m : Nat), (learnAll l s).port m = s.port m
  | [], _, _ => rfl
  | (a, e) :: l, s, m => (learnAll_port l _ m).trans (s.learnEpoch_port a e m)

theorem learnAll_rd {k : Nat} (h : k / 256 ≠ 0x2500) : ∀ (l : List (FabAddr × Epoch)) (s : State), (learnAll l s).rd k = s.rd k
  | [], _ => rfl
  | (a, e) :: l, s => (learnAll_rd h l _).trans (s.learnEpoch_rd a e h)

theorem portKey_div (n : Port) {sub : Nat} (small : sub < 256) : portKey n sub / 256 ≠ 0x2500 := by
  rw [portKey, objKey_div _ small]
  omega

theorem portKey_ne (n : Nat) {a b : Nat} (h : a ≠ b) : portKey n a ≠ portKey n b := by
  simp only [portKey, objKey]
  omega

/-- The neighbour's address, port and delay as the exchange stores them. -/
def State.neighbour (s : State) (n : Port) (place delay : Nat) : State := (s.wrN (portKey n 4) place).wrN (portKey n 5) delay

/-- A neighbour's address and port as one value. -/
def CheckPlace (info : CheckInfo) : Nat := info.addr.toNat + info.port.val * 2 ^ 24

theorem State.neighbour_spec (s : State) (n : Port) (place delay : Nat) :
    (∀ m, (s.neighbour n place delay).port m = s.port m) ∧ sameWork s (s.neighbour n place delay) ∧
    (s.neighbour n place delay).role n = s.role n ∧
    (s.neighbour n place delay).rd (portKey n 4) = BitVec.ofNat 64 place ∧
    (s.neighbour n place delay).rd (portKey n 5) = BitVec.ofNat 64 delay := by
  have port (t : State) (k v m : Nat) : (t.wrN k v).port m = t.port m := rfl
  unfold State.neighbour
  refine ⟨fun m => by rw [port, port], sameWork_of_unreported_eq (by simp), ?_, ?_, ?_⟩
  · exact (State.rdN_wrN_ne _ _ (portKey_ne _ (by decide))).trans (State.rdN_wrN_ne _ _ (portKey_ne _ (by decide)))
  · rw [State.rd_wrN_ne _ _ (portKey_ne _ (by decide)), State.wrN_eq, State.rd_wr, if_pos rfl]
  · rw [State.wrN_eq, State.rd_wr, if_pos rfl]

theorem checkExchangeEff_mismatch {n : Port} {info : CheckInfo} (check : (s.port n).st = .check) (other : s.role n ≠ info.role.val) :
    checkExchangeEff n info s = (s.neighbour n (CheckPlace info) info.delayNs).failPort n 2 := by
  obtain ⟨-, -, role, -⟩ := s.neighbour_spec n (CheckPlace info) info.delayNs
  unfold checkExchangeEff
  rw [if_neg (not_not.2 check)]
  exact if_pos (by rw [← role] at other; exact other)

theorem PortGoes.active_beside (s : State) (n : Nat) (o : List Out) : PortGoes s n .active (({ s with out := o } : State).toPState n .active) :=
  PortGoes.toPState { s with out := o } n .active

theorem checkExchangeEff_match {n : Port} {info : CheckInfo} (check : (s.port n).st = .check) (same : s.role n = info.role.val) :
    ∃ u : State, checkExchangeEff n info s = (learnAll info.epochs (u.toPState n .active)).reselect false ∧
      (∀ k, u.rd k = (s.neighbour n (CheckPlace info) info.delayNs).rd k) ∧
      PortGoes (s.neighbour n (CheckPlace info) info.delayNs) n .active (u.toPState n .active) := by
  obtain ⟨-, -, role, -⟩ := s.neighbour_spec n (CheckPlace info) info.delayNs
  unfold checkExchangeEff
  rw [if_neg (not_not.2 check)]
  obtain ⟨u, hu⟩ : ∃ u, u = s.neighbour n (CheckPlace info) info.delayNs := ⟨_, rfl⟩
  have told (f : State → Nat × Option Epoch → State) (quiet : ∀ t kv, ∃ o, f t kv = { t with out := o }) (l : SMap (Option Epoch)) :
      ∃ o, l.foldl f u = { u with out := o } :=
    List.foldlRecOn (motive := fun t : State => ∃ o, t = { u with out := o }) l _ ⟨u.out, rfl⟩ fun t ht kv _ => by
      obtain ⟨o, rfl⟩ := ht
      obtain ⟨o', next⟩ := quiet { u with out := o } kv
      exact ⟨o', next⟩
  obtain ⟨o, eq⟩ := told (fun s kv => match kv.2 with
      | some e => s.emit (.announce n (BitVec.ofNat 24 kv.1) e 0 s.ownAddr s.ownEpoch)
      | none => s) (fun t kv => by
        split
        · exact ⟨_, rfl⟩
        · exact ⟨t.out, rfl⟩) u.fab.epochs
  refine ⟨{ u with out := o }, ?_, fun k => ?_, ?_⟩
  · rw [← eq, hu]
    exact if_neg (by rw [← role] at same; exact not_not.2 same)
  · rw [← hu]
    rfl
  · rw [← hu]
    exact PortGoes.active_beside u n o

theorem State.toPState_active_rd (s : State) (n k : Nat) : (s.toPState n .active).rd k = s.rd k := rfl

theorem State.failPort_rd (s : State) (n cause : Nat) {k : Nat} (h : k / 256 ≠ 0x2500) : (s.failPort n cause).rd k = s.rd k :=
  State.toPState_failed_rd _ n h

theorem State.saveObj_unreported (s : State) (k : Nat) (v : Word) : (s.saveObj k v).unreported = s.unreported := rfl

theorem checkExchange_goes {n : Port} {info : CheckInfo} (check : (s.port n).st = .check) :
    (s.role n ≠ info.role.val → PortGoes s n .failed (checkExchangeEff n info s)) ∧
    (s.role n = info.role.val → PortGoes s n .active (checkExchangeEff n info s)) ∧
    (checkExchangeEff n info s).rd (portKey n 4) = BitVec.ofNat 64 (CheckPlace info) ∧
    (checkExchangeEff n info s).rd (portKey n 5) = BitVec.ofNat 64 info.delayNs := by
  obtain ⟨port, work, role, addr, delay⟩ := s.neighbour_spec n (CheckPlace info) info.delayNs
  have moved {st : PState} {t : State} (h : PortGoes (s.neighbour n (CheckPlace info) info.delayNs) n st t) : PortGoes s n st t := by
    obtain ⟨own, others, still, worked⟩ := h
    refine ⟨own, fun m hm => ?_, fun none m hm => (still ?_ m hm).trans (port m), sameWork_trans work worked⟩
    · rw [← port m]
      exact others m hm
    · rw [port]
      exact none
  by_cases same : s.role n = info.role.val
  · obtain ⟨u, eff, reads, active⟩ := checkExchangeEff_match check same
    have read {k : Nat} (h : k / 256 ≠ 0x2500) : (checkExchangeEff n info s).rd k = (s.neighbour n (CheckPlace info) info.delayNs).rd k := by
      rw [eff, State.reselect_rd h, learnAll_rd h, State.toPState_active_rd, reads]
    refine ⟨fun other => absurd same other, fun _ => moved ?_, (read (portKey_div n (by decide))).trans addr,
      (read (portKey_div n (by decide))).trans delay⟩
    refine active.keeps (fun m => ?_) (sameWork_of_unreported_eq ?_)
    · rw [eff, State.reselect_port, learnAll_port]
    · rw [eff, State.reselect_unreported, learnAll_unreported]
  · have eff := checkExchangeEff_mismatch check same
    have read {k : Nat} (h : k / 256 ≠ 0x2500) : (checkExchangeEff n info s).rd k = (s.neighbour n (CheckPlace info) info.delayNs).rd k := by
      rw [eff, State.failPort_rd _ _ _ h]
    refine ⟨fun _ => moved ?_, fun h => absurd h same, (read (portKey_div n (by decide))).trans addr,
      (read (portKey_div n (by decide))).trans delay⟩
    rw [eff]
    exact PortGoes.failPort ..

/-! ## PORT_ROLE_WRITE (R204) -/

theorem State.toPState_disabled_beside (s : State) (n : Port) : (s.toPState n .disabled).role n = s.role n ∧
    (s.toPState n .disabled).mgmt = s.mgmt := by
  refine ⟨congrArg BitVec.toNat ((State.reselect_rd (portKey_div n (by decide)) _ false).trans (s.leaveAll_rd _ _)), ?_⟩
  exact (State.reselect_mgmt ..).trans (s.leaveAll_mgmt _)

theorem exec_portRoleWrite_spec {via : Via} {n : Port} {v : Word} (reached : s.reaches via (0x2510 + n) 1 = true) (named : v.toNat ≤ 2) :
     ((s.port n).st = .disabled ∨ (s.port n).st = .failed ∨ ((s.port n).st = .draining ∧ (s.port n).outQ = []) →
       ∃ t, exec (.portRoleWrite via n v) s = .next t ∧ t.role n = v.toNat ∧
         t.mgmt.saves = s.mgmt.saves ++ [(portKey n 1, v)] ∧ (v.toNat = 2 → (t.port n).st = .disabled) ∧ sameWork s t) ∧
     ((s.port n).st = .active → ∃ t, exec (.portRoleWrite via n v) s = .next t ∧ t.role n = s.role n ∧ t.fab = s.fab ∧ sameWork s t) := by
  refine ⟨fun down => ?_, fun active => ?_⟩
  · obtain ⟨u, hu⟩ : ∃ u, u = s.saveObj (portKey n 1) v := ⟨_, rfl⟩
    have act : roleW s n v = .ok (if v.toNat = 2 then u.toPState n .disabled else u) := by
      unfold roleW
      dsimp only
      rw [if_neg (by omega), if_pos down, hu]
    have eff : portRoleWriteEff via n v s = if v.toNat = 2 then u.toPState n .disabled else u := by
      rw [portRoleWriteEff, act]
      exact State.objWrite_ok s reached _
    have role : u.role n = v.toNat := by
      rw [hu]
      exact congrArg BitVec.toNat ((s.rd_wr (portKey n 1) (portKey n 1) v).trans (if_pos rfl))
    have saves : u.mgmt.saves = s.mgmt.saves ++ [(portKey n 1, v)] := by rw [hu]; rfl
    have work : sameWork s u := by rw [hu]; exact sameWork_of_unreported_eq (State.saveObj_unreported ..)
    split at eff
    next two =>
      obtain ⟨role', mgmt⟩ := u.toPState_disabled_beside n
      obtain ⟨own, -, -, worked⟩ := PortGoes.toPState u n .disabled
      exact ⟨_, congrArg s.outcome eff, role'.trans role, (congrArg MgmtSt.saves mgmt).trans saves, fun _ => own, sameWork_trans work worked⟩
    next other => exact ⟨_, congrArg s.outcome eff, role, saves, fun two => absurd two other, work⟩
  · have act : roleW s n v = .error .state := by
      unfold roleW
      dsimp only
      rw [if_neg (by omega), if_neg (by simp [active])]
    obtain ⟨h, frame⟩ := State.objWrite_error_frame s via (0x2510 + n) 1 .state
    have eff : portRoleWriteEff via n v s = { s with host := h } := by rw [portRoleWriteEff, act, frame]
    exact ⟨_, congrArg s.outcome eff, rfl, rfl, sameWork_refl s⟩

/-- Settles O28: each command takes the port to its state and leaves the others. -/
theorem portsAndRoles : Obligations.PortsAndRoles := by
  refine ⟨fun n s => ?_, fun via n v s reached named => exec_portRoleWrite_spec reached named⟩
  refine ⟨fun via reached => ⟨fun role down => ?_, portRetrain_stays reached, ?_, fun force active die free => ?_⟩,
    fun pinned ber => ⟨fun active die free pin => ?_, fun pin low => ?_⟩, fun detect => ?_, fun train => ?_, fun recal => ?_,
    fun train few => ?_, fun train many => ?_, fun draining after done => ?_, fun cause h1 h2 => ⟨?_, fun t ran => ?_⟩,
    fun info check other => ?_, fun info check same => ?_, fun info check => ?_⟩
  · exact PortGoes.exec (portRetrain_goes reached role down) (PortGoes.toPState ..)
  · exact PortGoes.exec (portDisable_goes reached) (PortGoes.toPState ..)
  · obtain ⟨t, ran, goes⟩ := portRecal_goes reached active die free
    exact goes.exec ran
  · subst pin
    obtain ⟨t, ran, goes⟩ := adaptationMonitorRequest_goes (ber := ber) active die free
    exact goes.exec ran
  · subst pin
    exact adaptationMonitorRequest_reads low
  · exact PortGoes.exec (congrArg s.outcome (if_pos detect : signalDetectEff n s = s.toPState n .train)) (PortGoes.toPState ..)
  · exact PortGoes.exec (congrArg s.outcome (if_pos train : trainDoneEff n true s = s.attemptDone n true)) (attemptDone_goes s n).1
  · exact PortGoes.exec (congrArg s.outcome (if_pos recal : recalDoneEff n true s = s.attemptDone n true)) (attemptDone_goes s n).1
  · have eff : trainDoneEff n false s = _ := (if_pos train).trans ((attemptDone_goes s n).2.1 few)
    exact PortGoes.exec (congrArg s.outcome eff) (setPort_goes train)
  · have eff : trainDoneEff n false s = _ := (if_pos train).trans ((attemptDone_goes s n).2.2 many)
    exact PortGoes.exec (congrArg s.outcome eff) (PortGoes.failPort ..)
  · exact PortGoes.exec (congrArg s.outcome (if_pos ⟨draining, done⟩ : drainDoneEff n after s = s.toPState n .recal)) (PortGoes.toPState ..)
  · exact PortGoes.exec (congrArg s.outcome (fatalLinkFailureEff_eq cause h1 h2)) (fatalPort_goes ..)
  · obtain rfl : (s.fatalPort n (LinkFailCause cause)).withQueue s = t :=
      Host.Outcome.next.inj ((congrArg s.outcome (fatalLinkFailureEff_eq cause h1 h2)).symm.trans ran)
    exact (fatalPort_cause ..).trans (by cases cause <;> rfl)
  · exact PortGoes.exec rfl ((checkExchange_goes check).1 other)
  · exact PortGoes.exec rfl ((checkExchange_goes check).2.1 same)
  · exact ⟨_, rfl, (checkExchange_goes check).2.2⟩

end Sys2Proof.Machine

end

section
/-! PROOFS. What leaves the fabric as it was. -/

namespace Sys2Proof.Machine

theorem ite_fab {p : Prop} [Decidable p] {a b s : State} (ha : a.fab = s.fab) (hb : b.fab = s.fab) :
    (if p then a else b).fab = s.fab := by
  split <;> assumption

theorem foldl_fab {β : Type} {f : State → β → State} (h : ∀ s b, (f s b).fab = s.fab) (l : List β) (s : State) :
    (l.foldl f s).fab = s.fab := foldl_keeps State.fab h l s

@[simp] theorem State.logEvent_fab (s : State) (cls : Nat) (part : Nat) (code : Nat) :
    (s.logEvent cls part code).fab = s.fab := rfl

@[simp] theorem State.sendMsix_fab (s : State) (f : Nat) (v : Nat) : (s.sendMsix f v).fab = s.fab := by
  unfold State.sendMsix
  exact ite_fab (State.setFunc_fab ..) ((State.emit_fab ..).trans (State.setFunc_fab ..))

@[simp] theorem State.signalPf_fab (s : State) (v : Nat) : (s.signalPf v).fab = s.fab := by
  unfold State.signalPf
  exact ite_fab (State.sendMsix_fab ..) (State.emit_fab ..)

@[simp] theorem State.fabricEvent_fab (s : State) : (s.fabricEvent).fab = s.fab := by
  unfold State.fabricEvent
  exact (State.signalPf_fab ..).trans (State.logEvent_fab ..)

@[simp] theorem State.shadowAdd_fab (s : State) (key : Nat) (n : Nat) : (s.shadowAdd key n).fab = s.fab := rfl

@[simp] theorem State.shadowOf_fab (s : State) (key : Nat) (n : Nat) : (s.shadowOf key n).fab = s.fab := by
  unfold State.shadowOf
  exact ite_fab (State.shadowAdd_fab ..) rfl

@[simp] theorem State.count_fab (s : State) (key : Nat) (n : Nat) : (s.count key n).fab = s.fab := by
  unfold State.count
  exact (State.wr_fab ..).trans (State.shadowOf_fab ..)

@[simp] theorem State.pCount_fab (s : State) (p : Nat) (sub : Nat) (n : Nat) : (s.pCount p sub n).fab = s.fab := by
  unfold State.pCount
  exact State.count_fab ..

@[simp] theorem State.eccCount_fab (s : State) (src : EccSource) (part : Nat) (addr : Nat) (ue : Bool) :
    (s.eccCount src part addr ue).fab = s.fab := by
  unfold State.eccCount
  split
  · split
    · exact State.pCount_fab ..
    · exact State.pCount_fab ..
    · exact State.pCount_fab ..
    · exact (State.count_fab ..).trans (State.pCount_fab ..)
    · exact (State.count_fab ..).trans (State.pCount_fab ..)
    · exact State.count_fab ..
  · split
    · exact State.pCount_fab ..
    · exact State.pCount_fab ..
    · exact State.pCount_fab ..
    · exact (State.count_fab ..).trans (State.pCount_fab ..)
    · exact (State.count_fab ..).trans (State.pCount_fab ..)
    · exact State.count_fab ..

@[simp] theorem State.wrN_fab (s : State) (key : Nat) (v : Nat) : (s.wrN key v).fab = s.fab := by
  unfold State.wrN
  exact State.wr_fab ..

@[simp] theorem State.countSat_fab (s : State) (key : Nat) (n : Nat) (top : Nat) : (s.countSat key n top).fab = s.fab := by
  unfold State.countSat
  exact (State.wrN_fab ..).trans (State.shadowOf_fab ..)

@[simp] theorem State.count32Sat_fab (s : State) (key : Nat) (n : Nat) : (s.count32Sat key n).fab = s.fab := by
  unfold State.count32Sat
  exact State.countSat_fab ..

@[simp] theorem State.count32_fab (s : State) (key : Nat) (n : Nat) : (s.count32 key n).fab = s.fab := by
  unfold State.count32
  exact (State.wrN_fab ..).trans (State.shadowOf_fab ..)

@[simp] theorem State.eccLogAdd_fab (s : State) (e : EccEntry) : (s.eccLogAdd e).fab = s.fab := by
  unfold State.eccLogAdd
  exact ite_fab (State.count32_fab ..) (ite_fab (State.count32_fab ..) (ite_fab (State.count32Sat_fab ..) (State.count32_fab ..)))

@[simp] theorem State.eccNote_fab (s : State) (src : EccSource) (part : Nat) (unit : Nat) (addr : Nat) (o : ShellOutcome) :
    (s.eccNote src part unit addr o).fab = s.fab := by
  unfold State.eccNote
  split
  · split
    · rfl
    · exact (State.eccLogAdd_fab ..).trans (State.eccCount_fab ..)
    · exact (State.eccLogAdd_fab ..).trans (State.eccCount_fab ..)
    · exact (State.eccLogAdd_fab ..).trans (State.eccCount_fab ..)
    · exact (State.eccLogAdd_fab ..).trans (State.eccCount_fab ..)
  · split
    · rfl
    · exact (State.eccLogAdd_fab ..).trans (State.eccCount_fab ..)
    · exact (State.eccLogAdd_fab ..).trans (State.eccCount_fab ..)
    · exact (State.eccLogAdd_fab ..).trans (State.eccCount_fab ..)
    · exact (State.eccLogAdd_fab ..).trans (State.eccCount_fab ..)

@[simp] theorem State.portShell_fab (s : State) (n : Nat) (os : List ShellOutcome) : (s.portShell n os).1.fab = s.fab := by
  unfold State.portShell
  split
  · exact (State.fabricEvent_fab ..).trans (ite_fab ((State.count_fab ..).trans (foldl_fab (fun ft fb => ite_fab
      ((State.count_fab ..).trans (State.eccNote_fab ..)) (State.eccNote_fab ..)) _ _)) (foldl_fab (fun ft fb => ite_fab
      ((State.count_fab ..).trans (State.eccNote_fab ..)) (State.eccNote_fab ..)) _ _))
  · exact foldl_fab (fun ft fb => ite_fab ((State.count_fab ..).trans (State.eccNote_fab ..)) (State.eccNote_fab ..)) _ _

@[simp] theorem State.pWr_fab (s : State) (p : Nat) (sub : Nat) (v : Word) : (s.pWr p sub v).fab = s.fab := by
  unfold State.pWr
  exact State.wr_fab ..

@[simp] theorem State.signalPart_fab (s : State) (p : Nat) (k : Nat) : (s.signalPart p k).fab = s.fab := by
  unfold State.signalPart
  exact ite_fab (State.sendMsix_fab ..) (ite_fab (State.sendMsix_fab ..) (State.emit_fab ..))

@[simp] theorem State.event_fab (s : State) (p : Nat) (k : Nat) : (s.event p k).fab = s.fab := by
  unfold State.event
  exact (State.signalPart_fab ..).trans (State.logEvent_fab ..)

@[simp] theorem State.partFault_fab (s : State) (p : Nat) : (s.partFault p).fab = s.fab := by
  unfold State.partFault
  exact State.event_fab ..

@[simp] theorem State.mgmtEvent_fab (s : State) (code : Nat) : (s.mgmtEvent code).fab = s.fab := by
  unfold State.mgmtEvent
  exact (State.signalPf_fab ..).trans (State.logEvent_fab ..)

@[simp] theorem State.setReadiness_fab (s : State) (r : Nat) : (s.setReadiness r).fab = s.fab := by
  unfold State.setReadiness
  exact ite_fab rfl ((State.mgmtEvent_fab ..).trans (State.wrN_fab ..))

@[simp] theorem State.healthEvent_fab (s : State) : (s.healthEvent).fab = s.fab := by
  unfold State.healthEvent
  exact (State.signalPf_fab ..).trans (State.logEvent_fab ..)

end Sys2Proof.Machine

end

section
/-! PROOFS. FLIT_RECEIVE, NAK and WIRE_FLIT_SEND (R207 to R212), obligation O29. -/

namespace Sys2Proof.Machine

variable {s : State}

/-! ## What a port keeps beside its credits -/

/-- A port without its input buffers' accounts. -/
def PortSt.unheld (x : PortSt) : PortSt := { x with held := [], owed := [] }

theorem State.leaveInput_unheld (s : State) (inp : Nat) (vc : Fin 4) (cls : Fin 2) (units m : Nat) :
    ((s.leaveInput inp vc cls units).port m).unheld = (s.port m).unheld := by
  unfold State.leaveInput
  split
  · rw [State.port_setPort]
    split
    next here => rw [here]; rfl
    · rfl
  · rfl

theorem State.port_of_fab {t : State} (h : t.fab = s.fab) (m : Nat) : t.port m = s.port m := by
  rw [State.port, h]
  rfl

theorem State.leaveInput_sameWork (s : State) (inp : Nat) (vc : Fin 4) (cls : Fin 2) (units : Nat) :
    sameWork s (s.leaveInput inp vc cls units) := by
  unfold State.leaveInput
  split <;> exact sameWork_refl s

theorem State.eccLogAdd_sameWork (s : State) (e : EccEntry) : sameWork s (s.eccLogAdd e) := by
  have logged (l : List EccEntry) : sameWork s (({ s with eccLog := l } : State).count32 (objKey 0x2800 0x0D) 1) :=
    sameWork_trans (t := { s with eccLog := l }) (sameWork_refl s) (sameWork_of_unreported_eq (State.count32_unreported ..))
  unfold State.eccLogAdd
  dsimp only
  split
  · exact logged _
  · split
    · exact logged _
    · split
      · exact sameWork_of_unreported_eq (State.count32Sat_unreported ..)
      · exact logged _

theorem State.eccNote_sameWork (s : State) (src : EccSource) (part unit addr : Nat) (o : ShellOutcome) :
    sameWork s (s.eccNote src part unit addr o) := by
  have noted (src : EccSource) (a : Nat) (ue : Bool) (e : EccEntry) : sameWork s ((s.eccCount src part a ue).eccLogAdd e) :=
    sameWork_trans (sameWork_of_unreported_eq (State.eccCount_unreported ..)) (State.eccLogAdd_sameWork ..)
  unfold State.eccNote
  cases o with
  | clean => exact sameWork_refl s
  | corrected sym g rewritten => exact noted ..
  | uncorrectable g => exact noted ..
  | pathCorrected sym g => exact noted ..
  | pathUncorrectable g => exact noted ..

theorem State.portShell_sameWork (s : State) (n : Nat) (os : List ShellOutcome) : sameWork s (s.portShell n os).1 := by
  obtain ⟨u, hu⟩ : ∃ u, u = os.foldl (fun s o =>
      let s := s.eccNote .datapath 0xFF n 0 o.onPath
      if decide (n < 32) && !o.bad && o != .clean then s.count (portKey n 0x0E) 1 else s) s := ⟨_, rfl⟩
  have noted : sameWork s u := by
    rw [hu]
    refine List.foldlRecOn (motive := fun t : State => sameWork s t) os _ (sameWork_refl s) fun t ht o _ => ?_
    have note := sameWork_trans ht (t.eccNote_sameWork .datapath 0xFF n 0 o.onPath)
    dsimp only
    split
    · exact sameWork_trans note (sameWork_of_unreported_eq (State.count_unreported ..))
    · exact note
  unfold State.portShell
  dsimp only
  rw [← hu]
  split
  · refine sameWork_trans noted (sameWork_of_unreported_eq ((State.fabricEvent_unreported ..).trans ?_))
    split
    · exact State.count_unreported ..
    · rfl
  · exact noted

/-- The check of a queue drops packets and returns their credits. -/
theorem State.checkQueue_beside (n m : Nat) : ∀ (qs : List OutPkt) (s : State) (i : Nat) (checks : List (Nat × ShellOutcome)),
    ((s.checkQueue n i qs checks).1.port m).unheld = (s.port m).unheld ∧ sameWork s (s.checkQueue n i qs checks).1
  | [], s, _, _ => ⟨rfl, sameWork_refl s⟩
  | q :: qs, s, i, checks => by
    obtain ⟨os, hos⟩ : ∃ os, os = (checks.filter fun c => c.1 == i && !q.begun).map fun c => c.2 := ⟨_, rfl⟩
    obtain ⟨u, hu⟩ : ∃ u, u = (s.portShell n os).1 := ⟨_, rfl⟩
    have port : (u.port m).unheld = (s.port m).unheld := by
      rw [hu, State.port_of_fab (State.portShell_fab ..)]
    have work : sameWork s u := by rw [hu]; exact State.portShell_sameWork ..
    unfold State.checkQueue
    dsimp only
    rw [← hos, ← hu]
    split
    · obtain ⟨rest, worked⟩ := State.checkQueue_beside n m qs u (i + 1) checks
      exact ⟨rest.trans port, sameWork_trans work worked⟩
    · obtain ⟨rest, worked⟩ := State.checkQueue_beside n m qs (u.leaveInput q.inp q.pkt.vc q.inCls q.left) (i + 1) checks
      exact ⟨rest.trans ((u.leaveInput_unheld ..).trans port), sameWork_trans work (sameWork_trans (u.leaveInput_sameWork ..) worked)⟩

/-! ## FLIT_RECEIVE (R207, R208) -/

/-- What an accepted flit leaves, whatever it carries. -/
def Accepted (s : State) (n : Nat) (x : PortSt) (t : State) : Prop :=
  (t.port n).rxNext = x.rxNext ∧ (t.port n).discarding = x.discarding ∧ (t.port n).replay = x.replay ∧
    t.rd (portKey n 6) = s.rd (portKey n 6) ∧ (∀ m, m ≠ n → t.port m = s.port m) ∧ sameWork s t

theorem accepted_setPort (s : State) (n : Nat) {x y : PortSt} (h1 : y.rxNext = x.rxNext) (h2 : y.discarding = x.discarding)
    (h3 : y.replay = x.replay) : Accepted s n x (s.setPort n y) := by
  refine ⟨?_, ?_, ?_, rfl, fun m hm => ?_, sameWork_refl s⟩
  · rw [State.port_setPort, if_pos rfl, h1]
  · rw [State.port_setPort, if_pos rfl, h2]
  · rw [State.port_setPort, if_pos rfl, h3]
  · rw [State.port_setPort, if_neg hm]

theorem Accepted.keeps {n : Nat} {x : PortSt} {t u : State} (h : Accepted s n x t) (ports : ∀ m, u.port m = t.port m)
    (word : u.rd (portKey n 6) = t.rd (portKey n 6)) (work : sameWork t u) : Accepted s n x u := by
  obtain ⟨h1, h2, h3, h4, h5, h6⟩ := h
  exact ⟨by rw [ports]; exact h1, by rw [ports]; exact h2, by rw [ports]; exact h3, word.trans h4, fun m hm => (ports m).trans (h5 m hm),
    sameWork_trans h6 work⟩

theorem Accepted.trans {n : Nat} {x y : PortSt} {t u : State} (h : Accepted s n x t) (g : Accepted t n y u) (h1 : y.rxNext = x.rxNext)
    (h2 : y.discarding = x.discarding) (h3 : y.replay = x.replay) : Accepted s n x u := by
  obtain ⟨-, -, -, a4, a5, a6⟩ := h
  obtain ⟨b1, b2, b3, b4, b5, b6⟩ := g
  exact ⟨b1.trans h1, b2.trans h2, b3.trans h3, b4.trans a4, fun m hm => (b5 m hm).trans (a5 m hm), sameWork_trans a6 b6⟩

theorem State.acceptFlit_spec (s : State) (n : Port) (f : FlitRx) (other : f.link.flitType.toNat ≠ 4) :
    Accepted s n ((s.port n).accept f.link) (s.acceptFlit n f) := by
  obtain ⟨u, hu⟩ : ∃ u, u = s.setPort n ((s.port n).accept f.link) := ⟨_, rfl⟩
  have base : Accepted s n ((s.port n).accept f.link) u := by rw [hu]; exact accepted_setPort s n rfl rfl rfl
  have own : u.port n = (s.port n).accept f.link := by rw [hu, State.port_setPort, if_pos rfl]
  have body (y : PortSt) (h1 : y.rxNext = (u.port n).rxNext) (h2 : y.discarding = (u.port n).discarding)
      (h3 : y.replay = (u.port n).replay) : Accepted s n ((s.port n).accept f.link) (u.setPort n y) :=
    base.trans (accepted_setPort u n (x := u.port n) h1 h2 h3) (congrArg PortSt.rxNext own) (congrArg PortSt.discarding own)
      (congrArg PortSt.replay own)
  unfold State.acceptFlit
  dsimp only
  rw [← hu]
  split
  · exact (body ((u.port n).takeBody (2 * f.link.bodyVc.val + f.link.bodyClass.val) f.body) rfl rfl rfl).keeps
      (fun m => State.port_of_fab (State.count_fab ..) m) (State.rd_count_ne _ 1 (portKey_ne _ (by decide)))
      (sameWork_of_unreported_eq (State.count_unreported ..))
  · refine base.keeps (fun m => rfl) ((State.rd_wrFree ..).trans (if_neg (portKey_ne _ (by decide)))) ?_
    exact sameWork_trans (t := u.fresh.2) (sameWork_refl u) (sameWork_of_unreported_eq (State.wrFree_unreported ..))
  · exact absurd ‹f.link.flitType.toNat = 4› other
  · split
    · refine (body { u.port n with st := .draining } rfl rfl rfl).keeps (fun m => State.reselect_port ..)
        (State.reselect_rd (portKey_div n (by decide)) _ false) (sameWork_of_unreported_eq (State.reselect_unreported ..))
    · exact base
  · exact base

theorem State.refuseFlit_spec (s : State) (n : Nat) (broken : Bool) :
    ((s.refuseFlit n broken).port n).rxNext = (s.port n).rxNext ∧ ((s.refuseFlit n broken).port n).discarding = true ∧
      (∀ m, m ≠ n → (s.refuseFlit n broken).port m = s.port m) ∧ sameWork s (s.refuseFlit n broken) := by
  obtain ⟨u, hu⟩ : ∃ u, u = s.setPort n { s.port n with discarding := true } := ⟨_, rfl⟩
  have own : u.port n = { s.port n with discarding := true } := by rw [hu, State.port_setPort, if_pos rfl]
  have rxOwn : (u.port n).rxNext = (s.port n).rxNext := by rw [own]
  have discarding : (u.port n).discarding = true := by rw [own]
  have others (m : Nat) (hm : m ≠ n) : u.port m = s.port m := by rw [hu, State.port_setPort, if_neg hm]
  have work : sameWork s u := by rw [hu]; exact sameWork_refl s
  unfold State.refuseFlit
  dsimp only
  rw [← hu]
  split
  · obtain ⟨w, hw⟩ : ∃ w, w = (u.port n).nextLink 4 0 0 := ⟨_, rfl⟩
    have sent : (u.sendFlit n 4 0 0 []).port n = (u.port n).sent w [] := by
      rw [hw]
      exact (State.port_setPort ..).trans (if_pos rfl)
    rw [sent]
    refine ⟨rxOwn, discarding, fun m hm => ?_, sameWork_trans work (sameWork_refl u)⟩
    exact ((State.port_setPort ..).trans (if_neg hm)).trans (others m hm)
  · exact ⟨rxOwn, discarding, others, work⟩

/-- The state in which a flit is judged: the partner of a TANGO port has been heard. -/
def State.heardTango (s : State) (n : Nat) : State :=
  if s.role n = 1 then { s with health := { s.health with lastTango := s.beatIx } } else s

theorem State.heardTango_spec (s : State) (n : Nat) : (s.heardTango n).fab = s.fab ∧ (∀ k, (s.heardTango n).rd k = s.rd k) ∧
    sameWork s (s.heardTango n) := by
  unfold State.heardTango
  split
  · exact ⟨rfl, fun k => rfl, sameWork_refl s⟩
  · exact ⟨rfl, fun k => rfl, sameWork_refl s⟩

theorem flitReceiveEff_eq {n : Port} (f : FlitRx) (linked : (s.port n).linked = true) : flitReceiveEff n f s =
    if fecDecodes f then
      if flitCrcOk f = false then ((s.heardTango n).count (portKey n 6) (f.evenErrors + f.oddErrors)).refuseFlit n true
      else if f.seq % 4096 = (((s.heardTango n).count (portKey n 6) (f.evenErrors + f.oddErrors)).port n).rxNext then
        ((s.heardTango n).count (portKey n 6) (f.evenErrors + f.oddErrors)).acceptFlit n f
      else ((s.heardTango n).count (portKey n 6) (f.evenErrors + f.oddErrors)).refuseFlit n false
    else ((s.heardTango n).count (portKey n 7) 1).refuseFlit n true := by
  unfold flitReceiveEff
  rw [if_neg (by simp [linked])]
  rfl

theorem exec_flitReceive_accepted {n : Port} {f : FlitRx} (linked : (s.port n).linked = true) (fec : fecDecodes f = true)
    (crc : flitCrcOk f = true) (seq : f.seq % 4096 = (s.port n).rxNext) (other : f.link.flitType.toNat ≠ 4) :
      ∃ t, exec (.flitReceive n f) s = .next t ∧ (t.port n).rxNext = ((s.port n).rxNext + 1) % 4096 ∧
        (t.port n).discarding = false ∧ (t.port n).replay = ackReplay f.link.ack (s.port n).replay ∧
        t.rd (portKey n 6) = s.rd (portKey n 6) + BitVec.ofNat 64 (f.evenErrors + f.oddErrors) ∧
        (∀ m, m ≠ n.val → t.port m = s.port m) ∧ sameWork s t := by
  obtain ⟨fab, reads, work⟩ := s.heardTango_spec n
  obtain ⟨u, hu⟩ : ∃ u, u = (s.heardTango n).count (portKey n 6) (f.evenErrors + f.oddErrors) := ⟨_, rfl⟩
  have port (m : Nat) : u.port m = s.port m := by
    rw [hu, State.port_of_fab (State.count_fab ..), State.port_of_fab fab]
  have word : u.rd (portKey n 6) = s.rd (portKey n 6) + BitVec.ofNat 64 (f.evenErrors + f.oddErrors) := by
    rw [hu, State.rd_count, if_pos rfl, reads]
  have worked : sameWork s u := by
    rw [hu]
    exact sameWork_trans work (sameWork_of_unreported_eq (State.count_unreported ..))
  have eff : flitReceiveEff n f s = u.acceptFlit n f := by
    rw [flitReceiveEff_eq f linked, ← hu, if_pos fec, if_neg (by simp [crc]), if_pos (by rw [port]; exact seq)]
  obtain ⟨rx, discarding, replay, word', others, work'⟩ := u.acceptFlit_spec n f other
  rw [port] at rx discarding replay
  exact ⟨_, congrArg s.outcome eff, rx, discarding, replay, word'.trans word, fun m hm => (others m hm).trans (port m),
    sameWork_trans worked work'⟩

theorem exec_flitReceive_refused {n : Port} {f : FlitRx} (linked : (s.port n).linked = true)
    (bad : fecDecodes f = false ∨ flitCrcOk f = false ∨ f.seq % 4096 ≠ (s.port n).rxNext) :
      ∃ t, exec (.flitReceive n f) s = .next t ∧ (t.port n).rxNext = (s.port n).rxNext ∧ (t.port n).discarding = true ∧
        (∀ m, m ≠ n.val → t.port m = s.port m) ∧ sameWork s t := by
  obtain ⟨fab, -, work⟩ := s.heardTango_spec n
  have refused (key k : Nat) (broken : Bool) (eff : flitReceiveEff n f s = ((s.heardTango n).count key k).refuseFlit n broken) :
      ∃ t, exec (.flitReceive n f) s = .next t ∧ (t.port n).rxNext = (s.port n).rxNext ∧ (t.port n).discarding = true ∧
        (∀ m, m ≠ n.val → t.port m = s.port m) ∧ sameWork s t := by
    have port (m : Nat) : ((s.heardTango n).count key k).port m = s.port m := by
      rw [State.port_of_fab (State.count_fab ..), State.port_of_fab fab]
    obtain ⟨rx, discarding, others, worked⟩ := ((s.heardTango n).count key k).refuseFlit_spec n broken
    rw [port] at rx
    exact ⟨_, congrArg s.outcome eff, rx, discarding, fun m hm => (others m hm).trans (port m),
      sameWork_trans work (sameWork_trans (sameWork_of_unreported_eq (State.count_unreported ..)) worked)⟩
  have eff := flitReceiveEff_eq f linked
  have seqOf : (((s.heardTango n).count (portKey n 6) (f.evenErrors + f.oddErrors)).port n).rxNext = (s.port n).rxNext := by
    rw [State.port_of_fab (State.count_fab ..), State.port_of_fab fab]
  rw [seqOf] at eff
  split at eff
  · split at eff
    · exact refused _ _ _ eff
    · rw [if_neg (by simp_all)] at eff
      exact refused _ _ _ eff
  · exact refused _ _ _ eff

/-! ## NAK (R209) -/

theorem foldl_emit (f : SentFlit → Out) (l : List SentFlit) (s : State) :
    l.foldl (fun s x => s.emit (f x)) s = { s with out := s.out ++ l.map f } := by
  induction l generalizing s with
  | nil => rw [List.map_nil, List.append_nil]; rfl
  | cons x l ih =>
    refine (ih (s.emit (f x))).trans ?_
    rw [List.map_cons, List.append_cons]
    rfl

theorem exec_nak_replays {n : Port} {next : Nat} (linked : (s.port n).linked = true)
    (few : (s.port n).nakSeq ≠ some next ∨ (s.port n).nakCount < 8) :
      ∃ t, exec (.nak n next) s = .next t ∧ (t.port n).nakSeq = some next ∧ (t.port n).replay = (s.port n).replay ∧
        (t.port n).st = (s.port n).st ∧ t.rd (portKey n 8) = s.rd (portKey n 8) + 1#64 ∧
        t.out = s.out ++ ((s.port n).replay.filter fun f => decide ((f.seq + 4096 - next % 4096) % 4096 < 1024)).map
          (fun f => Out.flit n f.link f.seq (wireFlit f.body f.link)) ∧ sameWork s t := by
  obtain ⟨x, hx⟩ : ∃ x : PortSt, x = { s.port n with
      nakSeq := some next, nakCount := if (s.port n).nakSeq = some next then (s.port n).nakCount + 1 else 1 } := ⟨_, rfl⟩
  have counted : ¬8 < (if (s.port n).nakSeq = some next then (s.port n).nakCount + 1 else 1) := by
    split
    next same =>
      obtain h | h := few
      · exact absurd same h
      · omega
    next => decide
  have eff : nakEff n next s = { (s.setPort n x).count (portKey n 8) 1 with
      out := ((s.setPort n x).count (portKey n 8) 1).out ++ ((s.port n).replay.filter fun f => fromSeq next f.seq).map
          (fun f => Out.flit n f.link f.seq (wireFlit f.body f.link)) } := by
    rw [← foldl_emit, hx]
    unfold nakEff
    rw [if_pos linked]
    exact if_neg counted
  have port : ((s.setPort n x).count (portKey n 8) 1).port n = x := by
    rw [State.port_of_fab (State.count_fab ..), State.port_setPort, if_pos rfl]
  have word : ((s.setPort n x).count (portKey n 8) 1).rd (portKey n 8) = s.rd (portKey n 8) + 1#64 := by
    rw [State.rd_count, if_pos rfl]
    rfl
  have out : ((s.setPort n x).count (portKey n 8) 1).out = s.out := State.count_out ..
  have work : sameWork s ((s.setPort n x).count (portKey n 8) 1) :=
    sameWork_trans (t := s.setPort n x) (sameWork_refl s) (sameWork_of_unreported_eq (State.count_unreported ..))
  generalize (s.setPort n x).count (portKey n 8) 1 = u at *
  rw [out] at eff
  have own : u.port n = { s.port n with
      nakSeq := some next, nakCount := if (s.port n).nakSeq = some next then (s.port n).nakCount + 1 else 1 } := port.trans hx
  have seq : (u.port n).nakSeq = some next := by rw [own]
  have replay : (u.port n).replay = (s.port n).replay := by rw [own]
  have st : (u.port n).st = (s.port n).st := by rw [own]
  exact ⟨_, congrArg s.outcome eff, seq, replay, st, word, rfl, work⟩

theorem exec_nak_fails {n : Port} {next : Nat} (linked : (s.port n).linked = true) (same : (s.port n).nakSeq = some next)
    (many : 8 ≤ (s.port n).nakCount) :
      ∃ t, exec (.nak n next) s = .next t ∧ (t.port n).st = .failed ∧ (t.port n).cause = 4 ∧ sameWork s t := by
  obtain ⟨x, hx⟩ : ∃ x : PortSt, x = { s.port n with
      nakSeq := some next, nakCount := if (s.port n).nakSeq = some next then (s.port n).nakCount + 1 else 1 } := ⟨_, rfl⟩
  have eff : nakEff n next s = (s.setPort n x).fatalPort n 4 := by
    rw [hx]
    unfold nakEff
    rw [if_pos linked]
    exact if_pos (by rw [if_pos same]; omega)
  obtain ⟨failed, -, -, work⟩ := fatalPort_goes (s.setPort n x) n 4
  exact ⟨_, congrArg s.outcome eff, failed, fatalPort_cause .., sameWork_trans (t := s.setPort n x) (sameWork_refl s) work⟩

/-! ## WIRE_FLIT_SEND (R210 to R212) -/

/-- A flit sent at a port: its number, its place in the replay buffer and its acknowledgement; the other ports stay. -/
def SentAt (s : State) (n : Nat) (x : PortSt) (t : State) : Prop :=
  ∃ w body, (t.port n).txNext = (x.txNext + 1) % 4096 ∧ (t.port n).replay = last1024 (x.replay ++ [⟨x.txNext, w, body⟩]) ∧
    w.ack = x.rxNext ∧ (∀ m, m ≠ n → (t.port m).unheld = (s.port m).unheld) ∧ sameWork s t

theorem last1024_of_le {l : List SentFlit} (h : l.length ≤ 1024) : last1024 l = l := by
  rw [last1024, Nat.sub_eq_zero_of_le h, List.drop_zero]

theorem PortSt.sent_flit (x : PortSt) (w : LinkWord) (body : List Byte) : (x.sent w body).txNext = (x.txNext + 1) % 4096 ∧
    (x.sent w body).replay = last1024 (x.replay ++ [⟨x.txNext, w, body⟩]) := by
  unfold PortSt.sent
  generalize owedNext x = owed
  obtain ⟨ck, cc⟩ := owed
  dsimp only
  exact ⟨Eq.refl _, Eq.refl _⟩

theorem PortSt.nextLink_ack (x : PortSt) (type : Nat) (vc : Fin 4) (cls : Fin 2) : (x.nextLink type vc cls).ack = x.rxNext := rfl

theorem sendFlit_sentAt {t : State} {n : Nat} {x : PortSt} (type : Nat) (vc : Fin 4) (cls : Fin 2) (body : List Byte)
    (h1 : (t.port n).txNext = x.txNext) (h2 : (t.port n).replay = x.replay) (h3 : (t.port n).rxNext = x.rxNext)
    (others : ∀ m, m ≠ n → (t.port m).unheld = (s.port m).unheld) (work : sameWork s t) : SentAt s n x (t.sendFlit n type vc cls body) := by
  have own : (t.sendFlit n type vc cls body).port n = (t.port n).sent ((t.port n).nextLink type vc cls) body :=
    (State.port_setPort ..).trans (if_pos rfl)
  refine ⟨(t.port n).nextLink type vc cls, body, ?_, ?_, (PortSt.nextLink_ack ..).trans h3, fun m hm => ?_, sameWork_trans work (sameWork_refl t)⟩
  · rw [own, (PortSt.sent_flit ..).1, h1]
  · rw [own, (PortSt.sent_flit ..).2, h1, h2]
  · exact (congrArg PortSt.unheld ((State.port_setPort ..).trans (if_neg hm))).trans (others m hm)

theorem SentAt.keeps {n : Nat} {x : PortSt} {t u : State} (h : SentAt s n x t) (ports : ∀ m, (u.port m).unheld = (t.port m).unheld)
    (work : sameWork t u) : SentAt s n x u := by
  obtain ⟨w, body, h1, h2, h3, h4, h5⟩ := h
  exact ⟨w, body, (congrArg PortSt.txNext (ports n) :).trans h1, (congrArg PortSt.replay (ports n) :).trans h2, h3,
    fun m hm => (ports m).trans (h4 m hm), sameWork_trans h5 work⟩

theorem State.sendBody_sentAt {t : State} {n : Nat} {x : PortSt} (rs : List OutPkt) (q : OutPkt)
    (h1 : (t.port n).txNext = x.txNext) (h2 : (t.port n).replay = x.replay) (h3 : (t.port n).rxNext = x.rxNext)
    (others : ∀ m, m ≠ n → (t.port m).unheld = (s.port m).unheld) (work : sameWork s t) : SentAt s n x (t.sendBody n rs q) := by
  unfold State.sendBody
  dsimp only
  generalize fillBody q.pkt.vc q.pkt.cls 8 ({ q with waited := 0 } :: (t.port n).outQ.erase q) = filled
  obtain ⟨outQ, sent, pad⟩ := filled
  dsimp only
  obtain ⟨y, hy⟩ : ∃ y : PortSt, y = { t.port n with
      outQ := outQ.map fun p => if rs.contains p then { p with waited := p.waited + 1 } else p
      used := mset 0 (t.port n).used (2 * q.pkt.vc.val + q.pkt.cls.val)
        (mget 0 (t.port n).used (2 * q.pkt.vc.val + q.pkt.cls.val) + 1)
      sinceVc3 := if q.pkt.vc = 3 then 0 else (t.port n).sinceVc3 + 1 } := ⟨_, rfl⟩
  rw [← hy]
  obtain ⟨body, -⟩ : ∃ b, b = (sent.flatMap fun p => p.1.slice p.2) ++ padBytes q.pkt.vc pad := ⟨_, rfl⟩
  have own : (t.setPort n y).port n = y := (State.port_setPort ..).trans (if_pos rfl)
  have first (body : List Byte) : SentAt s n x ((t.setPort n y).sendFlit n 1 q.pkt.vc q.pkt.cls body) := by
    refine sendFlit_sentAt 1 q.pkt.vc q.pkt.cls body ?_ ?_ ?_ (fun m hm => ?_) (sameWork_trans work (sameWork_refl t))
    · rw [own, hy]
      exact h1
    · rw [own, hy]
      exact h2
    · rw [own, hy]
      exact h3
    · exact (congrArg PortSt.unheld ((State.port_setPort ..).trans (if_neg hm))).trans (others m hm)
  have counted (body : List Byte) : SentAt s n x (((t.setPort n y).sendFlit n 1 q.pkt.vc q.pkt.cls body).count (portKey n 0x0A) 1) :=
    (first body).keeps (fun m => congrArg PortSt.unheld (State.port_of_fab (State.count_fab ..) m))
      (sameWork_of_unreported_eq (State.count_unreported ..))
  refine List.foldlRecOn (motive := fun t : State => SentAt s n x t) sent _ (counted _) fun u hu p _ => ?_
  have left : SentAt s n x (u.leaveInput p.1.inp p.1.pkt.vc p.1.inCls p.2) :=
    hu.keeps (fun m => u.leaveInput_unheld ..) (u.leaveInput_sameWork ..)
  split
  · exact left.keeps (fun m => rfl) (sameWork_refl _)
  · exact left

theorem State.waitsAt_beside (s : State) (key : Nat) : (s.waitsAt key).fab = s.fab ∧ sameWork s (s.waitsAt key) := by
  unfold State.waitsAt State.shadowOf
  dsimp only
  split <;> exact ⟨rfl, sameWork_refl s⟩

theorem wireFlitSendEff_sentAt {n : Port} (checks : List (Nat × ShellOutcome)) (linked : (s.port n).linked = true)
    (room : (s.port n).replay.length < 1024) : SentAt s n (s.port n) (wireFlitSendEff n checks s) := by
  obtain ⟨u, hu⟩ : ∃ u, u = (s.checkQueue n 0 (s.port n).outQ checks).1 := ⟨_, rfl⟩
  obtain ⟨qs, hqs⟩ : ∃ qs, qs = (s.checkQueue n 0 (s.port n).outQ checks).2 := ⟨_, rfl⟩
  have port (m : Nat) : (u.port m).unheld = (s.port m).unheld := by
    rw [hu]
    exact (State.checkQueue_beside n m (s.port n).outQ s 0 checks).1
  have work : sameWork s u := by
    rw [hu]
    exact (State.checkQueue_beside n 0 (s.port n).outQ s 0 checks).2
  have tx : (u.port n).txNext = (s.port n).txNext := (congrArg PortSt.txNext (port n) :)
  have replay : (u.port n).replay = (s.port n).replay := (congrArg PortSt.replay (port n) :)
  have rx : (u.port n).rxNext = (s.port n).rxNext := (congrArg PortSt.rxNext (port n) :)
  have kept (y : PortSt) (h1 : y.txNext = (u.port n).txNext) (h2 : y.replay = (u.port n).replay) (h3 : y.rxNext = (u.port n).rxNext)
      (v : State) (hv : v = u.setPort n y) : (v.port n).txNext = (s.port n).txNext ∧ (v.port n).replay = (s.port n).replay ∧
        (v.port n).rxNext = (s.port n).rxNext ∧ (∀ m, m ≠ n.val → (v.port m).unheld = (s.port m).unheld) ∧ sameWork s v := by
    rw [hv, State.port_setPort, if_pos rfl]
    refine ⟨h1.trans tx, h2.trans replay, h3.trans rx, fun m hm => ?_, sameWork_trans work (sameWork_refl u)⟩
    rw [State.port_setPort, if_neg hm]
    exact port m
  unfold wireFlitSendEff
  rw [if_neg (by simp [linked]; omega)]
  dsimp only
  rw [← hu, ← hqs]
  obtain ⟨v, hv⟩ : ∃ v, v = u.setPort n { u.port n with outQ := qs, testDue := ((u.port n).testDue + u.rdN (portKey n 0x0D)) % 1000 } :=
    ⟨_, rfl⟩
  rw [← hv]
  obtain ⟨h1, h2, h3, h4, h5⟩ := kept { u.port n with
    outQ := qs, testDue := ((u.port n).testDue + u.rdN (portKey n 0x0D)) % 1000 } rfl rfl rfl v hv
  split
  · have own : (v.setPort n { v.port n with testSent := (u.port n).testSent + 256 }).port n =
        { v.port n with testSent := (u.port n).testSent + 256 } := (State.port_setPort ..).trans (if_pos rfl)
    refine sendFlit_sentAt 3 0 0 _ ((congrArg PortSt.txNext own).trans h1) ((congrArg PortSt.replay own).trans h2)
      ((congrArg PortSt.rxNext own).trans h3) (fun m hm => ?_) (sameWork_trans h5 (sameWork_refl v))
    exact (congrArg PortSt.unheld ((State.port_setPort ..).trans (if_neg hm))).trans (h4 m hm)
  · obtain ⟨w, hw⟩ : ∃ w, w = if (v.ready n qs).length < (waitingPkts [] qs).length then v.waitsAt (portKey n 0x10) else v := ⟨_, rfl⟩
    have fab : w.fab = v.fab := by
      rw [hw]
      split
      · exact (v.waitsAt_beside _).1
      · rfl
    have worked : sameWork v w := by
      rw [hw]
      split
      · exact (v.waitsAt_beside _).2
      · exact sameWork_refl v
    rw [← hw]
    have same (m : Nat) := State.port_of_fab fab m
    have h1' : (w.port n).txNext = (s.port n).txNext := by rw [same]; exact h1
    have h2' : (w.port n).replay = (s.port n).replay := by rw [same]; exact h2
    have h3' : (w.port n).rxNext = (s.port n).rxNext := by rw [same]; exact h3
    have h4' (m : Nat) (hm : m ≠ n.val) : (w.port m).unheld = (s.port m).unheld := by rw [same]; exact h4 m hm
    split
    · exact sendFlit_sentAt 0 0 0 [] h1' h2' h3' h4' (sameWork_trans h5 worked)
    · exact State.sendBody_sentAt _ _ h1' h2' h3' h4' (sameWork_trans h5 worked)

theorem State.sendFlit_sameWork (s : State) (n type : Nat) (vc : Fin 4) (cls : Fin 2) (body : List Byte) :
    sameWork s (s.sendFlit n type vc cls body) := sameWork_refl s

theorem State.ready_nil (s : State) (n : Nat) : s.ready n [] = [] := rfl

theorem nextPkt_nil (k : Nat) : nextPkt k [] = none := by
  unfold nextPkt
  dsimp only
  rw [if_neg (fun h => h rfl), if_neg (fun h => h.2 rfl)]
  rfl

/-- With nothing queued and no test flit due, an IDLE flit is sent. -/
theorem wireFlitSendEff_idle {n : Port} (checks : List (Nat × ShellOutcome)) (linked : (s.port n).linked = true)
    (room : (s.port n).replay.length < 1024) (none : (s.port n).outQ = []) (due : (s.port n).testDue + s.rdN (portKey n 0x0D) < 1000) :
    ∃ x : PortSt, x.txNext = (s.port n).txNext ∧ wireFlitSendEff n checks s = (s.setPort n x).sendFlit n 0 0 0 [] := by
  refine ⟨{ s.port n with outQ := [], testDue := ((s.port n).testDue + s.rdN (portKey n 0x0D)) % 1000 }, rfl, ?_⟩
  unfold wireFlitSendEff
  rw [if_neg (by simp [linked]; omega), none]
  dsimp only [State.checkQueue]
  rw [if_neg (by omega), State.ready_nil, waitingPkts, if_neg (Nat.lt_irrefl _), nextPkt_nil]

/-- Settles O29: a flit received, a NAK and a flit sent, each in the states that it names. -/
theorem linkLayer : Obligations.LinkLayer := by
  refine fun n s linked => ⟨fun f fec crc seq other => exec_flitReceive_accepted linked fec crc seq other,
    fun f bad => exec_flitReceive_refused linked bad, fun next few => exec_nak_replays linked few,
    fun next same many => exec_nak_fails linked same many, fun checks room => ?_, fun checks room none due => ?_, fun checks full => ?_⟩
  · obtain ⟨w, body, tx, replay, ack, others, work⟩ := wireFlitSendEff_sentAt checks linked room
    rw [last1024_of_le (by rw [List.length_append]; exact room)] at replay
    refine ⟨_, w, body, rfl, tx, replay, ack, fun m hm => ⟨?_, ?_, ?_⟩, work⟩
    · exact (congrArg PortSt.st (others m hm) :)
    · exact (congrArg PortSt.replay (others m hm) :)
    · exact (congrArg PortSt.outQ (others m hm) :)
  · obtain ⟨x, tx, eff⟩ := wireFlitSendEff_idle checks linked room none due
    have own : (s.setPort n x).port n = x := (State.port_setPort ..).trans (if_pos rfl)
    have out : ((s.setPort n x).sendFlit n 0 0 0 []).out =
        s.out ++ [Out.flit n (x.nextLink 0 0 0) (s.port n).txNext (wireFlit [] (x.nextLink 0 0 0))] := by
      unfold State.sendFlit
      dsimp only
      rw [own, tx]
      rfl
    have base : sameWork s (s.setPort n x) := sameWork_refl s
    refine ⟨_, x.nextLink 0 0 0, congrArg s.outcome eff, rfl, out, fun m hm => ?_, sameWork_trans base (State.sendFlit_sameWork ..)⟩
    exact ((State.port_setPort ..).trans (if_neg hm)).trans ((State.port_setPort ..).trans (if_neg hm))
  · exact congrArg s.outcome (if_pos (.inr full) : wireFlitSendEff n checks s = s)

end Sys2Proof.Machine

end

section
/-! PROOFS. PACKET_ROUTE (R215 to R221), obligation O30. -/

namespace Sys2Proof.Machine

variable {s : State}

/-! ## Packets that enter, are dropped or delivered (R215 to R221) -/

theorem any_bad_eq_false {os : List ShellOutcome} (h : ∀ o ∈ os, o.bad = false) : os.any ShellOutcome.bad = false :=
  List.any_eq_false.2 fun o ho => by simp [h o ho]

theorem State.portShell_goes (s : State) (n : Nat) {os : List ShellOutcome} (h : ∀ o ∈ os, o.bad = false) : (s.portShell n os).2 = true := by
  unfold State.portShell
  dsimp only
  rw [any_bad_eq_false h]
  rfl

theorem State.leaveInput_internal (s : State) (vc : Fin 4) (cls : Fin 2) (units : Nat) : s.leaveInput 32 vc cls units = s :=
  if_neg (Nat.lt_irrefl 32)

theorem State.leaveInput_port (s : State) (inp : Nat) (vc : Fin 4) (cls : Fin 2) (units : Nat) {m : Nat} (h : m ≠ inp) :
    (s.leaveInput inp vc cls units).port m = s.port m := by
  unfold State.leaveInput
  split
  · rw [State.port_setPort, if_neg h]
  · rfl

theorem State.leaveInput_out (s : State) (inp : Nat) (vc : Fin 4) (cls : Fin 2) (units : Nat) : (s.leaveInput inp vc cls units).out = s.out := by
  unfold State.leaveInput
  split <;> rfl

theorem exec_packetRoute_self {die : Die} {pkt : Packet} (live : s.superseded = false) (typed : pkt.type.toNat < 10)
    (own : pkt.dest = s.ownAddr) (loud : s.quieted pkt.dest pkt.jobId.toNat pkt.ctxId.toNat = false) :
    exec (.packetRoute die none pkt []) s = .next ((s.emit (.packet none { pkt with
      src := s.ownAddr, srcEpoch := s.ownEpoch, hops := 0, cls := 0, age := BitVec.ofNat 32 s.ageStamp })).withQueue s) := by
  obtain ⟨q, hq⟩ : ∃ q : Packet, q = { pkt with
      src := s.ownAddr, srcEpoch := s.ownEpoch, hops := 0, cls := 0, age := BitVec.ofNat 32 s.ageStamp } := ⟨_, rfl⟩
  have typed' : q.type.toNat < 10 := by rw [hq]; exact typed
  have own' : q.dest = s.ownAddr := by rw [hq]; exact own
  have fresh : q.hops.val ≠ 15 := by rw [hq]; exact (by decide : (0 : Fin 16).val ≠ 15)
  have routed : s.routeFrom die.val 32 q [] = s.emit (.packet none q) := by
    unfold State.routeFrom
    dsimp only
    rw [if_neg (by omega), if_neg (by omega), if_pos own', State.portShell_nil]
    dsimp only
    rw [live, State.leaveInput_internal]
    rfl
  have eff : packetRouteEff die none pkt [] s = s.emit (.packet none q) := by
    rw [← routed, hq]
    unfold packetRouteEff State.injectWith
    rw [if_neg (by simp [live]), if_neg (fun both => by simp [loud] at both)]
  rw [← hq]
  exact congrArg s.outcome eff

/-- A packet dropped and counted, with the input buffer of its port alone changed. -/
theorem dropped (s : State) (n : Port) (pkt : Packet) (sub : Nat) :
    ((s.count (fabKey sub) 1).leaveInput n pkt.vc pkt.cls (pktUnits pkt)).rd (fabKey sub) = s.rd (fabKey sub) + 1#64 ∧
    ((s.count (fabKey sub) 1).leaveInput n pkt.vc pkt.cls (pktUnits pkt)).out = s.out ∧
    (∀ m, m ≠ n.val → ((s.count (fabKey sub) 1).leaveInput n pkt.vc pkt.cls (pktUnits pkt)).port m = s.port m) ∧
    (((s.count (fabKey sub) 1).leaveInput n pkt.vc pkt.cls (pktUnits pkt)).port n).outQ = (s.port n).outQ ∧
    sameWork s ((s.count (fabKey sub) 1).leaveInput n pkt.vc pkt.cls (pktUnits pkt)) := by
  refine ⟨?_, ?_, fun m hm => ?_, ?_, ?_⟩
  · rw [State.leaveInput_rd, State.rd_count, if_pos rfl]
  · rw [State.leaveInput_out, State.count_out]
  · rw [State.leaveInput_port _ _ _ _ _ hm, State.port_of_fab (State.count_fab ..)]
  · refine (congrArg Prod.snd (State.leaveInput_line ..)).trans ?_
    rw [State.port_of_fab (State.count_fab ..)]
    rfl
  · exact sameWork_trans (sameWork_of_unreported_eq (State.count_unreported ..)) (State.leaveInput_sameWork ..)

theorem packetRouteEff_stale {die : Die} {n : Port} {pkt : Packet} (shells : List ShellOutcome) {e : Epoch}
    (linked : (s.port n).linked = true) (known : s.epochOf pkt.src = some e) (newer : epochNewer e pkt.srcEpoch = true) :
    packetRouteEff die (some n) pkt shells s = (s.count (fabKey 0x0C) 1).leaveInput n pkt.vc pkt.cls (pktUnits pkt) := by
  have stopped : s.ingress pkt.src pkt.srcEpoch = (s.count (fabKey 0x0C) 1, false) := by
    rw [State.ingress, known]
    exact if_pos newer
  unfold packetRouteEff
  dsimp only
  rw [if_neg (by simp [linked]), stopped]
  rfl

section
variable {die : Die} {n : Port} {pkt : Packet} {shells : List ShellOutcome} (linked : (s.port n).linked = true)
  (unknown : s.epochOf pkt.src = none)
include linked unknown

theorem packetRouteEff_enters : packetRouteEff die (some n) pkt shells s =
    if s.role n = 1 ∧ pkt.dest ≠ s.ownAddr then s.dropUnreachable.leaveInput n pkt.vc pkt.cls (pktUnits pkt)
    else s.routeFrom (n.val / 16) n pkt shells := by
  have enters : s.ingress pkt.src pkt.srcEpoch = (s, true) := by rw [State.ingress, unknown]
  unfold packetRouteEff
  dsimp only
  rw [if_neg (by simp [linked]), enters]
  rfl

theorem packetRouteEff_unreachable (typed : pkt.type.toNat < 10) (young : pkt.hops.val < 15) (other : pkt.dest ≠ s.ownAddr)
    (none : s.role n = 1 ∨ bit (mget 0#64 s.fab.routeA (routeKey s.ownAddr pkt.dest)) 63 = false) :
    packetRouteEff die (some n) pkt shells s = (s.count (fabKey 0x0D) 1).leaveInput n pkt.vc pkt.cls (pktUnits pkt) := by
  rw [packetRouteEff_enters linked unknown]
  split
  · rfl
  next through =>
    have invalid := none.resolve_left fun tango => through ⟨tango, other⟩
    unfold State.routeFrom
    dsimp only
    rw [if_neg (by omega), if_neg (by omega), if_neg other, if_pos invalid]
    rfl

theorem packetRouteEff_queued (typed : pkt.type.toNat < 10) (young : pkt.hops.val + 2 < 16) (other : pkt.dest ≠ s.ownAddr)
    (fabric : s.role n ≠ 1) (valid : bit (mget 0#64 s.fab.routeA (routeKey s.ownAddr pkt.dest)) 63 = true)
    (good : ∀ o ∈ shells, o.bad = false) {i m : Nat}
    (chosen : s.chooseCandidate (mget 0#64 s.fab.routeA (routeKey s.ownAddr pkt.dest)) pkt = some (i, m)) :
    ∃ cls hops, packetRouteEff die (some n) pkt shells s =
      (s.portShell m shells).1.enqueue m n pkt.cls { pkt with cls := cls, hops := hops } := by
  rw [packetRouteEff_enters linked unknown, if_neg fun both => fabric both.1]
  unfold State.routeFrom
  dsimp only
  rw [if_neg (by omega), if_neg (by omega), if_neg other, if_neg (by simp [valid]), chosen]
  dsimp only
  rw [if_neg (by split <;> omega), if_pos (State.portShell_goes s m good)]
  exact ⟨_, _, rfl⟩

end

/-- Settles O30: an injected packet for this device, the three drops, and a packet queued. -/
theorem packetsAreRouted : Obligations.PacketsAreRouted := by
  refine ⟨fun die pkt s live typed own loud => exec_packetRoute_self live typed own loud, fun die n pkt shells s linked => ?_⟩
  refine ⟨fun e known newer => ?_, fun unknown typed young other => ⟨fun none => ?_, fun fabric valid good i m chosen hops => ?_⟩⟩
  · have eff := packetRouteEff_stale (die := die) shells linked known newer
    have spec := dropped s n pkt 0x0C
    generalize (s.count (fabKey 0x0C) 1).leaveInput n pkt.vc pkt.cls (pktUnits pkt) = t at eff spec
    obtain ⟨counted, out, others, queue, work⟩ := spec
    exact ⟨_, congrArg s.outcome eff, counted, out, others, queue, work⟩
  · have eff := packetRouteEff_unreachable (die := die) (shells := shells) linked unknown typed young other none
    have spec := dropped s n pkt 0x0D
    generalize (s.count (fabKey 0x0D) 1).leaveInput n pkt.vc pkt.cls (pktUnits pkt) = t at eff spec
    obtain ⟨counted, out, others, queue, work⟩ := spec
    exact ⟨_, congrArg s.outcome eff, counted, out, others, queue, work⟩
  · obtain ⟨cls, hop, eff⟩ := packetRouteEff_queued (die := die) linked unknown typed hops other fabric valid good chosen
    have port (j : Nat) : (s.portShell m shells).1.port j = s.port j := State.port_of_fab (State.portShell_fab ..) j
    have work := s.portShell_sameWork m shells
    generalize (s.portShell m shells).1 = u at eff port work
    have queued : ((u.enqueue m n pkt.cls { pkt with cls := cls, hops := hop }).port m).outQ =
        (s.port m).outQ ++ [⟨{ pkt with cls := cls, hops := hop }, n, pkt.cls, pktUnits { pkt with cls := cls, hops := hop }, 0⟩] := by
      unfold State.enqueue
      dsimp only
      rw [State.port_setPort, if_pos rfl, port]
    refine ⟨_, _, congrArg s.outcome eff, queued, rfl, rfl, rfl, rfl, fun j hj => ?_, sameWork_trans work (sameWork_refl u)⟩
    exact ((State.port_setPort ..).trans (if_neg hj)).trans (port j)

end Sys2Proof.Machine

end

section
/-! PROOFS. Epochs and routing banks (R218, R220 to R224), obligation O31. -/

namespace Sys2Proof.Machine

variable {s : State}

/-! ## Epochs and their announcements (R220 to R224) -/

/-- An announcement leaves the device and changes nothing in it. -/
theorem State.announce_frame (s : State) (a : FabAddr) (e : Epoch) (hops : Nat) (notOn : Option Nat) :
    ∃ o, s.announce a e hops notOn = { s with out := o } :=
  List.foldlRecOn (motive := fun t : State => ∃ o, t = { s with out := o }) s.fabricPorts _ ⟨s.out, rfl⟩ fun t ht n _ => by
    obtain ⟨o, rfl⟩ := ht
    split
    · exact ⟨o, rfl⟩
    · exact ⟨_, rfl⟩

theorem State.epochOf_setEpoch (s : State) (a b : FabAddr) (e : Epoch) : (s.setEpoch a e).epochOf b = if b = a then some e else s.epochOf b := by
  have key : b.toNat = a.toNat ↔ b = a := ⟨BitVec.eq_of_toNat_eq, congrArg _⟩
  change mget none (mset none s.fab.epochs a.toNat (some e)) b.toNat = _
  rw [mget_mset]
  exact if_congr key rfl rfl

theorem State.epochOf_of_fab {t : State} (h : t.fab = s.fab) (b : FabAddr) : t.epochOf b = s.epochOf b := by
  rw [State.epochOf, h]
  rfl

theorem State.superseded_of_rd {t : State} (h : t.rd (fabKey 3) = s.rd (fabKey 3)) : t.superseded = s.superseded :=
  congrArg (fun v : Word => v.toNat == 2) h

/-- An epoch that the table takes: the entry, and whether the device is superseded by it. -/
theorem State.learnEpoch_taken {a : FabAddr} {e : Epoch}
    (taken : (∃ old, s.epochOf a = some old ∧ epochNewer e old = true) ∨ (s.epochOf a = none ∧ s.fab.epochs.length < 65536)) :
    ∃ t, s.learnEpoch a e = (t, true, false) ∧ t.epochOf a = some e ∧ (∀ b, b ≠ a → t.epochOf b = s.epochOf b) ∧
      t.superseded = (s.superseded || (a == s.ownAddr && epochNewer e s.ownEpoch)) ∧ t.unreported = s.unreported := by
  have raised : s.raiseEntry a e = (s.setEpoch a e, true, false) := by
    unfold State.raiseEntry
    obtain ⟨old, known, newer⟩ | ⟨unknown, room⟩ := taken
    · rw [known]
      exact if_pos newer
    · rw [unknown]
      exact if_pos room
  have entry (b : FabAddr) := s.epochOf_setEpoch a b e
  obtain ⟨u, hu⟩ : ∃ u, u = s.setEpoch a e := ⟨_, rfl⟩
  have same : u.superseded = s.superseded := by rw [hu]; rfl
  have view : u.unreported = s.unreported := by rw [hu]; rfl
  rw [← hu] at raised entry
  unfold State.learnEpoch
  rw [raised]
  dsimp only
  rw [Bool.true_and]
  split
  next self =>
    simp only [Bool.and_eq_true, Bool.not_eq_true'] at self
    obtain ⟨⟨own, newer⟩, live⟩ := self
    obtain ⟨w, hw⟩ : ∃ w, w = u.supersede := ⟨_, rfl⟩
    have fab : w.fab = u.fab := by rw [hw, State.supersede, State.fabricEvent_fab, State.wrN_fab]
    have two : w.superseded = true := by
      have word : w.rdN (fabKey 3) = 2 := by
        rw [hw, State.supersede]
        exact (congrArg BitVec.toNat (State.fabricEvent_rd ..)).trans (u.rdN_wrN (by decide))
      rw [State.superseded, word]
      rfl
    have view' : w.unreported = u.unreported := by rw [hw]; exact State.supersede_unreported ..
    rw [← hw]
    refine ⟨w, rfl, ?_, fun b hb => ?_, ?_, view'.trans view⟩
    · rw [State.epochOf_of_fab fab, entry, if_pos rfl]
    · rw [State.epochOf_of_fab fab, entry, if_neg hb]
    · rw [two, own, newer]
      simp
  next other =>
    refine ⟨u, rfl, by rw [entry, if_pos rfl], fun b hb => by rw [entry, if_neg hb], ?_, view⟩
    rw [same]
    cases h : s.superseded
    · simp only [h, Bool.not_false, Bool.and_true, Bool.not_eq_true] at other
      rw [other]
      rfl
    · rfl

theorem State.learnEpoch_old {a : FabAddr} {e old : Epoch} (known : s.epochOf a = some old) (older : epochNewer e old = false) :
    s.learnEpoch a e = (s, false, false) := by
  have raised : s.raiseEntry a e = (s, false, false) := by
    unfold State.raiseEntry
    rw [known]
    exact if_neg (by simp [older])
  unfold State.learnEpoch
  rw [raised]
  rfl

theorem epochNewer_self (e : Epoch) : epochNewer e e = false := by
  unfold epochNewer
  rw [BitVec.sub_self]
  rfl

theorem State.ingress_current {src : FabAddr} {se : Epoch} (h : s.epochOf src = none ∨ s.epochOf src = some se) :
    s.ingress src se = (s, true) := by
  unfold State.ingress
  obtain h | h := h
  · rw [h]
  · rw [h]
    dsimp only
    rw [epochNewer_self]
    rfl

theorem State.ingress_stale {src : FabAddr} {se old : Epoch} (known : s.epochOf src = some old) (newer : epochNewer old se = true) :
    s.ingress src se = (s.count (fabKey 0x0C) 1, false) := by
  unfold State.ingress
  rw [known]
  exact if_pos newer

theorem exec_epochAnnounce_stale {n : Port} {a src : FabAddr} {e se old : Epoch} {hops : Fin 16} (known : s.epochOf src = some old)
    (newer : epochNewer old se = true) : ∃ t, exec (.epochAnnounce n a e hops src se) s = .next t ∧
      t.rd (fabKey 0x0C) = s.rd (fabKey 0x0C) + 1#64 ∧ t.fab = s.fab ∧ t.out = s.out ∧ sameWork s t := by
  have eff : epochAnnounceEff n a e hops src se s = s.count (fabKey 0x0C) 1 := by
    rw [epochAnnounceEff, State.ingress_stale known newer]
    rfl
  have word := s.rd_count (fabKey 0x0C) 1 (fabKey 0x0C)
  have fab := State.count_fab s (fabKey 0x0C) 1
  have out := State.count_out s (fabKey 0x0C) 1
  have view := State.count_unreported s (fabKey 0x0C) 1
  generalize s.count (fabKey 0x0C) 1 = t at *
  exact ⟨_, congrArg s.outcome eff, word.trans (if_pos rfl), fab, out, (sameWork_of_unreported_eq view :)⟩

theorem exec_epochAnnounce_old {n : Port} {a src : FabAddr} {e se old : Epoch} {hops : Fin 16}
    (current : s.epochOf src = none ∨ s.epochOf src = some se) (known : s.epochOf a = some old) (older : epochNewer e old = false) :
    exec (.epochAnnounce n a e hops src se) s = .next s := by
  have eff : epochAnnounceEff n a e hops src se s = s := by
    rw [epochAnnounceEff, State.ingress_current current]
    dsimp only
    rw [if_pos rfl, State.takeAnnouncement, State.learnEpoch_old known older]
    rfl
  exact congrArg s.outcome eff

theorem exec_epochAnnounce_new {n : Port} {a src : FabAddr} {e se : Epoch} {hops : Fin 16}
    (current : s.epochOf src = none ∨ s.epochOf src = some se)
    (taken : (∃ old, s.epochOf a = some old ∧ epochNewer e old = true) ∨ (s.epochOf a = none ∧ s.fab.epochs.length < 65536)) :
    ∃ t, exec (.epochAnnounce n a e hops src se) s = .next t ∧ t.epochOf a = some e ∧
      (∀ b, b ≠ a → t.epochOf b = s.epochOf b) ∧ sameWork s t ∧
      (a = s.ownAddr → epochNewer e s.ownEpoch = true → s.superseded = false → t.superseded = true) ∧
      (a ≠ s.ownAddr → t.superseded = s.superseded) := by
  obtain ⟨u, learned, entry, others, sup, view⟩ := State.learnEpoch_taken taken
  obtain ⟨o, told⟩ := u.announce_frame a e 0 (some n.val)
  have eff : epochAnnounceEff n a e hops src se s = { u with out := o } := by
    rw [epochAnnounceEff, State.ingress_current current]
    dsimp only
    rw [if_pos rfl, State.takeAnnouncement, learned]
    exact told
  refine ⟨_, congrArg s.outcome eff, entry, others, (sameWork_of_unreported_eq view :), fun own newer live => ?_, fun far => ?_⟩
  · have two : u.superseded = true := by rw [sup, own, newer]; simp
    exact two
  · have same : u.superseded = s.superseded := by
      rw [sup, beq_eq_false_iff_ne.2 far]
      simp
    exact same

/-! ## FABRIC_EPOCH and EPOCH_WRITE (R222, R223) -/

theorem exec_fabricEpochWrite_first {via : Via} {a : FabAddr} {e : Epoch} (reached : s.reaches via 0x2500 2 = true)
    (live : s.superseded = false) (own : a = s.ownAddr) (unknown : s.epochOf a = none) (first : s.fab.epochSet = false)
    (room : s.fab.epochs.length < 65536) :
    ∃ t, exec (.fabricEpochWrite via (e.zeroExtend 64)) s = .next t ∧ t.ownEpoch = e ∧ t.epochOf a = some e ∧
      t.fab.epochSet = true ∧ t.superseded = false ∧ sameWork s t := by
  subst own
  have value : (e.zeroExtend 64).toNat = e.toNat := by
    have := e.isLt
    simp only [BitVec.truncate_eq_setWidth, BitVec.toNat_setWidth]
    omega
  have back : BitVec.ofNat 16 (e.zeroExtend 64).toNat = e := by rw [value, BitVec.ofNat_toNat, BitVec.setWidth_eq]
  have raised : (s.raiseEntry s.ownAddr e).1 = s.setEpoch s.ownAddr e := by
    unfold State.raiseEntry
    rw [unknown]
    dsimp only
    rw [if_pos room]
  obtain ⟨u, hu⟩ : ∃ u, u = ((s.setEpoch s.ownAddr e).wr (fabKey 2) (e.zeroExtend 64)).modFab fun f => { f with epochSet := true } := ⟨_, rfl⟩
  obtain ⟨o, told⟩ := u.announce_frame u.ownAddr e 0 none
  have eff : fabricEpochWriteEff via (e.zeroExtend 64) s = { u with out := o } := by
    unfold fabricEpochWriteEff fabricEpochW
    dsimp only
    rw [back, unknown, if_neg (by have := e.isLt; omega), if_neg (by simp [live, first]), raised, ← hu, told]
    exact State.objWrite_ok s reached _
  have word : u.rd (fabKey 2) = e.zeroExtend 64 := by
    rw [hu]
    exact ((s.setEpoch s.ownAddr e).rd_wr (fabKey 2) (fabKey 2) _).trans (if_pos rfl)
  have state : u.rd (fabKey 3) = s.rd (fabKey 3) := by
    rw [hu]
    exact ((s.setEpoch s.ownAddr e).rd_wr (fabKey 2) (fabKey 3) _).trans (if_neg (by decide))
  have entry : u.epochOf s.ownAddr = some e := by
    rw [hu]
    exact (s.epochOf_setEpoch s.ownAddr s.ownAddr e).trans (if_pos rfl)
  have set : u.fab.epochSet = true := by rw [hu]; rfl
  have work : sameWork s u := by
    rw [hu]
    exact sameWork_trans (t := s.setEpoch s.ownAddr e) (sameWork_refl s)
      (sameWork_trans (sameWork_of_unreported_eq (State.wr_unreported (s.setEpoch s.ownAddr e) (fabKey 2) (e.zeroExtend 64))) (sameWork_refl _))
  have epoch : u.ownEpoch = e := by rw [State.ownEpoch, State.rdN, word, back]
  have live' : u.superseded = false := (State.superseded_of_rd state).trans live
  exact ⟨_, congrArg s.outcome eff, epoch, entry, set, live', work⟩

theorem exec_epochWrite_newer {via : Via} {v : Word} {a : FabAddr} {e : Epoch} (reached : s.reaches via 0x2500 8 = true)
    (addr : field v 39 16 = a.toNat) (epoch : field v 15 0 = e.toNat) (newer : ∃ old, s.epochOf a = some old ∧ epochNewer e old = true) :
    ∃ t, exec (.epochWrite via v) s = .next t ∧ t.epochOf a = some e ∧ (∀ b, b ≠ a → t.epochOf b = s.epochOf b) ∧ sameWork s t := by
  obtain ⟨u, learned, entry, others, -, view⟩ := State.learnEpoch_taken (.inl newer)
  have eff : ∃ o, epochWriteEff via v s = { u with out := o } := by
    obtain ⟨o, told⟩ := u.announce_frame a e 0 none
    unfold epochWriteEff epochWriteW
    rw [addr, epoch, BitVec.ofNat_toNat, BitVec.ofNat_toNat, BitVec.setWidth_eq, BitVec.setWidth_eq]
    dsimp only
    rw [learned]
    dsimp only
    rw [if_neg Bool.false_ne_true, told]
    split
    · exact ⟨o, State.objWrite_ok s reached _⟩
    · exact ⟨u.out, State.objWrite_ok s reached _⟩
  obtain ⟨o, eff⟩ := eff
  exact ⟨_, congrArg s.outcome eff, entry, others, (sameWork_of_unreported_eq view :)⟩

/-! ## Routing banks (R218) -/

/-- What an exchange of the banks leaves. -/
theorem State.exchangeBanks_spec (s : State) : s.exchangeBanks.fab.routeA = s.fab.routeS ∧ s.exchangeBanks.fab.routeS = s.fab.routeA ∧
    s.exchangeBanks.fab.copying = true ∧ s.exchangeBanks.rd (fabKey 6) = 0#64 ∧ sameWork s s.exchangeBanks := by
  obtain ⟨u, hu⟩ : ∃ u, u = s.modFab fun f => { f with routeA := f.routeS, routeS := f.routeA, copying := true } := ⟨_, rfl⟩
  have base : sameWork s u := by rw [hu]; exact sameWork_refl s
  have fab : u.fab = { s.fab with routeA := s.fab.routeS, routeS := s.fab.routeA, copying := true } := by rw [hu]; rfl
  rw [State.exchangeBanks, ← hu, State.wr_fab, fab]
  exact ⟨rfl, rfl, rfl, (u.rd_wr ..).trans (if_pos rfl), sameWork_trans base (sameWork_of_unreported_eq (State.wr_unreported ..))⟩

theorem exec_routeCommitBeatWrite_kept {via : Via} {v : Word} (reached : s.reaches via 0x2500 6 = true) (later : v = 0 ∨ s.beatIx < v.toNat) :
    ∃ t, exec (.routeCommitBeatWrite via v) s = .next t ∧ t.rd (fabKey 6) = v ∧ t.fab = s.fab ∧ sameWork s t := by
  have eff : routeCommitBeatWriteEff via v s = s.wr (fabKey 6) v := by
    unfold routeCommitBeatWriteEff commitBeatW
    by_cases zero : v = 0
    · rw [if_pos zero, zero]
      exact State.objWrite_ok s reached _
    · rw [if_neg zero, if_neg (Nat.not_le.2 (later.resolve_left zero))]
      exact State.objWrite_ok s reached _
  have word := (s.rd_wr (fabKey 6) (fabKey 6) v).trans (if_pos rfl)
  have fab : (s.wr (fabKey 6) v).fab = s.fab := State.wr_fab ..
  have view := State.wr_unreported s (fabKey 6) v
  generalize s.wr (fabKey 6) v = t at *
  exact ⟨_, congrArg s.outcome eff, word, fab, (sameWork_of_unreported_eq view :)⟩

theorem exec_routeCommitBeatWrite_now {via : Via} {v : Word} (reached : s.reaches via 0x2500 6 = true) (armed : v ≠ 0)
    (come : v.toNat ≤ s.beatIx) : ∃ t, exec (.routeCommitBeatWrite via v) s = .next t ∧ t.fab.routeA = s.fab.routeS ∧
      t.fab.routeS = s.fab.routeA ∧ t.fab.copying = true ∧ t.rd (fabKey 6) = 0#64 ∧ sameWork s t := by
  have eff : routeCommitBeatWriteEff via v s = s.exchangeBanks := by
    unfold routeCommitBeatWriteEff commitBeatW
    rw [if_neg armed, if_pos come]
    exact State.objWrite_ok s reached _
  have spec := s.exchangeBanks_spec
  generalize s.exchangeBanks = t at eff spec
  obtain ⟨a, b, c, word, work⟩ := spec
  exact ⟨_, congrArg s.outcome eff, a, b, c, word, work⟩

theorem exec_routeBankExchange_due (armed : s.rdN (fabKey 6) ≠ 0) (come : s.rdN (fabKey 6) ≤ s.beatIx) :
    ∃ t, exec .routeBankExchange s = .next t ∧ t.fab.routeA = s.fab.routeS ∧ t.fab.routeS = s.fab.routeA ∧ t.fab.copying = true ∧
      t.rd (fabKey 6) = 0#64 ∧ sameWork s t := by
  have eff : routeBankExchangeEff s = s.exchangeBanks := if_pos ⟨armed, come⟩
  have spec := s.exchangeBanks_spec
  generalize s.exchangeBanks = t at eff spec
  obtain ⟨a, b, c, word, work⟩ := spec
  exact ⟨_, congrArg s.outcome eff, a, b, c, word, work⟩

/-- Settles O31: announcements, the two epoch writes and the routing banks, each in the states that it names. -/
theorem epochsAndRoutes : Obligations.EpochsAndRoutes := by
  refine ⟨fun a e s => ⟨fun n hops src se => ⟨fun old known newer => exec_epochAnnounce_stale known newer,
        fun current => ⟨fun old known older => exec_epochAnnounce_old current known older, exec_epochAnnounce_new current⟩⟩,
      fun via reached live own unknown first room => exec_fabricEpochWrite_first reached live own unknown first room,
      fun via v reached addr epoch newer => exec_epochWrite_newer reached addr epoch newer⟩,
    fun s => ⟨fun via v reached => ⟨exec_routeCommitBeatWrite_kept reached, exec_routeCommitBeatWrite_now reached⟩,
      exec_routeBankExchange_due, fun idle => ?_, fun copying => ?_⟩⟩
  · have eff : routeBankExchangeEff s = s := if_neg (by omega)
    exact congrArg s.outcome eff
  · have eff : routeCopyDoneEff s = s.modFab fun f => { f with routeS := f.routeA, copying := false } := if_pos copying
    exact ⟨_, congrArg s.outcome eff, rfl, rfl, rfl, rfl, rfl, sameWork_refl s⟩

end Sys2Proof.Machine

end

section
/-! PROOFS. The distribution of the Beat (R226 to R231), obligation O32. -/

namespace Sys2Proof.Machine

variable {s : State}

/-! ## Sending the Beat -/

/-- An ACTIVE port sends the Beat and what stands with it. -/
theorem tempoSend_sent (n : Port) (active : (s.port n).st = .active) :
    ∃ (t : State) (w : LinkWord) (body : List Byte), tempoSendEff n s = t ∧ w.flitType = 2#3 ∧
      t.out = s.out ++ [Out.tempo n s.beat (s.port n).tempoRx s.sendAnn, Out.flit n w (s.port n).txNext (wireFlit body w)] ∧
      (t.port n).txNext = ((s.port n).txNext + 1) % 4096 ∧ t.beat = s.beat ∧ (∀ m, m ≠ n.val → t.port m = s.port m) ∧ sameWork s t := by
  refine ⟨_, (s.port n).nextLink 2 0 0, freeBody s.freeCtr, rfl, rfl, ?_⟩
  rw [tempoSendEff, if_pos active]
  refine ⟨?_, ?_, rfl, fun m other => ?_, sameWork_refl s⟩
  · exact List.append_assoc s.out [_] [_]
  · exact (congrArg PortSt.txNext ((State.port_setPort ..).trans (if_pos rfl))).trans (PortSt.sent_flit ..).1
  · exact (State.port_setPort ..).trans (if_neg other)

/-! ## Measuring the round trip -/

/-- What the measurement of the Beat leaves: the ports and the machine's work. -/
def MeasuredAt (s t : State) : Prop := t.fab.ports = s.fab.ports ∧ sameWork s t

theorem MeasuredAt.refl (s : State) : MeasuredAt s s := ⟨rfl, sameWork_refl s⟩

theorem MeasuredAt.trans {s t u : State} (h : MeasuredAt s t) (h' : MeasuredAt t u) : MeasuredAt s u :=
  ⟨h'.1.trans h.1, sameWork_trans h.2 h'.2⟩

theorem MeasuredAt.port {s t : State} (h : MeasuredAt s t) (m : Nat) : t.port m = s.port m := by
  rw [State.port, h.1]
  rfl

theorem State.wr_measuredAt (s : State) (k : Nat) (v : Word) : MeasuredAt s (s.wr k v) := ⟨rfl, sameWork_refl s⟩

theorem State.wrN_measuredAt (s : State) (k v : Nat) : MeasuredAt s (s.wrN k v) := ⟨rfl, sameWork_refl s⟩

theorem State.modFab_measuredAt (s : State) (f : FabricSt → FabricSt) (h : (f s.fab).ports = s.fab.ports) : MeasuredAt s (s.modFab f) :=
  ⟨h, sameWork_refl s⟩

theorem State.beat_measuredAt (s : State) (b : Nat) : MeasuredAt s { s with beat := b } := ⟨rfl, sameWork_refl s⟩

theorem State.count32Sat_measuredAt (s : State) (k n : Nat) : MeasuredAt s (s.count32Sat k n) :=
  ⟨congrArg FabricSt.ports (s.count32Sat_fab k n), sameWork_of_unreported_eq (by simp)⟩

theorem State.fabricEvent_measuredAt (s : State) : MeasuredAt s s.fabricEvent :=
  ⟨congrArg FabricSt.ports s.fabricEvent_fab, sameWork_of_unreported_eq (by simp)⟩

/-- A choice between two states that both leave the ports and the work. -/
theorem MeasuredAt.ite {s a b : State} {p : Prop} [Decidable p] (ha : MeasuredAt s a) (hb : MeasuredAt s b) :
    MeasuredAt s (if p then a else b) := by
  split
  · exact ha
  · exact hb

theorem State.noteMaster_measuredAt (s : State) (m : MasterAnn) (off : Int) : MeasuredAt s (s.noteMaster m off) := by
  unfold State.noteMaster
  dsimp only
  refine .ite (.ite (.refl s) (.ite (.refl s) ?_)) (s.modFab_measuredAt _ rfl)
  exact ((s.modFab_measuredAt _ rfl).trans (State.count32Sat_measuredAt ..)).trans (State.fabricEvent_measuredAt _)

/-- The correction of the Beat: the counter, its slew, and the state's objects. -/
theorem State.correct_measuredAt (s : State) (off : Int) (hops : Nat) : MeasuredAt s (s.correct off hops) := by
  unfold State.correct
  dsimp only
  have noted (v : Word) (w : Nat) : MeasuredAt s ((s.wr (fabKey 0x12) v).wrN (fabKey 0x18) w) := (s.wr_measuredAt _ v).trans (State.wrN_measuredAt ..)
  have stepped {t : State} (h : MeasuredAt s t) (b : Nat) : MeasuredAt s
      (({ t with beat := b }.count32Sat (fabKey 0x1A) 1).modFab fun f => { f with slew := 0, hold := 0 }) :=
    ((h.trans (t.beat_measuredAt b)).trans (State.count32Sat_measuredAt ..)).trans (State.modFab_measuredAt _ _ rfl)
  have slewed {t : State} (h : MeasuredAt s t) (f : FabricSt → FabricSt) (hf : (f t.fab).ports = t.fab.ports) : MeasuredAt s (t.modFab f) :=
    h.trans (t.modFab_measuredAt f hf)
  refine .ite (.trans ?_ (State.wrN_measuredAt ..)) ?_ <;>
    exact slewed (.ite (stepped (noted _ _) _) (.ite (slewed (noted _ _) _ rfl) (slewed (noted _ _) _ rfl))) _ rfl

theorem State.ownBeat_measuredAt (s : State) (st : Nat) : MeasuredAt s (s.ownBeat st) := ⟨rfl, sameWork_refl s⟩

theorem State.reselect_measuredAt (s : State) (forgotten : Bool) : MeasuredAt s (s.reselect forgotten) :=
  ⟨congrArg Prod.fst (s.reselect_portsBeside (k := 0) (by decide) forgotten), sameWork_of_unreported_eq (s.reselect_unreported forgotten)⟩

/-- The measurement at a port, which takes the round trip into its object and the port. -/
def State.measured (s : State) (n : Nat) (r : TempoRx) : State :=
  (s.wrN (portKey n 5) ((((r.localRx : Int) - r.localTx) - ((r.sendTime : Int) - r.partnerRx)) / 2).toNat).setPort n
    { s.port n with tempoRx := r.localRx }

theorem State.measured_port (s : State) (n : Nat) (r : TempoRx) (m : Nat) :
    (s.measured n r).port m = if m = n then { s.port n with tempoRx := r.localRx } else s.port m := State.port_setPort ..

theorem State.measured_role (s : State) (n : Nat) (r : TempoRx) (m : Nat) : (s.measured n r).role m = s.role m := by
  have key : portKey m 1 ≠ portKey n 5 := by
    simp only [portKey, objKey]
    omega
  exact State.rdN_wrN_ne s _ key

theorem State.measured_sameWork (s : State) (n : Nat) (r : TempoRx) : sameWork s (s.measured n r) := sameWork_refl s

theorem tempoReceive_measured {n : Port} {r : TempoRx} (active : (s.port n).st = .active) (away : s.role n ≠ 0) :
    tempoReceiveEff n r s = s.measured n r := by
  have role : ¬ (s.measured n r).role n = 0 := by rwa [s.measured_role n r n]
  unfold tempoReceiveEff
  rw [if_neg (not_not_intro active)]
  exact if_pos role

/-- At a fabric port the announcement is noted, a master chosen, and the Beat corrected where its source stands. -/
theorem tempoReceive_measuredAt {n : Port} {r : TempoRx} (active : (s.port n).st = .active) (fabric : s.role n = 0) :
    MeasuredAt (s.measured n r) (tempoReceiveEff n r s) := by
  have role : ¬ (s.measured n r).role n ≠ 0 := by rw [s.measured_role n r n]; exact not_not_intro fabric
  unfold tempoReceiveEff
  rw [if_neg (not_not_intro active)]
  rw [State.measured] at role ⊢
  dsimp only
  rw [if_neg role]
  generalize State.setPort (s.wrN (portKey n 5) _) n _ = t at *
  have chosen (u : State) (hu : MeasuredAt t u) (off : Int) : MeasuredAt t
      (if (u.reselect false).fab.source = some n.val then (u.reselect false).correct off ((u.reselect false).rdN (fabKey 0x13)) else u.reselect false) := by
    have h := hu.trans (u.reselect_measuredAt false)
    exact .ite (h.trans (State.correct_measuredAt ..)) h
  cases r.ann with
  | none => exact chosen t (.refl t) _
  | some a =>
    refine chosen _ (.ite (.refl t) ?_) _
    exact (t.modFab_measuredAt _ rfl).trans (State.noteMaster_measuredAt ..)

/-! ## Announcements, sources and edges -/

theorem State.ownBeat_heard (s : State) (st : Nat) : (s.ownBeat st).fab.heard = s.fab.heard := rfl

theorem State.enterHoldover_heard (s : State) : s.enterHoldover.fab.heard = s.fab.heard := rfl

theorem State.followPort_heard (s : State) (m : MasterAnn) (n h : Nat) : (s.followPort m n h).fab.heard = s.fab.heard := by
  unfold State.followPort
  split <;> rfl

theorem State.reselect_heard (s : State) (forgotten : Bool) : (s.reselect forgotten).fab.heard = s.fab.heard := by
  unfold State.reselect
  dsimp only
  split
  · split
    · split
      · exact s.enterHoldover_heard
      · rfl
    · exact s.ownBeat_heard _
  · split
    · split
      · exact s.ownBeat_heard _
      · split
        · split
          · exact s.enterHoldover_heard
          · rfl
        · split
          · rfl
          · exact s.ownBeat_heard _
    · split
      · exact s.ownBeat_heard _
      · split
        · exact s.followPort_heard ..
        · rfl

section
variable {n : Nat} {h : Heard} (only : s.fab.heard = [(n, some h)])
include only

theorem masterAnnouncementTimeout_forgets (old : h.at_ + 128 ≤ s.beatIx) :
    (masterAnnouncementTimeoutEff h.ann.addr h.ann.serial s).fab.heard = [] := by
  have fresh : ¬ s.beatIx < h.at_ + 128 := by omega
  unfold masterAnnouncementTimeoutEff
  dsimp only
  rw [if_neg (by simp [only, fresh]), State.reselect_heard]
  simp [State.modFab, only]

theorem masterAnnouncementTimeout_keeps (fresh : s.beatIx < h.at_ + 128) :
    masterAnnouncementTimeoutEff h.ann.addr h.ann.serial s = s := by
  unfold masterAnnouncementTimeoutEff
  dsimp only
  rw [if_pos (by simp [only, fresh])]

end

theorem masterAnnouncementTimeout_sameWork (s : State) (a : FabAddr) (serial : Word) : sameWork s (masterAnnouncementTimeoutEff a serial s) := by
  unfold masterAnnouncementTimeoutEff
  dsimp only
  split
  · exact sameWork_refl s
  · exact ((s.modFab_measuredAt _ rfl).trans (State.reselect_measuredAt ..)).2

theorem State.enterHoldover_beatState (s : State) : s.enterHoldover.beatState = bsHoldover := 
  State.rdN_wrN (s.shadowAdd (fabKey 0xFE) 1) (k := fabKey 0x10) (v := bsHoldover) (by decide)

theorem State.enterHoldover_sameWork (s : State) : sameWork s s.enterHoldover := sameWork_refl s

theorem State.heardPorts_nil (none : s.fab.heard = []) : s.heardPorts = [] := by simp [State.heardPorts, State.heardAnns, none]

section
variable {n : Nat} (source : s.fab.source = some n) (locked : s.wasLocked = true)
include source

include locked in
theorem holdoverEntry_enters (silent : s.fab.lastSrc + 64 ≤ s.beatIx) (none : s.fab.heard = []) : holdoverEntryEff s = s.enterHoldover := by
  unfold holdoverEntryEff
  rw [source]
  dsimp only
  rw [if_pos ⟨locked, silent⟩, State.heardPorts_nil none]
  rfl

theorem holdoverEntry_waits (recent : s.beatIx < s.fab.lastSrc + 64) : holdoverEntryEff s = s := by
  unfold holdoverEntryEff
  rw [source]
  exact if_neg fun due => Nat.not_lt.mpr due.2 recent

end

section
variable (master : s.beatState = bsMaster) (enabled : s.rdN (fabKey 0x19) ≠ 0)
include master enabled

theorem timePpsEdge_taken (near : s.fab.pps = false ∨ (ppsSlew s.beat).natAbs ≤ 1000000) :
    timePpsEdgeEff s = s.modFab fun f => { f with pps := true, slew := ppsSlew s.beat } := by
  unfold timePpsEdgeEff
  rw [if_neg (not_or.mpr ⟨not_not_intro master, enabled⟩)]
  exact if_pos near

theorem timePpsEdge_far (seen : s.fab.pps = true) (far : 1000000 < (ppsSlew s.beat).natAbs) : timePpsEdgeEff s = s := by
  unfold timePpsEdgeEff
  rw [if_neg (not_or.mpr ⟨not_not_intro master, enabled⟩)]
  exact if_neg fun h => h.elim (by simp [seen]) (Nat.not_le.mpr far)

end

/-- Settles O32: an ACTIVE port sends and measures the Beat, old announcements are forgotten, a silent source leads to HOLDOVER, and the
edges of TIME_PPS set a master's slew. -/
theorem tempoKeepsTime : Obligations.TempoKeepsTime := by
  intro s
  refine ⟨fun n => ⟨fun active => ?_, fun idle => congrArg s.outcome (if_neg idle)⟩, fun n r active away => ?_, fun n r active fabric => ?_,
    fun a serial h n only addr ser => ?_, fun n source locked => ⟨fun silent none => ?_, fun recent => ?_⟩,
    fun master enabled => ⟨fun near => ?_, fun seen far => ?_⟩, fun seen => ?_, fun other => congrArg s.outcome (if_pos (.inl other))⟩
  · obtain ⟨t, w, body, eff, facts⟩ := tempoSend_sent n active
    exact ⟨_, w, body, congrArg s.outcome eff, facts⟩
  · refine ⟨_, congrArg s.outcome (tempoReceive_measured active away), congrArg PortSt.tempoRx ((s.measured_port ..).trans (if_pos rfl)), ?_, rfl,
      s.measured_sameWork n r⟩
    exact (State.rd_wr ..).trans (if_pos rfl)
  · have rest := tempoReceive_measuredAt (r := r) active fabric
    refine ⟨_, rfl, ?_, fun m other => ?_, sameWork_trans (s.measured_sameWork n r) rest.2⟩
    · exact congrArg PortSt.tempoRx ((rest.port n).trans ((s.measured_port ..).trans (if_pos rfl)))
    · exact (rest.port m).trans ((s.measured_port ..).trans (if_neg other))
  · subst addr ser
    exact ⟨fun old => ⟨_, rfl, masterAnnouncementTimeout_forgets only old, masterAnnouncementTimeout_sameWork ..⟩,
      fun fresh => congrArg s.outcome (masterAnnouncementTimeout_keeps only fresh)⟩
  · exact ⟨_, congrArg s.outcome (holdoverEntry_enters source locked silent none), s.enterHoldover_beatState, rfl, rfl, rfl, s.enterHoldover_sameWork⟩
  · exact congrArg s.outcome (holdoverEntry_waits source recent)
  · exact ⟨_, congrArg s.outcome (timePpsEdge_taken master enabled near), rfl, rfl, rfl, rfl, sameWork_refl s⟩
  · exact congrArg s.outcome (timePpsEdge_far master enabled seen far)
  · exact ⟨_, congrArg s.outcome (if_pos seen), rfl, rfl, rfl, rfl, sameWork_refl s⟩

end Sys2Proof.Machine

end

section
/-! PROOFS. Job slots (R234 to R236, R269), obligation O33. -/

namespace Sys2Proof.Machine

variable {s : State}

/-! ## The objects of a job slot -/

theorem jsKey_ne (j : Nat) {a b : Nat} (h : a ≠ b) : jsKey j a ≠ jsKey j b := by
  simp only [jsKey, objKey]
  omega

theorem jsKey_ne_of_ne {i j a b : Nat} (h : i ≠ j) (ha : a < 256) (hb : b < 256) : jsKey i a ≠ jsKey j b := by
  simp only [jsKey, jsIx, objKey]
  omega

theorem jsKey_ne_storeKey (i : Nat) {a : Nat} (j : JobSlot) (ha : a < 256) : jsKey i a ≠ storeKey j := by
  simp only [jsKey, jsIx, storeKey, objKey]
  omega

theorem State.rdN_setCs (s : State) (j : Nat) (x : CollSlot) (k : Nat) : (s.setCs j x).rdN k = s.rdN k := rfl

theorem State.setCs_sameWork (s : State) (j : Nat) (x : CollSlot) : sameWork s (s.setCs j x) := sameWork_refl s

theorem State.wrN_sameWork (s : State) (k v : Nat) : sameWork s (s.wrN k v) := sameWork_refl s

/-! ## Assignment -/

/-- An identifier written: the slot is IDLE, or UNASSIGNED where it is none. -/
def State.assigned (s : State) (j id : Nat) : State := (s.wrN (jsKey j 1) id).wrN (jsKey j 4) (if id = 0xFFF then 0 else 1)

theorem jobIdW_assigned {via : Via} {j : Nat} {v : Word} (priv : viaPriv via = true) (inactive : s.jsState j < 2)
    (free : v.toNat % 4096 = 0xFFF ∨ ∀ i < 128, i ≠ j → s.rdN (jsKey i 1) ≠ v.toNat % 4096) :
    jobIdW s via j v = .ok (s.assigned j (v.toNat % 4096)) := by
  have unique : ¬ (v.toNat % 4096 ≠ 0xFFF ∧
      ((List.range 128).any fun i => decide (i ≠ j) && s.rdN (jsKey i 1) == v.toNat % 4096) = true) := by
    rintro ⟨named, taken⟩
    simp only [List.any_eq_true, List.mem_range, Bool.and_eq_true, decide_eq_true_eq, beq_iff_eq] at taken
    obtain ⟨i, low, other, same⟩ := taken
    exact free.elim named fun none => none i low other same
  unfold jobIdW
  dsimp only
  rw [if_neg (by simp [priv]), if_neg (Nat.not_le.mpr inactive), if_neg unique]
  rfl

theorem State.assigned_id (s : State) (j : Nat) {id : Nat} (low : id < 4096) : (s.assigned j id).rdN (jsKey j 1) = id :=
  (State.rdN_wrN_ne _ _ (jsKey_ne j (by decide))).trans (State.rdN_wrN _ (by omega))

theorem State.assigned_state (s : State) (j id : Nat) : (s.assigned j id).jsState j = if id = 0xFFF then 0 else 1 :=
  State.rdN_wrN _ (by split <;> decide)

theorem State.assigned_others (s : State) {i j : Nat} (id : Nat) (h : i ≠ j) : (s.assigned j id).jsState i = s.jsState i :=
  (State.rdN_wrN_ne _ _ (jsKey_ne_of_ne h (by decide) (by decide))).trans
    (State.rdN_wrN_ne _ _ (jsKey_ne_of_ne h (by decide) (by decide)))

theorem State.assigned_sameWork (s : State) (j id : Nat) : sameWork s (s.assigned j id) := sameWork_refl s

/-! ## Enabling -/

/-- The store that an enabled slot reserves. -/
def State.slotNeed (s : State) (j : Nat) : Nat := storeNeed (s.rdN (jsKey j 7)) (s.rdN (jsKey j 8)) (s.window j)

/-- A slot's member table as it lies in memory. -/
def State.memberTable (s : State) (j : Nat) : List Nat :=
  (List.range (s.rdN (jsKey j 8))).map fun i => s.mem.readLE (s.rdN (jsKey j 9) + 4 * i) 4

/-- A slot enabled: ACTIVE with its store reserved and its members taken. -/
def State.enabled (s : State) (j : Nat) : State :=
  (((((s.wrN (jsKey j 4) 2).wrN (jsKey j 0x12) (s.slotNeed j)).wrN (storeKey j) (s.rdN (storeKey j) - s.slotNeed j)).setCs j
    { CollSlot.reset with members := s.memberTable j, deadlines := (s.cs j).deadlines, records := (s.cs j).records }))

theorem slotEnableW_enabled {j : JobSlot} (idle : s.jsState j = 1) (rank : s.rdN (jsKey j 7) < s.rdN (jsKey j 8))
    (table : s.inGroupHbm (s.holder j) (s.rdN (jsKey j 9)) (4 * s.rdN (jsKey j 8)) = true)
    (own : entryAddrOf (s.mem.readLE (s.rdN (jsKey j 9) + 4 * s.rdN (jsKey j 7)) 4) = s.ownAddr.toNat)
    (hard : s.rdN (jsKey j 0x0D) * (treeLevels (s.rdN (jsKey j 8)) + 1) ≤ s.rdN (jsKey j 0x0E))
    (room : s.slotNeed j ≤ s.rdN (storeKey j)) (staging : s.staged j = true → s.rdN (jsKey j 0x0B) ≠ 0) :
    slotEnableW s j = .ok (s.enabled j) := by
  have store : ((s.wrN (jsKey j 4) 2).wrN (jsKey j 0x12) (s.slotNeed j)).rdN (storeKey j) = s.rdN (storeKey j) :=
    (State.rdN_wrN_ne _ _ (jsKey_ne_storeKey j j (by decide)).symm).trans (State.rdN_wrN_ne _ _ (jsKey_ne_storeKey j j (by decide)).symm)
  unfold slotEnableW
  dsimp only
  rw [if_neg]
  · rw [State.enabled, ← store]
    rfl
  · rintro (h | h | h | h | h | h | ⟨h, h'⟩)
    · exact h idle
    · exact Nat.not_le.mpr rank h
    · rw [table] at h
      exact Bool.noConfusion h
    · exact h own
    · exact Nat.not_lt.mpr hard h
    · exact Nat.not_lt.mpr room h
    · exact staging h h'

theorem State.enabled_state (s : State) (j : JobSlot) : (s.enabled j).jsState j = 2 := by
  rw [State.enabled, State.jsState, State.rdN_setCs, State.rdN_wrN_ne _ _ (jsKey_ne_storeKey j j (by decide)),
    State.rdN_wrN_ne _ _ (jsKey_ne j (by decide)), State.rdN_wrN _ (by decide)]

theorem State.enabled_store (s : State) (j : Nat) : (s.enabled j).rdN (storeKey j) = s.rdN (storeKey j) - s.slotNeed j := by
  rw [State.enabled, State.rdN_setCs, State.rdN_wrN _ (Nat.lt_of_le_of_lt (Nat.sub_le ..) (s.rdN_lt _))]

theorem State.enabled_cs (s : State) (j i : Nat) : (s.enabled j).cs i = if i = j then
    { CollSlot.reset with members := s.memberTable j, deadlines := (s.cs j).deadlines, records := (s.cs j).records } else s.cs i :=
  State.cs_setCs _ j i _

theorem State.enabled_sameWork (s : State) (j : Nat) : sameWork s (s.enabled j) :=
  sameWork_trans (sameWork_trans (sameWork_trans (s.wrN_sameWork ..) (State.wrN_sameWork ..)) (State.wrN_sameWork ..)) (State.setCs_sameWork ..)

/-! ## Release -/

theorem slotReleaseW_releases {j : Nat} (active : s.jsState j = 2) : slotReleaseW s j = .ok ((s.releaseSlot j).wrN (jsKey j 4) 3) :=
  if_neg (not_not_intro active)

theorem slotReleaseW_refused {j : Nat} (other : s.jsState j ≠ 2) : slotReleaseW s j = .error .state := if_pos other

/-- A released slot: UNASSIGNED, with its store given back. -/
def State.unassigned (s : State) (j : Nat) : State :=
  ((((s.wrN (storeKey j) (s.rdN (storeKey j) + s.rdN (jsKey j 0x12))).wrN (jsKey j 4) 0).wrN (jsKey j 0x12) 0).wrN (jsKey j 1) 0xFFF).setCs j
    { CollSlot.reset with records := (s.cs j).records, finished := (s.cs j).finished, refusals := (s.cs j).refusals }

theorem slotReleaseDone_unassigned {j : JobSlot} (releasing : s.jsState j = 3) : slotReleaseDoneEff j s = s.unassigned j :=
  if_neg (not_not_intro releasing)

theorem State.unassigned_state (s : State) (j : Nat) : (s.unassigned j).jsState j = 0 := by
  rw [State.unassigned, State.jsState, State.rdN_setCs, State.rdN_wrN_ne _ _ (jsKey_ne j (by decide)),
    State.rdN_wrN_ne _ _ (jsKey_ne j (by decide)), State.rdN_wrN _ (by decide)]

theorem State.unassigned_id (s : State) (j : Nat) : (s.unassigned j).rdN (jsKey j 1) = 0xFFF := by
  rw [State.unassigned, State.rdN_setCs, State.rdN_wrN _ (by decide)]

theorem State.unassigned_store (s : State) (j : JobSlot) (small : s.rdN (storeKey j) + s.rdN (jsKey j 0x12) < 2 ^ 64) :
    (s.unassigned j).rdN (storeKey j) = s.rdN (storeKey j) + s.rdN (jsKey j 0x12) := by
  have apart {a : Nat} (h : a < 256) : storeKey j ≠ jsKey j a := (jsKey_ne_storeKey j j h).symm
  rw [State.unassigned, State.rdN_setCs, State.rdN_wrN_ne _ _ (apart (by decide)), State.rdN_wrN_ne _ _ (apart (by decide)),
    State.rdN_wrN_ne _ _ (apart (by decide)), State.rdN_wrN _ small]

theorem State.unassigned_cs (s : State) (j i : Nat) : (s.unassigned j).cs i = if i = j then
    { CollSlot.reset with records := (s.cs j).records, finished := (s.cs j).finished, refusals := (s.cs j).refusals } else s.cs i :=
  State.cs_setCs _ j i _

theorem State.unassigned_sameWork (s : State) (j : Nat) : sameWork s (s.unassigned j) :=
  sameWork_trans (sameWork_trans (sameWork_trans (sameWork_trans (s.wrN_sameWork ..) (State.wrN_sameWork ..)) (State.wrN_sameWork ..))
    (State.wrN_sameWork ..)) (State.setCs_sameWork ..)

/-- Settles O33: an identifier makes a slot IDLE, ENABLE takes its table and reserves its store, and its release gives the store back. -/
theorem jobSlots : Obligations.JobSlots := by
  intro j s
  refine ⟨fun via v reached priv inactive free => ?_, fun via reached idle rank table own hard room staging => ?_,
    fun via reached => ⟨fun active => ?_, fun other => ?_⟩, fun releasing small => ?_, fun other => congrArg s.outcome (if_pos other)⟩
  · have eff : jobSlotAssignEff via j v s = s.assigned j (v.toNat % 4096) := by
      rw [jobSlotAssignEff, jobIdW_assigned priv inactive free, State.objWrite_ok s reached]
    have id := s.assigned_id j (Nat.mod_lt v.toNat (show 4096 > 0 by decide))
    have state := s.assigned_state j (v.toNat % 4096)
    have others (i : JobSlot) (h : i ≠ j) := s.assigned_others (i := i) (j := j) (v.toNat % 4096) (Fin.val_ne_of_ne h)
    exact ⟨_, congrArg s.outcome eff, id, state, others, rfl, s.assigned_sameWork ..⟩
  · have eff : slotEnableEff via j s = s.enabled j := by
      rw [slotEnableEff, slotEnableW_enabled idle rank table own hard room staging, State.objWrite_ok s reached]
    have self := (s.enabled_cs j j).trans (if_pos rfl)
    have others (i : Nat) (other : i ≠ j.val) := (s.enabled_cs j i).trans (if_neg other)
    have active := s.enabled_state j
    have store := s.enabled_store j
    have worked := s.enabled_sameWork j
    generalize s.enabled j = t at *
    exact ⟨_, congrArg s.outcome eff, active, store, congrArg CollSlot.members self, congrArg CollSlot.ctxs self, others, worked⟩
  · have eff : slotReleaseEff via j s = (s.releaseSlot j).wrN (jsKey j 4) 3 := by
      rw [slotReleaseEff, slotReleaseW_releases active, State.objWrite_ok s reached]
    exact ⟨_, congrArg s.outcome eff, State.rdN_wrN _ (by decide)⟩
  · obtain ⟨h, frame⟩ := s.objWrite_error_frame via (jsIx j) 3 .state
    have eff : slotReleaseEff via j s = { s with host := h } := by rw [slotReleaseEff, slotReleaseW_refused other, frame]
    exact ⟨_, congrArg s.outcome eff, rfl, rfl, sameWork_refl s⟩
  · have eff := slotReleaseDone_unassigned releasing
    have self := (s.unassigned_cs j j).trans (if_pos rfl)
    have others (i : Nat) (other : i ≠ j.val) := (s.unassigned_cs j i).trans (if_neg other)
    have inactive := s.unassigned_state j
    have id := s.unassigned_id j
    have store := s.unassigned_store j small
    have records : ((s.unassigned j).cs j).records = (s.cs j).records := by rw [self]
    have worked := s.unassigned_sameWork j
    generalize s.unassigned j = t at *
    exact ⟨_, congrArg s.outcome eff, inactive, id, store, congrArg CollSlot.ctxs self, congrArg CollSlot.reels self,
      congrArg CollSlot.members self, records, others, worked⟩

end Sys2Proof.Machine

end

section
/-! PROOFS. Chip resets and power cycles (R343, R344, R349, R453), obligation O46. -/

namespace Sys2Proof.Machine

variable {s : State}

/-! ## What a reset of the device leaves -/

/-- A device whose tables, cores, channels and fabric stand at their reset values. -/
structure State.Cleared (t : State) : Prop where
  mem : t.mem = State.reset.mem
  cores : t.cores = []
  progs : t.progs = []
  ctxs : t.ctxs = []
  slots : t.slots = []
  launches : t.launches = []
  versions : t.versions = []
  fences : t.fences = []
  dma : t.dma = []
  coll : t.coll = []
  fab : t.fab = .reset
  tango : t.tango = .reset
  loaders : t.loaders = []

/-- What is reported leaves a cleared device cleared. -/
theorem State.Cleared.of_view {t u : State} (h : t.Cleared) (view : u.unreported = t.unreported) (fab : u.fab = t.fab) : u.Cleared := by
  have kept {α : Type} (f : State → α) : f u.unreported = f t.unreported := congrArg f view
  have coll : u.coll = t.coll := kept State.coll
  have tango : u.tango = t.tango := kept State.tango
  have loaders : u.loaders = t.loaders := kept State.loaders
  obtain ⟨cores, mem, progs, ctxs, slots, launches, versions, fences, dma⟩ := sameWork_of_unreported_eq view
  exact ⟨mem.trans h.mem, cores.trans h.cores, progs.trans h.progs, ctxs.trans h.ctxs, slots.trans h.slots, launches.trans h.launches,
    versions.trans h.versions, fences.trans h.fences, dma.trans h.dma, coll.trans h.coll, fab.trans h.fab, tango.trans h.tango,
    loaders.trans h.loaders⟩

theorem State.deviceReset_cleared (s : State) : s.deviceReset.Cleared := by
  obtain ⟨m, obj, h, hang, sec, pow, eq⟩ := s.deviceReset_frame
  rw [eq]
  exact ⟨rfl, rfl, rfl, rfl, rfl, rfl, rfl, rfl, rfl, rfl, rfl, rfl, rfl⟩

theorem loadSaved_beside (l : List (Nat × Word)) (t : State) : (loadSaved l t).beat = t.beat ∧ (loadSaved l t).hang = t.hang ∧
    (loadSaved l t).pow = t.pow := by
  obtain ⟨o, h, eq⟩ := loadSaved_frame l t
  rw [eq]
  exact ⟨rfl, rfl, rfl⟩

theorem loadSaved_rd {k : Nat} : ∀ (l : List (Nat × Word)) (t : State), (∀ kv ∈ l, kv.1 ≠ k) → (loadSaved l t).rd k = t.rd k
  | [], _, _ => rfl
  | (j, v) :: l, t, apart => by
    obtain ⟨first, rest⟩ := List.forall_mem_cons.mp apart
    unfold loadSaved
    dsimp only
    rw [loadSaved_rd l _ rest]
    split
    · rfl
    · exact (State.rd_wr ..).trans (if_neg fun here => first here.symm)

/-- A reset keeps the beat, the mode of the power and the log of the ladder. -/
theorem State.deviceReset_beside (s : State) : s.deviceReset.beat = s.beat ∧ s.deviceReset.hang.log = s.hang.log ∧
    s.deviceReset.pow.mode = s.pow.mode := by
  unfold State.deviceReset
  dsimp only
  generalize List.filter _ _ = l
  obtain ⟨beat, hang, pow⟩ := loadSaved_beside l _
  rw [beat, hang, pow]
  exact ⟨rfl, rfl, rfl⟩

theorem State.deviceReset_rd {k : Nat} (s : State) (kept : chipKept k = true) (unsaved : ∀ kv ∈ s.mgmt.savedValues, kv.1 ≠ k) :
    s.deviceReset.rd k = s.rd k := by
  unfold State.deviceReset
  dsimp only
  refine (loadSaved_rd _ _ fun kv mem => unsaved kv (List.mem_of_mem_filter mem)).trans ?_
  exact (mget_filter_key _ chipKept k s.obj).trans (if_pos kept)

/-- Only the power state is another: the device is still cleared. -/
theorem State.Cleared.cycleRequest {t : State} (h : t.Cleared) (on : Bool) : (t.cycleRequest on).Cleared :=
  ⟨h.1, h.2, h.3, h.4, h.5, h.6, h.7, h.8, h.9, h.10, h.11, h.12, h.13⟩

/-! ## A chip reset -/

theorem rKey_ne {a b : Nat} (h : a ≠ b) : rKey a ≠ rKey b := by
  simp only [rKey, objKey]
  omega

theorem State.count32_mgmt (s : State) (k n : Nat) : (s.count32 k n).mgmt = s.mgmt := by
  unfold State.count32 State.shadowOf
  split <;> rfl

theorem State.count32_hang (s : State) (k n : Nat) : (s.count32 k n).hang = s.hang := by
  unfold State.count32 State.shadowOf
  split <;> rfl

theorem State.rd_count32_ne (s : State) {k j : Nat} (n : Nat) (h : j ≠ k) : (s.count32 k n).rd j = s.rd j := by
  unfold State.count32
  rw [State.wrN_eq, State.rd_wr, if_neg h]
  unfold State.shadowOf
  split <;> rfl

theorem State.hangLog_head (s : State) (e : HangEntry) : (s.hangLog e).hang.log.head? = some e :=
  congrArg (fun h : HangSt => h.log.head?) (State.count32_hang ..)

theorem State.hangLog_mgmt (s : State) (e : HangEntry) : (s.hangLog e).mgmt = s.mgmt := State.count32_mgmt ..

theorem State.hangLog_rd (s : State) (e : HangEntry) {k : Nat} (h : k ≠ rKey 9) : (s.hangLog e).rd k = s.rd k :=
  State.rd_count32_ne _ 1 h

theorem State.hangLog_unreported (s : State) (e : HangEntry) : (s.hangLog e).unreported =
    (s.modHang fun h => { h with log := (e :: h.log).take 32 }).unreported := by
  rw [State.hangLog, State.count32_unreported]

theorem State.Cleared.hangLog {t : State} (h : t.Cleared) (e : HangEntry) : (t.hangLog e).Cleared := by
  have logged : (t.modHang fun x => { x with log := (e :: x.log).take 32 }).Cleared :=
    ⟨h.1, h.2, h.3, h.4, h.5, h.6, h.7, h.8, h.9, h.10, h.11, h.12, h.13⟩
  exact logged.of_view (t.hangLog_unreported e) (State.count32_fab ..)

/-- The cause and the count of a reset, and what READINESS showed before it. -/
def State.resetNoted (s : State) (cause ready : Nat) : State :=
  (((s.wrN (rKey 2) cause).count32Sat (rKey 3) 1).wrN (objKey 0x1000 0x31) 0).wrN (objKey 0x1000 0x30) ready

theorem State.resetNoted_unreported (s : State) (cause ready : Nat) : (s.resetNoted cause ready).unreported = s.unreported := by
  simp [State.resetNoted]

theorem State.resetNoted_mode {s : State} (cause ready : Nat) (on : s.pow.mode = .on) : (s.resetNoted cause ready).pow.mode ≠ .tripped := by
  rw [State.pow_of_unreported (s.resetNoted_unreported cause ready), on]
  decide

/-- A chip reset, on a device that is on: the tables are cleared, the cause noted and the reset counted. -/
theorem State.chipReset_eq (cause : Nat) (e : HangEntry) (on : s.pow.mode = .on) :
    ∃ sec ready, s.chipReset cause e = ({ (s.hangLog e).deviceReset with sec := sec }.resetNoted cause ready).setReadiness 0 := by
  have mode : (s.hangLog e).deviceReset.pow.mode = .on := by
    have logged : (s.hangLog e).pow = s.pow := (State.pow_of_unreported (s.hangLog_unreported e) :)
    rw [(State.deviceReset_beside _).2.2, logged, on]
  have running : ¬ s.pow.mode = .off := by rw [on]; decide
  unfold State.chipReset
  rw [if_neg running]
  dsimp only
  generalize (s.hangLog e).deviceReset = t at *
  generalize (s.hangLog e).readiness = ready
  have noted (sec : SecSt) : (State.resetNoted { t with sec := sec } cause ready).pow.mode ≠ .tripped := State.resetNoted_mode cause ready mode
  split
  · split
    · exact ⟨_, ready, if_neg (noted _)⟩
    · exact ⟨_, ready, if_neg (noted _)⟩
  · exact ⟨t.sec, ready, if_neg (noted _)⟩

section
variable {cause : Nat} {e : HangEntry} (on : s.pow.mode = .on)
include on

theorem State.chipReset_cleared : (s.chipReset cause e).Cleared := by
  obtain ⟨sec, ready, eq⟩ := State.chipReset_eq cause e on
  have reset := (s.hangLog e).deviceReset_cleared
  rw [eq]
  generalize (s.hangLog e).deviceReset = t at *
  have with_sec : State.Cleared { t with sec := sec } := ⟨reset.1, reset.2, reset.3, reset.4, reset.5, reset.6, reset.7, reset.8, reset.9,
    reset.10, reset.11, reset.12, reset.13⟩
  exact with_sec.of_view (by simp [State.resetNoted_unreported]) (by simp [State.resetNoted])

theorem State.chipReset_readiness : (s.chipReset cause e).readiness = 0 := by
  obtain ⟨sec, ready, eq⟩ := State.chipReset_eq cause e on
  rw [eq, State.setReadiness_readiness _ (by decide)]

theorem State.chipReset_cause (small : cause < 2 ^ 64) : (s.chipReset cause e).rdN (rKey 2) = cause := by
  obtain ⟨sec, ready, eq⟩ := State.chipReset_eq cause e on
  rw [eq, State.rdN_eq, State.setReadiness_rd _ (by decide), State.resetNoted, State.rd_wrN_ne _ _ (by decide), State.rd_wrN_ne _ _ (by decide),
    State.rd_count32Sat_ne _ _ (by decide)]
  exact State.rdN_wrN _ small

theorem State.chipReset_jobs : (s.chipReset cause e).rdN (objKey 0x1000 0x31) = 0 := by
  obtain ⟨sec, ready, eq⟩ := State.chipReset_eq cause e on
  rw [eq, State.rdN_eq, State.setReadiness_rd _ (by decide), State.resetNoted, State.rd_wrN_ne _ _ (by decide)]
  exact State.rdN_wrN _ (by decide)

theorem State.chipReset_counted (unsaved : ∀ kv ∈ s.mgmt.savedValues, kv.1 ≠ rKey 3) :
    (s.chipReset cause e).rdN (rKey 3) = min (s.rdN (rKey 3) + 1) (2 ^ 32 - 1) := by
  obtain ⟨sec, ready, eq⟩ := State.chipReset_eq cause e on
  have before : (s.hangLog e).deviceReset.rdN (rKey 3) = s.rdN (rKey 3) :=
    congrArg BitVec.toNat (((s.hangLog e).deviceReset_rd rfl (by rwa [s.hangLog_mgmt e])).trans (s.hangLog_rd e (rKey_ne (by decide))))
  rw [eq, State.rdN_eq, State.setReadiness_rd _ (by decide), State.resetNoted, State.rd_wrN_ne _ _ (by decide), State.rd_wrN_ne _ _ (by decide),
    ← State.rdN_eq, State.rdN_count32Sat, State.rdN_wrN_ne _ _ (by decide), ← before]
  rfl

theorem State.chipReset_beside : (s.chipReset cause e).beat = s.beat ∧ (s.chipReset cause e).hang.log.head? = some e := by
  obtain ⟨sec, ready, eq⟩ := State.chipReset_eq cause e on
  obtain ⟨beat, log, _⟩ := (s.hangLog e).deviceReset_beside
  have head := s.hangLog_head e
  have logged : (s.hangLog e).beat = s.beat := (State.beat_of_unreported (s.hangLog_unreported e) :)
  have view : (s.chipReset cause e).unreported = State.unreported { (s.hangLog e).deviceReset with sec := sec } := by
    rw [eq, State.setReadiness_unreported, State.resetNoted_unreported]
  have hang : (s.chipReset cause e).hang = (s.hangLog e).deviceReset.hang := (congrArg State.hang view :)
  have ticks : (s.chipReset cause e).beat = (s.hangLog e).deviceReset.beat := (congrArg State.beat view :)
  rw [hang, ticks, log, beat, logged]
  exact ⟨rfl, head⟩

end

/-! ## RESET_CONTROL -/

theorem resetControlW_unkeyed {via : Via} {v : Word} (key : field v 31 16 ≠ 0x5A3C) (asked : bit v 0 = true ∨ bit v 1 = true) :
    ∃ e, resetControlW s via v = .error e := by
  unfold resetControlW
  split
  · exact ⟨_, rfl⟩
  · exact ⟨.range, if_pos (by simpa [key] using asked)⟩

section
variable {via : Via} {v : Word} (priv : viaPriv via = true)
include priv

theorem resetControlW_keyed (allowed : (bit v 0 || bit v 1) = true → field v 31 16 = 0x5A3C) : resetControlW s via v =
    ctlActs v 0 [fun s => .ok (s.chipReset 7 (s.deviceEntry 4 7 false false)),
      fun s => .ok ((s.hangLog (s.deviceEntry 5 7 false false)).cycleRequest true), fun s => .ok (s.cycleRequest false)] s := by
  unfold resetControlW
  dsimp only
  rw [if_neg (by simp [priv]), if_neg (by simpa using allowed)]

end

/-- What bits 1 and 2 of RESET_CONTROL do after a reset. -/
theorem resetControl_after (v : Word) (t : State) : ∃ u, ctlActs v 1 [fun s => .ok ((s.hangLog (s.deviceEntry 5 7 false false)).cycleRequest true),
    fun s => .ok (s.cycleRequest false)] t = .ok u ∧ (∀ k, k ≠ rKey 9 → u.rd k = t.rd k) ∧ (t.Cleared → u.Cleared) := by
  have asked (t : State) (e : HangEntry) : (∀ k, k ≠ rKey 9 → ((t.hangLog e).cycleRequest true).rd k = t.rd k) ∧
      (t.Cleared → ((t.hangLog e).cycleRequest true).Cleared) :=
    ⟨fun k other => t.hangLog_rd e other, fun h => (h.hangLog e).cycleRequest true⟩
  simp only [ctlActs, ctlAct]
  cases bit v 1 <;> cases bit v 2
  · exact ⟨_, rfl, fun _ _ => rfl, id⟩
  · exact ⟨_, rfl, fun _ _ => rfl, fun h => h.cycleRequest false⟩
  · exact ⟨_, rfl, asked t _⟩
  · exact ⟨_, rfl, (asked t _).1, fun h => ((asked t _).2 h).cycleRequest false⟩

/-- RESET_CONTROL with its key and bit 0 resets the device. -/
theorem chipReset_keyed {via : Via} {v : Word} (reached : s.reaches via 0x2A00 1 = true) (key : field v 31 16 = 0x5A3C) (b0 : bit v 0 = true)
    (on : s.pow.mode = .on) : (chipResetEff (some via) v s).Cleared ∧ (chipResetEff (some via) v s).readiness = 0 ∧
      (chipResetEff (some via) v s).rdN (rKey 2) = 7 := by
  have priv := viaPriv_of_reaches reached (by decide) (by decide)
  have reset := State.chipReset_cleared (cause := 7) (e := s.deviceEntry 4 7 false false) on
  have ready := State.chipReset_readiness (cause := 7) (e := s.deviceEntry 4 7 false false) on
  have cause := State.chipReset_cause (cause := 7) (e := s.deviceEntry 4 7 false false) on (by decide)
  obtain ⟨u, after, kept, cleared⟩ := resetControl_after v (s.chipReset 7 (s.deviceEntry 4 7 false false))
  have control : resetControlW s via v = .ok u := by
    rw [resetControlW_keyed priv fun _ => key, ctlActs, ctlAct, if_pos b0]
    exact after
  have eff : chipResetEff (some via) v s = u := by
    unfold chipResetEff
    dsimp only
    rw [control, State.objWrite_ok s reached]
  rw [eff]
  exact ⟨cleared reset, (congrArg BitVec.toNat (kept _ (by decide))).trans ready, (congrArg BitVec.toNat (kept _ (rKey_ne (by decide)))).trans cause⟩

/-- RESET_CONTROL with its key and bit 1 alone requests a power cycle. -/
theorem powerCycle_keyed {via : Via} {v : Word} (reached : s.reaches via 0x2A00 1 = true) (key : field v 31 16 = 0x5A3C) (b0 : bit v 0 = false)
    (b1 : bit v 1 = true) (b2 : bit v 2 = false) : powerCycleEff via v s = (s.hangLog (s.deviceEntry 5 7 false false)).cycleRequest true := by
  have priv := viaPriv_of_reaches reached (by decide) (by decide)
  have control : resetControlW s via v = .ok ((s.hangLog (s.deviceEntry 5 7 false false)).cycleRequest true) := by
    rw [resetControlW_keyed priv fun _ => key]
    simp only [ctlActs, ctlAct, b0, b1, b2]
    rfl
  rw [powerCycleEff, control, State.objWrite_ok s reached]

theorem powerCycleCancel_withdraws {via : Via} {v : Word} (reached : s.reaches via 0x2A00 1 = true) (b0 : bit v 0 = false) (b1 : bit v 1 = false)
    (b2 : bit v 2 = true) : powerCycleCancelEff via v s = s.cycleRequest false := by
  have priv := viaPriv_of_reaches reached (by decide) (by decide)
  have control : resetControlW s via v = .ok (s.cycleRequest false) := by
    rw [resetControlW_keyed priv fun asked => by simp [b0, b1] at asked]
    simp only [ctlActs, ctlAct, b0, b1, b2]
    rfl
  rw [powerCycleCancelEff, control, State.objWrite_ok s reached]

theorem State.hangLog_sameWork (s : State) (e : HangEntry) : sameWork s (s.hangLog e) := by
  have logged : sameWork (s.modHang fun h => { h with log := (e :: h.log).take 32 }) (s.hangLog e) :=
    sameWork_of_unreported_eq (s.hangLog_unreported e)
  exact sameWork_trans (sameWork_refl s) logged

/-- Settles O46: a chip reset leaves the tables at their reset values, notes its cause and is counted, and a power cycle is requested only
with the key. -/
theorem chipResets : Obligations.ChipResets := by
  have offSame (s : State) (off : s.pow.mode = .off) (cause : Nat) (e : HangEntry) : s.chipReset cause e = s := if_pos off
  refine ⟨fun s on => ?_, fun s off => congrArg s.outcome (offSame s off _ _), fun v s up => congrArg s.outcome (if_pos up),
    fun via v s reached => ?_⟩
  · have eff : perstAssertEff s = s.chipReset 8 (s.deviceEntry 4 8 false false) := rfl
    have reset := State.chipReset_cleared (cause := 8) (e := s.deviceEntry 4 8 false false) on
    have ready := State.chipReset_readiness (cause := 8) (e := s.deviceEntry 4 8 false false) on
    have cause := State.chipReset_cause (cause := 8) (e := s.deviceEntry 4 8 false false) on (by decide)
    have jobs := State.chipReset_jobs (cause := 8) (e := s.deviceEntry 4 8 false false) on
    have counted := State.chipReset_counted (cause := 8) (e := s.deviceEntry 4 8 false false) on
    obtain ⟨beat, head⟩ := State.chipReset_beside (cause := 8) (e := s.deviceEntry 4 8 false false) on
    generalize s.chipReset 8 (s.deviceEntry 4 8 false false) = t at *
    exact ⟨_, congrArg s.outcome eff, ready, cause, jobs, reset.mem, reset.cores, reset.progs, reset.ctxs, reset.slots, reset.launches,
      reset.versions, reset.fences, reset.dma, reset.coll, reset.fab, reset.tango, reset.loaders, beat, head, counted⟩
  · refine ⟨fun key => ⟨fun b0 on => ?_, fun b0 b1 b2 => ?_⟩, fun b0 b1 b2 => ?_, fun key asked => ?_⟩
    · obtain ⟨reset, ready, cause⟩ := chipReset_keyed reached key b0 on
      generalize eff : chipResetEff (some via) v s = t at *
      exact ⟨_, congrArg s.outcome eff, ready, cause, reset.mem, reset.cores, reset.ctxs, reset.launches, reset.versions, reset.dma⟩
    · have pow : ((s.hangLog (s.deviceEntry 5 7 false false)).cycleRequest true).pow = { s.pow with cycleReq := true } := by
        have logged : (s.hangLog (s.deviceEntry 5 7 false false)).pow = s.pow := (State.pow_of_unreported (s.hangLog_unreported _) :)
        rw [State.cycleRequest, logged]
      exact ⟨_, congrArg s.outcome (powerCycle_keyed reached key b0 b1 b2), pow, s.hangLog_head (s.deviceEntry 5 7 false false),
        fun k other => s.hangLog_rd (s.deviceEntry 5 7 false false) other, s.hangLog_sameWork (s.deviceEntry 5 7 false false)⟩
    · exact ⟨_, congrArg s.outcome (powerCycleCancel_withdraws reached b0 b1 b2), rfl, rfl, rfl, sameWork_refl s⟩
    · obtain ⟨e, refused⟩ := resetControlW_unkeyed (s := s) (via := via) key asked
      obtain ⟨h, frame⟩ := s.objWrite_error_frame via 0x2A00 1 e
      have eff : chipResetEff (some via) v s = { s with host := h } := by
        unfold chipResetEff
        dsimp only
        rw [refused, frame]
      exact ⟨_, congrArg s.outcome eff, rfl, rfl, rfl, sameWork_refl s⟩

end Sys2Proof.Machine

end

section
/-! PROOFS. Attestation and reclaim (R436 to R440), obligation O53. -/

namespace Sys2Proof.Machine

variable {s : State}

theorem State.pN_pWr (s : State) (p k : Nat) (v : Word) : (s.pWr p k v).pN p k = v.toNat :=
  congrArg BitVec.toNat ((State.rd_wr ..).trans (if_pos rfl))

theorem State.pN_pWr_ne (s : State) {p q k j : Nat} (v : Word) (h : pKey q j ≠ pKey p k) : (s.pWr p k v).pN q j = s.pN q j :=
  congrArg BitVec.toNat ((State.rd_wr ..).trans (if_neg h))

theorem pKey_ne_part {p q k j : Nat} (h : q ≠ p) (hk : k < 256) (hj : j < 256) : pKey q j ≠ pKey p k := by
  simp only [pKey, objKey, partIndex]
  omega

theorem pKey_index (p : Nat) {k : Nat} (h : k < 256) : pKey p k / 256 = partIx p := objKey_div _ h

/-! ## Attestation -/

section
variable {via : Via} {p : Part} {v : Word} (reached : s.reaches via (partIx p) 0x29 = true) (asked : bit v 0 = true)
include reached asked

/-- The request as the partition's objects give it. -/
def State.attRequest (s : State) (p : Nat) : AttReq :=
  ⟨p, s.pN p 0x28, s.lead p, s.beat, (List.range 8).map fun i => s.pRd p (0x20 + i), s.pRd p 0x2C⟩

theorem attestRequest_joins (idle : s.pN p 0x2A % 4 ≠ 1) (place : s.reportPlace p (s.pN p 0x28) = true) :
    attestRequestEff via p v s = (s.modSec fun x => { x with attest := x.attest ++ [s.attRequest p] }).pWr p 0x2A
      (BitVec.ofNat 64 (setField (s.pN p 0x2A) 1 0 1)) := by
  have act : attestW s p v = .ok ((s.modSec fun x => { x with attest := x.attest ++ [s.attRequest p] }).pWr p 0x2A
      (BitVec.ofNat 64 (setField (s.pN p 0x2A) 1 0 1))) := by
    unfold attestW
    dsimp only
    rw [if_neg (by simp [asked]), if_neg idle, if_neg (by rw [place]; decide)]
    rfl
  rw [attestRequestEff, act]
  exact State.objWrite_ok s reached _

theorem attestRequest_misplaced (idle : s.pN p 0x2A % 4 ≠ 1) (place : s.reportPlace p (s.pN p 0x28) = false) :
    attestRequestEff via p v s = s.pWr p 0x2A (BitVec.ofNat 64 (setField (s.pN p 0x2A) 1 0 3)) := by
  have act : attestW s p v = .ok (s.pWr p 0x2A (BitVec.ofNat 64 (setField (s.pN p 0x2A) 1 0 3))) := by
    unfold attestW
    dsimp only
    rw [if_neg (by simp [asked]), if_neg idle, if_pos place]
  rw [attestRequestEff, act]
  exact State.objWrite_ok s reached _

omit reached in
theorem attestRequest_busy (busy : s.pN p 0x2A % 4 = 1) : ∃ h, attestRequestEff via p v s = { s with host := h } := by
  have act : attestW s p v = .error .state := by
    unfold attestW
    dsimp only
    rw [if_neg (by simp [asked]), if_pos busy]
  rw [attestRequestEff, act]
  exact s.objWrite_error_frame ..

end

/-- The two low bits of a status word once they are set. -/
theorem setField_status (x : Nat) {v : Nat} (small : v < 4) : (BitVec.ofNat 64 (setField x 1 0 v)).toNat % 4 = v := by
  rw [BitVec.toNat_ofNat, setField]
  simp only [nfield]
  omega

/-- The report with its signature. -/
def State.signedReport (s : State) (r : AttReq) (sig : List Byte) : List Byte :=
  s.reportText r ++ (List.range 512).map fun k => sig.getD k 0#8

theorem State.signedReport_eq (s : State) (r : AttReq) {sig : List Byte} (len : sig.length = 512) :
    s.signedReport r sig = s.reportText r ++ sig := by
  have whole : ((List.range 512).map fun k => sig.getD k 0#8) = sig := by
    refine List.ext_getElem (by simp [len]) fun i _ hi => ?_
    rw [List.getElem_map, List.getElem_range, List.getD_eq_getElem _ _ hi]
  rw [State.signedReport, whole]

/-- The status that an answered request leaves: its number one higher, and DONE. -/
def State.reportStatus (s : State) (p : Nat) : Word := BitVec.ofNat 64 ((nfield (s.pN p 0x2A) 31 16 + 1) % 65536 * 65536 + 2)

/-- The oldest request answered. -/
def State.reported (s : State) (p : Nat) (r : AttReq) (rest : List AttReq) (sig : List Byte) : State :=
  ((s.writeBytes r.addr (s.signedReport r sig)).modSec fun x => { x with attest := rest }).pWr p 0x2A (s.reportStatus p)

section
variable {p : Part} {sig : List Byte} {r : AttReq} {rest : List AttReq} (oldest : s.sec.attest = r :: rest)
include oldest

theorem attestReportDone_reported (own : r.part = p.val) (live : s.pN p 0x2E ≠ 1) : attestReportDoneEff p sig s = s.reported p r rest sig := by
  unfold attestReportDoneEff
  rw [oldest]
  exact if_neg (not_or.mpr ⟨not_not_intro own, live⟩)

theorem attestReportDone_other (other : r.part ≠ p.val) : attestReportDoneEff p sig s = s := by
  unfold attestReportDoneEff
  rw [oldest]
  exact if_pos (.inl other)

end

theorem State.reported_mem (s : State) (p : Nat) (r : AttReq) (rest : List AttReq) (sig : List Byte) :
    (s.reported p r rest sig).mem = s.mem.writeBytes r.addr (s.signedReport r sig) := by
  simp [State.reported, State.modSec, State.writeBytes]

theorem State.reported_sec (s : State) (p : Nat) (r : AttReq) (rest : List AttReq) (sig : List Byte) :
    (s.reported p r rest sig).sec.attest = rest ∧ (s.reported p r rest sig).cores = s.cores ∧
      (s.reported p r rest sig).versions = s.versions := by
  unfold State.reported
  generalize s.reportStatus p = w
  generalize s.signedReport r sig = text
  exact ⟨rfl, rfl, rfl⟩

theorem State.reported_status (s : State) (p : Nat) (r : AttReq) (rest : List AttReq) (sig : List Byte) :
    (s.reported p r rest sig).pN p 0x2A % 4 = 2 := by
  rw [State.reported, State.pN_pWr, State.reportStatus, BitVec.toNat_ofNat]
  omega

/-! ## Reclaim -/

/-- A member under its new key. -/
def State.rekeyed (s : State) (q : Nat) : State := (s.newHbmKey q).pWr q 0x2E 1

theorem State.newHbmKey_rd_ne (s : State) {q k : Nat} (h : k ≠ pKey q 0x2B) : (s.newHbmKey q).rd k = s.rd k := State.rd_count32_ne s 1 h

theorem State.rdN_count32 (s : State) (k n : Nat) : (s.count32 k n).rdN k = (s.rdN k + n) % 2 ^ 32 := by
  unfold State.count32
  exact State.rdN_wrN _ (by omega)

theorem State.rekeyed_pN (s : State) (q : Nat) : (s.rekeyed q).pN q 0x2E = 1 ∧ (s.rekeyed q).pN q 0x2B = (s.pN q 0x2B + 1) % 2 ^ 32 :=
  ⟨(s.newHbmKey q).pN_pWr q 0x2E 1, ((s.newHbmKey q).pN_pWr_ne 1 (pKey_ne q (by decide))).trans (s.rdN_count32 ..)⟩

theorem State.rekeyed_pN_other (s : State) {p q k : Nat} (h : p ≠ q) (small : k < 256) : (s.rekeyed q).pN p k = s.pN p k :=
  ((s.newHbmKey q).pN_pWr_ne 1 (pKey_ne_part h (by decide) small)).trans
    (congrArg BitVec.toNat (s.newHbmKey_rd_ne (pKey_ne_part h (by decide) small)))

theorem State.rekeyed_reserve (s : State) (p q : Nat) : (s.rekeyed q).reserveBase p = s.reserveBase p := by
  have kept : (s.rekeyed q).pN p 0x93 = s.pN p 0x93 :=
    ((s.newHbmKey q).pN_pWr_ne 1 (pKey_ne_of_ne q p (by decide))).trans (congrArg BitVec.toNat (s.newHbmKey_rd_ne (pKey_ne_of_ne q p (by decide))))
  rw [State.reserveBase, kept]
  rfl

theorem State.rekeyed_read (s : State) {q a : Nat} (out : a < hbmBase q ∨ s.reserveBase q ≤ a) : (s.rekeyed q).mem.read a = s.mem.read a := by
  have mem : (s.rekeyed q).mem = (s.newKey q).mem.fill (hbmBase q) (s.reserveBase q - hbmBase q) (some (s.newKey q).freeCtr) := by
    simp [State.rekeyed, State.newHbmKey, State.freeMem]
  rw [mem, Mem.read_fill, if_neg (by omega)]
  simp [State.newKey]

theorem State.rekeyed_tables (s : State) (q : Nat) : (s.rekeyed q).cores = s.cores ∧ (s.rekeyed q).ctxs = s.ctxs := by
  have view : (s.rekeyed q).unreported = ((s.newKey q).freeMem (hbmBase q) (s.reserveBase q - hbmBase q)).unreported :=
    State.pWr_unreported ..
  have key : (s.newKey q).unreported = s.unreported := State.count32_unreported ..
  have cores : (s.rekeyed q).cores = (s.newKey q).cores := (State.cores_of_unreported view :)
  have ctxs : (s.rekeyed q).ctxs = (s.newKey q).ctxs := (State.ctxs_of_unreported view :)
  exact ⟨cores.trans (State.cores_of_unreported key), ctxs.trans (State.ctxs_of_unreported key)⟩

/-- What a list of members under new keys shows: their keys and states, and what stays. -/
theorem rekeyed_members (l : List Nat) (distinct : l.Nodup) (t : State) :
    (∀ q ∈ l, (l.foldl State.rekeyed t).pN q 0x2E = 1 ∧ (l.foldl State.rekeyed t).pN q 0x2B = (t.pN q 0x2B + 1) % 2 ^ 32) ∧
    (∀ q, q ∉ l → ∀ k < 256, (l.foldl State.rekeyed t).pN q k = t.pN q k) ∧
    (l.foldl State.rekeyed t).cores = t.cores ∧ (l.foldl State.rekeyed t).ctxs = t.ctxs ∧
    ∀ a, (∀ q ∈ l, a < hbmBase q ∨ t.reserveBase q ≤ a) → (l.foldl State.rekeyed t).mem.read a = t.mem.read a := by
  induction l generalizing t with
  | nil => exact ⟨fun _ h => absurd h (List.not_mem_nil), fun _ _ _ _ => rfl, rfl, rfl, fun _ _ => rfl⟩
  | cons p l ih =>
    obtain ⟨fresh, rest⟩ := List.nodup_cons.mp distinct
    obtain ⟨members, others, cores, ctxs, reads⟩ := ih rest (t.rekeyed p)
    obtain ⟨cores1, ctxs1⟩ := t.rekeyed_tables p
    rw [List.foldl_cons]
    generalize l.foldl State.rekeyed (t.rekeyed p) = u at *
    refine ⟨fun q mem => ?_, fun q other k small => ?_, cores.trans cores1, ctxs.trans ctxs1, fun a out => ?_⟩
    · rcases List.mem_cons.mp mem with rfl | mem
      · rw [others q fresh _ (by decide), others q fresh _ (by decide)]
        exact t.rekeyed_pN q
      · have apart : q ≠ p := fun here => fresh (here ▸ mem)
        rw [← t.rekeyed_pN_other apart (show 0x2B < 256 by decide)]
        exact members q mem
    · obtain ⟨apart, notIn⟩ := not_or.mp (List.mem_cons.not.mp other)
      rw [others q notIn k small, t.rekeyed_pN_other apart small]
    · rw [reads a fun q mem => by rw [t.rekeyed_reserve]; exact out q (List.mem_cons_of_mem _ mem), t.rekeyed_read (out p List.mem_cons_self)]

theorem State.members_nodup (s : State) (p : Nat) : (s.members p).Nodup := List.nodup_range.filter _

section
variable {via : Via} {p : Part} {v : Word} (priv : viaPriv via = true) (asked : bit v 0 = true)
include priv asked

theorem reclaim_rekeys (reached : s.reaches via (partIx p) 0x2D = true) (key : field v 31 16 = 0x7E1A) (ready : s.jobReady = true)
    (quiet : ∀ q ∈ s.members p, s.reclaimable q = true) : reclaimEff via p v s = (s.members p).foldl State.rekeyed (s.wakeGroup p) := by
  have act : reclaimW s via p v = .ok ((s.members p).foldl State.rekeyed (s.wakeGroup p)) := by
    unfold reclaimW
    rw [if_neg (by simp [priv]), if_neg (by simp [asked]), if_neg (not_not_intro key), if_neg]
    · rfl
    · rw [ready, List.all_eq_true.mpr quiet]
      decide
  rw [reclaimEff, act]
  exact State.objWrite_ok s reached _

theorem reclaim_unkeyed (key : field v 31 16 ≠ 0x7E1A) : ∃ h, reclaimEff via p v s = { s with host := h } := by
  have act : reclaimW s via p v = .error .range := by
    unfold reclaimW
    rw [if_neg (by simp [priv]), if_neg (by simp [asked]), if_pos key]
  rw [reclaimEff, act]
  exact s.objWrite_error_frame ..

end

/-! ## The end of a reclaim -/

/-- A member whose cores, regions, programs and retention masks are as new. -/
structure State.MemberClear (t : State) (q : Nat) : Prop where
  cores : ∀ i < 16, t.core (16 * q + i) = CoreSt.reset
  regions : ∀ n < 256, t.region q n = VEntry.reset
  progs : ∀ n < 1024, (t.prog q n).state = .free
  retain : ∀ i < 16, mget 0#64 t.retain (16 * q + i) = 0#64

theorem State.tangoPartReset_frame (s : State) (q : Nat) : ∃ g o, s.tangoPartReset q false = { s with tango := g, obj := o } ∧
    ∀ k, k ≠ tKey 2 → mget (objDefault k) o k = s.rd k := by
  have suspended (t : State) : ∃ g o, t.suspendMirror = { t with tango := g, obj := o } ∧ ∀ k, k ≠ tKey 2 → mget (objDefault k) o k = t.rd k := by
    unfold State.suspendMirror
    split
    · exact ⟨_, _, rfl, fun k other => (State.rd_wrN_ne t tsSuspended other :)⟩
    · exact ⟨t.tango, t.obj, rfl, fun _ _ => rfl⟩
  unfold State.tangoPartReset
  simp only [Bool.false_and]
  rw [if_neg Bool.false_ne_true]
  split
  · split
    · exact suspended _
    · exact ⟨_, s.obj, rfl, fun _ _ => rfl⟩
  · exact ⟨_, s.obj, rfl, fun _ _ => rfl⟩

/-- Member `q` woken, its mirror suspended, and its tables emptied. -/
def State.memberEmptied (s : State) (q : Nat) : State :=
  let s := ((s.partAwake q).tangoPartReset q false).clearTables q fun c => c.state == .retired
  let s := s.dropPartObjs q fun sub => !partKept sub || reclaimCleared sub
  { s with
    retain := mclear s.retain (16 * q) (16 * q + 16), pow := { s.pow with retainLate := mclear s.pow.retainLate (16 * q) (16 * q + 16) } }

theorem State.reclaimMember_eq (s : State) (q : Nat) : s.reclaimMember q =
    ((((s.memberEmptied q).pWr q 0x2E 2).pWr q 0x30 (BitVec.ofNat 64 (s.memberEmptied q).beat)).count32Sat (pKey q 0x2F) 1).event q 5 := rfl

theorem State.memberEmptied_tables (s : State) (q : Nat) : (s.memberEmptied q).cores = partOut q 16 s.cores ∧
    (s.memberEmptied q).versions = partOut q 256 s.versions ∧ (s.memberEmptied q).progs = partOut q 1024 s.progs ∧
    (s.memberEmptied q).retain = mclear s.retain (16 * q) (16 * q + 16) ∧ (s.memberEmptied q).sec = s.sec := by
  obtain ⟨g, o, eq, _⟩ := (s.partAwake q).tangoPartReset_frame q
  rw [State.memberEmptied, eq]
  exact ⟨rfl, rfl, rfl, rfl, rfl⟩

/-- The objects that a reclaim leaves: those of other partitions, and of its own the kept ones. -/
theorem State.memberEmptied_rd (s : State) {q k : Nat} (kept : k / 256 ≠ partIx q ∨ (partKept (k % 256) = true ∧ reclaimCleared (k % 256) = false))
    (awake : k ≠ pKey q 1) (mirror : k ≠ tKey 2) : (s.memberEmptied q).rd k = s.rd k := by
  obtain ⟨g, o, eq, rd⟩ := (s.partAwake q).tangoPartReset_frame q
  have own : (fun k => !(k / 256 == partIx q && (!partKept (k % 256) || reclaimCleared (k % 256)))) k = true := by
    rcases kept with other | ⟨keeps, clears⟩
    · simp [other]
    · simp [keeps, clears]
  rw [State.memberEmptied, eq]
  refine (mget_filter_key _ (fun k => !(k / 256 == partIx q && (!partKept (k % 256) || reclaimCleared (k % 256)))) k o).trans ?_
  rw [if_pos own, rd k mirror]
  exact (State.rd_wr ..).trans (if_neg awake)

/-- The tables that the reclaim of member `q` empties. -/
theorem State.reclaimMember_tables (s : State) (q : Nat) : (s.reclaimMember q).cores = partOut q 16 s.cores ∧
    (s.reclaimMember q).versions = partOut q 256 s.versions ∧ (s.reclaimMember q).progs = partOut q 1024 s.progs ∧
    (s.reclaimMember q).retain = mclear s.retain (16 * q) (16 * q + 16) ∧ (s.reclaimMember q).sec = s.sec := by
  have view : (s.reclaimMember q).unreported = (s.memberEmptied q).unreported := by
    rw [s.reclaimMember_eq q]
    simp
  rw [State.cores_of_unreported view, State.versions_of_unreported view, State.progs_of_unreported view, State.retain_of_unreported view,
    State.sec_of_unreported view]
  exact s.memberEmptied_tables q

theorem State.reclaimMember_pN_other (s : State) {p q k : Nat} (apart : p ≠ q) (small : k < 256) : (s.reclaimMember q).pN p k = s.pN p k := by
  have ne {j : Nat} (hj : j < 256) : pKey p k ≠ pKey q j := pKey_ne_part apart hj small
  have index : pKey p k / 256 ≠ partIx q := by
    rw [pKey_index p small]
    simp only [partIx]
    omega
  have mirror : pKey p k ≠ tKey 2 := by
    simp only [pKey, partIndex, tKey, objKey]
    omega
  have read : (s.reclaimMember q).rd (pKey p k) = s.rd (pKey p k) := by
    rw [s.reclaimMember_eq q, State.event_rd, State.rd_count32Sat_ne _ _ (ne (by decide)), State.pWr, State.rd_wr, if_neg (ne (by decide)), State.pWr, State.rd_wr,
      if_neg (ne (by decide)), State.memberEmptied_rd s (.inl index) (ne (by decide)) mirror]
  exact congrArg BitVec.toNat read

theorem State.reclaimMember_pN (s : State) (q : Nat) : (s.reclaimMember q).pN q 0x2E = 2 ∧
    (s.reclaimMember q).pN q 0x2F = min (s.pN q 0x2F + 1) (2 ^ 32 - 1) := by
  have mirror : pKey q 0x2F ≠ tKey 2 := by
    simp only [pKey, partIndex, tKey, objKey]
    omega
  have kept : (s.memberEmptied q).rd (pKey q 0x2F) = s.rd (pKey q 0x2F) := by
    have low : pKey q 0x2F % 256 = 0x2F := by
      simp only [pKey, objKey]
      omega
    exact s.memberEmptied_rd (.inr (by rw [low]; decide)) (pKey_ne q (by decide)) mirror
  have state : (s.reclaimMember q).rd (pKey q 0x2E) = 2 := by
    rw [s.reclaimMember_eq q, State.event_rd, State.rd_count32Sat_ne _ _ (pKey_ne q (by decide)), State.pWr, State.rd_wr,
      if_neg (pKey_ne q (by decide)), State.pWr, State.rd_wr, if_pos rfl]
  have count : (s.reclaimMember q).rd (pKey q 0x2F) = ((((s.memberEmptied q).pWr q 0x2E 2).pWr q 0x30
      (BitVec.ofNat 64 (s.memberEmptied q).beat)).count32Sat (pKey q 0x2F) 1).rd (pKey q 0x2F) := by
    rw [s.reclaimMember_eq q, State.event_rd]
  refine ⟨congrArg BitVec.toNat state, (congrArg BitVec.toNat count).trans ((State.rdN_count32Sat ..).trans ?_)⟩
  have before : (((s.memberEmptied q).pWr q 0x2E 2).pWr q 0x30 (BitVec.ofNat 64 (s.memberEmptied q).beat)).rdN (pKey q 0x2F) = s.pN q 0x2F := by
    rw [State.pWr, State.rdN_eq, State.rd_wr, if_neg (pKey_ne q (by decide)), State.pWr, State.rd_wr, if_neg (pKey_ne q (by decide)), kept]
    rfl
  rw [before]

/-- A reclaimed member is as new, and so stays every other that was. -/
theorem State.reclaimMember_clear (s : State) (q : Nat) : (s.reclaimMember q).MemberClear q ∧
    ∀ p, s.MemberClear p → (s.reclaimMember q).MemberClear p := by
  obtain ⟨cores, versions, progs, retain, _⟩ := s.reclaimMember_tables q
  refine ⟨⟨fun i low => ?_, fun n low => ?_, fun n low => ?_, fun i low => ?_⟩, fun p clear => ⟨fun i low => ?_, fun n low => ?_, fun n low => ?_, fun i low => ?_⟩⟩
  · rw [State.core, cores, partOut, mget_mclear, if_pos (by omega)]
  · rw [State.region, versions, partOut, mget_mclear, if_pos (by omega)]
  · rw [State.prog, progs, partOut, mget_mclear, if_pos (by omega)]
    rfl
  · rw [retain, mget_mclear, if_pos (by omega)]
  · rw [State.core, cores, partOut, mget_mclear, ← State.core, clear.cores i low, ite_self]
  · rw [State.region, versions, partOut, mget_mclear, ← State.region, clear.regions n low, ite_self]
  · rw [State.prog, progs, partOut, mget_mclear]
    split
    · rfl
    · exact clear.progs n low
  · rw [retain, mget_mclear, clear.retain i low, ite_self]

/-- What a list of members shows when each has been reclaimed. -/
theorem reclaimed_members (l : List Nat) (distinct : l.Nodup) (t : State) :
    (∀ q ∈ l, (l.foldl State.reclaimMember t).pN q 0x2E = 2 ∧
      (l.foldl State.reclaimMember t).pN q 0x2F = min (t.pN q 0x2F + 1) (2 ^ 32 - 1) ∧ (l.foldl State.reclaimMember t).MemberClear q) ∧
    (∀ q, q ∉ l → ∀ k < 256, (l.foldl State.reclaimMember t).pN q k = t.pN q k) ∧
    (∀ q, t.MemberClear q → (l.foldl State.reclaimMember t).MemberClear q) ∧ (l.foldl State.reclaimMember t).sec = t.sec := by
  induction l generalizing t with
  | nil => exact ⟨fun _ h => absurd h (List.not_mem_nil), fun _ _ _ _ => rfl, fun _ h => h, rfl⟩
  | cons p l ih =>
    obtain ⟨fresh, rest⟩ := List.nodup_cons.mp distinct
    obtain ⟨members, others, clears, sec⟩ := ih rest (t.reclaimMember p)
    obtain ⟨_, _, _, _, sec1⟩ := t.reclaimMember_tables p
    obtain ⟨clear, keeps⟩ := t.reclaimMember_clear p
    rw [List.foldl_cons]
    generalize l.foldl State.reclaimMember (t.reclaimMember p) = u at *
    refine ⟨fun q mem => ?_, fun q other k small => ?_, fun q h => clears q (keeps q h), sec.trans sec1⟩
    · rcases List.mem_cons.mp mem with rfl | mem
      · rw [others q fresh _ (by decide), others q fresh _ (by decide)]
        obtain ⟨state, count⟩ := t.reclaimMember_pN q
        exact ⟨state, count, clears q clear⟩
      · have apart : q ≠ p := fun here => fresh (here ▸ mem)
        rw [← t.reclaimMember_pN_other apart (show 0x2F < 256 by decide)]
        exact members q mem
    · obtain ⟨apart, notIn⟩ := not_or.mp (List.mem_cons.not.mp other)
      rw [others q notIn k small, t.reclaimMember_pN_other apart small]

theorem reclaimDone_members {p : Part} (none : s.sec.waitReset = []) (reclaiming : s.pN p 0x2E = 1) :
    ∃ x, reclaimDoneEff p s = { (s.members p).foldl State.reclaimMember s with sec := x } := by
  obtain ⟨_, _, _, sec⟩ := reclaimed_members (s.members p) (s.members_nodup p) s
  unfold reclaimDoneEff
  dsimp only
  rw [if_neg (not_not_intro reclaiming)]
  generalize (s.members p).foldl State.reclaimMember s = t at *
  rw [sec, none]
  exact ⟨_, rfl⟩

/-- Settles O53: a report is requested and written, a keyed reclaim gives every member a new key, and at its end they are as new. -/
theorem partitionsAreAttestedAndReclaimed : Obligations.PartitionsAreAttestedAndReclaimed := by
  refine ⟨fun via p v s reached asked => ⟨fun idle place => ?_, fun idle place => ?_, fun busy => ?_⟩,
    fun p sig s r rest oldest => ⟨fun own live len => ?_, fun other => congrArg s.outcome (attestReportDone_other oldest other)⟩,
    fun via p v s reached priv asked => ⟨fun key ready quiet => ?_, fun key => ?_⟩,
    fun p s none => ⟨fun reclaiming => ?_, fun other => congrArg s.outcome (if_pos other)⟩⟩
  · have eff := attestRequest_joins reached asked idle place
    obtain ⟨u, hu⟩ : ∃ u, u = s.modSec fun x => { x with attest := x.attest ++ [s.attRequest p] } := ⟨_, rfl⟩
    have sec : u.sec.attest = s.sec.attest ++ [s.attRequest p] := by rw [hu]; rfl
    have work : sameWork s u := by rw [hu]; exact sameWork_refl s
    have status := setField_status (s.pN p 0x2A) (show 1 < 4 by decide)
    rw [← u.pN_pWr p 0x2A] at status
    rw [← hu] at eff
    generalize BitVec.ofNat 64 (setField (s.pN p 0x2A) 1 0 1) = w at *
    exact ⟨_, s.attRequest p, congrArg s.outcome eff, sec, rfl, rfl, rfl, status, work⟩
  · have eff := attestRequest_misplaced reached asked idle place
    have status := setField_status (s.pN p 0x2A) (show 3 < 4 by decide)
    rw [← s.pN_pWr p 0x2A] at status
    generalize BitVec.ofNat 64 (setField (s.pN p 0x2A) 1 0 3) = w at *
    exact ⟨_, congrArg s.outcome eff, rfl, status, sameWork_refl s⟩
  · obtain ⟨h, eff⟩ := attestRequest_busy (via := via) asked busy
    exact ⟨_, congrArg s.outcome eff, rfl, rfl, sameWork_refl s⟩
  · have eff := attestReportDone_reported (sig := sig) oldest own live
    have mem := s.reported_mem p r rest sig
    rw [s.signedReport_eq r len] at mem
    have status := s.reported_status p r rest sig
    obtain ⟨attest, cores, versions⟩ := s.reported_sec p r rest sig
    have size : (s.reportText r ++ sig).length = (s.reportText r).length + 512 := by rw [List.length_append, len]
    generalize s.reported p r rest sig = t at *
    have content : t.readBytes r.addr ((s.reportText r).length + 512) = s.reportText r ++ sig := by
      rw [State.readBytes, mem, ← size, Mem.readBytes_writeBytes]
    have out (x : Nat) (h : x < r.addr ∨ r.addr + (s.reportText r).length + 512 ≤ x) : t.mem.read x = s.mem.read x := by
      rw [mem]
      refine Mem.read_writeBytes_out _ _ _ _ (h.imp_right fun above => ?_)
      rwa [size, ← Nat.add_assoc]
    exact ⟨_, congrArg s.outcome eff, attest, fun x below => out x (.inl below), fun x above => out x (.inr above), content, status, cores,
      versions⟩
  · have eff := reclaim_rekeys priv asked reached key ready quiet
    obtain ⟨members, _, cores, ctxs, reads⟩ := rekeyed_members (s.members p) (s.members_nodup p) (s.wakeGroup p)
    have view := s.wakeGroup_unreported p
    have word (q : Nat) {k : Nat} (small : k < 256) (h1 : k ≠ 1) (h7 : k ≠ 7) : (s.wakeGroup p).pN q k = s.pN q k := by
      have low : pKey q k % 256 = k := objKey_mod _ small
      exact congrArg BitVec.toNat (s.wakeGroup_rd p (by rwa [low]) (by rwa [low]))
    have key (q : Nat) : (s.wakeGroup p).pN q 0x2B = s.pN q 0x2B := word q (by decide) (by decide) (by decide)
    have reserve (q : Nat) : (s.wakeGroup p).reserveBase q = s.reserveBase q := by
      rw [State.reserveBase, word q (by decide) (by decide) (by decide), State.reserveBase]
    have before : (s.wakeGroup p).mem = s.mem := s.wakeGroup_mem p
    simp only [key, reserve, before] at members reads
    generalize (s.members p).foldl State.rekeyed (s.wakeGroup p) = t at *
    exact ⟨_, congrArg s.outcome eff, members, cores.trans (State.cores_of_unreported view), ctxs.trans (State.ctxs_of_unreported view), reads⟩
  · obtain ⟨h, eff⟩ := reclaim_unkeyed (s := s) (p := p) priv asked key
    exact ⟨_, congrArg s.outcome eff, rfl, sameWork_refl s⟩
  · obtain ⟨x, eff⟩ := reclaimDone_members none reclaiming
    obtain ⟨members, _⟩ := reclaimed_members (s.members p) (s.members_nodup p) s
    generalize (s.members p).foldl State.reclaimMember s = t at *
    refine ⟨_, congrArg s.outcome eff, fun q mem => ?_⟩
    obtain ⟨state, count, clear⟩ := members q mem
    exact ⟨state, count, clear.cores, clear.regions, clear.progs, clear.retain⟩

end Sys2Proof.Machine

end

section
/-! PROOFS. Bring-up, firmware and its versions (R429 to R434, R443 to R449), obligation O52. -/

namespace Sys2Proof.Machine

variable {s : State}

/-! ## Steps 4 and 5 of a bring-up -/

/-- What steps 4 and 5 leave: the memory, the cores, the Beat, the firmware that runs, and the word at `k`. -/
structure BroughtOn (k : Nat) (s t : State) : Prop where
  mem : t.mem = s.mem
  cores : t.cores = s.cores
  beat : t.beat = s.beat
  running : t.sec.running = s.sec.running
  word : t.rd k = s.rd k

theorem BroughtOn.refl (k : Nat) (s : State) : BroughtOn k s s := ⟨rfl, rfl, rfl, rfl, rfl⟩

theorem BroughtOn.trans {k : Nat} {s t u : State} (h : BroughtOn k s t) (h' : BroughtOn k t u) : BroughtOn k s u :=
  ⟨h'.mem.trans h.mem, h'.cores.trans h.cores, h'.beat.trans h.beat, h'.running.trans h.running, h'.word.trans h.word⟩

theorem BroughtOn.of_unreported {k : Nat} {s t : State} (view : t.unreported = s.unreported) (word : t.rd k = s.rd k) : BroughtOn k s t :=
  ⟨State.mem_of_unreported view, State.cores_of_unreported view, State.beat_of_unreported view,
    congrArg SecSt.running (State.sec_of_unreported view), word⟩

theorem BroughtOn.wrN {k j : Nat} (s : State) (v : Nat) (h : k ≠ j) : BroughtOn k s (s.wrN j v) :=
  .of_unreported (State.wrN_unreported ..) (s.rd_wrN_ne v h)

theorem BroughtOn.foldl {k : Nat} {β : Type} {f : State → β → State} (step : ∀ (t : State) (b : β), BroughtOn k t (f t b)) (l : List β)
    (s : State) : BroughtOn k s (l.foldl f s) :=
  List.foldlRecOn (motive := BroughtOn k s) l f (.refl k s) fun t ht b _ => ht.trans (step t b)

theorem BroughtOn.ite {k : Nat} {s a b : State} {p : Prop} [Decidable p] (ha : BroughtOn k s a) (hb : BroughtOn k s b) :
    BroughtOn k s (if p then a else b) := by
  split
  · exact ha
  · exact hb

/-- A word that the steps of a bring-up leave alone: the firmware's status and READINESS. -/
def stepsLeave (k : Nat) : Prop := k = secKey 1 ∨ k = objKey 0x1000 0x30

section
variable {k : Nat} (free : stepsLeave k)
include free

theorem stepsLeave.ne {j : Nat} (h1 : secKey 1 ≠ j) (h2 : objKey 0x1000 0x30 ≠ j) : k ≠ j := by
  rcases free with rfl | rfl
  · exact h1
  · exact h2

theorem stepsLeave.ne_pKey (p sub : Nat) : k ≠ pKey p sub :=
  free.ne (by simp only [secKey, pKey, objKey, partIndex]; omega) (by simp only [pKey, objKey, partIndex]; omega)

theorem State.loadCalibration_kept (s : State) : BroughtOn k s s.loadCalibration := by
  unfold State.loadCalibration
  dsimp only
  have loaded (m : MgmtSt → MgmtSt) : BroughtOn k s (s.modMgmt m) := ⟨rfl, rfl, rfl, rfl, rfl⟩
  have noted := ((loaded fun m => { m with calLoaded := s.calValid, calPending := false }).trans
    (.wrN _ (b2n !s.calValid) (free.ne (j := ckKey 1) (by decide) (by decide))))
  generalize (s.modMgmt fun m => { m with calLoaded := s.calValid, calPending := false }).wrN (ckKey 1) (b2n !s.calValid) = t at *
  have flagged := (noted.trans (.wrN _ (setField (t.rdN (idKey 0x32)) 1 1 (b2n !s.calValid)) (free.ne (j := idKey 0x32) (by decide) (by decide)))).trans
    (BroughtOn.wrN (k := k) (j := thKey 5) _ _ (free.ne (by decide) (by decide)) : BroughtOn k _ (State.thermalFlags _))
  refine .ite flagged (flagged.trans (.foldl (fun t p => ?_) _ _))
  exact ⟨rfl, rfl, rfl, rfl, rfl⟩

omit free in
theorem State.toDetect_kept (s : State) (n : Nat) : BroughtOn k s (s.toPState n .detect) :=
  .of_unreported (s.toPState_unreported n .detect) (s.leaveAll_rd (s.port n).outQ k)

theorem State.hangLog_kept (s : State) (e : HangEntry) : BroughtOn k s (s.hangLog e) := by
  have logged : BroughtOn k s (s.modHang fun h => { h with log := (e :: h.log).take 32 }) := ⟨rfl, rfl, rfl, rfl, rfl⟩
  exact logged.trans (.of_unreported (s.hangLog_unreported e) (State.rd_count32_ne _ 1 (free.ne (by decide) (by decide))))

theorem State.rung5_kept (s : State) (cause : Nat) (escalated : Bool) : BroughtOn k s (s.rung5 cause escalated) := by
  unfold State.rung5
  dsimp only
  refine .ite ((s.hangLog_kept free _).trans ⟨rfl, rfl, rfl, rfl, rfl⟩) ((s.hangLog_kept free { s.deviceEntry 5 cause escalated false with reported := true }).trans ?_)
  exact .of_unreported (State.healthEvent_unreported _) (State.healthEvent_rd ..)

omit free in
theorem State.allDetect_kept (s : State) : BroughtOn k s ((List.range 32).foldl (fun s n => if s.role n = 2 then s else s.toPState n .detect) s) :=
  .foldl (fun t n => .ite (.refl k t) (t.toDetect_kept n)) _ s

theorem State.membersFailed_kept (s : State) (obs : BringupObs) :
    BroughtOn k s ((List.range 16).foldl (fun s p => if partPasses obs p then s else s.pWr p 0xE1 7) s) :=
  .foldl (fun t p => .ite (.refl k t) (.of_unreported (State.pWr_unreported ..) ((State.rd_wr ..).trans (if_neg (free.ne_pKey p 0xE1))))) _ s

/-- Calibration, stacks and ports of steps 4 and 5. -/
def State.linked (s : State) (obs : BringupObs) : State :=
  (List.range 32).foldl (fun s n => if s.role n = 2 then s else s.toPState n .detect) (s.loadCalibration.wrN (objKey 0x2800 2) obs.stacksOk.toNat)

theorem State.linked_kept (s : State) (obs : BringupObs) : BroughtOn k s (s.linked obs) :=
  ((s.loadCalibration_kept free).trans (.wrN (j := objKey 0x2800 2) _ _ (free.ne (by decide) (by decide)))).trans (State.allDetect_kept _)

end

theorem State.stepsFourFive_eq (s : State) (obs : BringupObs) : s.stepsFourFive obs =
    if obs.failedStep = 4 ∨ obs.failedStep = 5 then (s.linked obs).failBringup obs.failedStep
    else ((List.range 16).foldl (fun s p => if partPasses obs p then s else s.pWr p 0xE1 7) (s.linked obs)).modSec fun x => { x with obs := none } := rfl

theorem State.failBringup_kept (s : State) (step : Nat) : BroughtOn (secKey 1) s (s.failBringup step) := by
  have free : stepsLeave (secKey 1) := .inl rfl
  unfold State.failBringup
  dsimp only
  have noted : BroughtOn (secKey 1) s ((s.modSec fun x => { x with obs := none }).modHang fun h => { h with chip := none }) := ⟨rfl, rfl, rfl, rfl, rfl⟩
  generalize (s.modSec fun x => { x with obs := none }).modHang _ = t at *
  refine ((noted.trans (.wrN (j := idKey 0x32) t (setField (t.rdN (idKey 0x32)) 27 24 step) (by decide))).trans ?_).trans (State.rung5_kept free _ 3 true)
  exact .of_unreported (State.setReadiness_unreported ..) (State.setReadiness_rd _ (by decide))

theorem State.stepsFourFive_kept (s : State) (obs : BringupObs) : BroughtOn (secKey 1) s (s.stepsFourFive obs) := by
  have linked := s.linked_kept (k := secKey 1) (.inl rfl) obs
  rw [s.stepsFourFive_eq obs]
  refine .ite (linked.trans (State.failBringup_kept ..)) ((linked.trans (State.membersFailed_kept (.inl rfl) _ obs)).trans ?_)
  exact ⟨rfl, rfl, rfl, rfl, rfl⟩

theorem State.stepsFourFive_done (s : State) {obs : BringupObs} (good : obs.failedStep = 0) :
    BroughtOn (objKey 0x1000 0x30) s (s.stepsFourFive obs) ∧ (s.stepsFourFive obs).sec.obs = none := by
  rw [s.stepsFourFive_eq obs, if_neg (by omega)]
  refine ⟨((s.linked_kept (.inr rfl) obs).trans (State.membersFailed_kept (.inr rfl) _ obs)).trans ?_, rfl⟩
  exact ⟨rfl, rfl, rfl, rfl, rfl⟩

/-! ## The start of the firmware -/

/-- The firmware running over a zeroed staging area, before steps 4 and 5. -/
def State.firmwareRunning (s : State) (i : ImgInfo) : State :=
  ((((s.modSec fun x => { x with running := some i }).wrN (secKey 1) 3).wr (idKey 6) (i.version.zeroExtend 64)).zeroMem (spadBase 0)
    (2 * spadSize)).setReadiness 4

theorem State.startFirmware_eq (s : State) (i : ImgInfo) : s.startFirmware i = (s.firmwareRunning i).goOn := rfl

theorem State.firmwareRunning_view (s : State) (i : ImgInfo) : (s.firmwareRunning i).unreported =
    ((s.modSec fun x => { x with running := some i }).zeroMem (spadBase 0) (2 * spadSize)).unreported := by
  rw [State.firmwareRunning, State.setReadiness_unreported]
  rfl

theorem State.firmwareRunning_facts (s : State) (i : ImgInfo) : (s.firmwareRunning i).sec = { s.sec with running := some i } ∧
    (s.firmwareRunning i).cores = s.cores ∧ (s.firmwareRunning i).beat = s.beat ∧
    (∀ a, spadBase 0 ≤ a → a < spadBase 2 → (s.firmwareRunning i).mem.read a = 0#8) := by
  have view := s.firmwareRunning_view i
  rw [State.sec_of_unreported view, State.cores_of_unreported view, State.beat_of_unreported view, State.mem_of_unreported view]
  refine ⟨rfl, rfl, rfl, fun a above below => (Mem.read_zero ..).trans (if_pos ⟨above, ?_⟩)⟩
  simp only [spadBase] at *
  omega

theorem State.firmwareRunning_status (s : State) (i : ImgInfo) : (s.firmwareRunning i).rdN (secKey 1) = 3 := by
  rw [State.firmwareRunning, State.rdN_eq, State.setReadiness_rd _ (by decide)]
  have apart : secKey 1 ≠ idKey 6 := by decide
  exact congrArg BitVec.toNat (((State.rd_wr ..).trans (if_neg apart)).trans ((State.rd_wr ..).trans (if_pos rfl)))

theorem State.firmwareRunning_readiness (s : State) (i : ImgInfo) : (s.firmwareRunning i).readiness = 4 := by
  rw [State.firmwareRunning, State.setReadiness_readiness _ (by decide)]

theorem State.firmwareRunning_calState (s : State) (i : ImgInfo) : (s.firmwareRunning i).mgmt.calState = s.mgmt.calState := by
  unfold State.firmwareRunning State.setReadiness
  split
  · rfl
  · rw [State.mgmtEvent_mgmt]
    rfl

theorem State.goOn_kept (s : State) : BroughtOn (secKey 1) s s.goOn := by
  unfold State.goOn
  split
  · exact .ite (s.stepsFourFive_kept _) (.refl _ s)
  · exact .refl _ s

/-- A firmware started: it runs, its status is RUNNING, and the staging area is zero. -/
theorem State.startFirmware_facts (s : State) (i : ImgInfo) : (s.startFirmware i).sec.running = some i ∧ (s.startFirmware i).rdN (secKey 1) = 3 ∧
    (s.startFirmware i).cores = s.cores ∧ (s.startFirmware i).beat = s.beat ∧
    (∀ a, spadBase 0 ≤ a → a < spadBase 2 → (s.startFirmware i).mem.read a = 0#8) := by
  obtain ⟨sec, cores, beat, zero⟩ := s.firmwareRunning_facts i
  have status := s.firmwareRunning_status i
  have kept := (s.firmwareRunning i).goOn_kept
  rw [s.startFirmware_eq i]
  generalize s.firmwareRunning i = t at *
  rw [kept.running, kept.cores, kept.beat, kept.mem, sec, State.rdN_eq, kept.word]
  exact ⟨rfl, status, cores, beat, zero⟩

theorem State.startFirmware_waits (s : State) (i : ImgInfo) (none : s.sec.obs = none) : (s.startFirmware i).readiness = 4 := by
  have obs : (s.firmwareRunning i).sec.obs = Option.none := by rw [(s.firmwareRunning_facts i).1]; exact none
  rw [s.startFirmware_eq i, State.goOn, obs]
  exact s.firmwareRunning_readiness i

theorem State.startFirmware_goesOn (s : State) (i : ImgInfo) {obs : BringupObs} (seen : s.sec.obs = some obs) (good : obs.failedStep = 0)
    (idle : s.mgmt.calState ≠ .committing) : (s.startFirmware i).readiness = 4 ∧ (s.startFirmware i).sec.obs = none := by
  have obs' : (s.firmwareRunning i).sec.obs = some obs := by rw [(s.firmwareRunning_facts i).1]; exact seen
  have ready := s.firmwareRunning_readiness i
  have idle' : (s.firmwareRunning i).mgmt.calState ≠ .committing := by rwa [s.firmwareRunning_calState i]
  obtain ⟨kept, none⟩ := (s.firmwareRunning i).stepsFourFive_done good
  have eff : s.startFirmware i = (s.firmwareRunning i).stepsFourFive obs := by
    rw [s.startFirmware_eq i, State.goOn, obs']
    exact if_pos ⟨ready, idle'⟩
  rw [eff]
  exact ⟨(congrArg BitVec.toNat kept.word).trans ready, none⟩

/-! ## The release of a reset -/

/-- The objects, beside the straps and the partitions' keys, that a reset release writes before it chooses an image. -/
def releaseWrites : List Nat :=
  [fabKey 0x10, fabKey 0x13, fabKey 0x14, fabKey 0x17, fabKey 0x15, idKey 0x32, idKey 0x13, idKey 0x30, objKey 0x1100 0x14, pwKey 1,
    objKey 0x2700 1, secKey 0x0C]

/-- What the release leaves of a state before it chooses an image: the view, the calibration's state, and all words but those it writes. -/
structure ReleaseKept (s t : State) : Prop where
  view : t.unreported = s.unreported
  cal : t.mgmt.calState = s.mgmt.calState
  word : ∀ k, k ∉ releaseWrites → (∀ p, k ≠ pKey p 0x2B) → t.rd k = s.rd k

theorem ReleaseKept.refl (s : State) : ReleaseKept s s := ⟨rfl, rfl, fun _ _ _ => rfl⟩

theorem ReleaseKept.trans {s t u : State} (h : ReleaseKept s t) (h' : ReleaseKept t u) : ReleaseKept s u :=
  ⟨h'.view.trans h.view, h'.cal.trans h.cal, fun k out key => (h'.word k out key).trans (h.word k out key)⟩

theorem ReleaseKept.wrN (s : State) {k : Nat} (v : Nat) (h : k ∈ releaseWrites) : ReleaseKept s (s.wrN k v) :=
  ⟨State.wrN_unreported .., rfl, fun _ out _ => s.rd_wrN_ne v fun here => out (here ▸ h)⟩

theorem ReleaseKept.mgmtEvent (s : State) (code : Nat) : ReleaseKept s (s.mgmtEvent code) :=
  ⟨State.mgmtEvent_unreported .., (congrArg MgmtSt.calState (s.mgmtEvent_mgmt code) :), fun k _ _ => s.mgmtEvent_rd code k⟩

theorem ReleaseKept.ite {s a b : State} {p : Prop} [Decidable p] (ha : ReleaseKept s a) (hb : ReleaseKept s b) :
    ReleaseKept s (if p then a else b) := by
  split
  · exact ha
  · exact hb

theorem ReleaseKept.setReadiness (s : State) (r : Nat) : ReleaseKept s (s.setReadiness r) :=
  .ite (.refl s) ((ReleaseKept.wrN s r (by decide)).trans (.mgmtEvent _ 10))

theorem ReleaseKept.newKeys (s : State) : ReleaseKept s s.newKeys := by
  have counted (t : State) (k n : Nat) (h : k ∈ releaseWrites ∨ ∃ p, k = pKey p 0x2B) : ReleaseKept t (t.count32 k n) := by
    refine ⟨State.count32_unreported .., congrArg MgmtSt.calState (t.count32_mgmt k n), fun j out key => t.rd_count32_ne n ?_⟩
    rintro rfl
    exact h.elim out fun ⟨p, here⟩ => key p here
  have keyed : ReleaseKept s ((List.range 16).foldl State.newKey s) :=
    List.foldlRecOn (motive := ReleaseKept s) _ _ (.refl s) fun t ht p _ => ht.trans (counted t _ 1 (.inr ⟨p, rfl⟩))
  exact keyed.trans (counted _ _ 1 (.inl (by decide)))

theorem ReleaseKept.writes {s t : State} {k v : Nat} (h : ReleaseKept s t) (mem : k ∈ releaseWrites) : ReleaseKept s (t.wrN k v) :=
  h.trans (.wrN t v mem)

/-- What the straps set once their word is stored. -/
def State.strapped (s : State) (powerUp : Bool) : State :=
  let e := s.straps
  let bad := nfield e 9 8 == 3
  let limit := match nfield e 1 0 with
    | 0 => 2400
    | 1 => 2000
    | 2 => 1600
    | _ => 1200
  let s := ((s.wrN (pwKey 1) limit).wrN (fabKey 0x15) (nfield e 2 2)).wrN (objKey 0x2700 1) (nfield e 10 10)
  let s := s.wrN (objKey 0x1100 0x14) (b2n bad)
  let s := if powerUp then s.wrN (idKey 0x13) (if bad then 0 else nfield e 9 8) else s
  if bad = false then s
  else if s.rdN (idKey 0x10) = 0 then s.modMgmt fun m => { m with strapEv := true }
  else s.mgmtEvent 6

theorem State.sampleStraps_eq (s : State) (pins : BitVec 12) (powerUp : Bool) :
    s.sampleStraps pins powerUp = (s.wrN (objKey 0x1100 0x10) pins.toNat).strapped powerUp := rfl

theorem ReleaseKept.strapped (s : State) (powerUp : Bool) : ReleaseKept s (s.strapped powerUp) := by
  unfold State.strapped
  dsimp only
  generalize s.straps = e
  generalize (match nfield e 1 0 with | 0 => 2400 | 1 => 2000 | 2 => 1600 | _ => 1200) = limit
  have stored : ReleaseKept s ((((s.wrN (pwKey 1) limit).wrN (fabKey 0x15) (nfield e 2 2)).wrN (objKey 0x2700 1) (nfield e 10 10)).wrN
      (objKey 0x1100 0x14) (b2n (nfield e 9 8 == 3))) :=
    ((((ReleaseKept.refl s).writes (by decide)).writes (by decide)).writes (by decide)).writes (by decide)
  generalize State.wrN _ (objKey 0x1100 0x14) _ = t at *
  have rated : ReleaseKept s (if powerUp then t.wrN (idKey 0x13) (if nfield e 9 8 == 3 then 0 else nfield e 9 8) else t) :=
    .ite (stored.writes (by decide)) stored
  generalize (if powerUp then t.wrN (idKey 0x13) (if nfield e 9 8 == 3 then 0 else nfield e 9 8) else t) = u at *
  exact .ite rated (.ite (rated.trans ⟨rfl, rfl, fun _ _ _ => rfl⟩) (rated.trans (.mgmtEvent u 6)))

theorem ReleaseKept.setBeat (s : State) (st hops src : Nat) (master : FabAddr) : ReleaseKept s (s.setBeat st hops src master) :=
  ((((ReleaseKept.refl s).writes (by decide)).writes (by decide)).writes (by decide)).writes (by decide)

/-- The Beat at zero, and the progress of the bring-up. -/
def State.releaseBegun (s : State) : State :=
  ({ s with beat := 0 }.setBeat bsFree 0 0xFF s.ownAddr).beginBringup (b2n !(s.rdN (rKey 3) == 0))

theorem ReleaseKept.releaseBegun (s : State) : ReleaseKept { s with beat := 0 } s.releaseBegun :=
  (ReleaseKept.setBeat ..).writes (by decide)

/-- The straps sampled. -/
def State.releaseStrapped (s : State) (obs : BringupObs) : State :=
  let s := (s.releaseBegun.wrN (objKey 0x1100 0x10) obs.straps.toNat).strapped (s.rdN (rKey 3) == 0)
  s.wrN (idKey 0x32) (setField (s.rdN (idKey 0x32)) 0 0 (b2n (obs.straps.getLsbD 7)))

theorem ReleaseKept.releaseStrapped (s : State) (obs : BringupObs) :
    ReleaseKept (s.releaseBegun.wrN (objKey 0x1100 0x10) obs.straps.toNat) (s.releaseStrapped obs) :=
  (ReleaseKept.strapped ..).writes (by decide)

/-- The state in which the boot ROM chooses an image. -/
def State.resetReleased (s : State) (obs : BringupObs) : State :=
  ((((s.releaseStrapped obs).modSec fun x => { x with obs := some obs }).setReadiness 1).trainPcie obs.link).newKeys

theorem ReleaseKept.resetReleased (s : State) (obs : BringupObs) :
    ReleaseKept ((s.releaseStrapped obs).modSec fun x => { x with obs := some obs }) (s.resetReleased obs) := by
  have trained (t : State) (l : PcieLink) : ReleaseKept t (t.trainPcie l) := ⟨rfl, rfl, fun _ _ _ => rfl⟩
  exact ((ReleaseKept.setReadiness ..).trans (trained ..)).trans (.newKeys _)

theorem resetRelease_boots {obs : BringupObs} (on : s.pow.mode = .on) (held : s.readiness = 0) (good : obs.failedStep = 0) :
    resetReleaseEff obs s = (s.resetReleased obs).boot obs := by
  unfold resetReleaseEff
  rw [if_neg (not_or.mpr ⟨not_not_intro on, not_not_intro held⟩)]
  dsimp only
  rw [if_neg (by omega), if_neg (by omega)]
  rfl

theorem State.resetReleased_view (s : State) (obs : BringupObs) :
    (s.resetReleased obs).unreported = ({ s with beat := 0, sec := { s.sec with obs := some obs } } : State).unreported := by
  have strapped : (s.releaseStrapped obs).unreported = ({ s with beat := 0 } : State).unreported :=
    ((ReleaseKept.releaseStrapped s obs).view.trans (State.wrN_unreported ..)).trans (ReleaseKept.releaseBegun s).view
  have last := (ReleaseKept.resetReleased s obs).view
  generalize s.resetReleased obs = r at *
  generalize s.releaseStrapped obs = t at *
  have sec : t.sec = s.sec := (State.sec_of_unreported strapped :)
  have noted : (t.modSec fun x => { x with obs := some obs }).unreported = { t.unreported with sec := { t.sec with obs := some obs } } := rfl
  rw [last, noted, sec, strapped]
  rfl

theorem State.resetReleased_calState (s : State) (obs : BringupObs) : (s.resetReleased obs).mgmt.calState = s.mgmt.calState := by
  have begun := (ReleaseKept.releaseBegun s).cal
  have strapped := (ReleaseKept.releaseStrapped s obs).cal
  have last := (ReleaseKept.resetReleased s obs).cal
  generalize s.resetReleased obs = r at *
  generalize s.releaseStrapped obs = t at *
  generalize s.releaseBegun = u at *
  have stored (w : State) (k v : Nat) : (w.wrN k v).mgmt = w.mgmt := rfl
  have noted (w : State) (f : SecSt → SecSt) : (w.modSec f).mgmt = w.mgmt := rfl
  rw [last, noted, strapped, stored, begun]

theorem State.resetReleased_rd (s : State) (obs : BringupObs) {k : Nat} (out : k ∉ releaseWrites) (key : ∀ p, k ≠ pKey p 0x2B)
    (pins : k ≠ objKey 0x1100 0x10) : (s.resetReleased obs).rd k = s.rd k :=
  ((ReleaseKept.resetReleased s obs).word k out key).trans (((ReleaseKept.releaseStrapped s obs).word k out key).trans
    ((s.releaseBegun.rd_wrN_ne _ pins).trans ((ReleaseKept.releaseBegun s).word k out key)))

theorem State.resetReleased_pins (s : State) (obs : BringupObs) : (s.resetReleased obs).rd (objKey 0x1100 0x10) = BitVec.ofNat 64 obs.straps.toNat := by
  have out : objKey 0x1100 0x10 ∉ releaseWrites := by decide
  have key (p : Nat) : objKey 0x1100 0x10 ≠ pKey p 0x2B := by
    simp only [objKey, pKey, partIndex]
    omega
  exact ((ReleaseKept.resetReleased s obs).word _ out key).trans (((ReleaseKept.releaseStrapped s obs).word _ out key).trans
    ((State.rd_wr ..).trans (if_pos rfl)))

theorem State.resetReleased_secKey (s : State) (obs : BringupObs) {sub : Nat} (low : sub < 0x0C) : (s.resetReleased obs).rd (secKey sub) = s.rd (secKey sub) := by
  refine s.resetReleased_rd obs (fun mem => ?_) (fun p => ?_) ?_
  · simp only [releaseWrites, List.mem_cons, List.not_mem_nil, secKey, objKey, fabKey, idKey, pwKey, or_false] at mem
    omega
  · simp only [secKey, objKey, pKey, partIndex]
    omega
  · simp only [secKey, objKey]
    omega

/-! ## The choice of an image -/

/-- The boot ROM with bank 0 active. -/
def State.bankZero (s : State) : State := (s.modSec fun x => { x with nextBank := false }).wrN (secKey 2) 0

section
variable (first : s.sec.nextBank = false) (bank : s.rdN (secKey 2) = 0) (obs : BringupObs)
include first bank

theorem boot_eq : s.boot obs =
    if bit (s.bankZero.rd (objKey 0x1100 0x10)) 7 then (s.bankZero.wrN (secKey 1) 1).setReadiness 2
    else if s.bankZero.bankPasses s.bankZero.sec.bank0 obs.activePasses then s.bankZero.startFirmware s.bankZero.sec.bank0
    else if s.bankZero.bankPasses s.bankZero.sec.bank1 obs.otherPasses then (s.bankZero.wrN (secKey 2) 3).startFirmware s.bankZero.sec.bank1
    else (s.bankZero.wrN (secKey 1) 4).setReadiness 3 := by
  unfold State.boot
  rw [first]
  dsimp only [Bool.false_eq_true, if_false]
  rw [bank]
  rfl

end

theorem State.bankZero_sec (s : State) : s.bankZero.sec = { s.sec with nextBank := false } := rfl

theorem State.bankZero_svnMin (s : State) : s.bankZero.svnMin = s.svnMin := State.rdN_wrN_ne (s.modSec _) 0 (by decide)

theorem State.bankZero_pins (s : State) : s.bankZero.rd (objKey 0x1100 0x10) = s.rd (objKey 0x1100 0x10) :=
  State.rd_wrN_ne (s.modSec _) 0 (by decide)

theorem State.bankZero_sameWork (s : State) : sameWork s s.bankZero := sameWork_refl s

theorem State.bankZero_beat (s : State) : s.bankZero.beat = s.beat := rfl

theorem State.bankZero_mgmt (s : State) : s.bankZero.mgmt = s.mgmt := rfl

theorem bit_pins (pins : BitVec 12) : bit (BitVec.ofNat 64 pins.toNat) 7 = pins.getLsbD 7 := by
  rw [bit, BitVec.getLsbD, BitVec.toNat_ofNat, Nat.mod_eq_of_lt (by have := pins.isLt; omega)]
  rfl

/-- What stands when the boot ROM has taken bank 0 of a released device. -/
theorem State.resetReleased_bankZero (s : State) (obs : BringupObs) :
    (s.resetReleased obs).bankZero.sec = { s.sec with obs := some obs, nextBank := false } ∧ (s.resetReleased obs).bankZero.beat = 0 ∧
    (s.resetReleased obs).bankZero.svnMin = s.svnMin ∧ bit ((s.resetReleased obs).bankZero.rd (objKey 0x1100 0x10)) 7 = obs.straps.getLsbD 7 ∧
    (s.resetReleased obs).bankZero.mgmt.calState = s.mgmt.calState ∧ sameWork s (s.resetReleased obs).bankZero := by
  have view := s.resetReleased_view obs
  have cal := s.resetReleased_calState obs
  have pins := s.resetReleased_pins obs
  have svn : (s.resetReleased obs).svnMin = s.svnMin := congrArg BitVec.toNat (s.resetReleased_secKey obs (by decide))
  generalize s.resetReleased obs = t at *
  have sec : t.sec = { s.sec with obs := some obs } := (State.sec_of_unreported view :)
  have beat : t.beat = 0 := (State.beat_of_unreported view :)
  have work : sameWork s t := (sameWork_of_unreported_eq view :)
  rw [t.bankZero_sec, t.bankZero_beat, t.bankZero_svnMin, t.bankZero_pins, t.bankZero_mgmt, sec, beat, svn, pins, bit_pins, cal]
  exact ⟨rfl, rfl, rfl, rfl, rfl, sameWork_trans work t.bankZero_sameWork⟩

/-- A boot ROM that starts nothing: its status and READINESS. -/
theorem State.waits_facts (s : State) (status : Nat) {r : Nat} (small : r < 2 ^ 64) : ((s.wrN (secKey 1) status).setReadiness r).readiness = r ∧
    ((s.wrN (secKey 1) status).setReadiness r).beat = s.beat ∧ ((s.wrN (secKey 1) status).setReadiness r).sec = s.sec ∧
    sameWork s ((s.wrN (secKey 1) status).setReadiness r) := by
  have view : ((s.wrN (secKey 1) status).setReadiness r).unreported = s.unreported :=
    (State.setReadiness_unreported ..).trans (State.wrN_unreported ..)
  exact ⟨State.setReadiness_readiness _ small, State.beat_of_unreported view, State.sec_of_unreported view, sameWork_of_unreported_eq view⟩

section
variable {obs : BringupObs} (on : s.pow.mode = .on) (held : s.readiness = 0) (good : obs.failedStep = 0) (first : s.sec.nextBank = false)
  (bank : s.rdN (secKey 2) = 0)
include on held good first bank

theorem resetRelease_eq : resetReleaseEff obs s =
    if bit ((s.resetReleased obs).bankZero.rd (objKey 0x1100 0x10)) 7 then ((s.resetReleased obs).bankZero.wrN (secKey 1) 1).setReadiness 2
    else if (s.resetReleased obs).bankZero.bankPasses (s.resetReleased obs).bankZero.sec.bank0 obs.activePasses then
      (s.resetReleased obs).bankZero.startFirmware (s.resetReleased obs).bankZero.sec.bank0
    else if (s.resetReleased obs).bankZero.bankPasses (s.resetReleased obs).bankZero.sec.bank1 obs.otherPasses then
      ((s.resetReleased obs).bankZero.wrN (secKey 2) 3).startFirmware (s.resetReleased obs).bankZero.sec.bank1
    else ((s.resetReleased obs).bankZero.wrN (secKey 1) 4).setReadiness 3 := by
  have first' : (s.resetReleased obs).sec.nextBank = false := by
    rw [State.sec_of_unreported (s.resetReleased_view obs)]
    exact first
  have bank' : (s.resetReleased obs).rdN (secKey 2) = 0 := (congrArg BitVec.toNat (s.resetReleased_secKey obs (by decide))).trans bank
  rw [resetRelease_boots on held good, boot_eq first' bank' obs]

theorem resetRelease_recovery (recovery : obs.straps.getLsbD 7 = true) : (resetReleaseEff obs s).readiness = 2 ∧
    (resetReleaseEff obs s).beat = 0 ∧ (resetReleaseEff obs s).sec.running = s.sec.running ∧ sameWork s (resetReleaseEff obs s) := by
  obtain ⟨sec, beat, _, pins, _, work⟩ := s.resetReleased_bankZero obs
  rw [resetRelease_eq on held good first bank]
  generalize (s.resetReleased obs).bankZero = t at *
  obtain ⟨ready, beat', sec', work'⟩ := t.waits_facts 1 (r := 2) (by decide)
  rw [if_pos (pins.trans recovery), ready, beat', beat, sec', sec]
  exact ⟨rfl, rfl, rfl, sameWork_trans work work'⟩

theorem resetRelease_runs (normal : obs.straps.getLsbD 7 = false) (valid : s.sec.bank0.valid = true) (passes : obs.activePasses = true)
    (svn : s.svnMin ≤ s.sec.bank0.svn) (idle : s.mgmt.calState ≠ .committing) : (resetReleaseEff obs s).readiness = 4 ∧
      (resetReleaseEff obs s).beat = 0 ∧ (resetReleaseEff obs s).sec.running = some s.sec.bank0 ∧ (resetReleaseEff obs s).sec.obs = none ∧
      (∀ a, spadBase 0 ≤ a → a < spadBase 2 → (resetReleaseEff obs s).mem.read a = 0#8) := by
  obtain ⟨sec, beat, least, pins, cal, _⟩ := s.resetReleased_bankZero obs
  rw [resetRelease_eq on held good first bank]
  generalize (s.resetReleased obs).bankZero = t at *
  have image : t.sec.bank0 = s.sec.bank0 := by rw [sec]
  have boots : t.bankPasses t.sec.bank0 obs.activePasses = true := by
    rw [image, State.bankPasses, valid, passes, least]
    simpa using svn
  rw [if_neg (by rw [pins, normal]; decide), if_pos boots, image]
  obtain ⟨running, _, _, beat', zero⟩ := t.startFirmware_facts s.sec.bank0
  obtain ⟨ready, done⟩ := t.startFirmware_goesOn s.sec.bank0 (by rw [sec]) good (by rwa [cal])
  exact ⟨ready, beat'.trans beat, running, done, zero⟩

theorem resetRelease_empty (normal : obs.straps.getLsbD 7 = false) (none0 : s.sec.bank0.valid = false) (none1 : s.sec.bank1.valid = false) :
    (resetReleaseEff obs s).readiness = 3 ∧ (resetReleaseEff obs s).beat = 0 ∧ (resetReleaseEff obs s).sec.running = s.sec.running ∧
      sameWork s (resetReleaseEff obs s) := by
  obtain ⟨sec, beat, _, pins, _, work⟩ := s.resetReleased_bankZero obs
  rw [resetRelease_eq on held good first bank]
  generalize (s.resetReleased obs).bankZero = t at *
  have fails0 : ¬ t.bankPasses t.sec.bank0 obs.activePasses = true := by simp [State.bankPasses, sec, none0]
  have fails1 : ¬ t.bankPasses t.sec.bank1 obs.otherPasses = true := by simp [State.bankPasses, sec, none1]
  obtain ⟨ready, beat', sec', work'⟩ := t.waits_facts 4 (r := 3) (by decide)
  rw [if_neg (by rw [pins, normal]; decide), if_neg fails0, if_neg fails1, ready, beat', beat, sec', sec]
  exact ⟨rfl, rfl, rfl, sameWork_trans work work'⟩

end

/-! ## Power-up and job-ready -/

theorem loadSaved_sameWork (l : List (Nat × Word)) (t : State) : sameWork t (loadSaved l t) := by
  obtain ⟨o, h, eq⟩ := loadSaved_frame l t
  rw [eq]
  exact sameWork_refl t

/-- The saved values loaded into a device whose input has come on. -/
def State.savedLoaded (s : State) : State := loadSaved s.mgmt.flash (s.modPow fun w => { w with mode := .on })

theorem powerUp_facts (off : s.pow.mode = .off) (fixed : ∀ kv ∈ s.mgmt.flash, kv.1 ≠ idKey 0x11) : (powerUpEff s).pow.mode = .on ∧
    (powerUpEff s).nodeId = s.rdN (idKey 0x11) ∧ sameWork s (powerUpEff s) := by
  obtain ⟨u, hu⟩ : ∃ u, u = s.savedLoaded := ⟨_, rfl⟩
  have mode : u.pow.mode = .on := by
    rw [hu, State.savedLoaded, (loadSaved_beside ..).2.2]
    rfl
  have word : u.rdN (idKey 0x11) = s.rdN (idKey 0x11) := by
    rw [hu]
    exact congrArg BitVec.toNat (loadSaved_rd s.mgmt.flash (s.modPow fun w => { w with mode := .on }) fixed)
  have work : sameWork s u := by
    rw [hu]
    exact loadSaved_sameWork s.mgmt.flash (s.modPow fun w => { w with mode := .on })
  obtain ⟨m, v, eff⟩ : ∃ m v, powerUpEff s = ((u.wrN (idKey 0x10) (u.rdN (idKey 0x11))).modMgmt m).wrN (objKey 0x1100 1) v := by
    rw [hu]
    unfold powerUpEff
    rw [if_neg (not_not_intro off)]
    exact ⟨_, _, rfl⟩
  rw [eff, word]
  refine ⟨mode, ?_, work⟩
  exact (State.rdN_wrN_ne _ v (by decide)).trans (u.rdN_wrN (s.rdN_lt _))

/-- The mask of the numbers below `n` for which `r` holds. -/
def maskBelow (r : Nat → Bool) (n : Nat) : Nat := (List.range n).foldl (fun a p => a + b2n (r p) * 2 ^ p) 0

theorem maskBelow_succ (r : Nat → Bool) (n : Nat) : maskBelow r (n + 1) = maskBelow r n + b2n (r n) * 2 ^ n := by
  rw [maskBelow, List.range_succ, List.foldl_append]
  rfl

/-- A mask is below its power of two, and is all ones just when `r` holds throughout. -/
theorem maskBelow_full (r : Nat → Bool) : ∀ n, maskBelow r n + 1 ≤ 2 ^ n ∧ (maskBelow r n + 1 = 2 ^ n ↔ ∀ p < n, r p = true)
  | 0 => ⟨Nat.le_refl _, fun _ p low => absurd low (Nat.not_lt_zero p), fun _ => rfl⟩
  | n + 1 => by
    obtain ⟨below, full⟩ := maskBelow_full r n
    have all : (∀ p < n + 1, r p = true) ↔ (∀ p < n, r p = true) ∧ r n = true :=
      ⟨fun h => ⟨fun p low => h p (by omega), h n (by omega)⟩, fun ⟨h, last⟩ p low =>
        (Nat.lt_succ_iff_lt_or_eq.mp low).elim (h p) fun here => here ▸ last⟩
    rw [maskBelow_succ, all, ← full, Nat.pow_succ]
    have none : b2n false = 0 := rfl
    have one : b2n true = 1 := rfl
    cases r n with
    | false => simp only [none, Bool.false_eq_true, and_false, iff_false]; omega
    | true => simp only [one, and_true]; omega

/-- The partitions that are ready. -/
def State.readyMask (s : State) : Nat := maskBelow (fun p => s.pN p 0xE1 != 7) 16

theorem State.readyMask_full (s : State) : s.readyMask = 65535 ↔ ∀ p < 16, s.pN p 0xE1 ≠ 7 := by
  obtain ⟨_, full⟩ := maskBelow_full (fun p => s.pN p 0xE1 != 7) 16
  have ones : s.readyMask = 65535 ↔ s.readyMask + 1 = 2 ^ 16 := by omega
  rw [ones, State.readyMask, full]
  simp only [bne_iff_ne]

/-- Job-ready: the state before READINESS takes its value. -/
def State.readyNoted (s : State) (us : Nat) : State :=
  (((s.wrN (idKey 0x31) s.readyMask).wrN (idKey 0x33) (min us (2 ^ 32 - 1))).wrN (idKey 0x34)
    ((s.wrN (idKey 0x31) s.readyMask).wrN (idKey 0x33) (min us (2 ^ 32 - 1))).activeMask)

theorem State.becomeReady_eq (s : State) (us : Nat) : s.becomeReady us = (s.readyNoted us).setReadiness (if s.readyMask = 65535 then 5 else 6) := rfl

section
variable (s : State) (us : Nat)

theorem State.becomeReady_view : (s.becomeReady us).unreported = s.unreported := by
  rw [s.becomeReady_eq us, State.setReadiness_unreported, State.readyNoted, State.wrN_unreported, State.wrN_unreported, State.wrN_unreported]

theorem State.becomeReady_readiness : (s.becomeReady us).readiness = if s.readyMask = 65535 then 5 else 6 := by
  rw [s.becomeReady_eq us, State.setReadiness_readiness]
  split <;> decide

theorem State.becomeReady_time : (s.becomeReady us).rdN (idKey 0x33) = min us (2 ^ 32 - 1) := by
  rw [s.becomeReady_eq us, State.rdN_eq, State.setReadiness_rd _ (by decide), State.readyNoted, State.rd_wrN_ne _ _ (by decide), ← State.rdN_eq,
    State.rdN_wrN _ (by omega)]

theorem State.becomeReady_bist : (s.becomeReady us).rd (idKey 0x35) = s.rd (idKey 0x35) := by
  rw [s.becomeReady_eq us, State.setReadiness_rd _ (by decide), State.readyNoted, State.rd_wrN_ne _ _ (by decide),
    State.rd_wrN_ne _ _ (by decide), State.rd_wrN_ne _ _ (by decide)]

theorem State.becomeReady_all (all : ∀ p < 16, s.pN p 0xE1 ≠ 7) : (s.becomeReady us).readiness = 5 := by
  rw [s.becomeReady_readiness us, if_pos (s.readyMask_full.mpr all)]

theorem State.becomeReady_some (failed : ∃ p < 16, s.pN p 0xE1 = 7) : (s.becomeReady us).readiness = 6 := by
  obtain ⟨p, low, fails⟩ := failed
  rw [s.becomeReady_readiness us, if_neg fun full => s.readyMask_full.mp full p low fails]

end

/-- The flags of a trip cleared and no climb of the ladder under way. -/
def State.climbEnded (s : State) : State :=
  (s.wrN (thKey 5) (setField (s.rdN (thKey 5)) 2 2 0)).modHang fun h => { h with chip := none }

theorem State.climbEnded_rd (s : State) {k : Nat} (h : k ≠ thKey 5) : s.climbEnded.rd k = s.rd k := s.rd_wrN_ne _ h

theorem State.climbEnded_hang (s : State) : s.climbEnded.hang.chip = none := rfl

theorem State.climbEnded_sameWork (s : State) : sameWork s s.climbEnded := sameWork_refl s

theorem State.bootBist_none (s : State) (none : s.rdN (idKey 0x35) = 0) : s.bootBist = s := by
  unfold State.bootBist
  rw [none]
  rfl

theorem jobReady_eq {us : Nat} (on : s.pow.mode = .on) (ready : s.readiness = 4) (done : s.sec.obs = none) :
    jobReadyEff us s = (s.climbEnded.becomeReady us).bootBist := by
  unfold jobReadyEff
  rw [if_neg (not_not_intro on), if_pos ⟨ready, done⟩]
  rfl

/-- Without self-tests at boot, the end of a bring-up is job-ready. -/
theorem jobReady_ends {us : Nat} (on : s.pow.mode = .on) (ready : s.readiness = 4) (done : s.sec.obs = none) (noBist : s.rdN (idKey 0x35) = 0) :
    jobReadyEff us s = s.climbEnded.becomeReady us := by
  have none : (s.climbEnded.becomeReady us).rdN (idKey 0x35) = 0 := by
    rw [State.rdN_eq, s.climbEnded.becomeReady_bist us, s.climbEnded_rd (by decide)]
    exact noBist
  rw [jobReady_eq on ready done, State.bootBist_none _ none]

theorem jobReady_facts {us : Nat} (on : s.pow.mode = .on) (ready : s.readiness = 4) (done : s.sec.obs = none) (noBist : s.rdN (idKey 0x35) = 0) :
    ((∀ p < 16, s.pN p 0xE1 ≠ 7) → (jobReadyEff us s).readiness = 5) ∧ ((∃ p < 16, s.pN p 0xE1 = 7) → (jobReadyEff us s).readiness = 6) ∧
      (jobReadyEff us s).hang.chip = none ∧ (jobReadyEff us s).rdN (idKey 0x33) = min us (2 ^ 32 - 1) ∧ sameWork s (jobReadyEff us s) := by
  have live (p : Nat) : s.climbEnded.pN p 0xE1 = s.pN p 0xE1 :=
    congrArg BitVec.toNat (s.climbEnded_rd (by simp only [pKey, objKey, partIndex, thKey]; omega))
  have all := s.climbEnded.becomeReady_all us
  have some := s.climbEnded.becomeReady_some us
  have view := s.climbEnded.becomeReady_view us
  have time := s.climbEnded.becomeReady_time us
  have eff := jobReady_ends (us := us) on ready done noBist
  have chip := s.climbEnded_hang
  have begun := s.climbEnded_sameWork
  simp only [live] at all some
  rw [eff]
  generalize s.climbEnded = u at *
  exact ⟨all, some, (congrArg HangSt.chip (State.hang_of_unreported view)).trans chip, time,
    sameWork_trans begun (sameWork_of_unreported_eq view)⟩

/-! ## Firmware loads and updates -/

section
variable {v : Word} {chk : ImageCheck} (reached : s.reaches .pf 0x2900 0x0A = true) (asked : bit v 0 = true)
  (waits : s.readiness = 2 ∨ s.readiness = 3)
include reached asked waits

theorem fwLoad_starts (good : s.imageFails (s.readImage (spadBase 0)) chk = 0) :
    fwLoadEff .pf v chk s = s.startFirmware (s.readImage (spadBase 0)).info := by
  have act : fwLoadW s .pf v chk = .ok (s.startFirmware (s.readImage (spadBase 0)).info) := by
    unfold fwLoadW
    dsimp only
    rw [if_neg (not_not_intro rfl), if_neg (by simp [asked]), if_neg (by omega), if_pos good]
  rw [fwLoadEff, act, State.objWrite_ok s reached]

theorem fwLoad_fails (bad : s.imageFails (s.readImage (spadBase 0)) chk ≠ 0) : fwLoadEff .pf v chk s = s.wrN (secKey 1) 2 := by
  have act : fwLoadW s .pf v chk = .ok (s.wrN (secKey 1) 2) := by
    unfold fwLoadW
    dsimp only
    rw [if_neg (not_not_intro rfl), if_neg (by simp [asked]), if_neg (by omega), if_neg bad]
  rw [fwLoadEff, act, State.objWrite_ok s reached]

end

theorem fwUpdateStart_starts {v : Word} (reached : s.reaches .pf 0x2900 8 = true) (asked : bit v 0 = true) (ready : s.jobReady = true)
    (idle : s.rdN (secKey 9) % 4 ≠ 1) : fwUpdateStartEff .pf v s =
      (s.modSec fun x => { x with update := some (s.readImage (s.rdN (secKey 7))), nextBank := false }).wrN (secKey 9) 1 := by
  have act : fwUpdateW s .pf v = .ok ((s.modSec fun x => { x with update := some (s.readImage (s.rdN (secKey 7))), nextBank := false }).wrN (secKey 9) 1) := by
    unfold fwUpdateW
    dsimp only
    rw [if_neg (not_not_intro rfl), if_neg (by simp [asked]), if_neg (not_or.mpr ⟨by simp [ready], idle⟩)]
  rw [fwUpdateStartEff, act, State.objWrite_ok s reached]

section
variable {chk : ImageCheck} {ok : Bool} {r : ImgRead} (update : s.sec.update = some r) (bank : s.rdN (secKey 2) = 0)
include update

theorem fwUpdateDone_eq : fwUpdateDoneEff chk ok s =
    if s.imageFails r chk ≠ 0 then (s.modSec fun x => { x with update := none }).wrN (secKey 9) (s.imageFails r chk * 2 ^ 24 + 3)
    else if ok = false then ((s.modSec fun x => { x with update := none }).setInactive { r.info with valid := false }).wrN (secKey 9) (6 * 2 ^ 24 + 3)
    else (((s.modSec fun x => { x with update := none }).setInactive r.info).modSec fun x => { x with nextBank := true }).wrN (secKey 9) 2 := by
  unfold fwUpdateDoneEff
  rw [update]

end

theorem State.setInactive_one (bank : s.rdN (secKey 2) = 0) (i : ImgInfo) :
    (s.modSec fun x => { x with update := none }).setInactive i = s.modSec fun x => { x with update := none, bank1 := i } := by
  have even : (s.modSec fun x => { x with update := none }).rdN (secKey 2) % 2 = 0 := congrArg (· % 2) bank
  unfold State.setInactive
  rw [if_pos even]
  rfl

theorem State.imageFails_le (s : State) (r : ImgRead) (chk : ImageCheck) : s.imageFails r chk ≤ 5 := by
  unfold State.imageFails
  split
  · omega
  split
  · omega
  split
  · omega
  split
  · omega
  split <;> omega

/-- The end of an update: the state of the security engine, and its status. -/
theorem State.updated_facts (s : State) (f : SecSt → SecSt) {status : Nat} (small : status < 2 ^ 64) :
    (∀ {α : Type} (view : SecSt → α), view ((s.modSec f).wrN (secKey 9) status).sec = view (f s.sec)) ∧ ((s.modSec f).wrN (secKey 9) status).rdN (secKey 9) = status ∧
      sameWork s ((s.modSec f).wrN (secKey 9) status) := by
  have view := (s.modSec f).wrN_unreported (secKey 9) status
  have word := (s.modSec f).rdN_wrN (k := secKey 9) small
  generalize State.wrN _ (secKey 9) status = t at *
  exact ⟨fun field => congrArg field (State.sec_of_unreported view :), word, (sameWork_of_unreported_eq view :)⟩

section
variable {chk : ImageCheck} {r : ImgRead} (update : s.sec.update = some r)
include update

theorem fwUpdateDone_fails {ok : Bool} (bad : s.imageFails r chk ≠ 0) : fwUpdateDoneEff chk ok s =
    (s.modSec fun x => { x with update := none }).wrN (secKey 9) (s.imageFails r chk * 2 ^ 24 + 3) := by
  rw [fwUpdateDone_eq update, if_pos bad]

section
variable (good : s.imageFails r chk = 0) (bank : s.rdN (secKey 2) = 0)
include good bank

theorem fwUpdateDone_unwritten : fwUpdateDoneEff chk false s =
    (s.modSec fun x => { x with update := none, bank1 := { r.info with valid := false } }).wrN (secKey 9) (6 * 2 ^ 24 + 3) := by
  rw [fwUpdateDone_eq update, State.setInactive_one bank, if_neg (not_not_intro good), if_pos rfl]

theorem fwUpdateDone_written : fwUpdateDoneEff chk true s =
    (s.modSec fun x => { x with update := none, bank1 := r.info, nextBank := true }).wrN (secKey 9) 2 := by
  rw [fwUpdateDone_eq update, State.setInactive_one bank, State.setInactive_one bank, if_neg (not_not_intro good), if_neg (by decide)]
  rfl

end

end

theorem svnAdvance_raises {via : Via} {v : Word} {i : ImgInfo} (reached : s.reaches via 0x2900 0x0B = true) (asked : bit v 0 = true)
    (key : field v 31 16 = 0x3C96) (running : s.sec.running = some i) : svnAdvanceEff via v s = s.wrN (secKey 3) (max s.svnMin i.svn) := by
  have priv := viaPriv_of_reaches reached (by decide) (by decide)
  have act : svnAdvanceW s via v = .ok (s.wrN (secKey 3) (max s.svnMin i.svn)) := by
    unfold svnAdvanceW
    rw [if_neg (by simp [priv]), if_neg (by simp [asked]), if_neg (not_not_intro key), running]
  rw [svnAdvanceEff, act, State.objWrite_ok s reached]

/-- Settles O52: a device powers up, is released, becomes ready, and loads, updates and advances its firmware. -/
theorem devicesComeUp : Obligations.DevicesComeUp := by
  refine ⟨fun s off fixed => ?_, fun s on => congrArg s.outcome (if_pos on), fun obs s on held good first bank => ⟨fun recovery => ?_,
    fun normal valid passes svn idle => ?_, fun normal none0 none1 => ?_⟩, fun us s on ready done noBist => ?_,
    fun v chk s reached asked waits => ⟨fun good => ?_, fun bad => ?_⟩,
    fun v s reached asked ready idle => ?_, fun chk ok s r update bank => ?_, fun via v s i reached asked key running small => ?_⟩
  · have facts := powerUp_facts off fixed
    generalize eff : powerUpEff s = t at *
    exact ⟨_, congrArg s.outcome eff, facts⟩
  · have facts := resetRelease_recovery on held good first bank recovery
    generalize eff : resetReleaseEff obs s = t at *
    exact ⟨_, congrArg s.outcome eff, facts⟩
  · have facts := resetRelease_runs on held good first bank normal valid passes svn idle
    generalize eff : resetReleaseEff obs s = t at *
    exact ⟨_, congrArg s.outcome eff, facts⟩
  · have facts := resetRelease_empty on held good first bank normal none0 none1
    generalize eff : resetReleaseEff obs s = t at *
    exact ⟨_, congrArg s.outcome eff, facts⟩
  · have facts := jobReady_facts (us := us) on ready done noBist
    generalize eff : jobReadyEff us s = t at *
    exact ⟨_, congrArg s.outcome eff, facts⟩
  · have eff := fwLoad_starts reached asked waits good
    obtain ⟨running, status, cores, _, zero⟩ := s.startFirmware_facts (s.readImage (spadBase 0)).info
    have ready := s.startFirmware_waits (s.readImage (spadBase 0)).info
    generalize s.startFirmware (s.readImage (spadBase 0)).info = t at *
    exact ⟨_, congrArg s.outcome eff, running, status, zero, ready, cores⟩
  · have eff := fwLoad_fails reached asked waits bad
    have status := s.rdN_wrN (k := secKey 1) (show 2 < 2 ^ 64 by decide)
    have others (k : Nat) (other : k ≠ secKey 1) := s.rd_wrN_ne 2 other
    have view := s.wrN_unreported (secKey 1) 2
    generalize s.wrN (secKey 1) 2 = t at *
    have sec := State.sec_of_unreported view
    have work := sameWork_of_unreported_eq view
    exact ⟨_, congrArg s.outcome eff, status, others, sec, work⟩
  · have eff := fwUpdateStart_starts reached asked ready idle
    obtain ⟨sec, word, work⟩ := s.updated_facts (fun x => { x with update := some (s.readImage (s.rdN (secKey 7))), nextBank := false })
      (show 1 < 2 ^ 64 by decide)
    generalize State.wrN _ (secKey 9) 1 = t at *
    exact ⟨_, congrArg s.outcome eff, sec SecSt.update, word, sec SecSt.running, work⟩
  · have least := s.imageFails_le r chk
    by_cases bad : s.imageFails r chk ≠ 0
    · have eff := fwUpdateDone_fails (ok := ok) update bad
      obtain ⟨sec, word, work⟩ := s.updated_facts (fun x => { x with update := none }) (status := s.imageFails r chk * 2 ^ 24 + 3) (by omega)
      generalize State.wrN _ (secKey 9) _ = t at *
      exact ⟨_, congrArg s.outcome eff, sec SecSt.update, sec SecSt.bank0, sec SecSt.running, work,
        fun good => absurd good bad, fun good => absurd good bad, fun _ => ⟨sec SecSt.bank1, word⟩⟩
    · have good := not_not.mp bad
      cases ok with
      | false =>
        have eff := fwUpdateDone_unwritten update good bank
        obtain ⟨sec, word, work⟩ := s.updated_facts (fun x => { x with update := none, bank1 := { r.info with valid := false } })
          (status := 6 * 2 ^ 24 + 3) (by decide)
        generalize State.wrN _ (secKey 9) _ = t at *
        exact ⟨_, congrArg s.outcome eff, sec SecSt.update, sec SecSt.bank0, sec SecSt.running, work,
          fun _ no => Bool.noConfusion no, fun _ _ => ⟨sec fun x => x.bank1.valid, word⟩, fun no => absurd good no⟩
      | true =>
        have eff := fwUpdateDone_written update good bank
        obtain ⟨sec, word, work⟩ := s.updated_facts (fun x => { x with update := none, bank1 := r.info, nextBank := true })
          (show 2 < 2 ^ 64 by decide)
        generalize State.wrN _ (secKey 9) 2 = t at *
        exact ⟨_, congrArg s.outcome eff, sec SecSt.update, sec SecSt.bank0, sec SecSt.running, work,
          fun _ _ => ⟨sec SecSt.bank1, sec SecSt.nextBank, word⟩, fun _ no => Bool.noConfusion no, fun no => absurd good no⟩
  · have small : max s.svnMin i.svn < 2 ^ 64 := by
      have := s.rdN_lt (secKey 3)
      exact Nat.max_lt.mpr ⟨this, by omega⟩
    have eff := svnAdvance_raises reached asked key running
    have least := s.rdN_wrN (k := secKey 3) small
    have others (k : Nat) (other : k ≠ secKey 3) := s.rd_wrN_ne (max s.svnMin i.svn) other
    have work := s.wrN_sameWork (secKey 3) (max s.svnMin i.svn)
    generalize s.wrN (secKey 3) _ = t at *
    exact ⟨_, congrArg s.outcome eff, least, others, work⟩

end Sys2Proof.Machine

end

section
/-! PROOFS. Partition-off, sleep and Retention (R413 to R420), obligation O54. -/

namespace Sys2Proof.Machine

variable {s : State}

/-! ## One step for each of several partitions -/

/-- When each step changes only what it shows of its own partition, a run over different partitions shows each one's change once. -/
theorem foldl_local {α : Type} {f : State → Nat → State} (v : State → Nat → α) (g : Nat → α → α) (own : ∀ t p, v (f t p) p = g p (v t p))
    (other : ∀ t p q, q ≠ p → v (f t p) q = v t q) (l : List Nat) (distinct : l.Nodup) (t : State) :
    (∀ q ∈ l, v (l.foldl f t) q = g q (v t q)) ∧ ∀ q, q ∉ l → v (l.foldl f t) q = v t q := by
  induction l generalizing t with
  | nil => exact ⟨fun _ h => absurd h List.not_mem_nil, fun _ _ => rfl⟩
  | cons p l ih =>
    obtain ⟨fresh, rest⟩ := List.nodup_cons.mp distinct
    obtain ⟨members, others⟩ := ih rest (f t p)
    rw [List.foldl_cons]
    refine ⟨fun q mem => ?_, fun q out => ?_⟩
    · rcases List.mem_cons.mp mem with rfl | mem
      · rw [others q fresh, own]
      · rw [members q mem, other t p q fun here => fresh (here ▸ mem)]
    · obtain ⟨apart, notIn⟩ := not_or.mp (List.mem_cons.not.mp out)
      rw [others q notIn, other t p q apart]

/-! ## Partition-off (R414) -/

theorem mget_foldl_mset_run {α : Type} [DecidableEq α] (d : α) (F : Nat → α) (b k : Nat) (l : List Nat) (m : SMap α) :
    mget d (l.foldl (fun m j => mset d m (b + j) (F (b + j))) m) k = if ∃ j ∈ l, k = b + j then F k else mget d m k := by
  induction l generalizing m with
  | nil => simp
  | cons i l ih =>
    rw [List.foldl_cons, ih, mget_mset]
    by_cases rest : ∃ j ∈ l, k = b + j
    · obtain ⟨j, mem, here⟩ := rest
      rw [if_pos ⟨j, mem, here⟩, if_pos ⟨j, List.mem_cons_of_mem _ mem, here⟩]
    · rw [if_neg rest]
      by_cases here : k = b + i
      · rw [if_pos here, if_pos ⟨i, List.mem_cons_self, here⟩, here]
      · rw [if_neg here, if_neg]
        rintro ⟨j, mem, at_⟩
        rcases List.mem_cons.mp mem with rfl | mem
        · exact here at_
        · exact rest ⟨j, mem, at_⟩

theorem State.offMasks_takeMasks (s : State) (p q : Nat) {i : Nat} (low : i < 16) : mget 0#64 (s.takeMasks p).pow.offMasks (16 * q + i) =
    if q = p then s.retainMask (16 * q + i) else mget 0#64 s.pow.offMasks (16 * q + i) := by
  refine (mget_foldl_mset_run 0#64 s.retainMask (16 * p) (16 * q + i) (List.range 16) s.pow.offMasks).trans ?_
  by_cases here : q = p
  · rw [if_pos here, if_pos ⟨i, List.mem_range.mpr low, by rw [here]⟩]
  · rw [if_neg here, if_neg]
    rintro ⟨j, mem, same⟩
    have := List.mem_range.mp mem
    omega

/-- What partition-off shows of a partition: its power state, and for a core its mask in force and its retention mask. -/
def State.offView (i : Nat) (s : State) (q : Nat) : Nat × Word × Word :=
  (s.pN q 1, mget 0#64 s.pow.offMasks (16 * q + i), s.retainMask (16 * q + i))

/-- Members that go to partition-off: the state and the masks of each, and what stays. -/
theorem enterOff_members (s : State) (p : Nat) : (∀ q ∈ s.members p, (s.enterOff p).pN q 1 = 1 ∧
      ∀ i < 16, mget 0#64 (s.enterOff p).pow.offMasks (16 * q + i) = s.retainMask (16 * q + i)) ∧
    (∀ k, (∀ q ∈ s.members p, k ≠ pKey q 1) → (s.enterOff p).rd k = s.rd k) ∧ sameWork s (s.enterOff p) := by
  have view (i : Nat) (low : i < 16) := foldl_local (f := fun s q => (s.takeMasks q).pWr q 1 1) (State.offView i)
    (fun _ x => (1, x.2.2, x.2.2))
    (fun t q => Prod.ext (State.pN_pWr ..) (Prod.ext ((t.offMasks_takeMasks q q low).trans (if_pos rfl)) rfl))
    (fun t r q apart => Prod.ext ((State.pN_pWr_ne _ 1 (pKey_ne_part apart (by decide) (by decide))).trans rfl)
      (Prod.ext ((t.offMasks_takeMasks r q low).trans (if_neg apart)) rfl))
    (s.members p) (s.members_nodup p) s
  refine ⟨fun q mem => ⟨?_, fun i low => ?_⟩, fun k out => ?_, ?_⟩
  · exact congrArg Prod.fst ((view 0 (by decide)).1 q mem)
  · exact congrArg (fun x => x.2.1) ((view i low).1 q mem)
  · refine List.foldlRecOn (motive := fun t : State => t.rd k = s.rd k) (s.members p) _ rfl fun t ht q mem => ?_
    exact ((State.rd_wr ..).trans (if_neg (out q mem))).trans ht
  · exact List.foldlRecOn (motive := fun t : State => sameWork s t) (s.members p) _ (sameWork_refl s) fun t ht q _ => ht

/-- A member of a group that begins to wake. -/
def State.wakeMember (s : State) (q : Nat) : State := if s.pN q 1 = 1 ∨ s.pN q 1 = 2 then (s.pWr q 1 3).pCount q 7 1 else s

theorem State.wakeGroup_eq (s : State) (p : Nat) : s.wakeGroup p = (s.members p).foldl State.wakeMember s := rfl

/-- The power state of a partition and how often it has woken. -/
def State.wakeView (s : State) (q : Nat) : Nat × Word := (s.pN q 1, s.rd (pKey q 7))

theorem State.wakeMember_own (s : State) (q : Nat) : (s.wakeMember q).wakeView q =
    if (s.wakeView q).1 = 1 ∨ (s.wakeView q).1 = 2 then (3, (s.wakeView q).2 + 1#64) else s.wakeView q := by
  rw [State.wakeMember]
  by_cases asleep : s.pN q 1 = 1 ∨ s.pN q 1 = 2
  · rw [if_pos asleep, if_pos (show (s.wakeView q).1 = 1 ∨ (s.wakeView q).1 = 2 from asleep), State.wakeView, State.pN, State.rdN_eq, State.pCount,
      State.rd_count, if_neg (pKey_ne q (by decide)), State.rd_count, if_pos rfl, State.pWr, State.rd_wr, if_pos rfl, State.rd_wr,
      if_neg (pKey_ne q (by decide))]
    rfl
  · rw [if_neg asleep, if_neg (show ¬((s.wakeView q).1 = 1 ∨ (s.wakeView q).1 = 2) from asleep)]

theorem State.wakeMember_other (s : State) {q r : Nat} (apart : q ≠ r) : (s.wakeMember r).wakeView q = s.wakeView q := by
  rw [State.wakeMember]
  split
  · rw [State.wakeView, State.pN, State.rdN_eq, State.pCount, State.rd_count, if_neg (pKey_ne_part apart (by decide) (by decide)), State.rd_count,
      if_neg (pKey_ne_part apart (by decide) (by decide)), State.pWr, State.rd_wr, if_neg (pKey_ne_part apart (by decide) (by decide)), State.rd_wr,
      if_neg (pKey_ne_part apart (by decide) (by decide))]
    rfl
  · rfl

/-- Members that begin to wake: the state and the count of each. -/
theorem wakeGroup_members (s : State) (p : Nat) : ∀ q ∈ s.members p, s.pN q 1 = 1 ∨ s.pN q 1 = 2 →
    (s.wakeGroup p).pN q 1 = 3 ∧ (s.wakeGroup p).pRd q 7 = s.pRd q 7 + 1#64 := by
  intro q mem asleep
  have view := (foldl_local State.wakeView (fun _ x => if x.1 = 1 ∨ x.1 = 2 then (3, x.2 + 1#64) else x) (fun t q => t.wakeMember_own q)
    (fun t r q apart => t.wakeMember_other apart) (s.members p) (s.members_nodup p) s).1 q mem
  rw [if_pos (show (s.wakeView q).1 = 1 ∨ (s.wakeView q).1 = 2 from asleep)] at view
  rw [s.wakeGroup_eq p]
  exact ⟨congrArg Prod.fst view, congrArg Prod.snd view⟩

section
variable {via : Via} {p : Part} (reached : s.reaches via (partIx p) 0 = true)
include reached

theorem partPowerOff_enters (live : s.pN p 1 ≠ 1) (awake : s.pN p 1 ≠ 2) (drained : s.drained p = true) (noReset : s.pN p 0xE1 = 0)
    (noReclaim : s.pN p 0x2E ≠ 1) (noTest : s.bistRuns p = false) : partPowerOffEff via p 1#64 s = s.enterOff p := by
  have allowed : (s.drained p && s.pN p 0xE1 == 0 && s.pN p 0x2E != 1 && !s.bistRuns p) = true := by
    simp only [drained, noTest, Bool.true_and, Bool.and_eq_true, beq_iff_eq, bne_iff_ne, Bool.not_false, and_true]
    exact ⟨noReset, noReclaim⟩
  have act : partPowerW s p 1#64 = .ok (s.enterOff p) := by
    change (if s.pN p 1 = 1 ∨ s.pN p 1 = 2 then _ else _) = _
    rw [if_neg (not_or.mpr ⟨live, awake⟩), guardW, if_pos allowed]
  rw [partPowerOffEff, act]
  exact State.objWrite_ok s reached _

omit reached in
theorem partPowerOff_busy (live : s.pN p 1 ≠ 1) (awake : s.pN p 1 ≠ 2) (busy : s.drained p = false) :
    ∃ h, partPowerOffEff via p 1#64 s = { s with host := h } := by
  have act : partPowerW s p 1#64 = .error .state := by
    change (if s.pN p 1 = 1 ∨ s.pN p 1 = 2 then _ else _) = _
    rw [if_neg (not_or.mpr ⟨live, awake⟩), guardW, if_neg (by simp [busy])]
  rw [partPowerOffEff, act]
  exact s.objWrite_error_frame ..

theorem partPowerOn_wakes : partPowerOnEff via p 2#64 s = s.wakeGroup p := by
  have act : partPowerW s p 2#64 = .ok (s.wakeGroup p) := rfl
  rw [partPowerOnEff, act]
  exact State.objWrite_ok s reached _

end

/-! ## What is lost in partition-off -/

/-- Byte `x` of bank `b` of core `c`'s scratchpad. -/
def bankAt (c b x : Nat) : Nat := spadBase c + b * 2 ^ 19 + x

/-- The banks of a list that a mask does not keep, zeroed. -/
def State.dropBanks (mask : Word) (c : Nat) (s : State) (l : List Nat) : State :=
  l.foldl (fun s b => if mask.getLsbD b then s else s.zeroMem (spadBase c + b * 2 ^ 19) (2 ^ 19)) s

theorem State.loseBanks_eq (s : State) (c : Nat) : s.loseBanks c =
    (s.dropBanks (mget 0#64 s.pow.offMasks c) c (List.range 64)).zeroMem (walnutBase c) walnutSize := rfl

theorem State.dropBanks_frame (mask : Word) (c : Nat) (s : State) (l : List Nat) : ∃ m, s.dropBanks mask c l = { s with mem := m } := by
  refine List.foldlRecOn (motive := fun t : State => ∃ m, t = { s with mem := m }) l _ ⟨s.mem, rfl⟩ fun t ht b _ => ?_
  obtain ⟨m, rfl⟩ := ht
  split
  · exact ⟨m, rfl⟩
  · exact ⟨_, rfl⟩

theorem State.dropBanks_read_out (mask : Word) (c : Nat) (s : State) (l : List Nat) {a : Nat}
    (out : ∀ b ∈ l, a < spadBase c + b * 2 ^ 19 ∨ spadBase c + b * 2 ^ 19 + 2 ^ 19 ≤ a ∨ mask.getLsbD b = true) :
    (s.dropBanks mask c l).mem.read a = s.mem.read a := by
  refine List.foldlRecOn (motive := fun t : State => t.mem.read a = s.mem.read a) l _ rfl fun t ht b mem => ?_
  split
  · exact ht
  next lost =>
    have apart := out b mem
    refine ((Mem.read_zero ..).trans (if_neg ?_)).trans ht
    rcases apart with h | h | h
    · omega
    · omega
    · exact absurd h lost

theorem State.dropBanks_read_lost (mask : Word) (c : Nat) (s : State) {l : List Nat} {b x : Nat} (mem : b ∈ l) (hx : x < 2 ^ 19)
    (lost : mask.getLsbD b = false) : (s.dropBanks mask c l).mem.read (bankAt c b x) = 0#8 := by
  induction l generalizing s with
  | nil => exact absurd mem List.not_mem_nil
  | cons i l ih =>
    by_cases later : b ∈ l
    · exact ih _ later
    · have here : b = i := (List.mem_cons.mp mem).resolve_right later
      subst here
      have rest : (State.dropBanks mask c (s.zeroMem (spadBase c + b * 2 ^ 19) (2 ^ 19)) l).mem.read (bankAt c b x) =
          (s.zeroMem (spadBase c + b * 2 ^ 19) (2 ^ 19)).mem.read (bankAt c b x) := by
        refine State.dropBanks_read_out mask c _ l fun j inl => ?_
        have apart : j ≠ b := fun same => later (same ▸ inl)
        simp only [bankAt]
        omega
      have step : s.dropBanks mask c (b :: l) = State.dropBanks mask c (s.zeroMem (spadBase c + b * 2 ^ 19) (2 ^ 19)) l :=
        congrArg (fun t => State.dropBanks mask c t l) (if_neg (by simp [lost]))
      rw [step, rest]
      refine (Mem.read_zero ..).trans (if_pos ?_)
      simp only [bankAt]
      omega

theorem State.loseBanks_frame (s : State) (c : Nat) : ∃ m, s.loseBanks c = { s with mem := m } := by
  obtain ⟨m, eq⟩ := s.dropBanks_frame (mget 0#64 s.pow.offMasks c) c (List.range 64)
  rw [s.loseBanks_eq c, eq]
  exact ⟨_, rfl⟩

theorem State.loseBanks_read_hbm (s : State) (c : Nat) {a : Nat} (low : a < hbmEnd) : (s.loseBanks c).mem.read a = s.mem.read a := by
  have below : a < spadBase c ∧ a < walnutBase c := by
    simp only [hbmEnd, spadBase, spadSize, walnutBase, walnutSize] at *
    omega
  rw [s.loseBanks_eq c]
  refine ((Mem.read_zero ..).trans (if_neg (by omega))).trans ?_
  exact s.dropBanks_read_out _ c _ fun b _ => by omega

/-- A bank below the walnut buffers is lost with its own core's unkept banks and by no other core's. -/
theorem State.loseBanks_read_bank (s : State) (c : Nat) {d b x : Nat} (core : d < 256) (hb : b < 64) (hx : x < 2 ^ 19) :
    (s.loseBanks c).mem.read (bankAt d b x) =
      if d = c ∧ (mget 0#64 s.pow.offMasks d).getLsbD b = false then 0#8 else s.mem.read (bankAt d b x) := by
  have below : ¬(walnutBase c ≤ bankAt d b x ∧ bankAt d b x < walnutBase c + walnutSize) := by
    simp only [bankAt, spadBase, spadSize, walnutBase, walnutSize] at *
    omega
  rw [s.loseBanks_eq c]
  refine ((Mem.read_zero ..).trans (if_neg below)).trans ?_
  by_cases lost : d = c ∧ (mget 0#64 s.pow.offMasks d).getLsbD b = false
  · obtain ⟨rfl, lost⟩ := lost
    rw [if_pos ⟨rfl, lost⟩, s.dropBanks_read_lost _ d (List.mem_range.mpr hb) hx lost]
  · rw [if_neg lost]
    refine s.dropBanks_read_out _ c _ fun j mem => ?_
    by_cases here : d = c
    · subst here
      by_cases bank : j = b
      · subst bank
        exact .inr (.inr (by simpa using lost))
      · have := List.mem_range.mp mem
        simp only [bankAt]
        omega
    · have := List.mem_range.mp mem
      simp only [bankAt, spadBase, spadSize]
      omega

/-- One core of a partition that goes off. -/
def State.loseCore (s : State) (c : Nat) : State := (s.loseBanks c).modCore c CoreSt.cleared

theorem State.losePart_eq (s : State) (p : Nat) : s.losePart p = (List.range 16).foldl (fun s l => s.loseCore (16 * p + l)) s := rfl

theorem State.loseCore_frame (s : State) (c : Nat) : ∃ m cs, s.loseCore c = { s with mem := m, cores := cs } := by
  obtain ⟨m, eq⟩ := s.loseBanks_frame c
  rw [State.loseCore, eq]
  exact ⟨_, _, rfl⟩

theorem State.losePart_frame (s : State) (p : Nat) : ∃ m cs, s.losePart p = { s with mem := m, cores := cs } := by
  refine List.foldlRecOn (motive := fun t : State => ∃ m cs, t = { s with mem := m, cores := cs }) (List.range 16) _ ⟨s.mem, s.cores, rfl⟩
    fun t ht l _ => ?_
  obtain ⟨m, cs, rfl⟩ := ht
  obtain ⟨m', cs', eq⟩ := State.loseCore_frame { s with mem := m, cores := cs } (16 * p + l)
  exact ⟨m', cs', eq⟩

theorem State.loseCore_mem (s : State) (c : Nat) : (s.loseCore c).mem = (s.loseBanks c).mem := State.modCore_mem ..

theorem State.loseCore_pow (s : State) (c : Nat) : (s.loseCore c).pow = s.pow := by
  obtain ⟨m, cs, eq⟩ := s.loseCore_frame c
  rw [eq]

theorem State.losePart_read_hbm (s : State) (p : Nat) {a : Nat} (low : a < hbmEnd) : (s.losePart p).mem.read a = s.mem.read a := by
  rw [s.losePart_eq p]
  refine foldl_keeps (fun t : State => t.mem.read a) (fun t l => ?_) (List.range 16) s
  rw [State.loseCore_mem, State.loseBanks_read_hbm _ _ low]

/-- A bank of a partition that goes off, when the cores of a list have gone. -/
theorem loseCores_read_bank {q i b x : Nat} (part : q < 16) (low : i < 16) (hb : b < 64) (hx : x < 2 ^ 19) (p : Nat) (l : List Nat)
    (small : ∀ j ∈ l, j < 16) (s : State) : (l.foldl (fun s l => s.loseCore (16 * p + l)) s).mem.read (bankAt (16 * q + i) b x) =
      if (q = p ∧ i ∈ l) ∧ (mget 0#64 s.pow.offMasks (16 * q + i)).getLsbD b = false then 0#8 else s.mem.read (bankAt (16 * q + i) b x) := by
  induction l generalizing s with
  | nil => rw [if_neg (by simp)]; rfl
  | cons j l ih =>
    have hj := small j List.mem_cons_self
    have same : 16 * q + i = 16 * p + j ↔ q = p ∧ i = j := by omega
    rw [List.foldl_cons, ih (fun k mem => small k (List.mem_cons_of_mem _ mem)), State.loseCore_pow, State.loseCore_mem,
      s.loseBanks_read_bank (16 * p + j) (by omega) hb hx]
    by_cases lost : (mget 0#64 s.pow.offMasks (16 * q + i)).getLsbD b = false
    · simp only [lost, and_true, List.mem_cons, same]
      by_cases here : q = p ∧ i = j
      · simp [here]
      · by_cases later : q = p ∧ i ∈ l
        · rw [if_pos later, if_pos ⟨later.1, .inr later.2⟩]
        · rw [if_neg later, if_neg here, if_neg]
          rintro ⟨part, core | core⟩
          · exact here ⟨part, core⟩
          · exact later ⟨part, core⟩
    · simp only [lost, Bool.true_eq_false, and_false, if_false]

theorem State.losePart_read_bank (s : State) (p : Nat) {q i b x : Nat} (part : q < 16) (low : i < 16) (hb : b < 64) (hx : x < 2 ^ 19) :
    (s.losePart p).mem.read (bankAt (16 * q + i) b x) =
      if q = p ∧ (mget 0#64 s.pow.offMasks (16 * q + i)).getLsbD b = false then 0#8 else s.mem.read (bankAt (16 * q + i) b x) := by
  rw [s.losePart_eq p, loseCores_read_bank part low hb hx p (List.range 16) (fun j mem => List.mem_range.mp mem) s]
  simp only [List.mem_range, low, and_true]

theorem State.losePart_rd (s : State) (p k : Nat) : (s.losePart p).rd k = s.rd k := by
  obtain ⟨m, cs, eq⟩ := s.losePart_frame p
  rw [eq]
  rfl

theorem State.losePart_pow (s : State) (p : Nat) : (s.losePart p).pow = s.pow := by
  obtain ⟨m, cs, eq⟩ := s.losePart_frame p
  rw [eq]

/-! ## Entry and wake of a group -/

/-- A member whose entry to partition-off ends. -/
def State.offMember (s : State) (q : Nat) : State := if s.pN q 1 = 1 then (s.losePart q).pWr q 1 2 else s

theorem State.offMember_rd (s : State) (q : Nat) {k : Nat} (h : k ≠ pKey q 1) : (s.offMember q).rd k = s.rd k := by
  unfold State.offMember
  split
  · rw [State.pWr, State.rd_wr, if_neg h, State.losePart_rd]
  · rfl

theorem State.offMember_pow (s : State) (q : Nat) : (s.offMember q).pow = s.pow := by
  unfold State.offMember
  split
  · exact s.losePart_pow q
  · rfl

theorem State.offMember_own (s : State) (q : Nat) : (s.offMember q).pN q 1 = if s.pN q 1 = 1 then 2 else s.pN q 1 := by
  unfold State.offMember
  split
  · exact State.pN_pWr ..
  · rfl

theorem State.offMember_read_hbm (s : State) (q : Nat) {a : Nat} (low : a < hbmEnd) : (s.offMember q).mem.read a = s.mem.read a := by
  unfold State.offMember
  split
  · rw [State.pWr_mem, State.losePart_read_hbm _ _ low]
  · rfl

theorem State.offMember_read_bank (s : State) (p : Nat) {q i b x : Nat} (part : q < 16) (low : i < 16) (hb : b < 64) (hx : x < 2 ^ 19) :
    (s.offMember p).mem.read (bankAt (16 * q + i) b x) = if s.pN p 1 = 1 ∧ q = p ∧ (mget 0#64 s.pow.offMasks (16 * q + i)).getLsbD b = false
      then 0#8 else s.mem.read (bankAt (16 * q + i) b x) := by
  unfold State.offMember
  by_cases off : s.pN p 1 = 1
  · rw [if_pos off, State.pWr_mem, s.losePart_read_bank p part low hb hx]
    simp only [off, true_and]
  · rw [if_neg off, if_neg fun h => off h.1]

section
variable (device : s.rdN (pwKey 7) = 0)
include device

theorem partitionOffEntryDone_eq {p : Part} : partitionOffEntryDoneEff p s = (s.members p).foldl State.offMember s :=
  if_neg (not_not_intro device)

end

/-- Members whose entry has ended: their power state, what they have lost, and what stays. -/
theorem offMembers_facts (l : List Nat) (distinct : l.Nodup) (parts : ∀ q ∈ l, q < 16) (s : State) :
    (∀ q ∈ l, s.pN q 1 = 1 → (l.foldl State.offMember s).pN q 1 = 2 ∧ ∀ (i b x : Nat), i < 16 → b < 64 → x < 2 ^ 19 →
      (mget 0#64 s.pow.offMasks (16 * q + i)).getLsbD b = false → (l.foldl State.offMember s).mem.read (bankAt (16 * q + i) b x) = 0#8) ∧
    (∀ a < hbmEnd, (l.foldl State.offMember s).mem.read a = s.mem.read a) ∧
    (∀ (q i b x : Nat), q < 16 → i < 16 → b < 64 → x < 2 ^ 19 → (mget 0#64 s.pow.offMasks (16 * q + i)).getLsbD b = true →
      (l.foldl State.offMember s).mem.read (bankAt (16 * q + i) b x) = s.mem.read (bankAt (16 * q + i) b x)) := by
  have state := foldl_local (fun t q => t.pN q 1) (fun _ n => if n = 1 then 2 else n) (fun t q => t.offMember_own q)
    (fun t p q apart => congrArg BitVec.toNat (t.offMember_rd p (pKey_ne_part apart (by decide) (by decide)))) l distinct s
  refine ⟨fun q mem off => ⟨(state.1 q mem).trans (if_pos off), fun i b x low hb hx lost => ?_⟩, fun a low => ?_, fun q i b x part low hb hx kept => ?_⟩
  · have part := parts q mem
    obtain ⟨before, after, rfl⟩ := List.append_of_mem mem
    have fresh : q ∉ before := fun early => (List.nodup_append.mp distinct).2.2 q early q List.mem_cons_self rfl
    have earlier := foldl_local (fun t q => t.pN q 1) (fun _ n => if n = 1 then 2 else n) (fun t q => t.offMember_own q)
      (fun t p q apart => congrArg BitVec.toNat (t.offMember_rd p (pKey_ne_part apart (by decide) (by decide)))) before
      (List.nodup_append.mp distinct).1 s
    have pow : (before.foldl State.offMember s).pow = s.pow := foldl_keeps State.pow (fun t q => t.offMember_pow q) before s
    have first := earlier.2 q fresh
    rw [List.foldl_append, List.foldl_cons]
    generalize before.foldl State.offMember s = t at *
    refine List.foldlRecOn (motive := fun u : State => u.mem.read (bankAt (16 * q + i) b x) = 0#8) after _ ?_ fun u hu p _ => ?_
    · rw [t.offMember_read_bank q part low hb hx, if_pos ⟨first.trans off, rfl, by rwa [pow]⟩]
    · rw [u.offMember_read_bank p part low hb hx, hu, ite_self]
  · exact foldl_keeps (fun t : State => t.mem.read a) (fun t q => t.offMember_read_hbm q low) l s
  · have both := List.foldlRecOn (motive := fun t : State => t.pow = s.pow ∧ t.mem.read (bankAt (16 * q + i) b x) = s.mem.read (bankAt (16 * q + i) b x))
      l State.offMember ⟨rfl, rfl⟩ fun t ht p _ => by
        refine ⟨(t.offMember_pow p).trans ht.1, ?_⟩
        rw [t.offMember_read_bank p part low hb hx, ht.1, ht.2, if_neg (by simp [kept])]
    exact both.2

theorem State.members_lt (s : State) (p : Nat) : ∀ q ∈ s.members p, q < 16 := fun _ mem => List.mem_range.mp (List.mem_of_mem_filter mem)

/-! ## Clusters, channels and groups that wake -/

section
variable (device : s.rdN (pwKey 7) = 0)
include device

theorem wakeDemand_cluster {p : Part} (asleep : (s.cluster p).asleep = true) (still : (s.cluster p).waking = false) :
    wakeDemandEff (.cluster p) s = (s.modCluster p fun c => { c with waking := true }).pCount p 7 1 := by
  unfold wakeDemandEff
  rw [if_neg (not_not_intro device)]
  exact if_pos (by simp [asleep, still])

theorem wakeDone_cluster {p : Part} (waking : (s.cluster p).waking = true) :
    wakeDoneEff (.cluster p) s = s.modCluster p fun c => { c with asleep := false, waking := false } := by
  unfold wakeDoneEff
  rw [if_neg (not_not_intro device)]
  exact if_pos waking

theorem wakeDone_channel {n : Fin 384} (waking : n.val ∈ s.pow.wakingCh) :
    wakeDoneEff (.channel n) s = s.modPow fun w => { w with wakingCh := w.wakingCh.erase n.val, awake := n.val :: w.awake } := by
  unfold wakeDoneEff
  rw [if_neg (not_not_intro device)]
  exact if_pos (List.contains_iff_mem.mpr waking)

/-- A member that has woken. -/
def State.wokenMember (s : State) (q : Nat) : State := if s.pN q 1 = 3 then s.partAwake q else s

omit device in
theorem State.wokenMember_own (s : State) (q : Nat) : (s.wokenMember q).pN q 1 = if s.pN q 1 = 3 then 0 else s.pN q 1 := by
  unfold State.wokenMember
  split
  · exact s.pN_pWr q 1 0
  · rfl

omit device in
theorem State.wokenMember_other (s : State) {p q : Nat} (apart : q ≠ p) : (s.wokenMember p).pN q 1 = s.pN q 1 := by
  unfold State.wokenMember
  split
  · exact s.pN_pWr_ne 0 (pKey_ne_part apart (by decide) (by decide))
  · rfl

omit device in
theorem State.wokenMember_sameWork (s : State) (q : Nat) : sameWork s (s.wokenMember q) := by
  unfold State.wokenMember
  split
  · exact sameWork_refl s
  · exact sameWork_refl s

theorem wakeDone_group {p : Part} : (∀ q ∈ s.members p, s.pN q 1 = 3 → (wakeDoneEff (.group p) s).pN q 1 = 0) ∧
    sameWork s (wakeDoneEff (.group p) s) := by
  have eff : wakeDoneEff (.group p) s = (s.members p).foldl State.wokenMember s := if_neg (not_not_intro device)
  have state := foldl_local (fun t q => t.pN q 1) (fun _ n => if n = 3 then 0 else n) (fun t q => t.wokenMember_own q)
    (fun t p q apart => t.wokenMember_other apart) (s.members p) (s.members_nodup p) s
  rw [eff]
  refine ⟨fun q mem off => (state.1 q mem).trans (if_pos off), ?_⟩
  exact List.foldlRecOn (motive := fun t : State => sameWork s t) (s.members p) _ (sameWork_refl s) fun t ht q _ =>
    sameWork_trans ht (t.wokenMember_sameWork q)

end

/-! ## Sleep, automatic partition-off and prewake -/

theorem clusterSleepExpiry_sleeps {p : Part} (limit : s.pN p 4 ≠ 0) (idle : s.pN p 4 ≤ mget 0 s.pow.noWork p) (awake : s.clusterAwake p = true) :
    clusterSleepExpiryEff p s = s.modCluster p fun c => { c with asleep := true } := if_pos ⟨limit, idle, awake⟩

theorem clusterSleepExpiry_never {p : Part} (none : s.pN p 4 = 0) : clusterSleepExpiryEff p s = s := if_neg fun h => h.1 none

theorem autoOffExpiry_never {p : Part} (none : s.pN p 2 = 0) : autoOffExpiryEff p s = s := if_neg fun h => h.1 none

theorem autoOffExpiry_enters {p : Part} (device : s.rdN (pwKey 7) = 0) (limit : s.pN p 2 ≠ 0)
    (idle : s.pN p 2 ≤ mget 0 s.pow.drained (s.lead p)) (drained : s.drained p = true) (runs : s.groupRuns p = true)
    (noTest : s.bistRuns p = false) (unarmed : ∀ kv ∈ s.slots, kv.2.state ≠ .armed) : autoOffExpiryEff p s = s.enterOff p := by
  refine if_pos ⟨limit, idle, drained, ?_, runs, noTest, device⟩
  rw [List.any_eq_false]
  intro kv mem
  simp [unarmed kv mem]

theorem State.mem_members (s : State) (p : Part) : p.val ∈ s.members p :=
  List.mem_filter.mpr ⟨List.mem_range.mpr p.isLt, beq_self_eq_true _⟩

section
variable {p : Part} {n : Fin 256} (device : s.rdN (pwKey 7) = 0) (armed : (s.slot (s.lead p) n).state = .armed)
  (early : (s.slot (s.lead p) n).prewoken = false) (soon : (s.slot (s.lead p) n).startBeat ≤ s.beatIx + s.pN p 3) (off : s.pN p 1 = 2)
include device armed early soon off

theorem prewake_eq : prewakeEff p n s = (s.setSlot (s.lead p) n { s.slot (s.lead p) n with prewoken := true }).wakeGroup p :=
  if_pos ⟨armed, early, soon, .inr off, device⟩

theorem prewake_facts : ((prewakeEff p n s).slot (s.lead p) n).prewoken = true ∧ (prewakeEff p n s).pN p 1 = 3 ∧
    (prewakeEff p n s).mem = s.mem ∧ (prewakeEff p n s).cores = s.cores := by
  rw [prewake_eq device armed early soon off]
  obtain ⟨u, hu⟩ : ∃ u, u = s.setSlot (s.lead p) n { s.slot (s.lead p) n with prewoken := true } := ⟨_, rfl⟩
  have slot : (u.slot (s.lead p) n).prewoken = true := by
    rw [hu, State.slot_setSlot, if_pos (by simp)]
  have off' : u.pN p 1 = 2 := by rw [hu]; exact off
  have mem : u.mem = s.mem := by rw [hu]; rfl
  have cores : u.cores = s.cores := by rw [hu]; rfl
  have view := u.wakeGroup_unreported p
  have woken := wakeGroup_members u p p (u.mem_members p) (.inr off')
  rw [← hu]
  generalize u.wakeGroup p = t at *
  have slots : t.slots = u.slots := State.slots_of_unreported view
  refine ⟨?_, woken.1, (State.mem_of_unreported view).trans mem, (State.cores_of_unreported view).trans cores⟩
  rw [State.slot, slots]
  exact slot

end

/-! ## Retention -/

/-- DEVICE_POWER_REQ belongs to no partition. -/
theorem viaPriv_of_power {via : Via} {sub : Nat} (h : s.reaches via 0x2000 sub = true) : viaPriv via = true := by
  cases via with
  | pf => rfl
  | barzar => rfl
  | vf p =>
    have apart : viaOffset (.vf p) 0x2000 sub = none := by
      have other : ¬0x2000 = partIx p := by
        unfold partIx
        omega
      unfold viaOffset
      dsimp only
      rw [if_neg other, if_neg (by decide), if_neg (by omega)]
    simp [State.reaches, apart] at h

section
variable {via : Via} (reached : s.reaches via 0x2000 6 = true)
include reached

theorem retentionEntry_enters {milliC : Int} (on : s.rdN (pwKey 7) = 0) (ready : s.jobReady = true) (fits : s.retMicroAmps milliC ≤ 36000000)
    (idle : ∀ p < 16, s.drained p = true ∧ s.pN p 0xEB ≠ 1 ∧ s.pN p 0xEB ≠ 2 ∧ s.pN p 0xE1 = 0 ∧ s.pN p 0x2E ≠ 1) :
    retentionEntryEff via 1#64 milliC s = s.enterRetention (s.retMicroAmps milliC) := by
  have all : ((List.range 16).all fun p => s.drained p && s.pN p 0xEB != 1 && s.pN p 0xEB != 2 && (s.pN p 0xE1 == 0 || s.pN p 0xE1 == 7) &&
      s.pN p 0x2E != 1) = true := by
    rw [List.all_eq_true]
    intro p mem
    obtain ⟨drained, deferred, running, reset, reclaim⟩ := idle p (List.mem_range.mp mem)
    simp only [drained, Bool.true_and, Bool.and_eq_true, bne_iff_ne, Bool.or_eq_true, beq_iff_eq]
    exact ⟨⟨⟨deferred, running⟩, .inl reset⟩, reclaim⟩
  have act : devicePowerW s via 1#64 (s.retMicroAmps milliC) = .ok (s.enterRetention (s.retMicroAmps milliC)) := by
    unfold devicePowerW
    dsimp only
    rw [if_neg (by simp [viaPriv_of_power reached])]
    change (if s.rdN (pwKey 7) = 0 then _ else _) = _
    rw [if_pos on, guardW, if_pos (by rw [all, ready]; simpa using fits)]
  rw [retentionEntryEff, act]
  exact State.objWrite_ok s reached _

theorem retentionEntry_refused {milliC : Int} (on : s.rdN (pwKey 7) = 0) (much : 36000000 < s.retMicroAmps milliC) :
    ∃ h, retentionEntryEff via 1#64 milliC s = { s with host := h } := by
  have act : devicePowerW s via 1#64 (s.retMicroAmps milliC) = .error .state := by
    unfold devicePowerW
    dsimp only
    rw [if_neg (by simp [viaPriv_of_power reached])]
    change (if s.rdN (pwKey 7) = 0 then _ else _) = _
    rw [if_pos on, guardW, if_neg]
    simp only [Bool.and_eq_true, decide_eq_true_eq, not_and]
    omega
  rw [retentionEntryEff, act]
  exact s.objWrite_error_frame ..

theorem retentionExit_leaves (off : s.rdN (pwKey 7) = 2) (supply : s.pow.brownedOut = false) :
    retentionExitEff via 0#64 s = (s.leaveRetention.wrN (pwKey 7) 3).beginBringup 2 := by
  have act : devicePowerW s via 0#64 0 = .ok ((s.leaveRetention.wrN (pwKey 7) 3).beginBringup 2) := by
    unfold devicePowerW
    dsimp only
    rw [if_neg (by simp [viaPriv_of_power reached])]
    change (if s.rdN (pwKey 7) = 0 ∨ s.rdN (pwKey 7) = 3 then _ else _) = _
    rw [if_neg (by omega), if_neg (by omega), if_neg (by simp [supply])]
  rw [retentionExitEff, act]
  exact State.objWrite_ok s reached _

end

/-! ## Into Retention -/

/-- Every partition's entry begun, and every ACTIVE port draining. -/
def State.retainBegun (s : State) : State :=
  (List.range 32).foldl (fun s n => if (s.port n).st = .active then s.toPState n .draining else s)
    ((List.range 16).foldl (fun s p => (s.takeMasks p).pWr p 1 1) s)

theorem State.enterRetention_eq (s : State) (estimate : Nat) : s.enterRetention estimate =
    (((s.retainBegun.wrN (pwKey 7) 1).wr (pwKey 0x0A) (microF32 estimate)).modPow fun w => { w with retWarnAt := none }).setReadiness 7 := rfl

theorem State.toDraining_rd (s : State) (n : Nat) {k : Nat} (h : k / 256 ≠ 0x2500) : (s.toPState n .draining).rd k = s.rd k :=
  (s.setPort n { s.port n with st := .draining }).reselect_rd h false

theorem pKey_ne_pwKey (p k : Nat) {sub : Nat} (small : sub < 256) : pKey p k ≠ pwKey sub := by
  simp only [pKey, partIndex, pwKey, objKey]
  omega

theorem pKey_not_fab (p k : Nat) : pKey p k / 256 ≠ 0x2500 := by
  simp only [pKey, objKey, partIndex]
  omega

theorem State.retainBegun_off (s : State) {p : Nat} (part : p < 16) : s.retainBegun.pN p 1 = 1 := by
  have states := foldl_local (f := fun s q => (s.takeMasks q).pWr q 1 1) (fun t q => t.pN q 1) (fun _ _ => 1) (fun t q => State.pN_pWr ..)
    (fun t r q apart => (State.pN_pWr_ne _ 1 (pKey_ne_part apart (by decide) (by decide))).trans rfl) (List.range 16) List.nodup_range s
  refine (foldl_keeps (fun t : State => t.pN p 1) (fun t n => ?_) (List.range 32) _).trans (states.1 p (List.mem_range.mpr part))
  split
  · exact congrArg BitVec.toNat (t.toDraining_rd n (pKey_not_fab p 1))
  · rfl

theorem State.retainBegun_sameWork (s : State) : sameWork s s.retainBegun := by
  have taken : sameWork s ((List.range 16).foldl (fun s p => (s.takeMasks p).pWr p 1 1) s) :=
    List.foldlRecOn (motive := fun t : State => sameWork s t) (List.range 16) _ (sameWork_refl s) fun t ht q _ => ht
  refine List.foldlRecOn (motive := fun t : State => sameWork s t) (List.range 32) _ taken fun t ht n _ => ?_
  split
  · exact sameWork_trans ht (sameWork_of_unreported_eq (t.toPState_unreported n .draining))
  · exact ht

theorem State.rd_modPow (s : State) (f : PowSt → PowSt) (k : Nat) : (s.modPow f).rd k = s.rd k := rfl

theorem State.modPow_sameWork (s : State) (f : PowSt → PowSt) : sameWork s (s.modPow f) := sameWork_refl s

theorem State.enterRetention_facts (s : State) (estimate : Nat) : (s.enterRetention estimate).rdN (pwKey 7) = 1 ∧
    (s.enterRetention estimate).readiness = 7 ∧ (∀ p < 16, (s.enterRetention estimate).pN p 1 = 1) ∧ sameWork s (s.enterRetention estimate) := by
  have off (p : Nat) (part : p < 16) := s.retainBegun_off part
  have work := s.retainBegun_sameWork
  rw [s.enterRetention_eq estimate]
  generalize s.retainBegun = t at *
  obtain ⟨u, hu⟩ : ∃ u, u = ((t.wrN (pwKey 7) 1).wr (pwKey 0x0A) (microF32 estimate)).modPow fun w => { w with retWarnAt := none } := ⟨_, rfl⟩
  have word {k : Nat} (h : k ≠ pwKey 0x0A) : u.rd k = (t.wrN (pwKey 7) 1).rd k := by
    rw [hu, State.rd_modPow, State.rd_wr, if_neg h]
  have noted : sameWork t u := by
    rw [hu]
    exact sameWork_trans (sameWork_trans (t.wrN_sameWork ..) (State.wr_measuredAt ..).2) (State.modPow_sameWork ..)
  rw [← hu]
  refine ⟨?_, State.setReadiness_readiness _ (by decide), fun p part => ?_, ?_⟩
  · rw [State.rdN_eq, State.setReadiness_rd _ (by decide), word (by decide), ← State.rdN_eq, State.rdN_wrN _ (by decide)]
  · have ready : pKey p 1 ≠ objKey 0x1000 0x30 := by
      simp only [pKey, partIndex, objKey]
      omega
    rw [State.pN, State.rdN_eq, State.setReadiness_rd _ ready, word (pKey_ne_pwKey p 1 (by decide)),
      t.rd_wrN_ne 1 (pKey_ne_pwKey p 1 (by decide))]
    exact off p part
  · exact sameWork_trans work (sameWork_trans noted (sameWork_of_unreported_eq (State.setReadiness_unreported ..)))

/-! ## Out of Retention -/

/-- A partition as after its reset, with its memory kept. -/
def State.leaveMember (s : State) (p : Nat) : State :=
  ({ s.clearTables p (fun _ => false) with mem := s.mem }.partAwake p).dropPartObjs p fun sub => !partKept sub

/-- The device's tables and ports as Retention leaves them. -/
def State.retentionLeft (s : State) : State :=
  let obj := s.obj.filter fun kv => !(decide (0x2600 ≤ kv.1 / 256) && decide (kv.1 / 256 < 0x2690))
  let late := s.pow.retainLate.foldl
    (fun (m : SMap Word) kv => match kv.2 with
      | some w => mset 0#64 m kv.1 w
      | none => m) s.retain
  let f := s.fab
  let t := s.tango
  { s with
    obj := obj, coll := [], quiet := [], retain := late,
    pow := { s.pow with retainLate := [], clusters := [], wakingCh := [] },
    fab := { FabricSt.reset with epochSet := f.epochSet, pps := false },
    tango := { TangoSt.reset with
      bank0 := t.bank0, bank1 := t.bank1, pair := t.pair, frozen := t.frozen, list := t.list, inForce := t.inForce } }

/-- The Beat free, Tango unpaired, and the ports about to train. -/
def State.retrained (s : State) : State :=
  (List.range 32).foldl (fun s n => if s.role n = 2 then s else s.toPState n .detect) ((s.setBeat bsFree 0 0xFF s.ownAddr).toTango tsUnpaired)

theorem State.leaveRetention_eq (s : State) : s.leaveRetention = ((List.range 16).foldl State.leaveMember s).retentionLeft.retrained := rfl

theorem State.leaveMember_rd (s : State) (p : Nat) {k : Nat} (kept : k / 256 ≠ partIx p ∨ partKept (k % 256) = true) :
    (s.leaveMember p).rd k = (s.pWr p 1 0).rd k := by
  refine (mget_filter_key (objDefault k) (fun k => !(k / 256 == partIx p && !partKept (k % 256))) k _).trans (if_pos ?_)
  rcases kept with other | keeps
  · simp [other]
  · simp [keeps]

theorem State.leaveMember_mem (s : State) (p : Nat) : (s.leaveMember p).mem = s.mem := rfl

theorem State.leaveMember_cores (s : State) (p : Nat) : (s.leaveMember p).cores = partOut p 16 s.cores := rfl

/-- What leaving Retention shows of a partition: its power state and one of its cores. -/
def State.leaveView (i : Nat) (s : State) (q : Nat) : Nat × CoreSt := (s.pN q 1, s.core (16 * q + i))

theorem left_members (s : State) {i : Nat} (low : i < 16) : ∀ p < 16,
    ((List.range 16).foldl State.leaveMember s).leaveView i p = (0, CoreSt.reset) := by
  have own (t : State) (q : Nat) : (t.leaveMember q).leaveView i q = (0, CoreSt.reset) := by
    refine Prod.ext ?_ ?_
    · have kept : partKept (pKey q 1 % 256) = true := by
        rw [pKey, objKey_mod _ (by decide)]
        rfl
      exact (congrArg BitVec.toNat (t.leaveMember_rd q (.inr kept))).trans (t.pN_pWr q 1 0)
    · rw [State.leaveView, State.core, State.leaveMember_cores, partOut, mget_mclear, if_pos (by omega)]
  have other (t : State) (p q : Nat) (apart : q ≠ p) : (t.leaveMember p).leaveView i q = t.leaveView i q := by
    refine Prod.ext ?_ ?_
    · have kept : pKey q 1 / 256 ≠ partIx p := by
        rw [pKey_index q (by decide)]
        simp only [partIx]
        omega
      exact (congrArg BitVec.toNat (t.leaveMember_rd p (.inl kept))).trans (t.pN_pWr_ne 0 (pKey_ne_part apart (by decide) (by decide)))
    · rw [State.leaveView, State.core, State.leaveMember_cores, partOut, mget_mclear, if_neg (by omega)]
      rfl
  intro p part
  exact (foldl_local (State.leaveView i) (fun _ _ => (0, CoreSt.reset)) own other (List.range 16) List.nodup_range s).1 p (List.mem_range.mpr part)

theorem State.retentionLeft_rd (s : State) {k : Nat} (out : k / 256 < 0x2600 ∨ 0x2690 ≤ k / 256) : s.retentionLeft.rd k = s.rd k := by
  refine (mget_filter_key (objDefault k) (fun k => !(decide (0x2600 ≤ k / 256) && decide (k / 256 < 0x2690))) k s.obj).trans (if_pos ?_)
  simp only [Bool.not_eq_true', Bool.and_eq_false_iff, decide_eq_false_iff_not]
  omega

theorem State.retrained_view (s : State) : s.retrained.unreported = s.unreported := by
  refine (foldl_keeps State.unreported (fun t n => ?_) (List.range 32) _).trans ((State.toTango_unreported ..).trans rfl)
  split
  · rfl
  · exact t.toPState_unreported n .detect

theorem State.retrained_rd (s : State) {k : Nat} (fab : k / 256 ≠ 0x2500) (tango : k ≠ tKey 2) : s.retrained.rd k = s.rd k := by
  refine (foldl_keeps (fun t : State => t.rd k) (fun t n => ?_) (List.range 32) _).trans ((State.rd_wrN_ne _ tsUnpaired tango).trans (s.setBeat_rd _ _ _ _ fab))
  split
  · rfl
  · exact t.leaveAll_rd (t.port n).outQ k

theorem State.leaveRetention_facts (s : State) : (∀ p < 16, s.leaveRetention.pN p 1 = 0) ∧ (∀ c < 256, s.leaveRetention.core c = CoreSt.reset) ∧
    s.leaveRetention.coll = [] ∧ s.leaveRetention.mem = s.mem := by
  have members (i : Nat) (low : i < 16) := left_members s low
  have mem : ((List.range 16).foldl State.leaveMember s).mem = s.mem := foldl_keeps State.mem (fun t p => t.leaveMember_mem p) (List.range 16) s
  rw [s.leaveRetention_eq]
  generalize (List.range 16).foldl State.leaveMember s = t at *
  have view := t.retentionLeft.retrained_view
  have word (k : Nat) (h : 0x2700 < k / 256) : t.retentionLeft.retrained.rd k = t.rd k := by
    refine (t.retentionLeft.retrained_rd (by omega) ?_).trans (t.retentionLeft_rd (by omega))
    rintro rfl
    exact absurd h (by decide)
  generalize hu : t.retentionLeft.retrained = u at *
  have coll : u.coll = [] := (congrArg State.coll view :)
  have cores : u.cores = t.cores := (State.cores_of_unreported view :)
  refine ⟨fun p part => ?_, fun c low => ?_, coll, (State.mem_of_unreported view).trans mem⟩
  · refine (congrArg BitVec.toNat (word (pKey p 1) ?_)).trans (congrArg Prod.fst (members 0 (by decide) p part))
    rw [pKey_index p (by decide), partIx]
    omega
  · have split : c = 16 * (c / 16) + c % 16 := (Nat.div_add_mod c 16).symm
    rw [State.core, cores, split]
    exact congrArg Prod.snd (members (c % 16) (Nat.mod_lt _ (by decide)) (c / 16) (by omega))

/-! ## In Retention -/

/-- Every partition off. -/
def State.allOff (s : State) : State := (List.range 16).foldl (fun s p => (s.losePart p).pWr p 1 2) s

/-- Every port down. -/
def State.allDown (s : State) : State := (List.range 32).foldl (fun s n => s.toPState n .disabled) s

theorem retentionEntryDone_eq (entering : s.rdN (pwKey 7) = 1) : retentionEntryDoneEff s =
    (s.allOff.allDown.wrN (pwKey 7) 2).wr (pwKey 0x0B) (s.allOff.allDown.rd (pwKey 0x0A)) :=
  if_neg (not_not_intro entering)

theorem State.allOff_facts (s : State) : (∀ p < 16, s.allOff.pN p 1 = 2) ∧ ∀ a < hbmEnd, s.allOff.mem.read a = s.mem.read a := by
  refine ⟨fun p part => ?_, fun a low => ?_⟩
  · refine (foldl_local (f := fun s p => (s.losePart p).pWr p 1 2) (fun t q => t.pN q 1) (fun _ _ => 2) (fun t q => State.pN_pWr ..)
      (fun t r q apart => (State.pN_pWr_ne _ 2 (pKey_ne_part apart (by decide) (by decide))).trans (congrArg BitVec.toNat (t.losePart_rd r _)))
      (List.range 16) List.nodup_range s).1 p (List.mem_range.mpr part)
  · refine foldl_keeps (fun t : State => t.mem.read a) (fun t p => ?_) (List.range 16) s
    rw [State.pWr_mem, State.losePart_read_hbm _ _ low]

theorem State.toDisabled_rd (s : State) (n : Nat) {k : Nat} (h : k / 256 ≠ 0x2500) : (s.toPState n .disabled).rd k = s.rd k :=
  (State.reselect_rd h _ false).trans (s.leaveAll_rd _ _)

theorem State.allDown_facts (s : State) : (∀ n < 32, (s.allDown.port n).st = .disabled) ∧ s.allDown.unreported = s.unreported ∧
    ∀ k, k / 256 ≠ 0x2500 → s.allDown.rd k = s.rd k := by
  refine ⟨fun n low => ?_, ?_, fun k h => ?_⟩
  · exact (foldl_local (f := fun s n => s.toPState n .disabled) (fun t m => (t.port m).st) (fun _ _ => .disabled)
      (fun t m => (PortGoes.toPState t m .disabled).1) (fun t n m apart => ((PortGoes.toPState t n .disabled).2.1 m apart).1)
      (List.range 32) List.nodup_range s).1 n (List.mem_range.mpr low)
  · exact foldl_keeps State.unreported (fun t n => t.toPState_unreported n .disabled) (List.range 32) s
  · exact foldl_keeps (fun t : State => t.rd k) (fun t n => t.toDisabled_rd n h) (List.range 32) s

theorem brownOut_eq (retained : s.rdN (pwKey 7) = 2) (first : s.pow.brownedOut = false) : brownOutEff s =
    ((((List.range 16).foldl (fun s p => (s.newKey p).zeroMem (spadBase (16 * p)) (16 * spadSize)) s).modPow fun w => { w with brownedOut := true }).count32Sat
      (pwKey 0x0C) 1).healthEvent := if_neg (not_or.mpr ⟨not_not_intro retained, by simp [first]⟩)

theorem retentionEntryDone_facts (entering : s.rdN (pwKey 7) = 1) : (retentionEntryDoneEff s).rdN (pwKey 7) = 2 ∧
    (∀ p < 16, (retentionEntryDoneEff s).pN p 1 = 2) ∧ (∀ n < 32, ((retentionEntryDoneEff s).port n).st = .disabled) ∧
    ∀ a < hbmEnd, (retentionEntryDoneEff s).mem.read a = s.mem.read a := by
  obtain ⟨off, reads⟩ := s.allOff_facts
  obtain ⟨down, view, words⟩ := s.allOff.allDown_facts
  rw [retentionEntryDone_eq entering]
  generalize s.allOff.allDown = t at *
  have mem : t.mem = s.allOff.mem := State.mem_of_unreported view
  have ports (n : Nat) : (((t.wrN (pwKey 7) 2).wr (pwKey 0x0B) (t.rd (pwKey 0x0A))).port n) = t.port n :=
    State.port_of_fab ((State.wr_fab ..).trans (State.wrN_fab ..)) n
  refine ⟨?_, fun p part => ?_, fun n low => ?_, fun a low => ?_⟩
  · rw [State.rdN_eq, State.rd_wr, if_neg (by decide), ← State.rdN_eq, State.rdN_wrN _ (by decide)]
  · rw [State.pN, State.rdN_eq, State.rd_wr, if_neg (pKey_ne_pwKey p 1 (by decide)),
      t.rd_wrN_ne 2 (pKey_ne_pwKey p 1 (by decide)), words _ (pKey_not_fab p 1)]
    exact off p part
  · rw [ports n]
    exact down n low
  · have kept : ((t.wrN (pwKey 7) 2).wr (pwKey 0x0B) (t.rd (pwKey 0x0A))).mem = t.mem := by simp
    rw [kept, mem]
    exact reads a low

/-- A partition under a brown-out: its key renewed, its scratchpads zero. -/
def State.brownMember (s : State) (p : Nat) : State := (s.newKey p).zeroMem (spadBase (16 * p)) (16 * spadSize)

theorem State.brownMember_rd (s : State) (p : Nat) {k : Nat} (h : k ≠ pKey p 0x2B) : (s.brownMember p).rd k = s.rd k := s.rd_count32_ne 1 h

theorem State.brownMember_key (s : State) (p : Nat) : (s.brownMember p).pN p 0x2B = (s.pN p 0x2B + 1) % 2 ^ 32 := s.rdN_count32 (pKey p 0x2B) 1

theorem State.brownMember_cores (s : State) (p : Nat) : (s.brownMember p).cores = s.cores :=
  (State.cores_of_unreported (State.count32_unreported s (pKey p 0x2B) 1) :)

theorem State.brownMember_read (s : State) (p a : Nat) : (s.brownMember p).mem.read a =
    if spadBase (16 * p) ≤ a ∧ a < spadBase (16 * p) + 16 * spadSize then 0#8 else s.mem.read a := by
  rw [State.brownMember, State.zeroMem, Mem.read_zero, State.newKey, State.count32_mem]

/-- Every partition under a brown-out. -/
def State.browned (s : State) : State := (List.range 16).foldl State.brownMember s

theorem State.browned_facts (s : State) : (∀ a, spadBase 0 ≤ a → a < spadBase 256 → s.browned.mem.read a = 0#8) ∧
    (∀ p < 16, s.browned.pN p 0x2B = (s.pN p 0x2B + 1) % 2 ^ 32) ∧ (∀ k, (∀ p, k ≠ pKey p 0x2B) → s.browned.rd k = s.rd k) ∧
    s.browned.cores = s.cores := by
  refine ⟨fun a above below => ?_, fun p part => ?_, fun k out => ?_, foldl_keeps State.cores (fun t p => t.brownMember_cores p) (List.range 16) s⟩
  · have part : (a - spadBase 0) / (16 * spadSize) < 16 := by
      simp only [spadBase, spadSize] at *
      omega
    obtain ⟨before, after, split⟩ := List.append_of_mem (List.mem_range.mpr part)
    rw [State.browned, split, List.foldl_append, List.foldl_cons]
    refine List.foldlRecOn (motive := fun u : State => u.mem.read a = 0#8) after _ ?_ fun u hu p _ => ?_
    · rw [State.brownMember_read, if_pos]
      simp only [spadBase, spadSize] at *
      omega
    · rw [State.brownMember_read, hu, ite_self]
  · exact (foldl_local (fun t q => t.pN q 0x2B) (fun _ n => (n + 1) % 2 ^ 32) (fun t q => t.brownMember_key q)
      (fun t p q apart => congrArg BitVec.toNat (t.brownMember_rd p (pKey_ne_part apart (by decide) (by decide))))
      (List.range 16) List.nodup_range s).1 p (List.mem_range.mpr part)
  · exact foldl_keeps (fun t : State => t.rd k) (fun t p => t.brownMember_rd p (out p)) (List.range 16) s

theorem brownOut_facts (retained : s.rdN (pwKey 7) = 2) (first : s.pow.brownedOut = false) : (brownOutEff s).pow.brownedOut = true ∧
    (∀ a, spadBase 0 ≤ a → a < spadBase 256 → (brownOutEff s).mem.read a = 0#8) ∧
    (∀ p < 16, (brownOutEff s).pN p 0x2B = (s.pN p 0x2B + 1) % 2 ^ 32) ∧
    (brownOutEff s).rdN (pwKey 0x0C) = min (s.rdN (pwKey 0x0C) + 1) (2 ^ 32 - 1) ∧ (brownOutEff s).cores = s.cores := by
  obtain ⟨zero, keys, words, cores⟩ := s.browned_facts
  have eff : brownOutEff s = ((s.browned.modPow fun w => { w with brownedOut := true }).count32Sat (pwKey 0x0C) 1).healthEvent := brownOut_eq retained first
  have ne (p : Nat) : pKey p 0x2B ≠ pwKey 0x0C := pKey_ne_pwKey p 0x2B (by decide)
  have count := words (pwKey 0x0C) fun p => (ne p).symm
  rw [eff]
  generalize s.browned = t at *
  obtain ⟨u, hu⟩ : ∃ u, u = t.modPow fun w => { w with brownedOut := true } := ⟨_, rfl⟩
  have word (k : Nat) : u.rd k = t.rd k := by rw [hu, State.rd_modPow]
  have pow : u.pow.brownedOut = true := by rw [hu]; rfl
  have mem : u.mem = t.mem := by rw [hu]; rfl
  have cores' : u.cores = t.cores := by rw [hu]; rfl
  rw [← hu]
  have view : ((u.count32Sat (pwKey 0x0C) 1).healthEvent).unreported = u.unreported :=
    (State.healthEvent_unreported _).trans (State.count32Sat_unreported ..)
  refine ⟨?_, fun a above below => ?_, fun p part => ?_, ?_, ?_⟩
  · rw [State.pow_of_unreported view, pow]
  · rw [State.mem_of_unreported view, mem, zero a above below]
  · rw [State.pN, State.rdN_eq, State.healthEvent_rd, State.rd_count32Sat_ne _ _ (ne p), word]
    exact keys p part
  · rw [State.rdN_eq, State.healthEvent_rd, ← State.rdN_eq, State.rdN_count32Sat, State.rdN_eq, word, count]
    rfl
  · rw [State.cores_of_unreported view, cores', cores]

/-- The current recorded, before the event that may follow. -/
def State.currentNoted (s : State) (v : Word) : State :=
  (s.wr (pwKey 0x0A) v).wr (pwKey 0x0B) (if (s.rd (pwKey 0x0B)).toNat < v.toNat then v else s.rd (pwKey 0x0B))

theorem retCurrentWarning_facts {ma : Nat} (retained : s.rdN (pwKey 7) = 2) (much : 36000 ≤ ma) :
    (retCurrentWarningEff ma s).rd (pwKey 0x0A) = milliF32 ma ∧
    (∀ k, k ≠ pwKey 0x0A → k ≠ pwKey 0x0B → (retCurrentWarningEff ma s).rd k = s.rd k) ∧ sameWork s (retCurrentWarningEff ma s) := by
  have word : (s.currentNoted (milliF32 ma)).rd (pwKey 0x0A) = milliF32 ma := by
    rw [State.currentNoted, State.rd_wr, if_neg (by decide), State.rd_wr, if_pos rfl]
  have others (k : Nat) (h : k ≠ pwKey 0x0A) (h' : k ≠ pwKey 0x0B) : (s.currentNoted (milliF32 ma)).rd k = s.rd k := by
    rw [State.currentNoted, State.rd_wr, if_neg h', State.rd_wr, if_neg h]
  have work : sameWork s (s.currentNoted (milliF32 ma)) := ((s.wr_measuredAt ..).trans (State.wr_measuredAt ..)).2
  have eff : ∃ f, retCurrentWarningEff ma s = ((s.currentNoted (milliF32 ma)).modPow f).healthEvent ∨
      retCurrentWarningEff ma s = s.currentNoted (milliF32 ma) := by
    unfold retCurrentWarningEff
    rw [if_neg (not_or.mpr ⟨not_not_intro retained, Nat.not_lt.mpr much⟩)]
    exact ⟨_, ite_eq_or_eq ..⟩
  generalize s.currentNoted (milliF32 ma) = t at *
  obtain ⟨f, eff | eff⟩ := eff
  · rw [eff]
    refine ⟨?_, fun k h h' => ?_, ?_⟩
    · rw [State.healthEvent_rd, State.rd_modPow, word]
    · rw [State.healthEvent_rd, State.rd_modPow, others k h h']
    · exact sameWork_trans work (sameWork_trans (t.modPow_sameWork f) (sameWork_of_unreported_eq (State.healthEvent_unreported _)))
  · rw [eff]
    exact ⟨word, others, work⟩

theorem State.modCluster_obj (s : State) (p : Nat) (f : ClusterClk → ClusterClk) : (s.modCluster p f).obj = s.obj := rfl

theorem channelSelfRefreshReturn_facts (n : Fin 384) (s : State) : n.val ∉ (channelSelfRefreshReturnEff n s).pow.awake ∧
    (∀ m, m ≠ n.val → (m ∈ (channelSelfRefreshReturnEff n s).pow.awake ↔ m ∈ s.pow.awake)) ∧
    (channelSelfRefreshReturnEff n s).obj = s.obj ∧ sameWork s (channelSelfRefreshReturnEff n s) := by
  refine ⟨fun mem => ?_, fun m apart => ?_, rfl, sameWork_refl s⟩
  · simpa using (List.mem_filter.mp mem).2
  · exact List.mem_filter.trans (and_iff_left (by simpa using apart))

theorem wakeDone_channel_facts {n : Fin 384} (device : s.rdN (pwKey 7) = 0) (waking : n.val ∈ s.pow.wakingCh) :
    (wakeDoneEff (.channel n) s).pow.awake = n.val :: s.pow.awake ∧ (wakeDoneEff (.channel n) s).pow.wakingCh = s.pow.wakingCh.erase n.val ∧
    (wakeDoneEff (.channel n) s).obj = s.obj ∧ sameWork s (wakeDoneEff (.channel n) s) := by
  rw [wakeDone_channel device waking]
  exact ⟨rfl, rfl, rfl, sameWork_refl s⟩

theorem retentionEntry_facts {via : Via} {milliC : Int} (reached : s.reaches via 0x2000 6 = true) (on : s.rdN (pwKey 7) = 0) (ready : s.jobReady = true)
    (fits : s.retMicroAmps milliC ≤ 36000000)
    (idle : ∀ p < 16, s.drained p = true ∧ s.pN p 0xEB ≠ 1 ∧ s.pN p 0xEB ≠ 2 ∧ s.pN p 0xE1 = 0 ∧ s.pN p 0x2E ≠ 1) :
    (retentionEntryEff via 1#64 milliC s).rdN (pwKey 7) = 1 ∧ (retentionEntryEff via 1#64 milliC s).readiness = 7 ∧
      (∀ p < 16, (retentionEntryEff via 1#64 milliC s).pN p 1 = 1) ∧ (retentionEntryEff via 1#64 milliC s).mem = s.mem ∧
      (retentionEntryEff via 1#64 milliC s).cores = s.cores ∧ (retentionEntryEff via 1#64 milliC s).versions = s.versions := by
  obtain ⟨state, readiness, off, work⟩ := s.enterRetention_facts (s.retMicroAmps milliC)
  obtain ⟨cores, mem, _, _, _, _, versions, _⟩ := work
  rw [retentionEntry_enters reached on ready fits idle]
  exact ⟨state, readiness, off, mem, cores, versions⟩

/-- Settles O54: groups of partitions go off and wake, clusters sleep, and the device enters and leaves Retention. -/
theorem partitionsSleepDeviceRetains : Obligations.PartitionsSleepDeviceRetains := by
  refine ⟨⟨fun via p s reached => ⟨fun live awake drained noReset noReclaim noTest => ?_, fun live awake busy => ?_, ?_⟩,
    fun p s device => ⟨?_, fun asleep still => ?_, fun waking => ?_, ?_, fun n waking => ?_, fun n => ?_, fun limit idle awake => ?_,
      fun none => congrArg s.outcome (clusterSleepExpiry_never none), fun limit idle drained runs noTest unarmed => ?_,
      fun none => congrArg s.outcome (autoOffExpiry_never none), fun n armed early soon off => ?_⟩⟩,
    fun via milliC s reached => ⟨fun on ready fits idle => ?_, fun on much => ?_, fun off supply => ?_⟩,
    fun s => ⟨fun entering => ?_, fun other => congrArg s.outcome (if_pos other), fun retained first => ?_,
      fun browned => congrArg s.outcome (if_pos (.inr browned)), fun ma retained much => ?_, fun ma little => congrArg s.outcome (if_pos (.inr little))⟩⟩
  · have eff := partPowerOff_enters reached live awake drained noReset noReclaim noTest
    have facts := enterOff_members s p
    generalize s.enterOff p = t at *
    exact ⟨_, congrArg s.outcome eff, facts⟩
  · obtain ⟨h, eff⟩ := partPowerOff_busy (via := via) live awake busy
    exact ⟨_, congrArg s.outcome eff, rfl, sameWork_refl s⟩
  · have eff := partPowerOn_wakes reached
    have work := sameWork_of_unreported_eq (s.wakeGroup_unreported p)
    have members := wakeGroup_members s p
    generalize s.wakeGroup p = t at *
    exact ⟨_, congrArg s.outcome eff, work, members⟩
  · have eff := partitionOffEntryDone_eq device (p := p)
    have facts := offMembers_facts (s.members p) (s.members_nodup p) (s.members_lt p) s
    generalize (s.members p).foldl State.offMember s = t at *
    exact ⟨_, congrArg s.outcome eff, facts⟩
  · have eff := wakeDemand_cluster device asleep still
    have own := (s.cluster_modCluster p p fun c => { c with waking := true }).trans (if_pos rfl)
    have work := s.modCluster_sameWork p fun c => { c with waking := true }
    have word (k : Nat) : (s.modCluster p fun c => { c with waking := true }).rd k = s.rd k := s.rd_modPow _ k
    generalize s.modCluster p _ = t at *
    have view := t.pCount_unreported p 7 1
    have count : (t.pCount p 7 1).rd (pKey p 7) = s.rd (pKey p 7) + 1#64 := by
      rw [State.pCount, State.rd_count, if_pos rfl, word]
    generalize t.pCount p 7 1 = u at *
    have clock : u.cluster p = t.cluster p := by rw [State.cluster, State.pow_of_unreported view, State.cluster]
    have work' := sameWork_trans work (sameWork_of_unreported_eq view)
    exact ⟨_, congrArg s.outcome eff, clock.trans own, count, work'⟩
  · have eff := wakeDone_cluster device waking
    have own := (s.cluster_modCluster p p fun c => { c with asleep := false, waking := false }).trans (if_pos rfl)
    have others (q : Nat) (apart : q ≠ p.val) := (s.cluster_modCluster p q fun c => { c with asleep := false, waking := false }).trans (if_neg apart)
    have obj := s.modCluster_obj p fun c => { c with asleep := false, waking := false }
    have work := s.modCluster_sameWork p fun c => { c with asleep := false, waking := false }
    generalize s.modCluster p _ = t at *
    exact ⟨_, congrArg s.outcome eff, own, others, obj, work⟩
  · have facts := wakeDone_group device (p := p)
    generalize eff : wakeDoneEff (.group p) s = t at *
    exact ⟨_, congrArg s.outcome eff, facts⟩
  · have facts := wakeDone_channel_facts device waking
    generalize eff : wakeDoneEff (.channel n) s = t at *
    exact ⟨_, congrArg s.outcome eff, facts⟩
  · have facts := channelSelfRefreshReturn_facts n s
    generalize eff : channelSelfRefreshReturnEff n s = t at *
    exact ⟨_, congrArg s.outcome eff, facts⟩
  · have eff := clusterSleepExpiry_sleeps limit idle awake
    have own := (s.cluster_modCluster p p fun c => { c with asleep := true }).trans (if_pos rfl)
    have others (q : Nat) (apart : q ≠ p.val) := (s.cluster_modCluster p q fun c => { c with asleep := true }).trans (if_neg apart)
    have obj := s.modCluster_obj p fun c => { c with asleep := true }
    have work := s.modCluster_sameWork p fun c => { c with asleep := true }
    generalize s.modCluster p _ = t at *
    exact ⟨_, congrArg s.outcome eff, own, others, obj, work⟩
  · have eff := autoOffExpiry_enters device limit idle drained runs noTest unarmed
    obtain ⟨members, _, work⟩ := enterOff_members s p
    generalize s.enterOff p = t at *
    exact ⟨_, congrArg s.outcome eff, fun q mem => (members q mem).1, work⟩
  · have facts := prewake_facts device armed early soon off
    generalize eff : prewakeEff p n s = t at *
    exact ⟨_, congrArg s.outcome eff, facts⟩
  · have facts := retentionEntry_facts reached on ready fits idle
    generalize eff : retentionEntryEff via 1#64 milliC s = t at *
    exact ⟨_, congrArg s.outcome eff, facts⟩
  · obtain ⟨h, eff⟩ := retentionEntry_refused reached on much
    exact ⟨_, congrArg s.outcome eff, rfl, sameWork_refl s⟩
  · have eff := retentionExit_leaves reached off supply
    obtain ⟨awake, cores, coll, mem⟩ := s.leaveRetention_facts
    generalize s.leaveRetention = t at *
    have view : ((t.wrN (pwKey 7) 3).beginBringup 2).unreported = t.unreported := (State.beginBringup_unreported ..).trans (State.wrN_unreported ..)
    have state : ((t.wrN (pwKey 7) 3).beginBringup 2).rdN (pwKey 7) = 3 := by
      rw [State.beginBringup, State.rdN_wrN_ne _ _ (by decide), State.rdN_wrN _ (by decide)]
    have word (p : Nat) : ((t.wrN (pwKey 7) 3).beginBringup 2).pN p 1 = t.pN p 1 := by
      rw [State.beginBringup, State.pN, State.rdN_wrN_ne _ _ (pKey_ne_flag p 1), State.rdN_wrN_ne _ _ (pKey_ne_pwKey p 1 (by decide))]
      rfl
    generalize (t.wrN (pwKey 7) 3).beginBringup 2 = u at *
    have coll' : u.coll = t.coll := (congrArg State.coll view :)
    have cores' : u.cores = t.cores := State.cores_of_unreported view
    have mem' : u.mem = t.mem := State.mem_of_unreported view
    have reset (c : Nat) (low : c < 256) : u.core c = CoreSt.reset := by
      rw [State.core, cores']
      exact cores c low
    exact ⟨_, congrArg s.outcome eff, state, mem'.trans mem, fun p part => (word p).trans (awake p part), reset, coll'.trans coll⟩
  · have facts := retentionEntryDone_facts entering
    generalize eff : retentionEntryDoneEff s = t at *
    exact ⟨_, congrArg s.outcome eff, facts⟩
  · have facts := brownOut_facts retained first
    generalize eff : brownOutEff s = t at *
    exact ⟨_, congrArg s.outcome eff, facts⟩
  · have facts := retCurrentWarning_facts retained much
    generalize eff : retCurrentWarningEff ma s = t at *
    exact ⟨_, congrArg s.outcome eff, facts⟩

end Sys2Proof.Machine

end

section
/-! PROOFS. Registers apart from the fabric's and the memory system's. -/

namespace Sys2Proof.Machine

/-- The objects of the fabric, its ports and the memory system: what packets on their way are counted in. -/
def linkIndex (i : Nat) : Bool := decide (0x2500 ≤ i) && decide (i < 0x2600) || decide (i = 0x2800)

/-- The registers apart from those objects. -/
def State.apart (s : State) : Nat → Word := fun j => if linkIndex (j / 256) then 0#64 else s.rd j

theorem State.rd_of_apart {s t : State} (h : t.apart = s.apart) {j : Nat} (beside : linkIndex (j / 256) = false) : t.rd j = s.rd j := by
  have at_ := congrFun h j
  simp only [State.apart, beside] at at_
  exact at_

theorem State.apart_of_rd {s t : State} (h : ∀ j, linkIndex (j / 256) = false → t.rd j = s.rd j) : t.apart = s.apart := by
  funext j
  unfold State.apart
  split
  · rfl
  next beside => exact h j (Bool.eq_false_of_not_eq_true beside)

theorem ite_apart {p : Prop} [Decidable p] {a b s : State} (ha : a.apart = s.apart) (hb : b.apart = s.apart) :
    (if p then a else b).apart = s.apart := by
  split <;> assumption

theorem foldl_apart {β : Type} {f : State → β → State} (h : ∀ s b, (f s b).apart = s.apart) (l : List β) (s : State) :
    (l.foldl f s).apart = s.apart := foldl_keeps State.apart h l s

theorem State.count_apart (s : State) (key n : Nat) (h : linkIndex (key / 256) = true) : (s.count key n).apart = s.apart :=
  State.apart_of_rd fun j beside => State.rd_count_ne _ _ fun e => by rw [e, h] at beside; cases beside

theorem State.count32_apart (s : State) (key n : Nat) (h : linkIndex (key / 256) = true) : (s.count32 key n).apart = s.apart :=
  State.apart_of_rd fun j beside => State.rd_count32_ne _ _ fun e => by rw [e, h] at beside; cases beside

theorem State.count32Sat_apart (s : State) (key n : Nat) (h : linkIndex (key / 256) = true) : (s.count32Sat key n).apart = s.apart :=
  State.apart_of_rd fun j beside => State.rd_count32Sat_ne _ _ fun e => by rw [e, h] at beside; cases beside

@[simp] theorem State.event_apart (s : State) (p k : Nat) : (s.event p k).apart = s.apart :=
  State.apart_of_rd fun _ _ => State.event_rd ..

@[simp] theorem State.fabricEvent_apart (s : State) : s.fabricEvent.apart = s.apart :=
  State.apart_of_rd fun _ _ => State.fabricEvent_rd ..

@[simp] theorem State.dropUnreachable_apart (s : State) : s.dropUnreachable.apart = s.apart := s.count_apart _ 1 rfl

theorem linkIndex_port {n sub : Nat} (hn : n < 32) (small : sub < 256) : linkIndex (portKey n sub / 256) = true := by
  rw [portKey, objKey_div _ small, linkIndex]
  simp
  omega

@[simp] theorem State.eccLogAdd_apart (s : State) (e : EccEntry) : (s.eccLogAdd e).apart = s.apart := by
  have logged (l : List EccEntry) : (({ s with eccLog := l } : State).count32 (objKey 0x2800 0x0D) 1).apart = s.apart :=
    State.count32_apart { s with eccLog := l } _ 1 rfl
  unfold State.eccLogAdd
  exact ite_apart (logged _) (ite_apart (logged _) (ite_apart (State.count32Sat_apart _ _ 1 rfl) (logged _)))

theorem State.eccNote_path_apart (s : State) (part unit addr : Nat) (o : ShellOutcome) :
    (s.eccNote .datapath part unit addr o).apart = s.apart := by
  have noted (ue : Bool) (a : Nat) (e : EccEntry) : ((s.eccCount .datapath part a ue).eccLogAdd e).apart = s.apart := by
    refine (State.eccLogAdd_apart ..).trans (s.count_apart _ 1 ?_)
    cases ue <;> rfl
  unfold State.eccNote
  cases o with
  | clean => rfl
  | corrected sym g rewritten => exact noted ..
  | uncorrectable g => exact noted ..
  | pathCorrected sym g => exact noted ..
  | pathUncorrectable g => exact noted ..

theorem State.portShell_apart (s : State) (n : Nat) (os : List ShellOutcome) : (s.portShell n os).1.apart = s.apart := by
  have portCount (t : State) (sub : Nat) (small : sub < 256) :
      (if decide (n < 32) then t.count (portKey n sub) 1 else t).apart = t.apart := by
    split
    next port => exact t.count_apart _ 1 (linkIndex_port (of_decide_eq_true port) small)
    · rfl
  obtain ⟨u, hu⟩ : ∃ u, u = os.foldl (fun s o =>
      let s := s.eccNote .datapath 0xFF n 0 o.onPath
      if decide (n < 32) && !o.bad && o != .clean then s.count (portKey n 0x0E) 1 else s) s := ⟨_, rfl⟩
  have noted : u.apart = s.apart := by
    rw [hu]
    refine foldl_apart (fun t o => ?_) os s
    dsimp only
    split
    next port =>
      simp only [Bool.and_eq_true, decide_eq_true_eq] at port
      exact (State.count_apart _ _ 1 (linkIndex_port port.1.1 (by omega))).trans (State.eccNote_path_apart ..)
    · exact State.eccNote_path_apart ..
  unfold State.portShell
  dsimp only
  rw [← hu]
  split
  · exact (State.fabricEvent_apart _).trans ((portCount u 0x0F (by omega)).trans noted)
  · exact noted

@[simp] theorem State.leaveInput_apart (s : State) (inp : Nat) (vc : Fin 4) (cls : Fin 2) (units : Nat) :
    (s.leaveInput inp vc cls units).apart = s.apart := State.apart_of_rd fun _ _ => State.leaveInput_rd ..

@[simp] theorem State.setPort_apart (s : State) (n : Nat) (x : PortSt) : (s.setPort n x).apart = s.apart := rfl

@[simp] theorem bindRelease_apart (t : Tag) (l : List (Nat × Nat)) (s : State) : (bindRelease t l s).apart = s.apart := by
  induction l generalizing s with
  | nil => rfl
  | cons x l ih =>
    rw [bindRelease]
    refine (ih _).trans ?_
    dsimp only
    split
    · exact ite_apart rfl rfl
    · rfl
@[simp] theorem State.enqueue_apart (s : State) (n : Nat) (inp : Nat) (inCls : Fin 2) (p : Packet) :
    (s.enqueue n inp inCls p).apart = s.apart := by
  unfold State.enqueue
  exact State.setPort_apart ..

@[simp] theorem State.emit_apart (s : State) (o : Out) : (s.emit o).apart = s.apart := rfl

@[simp] theorem State.routeFrom_apart (s : State) (die : Nat) (inp : Nat) (p : Packet) (os : List ShellOutcome) :
    (s.routeFrom die inp p os).apart = s.apart := by
  unfold State.routeFrom
  refine ite_apart rfl (ite_apart ((State.leaveInput_apart ..).trans (State.dropUnreachable_apart ..)) (ite_apart
    ((State.leaveInput_apart ..).trans (ite_apart ((State.emit_apart ..).trans (State.portShell_apart ..))
    (State.portShell_apart ..))) (ite_apart ((State.leaveInput_apart ..).trans (State.dropUnreachable_apart ..)) ?_)))
  split
  · exact (State.leaveInput_apart ..).trans (State.dropUnreachable_apart ..)
  · exact ite_apart ((State.leaveInput_apart ..).trans (State.dropUnreachable_apart ..)) (ite_apart
      ((State.enqueue_apart ..).trans (State.portShell_apart ..)) ((State.leaveInput_apart ..).trans (State.portShell_apart ..)))

@[simp] theorem State.injectWith_apart (s : State) (die : Nat) (p : Packet) (os : List ShellOutcome) :
    (s.injectWith die p os).apart = s.apart := by
  unfold State.injectWith
  exact ite_apart rfl (ite_apart rfl (State.routeFrom_apart ..))

@[simp] theorem State.inject_apart (s : State) (die : Nat) (p : Packet) : (s.inject die p).apart = s.apart := by
  unfold State.inject
  exact State.injectWith_apart ..

@[simp] theorem State.setLoader_apart (s : State) (p : Nat) (x : LoaderSt) : (s.setLoader p x).apart = s.apart := rfl

@[simp] theorem State.modLoader_apart (s : State) (p : Nat) (f : LoaderSt → LoaderSt) : (s.modLoader p f).apart = s.apart := by
  unfold State.modLoader
  exact State.setLoader_apart ..

@[simp] theorem State.modShard_apart (s : State) (p : Nat) (i : Nat) (f : Shard → Shard) :
    (s.modShard p i f).apart = s.apart := by
  unfold State.modShard
  exact State.modLoader_apart ..

@[simp] theorem State.sendFetch_apart (s : State) (p : Nat) (i : Nat) : (s.sendFetch p i).apart = s.apart := by
  unfold State.sendFetch
  dsimp only
  split
  · rfl
  · split
    · rfl
    · exact (State.inject_apart ..).trans ((State.modShard_apart ..).trans (State.modLoader_apart ..))

@[simp] theorem State.enterLoading_apart (s : State) (p : Nat) : (s.enterLoading p).apart = s.apart := by
  unfold State.enterLoading
  refine (foldl_apart (fun ft fb => ?_) _ _).trans (State.modLoader_apart ..)
  split
  · exact ite_apart rfl (State.sendFetch_apart ..)
  · rfl

@[simp] theorem State.setRegion_apart (s : State) (p : Nat) (r : Nat) (e : VEntry) : (s.setRegion p r e).apart = s.apart := rfl

@[simp] theorem State.modSlot_apart (s : State) (p : Nat) (r : Nat) (i : Nat) (f : VSlot → VSlot) :
    (s.modSlot p r i f).apart = s.apart := by
  unfold State.modSlot
  exact State.setRegion_apart ..

@[simp] theorem holdFree_apart (p : Nat) (x1 : List Nat) (x2 : State) : (holdFree p x1 x2).apart = x2.apart := by
  induction x1 generalizing p x2 with
  | nil => rfl
  | cons a l ih =>
    rw [holdFree]
    refine (ih ..).trans (ite_apart rfl ?_)
    split
    · rfl
    · exact (State.modLoader_apart ..).trans (State.modSlot_apart ..)

@[simp] theorem State.pollLoader_apart (s : State) (p : Nat) : (s.pollLoader p).apart = s.apart := by
  unfold State.pollLoader
  exact ite_apart rfl (ite_apart ((State.enterLoading_apart ..).trans (holdFree_apart ..)) (holdFree_apart ..))

@[simp] theorem State.setMicroBatches_apart (s : State) (p : Nat) (l : List MicroBatch) :
    (s.setMicroBatches p l).apart = s.apart := rfl

@[simp] theorem State.bindSlot_apart (s : State) (p : Nat) (r : Nat) (i : Nat) : (s.bindSlot p r i).apart = s.apart := by
  unfold State.bindSlot
  exact State.modSlot_apart ..

@[simp] theorem bindWants_apart (p : Nat) (t : Tag) (x1 : List Nat) (x2 : State) (x3 : List (Nat × Nat)) (x4 : List Nat) :
    (bindWants p t x1 x2 x3 x4).1.apart = x2.apart := by
  induction x1 generalizing p t x2 x3 x4 with
  | nil => rfl
  | cons a l ih =>
    rw [bindWants]
    split
    · split
      · exact (ih ..).trans (State.bindSlot_apart ..)
      · exact ih ..
    · exact ih ..

@[simp] theorem bindAllWaiting_apart (p : Nat) (x1 : List MicroBatch) (x2 : State) :
    (bindAllWaiting p x1 x2).2.apart = x2.apart := by
  induction x1 generalizing p x2 with
  | nil => rfl
  | cons a l ih =>
    rw [bindAllWaiting]
    refine (ih ..).trans ?_
    split
    · rfl
    · exact bindWants_apart ..

@[simp] theorem State.bindWaiting_apart (s : State) (p : Nat) : (s.bindWaiting p).apart = s.apart := by
  unfold State.bindWaiting
  exact (State.setMicroBatches_apart ..).trans (bindAllWaiting_apart ..)

@[simp] theorem State.relSync_apart (s : State) : (s.relSync).apart = s.apart := by
  unfold State.relSync
  split
  · exact bindRelease_apart ..
  · rfl

@[simp] theorem State.sendTango_apart (s : State) (n : Nat) (p : Packet) : (s.sendTango n p).apart = s.apart := by
  unfold State.sendTango
  exact ite_apart rfl (State.enqueue_apart ..)

@[simp] theorem State.sendPair_apart (s : State) (tag : Tag) (kind : Nat) (bank : Nat) (count : Nat) (bytes : Nat) :
    (s.sendPair tag kind bank count bytes).apart = s.apart := by
  unfold State.sendPair
  split
  · exact State.sendTango_apart ..
  · rfl

@[simp] theorem State.modTango_apart (s : State) (f : TangoSt → TangoSt) : (s.modTango f).apart = s.apart := rfl

@[simp] theorem State.unbindSlot_apart (s : State) (p : Nat) (r : Nat) (i : Nat) : (s.unbindSlot p r i).apart = s.apart := by
  unfold State.unbindSlot
  exact State.modSlot_apart ..

@[simp] theorem State.tangoUnbind_apart (s : State) (p : Nat) (r : Nat) (i : Nat) : (s.tangoUnbind p r i).apart = s.apart := by
  unfold State.tangoUnbind
  exact (State.pollLoader_apart ..).trans (State.unbindSlot_apart ..)

@[simp] theorem State.dropAcked_apart (s : State) : (s.dropAcked).apart = s.apart := by
  unfold State.dropAcked
  split
  · rfl
  · exact (State.modTango_apart ..).trans (foldl_apart (fun ft fb => ite_apart (State.tangoUnbind_apart ..) rfl) _ _)

@[simp] theorem State.sendPairWord_apart (s : State) (n : Nat) : (s.sendPairWord n).apart = s.apart := by
  unfold State.sendPairWord
  exact (State.modTango_apart ..).trans (State.sendTango_apart ..)

@[simp] theorem State.dropMirrorBinds_apart (s : State) : (s.dropMirrorBinds).apart = s.apart := by
  unfold State.dropMirrorBinds
  split
  · rfl
  · exact (State.modTango_apart ..).trans (foldl_apart (fun ft fb => ite_apart (State.tangoUnbind_apart ..) rfl) _ _)

@[simp] theorem State.dropMirror_apart (s : State) : (s.dropMirror).apart = s.apart := by
  unfold State.dropMirror
  exact (State.modTango_apart ..).trans (State.dropMirrorBinds_apart ..)

@[simp] theorem State.dropRelease_apart (s : State) : (s.dropRelease).apart = s.apart := by
  unfold State.dropRelease
  exact (State.modTango_apart ..).trans (foldl_apart (fun ft fb => State.tangoUnbind_apart ..) _ _)

@[simp] theorem State.rollbackRegion_apart (s : State) (t : Tag) (p : Nat) (r : Nat) :
    (s.rollbackRegion t p r).apart = s.apart := by
  unfold State.rollbackRegion
  dsimp only
  split
  · exact ite_apart rfl ((State.modSlot_apart ..).trans (State.modSlot_apart ..))
  · rfl

@[simp] theorem State.bindAll_apart (s : State) (p : Nat) (l : List (Nat × Nat)) : (s.bindAll p l).apart = s.apart := by
  unfold State.bindAll
  exact foldl_apart (fun ft fb => State.bindSlot_apart ..) _ _

@[simp] theorem sendPackets_apart (m : Mirror) (dest : FabAddr) (ports : List Nat) (k : Nat) (x1 : Nat) (x2 : Nat) (x3 : State) :
    (sendPackets m dest ports k x1 x2 x3).apart = x3.apart := by
  induction x1 generalizing m dest ports k x2 x3 with
  | zero => rfl
  | succ n ih =>
    rw [sendPackets]
    refine ite_apart rfl ((ih ..).trans ?_)
    split
    · exact State.sendTango_apart ..
    · rfl

@[simp] theorem State.sendChunk_apart (s : State) : (s.sendChunk).apart = s.apart := by
  unfold State.sendChunk
  split
  · exact ite_apart ((State.modTango_apart ..).trans (sendPackets_apart ..)) rfl
  · rfl

end Sys2Proof.Machine

end

section
/-! PROOFS. What the Tango engine leaves of the machine. -/

namespace Sys2Proof.Machine

/-- The machine without the Tango engine and without what the loader and its packets write. -/
def State.untangled (s : State) : State := { s.unloaded with tango := .reset, mbs := [] }

theorem State.untangled_of_unloaded {s t : State} (h : t.unloaded = s.unloaded) : t.untangled = s.untangled :=
  congrArg (fun u : State => { u with tango := .reset, mbs := [] }) h

theorem State.untangled_of_unreported {s t : State} (h : t.unreported = s.unreported) : t.untangled = s.untangled :=
  State.untangled_of_unloaded (State.unloaded_of_unreported h)

theorem ite_untangled {p : Prop} [Decidable p] {a b s : State} (ha : a.untangled = s.untangled) (hb : b.untangled = s.untangled) :
    (if p then a else b).untangled = s.untangled := by
  split <;> assumption

theorem foldl_untangled {β : Type} {f : State → β → State} (h : ∀ s b, (f s b).untangled = s.untangled) (l : List β) (s : State) :
    (l.foldl f s).untangled = s.untangled := foldl_keeps State.untangled h l s

theorem State.cores_of_untangled {s t : State} (h : t.untangled = s.untangled) : t.cores = s.cores :=
  (congrArg State.cores h : t.untangled.cores = s.untangled.cores)

theorem State.mem_of_untangled {s t : State} (h : t.untangled = s.untangled) : t.mem = s.mem :=
  (congrArg State.mem h : t.untangled.mem = s.untangled.mem)

@[simp] theorem State.modTango_untangled (s : State) (f : TangoSt → TangoSt) : (s.modTango f).untangled = s.untangled := rfl

@[simp] theorem State.setMicroBatches_untangled (s : State) (p : Nat) (l : List MicroBatch) :
    (s.setMicroBatches p l).untangled = s.untangled := rfl

@[simp] theorem bindRelease_untangled (t : Tag) (l : List (Nat × Nat)) (s : State) : (bindRelease t l s).untangled = s.untangled := by
  induction l generalizing s with
  | nil => rfl
  | cons x l ih =>
    rw [bindRelease]
    refine (ih _).trans ?_
    dsimp only
    split
    next i _ =>
      exact ite_untangled ((State.modTango_untangled (s.bindSlot x.1 x.2 i) fun t => { t with relBinds := t.relBinds ++ [(x.1, x.2, i)] }).trans
        (State.untangled_of_unloaded (State.bindSlot_unloaded ..))) rfl
    · rfl
@[simp] theorem State.bindWaiting_untangled (s : State) (p : Nat) : (s.bindWaiting p).untangled = s.untangled := by
  unfold State.bindWaiting
  exact (State.setMicroBatches_untangled ..).trans (State.untangled_of_unloaded (bindAllWaiting_unloaded ..))

@[simp] theorem State.relSync_untangled (s : State) : (s.relSync).untangled = s.untangled := by
  unfold State.relSync
  split
  · exact bindRelease_untangled ..
  · rfl

@[simp] theorem State.sendTango_untangled (s : State) (n : Nat) (p : Packet) : (s.sendTango n p).untangled = s.untangled := by
  unfold State.sendTango
  exact ite_untangled rfl (State.untangled_of_unreported (State.enqueue_unreported ..))

@[simp] theorem State.sendPair_untangled (s : State) (tag : Tag) (kind : Nat) (bank : Nat) (count : Nat) (bytes : Nat) :
    (s.sendPair tag kind bank count bytes).untangled = s.untangled := by
  unfold State.sendPair
  split
  · exact State.sendTango_untangled ..
  · rfl

@[simp] theorem State.tangoUnbind_untangled (s : State) (p : Nat) (r : Nat) (i : Nat) :
    (s.tangoUnbind p r i).untangled = s.untangled := by
  unfold State.tangoUnbind
  exact (State.untangled_of_unloaded (State.pollLoader_unloaded ..)).trans (State.untangled_of_unloaded
    (State.unbindSlot_unloaded ..))

@[simp] theorem State.dropAcked_untangled (s : State) : (s.dropAcked).untangled = s.untangled := by
  unfold State.dropAcked
  split
  · rfl
  · exact (State.modTango_untangled ..).trans (foldl_untangled (fun ft fb => ite_untangled
      (State.tangoUnbind_untangled ..) rfl) _ _)

@[simp] theorem State.ackTo_untangled (s : State) (k : Nat) : (s.ackTo k).untangled = s.untangled := by
  unfold State.ackTo
  split
  · rfl
  · exact ite_untangled ((State.dropAcked_untangled ..).trans ((State.untangled_of_unreported (State.count_unreported ..)).trans
      ((State.untangled_of_unreported (State.wrN_unreported ..)).trans (State.modTango_untangled ..))))
      ((State.untangled_of_unreported (State.toTango_unreported ..)).trans ((State.modTango_untangled ..).trans
      ((State.untangled_of_unreported (State.wrN_unreported ..)).trans ((State.sendPair_untangled ..).trans
      ((State.dropAcked_untangled ..).trans ((State.untangled_of_unreported (State.count_unreported ..)).trans
      ((State.untangled_of_unreported (State.wrN_unreported ..)).trans (State.modTango_untangled ..))))))))

@[simp] theorem State.endRestore_untangled (s : State) (code : Nat) : (s.endRestore code).untangled = s.untangled := by
  unfold State.endRestore
  exact ite_untangled rfl ((State.untangled_of_unreported (State.wrN_unreported ..)).trans ((State.untangled_of_unreported
    (State.wrN_unreported ..)).trans (State.modTango_untangled ..)))

@[simp] theorem State.suspendMirror_untangled (s : State) : (s.suspendMirror).untangled = s.untangled := by
  unfold State.suspendMirror
  exact ite_untangled ((State.modTango_untangled ..).trans (State.untangled_of_unreported (State.toTango_unreported ..))) rfl

@[simp] theorem State.sendPairWord_untangled (s : State) (n : Nat) : (s.sendPairWord n).untangled = s.untangled := by
  unfold State.sendPairWord
  exact (State.modTango_untangled ..).trans (State.sendTango_untangled ..)

@[simp] theorem State.dropMirrorBinds_untangled (s : State) : (s.dropMirrorBinds).untangled = s.untangled := by
  unfold State.dropMirrorBinds
  split
  · rfl
  · exact (State.modTango_untangled ..).trans (foldl_untangled (fun ft fb => ite_untangled
      (State.tangoUnbind_untangled ..) rfl) _ _)

@[simp] theorem State.dropMirror_untangled (s : State) : (s.dropMirror).untangled = s.untangled := by
  unfold State.dropMirror
  exact (State.modTango_untangled ..).trans (State.dropMirrorBinds_untangled ..)

@[simp] theorem State.rePair_untangled (s : State) : (s.rePair).untangled = s.untangled := by
  unfold State.rePair
  dsimp only
  split
  · exact ite_untangled ((State.sendPairWord_untangled ..).trans ((State.untangled_of_unreported
      (State.toTango_unreported ..)).trans ((State.modTango_untangled ..).trans (State.dropMirror_untangled ..))))
      ((State.untangled_of_unreported (State.toTango_unreported ..)).trans ((State.modTango_untangled ..).trans
      (State.dropMirror_untangled ..)))
  · exact (State.untangled_of_unreported (State.toTango_unreported ..)).trans ((State.modTango_untangled ..).trans
      (State.dropMirror_untangled ..))

@[simp] theorem State.dropRelease_untangled (s : State) : (s.dropRelease).untangled = s.untangled := by
  unfold State.dropRelease
  exact (State.modTango_untangled ..).trans (foldl_untangled (fun ft fb => State.tangoUnbind_untangled ..) _ _)

@[simp] theorem State.rollbackRegion_untangled (s : State) (t : Tag) (p : Nat) (r : Nat) :
    (s.rollbackRegion t p r).untangled = s.untangled := by
  unfold State.rollbackRegion
  dsimp only
  split
  · exact ite_untangled rfl ((State.untangled_of_unloaded (State.modSlot_unloaded ..)).trans (State.untangled_of_unloaded
      (State.modSlot_unloaded ..)))
  · rfl

@[simp] theorem State.lateMirror_untangled (s : State) : (s.lateMirror).untangled = s.untangled := by
  unfold State.lateMirror
  exact (State.untangled_of_unreported (State.healthEvent_unreported ..)).trans (State.untangled_of_unreported
    (State.count32Sat_unreported ..))

@[simp] theorem State.pairConflict_untangled (s : State) (cause : Nat) : (s.pairConflict cause).untangled = s.untangled := by
  unfold State.pairConflict
  exact (State.untangled_of_unreported (State.wrN_unreported ..)).trans ((State.untangled_of_unreported
    (State.toTango_unreported ..)).trans (State.dropMirror_untangled ..))

@[simp] theorem State.pairWith_untangled (s : State) (n : Nat) (pkt : Packet) : (s.pairWith n pkt).untangled = s.untangled := by
  unfold State.pairWith
  split
  · dsimp only
    split
    · exact ite_untangled ((State.untangled_of_unreported (State.toTango_unreported ..)).trans
        ((State.modTango_untangled ..).trans ((State.modTango_untangled ..).trans (ite_untangled
        ((State.sendPairWord_untangled ..).trans ((State.untangled_of_unreported (State.wrN_unreported ..)).trans
        ((State.untangled_of_unreported (State.wrN_unreported ..)).trans ((State.modTango_untangled ..).trans
        (State.dropMirror_untangled ..))))) ((State.untangled_of_unreported (State.wrN_unreported ..)).trans
        ((State.untangled_of_unreported (State.wrN_unreported ..)).trans ((State.modTango_untangled ..).trans
        (State.dropMirror_untangled ..)))))))) ((State.untangled_of_unreported (State.toTango_unreported ..)).trans
        ((State.modTango_untangled ..).trans (ite_untangled ((State.sendPairWord_untangled ..).trans
        ((State.untangled_of_unreported (State.wrN_unreported ..)).trans ((State.untangled_of_unreported
        (State.wrN_unreported ..)).trans ((State.modTango_untangled ..).trans (State.dropMirror_untangled ..)))))
        ((State.untangled_of_unreported (State.wrN_unreported ..)).trans ((State.untangled_of_unreported
        (State.wrN_unreported ..)).trans ((State.modTango_untangled ..).trans (State.dropMirror_untangled ..)))))))
    · exact (State.untangled_of_unreported (State.toTango_unreported ..)).trans ((State.modTango_untangled ..).trans
        (ite_untangled ((State.sendPairWord_untangled ..).trans ((State.untangled_of_unreported (State.wrN_unreported ..)).trans
        ((State.untangled_of_unreported (State.wrN_unreported ..)).trans ((State.modTango_untangled ..).trans
        (State.dropMirror_untangled ..))))) ((State.untangled_of_unreported (State.wrN_unreported ..)).trans
        ((State.untangled_of_unreported (State.wrN_unreported ..)).trans ((State.modTango_untangled ..).trans
        (State.dropMirror_untangled ..))))))
  · dsimp only
    split
    · exact ite_untangled ((State.untangled_of_unreported (State.toTango_unreported ..)).trans
        ((State.modTango_untangled ..).trans ((State.modTango_untangled ..).trans (ite_untangled
        ((State.sendPairWord_untangled ..).trans ((State.untangled_of_unreported (State.wrN_unreported ..)).trans
        ((State.untangled_of_unreported (State.wrN_unreported ..)).trans ((State.modTango_untangled ..).trans
        (State.dropMirror_untangled ..))))) ((State.untangled_of_unreported (State.wrN_unreported ..)).trans
        ((State.untangled_of_unreported (State.wrN_unreported ..)).trans ((State.modTango_untangled ..).trans
        (State.dropMirror_untangled ..)))))))) ((State.untangled_of_unreported (State.toTango_unreported ..)).trans
        ((State.modTango_untangled ..).trans (ite_untangled ((State.sendPairWord_untangled ..).trans
        ((State.untangled_of_unreported (State.wrN_unreported ..)).trans ((State.untangled_of_unreported
        (State.wrN_unreported ..)).trans ((State.modTango_untangled ..).trans (State.dropMirror_untangled ..)))))
        ((State.untangled_of_unreported (State.wrN_unreported ..)).trans ((State.untangled_of_unreported
        (State.wrN_unreported ..)).trans ((State.modTango_untangled ..).trans (State.dropMirror_untangled ..)))))))
    · exact (State.untangled_of_unreported (State.toTango_unreported ..)).trans ((State.modTango_untangled ..).trans
        (ite_untangled ((State.sendPairWord_untangled ..).trans ((State.untangled_of_unreported (State.wrN_unreported ..)).trans
        ((State.untangled_of_unreported (State.wrN_unreported ..)).trans ((State.modTango_untangled ..).trans
        (State.dropMirror_untangled ..))))) ((State.untangled_of_unreported (State.wrN_unreported ..)).trans
        ((State.untangled_of_unreported (State.wrN_unreported ..)).trans ((State.modTango_untangled ..).trans
        (State.dropMirror_untangled ..))))))

@[simp] theorem sendPackets_untangled (m : Mirror) (dest : FabAddr) (ports : List Nat) (k : Nat) (x1 : Nat) (x2 : Nat)
    (x3 : State) :
    (sendPackets m dest ports k x1 x2 x3).untangled = x3.untangled := by
  induction x1 generalizing m dest ports k x2 x3 with
  | zero => rfl
  | succ n ih =>
    rw [sendPackets]
    refine ite_untangled rfl ((ih ..).trans ?_)
    split
    · exact State.sendTango_untangled ..
    · rfl

@[simp] theorem State.sendChunk_untangled (s : State) : (s.sendChunk).untangled = s.untangled := by
  unfold State.sendChunk
  split
  · exact ite_untangled ((State.modTango_untangled ..).trans (sendPackets_untangled ..)) rfl
  · rfl

@[simp] theorem State.takePair_untangled (s : State) (n : Port) (pkt : Packet) :
    (s.takePair n pkt).untangled = s.untangled := by
  unfold State.takePair
  exact ite_untangled rfl (ite_untangled ((State.pairConflict_untangled ..).trans (State.untangled_of_unreported
    (State.wrN_unreported ..))) (ite_untangled ((State.pairConflict_untangled ..).trans (State.untangled_of_unreported
    (State.wrN_unreported ..))) (ite_untangled (ite_untangled ((State.pairWith_untangled ..).trans
    ((State.untangled_of_unreported (State.count32Sat_unreported ..)).trans (State.untangled_of_unreported
    (State.wrN_unreported ..)))) ((State.pairConflict_untangled ..).trans (State.untangled_of_unreported
    (State.wrN_unreported ..)))) (ite_untangled ((State.pairConflict_untangled ..).trans (State.untangled_of_unreported
    (State.wrN_unreported ..))) ((State.pairWith_untangled ..).trans (State.untangled_of_unreported
    (State.wrN_unreported ..)))))))

end Sys2Proof.Machine

end

section
/-! PROOFS. Retention masks, reserves and patrol reads (R138, R141, R148, R149), obligation O27. -/

namespace Sys2Proof.Machine

variable {s : State}

/-! ## Retention masks and reserves (R138, R141) -/

theorem retainMaskWriteEff_set {via : Via} {p : Part} {v : Word} (reached : s.reaches via (partIx p) 0x91 = true)
    (priv : viaPriv via = true) (late : s.pow.retainLate = []) (running : s.rdN (objKey 0x2000 7) ≠ 1)
    (room : (mset 0#64 s.retain (16 * p.val + s.pN p 0x90) v).foldl (fun a kv => a + bitCount kv.2) 0 ≤ 1024) :
    retainMaskWriteEff via p v s = { s with retain := mset 0#64 s.retain (16 * p.val + s.pN p 0x90) v } := by
  have set_ : retainMaskW s via p v = .ok { s with retain := mset 0#64 s.retain (16 * p.val + s.pN p 0x90) v } := by
    unfold retainMaskW
    rw [late]
    dsimp only [List.foldl_nil]
    rw [if_neg (by simp [priv]), if_neg (by omega), if_neg running]
  rw [retainMaskWriteEff, set_]
  exact State.objWrite_ok s reached _

theorem retainMaskWriteEff_full {via : Via} {p : Part} {v : Word} (priv : viaPriv via = true) (late : s.pow.retainLate = [])
    (full : 1024 < (mset 0#64 s.retain (16 * p.val + s.pN p 0x90) v).foldl (fun a kv => a + bitCount kv.2) 0) :
    ∃ h, retainMaskWriteEff via p v s = { s with host := h } := by
  have refused : retainMaskW s via p v = .error .range := by
    unfold retainMaskW
    rw [late]
    dsimp only [List.foldl_nil]
    rw [if_neg (by simp [priv]), if_pos full]
  rw [retainMaskWriteEff, refused]
  exact s.objWrite_error_frame ..

theorem State.rePair_rd (s : State) {j : Nat} (beside : linkIndex (j / 256) = false) (other : j ≠ tKey 2) : s.rePair.rd j = s.rd j := by
  have parted : (s.dropMirror.modTango fun t => { t with pairSent := false, waiting := none }).rd j = s.rd j :=
    State.rd_of_apart ((State.modTango_apart ..).trans (State.dropMirror_apart ..)) beside
  have moved (u : State) (st : Nat) : (u.toTango st).rd j = u.rd j := State.rd_wrN_ne _ _ other
  unfold State.rePair
  dsimp only
  split
  · split
    · exact (State.rd_of_apart (State.sendPairWord_apart ..) beside).trans ((moved ..).trans parted)
    · exact (moved ..).trans parted
  · exact (moved ..).trans parted

theorem linkIndex_partIndex (p : Nat) : linkIndex (partIndex p) = false := by
  have above : ¬partIndex p < 0x2600 := by simp only [partIndex]; omega
  have other : partIndex p ≠ 0x2800 := by simp only [partIndex]; omega
  rw [linkIndex, decide_eq_false above, decide_eq_false other, Bool.and_false, Bool.or_false]

theorem Mem.read_freeMem (s : State) (a n b : Nat) (h : b < a ∨ a + n ≤ b) : (s.freeMem a n).mem.read b = s.mem.read b :=
  (Mem.read_fill ..).trans (if_neg (by omega))

/-- The reserve of partition `p` set to `v`, with `n` bytes at `a` given up and the banks empty. -/
def State.reserveTo (s : State) (p : Nat) (v : Word) (a n : Nat) : State :=
  ((s.freeMem a n).pWr p 0x93 v).modTango TangoSt.emptyBanks

/-- A reserve that changes: only the HBM given up loses its bytes. -/
theorem State.reserveTo_frame (s : State) (p : Nat) (v : Word) (a n : Nat) (again : Bool) :
    (if again then (s.reserveTo p v a n).rePair else s.reserveTo p v a n).pRd p 0x93 = v ∧
    (if again then (s.reserveTo p v a n).rePair else s.reserveTo p v a n).cores = s.cores ∧
    memOutside s (if again then (s.reserveTo p v a n).rePair else s.reserveTo p v a n) a n := by
  obtain ⟨t, ht⟩ : ∃ t, t = s.reserveTo p v a n := ⟨_, rfl⟩
  have set_ : t.pRd p 0x93 = v := by
    rw [ht]
    exact (State.rd_wr (s := s.freeMem a n) (pKey p 0x93) (pKey p 0x93) v).trans (if_pos rfl)
  have cores : t.cores = s.cores := by rw [ht]; rfl
  have mem : memOutside s t a n := by
    intro b outside
    rw [ht]
    exact Mem.read_freeMem s a n b outside
  rw [← ht]
  cases again with
  | false => exact ⟨set_, cores, mem⟩
  | true =>
    have same := t.rePair_untangled
    refine ⟨(t.rePair_rd ?_ ?_).trans set_, (State.cores_of_untangled same).trans cores, fun b outside => ?_⟩
    · rw [pKey, objKey_div _ (by decide)]
      exact linkIndex_partIndex p
    · simp only [pKey, partIndex, tKey, objKey]
      omega
    · rw [if_pos rfl, State.mem_of_untangled same]
      exact mem b outside

section
variable {via : Via} {p : Part} {v : Word}

theorem tangoReserveWriteEff_facts (reached : s.reaches via (partIx p) 0x93 = true)
    (priv : viaPriv via = true) (small : v.toNat ≤ 27) (empty : s.hasResident p = false) (idle0 : s.tango.bank0.st ≠ .filling)
    (idle1 : s.tango.bank1.st ≠ .filling) (still : s.tango.restore = none) (thawed : s.tango.frozen = false) :
    (tangoReserveWriteEff via p v s).pRd p 0x93 = v ∧ (tangoReserveWriteEff via p v s).cores = s.cores ∧
      memOutside s (tangoReserveWriteEff via p v s) (hbmBase (p.val + 1) - max (s.pN p 0x93) v.toNat * 2 ^ 30)
        ((max (s.pN p 0x93) v.toNat - min (s.pN p 0x93) v.toNat) * 2 ^ 30) := by
  have checks : ∃ again : Bool, tangoReserveW s via p v = if v = s.pRd p 0x93 then .ok s
      else .ok (if again then
          (s.reserveTo p v (hbmBase (p.val + 1) - max (s.pN p 0x93) v.toNat * 2 ^ 30)
            ((max (s.pN p 0x93) v.toNat - min (s.pN p 0x93) v.toNat) * 2 ^ 30)).rePair
        else s.reserveTo p v (hbmBase (p.val + 1) - max (s.pN p 0x93) v.toNat * 2 ^ 30)
          ((max (s.pN p 0x93) v.toNat - min (s.pN p 0x93) v.toNat) * 2 ^ 30)) := by
    refine ⟨s.tango.heard.isSome || (s.reserveTo p v (hbmBase (p.val + 1) - max (s.pN p 0x93) v.toNat * 2 ^ 30)
      ((max (s.pN p 0x93) v.toNat - min (s.pN p 0x93) v.toNat) * 2 ^ 30)).tangoState == tsConflict, ?_⟩
    rw [Nat.sub_mul, ← Nat.mul_max_mul_right, ← Nat.mul_min_mul_right]
    unfold tangoReserveW
    dsimp only
    rw [if_neg (by simp [priv]), if_neg (by omega), if_neg (by simp [empty, idle0, idle1, still, thawed])]
    rfl
  obtain ⟨again, checks⟩ := checks
  by_cases same : v = s.pRd p 0x93
  · have eff : tangoReserveWriteEff via p v s = s := by
      rw [tangoReserveWriteEff, checks, if_pos same]
      exact State.objWrite_ok s reached _
    rw [eff]
    exact ⟨same.symm, rfl, fun _ _ => rfl⟩
  · rw [if_neg same] at checks
    rw [tangoReserveWriteEff, checks, State.partWrite, State.objWrite_ok s reached]
    exact s.reserveTo_frame p v _ _ again

theorem tangoReserveWriteEff_large (priv : viaPriv via = true) (large : 27 < v.toNat) :
    ∃ h, tangoReserveWriteEff via p v s = { s with host := h } := by
  have refused : tangoReserveW s via p v = .error .range := by
    unfold tangoReserveW
    dsimp only
    rw [if_neg (by simp [priv]), if_pos large]
  rw [tangoReserveWriteEff, refused]
  exact s.objWrite_error_frame ..

end

/-! ## Patrol reads (R148, R149) -/

/-- The registers that a patrol's position and period rest on: partition states, the periods and the pass counts. -/
def scrubKey (j : Nat) : Prop := j % 256 = 1 ∨ (j / 256 = 0x2800 ∧ 3 ≤ j % 256 ∧ j % 256 ≤ 6)

/-- What a note of an outcome leaves: the work, and what the patrols rest on. -/
structure Patrolled (s t : State) : Prop where
  work : sameWork s t
  pow : t.pow = s.pow
  health : ({ t.health with shadow := [] } : HealthSt) = { s.health with shadow := [] }
  time : t.mgmt.ns = s.mgmt.ns
  word : ∀ j, scrubKey j → t.rd j = s.rd j

theorem Patrolled.refl (s : State) : Patrolled s s := ⟨sameWork_refl s, rfl, rfl, rfl, fun _ _ => rfl⟩

theorem Patrolled.trans {s t u : State} (h : Patrolled s t) (h' : Patrolled t u) : Patrolled s u :=
  ⟨sameWork_trans h.work h'.work, h'.pow.trans h.pow, h'.health.trans h.health, h'.time.trans h.time,
    fun j key => (h'.word j key).trans (h.word j key)⟩

theorem Patrolled.counted (s : State) {k : Nat} (n : Nat) (v : Word) (other : ¬scrubKey k) : Patrolled s ((s.shadowOf k n).wr k v) := by
  have shadow : Patrolled s (s.shadowOf k n) := by
    unfold State.shadowOf
    split
    · exact ⟨sameWork_refl s, rfl, rfl, rfl, fun _ _ => rfl⟩
    · exact Patrolled.refl s
  refine shadow.trans ?_
  generalize s.shadowOf k n = t
  refine ⟨sameWork_refl t, rfl, rfl, rfl, fun j key => (State.rd_wr ..).trans (if_neg ?_)⟩
  rintro rfl
  exact other key

theorem Patrolled.eccCount (s : State) (src : EccSource) (part addr : Nat) (ue : Bool) : Patrolled s (s.eccCount src part addr ue) := by
  have apart (p a : Nat) (h : 0x94 ≤ a) (h' : a < 256) : ¬scrubKey (pKey p a) := by
    simp only [scrubKey, pKey, partIndex, objKey]
    omega
  obtain ⟨k, hk, small⟩ : ∃ k, k = (if ue then 1 else 0) ∧ k ≤ 1 := ⟨_, rfl, by split <;> omega⟩
  unfold State.eccCount
  dsimp only
  rw [← hk]
  have inPart (a : Nat) (h : 0x94 ≤ a) (h' : a < 0x99) : Patrolled s (s.pCount part (a + k) 1) :=
    Patrolled.counted s 1 _ (apart part (a + k) (by omega) (by omega))
  have inStack : Patrolled s ((s.pCount part (0x98 + k) 1).count (objKey (0x2810 + hbmStack addr) (2 + k)) 1) := by
    refine (inPart 0x98 (by decide) (by decide)).trans (Patrolled.counted _ 1 _ ?_)
    simp only [scrubKey, objKey]
    omega
  cases src with
  | spadRead => exact inPart 0x94 (by decide) (by decide)
  | spadPatrol => exact inPart 0x94 (by decide) (by decide)
  | walnutRead => exact inPart 0x96 (by decide) (by decide)
  | hbmRead => exact inStack
  | hbmPatrol => exact inStack
  | datapath =>
    refine Patrolled.counted s 1 _ ?_
    simp only [scrubKey, objKey]
    omega

theorem Patrolled.eccLogAdd (s : State) (e : EccEntry) : Patrolled s (s.eccLogAdd e) := by
  have key (a : Nat) (h : 6 < a) (h' : a < 256) : ¬scrubKey (objKey 0x2800 a) := by
    simp only [scrubKey, objKey]
    omega
  have logged (l : List EccEntry) : Patrolled s (({ s with eccLog := l } : State).count32 (objKey 0x2800 0x0D) 1) :=
    have listed : Patrolled s { s with eccLog := l } := ⟨sameWork_refl s, rfl, rfl, rfl, fun _ _ => rfl⟩
    listed.trans (Patrolled.counted _ 1 _ (key 0x0D (by decide) (by decide)))
  unfold State.eccLogAdd
  dsimp only
  split
  · exact logged _
  · split
    · exact logged _
    · split
      · exact Patrolled.counted s 1 _ (key 0x0E (by decide) (by decide))
      · exact logged _

theorem Patrolled.eccNote (s : State) (src : EccSource) (part unit addr : Nat) (o : ShellOutcome) :
    Patrolled s (s.eccNote src part unit addr o) := by
  have noted (src : EccSource) (a : Nat) (ue : Bool) (e : EccEntry) : Patrolled s ((s.eccCount src part a ue).eccLogAdd e) :=
    (Patrolled.eccCount ..).trans (Patrolled.eccLogAdd ..)
  unfold State.eccNote
  cases o with
  | clean => exact Patrolled.refl s
  | corrected sym g rewritten => exact noted ..
  | uncorrectable g => exact noted ..
  | pathCorrected sym g => exact noted ..
  | pathUncorrectable g => exact noted ..

theorem Patrolled.event (s : State) (p k : Nat) : Patrolled s (s.event p k) := by
  obtain ⟨h, o, e⟩ := State.event_logEvent s p k
  rw [e]
  exact ⟨sameWork_refl s, rfl, rfl, rfl, fun _ _ => rfl⟩

/-- The outcome of a patrol read noted, before its event. -/
def State.patrolNote (s : State) (hbm : Bool) (a : Nat) (o : ShellOutcome) : State :=
  if hbm then s.eccNote .hbmPatrol (a / hbmSize) (hbmChannel a) a o
  else s.eccNote .spadPatrol (a / (16 * spadSize)) (a / spadSize) (spadBase 0 + a) o

theorem State.scrubNote_eq (s : State) (hbm : Bool) (a : Nat) (o : ShellOutcome) :
    s.scrubNote hbm a o = if o.bad then (s.patrolNote hbm a o).event (if hbm then a / hbmSize else a / (16 * spadSize)) 6
      else s.patrolNote hbm a o := by
  cases hbm with
  | true =>
    unfold State.scrubNote State.patrolNote
    simp only [if_true]
  | false =>
    unfold State.scrubNote State.patrolNote
    simp only [Bool.false_eq_true, if_false]

theorem Patrolled.patrolNote (s : State) (hbm : Bool) (a : Nat) (o : ShellOutcome) : Patrolled s (s.patrolNote hbm a o) := by
  cases hbm <;> exact Patrolled.eccNote ..

theorem Patrolled.scrubNote (s : State) (hbm : Bool) (a : Nat) (o : ShellOutcome) : Patrolled s (s.scrubNote hbm a o) := by
  rw [State.scrubNote_eq]
  split
  · exact (Patrolled.patrolNote ..).trans (Patrolled.event ..)
  · exact Patrolled.patrolNote ..

section
variable {t : State} (kept : Patrolled s t)
include kept

theorem Patrolled.rdN {j : Nat} (h : scrubKey j) : t.rdN j = s.rdN j := congrArg BitVec.toNat (kept.word j h)

theorem Patrolled.pN (p : Nat) : t.pN p 1 = s.pN p 1 := kept.rdN (Or.inl (by simp only [pKey, objKey]; omega))

theorem Patrolled.scrub (hbm : Bool) : t.scrub hbm = s.scrub hbm := by
  cases hbm with
  | true => exact (congrArg HealthSt.scrubHbm kept.health :)
  | false => exact (congrArg HealthSt.scrubSpad kept.health :)

theorem Patrolled.scrubPeriod (hbm : Bool) : t.scrubPeriod hbm = s.scrubPeriod hbm := by
  have probation : t.health.probation = s.health.probation := (congrArg HealthSt.probation kept.health :)
  have hbmPeriod : t.rdN (objKey 0x2800 3) = s.rdN (objKey 0x2800 3) := kept.rdN (Or.inr (by decide))
  have spadPeriod : t.rdN (objKey 0x2800 4) = s.rdN (objKey 0x2800 4) := kept.rdN (Or.inr (by decide))
  unfold State.scrubPeriod
  dsimp only
  rw [probation, hbmPeriod, spadPeriod]

theorem Patrolled.nextScrub (hbm : Bool) (a : Nat) : t.nextScrub hbm a = s.nextScrub hbm a := by
  unfold State.nextScrub State.nextHbm State.nextHbmIn State.nextSpad State.channelSleeps
  simp only [kept.pN, kept.pow]

end

theorem State.scrub_setScrub (s : State) (hbm : Bool) (x : Scrub) : (s.setScrub hbm x).scrub hbm = x := by cases hbm <;> rfl

section
variable {t : State} {hbm : Bool} {a : Nat} (kept : Patrolled s t)
include kept

theorem Patrolled.scrubOn_on (more : s.nextScrub hbm (a + 16) ≠ none) :
    t.scrubOn hbm a = t.setScrub hbm ⟨a + 16, true, if (s.scrub hbm).running then (s.scrub hbm).since else s.mgmt.ns⟩ := by
  obtain ⟨b, hb⟩ := Option.ne_none_iff_exists'.1 more
  unfold State.scrubOn
  dsimp only
  rw [kept.nextScrub, hb, kept.scrub, kept.time]

theorem Patrolled.scrubOn_last (last : s.nextScrub hbm (a + 16) = none) :
    t.scrubOn hbm a = (t.setScrub hbm ⟨0, false,
      (if (s.scrub hbm).running then (s.scrub hbm).since else s.mgmt.ns) + s.scrubPeriod hbm⟩).count32
        (objKey 0x2800 (if hbm then 5 else 6)) 1 := by
  unfold State.scrubOn
  dsimp only
  rw [kept.nextScrub, last, kept.scrub, kept.time, kept.scrubPeriod]

end

theorem State.setScrub_sameWork (s : State) (hbm : Bool) (x : Scrub) : sameWork s (s.setScrub hbm x) := by
  cases hbm <;> exact sameWork_refl s

theorem State.count32_scrub (s : State) (k n : Nat) (hbm : Bool) : (s.count32 k n).scrub hbm = s.scrub hbm := by
  unfold State.count32 State.shadowOf
  cases hbm <;> split <;> rfl

theorem patrolScrubReadEff_due {hbm : Bool} {o : ShellOutcome} {a : Nat} (ready : s.jobReady = true)
    (due : (s.scrub hbm).running = true ∨ (s.scrub hbm).since ≤ s.mgmt.ns) (next : s.nextScrub hbm (s.scrub hbm).at_ = some a) :
    patrolScrubReadEff hbm o s = (s.scrubNote hbm a o.first).scrubOn hbm a := by
  unfold patrolScrubReadEff
  dsimp only
  rw [if_neg, next]
  rintro (h | ⟨h, h'⟩)
  · simp [ready] at h
  · rcases due with run | since
    · simp [run] at h
    · omega

theorem patrolled_facts {hbm : Bool} {a : Nat} {t : State} (kept : Patrolled s t) :
    sameWork s (t.scrubOn hbm a) ∧
    (s.nextScrub hbm (a + 16) ≠ none → (t.scrubOn hbm a).scrub hbm =
        ⟨a + 16, true, if (s.scrub hbm).running then (s.scrub hbm).since else s.mgmt.ns⟩ ∧
      (t.scrubOn hbm a).rd (objKey 0x2800 (if hbm then 5 else 6)) = s.rd (objKey 0x2800 (if hbm then 5 else 6))) ∧
    (s.nextScrub hbm (a + 16) = none → (t.scrubOn hbm a).scrub hbm =
        ⟨0, false, (if (s.scrub hbm).running then (s.scrub hbm).since else s.mgmt.ns) + s.scrubPeriod hbm⟩ ∧
      (t.scrubOn hbm a).rdN (objKey 0x2800 (if hbm then 5 else 6)) = (s.rdN (objKey 0x2800 (if hbm then 5 else 6)) + 1) % 2 ^ 32) := by
  have passes : scrubKey (objKey 0x2800 (if hbm then 5 else 6)) := by
    cases hbm <;> exact Or.inr (by decide)
  have stays (x : Scrub) (j : Nat) : (t.setScrub hbm x).rd j = t.rd j := by cases hbm <;> rfl
  refine ⟨?_, fun more => ?_, fun last => ?_⟩
  · by_cases last : s.nextScrub hbm (a + 16) = none
    · rw [kept.scrubOn_last last]
      exact sameWork_trans (sameWork_trans kept.work (t.setScrub_sameWork hbm _))
        (sameWork_of_unreported_eq (State.count32_unreported ..))
    · rw [kept.scrubOn_on last]
      exact sameWork_trans kept.work (t.setScrub_sameWork hbm _)
  · rw [kept.scrubOn_on more]
    exact ⟨State.scrub_setScrub .., (stays ..).trans (kept.word _ passes)⟩
  · rw [kept.scrubOn_last last]
    refine ⟨(State.count32_scrub ..).trans (State.scrub_setScrub ..), (State.rdN_count32 ..).trans ?_⟩
    rw [State.rdN, stays, kept.word _ passes]
    rfl

/-- Settles O27: masks and reserves by the branches of their checks, patrol reads by what a note of an outcome leaves. -/
theorem memoryObjects : Obligations.MemoryObjects := by
  unfold Obligations.MemoryObjects
  refine ⟨?_, ?_, ?_⟩
  · intro via p v s reached priv late running
    refine ⟨fun room => ?_, fun full => ?_⟩
    · exact ⟨_, congrArg s.outcome (retainMaskWriteEff_set reached priv late running room), (mget_mset ..).trans (if_pos rfl), fun d other => mget_mset_ne _ _ _ _ _ _ other,
        rfl, rfl, rfl⟩
    · obtain ⟨h, eff⟩ := retainMaskWriteEff_full (s := s) priv late full
      exact ⟨_, congrArg s.outcome eff, rfl⟩
  · intro via p v s reached priv
    refine ⟨fun small empty idle0 idle1 still thawed => ?_, fun large => ?_⟩
    · exact ⟨_, rfl, tangoReserveWriteEff_facts reached priv small empty idle0 idle1 still thawed⟩
    · obtain ⟨h, eff⟩ := tangoReserveWriteEff_large (s := s) (p := p) priv large
      exact ⟨_, congrArg s.outcome eff, rfl, rfl⟩
  · intro hbm o s a _ _ _ ready due next
    have eff := patrolScrubReadEff_due (o := o) ready due next
    refine ⟨⟨_, congrArg s.outcome eff, patrolled_facts (Patrolled.scrubNote s hbm a o.first)⟩, fun bad => ?_⟩
    have noted : s.scrubNote hbm a o.first =
        (s.patrolNote hbm a o.first).event (if hbm then a / hbmSize else a / (16 * spadSize)) 6 := by
      rw [State.scrubNote_eq, if_pos]
      cases o <;> exact bad
    rw [noted] at eff
    exact ⟨_, _, congrArg s.outcome eff, (Patrolled.patrolNote ..).work, rfl⟩

end Sys2Proof.Machine

end

section
/-! PROOFS. The banks of a mirrored image at the partner (R302, R307, R308), obligation O41. -/

namespace Sys2Proof.Machine

variable {s : State}

/-! ## The partner's banks (R302, R307, R308) -/

theorem hbmBase_succ (p : Nat) : hbmBase (p + 1) = hbmBase p + hbmSize := Nat.succ_mul p hbmSize

theorem reserve_le {n : Nat} (h : n ≤ 27) : n * 2 ^ 30 ≤ hbmSize :=
  (Nat.mul_le_mul_right _ h).trans (by decide)

theorem State.reserveBase_from (small : ∀ q < 16, s.pN q 0x93 ≤ 27) {p : Nat} (part : p < 16) : hbmBase p ≤ s.reserveBase p := by
  have room := reserve_le (small p part)
  have next := hbmBase_succ p
  unfold State.reserveBase
  generalize s.pN p 0x93 * 2 ^ 30 = r at *
  omega

theorem State.reserveBase_below (small : ∀ q < 16, s.pN q 0x93 ≤ 27) {p x : Nat} (part : p < 16) (inside : x < s.pN p 0x93 * 2 ^ 30) :
    s.reserveBase p + x < hbmBase (p + 1) := by
  have room := reserve_le (small p part)
  have next := hbmBase_succ p
  unfold State.reserveBase
  generalize s.pN p 0x93 * 2 ^ 30 = r at *
  omega

theorem State.reserveAddr_from (small : ∀ q < 16, s.pN q 0x93 ≤ 27) :
    ∀ (n p o a : Nat), p + n ≤ 16 → s.reserveAddr p n o = some a → hbmBase p ≤ a
  | 0, _, _, _, _, h => by cases h
  | n + 1, p, o, a, room, h => by
    unfold State.reserveAddr at h
    dsimp only at h
    split at h
    · rw [Option.some.injEq] at h
      have := State.reserveBase_from small (p := p) (by omega)
      omega
    · have later := State.reserveAddr_from small n (p + 1) _ a (by omega) h
      rw [hbmBase_succ] at later
      omega

/-- Bytes of the reserve space lie at addresses of their own. -/
theorem State.reserveAddr_inj (small : ∀ q < 16, s.pN q 0x93 ≤ 27) :
    ∀ (n p o o' a : Nat), p + n ≤ 16 → s.reserveAddr p n o = some a → s.reserveAddr p n o' = some a → o = o'
  | 0, _, _, _, _, _, h, _ => by cases h
  | n + 1, p, o, o', a, room, h, h' => by
    have below (x : Nat) (inside : x < s.pN p 0x93 * 2 ^ 30) := State.reserveBase_below small (p := p) (by omega) inside
    unfold State.reserveAddr at h h'
    dsimp only at h h'
    split at h
    next inside =>
      split at h'
      · rw [Option.some.injEq] at h h'
        omega
      · have later := State.reserveAddr_from small n (p + 1) _ a (by omega) h'
        have := below o inside
        rw [Option.some.injEq] at h
        omega
    next outside =>
      split at h'
      next inside' =>
        have later := State.reserveAddr_from small n (p + 1) _ a (by omega) h
        have := below o' inside'
        rw [Option.some.injEq] at h'
        omega
      next outside' =>
        have same := State.reserveAddr_inj small n (p + 1) _ _ a (by omega) h h'
        omega

/-- Numbered bytes stored at the addresses of their numbers. -/
def Mem.storeAt (addr : Nat → Option Nat) (l : List (Byte × Nat)) (m : Mem) : Mem :=
  l.foldl (fun m x => match addr x.2 with
    | some a => m.writeBytes a [x.1]
    | none => m) m

theorem Mem.read_storeAt_out (addr : Nat → Option Nat) (a : Nat) :
    ∀ (l : List (Byte × Nat)) (m : Mem), (∀ x ∈ l, addr x.2 ≠ some a) → (m.storeAt addr l).read a = m.read a
  | [], _, _ => rfl
  | x :: l, m, out => by
    have first := out x List.mem_cons_self
    have later := Mem.read_storeAt_out addr a l
    refine (later _ fun y hy => out y (List.mem_cons_of_mem _ hy)).trans ?_
    dsimp only
    split
    next b hb =>
      refine Mem.read_writeBytes_out _ _ _ _ ?_
      have : a ≠ b := fun same => first (same ▸ hb)
      simp only [List.length_cons, List.length_nil]
      omega
    · rfl

theorem Mem.read_storeAt {addr : Nat → Option Nat} (inj : ∀ i j a, addr i = some a → addr j = some a → i = j) {a : Nat} :
    ∀ (l : List (Byte × Nat)) (m : Mem), (l.map Prod.snd).Nodup → ∀ x ∈ l, addr x.2 = some a → (m.storeAt addr l).read a = x.1
  | [], _, _, _, hx, _ => absurd hx List.not_mem_nil
  | y :: l, m, nodup, x, hx, at_ => by
    rw [List.map_cons, List.nodup_cons] at nodup
    rcases List.mem_cons.1 hx with rfl | hx
    · refine (Mem.read_storeAt_out addr a l _ fun z hz hit => ?_).trans ?_
      · exact nodup.1 (inj _ _ a at_ hit ▸ List.mem_map_of_mem hz)
      · dsimp only
        rw [at_]
        dsimp only
        rw [Mem.read_writeBytes, if_pos (by simp), Nat.sub_self]
        rfl
    · exact Mem.read_storeAt inj l _ nodup.2 x hx at_

/-- Where byte `i` of a packet's data for a bank goes. -/
def State.bankAddr (s : State) (b t i : Nat) : Option Nat := s.reserveAddr 0 16 (s.bankOff b (t + i))

theorem State.reserveAddr_congr {t : State} (h : ∀ j, t.rd j = s.rd j) : ∀ n p o : Nat, t.reserveAddr p n o = s.reserveAddr p n o
  | 0, _, _ => rfl
  | n + 1, p, o => by
    unfold State.reserveAddr State.reserveBase State.pN State.rdN
    dsimp only
    rw [h, State.reserveAddr_congr h n]

theorem State.bankAddr_congr {t : State} (h : ∀ j, t.rd j = s.rd j) (b o : Nat) : t.bankAddr b o = s.bankAddr b o := by
  funext i
  have off : t.bankOff b (o + i) = s.bankOff b (o + i) := by
    unfold State.bankOff State.bankBytes State.reserveBytes State.pN State.rdN
    simp only [h]
  unfold State.bankAddr
  rw [off, State.reserveAddr_congr h]

/-- A byte stored at its address, where it has one. -/
def State.storeTo (s : State) (v : Byte) : Option Nat → State
  | some a => s.writeBytes a [v]
  | none => s

theorem State.rd_withMem (s : State) (m : Mem) (j : Nat) : ({ s with mem := m } : State).rd j = s.rd j := rfl

theorem State.storeTo_rd (s : State) (v : Byte) (a : Option Nat) (j : Nat) : (s.storeTo v a).rd j = s.rd j := by
  cases a with
  | none => rfl
  | some a => exact s.rd_withMem ..

theorem State.storeTo_eq (s : State) (addr : Nat → Option Nat) (x : Byte × Nat) :
    s.storeTo x.1 (addr x.2) = { s with mem := s.mem.storeAt addr [x] } := by
  unfold Mem.storeAt
  rw [List.foldl_cons, List.foldl_nil]
  cases addr x.2 <;> rfl

theorem Mem.storeAt_cons (addr : Nat → Option Nat) (x : Byte × Nat) (l : List (Byte × Nat)) (m : Mem) :
    m.storeAt addr (x :: l) = (m.storeAt addr [x]).storeAt addr l := rfl

theorem State.foldl_storeTo (addr : State → Nat → Option Nat) (l : List (Byte × Nat)) :
    ∀ s : State, (∀ (s : State) (x : Byte × Nat), addr (s.storeTo x.1 (addr s x.2)) = addr s) →
      l.foldl (fun s (x : Byte × Nat) => s.storeTo x.1 (addr s x.2)) s = { s with mem := s.mem.storeAt (addr s) l } := by
  induction l with
  | nil => exact fun _ _ => rfl
  | cons x l ih =>
    intro s keeps
    rw [List.foldl_cons, ih _ keeps, keeps, Mem.storeAt_cons, State.storeTo_eq]

theorem State.bankWrite_storeTo (s : State) (b t : Nat) (bs : List Byte) :
    s.bankWrite b t bs = bs.zipIdx.foldl (fun s (x : Byte × Nat) => s.storeTo x.1 (s.bankAddr b t x.2)) s := by
  unfold State.bankWrite
  refine congrArg (fun f => bs.zipIdx.foldl f s) (funext fun u => funext fun x => ?_)
  have here : u.bankAddr b t x.2 = u.reserveAddr 0 16 (u.bankOff b (t + x.2)) := rfl
  rw [here]
  generalize u.reserveAddr 0 16 (u.bankOff b (t + x.2)) = a
  cases a <;> rfl

theorem State.bankWrite_eq (s : State) (b t : Nat) (bs : List Byte) :
    s.bankWrite b t bs = { s with mem := s.mem.storeAt (s.bankAddr b t) bs.zipIdx } :=
  (s.bankWrite_storeTo b t bs).trans (State.foldl_storeTo (fun s => s.bankAddr b t) bs.zipIdx s fun s x =>
    State.bankAddr_congr (fun j => s.storeTo_rd x.1 _ j) b t)

theorem mem_bankWrite (small : ∀ p < 16, s.pN p 0x93 ≤ 27) (b t : Nat) (bs : List Byte) {i a : Nat} {x : Byte} (at_ : bs[i]? = some x)
    (here : s.bankAddr b t i = some a) : (s.bankWrite b t bs).mem.read a = x := by
  rw [State.bankWrite_eq]
  refine Mem.read_storeAt (fun j k a hj hk => ?_) bs.zipIdx s.mem ?_ (x, i) (List.mem_zipIdx_iff_getElem?.2 at_) here
  · have same := State.reserveAddr_inj small 16 0 _ _ a (by omega) hj hk
    unfold State.bankOff at same
    omega
  · rw [List.zipIdx_map_snd]
    exact List.nodup_range'

theorem mem_bankWrite_out (b t : Nat) (bs : List Byte) {a : Nat} (out : ∀ i < bs.length, s.bankAddr b t i ≠ some a) :
    (s.bankWrite b t bs).mem.read a = s.mem.read a := by
  rw [State.bankWrite_eq]
  refine Mem.read_storeAt_out _ a _ _ fun x hx => out x.2 ?_
  have at_ := List.mem_zipIdx_iff_getElem?.1 (show (x.1, x.2) ∈ bs.zipIdx from hx)
  exact (List.getElem?_eq_some_iff.1 at_).1

/-! ## Packets at the partner -/

theorem State.sendPair_frame (s : State) (f : TangoSt → TangoSt) (tag : Tag) (kind bank count bytes : Nat) :
    ((s.modTango f).sendPair tag kind bank count bytes).cores = s.cores ∧
    ((s.modTango f).sendPair tag kind bank count bytes).versions = s.versions ∧
    ((s.modTango f).sendPair tag kind bank count bytes).mem = s.mem := by
  have sent := State.sendPair_unreported (s.modTango f) tag kind bank count bytes
  exact ⟨(State.cores_of_unreported sent :), (State.versions_of_unreported sent :), (State.mem_of_unreported sent :)⟩

theorem sendAcks_frame (b n : Nat) (s : State) :
    (sendAcks n b s).cores = s.cores ∧ (sendAcks n b s).versions = s.versions ∧ (sendAcks n b s).mem = s.mem := by
  induction n generalizing s with
  | zero => exact ⟨rfl, rfl, rfl⟩
  | succ n ih =>
    rw [sendAcks]
    dsimp only
    split
    · obtain ⟨cores, versions, mem⟩ := ih ((s.modTango fun t => t.setBank b
        { s.tango.bank b with chunks := (s.tango.bank b).chunks + 1 }).sendPair (s.tango.bank b).tag 3 b (s.tango.bank b).chunks 0)
      obtain ⟨cores', versions', mem'⟩ := s.sendPair_frame (fun t => t.setBank b
        { s.tango.bank b with chunks := (s.tango.bank b).chunks + 1 }) (s.tango.bank b).tag 3 b (s.tango.bank b).chunks 0
      exact ⟨cores.trans cores', versions.trans versions', mem.trans mem'⟩
    · exact ⟨rfl, rfl, rfl⟩

theorem tangoDataEff_current {pkt : Packet} (current : s.epochOf pkt.src = none ∨ s.epochOf pkt.src = some pkt.srcEpoch) :
    tangoDataEff pkt s = s.takeTangoData pkt := by
  unfold tangoDataEff State.tangoIn
  rw [State.ingress_current current]
  rfl

theorem tangoDataEff_stale {pkt : Packet} {e : Epoch} (known : s.epochOf pkt.src = some e) (newer : epochNewer e pkt.srcEpoch = true) :
    tangoDataEff pkt s = s.count (fabKey 0x0C) 1 := by
  unfold tangoDataEff State.tangoIn
  rw [State.ingress_stale known newer]
  rfl

section
variable {pkt : Packet}

theorem State.takeTangoData_foreign (h : s.fromPair pkt = false ∨ s.tango.frozen = true) :
    s.takeTangoData pkt = s.count (tKey 0x15) 1 := by
  unfold State.takeTangoData
  dsimp only
  split
  · rw [if_neg]
    rcases h with h | h <;> simp [h]
  · rfl

theorem tangoBeginEff_foreign (h : s.fromPair pkt = false ∨ s.tango.frozen = true) : tangoBeginEff pkt s = s := by
  unfold tangoBeginEff
  exact if_pos (h.elim Or.inl fun frozen => Or.inr (Or.inl frozen))

theorem tangoCompleteEff_foreign (h : s.fromPair pkt = false ∨ s.tango.frozen = true) : tangoCompleteEff pkt s = s := by
  unfold tangoCompleteEff
  refine if_neg fun ⟨pair, thawed, _⟩ => ?_
  rcases h with h | h
  · rw [h] at pair
    cases pair
  · rw [h] at thawed
    cases thawed

variable (pair : s.fromPair pkt = true) (thawed : s.tango.frozen = false) (live : s.superseded = false)
include pair thawed live

theorem tangoBeginEff_fills {b : Nat} (named : ctlField pkt 1 1 = b) (held : b < s.rdN (tKey 5)) :
    tangoBeginEff pkt s = s.modTango fun t =>
      { (if (t.bank (1 - b)).st = .filling then t.setBank (1 - b) .empty else t).setBank b
          ⟨.filling, pkt.step, ctlField pkt 8 8, 0, pkt.src, pkt.srcEpoch⟩ with rxBank := some b, rxBytes := [] } := by
  unfold tangoBeginEff
  dsimp only
  rw [named, if_neg]
  simp only [pair, thawed, live, Bool.true_eq_false, Bool.false_eq_true, false_or]
  omega

theorem tangoCompleteEff_completes {b : Nat} (named : ctlField pkt 1 1 = b) (filling : (s.tango.bank b).st = .filling)
    (tag : (s.tango.bank b).tag = pkt.step) :
    tangoCompleteEff pkt s = s.modTango fun t =>
      { t.setBank b { s.tango.bank b with st := .complete } with rxBank := none, rxBytes := [] } := by
  unfold tangoCompleteEff
  dsimp only
  rw [named, if_pos ⟨pair, thawed, live, filling, tag⟩]

theorem State.takeTangoData_stored {b : Nat} (receives : s.tango.rxBank = some b) (filling : (s.tango.bank b).st = .filling)
    (fits : pkt.target + pkt.payload.length ≤ s.bankBytes) (runs : s.bankHalted b pkt.target pkt.payload.length = false) :
    ∃ n f, s.takeTangoData pkt = sendAcks n b ((s.bankWrite b pkt.target pkt.payload).modTango f) := by
  unfold State.takeTangoData
  dsimp only
  rw [receives]
  dsimp only
  rw [if_pos (by simp [pair, thawed, live, filling, fits, runs])]
  exact ⟨_, _, rfl⟩

end

theorem TangoSt.bank_setBank (x : TangoSt) {b : Nat} (v : TBank) : (x.setBank b v).bank b = v := by
  unfold TangoSt.setBank TangoSt.bank
  split <;> rfl

theorem TangoSt.bank_setBank_other (x : TangoSt) {b : Nat} (h : b < 2) (v : TBank) : (x.setBank b v).bank (1 - b) = x.bank (1 - b) := by
  unfold TangoSt.setBank TangoSt.bank
  rcases (by omega : b = 0 ∨ b = 1) with rfl | rfl <;> rfl

/-- Settles O41: packets of another sender are counted, those of the pair fill their bank, whose bytes have addresses of their own. -/
theorem banksAreFilled : Obligations.BanksAreFilled := by
  unfold Obligations.BanksAreFilled
  refine ⟨?_, ?_⟩
  · intro pkt s e known newer
    exact ⟨_, congrArg s.outcome (tangoDataEff_stale known newer), (State.tango_of_unreported (s.count_unreported _ 1) :), (State.rd_count ..).trans (if_pos rfl),
      (sameWork_of_unreported_eq (s.count_unreported _ 1) :)⟩
  · intro pkt s current
    refine ⟨fun foreign => ⟨?_, ?_, ?_⟩, fun pair thawed live => ⟨?_, ?_, ?_⟩⟩
    · exact congrArg s.outcome (tangoBeginEff_foreign foreign)
    · exact congrArg s.outcome (tangoCompleteEff_foreign foreign)
    · exact ⟨_, congrArg s.outcome ((tangoDataEff_current current).trans (State.takeTangoData_foreign foreign)), (State.tango_of_unreported (s.count_unreported _ 1) :),
        (State.rd_count ..).trans (if_pos rfl), (sameWork_of_unreported_eq (s.count_unreported _ 1) :)⟩
    · intro b small named held
      refine ⟨_, congrArg s.outcome (tangoBeginEff_fills pair thawed live named held), ?_, rfl, ?_, rfl, sameWork_refl s⟩
      · exact TangoSt.bank_setBank ..
      · refine (TangoSt.bank_setBank_other _ small _).trans ?_
        split
        · exact TangoSt.bank_setBank ..
        · rfl
    · intro b small named filling tag
      exact ⟨_, congrArg s.outcome (tangoCompleteEff_completes pair thawed live named filling tag), TangoSt.bank_setBank ..,
        TangoSt.bank_setBank_other _ small _, rfl, rfl, sameWork_refl s⟩
    · intro b _ receives filling fits runs small
      obtain ⟨n, f, stored⟩ := State.takeTangoData_stored pair thawed live receives filling fits runs
      obtain ⟨cores, versions, mem⟩ := sendAcks_frame b n ((s.bankWrite b pkt.target pkt.payload).modTango f)
      have written : ((s.bankWrite b pkt.target pkt.payload).modTango f).cores = s.cores ∧
          ((s.bankWrite b pkt.target pkt.payload).modTango f).versions = s.versions := by
        rw [State.bankWrite_eq]
        exact ⟨rfl, rfl⟩
      refine ⟨_, congrArg s.outcome ((tangoDataEff_current current).trans stored), cores.trans written.1, versions.trans written.2, ?_, ?_⟩
      · intro i x a at_ here
        exact (congrArg (Mem.read · a) mem).trans (mem_bankWrite small b pkt.target pkt.payload at_ here)
      · intro a out
        exact (congrArg (Mem.read · a) mem).trans (mem_bankWrite_out b pkt.target pkt.payload out)

end Sys2Proof.Machine

end

section
/-! PROOFS. Release tags, rollback and restores (R310, R313, R319), obligation O42. -/

namespace Sys2Proof.Machine

variable {s : State}

/-! ## What a data error of memory leaves (R147, R148) -/

theorem State.eccCount_rd (s : State) (src : EccSource) (part addr : Nat) (ue : Bool) {j : Nat} (below : j / 256 < 0x2800) :
    (s.eccCount src part addr ue).rd j = s.rd j := by
  have inPart (u : State) (p a : Nat) : (u.pCount p a 1).rd j = u.rd j := by
    refine u.rd_count_ne 1 ?_
    simp only [pKey, partIndex, objKey]
    omega
  have onObject (u : State) (i a : Nat) (h : 0x2800 ≤ i) : (u.count (objKey i a) 1).rd j = u.rd j := by
    refine u.rd_count_ne 1 ?_
    simp only [objKey]
    omega
  unfold State.eccCount
  cases src with
  | spadRead => exact inPart ..
  | spadPatrol => exact inPart ..
  | walnutRead => exact inPart ..
  | hbmRead => exact (onObject _ _ _ (Nat.le_trans (by decide) (Nat.le_add_right ..))).trans (inPart ..)
  | hbmPatrol => exact (onObject _ _ _ (Nat.le_trans (by decide) (Nat.le_add_right ..))).trans (inPart ..)
  | datapath => exact onObject _ _ _ (Nat.le_refl _)

theorem State.eccLogAdd_rd (s : State) (e : EccEntry) {j : Nat} (below : j / 256 < 0x2800) : (s.eccLogAdd e).rd j = s.rd j := by
  have other (a : Nat) : j ≠ objKey 0x2800 a := by
    simp only [objKey]
    omega
  have logged (l : List EccEntry) : (({ s with eccLog := l } : State).count32 (objKey 0x2800 0x0D) 1).rd j = s.rd j :=
    State.rd_count32_ne { s with eccLog := l } 1 (other _)
  unfold State.eccLogAdd
  dsimp only
  split
  · exact logged _
  · split
    · exact logged _
    · split
      · exact s.rd_count32Sat_ne 1 (other _)
      · exact logged _

theorem State.eccNote_rd (s : State) (src : EccSource) (part unit addr : Nat) (o : ShellOutcome) {j : Nat} (below : j / 256 < 0x2800) :
    (s.eccNote src part unit addr o).rd j = s.rd j := by
  have noted (src : EccSource) (a : Nat) (ue : Bool) (e : EccEntry) : ((s.eccCount src part a ue).eccLogAdd e).rd j = s.rd j :=
    (State.eccLogAdd_rd _ e below).trans (s.eccCount_rd src part a ue below)
  unfold State.eccNote
  cases o with
  | clean => rfl
  | corrected sym g rewritten => exact noted ..
  | uncorrectable g => exact noted ..
  | pathCorrected sym g => exact noted ..
  | pathUncorrectable g => exact noted ..

theorem State.eccNote_tango (s : State) (src : EccSource) (part unit addr : Nat) (o : ShellOutcome) :
    (s.eccNote src part unit addr o).tango = s.tango := by
  have noted (src : EccSource) (a : Nat) (ue : Bool) (e : EccEntry) : ((s.eccCount src part a ue).eccLogAdd e).tango = s.tango := by
    refine Eq.trans ?_ (State.tango_of_unreported (s.eccCount_unreported src part a ue))
    generalize s.eccCount src part a ue = t
    have logged (l : List EccEntry) : (({ t with eccLog := l } : State).count32 (objKey 0x2800 0x0D) 1).tango = t.tango :=
      (State.tango_of_unreported (State.count32_unreported { t with eccLog := l } (objKey 0x2800 0x0D) 1) :)
    unfold State.eccLogAdd
    dsimp only
    split
    · exact logged _
    · split
      · exact logged _
      · split
        · exact State.tango_of_unreported (State.count32Sat_unreported ..)
        · exact logged _
  unfold State.eccNote
  cases o with
  | clean => rfl
  | corrected sym g rewritten => exact noted ..
  | uncorrectable g => exact noted ..
  | pathCorrected sym g => exact noted ..
  | pathUncorrectable g => exact noted ..

/-- The work, the Tango engine and the registers below the memory objects are as they were. -/
structure Faulted (s t : State) : Prop where
  work : sameWork s t
  tango : t.tango = s.tango
  word : ∀ j, j / 256 < 0x2800 → t.rd j = s.rd j

theorem Faulted.refl (s : State) : Faulted s s := ⟨sameWork_refl s, rfl, fun _ _ => rfl⟩

theorem Faulted.trans {s t u : State} (h : Faulted s t) (h' : Faulted t u) : Faulted s u :=
  ⟨sameWork_trans h.work h'.work, h'.tango.trans h.tango, fun j below => (h'.word j below).trans (h.word j below)⟩

theorem Faulted.eccNote (s : State) (src : EccSource) (part unit addr : Nat) (o : ShellOutcome) :
    Faulted s (s.eccNote src part unit addr o) :=
  ⟨State.eccNote_sameWork .., State.eccNote_tango .., fun _ below => s.eccNote_rd _ _ _ _ _ below⟩

theorem Faulted.memNote (s : State) (a : Nat) (o : ShellOutcome) : Faulted s (s.memNote a o) := by
  unfold State.memNote
  split
  · exact Faulted.eccNote ..
  · exact Faulted.eccNote ..
  · exact Faulted.eccNote ..
  · exact Faulted.refl s

theorem Faulted.partFault (s : State) (p : Nat) : Faulted s (s.partFault p) :=
  ⟨sameWork_of_unreported_eq (State.partFault_unreported ..), State.tango_of_unreported (State.partFault_unreported ..),
    fun j _ => s.event_rd p 7 j⟩

theorem Faulted.memMeets (s : State) (a : Nat) (o : ShellOutcome) : Faulted s (s.memMeets a o) := by
  unfold State.memMeets
  dsimp only
  split
  · exact (Faulted.memNote ..).trans (Faulted.partFault ..)
  · exact Faulted.memNote ..

theorem tKey_below {sub : Nat} (h : sub < 256) : tKey sub / 256 < 0x2800 := by
  rw [tKey, objKey_div _ h]
  decide

theorem tKey_beside {sub : Nat} (h : sub < 256) : linkIndex (tKey sub / 256) = false := by
  rw [tKey, objKey_div _ h]
  decide

theorem tKey_ne {a b : Nat} (h : a ≠ b) : tKey a ≠ tKey b := fun e => h (Nat.add_left_cancel e)

/-! ## Restores (R319) -/

theorem State.endRestore_facts (s : State) (code : Nat) (small : code < 10) (running : s.tango.restore ≠ none) :
    (s.endRestore code).tango = { s.tango with restore := none } ∧ (s.endRestore code).rdN (tKey 0x1C) = (if code = 0 then 2 else 3) ∧
      (s.endRestore code).rdN (tKey 0x1D) = code * 2 ^ 24 ∧ sameWork s (s.endRestore code) ∧
      (∀ j, j ≠ tKey 0x1C → j ≠ tKey 0x1D → (s.endRestore code).rd j = s.rd j) := by
  have some_ : s.tango.restore.isNone = false := by
    cases h : s.tango.restore with
    | none => exact absurd h running
    | some r => rfl
  unfold State.endRestore
  rw [if_neg (by simp [some_])]
  generalize hu : (s.modTango fun t => { t with restore := none }) = u
  have tango : u.tango = { s.tango with restore := none } := by rw [← hu]; rfl
  have work : sameWork s u := by rw [← hu]; exact sameWork_refl s
  have word (j : Nat) : u.rd j = s.rd j := by rw [← hu]; rfl
  refine ⟨tango, ?_, ?_, ?_, fun j one two => ?_⟩
  · rw [State.rdN_wrN_ne _ _ (tKey_ne (by decide)), State.rdN_wrN]
    split <;> decide
  · rw [State.rdN_wrN]
    omega
  · exact sameWork_trans work (sameWork_trans (State.wrN_sameWork ..) (State.wrN_sameWork ..))
  · rw [State.rd_wrN_ne _ _ two, State.rd_wrN_ne _ _ one, word]

/-- The restore that the registers name. -/
def State.restorePlan (s : State) : TRestore :=
  ⟨BitVec.ofNat 24 (field (s.rd (tKey 0x18)) 23 0), s.restorePieces (s.rdN (tKey 0x1A)), 0, [], false⟩

/-- The restore taken up. -/
def State.restoreTaken (s : State) : State := s.modTango fun t => { t with restore := some s.restorePlan }

/-- The restore just begun, its state and counts shown. -/
def State.restoring (s : State) : State := ((s.restoreTaken.wrN (tKey 0x1C) 1).wrN (tKey 0x1D) 0).wrN (tKey 0x1E) 0

theorem State.restoring_facts (s : State) :
    s.restoring.tango = { s.tango with restore := some s.restorePlan } ∧
    s.restoring.rdN (tKey 0x1C) = 1 ∧ s.restoring.rdN (tKey 0x1D) = 0 ∧ s.restoring.rdN (tKey 0x1E) = 0 ∧ sameWork s s.restoring := by
  have tango : s.restoreTaken.tango = { s.tango with restore := some s.restorePlan } := rfl
  have work : sameWork s s.restoreTaken := sameWork_refl s
  unfold State.restoring
  generalize s.restoreTaken = u at tango work
  refine ⟨tango, ?_, ?_, ?_, ?_⟩
  · rw [State.rdN_wrN_ne _ _ (tKey_ne (by decide)), State.rdN_wrN_ne _ _ (tKey_ne (by decide)), State.rdN_wrN _ (by decide)]
  · rw [State.rdN_wrN_ne _ _ (tKey_ne (by decide)), State.rdN_wrN _ (by decide)]
  · rw [State.rdN_wrN _ (by decide)]
  · exact sameWork_trans work (sameWork_trans (State.wrN_sameWork ..) (sameWork_trans (State.wrN_sameWork ..) (State.wrN_sameWork ..)))

/-- Where a restore reads first. -/
def State.restoreHead (s : State) : Nat :=
  (s.restoreTaken.reserveAddr 0 16 (s.restoreTaken.bankOff (s.rdN (tKey 0x1A)) 0)).getD 0

section
variable {via : Via} {o : ShellOutcome}

theorem tangoRestoreEff_starts (reached : s.reaches via 0x2700 4 = true) (frozen : s.tango.frozen = true)
    (whole : (s.tango.bank (s.rdN (tKey 0x1A))).st = .complete) (idle : s.tango.restore = none) :
    tangoRestoreEff via o s =
      if o.bad then (s.restoring.memMeets s.restoreHead o).endRestore 4 else s.restoring.memMeets s.restoreHead o := by
  have act : tangoRestoreW s o =
      .ok (if o.bad then (s.restoring.memMeets s.restoreHead o).endRestore 4 else s.restoring.memMeets s.restoreHead o) := by
    unfold tangoRestoreW
    dsimp only
    refine (if_neg ?_).trans rfl
    rintro (no | no | no)
    · rw [frozen] at no
      cases no
    · exact no whole
    · rw [idle] at no
      cases no
  rw [tangoRestoreEff, act]
  exact State.objWrite_ok s reached _

theorem tangoRestoreEff_refused (no : s.tango.frozen = false ∨ s.tango.restore ≠ none) :
    ∃ h, tangoRestoreEff via o s = { s with host := h } := by
  have refused : tangoRestoreW s o = .error .state := by
    unfold tangoRestoreW
    dsimp only
    rw [if_pos]
    rcases no with thawed | running
    · exact Or.inl thawed
    · exact Or.inr (Or.inr (Option.isSome_iff_ne_none.2 running))
  rw [tangoRestoreEff, refused]
  exact s.objWrite_error_frame ..

theorem tangoRestore_facts (reached : s.reaches via 0x2700 4 = true) (frozen : s.tango.frozen = true)
    (whole : (s.tango.bank (s.rdN (tKey 0x1A))).st = .complete) (idle : s.tango.restore = none) :
    (o.bad = true → (tangoRestoreEff via o s).tango = s.tango ∧ (tangoRestoreEff via o s).rdN (tKey 0x1C) = 3 ∧
      (tangoRestoreEff via o s).rdN (tKey 0x1D) = 4 * 2 ^ 24 ∧ sameWork s (tangoRestoreEff via o s)) ∧
    (o.bad = false → ({ (tangoRestoreEff via o s).tango with restore := none } : TangoSt) = s.tango ∧
      (tangoRestoreEff via o s).tango.restore = some s.restorePlan ∧
      (tangoRestoreEff via o s).rdN (tKey 0x1C) = 1 ∧ (tangoRestoreEff via o s).rdN (tKey 0x1D) = 0 ∧
      (tangoRestoreEff via o s).rdN (tKey 0x1E) = 0 ∧ sameWork s (tangoRestoreEff via o s)) := by
  have eff := tangoRestoreEff_starts (o := o) reached frozen whole idle
  obtain ⟨tango, state, code, bytes, work⟩ := s.restoring_facts
  have met := Faulted.memMeets s.restoring s.restoreHead o
  have word (sub : Nat) (h : sub < 256) : (s.restoring.memMeets s.restoreHead o).rdN (tKey sub) = s.restoring.rdN (tKey sub) :=
    congrArg BitVec.toNat (met.word _ (tKey_below h))
  have ended : ({ s.tango with restore := none } : TangoSt) = s.tango := by rw [← idle]
  rw [eff]
  refine ⟨fun bad => ?_, fun good => ?_⟩
  · rw [if_pos bad]
    have running : (s.restoring.memMeets s.restoreHead o).tango.restore ≠ none := by
      rw [met.tango, tango]
      exact Option.some_ne_none _
    obtain ⟨last, three, four, same, _⟩ := State.endRestore_facts _ 4 (by decide) running
    refine ⟨?_, three, four, sameWork_trans work (sameWork_trans met.work same)⟩
    rw [last, met.tango, tango]
    exact ended
  · rw [if_neg (by simp [good]), word _ (by decide), word _ (by decide), word _ (by decide), met.tango, tango]
    exact ⟨ended, rfl, state, code, bytes, sameWork_trans work met.work⟩

theorem tangoRestoreAbortEff_ends (reached : s.reaches via 0x2700 4 = true) : tangoRestoreAbortEff via s = s.endRestore 8 :=
  State.objWrite_ok s reached _

end

theorem tangoRestoreDoneEff_code {r : TRestore} (running : s.tango.restore = some r) {code : Fin 10} (h : code ≠ 0) :
    tangoRestoreDoneEff code s = s.endRestore code.val := by
  unfold tangoRestoreDoneEff
  rw [running]
  exact if_pos (Fin.val_ne_of_ne h)

theorem tangoRestoreDoneEff_zero {r : TRestore} (running : s.tango.restore = some r) :
    tangoRestoreDoneEff 0 s = if r.todo = [] ∧ r.outstanding = [] then s.endRestore (if r.refused then 6 else 0) else s := by
  unfold tangoRestoreDoneEff
  rw [running]
  exact if_neg (not_not.2 rfl)

/-! ## The release tag (R310) -/

theorem field_low (v : Word) : field (v &&& 0x1FFFF#64) 15 0 = field v 15 0 := by
  unfold field
  rw [BitVec.toNat_and]
  have low : (0x1FFFF#64).toNat = 2 ^ 17 - 1 := by decide
  rw [low, Nat.and_two_pow_sub_one_eq_mod]
  omega

theorem bit_low (v : Word) : bit (v &&& 0x1FFFF#64) 16 = bit v 16 := by
  unfold bit
  rw [BitVec.getLsbD_and]
  simp

theorem State.releaseTag_wr (s : State) (v : Word) :
    (s.wr (tKey 0x0C) (v &&& 0x1FFFF#64)).releaseTag = if bit v 16 then some (BitVec.ofNat 16 (field v 15 0)) else none := by
  have word : (s.wr (tKey 0x0C) (v &&& 0x1FFFF#64)).rd (objKey 0x2700 0x0C) = v &&& 0x1FFFF#64 := (State.rd_wr ..).trans (if_pos rfl)
  unfold State.releaseTag
  dsimp only
  rw [word, bit_low, field_low]

theorem bindRelease_obj (t : Tag) (l : List (Nat × Nat)) (s : State) : (bindRelease t l s).obj = s.obj := by
  induction l generalizing s with
  | nil => rfl
  | cons x l ih =>
    rw [bindRelease]
    refine (ih _).trans ?_
    dsimp only
    split
    · split <;> rfl
    · rfl

/-- Different listed regions have entries of their own in the version table. -/
theorem regionKey_inj {x y : Nat × Nat} (hx : x.2 < 256) (hy : y.2 < 256) (h : 256 * x.1 + x.2 = 256 * y.1 + y.2) : x = y :=
  Prod.ext (by omega) (by omega)

/-- One region bound for the released tag. -/
def State.bindOne (s : State) (t : Tag) (p r : Nat) : State :=
  match (s.region p r).stepSlot t with
  | some i =>
    if ((s.region p r).slot i).bind < 255 ∧ s.tango.relBinds.contains (p, r, i) = false then
      (s.bindSlot p r i).modTango fun x => { x with relBinds := x.relBinds ++ [(p, r, i)] }
    else s
  | none => s

theorem bindRelease_cons (t : Tag) (x : Nat × Nat) (l : List (Nat × Nat)) (s : State) :
    bindRelease t (x :: l) s = bindRelease t l (s.bindOne t x.1 x.2) := rfl

theorem State.region_modTango (s : State) (f : TangoSt → TangoSt) (p r : Nat) : (s.modTango f).region p r = s.region p r := rfl

theorem State.bindOne_other (s : State) (t : Tag) (p r p' r' : Nat) (h : 256 * p' + r' ≠ 256 * p + r) :
    (s.bindOne t p r).region p' r' = s.region p' r' := by
  unfold State.bindOne
  split
  · split
    · rw [State.region_modTango]
      exact (State.region_modSlot_key ..).trans (if_neg h)
    · rfl
  · rfl

theorem State.bindOne_binds (s : State) (t : Tag) (p r : Nat) (x : Nat × Nat × Nat) (h : x.1 ≠ p ∨ x.2.1 ≠ r) :
    x ∈ (s.bindOne t p r).tango.relBinds ↔ x ∈ s.tango.relBinds := by
  unfold State.bindOne
  split
  · split
    · refine List.mem_append.trans (or_iff_left fun here => ?_)
      rw [List.mem_singleton.1 here] at h
      exact h.elim (absurd rfl) (absurd rfl)
    · rfl
  · rfl

theorem State.bindOne_own {s : State} {t : Tag} {p r i : Nat} (slot : (s.region p r).stepSlot t = some i)
    (room : ((s.region p r).slot i).bind < 255) (fresh : (p, r, i) ∉ s.tango.relBinds) :
    (((s.bindOne t p r).region p r).slot i).bind = ((s.region p r).slot i).bind + 1 ∧ (p, r, i) ∈ (s.bindOne t p r).tango.relBinds := by
  unfold State.bindOne
  rw [slot]
  dsimp only
  rw [if_pos ⟨room, by simpa using fresh⟩]
  refine ⟨?_, List.mem_append_right _ (List.mem_singleton.2 rfl)⟩
  have region : (((s.bindSlot p r i).modTango fun x => { x with relBinds := x.relBinds ++ [(p, r, i)] }).region p r) =
      (s.region p r).setSlot i { (s.region p r).slot i with bind := ((s.region p r).slot i).bind + 1 } :=
    (State.region_modSlot s p r i (fun v => { v with bind := v.bind + 1 }) r).trans (if_pos rfl)
  rw [region, VEntry.slot_setSlot_self]

theorem bindRelease_out (t : Tag) (l : List (Nat × Nat)) (s : State) {p r : Nat} (h : ∀ x ∈ l, 256 * p + r ≠ 256 * x.1 + x.2) (i : Nat) :
    (bindRelease t l s).region p r = s.region p r ∧
      ((p, r, i) ∈ (bindRelease t l s).tango.relBinds ↔ (p, r, i) ∈ s.tango.relBinds) := by
  induction l generalizing s with
  | nil => exact ⟨rfl, Iff.rfl⟩
  | cons x l ih =>
    rw [bindRelease_cons]
    have first := h x List.mem_cons_self
    obtain ⟨region, binds⟩ := ih (s.bindOne t x.1 x.2) fun y hy => h y (List.mem_cons_of_mem _ hy)
    refine ⟨region.trans (State.bindOne_other _ _ _ _ _ _ first), binds.trans (State.bindOne_binds _ _ _ _ _ ?_)⟩
    by_contra same
    simp only [ne_eq, not_or, not_not] at same
    exact first (by rw [same.1, same.2])

theorem bindRelease_own (t : Tag) (l : List (Nat × Nat)) (s : State) (distinct : l.Nodup) (small : ∀ x ∈ l, x.2 < 256)
    (fresh : ∀ x ∈ l, ∀ i, (x.1, x.2, i) ∉ s.tango.relBinds) {x : Nat × Nat} (listed : x ∈ l) {i : Nat}
    (slot : (s.region x.1 x.2).stepSlot t = some i) (room : ((s.region x.1 x.2).slot i).bind < 255) :
    (((bindRelease t l s).region x.1 x.2).slot i).bind = ((s.region x.1 x.2).slot i).bind + 1 ∧
      (x.1, x.2, i) ∈ (bindRelease t l s).tango.relBinds := by
  induction l generalizing s with
  | nil => cases listed
  | cons y l ih =>
    obtain ⟨new, distinct⟩ := List.nodup_cons.1 distinct
    have apart (z : Nat × Nat) (hz : z ∈ l) : 256 * z.1 + z.2 ≠ 256 * y.1 + y.2 := fun same =>
      new (regionKey_inj (small z (List.mem_cons_of_mem _ hz)) (small y List.mem_cons_self) same ▸ hz)
    rw [bindRelease_cons]
    rcases List.mem_cons.1 listed with rfl | later
    · obtain ⟨bind, noted⟩ := State.bindOne_own slot room (fresh x List.mem_cons_self i)
      obtain ⟨region, binds⟩ := bindRelease_out t l (s.bindOne t x.1 x.2) (p := x.1) (r := x.2)
        (fun z hz same => apart z hz same.symm) i
      exact ⟨by rw [region, bind], binds.2 noted⟩
    · have region := s.bindOne_other t y.1 y.2 x.1 x.2 (apart x later)
      rw [← region] at slot room ⊢
      refine ih _ distinct (fun z hz => small z (List.mem_cons_of_mem _ hz)) (fun z hz j => ?_) later slot room
      rw [State.bindOne_binds _ _ _ _ _ (by
        by_contra same
        simp only [ne_eq, not_or, not_not] at same
        exact apart z hz (by rw [same.1, same.2]))]
      exact fresh z (List.mem_cons_of_mem _ hz) j

section
variable {via : Via} {v : Word}

theorem State.dropRelease_none (none : s.tango.relBinds = []) : s.dropRelease = s.modTango fun t => { t with relBinds := [] } := by
  unfold State.dropRelease
  rw [none]
  rfl

theorem tangoReleaseTagWriteEff_drops (reached : s.reaches via 0x2700 0x0C = true) (off : bit v 16 = false) :
    tangoReleaseTagWriteEff via v s = s.dropRelease.wr (tKey 0x0C) (v &&& 0x1FFFF#64) := by
  have act : releaseTagW s v = .ok (s.dropRelease.wr (tKey 0x0C) (v &&& 0x1FFFF#64)) := by
    unfold releaseTagW
    exact if_pos off
  rw [tangoReleaseTagWriteEff, act]
  exact State.objWrite_ok s reached _

theorem tangoReleaseTagWriteEff_early (on : bit v 16 = true) (early : bit (s.rd (tKey 0x0B)) 16 = false) :
    ∃ h, tangoReleaseTagWriteEff via v s = { s with host := h } := by
  have refused : releaseTagW s v = .error .range := by
    unfold releaseTagW
    dsimp only
    rw [if_neg (by simp [on]), if_pos (Or.inl early)]
  rw [tangoReleaseTagWriteEff, refused]
  exact s.objWrite_error_frame ..

theorem tangoReleaseTagWriteEff_binds (reached : s.reaches via 0x2700 0x0C = true) (on : bit v 16 = true)
    (whole : bit (s.rd (tKey 0x0B)) 16 = true)
    (older : epochNewer (BitVec.ofNat 16 (field v 15 0) : Tag) (BitVec.ofNat 16 (field (s.rd (tKey 0x0B)) 15 0)) = false)
    (first : s.releaseTag = none) :
    tangoReleaseTagWriteEff via v s = (s.dropRelease.wr (tKey 0x0C) (v &&& 0x1FFFF#64)).relSync := by
  have act : releaseTagW s v = .ok (s.dropRelease.wr (tKey 0x0C) (v &&& 0x1FFFF#64)).relSync := by
    unfold releaseTagW
    dsimp only
    rw [if_neg (by simp [on]), first, if_neg (by simp [whole, older]), if_neg (Option.some_ne_none _).symm]
  rw [tangoReleaseTagWriteEff, act]
  exact State.objWrite_ok s reached _

/-- The state whose regions are bound: the tag is named and nothing is held. -/
def State.tagNamed (s : State) (v : Word) : State := (s.modTango fun t => { t with relBinds := [] }).wr (tKey 0x0C) (v &&& 0x1FFFF#64)

theorem State.tagNamed_rd (s : State) (v : Word) : (s.tagNamed v).rd (tKey 0x0C) = v &&& 0x1FFFF#64 ∧
    ∀ k, k ≠ tKey 0x0C → (s.tagNamed v).rd k = s.rd k :=
  ⟨(State.rd_wr ..).trans (if_pos rfl), fun _ other => (State.rd_wr ..).trans (if_neg other)⟩

theorem tangoReleaseTag_facts (reached : s.reaches via 0x2700 0x0C = true) (on : bit v 16 = true)
    (whole : bit (s.rd (tKey 0x0B)) 16 = true)
    (older : epochNewer (BitVec.ofNat 16 (field v 15 0) : Tag) (BitVec.ofNat 16 (field (s.rd (tKey 0x0B)) 15 0)) = false)
    (first : s.releaseTag = none) (none : s.tango.relBinds = []) (distinct : s.tango.inForce.Nodup)
    (small : ∀ x ∈ s.tango.inForce, x.2 < 256) :
    (tangoReleaseTagWriteEff via v s).rd (tKey 0x0C) = v &&& 0x1FFFF#64 ∧
    (∀ k, k ≠ tKey 0x0C → (tangoReleaseTagWriteEff via v s).rd k = s.rd k) ∧
    (tangoReleaseTagWriteEff via v s).cores = s.cores ∧ (tangoReleaseTagWriteEff via v s).mem = s.mem ∧
    ∀ x ∈ s.tango.inForce, ∀ i, (s.region x.1 x.2).stepSlot (BitVec.ofNat 16 (field v 15 0)) = some i →
      ((s.region x.1 x.2).slot i).bind < 255 →
        (((tangoReleaseTagWriteEff via v s).region x.1 x.2).slot i).bind = ((s.region x.1 x.2).slot i).bind + 1 ∧
          (x.1, x.2, i) ∈ (tangoReleaseTagWriteEff via v s).tango.relBinds := by
  have tag : (s.tagNamed v).releaseTag = some (BitVec.ofNat 16 (field v 15 0)) := (State.releaseTag_wr ..).trans (if_pos on)
  have eff : tangoReleaseTagWriteEff via v s = bindRelease (BitVec.ofNat 16 (field v 15 0)) s.tango.inForce (s.tagNamed v) := by
    rw [tangoReleaseTagWriteEff_binds reached on whole older first, State.dropRelease_none none]
    unfold State.relSync
    rw [← State.tagNamed, tag]
    rfl
  obtain ⟨named, words⟩ := s.tagNamed_rd v
  have obj := bindRelease_obj (BitVec.ofNat 16 (field v 15 0)) s.tango.inForce (s.tagNamed v)
  have rd (k : Nat) : (tangoReleaseTagWriteEff via v s).rd k = (s.tagNamed v).rd k := by
    rw [eff]
    unfold State.rd
    rw [obj]
  have same := bindRelease_untangled (BitVec.ofNat 16 (field v 15 0)) s.tango.inForce (s.tagNamed v)
  refine ⟨(rd _).trans named, fun k other => (rd k).trans (words k other), ?_, ?_, ?_⟩
  · rw [eff]
    exact State.cores_of_untangled same
  · rw [eff]
    exact State.mem_of_untangled same
  · intro x listed i slot room
    rw [eff]
    exact bindRelease_own _ _ (s.tagNamed v) distinct small (fun _ _ _ => List.not_mem_nil) listed slot room

end

/-! ## Rollback (R313) -/

/-- The entry of a region that returns to a tag. -/
def VEntry.rolledBack (e : VEntry) (t : Tag) : VEntry :=
  match e.stepSlot t with
  | some i =>
    if (e.slot i).state = .committed then e
    else
      (e.setSlot (1 - i) (if (e.slot (1 - i)).bind = 0 then (e.slot (1 - i)).freed else { e.slot (1 - i) with state := .retiring })).setSlot i
        { (e.setSlot (1 - i) (if (e.slot (1 - i)).bind = 0 then (e.slot (1 - i)).freed
          else { e.slot (1 - i) with state := .retiring })).slot i with state := .committed }
  | none => e

theorem VEntry.rolledBack_slot {e : VEntry} {t : Tag} {i : Nat} (slot : e.stepSlot t = some i) :
    ((e.rolledBack t).slot i).state = .committed ∧ ((e.rolledBack t).slot i).tag = (e.slot i).tag := by
  have side := (VEntry.find_spec slot).2
  unfold VEntry.rolledBack
  rw [slot]
  dsimp only
  split
  next committed => exact ⟨committed, rfl⟩
  · rw [VEntry.slot_setSlot_self, VEntry.slot_setSlot, if_neg (by omega)]
    exact ⟨rfl, rfl⟩

theorem State.rollbackRegion_own (s : State) (t : Tag) (p r : Nat) : (s.rollbackRegion t p r).region p r = (s.region p r).rolledBack t := by
  unfold State.rollbackRegion VEntry.rolledBack
  dsimp only
  cases (s.region p r).stepSlot t with
  | none => rfl
  | some i =>
    dsimp only
    split
    · rfl
    · rw [State.region_modSlot_key, if_pos rfl, State.region_modSlot_key, if_pos rfl]

theorem State.rollbackRegion_other (s : State) (t : Tag) (p r p' r' : Nat) (h : 256 * p' + r' ≠ 256 * p + r) :
    (s.rollbackRegion t p r).region p' r' = s.region p' r' := by
  unfold State.rollbackRegion
  dsimp only
  split
  · split
    · rfl
    · rw [State.region_modSlot_key, if_neg h, State.region_modSlot_key, if_neg h]
  · rfl

theorem foldl_rollback_out (t : Tag) (l : List (Nat × Nat)) (s : State) {p r : Nat} (h : ∀ x ∈ l, 256 * p + r ≠ 256 * x.1 + x.2) :
    (l.foldl (fun s x => s.rollbackRegion t x.1 x.2) s).region p r = s.region p r := by
  induction l generalizing s with
  | nil => rfl
  | cons x l ih =>
    exact (ih _ fun y hy => h y (List.mem_cons_of_mem _ hy)).trans (State.rollbackRegion_other _ _ _ _ _ _ (h x List.mem_cons_self))

theorem foldl_rollback_own (t : Tag) (l : List (Nat × Nat)) (s : State) (distinct : l.Nodup) (small : ∀ x ∈ l, x.2 < 256)
    {x : Nat × Nat} (listed : x ∈ l) :
    (l.foldl (fun s x => s.rollbackRegion t x.1 x.2) s).region x.1 x.2 = (s.region x.1 x.2).rolledBack t := by
  induction l generalizing s with
  | nil => cases listed
  | cons y l ih =>
    obtain ⟨new, distinct⟩ := List.nodup_cons.1 distinct
    have apart (z : Nat × Nat) (hz : z ∈ l) : 256 * z.1 + z.2 ≠ 256 * y.1 + y.2 := fun same =>
      new (regionKey_inj (small z (List.mem_cons_of_mem _ hz)) (small y List.mem_cons_self) same ▸ hz)
    rcases List.mem_cons.1 listed with rfl | later
    · exact (foldl_rollback_out t l _ fun z hz same => apart z hz same.symm).trans (State.rollbackRegion_own ..)
    · exact (ih _ distinct (fun z hz => small z (List.mem_cons_of_mem _ hz)) later).trans
        (congrArg (·.rolledBack t) (State.rollbackRegion_other _ _ _ _ _ _ (apart x later)))

/-- What a rollback of regions leaves: the micro-batches, the loaders and the Tango engine. -/
theorem State.rollbackRegion_frame (s : State) (t : Tag) (p r : Nat) :
    (s.rollbackRegion t p r).mbs = s.mbs ∧ (s.rollbackRegion t p r).loaders = s.loaders ∧ (s.rollbackRegion t p r).tango = s.tango := by
  unfold State.rollbackRegion
  dsimp only
  split
  · split <;> exact ⟨rfl, rfl, rfl⟩
  · exact ⟨rfl, rfl, rfl⟩

theorem foldl_rollback_frame (t : Tag) (l : List (Nat × Nat)) (s : State) :
    (l.foldl (fun s x => s.rollbackRegion t x.1 x.2) s).mbs = s.mbs ∧
    (l.foldl (fun s x => s.rollbackRegion t x.1 x.2) s).loaders = s.loaders ∧
    (l.foldl (fun s x => s.rollbackRegion t x.1 x.2) s).tango = s.tango :=
  ⟨foldl_keeps State.mbs (f := fun s (x : Nat × Nat) => s.rollbackRegion t x.1 x.2) (fun s x => (s.rollbackRegion_frame t x.1 x.2).1) l s,
    foldl_keeps State.loaders (f := fun s (x : Nat × Nat) => s.rollbackRegion t x.1 x.2) (fun s x => (s.rollbackRegion_frame t x.1 x.2).2.1) l s,
    foldl_keeps State.tango (f := fun s (x : Nat × Nat) => s.rollbackRegion t x.1 x.2) (fun s x => (s.rollbackRegion_frame t x.1 x.2).2.2) l s⟩

theorem State.pollLoader_busy {p : Nat} (h : (s.loader p).st ≠ .waitSlot) : s.pollLoader p = s := if_pos h

theorem State.setMicroBatches_frame (s : State) (p : Nat) (l : List MicroBatch) :
    (s.setMicroBatches p l).versions = s.versions ∧ (s.setMicroBatches p l).tango = s.tango ∧
      (s.setMicroBatches p l).loaders = s.loaders := ⟨rfl, rfl, rfl⟩

theorem State.loader_of_loaders {t : State} (h : t.loaders = s.loaders) (p : Nat) : t.loader p = s.loader p :=
  congrArg (fun m => mget LoaderSt.reset m p) h

theorem State.microBatches_of_mbs {t : State} (h : t.mbs = s.mbs) (p : Nat) : t.microBatches p = s.microBatches p :=
  congrArg (fun m => mget [] m p) h

/-- With no micro-batch and no load that waits, a partition's slots stay as they are. -/
theorem foldl_poll_versions (ps : List Nat) (s : State) (batches : ∀ p, s.microBatches p = []) (loads : ∀ p, (s.loader p).st ≠ .waitSlot) :
    (ps.foldl (fun s p => (s.bindWaiting p).pollLoader p) s).versions = s.versions ∧
    (ps.foldl (fun s p => (s.bindWaiting p).pollLoader p) s).tango = s.tango := by
  induction ps generalizing s with
  | nil => exact ⟨rfl, rfl⟩
  | cons p ps ih =>
    have waits : s.bindWaiting p = s.setMicroBatches p [] := by
      unfold State.bindWaiting
      rw [batches]
      rfl
    obtain ⟨versions, tango, loaders⟩ := s.setMicroBatches_frame p []
    have none_ (q : Nat) : (s.setMicroBatches p []).microBatches q = [] := by
      rw [State.microBatches_set]
      split
      · rfl
      · exact batches q
    rw [List.foldl_cons, waits]
    generalize s.setMicroBatches p [] = u at versions tango loaders none_
    have idle (q : Nat) : (u.loader q).st ≠ .waitSlot := by
      rw [State.loader_of_loaders loaders]
      exact loads q
    rw [State.pollLoader_busy (idle p)]
    obtain ⟨versions', tango'⟩ := ih u none_ idle
    exact ⟨versions'.trans versions, tango'.trans tango⟩

/-- A mirror that does not run, and a fence that waits no longer. -/
def State.unmirrored (s : State) : State := s.dropMirror.modTango fun x => { x with waiting := none }

theorem State.unmirrored_none (none : s.tango.mirror = none) :
    s.unmirrored = s.modTango fun x => { x with mirror := Option.none, resumeSent := false, waiting := Option.none } := by
  unfold State.unmirrored State.dropMirror State.dropMirrorBinds
  rw [none]
  rfl

theorem rollbackW_spec {tag : Tag} (named : s.releaseTag = some tag) (still : s.launches = [])
    (unarmed : ∀ p, (s.fence p).state ≠ .armed) :
    ∃ (b : Bool) (ps : List Nat), rollbackW s = .ok (ps.foldl (fun s p => (s.bindWaiting p).pollLoader p)
      (s.tango.inForce.foldl (fun s x => s.rollbackRegion tag x.1 x.2) (if b then s.unmirrored.toTango tsIdle else s.unmirrored))) := by
  have free : ((s.tango.inForce.map Prod.fst).eraseDups.any fun p =>
      (s.launches.any fun kv => s.sameGroup (kv.1 / 256) p) || (s.fence p).state == .armed) = false := by
    rw [List.any_eq_false]
    intro p _
    simp [still, unarmed p]
  have act : rollbackW s = .ok ((s.tango.inForce.map Prod.fst).eraseDups.foldl (fun s p => (s.bindWaiting p).pollLoader p)
      (s.tango.inForce.foldl (fun s x => s.rollbackRegion tag x.1 x.2)
        (if s.tango.mirror.isSome ∨ s.unmirrored.tangoState = tsWaiting then
          (if s.unmirrored.tangoState = tsMirroring ∨ s.unmirrored.tangoState = tsWaiting ∨ s.unmirrored.tangoState = tsSuspended then
            s.unmirrored.toTango tsIdle else s.unmirrored)
        else s.unmirrored))) := by
    unfold rollbackW
    dsimp only
    rw [named]
    dsimp only
    rw [free, if_neg Bool.false_ne_true]
    rfl
  rw [act]
  split
  · split
    · exact ⟨true, _, rfl⟩
    · exact ⟨false, _, rfl⟩
  · exact ⟨false, _, rfl⟩

theorem rollback_facts {via : Via} {tag : Tag} (reached : s.reaches via 0x2700 4 = true) (named : s.releaseTag = some tag)
    (still : s.launches = []) (unarmed : ∀ p, (s.fence p).state ≠ .armed) (none : s.tango.mirror = none)
    (distinct : s.tango.inForce.Nodup) (small : ∀ x ∈ s.tango.inForce, x.2 < 256) (loads : ∀ p, (s.loader p).st ≠ .waitSlot)
    (batches : ∀ p, s.microBatches p = []) :
    (tangoRollbackEff via s).tango.waiting = Option.none ∧ (tangoRollbackEff via s).cores = s.cores ∧
    (tangoRollbackEff via s).mem = s.mem ∧
    ∀ x ∈ s.tango.inForce, (tangoRollbackEff via s).region x.1 x.2 = (s.region x.1 x.2).rolledBack tag := by
  obtain ⟨b, ps, act⟩ := rollbackW_spec named still unarmed
  have eff : tangoRollbackEff via s = ps.foldl (fun s p => (s.bindWaiting p).pollLoader p)
      (s.tango.inForce.foldl (fun s x => s.rollbackRegion tag x.1 x.2) (if b then s.unmirrored.toTango tsIdle else s.unmirrored)) := by
    rw [tangoRollbackEff, act]
    exact State.objWrite_ok s reached _
  have idle := State.unmirrored_none none
  obtain ⟨u, hu⟩ : ∃ u, u = if b then s.unmirrored.toTango tsIdle else s.unmirrored := ⟨_, rfl⟩
  have start : u.versions = s.versions ∧ u.mbs = s.mbs ∧ u.loaders = s.loaders ∧ u.tango.waiting = Option.none ∧ u.untangled = s.untangled := by
    rw [hu, idle]
    split <;> exact ⟨rfl, rfl, rfl, rfl, rfl⟩
  obtain ⟨versions, mbs, loaders, waiting, view⟩ := start
  obtain ⟨mbs', loaders', tango'⟩ := foldl_rollback_frame tag s.tango.inForce u
  have rolled : (s.tango.inForce.foldl (fun s x => s.rollbackRegion tag x.1 x.2) u).untangled = u.untangled :=
    foldl_untangled (fun _ _ => State.rollbackRegion_untangled ..) _ _
  have own (x : Nat × Nat) (listed : x ∈ s.tango.inForce) :
      (s.tango.inForce.foldl (fun s x => s.rollbackRegion tag x.1 x.2) u).region x.1 x.2 = (s.region x.1 x.2).rolledBack tag :=
    (foldl_rollback_own tag _ u distinct small listed).trans
      (congrArg (fun m => (mget VEntry.reset m (256 * x.1 + x.2)).rolledBack tag) versions)
  rw [eff, ← hu]
  generalize s.tango.inForce.foldl (fun s x => s.rollbackRegion tag x.1 x.2) u = w at *
  obtain ⟨versions'', tango''⟩ := foldl_poll_versions ps w
    (fun p => (State.microBatches_of_mbs (mbs'.trans mbs) p).trans (batches p))
    (fun p => by rw [State.loader_of_loaders (loaders'.trans loaders)]; exact loads p)
  have polled : (ps.foldl (fun s p => (s.bindWaiting p).pollLoader p) w).untangled = w.untangled :=
    foldl_untangled (fun _ _ => (State.untangled_of_unloaded (State.pollLoader_unloaded ..)).trans (State.bindWaiting_untangled ..)) _ _
  have whole := polled.trans (rolled.trans view)
  refine ⟨?_, State.cores_of_untangled whole, State.mem_of_untangled whole, fun x listed => ?_⟩
  · rw [tango'', tango', waiting]
  · exact (congrArg (fun m => mget VEntry.reset m (256 * x.1 + x.2)) versions'').trans (own x listed)

/-- Settles O42: tags bind and roll back each listed region by itself; restores by what a data error leaves. -/
theorem tagsAndRestores : Obligations.TagsAndRestores := by
  unfold Obligations.TagsAndRestores
  refine ⟨⟨?_, ?_⟩, ?_, ?_⟩
  · intro via v s reached
    refine ⟨fun on whole older first none distinct small => ?_, fun off none => ?_, fun on early => ?_⟩
    · exact ⟨_, rfl, tangoReleaseTag_facts reached on whole older first none distinct small⟩
    · have eff := tangoReleaseTagWriteEff_drops reached off
      rw [State.dropRelease_none none, ← State.tagNamed] at eff
      obtain ⟨named, words⟩ := s.tagNamed_rd v
      exact ⟨_, congrArg s.outcome eff, named, words, sameWork_refl s⟩
    · obtain ⟨h, eff⟩ := tangoReleaseTagWriteEff_early (via := via) on early
      exact ⟨_, congrArg s.outcome eff, rfl, rfl, sameWork_refl s⟩
  · intro via s tag reached named still unarmed none distinct small loads batches
    obtain ⟨waiting, cores, mem, regions⟩ := rollback_facts reached named still unarmed none distinct small loads batches
    refine ⟨_, rfl, waiting, cores, mem, fun x listed i slot => ?_⟩
    have rolled := regions x listed
    have done_ := VEntry.rolledBack_slot slot
    rw [← rolled] at done_
    exact done_
  · intro via s reached
    refine ⟨fun frozen whole idle => ⟨fun o bad => ?_, fun o good => ?_⟩, fun o no => ?_, fun running => ?_⟩
    · exact ⟨_, rfl, (tangoRestore_facts reached frozen whole idle).1 bad⟩
    · exact ⟨_, rfl, (tangoRestore_facts reached frozen whole idle).2 good⟩
    · obtain ⟨h, eff⟩ := tangoRestoreEff_refused (via := via) (o := o) no
      exact ⟨_, congrArg s.outcome eff, rfl, rfl, sameWork_refl s⟩
    · obtain ⟨tango, state, code, work, _⟩ := s.endRestore_facts 8 (by decide) running
      exact ⟨_, congrArg s.outcome (tangoRestoreAbortEff_ends reached), tango, state, code, work⟩
  · intro s r running
    have some_ : s.tango.restore ≠ none := by
      rw [running]
      exact Option.some_ne_none r
    refine ⟨fun todo outstanding fine => ?_, fun left => ?_, fun code bad => ?_⟩
    · have eff := tangoRestoreDoneEff_zero running
      rw [if_pos ⟨todo, outstanding⟩, if_neg (by simp [fine])] at eff
      obtain ⟨tango, state, code, work, _⟩ := s.endRestore_facts 0 (by decide) some_
      exact ⟨_, congrArg s.outcome eff, tango, state, code, work⟩
    · have eff := tangoRestoreDoneEff_zero running
      rw [if_neg fun done_ => left.elim (absurd done_.1) (absurd done_.2)] at eff
      exact congrArg s.outcome eff
    · obtain ⟨tango, state, shown, work, _⟩ := s.endRestore_facts code.val code.isLt some_
      rw [if_neg (show code.val ≠ 0 from Fin.val_ne_of_ne bad)] at state
      exact ⟨_, congrArg s.outcome (tangoRestoreDoneEff_code running bad), tango, state, shown, work⟩

end Sys2Proof.Machine

end

section
/-! PROOFS. Pairs, their controls and the mirror list (R301, R303, R304, R311, R312), obligation O39. -/

namespace Sys2Proof.Machine

variable {s : State}

/-! ## What pairing reads and writes (R301, R303) -/

theorem portKey_ne_tKey (n : Nat) {a b : Nat} (h : a % 256 ≠ b % 256) : portKey n a ≠ tKey b := by
  simp only [portKey, tKey, objKey]
  omega

theorem State.tangoPorts_wrN (s : State) (sub v : Nat) (h : sub % 256 ≠ 1) : (s.wrN (tKey sub) v).tangoPorts = s.tangoPorts := by
  have role (n : Nat) : (s.wrN (tKey sub) v).role n = s.role n := State.rdN_wrN_ne s v (portKey_ne_tKey n (by omega))
  have port (n : Nat) : (s.wrN (tKey sub) v).port n = s.port n := rfl
  unfold State.tangoPorts
  simp only [role, port]

/-- The work, the Tango engine and its registers are as they were: packets have been sent. -/
structure TangoSent (s t : State) : Prop where
  work : sameWork s t
  tango : t.tango = s.tango
  obj : t.obj = s.obj

theorem TangoSent.refl (s : State) : TangoSent s s := ⟨sameWork_refl s, rfl, rfl⟩

theorem TangoSent.word {s t : State} (h : TangoSent s t) (j : Nat) : t.rd j = s.rd j := by
  unfold State.rd
  rw [h.obj]

theorem TangoSent.trans {s t u : State} (h : TangoSent s t) (h' : TangoSent t u) : TangoSent s u :=
  ⟨sameWork_trans h.work h'.work, h'.tango.trans h.tango, h'.obj.trans h.obj⟩

theorem TangoSent.rdN {s t : State} (h : TangoSent s t) (j : Nat) : t.rdN j = s.rdN j := congrArg BitVec.toNat (h.word j)

theorem TangoSent.sendTango (s : State) (n : Nat) (p : Packet) : TangoSent s (s.sendTango n p) := by
  refine ⟨sameWork_of_unreported_eq (State.sendTango_unreported ..), State.tango_of_unreported (State.sendTango_unreported ..), ?_⟩
  unfold State.sendTango
  split <;> rfl

theorem TangoSent.sendPair (s : State) (tag : Tag) (kind bank count bytes : Nat) : TangoSent s (s.sendPair tag kind bank count bytes) := by
  unfold State.sendPair
  split
  · exact TangoSent.sendTango ..
  · exact TangoSent.refl s

theorem State.sendPairWord_sent (s : State) (n : Nat) :
    ∃ u, TangoSent s u ∧ s.sendPairWord n = u.modTango fun t => { t with pairSent := true } := ⟨_, TangoSent.sendTango .., rfl⟩

theorem State.dropMirror_none (none : s.tango.mirror = none) :
    s.dropMirror = s.modTango fun t => { t with mirror := Option.none, resumeSent := false } := by
  unfold State.dropMirror State.dropMirrorBinds
  rw [none]

/-- Whether a PAIR comes from the partner that the engine had. -/
def State.oldPartner (s : State) (pkt : Packet) : Bool :=
  match s.tango.pair with
  | some h => h.1 == pkt.src
  | none => false

/-- The engine once it has taken the partner of a PAIR. -/
def State.partnered (s : State) (pkt : Packet) (t : TangoSt) : TangoSt :=
  { (if s.oldPartner pkt then t else { t.emptyBanks with peer0 := none, peer1 := none }) with
    pair := some (pkt.src, pkt.srcEpoch),
    heard := some (pkt.src, pkt.srcEpoch, ctlField pkt 2 1, ctlField pkt 8 8, ctlField pkt 4 4), waiting := none, paused := false }

/-- The partner's address and the size of its banks shown. -/
def State.partnerShown (s : State) (pkt : Packet) : State :=
  ((s.dropMirror.modTango (s.partnered pkt)).wrN (tKey 3) pkt.src.toNat).wrN (tKey 9) (bankBytesOf (ctlField pkt 8 8) (ctlField pkt 4 4))

/-- This device's own PAIR sent where it owes one. -/
def State.partnerAnswered (s : State) (n : Nat) (pkt : Packet) : State :=
  (if !(s.tangoState == tsPairing && s.tango.pairSent) then (s.partnerShown pkt).sendPairWord n else s.partnerShown pkt).modTango fun t =>
    { t with pairSent := false }

theorem State.pairWith_eq (s : State) (n : Nat) (pkt : Packet) :
    s.pairWith n pkt = match s.tango.lastFence with
      | some t => if s.tango.mirror.isSome || s.tango.waiting.isSome then
          ((s.partnerAnswered n pkt).modTango fun x => { x with waiting := some (t, (s.partnerAnswered n pkt).beatIx, false) }).toTango tsWaiting
        else (s.partnerAnswered n pkt).toTango tsIdle
      | none => (s.partnerAnswered n pkt).toTango tsIdle := by
  rfl

theorem State.partnerShown_facts (none : s.tango.mirror = none) (pkt : Packet) :
    (s.partnerShown pkt).tango = s.partnered pkt { s.tango with mirror := Option.none, resumeSent := false } ∧
    (s.partnerShown pkt).rdN (tKey 3) = pkt.src.toNat ∧ sameWork s (s.partnerShown pkt) := by
  have start : (s.dropMirror.modTango (s.partnered pkt)).tango =
      s.partnered pkt { s.tango with mirror := Option.none, resumeSent := false } ∧
      sameWork s (s.dropMirror.modTango (s.partnered pkt)) := by
    rw [State.dropMirror_none none]
    generalize s.partnered pkt = f
    exact ⟨rfl, sameWork_refl s⟩
  unfold State.partnerShown
  generalize s.dropMirror.modTango (s.partnered pkt) = u at start
  generalize bankBytesOf (ctlField pkt 8 8) (ctlField pkt 4 4) = room
  refine ⟨start.1, ?_, sameWork_trans start.2 (sameWork_trans (State.wrN_sameWork ..) (State.wrN_sameWork ..))⟩
  rw [State.rdN_wrN_ne _ _ (tKey_ne (by decide)), State.rdN_wrN _ (pkt.src.isLt.trans (by decide))]

theorem State.modTango_frame (s : State) (f : TangoSt → TangoSt) :
    (s.modTango f).tango = f s.tango ∧ (∀ j, (s.modTango f).rd j = s.rd j) ∧ sameWork s (s.modTango f) :=
  ⟨rfl, fun _ => rfl, sameWork_refl s⟩

theorem State.rdN_modTango (s : State) (f : TangoSt → TangoSt) (j : Nat) : (s.modTango f).rdN j = s.rdN j := rfl

theorem State.answer_sent (u : State) (n : Nat) (owes : Bool) :
    ∃ w f, TangoSent u w ∧ (if owes then u.sendPairWord n else u) = w.modTango f ∧
      ∀ t : TangoSt, ({ f t with pairSent := false } : TangoSt) = { t with pairSent := false } := by
  cases owes with
  | true =>
    obtain ⟨w, sent, eq⟩ := u.sendPairWord_sent n
    exact ⟨w, _, sent, (if_pos rfl).trans eq, fun _ => rfl⟩
  | false => exact ⟨u, id, TangoSent.refl u, if_neg Bool.false_ne_true, fun _ => rfl⟩

theorem State.partnerAnswered_facts (none : s.tango.mirror = none) (n : Nat) (pkt : Packet) :
    (s.partnerAnswered n pkt).tango = { s.partnered pkt { s.tango with mirror := Option.none, resumeSent := false } with pairSent := false } ∧
    (s.partnerAnswered n pkt).rdN (tKey 3) = pkt.src.toNat ∧ sameWork s (s.partnerAnswered n pkt) := by
  obtain ⟨tango, named, work⟩ := State.partnerShown_facts none pkt
  unfold State.partnerAnswered
  generalize s.partnerShown pkt = u at tango named work
  generalize s.partnered pkt { s.tango with mirror := Option.none, resumeSent := false } = x at tango
  generalize (!(s.tangoState == tsPairing && s.tango.pairSent)) = owes
  obtain ⟨w, f, sent, eq, shown⟩ := u.answer_sent n owes
  rw [eq]
  obtain ⟨first, _, work1⟩ := w.modTango_frame f
  obtain ⟨second, _, work2⟩ := (w.modTango f).modTango_frame fun t => { t with pairSent := false }
  refine ⟨?_, ?_, sameWork_trans work (sameWork_trans sent.work (sameWork_trans work1 work2))⟩
  · rw [second, first, shown, sent.tango, tango]
  · rw [State.rdN_modTango, State.rdN_modTango, sent.rdN, named]

theorem State.toTango_facts (s : State) {st : Nat} (small : st < 2 ^ 64) :
    (s.toTango st).rdN (tKey 2) = st ∧ (∀ j, j ≠ tKey 2 → (s.toTango st).rd j = s.rd j) ∧ (s.toTango st).tango = s.tango ∧
      sameWork s (s.toTango st) :=
  ⟨State.rdN_wrN _ small, fun _ other => s.rd_wrN_ne st other, rfl, State.wrN_sameWork ..⟩

/-- What a PAIR that pairs leaves: the partner named, its banks kept where it is the one before, and the work. -/
structure Paired (s : State) (pkt : Packet) (t : State) : Prop where
  pair : t.tango.pair = some (pkt.src, pkt.srcEpoch)
  heard : t.tango.heard = some (pkt.src, pkt.srcEpoch, ctlField pkt 2 1, ctlField pkt 8 8, ctlField pkt 4 4)
  named : t.rdN (tKey 3) = pkt.src.toNat
  bank0 : t.tango.bank0 = if s.oldPartner pkt then s.tango.bank0 else .empty
  bank1 : t.tango.bank1 = if s.oldPartner pkt then s.tango.bank1 else .empty
  work : sameWork s t

theorem State.partnerAnswered_paired (none : s.tango.mirror = none) (n : Nat) (pkt : Packet) : Paired s pkt (s.partnerAnswered n pkt) := by
  obtain ⟨tango, named, work⟩ := State.partnerAnswered_facts none n pkt
  refine ⟨?_, ?_, named, ?_, ?_, work⟩
  · rw [tango]
    rfl
  · rw [tango]
    rfl
  · rw [tango]
    unfold State.partnered
    cases s.oldPartner pkt <;> rfl
  · rw [tango]
    unfold State.partnered
    cases s.oldPartner pkt <;> rfl

theorem Paired.toTango {pkt : Packet} {t : State} (h : Paired s pkt t) {st : Nat} (small : st < 2 ^ 64) : Paired s pkt (t.toTango st) := by
  obtain ⟨_, words, tango, work⟩ := t.toTango_facts small
  refine ⟨tango ▸ h.pair, tango ▸ h.heard, ?_, tango ▸ h.bank0, tango ▸ h.bank1, sameWork_trans h.work work⟩
  exact (congrArg BitVec.toNat (words _ (tKey_ne (by decide)))).trans h.named

theorem State.pairWith_facts (none : s.tango.mirror = none) (n : Nat) (pkt : Packet) :
    Paired s pkt (s.pairWith n pkt) ∧ (s.tango.lastFence = Option.none → (s.pairWith n pkt).rdN (tKey 2) = 3) := by
  have answered := State.partnerAnswered_paired none n pkt
  rw [State.pairWith_eq]
  generalize s.partnerAnswered n pkt = u at answered
  cases fence : s.tango.lastFence with
  | none => exact ⟨answered.toTango (by decide), fun _ => (u.toTango_facts (by decide)).1⟩
  | some t =>
    refine ⟨?_, fun h => by cases h⟩
    dsimp only
    split
    · have waits : Paired s pkt (u.modTango fun x => { x with waiting := some (t, u.beatIx, false) }) :=
        ⟨answered.pair, answered.heard, answered.named, answered.bank0, answered.bank1, answered.work⟩
      exact waits.toTango (by decide)
    · exact answered.toTango (by decide)

theorem State.toConflict_facts (s : State) {v : Nat} (room : v < 2 ^ 64) :
    ((s.toTango tsConflict).wrN (tKey 3) v).rdN (tKey 2) = 2 ∧ ((s.toTango tsConflict).wrN (tKey 3) v).rdN (tKey 3) = v ∧
    ((s.toTango tsConflict).wrN (tKey 3) v).tango = s.tango ∧ sameWork s ((s.toTango tsConflict).wrN (tKey 3) v) := by
  obtain ⟨state, _, tango, work⟩ := s.toTango_facts (st := tsConflict) (by decide)
  generalize s.toTango tsConflict = w at state tango work
  refine ⟨?_, State.rdN_wrN _ room, tango, sameWork_trans work (State.wrN_sameWork ..)⟩
  rw [State.rdN_wrN_ne _ _ (tKey_ne (by decide)), state]
  rfl

theorem conflictWord_room {cause old : Nat} (small : cause < 256) : cause * 2 ^ 24 + old % 2 ^ 24 < 2 ^ 64 := by omega

theorem State.pairConflict_facts (none : s.tango.mirror = none) {cause : Nat} (small : cause < 256) :
    (s.pairConflict cause).rdN (tKey 2) = 2 ∧ (s.pairConflict cause).rdN (tKey 3) = cause * 2 ^ 24 + s.rdN (tKey 3) % 2 ^ 24 ∧
    (s.pairConflict cause).tango = { s.tango with mirror := Option.none, resumeSent := false } ∧ sameWork s (s.pairConflict cause) := by
  have unmirrored := State.dropMirror_none none
  have facts := State.toConflict_facts s.dropMirror (conflictWord_room (old := s.rdN (tKey 3)) small)
  rw [unmirrored] at facts
  unfold State.pairConflict
  rw [unmirrored]
  exact facts

theorem State.imageBytes_congr {t : State} (tango : t.tango = s.tango) (versions : t.versions = s.versions) : t.imageBytes = s.imageBytes := by
  unfold State.imageBytes State.listed State.region
  rw [tango, versions]

/-! ## PAIR -/

/-- The sender of a PAIR noted, before its checks. -/
def State.pairNoted (s : State) (pkt : Packet) : State := s.wrN (tKey 3) (s.rdN (tKey 3) / 2 ^ 24 * 2 ^ 24 + pkt.src.toNat)

theorem State.wrPartner_facts (s : State) {v low : Nat} (room : v < 2 ^ 64) (h : v % 2 ^ 24 = low) :
    (s.wrN (tKey 3) v).rdN (tKey 3) % 2 ^ 24 = low ∧ (∀ j, j ≠ tKey 3 → (s.wrN (tKey 3) v).rd j = s.rd j) ∧
    (s.wrN (tKey 3) v).tango = s.tango ∧ (s.wrN (tKey 3) v).tangoPorts = s.tangoPorts ∧
    (s.wrN (tKey 3) v).imageBytes = s.imageBytes ∧ sameWork s (s.wrN (tKey 3) v) := by
  refine ⟨?_, fun j other => s.rd_wrN_ne _ other, rfl, State.tangoPorts_wrN s 3 _ (by decide), State.imageBytes_congr rfl rfl,
    State.wrN_sameWork ..⟩
  rw [State.rdN_wrN _ room, h]

theorem partnerWord_room {old src : Nat} (h : old < 2 ^ 64) (h' : src < 2 ^ 24) :
    old / 2 ^ 24 * 2 ^ 24 + src < 2 ^ 64 ∧ (old / 2 ^ 24 * 2 ^ 24 + src) % 2 ^ 24 = src := by
  omega

theorem State.pairNoted_facts (s : State) (pkt : Packet) :
    (s.pairNoted pkt).rdN (tKey 3) % 2 ^ 24 = pkt.src.toNat ∧ (∀ j, j ≠ tKey 3 → (s.pairNoted pkt).rd j = s.rd j) ∧
    (s.pairNoted pkt).tango = s.tango ∧ (s.pairNoted pkt).tangoPorts = s.tangoPorts ∧ (s.pairNoted pkt).imageBytes = s.imageBytes ∧
    sameWork s (s.pairNoted pkt) :=
  have word := partnerWord_room (s.rdN_lt (tKey 3)) pkt.src.isLt
  s.wrPartner_facts word.1 word.2

section
variable {n : Port} {pkt : Packet} (current : s.epochOf pkt.src = none ∨ s.epochOf pkt.src = some pkt.srcEpoch)
  (live : s.superseded = false) (port : s.tangoPorts.contains n.val = true) (open_ : s.tango.unpaired = false)
  (known : assigned s.ownAddr.toNat = true) (runs : s.tangoState ≠ tsHalted) (thawed : s.tango.frozen = false)
include current live port open_ known runs thawed

theorem pairEff_checks : ∃ other : Bool, pairEff n pkt s =
    if ctlField pkt 2 1 = s.rdN (tKey 1) then (s.pairNoted pkt).pairConflict 1
    else if s.tangoPorts.any fun m => s.rdN (portKey m 4) % 2 ^ 24 != pkt.src.toNat then
      (if s.tango.heard.isSome && !other then ((s.pairNoted pkt).count32Sat (tKey 0x16) 1).pairWith n pkt
        else (s.pairNoted pkt).pairConflict 2)
    else if bankBytesOf (ctlField pkt 8 8) (ctlField pkt 4 4) < s.imageBytes then (s.pairNoted pkt).pairConflict 3
    else (s.pairNoted pkt).pairWith n pkt := by
  obtain ⟨_, words, tango, ports, image, _⟩ := s.pairNoted_facts pkt
  have role : (s.pairNoted pkt).rdN (tKey 1) = s.rdN (tKey 1) := congrArg BitVec.toNat (words _ (tKey_ne (by decide)))
  have far (m : Nat) : (s.pairNoted pkt).rdN (portKey m 4) = s.rdN (portKey m 4) :=
    congrArg BitVec.toNat (words _ (portKey_ne_tKey m (by decide)))
  have entered : pairEff n pkt s = s.takePair n pkt := by
    unfold pairEff State.tangoIn
    rw [State.ingress_current current]
    rfl
  rw [entered]
  unfold State.takePair
  have enters : ¬(s.superseded = true ∨ s.tangoPorts.contains n.val = false ∨ s.tango.unpaired = true ∨
      assigned s.ownAddr.toNat = false ∨ s.tangoState = tsHalted) := by
    rw [live, port, open_, known]
    rintro (h | h | h | h | h)
    · cases h
    · cases h
    · cases h
    · cases h
    · exact runs h
  rw [if_neg enters, ← State.pairNoted]
  dsimp only
  rw [tango, thawed, role, ports, image]
  simp only [far]
  generalize bankBytesOf (ctlField pkt 8 8) (ctlField pkt 4 4) = room
  exact ⟨_, if_neg (by simp)⟩

theorem pairEff_sameRole (role : ctlField pkt 2 1 = s.rdN (tKey 1)) : pairEff n pkt s = (s.pairNoted pkt).pairConflict 1 := by
  obtain ⟨other, eff⟩ := pairEff_checks current live port open_ known runs thawed
  rw [eff, if_pos role]

theorem pairEff_elsewhere (role : ctlField pkt 2 1 ≠ s.rdN (tKey 1))
    (far : ¬∀ m ∈ s.tangoPorts, s.rdN (portKey m 4) % 2 ^ 24 = pkt.src.toNat) (unheard : s.tango.heard = Option.none) :
    pairEff n pkt s = (s.pairNoted pkt).pairConflict 2 := by
  obtain ⟨other, eff⟩ := pairEff_checks current live port open_ known runs thawed
  have away : (s.tangoPorts.any fun m => s.rdN (portKey m 4) % 2 ^ 24 != pkt.src.toNat) = true := by
    by_contra no
    refine far fun m hm => ?_
    simpa using List.any_eq_false.1 (Bool.eq_false_of_not_eq_true no) m hm
  rw [eff, if_neg role, away, if_pos rfl, unheard]
  rfl

variable (none : s.tango.mirror = none)
include none

theorem pairEff_pairs (role : ctlField pkt 2 1 ≠ s.rdN (tKey 1)) (far : ∀ m ∈ s.tangoPorts, s.rdN (portKey m 4) % 2 ^ 24 = pkt.src.toNat)
    (room : s.imageBytes ≤ bankBytesOf (ctlField pkt 8 8) (ctlField pkt 4 4)) :
    Paired s pkt (pairEff n pkt s) ∧ (s.tango.lastFence = Option.none → (pairEff n pkt s).rdN (tKey 2) = 3) := by
  obtain ⟨other, eff⟩ := pairEff_checks current live port open_ known runs thawed
  have near : (s.tangoPorts.any fun m => s.rdN (portKey m 4) % 2 ^ 24 != pkt.src.toNat) = false :=
    List.any_eq_false.2 fun m hm => by simpa using far m hm
  rw [eff, if_neg role, near, if_neg Bool.false_ne_true, if_neg (Nat.not_lt.2 room)]
  obtain ⟨_, _, tango, _, _, work⟩ := s.pairNoted_facts pkt
  obtain ⟨paired, state⟩ := State.pairWith_facts (s := s.pairNoted pkt) (by rw [tango]; exact none) n pkt
  have old : (s.pairNoted pkt).oldPartner pkt = s.oldPartner pkt := by
    unfold State.oldPartner
    rw [tango]
  refine ⟨⟨paired.pair, paired.heard, paired.named, ?_, ?_, sameWork_trans work paired.work⟩, fun fence => state (by rw [tango]; exact fence)⟩
  · rw [paired.bank0, old, tango]
  · rw [paired.bank1, old, tango]

end

theorem pairNoted_conflict (none : s.tango.mirror = none) (pkt : Packet) {cause : Nat} (small : cause < 256) :
    ((s.pairNoted pkt).pairConflict cause).rdN (tKey 2) = 2 ∧
    ((s.pairNoted pkt).pairConflict cause).rdN (tKey 3) = cause * 2 ^ 24 + pkt.src.toNat ∧
    ((s.pairNoted pkt).pairConflict cause).tango.pair = s.tango.pair ∧ sameWork s ((s.pairNoted pkt).pairConflict cause) := by
  obtain ⟨low, _, tango, _, _, work⟩ := s.pairNoted_facts pkt
  obtain ⟨state, shown, left, work'⟩ := State.pairConflict_facts (s := s.pairNoted pkt) (by rw [tango]; exact none) small
  refine ⟨state, ?_, ?_, sameWork_trans work work'⟩
  · rw [shown, low]
  · rw [left, tango]

/-! ## TANGO_PAIRING_START and the mirror list -/

theorem tangoPairingStartEff_facts {n : Port} (live : s.superseded = false) (port : s.tangoPorts.contains n.val = true)
    (known : assigned s.ownAddr.toNat = true) (met : assigned (s.rdN (portKey n 4) % 2 ^ 24) = true) (unheard : s.tango.heard = none)
    (unpaired : s.tangoState = tsUnpaired)
    (far : ∀ m ∈ s.tangoPorts, s.rdN (portKey m 4) % 2 ^ 24 = s.rdN (portKey n 4) % 2 ^ 24) :
    (tangoPairingStartEff n s).rdN (tKey 2) = 1 ∧ (tangoPairingStartEff n s).tango.unpaired = false ∧
    (s.rdN (tKey 1) = 0 → (tangoPairingStartEff n s).tango.pairSent = true) ∧ sameWork s (tangoPairingStartEff n s) := by
  obtain ⟨u, hu⟩ : ∃ u, u = s.modTango fun t => { t with unpaired := false } := ⟨_, rfl⟩
  obtain ⟨tango, words, work⟩ := s.modTango_frame fun t => { t with unpaired := false }
  rw [← hu] at tango words work
  obtain ⟨state, words', tango', work'⟩ := u.toTango_facts (st := tsPairing) (by decide)
  obtain ⟨w, hw⟩ : ∃ w, w = u.toTango tsPairing := ⟨_, rfl⟩
  rw [← hw] at state words' tango' work'
  have own : u.ownAddr = s.ownAddr := by rw [hu]; rfl
  have state' : u.tangoState = s.tangoState := by rw [hu]; rfl
  have ports : u.tangoPorts = s.tangoPorts := by rw [hu]; rfl
  have rd4 (m : Nat) : u.rdN (portKey m 4) = s.rdN (portKey m 4) := congrArg BitVec.toNat (words _)
  have role : w.rdN (tKey 1) = s.rdN (tKey 1) := congrArg BitVec.toNat ((words' _ (tKey_ne (by decide))).trans (words _))
  have near : (s.tangoPorts.any fun m => m != n.val && s.rdN (portKey m 4) % 2 ^ 24 != s.rdN (portKey n 4) % 2 ^ 24) = false :=
    List.any_eq_false.2 fun m hm => by rw [far m hm]; simp
  have eff : tangoPairingStartEff n s = if w.rdN (tKey 1) = 0 && !w.tango.pairSent then w.sendPairWord n.val else w := by
    unfold tangoPairingStartEff
    dsimp only
    rw [if_neg (by rw [live, port]; simp), ← hu, own, if_neg (by rw [known, met]; simp), tango]
    dsimp only
    rw [unheard]
    dsimp only
    rw [state', ports]
    simp only [rd4]
    rw [if_pos (Or.inl unpaired), near, if_neg Bool.false_ne_true, ← hw]
  rw [eff, role]
  split
  next sends =>
    obtain ⟨x, sent, eq⟩ := w.sendPairWord_sent n.val
    rw [eq]
    obtain ⟨last, words'', work''⟩ := x.modTango_frame fun t => { t with pairSent := true }
    refine ⟨?_, ?_, fun _ => ?_, sameWork_trans work (sameWork_trans work' (sameWork_trans sent.work work''))⟩
    · rw [State.rdN_modTango, sent.rdN, state]
      rfl
    · rw [last, sent.tango, tango', tango]
    · rw [last]
  next quiet =>
    refine ⟨state, ?_, fun first => ?_, sameWork_trans work work'⟩
    · rw [tango', tango]
    · rw [first] at quiet
      simpa using quiet

theorem tangoListEntryWriteEff_stores {via : Via} {v : Word} (reached : s.reaches via 0x2700 7 = true) (still : s.tangoState ≠ tsMirroring)
    (idle : s.tangoState ≠ tsWaiting)
    (named : bit v 31 = true → (s.region (field v 11 8) (field v 7 0)).valid = true ∧ (s.region (field v 11 8) (field v 7 0)).single = false) :
    tangoListEntryWriteEff via v s = s.modTango fun x => { x with list := mset 0#64 x.list (s.rdN (tKey 6)) (v &&& 0x80000FFF#64) } := by
  have act : listEntryW s v = .ok (s.modTango fun x => { x with list := mset 0#64 x.list (s.rdN (tKey 6)) (v &&& 0x80000FFF#64) }) := by
    unfold listEntryW
    dsimp only
    rw [if_neg (by simp [still, idle]), if_neg]
    cases on : bit v 31 with
    | false => simp
    | true => simp [named on]
  rw [tangoListEntryWriteEff, act]
  exact State.objWrite_ok s reached _

/-! ## TANGO_CONTROL and TANGO_INTERRUPT (R311, R312, R325) -/

/-- The engine goes on as `x` with TANGO_STATE `st`, and nothing else changes. -/
structure TangoGoes (s : State) (st : Nat) (x : TangoSt) (t : State) : Prop where
  engine : t.tango = x
  state : t.rdN (tKey 2) = st
  word : ∀ k, k ≠ tKey 2 → t.rd k = s.rd k
  work : sameWork s t

theorem TangoGoes.toTango (s : State) {st : Nat} (small : st < 2 ^ 64) : TangoGoes s st s.tango (s.toTango st) := by
  obtain ⟨state, words, tango, work⟩ := s.toTango_facts small
  exact ⟨tango, state, words, work⟩

theorem TangoGoes.modTango (s : State) (f : TangoSt → TangoSt) : TangoGoes s (s.rdN (tKey 2)) (f s.tango) (s.modTango f) := by
  obtain ⟨tango, words, work⟩ := s.modTango_frame f
  exact ⟨tango, congrArg BitVec.toNat (words _), fun k _ => words k, work⟩

theorem TangoGoes.before {t u : State} {st a : Nat} {x y : TangoSt} (h : TangoGoes s a x t) (h' : TangoGoes t st y u) : TangoGoes s st y u :=
  ⟨h'.engine, h'.state, fun k other => (h'.word k other).trans (h.word k other), sameWork_trans h.work h'.work⟩

theorem TangoGoes.after {t : State} {st : Nat} {x : TangoSt} (h : TangoGoes s st x t) (f : TangoSt → TangoSt) :
    TangoGoes s st (f x) (t.modTango f) := by
  have last := TangoGoes.modTango t f
  rw [h.state, h.engine] at last
  exact h.before last

section
variable {via : Via}

theorem tangoStopEff_eq (reached : s.reaches via 0x2700 4 = true) : tangoStopEff via s =
    (s.dropMirrorBinds.modTango fun t => { t with waiting := none, resumeSent := false }).toTango tsHalted :=
  State.objWrite_ok s reached _

theorem tangoStop_idle (reached : s.reaches via 0x2700 4 = true) (none : s.tango.mirror = none) :
    TangoGoes s 7 { s.tango with waiting := Option.none, resumeSent := false } (tangoStopEff via s) := by
  have binds : s.dropMirrorBinds = s := by
    unfold State.dropMirrorBinds
    rw [none]
  rw [tangoStopEff_eq reached, binds]
  exact (TangoGoes.modTango s fun t => { t with waiting := Option.none, resumeSent := false }).before (TangoGoes.toTango _ (by decide))

theorem tangoUnpair_idle (reached : s.reaches via 0x2700 4 = true) (none : s.tango.mirror = none) :
    TangoGoes s 0
      { s.tango with
        mirror := Option.none, resumeSent := false, heard := Option.none, waiting := Option.none, pairSent := false, unpaired := true }
      (tangoUnpairEff via s) := by
  have act : tangoUnpairEff via s = s.unpair.modTango fun t => { t with unpaired := true } := State.objWrite_ok s reached _
  rw [act]
  unfold State.unpair
  rw [State.dropMirror_none none]
  have dropped := TangoGoes.modTango s fun t => { t with mirror := Option.none, resumeSent := false }
  have moved := dropped.before (TangoGoes.toTango _ (st := tsUnpaired) (by decide))
  exact (moved.after fun t => { t with heard := Option.none, waiting := Option.none, pairSent := false }).after
    fun t => { t with unpaired := true }

theorem State.dropMirrorBinds_tango {m : Mirror} (running : s.tango.mirror = some m) :
    s.dropMirrorBinds.tango = { s.tango with mirror := some { m with slots := m.slots.map fun x => { x with bound := false } } } := by
  unfold State.dropMirrorBinds
  rw [running]
  dsimp only
  have left : (m.slots.foldl (fun s x => if x.bound then s.tangoUnbind x.part x.region x.slot else s) s).tango = s.tango := by
    refine foldl_keeps State.tango (fun t x => ?_) m.slots s
    split
    · have view : (t.tangoUnbind x.part x.region x.slot).unloaded = t.unloaded :=
        (State.pollLoader_unloaded ..).trans (State.unbindSlot_unloaded ..)
      exact (congrArg State.tango view : (t.tangoUnbind x.part x.region x.slot).unloaded.tango = t.unloaded.tango)
    · rfl
  exact congrArg (fun t : TangoSt =>
    { t with mirror := some { m with slots := m.slots.map fun x : MSlot => { x with bound := false } } }) left

theorem tangoStop_running (reached : s.reaches via 0x2700 4 = true) {m : Mirror} (running : s.tango.mirror = some m) :
    (tangoStopEff via s).rdN (tKey 2) = 7 ∧ (tangoStopEff via s).tango.waiting = none ∧
    (tangoStopEff via s).tango.mirror = some { m with slots := m.slots.map fun y => { y with bound := false } } ∧
    (tangoStopEff via s).cores = s.cores ∧ (tangoStopEff via s).mem = s.mem := by
  have engine := State.dropMirrorBinds_tango running
  have view := s.dropMirrorBinds_untangled
  rw [tangoStopEff_eq reached]
  generalize s.dropMirrorBinds = u at engine view
  have goes := (TangoGoes.modTango u fun t => { t with waiting := none, resumeSent := false }).before
    (TangoGoes.toTango (u.modTango fun t => { t with waiting := none, resumeSent := false }) (st := tsHalted) (by decide))
  obtain ⟨cores, mem, _⟩ := goes.work
  refine ⟨goes.state, ?_, ?_, cores.trans (State.cores_of_untangled view), mem.trans (State.mem_of_untangled view)⟩
  · rw [goes.engine]
    rfl
  · rw [goes.engine]
    exact congrArg TangoSt.mirror engine

section
variable (reached : s.reaches via 0x2700 4 = true)
include reached

theorem tangoStartEff_ok {t : State} (h : tangoStartW s = .ok t) : tangoStartEff via s = t := by
  rw [tangoStartEff, h]
  exact State.objWrite_ok s reached _

theorem tangoStart_halted (live : s.superseded = false) (halted : s.tangoState = tsHalted) (idle : s.tango.heard = none ∨ s.tango.mirror = none) :
    tangoStartEff via s = s.toTango (if s.tango.heard = none then tsUnpaired else tsIdle) := by
  refine tangoStartEff_ok reached ?_
  unfold tangoStartW
  dsimp only
  rw [if_neg (by simp [live]), if_pos halted]
  cases heard : s.tango.heard with
  | none => rfl
  | some h =>
    have none_ : s.tango.mirror = none := idle.resolve_left (by rw [heard]; exact Option.some_ne_none h)
    have engine : (s.toTango tsIdle).tango = s.tango := rfl
    rw [engine, none_]
    rfl

theorem tangoStart_suspended (live : s.superseded = false) (suspended : s.tangoState = tsSuspended) (idle : s.tango.mirror = none) :
    tangoStartEff via s = s.toTango (if s.tango.waiting = none then tsIdle else tsWaiting) := by
  refine tangoStartEff_ok reached ?_
  unfold tangoStartW
  dsimp only
  rw [if_neg (by simp [live]), suspended, if_neg (by decide), if_pos rfl, idle, if_neg (by simp)]
  cases s.tango.waiting with
  | none => rfl
  | some w => rfl

theorem tangoStart_other (live : s.superseded = false) (runs : s.tangoState ≠ tsHalted) (goes : s.tangoState ≠ tsSuspended) :
    tangoStartEff via s = s := by
  refine tangoStartEff_ok reached ?_
  unfold tangoStartW
  dsimp only
  rw [if_neg (by simp [live]), if_neg runs, if_neg goes]

theorem tangoPauseEff_eq : tangoPauseEff via s =
    if s.tangoState = tsMirroring then s.suspendMirror.modTango fun t => { t with paused := true } else s :=
  State.objWrite_ok s reached _

theorem tangoFreezeEff_eq : tangoFreezeEff via s = s.modTango fun t => { t with frozen := true } := State.objWrite_ok s reached _

theorem tangoUnfreezeEff_eq (calm : s.tangoState ≠ tsConflict) :
    tangoUnfreezeEff via s = s.modTango fun t => { t with frozen := false } := by
  have act : tangoUnfreezeW s = .ok (s.modTango fun t => { t with frozen := false }) := by
    unfold tangoUnfreezeW
    dsimp only
    rw [if_neg]
    exact fun both => calm both.1
  rw [tangoUnfreezeEff, act]
  exact State.objWrite_ok s reached _

end

end

theorem State.suspendMirror_goes (mirroring : s.tangoState = tsMirroring) :
    TangoGoes s 6 { s.tango with resumeSent := false } s.suspendMirror := by
  unfold State.suspendMirror
  rw [if_pos mirroring]
  exact (TangoGoes.toTango s (st := tsSuspended) (by decide)).after fun t => { t with resumeSent := false }

theorem tangoInterruptEff_ports (ports : s.tangoPorts ≠ []) : tangoInterruptEff s = s := by
  unfold tangoInterruptEff
  exact if_pos (Or.inl (by simp [ports]))

theorem tangoInterruptEff_mirroring (ports : s.tangoPorts = []) (live : s.superseded = false) (left : s.tangoPortLeft = true)
    (mirroring : s.tangoState = tsMirroring) : tangoInterruptEff s = s.suspendMirror := by
  unfold tangoInterruptEff
  dsimp only
  rw [if_neg (by simp [ports, live]), mirroring, if_neg (by decide), if_neg (by simp [left]), if_pos rfl]

theorem tangoInterruptEff_waiting (ports : s.tangoPorts = []) (live : s.superseded = false) (left : s.tangoPortLeft = true)
    (waits : s.tangoState = tsWaiting) : tangoInterruptEff s = s.toTango tsSuspended := by
  unfold tangoInterruptEff
  dsimp only
  rw [if_neg (by simp [ports, live]), waits, if_neg (by decide), if_neg (by simp [left]), if_neg (by decide), if_pos (Or.inl rfl)]

theorem TangoGoes.exec {c : Instr} {t : State} {st : Nat} {x : TangoSt} (run : exec c s = .next (t.withQueue s)) (h : TangoGoes s st x t) :
    ∃ t, exec c s = .next t ∧ t.tango = x ∧ t.rdN (tKey 2) = st ∧ (∀ k, k ≠ tKey 2 → t.rd k = s.rd k) ∧ sameWork s t :=
  ⟨_, run, h.engine, h.state, h.word, h.work⟩

theorem exec_pair_conflict {n : Port} {pkt : Packet} {t : State} {shown : Nat} (eff : pairEff n pkt s = t)
    (facts : t.rdN (tKey 2) = 2 ∧ t.rdN (tKey 3) = shown ∧ t.tango.pair = s.tango.pair ∧ sameWork s t) :
    ∃ t, exec (.pair n pkt) s = .next t ∧ t.rdN (tKey 2) = 2 ∧ t.rdN (tKey 3) = shown ∧ t.tango.pair = s.tango.pair ∧ sameWork s t :=
  ⟨_, congrArg s.outcome eff, facts⟩

/-- Settles O39: a PAIR by its checks, a control by what it makes of the engine and of TANGO_STATE. -/
theorem tangoPairsAndStops : Obligations.TangoPairsAndStops := by
  unfold Obligations.TangoPairsAndStops
  refine ⟨⟨?_, ?_, ?_⟩, ?_⟩
  · intro n pkt s live port open_ known runs thawed none current
    refine ⟨fun role far room => ?_, fun role => ?_, fun role far unheard => ?_⟩
    · obtain ⟨paired, state⟩ := pairEff_pairs current live port open_ known runs thawed none role far room
      generalize eff : pairEff n pkt s = t at paired state
      refine ⟨_, congrArg s.outcome eff, paired.pair, paired.named, paired.heard, state, fun h had other => ?_, fun h had same => ?_, paired.work⟩
      · have old : s.oldPartner pkt = false := by
          unfold State.oldPartner
          rw [had]
          exact beq_false_of_ne other
        exact ⟨paired.bank0.trans (by rw [old]; rfl), paired.bank1.trans (by rw [old]; rfl)⟩
      · have old : s.oldPartner pkt = true := by
          unfold State.oldPartner
          rw [had]
          exact beq_iff_eq.2 same
        exact ⟨paired.bank0.trans (by rw [old]; rfl), paired.bank1.trans (by rw [old]; rfl)⟩
    · have facts := pairNoted_conflict none pkt (cause := 1) (by decide)
      rw [Nat.one_mul] at facts
      exact exec_pair_conflict (pairEff_sameRole current live port open_ known runs thawed role) facts
    · exact exec_pair_conflict (pairEff_elsewhere current live port open_ known runs thawed role far unheard)
        (pairNoted_conflict none pkt (cause := 2) (by decide))
  · intro n s live port known met unheard unpaired far
    exact ⟨_, rfl, tangoPairingStartEff_facts live port known met unheard unpaired far⟩
  · intro via v s reached still idle named
    exact ⟨_, congrArg s.outcome (tangoListEntryWriteEff_stores reached still idle named), (mget_mset ..).trans (if_pos rfl),
      fun i other => mget_mset_ne _ _ _ _ _ _ other, rfl, sameWork_refl s⟩
  · intro via s reached live
    refine ⟨fun none => ⟨?_, ?_⟩, fun m running _ => ?_, fun halted unheard => ?_, fun halted heard none => ?_, fun suspended none => ?_,
      fun runs goes => ?_, fun mirroring => ?_, fun other => ?_, ?_, fun calm => ?_, fun ports left mirroring => ?_,
      fun ports left waits => ?_, fun ports => ?_⟩
    · exact (tangoStop_idle reached none).exec rfl
    · exact (tangoUnpair_idle reached none).exec rfl
    · exact ⟨_, rfl, tangoStop_running reached running⟩
    · have eff := tangoStart_halted reached live halted (Or.inl unheard)
      rw [if_pos unheard] at eff
      exact (TangoGoes.toTango s (by decide)).exec (congrArg s.outcome eff)
    · have eff := tangoStart_halted reached live halted (Or.inr none)
      rw [if_neg heard] at eff
      exact (TangoGoes.toTango s (by decide)).exec (congrArg s.outcome eff)
    · have eff := tangoStart_suspended reached live suspended none
      have small : (if s.tango.waiting = Option.none then tsIdle else tsWaiting) < 2 ^ 64 := by split <;> decide
      exact (TangoGoes.toTango s small).exec (congrArg s.outcome eff)
    · exact congrArg s.outcome (tangoStart_other reached live runs goes)
    · have eff := tangoPauseEff_eq reached
      rw [if_pos mirroring] at eff
      exact ((State.suspendMirror_goes mirroring).after fun t => { t with paused := true }).exec (congrArg s.outcome eff)
    · have eff := tangoPauseEff_eq reached
      rw [if_neg other] at eff
      exact congrArg s.outcome eff
    · exact (TangoGoes.modTango s fun t => { t with frozen := true }).exec (congrArg s.outcome (tangoFreezeEff_eq reached))
    · exact (TangoGoes.modTango s fun t => { t with frozen := false }).exec (congrArg s.outcome (tangoUnfreezeEff_eq reached calm))
    · exact (State.suspendMirror_goes mirroring).exec (congrArg s.outcome (tangoInterruptEff_mirroring ports live left mirroring))
    · exact (TangoGoes.toTango s (by decide)).exec (congrArg s.outcome (tangoInterruptEff_waiting ports live left waits))
    · exact congrArg s.outcome (tangoInterruptEff_ports ports)

end Sys2Proof.Machine

end

section
/-! PROOFS. Mirrors (R308, R309, R311), obligation O40. -/

namespace Sys2Proof.Machine

variable {s : State}

/-! ## Binds of a mirror's slots -/

theorem State.mirrorSlots_regions {l : List (Nat × Nat)} {slots : List MSlot} (h : s.mirrorSlots l = some slots) :
    slots.map (fun x => (x.part, x.region)) = l := by
  induction l generalizing slots with
  | nil =>
    cases h
    rfl
  | cons x l ih =>
    obtain ⟨p, r⟩ := x
    unfold State.mirrorSlots at h
    dsimp only at h
    split at h
    next i rest _ tail =>
      split at h
      · cases h
        rw [List.map_cons, ih tail]
      · cases h
    · cases h

/-- Each slot bound once more, one after another. -/
def State.bindMirror (s : State) (slots : List MSlot) : State := slots.foldl (fun s x => s.bindSlot x.part x.region x.slot) s

theorem State.bindMirror_frame (s : State) (slots : List MSlot) :
    (s.bindMirror slots).tango = s.tango ∧ (∀ j, (s.bindMirror slots).rd j = s.rd j) ∧ (s.bindMirror slots).cores = s.cores ∧
      (s.bindMirror slots).mem = s.mem ∧ (s.bindMirror slots).fab = s.fab :=
  ⟨foldl_keeps State.tango (f := fun s (x : MSlot) => s.bindSlot x.part x.region x.slot) (fun _ _ => rfl) slots s,
    fun j => foldl_keeps (State.rd · j) (f := fun s (x : MSlot) => s.bindSlot x.part x.region x.slot) (fun _ _ => rfl) slots s,
    foldl_keeps State.cores (f := fun s (x : MSlot) => s.bindSlot x.part x.region x.slot) (fun _ _ => rfl) slots s,
    foldl_keeps State.mem (f := fun s (x : MSlot) => s.bindSlot x.part x.region x.slot) (fun _ _ => rfl) slots s,
    foldl_keeps State.fab (f := fun s (x : MSlot) => s.bindSlot x.part x.region x.slot) (fun _ _ => rfl) slots s⟩

theorem State.region_bindSlot (s : State) (p r i p' r' : Nat) : (s.bindSlot p r i).region p' r' =
    if 256 * p' + r' = 256 * p + r then (s.region p r).setSlot i { (s.region p r).slot i with bind := ((s.region p r).slot i).bind + 1 }
    else s.region p' r' := State.region_modSlot_key ..

theorem State.bindMirror_out (slots : List MSlot) (s : State) {p r : Nat} (h : ∀ x ∈ slots, 256 * p + r ≠ 256 * x.part + x.region) :
    (s.bindMirror slots).region p r = s.region p r := by
  induction slots generalizing s with
  | nil => rfl
  | cons x slots ih =>
    exact (ih _ fun y hy => h y (List.mem_cons_of_mem _ hy)).trans ((State.region_bindSlot ..).trans (if_neg (h x List.mem_cons_self)))

theorem State.bindMirror_own (slots : List MSlot) (s : State) (distinct : (slots.map fun x => (x.part, x.region)).Nodup)
    (small : ∀ x ∈ slots, x.region < 256) {x : MSlot} (listed : x ∈ slots) :
    (((s.bindMirror slots).region x.part x.region).slot x.slot).bind = ((s.region x.part x.region).slot x.slot).bind + 1 := by
  induction slots generalizing s with
  | nil => cases listed
  | cons y slots ih =>
    rw [List.map_cons, List.nodup_cons] at distinct
    have apart (z : MSlot) (hz : z ∈ slots) : 256 * z.part + z.region ≠ 256 * y.part + y.region := fun same =>
      distinct.1 (regionKey_inj (x := (z.part, z.region)) (y := (y.part, y.region)) (small z (List.mem_cons_of_mem _ hz))
        (small y List.mem_cons_self) same ▸ List.mem_map_of_mem hz)
    rcases List.mem_cons.1 listed with rfl | later
    · have own : ((s.bindSlot x.part x.region x.slot).bindMirror slots).region x.part x.region =
          (s.bindSlot x.part x.region x.slot).region x.part x.region :=
        State.bindMirror_out slots _ fun z hz same => apart z hz same.symm
      refine (congrArg (fun e : VEntry => (e.slot x.slot).bind) (own.trans ((State.region_bindSlot ..).trans (if_pos rfl)))).trans ?_
      dsimp only
      rw [VEntry.slot_setSlot_self]
    · have kept : (s.bindSlot y.part y.region y.slot).region x.part x.region = s.region x.part x.region :=
        (State.region_bindSlot ..).trans (if_neg (apart x later))
      refine (ih (s.bindSlot y.part y.region y.slot) distinct.2 (fun z hz => small z (List.mem_cons_of_mem _ hz)) later).trans ?_
      rw [kept]

/-! ## Sizes -/

theorem partStarts_from (o : Nat) (l : List Nat) : o ≤ (partStarts o l).2 := by
  induction l generalizing o with
  | nil => exact Nat.le_refl _
  | cons n l ih =>
    unfold partStarts
    have rest := ih (align4K (o + n))
    have up : o + n ≤ align4K (o + n) := by
      unfold align4K
      omega
    dsimp only
    split
    · exact Nat.le_add_right ..
    · omega

theorem chunks_pos (sizes : List Nat) : 0 < (imageSize sizes + chunkBytes - 1) / chunkBytes := by
  have head : 65536 ≤ imageSize sizes := partStarts_from 65536 sizes
  have chunk : 0 < chunkBytes := by decide
  exact Nat.div_pos (by omega) chunk

/-! ## Chunks sent -/

theorem TangoSent.sendPackets (m : Mirror) (dest : FabAddr) (ports : List Nat) (k : Nat) (left off : Nat) (s : State) :
    TangoSent s (sendPackets m dest ports k left off s) := by
  induction left generalizing off s with
  | zero => exact TangoSent.refl s
  | succ left ih =>
    rw [Machine.sendPackets]
    split
    · exact TangoSent.refl s
    · refine TangoSent.trans ?_ (ih _ _)
      split
      · exact TangoSent.sendTango ..
      · exact TangoSent.refl s

theorem State.sendChunk_sends {m : Mirror} (running : s.tango.mirror = some m) (heard : s.tango.heard ≠ none) (left : m.sent < m.chunks)
    (mirroring : s.tangoState = tsMirroring) :
    ∃ u, TangoSent s u ∧ s.sendChunk = u.modTango fun t => { t with mirror := some { m with sent := m.sent + 1 } } := by
  obtain ⟨h, hh⟩ := Option.ne_none_iff_exists'.1 heard
  unfold State.sendChunk
  rw [running, hh]
  dsimp only
  rw [if_pos ⟨left, mirroring⟩]
  exact ⟨_, TangoSent.sendPackets .., rfl⟩

theorem State.heard_of_pairPorts (ports : s.pairPorts ≠ []) : s.tango.heard ≠ none := by
  intro none
  unfold State.pairPorts at ports
  rw [none] at ports
  exact ports rfl

theorem State.tangoState_of_words {t : State} (lower : t.rd (fabKey 3) = s.rd (fabKey 3)) (live : s.superseded = false) :
    t.tangoState = t.rdN (tKey 2) := by
  have live' : t.superseded = false := by
    unfold State.superseded State.rdN at *
    rw [lower]
    exact live
  unfold State.tangoState
  rw [live']
  exact if_neg Bool.false_ne_true

theorem State.live_of_tangoState {st : Nat} (h : s.tangoState = st) (other : st ≠ 7) : s.superseded = false := by
  by_contra no
  unfold State.tangoState at h
  rw [if_pos (Bool.eq_true_of_not_eq_false no)] at h
  exact other h.symm

/-! ## MIRROR_BEGIN (R308) -/

/-- The engine and its registers as a mirror starts. -/
def State.mirrorStarted (s : State) (m : Mirror) : State :=
  (((s.modTango fun x => ({ x with mirror := some m, waiting := none }).setPeer m.bank none).toTango tsMirroring).wrN (tKey 0x0A)
    m.tag.toNat).wrN (tKey 0x0D) 0

theorem TangoSt.setPeer_frame (x : TangoSt) (b : Nat) (v : Option Tag) :
    (x.setPeer b v).mirror = x.mirror ∧ (x.setPeer b v).waiting = x.waiting ∧ (x.setPeer b v).heard = x.heard ∧
      (x.setPeer b v).resumeSent = x.resumeSent := by
  unfold TangoSt.setPeer
  split <;> exact ⟨rfl, rfl, rfl, rfl⟩

theorem State.mirrorStarted_facts (s : State) (m : Mirror) :
    (s.mirrorStarted m).tango.mirror = some m ∧ (s.mirrorStarted m).tango.waiting = none ∧
    (s.mirrorStarted m).tango.heard = s.tango.heard ∧ (s.mirrorStarted m).rdN (tKey 2) = 4 ∧
    (s.mirrorStarted m).rdN (tKey 0x0A) = m.tag.toNat ∧ (s.mirrorStarted m).rdN (tKey 0x0D) = 0 ∧
    (s.mirrorStarted m).rd (fabKey 3) = s.rd (fabKey 3) ∧ sameWork s (s.mirrorStarted m) := by
  obtain ⟨tango, words, work⟩ := s.modTango_frame fun x => ({ x with mirror := some m, waiting := none }).setPeer m.bank none
  obtain ⟨mirror, waiting, heard, _⟩ := ({ s.tango with mirror := some m, waiting := none } : TangoSt).setPeer_frame m.bank none
  unfold State.mirrorStarted
  generalize s.modTango (fun x => ({ x with mirror := some m, waiting := none }).setPeer m.bank none) = u at tango words work
  obtain ⟨state, words', tango', work'⟩ := u.toTango_facts (st := tsMirroring) (by decide)
  generalize u.toTango tsMirroring = w at state words' tango' work'
  have small : m.tag.toNat < 2 ^ 64 := m.tag.isLt.trans (by decide)
  generalize m.tag.toNat = tag at small
  have fabApart (a : Nat) : fabKey 3 ≠ tKey a := by
    simp only [fabKey, tKey, objKey]
    omega
  have engine : ((w.wrN (tKey 0x0A) tag).wrN (tKey 0x0D) 0).tango = w.tango := rfl
  refine ⟨?_, ?_, ?_, ?_, ?_, State.rdN_wrN _ (by decide), ?_, ?_⟩
  · rw [engine, tango', tango, mirror]
  · rw [engine, tango', tango, waiting]
  · rw [engine, tango', tango, heard]
  · rw [State.rdN_wrN_ne _ _ (tKey_ne (by decide)), State.rdN_wrN_ne _ _ (tKey_ne (by decide)), state]
    rfl
  · rw [State.rdN_wrN_ne _ _ (tKey_ne (by decide)), State.rdN_wrN _ small]
  · rw [State.rd_wrN_ne _ _ (fabApart _), State.rd_wrN_ne _ _ (fabApart _), words' _ (fabApart _), words]
  · exact sameWork_trans work (sameWork_trans work' (sameWork_trans (State.wrN_sameWork ..) (State.wrN_sameWork ..)))

/-- Where a mirror reads first. -/
def mirrorHead : List MSlot → Nat
  | x :: _ => x.base
  | [] => 0

section
variable {tag : Tag} {fence b : Nat} {late : Bool} {slots : List MSlot} {o : ShellOutcome} (waits : s.tangoState = tsWaiting)
  (idle : s.tango.mirror = none) (ports : s.pairPorts ≠ []) (next : s.tango.waiting = some (tag, fence, late))
  (bank : s.targetBank = some b) (held : s.mirrorSlots s.tango.inForce = some slots)
  (room : imageSize (slots.map fun x => x.size) ≤ s.rdN (tKey 9))
include waits idle ports next bank held room

theorem mirrorBeginEff_bad (bad : o.bad = true) : ∃ a, mirrorBeginEff o s = s.memMeets a o := by
  unfold mirrorBeginEff
  rw [if_neg (by simp [waits, idle, ports]), next, bank, held]
  dsimp only
  rw [if_neg (Nat.not_lt.2 room), if_pos bad]
  exact ⟨_, rfl⟩

theorem mirrorBeginEff_good (good : o.bad = false) : ∃ a m, mirrorBeginEff o s =
      (((((s.memNote a o).bindMirror slots).mirrorStarted m).sendPair tag 2 b m.chunks m.bytes)).sendChunk ∧
    m.tag = tag ∧ m.bank = b ∧ m.slots = slots ∧ m.sent = 0 ∧ m.acked = 0 ∧ m.bytes = imageSize (slots.map fun x => x.size) ∧
    m.chunks = (imageSize (slots.map fun x => x.size) + chunkBytes - 1) / chunkBytes := by
  unfold mirrorBeginEff
  rw [if_neg (by simp [waits, idle, ports]), next, bank, held]
  dsimp only
  rw [if_neg (Nat.not_lt.2 room), if_neg (by simp [good])]
  generalize chunkBytes = chunk
  exact ⟨mirrorHead slots, ⟨tag, fence, b, slots, ((s.memNote (mirrorHead slots) o).bindMirror slots).controlRecord tag slots, imageSize (slots.map fun x => x.size),
    (imageSize (slots.map fun x => x.size) + chunk - 1) / chunk, 0, 0, true, late⟩, rfl, rfl, rfl, rfl, rfl, rfl, rfl, rfl⟩

end

/-- The mirror begun: its BEGIN and its first chunk are sent. -/
theorem State.mirrorBegun_facts {u : State} {m : Mirror} (heard : u.tango.heard ≠ none) (live : u.superseded = false) (unsent : m.sent = 0)
    (some_ : 0 < m.chunks) (b bytes : Nat) {t : State} (ht : t = ((u.mirrorStarted m).sendPair m.tag 2 b m.chunks bytes).sendChunk) :
    t.tango.mirror = some { m with sent := 1 } ∧ t.tango.waiting = none ∧ t.rdN (tKey 2) = 4 ∧ t.rdN (tKey 0x0A) = m.tag.toNat ∧
    t.rdN (tKey 0x0D) = 0 ∧ sameWork u t := by
  obtain ⟨mirror, waiting, heard', state, named, acked, lower, work⟩ := u.mirrorStarted_facts m
  generalize u.mirrorStarted m = w at mirror waiting heard' state named acked lower work ht
  have sent := TangoSent.sendPair w m.tag 2 b m.chunks bytes
  generalize w.sendPair m.tag 2 b m.chunks bytes = v at sent ht
  have mirroring : v.tangoState = tsMirroring := by
    rw [State.tangoState_of_words (s := u) ((sent.word _).trans lower) live, sent.rdN, state]
    rfl
  obtain ⟨x, sent', eq⟩ := State.sendChunk_sends (s := v) (m := m) (by rw [sent.tango, mirror]) (by rw [sent.tango, heard']; exact heard)
    (by rw [unsent]; exact some_) mirroring
  have whole := sent.trans sent'
  obtain ⟨last, words, work'⟩ := x.modTango_frame fun t => { t with mirror := some { m with sent := m.sent + 1 } }
  rw [← eq, ← ht] at last words work'
  have rdN (j : Nat) : t.rdN j = w.rdN j := (congrArg BitVec.toNat (words j)).trans (whole.rdN j)
  refine ⟨?_, ?_, (rdN _).trans state, (rdN _).trans named, (rdN _).trans acked, sameWork_trans work (sameWork_trans whole.work work')⟩
  · rw [last, unsent]
  · rw [last]
    exact (congrArg TangoSt.waiting whole.tango).trans waiting

theorem mirrorBegin_facts {tag : Tag} {fence b : Nat} {late : Bool} {slots : List MSlot} {o : ShellOutcome}
    (waits : s.tangoState = tsWaiting) (idle : s.tango.mirror = none) (ports : s.pairPorts ≠ [])
    (next : s.tango.waiting = some (tag, fence, late)) (bank : s.targetBank = some b) (held : s.mirrorSlots s.tango.inForce = some slots)
    (distinct : s.tango.inForce.Nodup) (small : ∀ x ∈ s.tango.inForce, x.2 < 256)
    (room : imageSize (slots.map fun x => x.size) ≤ s.rdN (tKey 9)) (good : o.bad = false) {t : State} (ht : t = mirrorBeginEff o s) :
    ∃ m : Mirror, t.tango.mirror = some m ∧ m.tag = tag ∧ m.bank = b ∧ m.slots = slots ∧ m.sent = 1 ∧ m.acked = 0 ∧
      m.bytes = imageSize (slots.map fun x => x.size) ∧ t.tango.waiting = none ∧ t.rdN (tKey 2) = 4 ∧ t.rdN (tKey 0x0A) = tag.toNat ∧
      t.rdN (tKey 0x0D) = 0 ∧ t.cores = s.cores ∧ t.mem = s.mem ∧
      ∀ x ∈ slots, ((t.region x.part x.region).slot x.slot).bind = ((s.region x.part x.region).slot x.slot).bind + 1 := by
  obtain ⟨a, m, eff, named, inBank, copies, unsent, unacked, bytes, chunks⟩ := mirrorBeginEff_good waits idle ports next bank held room good
  have live := State.live_of_tangoState waits (by decide)
  have noted := Faulted.memNote s a o
  generalize s.memNote a o = n at noted eff
  have regions := State.mirrorSlots_regions held
  obtain ⟨tango, words, cores, mem, _⟩ := n.bindMirror_frame slots
  have own (x : MSlot) (hx : x ∈ slots) := State.bindMirror_own slots n (by rw [regions]; exact distinct)
    (fun y hy => small (y.part, y.region) (regions ▸ List.mem_map_of_mem hy)) hx
  generalize n.bindMirror slots = u at tango words cores mem own eff
  have lower : u.rd (fabKey 3) = s.rd (fabKey 3) := (words _).trans (noted.word _ (by decide))
  have live' : u.superseded = false := by
    unfold State.superseded State.rdN at *
    rw [lower]
    exact live
  have heard : u.tango.heard ≠ none := by
    rw [tango, noted.tango]
    exact State.heard_of_pairPorts ports
  have begun : t = ((u.mirrorStarted m).sendPair m.tag 2 b m.chunks m.bytes).sendChunk := by rw [ht, eff, named]
  obtain ⟨mirror, waiting, state, shown, acked, work⟩ := State.mirrorBegun_facts heard live' unsent (by rw [chunks]; exact chunks_pos _) b
    m.bytes begun
  obtain ⟨cores', mem', _, _, _, _, versions', _⟩ := work
  obtain ⟨cores'', mem'', _, _, _, _, versions'', _⟩ := noted.work
  refine ⟨_, mirror, named, inBank, copies, rfl, unacked, bytes, waiting, state, by rw [shown, named], acked,
    cores'.trans (cores.trans cores''), mem'.trans (mem.trans mem''), fun x hx => ?_⟩
  have last : t.region x.part x.region = u.region x.part x.region :=
    congrArg (fun v => mget VEntry.reset v (256 * x.part + x.region)) versions'
  have first : n.region x.part x.region = s.region x.part x.region :=
    congrArg (fun v => mget VEntry.reset v (256 * x.part + x.region)) versions''
  rw [last, own x hx, first]

/-! ## Acknowledgements (R308) -/

theorem foldl_unbind_frame {β : Type} (c : β → Bool) (x : β → MSlot) (l : List β) (loads : ∀ p, (s.loader p).st ≠ .waitSlot) :
    (l.foldl (fun s y => if c y then s.tangoUnbind (x y).part (x y).region (x y).slot else s) s).tango = s.tango ∧
    ∀ j, (l.foldl (fun s y => if c y then s.tangoUnbind (x y).part (x y).region (x y).slot else s) s).rd j = s.rd j := by
  have run : ∀ u : State, u.loaders = s.loaders → u.tango = s.tango → (∀ j, u.rd j = s.rd j) →
      (l.foldl (fun s y => if c y then s.tangoUnbind (x y).part (x y).region (x y).slot else s) u).tango = s.tango ∧
      ∀ j, (l.foldl (fun s y => if c y then s.tangoUnbind (x y).part (x y).region (x y).slot else s) u).rd j = s.rd j := by
    induction l with
    | nil => exact fun _ _ tango words => ⟨tango, words⟩
    | cons y l ih =>
      intro u loaders tango words
      rw [List.foldl_cons]
      split
      · have busy : (((u.unbindSlot (x y).part (x y).region (x y).slot).loader (x y).part).st) ≠ .waitSlot := by
          have same : (u.unbindSlot (x y).part (x y).region (x y).slot).loaders = s.loaders := loaders
          rw [State.loader_of_loaders same]
          exact loads _
        unfold State.tangoUnbind
        rw [State.pollLoader_busy busy]
        exact ih _ loaders tango words
      · exact ih u loaders tango words
  exact run s rfl rfl fun _ => rfl

theorem State.dropAcked_frame {m : Mirror} (running : s.tango.mirror = some m) (loads : ∀ p, (s.loader p).st ≠ .waitSlot) :
    ∃ slots, s.dropAcked.tango = { s.tango with mirror := some { m with slots := slots } } ∧ ∀ j, s.dropAcked.rd j = s.rd j := by
  unfold State.dropAcked
  rw [running]
  dsimp only
  generalize (m.slots.zip (partStarts 65536 (m.slots.map fun x => x.size)).1).map (fun x => (x.1, x.2 + x.1.size)) = ends
  obtain ⟨tango, words⟩ := foldl_unbind_frame (fun y : MSlot × Nat => y.1.bound && decide (y.2 ≤ m.acked * chunkBytes)) Prod.fst ends loads
  generalize ends.foldl (fun s (y : MSlot × Nat) => if y.1.bound && decide (y.2 ≤ m.acked * chunkBytes) then
    s.tangoUnbind y.1.part y.1.region y.1.slot else s) s = u at tango words
  generalize (ends.map fun x => { x.1 with bound := x.1.bound && !decide (x.2 ≤ m.acked * chunkBytes) }) = slots
  exact ⟨slots, congrArg (fun t : TangoSt => { t with mirror := some { m with slots := slots } }) tango, words⟩

/-- The count of acknowledged chunks and bytes raised. -/
def State.ackCounted (s : State) (m : Mirror) (k bytes : Nat) : State :=
  ((s.modTango fun t => { t with mirror := some { m with acked := k } }).wrN (tKey 0x0D) k).count (tKey 0x11) bytes

theorem State.ackCounted_facts (s : State) (m : Mirror) (k bytes : Nat) :
    (s.ackCounted m k bytes).tango = { s.tango with mirror := some { m with acked := k } } ∧
    (∀ j, j ≠ tKey 0x0D → j ≠ tKey 0x11 → (s.ackCounted m k bytes).rd j = s.rd j) ∧
    (s.ackCounted m k bytes).loaders = s.loaders ∧ sameWork s (s.ackCounted m k bytes) := by
  obtain ⟨tango, words, work⟩ := s.modTango_frame fun t => { t with mirror := some { m with acked := k } }
  have loaders : (s.modTango fun t => { t with mirror := some { m with acked := k } }).loaders = s.loaders := rfl
  unfold State.ackCounted
  generalize s.modTango (fun t => { t with mirror := some { m with acked := k } }) = u at tango words work loaders
  have written : (u.wrN (tKey 0x0D) k).tango = u.tango ∧ (u.wrN (tKey 0x0D) k).loaders = u.loaders := ⟨rfl, rfl⟩
  have away (j : Nat) (h : j ≠ tKey 0x0D) : (u.wrN (tKey 0x0D) k).rd j = u.rd j := u.rd_wrN_ne k h
  have kept : sameWork u (u.wrN (tKey 0x0D) k) := State.wrN_sameWork ..
  generalize u.wrN (tKey 0x0D) k = w at written away kept
  have view := w.count_unreported (tKey 0x11) bytes
  refine ⟨?_, fun j h h' => ?_, ?_, sameWork_trans work (sameWork_trans kept (sameWork_of_unreported_eq view))⟩
  · rw [State.tango_of_unreported view, written.1, tango]
  · rw [State.rd_count_ne _ _ h', away j h, words]
  · rw [State.loaders_of_unreported view, written.2, loaders]

/-- Whatever is acknowledged, the mirror's count rises to `k` while chunks are left. -/
theorem State.ackTo_partial {m : Mirror} (running : s.tango.mirror = some m) (loads : ∀ p, (s.loader p).st ≠ .waitSlot) {k : Nat}
    (left : k < m.chunks) :
    ∃ slots, (s.ackTo k).tango = { s.tango with mirror := some { m with acked := k, slots := slots } } ∧
      ∀ j, j ≠ tKey 0x0D → j ≠ tKey 0x11 → (s.ackTo k).rd j = s.rd j := by
  have eff : ∃ bytes, s.ackTo k = (s.ackCounted m k bytes).dropAcked := by
    unfold State.ackTo
    rw [running]
    dsimp only
    rw [if_pos left]
    exact ⟨_, rfl⟩
  obtain ⟨bytes, eff⟩ := eff
  obtain ⟨tango, words, loaders, _⟩ := s.ackCounted_facts m k bytes
  rw [eff]
  generalize s.ackCounted m k bytes = u at tango words loaders
  obtain ⟨slots, last, words'⟩ := State.dropAcked_frame (s := u) (m := { m with acked := k }) (by rw [tango]) fun p => by
    rw [State.loader_of_loaders loaders]
    exact loads p
  refine ⟨slots, ?_, fun j h h' => (words' j).trans (words j h h')⟩
  rw [last, tango]

/-- The end of a mirror: its COMPLETE is sent, and its tag is the newest that the partner has. -/
def State.mirrorEnds (s : State) (m : Mirror) : State :=
  let s := (s.sendPair m.tag 4 m.bank 0 m.bytes).wrN (tKey 0x0B) (2 ^ 16 + m.tag.toNat)
  let s := s.modTango fun t => ({ t with mirror := none }).setPeer m.bank (some m.tag)
  s.toTango (if s.tango.waiting.isSome then tsWaiting else tsIdle)

theorem State.mirrorEnds_facts (s : State) (m : Mirror) :
    (s.mirrorEnds m).tango.mirror = none ∧ (s.mirrorEnds m).rdN (tKey 0x0B) = 2 ^ 16 + m.tag.toNat ∧
    (s.mirrorEnds m).rdN (tKey 2) = if s.tango.waiting = none then 3 else 5 := by
  have sent := TangoSent.sendPair s m.tag 4 m.bank 0 m.bytes
  unfold State.mirrorEnds
  generalize s.sendPair m.tag 4 m.bank 0 m.bytes = u at sent
  have room : 2 ^ 16 + m.tag.toNat < 2 ^ 64 := by
    have := m.tag.isLt
    omega
  generalize 2 ^ 16 + m.tag.toNat = v at room
  have shown : (u.wrN (tKey 0x0B) v).rdN (tKey 0x0B) = v := State.rdN_wrN _ room
  have engine : (u.wrN (tKey 0x0B) v).tango = u.tango := rfl
  generalize u.wrN (tKey 0x0B) v = w at shown engine
  obtain ⟨last, words, _⟩ := w.modTango_frame fun t => ({ t with mirror := none }).setPeer m.bank (some m.tag)
  obtain ⟨mirror, waiting, _, _⟩ := ({ w.tango with mirror := none } : TangoSt).setPeer_frame m.bank (some m.tag)
  dsimp only
  generalize w.modTango (fun t => ({ t with mirror := none }).setPeer m.bank (some m.tag)) = x at last words
  have waits : x.tango.waiting = s.tango.waiting := by
    rw [last, waiting, engine, sent.tango]
  rw [waits]
  have small : (if s.tango.waiting.isSome then tsWaiting else tsIdle) < 2 ^ 64 := by split <;> decide
  obtain ⟨state, words', tango', _⟩ := x.toTango_facts small
  refine ⟨?_, ?_, ?_⟩
  · rw [tango', last, mirror]
  · rw [State.rdN, words' _ (tKey_ne (by decide)), words]
    exact shown
  · rw [state]
    cases s.tango.waiting <;> rfl

theorem State.ackTo_last {m : Mirror} (running : s.tango.mirror = some m) (loads : ∀ p, (s.loader p).st ≠ .waitSlot) {k : Nat}
    (whole : m.chunks ≤ k) :
    (s.ackTo k).tango.mirror = none ∧ (s.ackTo k).rdN (tKey 0x0B) = 2 ^ 16 + m.tag.toNat ∧
    (s.ackTo k).rdN (tKey 2) = if s.tango.waiting = none then 3 else 5 := by
  have eff : ∃ bytes, s.ackTo k = (s.ackCounted m k bytes).dropAcked.mirrorEnds { m with acked := k } := by
    unfold State.ackTo
    rw [running]
    dsimp only
    rw [if_neg (Nat.not_lt.2 whole)]
    exact ⟨_, rfl⟩
  obtain ⟨bytes, eff⟩ := eff
  obtain ⟨tango, _, loaders, _⟩ := s.ackCounted_facts m k bytes
  rw [eff]
  generalize s.ackCounted m k bytes = u at tango loaders
  obtain ⟨slots, last, _⟩ := State.dropAcked_frame (s := u) (m := { m with acked := k }) (by rw [tango]) fun p => by
    rw [State.loader_of_loaders loaders]
    exact loads p
  have waits : u.dropAcked.tango.waiting = s.tango.waiting := by rw [last, tango]
  rw [← waits]
  exact State.mirrorEnds_facts ..

theorem tangoAckEff_counts {pkt : Packet} {m : Mirror} (pair : s.fromPair pkt = true) (mirroring : s.tangoState = tsMirroring)
    (running : s.tango.mirror = some m) (next : ctlField pkt 4 4 = m.acked) (sent : m.acked < m.sent) :
    tangoAckEff pkt s = s.ackTo (m.acked + 1) := by
  unfold tangoAckEff
  rw [running]
  exact if_pos ⟨pair, mirroring, next, sent⟩

/-! ## MIRROR_LATE (R309) -/

theorem State.lateMirror_facts (s : State) :
    s.lateMirror.tango = s.tango ∧ s.lateMirror.rdN (tKey 0x0F) = min (s.rdN (tKey 0x0F) + 1) (2 ^ 32 - 1) ∧ sameWork s s.lateMirror := by
  have view := s.count32Sat_unreported (tKey 0x0F) 1
  have counted := State.rdN_count32Sat s (tKey 0x0F) 1
  unfold State.lateMirror
  generalize s.count32Sat (tKey 0x0F) 1 = u at view counted
  have view' := u.healthEvent_unreported
  have words := u.healthEvent_rd (tKey 0x0F)
  generalize u.healthEvent = w at view' words
  refine ⟨?_, ?_, sameWork_trans (sameWork_of_unreported_eq view) (sameWork_of_unreported_eq view')⟩
  · rw [State.tango_of_unreported view', State.tango_of_unreported view]
  · rw [State.rdN, words]
    exact counted

section
variable (live : s.superseded = false)
include live

theorem mirrorLateEff_running {m : Mirror} (running : s.tango.mirror = some m) (none : s.tango.waiting = none) :
    mirrorLateEff s = if !m.late && decide (m.fence + s.rdN (tKey 0x0E) ≤ s.beatIx) then
      (s.modTango fun t => { t with mirror := some { m with late := true } }).lateMirror else s := by
  unfold mirrorLateEff
  rw [if_neg (by simp [live]), running]
  dsimp only
  have waits : (if !m.late && decide (m.fence + s.rdN (tKey 0x0E) ≤ s.beatIx) then
      (s.modTango fun t => { t with mirror := some { m with late := true } }).lateMirror else s).tango.waiting = Option.none := by
    split
    · rw [(State.lateMirror_facts _).1]
      exact none
    · exact none
  rw [waits]

theorem mirrorLateEff_waiting {tag : Tag} {fence : Nat} (idle : s.tango.mirror = none) (waits : s.tango.waiting = some (tag, fence, false))
    (due : fence + s.rdN (tKey 0x0E) ≤ s.beatIx) :
    mirrorLateEff s = (s.modTango fun x => { x with waiting := some (tag, fence, true) }).lateMirror := by
  unfold mirrorLateEff
  rw [if_neg (by simp [live]), idle]
  dsimp only
  rw [waits]
  dsimp only
  rw [if_pos (decide_eq_true due)]

end

/-! ## RESUME and RESUME_REPLY (R311) -/

theorem tangoResumeEff_filling {pkt : Packet} (pair : s.fromPair pkt = true) (live : s.superseded = false) {b : Nat}
    (hb : b = if s.tango.bank0.st = .filling then 0 else 1) (filling : (s.tango.bank b).st = .filling) :
    TangoSent (s.modTango fun t => { t with rxBank := some b, rxBytes := [] }) (tangoResumeEff pkt s) := by
  have eff : tangoResumeEff pkt s = (s.modTango fun t => { t with rxBank := some b, rxBytes := [] }).sendPair (s.tango.bank b).tag 6 b
      (s.tango.bank b).chunks 0 := by
    unfold tangoResumeEff
    rw [if_neg (by simp [pair, live])]
    dsimp only
    rw [← hb, if_pos filling]
  rw [eff]
  exact TangoSent.sendPair ..

theorem tangoResumeEff_empty {pkt : Packet} (pair : s.fromPair pkt = true) (live : s.superseded = false)
    (first : s.tango.bank0.st ≠ .filling) (second : s.tango.bank1.st ≠ .filling) : TangoSent s (tangoResumeEff pkt s) := by
  have eff : tangoResumeEff pkt s = s.sendPair 0 6 0xFF 0 0 := by
    unfold tangoResumeEff
    rw [if_neg (by simp [pair, live])]
    dsimp only
    rw [if_neg first, if_neg]
    exact second
  rw [eff]
  exact TangoSent.sendPair ..

theorem State.retake_congr {t : State} (versions : t.versions = s.versions) (m : Mirror) : t.retake m = s.retake m := by
  unfold State.retake State.region
  rw [versions]

/-- A RESUME_REPLY counted, and waited for no longer. -/
def State.replied (s : State) : State := (s.modTango fun t => { t with resumeSent := false }).count32Sat (tKey 0x17) 1

theorem State.replied_facts (s : State) :
    s.replied.tango = { s.tango with resumeSent := false } ∧ s.replied.rdN (tKey 0x17) = min (s.rdN (tKey 0x17) + 1) (2 ^ 32 - 1) ∧
    (∀ j, j ≠ tKey 0x17 → s.replied.rd j = s.rd j) ∧ s.replied.loaders = s.loaders ∧ sameWork s s.replied := by
  obtain ⟨tango, words, work⟩ := s.modTango_frame fun t => { t with resumeSent := false }
  have loaders : (s.modTango fun t => { t with resumeSent := false }).loaders = s.loaders := rfl
  unfold State.replied
  generalize s.modTango (fun t => { t with resumeSent := false }) = u at tango words work loaders
  have view := u.count32Sat_unreported (tKey 0x17) 1
  refine ⟨?_, ?_, fun j other => ?_, ?_, sameWork_trans work (sameWork_of_unreported_eq view)⟩
  · rw [State.tango_of_unreported view, tango]
  · rw [State.rdN_count32Sat, State.rdN, words]
    rfl
  · rw [State.rd_count32Sat_ne _ _ other, words]
  · rw [State.loaders_of_unreported view, loaders]

/-- The slots that a resumed mirror does not hold yet bound again. -/
def State.rebound (s : State) (l : List (MSlot × MSlot)) : State :=
  l.foldl (fun s x => if x.2.bound then s else s.bindSlot x.1.part x.1.region x.1.slot) s

theorem State.rebound_frame (s : State) (l : List (MSlot × MSlot)) :
    (s.rebound l).tango = s.tango ∧ (∀ j, (s.rebound l).rd j = s.rd j) ∧ (s.rebound l).loaders = s.loaders ∧
      (s.rebound l).untangled = s.untangled := by
  have step {α : Type} (v : State → α) (h : ∀ (s : State) p r i, v (s.bindSlot p r i) = v s) : v (s.rebound l) = v s :=
    foldl_keeps v (f := fun s (x : MSlot × MSlot) => if x.2.bound then s else s.bindSlot x.1.part x.1.region x.1.slot)
      (fun s x => by split <;> [rfl; exact h ..]) l s
  exact ⟨step State.tango fun _ _ _ _ => rfl, fun j => step (State.rd · j) fun _ _ _ _ => rfl, step State.loaders fun _ _ _ _ => rfl,
    step State.untangled fun _ _ _ _ => State.untangled_of_unloaded (State.bindSlot_unloaded ..)⟩

/-- The mirror that goes on from the chunk that a reply names. -/
def Mirror.resumed (m : Mirror) (slots : List MSlot) (pkt : Packet) : Mirror :=
  { m with slots := slots.map (fun x => { x with bound := true }), sent := ctlField pkt 4 4, bank := ctlField pkt 1 1 }

section
variable {pkt : Packet} {m : Mirror} (pair : s.fromPair pkt = true) (asked : s.tango.resumeSent = true)
  (suspended : s.tangoState = tsSuspended) (running : s.tango.mirror = some m)
include pair asked suspended running

theorem resumeReplyEff_eq : resumeReplyEff pkt s =
    match (if pkt.step = m.tag ∧ ctlField pkt 4 4 ≤ m.chunks then s.replied.retake m else none) with
      | some slots =>
        (((((s.replied.rebound (slots.zip m.slots)).modTango fun t => { t with mirror := some (m.resumed slots pkt) }).toTango
          tsMirroring).ackTo (ctlField pkt 4 4)).sendChunk)
      | none =>
        match s.replied.dropMirror.tango.waiting, s.replied.dropMirror.tango.lastFence with
        | some _, _ => s.replied.dropMirror.toTango tsWaiting
        | none, some t => (s.replied.dropMirror.modTango fun x => { x with waiting := some (t, s.replied.dropMirror.beatIx, false) }).toTango
            tsWaiting
        | none, none => s.replied.dropMirror.toTango tsIdle := by
  unfold resumeReplyEff
  rw [if_neg (by simp [pair, asked, suspended]), running]
  rfl

theorem resumeReply_goesOn (loads : ∀ p, (s.loader p).st ≠ .waitSlot) {slots : List MSlot} (tag : pkt.step = m.tag)
    (left : ctlField pkt 4 4 < m.chunks) (ports : s.pairPorts ≠ []) (held : s.retake m = some slots) {t : State}
    (ht : t = resumeReplyEff pkt s) :
    ∃ m' : Mirror, t.tango.mirror = some m' ∧ m'.acked = ctlField pkt 4 4 ∧ m'.sent = ctlField pkt 4 4 + 1 ∧ m'.bank = ctlField pkt 1 1 ∧
      t.rdN (tKey 2) = 4 ∧ t.tango.resumeSent = false ∧ t.rdN (tKey 0x17) = min (s.rdN (tKey 0x17) + 1) (2 ^ 32 - 1) ∧
      t.cores = s.cores ∧ t.mem = s.mem := by
  have live := State.live_of_tangoState suspended (by decide)
  obtain ⟨tango, counted, words, loaders, work⟩ := s.replied_facts
  have eff := resumeReplyEff_eq pair asked suspended running
  rw [if_pos ⟨tag, Nat.le_of_lt left⟩, State.retake_congr (s := s) work.2.2.2.2.2.2.1, held] at eff
  dsimp only at eff
  rw [← ht] at eff
  generalize s.replied = u at tango counted words loaders work eff
  obtain ⟨tango1, words1, loaders1, view1⟩ := u.rebound_frame (slots.zip m.slots)
  generalize u.rebound (slots.zip m.slots) = v at tango1 words1 loaders1 view1 eff
  obtain ⟨tango2, words2, work2⟩ := v.modTango_frame fun t => { t with mirror := some (m.resumed slots pkt) }
  have loaders2 : (v.modTango fun t => { t with mirror := some (m.resumed slots pkt) }).loaders = v.loaders := rfl
  have view2 := v.modTango_untangled fun t => { t with mirror := some (m.resumed slots pkt) }
  generalize (v.modTango fun t => { t with mirror := some (m.resumed slots pkt) }) = w at tango2 words2 work2 loaders2 view2 eff
  obtain ⟨state3, words3, tango3, work3⟩ := w.toTango_facts (st := tsMirroring) (by decide)
  have loaders3 : (w.toTango tsMirroring).loaders = w.loaders := rfl
  have view3 := State.untangled_of_unreported (State.toTango_unreported w tsMirroring)
  generalize w.toTango tsMirroring = x at state3 words3 tango3 work3 loaders3 view3 eff
  have engine : x.tango = { s.tango with resumeSent := false, mirror := some (m.resumed slots pkt) } := by
    rw [tango3, tango2, tango1, tango]
  have mirror : x.tango.mirror = some (m.resumed slots pkt) := by rw [engine]
  obtain ⟨slots', tango4, words4⟩ := State.ackTo_partial (s := x) mirror (fun p => by
    rw [State.loader_of_loaders (loaders3.trans (loaders2.trans (loaders1.trans loaders)))]
    exact loads p) (k := ctlField pkt 4 4) left
  have view4 := x.ackTo_untangled (ctlField pkt 4 4)
  generalize x.ackTo (ctlField pkt 4 4) = y at tango4 words4 view4 eff
  have fabApart (a : Nat) : fabKey 3 ≠ tKey a := by
    simp only [fabKey, tKey, objKey]
    omega
  have lower : y.rd (fabKey 3) = s.rd (fabKey 3) := by
    rw [words4 _ (fabApart _) (fabApart _), words3 _ (fabApart _), words2, words1, words _ (fabApart _)]
  have state4 : y.rdN (tKey 2) = 4 := by
    rw [State.rdN, words4 _ (tKey_ne (by decide)) (tKey_ne (by decide))]
    exact state3
  obtain ⟨m', mirror4, acked4, sent4, bank4, chunks4⟩ : ∃ m' : Mirror, y.tango.mirror = some m' ∧ m'.acked = ctlField pkt 4 4 ∧
      m'.sent = ctlField pkt 4 4 ∧ m'.bank = ctlField pkt 1 1 ∧ m'.chunks = m.chunks := ⟨_, congrArg TangoSt.mirror tango4, rfl, rfl, rfl, rfl⟩
  have waits4 : y.tango.resumeSent = false ∧ y.tango.heard = s.tango.heard := by
    rw [tango4, engine]
    exact ⟨rfl, rfl⟩
  obtain ⟨z, chunk, last⟩ := State.sendChunk_sends mirror4 (by
    rw [waits4.2]
    exact State.heard_of_pairPorts ports) (by omega) ((State.tangoState_of_words lower live).trans state4)
  have view5 := y.sendChunk_untangled
  rw [← eff] at view5 last
  have whole := view5.trans (view4.trans (view3.trans (view2.trans view1)))
  obtain ⟨cores, mem, _⟩ := work
  have waits5 : z.tango.resumeSent = false := by rw [chunk.tango, waits4.1]
  obtain ⟨mirror5, waits6, words5⟩ : t.tango.mirror = some { m' with sent := m'.sent + 1 } ∧ t.tango.resumeSent = false ∧
      ∀ j, t.rd j = z.rd j := by
    rw [last]
    exact ⟨rfl, waits5, fun _ => rfl⟩
  have total : t.rdN (tKey 0x17) = min (s.rdN (tKey 0x17) + 1) (2 ^ 32 - 1) := by
    rw [State.rdN, words5, chunk.word, words4 _ (tKey_ne (by decide)) (tKey_ne (by decide)), words3 _ (tKey_ne (by decide)), words2,
      words1]
    exact counted
  have state5 : t.rdN (tKey 2) = 4 := by
    rw [State.rdN, words5, chunk.word]
    exact state4
  exact ⟨_, mirror5, acked4, congrArg (· + 1) sent4, bank4, state5, waits6, total, (State.cores_of_untangled whole).trans cores,
    (State.mem_of_untangled whole).trans mem⟩

theorem resumeReply_ends (tag : pkt.step ≠ m.tag) {t : State} (ht : t = resumeReplyEff pkt s) :
    t.tango.mirror = none ∧ t.tango.resumeSent = false ∧
      (∀ f, s.tango.lastFence = some f → t.rdN (tKey 2) = 5 ∧ t.tango.waiting ≠ none) ∧ t.cores = s.cores ∧ t.mem = s.mem := by
  obtain ⟨tango, _, _, _, work⟩ := s.replied_facts
  have eff := resumeReplyEff_eq pair asked suspended running
  rw [if_neg fun h => tag h.1] at eff
  dsimp only at eff
  rw [← ht] at eff
  generalize s.replied = u at tango work eff
  have dropped : u.dropMirror.tango = { s.tango with mirror := none, resumeSent := false } := by
    have engine := State.dropMirrorBinds_tango (s := u) (m := m) (by rw [tango, running])
    rw [State.dropMirror, (State.modTango_frame _ _).1, engine, tango]
  have view : u.dropMirror.untangled = u.untangled := (State.modTango_untangled ..).trans u.dropMirrorBinds_untangled
  have cores := (State.cores_of_untangled view).trans work.1
  have mem := (State.mem_of_untangled view).trans work.2.1
  generalize u.dropMirror = v at dropped cores mem eff
  have atState (w : State) (st : Nat) (small : st < 2 ^ 64) (work : sameWork v w) (mirror : w.tango.mirror = none)
      (waits : w.tango.resumeSent = false) (next : ∀ f, s.tango.lastFence = some f → st = 5 ∧ w.tango.waiting ≠ none)
      (ht : t = w.toTango st) : t.tango.mirror = none ∧ t.tango.resumeSent = false ∧
      (∀ f, s.tango.lastFence = some f → t.rdN (tKey 2) = 5 ∧ t.tango.waiting ≠ none) ∧ t.cores = s.cores ∧ t.mem = s.mem := by
    obtain ⟨state, _, same, work'⟩ := w.toTango_facts small
    rw [ht, same]
    exact ⟨mirror, waits, fun f hf => ⟨state.trans (next f hf).1, (next f hf).2⟩, work'.1.trans (work.1.trans cores),
      work'.2.1.trans (work.2.1.trans mem)⟩
  split at eff
  next tag' fence hw =>
    exact atState v tsWaiting (by decide) (sameWork_refl v) (by rw [dropped]) (by rw [dropped]) (fun f _ => ⟨rfl, by simp [hw]⟩) eff
  next f none hf =>
    obtain ⟨tango', _, work'⟩ := v.modTango_frame fun x => { x with waiting := some (f, v.beatIx, false) }
    exact atState _ tsWaiting (by decide) work' (by rw [tango', dropped]) (by rw [tango', dropped]) (fun f _ => ⟨rfl, by simp [tango']⟩) eff
  next none noFence =>
    refine atState v tsIdle (by decide) (sameWork_refl v) (by rw [dropped]) (by rw [dropped]) (fun f hf => ?_) eff
    rw [dropped, hf] at noFence
    cases noFence

end

/-- Settles O40: each of the engine's own steps by the frame of what it sends, binds and counts. -/
theorem mirrorsRunAndResume : Obligations.MirrorsRunAndResume := by
  unfold Obligations.MirrorsRunAndResume
  refine ⟨⟨?_, ?_, ?_⟩, ?_, ?_⟩
  · intro s tag fence b late slots waits idle ports next bank held distinct small room
    refine ⟨fun o bad => ?_, fun o good => ?_⟩
    · obtain ⟨a, eff⟩ := mirrorBeginEff_bad waits idle ports next bank held room bad
      have noted := Faulted.memMeets s a o
      obtain ⟨cores, mem, _, _, _, _, versions, _⟩ := noted.work
      exact ⟨_, congrArg s.outcome eff, noted.tango, versions, cores, mem⟩
    · obtain ⟨m, facts⟩ := mirrorBegin_facts waits idle ports next bank held distinct small room good rfl
      exact ⟨_, m, rfl, facts⟩
  · intro pkt s m pair mirroring running next sent loads
    have eff := tangoAckEff_counts pair mirroring running next sent
    have view := s.ackTo_untangled (m.acked + 1)
    have cores := State.cores_of_untangled view
    have mem := State.mem_of_untangled view
    refine ⟨fun left => ?_, fun whole => ?_⟩
    · obtain ⟨slots, tango, words⟩ := State.ackTo_partial running loads left
      exact ⟨_, _, congrArg s.outcome eff, congrArg TangoSt.mirror tango, rfl, rfl,
        congrArg BitVec.toNat (words _ (tKey_ne (by decide)) (tKey_ne (by decide))),
        congrArg BitVec.toNat (words _ (tKey_ne (by decide)) (tKey_ne (by decide))), cores, mem⟩
    · obtain ⟨mirror, shown, state⟩ := State.ackTo_last running loads whole
      exact ⟨_, congrArg s.outcome eff, mirror, shown, state, cores, mem⟩
  · intro s live
    refine ⟨fun m running none => ⟨fun early due => ?_, fun late => ?_⟩, fun tag fence idle waits due => ?_⟩
    · have eff := mirrorLateEff_running live running none
      rw [early, decide_eq_true due, if_pos (by rfl)] at eff
      obtain ⟨tango, counted, work⟩ := State.lateMirror_facts (s.modTango fun t => { t with mirror := some { m with late := true } })
      exact ⟨_, congrArg s.outcome eff, congrArg TangoSt.mirror tango, counted, work⟩
    · have eff := mirrorLateEff_running live running none
      rw [if_neg (by simp [late])] at eff
      exact congrArg s.outcome eff
    · obtain ⟨tango, counted, work⟩ := State.lateMirror_facts (s.modTango fun x => { x with waiting := some (tag, fence, true) })
      exact ⟨_, congrArg s.outcome (mirrorLateEff_waiting live idle waits due), congrArg TangoSt.waiting tango, counted, work⟩
  · intro pkt s pair live
    refine ⟨fun b hb filling => ?_, fun first second => ?_⟩
    · have sent := tangoResumeEff_filling pair live hb filling
      exact ⟨_, rfl, sent.tango, sent.obj, sent.work⟩
    · have sent := tangoResumeEff_empty pair live first second
      exact ⟨_, rfl, sent.tango, sent.obj, sent.work⟩
  · intro pkt s m pair asked suspended running loads
    refine ⟨fun slots tag left ports held => ?_, fun tag => ?_⟩
    · obtain ⟨m', facts⟩ := resumeReply_goesOn pair asked suspended running loads tag left ports held rfl
      exact ⟨_, m', rfl, facts⟩
    · have facts := resumeReply_ends pair asked suspended running tag rfl
      exact ⟨_, rfl, facts⟩

end Sys2Proof.Machine

end

section
/-! PROOFS. The channels of the DMA engines (R158 to R164, R171), obligation O24. -/

namespace Sys2Proof.Machine

variable {s : State}

/-! ## The channels of the DMA engines (R158 to R164, R171) -/

/-- Only channel `k` of the channels may differ, and memory and the cores stay. -/
structure ChanOnly (s : State) (k : Nat) (t : State) : Prop where
  beside : ∀ j, j ≠ k → t.chan j = s.chan j
  mem : t.mem = s.mem
  cores : t.cores = s.cores

theorem ChanOnly.trans {t u : State} {k : Nat} (h : ChanOnly s k t) (h' : ChanOnly t k u) : ChanOnly s k u :=
  ⟨fun j other => (h'.beside j other).trans (h.beside j other), h'.mem.trans h.mem, h'.cores.trans h.cores⟩

theorem ChanOnly.setChan (s : State) (k : Nat) (x : DmaCh) : ChanOnly s k (s.setChan k x) :=
  ⟨fun j other => by rw [State.chan_setChan, if_neg other], rfl, rfl⟩

theorem ChanOnly.modChan (s : State) (k : Nat) (f : DmaCh → DmaCh) : ChanOnly s k (s.modChan k f) := ChanOnly.setChan ..

theorem State.chan_of_sameWork {t : State} (h : sameWork s t) (k : Nat) : t.chan k = s.chan k := by
  obtain ⟨_, _, _, _, _, _, _, _, dma⟩ := h
  exact congrArg (mget DmaCh.reset · k) dma

theorem ChanOnly.of_sameWork {t : State} (h : sameWork s t) (k : Nat) : ChanOnly s k t :=
  ⟨fun j _ => State.chan_of_sameWork h j, h.2.1, h.1⟩

theorem State.chan_setChan_self (s : State) (k : Nat) (x : DmaCh) : (s.setChan k x).chan k = x := by
  rw [State.chan_setChan, if_pos rfl]

theorem State.chan_modChan_self (s : State) (k : Nat) (f : DmaCh → DmaCh) : (s.modChan k f).chan k = f (s.chan k) :=
  s.chan_setChan_self k _

/-- A channel as an ending with an error leaves it (R170). -/
def DmaCh.ended (x : DmaCh) (code : Nat) (fault : Bool) : DmaCh :=
  { x.rewound with state := .halted, lastCode := code, fault := fault, evError := true, halfDone := x.halfDone }

theorem State.dmaHalt_facts (s : State) (k code : Nat) (fault : Bool) :
    (s.dmaHalt k code fault).chan k = (s.chan k).ended code fault ∧ ChanOnly s k (s.dmaHalt k code fault) := by
  have only := ChanOnly.modChan s k (·.ended code fault)
  have own := s.chan_modChan_self k (·.ended code fault)
  have rest : sameWork (s.modChan k (·.ended code fault)) (s.dmaHalt k code fault) := by
    have eff : s.dmaHalt k code fault = if fault then ((s.modChan k (·.ended code fault)).count32Sat (pKey (k / 32) 0xA4) 1).partFault (k / 32)
        else (s.modChan k (·.ended code fault)).count32Sat (pKey (k / 32) 0xA4) 1 := rfl
    rw [eff]
    refine sameWork_of_unreported_eq ?_
    split
    · exact (State.partFault_unreported ..).trans (State.count32Sat_unreported ..)
    · exact State.count32Sat_unreported ..
  exact ⟨(State.chan_of_sameWork rest k).trans own, only.trans (ChanOnly.of_sameWork rest k)⟩

theorem State.dmaArrived_facts (s : State) (k : Nat) (irq : Bool) :
    (s.dmaArrived k irq).chan k = { s.chan k with arrive := (s.chan k).arrive + 1, evArrive := true } ∧
      ChanOnly s k (s.dmaArrived k irq) := by
  have only := ChanOnly.modChan s k fun x => { x with arrive := x.arrive + 1, evArrive := true }
  have own := s.chan_modChan_self k fun x => { x with arrive := x.arrive + 1, evArrive := true }
  have rest : sameWork (s.modChan k fun x => { x with arrive := x.arrive + 1, evArrive := true }) (s.dmaArrived k irq) := by
    unfold State.dmaArrived State.dmaIrq
    split
    · exact sameWork_of_unreported_eq (State.event_unreported ..)
    · exact sameWork_refl _
  exact ⟨(State.chan_of_sameWork rest k).trans own, only.trans (ChanOnly.of_sameWork rest k)⟩

/-- The channel with its armed shadow as its active transfer. -/
def State.promoted (s : State) (k : Nat) : State :=
  s.setChan k { (s.chan k).rewound with
    armed := false, active := (s.chan k).shadow, activeFn := (s.chan k).shadowFn, state := .ready, age := s.ageStamp, xfer := (s.chan k).xfer + 1 }

theorem State.dmaPromote_runs {k : Nat} (fine : s.dmaCheck (k / 32) (s.chan k).shadow = none) (long : dLength (s.chan k).shadow ≠ 0)
    (rows : dRows (s.chan k).shadow ≠ 0) : s.dmaPromote k = s.promoted k := by
  have same : (s.promoted k).dmaCheck (k / 32) (s.chan k).shadow = none := fine
  unfold State.dmaPromote
  dsimp only
  rw [← State.promoted, same]
  exact if_neg fun h => h.elim long rows

theorem State.dmaPromote_fails {k code : Nat} {fault : Bool} (bad : s.dmaCheck (k / 32) (s.chan k).shadow = some (code, fault)) :
    s.dmaPromote k = (s.promoted k).dmaHalt k code fault := by
  have same : (s.promoted k).dmaCheck (k / 32) (s.chan k).shadow = some (code, fault) := bad
  unfold State.dmaPromote
  dsimp only
  rw [← State.promoted, same]

theorem dmaPromotionEff_due {ch : ChanId} (live : s.superseded = false) (armed : (s.chan (chanKey ch)).armed = true)
    (idle : (s.chan (chanKey ch)).state = .idle) : dmaPromotionEff ch s = s.dmaPromote (chanKey ch) :=
  if_pos (by simp [live, armed, idle])

theorem dmaPromotionEff_rests {ch : ChanId} (h : (s.chan (chanKey ch)).armed = false ∨ (s.chan (chanKey ch)).state ≠ .idle) :
    dmaPromotionEff ch s = s := by
  refine if_neg ?_
  rcases h with h | h <;> simp [h]

/-! ## Programs and the host arm channels (R160, R163) -/

section
variable {c : Core} {eng : Fin 2} {ch : Fin 16} {desc d : BitVec 512} {pa pb pl pr : Option Param} (runs : s.coreRuns c = true)
  (taken : ((paramField (s.core c) pa 0 48 (desc &&& descMask)).bind fun d =>
       (paramField (s.core c) pb 64 48 d).bind fun d =>
         (paramField (s.core c) pl 128 32 d).bind fun d => paramField (s.core c) pr 160 24 d) = some d)
include runs taken

theorem dmaStartEff_eq : dmaStartEff c eng ch desc pa pb pl pr s =
    if !(s.chan (c.val / 16 * 32 + eng.val * 16 + ch.val)).owner || (s.chan (c.val / 16 * 32 + eng.val * 16 + ch.val)).armed ||
      descReserved d || s.servesChan (c.val / 16 * 32 + eng.val * 16 + ch.val) then s.opFail c stOperandLayout
    else s.setChan (c.val / 16 * 32 + eng.val * 16 + ch.val) { s.chan (c.val / 16 * 32 + eng.val * 16 + ch.val) with
      shadow := dset d 296 8 ((s.ctxOf c).getD 0xFF), armed := true, shadowFn := s.partFn (c.val / 16) } := by
  unfold dmaStartEff
  rw [if_neg (by simp [runs])]
  dsimp only
  rw [taken]

end

/-! ## Stops, resumes, clears and completion timeouts (R158, R159, R171) -/

section
variable {via : Via} {ch : ChanId} (reached : s.reachesBlock via ch.part = true)
include reached

theorem dmaArmEff_arms (free : (s.chan (chanKey ch)).armed = false) (host : (s.chan (chanKey ch)).owner = false)
    (other : s.servesChan (chanKey ch) = false) (fine : descReserved (s.chan (chanKey ch)).shadow = false) :
    dmaArmEff via ch s = s.setChan (chanKey ch) { s.chan (chanKey ch) with armed := true, shadowFn := viaFn via } := by
  have accepted : dmaArmW s (viaFn via) (chanKey ch) =
      .ok (s.setChan (chanKey ch) { s.chan (chanKey ch) with armed := true, shadowFn := viaFn via }) := by
    unfold dmaArmW
    dsimp only
    rw [if_neg (by simp [free, host, other]), if_neg (by simp [fine])]
  unfold dmaArmEff
  rw [accepted, State.blockWrite_ok s reached]

theorem dmaStopEff_eq : dmaStopEff via ch s = if (s.chan (chanKey ch)).busy = false then s
    else if (s.chan (chanKey ch)).staged.isEmpty then s.dmaEnd (chanKey ch) 8
    else s.modChan (chanKey ch) fun x => { x with stopping := true } :=
  State.blockWrite_ok s reached ..

theorem dmaResumeEff_eq : dmaResumeEff via ch s = if (s.chan (chanKey ch)).state ≠ .halted then s
    else if (s.chan (chanKey ch)).armed then s.dmaPromote (chanKey ch)
    else s.setChan (chanKey ch) { s.chan (chanKey ch) with state := .idle } :=
  State.blockWrite_ok s reached ..

theorem dmaClearEff_eq : dmaClearEff via ch s = if (s.chan (chanKey ch)).state = .halted then
      s.setChan (chanKey ch) { s.chan (chanKey ch) with state := .idle, armed := false } else s :=
  State.blockWrite_ok s reached ..

end

theorem State.dmaFenceEnd_fails {k code : Nat} {f : DmaFence} {rest : List DmaFence} (waits : (s.chan k).fences = f :: rest)
    (bad : code ≠ 0) :
    (s.dmaFenceEnd k code).chan k = { (s.chan k).ended code false with fences := rest, arrive := (s.chan k).arrive + 1, evArrive := true } ∧
      ChanOnly s k (s.dmaFenceEnd k code) := by
  have eff : s.dmaFenceEnd k code = ((s.setChan k { s.chan k with fences := rest }).dmaArrived k f.irq).dmaHalt k code false := by
    unfold State.dmaFenceEnd
    dsimp only
    rw [waits]
    exact if_neg bad
  have only := ChanOnly.setChan s k { s.chan k with fences := rest }
  have own := s.chan_setChan_self k { s.chan k with fences := rest }
  rw [eff]
  generalize s.setChan k { s.chan k with fences := rest } = u at only own
  obtain ⟨own', only'⟩ := u.dmaArrived_facts k f.irq
  obtain ⟨own'', only''⟩ := (u.dmaArrived k f.irq).dmaHalt_facts k code false
  refine ⟨?_, only.trans (only'.trans only'')⟩
  rw [own'', own', own]
  rfl

/-- A command that sets one channel, and nothing else. -/
theorem exec_setChan {i : Instr} {e : State} {k : Nat} {x : DmaCh} (run : exec i s = s.outcome e) (eff : e = s.setChan k x) :
    ∃ t, exec i s = .next t ∧ t.chan k = x ∧ (∀ j, j ≠ k → t.chan j = s.chan j) ∧ t.cores = s.cores ∧ t.mem = s.mem ∧ t.obj = s.obj := by
  have only := ChanOnly.setChan s k x
  exact ⟨_, run.trans (congrArg s.outcome eff), s.chan_setChan_self k x, only.beside, rfl, rfl, rfl⟩

/-- Settles O24: each command by its one change of its channel. -/
theorem dmaChannelsRun : Obligations.DmaChannelsRun := by
  unfold Obligations.DmaChannelsRun
  refine ⟨⟨?_, ?_⟩, ?_, ?_⟩
  · intro c eng ch desc d pa pb pl pr s runs taken
    have eff := dmaStartEff_eq (eng := eng) (ch := ch) runs taken
    refine ⟨fun owned free fine other => ?_, fun no => ?_⟩
    · rw [if_neg (by simp [owned, free, fine, other])] at eff
      exact exec_setChan rfl eff
    · rw [if_pos (by rcases no with h | h | h <;> simp [h])] at eff
      exact congrArg s.outcome eff
  · intro via ch s reached free host other fine
    exact exec_setChan rfl (dmaArmEff_arms reached free host other fine)
  · intro ch s
    refine ⟨fun live armed idle => ⟨fun fine long rows => ?_, fun code fault bad => ?_⟩, fun rests => ?_⟩
    · have eff := (dmaPromotionEff_due live armed idle).trans (State.dmaPromote_runs fine long rows)
      have only : ChanOnly s (chanKey ch) (s.promoted (chanKey ch)) := ChanOnly.setChan ..
      have own : (s.promoted (chanKey ch)).chan (chanKey ch) = _ := s.chan_setChan_self ..
      generalize s.promoted (chanKey ch) = t at eff only own
      refine ⟨_, congrArg s.outcome eff, ?_⟩
      exact ⟨congrArg DmaCh.state own, congrArg DmaCh.active own, congrArg DmaCh.armed own, congrArg DmaCh.row own,
        congrArg DmaCh.col own, congrArg DmaCh.staged own, congrArg DmaCh.age own, only.beside, only.mem, only.cores⟩
    · have eff := (dmaPromotionEff_due live armed idle).trans (State.dmaPromote_fails bad)
      have only : ChanOnly s (chanKey ch) (s.promoted (chanKey ch)) := ChanOnly.setChan ..
      have own : ((s.promoted (chanKey ch)).chan (chanKey ch)).armed = false := congrArg DmaCh.armed (s.chan_setChan_self ..)
      generalize s.promoted (chanKey ch) = u at eff only own
      obtain ⟨own', only'⟩ := u.dmaHalt_facts (chanKey ch) code fault
      have whole := only.trans only'
      exact ⟨_, congrArg s.outcome eff, congrArg DmaCh.state own', congrArg DmaCh.lastCode own', congrArg DmaCh.fault own',
        congrArg DmaCh.evError own', (congrArg DmaCh.armed own').trans own, whole.beside, whole.mem, whole.cores⟩
    · exact congrArg s.outcome (dmaPromotionEff_rests rests)
  · intro ch s
    refine ⟨fun via reached => ⟨fun busy some_ => ?_, fun busy empty => ?_, fun rests => ?_, fun halted free => ?_, fun halted armed => ?_,
      fun runs => ?_, fun halted => ?_, fun runs => ?_⟩, fun busy host => ?_, fun f rest waits hosts => ?_⟩
    · have eff := dmaStopEff_eq reached
      rw [if_neg (by simp [busy]), if_neg (by simpa using some_)] at eff
      have only := ChanOnly.modChan s (chanKey ch) fun x => { x with stopping := true }
      have own := s.chan_modChan_self (chanKey ch) fun x => { x with stopping := true }
      exact ⟨_, congrArg s.outcome eff, own, only.beside, rfl, rfl⟩
    · have eff := dmaStopEff_eq reached
      rw [if_neg (by simp [busy]), if_pos (by simp [empty])] at eff
      have only : ChanOnly s (chanKey ch) (s.dmaEnd (chanKey ch) 8) := ChanOnly.modChan ..
      have own : (s.dmaEnd (chanKey ch) 8).chan (chanKey ch) = _ := s.chan_modChan_self ..
      generalize s.dmaEnd (chanKey ch) 8 = t at eff only own
      have full : (t.chan (chanKey ch)).full = (s.chan (chanKey ch)).full := by rw [own]; rfl
      have half : (t.chan (chanKey ch)).half = (s.chan (chanKey ch)).half := by rw [own]; rfl
      exact ⟨_, congrArg s.outcome eff, congrArg DmaCh.state own, congrArg DmaCh.lastCode own, full, half, only.beside, only.mem, only.cores⟩
    · have eff := dmaStopEff_eq reached
      rw [if_pos rests] at eff
      exact congrArg s.outcome eff
    · have eff := dmaResumeEff_eq reached
      rw [if_neg (by simp [halted]), if_neg (by simp [free])] at eff
      have only := ChanOnly.setChan s (chanKey ch) { s.chan (chanKey ch) with state := .idle }
      exact ⟨_, congrArg s.outcome eff, s.chan_setChan_self .., only.beside, rfl, rfl⟩
    · have eff := dmaResumeEff_eq reached
      rw [if_neg (by simp [halted]), if_pos armed] at eff
      exact congrArg s.outcome eff
    · have eff := dmaResumeEff_eq reached
      rw [if_pos runs] at eff
      exact congrArg s.outcome eff
    · have eff := dmaClearEff_eq reached
      rw [if_pos halted] at eff
      have only := ChanOnly.setChan s (chanKey ch) { s.chan (chanKey ch) with state := .idle, armed := false }
      exact ⟨_, congrArg s.outcome eff, s.chan_setChan_self .., only.beside, rfl, rfl⟩
    · have eff := dmaClearEff_eq reached
      rw [if_neg runs] at eff
      exact congrArg s.outcome eff
    · have eff : completionTimeoutEff ch false s = s.dmaHalt (chanKey ch) 5 false :=
        if_pos (by simp [busy, host])
      obtain ⟨own, only⟩ := s.dmaHalt_facts (chanKey ch) 5 false
      exact ⟨_, congrArg s.outcome eff, congrArg DmaCh.state own, congrArg DmaCh.lastCode own, congrArg DmaCh.fault own,
        congrArg DmaCh.evError own, only.beside, only.mem, only.cores⟩
    · have eff : completionTimeoutEff ch true s = s.dmaFenceEnd (chanKey ch) 5 := by
        unfold completionTimeoutEff
        dsimp only
        rw [if_pos rfl, waits]
        exact if_neg (by simpa using hosts)
      obtain ⟨own, only⟩ := State.dmaFenceEnd_fails (s := s) (code := 5) waits (by decide)
      exact ⟨_, congrArg s.outcome eff, congrArg DmaCh.fences own, congrArg DmaCh.lastCode own, congrArg DmaCh.arrive own,
        congrArg DmaCh.state own, only.beside, only.mem, only.cores⟩

end Sys2Proof.Machine

end

section
/-! PROOFS. Fences and peer writes (R166, R167, R195), obligation O26. -/

namespace Sys2Proof.Machine

variable {s : State}

/-! ## Fences (R166 to R168) -/

/-- The fence that joins a channel's fences: it covers what is unacknowledged, and the functions of its HOST writes. -/
def State.newFence (s : State) (k : Nat) (irq own : Bool) : DmaFence :=
  ⟨s.beatIx, (s.chan k).outstanding.map Prod.fst, (s.chan k).peerRefused,
    ((s.chan k).hostFns ++ (s.chan k).fences.flatMap DmaFence.host).eraseDups, irq, if own then some (s.chan k).xfer else none⟩

theorem State.mem_newFence_host {k fn : Nat} {irq own : Bool} :
    fn ∈ (s.newFence k irq own).host ↔ fn ∈ (s.chan k).hostFns ∨ ∃ g ∈ (s.chan k).fences, fn ∈ g.host := by
  unfold State.newFence
  rw [List.mem_eraseDups, List.mem_append, List.mem_flatMap]

theorem State.dmaIssueFence_facts (s : State) (k : Nat) (irq own : Bool) :
    (s.dmaIssueFence k irq own).chan k =
      { s.chan k with fences := (s.chan k).fences ++ [s.newFence k irq own], peerRefused := false, hostFns := [] } ∧
    ChanOnly s k (s.dmaIssueFence k irq own) := by
  have only := ChanOnly.setChan s k
    { s.chan k with fences := (s.chan k).fences ++ [s.newFence k irq own], peerRefused := false, hostFns := [] }
  have set := s.chan_setChan_self k
    { s.chan k with fences := (s.chan k).fences ++ [s.newFence k irq own], peerRefused := false, hostFns := [] }
  have rest := foldl_keeps State.unreported (f := fun s fn => s.emit (.hostFence fn)) (fun _ _ => rfl) (s.newFence k irq own).host
    (s.setChan k { s.chan k with fences := (s.chan k).fences ++ [s.newFence k irq own], peerRefused := false, hostFns := [] })
  have work := sameWork_of_unreported_eq rest
  exact ⟨(State.chan_of_sameWork work k).trans set, only.trans (ChanOnly.of_sameWork work k)⟩

theorem State.dmaFenceEnd_ends {k : Nat} {f : DmaFence} {rest : List DmaFence} (waits : (s.chan k).fences = f :: rest) :
    (s.dmaFenceEnd k 0).chan k =
      { s.chan k with fences := rest, arrive := (s.chan k).arrive + 1, evArrive := true, lastCode := 0, fault := false } ∧
    ChanOnly s k (s.dmaFenceEnd k 0) := by
  have eff : s.dmaFenceEnd k 0 = ((s.setChan k { s.chan k with fences := rest }).dmaArrived k f.irq).modChan k fun x =>
      { x with lastCode := 0, fault := false } := by
    unfold State.dmaFenceEnd
    dsimp only
    rw [waits]
    exact if_pos rfl
  have only := ChanOnly.setChan s k { s.chan k with fences := rest }
  have set := s.chan_setChan_self k { s.chan k with fences := rest }
  rw [eff]
  generalize s.setChan k { s.chan k with fences := rest } = u at only set
  obtain ⟨own', only'⟩ := u.dmaArrived_facts k f.irq
  have last := (u.dmaArrived k f.irq).chan_modChan_self k fun x => { x with lastCode := 0, fault := false }
  refine ⟨?_, only.trans (only'.trans (ChanOnly.modChan ..))⟩
  rw [last, own', set]

/-- The fence that ends is struck, its arrival counted and its code shown, which halts the channel unless it is 0. -/
structure FenceEnded (s : State) (k code : Nat) (rest : List DmaFence) (t : State) : Prop where
  fences : (t.chan k).fences = rest
  arrive : (t.chan k).arrive = (s.chan k).arrive + 1
  evArrive : (t.chan k).evArrive = true
  shown : (t.chan k).lastCode = code
  state : (t.chan k).state = if code = 0 then (s.chan k).state else .halted
  only : ChanOnly s k t

theorem State.dmaFenceEnd_facts {k code : Nat} {f : DmaFence} {rest : List DmaFence} (waits : (s.chan k).fences = f :: rest) :
    FenceEnded s k code rest (s.dmaFenceEnd k code) := by
  by_cases fine : code = 0
  · subst fine
    obtain ⟨own, only⟩ := State.dmaFenceEnd_ends waits
    refine ⟨?_, ?_, ?_, ?_, ?_, only⟩ <;> rw [own]
    exact (if_pos rfl).symm
  · obtain ⟨own, only⟩ := State.dmaFenceEnd_fails waits fine
    refine ⟨?_, ?_, ?_, ?_, ?_, only⟩ <;> rw [own]
    · rfl
    · exact (if_neg fine).symm

section
variable {ch : ChanId} {f : DmaFence} {rest : List DmaFence} (apart : s.servesChan (chanKey ch) = false)
  (waits : (s.chan (chanKey ch)).fences = f :: rest)
include apart waits

theorem arrivalFenceCompleteEff_eq (host : HostEnd) : arrivalFenceCompleteEff ch host s =
    if f.covers.isEmpty then s.dmaFenceEnd (chanKey ch) (f.code host) else s := by
  unfold arrivalFenceCompleteEff
  dsimp only
  rw [if_neg (by simp [apart]), waits]

theorem arrivalTimeoutEff_eq : arrivalTimeoutEff ch s =
    if f.issued + s.pN ch.part 0xA0 ≤ s.beatIx then s.dmaFenceEnd (chanKey ch) 7 else s := by
  unfold arrivalTimeoutEff
  dsimp only
  rw [if_neg (by simp [apart]), waits]

end

theorem dmaFenceEff_eq {via : Option Via} {ch : ChanId} (reached : ∀ v, via = some v → s.reachesBlock v ch.part = true) :
    dmaFenceEff via ch s = s.dmaIssueFence (chanKey ch) false false := by
  cases via with
  | none => rfl
  | some v => exact State.blockWrite_ok s (reached v rfl) ..

/-! ## Peer writes (R167, R195) -/

theorem State.pRd_pCount_inject (s : State) (p sub n die : Nat) (pkt : Packet) (below : sub < 256) :
    ((s.pCount p sub n).inject die pkt).pRd p sub = s.pRd p sub + BitVec.ofNat 64 n := by
  have view := (s.pCount p sub n).inject_apart die pkt
  unfold State.pRd
  rw [State.rd_of_apart view (by rw [pKey_index p below]; exact linkIndex_partIndex p)]
  exact (State.rd_count ..).trans (if_pos rfl)

section
variable {pkt : Packet} {shell : ShellOutcome} {p : Nat} (hp : p = (targetPart pkt.target).getD (pkt.ctxId.toNat / 16))
  (live : s.superseded = false) (taken : s.ctxTakes p pkt.jobId.toNat pkt.ctxId.toNat = true)
  (plain : pkt.payload.length ≠ 64 ∨ (pkt.target ≠ s.pN p 0xC9 ∧ pkt.target ≠ s.pN p 0xC9 + 64))
include hp live taken plain

theorem peerWriteEff_eq : peerWriteEff pkt shell s =
    if s.holdsJob p pkt.jobId.toNat = false ∨ s.ownArea pkt.target pkt.payload.length ≠ some p then s.peerRefuse p pkt
    else if s.loadAllows p pkt.target pkt.payload.length (some pkt.src) then s.peerPerform p pkt shell
    else s.loadStray p := by
  unfold peerWriteEff
  dsimp only
  rw [if_neg (by simp [live]), ← hp, if_neg (by simp [taken]), if_neg, if_neg]
  · rintro ⟨_, size, at_⟩
    exact plain.elim (absurd size) fun h => h.2 at_
  · rintro ⟨_, size, at_⟩
    exact plain.elim (absurd size) fun h => h.1 at_

end

/-- What a peer write leaves of the work. -/
def Untouched (s t : State) : Prop := t.mem = s.mem ∧ t.cores = s.cores ∧ t.dma = s.dma

theorem Untouched.of_sameWork {t : State} (h : sameWork s t) : Untouched s t := by
  obtain ⟨cores, mem, _, _, _, _, _, _, dma⟩ := h
  exact ⟨mem, cores, dma⟩

theorem State.peerPerform_stores {p : Nat} {pkt : Packet} {o : ShellOutcome}
    (fine : coversPart pkt.target pkt.payload.length = true → o.bad = false) {t : State} (ht : t = s.peerPerform p pkt o) :
    t.mem = s.mem.writeBytes pkt.target pkt.payload ∧ t.cores = s.cores ∧ t.dma = s.dma := by
  have stored (u : State) (h : sameWork s u) : ((u.writeBytes pkt.target pkt.payload).peerAccept p pkt).mem =
      s.mem.writeBytes pkt.target pkt.payload ∧ ((u.writeBytes pkt.target pkt.payload).peerAccept p pkt).cores = s.cores ∧
      ((u.writeBytes pkt.target pkt.payload).peerAccept p pkt).dma = s.dma := by
    obtain ⟨cores, mem, _, _, _, _, _, _, dma⟩ := h
    obtain ⟨cores', mem', _, _, _, _, _, _, dma'⟩ := sameWork_of_unreported_eq
      ((u.writeBytes pkt.target pkt.payload).inject_unreported (partDie p) (ackPacket 1 pkt false))
    exact ⟨mem'.trans (congrArg (Mem.writeBytes · pkt.target pkt.payload) mem), cores'.trans cores, dma'.trans dma⟩
  have eff : s.peerPerform p pkt o = ((if coversPart pkt.target pkt.payload.length then s.memMeets pkt.target o else s).writeBytes
      pkt.target pkt.payload).peerAccept p pkt := by
    refine if_neg ?_
    intro both
    rw [Bool.and_eq_true] at both
    rw [fine both.1] at both
    exact absurd both.2 (by decide)
  rw [ht, eff]
  refine stored _ ?_
  split
  · exact (Faulted.memMeets ..).work
  · exact sameWork_refl s

theorem State.peerPerform_drops {p : Nat} {pkt : Packet} {o : ShellOutcome} (merges : coversPart pkt.target pkt.payload.length = true)
    (bad : o.bad = true) : s.peerPerform p pkt o = s.memMeets pkt.target o := by
  unfold State.peerPerform
  dsimp only
  rw [merges, bad]
  rfl

theorem State.peerRefuse_facts (s : State) (p : Nat) (pkt : Packet) :
    sameWork s (s.peerRefuse p pkt) ∧ (s.peerRefuse p pkt).pRd p 0xA5 = s.pRd p 0xA5 + 1#64 :=
  ⟨sameWork_of_unreported_eq ((State.inject_unreported ..).trans (State.pCount_unreported ..)),
    s.pRd_pCount_inject p 0xA5 1 (partDie p) (ackPacket 1 pkt true) (by decide)⟩

theorem State.loadStray_facts (s : State) (p : Nat) :
    sameWork s (s.loadStray p) ∧ (s.loadStray p).pRd p 0xCE = s.pRd p 0xCE + 1#64 :=
  ⟨sameWork_of_unreported_eq (State.pCount_unreported ..), (State.rd_count ..).trans (if_pos rfl)⟩

section
variable {pkt : Packet} {shell : ShellOutcome} {p : Nat} (hp : p = (targetPart pkt.target).getD (pkt.ctxId.toNat / 16))
  (live : s.superseded = false) (taken : s.ctxTakes p pkt.jobId.toNat pkt.ctxId.toNat = true)
  (plain : pkt.payload.length ≠ 64 ∨ (pkt.target ≠ s.pN p 0xC9 ∧ pkt.target ≠ s.pN p 0xC9 + 64)) {t : State}
  (ht : t = peerWriteEff pkt shell s)
include hp live taken plain ht

theorem peerWrite_own (own : (s.holdsJob p pkt.jobId.toNat && s.ownArea pkt.target pkt.payload.length == some p) = true) :
    (s.loadAllows p pkt.target pkt.payload.length (some pkt.src) = true →
      t = s.peerPerform p pkt shell) ∧
    (s.loadAllows p pkt.target pkt.payload.length (some pkt.src) = false →
      Untouched s t ∧ t.pRd p 0xCE = s.pRd p 0xCE + 1#64) := by
  have eff := peerWriteEff_eq (shell := shell) hp live taken plain
  obtain ⟨holds, area⟩ := Bool.and_eq_true_iff.1 own
  rw [← ht, if_neg (by simp [holds, eq_of_beq area])] at eff
  refine ⟨fun free => eff.trans (if_pos free), fun held => ?_⟩
  rw [if_neg (by simp [held])] at eff
  obtain ⟨work, counted⟩ := s.loadStray_facts p
  exact eff ▸ ⟨Untouched.of_sameWork work, counted⟩

theorem peerWrite_other (other : (s.holdsJob p pkt.jobId.toNat && s.ownArea pkt.target pkt.payload.length == some p) = false) :
    Untouched s t ∧ t.pRd p 0xA5 = s.pRd p 0xA5 + 1#64 := by
  have eff := peerWriteEff_eq (shell := shell) hp live taken plain
  rw [← ht, if_pos] at eff
  · obtain ⟨work, counted⟩ := s.peerRefuse_facts p pkt
    exact eff ▸ ⟨Untouched.of_sameWork work, counted⟩
  · rcases Bool.and_eq_false_iff.1 other with h | h
    · exact .inl h
    · exact .inr (ne_of_beq_false h)

end

/-! ## Acknowledgements (R166, R167) -/

theorem ackQuiet_sameWork (qs : List Quiet) (s : State) (done : List Quiet) : sameWork s (ackQuiet qs s done) := by
  induction qs generalizing s done with
  | nil => exact sameWork_refl s
  | cons q qs ih =>
    unfold ackQuiet
    split
    · exact sameWork_trans (sameWork_of_unreported_eq (State.inject_unreported ..)) (ih _ _)
    · exact ih _ _

theorem peerAckEff_own {ch : ChanId} {pkt : Packet} {answer : PeerAnswer} (live : s.superseded = false)
    (own : ((s.chan (chanKey ch)).outstanding.any fun o => o.1 == pkt.seq.toNat && o.2.1 == pkt.src) = true) :
    (peerAckEff ch pkt answer s).chan (chanKey ch) = (s.chan (chanKey ch)).acked pkt.seq.toNat (answer == .refused) ∧
      ChanOnly s (chanKey ch) (peerAckEff ch pkt answer s) := by
  have eff : peerAckEff ch pkt answer s =
      (s.modChan (chanKey ch) fun x => x.acked pkt.seq.toNat (answer == .refused)).pumpQuiet := by
    unfold peerAckEff
    dsimp only
    rw [if_neg (by simp [live]), if_pos own]
  have work := ackQuiet_sameWork (s.modChan (chanKey ch) fun x => x.acked pkt.seq.toNat (answer == .refused)).quiet
    (s.modChan (chanKey ch) fun x => x.acked pkt.seq.toNat (answer == .refused)) []
  rw [eff]
  exact ⟨(State.chan_of_sameWork work _).trans (State.chan_modChan_self ..), (ChanOnly.modChan ..).trans (ChanOnly.of_sameWork work _)⟩

theorem DmaCh.acked_eq {x : DmaCh} {n : Nat} (sent : (x.outstanding.any fun o => o.1 == n) = true) (refused : Bool) :
    x.acked n refused = { x with
      outstanding := x.outstanding.filter fun o => o.1 != n,
      peerRefused := x.peerRefused || (refused && !(x.fences.any fun f => f.covers.contains n)),
      fences := x.fences.map fun f =>
        { f with covers := f.covers.erase n, refused := f.refused || (refused && f.covers.contains n) } } :=
  if_neg (by simp [sent])

/-- Settles O26: fences by their end, peer writes by the checks they pass, acknowledgements by the channel's own record. -/
theorem dmaFencesAndPeers : Obligations.DmaFencesAndPeers := by
  unfold Obligations.DmaFencesAndPeers
  refine ⟨?_, ?_, ?_⟩
  · intro ch s
    refine ⟨fun via reached => ?_, fun apart f rest waits => ⟨fun host none => ?_, fun host some_ => ?_, fun due => ?_, fun early => ?_⟩⟩
    · obtain ⟨own, only⟩ := s.dmaIssueFence_facts (chanKey ch) false false
      have state : ((s.dmaIssueFence (chanKey ch) false false).chan (chanKey ch)).state = (s.chan (chanKey ch)).state := by rw [own]
      exact ⟨_, congrArg s.outcome (dmaFenceEff_eq reached), ⟨_, congrArg DmaCh.fences own, rfl, rfl, rfl, fun _ => State.mem_newFence_host⟩,
        state, only.beside, only.mem, only.cores⟩
    · have eff := arrivalFenceCompleteEff_eq apart waits host
      rw [if_pos (by simp [none])] at eff
      have ended := State.dmaFenceEnd_facts (code := f.code host) waits
      have code : f.code host = if f.host ≠ [] ∧ host ≠ .ok then 5 else if f.refused then 6 else 0 := by
        unfold DmaFence.code
        simp
      rw [code] at ended eff
      exact ⟨_, congrArg s.outcome eff, ended.fences, ended.arrive, ended.evArrive, ended.shown, ended.state, ended.only.mem,
        ended.only.cores⟩
    · have eff := arrivalFenceCompleteEff_eq apart waits host
      rw [if_neg (by simpa using some_)] at eff
      exact congrArg s.outcome eff
    · have eff := arrivalTimeoutEff_eq apart waits
      rw [if_pos due] at eff
      have ended := State.dmaFenceEnd_facts (code := 7) waits
      exact ⟨_, congrArg s.outcome eff, ended.fences, ended.shown, ended.state, ended.arrive, ended.only.mem⟩
    · have eff := arrivalTimeoutEff_eq apart waits
      rw [if_neg (Nat.not_le.2 early)] at eff
      exact congrArg s.outcome eff
  · intro pkt shell s
    generalize hp : (targetPart pkt.target).getD (pkt.ctxId.toNat / 16) = p
    dsimp only
    intro live taken plain
    refine ⟨fun own free fine => ?_, fun own free merges bad => ?_, fun own held => ?_, fun other => ?_⟩
    · have stored := State.peerPerform_stores fine ((peerWrite_own hp.symm live taken plain rfl own).1 free)
      exact ⟨_, rfl, stored⟩
    · have eff := (peerWrite_own (shell := shell) hp.symm live taken plain rfl own).1 free
      rw [State.peerPerform_drops merges bad] at eff
      exact ⟨_, congrArg s.outcome eff, Untouched.of_sameWork (Faulted.memMeets ..).work⟩
    · have dropped := (peerWrite_own (shell := shell) hp.symm live taken plain rfl own).2 held
      exact ⟨_, rfl, dropped⟩
    · have refused := peerWrite_other (shell := shell) hp.symm live taken plain rfl other
      exact ⟨_, rfl, refused⟩
  · intro ch pkt answer s live own
    obtain ⟨shown, only⟩ := peerAckEff_own (answer := answer) live own
    have sent : ((s.chan (chanKey ch)).outstanding.any fun o => o.1 == pkt.seq.toNat) = true := by
      obtain ⟨o, mem, is⟩ := List.any_eq_true.1 own
      exact List.any_eq_true.2 ⟨o, mem, (Bool.and_eq_true_iff.1 is).1⟩
    rw [DmaCh.acked_eq sent] at shown
    exact ⟨_, rfl, congrArg DmaCh.outstanding shown, congrArg DmaCh.fences shown, congrArg DmaCh.peerRefused shown, only.mem, only.cores⟩

end Sys2Proof.Machine

end

section
/-! PROOFS. Bursts (R165, R368), obligation O25. -/

namespace Sys2Proof.Machine

/-! ## A burst whose host gives too few bytes (R165, R368) -/

/-- A transfer of one row of 16 bytes from HOST address 0 to LOCAL address 0. -/
def hostRow : BitVec 512 := BitVec.ofNat 512 (2 ^ 48 + 16 * 2 ^ 128 + 2 ^ 160)

/-- Channel 0 is READY for that transfer, through a function that is not bus master. -/
def hostRowState : State := { State.reset with dma := [(0, { DmaCh.reset with active := hostRow, state := .ready })] }

/-- A host that answers in order, and gives no byte. -/
def silentHost : BurstEnv := ⟨.both, [], .ok, .clean, .clean⟩

/-- Refutes O25: a burst whose host is said to answer with fewer bytes than it asks for is not issued at all, also where the function
is not bus master; the channel stays READY and is not HALTED with code 5. -/
theorem not_dmaBurstMovesBytes : ¬ Obligations.DmaBurstMovesBytes := by
  intro h
  obtain ⟨both, -⟩ := h 0 0 silentHost hostRowState 0 (by decide +kernel) (by decide +kernel) (by decide +kernel) (by decide +kernel) (by decide +kernel) (by decide +kernel)
    (by decide +kernel) (by decide +kernel)
  obtain ⟨-, -, -, -, host⟩ := both rfl (by decide +kernel) (by decide +kernel)
  obtain ⟨t, run, halted, -⟩ := host (by decide +kernel) (.inl (by decide +kernel))
  have answer : (dmaBurstEff 0 0 silentHost hostRowState).withQueue hostRowState = t := Host.Outcome.next.inj run
  have ready : (((dmaBurstEff 0 0 silentHost hostRowState).withQueue hostRowState).chan 0).state = .ready := by decide +kernel
  rw [answer] at ready
  cases ready.symm.trans halted

end Sys2Proof.Machine

end

section
/-! PROOFS. The swapper, held deliveries and groups (R174, R180, R183, R185, R238), obligation O22. -/

namespace Sys2Proof.Machine

variable {s : State}

/-! ## The swapper and the slices (R180, R183, R185) -/

/-- What the swapper leaves of every context: the length of its slices and the expiries that tiles still run over. -/
def State.slices (s : State) : Nat → List (Nat × Nat) × Nat := fun j => ((s.ctx j).overs, (s.ctx j).slice)

theorem State.setCtxE_slices {k : Nat} {x : Ctx} (overs : x.overs = (s.ctx k).overs) (slice : x.slice = (s.ctx k).slice) :
    (s.setCtxE k x).slices = s.slices := by
  funext j
  unfold State.slices
  rw [State.ctx_setCtxE]
  split
  next own => rw [own, overs, slice]
  · rfl

theorem State.noteCtx_slices (s : State) (k : Nat) : (s.noteCtx k).slices = s.slices := by
  unfold State.noteCtx
  dsimp only
  split
  · rfl
  · exact State.setCtxE_slices rfl rfl

theorem State.noteCtxs_slices (s : State) (p : Nat) : (s.noteCtxs p).slices = s.slices :=
  foldl_keeps State.slices State.noteCtx_slices _ _

theorem State.tryEvict_slices (s : State) (k : Nat) : (s.tryEvict k).slices = s.slices := by
  unfold State.tryEvict
  dsimp only
  split
  · exact State.setCtxE_slices rfl rfl
  · rfl

theorem State.slices_of_ctxs {t : State} (h : t.ctxs = s.ctxs) : t.slices = s.slices := by
  unfold State.slices State.ctx
  rw [h]

theorem State.requestEvict_slices (s : State) (k : Nat) (counts : Bool) : (s.requestEvict k counts).slices = s.slices := by
  unfold State.requestEvict
  dsimp only
  split
  · have asked := State.setCtxE_slices (s := s) (k := k) (x := { s.ctx k with evictReq := true, sliceStart := none, expired := none }) rfl rfl
    generalize s.setCtxE k { s.ctx k with evictReq := true, sliceStart := none, expired := none } = u at asked
    refine (State.tryEvict_slices ..).trans (Eq.trans ?_ asked)
    split
    · exact State.slices_of_ctxs (State.ctxs_of_unreported (State.pCount_unreported ..))
    · rfl
  · rfl

theorem State.swap_slices (s : State) (p : Nat) : (s.swap p).slices = s.slices := by
  refine Eq.trans ?_ (s.noteCtxs_slices p)
  rcases s.swap_cases p with e | ⟨k, -, e⟩ | ⟨l, e⟩ <;> rw [e]
  · generalize s.noteCtxs p = u
    exact State.setCtxE_slices (x := { u.ctx k with state := .loading, runnableSince := 0, since := u.beatIx }) rfl rfl
  · exact foldl_keeps State.slices (fun s (j : Nat × Bool) => s.requestEvict_slices j.1 j.2) l _

theorem State.mem_of_unswitched {t : State} (h : t.unswitched = s.unswitched) : t.mem = s.mem :=
  (congrArg State.mem h : t.unswitched.mem = s.unswitched.mem)

theorem State.swap_loads {p k : Nat} (one : (ctxIds p).filter (s.noteCtxs p).ctxRunnable = [k]) (runs : (s.noteCtxs p).groupRuns p = true)
    (untested : (s.noteCtxs p).bistRuns p = false) (fits : (s.noteCtxs p).fits k [] = true) : ((s.swap p).ctx k).state = .loading := by
  have eff : s.swap p = (s.noteCtxs p).modCtxE k fun x =>
      { x with state := .loading, runnableSince := 0, since := (s.noteCtxs p).beatIx } := by
    unfold State.swap
    dsimp only
    have top : (List.filter (fun j => ((s.noteCtxs p).ctx j).priority ==
        [k].foldl (fun m j => max m ((s.noteCtxs p).ctx j).priority) 0) [k]) = [k] := by simp
    rw [one, top]
    simp only [leastBy]
    rw [if_neg (by simp [runs, untested]), if_pos fits]
  rw [eff, State.modCtxE, State.ctx_setCtxE, if_pos rfl]

theorem swapperEvaluate_facts {p : Part} {k : Nat} (live : s.superseded = false) (lead : s.lead p = p.val)
    (one : (ctxIds p).filter (s.noteCtxs p).ctxRunnable = [k]) (runs : (s.noteCtxs p).groupRuns p = true)
    (untested : (s.noteCtxs p).bistRuns p = false) (fits : (s.noteCtxs p).fits k [] = true) {t : State}
    (ht : t = swapperEvaluateEff p s) : (t.ctx k).state = .loading ∧ t.cores = s.cores ∧ t.mem = s.mem := by
  have eff : t = s.swap p := by
    rw [ht, swapperEvaluateEff, if_neg (by simp [live]), lead]
  have view := s.swap_unswitched p
  rw [← eff] at view
  refine ⟨?_, State.cores_of_unswitched view, State.mem_of_unswitched view⟩
  rw [eff]
  exact State.swap_loads one runs untested fits

theorem Ctx.beginSlice_overs (x : Ctx) (b : Nat) : (x.beginSlice b).overs = x.overs ∧ (x.beginSlice b).expired = x.expired ∧
    (x.beginSlice b).sliceStart = if x.slice = 0 then none else some b := by
  unfold Ctx.beginSlice
  split <;> exact ⟨rfl, rfl, rfl⟩

/-- Whether a tile of a context's cores was issued by a beat. -/
def State.tileRuns (s : State) (k t : Nat) : Bool := (s.ctxCores k).any fun c =>
  match (s.core c).run.tile with
  | some r => decide (r.2 ≤ t)
  | none => false

theorem State.tileRuns_of {k c t : Nat} {r : Nat × Nat} (mem : c ∈ s.ctxCores k) (tile : (s.core c).run.tile = some r) (early : r.2 ≤ t) :
    s.tileRuns k t = true :=
  List.any_eq_true.2 ⟨c, mem, by rw [tile]; exact decide_eq_true early⟩

/-- The expiry of a slice noted, and the swapper evaluated. -/
def State.sliceNoted (s : State) (p k end_ : Nat) : State :=
  (s.setCtxE k { s.ctx k with
    expired := some end_, overs := ((s.ctx k).overs ++ [(end_, 0)]).filter (fun e => s.tileRuns k e.1), sliceStart := none }).swap p

section
variable {p : Part} {i : Fin 16} {b k : Nat} (hk : k = 16 * p.val + i.val) (slice : (s.ctx k).sliceStart = some b)
  (live : s.superseded = false) (resident : (s.ctx k).state = .resident)
include hk slice

theorem sliceExpiryEff_early (early : s.beat < b + (s.ctx k).sliceLen * 1024) : sliceExpiryEff p i s = s := by
  unfold sliceExpiryEff
  dsimp only
  rw [← hk, slice]
  exact if_pos (.inr (.inl early))

include live resident

theorem sliceExpiryEff_due {end_ : Nat} (he : end_ = b + (s.ctx k).sliceLen * 1024) (due : end_ ≤ s.beat) : sliceExpiryEff p i s =
    if ((s.sliceNoted p k end_).ctx k).evictReq ∨ ((s.sliceNoted p k end_).ctx k).state ≠ .resident then s.sliceNoted p k end_
    else (s.sliceNoted p k end_).modCtxE k fun x => { x with expired := none }.beginSlice end_ := by
  unfold sliceExpiryEff
  dsimp only
  rw [← hk, slice]
  dsimp only
  rw [← he, if_neg (by rintro (h | h | h) <;> [exact h resident; omega; simp [live] at h])]
  rfl

theorem sliceExpiry_facts {end_ : Nat} (he : end_ = b + (s.ctx k).sliceLen * 1024) (due : end_ ≤ s.beat) {t : State}
    (ht : t = sliceExpiryEff p i s) :
    ((∃ c ∈ s.ctxCores k, ∃ r, (s.core c).run.tile = some r ∧ r.2 ≤ end_) → (end_, 0) ∈ (t.ctx k).overs) ∧
    ((t.ctx k).evictReq = true ∨ (t.ctx k).state ≠ .resident ∨
      ((t.ctx k).expired = none ∧ (t.ctx k).sliceStart = if (s.ctx k).slice = 0 then none else some end_)) ∧
    t.cores = s.cores ∧ t.mem = s.mem := by
  have eff := sliceExpiryEff_due hk slice live resident he due
  rw [← ht] at eff
  have view : (s.sliceNoted p k end_).unswitched = s.unswitched := (State.swap_unswitched ..).trans (State.setCtxE_unswitched ..)
  have noted := congrFun (State.swap_slices (s.setCtxE k { s.ctx k with
    expired := some end_, overs := ((s.ctx k).overs ++ [(end_, 0)]).filter (fun e => s.tileRuns k e.1), sliceStart := none }) p) k
  rw [← State.sliceNoted] at noted
  unfold State.slices at noted
  rw [State.ctx_setCtxE, if_pos rfl] at noted
  obtain ⟨overs, same⟩ := Prod.mk.inj noted
  generalize s.sliceNoted p k end_ = u at eff view overs same
  have kept : (∃ c ∈ s.ctxCores k, ∃ r, (s.core c).run.tile = some r ∧ r.2 ≤ end_) → (end_, 0) ∈ (u.ctx k).overs := by
    rintro ⟨c, mem, r, tile, early⟩
    rw [overs]
    exact List.mem_filter.2 ⟨List.mem_append_right _ (List.mem_singleton_self _), State.tileRuns_of mem tile early⟩
  have cores := State.cores_of_unswitched view
  have mem := State.mem_of_unswitched view
  split at eff
  next leaves =>
    rw [eff]
    exact ⟨kept, leaves.imp id .inl, cores, mem⟩
  · rw [eff]
    have own : (u.modCtxE k fun x => { x with expired := none }.beginSlice end_).ctx k = ({ u.ctx k with expired := none }.beginSlice end_ : Ctx) := by
      rw [State.modCtxE, State.ctx_setCtxE, if_pos rfl]
    obtain ⟨overs', expired, start⟩ := ({ u.ctx k with expired := none } : Ctx).beginSlice_overs end_
    refine ⟨fun h => ?_, .inr (.inr ⟨?_, ?_⟩), cores, mem⟩
    · rw [own, overs']
      exact kept h
    · rw [own, expired]
    · rw [own, start]
      exact congrArg (fun n => if n = 0 then none else some end_) same

end

/-! ## Held deliveries (R238) -/

/-- Deliveries to a slot that leave its table of contexts as it is, and the cores. -/
structure SlotKept (s : State) (j : Nat) (t : State) : Prop where
  ctxs : (t.cs j).ctxs = (s.cs j).ctxs
  cores : t.cores = s.cores

theorem SlotKept.refl (s : State) (j : Nat) : SlotKept s j s := ⟨rfl, rfl⟩

theorem SlotKept.trans {j : Nat} {t u : State} (h : SlotKept s j t) (h' : SlotKept t j u) : SlotKept s j u :=
  ⟨h'.ctxs.trans h.ctxs, h'.cores.trans h.cores⟩

theorem SlotKept.of_coll {j : Nat} {t : State} (coll : t.coll = s.coll) (cores : t.cores = s.cores) : SlotKept s j t :=
  ⟨congrArg (fun c => (mget CollSlot.reset c j).ctxs) coll, cores⟩

theorem SlotKept.of_unreported {j : Nat} {t : State} (h : t.unreported = s.unreported) : SlotKept s j t :=
  SlotKept.of_coll (State.coll_of_unreported h) (State.cores_of_unreported h)

theorem SlotKept.modCs (s : State) (j : Nat) {f : CollSlot → CollSlot} (same : (f (s.cs j)).ctxs = (s.cs j).ctxs) :
    SlotKept s j (s.modCs j f) := by
  refine ⟨?_, rfl⟩
  unfold State.modCs
  rw [State.cs_setCs, if_pos rfl, same]

theorem SlotKept.collPut (s : State) (j a : Nat) (bs : List Byte) (x : Ctx) : SlotKept s j (s.collPut j a bs x).1 := by
  unfold State.collPut
  split
  · exact SlotKept.refl s j
  · split
    · exact SlotKept.of_unreported (State.count_unreported ..)
    · split
      · exact SlotKept.of_unreported (State.pCount_unreported ..)
      · exact SlotKept.of_coll rfl rfl

theorem SlotKept.consumeOn (s : State) (j stream n : Nat) (b : Tag × BitVec 16) (last : Bool) :
    SlotKept s j (s.consumeOn j stream n b last) := by
  unfold State.consumeOn State.consume
  dsimp only
  split
  · exact (SlotKept.modCs s j rfl).trans (SlotKept.of_unreported (State.inject_unreported ..))
  · exact SlotKept.modCs s j rfl

theorem SlotKept.setReel (s : State) (j : Nat) (r : ReelSt) : SlotKept s j (s.setReel j r) := SlotKept.modCs s j rfl

theorem SlotKept.reelPut (s : State) (j : Nat) (r : ReelSt) (region off a : Nat) (body : List Byte) (src : Nat) :
    SlotKept s j (s.reelPut j r region off a body src) := by
  unfold State.reelPut
  dsimp only
  have put := SlotKept.collPut s j a body (s.holderCtx j)
  refine SlotKept.trans (put.trans ?_) (SlotKept.consumeOn ..)
  split
  · exact SlotKept.setReel ..
  · exact SlotKept.refl ..

theorem flushReel_slotKept (j : Nat) (step : Tag) (l : SMap (Nat × Nat × List Byte × Nat)) (s : State) :
    SlotKept s j (flushReel j step l s) := by
  induction l generalizing s with
  | nil => exact SlotKept.refl s j
  | cons e rest ih =>
    obtain ⟨a, region, off, bs, src⟩ := e
    unfold flushReel
    split
    · exact SlotKept.refl s j
    · exact ((SlotKept.setReel ..).trans (SlotKept.reelPut ..)).trans (ih _)

theorem flushReels_slotKept (j : Nat) (l : List ReelSt) (s : State) : SlotKept s j (flushReels j l s) := by
  induction l generalizing s with
  | nil => exact SlotKept.refl s j
  | cons r rest ih => exact (flushReel_slotKept ..).trans (ih _)

/-- The context that stands at a key is the one of its key. -/
def State.keyed (s : State) (j : Nat) : Prop := ∀ k c, s.collCtx j k = some c → c.key = k

/-- Deliveries from the contexts of a slot: what a context holds afterwards it held before, and the cores stay. -/
structure Delivered (s : State) (j : Nat) (t : State) : Prop where
  held : ∀ k c, t.collCtx j k = some c → ∃ c', s.collCtx j k = some c' ∧ c.key = c'.key ∧ c.held ⊆ c'.held
  cores : t.cores = s.cores

theorem Delivered.of_kept {j : Nat} {t : State} (h : SlotKept s j t) : Delivered s j t := by
  refine ⟨fun k c at_ => ⟨c, ?_, rfl, List.Subset.refl _⟩, h.cores⟩
  unfold State.collCtx at *
  rw [← h.ctxs, at_]

theorem Delivered.trans {j : Nat} {t u : State} (h : Delivered s j t) (h' : Delivered t j u) : Delivered s j u := by
  refine ⟨fun k c at_ => ?_, h'.cores.trans h.cores⟩
  obtain ⟨c', at', key', held'⟩ := h'.held k c at_
  obtain ⟨c'', at'', key'', held''⟩ := h.held k c' at'
  exact ⟨c'', at'', key'.trans key'', fun x h => held'' (held' h)⟩

theorem Delivered.keyed {j : Nat} {t : State} (h : Delivered s j t) (keyed : s.keyed j) : t.keyed j := by
  intro k c at_
  obtain ⟨c', at', key', _⟩ := h.held k c at_
  exact key'.trans (keyed k c' at')

theorem State.collCtx_setCtx (s : State) (j k : Nat) (c : CollCtx) :
    (s.setCtx j c).collCtx j k = if k = c.key then some c else s.collCtx j k := by
  unfold State.collCtx State.setCtx State.modCs
  rw [State.cs_setCs, if_pos rfl]
  exact mfind_mins ..

theorem mdel_key_ne {α : Type} {m : SMap α} {k : Nat} {x : Nat × α} (h : x ∈ mdel m k) : x.1 ≠ k := by
  induction m with
  | nil => exact absurd h List.not_mem_nil
  | cons e m ih =>
    obtain ⟨k', v⟩ := e
    rw [mdel] at h
    split at h
    · exact ih h
    next other =>
      rcases List.mem_cons.1 h with rfl | h
      · exact other
      · exact ih h

theorem mem_of_mfind {α : Type} {m : SMap α} {k : Nat} {v : α} (h : mfind m k = some v) : (k, v) ∈ m := by
  induction m with
  | nil => cases h
  | cons e m ih =>
    obtain ⟨k', v'⟩ := e
    rw [mfind] at h
    split at h
    next same =>
      cases h
      exact List.mem_cons.2 (.inl (by rw [same]))
    · exact List.mem_cons_of_mem _ (ih h)

theorem mdel_subset {α : Type} (m : SMap α) (k : Nat) : mdel m k ⊆ m := fun x h => mem_mdel m k x h

/-- A context once a held segment has been delivered or dropped. -/
def CollCtx.unheld (c : CollCtx) (off n : Nat) (done : Bool) : CollCtx :=
  let isHora := match c.desc with
    | some d => d.op == 4
    | none => false
  let c := { c with held := mdel c.held off }
  if done then c.performed off n isHora else c

theorem CollCtx.unheld_facts (c : CollCtx) (off n : Nat) (done : Bool) :
    (c.unheld off n done).key = c.key ∧ (c.unheld off n done).held = mdel c.held off := by
  unfold CollCtx.unheld
  dsimp only
  split <;> exact ⟨rfl, rfl⟩

/-- One held segment delivered, or dropped. -/
def State.flushSeg (s : State) (j : Nat) (c : CollCtx) (off a : Nat) (bs : List Byte) (src : Nat) : State :=
  let put := s.collPut j a bs (s.holderCtx j)
  let s := put.1.setCtx j (c.unheld off bs.length put.2)
  if src = 0 then s else s.consumeOn j src 1 (c.step, c.bucket) true

theorem flushSegs_cons {j k off a src : Nat} {bs : List Byte} {rest : SMap (Nat × List Byte × Nat)} {c : CollCtx}
    (at_ : s.collCtx j k = some c) : flushSegs j k ((off, a, bs, src) :: rest) s = flushSegs j k rest (s.flushSeg j c off a bs src) := by
  rw [flushSegs, at_]
  dsimp only
  congr 1

theorem State.flushSeg_facts {j k : Nat} {c : CollCtx} (at_ : s.collCtx j k = some c) (key : c.key = k) (off a : Nat) (bs : List Byte)
    (src : Nat) : Delivered s j (s.flushSeg j c off a bs src) ∧
      ∃ c', (s.flushSeg j c off a bs src).collCtx j k = some c' ∧ c'.held = mdel c.held off := by
  have put := Delivered.of_kept (SlotKept.collPut s j a bs (s.holderCtx j))
  obtain ⟨key', held⟩ := c.unheld_facts off bs.length (s.collPut j a bs (s.holderCtx j)).2
  unfold State.flushSeg
  dsimp only
  have tab : ∀ k', (s.collPut j a bs (s.holderCtx j)).1.collCtx j k' = s.collCtx j k' := fun k' => by
    unfold State.collCtx
    rw [(SlotKept.collPut ..).ctxs]
  generalize (s.collPut j a bs (s.holderCtx j)).1 = u at put tab
  generalize c.unheld off bs.length (s.collPut j a bs (s.holderCtx j)).2 = c' at key' held
  have set (k' : Nat) : (u.setCtx j c').collCtx j k' = if k' = k then some c' else s.collCtx j k' := by
    rw [State.collCtx_setCtx, key', key, tab]
  have cores : (u.setCtx j c').cores = s.cores := put.cores
  generalize u.setCtx j c' = w at set cores
  have told : SlotKept w j (if src = 0 then w else w.consumeOn j src 1 (c.step, c.bucket) true) := by
    split
    · exact SlotKept.refl ..
    · exact SlotKept.consumeOn ..
  generalize (if src = 0 then w else w.consumeOn j src 1 (c.step, c.bucket) true) = t at told
  have tab' (k' : Nat) : t.collCtx j k' = if k' = k then some c' else s.collCtx j k' := by
    rw [← set]
    unfold State.collCtx
    rw [told.ctxs]
  refine ⟨⟨fun k' d hd => ?_, told.cores.trans cores⟩, c', (tab' k).trans (if_pos rfl), held⟩
  rw [tab'] at hd
  split at hd
  next own =>
    cases hd
    exact ⟨c, own ▸ at_, key', by rw [held]; exact mdel_subset ..⟩
  · exact ⟨d, hd, rfl, List.Subset.refl _⟩

theorem mem_foldl_mdel {α : Type} {l : List (Nat × α)} {m : SMap α} {x : Nat × α} (h : x ∈ l.foldl (fun m e => mdel m e.1) m) :
    x ∈ m ∧ ∀ e ∈ l, e.1 ≠ x.1 := by
  induction l generalizing m with
  | nil => exact ⟨h, fun e he => absurd he List.not_mem_nil⟩
  | cons e rest ih =>
    obtain ⟨left, others⟩ := ih h
    refine ⟨mem_mdel m e.1 x left, fun e' he' same => ?_⟩
    rcases List.mem_cons.1 he' with rfl | later
    · exact mdel_key_ne left same.symm
    · exact others e' later same

theorem flushSegs_facts {j k : Nat} (l : SMap (Nat × List Byte × Nat)) (s : State) (keyed : s.keyed j) :
    Delivered s j (flushSegs j k l s) ∧
      ∀ c c', s.collCtx j k = some c → (flushSegs j k l s).collCtx j k = some c' → c'.held ⊆ l.foldl (fun m e => mdel m e.1) c.held := by
  induction l generalizing s with
  | nil =>
    refine ⟨Delivered.of_kept (SlotKept.refl s j), fun c c' at_ at' => ?_⟩
    cases at_.symm.trans at'
    exact List.Subset.refl _
  | cons e rest ih =>
    obtain ⟨off, a, bs, src⟩ := e
    rcases at_ : s.collCtx j k with _ | c
    · have none_ : flushSegs j k ((off, a, bs, src) :: rest) s = s := by
        rw [flushSegs, at_]
      rw [none_]
      exact ⟨Delivered.of_kept (SlotKept.refl s j), fun c c' h => by cases h⟩
    · obtain ⟨first, d, atd, held⟩ := State.flushSeg_facts at_ (keyed k c at_) off a bs src
      rw [flushSegs_cons at_]
      obtain ⟨later, left⟩ := ih _ (first.keyed keyed)
      refine ⟨first.trans later, fun c₀ c' h at' => ?_⟩
      cases h
      have := left d c' atd at'
      rw [held] at this
      exact this

theorem flushCtxs_facts {j : Nat} (l : List (Nat × CollCtx)) (s : State) (keyed : s.keyed j) :
    Delivered s j (flushCtxs j l s) ∧
      ∀ k c, (k, c) ∈ l → (∀ d, s.collCtx j k = some d → d.held ⊆ c.held) → ∀ d, (flushCtxs j l s).collCtx j k = some d → d.held = [] := by
  induction l generalizing s with
  | nil => exact ⟨Delivered.of_kept (SlotKept.refl s j), fun k c h => absurd h List.not_mem_nil⟩
  | cons e rest ih =>
    obtain ⟨k, c⟩ := e
    obtain ⟨first, emptied⟩ := flushSegs_facts (k := k) c.held s keyed
    obtain ⟨later, others⟩ := ih _ (first.keyed keyed)
    refine ⟨first.trans later, fun k' c' listed small d hd => ?_⟩
    rcases List.mem_cons.1 listed with same | listed
    · obtain ⟨rfl, rfl⟩ := Prod.mk.inj same
      obtain ⟨d', hd', -, sub'⟩ := later.held _ d hd
      obtain ⟨d'', hd'', -, -⟩ := first.held _ d' hd'
      refine List.eq_nil_iff_forall_not_mem.2 fun x hx => ?_
      obtain ⟨mem, gone⟩ := mem_foldl_mdel (emptied d'' d' hd'' hd' (sub' hx))
      exact gone x (small d'' hd'' mem) rfl
    · refine others k' c' listed (fun d' hd' => ?_) d hd
      obtain ⟨d'', hd'', -, sub⟩ := first.held k' d' hd'
      exact fun x hx => small d'' hd'' (sub hx)

theorem State.flushHeld_facts {j : Nat} (keyed : s.keyed j) :
    (∀ k c, (s.flushHeld j).collCtx j k = some c → c.held = []) ∧ (s.flushHeld j).cores = s.cores := by
  obtain ⟨delivered, emptied⟩ := flushCtxs_facts (s.cs j).ctxs s keyed
  have reels := flushReels_slotKept j (((flushCtxs j (s.cs j).ctxs s).cs j).reels.map Prod.snd) (flushCtxs j (s.cs j).ctxs s)
  refine ⟨fun k c hc => ?_, reels.cores.trans delivered.cores⟩
  have at_ : (flushCtxs j (s.cs j).ctxs s).collCtx j k = some c := by
    unfold State.collCtx at *
    rw [← reels.ctxs]
    exact hc
  obtain ⟨c₀, at₀, -, -⟩ := delivered.held k c at_
  refine emptied k c₀ (mem_of_mfind at₀) (fun d hd => ?_) c at_
  cases at₀.symm.trans hd
  exact List.Subset.refl _

/-- The status records written, and the progress of the slot's operations. -/
def State.heldRest (s : State) (j : Nat) : State :=
  let v := flushRecords j (s.cs j).records (s.modCs j fun x => { x with records := [] })
  (pollHoras j (v.cs j).ctxs v).settle j

theorem heldDeliveryFlushEff_eq (j : JobSlot) (s : State) :
    heldDeliveryFlushEff j s = (if (s.holderCtx j).state = .resident then s.flushHeld j else s).heldRest j := rfl

/-! ## Groups (R174) -/

theorem State.lead_pWr (s : State) {p q : Nat} (v : Word) :
    (s.pWr p 0xB0 v).lead q = if q = p then v.toNat else s.lead q := by
  split
  next same =>
    subst same
    exact State.pN_pWr ..
  next other => exact State.pN_pWr_ne s v (pKey_ne_part other (by decide) (by decide))

section
variable {via : Via} {q : Part} {l : Nat} (reached : s.reaches via (partIx q) 0xB0 = true) (priv : viaPriv via = true)
include reached

theorem groupLeadWriteEff_ok (small : l < 16) (ok : groupLeadW s via q (BitVec.ofNat 64 l) = .ok (s.pWr q 0xB0 (BitVec.ofNat 64 l))) :
    groupLeadWriteEff via q (BitVec.ofNat 64 l) s = s.pWr q 0xB0 (BitVec.ofNat 64 l) := by
  have low : (BitVec.ofNat 64 l).toNat % 256 = l := by
    rw [BitVec.toNat_ofNat]
    omega
  unfold groupLeadWriteEff
  rw [low, ok]
  exact State.objWrite_ok s reached _

include priv

theorem groupLeadWriteEff_joins (below : l < q.val) (alone : s.members q = [q.val]) (lead : s.isLead l = true)
    (room : (s.members l).length < 8) (idle : (s.members l ++ [q.val]).all s.idleTables = true) :
    groupLeadWriteEff via q (BitVec.ofNat 64 l) s = s.pWr q 0xB0 (BitVec.ofNat 64 l) := by
  have small : l < 16 := by omega
  refine groupLeadWriteEff_ok reached small ?_
  unfold groupLeadW
  dsimp only
  rw [BitVec.toNat_ofNat, Nat.mod_eq_of_lt (by omega), if_neg (by simp [priv]), if_neg (by omega), if_neg (by omega), if_neg]
  simp [alone, lead, idle, room]

theorem groupLeadWriteEff_leaves (own : l = q.val) (member : s.isLead q = false) (idle : (s.members q).all s.idleTables = true) :
    groupLeadWriteEff via q (BitVec.ofNat 64 l) s = s.pWr q 0xB0 (BitVec.ofNat 64 l) := by
  have small : l < 16 := by omega
  refine groupLeadWriteEff_ok reached small ?_
  unfold groupLeadW
  dsimp only
  rw [BitVec.toNat_ofNat, Nat.mod_eq_of_lt (by omega), if_neg (by simp [priv]), if_neg (by omega), if_pos own, if_neg (by simp [member]),
    if_pos idle]

end

theorem State.pWr_lead_facts {q : Part} {l : Nat} (small : l < 16) :
    (s.pWr q 0xB0 (BitVec.ofNat 64 l)).lead q = l ∧ (∀ r : Part, r ≠ q → (s.pWr q 0xB0 (BitVec.ofNat 64 l)).lead r = s.lead r) := by
  refine ⟨?_, fun r other => ?_⟩
  · rw [State.lead_pWr, if_pos rfl, BitVec.toNat_ofNat, Nat.mod_eq_of_lt (by omega)]
  · rw [State.lead_pWr, if_neg (Fin.val_ne_of_ne other)]

/-- Settles O22: the swapper and slices by what they leave of a context, held deliveries by induction over what is held, groups by the
one register they write. -/
theorem swapperAndGroups : Obligations.SwapperAndGroups := by
  unfold Obligations.SwapperAndGroups
  refine ⟨⟨?_, ?_, ?_⟩, ?_⟩
  · intro p k s live lead one runs untested fits
    have facts := swapperEvaluate_facts live lead one runs untested fits rfl
    exact ⟨_, rfl, facts⟩
  · intro p i s b
    generalize hk : 16 * p.val + i.val = k
    intro live resident slice
    refine ⟨fun early => congrArg s.outcome (sliceExpiryEff_early hk.symm slice early), fun due => ?_⟩
    have facts := sliceExpiry_facts hk.symm slice live resident rfl due rfl
    exact ⟨_, rfl, facts⟩
  · intro j s
    refine ⟨fun away => ?_, fun here keyed => ?_⟩
    · have eff := heldDeliveryFlushEff_eq j s
      rw [if_neg away] at eff
      exact congrArg s.outcome eff
    · have eff := heldDeliveryFlushEff_eq j s
      rw [if_pos here] at eff
      have facts := State.flushHeld_facts (j := j) keyed
      exact ⟨_, s.flushHeld j, congrArg s.outcome eff, rfl, facts⟩
  · intro via q l s reached priv small
    obtain ⟨own, others⟩ := State.pWr_lead_facts (s := s) (q := q) small
    refine ⟨fun below alone lead room idle => ?_, fun same member idle => ?_⟩
    · have eff := groupLeadWriteEff_joins reached priv below alone lead room idle
      exact ⟨_, congrArg s.outcome eff, own, others, rfl, rfl, rfl⟩
    · have eff := groupLeadWriteEff_leaves reached priv same member idle
      exact ⟨_, congrArg s.outcome eff, own.trans same, others, rfl, rfl, rfl⟩

end Sys2Proof.Machine

end

section
/-! PROOFS. Regions and loads (R285, R310), obligation O37. -/

namespace Sys2Proof.Machine

/-! ## The released tag when a region is installed (R310) -/

/-- A job-ready device with its PCIe link up. -/
def poweredState : State := (State.reset.wrN (objKey 0x1000 0x30) 5).wrN (objKey 0x1000 0x31) 65535

/-- Region 0 is valid with both slots FREE; region 1, which the mirror list names, has the version of the released tag 7 in slot 0, which
no bind of the tag holds yet. -/
def releasedState : State :=
  { poweredState.wrN (objKey 0x2700 0x0C) (2 ^ 16 + 7) with
    versions := [(0, { VEntry.reset with valid := true }),
      (1, { VEntry.reset with valid := true, slot0 := { VSlot.reset with state := .committed, tag := 7 } })]
    tango := { TangoSt.reset with inForce := [(0, 1)] } }

/-- Refutes O37: INSTALL brings the binds of the released tag up to date, so that it changes another region too, where the mirror list
names one whose slot of that tag is not bound: region 1 gains a bind by the INSTALL of region 0. -/
theorem not_regionsAndLoads : ¬ Obligations.RegionsAndLoads := by
  intro h
  obtain ⟨regions, -⟩ := h
  obtain ⟨-, install, -⟩ := regions .pf 0 releasedState (by decide +kernel)
  obtain ⟨t, run, -, -, -, others, -⟩ := install 0 9 (by decide +kernel) (by decide +kernel) (by decide +kernel) (by decide +kernel)
  have answer : (installEff .pf 0 0 9 releasedState).withQueue releasedState = t := Host.Outcome.next.inj run
  have bound : (((installEff .pf 0 0 9 releasedState).withQueue releasedState).region 0 1).slot0.bind = 1 := by decide +kernel
  have same : t.region 0 1 = releasedState.region 0 1 := others 1 (by decide +kernel)
  have none_ : (releasedState.region 0 1).slot0.bind = 0 := by decide +kernel
  rw [answer, same, none_] at bound
  exact absurd bound (by decide)

end Sys2Proof.Machine

end

section
/-! PROOFS. Shards and the server (R289 to R294, R298), obligation O38. -/

namespace Sys2Proof.Machine

variable {s : State}

/-! ## What a Shell outcome leaves (R147, R148) -/

/-- The machine without its error log, its registers, its events and what it sends. -/
def State.unlogged (s : State) : State := { s.unreported with eccLog := [] }

theorem State.unlogged_of_unreported {t : State} (h : t.unreported = s.unreported) : t.unlogged = s.unlogged :=
  congrArg (fun u : State => { u with eccLog := [] }) h

theorem State.loaders_of_unlogged {t : State} (h : t.unlogged = s.unlogged) : t.loaders = s.loaders :=
  (congrArg State.loaders h : t.unlogged.loaders = s.unlogged.loaders)

theorem State.beat_of_unlogged {t : State} (h : t.unlogged = s.unlogged) : t.beat = s.beat :=
  (congrArg State.beat h : t.unlogged.beat = s.unlogged.beat)

theorem State.eccLogAdd_unlogged (s : State) (e : EccEntry) : (s.eccLogAdd e).unlogged = s.unlogged := by
  have logged (l : List EccEntry) : (({ s with eccLog := l } : State).count32 (objKey 0x2800 0x0D) 1).unlogged = s.unlogged :=
    (congrArg (fun u : State => { u with eccLog := [] }) (State.count32_unreported { s with eccLog := l } (objKey 0x2800 0x0D) 1) :)
  unfold State.eccLogAdd
  dsimp only
  split
  · exact logged _
  · split
    · exact logged _
    · split
      · exact State.unlogged_of_unreported (State.count32Sat_unreported ..)
      · exact logged _

theorem State.eccNote_unlogged (s : State) (src : EccSource) (part unit addr : Nat) (o : ShellOutcome) :
    (s.eccNote src part unit addr o).unlogged = s.unlogged := by
  have noted (src : EccSource) (a : Nat) (ue : Bool) (e : EccEntry) : ((s.eccCount src part a ue).eccLogAdd e).unlogged = s.unlogged :=
    (State.eccLogAdd_unlogged ..).trans (State.unlogged_of_unreported (State.eccCount_unreported ..))
  unfold State.eccNote
  cases o with
  | clean => rfl
  | corrected sym g rewritten => exact noted ..
  | uncorrectable g => exact noted ..
  | pathCorrected sym g => exact noted ..
  | pathUncorrectable g => exact noted ..

theorem State.memNote_unlogged (s : State) (a : Nat) (o : ShellOutcome) : (s.memNote a o).unlogged = s.unlogged := by
  unfold State.memNote
  split
  · exact State.eccNote_unlogged ..
  · exact State.eccNote_unlogged ..
  · exact State.eccNote_unlogged ..
  · rfl

theorem State.memMeets_unlogged (s : State) (a : Nat) (o : ShellOutcome) : (s.memMeets a o).unlogged = s.unlogged := by
  unfold State.memMeets
  dsimp only
  split
  · exact (State.unlogged_of_unreported (State.partFault_unreported ..)).trans (State.memNote_unlogged ..)
  · exact State.memNote_unlogged ..

/-- The counters of granules lie below sub-index 0x9A of every object. -/
theorem State.eccNote_rd_high (s : State) (src : EccSource) (part unit addr : Nat) (o : ShellOutcome) {j : Nat} (high : 0x9A ≤ j % 256) :
    (s.eccNote src part unit addr o).rd j = s.rd j := by
  have other (i a : Nat) (low : a < 0x9A) : j ≠ objKey i a := by
    intro same
    rw [same, objKey_mod i (by omega)] at high
    omega
  have counted (src : EccSource) (a : Nat) (ue : Bool) : (s.eccCount src part a ue).rd j = s.rd j := by
    have flag : (if ue = true then 1 else 0) ≤ 1 := by split <;> omega
    unfold State.eccCount
    dsimp only
    generalize (if ue = true then 1 else 0) = k at flag
    cases src with
    | spadRead => exact s.rd_count_ne 1 (other _ _ (by omega))
    | spadPatrol => exact s.rd_count_ne 1 (other _ _ (by omega))
    | walnutRead => exact s.rd_count_ne 1 (other _ _ (by omega))
    | hbmRead => exact (State.rd_count_ne _ 1 (other _ _ (by omega))).trans (s.rd_count_ne 1 (other _ _ (by omega)))
    | hbmPatrol => exact (State.rd_count_ne _ 1 (other _ _ (by omega))).trans (s.rd_count_ne 1 (other _ _ (by omega)))
    | datapath => exact s.rd_count_ne 1 (other _ _ (by omega))
  have noted (src : EccSource) (a : Nat) (ue : Bool) (e : EccEntry) : ((s.eccCount src part a ue).eccLogAdd e).rd j = s.rd j := by
    refine Eq.trans ?_ (counted src a ue)
    generalize s.eccCount src part a ue = u
    have logged (l : List EccEntry) : (({ u with eccLog := l } : State).count32 (objKey 0x2800 0x0D) 1).rd j = u.rd j :=
      State.rd_count32_ne { u with eccLog := l } 1 (other _ _ (by decide))
    unfold State.eccLogAdd
    dsimp only
    split
    · exact logged _
    · split
      · exact logged _
      · split
        · exact u.rd_count32Sat_ne 1 (other _ _ (by decide))
        · exact logged _
  unfold State.eccNote
  cases o with
  | clean => rfl
  | corrected sym g rewritten => exact noted ..
  | uncorrectable g => exact noted ..
  | pathCorrected sym g => exact noted ..
  | pathUncorrectable g => exact noted ..

/-! ## The loader of a partition (R289 to R293) -/

/-- The partition's loader is `l`, and its work, its own counters and the beat stay. -/
structure Loads (s : State) (p : Nat) (l : LoaderSt) (t : State) : Prop where
  loader : t.loader p = l
  work : sameWork s t
  beat : t.beat = s.beat
  word : ∀ k, 0x9A ≤ k → k < 256 → t.pRd p k = s.pRd p k

theorem Loads.refl (s : State) (p : Nat) : Loads s p (s.loader p) s := ⟨rfl, sameWork_refl s, rfl, fun _ _ _ => rfl⟩

theorem Loads.trans {p : Nat} {l l' : LoaderSt} {t u : State} (h : Loads s p l t) (h' : Loads t p l' u) : Loads s p l' u :=
  ⟨h'.loader, sameWork_trans h.work h'.work, h'.beat.trans h.beat, fun k high small => (h'.word k high small).trans (h.word k high small)⟩

theorem Loads.setLoader (s : State) (p : Nat) (l : LoaderSt) : Loads s p l (s.setLoader p l) :=
  ⟨by rw [State.loader_setLoader, if_pos rfl], sameWork_refl s, rfl, fun _ _ _ => rfl⟩

theorem Loads.modLoader (s : State) (p : Nat) (f : LoaderSt → LoaderSt) : Loads s p (f (s.loader p)) (s.modLoader p f) :=
  Loads.setLoader s p _

theorem Loads.modShard (s : State) (p i : Nat) (f : Shard → Shard) :
    Loads s p { s.loader p with shards := (s.loader p).shards.modify i f } (s.modShard p i f) :=
  Loads.modLoader s p fun l => { l with shards := l.shards.modify i f }

theorem Loads.inject (s : State) (p die : Nat) (pkt : Packet) : Loads s p (s.loader p) (s.inject die pkt) := by
  have view := s.inject_unreported die pkt
  refine ⟨State.loader_of_loaders (State.loaders_of_unreported view) p, sameWork_of_unreported_eq view, State.beat_of_unreported view,
    fun k _ small => State.rd_of_apart (s.inject_apart die pkt) ?_⟩
  rw [pKey_index p small]
  exact linkIndex_partIndex p

theorem Loads.event (s : State) (p q k : Nat) : Loads s p (s.loader p) (s.event q k) := by
  have view := s.event_unreported q k
  exact ⟨State.loader_of_loaders (State.loaders_of_unreported view) p, sameWork_of_unreported_eq view, State.beat_of_unreported view,
    fun _ _ _ => s.event_rd q k _⟩

theorem Loads.memNote (s : State) (p a : Nat) (o : ShellOutcome) : Loads s p (s.loader p) (s.memNote a o) := by
  have view := s.memNote_unlogged a o
  refine ⟨State.loader_of_loaders (State.loaders_of_unlogged view) p, (Faulted.memNote s a o).work, State.beat_of_unlogged view,
    fun k high small => ?_⟩
  have low : 0x9A ≤ pKey p k % 256 := by
    rw [pKey, objKey_mod _ small]
    exact high
  unfold State.memNote
  unfold State.pRd
  split
  · exact State.eccNote_rd_high _ _ _ _ _ _ low
  · exact State.eccNote_rd_high _ _ _ _ _ _ low
  · exact State.eccNote_rd_high _ _ _ _ _ _ low
  · rfl

theorem Loads.memMeets (s : State) (p a : Nat) (o : ShellOutcome) : Loads s p (s.loader p) (s.memMeets a o) := by
  have note := Loads.memNote s p a o
  unfold State.memMeets
  dsimp only
  generalize s.memNote a o = u at note
  split
  · have fault := Loads.event u p ‹Nat› 7
    rw [note.loader] at fault
    exact note.trans fault
  · exact note

section
variable {p : Nat} {l : LoaderSt} {t : State} (h : Loads s p l t)
include h

theorem Loads.thenMod (f : LoaderSt → LoaderSt) : Loads s p (f l) (t.modLoader p f) := by
  have next := Loads.modLoader t p f
  rw [h.loader] at next
  exact h.trans next

theorem Loads.thenShard (i : Nat) (f : Shard → Shard) : Loads s p { l with shards := l.shards.modify i f } (t.modShard p i f) :=
  h.thenMod fun l => { l with shards := l.shards.modify i f }

theorem Loads.thenInject (die : Nat) (pkt : Packet) : Loads s p l (t.inject die pkt) := by
  have next := Loads.inject t p die pkt
  rw [h.loader] at next
  exact h.trans next

theorem Loads.thenEvent (q k : Nat) : Loads s p l (t.event q k) := by
  have next := Loads.event t p q k
  rw [h.loader] at next
  exact h.trans next

theorem Loads.thenUnits : ∃ free, Loads s p { l with shards := takeUnits free l.shards } (t.assignUnits p) :=
  ⟨_, h.thenMod fun l => { l with shards := takeUnits (16 - l.shards.countP (·.unit)) l.shards }⟩

theorem Loads.beatIx : t.beatIx = s.beatIx := congrArg (· / 1024) h.beat

end

/-! ## Digest units -/

theorem takeUnits_get (free : Nat) (l : List Shard) {i : Nat} {x : Shard} (at_ : l[i]? = some x) :
    ∃ b, (takeUnits free l)[i]? = some { x with unit := b } := by
  induction l generalizing free i with
  | nil => cases at_
  | cons y ys ih =>
    unfold takeUnits
    cases i with
    | zero =>
      rw [List.getElem?_cons_zero] at at_
      cases at_
      split
      · exact ⟨true, rfl⟩
      · exact ⟨x.unit, rfl⟩
    | succ i =>
      rw [List.getElem?_cons_succ] at at_
      split
      · exact ih _ at_
      · exact ih _ at_

theorem takeUnits_mem (free : Nat) (l : List Shard) {x : Shard} (mem : x ∈ takeUnits free l) : ∃ y ∈ l, x.st = y.st := by
  induction l generalizing free with
  | nil => cases mem
  | cons y ys ih =>
    unfold takeUnits at mem
    split at mem
    all_goals
      rcases List.mem_cons.1 mem with same | later
      · exact ⟨y, List.mem_cons_self .., by rw [same]⟩
      · obtain ⟨z, hz, same⟩ := ih _ later
        exact ⟨z, List.mem_cons_of_mem _ hz, same⟩

/-! ## A failure of a shard (R292, R293) -/

/-- The request that a shard's next attempt sends, where it has a holder. -/
theorem State.sendFetch_facts {p i : Nat} {sh : Shard} (at_ : (s.loader p).shards[i]? = some sh) (held : sh.holders ≠ []) :
    ∃ l, Loads s p l (s.sendFetch p i) ∧ l.st = (s.loader p).st ∧ ∃ q, l.shards[i]? =
      some { sh with st := .fetching, attempt := sh.attempt + 1, sentAt := s.beatIx, seq := q } := by
  have inside : sh.attempt % max 1 sh.holders.length < sh.holders.length := by
    have := List.length_pos_iff.2 held
    rw [Nat.max_eq_right this]
    exact Nat.mod_lt _ this
  unfold State.sendFetch
  dsimp only
  rw [at_]
  dsimp only
  rw [List.getElem?_eq_getElem inside]
  dsimp only
  have sent := ((Loads.refl s p).thenMod fun l => { l with nextSeq := l.nextSeq + 1 })
  generalize (s.modLoader p fun l => { l with nextSeq := l.nextSeq + 1 }) = u at sent
  rw [sent.beatIx]
  refine ⟨_, (sent.thenShard i _).thenInject _ _, rfl, some ((s.loader p).nextSeq % 65536), ?_⟩
  dsimp only
  rw [List.getElem?_modify_eq, at_]
  rfl

/-- What a failed attempt of shard `i` leaves: it counts, and the shard is fetched again or has FAILED (R293). -/
structure ShardFailed (s : State) (p i counter : Nat) (sh : Shard) (t : State) : Prop where
  counted : t.pRd p counter = s.pRd p counter + 1#64
  work : sameWork s t
  shard : ∃ x, (t.loader p).shards[i]? = some x ∧ x.fails = sh.fails + 1 ∧
    (sh.holders ≠ [] → sh.fails + 1 < 3 → (s.loader p).st ≠ .failed →
      x.st = .fetching ∧ x.attempt = sh.attempt + 1 ∧ x.sentAt = s.beatIx ∧ (t.loader p).st = (s.loader p).st) ∧
    (sh.holders = [] ∨ 3 ≤ sh.fails + 1 ∨ (s.loader p).st = .failed → x.st = .failed ∧ (t.loader p).st = .failed)

/-- The failed shard given up: the loader is FAILED, with an event unless it was already (R293). -/
def State.giveUpShard (s : State) (p i c : Nat) : State :=
  let failed := (s.loader p).st = .failed
  let s := s.modShard p i fun x => { x with st := .failed }
  if failed then s else (s.modLoader p fun l => { l with st := .failed, failWord := c * 2 ^ 28 + i }).event (s.lead p) 4

theorem State.giveUpShard_facts {p i : Nat} {x : Shard} (at_ : (s.loader p).shards[i]? = some x) (c : Nat) :
    ∃ l, Loads s p l (s.giveUpShard p i c) ∧ l.st = .failed ∧ l.shards[i]? = some { x with st := .failed } := by
  have given := (Loads.refl s p).thenShard i fun x => { x with st := .failed }
  have shard : ((s.loader p).shards.modify i fun x => { x with st := .failed })[i]? = some { x with st := .failed } := by
    rw [List.getElem?_modify_eq, at_]
    rfl
  unfold State.giveUpShard
  dsimp only
  split
  next failed => exact ⟨_, given, failed, shard⟩
  · generalize c * 2 ^ 28 + i = word
    exact ⟨_, (given.thenMod fun l => { l with st := .failed, failWord := word }).thenEvent _ _, rfl, shard⟩

/-- A shard whose attempt has failed, before its next attempt. -/
def Shard.failedOnce (x : Shard) : Shard := { x with fails := x.fails + 1, unit := false, seq := none }

theorem State.failShard_eq {p i cause : Nat} {sh : Shard} (at_ : (s.loader p).shards[i]? = some sh) : ∃ c,
    s.failShard p i cause = ((if sh.holders.isEmpty || decide (3 ≤ sh.fails + 1) || (s.loader p).st == .failed then
        ((s.pCount p (if cause = 1 then 0xCC else 0xCD) 1).modShard p i Shard.failedOnce).giveUpShard p i c
      else ((s.pCount p (if cause = 1 then 0xCC else 0xCD) 1).modShard p i Shard.failedOnce).sendFetch p i).assignUnits p) := by
  have loader : (((s.pCount p (if cause = 1 then 0xCC else 0xCD) 1).modShard p i Shard.failedOnce).loader p).st = (s.loader p).st := by
    have same : (s.pCount p (if cause = 1 then 0xCC else 0xCD) 1).loader p = s.loader p :=
      State.loader_of_loaders (State.loaders_of_unreported (State.pCount_unreported ..)) p
    rw [(Loads.modShard ..).loader, same]
  refine ⟨if sh.holders.isEmpty then 7 else cause, ?_⟩
  unfold State.failShard State.giveUpShard
  dsimp only
  rw [at_, loader]
  rfl

theorem State.failShard_facts {p i cause : Nat} {sh : Shard} (at_ : (s.loader p).shards[i]? = some sh) :
    ShardFailed s p i (if cause = 1 then 0xCC else 0xCD) sh (s.failShard p i cause) := by
  obtain ⟨c, eff⟩ := State.failShard_eq (cause := cause) at_
  rw [eff]
  generalize hc : (if cause = 1 then 0xCC else 0xCD) = counter
  have high : 0x9A ≤ counter ∧ counter < 256 := by
    rw [← hc]
    split <;> decide
  have view := s.pCount_unreported p counter 1
  have counted : (s.pCount p counter 1).pRd p counter = s.pRd p counter + 1#64 := (State.rd_count ..).trans (if_pos rfl)
  generalize s.pCount p counter 1 = u at view counted
  have same : u.loader p = s.loader p := State.loader_of_loaders (State.loaders_of_unreported view) p
  have beat : u.beatIx = s.beatIx := congrArg (· / 1024) (State.beat_of_unreported view)
  have failed := (Loads.refl u p).thenShard i Shard.failedOnce
  rw [same] at failed
  have once : ((s.loader p).shards.modify i Shard.failedOnce)[i]? = some sh.failedOnce := by
    rw [List.getElem?_modify_eq, at_]
    rfl
  generalize u.modShard p i Shard.failedOnce = v at failed
  have shard : (v.loader p).shards[i]? = some sh.failedOnce := by
    rw [failed.loader]
    exact once
  have st : (v.loader p).st = (s.loader p).st := by rw [failed.loader]
  have finish {w : State} {l : LoaderSt} (reach : Loads v p l w) {x : Shard} (own : l.shards[i]? = some x) (fails : x.fails = sh.fails + 1)
      (again : sh.holders ≠ [] → sh.fails + 1 < 3 → (s.loader p).st ≠ .failed →
        x.st = .fetching ∧ x.attempt = sh.attempt + 1 ∧ x.sentAt = s.beatIx ∧ l.st = (s.loader p).st)
      (ended : sh.holders = [] ∨ 3 ≤ sh.fails + 1 ∨ (s.loader p).st = .failed → x.st = .failed ∧ l.st = .failed) :
      ShardFailed s p i counter sh (w.assignUnits p) := by
    obtain ⟨free, last⟩ := (failed.trans reach).thenUnits
    obtain ⟨b, own'⟩ := takeUnits_get free l.shards own
    refine ⟨(last.word _ high.1 high.2).trans counted, sameWork_trans (sameWork_of_unreported_eq view) last.work, { x with unit := b }, ?_,
      fails, ?_, ?_⟩
    · rw [last.loader]
      exact own'
    · rw [last.loader]
      exact again
    · rw [last.loader]
      exact ended
  split
  next over_ =>
    obtain ⟨l, reach, gone, own⟩ := State.giveUpShard_facts shard c
    refine finish reach own rfl (fun held few live => ?_) fun _ => ⟨rfl, gone⟩
    simp only [Bool.or_eq_true, List.isEmpty_iff, decide_eq_true_eq, beq_iff_eq] at over_
    rcases over_ with (h | h) | h
    · exact absurd h held
    · omega
    · exact absurd h live
  next again =>
    simp only [Bool.or_eq_true, List.isEmpty_iff, decide_eq_true_eq, beq_iff_eq, not_or] at again
    obtain ⟨⟨held, few⟩, live⟩ := again
    obtain ⟨l, reach, kept, q, own⟩ := State.sendFetch_facts shard held
    refine finish reach own rfl (fun _ _ _ => ⟨rfl, rfl, failed.beatIx.trans beat, kept.trans st⟩) fun ended => ?_
    rcases ended with h | h | h
    · exact absurd h held
    · exact absurd h few
    · exact absurd h live

theorem ShardFailed.after {u t : State} {p i counter : Nat} {sh : Shard} (h : Loads s p (s.loader p) u) (high : 0x9A ≤ counter)
    (small : counter < 256) (failed : ShardFailed u p i counter sh t) : ShardFailed s p i counter sh t := by
  obtain ⟨counted, work, x, own, fails, again, ended⟩ := failed
  rw [h.loader, h.beatIx] at again
  rw [h.loader] at ended
  exact ⟨counted.trans (by rw [h.word _ high small]), sameWork_trans h.work work, x, own, fails, again, ended⟩

theorem ShardFailed.answer {i : Instr} {t : State} {p k counter : Nat} {sh : Shard} (run : exec i s = s.outcome t)
    (failed : ShardFailed s p k counter sh t) : ∃ (t : State) (x : Shard), exec i s = .next t ∧ t.pRd p counter = s.pRd p counter + 1#64 ∧
      (t.versions = s.versions ∧ t.cores = s.cores ∧ t.mem = s.mem) ∧ (t.loader p).shards[k]? = some x ∧ x.fails = sh.fails + 1 ∧
      (sh.holders ≠ [] → sh.fails + 1 < 3 → (s.loader p).st ≠ .failed →
        x.st = .fetching ∧ x.attempt = sh.attempt + 1 ∧ x.sentAt = s.beatIx ∧ (t.loader p).st = (s.loader p).st) ∧
      (sh.holders = [] ∨ 3 ≤ sh.fails + 1 ∨ (s.loader p).st = .failed → x.st = .failed ∧ (t.loader p).st = .failed) := by
  obtain ⟨counted, work, x, own, fails, again, ended⟩ := failed
  obtain ⟨cores, mem, _, _, _, _, versions, _⟩ := work
  exact ⟨_, x, run, counted, ⟨versions, cores, mem⟩, own, fails, again, ended⟩

/-! ## Digests, deadlines and notices -/

/-- A shard whose digest matches. -/
def State.shardVerified (s : State) (p i : Nat) : State :=
  let s := ((s.modShard p i fun x => { x with st := .verified, unit := false }).pCount p 0xCB 1).assignUnits p
  if (s.loader p).st = .loading ∧ (s.loader p).shards.all (·.st == .verified) then s.modLoader p fun l => { l with st := .verified } else s

theorem State.shardVerified_facts {p i : Nat} {sh : Shard} (at_ : (s.loader p).shards[i]? = some sh) :
    (((s.shardVerified p i).loader p).shards[i]?.map Shard.st) = some .verified ∧
      (s.shardVerified p i).pRd p 0xCB = s.pRd p 0xCB + 1#64 ∧ sameWork s (s.shardVerified p i) := by
  have set := (Loads.refl s p).thenShard i fun x => { x with st := .verified, unit := false }
  unfold State.shardVerified
  generalize (s.modShard p i fun x => { x with st := .verified, unit := false }) = u at set
  have view := u.pCount_unreported p 0xCB 1
  have counted : (u.pCount p 0xCB 1).pRd p 0xCB = u.pRd p 0xCB + 1#64 := (State.rd_count ..).trans (if_pos rfl)
  generalize u.pCount p 0xCB 1 = v at view counted
  have loader : v.loader p = u.loader p := State.loader_of_loaders (State.loaders_of_unreported view) p
  obtain ⟨free, units⟩ := (Loads.refl v p).thenUnits
  have own : (v.loader p).shards[i]? = some { sh with st := .verified, unit := false } := by
    rw [loader, set.loader]
    dsimp only
    rw [List.getElem?_modify_eq, at_]
    rfl
  obtain ⟨b, own'⟩ := takeUnits_get free _ own
  have reach : ∃ l, Loads v p l (if ((v.assignUnits p).loader p).st = .loading ∧ ((v.assignUnits p).loader p).shards.all (·.st == .verified)
      then (v.assignUnits p).modLoader p fun l => { l with st := .verified } else v.assignUnits p) ∧
      l.shards = takeUnits free (v.loader p).shards := by
    split
    · exact ⟨_, units.thenMod _, rfl⟩
    · exact ⟨_, units, rfl⟩
  obtain ⟨l, last, shards⟩ := reach
  refine ⟨?_, ?_, sameWork_trans set.work (sameWork_trans (sameWork_of_unreported_eq view) last.work)⟩
  · rw [last.loader, shards, own']
    rfl
  · exact (last.word _ (by decide) (by decide)).trans (counted.trans (by rw [set.word _ (by decide) (by decide)]))

section
variable {p : Part} {i : Nat} {sh : Shard} (at_ : (s.loader p).shards[i]? = some sh)
include at_

theorem digestDoneEff_eq (verifying : sh.st = .verifying) (unit : sh.unit = true) (o : ShellOutcome) : digestDoneEff p i o s =
    if o.bad = false ∧ sha512 (s.readBytes (s.shardAddr p (s.loader p) sh) sh.bytes) = sh.digest then
      (s.memNote (s.shardAddr p (s.loader p) sh) o).shardVerified p i
    else (s.memNote (s.shardAddr p (s.loader p) sh) o).failShard p i 1 := by
  have mem : ∀ a, (s.memNote a o).mem = s.mem := fun a => (Faulted.memNote s a o).work.2.1
  have same (a n : Nat) : (s.memNote (s.shardAddr p (s.loader p) sh) o).readBytes a n = s.readBytes a n := by
    unfold State.readBytes
    rw [mem]
  unfold digestDoneEff
  dsimp only
  rw [at_]
  dsimp only
  rw [if_neg (by simp [verifying, unit]), same]
  rfl

theorem digestDone_verifies (verifying : sh.st = .verifying) (unit : sh.unit = true) {o : ShellOutcome} (good : o.bad = false)
    (matches_ : sha512 (s.readBytes (s.shardAddr p (s.loader p) sh) sh.bytes) = sh.digest) {t : State} (ht : t = digestDoneEff p i o s) :
    ((t.loader p).shards[i]?.map Shard.st) = some .verified ∧ t.pRd p 0xCB = s.pRd p 0xCB + 1#64 ∧ sameWork s t := by
  have eff := digestDoneEff_eq at_ verifying unit o
  rw [if_pos ⟨good, matches_⟩, ← ht] at eff
  have note := Loads.memNote s p (s.shardAddr p (s.loader p) sh) o
  generalize s.memNote (s.shardAddr p (s.loader p) sh) o = u at note eff
  obtain ⟨shard, counted, work⟩ := State.shardVerified_facts (s := u) (p := p) (i := i) (sh := sh) (by rw [note.loader]; exact at_)
  rw [eff]
  exact ⟨shard, counted.trans (by rw [note.word _ (by decide) (by decide)]), sameWork_trans note.work work⟩

theorem digestDone_fails (verifying : sh.st = .verifying) (unit : sh.unit = true) {o : ShellOutcome}
    (bad : o.bad = true ∨ sha512 (s.readBytes (s.shardAddr p (s.loader p) sh) sh.bytes) ≠ sh.digest) :
    ShardFailed s p i 0xCC sh (digestDoneEff p i o s) := by
  have eff := digestDoneEff_eq at_ verifying unit o
  rw [if_neg fun both => bad.elim (by simp [both.1]) (absurd both.2)] at eff
  have note := Loads.memNote s p (s.shardAddr p (s.loader p) sh) o
  generalize s.memNote (s.shardAddr p (s.loader p) sh) o = u at note eff
  rw [eff]
  exact ShardFailed.after note (by decide) (by decide)
    (State.failShard_facts (s := u) (p := p) (i := i) (sh := sh) (cause := 1) (by rw [note.loader]; exact at_))

theorem fetchDeadlineEff_eq : fetchDeadlineEff p i s =
    if sh.st = .fetching ∧ sh.sentAt + s.pN p 0xC8 + (sh.bytes + 65535) / 65536 ≤ s.beatIx then s.failShard p i 2 else s := by
  unfold fetchDeadlineEff
  rw [at_]

theorem fetchNoticeEff_eq {pkt : Packet} {attempt : Nat} (fetching : sh.st = .fetching) (live : s.superseded = false)
    (taken : s.ctxTakes p pkt.jobId.toNat pkt.ctxId.toNat = true) (holds : s.holdsJob p pkt.jobId.toNat = true)
    (fields : noticeFields pkt.payload = (i, attempt, 0)) (current : (attempt + 1) % 65536 = sh.attempt % 65536) :
    fetchNoticeEff p pkt s = ((s.peerAccept p pkt).modShard p i fun x => { x with st := .verifying, seq := none }).assignUnits p := by
  have own : ((s.peerAccept p pkt).loader p).shards[i]? = some sh := by
    rw [State.peerAccept, (Loads.inject ..).loader]
    exact at_
  unfold fetchNoticeEff
  rw [fields]
  dsimp only
  rw [if_neg (by simp [live]), if_neg (by simp [taken]), if_neg (by simp [holds]), State.takeNotice, own]
  dsimp only
  rw [if_neg (by simp [fetching, current]), if_pos rfl]

theorem fetchNotice_facts {pkt : Packet} {attempt : Nat} (fetching : sh.st = .fetching) (live : s.superseded = false)
    (taken : s.ctxTakes p pkt.jobId.toNat pkt.ctxId.toNat = true) (holds : s.holdsJob p pkt.jobId.toNat = true)
    (fields : noticeFields pkt.payload = (i, attempt, 0)) (current : (attempt + 1) % 65536 = sh.attempt % 65536) {t : State}
    (ht : t = fetchNoticeEff p pkt s) : ((t.loader p).shards[i]?.map Shard.st) = some .verifying ∧ sameWork s t := by
  rw [ht, fetchNoticeEff_eq at_ fetching live taken holds fields current]
  obtain ⟨free, last⟩ := (((Loads.refl s p).thenInject (partDie p) (ackPacket 1 pkt false)).thenShard i fun x =>
    { x with st := .verifying, seq := none }).thenUnits
  have own : ((s.loader p).shards.modify i fun x => { x with st := .verifying, seq := none })[i]? =
      some { sh with st := .verifying, seq := none } := by
    rw [List.getElem?_modify_eq, at_]
    rfl
  obtain ⟨b, own'⟩ := takeUnits_get free _ own
  refine ⟨?_, last.work⟩
  rw [State.peerAccept, last.loader]
  dsimp only
  rw [own']
  rfl

end

theorem expectBeatEff_due {p : Part} (loading : (s.loader p).st = .loading) (due : (s.loader p).expectBeat ≤ s.beatIx) {t : State}
    (ht : t = expectBeatEff p s) : (∀ x ∈ (t.loader p).shards, x.st ≠ .waiting) ∧ sameWork s t := by
  have eff : expectBeatEff p s = (s.modLoader p fun l =>
      { l with shards := l.shards.map fun x => if x.st = .waiting then { x with st := .verifying } else x }).assignUnits p :=
    if_pos ⟨loading, due⟩
  obtain ⟨free, last⟩ := ((Loads.refl s p).thenMod fun l =>
    { l with shards := l.shards.map fun x => if x.st = .waiting then { x with st := .verifying } else x }).thenUnits
  rw [ht, eff]
  refine ⟨fun x hx => ?_, last.work⟩
  rw [last.loader] at hx
  obtain ⟨y, hy, same⟩ := takeUnits_mem _ _ hx
  obtain ⟨z, -, rfl⟩ := List.mem_map.1 hy
  rw [same]
  split
  · exact ShardSt.noConfusion
  · assumption

/-! ## The server (R294) -/

theorem serveEnableEff_ok {via : Via} {p : Part} {v : Word} (reached : s.reaches via (partIx p) 0xCA = true)
    (free : bit v 0 = false ∨ s.serves p = true ∨
      ((s.chan (p.val * 32 + 31)).state = .idle ∧ (s.chan (p.val * 32 + 31)).armed = false)) :
    serveEnableEff via p v s = s.pWr p 0xCA (v &&& 1#64) := by
  have ok : serveEnableW s p v = .ok (s.pWr p 0xCA (v &&& 1#64)) := by
    unfold serveEnableW
    dsimp only
    refine if_neg ?_
    rw [State.chan] at free
    rcases free with h | h | ⟨h, h'⟩
    · simp [h]
    · simp [h]
    · simp [h, h']
  unfold serveEnableEff
  rw [ok]
  exact State.objWrite_ok s reached _

section
variable {p : Part} {pkt : Packet} (serves : s.serves p = true) (live : s.superseded = false)
  (taken : s.ctxTakes p pkt.jobId.toNat pkt.ctxId.toNat = true)
include serves live taken

theorem serveRequestReceiveEff_eq : serveRequestReceiveEff p pkt s =
    if s.holdsJob p pkt.jobId.toNat = false ∨ 64 ≤ (s.loader p).queue.length then s.peerRefuse p pkt
    else (s.modLoader p fun l => { l with queue := l.queue ++ [parseRequest pkt.ctxId.toNat pkt.payload] }).peerAccept p pkt := by
  unfold serveRequestReceiveEff
  rw [if_neg (by simp [serves, live]), if_neg (by simp [taken])]

theorem serveRequestReceive_joins (holds : s.holdsJob p pkt.jobId.toNat = true) (room : (s.loader p).queue.length < 64) {t : State}
    (ht : t = serveRequestReceiveEff p pkt s) :
    (t.loader p).queue = (s.loader p).queue ++ [parseRequest pkt.ctxId.toNat pkt.payload] ∧ sameWork s t := by
  rw [ht, serveRequestReceiveEff_eq serves live taken, if_neg (by simp [holds]; omega)]
  have last := ((Loads.refl s p).thenMod fun l => { l with queue := l.queue ++ [parseRequest pkt.ctxId.toNat pkt.payload] }).thenInject
    (partDie p) (ackPacket 1 pkt false)
  exact ⟨congrArg LoaderSt.queue last.loader, last.work⟩

theorem serveRequestReceive_refused (no : s.holdsJob p pkt.jobId.toNat = false ∨ 64 ≤ (s.loader p).queue.length) {t : State}
    (ht : t = serveRequestReceiveEff p pkt s) :
    (t.loader p).queue = (s.loader p).queue ∧ t.pRd p 0xA5 = s.pRd p 0xA5 + 1#64 ∧ sameWork s t := by
  rw [ht, serveRequestReceiveEff_eq serves live taken, if_pos no]
  obtain ⟨work, counted⟩ := s.peerRefuse_facts p pkt
  have view : (s.peerRefuse p pkt).unreported = s.unreported := (State.inject_unreported ..).trans (State.pCount_unreported ..)
  exact ⟨by rw [State.loader_of_loaders (State.loaders_of_unreported view)], counted, work⟩

end

theorem State.sendNotice_facts {p : Nat} {l : LoaderSt} {u : State} (h : Loads s p l u) (r : FetchReq) (code : Nat) :
    ((u.sendNotice p r code).loader p).queue = l.queue ∧ ((u.sendNotice p r code).loader p).serve = l.serve ∧
      sameWork s (u.sendNotice p r code) := by
  have next := h.thenMod fun l => { l with nextSeq := l.nextSeq + 1 }
  unfold State.sendNotice
  dsimp only
  generalize (u.modLoader p fun l => { l with nextSeq := l.nextSeq + 1 }) = v at next
  generalize peerPacket r.reqAddr r.job r.reqCtx (u.serveAddrOf r.reqAddr r.reqCtx + 64) ((u.loader p).nextSeq % 65536)
    (leBytes 2 r.attempt ++ leBytes 1 code ++ leBytes 37 0 ++ leBytes 4 r.shard ++ leBytes 20 0) = pkt
  have last := next.thenInject (partDie p) pkt
  exact ⟨by rw [last.loader], by rw [last.loader], last.work⟩

theorem serveCopy_unreported (p : Nat) (r : FetchReq) (a seq k off : Nat) (s : State) :
    (serveCopy p r a seq k off s).unreported = s.unreported := by
  induction k generalizing off s with
  | zero => rfl
  | succ k ih => exact (ih _ _).trans (State.inject_unreported ..)

/-- The request served from slot `i`: the slot is bound, and the serve is entered. -/
def State.serving (s : State) (p : Nat) (r : FetchReq) (i a chunks since : Nat) (o : ShellOutcome) : State :=
  ((s.memNote a o).bindSlot p r.region i).modLoader p fun l => { l with
    serve := some ⟨r, i, chunks, false, since, l.nextSeq, chunks⟩, nextSeq := l.nextSeq + chunks }

section
variable {p : Part} {r : FetchReq} {rest : List FetchReq} (serves : s.serves p = true) (queue : (s.loader p).queue = r :: rest)
  (idle : (s.loader p).serve = none)
include serves queue idle

theorem serveRequestProcessEff_unnamed (none_ : s.serveSlot p r = none) (o : ShellOutcome) : serveRequestProcessEff p o s =
    (s.setLoader p { s.loader p with queue := rest }).sendNotice p r 1 := by
  unfold serveRequestProcessEff
  dsimp only
  rw [queue, idle]
  dsimp only
  rw [if_neg (by simp [serves]), none_]

theorem serveRequestProcessEff_named {i : Nat} (slot : s.serveSlot p r = some i) (o : ShellOutcome) : serveRequestProcessEff p o s =
    if (s.region p r.region).size < r.offset + r.bytes then (s.setLoader p { s.loader p with queue := rest }).sendNotice p r 2
    else if 255 ≤ ((s.region p r.region).slot i).bind then s
    else if o.bad then
      ((s.setLoader p { s.loader p with queue := rest }).memMeets (((s.region p r.region).slot i).addr + r.offset) o).sendNotice p r 3
    else serveCopy p r (((s.region p r.region).slot i).addr + r.offset) (s.loader p).nextSeq ((r.bytes + 4095) / 4096) 0
      ((s.setLoader p { s.loader p with queue := rest }).serving p r i (((s.region p r.region).slot i).addr + r.offset)
        ((r.bytes + 4095) / 4096) s.beatIx o) := by
  unfold serveRequestProcessEff
  dsimp only
  rw [queue, idle]
  dsimp only
  rw [if_neg (by simp [serves]), slot]
  dsimp only
  split
  · rfl
  · split
    · rfl
    · split
      · rfl
      · rfl

end

theorem serveRequestProcess_answers {p : Part} {r : FetchReq} {rest : List FetchReq} {code : Nat} {o : ShellOutcome} {u : State}
    (idle : (s.loader p).serve = none) (h : Loads s p { s.loader p with queue := rest } u) (eff : serveRequestProcessEff p o s = u.sendNotice p r code) :
    ∃ t w : State, exec (.serveRequestProcess p o) s = .next t ∧ t = (w.sendNotice p r code).withQueue s ∧ (t.loader p).queue = rest ∧
      (t.loader p).serve = none ∧ t.versions = s.versions ∧ t.cores = s.cores ∧ t.mem = s.mem := by
  obtain ⟨queue', serve', work⟩ := State.sendNotice_facts h r code
  obtain ⟨cores, mem, _, _, _, _, versions, _⟩ := work
  exact ⟨_, u, congrArg s.outcome eff, rfl, queue', serve'.trans idle, versions, cores, mem⟩

theorem serveRequestProcess_copies {p : Part} {r : FetchReq} {rest : List FetchReq} {i a chunks : Nat} {o : ShellOutcome} (eff : serveRequestProcessEff p o s =
      serveCopy p r a (s.loader p).nextSeq chunks 0 ((s.setLoader p { s.loader p with queue := rest }).serving p r i a chunks s.beatIx o)) :
    ∃ t u : State, exec (.serveRequestProcess p o) s = .next t ∧ t = (serveCopy p r a (s.loader p).nextSeq chunks 0 u).withQueue s ∧
      (t.loader p).queue = rest ∧ (t.loader p).serve = some ⟨r, i, chunks, false, s.beatIx, (s.loader p).nextSeq, chunks⟩ ∧
      ((t.region p r.region).slot i).bind = ((s.region p r.region).slot i).bind + 1 ∧ t.cores = s.cores ∧ t.mem = s.mem := by
  have first := Loads.setLoader s p { s.loader p with queue := rest }
  generalize s.setLoader p { s.loader p with queue := rest } = u at first eff
  have noted := Loads.memNote u p a o
  rw [first.loader] at noted
  obtain ⟨cores, mem, _, _, _, _, versions, _⟩ := (first.trans noted).work
  have entered : ((u.serving p r i a chunks s.beatIx o).loader p).queue = rest ∧ ((u.serving p r i a chunks s.beatIx o).loader p).serve =
      some ⟨r, i, chunks, false, s.beatIx, (s.loader p).nextSeq, chunks⟩ := by
    have bound : ((u.memNote a o).bindSlot p r.region i).loader p = { s.loader p with queue := rest } := noted.loader
    unfold State.serving
    rw [(Loads.modLoader ..).loader, bound]
    exact ⟨rfl, rfl⟩
  have bind : (((u.serving p r i a chunks s.beatIx o).region p r.region).slot i).bind = ((s.region p r.region).slot i).bind + 1 := by
    have own := State.region_bindSlot (u.memNote a o) p r.region i p r.region
    rw [if_pos rfl] at own
    have before : (u.memNote a o).region p r.region = s.region p r.region :=
      congrArg (fun v => mget VEntry.reset v (256 * p + r.region)) versions
    have after_ : (u.serving p r i a chunks s.beatIx o).region p r.region = ((u.memNote a o).bindSlot p r.region i).region p r.region := rfl
    rw [after_, own, VEntry.slot_setSlot_self, before]
  have same : (u.serving p r i a chunks s.beatIx o).cores = s.cores ∧ (u.serving p r i a chunks s.beatIx o).mem = s.mem := ⟨cores, mem⟩
  generalize u.serving p r i a chunks s.beatIx o = w at entered bind same eff
  have view := serveCopy_unreported p r a (s.loader p).nextSeq chunks 0 w
  have sent (l : LoaderSt) (h : w.loader p = l) : (serveCopy p r a (s.loader p).nextSeq chunks 0 w).loader p = l :=
    (State.loader_of_loaders (State.loaders_of_unreported view) p).trans h
  have last := sent _ rfl
  refine ⟨_, w, congrArg s.outcome eff, rfl, (congrArg LoaderSt.queue last).trans entered.1,
    (congrArg LoaderSt.serve last).trans entered.2, ?_, (State.cores_of_unreported view).trans same.1,
    (State.mem_of_unreported view).trans same.2⟩
  have region : (serveCopy p r a (s.loader p).nextSeq chunks 0 w).region p r.region = w.region p r.region :=
    congrArg (fun v => mget VEntry.reset v (256 * p + r.region)) (State.versions_of_unreported view)
  exact (congrArg (fun e : VEntry => (e.slot i).bind) region).trans bind

theorem acornEntryWriteEff_stores {via : Via} {p : Part} {v : Word} (reached : s.reaches via (partIx p) 0xD1 = true)
    (finite : f32Finite (field v 31 0) = true)
    (unbound : bit (s.acorn p (s.pN p 0xD0)) 63 = true → s.acornBound p (s.pN p 0xD0) = false)
    (base : (s.region p (field v 55 48)).valid = true) (delta : (s.region p (field v 47 40)).valid = true)
    (small : (s.region p (field v 47 40)).size ≤ 64 * 2 ^ 20) : acornEntryWriteEff via p v s =
    { s with acorns := mset 0#64 s.acorns (32 * p + s.pN p 0xD0) (v &&& 0x80FFFFFFFFFFFFFF#64) } := by
  have ok : acornW s p v = .ok { s with acorns := mset 0#64 s.acorns (32 * p + s.pN p 0xD0) (v &&& 0x80FFFFFFFFFFFFFF#64) } := by
    unfold acornW
    dsimp only
    rw [if_neg, if_neg, if_neg (by simp [finite])]
    · simp only [base, delta, Bool.and_self, Bool.not_true, Bool.false_or, decide_eq_true_eq]
      omega
    · intro both
      obtain ⟨valid, bound⟩ := Bool.and_eq_true_iff.1 both
      rw [unbound valid] at bound
      cases bound
  unfold acornEntryWriteEff
  rw [ok]
  exact State.objWrite_ok s reached _

/-- Settles O38: shards by what an attempt's failure leaves, the server by what each answer sends. -/
theorem shardsAndServing : Obligations.ShardsAndServing := by
  unfold Obligations.ShardsAndServing
  refine ⟨?_, ?_, ?_, ?_, ?_⟩
  · intro p s
    refine ⟨fun loading due => ?_, fun rests => ?_, fun i sh at_ => ⟨fun verifying unit => ⟨fun matches_ o good => ?_, fun o bad => ?_⟩,
      fun fetching => ⟨fun due => ?_, fun early => ?_, fun pkt attempt live taken holds fields current => ?_⟩, fun other => ?_⟩⟩
    · obtain ⟨shards, work⟩ := expectBeatEff_due loading due rfl
      obtain ⟨cores, mem, _, _, _, _, versions, _⟩ := work
      exact ⟨_, rfl, shards, versions, cores, mem⟩
    · have eff : expectBeatEff p s = s := if_neg fun both => rests.elim (absurd both.1) fun early => by omega
      exact congrArg s.outcome eff
    · obtain ⟨shard, counted, work⟩ := digestDone_verifies at_ verifying unit good matches_ rfl
      obtain ⟨cores, mem, _, _, _, _, versions, _⟩ := work
      exact ⟨_, rfl, shard, counted, versions, cores, mem⟩
    · exact (digestDone_fails at_ verifying unit bad).answer rfl
    · have eff := fetchDeadlineEff_eq at_
      rw [if_pos ⟨fetching, due⟩] at eff
      have failed := State.failShard_facts (cause := 2) at_
      rw [← eff] at failed
      exact failed.answer rfl
    · have eff := fetchDeadlineEff_eq at_
      rw [if_neg fun both => by omega] at eff
      exact congrArg s.outcome eff
    · obtain ⟨shard, work⟩ := fetchNotice_facts at_ fetching live taken holds fields current rfl
      obtain ⟨cores, mem, _, _, _, _, versions, _⟩ := work
      exact ⟨_, rfl, shard, versions, cores, mem⟩
    · have eff := fetchDeadlineEff_eq at_
      rw [if_neg fun both => other both.1] at eff
      exact congrArg s.outcome eff
  · intro via p v s reached free
    have eff := serveEnableEff_ok reached free
    have shown : (s.pWr p 0xCA (v &&& 1#64)).pRd p 0xCA = v &&& 1#64 := (State.rd_wr ..).trans (if_pos rfl)
    have work : sameWork s (s.pWr p 0xCA (v &&& 1#64)) := sameWork_refl s
    exact ⟨_, congrArg s.outcome eff, shown, work⟩
  · intro p pkt s serves live taken
    refine ⟨fun holds room => ?_, fun no => ?_⟩
    · have facts := serveRequestReceive_joins serves live taken holds room rfl
      exact ⟨_, rfl, facts⟩
    · have facts := serveRequestReceive_refused serves live taken no rfl
      exact ⟨_, rfl, facts⟩
  · intro p s r rest serves queue idle
    have taken := Loads.setLoader s p { s.loader p with queue := rest }
    refine ⟨fun none_ o => ?_, fun i slot => ⟨fun large o => ?_, fun fits room o bad => ?_, fun fits room o good => ?_, fun fits full o => ?_⟩⟩
    · exact serveRequestProcess_answers idle taken (serveRequestProcessEff_unnamed serves queue idle none_ o)
    · have eff := serveRequestProcessEff_named serves queue idle slot o
      rw [if_pos large] at eff
      exact serveRequestProcess_answers idle taken eff
    · have eff := serveRequestProcessEff_named serves queue idle slot o
      rw [if_neg (Nat.not_lt.2 fits), if_neg (Nat.not_le.2 room), if_pos bad] at eff
      have met := Loads.memMeets (s.setLoader p { s.loader p with queue := rest }) p (((s.region p r.region).slot i).addr + r.offset) o
      rw [taken.loader] at met
      exact serveRequestProcess_answers idle (taken.trans met) eff
    · have eff := serveRequestProcessEff_named serves queue idle slot o
      rw [if_neg (Nat.not_lt.2 fits), if_neg (Nat.not_le.2 room), if_neg (by simp [good])] at eff
      exact serveRequestProcess_copies eff
    · have eff := serveRequestProcessEff_named serves queue idle slot o
      rw [if_neg (Nat.not_lt.2 fits), if_pos full] at eff
      exact congrArg s.outcome eff
  · intro via p v s reached finite unbound base delta small
    have eff := acornEntryWriteEff_stores reached finite unbound base delta small
    refine ⟨_, congrArg s.outcome eff, ?_, fun i other => ?_, rfl, sameWork_refl s⟩
    · exact (mget_mset ..).trans (if_pos rfl)
    · exact mget_mset_ne _ _ _ _ _ _ (by omega)

end Sys2Proof.Machine

end

section
/-! PROOFS. Conversions of codes (R30, R39 to R41), obligation O59. -/

namespace Sys2Proof.Machine

/-! ## Codes of the floating-point formats (R30, R39) -/

/-- A magnitude that stands on a format's grid: normal, or subnormal at the least exponent, and not beyond the largest. -/
structure FPar.OnGrid (f : FPar) (m : Nat) (e : Int) : Prop where
  wide : m < 2 ^ f.p
  low : f.qmin ≤ e
  sub : m < 2 ^ (f.p - 1) → e = f.qmin
  top : e ≤ f.maxQ
  last : e = f.maxQ → m ≤ f.maxM

/-- A format's shape: its largest significand is normal. -/
structure FPar.Sound (f : FPar) : Prop where
  some_ : 0 < f.p
  normal : 2 ^ (f.p - 1) ≤ f.maxM
  wide : f.maxM < 2 ^ f.p
  range : f.qmin ≤ f.maxQ

theorem roundAt_exact (rnd : Rnd) (neg : Bool) (m : Nat) {e q : Int} (le : q ≤ e) : roundAt rnd neg m e q = (shiftUp m e q, false) :=
  if_pos le

theorem shiftUp_self (m : Nat) (e : Int) : shiftUp m e e = m := by
  unfold shiftUp
  simp

variable {f : FPar} {m : Nat} {e : Int}

theorem FPar.Sound.pow (h : f.Sound) : 2 ^ f.p = 2 * 2 ^ (f.p - 1) := by
  rw [← Nat.pow_succ', Nat.succ_eq_add_one, Nat.sub_add_cancel h.some_]

theorem FPar.OnGrid.not_beyond (h : f.Sound) (g : f.OnGrid m e) : (Num.fin false f.maxM f.maxQ).lt (.fin false m e) = false := by
  have least : min f.maxQ e = e := min_eq_right g.top
  simp only [Num.lt, least, signedAt, Bool.false_eq_true, if_false, shiftUp_self, decide_eq_false_iff_not, not_lt, Nat.cast_le]
  unfold shiftUp
  rcases eq_or_lt_of_le g.top with same | below
  · rw [same]
    simpa using g.last same
  · obtain ⟨k, hk⟩ : ∃ k, (f.maxQ - e).toNat = k + 1 := ⟨(f.maxQ - e).toNat - 1, by omega⟩
    have double : 2 ^ f.p ≤ f.maxM * 2 := by
      rw [h.pow]
      have := h.normal
      omega
    rw [hk, Nat.pow_succ, Nat.mul_comm (2 ^ k) 2, ← Nat.mul_assoc]
    exact le_trans (le_of_lt g.wide) (le_trans double (Nat.le_mul_of_pos_right _ (Nat.two_pow_pos k)))

/-- A magnitude on the grid rounds to itself, exactly, in every mode. -/
theorem FPar.OnGrid.round (h : f.Sound) (g : f.OnGrid m e) (pos : m ≠ 0) (rnd : Rnd) (neg : Bool) :
    (f.round rnd neg m e).n = m ∧ (f.round rnd neg m e).q = e ∧ (f.round rnd neg m e).inexact = false ∧
      (f.round rnd neg m e).beyond = false := by
  have bits : Nat.log2 m < f.p := (Nat.log2_lt pos).2 g.wide
  have grid : max ((Nat.log2 m : Int) + e - ((f.p : Int) - 1)) f.qmin = e := by
    have low := g.low
    by_cases sub : m < 2 ^ (f.p - 1)
    · have := g.sub sub
      omega
    · have full : f.p - 1 ≤ Nat.log2 m := (Nat.le_log2 pos).2 (Nat.not_lt.1 sub)
      omega
  unfold FPar.round
  dsimp only
  rw [grid, roundAt_exact rnd neg m (le_refl e), shiftUp_self]
  exact ⟨rfl, rfl, rfl, g.not_beyond h⟩

theorem encodeFp_onGrid (h : f.Sound) (g : f.OnGrid m e) (pos : m ≠ 0) (fmt : Format) (rnd : Rnd) (ovf : Overflow) (neg : Bool) :
    encodeFp fmt f rnd ovf false (.fin neg m e) = (withSign f.width neg (f.magCode m e), 0#4) := by
  obtain ⟨n, q, exact_, inside⟩ := g.round h pos rnd neg
  unfold encodeFp
  dsimp only
  rw [if_neg pos, if_neg (by simp [inside]), if_neg (by simp), n, q, exact_, Bool.and_false]
  rfl

/-- The fields of a magnitude code lie on the grid, and give the code back. -/
theorem FPar.Sound.fields (h : f.Sound) {ef mf : Nat} (frac : mf < 2 ^ (f.p - 1))
    (finite : ef * 2 ^ (f.p - 1) + mf ≤ f.magCode f.maxM f.maxQ) :
    (ef = 0 → f.OnGrid mf f.qmin ∧ f.magCode mf f.qmin = mf) ∧
    (ef ≠ 0 → f.OnGrid (mf + 2 ^ (f.p - 1)) (f.qmin + ef - 1) ∧
      f.magCode (mf + 2 ^ (f.p - 1)) (f.qmin + ef - 1) = ef * 2 ^ (f.p - 1) + mf) := by
  obtain ⟨E, hE⟩ : ∃ E : Nat, (E : Int) = f.maxQ - f.qmin + 1 := ⟨(f.maxQ - f.qmin + 1).toNat, by have := h.range; omega⟩
  have top : f.magCode f.maxM f.maxQ = E * 2 ^ (f.p - 1) + (f.maxM - 2 ^ (f.p - 1)) := by
    unfold FPar.magCode
    rw [if_neg (Nat.not_lt.2 h.normal), ← hE, Int.toNat_natCast]
  have pow := h.pow
  have wide := h.wide
  have normal := h.normal
  rw [top] at finite
  have below : ef ≤ E := by
    by_contra above
    have := Nat.mul_le_mul_right (2 ^ (f.p - 1)) (Nat.not_le.1 above)
    rw [Nat.succ_mul] at this
    omega
  have last : ef = E → mf ≤ f.maxM - 2 ^ (f.p - 1) := by
    rintro rfl
    omega
  refine ⟨fun zero => ⟨⟨by omega, le_refl _, fun _ => rfl, h.range, fun _ => by omega⟩, if_pos frac⟩, fun some_ => ⟨⟨by omega, by omega,
    fun low => by omega, by omega, fun same => ?_⟩, ?_⟩⟩
  · have := last (by omega)
    omega
  · unfold FPar.magCode
    rw [if_neg (by omega), Nat.add_sub_cancel]
    congr 2
    omega

/-- A code with its sign bit is that of its sign and magnitude. -/
theorem withSign_fields {w c : Nat} (pos : 0 < w) (small : c < 2 ^ w) :
    withSign w (c / 2 ^ (w - 1) % 2 == 1) (c % 2 ^ (w - 1)) = BitVec.ofNat 64 c := by
  have pow : 2 ^ w = 2 ^ (w - 1) * 2 := by rw [← Nat.pow_succ, Nat.succ_eq_add_one, Nat.sub_add_cancel pos]
  have split_ := Nat.div_add_mod c (2 ^ (w - 1))
  have sign : c / 2 ^ (w - 1) < 2 := Nat.div_lt_of_lt_mul (pow ▸ small)
  unfold withSign
  generalize c / 2 ^ (w - 1) = b at split_ sign
  congr 1
  rcases Nat.lt_succ_iff_lt_or_eq.1 sign with low | rfl
  · obtain rfl : b = 0 := by omega
    simpa using split_
  · simpa using split_

/-- A finite code of a floating-point format encodes to itself. -/
theorem encodeFp_decodeFp {fmt : Format} (h : f.Sound) (pos : 0 < f.width) (finite : ∀ c, ∀ neg m e, decodeFp fmt f c = .fin neg m e → c % 2 ^ (f.width - 1) ≤ f.magCode f.maxM f.maxQ) {c : Nat}
    (small : c < 2 ^ f.width) {neg : Bool} (value : decodeFp fmt f c = .fin neg m e) (rnd : Rnd) (ovf : Overflow) :
    encodeFp fmt f rnd ovf false (.fin neg m e) = (BitVec.ofNat 64 c, 0#4) := by
  have top := finite c neg m e value
  have sign := withSign_fields pos small
  unfold decodeFp at value
  dsimp only at value
  split at value
  · split at value <;> cases value
  split at value
  · cases value
  have fields := Nat.div_add_mod' (c % 2 ^ (f.width - 1)) (2 ^ (f.p - 1))
  have frac : c % 2 ^ (f.width - 1) % 2 ^ (f.p - 1) < 2 ^ (f.p - 1) := Nat.mod_lt _ (Nat.two_pow_pos _)
  rw [← fields] at top sign
  generalize c % 2 ^ (f.width - 1) / 2 ^ (f.p - 1) = ef at value top sign
  generalize c % 2 ^ (f.width - 1) % 2 ^ (f.p - 1) = mf at value frac top sign
  obtain ⟨low, high⟩ := h.fields frac top
  split at value
  next zero =>
    obtain ⟨grid, code⟩ := low zero
    cases value
    rw [zero, Nat.zero_mul, Nat.zero_add] at sign
    by_cases none_ : m = 0
    · subst none_
      rw [← sign, encodeFp]
      exact if_pos rfl
    · rw [encodeFp_onGrid h grid none_, code, sign]
  next some_ =>
    obtain ⟨grid, code⟩ := high some_
    cases value
    have pos' : mf + 2 ^ (f.p - 1) ≠ 0 := by
      have := Nat.two_pow_pos (f.p - 1)
      omega
    rw [encodeFp_onGrid h grid pos', code, sign]

/-- Where a format has infinities its largest finite code is the one before. -/
theorem decodeFp_finite_of_inf {fmt : Format} (inf : fmtHasInf fmt = true) (next : f.magCode f.maxM f.maxQ + 1 = infMag f) (c : Nat)
    (neg : Bool) (m : Nat) (e : Int) (value : decodeFp fmt f c = .fin neg m e) : c % 2 ^ (f.width - 1) ≤ f.magCode f.maxM f.maxQ := by
  by_contra above
  have special : infMag f ≤ c % 2 ^ (f.width - 1) := by omega
  unfold decodeFp at value
  dsimp only at value
  rw [inf, decide_eq_true special, if_pos (by decide)] at value
  split at value <;> cases value

theorem decodeFp_finite_e4m3 (c : Nat) (neg : Bool) (m : Nat) (e : Int) (value : decodeFp .e4m3 ⟨4, -9, 14, 5, 8⟩ c = .fin neg m e) :
    c % 2 ^ 7 ≤ (⟨4, -9, 14, 5, 8⟩ : FPar).magCode 14 5 := by
  have top : (⟨4, -9, 14, 5, 8⟩ : FPar).magCode 14 5 = 126 := by decide
  have notNan : c % 2 ^ 7 ≠ 0x7F := by
    intro nan
    unfold decodeFp at value
    dsimp only at value
    rw [if_neg (by simp [fmtHasInf]), if_pos ⟨rfl, nan⟩] at value
    cases value
  omega

/-- The integer codes: exact in range, and saturated with overflow outside. -/
theorem encodeInt8_ofInt (rnd : Rnd) (i : Int) : encodeInt8 rnd (Num.ofInt i) =
    (BitVec.ofInt 64 (max (-128) (min 127 i) % 256), if -128 ≤ i ∧ i ≤ 127 then 0#4 else flOF ||| flNX) := by
  unfold encodeInt8 Num.ofInt
  dsimp only
  rw [roundAt_exact rnd _ _ (le_refl 0), shiftUp_self]
  dsimp only
  by_cases neg : i < 0
  · rw [decide_eq_true neg, if_pos rfl, if_pos rfl, if_pos rfl]
    by_cases low : 128 < i.natAbs
    · have clamp : max (-128) (min 127 i) = -128 := by omega
      rw [if_pos low, if_neg (by omega), clamp]
      rfl
    · have clamp : max (-128) (min 127 i) = i := by omega
      have code : i % 256 = (((256 - i.natAbs) % 256 : Nat) : Int) := by omega
      rw [if_neg low, if_pos (by omega), clamp, code, BitVec.ofInt_natCast]
      rfl
  · rw [decide_eq_false neg]
    simp only [Bool.false_eq_true, if_false]
    by_cases high : 127 < i.natAbs
    · have clamp : max (-128) (min 127 i) = 127 := by omega
      rw [if_pos high, if_neg (by omega), clamp]
      rfl
    · have clamp : max (-128) (min 127 i) = i := by omega
      have code : i % 256 = (i.natAbs : Int) := by omega
      rw [if_neg high, if_pos (by omega), clamp, code, BitVec.ofInt_natCast]
      rfl

/-- A format's codes decode and encode through its parameters. -/
theorem encode_decode_of {fmt : Format} (dec : ∀ code, decode fmt false code = decodeFp fmt f code.toNat)
    (enc : ∀ rnd ovf v, encode fmt rnd ovf false v = encodeFp fmt f rnd (ovfOf fmt ovf) false v) (h : f.Sound) (pos : 0 < f.width)
    (small : f.width ≤ 16) (finite : ∀ c, ∀ neg m e, decodeFp fmt f c = .fin neg m e →
      c % 2 ^ (f.width - 1) ≤ f.magCode f.maxM f.maxQ) {c : Nat} (inside : c < 2 ^ f.width) (rnd : Rnd) (ovf : Overflow) {neg : Bool}
    (value : decode fmt false (BitVec.ofNat 64 c) = .fin neg m e) : encode fmt rnd ovf false (.fin neg m e) = (BitVec.ofNat 64 c, 0#4) := by
  have low : c < 2 ^ 64 := lt_of_lt_of_le inside (Nat.pow_le_pow_right (by decide) (by omega))
  rw [dec, BitVec.toNat_ofNat, Nat.mod_eq_of_lt low] at value
  rw [enc]
  exact encodeFp_decodeFp h pos finite inside value rnd _

theorem decode_fp {fmt : Format} (known : fmt = .e4m3 ∨ fmt = .e5m2 ∨ fmt = .e2m1 ∨ fmt = .bf16 ∨ fmt = .fp16) (par : fpar fmt = some f)
    (code : Word) : decode fmt false code = decodeFp fmt f code.toNat := by
  rcases known with rfl | rfl | rfl | rfl | rfl
  all_goals
    cases par
    unfold decode fpar
    dsimp only
    split
    next value => exact value.symm
    · rfl

/-- Settles O59: a finite code lies on its format's grid, where rounding is exact; integers by the bounds of INT8. -/
theorem numbersConvert : Obligations.NumbersConvert := by
  unfold Obligations.NumbersConvert
  refine ⟨fun fmt known c rnd ovf inside neg m e value => ?_, fun i rnd ovf ftz => encodeInt8_ofInt rnd i⟩
  have dec (f : FPar) (par : fpar fmt = some f) (code : Word) := decode_fp known par code
  rcases known with rfl | rfl | rfl | rfl | rfl
  · exact encode_decode_of (dec _ rfl) (fun _ _ _ => rfl) ⟨by decide, by decide, by decide, by decide⟩ (by decide)
      (by decide) decodeFp_finite_e4m3 inside rnd ovf value
  · exact encode_decode_of (dec _ rfl) (fun _ _ _ => rfl) ⟨by decide, by decide, by decide, by decide⟩ (by decide)
      (by decide) (decodeFp_finite_of_inf rfl (by decide)) inside rnd ovf value
  · exact encode_decode_of (dec _ rfl) (fun _ _ _ => rfl) ⟨by decide, by decide, by decide, by decide⟩ (by decide)
      (by decide) (fun c _ _ _ _ => by
        have top : (⟨2, -1, 3, 1, 4⟩ : FPar).magCode 3 1 = 7 := by decide
        dsimp only
        omega) inside rnd ovf value
  · exact encode_decode_of (dec _ rfl) (fun _ _ _ => rfl) ⟨by decide, by decide, by decide, by decide⟩ (by decide)
      (by decide) (decodeFp_finite_of_inf rfl (by decide)) inside rnd ovf value
  · exact encode_decode_of (dec _ rfl) (fun _ _ _ => rfl) ⟨by decide, by decide, by decide, by decide⟩ (by decide)
      (by decide) (decodeFp_finite_of_inf rfl (by decide)) inside rnd ovf value

end Sys2Proof.Machine

end
